-- ==== Sys2Proof/Word.lean ====
section
/-! DEFINITION. The storage units of the TF1810 (R6) and the fraction arithmetic that several chapters share (R10, R109). -/

namespace Sys2Proof

/-- R6: a nonet, 9 bits. -/
abbrev Nonet := BitVec 9
/-- R6: a word, 18 bits. -/
abbrev Word := BitVec 18
/-- R6: a double word, 36 bits. -/
abbrev DWord := BitVec 36
/-- R6: a line, 72 bits. -/
abbrev Line := BitVec 72
/-- R7: a nonet address, 27 bits. -/
abbrev Addr := BitVec 27
/-- An octet of the link, the SMBus and the published cryptographic standards. -/
abbrev Octet := BitVec 8

/-- R109: the nearest integer to `num / den`, ties away from zero, for `den > 0`. -/
def roundDiv (num : Int) (den : Nat) : Int :=
  if num ≥ 0 then (2 * num + den) / (2 * den) else -((2 * (-num) + den) / (2 * den))

/-- R10, R109: limits an integer to the signed 18-bit range. -/
def sat18 (v : Int) : Int := max (-131072) (min v 131071)

/-- Limits an integer to a signed range of `w` bits. -/
def satBits (w : Nat) (v : Int) : Int := max (-(2 ^ (w - 1) : Nat)) (min v ((2 ^ (w - 1) : Nat) - 1))

/-- The 18-bit word of an integer, taken modulo 2^18. -/
def wordOf (v : Int) : Word := BitVec.ofInt 18 v

end Sys2Proof
end

