-- ==== Sys2Proof/Syntax.lean ====
section
/-! DEFINITION. The commands of the TF1810: one constructor for each row of the table of operations and events, with the
row's operands. `t` is the fine tick (1/64 ns, R4) at which a command takes effect; unit numbers stand as their index types. -/

namespace Sys2Proof

/-- Who performs a register access: a core, the link for a core of a remote node (R285, R363), or the debug port (R427). -/
inductive Req where
  | core (c : Fin 16)
  | link (node : BitVec 12) (core : Fin 16)
  | debug
  deriving DecidableEq, Repr

/-- Why a core's fetch faults, apart from the checks of R249: an uncorrectable error or a bank that the core may not read (R254), or
an opcode that R203 leaves unassigned. `none`: it does not, and a trap that the core holds is entered. -/
inductive FetchFault where
  | none
  | memory
  | bank
  | illegal (op : BitVec 8)
  deriving DecidableEq, Repr


/-- R350: a frame of the Velub link: the fields of its header line, its payload words and its tag (R354). The CRC is not part of it: a
frame whose CRC fails is reported as such. -/
structure Frame where
  ty : BitVec 5
  nw : BitVec 6
  dst : BitVec 12
  src : BitVec 12
  hops : BitVec 6
  seq : BitVec 8
  core : BitVec 4
  tag : BitVec 8
  cls : BitVec 2
  res : BitVec 9
  pay : List Word
  mac : BitVec 64
  deriving DecidableEq, Repr

/-- The commands and events of the device, in the order of the table. -/
inductive Instr where
  /-- R11: A store to a register that has no row of its own stores or ignores each field by its kind, directly or through the set or clear alias. -/
  | registerWrite (t : Nat) (q : Req) (k : Fin 8) (a : Addr) (dbl : Bool) (v : DWord)
  /-- R11: A read of a register with an RC field returns the value and then clears the field, and a hardware set in the same cycle wins. -/
  | rcFieldRead (t : Nat) (q : Req) (k : Fin 8) (a : Addr) (dbl : Bool)
  /-- R43: Setting ICH_CTL.en powers the modulator of a channel and starts its 2,000 ns settling. -/
  | ichEnable (t : Nat) (n : Fin 128) (v : Word)
  /-- R43: Clearing ICH_CTL.en disarms the channel, powers the modulator down and then applies the configuration the write carries. -/
  | ichDisable (t : Nat) (n : Fin 128) (v : Word)
  /-- R43: 2,000 ns after enable, or after a sleep exit, ICH_STAT.ready sets and the channel starts to accept triggers. -/
  | ichReady (t : Nat) (n : Fin 128)
  /-- R44: A write that sets ICH_CTL.arm is accepted or refused with cfgerr, as the readiness, FIXED window and trigger checks decide. -/
  | ichArm (t : Nat) (n : Fin 128) (v : Word)
  /-- R44: Clearing ICH_CTL.arm discards the open window and every pending edge instant, and stops any probe current. -/
  | ichDisarm (t : Nat) (n : Fin 128) (v : Word)
  /-- R41: A counter-unit or event-channel trigger reaches an armed channel and is queued as an edge instant, or dropped or merged and counted in ICH_MISSCNT. -/
  | ichTrigger (t : Nat) (n : Fin 128)
  /-- R39: At an edge instant the residue is read, and the channel closes the open window and opens the next one, or closes a FIXED window. -/
  | windowEdge (t : Nat) (n : Fin 128) (d : Int) (r : BitVec 7)
  /-- R40: A FIXED window opens ICH_WLEN fine ticks before its edge instant, and the residue is read. -/
  | fixedWindowOpen (t : Nat) (n : Fin 128) (r : BitVec 7)
  /-- R36: A CONTIGUOUS window that reaches its maximum length is closed by the channel with ICH_RSTAT.forced, and the next window opens. -/
  | forcedClose (t : Nat) (n : Fin 128) (d : Int) (r : BitVec 7)
  /-- R48: 6 ns after a close, normalization completes and the channel updates its result registers in one cycle, raises window complete and fires its interrupt. -/
  | windowResult (t : Nat) (n : Fin 128)
  /-- R51: The 64th consecutive decision of one sign sets ovldnow and ovld, and raises the overload event and interrupt. -/
  | overloadSet (t : Nat) (n : Fin 128) (neg : Bool)
  /-- R51: 64 ns after the first decision of the opposite sign, ovldnow clears. -/
  | overloadClear (t : Nat) (n : Fin 128)
  /-- R59: 50 µs after ICH_CALCTL.refen is set, refready sets. -/
  | calrefReady (t : Nat)
  /-- R64: The comparator input crosses a threshold, so hinow or lonow changes, and the trip request, events and sticky flags follow under blanking. -/
  | thresholdCrossing (t : Nat) (n : Fin 128) (v : Int) (posH posL : Nat)
  /-- R65: A write of WC_THH or WC_THL starts a monotonic move of the threshold that settles within 100 ns. -/
  | thresholdWrite (t : Nat) (n : Fin 128) (high : Bool) (v : Word)
  /-- R67: Setting WC_CTL.en powers the comparator and starts its 1 µs settling. -/
  | wcEnable (t : Nat) (n : Fin 128) (v : Word)
  /-- R67: Clearing WC_CTL.en drops hinow, lonow, the trip request and the events at once. -/
  | wcDisable (t : Nat) (n : Fin 128) (v : Word)
  /-- R67: 1 µs after enable or wake, WC_STAT.ready sets, and an input already beyond a threshold asserts as at a crossing. -/
  | wcReady (t : Nat) (n : Fin 128)
  /-- R69: The first write of WC_GUARD.frz after reset freezes trip routing, blanking and en until device reset. -/
  | routingFreeze (t : Nat) (n : Fin 128) (v : Word)
  /-- R72: Blanking lifts at its timer edge, and a condition still asserted then is latched in its zones and raises its event. -/
  | blankingEnd (t : Nat) (n : Fin 128)
  /-- R76: A write of WC_CTL.chk selects the comparator's self-check input and holds its trip request, events and flags. -/
  | selfCheck (t : Nat) (n : Fin 128) (v : Word)
  /-- R76: 20 ns after chk returns to 0, chkbusy clears and the comparator acts on its outputs again. -/
  | selfCheckEnd (t : Nat) (n : Fin 128)
  /-- R90: A write that sets BERTH_CTL.arm goes to the admission unit and sets admpend. -/
  | berthArmRequest (t : Nat) (b : Fin 1024) (v : Word)
  /-- R91: The admission unit decides a waiting arming request in order, accepting it or refusing it with a reason code in ENG_ADMERR. -/
  | admissionDecision (t : Nat)
  /-- R89: A write that clears BERTH_CTL.arm discards the pending run and takes effect at the end of any executing run. -/
  | berthDisarm (t : Nat) (b : Fin 1024) (v : Word)
  /-- R81: A trigger reaches an armed berth and creates a pending run, skipping an earlier pending run or setting late. -/
  | berthTrigger (t : Nat) (b : Fin 1024)
  /-- R80: A write of a berth number to ENG_SWTRG triggers that armed berth. -/
  | softwareTrigger (t : Nat) (v : Word)
  /-- R86: A free crane selects the ready run of lowest priority, then lowest berth number, and starts its first instruction. -/
  | runStart (t : Nat) (c : Fin 8)
  /-- R83: The last instruction of a run completes, and the done event, chained triggers, provisional writes and group aborts follow. -/
  | runEnd (c : Fin 8)
  /-- R31: A pending run reaches its deadline unstarted and is skipped, with BERTH_OVR, the overrun event and any group abort. -/
  | runSkip (t : Nat) (b : Fin 1024)
  /-- R79: Setting ENG_CTL.en lets armed berths take triggers and run. -/
  | engineEnable (t : Nat) (v : Word)
  /-- R84: Clearing ENG_CTL.en lets executing runs finish and discards every pending run. -/
  | engineDisable (t : Nat) (v : Word)
  /-- R88: At the end of each 10,000-cycle window, CR_UTIL.busy takes the crane's busy cycle count. -/
  | utilisationWindow (t : Nat) (c : Fin 8)
  /-- R111: The engine NOP, or any reserved encoding, takes its cycle and changes nothing. -/
  | engNop (c : Fin 8)
  /-- R113: Loads an immediate word into a working word. -/
  | ldi (c : Fin 8) (d : BitVec 2) (imm : Word)
  /-- R113: Loads an operand into a working word. -/
  | ldw (c : Fin 8) (d : BitVec 2) (a : BitVec 6)
  /-- R113: Loads a state word by absolute index into a working word. -/
  | lda (c : Fin 8) (d : BitVec 2) (idx : BitVec 14)
  /-- R113: Loads the normalized sample of the own or a named channel into a working word. -/
  | lds (c : Fin 8) (d : BitVec 2) (own : Bool) (ch : BitVec 7)
  /-- R114: Writes the saturated difference of two operands to a working word. -/
  | err (c : Fin 8) (d : BitVec 2) (a b : BitVec 6)
  /-- R114: Writes the saturated sum of two operands to a working word. -/
  | errAdd (c : Fin 8) (d : BitVec 2) (a b : BitVec 6)
  /-- R114: Sets ACC to the exact product of two operands. -/
  | macSet (c : Fin 8) (a b : BitVec 6)
  /-- R114: Adds the exact product of two operands to ACC. -/
  | macAdd (c : Fin 8) (a b : BitVec 6)
  /-- R114: Subtracts the exact product of two operands from ACC. -/
  | macSub (c : Fin 8) (a b : BitVec 6)
  /-- R114: Adds an operand at unit weight to ACC. -/
  | macAddw (c : Fin 8) (a : BitVec 6)
  /-- R115: Sets ACC to a product and shifts own word a into word a + 1. -/
  | macdSet (c : Fin 8) (a b : BitVec 6)
  /-- R115: Adds a product to ACC and shifts own word a into word a + 1. -/
  | macdAdd (c : Fin 8) (a b : BitVec 6)
  /-- R115: Subtracts a product from ACC and shifts own word a into word a + 1. -/
  | macdSub (c : Fin 8) (a b : BitVec 6)
  /-- R114: Writes ACC, scaled, rounded and saturated, to a working word. -/
  | rnd (c : Fin 8) (d : BitVec 2) (sh : BitVec 4)
  /-- R114: Clamps an operand between two limits into a working word. -/
  | clp (c : Fin 8) (d : BitVec 2) (a lo hi : BitVec 6)
  /-- R114: Writes the minimum of two operands to a working word. -/
  | mnxMin (c : Fin 8) (d : BitVec 2) (a b : BitVec 6)
  /-- R114: Writes the maximum of two operands to a working word. -/
  | mnxMax (c : Fin 8) (d : BitVec 2) (a b : BitVec 6)
  /-- R116: Writes the rounded quotient of an operand by a divisor or channel sample to a working word. -/
  | ffw (c : Fin 8) (d : BitVec 2) (a b : BitVec 6) (bsel : Bool) (ch : BitVec 7)
  /-- R117: Adds to an own integrator word with clamping and writes the result directly or provisionally. -/
  | int (c : Fin 8) (d : BitVec 2) (a lo hi : BitVec 6) (w : BitVec 4)
  /-- R119: Re-runs the region moves with an operand in place of the scheduling variable. -/
  | gselSchedule (c : Fin 8) (a : BitVec 6)
  /-- R119: Sets the gain region to a fixed value, bounded by the number of regions. -/
  | gselFixed (c : Fin 8) (g : BitVec 2)
  /-- R120: Offers a candidate to a live competition group, returning the winner to the closer, or moves the operand. -/
  | sel (c : Fin 8) (d : BitVec 2) (a : BitVec 6)
  /-- R121: Computes a compare value in fine ticks from the duty and writes it to a compare register of a counter unit. -/
  | duty (c : Fin 8) (cmp : BitVec 2) (a b hi bias : BitVec 6) (ps : Bool) (uo : BitVec 3)
  /-- R123: Writes an operand to an own state word. -/
  | stw (c : Fin 8) (a : BitVec 6) (w : BitVec 4)
  /-- R127: Setting CU_CTL.run starts the counter from CU_CNT at the next timer edge, or is refused when the count is out of range. -/
  | cuStart (t : Nat) (u : Fin 128) (v : Word)
  /-- R127: Clearing CU_CTL.run stops the counter at the next timer edge, clearing R and making both outputs inactive. -/
  | cuStop (t : Nat) (u : Fin 128) (v : Word)
  /-- R132: A write of CU_CTL.oen drives the unit's pins, or sets them to high impedance, and after a power failure applies the power-fail response. -/
  | outputEnable (t : Nat) (u : Fin 128) (v : Word)
  /-- R134: At a period boundary, pending shadows and tide loads enter the active registers, carry updates and a tripped unit may resume. -/
  | periodBoundary (t : Nat) (u : Fin 128)
  /-- R125: A ONESHOT count reaching P clears run, leaves the count at 0 and raises the period event. -/
  | oneshotEnd (t : Nat) (u : Fin 128)
  /-- R125: A TIMER counter wraps to 0 and sets CU_FLAG.ovf. -/
  | timerWrap (t : Nat) (u : Fin 128)
  /-- R126: A compare value matches the period time, so the compare event is raised and its flag sets. -/
  | compareMatch (t : Nat) (u : Fin 128) (c : Fin 4) (up : Bool)
  /-- R135: 2 ns ahead of an edge, the unit places it with the values in force, after which no write can move it. -/
  | edgePlacement (t : Nat) (u : Fin 128) (k : Fin 2)
  /-- R130: R sets or clears, or a dead time expires, so output A or B changes level and raises its edge event. -/
  | outputEdge (t : Nat) (u : Fin 128)
  /-- R134: A write under the PERIOD rule goes to the shadow and sets its CU_PEND bit. -/
  | periodLoadWrite (t : Nat) (u : Fin 128) (r : Fin 8) (v : DWord)
  /-- R136: A write under the IMMEDIATE rule moves the governed edge, moves it late with CU_STAT.late, or falls back to the shadow. -/
  | immediateWrite (t : Nat) (u : Fin 128) (c : Fin 4) (v : DWord)
  /-- R128: A read of CU_CNT while running returns all ones and sets readrun, and while stopped returns the count. -/
  | cuCntRead (t : Nat) (u : Fin 128)
  /-- R142: A channel event with xev = 1 starts a waiting gated slave or resets its count. -/
  | syncEvent (t : Nat) (u : Fin 128)
  /-- R144: An event at an enabled capture input records the period time and, optionally, the timebase in its queue, or overflows. -/
  | capture (t : Nat) (u : Fin 128) (k : Fin 2)
  /-- R145: A double-word read of CU_CAPn returns and removes the oldest entry and loads its stamp. -/
  | captureRead (t : Nat) (u : Fin 128) (k : Fin 2)
  /-- R146: A write of CU_CAPSRCn.swcap records an entry as if an event had arrived. -/
  | softwareCapture (t : Nat) (u : Fin 128) (k : Fin 2) (v : Word)
  /-- R147: A zone source asserts for 1 ns or more, the zone latches, records its first source and drives its units to their trip response. -/
  | tripLatch (t : Nat) (z : Fin 16) (code : BitVec 8)
  /-- R147: A write of TZ_LINK.force latches the zone. -/
  | tripForce (t : Nat) (z : Fin 16) (v : Word)
  /-- R152: A clear-alias write of TZ_STAT.lat unlatches the zone, which latches again if a source is still asserted. -/
  | tripUnlatch (t : Nat) (z : Fin 16)
  /-- R156: A source occurrence raises an enabled channel's level for 2 ns or merges with the last one, and the channel forks its event to every tap. -/
  | eventOccurrence (t : Nat) (ch : Fin 512)
  /-- R155: 2 ns after a pulse occurrence, the channel level falls. -/
  | eventPulseEnd (t : Nat) (ch : Fin 512)
  /-- R156: A write of EV_CTL.en enables the channel, or is refused with cfgerr for a reserved source. -/
  | channelEnable (t : Nat) (q : Req) (ch : Fin 512) (v : Word)
  /-- R155: A write of EV_SW.pulse makes one pulse occurrence on an unsealed channel. -/
  | softwareOccurrence (t : Nat) (q : Req) (ch : Fin 512) (v : Word)
  /-- R159: 10 ns after a tap is taken or released, the new tap ranking takes effect. -/
  | tapRerank (t : Nat) (ch : Fin 512)
  /-- R161: A change of a logic cell input level changes the look-up value, which passes the filter and the flip-flop stage to the output. -/
  | cellInputChange (t : Nat) (n : Fin 64) (i : Fin 4) (lvl : Bool)
  /-- R162: An input held for n ns passes the pulse-width filter. -/
  | pulseWidthPass (t : Nat) (n : Fin 64)
  /-- R162: At the end of n coarse ticks the debounce hold ends, and a differing input passes and starts a new hold. -/
  | debounceHoldEnd (t : Nat) (n : Fin 64)
  /-- R163: A write of LC_CTL.rearm clears the LATCH flip-flop. -/
  | cellRearm (t : Nat) (q : Req) (n : Fin 64) (v : Word)
  /-- R164: A write of LC_CTL.en clears the flip-flop and presets the filter, or is refused with cfgerr. -/
  | cellEnable (t : Nat) (q : Req) (n : Fin 64) (v : Word)
  /-- R166: A write of EV_OWN or LC_OWN claims, hands over or releases a channel or cell, or is refused. -/
  | ownerWrite (t : Nat) (q : Req) (cell : Bool) (n : Fin 512) (v : Word)
  /-- R167: The owner's set-alias write of seal freezes the channel or cell until device reset. -/
  | seal (t : Nat) (q : Req) (cell : Bool) (n : Fin 512) (v : Word)
  /-- R174: Setting SC_CTL.en starts the sequence table, or is refused with cfgerr on a bad entry. -/
  | surveyEnable (t : Nat) (c : Fin 4) (v : Word)
  /-- R174: Clearing SC_CTL.en ends the current window without a result. -/
  | surveyDisable (t : Nat) (c : Fin 4) (v : Word)
  /-- R172: After the pre-delay, and at a mains boundary where required, the entry's first window opens. -/
  | surveyWindowOpen (t : Nat) (c : Fin 4)
  /-- R172: A survey window closes, and the next window opens or the next entry begins. -/
  | surveyWindowClose (t : Nat) (c : Fin 4) (q : Int)
  /-- R173: 2 µs after a close, SV_RES updates and the burn-out test is made. -/
  | surveyResult (t : Nat) (c : Fin 4)
  /-- R178: A hiset edge from the tracked comparator is ignored as a glitch, becomes a mains boundary, or ends fallback. -/
  | mainsEdge (t : Nat)
  /-- R178: With no edge by last + pmax, a boundary is set there and fallback begins. -/
  | mainsFallback (t : Nat)
  /-- R178: During fallback, or with tracking off, a fixed 20.000 ms boundary occurs. -/
  | fallbackBoundary (t : Nat)
  /-- R184: At each tick boundary, every enabled manifest closes the tick and then takes the interval, tariff, freeze, view and slice steps in order. -/
  | meteringTick (t : Nat) (q : List (Nat × Int))
  /-- R186: A write of MF_CTL.take sets vpend, and the next tick boundary fills the view registers. -/
  | viewRequest (t : Nat) (k : Fin 32) (v : Word)
  /-- R186: A write of MF_CTL.load while disabled copies the view registers into the live state. -/
  | viewLoad (t : Nat) (k : Fin 32) (v : Word)
  /-- R183: Setting MF_CTL.tarm arms a tariff change for the MF_TCHG second. -/
  | tariffArm (t : Nat) (k : Fin 32) (v : Word)
  /-- R189: When the journal period elapses, a full or delta record is written from the slice, or skipped for lack of room. -/
  | periodicRecord (t : Nat)
  /-- R189: After a tariff change or DMAX update, a full record is written from the next slice once room exists. -/
  | forcedFullRecord (t : Nat)
  /-- R189: Once flash is free after a power failure, the delta power-fail record is programmed from the latest slice. -/
  | powerFailRecord (t : Nat)
  /-- R205: Word add modulo 2^18, with an optional tandem move. -/
  | add (t : Nat) (c : Fin 16) (x : BitVec 28)
  /-- R205: Word subtract modulo 2^18. -/
  | sub (t : Nat) (c : Fin 16) (x : BitVec 28)
  /-- R205: Word add that writes the carry to CX. -/
  | addW (t : Nat) (c : Fin 16) (x : BitVec 28)
  /-- R205: Word subtract that writes the borrow to CX. -/
  | subW (t : Nat) (c : Fin 16) (x : BitVec 28)
  /-- R205: Word add with CX in and out. -/
  | addc (t : Nat) (c : Fin 16) (x : BitVec 28)
  /-- R205: Word subtract with CX in and out. -/
  | subc (t : Nat) (c : Fin 16) (x : BitVec 28)
  /-- R205: Signed saturating word add. -/
  | adds (t : Nat) (c : Fin 16) (x : BitVec 28)
  /-- R205: Signed saturating word subtract. -/
  | subs (t : Nat) (c : Fin 16) (x : BitVec 28)
  /-- R205: Bitwise AND of two words. -/
  | and (t : Nat) (c : Fin 16) (x : BitVec 28)
  /-- R205: Bitwise OR of two words. -/
  | or (t : Nat) (c : Fin 16) (x : BitVec 28)
  /-- R205: Bitwise XOR of two words. -/
  | xor (t : Nat) (c : Fin 16) (x : BitVec 28)
  /-- R205: AND with the complement of rb. -/
  | andn (t : Nat) (c : Fin 16) (x : BitVec 28)
  /-- R205: Logical left shift of a word. -/
  | sll (t : Nat) (c : Fin 16) (x : BitVec 28)
  /-- R205: Logical right shift of a word. -/
  | srl (t : Nat) (c : Fin 16) (x : BitVec 28)
  /-- R205: Arithmetic right shift of a word. -/
  | sra (t : Nat) (c : Fin 16) (x : BitVec 28)
  /-- R205: Signed set-less-than. -/
  | slt (t : Nat) (c : Fin 16) (x : BitVec 28)
  /-- R205: Unsigned set-less-than. -/
  | sltu (t : Nat) (c : Fin 16) (x : BitVec 28)
  /-- R205: Signed minimum. -/
  | min (t : Nat) (c : Fin 16) (x : BitVec 28)
  /-- R205: Signed maximum. -/
  | max (t : Nat) (c : Fin 16) (x : BitVec 28)
  /-- R205: Unsigned minimum. -/
  | minu (t : Nat) (c : Fin 16) (x : BitVec 28)
  /-- R205: Unsigned maximum. -/
  | maxu (t : Nat) (c : Fin 16) (x : BitVec 28)
  /-- R205: Counts the leading sign bits of a word. -/
  | cls (t : Nat) (c : Fin 16) (x : BitVec 28)
  /-- R207: Pair add modulo 2^36. -/
  | addD (t : Nat) (c : Fin 16) (x : BitVec 28)
  /-- R207: Pair subtract modulo 2^36. -/
  | subD (t : Nat) (c : Fin 16) (x : BitVec 28)
  /-- R207: Bitwise AND of pairs. -/
  | andD (t : Nat) (c : Fin 16) (x : BitVec 28)
  /-- R207: Bitwise OR of pairs. -/
  | orD (t : Nat) (c : Fin 16) (x : BitVec 28)
  /-- R207: Bitwise XOR of pairs. -/
  | xorD (t : Nat) (c : Fin 16) (x : BitVec 28)
  /-- R207: Logical left shift of a pair. -/
  | sllD (t : Nat) (c : Fin 16) (x : BitVec 28)
  /-- R207: Logical right shift of a pair. -/
  | srlD (t : Nat) (c : Fin 16) (x : BitVec 28)
  /-- R207: Arithmetic right shift of a pair. -/
  | sraD (t : Nat) (c : Fin 16) (x : BitVec 28)
  /-- R207: Signed pair compare into a pair. -/
  | sltD (t : Nat) (c : Fin 16) (x : BitVec 28)
  /-- R207: Unsigned pair compare into a pair. -/
  | sltuD (t : Nat) (c : Fin 16) (x : BitVec 28)
  /-- R207: Pair move. -/
  | movD (t : Nat) (c : Fin 16) (x : BitVec 28)
  /-- R208: Word add of an immediate. -/
  | addi (t : Nat) (c : Fin 16) (x : BitVec 28)
  /-- R208: AND with an immediate. -/
  | andi (t : Nat) (c : Fin 16) (x : BitVec 28)
  /-- R208: OR with an immediate. -/
  | ori (t : Nat) (c : Fin 16) (x : BitVec 28)
  /-- R208: XOR with an immediate. -/
  | xori (t : Nat) (c : Fin 16) (x : BitVec 28)
  /-- R208: Logical left shift by an immediate. -/
  | slli (t : Nat) (c : Fin 16) (x : BitVec 28)
  /-- R208: Logical right shift by an immediate. -/
  | srli (t : Nat) (c : Fin 16) (x : BitVec 28)
  /-- R208: Arithmetic right shift by an immediate. -/
  | srai (t : Nat) (c : Fin 16) (x : BitVec 28)
  /-- R208: Signed compare with an immediate. -/
  | slti (t : Nat) (c : Fin 16) (x : BitVec 28)
  /-- R208: Unsigned compare with an immediate. -/
  | sltui (t : Nat) (c : Fin 16) (x : BitVec 28)
  /-- R208: Pair add of a sign-extended immediate. -/
  | addiD (t : Nat) (c : Fin 16) (x : BitVec 28)
  /-- R209: Signed multiply into PH:PL, effective one instruction late. -/
  | mulS (t : Nat) (c : Fin 16) (x : BitVec 28)
  /-- R209: Unsigned multiply into PH:PL. -/
  | mulU (t : Nat) (c : Fin 16) (x : BitVec 28)
  /-- R209: Signed multiply, added into PA. -/
  | macS (t : Nat) (c : Fin 16) (x : BitVec 28)
  /-- R209: Unsigned multiply, added into PA. -/
  | macU (t : Nat) (c : Fin 16) (x : BitVec 28)
  /-- R209: Signed multiply, subtracted from PA. -/
  | mscS (t : Nat) (c : Fin 16) (x : BitVec 28)
  /-- R209: Unsigned multiply, subtracted from PA. -/
  | mscU (t : Nat) (c : Fin 16) (x : BitVec 28)
  /-- R209: Writes PA, rounded and saturated, to a word register. -/
  | par (t : Nat) (c : Fin 16) (x : BitVec 28)
  /-- R209: Clears PA. -/
  | paz (t : Nat) (c : Fin 16) (x : BitVec 28)
  /-- R212: Signed 18-bit division in 6 cycles, with defined edge results. -/
  | divS (t : Nat) (c : Fin 16) (x : BitVec 28)
  /-- R212: Unsigned 18-bit division in 6 cycles. -/
  | divU (t : Nat) (c : Fin 16) (x : BitVec 28)
  /-- R212: Signed 36-by-18-bit division in 10 cycles. -/
  | divDs (t : Nat) (c : Fin 16) (x : BitVec 28)
  /-- R212: Unsigned 36-by-18-bit division in 10 cycles. -/
  | divDu (t : Nat) (c : Fin 16) (x : BitVec 28)
  /-- R214: Branch if the two registers are equal. -/
  | beq (t : Nat) (c : Fin 16) (x : BitVec 28)
  /-- R214: Branch if the two registers differ. -/
  | bne (t : Nat) (c : Fin 16) (x : BitVec 28)
  /-- R214: Branch if ra is less than rb, signed. -/
  | blt (t : Nat) (c : Fin 16) (x : BitVec 28)
  /-- R214: Branch if ra is at least rb, signed. -/
  | bge (t : Nat) (c : Fin 16) (x : BitVec 28)
  /-- R214: Branch if ra is less than rb, unsigned. -/
  | bltu (t : Nat) (c : Fin 16) (x : BitVec 28)
  /-- R214: Branch if ra is at least rb, unsigned. -/
  | bgeu (t : Nat) (c : Fin 16) (x : BitVec 28)
  /-- R214: Branch if the register equals the immediate. -/
  | beqi (t : Nat) (c : Fin 16) (x : BitVec 28)
  /-- R214: Branch if the register differs from the immediate. -/
  | bnei (t : Nat) (c : Fin 16) (x : BitVec 28)
  /-- R214: Branch if the register is less than the immediate, signed. -/
  | blti (t : Nat) (c : Fin 16) (x : BitVec 28)
  /-- R214: Branch if the register is at least the immediate, signed. -/
  | bgei (t : Nat) (c : Fin 16) (x : BitVec 28)
  /-- R214: Branch if the register is less than the immediate, unsigned. -/
  | bltui (t : Nat) (c : Fin 16) (x : BitVec 28)
  /-- R214: Branch if the register is at least the immediate, unsigned. -/
  | bgeui (t : Nat) (c : Fin 16) (x : BitVec 28)
  /-- R214: Branch if the two pairs are equal. -/
  | beqD (t : Nat) (c : Fin 16) (x : BitVec 28)
  /-- R214: Branch if the two pairs differ. -/
  | bneD (t : Nat) (c : Fin 16) (x : BitVec 28)
  /-- R214: Branch if pair ra is less than pair rb, signed. -/
  | bltD (t : Nat) (c : Fin 16) (x : BitVec 28)
  /-- R214: Branch if pair ra is at least pair rb, signed. -/
  | bgeD (t : Nat) (c : Fin 16) (x : BitVec 28)
  /-- R214: Branch if pair ra is less than pair rb, unsigned. -/
  | bltuD (t : Nat) (c : Fin 16) (x : BitVec 28)
  /-- R214: Branch if pair ra is at least pair rb, unsigned. -/
  | bgeuD (t : Nat) (c : Fin 16) (x : BitVec 28)
  /-- R215: Jump relative, with an optional link pair. -/
  | jal (t : Nat) (c : Fin 16) (x : BitVec 28)
  /-- R215: Jump to a pair address, with an optional link pair. -/
  | jalr (t : Nat) (c : Fin 16) (x : BitVec 28)
  /-- R217: Opens a hardware loop level with a count from a register. -/
  | lp (t : Nat) (c : Fin 16) (x : BitVec 28)
  /-- R217: Opens a hardware loop level with an immediate count. -/
  | lpi (t : Nat) (c : Fin 16) (x : BitVec 28)
  /-- R219: Ends the innermost loop level. -/
  | lbrk (t : Nat) (c : Fin 16) (x : BitVec 28)
  /-- R220: Loads a nonet, zero-extended, after the capability checks. -/
  | ldN (t : Nat) (c : Fin 16) (mx : Bool) (x : BitVec 28)
  /-- R220: Loads a nonet, sign-extended. -/
  | ldNs (t : Nat) (c : Fin 16) (mx : Bool) (x : BitVec 28)
  /-- R220: Loads a word, forwarding from the store buffer where it can. -/
  | ldW (t : Nat) (c : Fin 16) (mx : Bool) (x : BitVec 28)
  /-- R220: Loads a double word into a pair. -/
  | ldD (t : Nat) (c : Fin 16) (mx : Bool) (x : BitVec 28)
  /-- R220: Stores a nonet through the store buffer. -/
  | stN (t : Nat) (c : Fin 16) (mx : Bool) (x : BitVec 28)
  /-- R220: Stores a word through the store buffer. -/
  | stW (t : Nat) (c : Fin 16) (mx : Bool) (x : BitVec 28)
  /-- R220: Stores a double word through the store buffer. -/
  | stD (t : Nat) (c : Fin 16) (mx : Bool) (x : BitVec 28)
  /-- R201: Loads a capability line, with the tag only if all four tags are set and LK is granted. -/
  | ldK (t : Nat) (c : Fin 16) (mx : Bool) (x : BitVec 28)
  /-- R201: Stores a capability line and sets its four tag bits. -/
  | stK (t : Nat) (c : Fin 16) (mx : Bool) (x : BitVec 28)
  /-- R228: The store buffer performs its oldest entry once the target accepts it. -/
  | storePerform (t : Nat) (c : Fin 16)
  /-- R232: The tandem queue performs its oldest move into the berth state RAM. -/
  | tandemMovePerform (t : Nat) (c : Fin 16)
  /-- R256: The frame queue writes its oldest frame line. -/
  | frameLinePerform (t : Nat) (c : Fin 16)
  /-- R221: Core no-operation. -/
  | nop (t : Nat) (c : Fin 16) (x : BitVec 28)
  /-- R195: Reads a special register into a word register. -/
  | mfs (t : Nat) (c : Fin 16) (x : BitVec 28)
  /-- R195: Writes a word register to a writable special register. -/
  | mts (t : Nat) (c : Fin 16) (x : BitVec 28)
  /-- R195: Reads a loop address special register into a pair. -/
  | mfsD (t : Nat) (c : Fin 16) (x : BitVec 28)
  /-- R195: Writes a pair to a loop address special register. -/
  | mtsD (t : Nat) (c : Fin 16) (x : BitVec 28)
  /-- R221: Completes when every earlier store has been performed and the store buffer and tandem queue are empty. -/
  | fence (t : Nat) (c : Fin 16) (x : BitVec 28)
  /-- R221: Stops the core until its vector unit has an interrupt to present. -/
  | wfi (t : Nat) (c : Fin 16) (x : BitVec 28)
  /-- R221: Raises the software trap of the code's cause. -/
  | trap (t : Nat) (c : Fin 16) (x : BitVec 28)
  /-- R221: Invalidates the core's instruction cache. -/
  | syncI (t : Nat) (c : Fin 16) (x : BitVec 28)
  /-- R222: Copies a capability register. -/
  | kmov (t : Nat) (c : Fin 16) (x : BitVec 28)
  /-- R222: Sets a capability register to null. -/
  | kclr (t : Nat) (c : Fin 16) (x : BitVec 28)
  /-- R222: Reads the base of a capability into a pair. -/
  | kbase (t : Nat) (c : Fin 16) (x : BitVec 28)
  /-- R222: Reads the length of a capability into a pair. -/
  | klen (t : Nat) (c : Fin 16) (x : BitVec 28)
  /-- R222: Reads the permissions of a capability. -/
  | kperm (t : Nat) (c : Fin 16) (x : BitVec 28)
  /-- R222: Reads the tag and object type of a capability. -/
  | ktype (t : Nat) (c : Fin 16) (x : BitVec 28)
  /-- R250: Narrows the bounds of a capability, or traps. -/
  | knar (t : Nat) (c : Fin 16) (x : BitVec 28)
  /-- R250: Narrows the core's seal range. -/
  | ksr (t : Nat) (c : Fin 16) (x : BitVec 28)
  /-- R250: Narrows the permissions of a capability. -/
  | kprm (t : Nat) (c : Fin 16) (x : BitVec 28)
  /-- R250: Seals a capability with a type that SR covers, or traps. -/
  | kseal (t : Nat) (c : Fin 16) (x : BitVec 28)
  /-- R250: Unseals a sealed capability whose type SR covers, or traps. -/
  | kopen (t : Nat) (c : Fin 16) (x : BitVec 28)
  /-- R222: Copies PCC into a capability register. -/
  | kpc (t : Nat) (c : Fin 16) (x : BitVec 28)
  /-- R261: Calls through a gate, writing a call frame and taking the code entry, k6, k7 and SR from the gate. -/
  | kgo (t : Nat) (c : Fin 16) (x : BitVec 28)
  /-- R260: Waits for the frame queue, then restores the latest frame, pops it and clears the vector's active bit for an interrupt. -/
  | rett (t : Nat) (c : Fin 16) (x : BitVec 28)
  /-- R258: A trap reads its descriptor, writes a frame and enters the handler, halts, or locks the core up. -/
  | trapEntry (t : Nat) (c : Fin 16) (f : FetchFault)
  /-- R264: A write of CORE_RST.cmd = 1 resets the core and starts it through descriptor 63. -/
  | coreResetStart (t : Nat) (c : Fin 16) (v : Word)
  /-- R264: A write of CORE_RST.cmd = 2 resets the core and holds it in RESET. -/
  | coreResetHold (t : Nat) (c : Fin 16) (v : Word)
  /-- R264: Once the core's queues have drained, its registers reset, its locks break and it starts or holds. -/
  | coreResetComplete (t : Nat) (c : Fin 16)
  /-- R265: A write of 0o252_525 to CORE_WDK restarts the watchdog count. -/
  | watchdogRestart (t : Nat) (c : Fin 16) (v : Word)
  /-- R265: A write of any other value to CORE_WDK expires the watchdog at once. -/
  | watchdogBadKey (t : Nat) (c : Fin 16) (v : Word)
  /-- R265: The watchdog count expires, sets wdx, fires the core source and resets the core or the device. -/
  | watchdogExpiry (t : Nat) (c : Fin 16)
  /-- R267: A write of VU_VLOAD starts loading one or all descriptor copies, or is ignored while busy. -/
  | vectorLoad (t : Nat) (c : Fin 16) (v : Word)
  /-- R267: The descriptor load ends, with copies validated or ldfail set, and ldbusy clears. -/
  | vectorLoadDone (t : Nat) (c : Fin 16)
  /-- R271: A set-alias write of VU_PENDj raises vectors in software. -/
  | softwareInterrupt (t : Nat) (c : Fin 16) (j : Fin 8) (v : Word)
  /-- R269: Within 2 cycles of becoming presentable, the best vector is presented to its core. -/
  | vectorPresent (t : Nat) (c : Fin 16)
  /-- R270: At an instruction boundary, the core takes the presented vector, writes a frame and enters the handler at its priority. -/
  | interruptEntry (t : Nat) (c : Fin 16)
  /-- R279: A write of BANK_OWN starts a handover and sets hpend. -/
  | bankHandover (t : Nat) (k : Fin 64) (v : Word)
  /-- R279: When outstanding accesses are done, the new owner takes effect and hpend clears. -/
  | handoverComplete (t : Nat) (k : Fin 64)
  /-- R283: Every 2 µs the scrubber reads one line of each bank in a free bank cycle. -/
  | scrub (t : Nat) (k : Fin 64)
  /-- R285: A read of LOCK_ACQ grants a FREE lock, grants a BROKEN one into REPAIR, or returns busy. -/
  | lockAcquire (t : Nat) (q : Req) (n : Fin 256)
  /-- R286: The holder's LOCK_CMD.rel makes HELD FREE and REPAIR BROKEN. -/
  | lockRelease (t : Nat) (q : Req) (n : Fin 256) (v : Word)
  /-- R286: The holder's LOCK_CMD.rep makes REPAIR HELD. -/
  | lockRepaired (t : Nat) (q : Req) (n : Fin 256) (v : Word)
  /-- R286: The holder's LOCK_CMD.renew restarts the lease. -/
  | lockRenew (t : Nat) (q : Req) (n : Fin 256) (v : Word)
  /-- R289: A lock's lease expires, and the lock becomes BROKEN. -/
  | leaseExpiry (t : Nat) (n : Fin 256)
  /-- R291: A store to the tide alias stages entries in the core's slot, or poisons it, or is ignored for an armed slot. -/
  | tideStage (t : Nat) (c : Fin 16) (a : Addr) (dbl : Bool) (v : DWord)
  /-- R293: TIDE_COMMIT kind 0 commits a slot for the timebase instant in TSLOT_ATH and TSLOT_ATL. -/
  | tideCommitInstant (t : Nat) (v : Word)
  /-- R293: TIDE_COMMIT kind 1 commits a slot for the next period boundary of a unit. -/
  | tideCommitBoundary (t : Nat) (v : Word)
  /-- R293: TIDE_COMMIT kind 2 discards a slot. -/
  | tideDiscard (t : Nat) (v : Word)
  /-- R293: The tide unit validates a committed slot and arms it, or refuses it with a reason in why. -/
  | tideArm (t : Nat) (k : Fin 4)
  /-- R294: At the tide instant all entries of the slot apply at once, the epoch increments and the tide event and cause are raised. -/
  | tideApply (t : Nat) (k : Fin 4)
  /-- R297: SNAP_GO with at = 0 requests a snapshot at the first timer edge after the list is read, or is refused. -/
  | snapshotNow (t : Nat) (q : Req) (c : Fin 16) (v : Word)
  /-- R297: SNAP_GO with at = 1 requests a snapshot at a timebase instant, or is refused. -/
  | snapshotAt (t : Nat) (q : Req) (c : Fin 16) (v : Word)
  /-- R297: At the snapshot instant, every listed item is taken as it stood at that one instant. -/
  | snapshotTake (t : Nat) (c : Fin 17) (reads : List (Int × BitVec 7))
  /-- R298: The output has been written, and done and its cause set. -/
  | snapshotDone (t : Nat) (c : Fin 17)
  /-- R304: The last store of a line-program sequence starts programming of the line, or the command is refused with an err code. -/
  | lineProgram (t : Nat) (b : Fin 4) (off : BitVec 21) (dbl : Bool) (v : DWord)
  /-- R304: The last store of an erase sequence starts a block erase, or the command is refused. -/
  | blockErase (t : Nat) (b : Fin 4) (off : BitVec 21) (v : Word)
  /-- R310: The margin-level sequence sets the bank's read margin. -/
  | marginLevel (t : Nat) (b : Fin 4) (off : BitVec 21) (v : Word)
  /-- R304: The OTP program sequence starts programming of one one-time word, or the command is refused. -/
  | otpWordProgram (t : Nat) (off : BitVec 21) (v : Word)
  /-- R304: The reset command ends a partial sequence, sets the margin level to 0 and clears err. -/
  | flashReset (t : Nat) (b : Fin 4) (off : BitVec 21) (v : Word)
  /-- R308: The line is programmed and the journal entry retired, so busy clears and done sets. -/
  | lineProgramDone (t : Nat) (b : Fin 4) (ok : Bool)
  /-- R308: The block is erased, so ecomp sets, busy clears and done sets. -/
  | eraseDone (t : Nat) (b : Fin 4) (ok : Bool)
  /-- R308: The one-time word is written and bank 0 becomes idle. -/
  | otpProgramDone (t : Nat) (ok : Bool)
  /-- R319: With no XTAL32 edge for 4 RC periods, the always-on domain switches to the RC fallback. -/
  | rcFallback (t : Nat)
  /-- R319: After 1,024 good XTAL32 periods, the always-on domain switches back. -/
  | xtal32Return (t : Nat)
  /-- R320: The reference is absent for 400 ns, so refloss sets, every zone latches and the PLLs hold. -/
  | referenceLoss (t : Nat)
  /-- R320: The reference returns within 20 µs, the PLLs relock and TB_UNCERT grows. -/
  | referenceReturn (t : Nat)
  /-- R320: The reference stays absent for 20 µs, and the device resets. -/
  | referenceLossReset (t : Nat)
  /-- R321: The subsecond wraps, seconds increment and the whole-second event is raised. -/
  | wholeSecond (t : Nat) (n : Nat) (d : Nat)
  /-- R323: A write of TB_CTL.set steps the timebase to TB_SETH and TB_SETL, and sets valid. -/
  | timebaseSet (t : Nat) (v : Word)
  /-- R324: A read of TB_NOWH returns the seconds and latches the subsecond for the reading core. -/
  | timebaseNowRead (t : Nat) (q : Req)
  /-- R326: A PPS edge is captured and accepted or rejected, and an accepted edge acts by mode. -/
  | ppsEdge (t : Nat) (rising : Bool)
  /-- R327: With no accepted edge for 1 s plus the window, holdover begins and the slew clears. -/
  | holdover (t : Nat)
  /-- R328: At the end of a 16 s XTAL32 span without a step, TB_XRATIO.q is measured and cal sets. -/
  | ratioSpan (t : Nat)
  /-- R328: 86,400 s after the latest span, cal clears. -/
  | calExpiry (t : Nat)
  /-- R330: A quay whose cores all wait or are stopped enters Doze. -/
  | quayDoze (t : Nat) (q : Fin 4)
  /-- R330: A vector presentation wakes a dozing quay within 10 ns. -/
  | quayWake (t : Nat) (q : Fin 4)
  /-- R331: When every core waits or is stopped, the device enters the requested rung, or Rest when a check fails. -/
  | sleepEntry (t : Nat)
  /-- R333: A wake source begins the exit from a rung, which is recorded in PWR_STAT.wake. -/
  | sleepExit (t : Nat)
  /-- R334: After the timer PLL relocks, the timebase restarts at a coarse edge from the coarse count, and TB_UNCERT grows. -/
  | timebaseRestore (t : Nat) (n : Nat)
  /-- R333: The timebase reaches PWR_ALARM, which wakes the device or sets the alarm cause. -/
  | powerAlarm (t : Nat) (n : Nat)
  /-- R336: A MODE_CTL.req of NEAP changes the quay clock to 1.0 GHz, or leaves SLACK. -/
  | modeNeap (t : Nat) (v : Word)
  /-- R337: A MODE_CTL.req of SPRING enters boost, or is refused for temperature, VDD_CORE or power failure. -/
  | modeSpring (t : Nat) (v : Word) (vdd : Nat)
  /-- R336: A MODE_CTL.req of SLACK stops issue, drains, invalidates the caches and enters deterministic timing. -/
  | modeSlack (t : Nat) (v : Word)
  /-- R336: A mode change completes, and MODE_STAT.cur shows the new mode. -/
  | modeChangeDone (t : Nat) (vdd : Nat)
  /-- R337: Every 10 µs TJ_EST updates, and SPRING ends when it reaches the limit. -/
  | junctionSample (t : Nat) (sens : Fin 16) (v : BitVec 14)
  /-- R337: SPRING_MAX_S expires, and SPRING ends. -/
  | springTimeout (t : Nat)
  /-- R338: VDD_CORE below the droop threshold for 5 ns in SPRING moves every quay to 1.0 GHz and NEAP. -/
  | droopGuard (t : Nat)
  /-- R339: PFAIL_N low for 50 ns, or a supply monitor trip, begins the power-fail sequence, with its output, flash, mode and manifest effects. -/
  | powerFailBegin (t : Nat) (src : Fin 6)
  /-- R342: After a power failure, PFAIL_N high and every rail good set PWR_PFSTAT.rcv. -/
  | supplyRecovery (t : Nat)
  /-- R342: A write of 0o525_252 to PWR_DEVRST resets the device. -/
  | deviceResetWrite (t : Nat) (v : Word)
  /-- R414: The main rails rise past their monitor thresholds, and the device leaves its held reset. -/
  | powerOn (t : Nat)
  /-- R414: A main rail below 90 % of its threshold for 100 ns returns the device to reset. -/
  | railCollapse (t : Nat)
  /-- R386: A device reset from any cause sets every register to its reset value and records the cause in BOOT_RSTC. -/
  | deviceReset (t : Nat) (pin : Bool)
  /-- R392: After reset, the rootstock clears memory, tries sources in turn, verifies the image, loads grafts, sets the level and starts core 0. -/
  | rootstockBoot (t : Nat)
  /-- R390: The SPI or network boot source gets no first command in time, fails, and the next source starts. -/
  | bootSourceTimeout (t : Nat)
  /-- R391: SPI recovery command 0o001 writes image lines to SRAM. -/
  | spiRecoveryWrite (t : Nat) (a : Addr) (ls : List (BitVec 72))
  /-- R391: SPI recovery command 0o002 starts verification of the written image. -/
  | spiRecoveryVerify (t : Nat)
  /-- R391: SPI recovery command 0o003 returns boot status. -/
  | spiRecoveryStatus (t : Nat)
  /-- R391: A partner's WRITE of 1 to word 0 of BK32 starts verification of a network-boot image. -/
  | networkBootGo (t : Nat) (p : Fin 4) (f : Frame)
  /-- R243: A write of GRF_LDD writes a graft microword or nanoword part at GRF_LDA, unless the stores are locked. -/
  | graftLoadData (t : Nat) (v : DWord)
  /-- R243: Setting GRF_LOCK.lk freezes the graft stores and match registers until device reset. -/
  | graftLock (t : Nat) (v : Word)
  /-- R400: A read of KU_RNG returns and consumes 32 fresh DRBG bits. -/
  | rngRead (t : Nat) (q : Req)
  /-- R400: An entropy health test fails, so valid clears, hfail sets and source 593 fires. -/
  | healthFailure (t : Nat)
  /-- R401: KU_CMD op 1 computes a CMAC of KU_DIN under a key slot. -/
  | check (t : Nat) (v : Word)
  /-- R401: KU_CMD op 2 computes a CMAC of KU_DIN under the device key. -/
  | attest (t : Nat) (v : Word)
  /-- R401: A key-unit operation ends, KU_DOUT fills or err sets, and source 592 fires. -/
  | keyOperationEnd (t : Nat)
  /-- R402: The key unit accepts or refuses a debug token, opening a session or counting a refusal, and replaces the challenge. -/
  | tokenVerdict (t : Nat)
  /-- R403: A set-alias write of DBG_CTL.deny closes the debug port until device reset. -/
  | debugDeny (t : Nat) (v : Word)
  /-- R405: A tamper sensor fires, so keys are zeroized, outputs float and a device reset with cause 5 follows. -/
  | tamper (t : Nat) (n : Fin 4)
  /-- R427: TAP instruction EXTEST drives the boundary cells, when scope allows. -/
  | extest (t : Nat) (x : List Bool)
  /-- R427: TAP instruction IDCODE selects the 32-bit identification register. -/
  | idcode (t : Nat)
  /-- R427: TAP instruction SAMPLE/PRELOAD samples or preloads the boundary cells. -/
  | samplePreload (t : Nat) (x : List Bool)
  /-- R427: TAP instruction CLAMP, when scope allows. -/
  | clamp (t : Nat)
  /-- R427: TAP instruction HIGHZ, when scope allows. -/
  | highz (t : Nat)
  /-- R427: TAP instruction DBGCHAL reads the debug challenge. -/
  | dbgchal (t : Nat)
  /-- R427: TAP instruction DBGTOK takes a debug token for verification. -/
  | dbgtok (t : Nat) (x : BitVec 1242)
  /-- R427: TAP instruction DBGACC performs one memory or peripheral access at Update-DR, within the session scope. -/
  | dbgacc (t : Nat) (x : BitVec 74)
  /-- R427: TAP instruction BYPASS, also taken by every unlisted code. -/
  | bypass (t : Nat) (code : BitVec 8)
  /-- R352: Setting LK_CTL.en takes a port to ALIGN, or holds it OFF for a revoked key or unset node. -/
  | portEnable (t : Nat) (p : Fin 4) (v : Word)
  /-- R352: Clearing LK_CTL.en takes a port to OFF. -/
  | portDisable (t : Nat) (p : Fin 4) (v : Word)
  /-- R352: Commas are found and the lanes deskewed, so the port enters HELLO with a new nonce. -/
  | alignDone (t : Nat) (p : Fin 4)
  /-- R352: In HELLO, the port sends a HELLO every 10 µs. -/
  | helloTimer (t : Nat) (p : Fin 4)
  /-- R352: A received HELLO whose echo matches brings the port UP, derives session keys and records the partner and level. -/
  | hello (t : Nat) (p : Fin 4) (f : Frame)
  /-- R355: A received LSTAT acknowledges frames, returns credits and may request a resend on nak. -/
  | lstat (t : Nat) (p : Fin 4) (f : Frame)
  /-- R355: An LSTAT is sent on a change of acknowledgement or credit, and at least every 1 µs. -/
  | lstatTimer (t : Nat) (p : Fin 4)
  /-- R357: A received BEAT keeps the partner present, or declares it absent when the sleeping bit is set. -/
  | beat (t : Nat) (p : Fin 4) (f : Frame)
  /-- R357: Every 10 µs the port sends a BEAT. -/
  | beatTimer (t : Nat) (p : Fin 4)
  /-- R357: With no valid BEAT for 31 µs, the partner is declared absent, with port, zone, route, lock and transaction effects. -/
  | partnerAbsent (t : Nat) (p : Fin 4)
  /-- R355: With no ack progress for the retry timeout, the sender resends, or exhausts the budget and declares the partner absent. -/
  | retryTimeout (t : Nat) (p : Fin 4)
  /-- R360: A received NODEDOWN marks the node absent, applies the node effects and floods it onward. -/
  | nodedown (t : Nat) (p : Fin 4) (f : Frame)
  /-- R359: A frame for another node passes its checks and goes out on its route once the egress port has credit. -/
  | frameForward (t : Nat) (p : Fin 4) (f : Frame)
  /-- R361: A go of kind READ starts a remote read from a transaction slot, or ends it at once with a status. -/
  | txRead (t : Nat) (q : Req) (c : Fin 16) (k : Fin 4) (v : Word)
  /-- R361: A go of kind WRITE sends a posted remote write. -/
  | txWrite (t : Nat) (q : Req) (c : Fin 16) (k : Fin 4) (v : Word)
  /-- R366: A go of kind SNAP sends a remote snapshot request. -/
  | txSnap (t : Nat) (q : Req) (c : Fin 16) (k : Fin 4) (v : Word)
  /-- R363: A received READ is checked against its window, performed and answered with RDATA. -/
  | read (t : Nat) (p : Fin 4) (f : Frame) (dur : Nat)
  /-- R363: A received WRITE is checked against its window and performed, or refused and logged. -/
  | write (t : Nat) (p : Fin 4) (f : Frame) (dur : Nat)
  /-- R366: A received SNAP runs through the snapshot unit and is answered with RDATA frames, or status 6. -/
  | snap (t : Nat) (p : Fin 4) (f : Frame) (dur : Nat)
  /-- R362: A received RDATA writes its words to the originator's buffer and ends the slot with done. -/
  | rdata (t : Nat) (p : Fin 4) (f : Frame)
  /-- R365: A waiting request is admitted when the port's admission cap has room. -/
  | requestAdmit (t : Nat) (p : Fin 4) (dur : Nat)
  /-- R365: A READ or SNAP without a response in LK_TMO ends with status 8. -/
  | txTimeout (t : Nat) (c : Fin 16) (k : Fin 4)
  /-- R363: A write of LK_WLOAD loads window-table entries, marking invalid ones with ldfail. -/
  | windowLoad (t : Nat) (v : Word)
  /-- R367: A received TREQ is stamped t2 and answered with a TRSP at t3. -/
  | treq (t : Nat) (p : Fin 4) (f : Frame) (d : Nat)
  /-- R367: A received TRSP is stamped t4, and theta and the delay are computed and acted on as a PPS edge error. -/
  | trsp (t : Nat) (p : Fin 4) (f : Frame)
  /-- R367: No valid TRSP within 1 ms sets tmiss, and no edge is presented that second. -/
  | timeExchangeMiss (t : Nat)
  /-- R372: A write of GT_PCTL.go on the root opens a round and sends PREPARE, or is refused with perr. -/
  | propose (t : Nat) (v : Word)
  /-- R373: A received PREPARE opens a round, is forwarded to the children, and the device forms its vote. -/
  | prepare (t : Nat) (p : Fin 4) (f : Frame)
  /-- R376: At P, a leaf sends its VOTE, and an inner device sends once its awaited votes have arrived. -/
  | voteInstant (t : Nat)
  /-- R375: A received VOTE is combined with the device's own vote, or queued as a doubt report at the root. -/
  | vote (t : Nat) (p : Fin 4) (f : Frame)
  /-- R377: A received COMMIT is forwarded and recorded as the decision, or ends DOUBT at a new instant. -/
  | commit (t : Nat) (p : Fin 4) (f : Frame)
  /-- R377: A received ABORT is forwarded and recorded, or ends DOUBT. -/
  | abort (t : Nat) (p : Fin 4) (f : Frame)
  /-- R377: A write of GT_PCTL.abort makes the root decide ABORT at once. -/
  | roundAbort (t : Nat) (v : Word)
  /-- R377: At Q the root, still undecided, decides ABORT. -/
  | decisionDeadline (t : Nat)
  /-- R378: At I − g each device closes its round as committed or aborted, or enters DOUBT. -/
  | decisionGuard (t : Nat)
  /-- R379: At I, a committed global tide applies, GT_LAST, GT_GEPOCH and TIDE_EPOCH update, and a raise sets the level. -/
  | globalTideApply (t : Nat)
  /-- R380: Every 1 ms in DOUBT, a report VOTE is sent to the harbour master. -/
  | doubtReport (t : Nat)
  /-- R381: GT_PCTL.rcm sends a routed COMMIT of GT_PRID at a new instant. -/
  | routedCommit (t : Nat) (v : Word)
  /-- R381: GT_PCTL.rab sends a routed ABORT of GT_PRID. -/
  | routedAbort (t : Nat) (v : Word)
  /-- R381: A read of GT_DREP returns and removes the head doubt report. -/
  | doubtReportRead (t : Nat) (q : Req)
  /-- R419: An SMBus send byte is captured in the write queue. -/
  | sendByte (t : Nat) (m : Fin 2) (a : BitVec 7) (c : BitVec 8) (pec : Option (BitVec 8))
  /-- R423: An SMBus write byte is captured, or NACKed for PEC or a full queue. -/
  | writeByte (t : Nat) (m : Fin 2) (a : BitVec 7) (c x : BitVec 8) (pec : Option (BitVec 8))
  /-- R423: An SMBus write word is captured, or NACKed. -/
  | writeWord (t : Nat) (m : Fin 2) (a : BitVec 7) (c x y : BitVec 8) (pec : Option (BitVec 8))
  /-- R423: An SMBus block write of up to 32 octets is captured, or NACKed. -/
  | blockWrite (t : Nat) (m : Fin 2) (a : BitVec 7) (c : BitVec 8) (l : List (BitVec 8)) (pec : Option (BitVec 8))
  /-- R420: An SMBus read byte is answered from the image, or stretched for firmware. -/
  | readByte (t : Nat) (m : Fin 2) (a : BitVec 7) (c : BitVec 8)
  /-- R420: An SMBus read word is answered from the image, or stretched for firmware. -/
  | readWord (t : Nat) (m : Fin 2) (a : BitVec 7) (c : BitVec 8)
  /-- R422: An SMBus block read is captured as a request and stretched until firmware answers. -/
  | blockRead (t : Nat) (m : Fin 2) (a : BitVec 7) (c : BitVec 8)
  /-- R420: An SMBus PAGE write selects a page or all pages, and a PAGE read is answered by the port. -/
  | page (t : Nat) (m : Fin 2) (a : BitVec 7) (x : Option (BitVec 8)) (pec : Option (BitVec 8))
  /-- R419: A read of the Alert Response Address is answered with the port's address while alert is set. -/
  | alertResponse (t : Nat) (m : Fin 2)
  /-- R419: Process calls, Host Notify, ARP, quick commands and oversize blocks are NACKed and nothing is captured. -/
  | unsupportedProtocol (t : Nat) (m : Fin 2) (a : BitVec 7)
  /-- R419: SCL low for 25 ms returns the port to idle and sets tmo. -/
  | clockLowTimeout (t : Nat) (m : Fin 2)
  /-- R422: With no go within SMB_TMO, the port releases SCL, sends all ones with a wrong PEC and sets stex. -/
  | stretchLimit (t : Nat) (m : Fin 2)
  /-- R422: A write of SMB_RSP.go sends the response octets of an unassisted read. -/
  | smbusResponse (t : Nat) (m : Fin 2) (v : Word)
  /-- R423: A write of SMB_POP removes the head capture entry. -/
  | smbusPop (t : Nat) (m : Fin 2) (v : Word)
  /-- R424: A write of SPI_TX pushes a frame into the transmit FIFO. -/
  | spiTxPush (t : Nat) (m : Fin 2) (v : Word)
  /-- R424: A read of SPI_RX pops a frame from the receive FIFO. -/
  | spiRxPop (t : Nat) (m : Fin 2)
  /-- R424: One SPI frame is transferred as controller or target, with udr or ovr set as it falls. -/
  | spiFrame (t : Nat) (m : Fin 2) (x : BitVec 18)
  /-- R425: A change of a pin level after pol sets flag for a selected edge, changes the fabric level and acts as a wake sense. -/
  | gpioEdge (t : Nat) (n : Fin 64) (lvl : Bool)
  /-- R355: A received frame that fails its code groups, deskew, header checks, CRC or tag, or ends with /V/, is discarded, counted, and answered with an LSTAT nak for the first discard. -/
  | badFrame (t : Nat) (p : Fin 4) (crc : Bool) (f : Option Frame)
  /-- R347: An invalid code group or running-disparity error between frames counts in LK_ECODE. -/
  | codeGroupError (t : Nat) (p : Fin 4)
  /-- R344: Power-on of the always-on domain sets the timebase to 0, valid to 0, TB_UNCERT to all ones and every always-on register to its power-on value. -/
  | alwaysOnPowerOn (t : Nat)
  /-- R157: A TRIP_nn pin crosses its input threshold, changing the fabric level of class 15 and TZ_STAT.now of the zones that select it. -/
  | tripPinChange (t : Nat) (n : Fin 16) (lvl : Bool)
  /-- R368: The shared LK_WAKEn line changes level as the partner drives or releases it, changing the class 19 event 2 fabric level. -/
  | lkWakePinChange (t : Nat) (p : Fin 4) (lvl : Bool)
  /-- R368: 2 µs after a port enters ALIGN, the device stops driving LK_WAKEn low. -/
  | lkWakeDriveEnd (t : Nat) (p : Fin 4)
  /-- R162: At a rising edge of the selected timer-derived or 32.768 kHz clock, a majority filter samples its input and its output becomes the majority of the last three samples. -/
  | majoritySample (t : Nat) (n : Fin 64)
  /-- R162: At the first 32.768 kHz tick after a passed change, the debounce hold starts and LC_STAT.hold sets. -/
  | debounceHoldStart (t : Nat) (n : Fin 64)
  /-- R400: The entropy health tests stop reporting a failure, so KU_RNG.valid returns, hfail clears and ports waiting in HELLO get their nonce. -/
  | healthRecovery (t : Nat)
  deriving DecidableEq, Repr

end Sys2Proof
end

