-- ==== Sys2Proof/Decode.lean ====
section
/-! DEFINITION. The command that a word of the table spells. The table of this device gives no row any bits: its rows are commands and
events, not encodings. -/

namespace Sys2Proof

/-- The command that a word of `nbits` bits spells by the table: none, because no row of the table has bits. -/
def decodeTableWord (_nbits _w : Nat) : Option Instr := none

end Sys2Proof
end

