-- ==== Sys2Proof/Config.lean ====
section
/-! DEFINITION. What the manual leaves open or keeps unpublished: free values, without a body, so that nothing can be proved
of the value itself. -/

namespace Sys2Proof

/-- A free value of the manual's open points: applied to the counter `State.free`, which every use advances. -/
opaque Config.free : Nat → Nat
/-- R188: the CRC-32 of a journal record over its words; the manual does not say in which order the bits of the words enter it. -/
opaque Config.crc32 : List Word → BitVec 32
/-- R187: the words of the slice image, whose layout the manual does not give: word `i` of 4,096 as a function of the sections, each a
manifest with its numbers. -/
opaque Config.sliceWord : List (Nat × List Int) → Nat → Word
/-- R390: the contents of the rootstock ROM are not published. Argument: word index, 0 to 65,535. -/
opaque Config.romWord : Nat → Word
/-- R240: the microword ROM, whose contents are not published. Argument: the address, 0 to 8,191. -/
opaque Config.microRom : Nat → BitVec 28
/-- R240: the nanoword ROM, whose contents are not published. Argument: the index, 0 to 1,023. -/
opaque Config.nanoRom : Nat → BitVec 112
/-- R399: the device key rebuilt from the physically unclonable function. -/
opaque Config.deviceKey : BitVec 128
/-- R389, R399: Avlet's graft key. -/
opaque Config.graftKey : BitVec 128
/-- R400, R405: the k-th 32-bit output of the DRBG since its `n`-th start; it starts anew after a zeroization. -/
opaque Config.drbg : Nat → Nat → BitVec 32
/-- R352: the k-th 64-bit nonce drawn from the entropy source. -/
opaque Config.nonce : Nat → BitVec 64
/-- R402: the k-th 128-bit debug challenge. -/
opaque Config.challenge : Nat → BitVec 128
/-- R426: the ball of boundary cell `i` and what the cell is to it (0 input, 1 output, 2 output enable); the order stands in the BSDL
description, which is not published here. -/
opaque Config.boundaryCell : Nat → Nat × Nat
/-- R315: the Avlet words of the one-time row (serial, lot, reserved words) as manufactured. -/
opaque Config.avletWord : Nat → Word

end Sys2Proof
end

