-- ==== Sys2Proof/Machine/RegName.lean ====
section
/-! DEFINITION. The names of the registers of the TF1810, one constructor for each register heading of the manual (several
instances of one register share a name; an index tells them apart). -/

namespace Sys2Proof.Machine

/-- R433: the registers of the register index, in address order of their blocks. -/
inductive RegName where
  | ICH_CTL
  | ICH_TRGCU
  | ICH_TRGEV
  | ICH_DELAY
  | ICH_WLEN
  | ICH_PROBE
  | ICH_PROBETHR
  | ICH_GAINC
  | ICH_OFFC
  | ICH_IEN
  | ICH_STAT
  | ICH_MISSCNT
  | ICH_RSTAT
  | ICH_NORM
  | ICH_RAW
  | ICH_TLEN
  | ICH_CALCTL
  | WC_CTL
  | WC_THH
  | WC_THL
  | WC_TRIP
  | WC_BLKSRC
  | WC_BLKLEN
  | WC_IEN
  | WC_STAT
  | WC_GUARD
  | BERTH_CTL
  | BERTH_TRG
  | BERTH_PROG
  | BERTH_DL
  | BERTH_GAIN
  | BERTH_GBASE
  | BERTH_BND
  | BERTH_GRP
  | BERTH_STAT
  | BERTH_IO
  | BERTH_OVR
  | CR_SEP
  | CR_STAT
  | CR_UTIL
  | CR_IEN
  | CR_SEPB
  | CG_CTL
  | CG_STAT
  | CG_OUT
  | ENG_CTL
  | ENG_STAT
  | ENG_ADMERR
  | ENG_SWTRG
  | ENG_IEN
  | CU_CTL
  | CU_LDM
  | CU_SYNC
  | CU_SYNCEV
  | CU_PER
  | CU_PERS
  | CU_CMP
  | CU_PHASE
  | CU_CNT
  | CU_DTR
  | CU_DTF
  | CU_MINP
  | CU_PEND
  | CU_CARRY
  | CU_TZM
  | CU_RESP
  | CU_STAT
  | CU_FLAG
  | CU_IEN
  | CU_CAPSRC
  | CU_CAPSTAT
  | CU_CAP
  | CU_CAPTSH
  | CU_CAPTSL
  | TZ_PIN
  | TZ_CORE
  | TZ_LINK
  | TZ_STAT
  | TZ_IEN
  | TRIP_POL
  | EV_SRC
  | EV_CTL
  | EV_OWN
  | EV_STAT
  | EV_SW
  | LC_IN
  | LC_LUT
  | LC_CTL
  | LC_FILT
  | LC_STAT
  | LC_OWN
  | SC_CTL
  | SC_STAT
  | SC_SEQA
  | SC_SEQB
  | SV_RES
  | SC_BOTHR
  | MT_CTL
  | MT_LIM
  | MT_STAT
  | MF_CTL
  | MF_SRC
  | MF_STAT
  | MF_TCHG
  | MFU_JCTL
  | MFU_JPER
  | MFU_JSTAT
  | GRF_ID
  | GRF_STAT
  | GRF_LOCK
  | GRF_LDA
  | GRF_LDD
  | GRF_MATCH
  | CORE_STAT
  | CORE_RST
  | CORE_TDT
  | CORE_FRM
  | CORE_FSP
  | CORE_LKINFO
  | CORE_LKADR
  | CORE_WDT
  | CORE_WDK
  | VU_STAT
  | VU_VTAB
  | VU_VLOAD
  | VU_PEND
  | VU_MASK
  | VU_ACT
  | VU_LOST
  | VU_VCTL
  | VU_ROUTE
  | BANK_OWN
  | BANK_STAT
  | BANK_LOG
  | MEM_ECCADR
  | MEM_ECCCNT
  | MEM_SCRUB
  | MEM_IEN
  | LOCK_ACQ
  | LOCK_CMD
  | LOCK_OWN
  | LOCK_LEASE
  | LOCK_STAT
  | TIDE_CSEL
  | TIDE_COMMIT
  | TIDE_STAT
  | TIDE_EPOCH
  | TSLOT_STAT
  | TSLOT_ATH
  | TSLOT_ATL
  | SNAP_LIST
  | SNAP_DST
  | SNAP_ATH
  | SNAP_ATL
  | SNAP_GO
  | SNAP_STAT
  | FL_BSTAT
  | FL_BADDR
  | FL_IEN
  | FL_RSEL
  | FL_RING
  | FL_PROT
  | FL_OTPLK
  | FL_ECCCNT
  | FL_RECOV
  | TB_CTL
  | TB_STAT
  | TB_NOWH
  | TB_NOWL
  | TB_SETH
  | TB_SETL
  | TB_PPSDLY
  | TB_PPSWIN
  | TB_PPSSEC
  | TB_PPSERR
  | TB_RATE
  | TB_SLEW
  | TB_UNCERT
  | TB_XRATIO
  | TB_PPSREJ
  | CLK_STAT
  | PWR_SLEEP
  | PWR_STAT
  | PWR_QCTL
  | PWR_WPIN
  | PWR_ALARM
  | PWR_PFSTAT
  | PWR_DEVRST
  | PWR_IEN
  | MODE_CTL
  | MODE_STAT
  | TJ_SPRING_LIMIT
  | SPRING_MAX_S
  | MODE_DROOP
  | TJ_EST
  | LK_CTL
  | LK_PSTAT
  | LK_PNODE
  | LK_ECODE
  | LK_ECRC
  | LK_EAUTH
  | LK_ERTRY
  | LK_EDROP
  | LK_QUAR
  | LK_TDLY
  | LK_NET
  | LK_RETRY
  | LK_CAP
  | LK_TMO
  | LK_TCTL
  | LK_WTAB
  | LK_WLOAD
  | LK_GSTAT
  | LK_REFLOG
  | LK_SNAPB
  | LK_IEN
  | LK_TXD
  | LK_TXW
  | LK_TXO
  | LK_TXL
  | LK_TXS
  | LK_ROUTE
  | GT_TREE
  | GT_CTL
  | GT_BIND
  | GT_BINDID
  | GT_STAT
  | GT_LAST
  | GT_GEPOCH
  | GT_RID
  | GT_IGN
  | GT_PID
  | GT_PINH
  | GT_PINL
  | GT_PLEAD
  | GT_PGUARD
  | GT_PCTL
  | GT_PDST
  | GT_RES
  | GT_RESN
  | GT_DREP
  | GT_DREPID
  | GT_PRID
  | BOOT_STAT
  | BOOT_RSTC
  | BEHAVIOUR_LEVEL
  | BOOT_VER
  | KU_CMD
  | KU_STAT
  | KU_RNG
  | KU_DIN
  | KU_DOUT
  | KU_IEN
  | DBG_CTL
  | DBG_SCOPE
  | TMP_STAT
  | SMB_CTL
  | SMB_STAT
  | SMB_TMO
  | SMB_CAPH
  | SMB_CAPD
  | SMB_RSPD
  | SMB_POP
  | SMB_RSP
  | SMB_IMG
  | SPI_CTL
  | SPI_STAT
  | SPI_TX
  | SPI_RX
  | GPIO_CFG
  | GPIO_OUT
  | GPIO_IN
  | MF_VTIMEH
  | MF_VTIMEL
  | MF_VIMPH
  | MF_VIMPL
  | MF_VEXPH
  | MF_VEXPL
  | MF_VV2H
  | MF_VV2L
  | MF_VI2H
  | MF_VI2L
  | MF_VDMAXH
  | MF_VDMAXL
  | MF_VDLASTH
  | MF_VDLASTL
  | MF_VVSTAMPH
  | MF_VVSTAMPL
  deriving DecidableEq, Repr

end Sys2Proof.Machine
end

