-- ==== Sys2Proof/Machine/Fields.lean ====
section
/-! DEFINITION. The fields of the registers by name, written REGISTER_field, with their bit positions from the register tables. -/

namespace Sys2Proof.Machine

/-- A register field: bits `lo + w - 1 .. lo` of a register. -/
structure Fld where
  reg : RegName
  lo : Nat
  w : Nat
  deriving DecidableEq, Repr

namespace F

/-! ICH_CTL (02_integrator_channels.md, R61). -/
abbrev ICH_CTL_arm : Fld := ⟨.ICH_CTL, 17, 1⟩
abbrev ICH_CTL_en : Fld := ⟨.ICH_CTL, 16, 1⟩
abbrev ICH_CTL_calsel : Fld := ⟨.ICH_CTL, 14, 2⟩
abbrev ICH_CTL_mode : Fld := ⟨.ICH_CTL, 13, 1⟩
abbrev ICH_CTL_trgsrc : Fld := ⟨.ICH_CTL, 12, 1⟩
/-! ICH_TRGCU (02_integrator_channels.md, R61). -/
abbrev ICH_TRGCU_cuev : Fld := ⟨.ICH_TRGCU, 8, 3⟩
abbrev ICH_TRGCU_cu : Fld := ⟨.ICH_TRGCU, 0, 7⟩
/-! ICH_TRGEV (02_integrator_channels.md, R61). -/
abbrev ICH_TRGEV_ch : Fld := ⟨.ICH_TRGEV, 0, 9⟩
/-! ICH_DELAY (02_integrator_channels.md, R61). -/
abbrev ICH_DELAY_d : Fld := ⟨.ICH_DELAY, 0, 18⟩
/-! ICH_WLEN (02_integrator_channels.md, R61). -/
abbrev ICH_WLEN_len : Fld := ⟨.ICH_WLEN, 0, 18⟩
/-! ICH_PROBE (02_integrator_channels.md, R61). -/
abbrev ICH_PROBE_n : Fld := ⟨.ICH_PROBE, 0, 16⟩
/-! ICH_PROBETHR (02_integrator_channels.md, R61). -/
abbrev ICH_PROBETHR_thr : Fld := ⟨.ICH_PROBETHR, 0, 18⟩
/-! ICH_GAINC (02_integrator_channels.md, R61). -/
abbrev ICH_GAINC_c : Fld := ⟨.ICH_GAINC, 0, 18⟩
/-! ICH_OFFC (02_integrator_channels.md, R61). -/
abbrev ICH_OFFC_o : Fld := ⟨.ICH_OFFC, 0, 18⟩
/-! ICH_IEN (02_integrator_channels.md, R61). -/
abbrev ICH_IEN_wdone : Fld := ⟨.ICH_IEN, 17, 1⟩
abbrev ICH_IEN_ovld : Fld := ⟨.ICH_IEN, 16, 1⟩
abbrev ICH_IEN_open : Fld := ⟨.ICH_IEN, 15, 1⟩
abbrev ICH_IEN_miss : Fld := ⟨.ICH_IEN, 14, 1⟩
/-! ICH_STAT (02_integrator_channels.md, R61). -/
abbrev ICH_STAT_ready : Fld := ⟨.ICH_STAT, 17, 1⟩
abbrev ICH_STAT_ovldnow : Fld := ⟨.ICH_STAT, 16, 1⟩
abbrev ICH_STAT_ovld : Fld := ⟨.ICH_STAT, 15, 1⟩
abbrev ICH_STAT_openp : Fld := ⟨.ICH_STAT, 14, 1⟩
abbrev ICH_STAT_openn : Fld := ⟨.ICH_STAT, 13, 1⟩
abbrev ICH_STAT_miss : Fld := ⟨.ICH_STAT, 12, 1⟩
abbrev ICH_STAT_cfgerr : Fld := ⟨.ICH_STAT, 11, 1⟩
/-! ICH_MISSCNT (02_integrator_channels.md, R61). -/
abbrev ICH_MISSCNT_count : Fld := ⟨.ICH_MISSCNT, 0, 18⟩
/-! ICH_RSTAT (02_integrator_channels.md, R61). -/
abbrev ICH_RSTAT_seq : Fld := ⟨.ICH_RSTAT, 10, 8⟩
abbrev ICH_RSTAT_ovld : Fld := ⟨.ICH_RSTAT, 9, 1⟩
abbrev ICH_RSTAT_probe : Fld := ⟨.ICH_RSTAT, 8, 1⟩
abbrev ICH_RSTAT_leg : Fld := ⟨.ICH_RSTAT, 7, 1⟩
abbrev ICH_RSTAT_merged : Fld := ⟨.ICH_RSTAT, 6, 1⟩
abbrev ICH_RSTAT_forced : Fld := ⟨.ICH_RSTAT, 5, 1⟩
abbrev ICH_RSTAT_sat : Fld := ⟨.ICH_RSTAT, 4, 1⟩
abbrev ICH_RSTAT_cal : Fld := ⟨.ICH_RSTAT, 3, 1⟩
/-! ICH_NORM (02_integrator_channels.md, R61). -/
abbrev ICH_NORM_value : Fld := ⟨.ICH_NORM, 0, 18⟩
/-! ICH_RAW (02_integrator_channels.md, R61). -/
abbrev ICH_RAW_qu : Fld := ⟨.ICH_RAW, 0, 36⟩
/-! ICH_TLEN (02_integrator_channels.md, R61). -/
abbrev ICH_TLEN_t : Fld := ⟨.ICH_TLEN, 0, 36⟩
/-! ICH_CALCTL (02_integrator_channels.md, R61). -/
abbrev ICH_CALCTL_refen : Fld := ⟨.ICH_CALCTL, 17, 1⟩
abbrev ICH_CALCTL_refready : Fld := ⟨.ICH_CALCTL, 16, 1⟩
/-! WC_CTL (03_window_comparators.md, R78). -/
abbrev WC_CTL_en : Fld := ⟨.WC_CTL, 17, 1⟩
abbrev WC_CTL_chk : Fld := ⟨.WC_CTL, 14, 3⟩
abbrev WC_CTL_hyst : Fld := ⟨.WC_CTL, 10, 4⟩
abbrev WC_CTL_blkev : Fld := ⟨.WC_CTL, 9, 1⟩
/-! WC_THH (03_window_comparators.md, R78). -/
abbrev WC_THH_code : Fld := ⟨.WC_THH, 0, 12⟩
/-! WC_THL (03_window_comparators.md, R78). -/
abbrev WC_THL_code : Fld := ⟨.WC_THL, 0, 12⟩
/-! WC_TRIP (03_window_comparators.md, R78). -/
abbrev WC_TRIP_hi : Fld := ⟨.WC_TRIP, 17, 1⟩
abbrev WC_TRIP_lo : Fld := ⟨.WC_TRIP, 16, 1⟩
abbrev WC_TRIP_zone : Fld := ⟨.WC_TRIP, 0, 16⟩
/-! WC_BLKSRC (03_window_comparators.md, R78). -/
abbrev WC_BLKSRC_cuev : Fld := ⟨.WC_BLKSRC, 8, 3⟩
abbrev WC_BLKSRC_cu : Fld := ⟨.WC_BLKSRC, 0, 7⟩
/-! WC_BLKLEN (03_window_comparators.md, R78). -/
abbrev WC_BLKLEN_len : Fld := ⟨.WC_BLKLEN, 0, 10⟩
/-! WC_IEN (03_window_comparators.md, R78). -/
abbrev WC_IEN_hi : Fld := ⟨.WC_IEN, 17, 1⟩
abbrev WC_IEN_lo : Fld := ⟨.WC_IEN, 16, 1⟩
abbrev WC_IEN_blk : Fld := ⟨.WC_IEN, 15, 1⟩
/-! WC_STAT (03_window_comparators.md, R78). -/
abbrev WC_STAT_ready : Fld := ⟨.WC_STAT, 17, 1⟩
abbrev WC_STAT_hinow : Fld := ⟨.WC_STAT, 16, 1⟩
abbrev WC_STAT_lonow : Fld := ⟨.WC_STAT, 15, 1⟩
abbrev WC_STAT_blknow : Fld := ⟨.WC_STAT, 14, 1⟩
abbrev WC_STAT_chkbusy : Fld := ⟨.WC_STAT, 13, 1⟩
abbrev WC_STAT_hi : Fld := ⟨.WC_STAT, 12, 1⟩
abbrev WC_STAT_lo : Fld := ⟨.WC_STAT, 11, 1⟩
abbrev WC_STAT_blkhit : Fld := ⟨.WC_STAT, 10, 1⟩
abbrev WC_STAT_cfgerr : Fld := ⟨.WC_STAT, 9, 1⟩
/-! WC_GUARD (03_window_comparators.md, R78). -/
abbrev WC_GUARD_frz : Fld := ⟨.WC_GUARD, 17, 1⟩
/-! BERTH_CTL (04_loop_engine.md, R106). -/
abbrev BERTH_CTL_arm : Fld := ⟨.BERTH_CTL, 17, 1⟩
abbrev BERTH_CTL_pri : Fld := ⟨.BERTH_CTL, 15, 2⟩
abbrev BERTH_CTL_crane : Fld := ⟨.BERTH_CTL, 12, 3⟩
abbrev BERTH_CTL_cset : Fld := ⟨.BERTH_CTL, 8, 4⟩
/-! BERTH_TRG (04_loop_engine.md, R106). -/
abbrev BERTH_TRG_src : Fld := ⟨.BERTH_TRG, 16, 2⟩
abbrev BERTH_TRG_num : Fld := ⟨.BERTH_TRG, 0, 10⟩
/-! BERTH_PROG (04_loop_engine.md, R106). -/
abbrev BERTH_PROG_base : Fld := ⟨.BERTH_PROG, 4, 14⟩
abbrev BERTH_PROG_lenm1 : Fld := ⟨.BERTH_PROG, 0, 4⟩
/-! BERTH_DL (04_loop_engine.md, R106). -/
abbrev BERTH_DL_dl : Fld := ⟨.BERTH_DL, 0, 18⟩
/-! BERTH_GAIN (04_loop_engine.md, R106). -/
abbrev BERTH_GAIN_nregm1 : Fld := ⟨.BERTH_GAIN, 16, 2⟩
abbrev BERTH_GAIN_svar : Fld := ⟨.BERTH_GAIN, 12, 4⟩
abbrev BERTH_GAIN_step : Fld := ⟨.BERTH_GAIN, 6, 6⟩
abbrev BERTH_GAIN_hys : Fld := ⟨.BERTH_GAIN, 0, 6⟩
/-! BERTH_GBASE (04_loop_engine.md, R106). -/
abbrev BERTH_GBASE_base : Fld := ⟨.BERTH_GBASE, 0, 14⟩
/-! BERTH_BND (04_loop_engine.md, R106). -/
abbrev BERTH_BND_b : Fld := ⟨.BERTH_BND, 0, 18⟩
/-! BERTH_GRP (04_loop_engine.md, R106). -/
abbrev BERTH_GRP_mem : Fld := ⟨.BERTH_GRP, 17, 1⟩
abbrev BERTH_GRP_close : Fld := ⟨.BERTH_GRP, 16, 1⟩
abbrev BERTH_GRP_intw : Fld := ⟨.BERTH_GRP, 12, 4⟩
abbrev BERTH_GRP_grp : Fld := ⟨.BERTH_GRP, 0, 7⟩
/-! BERTH_STAT (04_loop_engine.md, R106). -/
abbrev BERTH_STAT_admpend : Fld := ⟨.BERTH_STAT, 17, 1⟩
abbrev BERTH_STAT_refused : Fld := ⟨.BERTH_STAT, 16, 1⟩
abbrev BERTH_STAT_cfgerr : Fld := ⟨.BERTH_STAT, 15, 1⟩
abbrev BERTH_STAT_ready : Fld := ⟨.BERTH_STAT, 14, 1⟩
abbrev BERTH_STAT_running : Fld := ⟨.BERTH_STAT, 13, 1⟩
abbrev BERTH_STAT_late : Fld := ⟨.BERTH_STAT, 12, 1⟩
abbrev BERTH_STAT_region : Fld := ⟨.BERTH_STAT, 10, 2⟩
abbrev BERTH_STAT_grpmiss : Fld := ⟨.BERTH_STAT, 9, 1⟩
/-! BERTH_IO (04_loop_engine.md, R106). -/
abbrev BERTH_IO_ch : Fld := ⟨.BERTH_IO, 7, 7⟩
abbrev BERTH_IO_cu : Fld := ⟨.BERTH_IO, 0, 7⟩
/-! BERTH_OVR (04_loop_engine.md, R106). -/
abbrev BERTH_OVR_ovr : Fld := ⟨.BERTH_OVR, 17, 1⟩
abbrev BERTH_OVR_skips : Fld := ⟨.BERTH_OVR, 0, 16⟩
/-! CR_SEP (04_loop_engine.md, R106). -/
abbrev CR_SEP_sep : Fld := ⟨.CR_SEP, 0, 12⟩
/-! CR_STAT (04_loop_engine.md, R106). -/
abbrev CR_STAT_sepf : Fld := ⟨.CR_STAT, 17, 1⟩
abbrev CR_STAT_ovr : Fld := ⟨.CR_STAT, 16, 1⟩
abbrev CR_STAT_busy : Fld := ⟨.CR_STAT, 15, 1⟩
abbrev CR_STAT_narmed : Fld := ⟨.CR_STAT, 0, 8⟩
/-! CR_UTIL (04_loop_engine.md, R106). -/
abbrev CR_UTIL_busy : Fld := ⟨.CR_UTIL, 0, 14⟩
/-! CR_IEN (04_loop_engine.md, R106). -/
abbrev CR_IEN_sepf : Fld := ⟨.CR_IEN, 17, 1⟩
abbrev CR_IEN_ovr : Fld := ⟨.CR_IEN, 16, 1⟩
/-! CR_SEPB (04_loop_engine.md, R106). -/
abbrev CR_SEPB_berth : Fld := ⟨.CR_SEPB, 0, 10⟩
/-! CG_CTL (04_loop_engine.md, R106). -/
abbrev CG_CTL_en : Fld := ⟨.CG_CTL, 17, 1⟩
abbrev CG_CTL_mode : Fld := ⟨.CG_CTL, 16, 1⟩
abbrev CG_CTL_pol : Fld := ⟨.CG_CTL, 15, 1⟩
/-! CG_STAT (04_loop_engine.md, R106). -/
abbrev CG_STAT_abort : Fld := ⟨.CG_STAT, 17, 1⟩
abbrev CG_STAT_nmem : Fld := ⟨.CG_STAT, 13, 3⟩
abbrev CG_STAT_winner : Fld := ⟨.CG_STAT, 0, 10⟩
/-! CG_OUT (04_loop_engine.md, R106). -/
abbrev CG_OUT_y : Fld := ⟨.CG_OUT, 0, 18⟩
/-! ENG_CTL (04_loop_engine.md, R106). -/
abbrev ENG_CTL_en : Fld := ⟨.ENG_CTL, 17, 1⟩
/-! ENG_STAT (04_loop_engine.md, R106). -/
abbrev ENG_STAT_cfgerr : Fld := ⟨.ENG_STAT, 17, 1⟩
abbrev ENG_STAT_stwerr : Fld := ⟨.ENG_STAT, 16, 1⟩
/-! ENG_ADMERR (04_loop_engine.md, R106). -/
abbrev ENG_ADMERR_code : Fld := ⟨.ENG_ADMERR, 14, 4⟩
abbrev ENG_ADMERR_berth : Fld := ⟨.ENG_ADMERR, 0, 10⟩
/-! ENG_SWTRG (04_loop_engine.md, R106). -/
abbrev ENG_SWTRG_berth : Fld := ⟨.ENG_SWTRG, 0, 10⟩
/-! ENG_IEN (04_loop_engine.md, R106). -/
abbrev ENG_IEN_adm : Fld := ⟨.ENG_IEN, 17, 1⟩
/-! CU_CTL (06_counter_units.md, R154). -/
abbrev CU_CTL_run : Fld := ⟨.CU_CTL, 17, 1⟩
abbrev CU_CTL_mode : Fld := ⟨.CU_CTL, 15, 2⟩
abbrev CU_CTL_spp : Fld := ⟨.CU_CTL, 13, 2⟩
abbrev CU_CTL_bmode : Fld := ⟨.CU_CTL, 12, 1⟩
abbrev CU_CTL_oen : Fld := ⟨.CU_CTL, 11, 1⟩
abbrev CU_CTL_pola : Fld := ⟨.CU_CTL, 10, 1⟩
abbrev CU_CTL_polb : Fld := ⟨.CU_CTL, 9, 1⟩
/-! CU_LDM (06_counter_units.md, R154). -/
abbrev CU_LDM_per : Fld := ⟨.CU_LDM, 16, 2⟩
abbrev CU_LDM_c0 : Fld := ⟨.CU_LDM, 14, 2⟩
abbrev CU_LDM_c1 : Fld := ⟨.CU_LDM, 12, 2⟩
abbrev CU_LDM_c2 : Fld := ⟨.CU_LDM, 10, 2⟩
abbrev CU_LDM_c3 : Fld := ⟨.CU_LDM, 8, 2⟩
/-! CU_SYNC (06_counter_units.md, R154). -/
abbrev CU_SYNC_master : Fld := ⟨.CU_SYNC, 15, 3⟩
abbrev CU_SYNC_mev : Fld := ⟨.CU_SYNC, 12, 3⟩
abbrev CU_SYNC_gate : Fld := ⟨.CU_SYNC, 11, 1⟩
abbrev CU_SYNC_rst : Fld := ⟨.CU_SYNC, 10, 1⟩
abbrev CU_SYNC_clk : Fld := ⟨.CU_SYNC, 9, 1⟩
abbrev CU_SYNC_xev : Fld := ⟨.CU_SYNC, 8, 1⟩
/-! CU_SYNCEV (06_counter_units.md, R154). -/
abbrev CU_SYNCEV_ch : Fld := ⟨.CU_SYNCEV, 0, 9⟩
/-! CU_PER (06_counter_units.md, R154). -/
abbrev CU_PER_p : Fld := ⟨.CU_PER, 0, 28⟩
/-! CU_PERS (06_counter_units.md, R154). -/
abbrev CU_PERS_p : Fld := ⟨.CU_PERS, 0, 28⟩
/-! CU_CMP (06_counter_units.md, R154). -/
abbrev CU_CMP_e : Fld := ⟨.CU_CMP, 0, 36⟩
/-! CU_PHASE (06_counter_units.md, R154). -/
abbrev CU_PHASE_v : Fld := ⟨.CU_PHASE, 0, 36⟩
/-! CU_CNT (06_counter_units.md, R154). -/
abbrev CU_CNT_count : Fld := ⟨.CU_CNT, 0, 36⟩
/-! CU_DTR (06_counter_units.md, R154). -/
abbrev CU_DTR_t : Fld := ⟨.CU_DTR, 0, 18⟩
/-! CU_DTF (06_counter_units.md, R154). -/
abbrev CU_DTF_t : Fld := ⟨.CU_DTF, 0, 18⟩
/-! CU_MINP (06_counter_units.md, R154). -/
abbrev CU_MINP_t : Fld := ⟨.CU_MINP, 0, 18⟩
/-! CU_PEND (06_counter_units.md, R154). -/
abbrev CU_PEND_per : Fld := ⟨.CU_PEND, 17, 1⟩
abbrev CU_PEND_cmp : Fld := ⟨.CU_PEND, 13, 4⟩
abbrev CU_PEND_dt : Fld := ⟨.CU_PEND, 12, 1⟩
/-! CU_CARRY (06_counter_units.md, R154). -/
abbrev CU_CARRY_c : Fld := ⟨.CU_CARRY, 0, 36⟩
/-! CU_TZM (06_counter_units.md, R154). -/
abbrev CU_TZM_zone : Fld := ⟨.CU_TZM, 0, 16⟩
/-! CU_RESP (06_counter_units.md, R154). -/
abbrev CU_RESP_trA : Fld := ⟨.CU_RESP, 16, 2⟩
abbrev CU_RESP_trB : Fld := ⟨.CU_RESP, 14, 2⟩
abbrev CU_RESP_pfA : Fld := ⟨.CU_RESP, 12, 2⟩
abbrev CU_RESP_pfB : Fld := ⟨.CU_RESP, 10, 2⟩
abbrev CU_RESP_olk : Fld := ⟨.CU_RESP, 9, 1⟩
abbrev CU_RESP_owner : Fld := ⟨.CU_RESP, 0, 4⟩
/-! CU_STAT (06_counter_units.md, R154). -/
abbrev CU_STAT_running : Fld := ⟨.CU_STAT, 17, 1⟩
abbrev CU_STAT_tripped : Fld := ⟨.CU_STAT, 16, 1⟩
abbrev CU_STAT_pfr : Fld := ⟨.CU_STAT, 15, 1⟩
abbrev CU_STAT_olkt : Fld := ⟨.CU_STAT, 14, 1⟩
abbrev CU_STAT_readrun : Fld := ⟨.CU_STAT, 13, 1⟩
abbrev CU_STAT_late : Fld := ⟨.CU_STAT, 12, 1⟩
abbrev CU_STAT_cfgerr : Fld := ⟨.CU_STAT, 11, 1⟩
abbrev CU_STAT_carryovf : Fld := ⟨.CU_STAT, 10, 1⟩
abbrev CU_STAT_short : Fld := ⟨.CU_STAT, 9, 1⟩
abbrev CU_STAT_phserr : Fld := ⟨.CU_STAT, 8, 1⟩
/-! CU_FLAG (06_counter_units.md, R154). -/
abbrev CU_FLAG_prd : Fld := ⟨.CU_FLAG, 17, 1⟩
abbrev CU_FLAG_ovf : Fld := ⟨.CU_FLAG, 16, 1⟩
abbrev CU_FLAG_m : Fld := ⟨.CU_FLAG, 12, 4⟩
abbrev CU_FLAG_cap0 : Fld := ⟨.CU_FLAG, 11, 1⟩
abbrev CU_FLAG_cap1 : Fld := ⟨.CU_FLAG, 10, 1⟩
abbrev CU_FLAG_capovf0 : Fld := ⟨.CU_FLAG, 9, 1⟩
abbrev CU_FLAG_capovf1 : Fld := ⟨.CU_FLAG, 8, 1⟩
/-! CU_IEN (06_counter_units.md, R154). -/
abbrev CU_IEN_bits : Fld := ⟨.CU_IEN, 8, 10⟩
/-! CU_CAPSRC (06_counter_units.md, R154). -/
abbrev CU_CAPSRC_en : Fld := ⟨.CU_CAPSRC, 17, 1⟩
abbrev CU_CAPSRC_ts : Fld := ⟨.CU_CAPSRC, 16, 1⟩
abbrev CU_CAPSRC_swcap : Fld := ⟨.CU_CAPSRC, 15, 1⟩
abbrev CU_CAPSRC_ch : Fld := ⟨.CU_CAPSRC, 0, 9⟩
/-! CU_CAPSTAT (06_counter_units.md, R154). -/
abbrev CU_CAPSTAT_n0 : Fld := ⟨.CU_CAPSTAT, 15, 3⟩
abbrev CU_CAPSTAT_n1 : Fld := ⟨.CU_CAPSTAT, 12, 3⟩
/-! CU_CAP (06_counter_units.md, R154). -/
abbrev CU_CAP_t : Fld := ⟨.CU_CAP, 0, 36⟩
/-! CU_CAPTSH (06_counter_units.md, R154). -/
abbrev CU_CAPTSH_v : Fld := ⟨.CU_CAPTSH, 0, 36⟩
/-! CU_CAPTSL (06_counter_units.md, R154). -/
abbrev CU_CAPTSL_v : Fld := ⟨.CU_CAPTSL, 0, 36⟩
/-! TZ_PIN (06_counter_units.md, R154). -/
abbrev TZ_PIN_pin : Fld := ⟨.TZ_PIN, 0, 16⟩
/-! TZ_CORE (06_counter_units.md, R154). -/
abbrev TZ_CORE_core : Fld := ⟨.TZ_CORE, 0, 16⟩
/-! TZ_LINK (06_counter_units.md, R154). -/
abbrev TZ_LINK_force : Fld := ⟨.TZ_LINK, 17, 1⟩
abbrev TZ_LINK_port : Fld := ⟨.TZ_LINK, 0, 4⟩
/-! TZ_STAT (06_counter_units.md, R154). -/
abbrev TZ_STAT_lat : Fld := ⟨.TZ_STAT, 17, 1⟩
abbrev TZ_STAT_now : Fld := ⟨.TZ_STAT, 16, 1⟩
abbrev TZ_STAT_first : Fld := ⟨.TZ_STAT, 0, 8⟩
/-! TZ_IEN (06_counter_units.md, R154). -/
abbrev TZ_IEN_lat : Fld := ⟨.TZ_IEN, 17, 1⟩
/-! TRIP_POL (06_counter_units.md, R154). -/
abbrev TRIP_POL_pol : Fld := ⟨.TRIP_POL, 0, 16⟩
/-! EV_SRC (07_event_fabric.md, R169). -/
abbrev EV_SRC_cls : Fld := ⟨.EV_SRC, 13, 5⟩
abbrev EV_SRC_inst : Fld := ⟨.EV_SRC, 6, 7⟩
abbrev EV_SRC_ev : Fld := ⟨.EV_SRC, 2, 4⟩
/-! EV_CTL (07_event_fabric.md, R169). -/
abbrev EV_CTL_en : Fld := ⟨.EV_CTL, 17, 1⟩
abbrev EV_CTL_inv : Fld := ⟨.EV_CTL, 16, 1⟩
abbrev EV_CTL_wake : Fld := ⟨.EV_CTL, 15, 1⟩
/-! EV_OWN (07_event_fabric.md, R169). -/
abbrev EV_OWN_seal : Fld := ⟨.EV_OWN, 17, 1⟩
abbrev EV_OWN_core : Fld := ⟨.EV_OWN, 0, 5⟩
/-! EV_STAT (07_event_fabric.md, R169). -/
abbrev EV_STAT_lvl : Fld := ⟨.EV_STAT, 17, 1⟩
abbrev EV_STAT_merge : Fld := ⟨.EV_STAT, 16, 1⟩
abbrev EV_STAT_cfgerr : Fld := ⟨.EV_STAT, 15, 1⟩
abbrev EV_STAT_tapovf : Fld := ⟨.EV_STAT, 14, 1⟩
abbrev EV_STAT_relay : Fld := ⟨.EV_STAT, 13, 1⟩
abbrev EV_STAT_taps : Fld := ⟨.EV_STAT, 0, 7⟩
/-! EV_SW (07_event_fabric.md, R169). -/
abbrev EV_SW_pulse : Fld := ⟨.EV_SW, 17, 1⟩
/-! LC_IN (07_event_fabric.md, R169). -/
abbrev LC_IN_en : Fld := ⟨.LC_IN, 17, 1⟩
abbrev LC_IN_ch : Fld := ⟨.LC_IN, 0, 9⟩
/-! LC_LUT (07_event_fabric.md, R169). -/
abbrev LC_LUT_lut : Fld := ⟨.LC_LUT, 0, 16⟩
/-! LC_CTL (07_event_fabric.md, R169). -/
abbrev LC_CTL_en : Fld := ⟨.LC_CTL, 17, 1⟩
abbrev LC_CTL_ff : Fld := ⟨.LC_CTL, 15, 2⟩
abbrev LC_CTL_filt : Fld := ⟨.LC_CTL, 13, 2⟩
abbrev LC_CTL_mclk : Fld := ⟨.LC_CTL, 10, 3⟩
abbrev LC_CTL_ien : Fld := ⟨.LC_CTL, 9, 1⟩
abbrev LC_CTL_rearm : Fld := ⟨.LC_CTL, 8, 1⟩
/-! LC_FILT (07_event_fabric.md, R169). -/
abbrev LC_FILT_n : Fld := ⟨.LC_FILT, 0, 16⟩
/-! LC_STAT (07_event_fabric.md, R169). -/
abbrev LC_STAT_out : Fld := ⟨.LC_STAT, 17, 1⟩
abbrev LC_STAT_lut : Fld := ⟨.LC_STAT, 16, 1⟩
abbrev LC_STAT_filt : Fld := ⟨.LC_STAT, 15, 1⟩
abbrev LC_STAT_hold : Fld := ⟨.LC_STAT, 14, 1⟩
abbrev LC_STAT_cfgerr : Fld := ⟨.LC_STAT, 13, 1⟩
abbrev LC_STAT_rise : Fld := ⟨.LC_STAT, 12, 1⟩
/-! LC_OWN (07_event_fabric.md, R169). -/
abbrev LC_OWN_seal : Fld := ⟨.LC_OWN, 17, 1⟩
abbrev LC_OWN_core : Fld := ⟨.LC_OWN, 0, 5⟩
/-! SC_CTL (08_survey_and_metering.md, R192). -/
abbrev SC_CTL_en : Fld := ⟨.SC_CTL, 17, 1⟩
abbrev SC_CTL_ien : Fld := ⟨.SC_CTL, 16, 1⟩
abbrev SC_CTL_lenm1 : Fld := ⟨.SC_CTL, 10, 6⟩
/-! SC_STAT (08_survey_and_metering.md, R192). -/
abbrev SC_STAT_entry : Fld := ⟨.SC_STAT, 12, 6⟩
abbrev SC_STAT_rep : Fld := ⟨.SC_STAT, 4, 8⟩
abbrev SC_STAT_cfgerr : Fld := ⟨.SC_STAT, 3, 1⟩
abbrev SC_STAT_open : Fld := ⟨.SC_STAT, 2, 1⟩
/-! SC_SEQA (08_survey_and_metering.md, R192). -/
abbrev SC_SEQA_ch : Fld := ⟨.SC_SEQA, 29, 7⟩
abbrev SC_SEQA_repm1 : Fld := ⟨.SC_SEQA, 21, 8⟩
abbrev SC_SEQA_wk : Fld := ⟨.SC_SEQA, 19, 2⟩
abbrev SC_SEQA_bo : Fld := ⟨.SC_SEQA, 18, 1⟩
abbrev SC_SEQA_pre : Fld := ⟨.SC_SEQA, 0, 16⟩
/-! SC_SEQB (08_survey_and_metering.md, R192). -/
abbrev SC_SEQB_wp : Fld := ⟨.SC_SEQB, 0, 16⟩
/-! SV_RES (08_survey_and_metering.md, R192). -/
abbrev SV_RES_open : Fld := ⟨.SV_RES, 35, 1⟩
abbrev SV_RES_ovr : Fld := ⟨.SV_RES, 34, 1⟩
abbrev SV_RES_fb : Fld := ⟨.SV_RES, 33, 1⟩
abbrev SV_RES_shared : Fld := ⟨.SV_RES, 32, 1⟩
abbrev SV_RES_seq : Fld := ⟨.SV_RES, 24, 8⟩
abbrev SV_RES_value : Fld := ⟨.SV_RES, 0, 24⟩
/-! SC_BOTHR (08_survey_and_metering.md, R192). -/
abbrev SC_BOTHR_th : Fld := ⟨.SC_BOTHR, 0, 11⟩
/-! MT_CTL (08_survey_and_metering.md, R192). -/
abbrev MT_CTL_en : Fld := ⟨.MT_CTL, 17, 1⟩
abbrev MT_CTL_ien : Fld := ⟨.MT_CTL, 16, 1⟩
abbrev MT_CTL_wc : Fld := ⟨.MT_CTL, 0, 7⟩
/-! MT_LIM (08_survey_and_metering.md, R192). -/
abbrev MT_LIM_pmin : Fld := ⟨.MT_LIM, 18, 18⟩
abbrev MT_LIM_pmax : Fld := ⟨.MT_LIM, 0, 18⟩
/-! MT_STAT (08_survey_and_metering.md, R192). -/
abbrev MT_STAT_fb : Fld := ⟨.MT_STAT, 35, 1⟩
abbrev MT_STAT_glitch : Fld := ⟨.MT_STAT, 34, 1⟩
abbrev MT_STAT_period : Fld := ⟨.MT_STAT, 0, 29⟩
/-! MF_CTL (08_survey_and_metering.md, R192). -/
abbrev MF_CTL_en : Fld := ⟨.MF_CTL, 17, 1⟩
abbrev MF_CTL_take : Fld := ⟨.MF_CTL, 16, 1⟩
abbrev MF_CTL_load : Fld := ⟨.MF_CTL, 15, 1⟩
abbrev MF_CTL_tarm : Fld := ⟨.MF_CTL, 14, 1⟩
abbrev MF_CTL_ntar : Fld := ⟨.MF_CTL, 11, 3⟩
abbrev MF_CTL_tar : Fld := ⟨.MF_CTL, 8, 3⟩
abbrev MF_CTL_dmin : Fld := ⟨.MF_CTL, 2, 6⟩
abbrev MF_CTL_ien : Fld := ⟨.MF_CTL, 1, 1⟩
/-! MF_SRC (08_survey_and_metering.md, R192). -/
abbrev MF_SRC_vch : Fld := ⟨.MF_SRC, 7, 7⟩
abbrev MF_SRC_ich : Fld := ⟨.MF_SRC, 0, 7⟩
/-! MF_STAT (08_survey_and_metering.md, R192). -/
abbrev MF_STAT_vpend : Fld := ⟨.MF_STAT, 17, 1⟩
abbrev MF_STAT_frozen : Fld := ⟨.MF_STAT, 16, 1⟩
abbrev MF_STAT_cfgerr : Fld := ⟨.MF_STAT, 15, 1⟩
abbrev MF_STAT_late : Fld := ⟨.MF_STAT, 14, 1⟩
abbrev MF_STAT_gap : Fld := ⟨.MF_STAT, 13, 1⟩
abbrev MF_STAT_ovld : Fld := ⟨.MF_STAT, 12, 1⟩
/-! MF_TCHG (08_survey_and_metering.md, R192). -/
abbrev MF_TCHG_s : Fld := ⟨.MF_TCHG, 0, 36⟩
/-! MFU_JCTL (08_survey_and_metering.md, R192). -/
abbrev MFU_JCTL_en : Fld := ⟨.MFU_JCTL, 17, 1⟩
abbrev MFU_JCTL_fb : Fld := ⟨.MFU_JCTL, 7, 10⟩
/-! MFU_JPER (08_survey_and_metering.md, R192). -/
abbrev MFU_JPER_per : Fld := ⟨.MFU_JPER, 0, 18⟩
/-! MFU_JSTAT (08_survey_and_metering.md, R192). -/
abbrev MFU_JSTAT_worn : Fld := ⟨.MFU_JSTAT, 17, 1⟩
abbrev MFU_JSTAT_skip : Fld := ⟨.MFU_JSTAT, 16, 1⟩
abbrev MFU_JSTAT_err : Fld := ⟨.MFU_JSTAT, 15, 1⟩
abbrev MFU_JSTAT_cur : Fld := ⟨.MFU_JSTAT, 11, 4⟩
/-! GRF_ID (10_pipeline_and_microcode.md, R245). -/
abbrev GRF_ID_set : Fld := ⟨.GRF_ID, 18, 18⟩
abbrev GRF_ID_rev : Fld := ⟨.GRF_ID, 0, 18⟩
/-! GRF_STAT (10_pipeline_and_microcode.md, R245). -/
abbrev GRF_STAT_loaded : Fld := ⟨.GRF_STAT, 17, 1⟩
abbrev GRF_STAT_locked : Fld := ⟨.GRF_STAT, 16, 1⟩
abbrev GRF_STAT_err : Fld := ⟨.GRF_STAT, 15, 1⟩
abbrev GRF_STAT_nmatch : Fld := ⟨.GRF_STAT, 0, 6⟩
/-! GRF_LOCK (10_pipeline_and_microcode.md, R245). -/
abbrev GRF_LOCK_lk : Fld := ⟨.GRF_LOCK, 17, 1⟩
/-! GRF_LDA (10_pipeline_and_microcode.md, R245). -/
abbrev GRF_LDA_sel : Fld := ⟨.GRF_LDA, 17, 1⟩
abbrev GRF_LDA_idx : Fld := ⟨.GRF_LDA, 0, 8⟩
/-! GRF_LDD (10_pipeline_and_microcode.md, R245). -/
abbrev GRF_LDD_d : Fld := ⟨.GRF_LDD, 0, 28⟩
/-! GRF_MATCH (10_pipeline_and_microcode.md, R245). -/
abbrev GRF_MATCH_en : Fld := ⟨.GRF_MATCH, 35, 1⟩
abbrev GRF_MATCH_rom : Fld := ⟨.GRF_MATCH, 17, 13⟩
abbrev GRF_MATCH_word : Fld := ⟨.GRF_MATCH, 0, 8⟩
/-! CORE_STAT (11_authority_traps_interrupts.md, R272). -/
abbrev CORE_STAT_state : Fld := ⟨.CORE_STAT, 15, 3⟩
abbrev CORE_STAT_wdx : Fld := ⟨.CORE_STAT, 14, 1⟩
abbrev CORE_STAT_cfgerr : Fld := ⟨.CORE_STAT, 13, 1⟩
/-! CORE_RST (11_authority_traps_interrupts.md, R272). -/
abbrev CORE_RST_cmd : Fld := ⟨.CORE_RST, 0, 2⟩
/-! CORE_TDT (11_authority_traps_interrupts.md, R272). -/
abbrev CORE_TDT_en : Fld := ⟨.CORE_TDT, 35, 1⟩
abbrev CORE_TDT_base : Fld := ⟨.CORE_TDT, 0, 27⟩
/-! CORE_FRM (11_authority_traps_interrupts.md, R272). -/
abbrev CORE_FRM_size : Fld := ⟨.CORE_FRM, 27, 9⟩
abbrev CORE_FRM_base : Fld := ⟨.CORE_FRM, 0, 27⟩
/-! CORE_FSP (11_authority_traps_interrupts.md, R272). -/
abbrev CORE_FSP_depth : Fld := ⟨.CORE_FSP, 0, 9⟩
/-! CORE_LKINFO (11_authority_traps_interrupts.md, R272). -/
abbrev CORE_LKINFO_step : Fld := ⟨.CORE_LKINFO, 14, 4⟩
abbrev CORE_LKINFO_kind : Fld := ⟨.CORE_LKINFO, 12, 2⟩
abbrev CORE_LKINFO_cause : Fld := ⟨.CORE_LKINFO, 6, 6⟩
/-! CORE_LKADR (11_authority_traps_interrupts.md, R272). -/
abbrev CORE_LKADR_addr : Fld := ⟨.CORE_LKADR, 0, 27⟩
/-! CORE_WDT (11_authority_traps_interrupts.md, R272). -/
abbrev CORE_WDT_en : Fld := ⟨.CORE_WDT, 35, 1⟩
abbrev CORE_WDT_act : Fld := ⟨.CORE_WDT, 34, 1⟩
abbrev CORE_WDT_tmo : Fld := ⟨.CORE_WDT, 0, 18⟩
/-! CORE_WDK (11_authority_traps_interrupts.md, R272). -/
abbrev CORE_WDK_key : Fld := ⟨.CORE_WDK, 0, 18⟩
/-! VU_STAT (11_authority_traps_interrupts.md, R272). -/
abbrev VU_STAT_cpri : Fld := ⟨.VU_STAT, 14, 4⟩
abbrev VU_STAT_ldbusy : Fld := ⟨.VU_STAT, 13, 1⟩
abbrev VU_STAT_ldfail : Fld := ⟨.VU_STAT, 12, 1⟩
abbrev VU_STAT_cfgerr : Fld := ⟨.VU_STAT, 11, 1⟩
abbrev VU_STAT_ldvec : Fld := ⟨.VU_STAT, 0, 7⟩
/-! VU_VTAB (11_authority_traps_interrupts.md, R272). -/
abbrev VU_VTAB_base : Fld := ⟨.VU_VTAB, 0, 27⟩
/-! VU_VLOAD (11_authority_traps_interrupts.md, R272). -/
abbrev VU_VLOAD_all : Fld := ⟨.VU_VLOAD, 17, 1⟩
abbrev VU_VLOAD_vec : Fld := ⟨.VU_VLOAD, 0, 7⟩
/-! VU_PEND (11_authority_traps_interrupts.md, R272). -/
abbrev VU_PEND_v : Fld := ⟨.VU_PEND, 0, 16⟩
/-! VU_MASK (11_authority_traps_interrupts.md, R272). -/
abbrev VU_MASK_v : Fld := ⟨.VU_MASK, 0, 16⟩
/-! VU_ACT (11_authority_traps_interrupts.md, R272). -/
abbrev VU_ACT_v : Fld := ⟨.VU_ACT, 0, 16⟩
/-! VU_LOST (11_authority_traps_interrupts.md, R272). -/
abbrev VU_LOST_v : Fld := ⟨.VU_LOST, 0, 16⟩
/-! VU_VCTL (11_authority_traps_interrupts.md, R272). -/
abbrev VU_VCTL_valid : Fld := ⟨.VU_VCTL, 17, 1⟩
abbrev VU_VCTL_pri : Fld := ⟨.VU_VCTL, 13, 4⟩
/-! VU_ROUTE (11_authority_traps_interrupts.md, R272). -/
abbrev VU_ROUTE_en : Fld := ⟨.VU_ROUTE, 17, 1⟩
abbrev VU_ROUTE_core : Fld := ⟨.VU_ROUTE, 13, 4⟩
abbrev VU_ROUTE_vec : Fld := ⟨.VU_ROUTE, 0, 7⟩
/-! BANK_OWN (12_memory_locks_tides.md, R299). -/
abbrev BANK_OWN_kind : Fld := ⟨.BANK_OWN, 16, 2⟩
abbrev BANK_OWN_gs : Fld := ⟨.BANK_OWN, 15, 1⟩
abbrev BANK_OWN_gl : Fld := ⟨.BANK_OWN, 14, 1⟩
abbrev BANK_OWN_id : Fld := ⟨.BANK_OWN, 0, 8⟩
/-! BANK_STAT (12_memory_locks_tides.md, R299). -/
abbrev BANK_STAT_hpend : Fld := ⟨.BANK_STAT, 17, 1⟩
abbrev BANK_STAT_cfgerr : Fld := ⟨.BANK_STAT, 16, 1⟩
/-! BANK_LOG (12_memory_locks_tides.md, R299). -/
abbrev BANK_LOG_lost : Fld := ⟨.BANK_LOG, 17, 1⟩
abbrev BANK_LOG_wrap : Fld := ⟨.BANK_LOG, 16, 1⟩
abbrev BANK_LOG_next : Fld := ⟨.BANK_LOG, 0, 14⟩
/-! MEM_ECCADR (12_memory_locks_tides.md, R299). -/
abbrev MEM_ECCADR_req : Fld := ⟨.MEM_ECCADR, 33, 3⟩
abbrev MEM_ECCADR_core : Fld := ⟨.MEM_ECCADR, 29, 4⟩
abbrev MEM_ECCADR_addr : Fld := ⟨.MEM_ECCADR, 0, 27⟩
/-! MEM_ECCCNT (12_memory_locks_tides.md, R299). -/
abbrev MEM_ECCCNT_n : Fld := ⟨.MEM_ECCCNT, 0, 18⟩
/-! MEM_SCRUB (12_memory_locks_tides.md, R299). -/
abbrev MEM_SCRUB_en : Fld := ⟨.MEM_SCRUB, 17, 1⟩
/-! MEM_IEN (12_memory_locks_tides.md, R299). -/
abbrev MEM_IEN_ue : Fld := ⟨.MEM_IEN, 17, 1⟩
abbrev MEM_IEN_ce : Fld := ⟨.MEM_IEN, 16, 1⟩
abbrev MEM_IEN_hov : Fld := ⟨.MEM_IEN, 15, 1⟩
abbrev MEM_IEN_brk : Fld := ⟨.MEM_IEN, 14, 1⟩
abbrev MEM_IEN_lease : Fld := ⟨.MEM_IEN, 13, 1⟩
abbrev MEM_IEN_tapp : Fld := ⟨.MEM_IEN, 12, 1⟩
abbrev MEM_IEN_tref : Fld := ⟨.MEM_IEN, 11, 1⟩
abbrev MEM_IEN_sdone : Fld := ⟨.MEM_IEN, 10, 1⟩
abbrev MEM_IEN_sref : Fld := ⟨.MEM_IEN, 9, 1⟩
abbrev MEM_IEN_llost : Fld := ⟨.MEM_IEN, 8, 1⟩
/-! LOCK_ACQ (12_memory_locks_tides.md, R299). -/
abbrev LOCK_ACQ_r : Fld := ⟨.LOCK_ACQ, 0, 18⟩
/-! LOCK_CMD (12_memory_locks_tides.md, R299). -/
abbrev LOCK_CMD_rel : Fld := ⟨.LOCK_CMD, 17, 1⟩
abbrev LOCK_CMD_rep : Fld := ⟨.LOCK_CMD, 16, 1⟩
abbrev LOCK_CMD_renew : Fld := ⟨.LOCK_CMD, 15, 1⟩
/-! LOCK_OWN (12_memory_locks_tides.md, R299). -/
abbrev LOCK_OWN_state : Fld := ⟨.LOCK_OWN, 34, 2⟩
abbrev LOCK_OWN_rem : Fld := ⟨.LOCK_OWN, 33, 1⟩
abbrev LOCK_OWN_node : Fld := ⟨.LOCK_OWN, 21, 12⟩
abbrev LOCK_OWN_core : Fld := ⟨.LOCK_OWN, 17, 4⟩
abbrev LOCK_OWN_why : Fld := ⟨.LOCK_OWN, 14, 3⟩
/-! LOCK_LEASE (12_memory_locks_tides.md, R299). -/
abbrev LOCK_LEASE_us : Fld := ⟨.LOCK_LEASE, 0, 18⟩
/-! LOCK_STAT (12_memory_locks_tides.md, R299). -/
abbrev LOCK_STAT_cmderr : Fld := ⟨.LOCK_STAT, 17, 1⟩
abbrev LOCK_STAT_brk : Fld := ⟨.LOCK_STAT, 16, 1⟩
/-! TIDE_CSEL (12_memory_locks_tides.md, R299). -/
abbrev TIDE_CSEL_slot : Fld := ⟨.TIDE_CSEL, 0, 2⟩
/-! TIDE_COMMIT (12_memory_locks_tides.md, R299). -/
abbrev TIDE_COMMIT_slot : Fld := ⟨.TIDE_COMMIT, 16, 2⟩
abbrev TIDE_COMMIT_kind : Fld := ⟨.TIDE_COMMIT, 14, 2⟩
abbrev TIDE_COMMIT_cu : Fld := ⟨.TIDE_COMMIT, 0, 7⟩
/-! TIDE_STAT (12_memory_locks_tides.md, R299). -/
abbrev TIDE_STAT_armst : Fld := ⟨.TIDE_STAT, 17, 1⟩
abbrev TIDE_STAT_verr : Fld := ⟨.TIDE_STAT, 16, 1⟩
abbrev TIDE_STAT_used : Fld := ⟨.TIDE_STAT, 0, 11⟩
/-! TIDE_EPOCH (12_memory_locks_tides.md, R299). -/
abbrev TIDE_EPOCH_n : Fld := ⟨.TIDE_EPOCH, 0, 36⟩
/-! TSLOT_STAT (12_memory_locks_tides.md, R299). -/
abbrev TSLOT_STAT_state : Fld := ⟨.TSLOT_STAT, 16, 2⟩
abbrev TSLOT_STAT_why : Fld := ⟨.TSLOT_STAT, 13, 3⟩
abbrev TSLOT_STAT_n : Fld := ⟨.TSLOT_STAT, 0, 11⟩
/-! TSLOT_ATH (12_memory_locks_tides.md, R299). -/
abbrev TSLOT_ATH_v : Fld := ⟨.TSLOT_ATH, 0, 36⟩
/-! TSLOT_ATL (12_memory_locks_tides.md, R299). -/
abbrev TSLOT_ATL_v : Fld := ⟨.TSLOT_ATL, 0, 36⟩
/-! SNAP_LIST (12_memory_locks_tides.md, R299). -/
abbrev SNAP_LIST_cnt : Fld := ⟨.SNAP_LIST, 27, 9⟩
abbrev SNAP_LIST_addr : Fld := ⟨.SNAP_LIST, 0, 27⟩
/-! SNAP_DST (12_memory_locks_tides.md, R299). -/
abbrev SNAP_DST_addr : Fld := ⟨.SNAP_DST, 0, 27⟩
/-! SNAP_ATH (12_memory_locks_tides.md, R299). -/
abbrev SNAP_ATH_v : Fld := ⟨.SNAP_ATH, 0, 36⟩
/-! SNAP_ATL (12_memory_locks_tides.md, R299). -/
abbrev SNAP_ATL_v : Fld := ⟨.SNAP_ATL, 0, 36⟩
/-! SNAP_GO (12_memory_locks_tides.md, R299). -/
abbrev SNAP_GO_go : Fld := ⟨.SNAP_GO, 17, 1⟩
abbrev SNAP_GO_at : Fld := ⟨.SNAP_GO, 16, 1⟩
/-! SNAP_STAT (12_memory_locks_tides.md, R299). -/
abbrev SNAP_STAT_busy : Fld := ⟨.SNAP_STAT, 17, 1⟩
abbrev SNAP_STAT_done : Fld := ⟨.SNAP_STAT, 16, 1⟩
abbrev SNAP_STAT_refused : Fld := ⟨.SNAP_STAT, 15, 1⟩
abbrev SNAP_STAT_cfgerr : Fld := ⟨.SNAP_STAT, 14, 1⟩
abbrev SNAP_STAT_why : Fld := ⟨.SNAP_STAT, 11, 3⟩
/-! FL_BSTAT (13_flash.md, R317). -/
abbrev FL_BSTAT_busy : Fld := ⟨.FL_BSTAT, 17, 1⟩
abbrev FL_BSTAT_op : Fld := ⟨.FL_BSTAT, 15, 2⟩
abbrev FL_BSTAT_mlvl : Fld := ⟨.FL_BSTAT, 12, 3⟩
abbrev FL_BSTAT_err : Fld := ⟨.FL_BSTAT, 9, 3⟩
abbrev FL_BSTAT_done : Fld := ⟨.FL_BSTAT, 8, 1⟩
abbrev FL_BSTAT_jrn : Fld := ⟨.FL_BSTAT, 7, 1⟩
/-! FL_BADDR (13_flash.md, R317). -/
abbrev FL_BADDR_addr : Fld := ⟨.FL_BADDR, 0, 27⟩
/-! FL_IEN (13_flash.md, R317). -/
abbrev FL_IEN_bank : Fld := ⟨.FL_IEN, 14, 4⟩
abbrev FL_IEN_wear : Fld := ⟨.FL_IEN, 13, 1⟩
/-! FL_RSEL (13_flash.md, R317). -/
abbrev FL_RSEL_blk : Fld := ⟨.FL_RSEL, 0, 10⟩
/-! FL_RING (13_flash.md, R317). -/
abbrev FL_RING_ecomp : Fld := ⟨.FL_RING, 35, 1⟩
abbrev FL_RING_worn : Fld := ⟨.FL_RING, 34, 1⟩
abbrev FL_RING_count : Fld := ⟨.FL_RING, 0, 24⟩
/-! FL_PROT (13_flash.md, R317). -/
abbrev FL_PROT_en : Fld := ⟨.FL_PROT, 35, 1⟩
abbrev FL_PROT_lo : Fld := ⟨.FL_PROT, 10, 10⟩
abbrev FL_PROT_hi : Fld := ⟨.FL_PROT, 0, 10⟩
/-! FL_OTPLK (13_flash.md, R317). -/
abbrev FL_OTPLK_lk : Fld := ⟨.FL_OTPLK, 17, 1⟩
/-! FL_ECCCNT (13_flash.md, R317). -/
abbrev FL_ECCCNT_n : Fld := ⟨.FL_ECCCNT, 0, 18⟩
/-! FL_RECOV (13_flash.md, R317). -/
abbrev FL_RECOV_bank : Fld := ⟨.FL_RECOV, 32, 4⟩
abbrev FL_RECOV_addr : Fld := ⟨.FL_RECOV, 0, 27⟩
/-! TB_CTL (14_time_clocks_sleep.md, R344). -/
abbrev TB_CTL_mode : Fld := ⟨.TB_CTL, 16, 2⟩
abbrev TB_CTL_secld : Fld := ⟨.TB_CTL, 15, 1⟩
abbrev TB_CTL_set : Fld := ⟨.TB_CTL, 14, 1⟩
abbrev TB_CTL_pol : Fld := ⟨.TB_CTL, 13, 1⟩
/-! TB_STAT (14_time_clocks_sleep.md, R344). -/
abbrev TB_STAT_valid : Fld := ⟨.TB_STAT, 17, 1⟩
abbrev TB_STAT_lock : Fld := ⟨.TB_STAT, 16, 1⟩
abbrev TB_STAT_hold : Fld := ⟨.TB_STAT, 15, 1⟩
abbrev TB_STAT_cal : Fld := ⟨.TB_STAT, 14, 1⟩
abbrev TB_STAT_rcran : Fld := ⟨.TB_STAT, 13, 1⟩
abbrev TB_STAT_stepped : Fld := ⟨.TB_STAT, 12, 1⟩
abbrev TB_STAT_acc : Fld := ⟨.TB_STAT, 11, 1⟩
abbrev TB_STAT_rej : Fld := ⟨.TB_STAT, 10, 1⟩
abbrev TB_STAT_verr : Fld := ⟨.TB_STAT, 9, 1⟩
/-! TB_NOWH (14_time_clocks_sleep.md, R344). -/
abbrev TB_NOWH_v : Fld := ⟨.TB_NOWH, 0, 36⟩
/-! TB_NOWL (14_time_clocks_sleep.md, R344). -/
abbrev TB_NOWL_v : Fld := ⟨.TB_NOWL, 0, 36⟩
/-! TB_SETH (14_time_clocks_sleep.md, R344). -/
abbrev TB_SETH_v : Fld := ⟨.TB_SETH, 0, 36⟩
/-! TB_SETL (14_time_clocks_sleep.md, R344). -/
abbrev TB_SETL_v : Fld := ⟨.TB_SETL, 0, 36⟩
/-! TB_PPSDLY (14_time_clocks_sleep.md, R344). -/
abbrev TB_PPSDLY_d : Fld := ⟨.TB_PPSDLY, 0, 36⟩
/-! TB_PPSWIN (14_time_clocks_sleep.md, R344). -/
abbrev TB_PPSWIN_w : Fld := ⟨.TB_PPSWIN, 0, 29⟩
/-! TB_PPSSEC (14_time_clocks_sleep.md, R344). -/
abbrev TB_PPSSEC_s : Fld := ⟨.TB_PPSSEC, 0, 36⟩
/-! TB_PPSERR (14_time_clocks_sleep.md, R344). -/
abbrev TB_PPSERR_e : Fld := ⟨.TB_PPSERR, 0, 36⟩
/-! TB_RATE (14_time_clocks_sleep.md, R344). -/
abbrev TB_RATE_r : Fld := ⟨.TB_RATE, 0, 36⟩
/-! TB_SLEW (14_time_clocks_sleep.md, R344). -/
abbrev TB_SLEW_s : Fld := ⟨.TB_SLEW, 0, 36⟩
/-! TB_UNCERT (14_time_clocks_sleep.md, R344). -/
abbrev TB_UNCERT_ns : Fld := ⟨.TB_UNCERT, 0, 36⟩
/-! TB_XRATIO (14_time_clocks_sleep.md, R344). -/
abbrev TB_XRATIO_q : Fld := ⟨.TB_XRATIO, 0, 36⟩
/-! TB_PPSREJ (14_time_clocks_sleep.md, R344). -/
abbrev TB_PPSREJ_n : Fld := ⟨.TB_PPSREJ, 0, 18⟩
/-! CLK_STAT (14_time_clocks_sleep.md, R344). -/
abbrev CLK_STAT_refloss : Fld := ⟨.CLK_STAT, 17, 1⟩
abbrev CLK_STAT_rc : Fld := ⟨.CLK_STAT, 16, 1⟩
abbrev CLK_STAT_lock : Fld := ⟨.CLK_STAT, 13, 3⟩
/-! PWR_SLEEP (14_time_clocks_sleep.md, R344). -/
abbrev PWR_SLEEP_rung : Fld := ⟨.PWR_SLEEP, 15, 3⟩
/-! PWR_STAT (14_time_clocks_sleep.md, R344). -/
abbrev PWR_STAT_last : Fld := ⟨.PWR_STAT, 15, 3⟩
abbrev PWR_STAT_why : Fld := ⟨.PWR_STAT, 12, 3⟩
abbrev PWR_STAT_wake : Fld := ⟨.PWR_STAT, 8, 4⟩
/-! PWR_QCTL (14_time_clocks_sleep.md, R344). -/
abbrev PWR_QCTL_q : Fld := ⟨.PWR_QCTL, 14, 4⟩
/-! PWR_WPIN (14_time_clocks_sleep.md, R344). -/
abbrev PWR_WPIN_en : Fld := ⟨.PWR_WPIN, 6, 12⟩
/-! PWR_ALARM (14_time_clocks_sleep.md, R344). -/
abbrev PWR_ALARM_s : Fld := ⟨.PWR_ALARM, 0, 36⟩
/-! PWR_PFSTAT (14_time_clocks_sleep.md, R344). -/
abbrev PWR_PFSTAT_act : Fld := ⟨.PWR_PFSTAT, 17, 1⟩
abbrev PWR_PFSTAT_done : Fld := ⟨.PWR_PFSTAT, 16, 1⟩
abbrev PWR_PFSTAT_rcv : Fld := ⟨.PWR_PFSTAT, 15, 1⟩
abbrev PWR_PFSTAT_src : Fld := ⟨.PWR_PFSTAT, 12, 3⟩
/-! PWR_DEVRST (14_time_clocks_sleep.md, R344). -/
abbrev PWR_DEVRST_key : Fld := ⟨.PWR_DEVRST, 0, 18⟩
/-! PWR_IEN (14_time_clocks_sleep.md, R344). -/
abbrev PWR_IEN_acc : Fld := ⟨.PWR_IEN, 17, 1⟩
abbrev PWR_IEN_rej : Fld := ⟨.PWR_IEN, 16, 1⟩
abbrev PWR_IEN_clk : Fld := ⟨.PWR_IEN, 15, 1⟩
abbrev PWR_IEN_mode : Fld := ⟨.PWR_IEN, 14, 1⟩
abbrev PWR_IEN_droop : Fld := ⟨.PWR_IEN, 13, 1⟩
abbrev PWR_IEN_pf : Fld := ⟨.PWR_IEN, 12, 1⟩
abbrev PWR_IEN_wake : Fld := ⟨.PWR_IEN, 11, 1⟩
abbrev PWR_IEN_alarm : Fld := ⟨.PWR_IEN, 10, 1⟩
/-! MODE_CTL (14_time_clocks_sleep.md, R345). -/
abbrev MODE_CTL_req : Fld := ⟨.MODE_CTL, 16, 2⟩
/-! MODE_STAT (14_time_clocks_sleep.md, R345). -/
abbrev MODE_STAT_cur : Fld := ⟨.MODE_STAT, 16, 2⟩
abbrev MODE_STAT_busy : Fld := ⟨.MODE_STAT, 15, 1⟩
abbrev MODE_STAT_why : Fld := ⟨.MODE_STAT, 12, 3⟩
abbrev MODE_STAT_ref : Fld := ⟨.MODE_STAT, 10, 2⟩
/-! TJ_SPRING_LIMIT (14_time_clocks_sleep.md, R345). -/
abbrev TJ_SPRING_LIMIT_t : Fld := ⟨.TJ_SPRING_LIMIT, 0, 8⟩
/-! SPRING_MAX_S (14_time_clocks_sleep.md, R345). -/
abbrev SPRING_MAX_S_s : Fld := ⟨.SPRING_MAX_S, 0, 8⟩
/-! MODE_DROOP (14_time_clocks_sleep.md, R345). -/
abbrev MODE_DROOP_th : Fld := ⟨.MODE_DROOP, 0, 8⟩
/-! TJ_EST (14_time_clocks_sleep.md, R345). -/
abbrev TJ_EST_sens : Fld := ⟨.TJ_EST, 14, 4⟩
abbrev TJ_EST_t : Fld := ⟨.TJ_EST, 0, 14⟩
/-! LK_CTL (15_velub_link.md, R369). -/
abbrev LK_CTL_en : Fld := ⟨.LK_CTL, 17, 1⟩
abbrev LK_CTL_slot : Fld := ⟨.LK_CTL, 14, 3⟩
abbrev LK_CTL_wk : Fld := ⟨.LK_CTL, 13, 1⟩
/-! LK_PSTAT (15_velub_link.md, R369). -/
abbrev LK_PSTAT_state : Fld := ⟨.LK_PSTAT, 15, 3⟩
abbrev LK_PSTAT_absent : Fld := ⟨.LK_PSTAT, 14, 1⟩
abbrev LK_PSTAT_quar : Fld := ⟨.LK_PSTAT, 13, 1⟩
abbrev LK_PSTAT_rex : Fld := ⟨.LK_PSTAT, 12, 1⟩
abbrev LK_PSTAT_krev : Fld := ⟨.LK_PSTAT, 11, 1⟩
abbrev LK_PSTAT_bl : Fld := ⟨.LK_PSTAT, 5, 6⟩
/-! LK_PNODE (15_velub_link.md, R369). -/
abbrev LK_PNODE_valid : Fld := ⟨.LK_PNODE, 17, 1⟩
abbrev LK_PNODE_node : Fld := ⟨.LK_PNODE, 0, 12⟩
/-! LK_ECODE (15_velub_link.md, R369). -/
abbrev LK_ECODE_n : Fld := ⟨.LK_ECODE, 0, 18⟩
/-! LK_ECRC (15_velub_link.md, R369). -/
abbrev LK_ECRC_n : Fld := ⟨.LK_ECRC, 0, 18⟩
/-! LK_EAUTH (15_velub_link.md, R369). -/
abbrev LK_EAUTH_n : Fld := ⟨.LK_EAUTH, 0, 18⟩
/-! LK_ERTRY (15_velub_link.md, R369). -/
abbrev LK_ERTRY_n : Fld := ⟨.LK_ERTRY, 0, 18⟩
/-! LK_EDROP (15_velub_link.md, R369). -/
abbrev LK_EDROP_n : Fld := ⟨.LK_EDROP, 0, 18⟩
/-! LK_QUAR (15_velub_link.md, R369). -/
abbrev LK_QUAR_n : Fld := ⟨.LK_QUAR, 0, 8⟩
/-! LK_TDLY (15_velub_link.md, R369). -/
abbrev LK_TDLY_d : Fld := ⟨.LK_TDLY, 0, 36⟩
/-! LK_NET (15_velub_link.md, R369). -/
abbrev LK_NET_hops : Fld := ⟨.LK_NET, 12, 6⟩
abbrev LK_NET_node : Fld := ⟨.LK_NET, 0, 12⟩
/-! LK_RETRY (15_velub_link.md, R369). -/
abbrev LK_RETRY_rbn : Fld := ⟨.LK_RETRY, 12, 6⟩
abbrev LK_RETRY_rbs : Fld := ⟨.LK_RETRY, 6, 6⟩
abbrev LK_RETRY_rtmo : Fld := ⟨.LK_RETRY, 0, 6⟩
/-! LK_CAP (15_velub_link.md, R369). -/
abbrev LK_CAP_n : Fld := ⟨.LK_CAP, 0, 18⟩
/-! LK_TMO (15_velub_link.md, R369). -/
abbrev LK_TMO_us : Fld := ⟨.LK_TMO, 0, 18⟩
/-! LK_TCTL (15_velub_link.md, R369). -/
abbrev LK_TCTL_en : Fld := ⟨.LK_TCTL, 17, 1⟩
abbrev LK_TCTL_port : Fld := ⟨.LK_TCTL, 15, 2⟩
/-! LK_WTAB (15_velub_link.md, R369). -/
abbrev LK_WTAB_base : Fld := ⟨.LK_WTAB, 0, 27⟩
/-! LK_WLOAD (15_velub_link.md, R369). -/
abbrev LK_WLOAD_all : Fld := ⟨.LK_WLOAD, 17, 1⟩
abbrev LK_WLOAD_win : Fld := ⟨.LK_WLOAD, 0, 6⟩
/-! LK_GSTAT (15_velub_link.md, R369). -/
abbrev LK_GSTAT_nodeset : Fld := ⟨.LK_GSTAT, 17, 1⟩
abbrev LK_GSTAT_ldbusy : Fld := ⟨.LK_GSTAT, 16, 1⟩
abbrev LK_GSTAT_ldfail : Fld := ⟨.LK_GSTAT, 15, 1⟩
abbrev LK_GSTAT_cfgerr : Fld := ⟨.LK_GSTAT, 14, 1⟩
abbrev LK_GSTAT_refd : Fld := ⟨.LK_GSTAT, 13, 1⟩
abbrev LK_GSTAT_late : Fld := ⟨.LK_GSTAT, 12, 1⟩
abbrev LK_GSTAT_tmiss : Fld := ⟨.LK_GSTAT, 11, 1⟩
abbrev LK_GSTAT_ldwin : Fld := ⟨.LK_GSTAT, 0, 6⟩
/-! LK_REFLOG (15_velub_link.md, R369). -/
abbrev LK_REFLOG_st : Fld := ⟨.LK_REFLOG, 32, 4⟩
abbrev LK_REFLOG_src : Fld := ⟨.LK_REFLOG, 20, 12⟩
abbrev LK_REFLOG_win : Fld := ⟨.LK_REFLOG, 14, 6⟩
/-! LK_SNAPB (15_velub_link.md, R369). -/
abbrev LK_SNAPB_en : Fld := ⟨.LK_SNAPB, 17, 1⟩
abbrev LK_SNAPB_bank : Fld := ⟨.LK_SNAPB, 0, 6⟩
/-! LK_IEN (15_velub_link.md, R369). -/
abbrev LK_IEN_port : Fld := ⟨.LK_IEN, 14, 4⟩
abbrev LK_IEN_tx : Fld := ⟨.LK_IEN, 13, 1⟩
abbrev LK_IEN_ld : Fld := ⟨.LK_IEN, 12, 1⟩
abbrev LK_IEN_ref : Fld := ⟨.LK_IEN, 11, 1⟩
abbrev LK_IEN_late : Fld := ⟨.LK_IEN, 10, 1⟩
abbrev LK_IEN_time : Fld := ⟨.LK_IEN, 9, 1⟩
/-! LK_TXD (15_velub_link.md, R369). -/
abbrev LK_TXD_go : Fld := ⟨.LK_TXD, 17, 1⟩
abbrev LK_TXD_kind : Fld := ⟨.LK_TXD, 15, 2⟩
abbrev LK_TXD_at : Fld := ⟨.LK_TXD, 14, 1⟩
abbrev LK_TXD_node : Fld := ⟨.LK_TXD, 0, 12⟩
/-! LK_TXW (15_velub_link.md, R369). -/
abbrev LK_TXW_win : Fld := ⟨.LK_TXW, 12, 6⟩
abbrev LK_TXW_cnt : Fld := ⟨.LK_TXW, 0, 5⟩
/-! LK_TXO (15_velub_link.md, R369). -/
abbrev LK_TXO_a : Fld := ⟨.LK_TXO, 0, 27⟩
/-! LK_TXL (15_velub_link.md, R369). -/
abbrev LK_TXL_a : Fld := ⟨.LK_TXL, 0, 27⟩
/-! LK_TXS (15_velub_link.md, R369). -/
abbrev LK_TXS_busy : Fld := ⟨.LK_TXS, 17, 1⟩
abbrev LK_TXS_done : Fld := ⟨.LK_TXS, 16, 1⟩
abbrev LK_TXS_st : Fld := ⟨.LK_TXS, 12, 4⟩
/-! LK_ROUTE (15_velub_link.md, R369). -/
abbrev LK_ROUTE_absent : Fld := ⟨.LK_ROUTE, 17, 1⟩
abbrev LK_ROUTE_rpf : Fld := ⟨.LK_ROUTE, 16, 1⟩
abbrev LK_ROUTE_port : Fld := ⟨.LK_ROUTE, 0, 3⟩
/-! GT_TREE (16_system_tides_upgrades.md, R385). -/
abbrev GT_TREE_root : Fld := ⟨.GT_TREE, 17, 1⟩
abbrev GT_TREE_parent : Fld := ⟨.GT_TREE, 14, 3⟩
abbrev GT_TREE_child : Fld := ⟨.GT_TREE, 10, 4⟩
abbrev GT_TREE_opt : Fld := ⟨.GT_TREE, 6, 4⟩
/-! GT_CTL (16_system_tides_upgrades.md, R385). -/
abbrev GT_CTL_veto : Fld := ⟨.GT_CTL, 17, 1⟩
/-! GT_BIND (16_system_tides_upgrades.md, R385). -/
abbrev GT_BIND_en : Fld := ⟨.GT_BIND, 17, 1⟩
abbrev GT_BIND_slot : Fld := ⟨.GT_BIND, 15, 2⟩
/-! GT_BINDID (16_system_tides_upgrades.md, R385). -/
abbrev GT_BINDID_id : Fld := ⟨.GT_BINDID, 0, 36⟩
/-! GT_STAT (16_system_tides_upgrades.md, R385). -/
abbrev GT_STAT_open : Fld := ⟨.GT_STAT, 17, 1⟩
abbrev GT_STAT_vote : Fld := ⟨.GT_STAT, 16, 1⟩
abbrev GT_STAT_dec : Fld := ⟨.GT_STAT, 14, 2⟩
abbrev GT_STAT_doubt : Fld := ⟨.GT_STAT, 13, 1⟩
abbrev GT_STAT_reason : Fld := ⟨.GT_STAT, 9, 4⟩
abbrev GT_STAT_cfgerr : Fld := ⟨.GT_STAT, 8, 1⟩
abbrev GT_STAT_perr : Fld := ⟨.GT_STAT, 7, 1⟩
/-! GT_LAST (16_system_tides_upgrades.md, R385). -/
abbrev GT_LAST_v : Fld := ⟨.GT_LAST, 0, 36⟩
/-! GT_GEPOCH (16_system_tides_upgrades.md, R385). -/
abbrev GT_GEPOCH_v : Fld := ⟨.GT_GEPOCH, 0, 36⟩
/-! GT_RID (16_system_tides_upgrades.md, R385). -/
abbrev GT_RID_v : Fld := ⟨.GT_RID, 0, 36⟩
/-! GT_IGN (16_system_tides_upgrades.md, R385). -/
abbrev GT_IGN_n : Fld := ⟨.GT_IGN, 0, 18⟩
/-! GT_PID (16_system_tides_upgrades.md, R385). -/
abbrev GT_PID_v : Fld := ⟨.GT_PID, 0, 36⟩
/-! GT_PINH (16_system_tides_upgrades.md, R385). -/
abbrev GT_PINH_v : Fld := ⟨.GT_PINH, 0, 36⟩
/-! GT_PINL (16_system_tides_upgrades.md, R385). -/
abbrev GT_PINL_v : Fld := ⟨.GT_PINL, 0, 36⟩
/-! GT_PLEAD (16_system_tides_upgrades.md, R385). -/
abbrev GT_PLEAD_v : Fld := ⟨.GT_PLEAD, 0, 36⟩
/-! GT_PGUARD (16_system_tides_upgrades.md, R385). -/
abbrev GT_PGUARD_g : Fld := ⟨.GT_PGUARD, 0, 18⟩
/-! GT_PCTL (16_system_tides_upgrades.md, R385). -/
abbrev GT_PCTL_go : Fld := ⟨.GT_PCTL, 17, 1⟩
abbrev GT_PCTL_abort : Fld := ⟨.GT_PCTL, 16, 1⟩
abbrev GT_PCTL_rcm : Fld := ⟨.GT_PCTL, 15, 1⟩
abbrev GT_PCTL_rab : Fld := ⟨.GT_PCTL, 14, 1⟩
abbrev GT_PCTL_raise : Fld := ⟨.GT_PCTL, 13, 1⟩
abbrev GT_PCTL_lvl : Fld := ⟨.GT_PCTL, 0, 6⟩
/-! GT_PDST (16_system_tides_upgrades.md, R385). -/
abbrev GT_PDST_node : Fld := ⟨.GT_PDST, 0, 12⟩
/-! GT_RES (16_system_tides_upgrades.md, R385). -/
abbrev GT_RES_done : Fld := ⟨.GT_RES, 17, 1⟩
abbrev GT_RES_yes : Fld := ⟨.GT_RES, 16, 1⟩
abbrev GT_RES_reason : Fld := ⟨.GT_RES, 12, 4⟩
abbrev GT_RES_minlvl : Fld := ⟨.GT_RES, 0, 6⟩
/-! GT_RESN (16_system_tides_upgrades.md, R385). -/
abbrev GT_RESN_count : Fld := ⟨.GT_RESN, 18, 13⟩
abbrev GT_RESN_refv : Fld := ⟨.GT_RESN, 12, 1⟩
abbrev GT_RESN_refuser : Fld := ⟨.GT_RESN, 0, 12⟩
/-! GT_DREP (16_system_tides_upgrades.md, R385). -/
abbrev GT_DREP_valid : Fld := ⟨.GT_DREP, 17, 1⟩
abbrev GT_DREP_ovf : Fld := ⟨.GT_DREP, 16, 1⟩
abbrev GT_DREP_node : Fld := ⟨.GT_DREP, 0, 12⟩
/-! GT_DREPID (16_system_tides_upgrades.md, R385). -/
abbrev GT_DREPID_id : Fld := ⟨.GT_DREPID, 0, 36⟩
/-! GT_PRID (16_system_tides_upgrades.md, R385). -/
abbrev GT_PRID_id : Fld := ⟨.GT_PRID, 0, 36⟩
/-! BOOT_STAT (17_boot_and_security.md, R407). -/
abbrev BOOT_STAT_src : Fld := ⟨.BOOT_STAT, 16, 2⟩
abbrev BOOT_STAT_fast : Fld := ⟨.BOOT_STAT, 15, 1⟩
abbrev BOOT_STAT_dbg : Fld := ⟨.BOOT_STAT, 14, 1⟩
abbrev BOOT_STAT_fail : Fld := ⟨.BOOT_STAT, 10, 4⟩
abbrev BOOT_STAT_why : Fld := ⟨.BOOT_STAT, 7, 3⟩
/-! BOOT_RSTC (17_boot_and_security.md, R407). -/
abbrev BOOT_RSTC_cause : Fld := ⟨.BOOT_RSTC, 15, 3⟩
abbrev BOOT_RSTC_core : Fld := ⟨.BOOT_RSTC, 11, 4⟩
/-! BEHAVIOUR_LEVEL (17_boot_and_security.md, R407). -/
abbrev BEHAVIOUR_LEVEL_impl : Fld := ⟨.BEHAVIOUR_LEVEL, 18, 6⟩
abbrev BEHAVIOUR_LEVEL_lvl : Fld := ⟨.BEHAVIOUR_LEVEL, 12, 6⟩
abbrev BEHAVIOUR_LEVEL_ceil : Fld := ⟨.BEHAVIOUR_LEVEL, 6, 6⟩
abbrev BEHAVIOUR_LEVEL_floor : Fld := ⟨.BEHAVIOUR_LEVEL, 0, 6⟩
/-! BOOT_VER (17_boot_and_security.md, R407). -/
abbrev BOOT_VER_v : Fld := ⟨.BOOT_VER, 0, 36⟩
/-! KU_CMD (17_boot_and_security.md, R407). -/
abbrev KU_CMD_op : Fld := ⟨.KU_CMD, 16, 2⟩
abbrev KU_CMD_slot : Fld := ⟨.KU_CMD, 0, 3⟩
/-! KU_STAT (17_boot_and_security.md, R407). -/
abbrev KU_STAT_busy : Fld := ⟨.KU_STAT, 17, 1⟩
abbrev KU_STAT_err : Fld := ⟨.KU_STAT, 16, 1⟩
abbrev KU_STAT_hfail : Fld := ⟨.KU_STAT, 15, 1⟩
/-! KU_RNG (17_boot_and_security.md, R407). -/
abbrev KU_RNG_valid : Fld := ⟨.KU_RNG, 35, 1⟩
abbrev KU_RNG_r : Fld := ⟨.KU_RNG, 0, 32⟩
/-! KU_DIN (17_boot_and_security.md, R407). -/
abbrev KU_DIN_v : Fld := ⟨.KU_DIN, 0, 32⟩
/-! KU_DOUT (17_boot_and_security.md, R407). -/
abbrev KU_DOUT_v : Fld := ⟨.KU_DOUT, 0, 32⟩
/-! KU_IEN (17_boot_and_security.md, R407). -/
abbrev KU_IEN_done : Fld := ⟨.KU_IEN, 17, 1⟩
abbrev KU_IEN_hf : Fld := ⟨.KU_IEN, 16, 1⟩
abbrev KU_IEN_dbg : Fld := ⟨.KU_IEN, 15, 1⟩
/-! DBG_CTL (17_boot_and_security.md, R407). -/
abbrev DBG_CTL_deny : Fld := ⟨.DBG_CTL, 17, 1⟩
/-! DBG_SCOPE (17_boot_and_security.md, R407). -/
abbrev DBG_SCOPE_scope : Fld := ⟨.DBG_SCOPE, 13, 5⟩
abbrev DBG_SCOPE_nref : Fld := ⟨.DBG_SCOPE, 0, 2⟩
/-! TMP_STAT (17_boot_and_security.md, R407). -/
abbrev TMP_STAT_sens : Fld := ⟨.TMP_STAT, 14, 4⟩
/-! SMB_CTL (18_pins_interfaces_electrical.md, R428). -/
abbrev SMB_CTL_en : Fld := ⟨.SMB_CTL, 17, 1⟩
abbrev SMB_CTL_pec : Fld := ⟨.SMB_CTL, 16, 1⟩
abbrev SMB_CTL_speed : Fld := ⟨.SMB_CTL, 14, 2⟩
abbrev SMB_CTL_alert : Fld := ⟨.SMB_CTL, 13, 1⟩
abbrev SMB_CTL_ien : Fld := ⟨.SMB_CTL, 12, 1⟩
abbrev SMB_CTL_addr : Fld := ⟨.SMB_CTL, 0, 7⟩
/-! SMB_STAT (18_pins_interfaces_electrical.md, R428). -/
abbrev SMB_STAT_busy : Fld := ⟨.SMB_STAT, 17, 1⟩
abbrev SMB_STAT_rdw : Fld := ⟨.SMB_STAT, 16, 1⟩
abbrev SMB_STAT_capn : Fld := ⟨.SMB_STAT, 12, 4⟩
abbrev SMB_STAT_pecerr : Fld := ⟨.SMB_STAT, 11, 1⟩
abbrev SMB_STAT_stex : Fld := ⟨.SMB_STAT, 10, 1⟩
abbrev SMB_STAT_ovf : Fld := ⟨.SMB_STAT, 9, 1⟩
abbrev SMB_STAT_tmo : Fld := ⟨.SMB_STAT, 8, 1⟩
abbrev SMB_STAT_allp : Fld := ⟨.SMB_STAT, 5, 1⟩
abbrev SMB_STAT_page : Fld := ⟨.SMB_STAT, 0, 5⟩
/-! SMB_TMO (18_pins_interfaces_electrical.md, R428). -/
abbrev SMB_TMO_us : Fld := ⟨.SMB_TMO, 0, 15⟩
/-! SMB_CAPH (18_pins_interfaces_electrical.md, R428). -/
abbrev SMB_CAPH_valid : Fld := ⟨.SMB_CAPH, 35, 1⟩
abbrev SMB_CAPH_rd : Fld := ⟨.SMB_CAPH, 34, 1⟩
abbrev SMB_CAPH_all : Fld := ⟨.SMB_CAPH, 33, 1⟩
abbrev SMB_CAPH_page : Fld := ⟨.SMB_CAPH, 28, 5⟩
abbrev SMB_CAPH_cmd : Fld := ⟨.SMB_CAPH, 20, 8⟩
abbrev SMB_CAPH_n : Fld := ⟨.SMB_CAPH, 14, 6⟩
/-! SMB_CAPD (18_pins_interfaces_electrical.md, R428). -/
abbrev SMB_CAPD_a : Fld := ⟨.SMB_CAPD, 9, 8⟩
abbrev SMB_CAPD_b : Fld := ⟨.SMB_CAPD, 0, 8⟩
/-! SMB_RSPD (18_pins_interfaces_electrical.md, R428). -/
abbrev SMB_RSPD_a : Fld := ⟨.SMB_RSPD, 9, 8⟩
abbrev SMB_RSPD_b : Fld := ⟨.SMB_RSPD, 0, 8⟩
/-! SMB_POP (18_pins_interfaces_electrical.md, R428). -/
abbrev SMB_POP_pop : Fld := ⟨.SMB_POP, 17, 1⟩
/-! SMB_RSP (18_pins_interfaces_electrical.md, R428). -/
abbrev SMB_RSP_go : Fld := ⟨.SMB_RSP, 17, 1⟩
abbrev SMB_RSP_blk : Fld := ⟨.SMB_RSP, 16, 1⟩
abbrev SMB_RSP_n : Fld := ⟨.SMB_RSP, 0, 6⟩
/-! SMB_IMG (18_pins_interfaces_electrical.md, R428). -/
abbrev SMB_IMG_hw : Fld := ⟨.SMB_IMG, 17, 1⟩
abbrev SMB_IMG_hi : Fld := ⟨.SMB_IMG, 9, 8⟩
abbrev SMB_IMG_lo : Fld := ⟨.SMB_IMG, 0, 8⟩
/-! SPI_CTL (18_pins_interfaces_electrical.md, R428). -/
abbrev SPI_CTL_en : Fld := ⟨.SPI_CTL, 17, 1⟩
abbrev SPI_CTL_tgt : Fld := ⟨.SPI_CTL, 16, 1⟩
abbrev SPI_CTL_cpol : Fld := ⟨.SPI_CTL, 15, 1⟩
abbrev SPI_CTL_cpha : Fld := ⟨.SPI_CTL, 14, 1⟩
abbrev SPI_CTL_wid : Fld := ⟨.SPI_CTL, 12, 2⟩
abbrev SPI_CTL_lsb : Fld := ⟨.SPI_CTL, 11, 1⟩
abbrev SPI_CTL_ien : Fld := ⟨.SPI_CTL, 10, 1⟩
abbrev SPI_CTL_cs : Fld := ⟨.SPI_CTL, 9, 1⟩
abbrev SPI_CTL_div : Fld := ⟨.SPI_CTL, 0, 8⟩
/-! SPI_STAT (18_pins_interfaces_electrical.md, R428). -/
abbrev SPI_STAT_busy : Fld := ⟨.SPI_STAT, 17, 1⟩
abbrev SPI_STAT_txn : Fld := ⟨.SPI_STAT, 12, 5⟩
abbrev SPI_STAT_rxn : Fld := ⟨.SPI_STAT, 7, 5⟩
abbrev SPI_STAT_udr : Fld := ⟨.SPI_STAT, 6, 1⟩
abbrev SPI_STAT_ovr : Fld := ⟨.SPI_STAT, 5, 1⟩
/-! SPI_TX (18_pins_interfaces_electrical.md, R428). -/
abbrev SPI_TX_d : Fld := ⟨.SPI_TX, 0, 18⟩
/-! SPI_RX (18_pins_interfaces_electrical.md, R428). -/
abbrev SPI_RX_d : Fld := ⟨.SPI_RX, 0, 18⟩
/-! GPIO_CFG (18_pins_interfaces_electrical.md, R428). -/
abbrev GPIO_CFG_dir : Fld := ⟨.GPIO_CFG, 17, 1⟩
abbrev GPIO_CFG_od : Fld := ⟨.GPIO_CFG, 16, 1⟩
abbrev GPIO_CFG_pull : Fld := ⟨.GPIO_CFG, 14, 2⟩
abbrev GPIO_CFG_pol : Fld := ⟨.GPIO_CFG, 13, 1⟩
abbrev GPIO_CFG_edge : Fld := ⟨.GPIO_CFG, 11, 2⟩
abbrev GPIO_CFG_ien : Fld := ⟨.GPIO_CFG, 10, 1⟩
abbrev GPIO_CFG_flag : Fld := ⟨.GPIO_CFG, 9, 1⟩
/-! GPIO_OUT (18_pins_interfaces_electrical.md, R428). -/
abbrev GPIO_OUT_v : Fld := ⟨.GPIO_OUT, 0, 16⟩
/-! GPIO_IN (18_pins_interfaces_electrical.md, R428). -/
abbrev GPIO_IN_v : Fld := ⟨.GPIO_IN, 0, 16⟩
/-! MF_VTIMEH (08_survey_and_metering.md, R186). -/
abbrev MF_VTIMEH_v : Fld := ⟨.MF_VTIMEH, 0, 36⟩
/-! MF_VTIMEL (08_survey_and_metering.md, R186). -/
abbrev MF_VTIMEL_v : Fld := ⟨.MF_VTIMEL, 0, 36⟩
/-! MF_VIMPH (08_survey_and_metering.md, R186). -/
abbrev MF_VIMPH_v : Fld := ⟨.MF_VIMPH, 0, 36⟩
/-! MF_VIMPL (08_survey_and_metering.md, R186). -/
abbrev MF_VIMPL_v : Fld := ⟨.MF_VIMPL, 0, 36⟩
/-! MF_VEXPH (08_survey_and_metering.md, R186). -/
abbrev MF_VEXPH_v : Fld := ⟨.MF_VEXPH, 0, 36⟩
/-! MF_VEXPL (08_survey_and_metering.md, R186). -/
abbrev MF_VEXPL_v : Fld := ⟨.MF_VEXPL, 0, 36⟩
/-! MF_VV2H (08_survey_and_metering.md, R186). -/
abbrev MF_VV2H_v : Fld := ⟨.MF_VV2H, 0, 36⟩
/-! MF_VV2L (08_survey_and_metering.md, R186). -/
abbrev MF_VV2L_v : Fld := ⟨.MF_VV2L, 0, 36⟩
/-! MF_VI2H (08_survey_and_metering.md, R186). -/
abbrev MF_VI2H_v : Fld := ⟨.MF_VI2H, 0, 36⟩
/-! MF_VI2L (08_survey_and_metering.md, R186). -/
abbrev MF_VI2L_v : Fld := ⟨.MF_VI2L, 0, 36⟩
/-! MF_VDMAXH (08_survey_and_metering.md, R186). -/
abbrev MF_VDMAXH_v : Fld := ⟨.MF_VDMAXH, 0, 36⟩
/-! MF_VDMAXL (08_survey_and_metering.md, R186). -/
abbrev MF_VDMAXL_v : Fld := ⟨.MF_VDMAXL, 0, 36⟩
/-! MF_VDLASTH (08_survey_and_metering.md, R186). -/
abbrev MF_VDLASTH_v : Fld := ⟨.MF_VDLASTH, 0, 36⟩
/-! MF_VDLASTL (08_survey_and_metering.md, R186). -/
abbrev MF_VDLASTL_v : Fld := ⟨.MF_VDLASTL, 0, 36⟩
/-! MF_VVSTAMPH (08_survey_and_metering.md, R186). -/
abbrev MF_VVSTAMPH_v : Fld := ⟨.MF_VVSTAMPH, 0, 36⟩
/-! MF_VVSTAMPL (08_survey_and_metering.md, R186). -/
abbrev MF_VVSTAMPL_v : Fld := ⟨.MF_VVSTAMPL, 0, 36⟩

end F

end Sys2Proof.Machine
end

