-- ==== Sys2Proof/Machine/RegTable.lean ====
section
/-! DEFINITION. The register tables of the manual: for each register its address, the count and stride of its instances, its
width, its reset value and the fields with their kinds (R11, R17, R433). Reserved bits have no row and so read as zero (R16). -/

namespace Sys2Proof.Machine

/-- R11: the kinds of a register field. -/
inductive Kind where
  | rw | ro | wo | rc | set | clr | setClr | lock
  deriving DecidableEq, Repr

/-- R17: what a device reset does to a field: it takes its reset value, it is kept, or it is kept in the first eight instances
(the always-on pins of R344). -/
inductive Keep where
  | no | all | low8
  deriving DecidableEq, Repr

/-- One row of a register table: bits `lo + w - 1 .. lo`. -/
structure FieldRow where
  lo : Nat
  w : Nat
  kind : Kind
  keep : Keep
  deriving DecidableEq, Repr

/-- A register: the address of its first instance, the (count, stride) of each level of instances from the outermost in,
whether it is a double word, its reset value (R17; for an always-on register the power-on value of R344), and its fields. -/
structure RegRow where
  addr : Nat
  dims : List (Nat × Nat)
  dword : Bool
  reset : Nat
  fields : List FieldRow
  deriving DecidableEq, Repr

/-- The register tables. -/
def RegName.row : RegName → RegRow
  | .ICH_CTL => ⟨0x1040000, [(128, 256)], false, 0, [⟨17, 1, .rw, .no⟩, ⟨16, 1, .rw, .no⟩, ⟨14, 2, .rw, .no⟩, ⟨13, 1, .rw, .no⟩, ⟨12, 1, .rw, .no⟩]⟩
  | .ICH_TRGCU => ⟨0x1040002, [(128, 256)], false, 0, [⟨8, 3, .rw, .no⟩, ⟨0, 7, .rw, .no⟩]⟩
  | .ICH_TRGEV => ⟨0x1040004, [(128, 256)], false, 0, [⟨0, 9, .rw, .no⟩]⟩
  | .ICH_DELAY => ⟨0x1040006, [(128, 256)], false, 0, [⟨0, 18, .rw, .no⟩]⟩
  | .ICH_WLEN => ⟨0x1040008, [(128, 256)], false, 512, [⟨0, 18, .rw, .no⟩]⟩
  | .ICH_PROBE => ⟨0x104000a, [(128, 256)], false, 0, [⟨0, 16, .rw, .no⟩]⟩
  | .ICH_PROBETHR => ⟨0x104000c, [(128, 256)], false, 1280, [⟨0, 18, .rw, .no⟩]⟩
  | .ICH_GAINC => ⟨0x104000e, [(128, 256)], false, 0, [⟨0, 18, .rw, .no⟩]⟩
  | .ICH_OFFC => ⟨0x1040010, [(128, 256)], false, 0, [⟨0, 18, .rw, .no⟩]⟩
  | .ICH_IEN => ⟨0x1040012, [(128, 256)], false, 0, [⟨17, 1, .rw, .no⟩, ⟨16, 1, .rw, .no⟩, ⟨15, 1, .rw, .no⟩, ⟨14, 1, .rw, .no⟩]⟩
  | .ICH_STAT => ⟨0x1040014, [(128, 256)], false, 0, [⟨17, 1, .ro, .no⟩, ⟨16, 1, .ro, .no⟩, ⟨15, 1, .clr, .no⟩, ⟨14, 1, .clr, .no⟩, ⟨13, 1, .clr, .no⟩, ⟨12, 1, .clr, .no⟩, ⟨11, 1, .clr, .no⟩]⟩
  | .ICH_MISSCNT => ⟨0x1040016, [(128, 256)], false, 0, [⟨0, 18, .rc, .no⟩]⟩
  | .ICH_RSTAT => ⟨0x1040018, [(128, 256)], false, 0, [⟨10, 8, .ro, .no⟩, ⟨9, 1, .ro, .no⟩, ⟨8, 1, .ro, .no⟩, ⟨7, 1, .ro, .no⟩, ⟨6, 1, .ro, .no⟩, ⟨5, 1, .ro, .no⟩, ⟨4, 1, .ro, .no⟩, ⟨3, 1, .ro, .no⟩]⟩
  | .ICH_NORM => ⟨0x104001a, [(128, 256)], false, 0, [⟨0, 18, .ro, .no⟩]⟩
  | .ICH_RAW => ⟨0x104001c, [(128, 256)], true, 0, [⟨0, 36, .ro, .no⟩]⟩
  | .ICH_TLEN => ⟨0x1040020, [(128, 256)], true, 0, [⟨0, 36, .ro, .no⟩]⟩
  | .ICH_CALCTL => ⟨0x1048000, [], false, 0, [⟨17, 1, .rw, .no⟩, ⟨16, 1, .ro, .no⟩]⟩
  | .WC_CTL => ⟨0x1080000, [(128, 128)], false, 0, [⟨17, 1, .rw, .no⟩, ⟨14, 3, .rw, .no⟩, ⟨10, 4, .rw, .no⟩, ⟨9, 1, .rw, .no⟩]⟩
  | .WC_THH => ⟨0x1080002, [(128, 128)], false, 2047, [⟨0, 12, .rw, .no⟩]⟩
  | .WC_THL => ⟨0x1080004, [(128, 128)], false, 2048, [⟨0, 12, .rw, .no⟩]⟩
  | .WC_TRIP => ⟨0x1080006, [(128, 128)], false, 0, [⟨17, 1, .rw, .no⟩, ⟨16, 1, .rw, .no⟩, ⟨0, 16, .rw, .no⟩]⟩
  | .WC_BLKSRC => ⟨0x1080008, [(128, 128)], false, 0, [⟨8, 3, .rw, .no⟩, ⟨0, 7, .rw, .no⟩]⟩
  | .WC_BLKLEN => ⟨0x108000a, [(128, 128)], false, 0, [⟨0, 10, .rw, .no⟩]⟩
  | .WC_IEN => ⟨0x108000c, [(128, 128)], false, 0, [⟨17, 1, .rw, .no⟩, ⟨16, 1, .rw, .no⟩, ⟨15, 1, .rw, .no⟩]⟩
  | .WC_STAT => ⟨0x108000e, [(128, 128)], false, 0, [⟨17, 1, .ro, .no⟩, ⟨16, 1, .ro, .no⟩, ⟨15, 1, .ro, .no⟩, ⟨14, 1, .ro, .no⟩, ⟨13, 1, .ro, .no⟩, ⟨12, 1, .clr, .no⟩, ⟨11, 1, .clr, .no⟩, ⟨10, 1, .clr, .no⟩, ⟨9, 1, .clr, .no⟩]⟩
  | .WC_GUARD => ⟨0x1080010, [(128, 128)], false, 0, [⟨17, 1, .lock, .no⟩]⟩
  | .BERTH_CTL => ⟨0x10c0000, [(1024, 32)], false, 98304, [⟨17, 1, .rw, .no⟩, ⟨15, 2, .rw, .no⟩, ⟨12, 3, .rw, .no⟩, ⟨8, 4, .rw, .no⟩]⟩
  | .BERTH_TRG => ⟨0x10c0002, [(1024, 32)], false, 131072, [⟨16, 2, .rw, .no⟩, ⟨0, 10, .rw, .no⟩]⟩
  | .BERTH_PROG => ⟨0x10c0004, [(1024, 32)], false, 0, [⟨4, 14, .rw, .no⟩, ⟨0, 4, .rw, .no⟩]⟩
  | .BERTH_DL => ⟨0x10c0006, [(1024, 32)], false, 0, [⟨0, 18, .rw, .no⟩]⟩
  | .BERTH_GAIN => ⟨0x10c0008, [(1024, 32)], false, 0, [⟨16, 2, .rw, .no⟩, ⟨12, 4, .rw, .no⟩, ⟨6, 6, .rw, .no⟩, ⟨0, 6, .rw, .no⟩]⟩
  | .BERTH_GBASE => ⟨0x10c000a, [(1024, 32)], false, 0, [⟨0, 14, .rw, .no⟩]⟩
  | .BERTH_BND => ⟨0x10c000c, [(1024, 32), (3, 2)], false, 0, [⟨0, 18, .rw, .no⟩]⟩
  | .BERTH_GRP => ⟨0x10c0012, [(1024, 32)], false, 0, [⟨17, 1, .rw, .no⟩, ⟨16, 1, .rw, .no⟩, ⟨12, 4, .rw, .no⟩, ⟨0, 7, .rw, .no⟩]⟩
  | .BERTH_STAT => ⟨0x10c0014, [(1024, 32)], false, 0, [⟨17, 1, .ro, .no⟩, ⟨16, 1, .clr, .no⟩, ⟨15, 1, .clr, .no⟩, ⟨14, 1, .ro, .no⟩, ⟨13, 1, .ro, .no⟩, ⟨12, 1, .clr, .no⟩, ⟨10, 2, .ro, .no⟩, ⟨9, 1, .clr, .no⟩]⟩
  | .BERTH_IO => ⟨0x10c0016, [(1024, 32)], false, 0, [⟨7, 7, .rw, .no⟩, ⟨0, 7, .rw, .no⟩]⟩
  | .BERTH_OVR => ⟨0x10c0018, [(1024, 32)], false, 0, [⟨17, 1, .clr, .no⟩, ⟨0, 16, .rc, .no⟩]⟩
  | .CR_SEP => ⟨0x10c8000, [(8, 32)], false, 0, [⟨0, 12, .rw, .no⟩]⟩
  | .CR_STAT => ⟨0x10c8002, [(8, 32)], false, 0, [⟨17, 1, .clr, .no⟩, ⟨16, 1, .clr, .no⟩, ⟨15, 1, .ro, .no⟩, ⟨0, 8, .ro, .no⟩]⟩
  | .CR_UTIL => ⟨0x10c8004, [(8, 32)], false, 0, [⟨0, 14, .ro, .no⟩]⟩
  | .CR_IEN => ⟨0x10c8006, [(8, 32)], false, 0, [⟨17, 1, .rw, .no⟩, ⟨16, 1, .rw, .no⟩]⟩
  | .CR_SEPB => ⟨0x10c8008, [(8, 32)], false, 0, [⟨0, 10, .ro, .no⟩]⟩
  | .CG_CTL => ⟨0x10c9000, [(128, 16)], false, 0, [⟨17, 1, .rw, .no⟩, ⟨16, 1, .rw, .no⟩, ⟨15, 1, .rw, .no⟩]⟩
  | .CG_STAT => ⟨0x10c9002, [(128, 16)], false, 0, [⟨17, 1, .clr, .no⟩, ⟨13, 3, .ro, .no⟩, ⟨0, 10, .ro, .no⟩]⟩
  | .CG_OUT => ⟨0x10c9004, [(128, 16)], false, 0, [⟨0, 18, .ro, .no⟩]⟩
  | .ENG_CTL => ⟨0x10ca000, [], false, 0, [⟨17, 1, .rw, .no⟩]⟩
  | .ENG_STAT => ⟨0x10ca002, [], false, 0, [⟨17, 1, .clr, .no⟩, ⟨16, 1, .clr, .no⟩]⟩
  | .ENG_ADMERR => ⟨0x10ca004, [], false, 0, [⟨14, 4, .ro, .no⟩, ⟨0, 10, .ro, .no⟩]⟩
  | .ENG_SWTRG => ⟨0x10ca006, [], false, 0, [⟨0, 10, .wo, .no⟩]⟩
  | .ENG_IEN => ⟨0x10ca008, [], false, 0, [⟨17, 1, .rw, .no⟩]⟩
  | .CU_CTL => ⟨0x1000000, [(128, 512)], false, 0, [⟨17, 1, .rw, .no⟩, ⟨15, 2, .rw, .no⟩, ⟨13, 2, .rw, .no⟩, ⟨12, 1, .rw, .no⟩, ⟨11, 1, .rw, .no⟩, ⟨10, 1, .rw, .no⟩, ⟨9, 1, .rw, .no⟩]⟩
  | .CU_LDM => ⟨0x1000002, [(128, 512)], false, 0, [⟨16, 2, .rw, .no⟩, ⟨14, 2, .rw, .no⟩, ⟨12, 2, .rw, .no⟩, ⟨10, 2, .rw, .no⟩, ⟨8, 2, .rw, .no⟩]⟩
  | .CU_SYNC => ⟨0x1000004, [(128, 512)], false, 0, [⟨15, 3, .rw, .no⟩, ⟨12, 3, .rw, .no⟩, ⟨11, 1, .rw, .no⟩, ⟨10, 1, .rw, .no⟩, ⟨9, 1, .rw, .no⟩, ⟨8, 1, .rw, .no⟩]⟩
  | .CU_SYNCEV => ⟨0x1000006, [(128, 512)], false, 0, [⟨0, 9, .rw, .no⟩]⟩
  | .CU_PER => ⟨0x1000008, [(128, 512)], true, 1000, [⟨0, 28, .rw, .no⟩]⟩
  | .CU_PERS => ⟨0x100000c, [(128, 512)], true, 1000, [⟨0, 28, .ro, .no⟩]⟩
  | .CU_CMP => ⟨0x1000010, [(128, 512), (4, 4)], true, 0, [⟨0, 36, .rw, .no⟩]⟩
  | .CU_PHASE => ⟨0x1000020, [(128, 512)], true, 0, [⟨0, 36, .rw, .no⟩]⟩
  | .CU_CNT => ⟨0x1000024, [(128, 512)], true, 0, [⟨0, 36, .rw, .no⟩]⟩
  | .CU_DTR => ⟨0x1000028, [(128, 512)], false, 0, [⟨0, 18, .rw, .no⟩]⟩
  | .CU_DTF => ⟨0x100002a, [(128, 512)], false, 0, [⟨0, 18, .rw, .no⟩]⟩
  | .CU_MINP => ⟨0x100002c, [(128, 512)], false, 0, [⟨0, 18, .rw, .no⟩]⟩
  | .CU_PEND => ⟨0x100002e, [(128, 512)], false, 0, [⟨17, 1, .ro, .no⟩, ⟨13, 4, .ro, .no⟩, ⟨12, 1, .ro, .no⟩]⟩
  | .CU_CARRY => ⟨0x1000030, [(128, 512)], true, 0, [⟨0, 36, .rw, .no⟩]⟩
  | .CU_TZM => ⟨0x1000034, [(128, 512)], false, 0, [⟨0, 16, .rw, .no⟩]⟩
  | .CU_RESP => ⟨0x1000036, [(128, 512)], false, 0, [⟨16, 2, .rw, .no⟩, ⟨14, 2, .rw, .no⟩, ⟨12, 2, .rw, .no⟩, ⟨10, 2, .rw, .no⟩, ⟨9, 1, .rw, .no⟩, ⟨0, 4, .rw, .no⟩]⟩
  | .CU_STAT => ⟨0x1000038, [(128, 512)], false, 0, [⟨17, 1, .ro, .no⟩, ⟨16, 1, .ro, .no⟩, ⟨15, 1, .ro, .no⟩, ⟨14, 1, .clr, .no⟩, ⟨13, 1, .clr, .no⟩, ⟨12, 1, .clr, .no⟩, ⟨11, 1, .clr, .no⟩, ⟨10, 1, .clr, .no⟩, ⟨9, 1, .clr, .no⟩, ⟨8, 1, .clr, .no⟩]⟩
  | .CU_FLAG => ⟨0x100003a, [(128, 512)], false, 0, [⟨17, 1, .clr, .no⟩, ⟨16, 1, .clr, .no⟩, ⟨12, 4, .clr, .no⟩, ⟨11, 1, .clr, .no⟩, ⟨10, 1, .clr, .no⟩, ⟨9, 1, .clr, .no⟩, ⟨8, 1, .clr, .no⟩]⟩
  | .CU_IEN => ⟨0x100003c, [(128, 512)], false, 0, [⟨8, 10, .rw, .no⟩]⟩
  | .CU_CAPSRC => ⟨0x100003e, [(128, 512), (2, 2)], false, 0, [⟨17, 1, .rw, .no⟩, ⟨16, 1, .rw, .no⟩, ⟨15, 1, .wo, .no⟩, ⟨0, 9, .rw, .no⟩]⟩
  | .CU_CAPSTAT => ⟨0x1000042, [(128, 512)], false, 0, [⟨15, 3, .ro, .no⟩, ⟨12, 3, .ro, .no⟩]⟩
  | .CU_CAP => ⟨0x1000044, [(128, 512), (2, 4)], true, 68719476735, [⟨0, 36, .ro, .no⟩]⟩
  | .CU_CAPTSH => ⟨0x100004c, [(128, 512), (2, 8)], true, 0, [⟨0, 36, .ro, .no⟩]⟩
  | .CU_CAPTSL => ⟨0x1000050, [(128, 512), (2, 8)], true, 0, [⟨0, 36, .ro, .no⟩]⟩
  | .TZ_PIN => ⟨0x1010000, [(16, 16)], false, 0, [⟨0, 16, .rw, .no⟩]⟩
  | .TZ_CORE => ⟨0x1010002, [(16, 16)], false, 0, [⟨0, 16, .rw, .no⟩]⟩
  | .TZ_LINK => ⟨0x1010004, [(16, 16)], false, 0, [⟨17, 1, .wo, .no⟩, ⟨0, 4, .rw, .no⟩]⟩
  | .TZ_STAT => ⟨0x1010006, [(16, 16)], false, 0, [⟨17, 1, .clr, .no⟩, ⟨16, 1, .ro, .no⟩, ⟨0, 8, .ro, .no⟩]⟩
  | .TZ_IEN => ⟨0x1010008, [(16, 16)], false, 0, [⟨17, 1, .rw, .no⟩]⟩
  | .TRIP_POL => ⟨0x1010100, [], false, 0, [⟨0, 16, .rw, .no⟩]⟩
  | .EV_SRC => ⟨0x1100000, [(512, 16)], false, 0, [⟨13, 5, .rw, .no⟩, ⟨6, 7, .rw, .no⟩, ⟨2, 4, .rw, .no⟩]⟩
  | .EV_CTL => ⟨0x1100002, [(512, 16)], false, 0, [⟨17, 1, .rw, .no⟩, ⟨16, 1, .rw, .no⟩, ⟨15, 1, .rw, .no⟩]⟩
  | .EV_OWN => ⟨0x1100004, [(512, 16)], false, 31, [⟨17, 1, .set, .no⟩, ⟨0, 5, .rw, .no⟩]⟩
  | .EV_STAT => ⟨0x1100006, [(512, 16)], false, 0, [⟨17, 1, .ro, .no⟩, ⟨16, 1, .clr, .no⟩, ⟨15, 1, .clr, .no⟩, ⟨14, 1, .clr, .no⟩, ⟨13, 1, .ro, .no⟩, ⟨0, 7, .ro, .no⟩]⟩
  | .EV_SW => ⟨0x1100008, [(512, 16)], false, 0, [⟨17, 1, .wo, .no⟩]⟩
  | .LC_IN => ⟨0x1102000, [(64, 32), (4, 2)], false, 0, [⟨17, 1, .rw, .no⟩, ⟨0, 9, .rw, .no⟩]⟩
  | .LC_LUT => ⟨0x1102008, [(64, 32)], false, 0, [⟨0, 16, .rw, .no⟩]⟩
  | .LC_CTL => ⟨0x110200a, [(64, 32)], false, 0, [⟨17, 1, .rw, .no⟩, ⟨15, 2, .rw, .no⟩, ⟨13, 2, .rw, .no⟩, ⟨10, 3, .rw, .no⟩, ⟨9, 1, .rw, .no⟩, ⟨8, 1, .wo, .no⟩]⟩
  | .LC_FILT => ⟨0x110200c, [(64, 32)], false, 1, [⟨0, 16, .rw, .no⟩]⟩
  | .LC_STAT => ⟨0x110200e, [(64, 32)], false, 0, [⟨17, 1, .ro, .no⟩, ⟨16, 1, .ro, .no⟩, ⟨15, 1, .ro, .no⟩, ⟨14, 1, .ro, .no⟩, ⟨13, 1, .clr, .no⟩, ⟨12, 1, .clr, .no⟩]⟩
  | .LC_OWN => ⟨0x1102010, [(64, 32)], false, 31, [⟨17, 1, .set, .no⟩, ⟨0, 5, .rw, .no⟩]⟩
  | .SC_CTL => ⟨0x1140000, [(4, 1024)], false, 0, [⟨17, 1, .rw, .no⟩, ⟨16, 1, .rw, .no⟩, ⟨10, 6, .rw, .no⟩]⟩
  | .SC_STAT => ⟨0x1140002, [(4, 1024)], false, 0, [⟨12, 6, .ro, .no⟩, ⟨4, 8, .ro, .no⟩, ⟨3, 1, .clr, .no⟩, ⟨2, 1, .clr, .no⟩]⟩
  | .SC_SEQA => ⟨0x1140200, [(4, 1024), (64, 8)], true, 0, [⟨29, 7, .rw, .no⟩, ⟨21, 8, .rw, .no⟩, ⟨19, 2, .rw, .no⟩, ⟨18, 1, .rw, .no⟩, ⟨0, 16, .rw, .no⟩]⟩
  | .SC_SEQB => ⟨0x1140204, [(4, 1024), (64, 8)], true, 0, [⟨0, 16, .rw, .no⟩]⟩
  | .SV_RES => ⟨0x1141000, [(66, 4)], true, 0, [⟨35, 1, .ro, .no⟩, ⟨34, 1, .ro, .no⟩, ⟨33, 1, .ro, .no⟩, ⟨32, 1, .ro, .no⟩, ⟨24, 8, .ro, .no⟩, ⟨0, 24, .ro, .no⟩]⟩
  | .SC_BOTHR => ⟨0x1141200, [], false, 1450, [⟨0, 11, .rw, .no⟩]⟩
  | .MT_CTL => ⟨0x1141202, [], false, 0, [⟨17, 1, .rw, .no⟩, ⟨16, 1, .rw, .no⟩, ⟨0, 7, .rw, .no⟩]⟩
  | .MT_LIM => ⟨0x1141204, [], true, 3932183000, [⟨18, 18, .rw, .no⟩, ⟨0, 18, .rw, .no⟩]⟩
  | .MT_STAT => ⟨0x1141208, [], true, 0, [⟨35, 1, .ro, .no⟩, ⟨34, 1, .clr, .no⟩, ⟨0, 29, .ro, .no⟩]⟩
  | .MF_CTL => ⟨0x1142000, [(32, 512)], false, 60, [⟨17, 1, .rw, .no⟩, ⟨16, 1, .wo, .no⟩, ⟨15, 1, .wo, .no⟩, ⟨14, 1, .rw, .no⟩, ⟨11, 3, .rw, .no⟩, ⟨8, 3, .ro, .no⟩, ⟨2, 6, .rw, .no⟩, ⟨1, 1, .rw, .no⟩]⟩
  | .MF_SRC => ⟨0x1142002, [(32, 512)], false, 0, [⟨7, 7, .rw, .no⟩, ⟨0, 7, .rw, .no⟩]⟩
  | .MF_STAT => ⟨0x1142004, [(32, 512)], false, 0, [⟨17, 1, .ro, .no⟩, ⟨16, 1, .ro, .no⟩, ⟨15, 1, .clr, .no⟩, ⟨14, 1, .clr, .no⟩, ⟨13, 1, .clr, .no⟩, ⟨12, 1, .clr, .no⟩]⟩
  | .MF_TCHG => ⟨0x1142008, [(32, 512)], true, 0, [⟨0, 36, .rw, .no⟩]⟩
  | .MFU_JCTL => ⟨0x1146000, [], false, 0, [⟨17, 1, .rw, .no⟩, ⟨7, 10, .rw, .no⟩]⟩
  | .MFU_JPER => ⟨0x1146002, [], false, 1, [⟨0, 18, .rw, .no⟩]⟩
  | .MFU_JSTAT => ⟨0x1146004, [], false, 0, [⟨17, 1, .ro, .no⟩, ⟨16, 1, .clr, .no⟩, ⟨15, 1, .clr, .no⟩, ⟨11, 4, .ro, .no⟩]⟩
  | .GRF_ID => ⟨0x12c1000, [], true, 0, [⟨18, 18, .ro, .no⟩, ⟨0, 18, .ro, .no⟩]⟩
  | .GRF_STAT => ⟨0x12c1004, [], false, 0, [⟨17, 1, .ro, .no⟩, ⟨16, 1, .ro, .no⟩, ⟨15, 1, .ro, .no⟩, ⟨0, 6, .ro, .no⟩]⟩
  | .GRF_LOCK => ⟨0x12c1006, [], false, 0, [⟨17, 1, .lock, .no⟩]⟩
  | .GRF_LDA => ⟨0x12c1008, [], false, 0, [⟨17, 1, .wo, .no⟩, ⟨0, 8, .wo, .no⟩]⟩
  | .GRF_LDD => ⟨0x12c100c, [], true, 0, [⟨0, 28, .wo, .no⟩]⟩
  | .GRF_MATCH => ⟨0x12c1040, [(32, 4)], true, 0, [⟨35, 1, .rw, .no⟩, ⟨17, 13, .rw, .no⟩, ⟨0, 8, .rw, .no⟩]⟩
  | .CORE_STAT => ⟨0x1180000, [(16, 4096)], false, 0, [⟨15, 3, .ro, .no⟩, ⟨14, 1, .clr, .no⟩, ⟨13, 1, .clr, .no⟩]⟩
  | .CORE_RST => ⟨0x1180002, [(16, 4096)], false, 0, [⟨0, 2, .wo, .no⟩]⟩
  | .CORE_TDT => ⟨0x1180004, [(16, 4096)], true, 0, [⟨35, 1, .rw, .no⟩, ⟨0, 27, .rw, .no⟩]⟩
  | .CORE_FRM => ⟨0x1180008, [(16, 4096)], true, 0, [⟨27, 9, .rw, .no⟩, ⟨0, 27, .rw, .no⟩]⟩
  | .CORE_FSP => ⟨0x118000c, [(16, 4096)], false, 0, [⟨0, 9, .ro, .no⟩]⟩
  | .CORE_LKINFO => ⟨0x118000e, [(16, 4096)], false, 0, [⟨14, 4, .ro, .no⟩, ⟨12, 2, .ro, .no⟩, ⟨6, 6, .ro, .no⟩]⟩
  | .CORE_LKADR => ⟨0x1180010, [(16, 4096)], true, 0, [⟨0, 27, .ro, .no⟩]⟩
  | .CORE_WDT => ⟨0x1180014, [(16, 4096)], true, 1000, [⟨35, 1, .lock, .no⟩, ⟨34, 1, .lock, .no⟩, ⟨0, 18, .lock, .no⟩]⟩
  | .CORE_WDK => ⟨0x1180018, [(16, 4096)], false, 0, [⟨0, 18, .wo, .no⟩]⟩
  | .VU_STAT => ⟨0x1180020, [(16, 4096)], false, 245760, [⟨14, 4, .ro, .no⟩, ⟨13, 1, .ro, .no⟩, ⟨12, 1, .clr, .no⟩, ⟨11, 1, .clr, .no⟩, ⟨0, 7, .ro, .no⟩]⟩
  | .VU_VTAB => ⟨0x1180024, [(16, 4096)], true, 0, [⟨0, 27, .rw, .no⟩]⟩
  | .VU_VLOAD => ⟨0x1180028, [(16, 4096)], false, 0, [⟨17, 1, .wo, .no⟩, ⟨0, 7, .wo, .no⟩]⟩
  | .VU_PEND => ⟨0x1180040, [(16, 4096), (8, 2)], false, 0, [⟨0, 16, .setClr, .no⟩]⟩
  | .VU_MASK => ⟨0x1180050, [(16, 4096), (8, 2)], false, 0, [⟨0, 16, .setClr, .no⟩]⟩
  | .VU_ACT => ⟨0x1180060, [(16, 4096), (8, 2)], false, 0, [⟨0, 16, .ro, .no⟩]⟩
  | .VU_LOST => ⟨0x1180070, [(16, 4096), (8, 2)], false, 0, [⟨0, 16, .clr, .no⟩]⟩
  | .VU_VCTL => ⟨0x1180200, [(16, 4096), (128, 2)], false, 122880, [⟨17, 1, .ro, .no⟩, ⟨13, 4, .rw, .no⟩]⟩
  | .VU_ROUTE => ⟨0x11a0000, [(1024, 2)], false, 0, [⟨17, 1, .rw, .no⟩, ⟨13, 4, .rw, .no⟩, ⟨0, 7, .rw, .no⟩]⟩
  | .BANK_OWN => ⟨0x11c0000, [(64, 16)], false, 0, [⟨16, 2, .rw, .no⟩, ⟨15, 1, .rw, .no⟩, ⟨14, 1, .rw, .no⟩, ⟨0, 8, .rw, .no⟩]⟩
  | .BANK_STAT => ⟨0x11c0002, [(64, 16)], false, 0, [⟨17, 1, .ro, .no⟩, ⟨16, 1, .clr, .no⟩]⟩
  | .BANK_LOG => ⟨0x11c0004, [(64, 16)], false, 0, [⟨17, 1, .clr, .no⟩, ⟨16, 1, .clr, .no⟩, ⟨0, 14, .ro, .no⟩]⟩
  | .MEM_ECCADR => ⟨0x11c0400, [], true, 0, [⟨33, 3, .ro, .no⟩, ⟨29, 4, .ro, .no⟩, ⟨0, 27, .ro, .no⟩]⟩
  | .MEM_ECCCNT => ⟨0x11c0404, [], false, 0, [⟨0, 18, .rc, .no⟩]⟩
  | .MEM_SCRUB => ⟨0x11c0406, [], false, 131072, [⟨17, 1, .rw, .no⟩]⟩
  | .MEM_IEN => ⟨0x11c0408, [], false, 0, [⟨17, 1, .rw, .no⟩, ⟨16, 1, .rw, .no⟩, ⟨15, 1, .rw, .no⟩, ⟨14, 1, .rw, .no⟩, ⟨13, 1, .rw, .no⟩, ⟨12, 1, .rw, .no⟩, ⟨11, 1, .rw, .no⟩, ⟨10, 1, .rw, .no⟩, ⟨9, 1, .rw, .no⟩, ⟨8, 1, .rw, .no⟩]⟩
  | .LOCK_ACQ => ⟨0x11c1000, [(256, 16)], false, 0, [⟨0, 18, .ro, .no⟩]⟩
  | .LOCK_CMD => ⟨0x11c1002, [(256, 16)], false, 0, [⟨17, 1, .wo, .no⟩, ⟨16, 1, .wo, .no⟩, ⟨15, 1, .wo, .no⟩]⟩
  | .LOCK_OWN => ⟨0x11c1004, [(256, 16)], true, 0, [⟨34, 2, .ro, .no⟩, ⟨33, 1, .ro, .no⟩, ⟨21, 12, .ro, .no⟩, ⟨17, 4, .ro, .no⟩, ⟨14, 3, .ro, .no⟩]⟩
  | .LOCK_LEASE => ⟨0x11c1008, [(256, 16)], false, 0, [⟨0, 18, .rw, .no⟩]⟩
  | .LOCK_STAT => ⟨0x11c100a, [(256, 16)], false, 0, [⟨17, 1, .clr, .no⟩, ⟨16, 1, .clr, .no⟩]⟩
  | .TIDE_CSEL => ⟨0x11c2000, [(16, 2)], false, 0, [⟨0, 2, .rw, .no⟩]⟩
  | .TIDE_COMMIT => ⟨0x11c2020, [], false, 0, [⟨16, 2, .wo, .no⟩, ⟨14, 2, .wo, .no⟩, ⟨0, 7, .wo, .no⟩]⟩
  | .TIDE_STAT => ⟨0x11c2022, [], false, 0, [⟨17, 1, .clr, .no⟩, ⟨16, 1, .clr, .no⟩, ⟨0, 11, .ro, .no⟩]⟩
  | .TIDE_EPOCH => ⟨0x11c2024, [], true, 0, [⟨0, 36, .ro, .no⟩]⟩
  | .TSLOT_STAT => ⟨0x11c2040, [(4, 16)], false, 0, [⟨16, 2, .ro, .no⟩, ⟨13, 3, .ro, .no⟩, ⟨0, 11, .ro, .no⟩]⟩
  | .TSLOT_ATH => ⟨0x11c2044, [(4, 16)], true, 0, [⟨0, 36, .rw, .no⟩]⟩
  | .TSLOT_ATL => ⟨0x11c2048, [(4, 16)], true, 0, [⟨0, 36, .rw, .no⟩]⟩
  | .SNAP_LIST => ⟨0x11c3000, [(16, 32)], true, 0, [⟨27, 9, .rw, .no⟩, ⟨0, 27, .rw, .no⟩]⟩
  | .SNAP_DST => ⟨0x11c3004, [(16, 32)], true, 0, [⟨0, 27, .rw, .no⟩]⟩
  | .SNAP_ATH => ⟨0x11c3008, [(16, 32)], true, 0, [⟨0, 36, .rw, .no⟩]⟩
  | .SNAP_ATL => ⟨0x11c300c, [(16, 32)], true, 0, [⟨0, 36, .rw, .no⟩]⟩
  | .SNAP_GO => ⟨0x11c3010, [(16, 32)], false, 0, [⟨17, 1, .wo, .no⟩, ⟨16, 1, .wo, .no⟩]⟩
  | .SNAP_STAT => ⟨0x11c3012, [(16, 32)], false, 0, [⟨17, 1, .ro, .no⟩, ⟨16, 1, .clr, .no⟩, ⟨15, 1, .clr, .no⟩, ⟨14, 1, .clr, .no⟩, ⟨11, 3, .ro, .no⟩]⟩
  | .FL_BSTAT => ⟨0x1200000, [(4, 16)], false, 0, [⟨17, 1, .ro, .no⟩, ⟨15, 2, .ro, .no⟩, ⟨12, 3, .ro, .no⟩, ⟨9, 3, .ro, .no⟩, ⟨8, 1, .clr, .no⟩, ⟨7, 1, .ro, .no⟩]⟩
  | .FL_BADDR => ⟨0x1200004, [(4, 16)], true, 0, [⟨0, 27, .ro, .no⟩]⟩
  | .FL_IEN => ⟨0x1200040, [], false, 0, [⟨14, 4, .rw, .no⟩, ⟨13, 1, .rw, .no⟩]⟩
  | .FL_RSEL => ⟨0x1200042, [], false, 0, [⟨0, 10, .rw, .no⟩]⟩
  | .FL_RING => ⟨0x1200044, [], true, 0, [⟨35, 1, .ro, .all⟩, ⟨34, 1, .ro, .all⟩, ⟨0, 24, .ro, .all⟩]⟩
  | .FL_PROT => ⟨0x1200048, [], true, 0, [⟨35, 1, .lock, .no⟩, ⟨10, 10, .lock, .no⟩, ⟨0, 10, .lock, .no⟩]⟩
  | .FL_OTPLK => ⟨0x120004c, [], false, 0, [⟨17, 1, .lock, .no⟩]⟩
  | .FL_ECCCNT => ⟨0x120004e, [], false, 0, [⟨0, 18, .rc, .no⟩]⟩
  | .FL_RECOV => ⟨0x1200050, [], true, 0, [⟨32, 4, .ro, .no⟩, ⟨0, 27, .ro, .no⟩]⟩
  | .TB_CTL => ⟨0x1240000, [], false, 0, [⟨16, 2, .rw, .all⟩, ⟨15, 1, .rw, .all⟩, ⟨14, 1, .wo, .no⟩, ⟨13, 1, .rw, .all⟩]⟩
  | .TB_STAT => ⟨0x1240002, [], false, 0, [⟨17, 1, .ro, .all⟩, ⟨16, 1, .ro, .all⟩, ⟨15, 1, .ro, .all⟩, ⟨14, 1, .ro, .all⟩, ⟨13, 1, .clr, .all⟩, ⟨12, 1, .clr, .all⟩, ⟨11, 1, .clr, .no⟩, ⟨10, 1, .clr, .no⟩, ⟨9, 1, .clr, .no⟩]⟩
  | .TB_NOWH => ⟨0x1240004, [], true, 0, [⟨0, 36, .ro, .all⟩]⟩
  | .TB_NOWL => ⟨0x1240008, [], true, 0, [⟨0, 36, .ro, .all⟩]⟩
  | .TB_SETH => ⟨0x124000c, [], true, 0, [⟨0, 36, .rw, .no⟩]⟩
  | .TB_SETL => ⟨0x1240010, [], true, 0, [⟨0, 36, .rw, .no⟩]⟩
  | .TB_PPSDLY => ⟨0x1240014, [], true, 0, [⟨0, 36, .rw, .all⟩]⟩
  | .TB_PPSWIN => ⟨0x1240018, [], true, 1000, [⟨0, 29, .rw, .all⟩]⟩
  | .TB_PPSSEC => ⟨0x124001c, [], true, 0, [⟨0, 36, .rw, .no⟩]⟩
  | .TB_PPSERR => ⟨0x1240020, [], true, 0, [⟨0, 36, .ro, .no⟩]⟩
  | .TB_RATE => ⟨0x1240024, [], true, 0, [⟨0, 36, .rw, .all⟩]⟩
  | .TB_SLEW => ⟨0x1240028, [], true, 0, [⟨0, 36, .ro, .no⟩]⟩
  | .TB_UNCERT => ⟨0x124002c, [], true, 68719476735, [⟨0, 36, .ro, .all⟩]⟩
  | .TB_XRATIO => ⟨0x1240030, [], true, 8000000000, [⟨0, 36, .ro, .all⟩]⟩
  | .TB_PPSREJ => ⟨0x1240034, [], false, 0, [⟨0, 18, .rc, .no⟩]⟩
  | .CLK_STAT => ⟨0x1240080, [], false, 0, [⟨17, 1, .clr, .no⟩, ⟨16, 1, .ro, .all⟩, ⟨13, 3, .ro, .no⟩]⟩
  | .PWR_SLEEP => ⟨0x1240100, [], false, 0, [⟨15, 3, .rw, .no⟩]⟩
  | .PWR_STAT => ⟨0x1240102, [], false, 0, [⟨15, 3, .ro, .all⟩, ⟨12, 3, .ro, .no⟩, ⟨8, 4, .ro, .all⟩]⟩
  | .PWR_QCTL => ⟨0x1240104, [], false, 245760, [⟨14, 4, .rw, .no⟩]⟩
  | .PWR_WPIN => ⟨0x1240106, [], false, 0, [⟨6, 12, .rw, .all⟩]⟩
  | .PWR_ALARM => ⟨0x1240108, [], true, 0, [⟨0, 36, .rw, .all⟩]⟩
  | .PWR_PFSTAT => ⟨0x124010c, [], false, 0, [⟨17, 1, .ro, .no⟩, ⟨16, 1, .ro, .no⟩, ⟨15, 1, .ro, .no⟩, ⟨12, 3, .ro, .no⟩]⟩
  | .PWR_DEVRST => ⟨0x124010e, [], false, 0, [⟨0, 18, .wo, .no⟩]⟩
  | .PWR_IEN => ⟨0x1240110, [], false, 0, [⟨17, 1, .rw, .no⟩, ⟨16, 1, .rw, .no⟩, ⟨15, 1, .rw, .no⟩, ⟨14, 1, .rw, .no⟩, ⟨13, 1, .rw, .no⟩, ⟨12, 1, .rw, .no⟩, ⟨11, 1, .rw, .no⟩, ⟨10, 1, .rw, .no⟩]⟩
  | .MODE_CTL => ⟨0x1240180, [], false, 0, [⟨16, 2, .rw, .no⟩]⟩
  | .MODE_STAT => ⟨0x1240182, [], false, 0, [⟨16, 2, .ro, .no⟩, ⟨15, 1, .ro, .no⟩, ⟨12, 3, .ro, .no⟩, ⟨10, 2, .ro, .no⟩]⟩
  | .TJ_SPRING_LIMIT => ⟨0x1240184, [], false, 100, [⟨0, 8, .rw, .no⟩]⟩
  | .SPRING_MAX_S => ⟨0x1240186, [], false, 60, [⟨0, 8, .rw, .no⟩]⟩
  | .MODE_DROOP => ⟨0x1240188, [], false, 154, [⟨0, 8, .rw, .no⟩]⟩
  | .TJ_EST => ⟨0x124018a, [], false, 0, [⟨14, 4, .ro, .no⟩, ⟨0, 14, .ro, .no⟩]⟩
  | .LK_CTL => ⟨0x1280000, [(4, 128)], false, 0, [⟨17, 1, .rw, .no⟩, ⟨14, 3, .rw, .no⟩, ⟨13, 1, .rw, .no⟩]⟩
  | .LK_PSTAT => ⟨0x1280002, [(4, 128)], false, 0, [⟨15, 3, .ro, .no⟩, ⟨14, 1, .clr, .no⟩, ⟨13, 1, .clr, .no⟩, ⟨12, 1, .clr, .no⟩, ⟨11, 1, .ro, .no⟩, ⟨5, 6, .ro, .no⟩]⟩
  | .LK_PNODE => ⟨0x1280004, [(4, 128)], false, 0, [⟨17, 1, .ro, .no⟩, ⟨0, 12, .ro, .no⟩]⟩
  | .LK_ECODE => ⟨0x1280006, [(4, 128)], false, 0, [⟨0, 18, .rc, .no⟩]⟩
  | .LK_ECRC => ⟨0x1280008, [(4, 128)], false, 0, [⟨0, 18, .rc, .no⟩]⟩
  | .LK_EAUTH => ⟨0x128000a, [(4, 128)], false, 0, [⟨0, 18, .rc, .no⟩]⟩
  | .LK_ERTRY => ⟨0x128000c, [(4, 128)], false, 0, [⟨0, 18, .rc, .no⟩]⟩
  | .LK_EDROP => ⟨0x128000e, [(4, 128)], false, 0, [⟨0, 18, .rc, .no⟩]⟩
  | .LK_QUAR => ⟨0x1280010, [(4, 128)], false, 16, [⟨0, 8, .rw, .no⟩]⟩
  | .LK_TDLY => ⟨0x1280014, [(4, 128)], true, 0, [⟨0, 36, .ro, .no⟩]⟩
  | .LK_NET => ⟨0x1280200, [], false, 131072, [⟨12, 6, .rw, .no⟩, ⟨0, 12, .lock, .no⟩]⟩
  | .LK_RETRY => ⟨0x1280202, [], false, 17416, [⟨12, 6, .rw, .no⟩, ⟨6, 6, .rw, .no⟩, ⟨0, 6, .rw, .no⟩]⟩
  | .LK_CAP => ⟨0x1280204, [], false, 8, [⟨0, 18, .rw, .no⟩]⟩
  | .LK_TMO => ⟨0x1280206, [], false, 100, [⟨0, 18, .rw, .no⟩]⟩
  | .LK_TCTL => ⟨0x1280208, [], false, 0, [⟨17, 1, .rw, .no⟩, ⟨15, 2, .rw, .no⟩]⟩
  | .LK_WTAB => ⟨0x128020a, [], true, 0, [⟨0, 27, .rw, .no⟩]⟩
  | .LK_WLOAD => ⟨0x128020e, [], false, 0, [⟨17, 1, .wo, .no⟩, ⟨0, 6, .wo, .no⟩]⟩
  | .LK_GSTAT => ⟨0x1280210, [], false, 0, [⟨17, 1, .ro, .no⟩, ⟨16, 1, .ro, .no⟩, ⟨15, 1, .clr, .no⟩, ⟨14, 1, .clr, .no⟩, ⟨13, 1, .clr, .no⟩, ⟨12, 1, .clr, .no⟩, ⟨11, 1, .clr, .no⟩, ⟨0, 6, .ro, .no⟩]⟩
  | .LK_REFLOG => ⟨0x1280212, [], true, 0, [⟨32, 4, .ro, .no⟩, ⟨20, 12, .ro, .no⟩, ⟨14, 6, .ro, .no⟩]⟩
  | .LK_SNAPB => ⟨0x1280216, [], false, 0, [⟨17, 1, .rw, .no⟩, ⟨0, 6, .rw, .no⟩]⟩
  | .LK_IEN => ⟨0x1280218, [], false, 0, [⟨14, 4, .rw, .no⟩, ⟨13, 1, .rw, .no⟩, ⟨12, 1, .rw, .no⟩, ⟨11, 1, .rw, .no⟩, ⟨10, 1, .rw, .no⟩, ⟨9, 1, .rw, .no⟩]⟩
  | .LK_TXD => ⟨0x1280400, [(16, 64), (4, 16)], false, 0, [⟨17, 1, .wo, .no⟩, ⟨15, 2, .rw, .no⟩, ⟨14, 1, .rw, .no⟩, ⟨0, 12, .rw, .no⟩]⟩
  | .LK_TXW => ⟨0x1280402, [(16, 64), (4, 16)], false, 1, [⟨12, 6, .rw, .no⟩, ⟨0, 5, .rw, .no⟩]⟩
  | .LK_TXO => ⟨0x1280404, [(16, 64), (4, 16)], true, 0, [⟨0, 27, .rw, .no⟩]⟩
  | .LK_TXL => ⟨0x1280408, [(16, 64), (4, 16)], true, 0, [⟨0, 27, .rw, .no⟩]⟩
  | .LK_TXS => ⟨0x128040c, [(16, 64), (4, 16)], false, 0, [⟨17, 1, .ro, .no⟩, ⟨16, 1, .clr, .no⟩, ⟨12, 4, .ro, .no⟩]⟩
  | .LK_ROUTE => ⟨0x1288000, [(4096, 2)], false, 65541, [⟨17, 1, .clr, .no⟩, ⟨16, 1, .rw, .no⟩, ⟨0, 3, .rw, .no⟩]⟩
  | .GT_TREE => ⟨0x11c2800, [], false, 114688, [⟨17, 1, .rw, .no⟩, ⟨14, 3, .rw, .no⟩, ⟨10, 4, .rw, .no⟩, ⟨6, 4, .rw, .no⟩]⟩
  | .GT_CTL => ⟨0x11c2802, [], false, 0, [⟨17, 1, .rw, .no⟩]⟩
  | .GT_BIND => ⟨0x11c2804, [], false, 0, [⟨17, 1, .rw, .no⟩, ⟨15, 2, .rw, .no⟩]⟩
  | .GT_BINDID => ⟨0x11c2808, [], true, 0, [⟨0, 36, .rw, .no⟩]⟩
  | .GT_STAT => ⟨0x11c280c, [], false, 0, [⟨17, 1, .ro, .no⟩, ⟨16, 1, .ro, .no⟩, ⟨14, 2, .ro, .no⟩, ⟨13, 1, .ro, .no⟩, ⟨9, 4, .ro, .no⟩, ⟨8, 1, .clr, .no⟩, ⟨7, 1, .clr, .no⟩]⟩
  | .GT_LAST => ⟨0x11c2810, [], true, 0, [⟨0, 36, .ro, .no⟩]⟩
  | .GT_GEPOCH => ⟨0x11c2814, [], true, 0, [⟨0, 36, .ro, .no⟩]⟩
  | .GT_RID => ⟨0x11c2818, [], true, 0, [⟨0, 36, .ro, .no⟩]⟩
  | .GT_IGN => ⟨0x11c281c, [], false, 0, [⟨0, 18, .rc, .no⟩]⟩
  | .GT_PID => ⟨0x11c2820, [], true, 0, [⟨0, 36, .rw, .no⟩]⟩
  | .GT_PINH => ⟨0x11c2824, [], true, 0, [⟨0, 36, .rw, .no⟩]⟩
  | .GT_PINL => ⟨0x11c2828, [], true, 0, [⟨0, 36, .rw, .no⟩]⟩
  | .GT_PLEAD => ⟨0x11c282c, [], true, 20000, [⟨0, 36, .rw, .no⟩]⟩
  | .GT_PGUARD => ⟨0x11c2830, [], false, 2000, [⟨0, 18, .rw, .no⟩]⟩
  | .GT_PCTL => ⟨0x11c2832, [], false, 1, [⟨17, 1, .wo, .no⟩, ⟨16, 1, .wo, .no⟩, ⟨15, 1, .wo, .no⟩, ⟨14, 1, .wo, .no⟩, ⟨13, 1, .rw, .no⟩, ⟨0, 6, .rw, .no⟩]⟩
  | .GT_PDST => ⟨0x11c2834, [], false, 0, [⟨0, 12, .rw, .no⟩]⟩
  | .GT_RES => ⟨0x11c2838, [], false, 0, [⟨17, 1, .ro, .no⟩, ⟨16, 1, .ro, .no⟩, ⟨12, 4, .ro, .no⟩, ⟨0, 6, .ro, .no⟩]⟩
  | .GT_RESN => ⟨0x11c283c, [], true, 0, [⟨18, 13, .ro, .no⟩, ⟨12, 1, .ro, .no⟩, ⟨0, 12, .ro, .no⟩]⟩
  | .GT_DREP => ⟨0x11c2840, [], false, 0, [⟨17, 1, .ro, .no⟩, ⟨16, 1, .clr, .no⟩, ⟨0, 12, .ro, .no⟩]⟩
  | .GT_DREPID => ⟨0x11c2844, [], true, 0, [⟨0, 36, .ro, .no⟩]⟩
  | .GT_PRID => ⟨0x11c2848, [], true, 0, [⟨0, 36, .rw, .no⟩]⟩
  | .BOOT_STAT => ⟨0x12c0000, [], false, 0, [⟨16, 2, .ro, .no⟩, ⟨15, 1, .ro, .no⟩, ⟨14, 1, .ro, .no⟩, ⟨10, 4, .ro, .no⟩, ⟨7, 3, .ro, .no⟩]⟩
  | .BOOT_RSTC => ⟨0x12c0002, [], false, 0, [⟨15, 3, .ro, .no⟩, ⟨11, 4, .ro, .no⟩]⟩
  | .BEHAVIOUR_LEVEL => ⟨0x12c0004, [], true, 786432, [⟨18, 6, .ro, .no⟩, ⟨12, 6, .ro, .no⟩, ⟨6, 6, .ro, .no⟩, ⟨0, 6, .ro, .no⟩]⟩
  | .BOOT_VER => ⟨0x12c0008, [], true, 0, [⟨0, 36, .ro, .no⟩]⟩
  | .KU_CMD => ⟨0x12c0400, [], false, 0, [⟨16, 2, .wo, .no⟩, ⟨0, 3, .wo, .no⟩]⟩
  | .KU_STAT => ⟨0x12c0402, [], false, 0, [⟨17, 1, .ro, .no⟩, ⟨16, 1, .clr, .no⟩, ⟨15, 1, .ro, .no⟩]⟩
  | .KU_RNG => ⟨0x12c0404, [], true, 0, [⟨35, 1, .ro, .no⟩, ⟨0, 32, .ro, .no⟩]⟩
  | .KU_DIN => ⟨0x12c0408, [(4, 4)], true, 0, [⟨0, 32, .rw, .no⟩]⟩
  | .KU_DOUT => ⟨0x12c0418, [(4, 4)], true, 0, [⟨0, 32, .ro, .no⟩]⟩
  | .KU_IEN => ⟨0x12c0428, [], false, 0, [⟨17, 1, .rw, .no⟩, ⟨16, 1, .rw, .no⟩, ⟨15, 1, .rw, .no⟩]⟩
  | .DBG_CTL => ⟨0x12c0800, [], false, 0, [⟨17, 1, .set, .no⟩]⟩
  | .DBG_SCOPE => ⟨0x12c0802, [], false, 0, [⟨13, 5, .ro, .no⟩, ⟨0, 2, .ro, .no⟩]⟩
  | .TMP_STAT => ⟨0x12c0804, [], false, 0, [⟨14, 4, .clr, .all⟩]⟩
  | .SMB_CTL => ⟨0x1300000, [(2, 2048)], false, 0, [⟨17, 1, .rw, .no⟩, ⟨16, 1, .rw, .no⟩, ⟨14, 2, .rw, .no⟩, ⟨13, 1, .rw, .no⟩, ⟨12, 1, .rw, .no⟩, ⟨0, 7, .rw, .no⟩]⟩
  | .SMB_STAT => ⟨0x1300002, [(2, 2048)], false, 0, [⟨17, 1, .ro, .no⟩, ⟨16, 1, .ro, .no⟩, ⟨12, 4, .ro, .no⟩, ⟨11, 1, .clr, .no⟩, ⟨10, 1, .clr, .no⟩, ⟨9, 1, .clr, .no⟩, ⟨8, 1, .clr, .no⟩, ⟨5, 1, .ro, .no⟩, ⟨0, 5, .ro, .no⟩]⟩
  | .SMB_TMO => ⟨0x1300004, [(2, 2048)], false, 1000, [⟨0, 15, .rw, .no⟩]⟩
  | .SMB_CAPH => ⟨0x1300008, [(2, 2048)], true, 0, [⟨35, 1, .ro, .no⟩, ⟨34, 1, .ro, .no⟩, ⟨33, 1, .ro, .no⟩, ⟨28, 5, .ro, .no⟩, ⟨20, 8, .ro, .no⟩, ⟨14, 6, .ro, .no⟩]⟩
  | .SMB_CAPD => ⟨0x1300040, [(2, 2048), (16, 2)], false, 0, [⟨9, 8, .ro, .no⟩, ⟨0, 8, .ro, .no⟩]⟩
  | .SMB_RSPD => ⟨0x1300080, [(2, 2048), (16, 2)], false, 0, [⟨9, 8, .rw, .no⟩, ⟨0, 8, .rw, .no⟩]⟩
  | .SMB_POP => ⟨0x130000c, [(2, 2048)], false, 0, [⟨17, 1, .wo, .no⟩]⟩
  | .SMB_RSP => ⟨0x130000e, [(2, 2048)], false, 0, [⟨17, 1, .wo, .no⟩, ⟨16, 1, .wo, .no⟩, ⟨0, 6, .wo, .no⟩]⟩
  | .SMB_IMG => ⟨0x1300200, [(2, 2048), (32, 32), (12, 2)], false, 0, [⟨17, 1, .rw, .no⟩, ⟨9, 8, .rw, .no⟩, ⟨0, 8, .rw, .no⟩]⟩
  | .SPI_CTL => ⟨0x1301000, [(2, 64)], false, 9, [⟨17, 1, .rw, .no⟩, ⟨16, 1, .rw, .no⟩, ⟨15, 1, .rw, .no⟩, ⟨14, 1, .rw, .no⟩, ⟨12, 2, .rw, .no⟩, ⟨11, 1, .rw, .no⟩, ⟨10, 1, .rw, .no⟩, ⟨9, 1, .rw, .no⟩, ⟨0, 8, .rw, .no⟩]⟩
  | .SPI_STAT => ⟨0x1301002, [(2, 64)], false, 0, [⟨17, 1, .ro, .no⟩, ⟨12, 5, .ro, .no⟩, ⟨7, 5, .ro, .no⟩, ⟨6, 1, .clr, .no⟩, ⟨5, 1, .clr, .no⟩]⟩
  | .SPI_TX => ⟨0x1301004, [(2, 64)], false, 0, [⟨0, 18, .wo, .no⟩]⟩
  | .SPI_RX => ⟨0x1301006, [(2, 64)], false, 0, [⟨0, 18, .ro, .no⟩]⟩
  | .GPIO_CFG => ⟨0x1302000, [(64, 2)], false, 0, [⟨17, 1, .rw, .low8⟩, ⟨16, 1, .rw, .low8⟩, ⟨14, 2, .rw, .low8⟩, ⟨13, 1, .rw, .low8⟩, ⟨11, 2, .rw, .no⟩, ⟨10, 1, .rw, .no⟩, ⟨9, 1, .clr, .no⟩]⟩
  | .GPIO_OUT => ⟨0x1302080, [(4, 2)], false, 0, [⟨0, 16, .setClr, .no⟩]⟩
  | .GPIO_IN => ⟨0x1302088, [(4, 2)], false, 0, [⟨0, 16, .ro, .no⟩]⟩
  | .MF_VTIMEH => ⟨0x1142040, [(32, 512)], true, 0, [⟨0, 36, .rw, .no⟩]⟩
  | .MF_VTIMEL => ⟨0x1142044, [(32, 512)], true, 0, [⟨0, 36, .rw, .no⟩]⟩
  | .MF_VIMPH => ⟨0x1142048, [(32, 512), (8, 8)], true, 0, [⟨0, 36, .rw, .no⟩]⟩
  | .MF_VIMPL => ⟨0x114204c, [(32, 512), (8, 8)], true, 0, [⟨0, 36, .rw, .no⟩]⟩
  | .MF_VEXPH => ⟨0x1142088, [(32, 512), (8, 8)], true, 0, [⟨0, 36, .rw, .no⟩]⟩
  | .MF_VEXPL => ⟨0x114208c, [(32, 512), (8, 8)], true, 0, [⟨0, 36, .rw, .no⟩]⟩
  | .MF_VV2H => ⟨0x11420c8, [(32, 512)], true, 0, [⟨0, 36, .rw, .no⟩]⟩
  | .MF_VV2L => ⟨0x11420cc, [(32, 512)], true, 0, [⟨0, 36, .rw, .no⟩]⟩
  | .MF_VI2H => ⟨0x11420d0, [(32, 512)], true, 0, [⟨0, 36, .rw, .no⟩]⟩
  | .MF_VI2L => ⟨0x11420d4, [(32, 512)], true, 0, [⟨0, 36, .rw, .no⟩]⟩
  | .MF_VDMAXH => ⟨0x1142100, [(32, 512), (8, 8)], true, 0, [⟨0, 36, .rw, .no⟩]⟩
  | .MF_VDMAXL => ⟨0x1142104, [(32, 512), (8, 8)], true, 0, [⟨0, 36, .rw, .no⟩]⟩
  | .MF_VDLASTH => ⟨0x1142140, [(32, 512)], true, 0, [⟨0, 36, .rw, .no⟩]⟩
  | .MF_VDLASTL => ⟨0x1142144, [(32, 512)], true, 0, [⟨0, 36, .rw, .no⟩]⟩
  | .MF_VVSTAMPH => ⟨0x1142148, [(32, 512)], true, 0, [⟨0, 36, .rw, .no⟩]⟩
  | .MF_VVSTAMPL => ⟨0x114214c, [(32, 512)], true, 0, [⟨0, 36, .rw, .no⟩]⟩

/-- Every register name, in the order of the tables, in pieces. -/
def RegName.all0 : List RegName := [.ICH_CTL, .ICH_TRGCU, .ICH_TRGEV, .ICH_DELAY, .ICH_WLEN, .ICH_PROBE, .ICH_PROBETHR, .ICH_GAINC, .ICH_OFFC, .ICH_IEN, .ICH_STAT, .ICH_MISSCNT, .ICH_RSTAT, .ICH_NORM, .ICH_RAW, .ICH_TLEN, .ICH_CALCTL, .WC_CTL, .WC_THH, .WC_THL, .WC_TRIP, .WC_BLKSRC, .WC_BLKLEN, .WC_IEN, .WC_STAT, .WC_GUARD, .BERTH_CTL, .BERTH_TRG, .BERTH_PROG, .BERTH_DL, .BERTH_GAIN, .BERTH_GBASE, .BERTH_BND, .BERTH_GRP, .BERTH_STAT, .BERTH_IO, .BERTH_OVR, .CR_SEP, .CR_STAT, .CR_UTIL, .CR_IEN, .CR_SEPB, .CG_CTL, .CG_STAT, .CG_OUT, .ENG_CTL, .ENG_STAT, .ENG_ADMERR]
def RegName.all1 : List RegName := [.ENG_SWTRG, .ENG_IEN, .CU_CTL, .CU_LDM, .CU_SYNC, .CU_SYNCEV, .CU_PER, .CU_PERS, .CU_CMP, .CU_PHASE, .CU_CNT, .CU_DTR, .CU_DTF, .CU_MINP, .CU_PEND, .CU_CARRY, .CU_TZM, .CU_RESP, .CU_STAT, .CU_FLAG, .CU_IEN, .CU_CAPSRC, .CU_CAPSTAT, .CU_CAP, .CU_CAPTSH, .CU_CAPTSL, .TZ_PIN, .TZ_CORE, .TZ_LINK, .TZ_STAT, .TZ_IEN, .TRIP_POL, .EV_SRC, .EV_CTL, .EV_OWN, .EV_STAT, .EV_SW, .LC_IN, .LC_LUT, .LC_CTL, .LC_FILT, .LC_STAT, .LC_OWN, .SC_CTL, .SC_STAT, .SC_SEQA, .SC_SEQB, .SV_RES]
def RegName.all2 : List RegName := [.SC_BOTHR, .MT_CTL, .MT_LIM, .MT_STAT, .MF_CTL, .MF_SRC, .MF_STAT, .MF_TCHG, .MFU_JCTL, .MFU_JPER, .MFU_JSTAT, .GRF_ID, .GRF_STAT, .GRF_LOCK, .GRF_LDA, .GRF_LDD, .GRF_MATCH, .CORE_STAT, .CORE_RST, .CORE_TDT, .CORE_FRM, .CORE_FSP, .CORE_LKINFO, .CORE_LKADR, .CORE_WDT, .CORE_WDK, .VU_STAT, .VU_VTAB, .VU_VLOAD, .VU_PEND, .VU_MASK, .VU_ACT, .VU_LOST, .VU_VCTL, .VU_ROUTE, .BANK_OWN, .BANK_STAT, .BANK_LOG, .MEM_ECCADR, .MEM_ECCCNT, .MEM_SCRUB, .MEM_IEN, .LOCK_ACQ, .LOCK_CMD, .LOCK_OWN, .LOCK_LEASE, .LOCK_STAT, .TIDE_CSEL]
def RegName.all3 : List RegName := [.TIDE_COMMIT, .TIDE_STAT, .TIDE_EPOCH, .TSLOT_STAT, .TSLOT_ATH, .TSLOT_ATL, .SNAP_LIST, .SNAP_DST, .SNAP_ATH, .SNAP_ATL, .SNAP_GO, .SNAP_STAT, .FL_BSTAT, .FL_BADDR, .FL_IEN, .FL_RSEL, .FL_RING, .FL_PROT, .FL_OTPLK, .FL_ECCCNT, .FL_RECOV, .TB_CTL, .TB_STAT, .TB_NOWH, .TB_NOWL, .TB_SETH, .TB_SETL, .TB_PPSDLY, .TB_PPSWIN, .TB_PPSSEC, .TB_PPSERR, .TB_RATE, .TB_SLEW, .TB_UNCERT, .TB_XRATIO, .TB_PPSREJ, .CLK_STAT, .PWR_SLEEP, .PWR_STAT, .PWR_QCTL, .PWR_WPIN, .PWR_ALARM, .PWR_PFSTAT, .PWR_DEVRST, .PWR_IEN, .MODE_CTL, .MODE_STAT, .TJ_SPRING_LIMIT]
def RegName.all4 : List RegName := [.SPRING_MAX_S, .MODE_DROOP, .TJ_EST, .LK_CTL, .LK_PSTAT, .LK_PNODE, .LK_ECODE, .LK_ECRC, .LK_EAUTH, .LK_ERTRY, .LK_EDROP, .LK_QUAR, .LK_TDLY, .LK_NET, .LK_RETRY, .LK_CAP, .LK_TMO, .LK_TCTL, .LK_WTAB, .LK_WLOAD, .LK_GSTAT, .LK_REFLOG, .LK_SNAPB, .LK_IEN, .LK_TXD, .LK_TXW, .LK_TXO, .LK_TXL, .LK_TXS, .LK_ROUTE, .GT_TREE, .GT_CTL, .GT_BIND, .GT_BINDID, .GT_STAT, .GT_LAST, .GT_GEPOCH, .GT_RID, .GT_IGN, .GT_PID, .GT_PINH, .GT_PINL, .GT_PLEAD, .GT_PGUARD, .GT_PCTL, .GT_PDST, .GT_RES, .GT_RESN]
def RegName.all5 : List RegName := [.GT_DREP, .GT_DREPID, .GT_PRID, .BOOT_STAT, .BOOT_RSTC, .BEHAVIOUR_LEVEL, .BOOT_VER, .KU_CMD, .KU_STAT, .KU_RNG, .KU_DIN, .KU_DOUT, .KU_IEN, .DBG_CTL, .DBG_SCOPE, .TMP_STAT, .SMB_CTL, .SMB_STAT, .SMB_TMO, .SMB_CAPH, .SMB_CAPD, .SMB_RSPD, .SMB_POP, .SMB_RSP, .SMB_IMG, .SPI_CTL, .SPI_STAT, .SPI_TX, .SPI_RX, .GPIO_CFG, .GPIO_OUT, .GPIO_IN, .MF_VTIMEH, .MF_VTIMEL, .MF_VIMPH, .MF_VIMPL, .MF_VEXPH, .MF_VEXPL, .MF_VV2H, .MF_VV2L, .MF_VI2H, .MF_VI2L, .MF_VDMAXH, .MF_VDMAXL, .MF_VDLASTH, .MF_VDLASTL, .MF_VVSTAMPH, .MF_VVSTAMPL]
/-- Every register name. -/
def RegName.all : List RegName := RegName.all0 ++ RegName.all1 ++ RegName.all2 ++ RegName.all3 ++ RegName.all4 ++ RegName.all5

end Sys2Proof.Machine
end

