-- ==== Sys2Proof/Machine/Store.lean ====
section
/-! DEFINITION. Sparse storage in one canonical form: a list of (key, value) pairs with strictly rising keys and no entry equal
to what an unlisted key reads as. The registers, the memories and the per-unit hidden state of the device are kept in it. -/

namespace Sys2Proof.Machine

/-- Sparse storage. What an unlisted key reads as is a function `d` of the key, passed to every operation. -/
abbrev Store (α : Type) := List (Nat × α)

/-- The value stored at key `k`. -/
def Store.get {α : Type} (d : Nat → α) : Store α → Nat → α
  | [], k => d k
  | (j, v) :: m, k => if j = k then v else Store.get d m k

/-- The storage without key `k`. -/
def Store.erase {α : Type} : Store α → Nat → Store α
  | [], _ => []
  | (j, v) :: m, k => if j = k then Store.erase m k else (j, v) :: Store.erase m k

/-- The storage with the pair (k, v) before the first larger key. -/
def Store.insert {α : Type} : Store α → Nat → α → Store α
  | [], k, v => [(k, v)]
  | (j, u) :: m, k, v => if k < j then (k, v) :: (j, u) :: m else (j, u) :: Store.insert m k v

/-- The storage with `v` at key `k`; a value that an unlisted key reads as removes the entry. -/
def Store.set {α : Type} [DecidableEq α] (d : Nat → α) (m : Store α) (k : Nat) (v : α) : Store α :=
  if v = d k then m.erase k else (m.erase k).insert k v

/-- The canonical form: keys strictly rising from `lo`, and no entry equal to what an unlisted key reads as. -/
def Store.wfFrom {α : Type} [DecidableEq α] (d : Nat → α) : Nat → Store α → Bool
  | _, [] => true
  | lo, (k, v) :: m => decide (lo ≤ k) && decide (v ≠ d k) && Store.wfFrom d (k + 1) m

/-- The canonical form of a storage. -/
def Store.wf {α : Type} [DecidableEq α] (d : Nat → α) (m : Store α) : Bool := Store.wfFrom d 0 m

end Sys2Proof.Machine
end

