-- ==== Sys2Proof/Machine/Units.lean ====
section
/-! DEFINITION. The hidden state of the units: what the manual gives each unit beside its registers. Instants are fine ticks
(1/64 ns, R4) on the device's own time line, `State.now`. -/

namespace Sys2Proof.Machine

/-! ### Registers (R13, R14) -/

/-- R13, R14: what hardware did to a register in timer cycle `cyc`: the bits it set or updated; and, where an event counted in its RC
field, the count before the events and the count of the events. -/
structure HwRec where
  cyc : Nat := 0
  bits : BitVec 36 := 0
  rc : Option (Nat × Nat) := none
  deriving DecidableEq, Repr

/-! ### Integrator channels (02_integrator_channels.md) -/

/-- R39, R40: the open window of a channel: its open instant, the residue read there, whether it absorbed a short trigger (R42),
and the leg that a probe current drives in it (R54; true: AIN). -/
structure OpenWin where
  openAt : Nat
  res : Int
  merged : Bool
  leg : Option Bool
  deriving DecidableEq, Repr

/-- R48: a closed window in normalization. `start` is the timer edge at which normalization begins; `c`, `o`, `thr` and `ien`
are the register values of R45 that govern it; `armNo` is the arming it belongs to. -/
structure NormWin where
  start : Nat
  raw : Int
  len : Nat
  merged : Bool
  forced : Bool
  ovld : Bool
  neg : Bool
  cal : Bool
  leg : Option Bool
  c : Int
  o : Int
  thr : Nat
  wdone : Bool
  openIen : Bool
  armNo : Nat
  deriving DecidableEq, Repr

/-- R55: one remembered result: the normalized sample, whether it carries ovld or merged, its probed leg, and its arming. -/
structure Sample where
  y : Int
  bad : Bool
  leg : Option Bool
  armNo : Nat
  deriving DecidableEq, Repr

/-- The hidden state of an integrator channel: when ready sets (R43), the pending edge instants (R41), the open window, the closed
windows in normalization, the windows counted since arming (R54), the last two results (R55), the latest overload interval
(R51, R53), the instants at which the modulator was powered and became ready (R43), and the latest trigger instant (R37). -/
structure IchS where
  readyDue : Option Nat := none
  edges : List Nat := []
  win : Option OpenWin := none
  norms : List NormWin := []
  winNo : Nat := 0
  armNo : Nat := 0
  hist : List Sample := []
  ovNeg : Bool := false
  ovSet : Nat := 0
  ovClr : Option Nat := none
  powAt : Nat := 0
  readyAt : Nat := 0
  trgAt : Option Nat := none
  deriving DecidableEq, Repr

/-! ### Window comparators (03_window_comparators.md) -/

/-- R65: a moving threshold: where it started, in thousandths of a code, how far it has come, in thousandths of the way, and when
it has settled. -/
structure Move where
  src : Int := 0
  pos : Nat := 1000
  due : Nat := 0
  deriving DecidableEq, Repr

/-- The hidden state of a comparator: when ready sets (R67), the input pair's voltage in microvolts (R62), the threshold moves
(R65), the open blanking interval (R70), what asserted within it (R73), the events it holds (R74), the instant of the latest
change of chk (R76), the instants at
which the trip request last asserted and deasserted (R147), and the instant at which it last first asserted within 0.5 ns of the
opening of blanking (R72). -/
structure WcS where
  readyDue : Option Nat := none
  vin : Int := 0
  hiMove : Move := {}
  loMove : Move := {}
  blk : Option (Nat × Nat) := none
  inHi : Bool := false
  inLo : Bool := false
  heldHi : Bool := false
  heldLo : Bool := false
  heldIn : Bool := false
  chkAt : Nat := 0
  reqOn : Nat := 0
  reqOff : Option Nat := none
  race : Option Nat := none
  deriving DecidableEq, Repr

/-! ### Loop engine (04_loop_engine.md, 05_engine_instructions.md) -/

/-- R81, R82: a pending run: its ready instant, its deadline instant if it has one, and whether the round it belongs to has
aborted (R104). -/
structure PendRun where
  ready : Nat
  deadline : Option Nat
  voided : Bool
  deriving DecidableEq, Repr

/-- R297: a competition-group member's integrator word as it stood before a round: the ready instant that names the round, the word, and its
value. -/
structure PreRound where
  ready : Nat
  word : Nat
  v : Int
  deriving DecidableEq, Repr

/-- The hidden state of a berth: its pending run, whether a disarm waits for the end of the executing run (R89), and what its latest run as a
group member found in the integrator word (R297). -/
structure BerthS where
  pend : Option PendRun := none
  endOff : Bool := false
  pre : Option PreRound := none
  deriving DecidableEq, Repr

/-- R102, R118: a provisional integrator value with the limits it used. -/
structure Prov where
  v : Int
  lo : Int
  hi : Int
  deriving DecidableEq, Repr

/-- R107: the run context of a crane, with the configuration and the program the run started with (R98). `pos` counts the
completed instructions; `old` holds the values that state words had before a tide replaced them during the run (R98), and
`tide` the words so replaced; `reg0` and `at0` the region and the 16 own words as they stood at the start (R297). -/
structure Run where
  berth : Nat
  start : Nat
  ready : Nat
  pos : Nat
  prog : List (BitVec 36)
  x : List Int
  acc : Int
  region : Nat
  offered : Bool
  selDone : Bool
  voided : Bool
  ch : Nat
  cu : Nat
  pri : Nat
  base : Nat
  step : Nat
  nreg : Nat
  bnd : List Int
  hys : Int
  mem : Bool
  close : Bool
  grp : Nat
  intw : Nat
  prov : Option Prov
  view : Bool
  old : Store Int
  tide : List Nat
  reg0 : Nat
  at0 : List Int
  deriving DecidableEq, Repr

/-- The hidden state of a crane: the executing run, the instant from which it is free, the two latest instants at which a berth of each
coincidence set became ready, with the berth, latest first (R87); and for R88 the instant of the timer cycle from which windows are
counted, the window in which the last busy cycle fell or the one before it, the busy cycles of it and of the next one, and the number of
windows that CR_UTIL has accounted for. -/
structure CraneS where
  run : Option Run := none
  freeAt : Nat := 0
  lastReady : Store (List (Nat × Nat)) := []
  winOff : Nat := 0
  win : Nat := 0
  busy : Nat := 0
  busyNext : Nat := 0
  pub : Nat := 0
  deriving DecidableEq, Repr

/-- R103: one member's offer in a round: the berth, its candidate, its provisional integrator and the integrator's word. -/
structure Offer where
  berth : Nat
  y : Int
  prov : Option Prov
  word : Nat
  deriving DecidableEq, Repr

/-- R280: the run log of a bank in its latest timer cycle with a record: the cycle, the index of its first record, its records by crane, and
the records of earlier cycles that waited in the queue when it began. -/
structure LogCycle where
  cyc : Nat := 0
  first : Nat := 0
  recs : List (Nat × BitVec 36) := []
  back : Nat := 0
  deriving DecidableEq, Repr

/-- R98: the latest engine write of a state word: the value before it and the instant at which the write completes. -/
structure EngWrite where
  prev : Int
  at_ : Nat
  deriving DecidableEq, Repr

/-! ### Counter units and trip zones (06_counter_units.md) -/

/-- R129, R135, R140: an edge of a reference ahead: its instant, whether it sets, and whether it can no longer be moved or withdrawn, as it
belongs to an ended period or has been delayed by R140. -/
structure REdge where
  at_ : Int
  set : Bool
  fixed : Bool := false
  deriving DecidableEq, Repr

/-- R129, R130: one reference (R, or R2 in INDEP): its level, the instants of its latest set and clear (R140), the instant at
which its set edge will be placed (R135), the edges ahead, the clear already made in this period (R136), and whether the latest placement
newly set CU_STAT.short. -/
structure RefS where
  r : Bool := false
  setAt : Option Int := none
  clrAt : Option Int := none
  place : Option Int := none
  edges : List REdge := []
  done : Option Int := none
  acted : Bool := false
  deriving DecidableEq, Repr

/-- R134: the values that govern a period of a unit. -/
structure Gov where
  mode : Nat := 0
  p : Nat := 0
  cmp : List Nat := [0, 0, 0, 0]
  dtr : Nat := 0
  dtf : Nat := 0
  minp : Nat := 0
  spp : Nat := 0
  indep : Bool := false
  clk : Bool := false
  deriving DecidableEq, Repr

/-- R132: the state of an output pin. -/
inductive PinLevel where
  | low | high | z
  deriving DecidableEq, Repr

/-- R126: a planned compare match: the compare, whether it is an up-match, and its instant. -/
structure Match where
  cmp : Nat
  up : Bool
  at_ : Int
  deriving DecidableEq, Repr

/-- R134: a pending shadow value: which register (0: CU_PER; 1 to 4: CU_CMP0 to CU_CMP3; 5: CU_DTR; 6: CU_DTF; 7: CU_MINP), the
value, and the instant at which the write is held. -/
structure Shadow where
  reg : Nat
  v : Nat
  held : Int
  deriving DecidableEq, Repr

/-- R144: a capture entry: the period time, and the timebase (seconds, subsecond) if stamped. -/
structure Capture where
  tau : Nat
  stamp : Option (Nat × Nat)
  deriving DecidableEq, Repr

/-- R122: who stores to a loaded register: a core, DUTY in a run of a priority and a berth, or a tide. -/
inductive Writer where
  | core
  | duty (pri berth : Nat)
  | tide
  deriving DecidableEq, Repr

/-- R20, R134, R137: a store to a loaded register (numbered as in `Shadow`) that the unit holds from timer edge `held` on. -/
structure HeldWrite where
  reg : Nat
  v : Nat
  held : Int
  by_ : Writer
  deriving DecidableEq, Repr

/-- R144, R145: a capture that met a full queue: the queue, the timer edge that ends its cycle, the entry, whether it set the overflow flag
and the vector of the unit, and the latest overflow event before it. A read of the queue in the same cycle takes the overflow back. -/
structure CapOver where
  queue : Nat
  edge : Nat
  entry : Capture
  flag : Bool
  fired : Bool
  prev : Option Int
  deriving DecidableEq, Repr

/-- What a unit's counting is made of. `counting` excludes the waits on a gate (R142); `pstart` is the instant of the latest period
boundary, so that the period time is now minus `pstart` (R126); `cnt` is the count of master events with clk = 1, and `force` the
compares whose edge falls at the next of them (R136, R142). -/
structure CuRun where
  counting : Bool := false
  pstart : Int := 0
  cnt : Nat := 0
  gov : Gov := {}
  plan : List Match := []
  moved : List (Nat × Int) := []
  wrapDue : Int := 0
  force : List Nat := []
  ref0 : RefS := {}
  ref1 : RefS := {}
  ioA : Bool := false
  ioB : Bool := false
  riseA : Option Int := none
  riseB : Option Int := none
  high : Int := 0
  highFrom : Int := 0
  deriving DecidableEq, Repr

/-- R127, R143: the counting of a unit before the start, stop or reset that takes effect at timer edge `edge`, with the count that CU_CNT held:
what the unit still is for the instants before that edge (log 7). -/
structure CuWas where
  edge : Int
  reset : Bool
  n : Nat
  run : CuRun
  deriving DecidableEq, Repr

/-- The hidden state of a counter unit. `on` spans a run from its start edge to its stop edge, `fresh` says that the count comes from CU_CNT when
it next counts; `held` are the stores that the unit does not hold yet, `acted` the DUTY and tide stores that it took at the latest edge
(R122), `was` its counting before the latest start, stop or reset, and `lost` the captures that met a full queue in the latest timer
cycle. -/
structure CuS extends CuRun where
  on : Bool := false
  fresh : Bool := false
  was : Option CuWas := none
  shadow : List Shadow := []
  held : List HeldWrite := []
  acted : List HeldWrite := []
  lost : List CapOver := []
  cap0 : List Capture := []
  cap1 : List Capture := []
  holdA : PinLevel := .low
  holdB : PinLevel := .low
  pfA : PinLevel := .low
  pfB : PinLevel := .low
  resume : Option Int := none
  deriving DecidableEq, Repr

/-- R147: the hidden state of a trip zone: the instants at which it last latched and was last unlatched. -/
structure TzS where
  latAt : Nat := 0
  unlatAt : Nat := 0
  deriving DecidableEq, Repr

/-- A digital input pin: its level and the instants at which it last rose and fell. -/
structure PinIn where
  lvl : Bool := false
  rise : Nat := 0
  fall : Nat := 0
  deriving DecidableEq, Repr

/-! ### Event fabric and logic cells (07_event_fabric.md) -/

/-- R159: a consumer that holds a tap: its rank (1 berth, 2 integrator, 3 grove synchronisation, 4 capture, 5 cell input) and its
instance within the class. -/
structure Tap where
  rank : Nat
  inst : Nat
  deriving DecidableEq, Repr

/-- R158, R159: an event on its way from its channel: when it occurred, the direct and the relayed taps that it has still to reach, the
earliest and the latest arrival so far at a relayed tap, and whether it began the exit from a rung (R168). -/
structure Sent where
  at_ : Nat
  direct : List Tap
  relayed : List Tap
  arr : Option (Nat × Nat)
  woke : Bool
  deriving DecidableEq, Repr

/-- R158, R159: a change of a channel's level: its instant, the level, the taps that have taken it or a later one, and the earliest and the latest
instant so far at which a relayed tap took it. -/
structure LvlChange where
  at_ : Nat
  v : Bool
  took : List Tap := []
  arr : Option (Nat × Nat) := none
  deriving DecidableEq, Repr

/-- The hidden state of an event channel: the pulse that stands and the instant of the occurrence that raised it (R155, R156), the
occurrence that the channel last took up, the latest changes of the level, newest first, the ranking in force, the rankings that take
effect later, with their instants (R159), and the events on their way. -/
structure EvS where
  pulse : Bool := false
  raisedAt : Option Nat := none
  occAt : Option Int := none
  hist : List LvlChange := []
  order : List Tap := []
  later : List (Nat × List Tap) := []
  sent : List Sent := []
  deriving DecidableEq, Repr

/-- The hidden state of a logic cell: its input levels (R161), the change that the pulse-width filter times, the last three
samples of the majority filter, the hold of the debounce filter: awaited, and its end (R162), the instant of the latest
rising edge that set the LATCH flip-flop (R163), and the instants ahead at which the channels see the output change (R158). -/
structure LcS where
  inp : List Bool := [false, false, false, false]
  since : Option Nat := none
  samples : List Bool := [false, false, false]
  holdWait : Bool := false
  holdEnd : Option Nat := none
  setAt : Option Nat := none
  outAt : List Nat := []
  deriving DecidableEq, Repr

/-! ### Survey converters, mains tracker and manifests (08_survey_and_metering.md) -/

/-- R172, R175: the open window of a converter: its open instant, the mains boundaries it still waits for (with wk = 0 or 1), its
close instant once it is known with whether a fallback boundary sets it, and whether it has seen a fallback boundary and another converter on its input. -/
structure SvWin where
  openAt : Nat
  left : Nat
  closeAt : Option Nat
  closeFb : Bool
  fb : Bool
  shared : Bool
  deriving DecidableEq, Repr

/-- R173: a result on its way: the instant at which it arrives, its input, its value and its flags. -/
structure SvPend where
  due : Nat
  ch : Nat
  value : Int
  ovr : Bool
  fb : Bool
  shared : Bool
  bo : Bool
  deriving DecidableEq, Repr

/-- The hidden state of a survey converter: the instant from which the entry's first window may open, the mains boundary at which it
opens (with wk = 0 or 1), the open window, and the results on their way (R172, R173). -/
structure ScS where
  from_ : Nat := 0
  openAt : Option (Nat × Bool) := none
  win : Option SvWin := none
  res : List SvPend := []
  deriving DecidableEq, Repr

/-- R178: the hidden state of the mains tracker: the latest boundary with whether an accepted edge did not set it, the instant from which
the tracker measures, the next fixed boundary where one is scheduled, the edges seen in fallback, the first survey enable since
reset, and the latest edge taken. -/
structure MtS where
  bnd : Option (Nat × Bool) := none
  last : Option Nat := none
  next : Option Nat := none
  edges : List Nat := []
  first : Option Nat := none
  took : Option Nat := none
  deriving DecidableEq, Repr

/-- R180, R182: the accounts of a manifest. Energies, squares and time count in 2^-20 of their register LSB. -/
structure MfAcc where
  time : Nat := 0
  imp : List Nat := [0, 0, 0, 0, 0, 0, 0, 0]
  exp : List Nat := [0, 0, 0, 0, 0, 0, 0, 0]
  v2 : Nat := 0
  i2 : Nat := 0
  dmax : List (Int × Nat) := [(0, 0), (0, 0), (0, 0), (0, 0), (0, 0), (0, 0), (0, 0), (0, 0)]
  deriving DecidableEq, Repr

/-- The hidden state of a manifest: its accounts, the demand accumulator, the latest demand (value, seconds, partial), whether the
interval in progress is partial (R182), whether it meters the tick in progress (R184), and a tariff that a tide brings (R183). -/
structure MfS where
  acc : MfAcc := {}
  dacc : Int := 0
  dlast : Int × Nat × Bool := (0, 0, false)
  part : Bool := true
  live : Bool := false
  tideTar : Option Nat := none
  deriving DecidableEq, Repr

/-- R187, R188: a manifest's section of the slice image or of a record: its accounts and its status. -/
structure MfSlice where
  acc : MfAcc := {}
  tar : Nat := 0
  dmin : Nat := 0
  tarm : Bool := false
  ntar : Nat := 0
  deriving DecidableEq, Repr

/-- R179, R187, R191: the manifest unit: the latest tick boundary as an instant and in whole microseconds of the timebase, the
microseconds of the latest slice and of the freeze, the ticks metered since that slice, and the manifests in the slice image. -/
structure MfuS where
  tickAt : Nat := 0
  tickUs : Nat := 0
  sliceUs : Nat := 0
  frozenUs : Option Nat := none
  ticks : Nat := 0
  slice : Store (Option MfSlice) := []
  deriving DecidableEq, Repr

/-! ### Flash (13_flash.md) and the journal -/

/-- R281, R282: the condition of a memory word or line: good, one bit in error (corrected by a read), or uncorrectable. -/
inductive Ecc where
  | good | single | bad
  deriving DecidableEq, Repr

/-- R303, R304: how far a bank's command sequence has come: after U1, after U2, in a line program (the target line with the words so
far, written as double words or not), in a block erase, or before the word of an OTP program. -/
inductive FlSeq where
  | start | u1 | u2 | erase | eraseU1 | eraseU2 | otp
  | line (base : Option Nat) (ws : List (BitVec 18)) (dbl : Bool)
  deriving DecidableEq, Repr

/-- R304: an operation of a bank: the program of a line, the erase of a block, the program of a one-time word. `commit` marks the last
line of a journal record. -/
inductive FlOp where
  | program (line : Nat) (d : BitVec 72) (commit : Bool)
  | erase (blk : Nat)
  | otp (i : Nat) (v : BitVec 18)
  deriving DecidableEq, Repr

/-- R306, R308: a running operation: when it started, and whether it is the manifest unit's. -/
structure FlRun where
  op : FlOp
  start : Nat
  jrn : Bool
  deriving DecidableEq, Repr

/-- The hidden state of a flash bank: its sequence, the running operation, the journal operations that wait (R306), and the bit of the
status word that toggles (R307). -/
structure FlBank where
  seq : FlSeq := .start
  run : Option FlRun := none
  jq : List FlOp := []
  toggle : Bool := false
  deriving DecidableEq, Repr

/-- R301: a flash line: its four words, whether it was programmed since the latest erase, whether its data are undefined (R305, R314),
and the condition its check bits show. -/
structure FlLine where
  d : BitVec 72 := BitVec.allOnes 72
  prog : Bool := false
  undef : Bool := false
  ecc : Ecc := .good
  deriving DecidableEq, Repr

/-- R312: the ring count of a block, and whether its latest erase completed. -/
structure FlBlk where
  ring : Nat := 0
  ecomp : Bool := true
  deriving DecidableEq, Repr

/-- R188, R189: the journal: the sequence number of the next record, the next line in the block in use, whether the journal has begun
that block with a record, the latest full record (its sequence number and its sections), the records in program, oldest first (none for
what will not be a valid full one), a full record that a
tariff change or a DMAX update forces (asked for, and due since a slice), the timebase microsecond of the next periodic record, and
whether the power-fail record has been built. -/
structure JournalS where
  seq : Nat := 0
  pos : Nat := 0
  cur : Nat := 0
  fresh : Bool := true
  full : Option (Nat × Store (Option MfSlice)) := none
  next : List (Option (Nat × Store (Option MfSlice))) := []
  force : Bool := false
  forceDue : Bool := false
  perUs : Nat := 0
  pf : Bool := false
  deriving DecidableEq, Repr

/-! ### SRAM (12_memory_locks_tides.md) -/

/-- R273: an SRAM word: 18 data bits, the tag bit, and the condition its check bits show. -/
structure MCell where
  w : BitVec 18 := 0
  tag : Bool := false
  ecc : Ecc := .good
  deriving DecidableEq, Repr

/-! ### Timebase (14_time_clocks_sleep.md) -/

/-- R321: the timebase as a line: at fine tick `t0` it stands at `v0`, in units of 2^-32 subsecond units, and advances by
2^32 + `rho` of them at each fine tick from there (2^32 + `rhoOld` before). `stopped` while the timer PLL is stopped (R334); `jump` where a step
brought it to `v0` (R323); `stepAt` the instant of a step made before `t0`. -/
structure TbS where
  t0 : Nat := 0
  v0 : Nat := 0
  u0 : Int := 0
  rho : Int := 0
  rhoOld : Int := 0
  stopped : Bool := false
  jump : Bool := false
  stepAt : Option Nat := none
  deriving DecidableEq, Repr

/-! ### P18 cores (09_p18_instruction_set.md to 11_authority_traps_interrupts.md) -/

/-- R246: a capability with its tag bit. -/
structure Cap where
  base : BitVec 27 := 0
  len : BitVec 27 := 0
  perm : BitVec 12 := 0
  otype : BitVec 6 := 0
  tag : Bool := false
  deriving DecidableEq, Repr

/-- R228: a store-buffer entry: the address, the size in nonets, the data in the low bits, and for ST.K the tag it stores. -/
structure SbEntry where
  ea : Nat
  size : Nat
  data : BitVec 72
  cap : Bool
  tag : Bool
  deriving DecidableEq, Repr

/-- R210: the update of PH:PL and of PA that a multiply leaves for the completion of the next instruction. -/
structure Product where
  p : Option (BitVec 36) := none
  pa : Option (BitVec 54) := none
  deriving DecidableEq, Repr

/-- R254, R256, R257: a raised trap: its cause, the code of TRAP, the return address and the fault address. -/
structure TrapReq where
  cause : Nat
  code : Nat
  ret : BitVec 27
  fault : Int
  deriving DecidableEq, Repr

/-- R256: a line in the frame queue. -/
structure FrameLine where
  ea : Nat
  d : BitVec 72
  tag : Bool
  deriving DecidableEq, Repr

/-- R255, R267: a descriptor: the code entry, the capabilities for k6 and k7, and the seal range. -/
structure Desc where
  code : Cap := {}
  stack : Cap := {}
  auth : Cap := {}
  sr : BitVec 12 := 0
  deriving DecidableEq, Repr

/-- R193, R228 to R234, R256, R264, R265, R267: the state of a core and of its vector unit. `w`, `k`, `ls`, `le` and `lc` hold the
numbered registers; `mul` is the update of the multiply just executed; `trap` a raised trap whose entry has not run; `sb`, `tq` and
`fq` the store buffer, the tandem queue (state word, value) and the frame queue, oldest first; `drain` that a load found a partial
overlap in the store buffer, which now empties; `pred` the predictor, and `brStall` the cycles that the latest conditional branch
stalled; `ic` the blocks of 32 nonets in the instruction cache, and `dc` those of the data cache with their words; `rst` the command of
a reset under way; `wdAt` the instant at which the watchdog expires; `pres` a presented vector, `presRan` that an instruction has
completed since, and `stalled` that the next one has begun to wait (R237); `desc` the descriptor copies; `load` the start of a descriptor load with its vectors. -/
structure CoreS where
  w : Store (BitVec 18) := []
  k : Store Cap := []
  pcc : Cap := {}
  pc : BitVec 27 := 0
  ph : BitVec 18 := 0
  pl : BitVec 18 := 0
  pa : BitVec 54 := 0
  cx : Bool := false
  ls : Store (BitVec 27) := []
  le : Store (BitVec 27) := []
  lc : Store (BitVec 18) := []
  ln : Nat := 0
  tb : BitVec 14 := 0
  sr : BitVec 12 := 0
  mul : Option Product := none
  trap : Option TrapReq := none
  sb : List SbEntry := []
  tq : List (Nat × BitVec 18) := []
  fq : List FrameLine := []
  drain : Bool := false
  pred : Store (Option Nat) := []
  brStall : Nat := 0
  ic : Store Bool := []
  dc : Store (Option (BitVec 288)) := []
  rst : Option Nat := none
  wdAt : Option Nat := none
  pres : Option Nat := none
  presRan : Bool := false
  stalled : Bool := false
  desc : Store Desc := []
  load : Option (Nat × List Nat) := none
  deriving DecidableEq, Repr

/-! ### Harbour locks, local tides and snapshots (12_memory_locks_tides.md) -/

/-- R288: the latest breaking of a lock: its timer cycle and cause, the state and the lease before it, and whether it set LOCK_STAT.brk. -/
structure LockBreak where
  cyc : Nat
  why : Nat
  was : Nat
  due : Option Nat
  flag : Bool
  deriving DecidableEq, Repr

/-- R289: the lease of a lock: the length in force since its latest grant, and the instant at which it expires; and R288, its latest
breaking since then. -/
structure LockS where
  us : Nat := 0
  due : Option Nat := none
  broke : Option LockBreak := none
  deriving DecidableEq, Repr

/-- R291: a staged entry: the target's address, and the value; `dbl` for a double-word target. -/
structure TideEntry where
  addr : Nat
  dbl : Bool
  v : BitVec 36
  deriving DecidableEq, Repr

/-- R293, R374: what a slot is armed for: a timebase instant (in subsecond units) the next period boundary of a counter unit, the round of a global tide whose outcome is open (R374), or its instant once it is committed (R378). -/
inductive TideWhen where
  | instant (v : Nat)
  | boundary (u : Nat)
  | round
  | global (v : Nat)
  deriving DecidableEq, Repr

/-- R291, R293: a tide slot: its entries in staging order, a commit that has arrived, and what the slot is armed for with the instant of
arming. -/
structure TideS where
  entries : List TideEntry := []
  commit : Option TideWhen := none
  armed : Option (TideWhen × Nat) := none
  deriving DecidableEq, Repr

/-- R296, R297: a snapshot request of a core: its items, the instant from which it may be taken or the timebase instant at which it
is taken, and the lines of its output once taken. -/
structure SnapS where
  items : List (BitVec 18) := []
  dst : Nat := 0
  due : Option (Nat ⊕ Nat) := none
  lines : List (BitVec 72) := []
  deriving DecidableEq, Repr

/-- R326 to R328: the PPS edges: the instants of the previous edge and of the latest accepted one, the rejected edges in a row that each
came 1 s after the edge before, the start of the XTAL32 span in progress (timebase, in units of 2^-32 subsecond units) with whether it
holds a step, and the instant of the latest measured span. -/
structure PpsS where
  prev : Option Nat := none
  acc : Option Nat := none
  rejRun : Nat := 0
  span : Option (Nat × Int) := none
  spanFrom : Option Nat := none
  spanStep : Bool := false
  calAt : Nat := 0
  deriving DecidableEq, Repr

/-- R320, R331, R333, R334, R336, R337: the power controller: since when the reference has been absent, whether the RC fallback ran since
the timer PLL stopped, the mode that a change in progress leads to, since when the quays run at 1.25 GHz, whether PWR_ALARM still waits,
and the instant of the latest entry to a rung. -/
structure PwrS where
  refLost : Option Nat := none
  rcRan : Bool := false
  modeTo : Option Nat := none
  springAt : Option Nat := none
  alarm : Bool := false
  sleepAt : Nat := 0
  deriving DecidableEq, Repr


/-! ### Velub link (15_velub_link.md) -/

/-- R355, R359: a sequenced frame that waits for credit: the frame, the input buffer that it holds (port and class) if it is in transit,
and the transaction slot it starts (16 slots of 4: core * 4 + slot). -/
structure TxEnt where
  f : Frame
  from_ : Option (Nat × Nat)
  slot : Option Nat
  deriving DecidableEq, Repr

/-- R355: a frame in the retry buffer: how many times it was sent, and its transaction slot. -/
structure RtEnt where
  f : Frame
  n : Nat
  slot : Option Nat
  deriving DecidableEq, Repr

/-- R352 to R365: the hidden state of a link port. `nonce` and `peer` are the nonces of both ends, `waits` says that the port waits for a
nonce (R400); `tx` and `rx` count the sequenced frames since UP; `nakd` says that the first discard for the expected frame was
answered; `sent` and `freed` count per class what went out and what the partner freed, `mine` what this end freed; `utx` and `urx` are
the unsequenced counters; `fails` the instants of the failures that R358 sums; `wait` the requests in the input buffers; `adm` the
admitted requests: the end of each, and the banks of its first and of its last word (64: no bank). -/
structure LinkS where
  nonce : BitVec 64 := 0
  peer : BitVec 64 := 0
  waits : Bool := false
  txKey : BitVec 128 := 0
  rxKey : BitVec 128 := 0
  tx : Nat := 0
  rx : Nat := 0
  nakd : Bool := false
  txq : List TxEnt := []
  retry : List RtEnt := []
  sent : List Nat := [0, 0, 0]
  freed : List Nat := [0, 0, 0]
  mine : List Nat := [0, 0, 0]
  utx : Nat := 0
  urx : Nat := 0
  ackAt : Nat := 0
  beatAt : Nat := 0
  beatDue : Nat := 0
  helloDue : Nat := 0
  lstatDue : Nat := 0
  chg : Bool := false
  fails : List Nat := []
  wait : List Frame := []
  adm : List (Nat × Nat × Nat) := []
  deriving DecidableEq, Repr

/-- R361, R362, R366: the request in progress of a transaction slot: its kind, node and port, its tag, when it times out, its local
buffer and output addresses, its words or output words, and the words received. -/
structure TxJob where
  kind : Nat
  node : Nat
  port : Nat
  tag : Nat
  due : Nat
  buf : Nat
  out : Nat
  want : Nat
  got : Nat
  deriving DecidableEq, Repr

/-- The hidden state of a transaction slot: the request in progress, and the number of requests since the device reset. -/
structure TxS where
  job : Option TxJob := none
  gen : Nat := 0
  deriving DecidableEq, Repr

/-- R363: an entry of the window table. -/
structure WinS where
  valid : Bool := false
  cap : Cap := {}
  any : Bool := false
  node : BitVec 12 := 0
  deriving DecidableEq, Repr

/-- R363, R366, R367: the remote snapshot in progress: the ingress port and the request, and whether its answer is to be discarded (R357); the time
exchange in progress: t1 (timebase), and the instant from which it counts; and the instant until which the window table loads. -/
structure LkuS where
  snap : Option (Nat × Frame) := none
  mute : Bool := false
  exch : Option (Nat × Nat) := none
  ldEnd : Nat := 0
  deriving DecidableEq, Repr

/-! ### Global tides (16_system_tides_upgrades.md) -/

/-- R375: what a VOTE carries of the votes. -/
structure Vote where
  yes : Bool
  reason : Nat
  minlvl : Nat
  count : Nat
  refuser : Option Nat
  deriving DecidableEq, Repr

/-- R373 to R378: the latest round: its proposal (P and I as timebase values), the bound slot, the device's own vote, the awaited
children with the votes that have come, and whether the device has sent its VOTE. -/
structure Round where
  id : Nat
  inst : Nat
  p : Nat
  guard : Nat
  raise : Bool
  lvl : Nat
  hm : Nat
  slot : Option Nat
  own : Vote
  kids : List (Nat × Option Vote)
  sent : Bool
  deriving DecidableEq, Repr

/-- R378 to R381: the hidden state of the tide unit: the round in progress or in doubt, the committed tides that wait for their instants,
the NO votes that go out at their vote instants (R374: instant and id), when the next doubt report goes out, and the queue of reports
received. -/
structure GtS where
  round : Option Round := none
  apply : List Round := []
  nos : List (Nat × Frame) := []
  reportAt : Nat := 0
  reps : List (BitVec 12 × BitVec 36) := []
  deriving DecidableEq, Repr

/-! ### Boot, keys and debug (17_boot_and_security.md) -/

/-- R390: where the rootstock stands: an image runs; a boot is due; or a source waits for its host, with the instant at which it times
out until the first command or write has come. -/
inductive BootPhase where
  | run
  | due
  | spi (limit : Option Nat)
  | net (limit : Option Nat)
  deriving DecidableEq, Repr

/-- R395: the resume record. -/
structure Resume where
  slot : Nat
  len : Nat
  lvl : Nat
  ceil : Nat
  ring : Nat
  deriving DecidableEq, Repr

/-- R390, R395, R414: the boot: its phase, whether the main rails hold the device in reset, FAULT_N driven low, the sources that failed, and
the resume record of the always-on domain. -/
structure BootS where
  phase : BootPhase := .due
  held : Bool := false
  faultN : Bool := false
  fail : Nat := 0
  resume : Option Resume := none
  deriving DecidableEq, Repr

/-- R399 to R401: the key unit: the operation in progress (op, slot), when the next random word is ready, the number of random words
drawn since the DRBG's latest start and the number of its starts, and whether tamper has zeroized its state and the device key. -/
structure KuS where
  op : Option (Nat × Nat) := none
  rngAt : Nat := 0
  rng : Nat := 0
  gen : Nat := 0
  zeroed : Bool := false
  deriving DecidableEq, Repr

/-- R427: what the boundary cells do to the pins. -/
inductive Scan where
  | normal | extest | clamp | highz
  deriving DecidableEq, Repr

/-- R402, R426, R427: the debug port: the number of the challenge, a token under verification, the boundary cells as loaded, what they do to
the pins, the TAP instruction, and what DBGACC captures next. -/
structure DbgS where
  chal : Nat := 0
  tok : Option (BitVec 1242) := none
  cells : List Bool := []
  scan : Scan := .normal
  ir : BitVec 8 := 1
  cap : BitVec 74 := 0
  deriving DecidableEq, Repr

/-! ### Host interfaces (18_pins_interfaces_electrical.md) -/

/-- R422, R423: a captured entry: an unassisted read or a write, all pages, the page, the command and the data octets. -/
structure SmbEnt where
  rd : Bool
  all : Bool
  page : Nat
  cmd : BitVec 8
  data : List (BitVec 8)
  deriving DecidableEq, Repr

/-- R421 to R423: the hidden state of an SMBus port: the captured entries, when the stretch limit of an unassisted read is reached, the command
of that read and the octets that its protocol takes (0 for a block), and of each image entry stored in the timer cycle `c - 1` the
value before it, as (c, value). -/
structure SmbS where
  q : List SmbEnt := []
  due : Option Nat := none
  cmd : BitVec 8 := 0
  want : Nat := 0
  img : Store (Nat × BitVec 36) := []
  deriving DecidableEq, Repr

/-- R425: what the board drives on a GPIO pin (none: nothing), and whether it overrides the pin's own output. -/
structure GpioPad where
  drv : Option Bool := none
  wins : Bool := false
  deriving DecidableEq, Repr

/-- R424: the FIFOs of an SPI port, oldest first. -/
structure SpiS where
  tx : List (BitVec 18) := []
  rx : List (BitVec 18) := []
  deriving DecidableEq, Repr

end Sys2Proof.Machine
end

