-- ==== Sys2Proof/Machine/State.lean ====
section
/-! DEFINITION. The state of the TF1810 as plain data, and the state after reset. -/

namespace Sys2Proof.Machine

/-- The faults: none is raised, because no rule of the manual stops the device (an access to an address that does not exist
traps, R430, or is answered with a status, R363). The constructor stands for a state that holds no answer; safe. -/
inductive Fault where
  /-- Raised by nothing. Safe. -/
  | none
  deriving DecidableEq, Repr

/-- The refusals. -/
inductive Refusal where
  /-- Raised by the arm of a command that has no meaning yet, with the command's mnemonic. Safe. -/
  | notModelled (mnemonic : String)
  deriving DecidableEq, Repr

/-- What a command sends out of its unit. -/
inductive Out where
  /-- R157: an occurrence of source (cls, inst, ev), or a change of a level source, at an instant in fine ticks. -/
  | fabric (cls inst ev : Nat) (at_ : Int)
  /-- R266: interrupt source `n` fired. -/
  | irq (n : Nat)
  /-- R155, R159: an event of channel `ch` forked to its taps: the direct ones and the relayed ones. -/
  | event (ch : Nat) (direct relayed : List Tap)
  /-- R155: the level of channel `ch`, which logic cells follow, changed. -/
  | level (ch : Nat) (lvl : Bool)
  /-- A register or memory access returned data. -/
  | data (v : Nat)
  /-- R352 to R360: port `p` sends a frame. -/
  | frame (p : Nat) (f : Frame)
  /-- R359: the frame that port `p` has begun to forward ends with /V/. -/
  | abort (p : Nat)
  /-- R419 to R423: SMBus port `m` sends octets. -/
  | octets (m : Nat) (l : List (BitVec 8))
  /-- R419, R423: SMBus port `m` refuses to acknowledge. -/
  | nack (m : Nat)
  /-- R424: SPI port `m` sends a frame. -/
  | spi (m : Nat) (v : BitVec 18)
  deriving DecidableEq, Repr

/-- The state of the device: everything the manual gives it, and the queue of waiting commands. -/
structure State where
  /-- The present instant in fine ticks since power-on. -/
  now : Nat
  /-- The registers of R433, keyed by `regKey`; an unlisted register holds its reset value. -/
  regs : Store (BitVec 36)
  /-- R11: the LOCK registers written since the device reset. -/
  written : Store Bool
  /-- R13, R14: what hardware did to each register in the latest timer cycle in which it did something; keyed by `regKey`. -/
  hw : Store HwRec
  /-- Integrator channels. -/
  ich : Store IchS
  /-- Window comparators. -/
  wc : Store WcS
  /-- R59: when ICH_CALCTL.refready sets. -/
  calDue : Option Nat
  /-- Berths. -/
  berth : Store BerthS
  /-- R90: the armed berths. -/
  armed : List Nat
  /-- R90: the berths whose arming request waits, oldest first. -/
  admq : List Nat
  /-- Cranes. -/
  crane : Store CraneS
  /-- R102: the offers of the round in progress of each competition group. -/
  rounds : Store (List Offer)
  /-- R94: the berth store, one entry per instruction. -/
  bstore : Store (BitVec 36)
  /-- R294: the timer cycle after the one in which a tide last wrote each instruction of the berth store. -/
  bstoreAt : Store Nat
  /-- R95: the berth state RAM, one signed word per entry. -/
  bram : Store Int
  /-- R98: the latest engine write of each state word. -/
  engW : Store (Option EngWrite)
  /-- Counter units. -/
  cu : Store CuS
  /-- R273: the SRAM, one entry per word; key: (address - 0o040_000_000) / 2. -/
  sram : Store MCell
  /-- R280: the latest records of the run log of each bank. -/
  logAt : Store LogCycle
  /-- Trip zones. -/
  tz : Store TzS
  /-- R147: the TRIP_nn pins. -/
  tripPin : Store PinIn
  /-- R321: the timebase. -/
  tb : TbS
  /-- R324: the subsecond latched for each core by its read of TB_NOWH; key 16 is for other requesters. -/
  tbLatch : Store Nat
  /-- R157: the instant at which each event source last occurred or changed its level; keyed by `srcKey`. -/
  srcAt : Store (Option Int)
  /-- Event channels. -/
  ev : Store EvS
  /-- Logic cells. -/
  lc : Store LcS
  /-- R162: a rising edge of each divided timer clock (by its mclk code), which fixes its phase. -/
  divAt : Store (Option Nat)
  /-- Survey converters. -/
  sc : Store ScS
  /-- The mains tracker. -/
  mt : MtS
  /-- Manifests. -/
  mf : Store MfS
  /-- The manifest unit. -/
  mfu : MfuS
  /-- The journal. -/
  journal : JournalS
  /-- Flash banks. -/
  fl : Store FlBank
  /-- R300: the flash array by lines (nonet address / 8). -/
  flash : Store FlLine
  /-- R312: the flash blocks. -/
  flBlk : Store FlBlk
  /-- R312: a block has reached 100,000 erasures since the device reset. -/
  flWear : Bool
  /-- R315: the words of the one-time row that the integrator has written. -/
  otp : Store (Option (BitVec 18))
  /-- R425: the level that the board drives on each GPIO pad. -/
  gpioPad : Store GpioPad
  /-- R368: the partner of each port releases the LK_WAKEn line. -/
  lkWake : Store Bool
  /-- R368: when the port stops driving LK_WAKEn low after an entry to ALIGN. -/
  lkDrive : Store (Option Nat)
  /-- R329: the rung in force: 0 Run or Doze, 2 Rest, 3 Stop, 4 Hibernate, 5 Dormant, 6 Vigil. -/
  rung : Nat
  /-- R332: the wake event that began the exit from the rung, as in PWR_STAT.wake. -/
  wake : Option Nat
  /-- P18 cores with their vector units. -/
  core : Store CoreS
  /-- R279: the value of BANK_OWN that a handover in progress brings, and the instant at which its write arrived. -/
  bank : Store (Option (BitVec 36 × Nat))
  /-- R289: the leases of the harbour locks. -/
  lock : Store LockS
  /-- Tide slots. -/
  tide : Store TideS
  /-- R296: the snapshot requests of the cores. -/
  snap : Store SnapS
  /-- R256, R268: the source that set each pending vector; key: core * 128 + vector. -/
  vsrc : Store Nat
  /-- R330: the quays in Doze. -/
  doze : Store Bool
  /-- R386: a device reset that is due: its cause, and the core for cause 2. -/
  devRst : Option (Nat × Nat)
  /-- R283: the line of each bank that the scrubber reads next, and the instant from which it does. -/
  scrub : Store (Nat × Nat)
  /-- R326 to R328: the PPS edges. -/
  pps : PpsS
  /-- The power controller. -/
  pwr : PwrS
  /-- Link ports. -/
  link : Store LinkS
  /-- R361: the transaction slots; key: core * 4 + slot. -/
  txs : Store TxS
  /-- R363: the window table. -/
  win : Store WinS
  /-- The link's transaction and time units. -/
  lku : LkuS
  /-- R370: the tide unit's part in global tides. -/
  gt : GtS
  /-- The boot. -/
  boot : BootS
  /-- R240, R243: the graft stores; key: microword w at w, part p of nanoword n at 256 + 4 n + p. -/
  graft : Store (BitVec 36)
  /-- The key unit. -/
  ku : KuS
  /-- The debug port. -/
  dbg : DbgS
  /-- SMBus ports. -/
  smb : Store SmbS
  /-- SPI ports. -/
  spi : Store SpiS
  /-- The commands that wait, first in, first out. -/
  pending : List Instr
  /-- What the latest command sent out of its unit, in order. -/
  out : List Out
  /-- The model's own counter behind `Config.free`: the next free value's number. -/
  free : Nat
  deriving DecidableEq, Repr

/-- The state right after the device reset of a first power-on, before the rootstock runs (R17, R386), held there until the main rails are up (R414). -/
def State.reset : State where
  now := 0
  regs := []
  written := []
  hw := []
  ich := []
  wc := []
  calDue := none
  berth := []
  armed := []
  admq := []
  crane := []
  rounds := []
  bstore := []
  bstoreAt := []
  bram := []
  engW := []
  cu := []
  sram := []
  logAt := []
  tz := []
  tripPin := []
  tb := {}
  tbLatch := []
  srcAt := []
  ev := []
  lc := []
  divAt := []
  sc := []
  mt := {}
  mf := []
  mfu := {}
  journal := {}
  fl := []
  flash := []
  flBlk := []
  flWear := false
  otp := []
  gpioPad := []
  lkWake := []
  lkDrive := []
  rung := 0
  wake := none
  core := []
  bank := []
  lock := []
  tide := []
  snap := []
  vsrc := []
  doze := []
  devRst := none
  scrub := []
  pps := {}
  pwr := {}
  link := []
  txs := []
  win := []
  lku := {}
  gt := {}
  boot := { held := true }
  graft := []
  ku := {}
  dbg := {}
  smb := []
  spi := []
  pending := []
  out := []
  free := 0

/-- The entry of `hw` at `k`. -/
abbrev State.hwOf (s : State) (k : Nat) : HwRec := Store.get (fun _ => {}) s.hw k
/-- The state with `v` at `k` of `hw`. -/
def State.setHw (s : State) (k : Nat) (v : HwRec) : State := { s with hw := Store.set (fun _ => {}) s.hw k v }

/-- The entry of `ich` at `k`. -/
abbrev State.ichOf (s : State) (k : Nat) : IchS := Store.get (fun _ => {}) s.ich k
/-- The state with `v` at `k` of `ich`. -/
def State.setIch (s : State) (k : Nat) (v : IchS) : State := { s with ich := Store.set (fun _ => {}) s.ich k v }

/-- The entry of `wc` at `k`. -/
abbrev State.wcOf (s : State) (k : Nat) : WcS := Store.get (fun _ => {}) s.wc k
/-- The state with `v` at `k` of `wc`. -/
def State.setWc (s : State) (k : Nat) (v : WcS) : State := { s with wc := Store.set (fun _ => {}) s.wc k v }

/-- The entry of `berth` at `k`. -/
abbrev State.berthOf (s : State) (k : Nat) : BerthS := Store.get (fun _ => {}) s.berth k
/-- The state with `v` at `k` of `berth`. -/
def State.setBerth (s : State) (k : Nat) (v : BerthS) : State := { s with berth := Store.set (fun _ => {}) s.berth k v }

/-- The entry of `crane` at `k`. -/
abbrev State.craneOf (s : State) (k : Nat) : CraneS := Store.get (fun _ => {}) s.crane k
/-- The state with `v` at `k` of `crane`. -/
def State.setCrane (s : State) (k : Nat) (v : CraneS) : State := { s with crane := Store.set (fun _ => {}) s.crane k v }

/-- The entry of `rounds` at `k`. -/
abbrev State.roundsOf (s : State) (k : Nat) : (List Offer) := Store.get (fun _ => []) s.rounds k
/-- The state with `v` at `k` of `rounds`. -/
def State.setRounds (s : State) (k : Nat) (v : (List Offer)) : State := { s with rounds := Store.set (fun _ => []) s.rounds k v }

/-- The entry of `bstore` at `k`. -/
abbrev State.bstoreOf (s : State) (k : Nat) : (BitVec 36) := Store.get (fun _ => 0) s.bstore k
/-- The state with `v` at `k` of `bstore`. -/
def State.setBstore (s : State) (k : Nat) (v : (BitVec 36)) : State := { s with bstore := Store.set (fun _ => 0) s.bstore k v }

/-- The entry of `bstoreAt` at `k`. -/
abbrev State.bstoreAtOf (s : State) (k : Nat) : Nat := Store.get (fun _ => 0) s.bstoreAt k
/-- The state with `v` at `k` of `bstoreAt`. -/
def State.setBstoreAt (s : State) (k : Nat) (v : Nat) : State := { s with bstoreAt := Store.set (fun _ => 0) s.bstoreAt k v }

/-- The entry of `bram` at `k`. -/
abbrev State.bramOf (s : State) (k : Nat) : Int := Store.get (fun _ => 0) s.bram k
/-- The state with `v` at `k` of `bram`. -/
def State.setBram (s : State) (k : Nat) (v : Int) : State := { s with bram := Store.set (fun _ => 0) s.bram k v }

/-- The entry of `engW` at `k`. -/
abbrev State.engWOf (s : State) (k : Nat) : (Option EngWrite) := Store.get (fun _ => none) s.engW k
/-- The state with `v` at `k` of `engW`. -/
def State.setEngW (s : State) (k : Nat) (v : (Option EngWrite)) : State := { s with engW := Store.set (fun _ => none) s.engW k v }

/-- The entry of `cu` at `k`. -/
abbrev State.cuOf (s : State) (k : Nat) : CuS := Store.get (fun _ => {}) s.cu k
/-- The state with `v` at `k` of `cu`. -/
def State.setCu (s : State) (k : Nat) (v : CuS) : State := { s with cu := Store.set (fun _ => {}) s.cu k v }

/-- The entry of `sram` at `k`. -/
abbrev State.sramOf (s : State) (k : Nat) : MCell := Store.get (fun _ => {}) s.sram k
/-- The state with `v` at `k` of `sram`. -/
def State.setSram (s : State) (k : Nat) (v : MCell) : State := { s with sram := Store.set (fun _ => {}) s.sram k v }

/-- The entry of `logAt` at `k`. -/
abbrev State.logAtOf (s : State) (k : Nat) : LogCycle := Store.get (fun _ => {}) s.logAt k
/-- The state with `v` at `k` of `logAt`. -/
def State.setLogAt (s : State) (k : Nat) (v : LogCycle) : State := { s with logAt := Store.set (fun _ => {}) s.logAt k v }

/-- The entry of `tz` at `k`. -/
abbrev State.tzOf (s : State) (k : Nat) : TzS := Store.get (fun _ => {}) s.tz k
/-- The state with `v` at `k` of `tz`. -/
def State.setTz (s : State) (k : Nat) (v : TzS) : State := { s with tz := Store.set (fun _ => {}) s.tz k v }

/-- The entry of `tripPin` at `k`. -/
abbrev State.tripPinOf (s : State) (k : Nat) : PinIn := Store.get (fun _ => { lvl := true }) s.tripPin k
/-- The state with `v` at `k` of `tripPin`. -/
def State.setTripPin (s : State) (k : Nat) (v : PinIn) : State := { s with tripPin := Store.set (fun _ => { lvl := true }) s.tripPin k v }

/-- The entry of `tbLatch` at `k`. -/
abbrev State.tbLatchOf (s : State) (k : Nat) : Nat := Store.get (fun _ => 0) s.tbLatch k
/-- The state with `v` at `k` of `tbLatch`. -/
def State.setTbLatch (s : State) (k : Nat) (v : Nat) : State := { s with tbLatch := Store.set (fun _ => 0) s.tbLatch k v }

/-- The entry of `srcAt` at `k`. -/
abbrev State.srcAtOf (s : State) (k : Nat) : (Option Int) := Store.get (fun _ => none) s.srcAt k
/-- The state with `v` at `k` of `srcAt`. -/
def State.setSrcAt (s : State) (k : Nat) (v : (Option Int)) : State := { s with srcAt := Store.set (fun _ => none) s.srcAt k v }

/-- The entry of `ev` at `k`. -/
abbrev State.evOf (s : State) (k : Nat) : EvS := Store.get (fun _ => {}) s.ev k
/-- The state with `v` at `k` of `ev`. -/
def State.setEv (s : State) (k : Nat) (v : EvS) : State := { s with ev := Store.set (fun _ => {}) s.ev k v }

/-- The entry of `lc` at `k`. -/
abbrev State.lcOf (s : State) (k : Nat) : LcS := Store.get (fun _ => {}) s.lc k
/-- The state with `v` at `k` of `lc`. -/
def State.setLc (s : State) (k : Nat) (v : LcS) : State := { s with lc := Store.set (fun _ => {}) s.lc k v }

/-- The entry of `divAt` at `k`. -/
abbrev State.divAtOf (s : State) (k : Nat) : (Option Nat) := Store.get (fun _ => none) s.divAt k
/-- The state with `v` at `k` of `divAt`. -/
def State.setDivAt (s : State) (k : Nat) (v : (Option Nat)) : State := { s with divAt := Store.set (fun _ => none) s.divAt k v }

/-- The entry of `sc` at `k`. -/
abbrev State.scOf (s : State) (k : Nat) : ScS := Store.get (fun _ => {}) s.sc k
/-- The state with `v` at `k` of `sc`. -/
def State.setSc (s : State) (k : Nat) (v : ScS) : State := { s with sc := Store.set (fun _ => {}) s.sc k v }

/-- The entry of `mf` at `k`. -/
abbrev State.mfOf (s : State) (k : Nat) : MfS := Store.get (fun _ => {}) s.mf k
/-- The state with `v` at `k` of `mf`. -/
def State.setMf (s : State) (k : Nat) (v : MfS) : State := { s with mf := Store.set (fun _ => {}) s.mf k v }

/-- The entry of `fl` at `k`. -/
abbrev State.flOf (s : State) (k : Nat) : FlBank := Store.get (fun _ => {}) s.fl k
/-- The state with `v` at `k` of `fl`. -/
def State.setFl (s : State) (k : Nat) (v : FlBank) : State := { s with fl := Store.set (fun _ => {}) s.fl k v }

/-- The entry of `flash` at `k`. -/
abbrev State.flashOf (s : State) (k : Nat) : FlLine := Store.get (fun _ => {}) s.flash k
/-- The state with `v` at `k` of `flash`. -/
def State.setFlash (s : State) (k : Nat) (v : FlLine) : State := { s with flash := Store.set (fun _ => {}) s.flash k v }

/-- The entry of `flBlk` at `k`. -/
abbrev State.flBlkOf (s : State) (k : Nat) : FlBlk := Store.get (fun _ => {}) s.flBlk k
/-- The state with `v` at `k` of `flBlk`. -/
def State.setFlBlk (s : State) (k : Nat) (v : FlBlk) : State := { s with flBlk := Store.set (fun _ => {}) s.flBlk k v }

/-- The entry of `otp` at `k`. -/
abbrev State.otpOf (s : State) (k : Nat) : (Option (BitVec 18)) := Store.get (fun _ => none) s.otp k
/-- The state with `v` at `k` of `otp`. -/
def State.setOtp (s : State) (k : Nat) (v : (Option (BitVec 18))) : State := { s with otp := Store.set (fun _ => none) s.otp k v }

/-- The entry of `gpioPad` at `k`. -/
abbrev State.gpioPadOf (s : State) (k : Nat) : GpioPad := Store.get (fun _ => {}) s.gpioPad k
/-- The state with `v` at `k` of `gpioPad`. -/
def State.setGpioPad (s : State) (k : Nat) (v : GpioPad) : State := { s with gpioPad := Store.set (fun _ => {}) s.gpioPad k v }

/-- The entry of `lkWake` at `k`. -/
abbrev State.lkWakeOf (s : State) (k : Nat) : Bool := Store.get (fun _ => true) s.lkWake k
/-- The state with `v` at `k` of `lkWake`. -/
def State.setLkWake (s : State) (k : Nat) (v : Bool) : State := { s with lkWake := Store.set (fun _ => true) s.lkWake k v }

/-- The entry of `lkDrive` at `k`. -/
abbrev State.lkDriveOf (s : State) (k : Nat) : (Option Nat) := Store.get (fun _ => none) s.lkDrive k
/-- The state with `v` at `k` of `lkDrive`. -/
def State.setLkDrive (s : State) (k : Nat) (v : (Option Nat)) : State := { s with lkDrive := Store.set (fun _ => none) s.lkDrive k v }

/-- The entry of `core` at `k`. -/
abbrev State.coreOf (s : State) (k : Nat) : CoreS := Store.get (fun _ => {}) s.core k
/-- The state with `v` at `k` of `core`. -/
def State.setCore (s : State) (k : Nat) (v : CoreS) : State := { s with core := Store.set (fun _ => {}) s.core k v }

/-- The entry of `bank` at `k`. -/
abbrev State.bankOf (s : State) (k : Nat) : (Option (BitVec 36 × Nat)) := Store.get (fun _ => none) s.bank k
/-- The state with `v` at `k` of `bank`. -/
def State.setBank (s : State) (k : Nat) (v : (Option (BitVec 36 × Nat))) : State := { s with bank := Store.set (fun _ => none) s.bank k v }

/-- The entry of `lock` at `k`. -/
abbrev State.lockOf (s : State) (k : Nat) : LockS := Store.get (fun _ => {}) s.lock k
/-- The state with `v` at `k` of `lock`. -/
def State.setLock (s : State) (k : Nat) (v : LockS) : State := { s with lock := Store.set (fun _ => {}) s.lock k v }

/-- The entry of `tide` at `k`. -/
abbrev State.tideOf (s : State) (k : Nat) : TideS := Store.get (fun _ => {}) s.tide k
/-- The state with `v` at `k` of `tide`. -/
def State.setTide (s : State) (k : Nat) (v : TideS) : State := { s with tide := Store.set (fun _ => {}) s.tide k v }

/-- The entry of `snap` at `k`. -/
abbrev State.snapOf (s : State) (k : Nat) : SnapS := Store.get (fun _ => {}) s.snap k
/-- The state with `v` at `k` of `snap`. -/
def State.setSnap (s : State) (k : Nat) (v : SnapS) : State := { s with snap := Store.set (fun _ => {}) s.snap k v }

/-- The entry of `vsrc` at `k`. -/
abbrev State.vsrcOf (s : State) (k : Nat) : Nat := Store.get (fun _ => 0) s.vsrc k
/-- The state with `v` at `k` of `vsrc`. -/
def State.setVsrc (s : State) (k : Nat) (v : Nat) : State := { s with vsrc := Store.set (fun _ => 0) s.vsrc k v }

/-- The entry of `doze` at `k`. -/
abbrev State.dozeOf (s : State) (k : Nat) : Bool := Store.get (fun _ => false) s.doze k
/-- The state with `v` at `k` of `doze`. -/
def State.setDoze (s : State) (k : Nat) (v : Bool) : State := { s with doze := Store.set (fun _ => false) s.doze k v }

/-- The entry of `scrub` at `k`. -/
abbrev State.scrubOf (s : State) (k : Nat) : (Nat × Nat) := Store.get (fun _ => (0, 0)) s.scrub k
/-- The state with `v` at `k` of `scrub`. -/
def State.setScrub (s : State) (k : Nat) (v : (Nat × Nat)) : State := { s with scrub := Store.set (fun _ => (0, 0)) s.scrub k v }

/-- The entry of `link` at `k`. -/
abbrev State.linkOf (s : State) (k : Nat) : LinkS := Store.get (fun _ => {}) s.link k
/-- The state with `v` at `k` of `link`. -/
def State.setLink (s : State) (k : Nat) (v : LinkS) : State := { s with link := Store.set (fun _ => {}) s.link k v }

/-- The entry of `txs` at `k`. -/
abbrev State.txsOf (s : State) (k : Nat) : TxS := Store.get (fun _ => {}) s.txs k
/-- The state with `v` at `k` of `txs`. -/
def State.setTxs (s : State) (k : Nat) (v : TxS) : State := { s with txs := Store.set (fun _ => {}) s.txs k v }

/-- The entry of `win` at `k`. -/
abbrev State.winOf (s : State) (k : Nat) : WinS := Store.get (fun _ => {}) s.win k
/-- The state with `v` at `k` of `win`. -/
def State.setWin (s : State) (k : Nat) (v : WinS) : State := { s with win := Store.set (fun _ => {}) s.win k v }

/-- The entry of `graft` at `k`. -/
abbrev State.graftOf (s : State) (k : Nat) : (BitVec 36) := Store.get (fun _ => 0) s.graft k
/-- The state with `v` at `k` of `graft`. -/
def State.setGraft (s : State) (k : Nat) (v : (BitVec 36)) : State := { s with graft := Store.set (fun _ => 0) s.graft k v }

/-- The entry of `smb` at `k`. -/
abbrev State.smbOf (s : State) (k : Nat) : SmbS := Store.get (fun _ => {}) s.smb k
/-- The state with `v` at `k` of `smb`. -/
def State.setSmb (s : State) (k : Nat) (v : SmbS) : State := { s with smb := Store.set (fun _ => {}) s.smb k v }

/-- The entry of `spi` at `k`. -/
abbrev State.spiOf (s : State) (k : Nat) : SpiS := Store.get (fun _ => {}) s.spi k
/-- The state with `v` at `k` of `spi`. -/
def State.setSpi (s : State) (k : Nat) (v : SpiS) : State := { s with spi := Store.set (fun _ => {}) s.spi k v }

end Sys2Proof.Machine
end

