-- ==== Sys2Proof/Machine/Ops.lean ====
section
/-! DEFINITION. The shared operations over the state: registers and their fields, time, outputs and interrupt sources. -/

namespace Sys2Proof.Machine

/-! ### Bits and time -/

/-- A bit or a flag as a number. -/
def b2n (b : Bool) : Nat := if b then 1 else 0

/-- The signed value of the low `w` bits of `v`. -/
def sx (w v : Nat) : Int := (BitVec.ofNat w v).toInt

/-- The `w`-bit two's-complement code of `v`. -/
def ux (w : Nat) (v : Int) : Nat := (BitVec.ofInt w v).toNat

/-- R4: the first timer edge at or after an instant, in fine ticks. -/
def edgeCeil (t : Nat) : Nat := (t + 63) / 64 * 64

/-- R4: the latest timer edge at or before an instant. -/
def edgeFloor (t : Nat) : Nat := t / 64 * 64

/-- R4: the first timer edge after an instant. -/
def edgeAfter (t : Nat) : Nat := (t / 64 + 1) * 64

/-- Nanoseconds in fine ticks. -/
def ns (n : Nat) : Nat := 64 * n

/-- A command begins: the present advances to its instant, never back, and the outputs of the command before it are gone. -/
def State.tick (t : Nat) (s : State) : State := { s with now := max s.now t, out := [] }

/-! ### Registers (R11, R17, R433) -/

/-- The key of instance `i` of register `r`. -/
def regKey (r : RegName) (i : Nat) : Nat := r.ctorIdx + 512 * i

/-- R17: the reset value of a register; some depend on the instance (R106). -/
def resetVal (r : RegName) (i : Nat) : Nat :=
  match r with
  | .BERTH_CTL => r.row.reset + (i % 8) * 4096
  | .BERTH_GBASE => 16 * i
  | .BERTH_IO => (i % 128) * 128 + i % 128
  | _ => r.row.reset

/-- What an unlisted register holds. -/
def regDefault (k : Nat) : BitVec 36 := BitVec.ofNat 36 (resetVal (RegName.ofNat (k % 512)) (k / 512))

/-- The value of a register. -/
def State.reg (s : State) (r : RegName) (i : Nat) : BitVec 36 := Store.get regDefault s.regs (regKey r i)

/-- The state with register `r`, instance `i`, holding `v`. -/
def State.setReg (s : State) (r : RegName) (i : Nat) (v : BitVec 36) : State :=
  { s with regs := Store.set regDefault s.regs (regKey r i) v }

/-- Bits `lo + w - 1 .. lo` of a register value. -/
def fget (x : BitVec 36) (lo w : Nat) : Nat := (x.extractLsb' lo w).toNat

/-- A register value with `v` in bits `lo + w - 1 .. lo`. -/
def fput (x : BitVec 36) (lo w v : Nat) : BitVec 36 :=
  (x &&& ~~~((BitVec.allOnes w).setWidth 36 <<< lo)) ||| ((BitVec.ofNat w v).setWidth 36 <<< lo)

/-- The value of a register field. -/
def State.get (s : State) (f : Fld) (i : Nat) : Nat := fget (s.reg f.reg i) f.lo f.w

/-- The state with a register field set to `v`. -/
def State.put (s : State) (f : Fld) (i v : Nat) : State := s.setReg f.reg i (fput (s.reg f.reg i) f.lo f.w v)

/-- A one-bit field as a flag. -/
def State.is (s : State) (f : Fld) (i : Nat) : Bool := s.get f i == 1

/-- The signed value of a field. -/
def State.getS (s : State) (f : Fld) (i : Nat) : Int := sx f.w (s.get f i)

/-- A field of a value about to be written to the field's register. -/
def Fld.of (f : Fld) (v : Nat) : Nat := (v >>> f.lo) % 2 ^ f.w

/-- R11: a register of kind LOCK was written since the device reset. -/
def State.locked (s : State) (r : RegName) (i : Nat) : Bool := Store.get (fun _ => false) s.written (regKey r i)

/-- R11: marks a register of kind LOCK as written. -/
def State.lockReg (s : State) (r : RegName) (i : Nat) : State :=
  { s with written := Store.set (fun _ => false) s.written (regKey r i) true }

/-! ### Hardware and software in one timer cycle (R13, R14) -/

/-- R13, R14: what hardware did to a register in the present timer cycle. -/
def State.hwAt (s : State) (r : RegName) (i : Nat) : HwRec :=
  let h := Store.get (fun _ => {}) s.hw (regKey r i)
  if h.cyc = s.now / 64 then h else { cyc := s.now / 64 }

/-- The bits of a field. -/
def Fld.mask (f : Fld) : BitVec 36 := (BitVec.allOnes f.w).setWidth 36 <<< f.lo

/-- R13, R14: the bits `m` of a register are hardware's for the rest of this timer cycle. -/
def State.mark (s : State) (r : RegName) (i : Nat) (m : BitVec 36) : State :=
  { s with hw := Store.set (fun _ => {}) s.hw (regKey r i) { s.hwAt r i with bits := (s.hwAt r i).bits ||| m } }

/-- R13: a hardware event sets a one-bit flag. -/
def State.flag (s : State) (f : Fld) (i : Nat) : State := (s.put f i 1).mark f.reg i f.mask

/-- R14: hardware updates a field that software may write. -/
def State.hwPut (s : State) (f : Fld) (i v : Nat) : State := (s.put f i v).mark f.reg i f.mask

/-- R14: hardware updates a whole register that software may write. -/
def State.hwSet (s : State) (r : RegName) (i : Nat) (v : BitVec 36) : State := (s.setReg r i v).mark r i (BitVec.allOnes 36)

/-- R13: a hardware event counts in a saturating RC field. A read in this timer cycle returns the count before the cycle's events, and
leaves these events. -/
def State.incSat (s : State) (f : Fld) (i : Nat) : State :=
  let h := s.hwAt f.reg i
  let (old, more) := h.rc.getD (s.get f i, 0)
  let top := 2 ^ f.w - 1
  { s.put f i (min (s.get f i + 1) top) with
    hw := Store.set (fun _ => {}) s.hw (regKey f.reg i) { h with rc := some (old, min (more + 1) top) } }

/-! ### Outputs and interrupt sources -/

/-- Adds an output. -/
def State.emit (s : State) (o : Out) : State := { s with out := s.out ++ [o] }

/-- R157: the key of event source (cls, inst, ev). -/
def srcKey (cls inst ev : Nat) : Nat := (cls * 128 + inst) * 16 + ev

/-- R157: event source (cls, inst, ev) of the fabric occurs, or its level changes, at instant `x`. -/
def State.raiseAt (s : State) (cls inst ev : Nat) (x : Int) : State :=
  (s.emit (.fabric cls inst ev x)).setSrcAt (srcKey cls inst ev) (some x)

/-- R157: an event source of the fabric occurs at the present instant. -/
def State.raise (s : State) (cls inst ev : Nat) : State := s.raiseAt cls inst ev s.now

/-- R268: hardware sets bit `v` of one of the vector registers of core `c` (16 bits to a register). -/
def State.setVec (s : State) (r : RegName) (c v : Nat) : State := s.flag ⟨r, v % 16, 1⟩ (c * 8 + v / 16)

/-- R268: clears bit `v` of one of the vector registers of core `c`. -/
def State.clrVec (s : State) (r : RegName) (c v : Nat) : State :=
  s.put ⟨r, v % 16, 1⟩ (c * 8 + v / 16) 0

/-- R268: bit `v` of one of the vector registers of core `c`. -/
def State.vec (s : State) (r : RegName) (c v : Nat) : Bool := s.is ⟨r, v % 16, 1⟩ (c * 8 + v / 16)

/-- R266, R268: interrupt source `n` fires: a routed source sets its vector pending, or LOST where the vector is already pending
or active; a source without a route leaves no trace. A write through the clear alias in the same cycle leaves pending set (R13). -/
def State.fire (s : State) (n : Nat) : State :=
  let s := s.emit (.irq n)
  if s.is F.VU_ROUTE_en n then
    let c := s.get F.VU_ROUTE_core n
    let v := s.get F.VU_ROUTE_vec n
    if s.vec .VU_PEND c v then (s.setVec .VU_LOST c v).setVec .VU_PEND c v
    else if s.vec .VU_ACT c v then s.setVec .VU_LOST c v
    else (s.setVec .VU_PEND c v).setVsrc (c * 128 + v) n
  else s

/-- The source fires where the condition holds. -/
def State.fireIf (s : State) (b : Bool) (n : Nat) : State := if b then s.fire n else s

/-- A free value below `m`, and the state with the counter advanced. -/
def State.draw (s : State) (m : Nat) : Nat × State := (Config.free s.free % m, { s with free := s.free + 1 })

/-! ### Writes by kind (R11, R12, R16) -/

/-- R12: the address through which a register is written: its base, its set alias, or its clear alias. -/
inductive Alias where
  | base | set | clr
  deriving DecidableEq, Repr

/-- R11, R12: what a write of `v` through an alias makes of one field of register value `x`. -/
def FieldRow.next (f : FieldRow) (a : Alias) (locked : Bool) (v : Nat) (x : BitVec 36) : BitVec 36 :=
  let w := (v >>> f.lo) % 2 ^ f.w
  let cur := fget x f.lo f.w
  match f.kind, a with
  | .rw, .base => fput x f.lo f.w w
  | .lock, .base => if locked then x else fput x f.lo f.w w
  | .set, .set => fput x f.lo f.w (cur ||| w)
  | .setClr, .set => fput x f.lo f.w (cur ||| w)
  | .clr, .clr => fput x f.lo f.w (cur &&& (2 ^ f.w - 1 - w))
  | .setClr, .clr => fput x f.lo f.w (cur &&& (2 ^ f.w - 1 - w))
  | _, _ => x

/-- R11, R12, R16: the value that a write of `v` gives a register by the kinds of its fields. -/
def State.written_ (s : State) (r : RegName) (i : Nat) (a : Alias) (v : Nat) : BitVec 36 :=
  r.row.fields.foldl (fun x f => f.next a (s.locked r i) v x) (s.reg r i)

/-- R11: the bits of WO fields that a write sets: the actions it asks for. -/
def woBits (r : RegName) (a : Alias) (v : Nat) : Nat :=
  if a = .base then
    r.row.fields.foldl (fun x f => if f.kind = .wo then x + ((v >>> f.lo) % 2 ^ f.w) * 2 ^ f.lo else x) 0
  else 0

/-- R431: the bits of fields written through both aliases that a write of `v` through the set alias sets. -/
def setBits (r : RegName) (v : Nat) : Nat :=
  r.row.fields.foldl (fun x f => if f.kind = .setClr then x + ((v >>> f.lo) % 2 ^ f.w) * 2 ^ f.lo else x) 0

/-- R11: what a read of a register shows: WO fields and reserved bits as zero. -/
def State.shown (s : State) (r : RegName) (i : Nat) : Nat :=
  (r.row.fields.foldl (fun x f => if f.kind = .wo then fput x f.lo f.w 0 else x) (s.reg r i)).toNat

/-- R13, R14: what is left of a write of `v` to a register that hardware acted on in the same timer cycle: through the clear alias it does
not clear the bits that hardware set, and through the base it does not change the bits that hardware updated. -/
def State.yielded (s : State) (r : RegName) (i : Nat) (a : Alias) (v : Nat) : Nat :=
  let m := (s.hwAt r i).bits.toNat
  match a with
  | .base => v &&& (2 ^ 36 - 1 - m) ||| (s.reg r i).toNat &&& m
  | .set => v
  | .clr => v &&& (2 ^ 36 - 1 - m)

/-! ### Sleep (R28, R333) -/

/-- R329: the engine and the timer domain run: on every rung above Stop. -/
def timerOn (s : State) : Bool := decide (s.rung < 3)

/-- R332, R333: a wake event of source `w` (as in PWR_STAT.wake) in Stop or Hibernate is held until the exit begins. -/
def State.wakeBy (s : State) (w : Nat) : State :=
  if (s.rung == 3 || s.rung == 4) && s.wake.isNone then { s with wake := some w } else s

/-- R386: a device reset is due; of two causes in one timer cycle the lower is recorded. -/
def State.resetBy (s : State) (cause core : Nat) : State :=
  match s.devRst with
  | some (c, _) => if cause < c then { s with devRst := some (cause, core) } else s
  | none => { s with devRst := some (cause, core) }

/-! ### Lists in order -/

/-- `x` in its place in an ordered list. -/
def insertBy {α : Type} (le : α → α → Bool) (x : α) : List α → List α
  | [] => [x]
  | y :: l => if le x y then x :: y :: l else y :: insertBy le x l

/-- A list in order; equal elements keep theirs. -/
def sortBy {α : Type} (le : α → α → Bool) (l : List α) : List α := l.foldr (insertBy le) []

/-! ### The timebase (R321) -/

/-- R321: subsecond units in a second. -/
def subUnits : Nat := 64000000000

/-- R321, R322: the units of the timebase before it wraps: 2^36 seconds. -/
def tbWrap : Nat := 2 ^ 36 * subUnits

/-- R321: the timebase at fine tick `t`, in units of 2^-32 subsecond units. -/
def TbS.fine (b : TbS) (t : Nat) : Int :=
  if b.stopped then b.v0
  else if b.t0 ≤ t then b.v0 + ((t : Int) - b.t0) * (2 ^ 32 + b.rho)
  else b.u0 - ((b.t0 : Int) - t) * (2 ^ 32 + b.rhoOld)

/-- R321: the timebase at fine tick `t` in whole subsecond units, wrapped. -/
def State.tbAt (s : State) (t : Nat) : Nat := ((s.tb.fine t / 2 ^ 32) % (tbWrap : Int)).toNat

/-- R321: the timebase now, in subsecond units. -/
def State.tbNow (s : State) : Nat := s.tbAt s.now

/-- R322: the timebase value `v` is at or past the instant `x`, in wrapped arithmetic. -/
def tbPast (v x : Nat) : Bool := (v + tbWrap - x % tbWrap) % tbWrap < tbWrap / 2

/-- R322: the timebase is at or past the instant `x`. -/
def State.reached (s : State) (x : Nat) : Bool := tbPast s.tbNow x

/-- R321: (seconds, subsecond) of a timebase value. -/
def tbSplit (v : Nat) : Nat × Nat := (v / subUnits % 2 ^ 36, v % subUnits)

/-- R321: the value of (seconds, subsecond). -/
def tbJoin (sec sub : Nat) : Nat := sec * subUnits + sub

/-! ### The coarse clock (R162, R318, R334) -/

/-- R318, R334: the period of the coarse clock, 32.768 kHz, in fine ticks. -/
def coarseTick : Nat := 1953125

/-- R162, R334: the latest edge of the coarse clock, whose phase is a free value until an edge is met, and the state that knows it. -/
def coarseEdge (s : State) : Nat × State :=
  match s.divAtOf 4 with
  | some e => (s.now - (s.now + coarseTick - e % coarseTick) % coarseTick, s)
  | none =>
    let (p, s) := s.draw coarseTick
    (s.now - p, s.setDivAt 4 (some (s.now - p)))

/-! ### Answers -/

/-- A command that takes effect: the next state. -/
def ok (s : State) : Host.Outcome State Fault Refusal := .next s

/-- An event of the device: it takes place only where its condition holds at its instant, and leaves the state as it was where
the condition does not hold (a command that reports an occurrence that cannot take place). -/
def event (t : Nat) (s : State) (cond : State → Bool) (eff : State → State) : Host.Outcome State Fault Refusal :=
  let s := s.tick t
  if cond s then .next (eff s) else .next s

end Sys2Proof.Machine
end

