-- ==== Sys2Proof/Machine/Operands.lean ====
section
/-! DEFINITION. The fields of a P18 instruction (R202, R204) and the registers of a core (R193, R194). An instruction command
carries bits 27..0 of the instruction as `x`; its opcode is its constructor, and for M and MX formats its `mx`. -/

namespace Sys2Proof.Machine

/-! ### Instruction fields (R202, R204) -/

/-- Bits 27..0 of an instruction double word. -/
abbrev Fields := BitVec 28

/-- Bits `lo + w - 1 .. lo` of an instruction. -/
def Fields.bits (x : Fields) (lo w : Nat) : Nat := (x.extractLsb' lo w).toNat

/-- Bits 27..24: rd, r, ra of formats B and BI, rc of LP. -/
def Fields.f27 (x : Fields) : Nat := x.bits 24 4
/-- Bits 23..20: ra of formats A and I, ri of M, rb of B. -/
def Fields.f23 (x : Fields) : Nat := x.bits 20 4
/-- Bits 19..16: rb of format A, sh of PAR. -/
def Fields.f19 (x : Fields) : Nat := x.bits 16 4
/-- Bits 15..0: the tandem field. -/
def Fields.tan (x : Fields) : Nat := x.bits 0 16
/-- R204: te. -/
def Fields.te (x : Fields) : Bool := x.bits 15 1 == 1
/-- R204: rs. -/
def Fields.rs (x : Fields) : Nat := x.bits 11 4
/-- R204: kc of the tandem field. -/
def Fields.tkc (x : Fields) : Nat := x.bits 8 3
/-- R204: slot. -/
def Fields.slot (x : Fields) : Nat := x.bits 0 8
/-- Bits 19..18: reserved in format I. -/
def Fields.res19 (x : Fields) : Nat := x.bits 18 2
/-- Bits 17..0: imm of format I. -/
def Fields.imm (x : Fields) : BitVec 18 := x.extractLsb' 0 18
/-- Bits 19..17: kc of formats M and MX. -/
def Fields.kc (x : Fields) : Nat := x.bits 17 3
/-- Bits 16..0, signed: disp. -/
def Fields.disp (x : Fields) : Int := (x.extractLsb' 0 17).toInt
/-- Bits 23..21: dn of formats MX and JR. -/
def Fields.dn (x : Fields) : Nat := x.bits 21 3
/-- Bit 20: reserved in format MX. -/
def Fields.b20 (x : Fields) : Nat := x.bits 20 1
/-- Bits 19..0, signed: off of format B. -/
def Fields.offB (x : Fields) : Int := (x.extractLsb' 0 20).toInt
/-- Bits 23..15: imm of format BI. -/
def Fields.immBI (x : Fields) : BitVec 9 := x.extractLsb' 15 9
/-- Bits 14..0, signed: off of format BI. -/
def Fields.offBI (x : Fields) : Int := (x.extractLsb' 0 15).toInt
/-- Bits 27..25: dl of formats J and JR, kd of format K. -/
def Fields.dl (x : Fields) : Nat := x.bits 25 3
/-- Bit 24: reserved in formats J and JR. -/
def Fields.b24 (x : Fields) : Nat := x.bits 24 1
/-- Bits 23..0, signed: off of format J. -/
def Fields.offJ (x : Fields) : Int := (x.extractLsb' 0 24).toInt
/-- Bits 20..0: reserved in format JR. -/
def Fields.resJR (x : Fields) : Nat := x.bits 0 21
/-- Bits 23..15: no field of LP. -/
def Fields.resLP (x : Fields) : Nat := x.bits 15 9
/-- Bits 27..15: cnt of LPI. -/
def Fields.cnt (x : Fields) : Nat := x.bits 15 13
/-- Bits 14..0, unsigned: off of format L. -/
def Fields.offL (x : Fields) : Nat := x.bits 0 15
/-- Bits 23..6: reserved in format S. -/
def Fields.resS (x : Fields) : Nat := x.bits 6 18
/-- Bits 5..0: s of format S. -/
def Fields.spec (x : Fields) : Nat := x.bits 0 6
/-- Bits 24..22: ks of format K. -/
def Fields.ks (x : Fields) : Nat := x.bits 22 3
/-- Bits 21..19: kt of format K. -/
def Fields.kt (x : Fields) : Nat := x.bits 19 3
/-- Bits 18..15: r of format K. -/
def Fields.rK (x : Fields) : Nat := x.bits 15 4
/-- Bits 14..0: reserved in format K. -/
def Fields.resK (x : Fields) : Nat := x.bits 0 15
/-- Bits 27..9: reserved in format T. -/
def Fields.resT (x : Fields) : Nat := x.bits 9 19
/-- Bits 8..0: code of format T. -/
def Fields.code (x : Fields) : Nat := x.bits 0 9

/-! ### Registers of a core (R193, R194) -/

/-- R194: word register `r`; w0 reads as zero. -/
def CoreS.rd (h : CoreS) (r : Nat) : Word := if r = 0 then 0 else Store.get (fun _ => 0) h.w r

/-- R194: a write of word register `r`; a write of w0 is discarded. -/
def CoreS.wr (h : CoreS) (r : Nat) (v : Word) : CoreS :=
  if r = 0 then h else { h with w := Store.set (fun _ => 0) h.w r v }

/-- R193, R194: the pair whose high word is register `r`. -/
def CoreS.rdP (h : CoreS) (r : Nat) : DWord := h.rd r ++ h.rd (r + 1)

/-- R193, R194: a write of the pair whose high word is register `r`; of d0 only the low word is stored. -/
def CoreS.wrP (h : CoreS) (r : Nat) (v : DWord) : CoreS :=
  (h.wr r (v.extractLsb' 18 18)).wr (r + 1) (v.extractLsb' 0 18)

/-- Capability register `n`. -/
def CoreS.cap (h : CoreS) (n : Nat) : Cap := Store.get (fun _ => {}) h.k n

/-- A write of capability register `n`. -/
def CoreS.setCap (h : CoreS) (n : Nat) (v : Cap) : CoreS := { h with k := Store.set (fun _ => {}) h.k n v }

/-- LS of loop level `i`. -/
def CoreS.lsOf (h : CoreS) (i : Nat) : Addr := Store.get (fun _ => 0) h.ls i
/-- LE of loop level `i`. -/
def CoreS.leOf (h : CoreS) (i : Nat) : Addr := Store.get (fun _ => 0) h.le i
/-- LC of loop level `i`. -/
def CoreS.lcOf (h : CoreS) (i : Nat) : Word := Store.get (fun _ => 0) h.lc i
/-- A write of LS of loop level `i`. -/
def CoreS.setLs (h : CoreS) (i : Nat) (v : Addr) : CoreS := { h with ls := Store.set (fun _ => 0) h.ls i v }
/-- A write of LE of loop level `i`. -/
def CoreS.setLe (h : CoreS) (i : Nat) (v : Addr) : CoreS := { h with le := Store.set (fun _ => 0) h.le i v }
/-- A write of LC of loop level `i`. -/
def CoreS.setLc (h : CoreS) (i : Nat) (v : Word) : CoreS := { h with lc := Store.set (fun _ => 0) h.lc i v }

/-! ### Capabilities (R246 to R248, R252) -/

/-- R248: the permission bits. -/
def permLD : Nat := 11
/-- R248. -/
def permST : Nat := 10
/-- R248. -/
def permEX : Nat := 9
/-- R248. -/
def permLK : Nat := 8
/-- R248. -/
def permSK : Nat := 7
/-- R248. -/
def permGT : Nat := 6
/-- R248. -/
def permSE : Nat := 5

/-- R248: the capability grants permission bit `b`. -/
def Cap.has (k : Cap) (b : Nat) : Bool := k.perm.getLsbD b

/-- R246: the 72 bits of a capability. -/
def Cap.line (k : Cap) : Line := k.base ++ k.len ++ k.perm ++ k.otype

/-- R246: the capability of 72 bits and a tag. -/
def Cap.ofLine (d : Line) (tag : Bool) : Cap where
  base := d.extractLsb' 45 27
  len := d.extractLsb' 18 27
  perm := d.extractLsb' 6 12
  otype := d.extractLsb' 0 6
  tag := tag

/-- R252: seal range `sr` covers type `t`. -/
def srCovers (sr : BitVec 12) (t : Nat) : Bool :=
  decide (1 ≤ t) && decide ((sr.extractLsb' 6 6).toNat ≤ t) && decide (t ≤ (sr.extractLsb' 0 6).toNat)

end Sys2Proof.Machine
end

