-- ==== Sys2Proof/Machine/Flags.lean ====
section
/-! DEFINITION. The results of the P18 arithmetic instructions, with the one flag of a core, CX (R205 to R213). -/

namespace Sys2Proof.Machine

/-! ### Word operations (R205) -/

/-- R205: a + b + c with the carry out of bit 17. -/
def addC (a b : Word) (c : Bool) : Word × Bool :=
  (a + b + BitVec.ofNat 18 (b2n c), decide (2 ^ 18 ≤ a.toNat + b.toNat + b2n c))

/-- R205: a - b - c with the borrow. -/
def subC (a b : Word) (c : Bool) : Word × Bool :=
  (a - b - BitVec.ofNat 18 (b2n c), decide (a.toNat < b.toNat + b2n c))

/-- R205: the signed sum, saturated. -/
def addSat (a b : Word) : Word := wordOf (sat18 (a.toInt + b.toInt))

/-- R205: the signed difference, saturated. -/
def subSat (a b : Word) : Word := wordOf (sat18 (a.toInt - b.toInt))

/-- A flag as a word. -/
def wordB (b : Bool) : Word := BitVec.ofNat 18 (b2n b)

/-- R205: a shift amount, bits 4..0. -/
def sh5 (b : Word) : Nat := (b.extractLsb' 0 5).toNat

/-- R207: a shift amount, bits 5..0. -/
def sh6 (b : Word) : Nat := (b.extractLsb' 0 6).toNat

/-- R205: the bits that equal bit 17, counted down from bit 16 to the first that does not. -/
def signRun (a : Word) : Nat → Nat
  | 0 => 0
  | n + 1 => if a.getLsbD n = a.msb then 1 + signRun a n else 0

/-- R205: CLS. -/
def clsW (a : Word) : Word := BitVec.ofNat 18 (signRun a 17)

/-! ### Products (R209) -/

/-- R209: the signed product. -/
def mulS (a b : Word) : DWord := BitVec.ofInt 36 (a.toInt * b.toInt)

/-- R209: the unsigned product. -/
def mulU (a b : Word) : DWord := BitVec.ofNat 36 (a.toNat * b.toNat)

/-- R209: PA x 2^sh / 2^17, rounded to nearest with ties away from zero, saturated. -/
def parW (pa : BitVec 54) (sh : Nat) : Word := wordOf (sat18 (roundDiv (pa.toInt * 2 ^ sh) (2 ^ 17)))

/-! ### Division (R212, R213) -/

/-- R212: DIV.S: the quotient and the remainder. -/
def divS (a b : Word) : Word × Word :=
  if b = 0 then (0o777777#18, a)
  else if a = 0o400000#18 ∧ b = 0o777777#18 then (0o400000#18, 0)
  else (wordOf (a.toInt.tdiv b.toInt), wordOf (a.toInt.tmod b.toInt))

/-- R212: DIV.U. -/
def divU (a b : Word) : Word × Word :=
  if b = 0 then (0o777777#18, a) else (BitVec.ofNat 18 (a.toNat / b.toNat), BitVec.ofNat 18 (a.toNat % b.toNat))

/-- R212: DIV.DS. -/
def divDS (a : DWord) (b : Word) : Word × Word :=
  if b = 0 then (0o777777#18, a.extractLsb' 0 18)
  else
    let q := a.toInt.tdiv b.toInt
    if q = sat18 q then (wordOf q, wordOf (a.toInt.tmod b.toInt)) else (wordOf (sat18 q), a.extractLsb' 0 18)

/-- R212: DIV.DU. -/
def divDU (a : DWord) (b : Word) : Word × Word :=
  if b = 0 then (0o777777#18, a.extractLsb' 0 18)
  else
    let q := a.toNat / b.toNat
    if q < 2 ^ 18 then (BitVec.ofNat 18 q, BitVec.ofNat 18 (a.toNat % b.toNat)) else (0o777777#18, a.extractLsb' 0 18)

end Sys2Proof.Machine
end

