-- ==== Sys2Proof/Machine/Flash.lean ====
section
/-! DEFINITION. The flash array, its command sequences and its operations, and the one-time row (13_flash.md, R300 to R317). -/

namespace Sys2Proof.Machine

/-! ### Geometry and reading (R300, R301, R307, R315, R316) -/

/-- R300: the lines of a bank. -/
def bankLines : Nat := 262144

/-- R301: a line of flash as a reader of an idle bank meets it: its data, or none for an uncorrectable error; a corrected error counts.
The data of an undefined line, or of a block whose erase was cut short, are free (R305, R313). -/
def flashLine (s : State) (line : Nat) : Option (BitVec 72) × State :=
  let c := s.flashOf line
  if !(s.flBlkOf (line / 1024)).ecomp || c.undef then
    let (v, s) := s.draw (2 ^ 72)
    (some (BitVec.ofNat 72 v), s)
  else match c.ecc with
    | .good => (some c.d, s)
    | .single => (some c.d, s.incSat F.FL_ECCCNT_n 0)
    | .bad => (none, s)

/-- Word `i` of a line, word 0 first. -/
def lineWord (d : BitVec 72) (i : Nat) : BitVec 18 := d.extractLsb' (54 - 18 * i) 18

/-- A line from its words. -/
def lineOf (ws : List (BitVec 18)) : BitVec 72 := BitVec.ofNat 72 (ws.foldl (fun n w => n * 2 ^ 18 + w.toNat) 0)

/-- R307: the status word that a read of a line of a busy bank returns; its bit 16 toggles at each read. DESIGN CHOICE (log 118): a load
that touches two lines makes two reads. -/
def flashStatus (s : State) (b : Nat) : BitVec 18 × State :=
  let h := s.flOf b
  (if h.toggle then 0x10000 else 0, s.setFl b { h with toggle := !h.toggle })

/-- R310, R311: the raw bits of line `l` at margin level `lvl`: no check bits correct them, and whether a bit that is not programmed, or not
erased, with that much margin reads as such is a free value. -/
def flashRaw (s : State) (lvl l : Nat) : BitVec 72 × State :=
  let c := s.flashOf l
  let (x, s) := s.draw (2 ^ 72)
  let (i, s) := s.draw 73
  let (m, s) := s.draw (2 ^ 72)
  let d : BitVec 72 :=
    if !(s.flBlkOf (l / 1024)).ecomp || c.undef then BitVec.ofNat 72 x
    else match c.ecc with
      | .good => c.d
      | .single => c.d ^^^ BitVec.ofNat 72 (2 ^ i)
      | .bad => BitVec.ofNat 72 x
  (if lvl ≤ 2 then d ||| BitVec.ofNat 72 m else d &&& BitVec.ofNat 72 m, s)

/-- R301, R307: line `l` of flash as a requester reads it at margin level 0, from an idle bank or a busy one. -/
def flashRead (s : State) (l : Nat) : Option (BitVec 72) × State :=
  if (s.flOf (l / bankLines)).run.isSome then
    let (w, s) := flashStatus s (l / bankLines)
    (some (w ++ w ++ w ++ w), s)
  else flashLine s l

/-- R315: an Avlet word of the one-time row. -/
def otpAvlet (i : Nat) : Bool := decide (i < 8) || (decide (24 ≤ i) && decide (i < 32)) || decide (480 ≤ i)

/-- R315: word `i` of the one-time row. -/
def otpWord (s : State) (i : Nat) : BitVec 18 :=
  if otpAvlet i then Config.avletWord i else (s.otpOf i).getD (BitVec.allOnes 18)

/-- R316: what a load of word `i` of the one-time row returns. -/
def otpLoad (s : State) (i : Nat) : BitVec 18 := if 32 ≤ i ∧ i < 160 then 0 else otpWord s i

/-- R315: the behaviour-level floor. -/
def otpFloor (s : State) : Nat :=
  let slots := (List.range 8).filterMap (fun i => (s.otpOf (8 + i)).map (fun w => w.toNat % 64))
  match slots with
  | [] => 1
  | l => l.foldl max 0

/-- R315: key slot `k` is revoked: its revoke word is written. -/
def otpRevoked (s : State) (k : Nat) : Bool := (s.otpOf (16 + k)).isSome

/-- R315: the 256 bits packed in 16 words from word `i` on. -/
def otpPacked (s : State) (i : Nat) : BitVec 256 :=
  BitVec.ofNat 256 (((List.range 15).foldl (fun n j => n * 2 ^ 18 + (otpWord s (i + j)).toNat) 0) / 2 ^ 14)

/-! ### Ring counts (R312) -/

/-- R312: FL_RING as it reads for the selected block. -/
def flRing (s : State) : Nat :=
  let h := s.flBlkOf (s.get F.FL_RSEL_blk 0)
  b2n h.ecomp * 2 ^ 35 + b2n (decide (100000 ≤ h.ring)) * 2 ^ 34 + h.ring

/-- R190: a block of the journal's set. -/
def jrnBlock (s : State) (blk : Nat) : Bool :=
  s.is F.MFU_JCTL_en 0 && decide (s.get F.MFU_JCTL_fb 0 ≤ blk) && decide (blk < s.get F.MFU_JCTL_fb 0 + 16)

/-- R312: the ring count of a block increments and its ecomp clears, before any of its cells changes. -/
def ringUp (s : State) (blk : Nat) : State :=
  let n := min ((s.flBlkOf blk).ring + 1) 16777215
  let s := s.setFlBlk blk ⟨n, false⟩
  let s := if n = 100000 ∧ !s.flWear then { s.fireIf (s.is F.FL_IEN_wear 0) 524 with flWear := true } else s
  if jrnBlock s blk && decide (100000 ≤ n) then s.put F.MFU_JSTAT_worn 0 1 else s

/-! ### Operations (R305, R306, R308) -/

/-- The nonet address of an operation's target. -/
def FlOp.addr : FlOp → Nat
  | .program l _ _ => 8 * l
  | .erase b => 8192 * b
  | .otp i _ => 0o061000000 + 2 * i

/-- The code of an operation in FL_BSTAT.op. -/
def FlOp.code : FlOp → Nat
  | .program .. => 1
  | .erase _ => 2
  | .otp .. => 3

/-- R308: bank `b` starts an operation. -/
def flStart (s : State) (b : Nat) (op : FlOp) (jrn : Bool) : State :=
  let s := s.setFl b { s.flOf b with run := some ⟨op, s.now, jrn⟩ }
  let s := ((s.put F.FL_BSTAT_busy b 1).put F.FL_BSTAT_op b op.code).put F.FL_BSTAT_jrn b (b2n jrn)
  let s := s.put F.FL_BADDR_addr b op.addr
  match op with
  | .erase blk => ringUp s blk
  | _ => s

/-- R306: an idle bank starts the oldest journal operation that waits. -/
def flNext (s : State) (b : Nat) : State :=
  match (s.flOf b).run, (s.flOf b).jq with
  | none, op :: q => flStart (s.setFl b { s.flOf b with jq := q }) b op true
  | _, _ => s

/-- R305: why a completed sequence of bank `b` is refused, where reasons 2 and 4 hold or not; 0 where it is accepted. -/
def flRefused (s : State) (b : Nat) (two four : Bool) : Nat :=
  if two then 2
  else if (s.flOf b).run.isSome then 3
  else if four then 4
  else if s.is F.PWR_PFSTAT_act 0 then 7
  else 0

/-- R305: why a completed program, erase or OTP sequence is refused; 0 where it is accepted. -/
def flRefusal (s : State) (b : Nat) (op : FlOp) : Nat :=
  let prot (blk : Nat) : Bool :=
    s.is F.FL_PROT_en 0 && decide (s.get F.FL_PROT_lo 0 ≤ blk) && decide (blk ≤ s.get F.FL_PROT_hi 0)
  let two := match op with
    | .program l _ _ => prot (l / 1024)
    | .erase blk => prot blk
    | .otp i _ => s.is F.FL_OTPLK_lk 0 || otpAvlet i
  let four := match op with
    | .program l _ _ => (s.flashOf l).prog || !(s.flBlkOf (l / 1024)).ecomp
    | .erase _ => false
    | .otp i _ => (s.otpOf i).isSome
  flRefused s b two four

/-- R304, R305: a firmware sequence of bank `b` is complete. -/
def flComplete (s : State) (b : Nat) (op : FlOp) : State :=
  let s := s.setFl b { s.flOf b with seq := .start }
  let e := flRefusal s b op
  if e = 0 then flStart s b op false else s.put F.FL_BSTAT_err b e

/-- R304, R305, R310: a margin-level sequence of bank `b` is complete. -/
def flMargin (s : State) (b lvl : Nat) : State :=
  let s := s.setFl b { s.flOf b with seq := .start }
  let e := flRefused s b false false
  if e = 0 then s.put F.FL_BSTAT_mlvl b lvl else s.put F.FL_BSTAT_err b e

/-- R303: a store breaks the sequence of bank `b`. -/
def flBreak (s : State) (b : Nat) : State := (s.setFl b { s.flOf b with seq := .start }).put F.FL_BSTAT_err b 1

/-- R235, R307: the data caches drop the blocks that an operation changed. -/
def flDropCached (s : State) (b : Nat) : State :=
  let hit (op : FlOp) (k : Nat) : Bool := match op with
    | .program l _ _ => k == l / 4
    | .erase blk => k / 256 == blk
    | .otp .. => false
  match (s.flOf b).run with
  | some r => (List.range 16).foldl (fun s c =>
      s.setCore c { s.coreOf c with dc := (s.coreOf c).dc.filter (fun p => !hit r.op p.1) }) s
  | none => s

/-- R305, R308: the operation of bank `b` ends, with error `err` or none. -/
def flEnd (s : State) (b err : Nat) : State :=
  let s := flDropCached s b
  let s := s.setFl b { s.flOf b with run := none }
  let s := ((s.put F.FL_BSTAT_busy b 0).put F.FL_BSTAT_jrn b 0).flag F.FL_BSTAT_done b
  let s := if err = 0 then s else s.put F.FL_BSTAT_err b err
  s.fireIf (s.is ⟨.FL_IEN, 17 - b, 1⟩ 0) (520 + b)

/-- R301, R305: a line takes the data programmed into it; after err 5 it holds undefined data. -/
def flPut (s : State) (l : Nat) (d : BitVec 72) (ok : Bool) : State :=
  s.setFlash l { d := if ok then d else 0, prog := true, undef := !ok, ecc := .good }

/-- R301: block `blk` is erased. -/
def flWipe (s : State) (blk : Nat) : State :=
  { s.setFlBlk blk { s.flBlkOf blk with ecomp := true } with flash := s.flash.filter (fun p => p.1 / 1024 != blk) }

/-! ### Sequences (R303, R304) -/

/-- R304: what a store does to a sequence. -/
inductive FlStep where
  | go (q : FlSeq)
  | done (op : FlOp)
  | margin (lvl : Nat)
  | reset
  | brk
  deriving DecidableEq, Repr

/-- R304: a word store of `v` at nonet offset `off` is U1. -/
def isU1 (off v : Nat) : Bool := off == 0o12524 && v == 0o252525
/-- R304: a word store of `v` at nonet offset `off` is U2. -/
def isU2 (off v : Nat) : Bool := off == 0o5252 && v == 0o525252

/-- R303, R304: a store to bank `b` at nonet offset `off`: a word, or with `dbl` a double word. -/
def flStep (q : FlSeq) (b off : Nat) (dbl : Bool) (v : Nat) : FlStep :=
  let w : BitVec 18 := BitVec.ofNat 18 v
  let other : FlStep := if !dbl && off % 2 == 0 && v == 0o360 then .reset else .brk
  let next (ok : Bool) (q : FlSeq) : FlStep := if !dbl && ok then .go q else other
  match q with
  | .start => next (isU1 off v) .u1
  | .u1 => next (isU2 off v) .u2
  | .u2 =>
    if dbl || off != 0o12524 then other
    else if v == 0o240 then .go (.line none [] false)
    else if v == 0o200 then .go .erase
    else if v == 0o260 && b == 0 then .go .otp
    else if 0o110 ≤ v && v ≤ 0o114 then .margin (v - 0o110)
    else other
  | .erase => next (isU1 off v) .eraseU1
  | .eraseU1 => next (isU2 off v) .eraseU2
  | .eraseU2 => if !dbl && off % 2 == 0 && v == 0o60 then .done (.erase (b * 256 + off / 8192)) else other
  | .otp => if !dbl && off % 2 == 0 && off < 1024 then .done (.otp (off / 2) w) else other
  | .line base ws kind =>
    let fits := match base with
      | none => off % 8 == 0
      | some l => kind == dbl && off == 8 * l + 2 * ws.length
    if !fits then other
    else
      let l := base.getD (off / 8)
      let ws := ws ++ (if dbl then [BitVec.ofNat 18 (v / 2 ^ 18), w] else [w])
      if ws.length = 4 then .done (.program (b * bankLines + l) (lineOf ws) false) else .go (.line (some l) ws dbl)

/-- R303, R304: a store to bank `b` is performed; `nonet` for a nonet store, which breaks every sequence. -/
def flStore (s : State) (b off : Nat) (dbl nonet : Bool) (v : Nat) : State :=
  if nonet then flBreak s b
  else match flStep (s.flOf b).seq b off dbl v with
    | .go q => s.setFl b { s.flOf b with seq := q }
    | .done op => flComplete s b op
    | .margin l => flMargin s b l
    | .reset => ((s.setFl b { s.flOf b with seq := .start }).put F.FL_BSTAT_mlvl b 0).put F.FL_BSTAT_err b 0
    | .brk => flBreak s b

/-- R314: the power-fail sequence begins: partial sequences are discarded, an erase stops with ecomp = 0 and err 7, and the journal
operations that wait are dropped, so that a record in program is cut short, unless its last line is under way. -/
def flPowerFail (s : State) : State :=
  let last := (List.range 4).any (fun b => match (s.flOf b).run with
    | some ⟨.program _ _ true, _, true⟩ => true
    | _ => false)
  let s := { s with journal := { s.journal with next := if last then s.journal.next.take 1 else [] } }
  (List.range 4).foldl (fun s b =>
    let s := s.setFl b { s.flOf b with seq := .start, jq := [] }
    match (s.flOf b).run with
    | some ⟨.erase _, _, _⟩ => flEnd s b 7
    | _ => s) s

/-! ### The commands -/

/-- R304: the last store of a line-program sequence. -/
def execLineProgram (t : Nat) (b : Fin 4) (off : BitVec 21) (dbl : Bool) (v : DWord) (s : State) :
    Host.Outcome State Fault Refusal :=
  event t s
    (fun s => match flStep (s.flOf b).seq b off.toNat dbl v.toNat with | .done (.program ..) => true | _ => false)
    (fun s => flStore s b off.toNat dbl false v.toNat)

/-- R304: the last store of a block-erase sequence. -/
def execBlockErase (t : Nat) (b : Fin 4) (off : BitVec 21) (v : Word) (s : State) : Host.Outcome State Fault Refusal :=
  event t s
    (fun s => match flStep (s.flOf b).seq b off.toNat false v.toNat with | .done (.erase _) => true | _ => false)
    (fun s => flStore s b off.toNat false false v.toNat)

/-- R304, R310: the last store of a margin-level sequence. -/
def execMarginLevel (t : Nat) (b : Fin 4) (off : BitVec 21) (v : Word) (s : State) : Host.Outcome State Fault Refusal :=
  event t s
    (fun s => match flStep (s.flOf b).seq b off.toNat false v.toNat with | .margin _ => true | _ => false)
    (fun s => flStore s b off.toNat false false v.toNat)

/-- R304: the last store of an OTP program sequence. -/
def execOtpWordProgram (t : Nat) (off : BitVec 21) (v : Word) (s : State) : Host.Outcome State Fault Refusal :=
  event t s
    (fun s => match flStep (s.flOf 0).seq 0 off.toNat false v.toNat with | .done (.otp ..) => true | _ => false)
    (fun s => flStore s 0 off.toNat false false v.toNat)

/-- R304: the reset command. -/
def execFlashReset (t : Nat) (b : Fin 4) (off : BitVec 21) (v : Word) (s : State) : Host.Outcome State Fault Refusal :=
  event t s
    (fun s => match flStep (s.flOf b).seq b off.toNat false v.toNat with | .reset => true | _ => false)
    (fun s => flStore s b off.toNat false false v.toNat)

end Sys2Proof.Machine
end

