-- ==== Sys2Proof/Machine/Memmap.lean ====
section
/-! DEFINITION. The regions of the address space (19_address_map.md, R429 to R432). -/

namespace Sys2Proof.Machine

/-- R429: the regions. The aliases of peripheral space count as peripheral space. -/
inductive Region where
  | flash | sram | rom | otp | bstore | bram | periph | tide | unmapped
  deriving DecidableEq, Repr

/-- R429: the region of a nonet address. The tide aliases of the blocks to which none is assigned are unassigned too. -/
def regionOf (a : Nat) : Region :=
  if a < 0o040000000 then .flash
  else if a < 0o060000000 then .sram
  else if a < 0o060400000 then .rom
  else if a < 0o061000000 then .unmapped
  else if a < 0o061002000 then .otp
  else if a < 0o062000000 then .unmapped
  else if a < 0o062200000 then .bstore
  else if a < 0o063000000 then .unmapped
  else if a < 0o063100000 then .bram
  else if a < 0o100000000 then .unmapped
  else if a < 0o160000000 then .periph
  else if a < 0o200000000 then .unmapped
  else if a < 0o315000000 then .tide
  else if a < 0o320000000 then .unmapped
  else if a < 0o400000000 then .tide
  else .unmapped

/-- R12, R431: the alias of a peripheral address, and its base address. -/
def aliasOf (a : Nat) : Alias × Nat :=
  if a < 0o120000000 then (.base, a)
  else if a < 0o140000000 then (.set, a - 0o020000000)
  else (.clr, a - 0o040000000)

/-- R429: a base address of peripheral space lies in an assigned block. -/
def assigned (a : Nat) : Bool := decide (0o100000000 ≤ a) && decide (a < 0o115000000)

/-- The SRAM word of a nonet address. -/
def sramIx (a : Nat) : Nat := (a - 0o040000000) / 2

/-- R273: the SRAM bank of a nonet address. -/
def bankAt (a : Nat) : Nat := (a - 0o040000000) / 65536

/-- R275, R279: core `c` owns bank `k`, and no handover of it is in progress. -/
def ownsBank (s : State) (c k : Nat) : Bool :=
  s.get F.BANK_OWN_kind k == 0 && s.get F.BANK_OWN_id k == c && !s.is F.BANK_STAT_hpend k

/-- R279: the owner word that a handover in progress brings. -/
def newOwner (s : State) (k : Nat) : BitVec 36 := ((s.bankOf k).map (·.1)).getD 0

/-- R279: core `c` is the new owner of a bank whose handover is in progress, and so waits. -/
def awaitsBank (s : State) (c k : Nat) : Bool :=
  s.is F.BANK_STAT_hpend k && fget (newOwner s k) 16 2 == 0 && fget (newOwner s k) 0 8 == c

/-- The nonets `a` to `a + n - 1` lie in one SRAM bank. -/
def inOneBank (a n : Nat) : Bool :=
  regionOf a == .sram && regionOf (a + n - 1) == .sram && bankAt a == bankAt (a + n - 1)

/-- R258: the nonets `a` to `a + n - 1` lie in one SRAM bank that core `c` owns. -/
def inOwnBank (s : State) (c a n : Nat) : Bool := inOneBank a n && ownsBank s c (bankAt a)

end Sys2Proof.Machine
end

