-- ==== Sys2Proof/Machine/Sram.lean ====
section
/-! DEFINITION. SRAM words, the causes of the memory system, and the run log of a crane group (12_memory_locks_tides.md, R273 to
R282). -/

namespace Sys2Proof.Machine

/-- R273: the number of SRAM words. -/
def sramWords : Nat := 2097152

/-- R187: the first word of the slice image. -/
def sliceBase : Nat := 63 * 32768 + 28672

/-- R187, R284: an SRAM word of the slice image, which the manifest unit alone writes. -/
def inSlice (k : Nat) : Bool := decide (sliceBase ≤ k)

/-- R273: the bank of an SRAM word. -/
def bankOf (k : Nat) : Nat := k / 32768

/-- R282: stores a word with fresh check bits. -/
def sramPut (s : State) (k : Nat) (w : BitVec 18) (tag : Bool) : State := s.setSram k ⟨w, tag, .good⟩

/-- R283 and the causes of chapter 12: source 576 + j fires where MEM_IEN bit 17 - j is 1. -/
def memCause (s : State) (j : Nat) : State := s.fireIf (s.is ⟨.MEM_IEN, 17 - j, 1⟩ 0) (576 + j)

/-- R282: an uncorrectable error met by a requester (0 core, 1 snapshot, 2 link, 3 scrubber, 4 vector load, 5 manifest). -/
def memUe (s : State) (req core k : Nat) : State :=
  let s := (s.put F.MEM_ECCADR_req 0 req).put F.MEM_ECCADR_core 0 (if req = 0 ∨ req = 4 then core else 0)
  memCause (s.put F.MEM_ECCADR_addr 0 (0x800000 + 2 * k)) 0

/-- R281: a correctable error is corrected in the access that reads the word, and the corrected word is written back. -/
def memCe (s : State) (k : Nat) : State :=
  let c := s.sramOf k
  memCause ((s.setSram k { c with ecc := .good }).incSat F.MEM_ECCCNT_n 0) 1

/-- R281, R282: a requester reads a word: the word (none where it is uncorrectable), and the state with the error's record. -/
def sramRead (s : State) (req core k : Nat) : Option MCell × State :=
  let c := s.sramOf k
  match c.ecc with
  | .good => (some c, s)
  | .single => (some c, memCe s k)
  | .bad => (none, memUe s req core k)

/-- R282: a requester (as in `memUe`) stores a whole word; where the word was uncorrectable, it is replaced and recorded. -/
def sramOver (s : State) (req core k : Nat) (w : BitVec 18) (tag : Bool) : State :=
  sramPut (if (s.sramOf k).ecc = .bad then memUe s req core k else s) k w tag

/-- R280: a record of the run log. -/
def logValue (s : State) (crane b : Nat) (skip : Bool) (at_ : Nat) : BitVec 36 :=
  let (sec, sub) := tbSplit (s.tbAt at_)
  BitVec.ofNat 36 (b * 2 ^ 26 + crane * 2 ^ 23 + b2n skip * 2 ^ 22 + (sec * 1000000000 + sub / 64) % 2 ^ 22)

/-- R280: the run log of bank `k` in the present cycle, before a further record. DESIGN CHOICE (log 44): the queue gives one record to the bank
in each cycle. -/
def logCycle (s : State) (k : Nat) : LogCycle :=
  let l := s.logAtOf k
  let c := s.now / 64
  let next := s.get F.BANK_LOG_next k
  if l.cyc = c ∧ next = (l.first + l.recs.length) % 16384 then l
  else { cyc := c, first := next, recs := [], back := l.back + l.recs.length - (c - l.cyc) }

/-- R280, R282: one record of the run log of bank `k`. The records of a cycle stand in crane order; one that finds 8 in the queue is dropped. DESIGN
CHOICE (log 141): a poisoned word that it replaces shows in MEM_ECCADR as core 0's. -/
def runRecord (s : State) (k crane b : Nat) (skip : Bool) (at_ : Nat) : State :=
  let l := logCycle s k
  let all := (l.recs.takeWhile (fun p => decide (p.1 ≤ crane)) ++ (crane, logValue s crane b skip at_) ::
    l.recs.dropWhile (fun p => decide (p.1 ≤ crane)))
  let recs := all.take (8 - l.back)
  let s := if recs.length < all.length then memCause (s.flag F.BANK_LOG_lost k) 9 else s
  let s := s.setLogAt k { l with recs := recs }
  let s := recs.zipIdx.foldl (fun s (p : (Nat × BitVec 36) × Nat) =>
    let w := 32768 * k + 2 * ((l.first + p.2) % 16384)
    sramOver (sramOver s 0 0 w (p.1.2.extractLsb' 18 18) false) 0 0 (w + 1) (p.1.2.extractLsb' 0 18) false) s
  let s := s.put F.BANK_LOG_next k ((l.first + recs.length) % 16384)
  if 16384 ≤ l.first + recs.length ∧ l.recs.length < recs.length then s.flag F.BANK_LOG_wrap k else s

/-- R280: a run end or a skip is recorded in every bank owned by a crane group that holds the crane. -/
def runLog (s : State) (crane b : Nat) (skip : Bool) (at_ : Nat) : State :=
  (List.range 64).foldl (fun s k =>
    if s.get F.BANK_OWN_kind k == 1 && (s.get F.BANK_OWN_id k).testBit crane then runRecord s k crane b skip at_ else s) s

end Sys2Proof.Machine
end

