-- ==== Sys2Proof/Machine/P18.lean ====
section
/-! DEFINITION. How a core executes an instruction: fetch checks, capability checks, the pending product, the loop rule and traps
(09_p18_instruction_set.md, 10_pipeline_and_microcode.md; R193 to R204, R210, R211, R216, R218). -/

namespace Sys2Proof.Machine

/-- What an instruction does with the registers of its core: it completes; it completes as a multiply, with the update it leaves; it
transfers control; it raises a trap with a cause and a fault address; it is TRAP with a code; or it waits, its registers as the state with it
has them. -/
inductive CoreRes where
  | done (h : CoreS)
  | mul (h : CoreS) (p : Product)
  | goto (h : CoreS) (a : Addr)
  | trap (cause : Nat) (fault : Int)
  | soft (code : Nat)
  | wait
  deriving DecidableEq, Repr

/-- R203: the illegal-instruction trap. -/
def illegal : CoreRes := .trap 0 0

/-- R203: a condition of the encoding; where it fails the instruction is illegal. -/
def legalIf (b : Bool) (r : CoreRes) : CoreRes := if b then r else illegal

/-! ### The pending product (R210, R211) -/

/-- R210: the update that the previous multiply left takes effect. -/
def CoreS.settle (h : CoreS) (m : Option Product) : CoreS :=
  match m with
  | none => h
  | some m =>
    let h := match m.p with
      | some p => { h with ph := p.extractLsb' 18 18, pl := p.extractLsb' 0 18 }
      | none => h
    match m.pa with
    | some a => { h with pa := a }
    | none => h

/-- R210: the accumulator as every earlier instruction left it. -/
def CoreS.paNow (h : CoreS) : BitVec 54 := (h.mul.bind (·.pa)).getD h.pa

/-! ### The loop rule (R218) -/

/-- R218: the loop rule at address `a`, for at most `n` levels. -/
def CoreS.loopRule (a : Addr) : Nat → CoreS → CoreS
  | 0, h => { h with pc := a + 4 }
  | n + 1, h =>
    if 0 < h.ln ∧ a = h.leOf (h.ln - 1) then
      if 1 < (h.lcOf (h.ln - 1)).toNat then
        { h.setLc (h.ln - 1) (h.lcOf (h.ln - 1) - 1) with pc := h.lsOf (h.ln - 1) }
      else CoreS.loopRule a n { h.setLc (h.ln - 1) 0 with ln := h.ln - 1 }
    else { h with pc := a + 4 }

/-- R218: the core goes on to the resolved next instruction. -/
def CoreS.advance (h : CoreS) : CoreS := h.loopRule h.pc h.ln

/-! ### Fetch (R249) -/

/-- R202, R249: the core's address is a multiple of 4, and the fetch at it meets its four conditions. -/
def CoreS.fetchOk (h : CoreS) : Bool :=
  let a := h.pc.toNat
  let r := regionOf a
  a % 4 == 0 && h.pcc.tag && h.pcc.otype == 0 && h.pcc.has permEX && decide (h.pcc.base.toNat ≤ a) &&
    decide (a + 4 ≤ h.pcc.base.toNat + h.pcc.len.toNat) && (r == .flash || r == .sram || r == .rom) && regionOf (a + 3) == r

/-- R336: the mode in force is SLACK. -/
def slack (s : State) : Bool := s.get F.MODE_STAT_cur 0 == 2

/-- R336: a change in progress involves SLACK. -/
def slackTurn (s : State) : Bool := s.is F.MODE_STAT_busy 0 && (slack s || s.pwr.modeTo == some 2)

/-- R236, R237, R336: a change into or out of SLACK has stopped the issue of core `c`, at an interrupt-acceptable boundary. -/
def slackHolds (s : State) (c : Nat) : Bool := slackTurn s && (s.coreOf c).mul.isNone

/-- R269: the priority of vector `v` of core `c`. -/
def vecPri (s : State) (c v : Nat) : Nat := s.get F.VU_VCTL_pri (c * 128 + v)

/-- R269: vector `v` of core `c` is presentable. -/
def presentable (s : State) (c v : Nat) : Bool :=
  s.vec .VU_PEND c v && !s.vec .VU_MASK c v && s.is F.VU_VCTL_valid (c * 128 + v) &&
    decide (vecPri s c v < s.get F.VU_STAT_cpri c)

/-- R269: the winner: the presentable vector with the lowest priority, then the lowest number. -/
def winner (s : State) (c : Nat) : Option Nat :=
  (List.range 128).foldl (fun b v =>
    if presentable s c v then
      match b with
      | some u => if vecPri s c v < vecPri s c u then some v else some u
      | none => some v
    else b) none

/-- CORE_STAT.state is RUN, no trap waits for its entry, no reset is under way, and no change of mode has stopped the issue. -/
def canTake (s : State) (c : Nat) : Bool :=
  s.get F.CORE_STAT_state c == 1 && (s.coreOf c).trap.isNone && (s.coreOf c).rst.isNone && !slackHolds s c

/-- R236, R237: the core stands at the boundary at which it takes the interrupt presented to it. DESIGN CHOICE (log 117): the instruction
under way at the presentation completes first, or is abandoned as it waits. -/
def takesNow (s : State) (c : Nat) : Bool :=
  let h := s.coreOf c
  h.pres.isSome && h.presRan && h.mul.isNone && (winner s c).isSome

/-- The core issues its next instruction. -/
def canRun (s : State) (c : Nat) : Bool := canTake s c && !takesNow s c

/-! ### The caches (R234, R235, R239) -/

/-- R234: a cache of `n` blocks makes room for one more. DESIGN CHOICE (log 27): which block leaves is a free value; none needs to while the
cache is not full. -/
def cacheRoom {α : Type} (s : State) (m : Store α) (n : Nat) : Store α × State :=
  let (x, s) := s.draw (if m.length < n then m.length + 1 else m.length)
  (m.eraseIdx x, s)

/-- R234: block `k` enters the instruction cache of core `c`, which holds 1,024 blocks. -/
def icFill (s : State) (c k : Nat) : State :=
  let (ic, s) := cacheRoom s (s.coreOf c).ic 1024
  s.setCore c { s.coreOf c with ic := Store.set (fun _ => false) ic k true }

/-- What a fetch meets: the instruction, a wait, or a trap. -/
inductive FetchRes where
  | ok
  | wait
  | trap (cause : Nat)
  deriving DecidableEq, Repr

/-- R281, R282, R301: core `c` reads the words of its block at `a` (`whole`), or of its instruction alone, from memory: the instructions
(address / 4) that an uncorrectable error hits. -/
def fetchErrs (s : State) (c a : Nat) (whole : Bool) : List Nat × State :=
  match regionOf a with
  | .sram =>
    let ws := if whole then (List.range 16).map (fun i => sramIx (a / 32 * 32) + i) else [sramIx a, sramIx a + 1]
    ws.foldl (fun (p : List Nat × State) w =>
      match sramRead p.2 0 c w with
      | (some _, s) => (p.1, s)
      | (none, s) => (p.1 ++ [(0o040000000 + 2 * w) / 4], s)) ([], s)
  | .flash =>
    let ls := if whole then (List.range 4).map (fun i => a / 32 * 4 + i) else [a / 8]
    ls.foldl (fun (p : List Nat × State) l =>
      match flashLine p.2 l with
      | (some _, s) => (p.1, s)
      | (none, s) => (p.1 ++ [2 * l, 2 * l + 1], s)) ([], s)
  | _ => ([], s)

/-- R234, R254, R275, R279, R307: core `c` fetches the instruction at `a` from memory, outside SLACK with its block, which enters the cache.
DESIGN CHOICE (log 27): a block in which another instruction has an uncorrectable error does not. -/
def fetchMem (s : State) (c a : Nat) : FetchRes × State :=
  let read (_ : Unit) : FetchRes × State :=
    let (bad, s) := fetchErrs s c a (!slack s)
    if bad.contains (a / 4) then (.trap 10, s)
    else (.ok, if !slack s && bad.isEmpty then icFill s c (a / 32) else s)
  match regionOf a with
  | .sram =>
    if awaitsBank s c (bankAt a) then (.wait, s) else if !ownsBank s c (bankAt a) then (.trap 11, s) else read ()
  | .flash => if (s.flOf (a / 0o010000000)).run.isSome then (.wait, s) else read ()
  | _ => read ()

/-- R234: the instruction cache of core `c` is on and holds the block of `a`. -/
def icHit (s : State) (c a : Nat) : Bool := !slack s && Store.get (fun _ => false) (s.coreOf c).ic (a / 32)

/-- R234, R239: core `c` fetches the instruction at `a`. -/
def fetch (s : State) (c a : Nat) : FetchRes × State := if icHit s c a then (.ok, s) else fetchMem s c a

/-! ### The end of an instruction -/

/-- R257: the core holds the trap; the instruction has no effect. -/
def CoreS.raise (h : CoreS) (cause code : Nat) (ret : Addr) (fault : Int) : CoreS :=
  { h with trap := some ⟨cause, code, ret, fault⟩ }

/-- R210, R218, R254: the end of an instruction of a core whose registers were `h0`. -/
def CoreRes.end (h0 : CoreS) : CoreRes → CoreS
  | .done h => ({ h.settle h0.mul with mul := none }).advance
  | .mul h p => ({ h.settle h0.mul with mul := some p }).advance
  | .goto h a => { h.settle h0.mul with mul := none, pc := a }
  | .trap cause fault => h0.raise cause 0 h0.pc fault
  | .soft code => h0.raise (32 + code / 32) code (h0.pc + 4) 0
  | .wait => h0

/-- R236: an instruction of core `c` has completed, or raised a trap, while an interrupt is presented. -/
def CoreS.ranOn (h : CoreS) : CoreS := { h with presRan := h.pres.isSome, stalled := false }

/-- R221, R237: the instruction of a core waits. An interrupt presented by then, or from now on while it waits, abandons it: the core stands
at a boundary. -/
def CoreS.stallOn (h : CoreS) : CoreS := { h with presRan := h.pres.isSome, stalled := true }

/-- A core executes one instruction, whose effect on its registers and on the rest of the device is `f`. A fetch against R249
raises the transfer trap, and one that meets an error or a foreign bank the trap of R254. -/
def coreRun (s : State) (c : Nat) (f : State → CoreS → CoreRes × State) : State :=
  if canRun s c then
    let h := s.coreOf c
    if h.fetchOk then
      match fetch s c h.pc.toNat with
      | (.ok, s) =>
        let h := s.coreOf c
        match f s h with
        | (.wait, s) => s.setCore c (s.coreOf c).stallOn
        | (r, s) => s.setCore c (r.end h).ranOn
      | (.wait, s) => s.setCore c (s.coreOf c).stallOn
      | (.trap cause, s) => s.setCore c ((s.coreOf c).raise cause 0 h.pc h.pc.toNat).ranOn
    else s.setCore c (h.raise 6 0 h.pc h.pc.toNat).ranOn
  else s

/-- A core executes an instruction that acts on its own registers alone. -/
def coreIns (t : Nat) (c : Nat) (f : CoreS → CoreRes) (s : State) : Host.Outcome State Fault Refusal :=
  ok (coreRun (s.tick t) c (fun s h => (f h, s)))

/-! ### Capability checks (R197, R198) -/

/-- R197: the effective address, exact, of a load or store in M format (`mx` false) or MX format. -/
def CoreS.ea (h : CoreS) (mx : Bool) (x : Fields) : Int :=
  let i : Int := if mx then ((h.rdP (2 * x.dn)).toNat % 2 ^ 27 : Nat) else ((h.rd x.f23).toNat : Nat)
  (h.cap x.kc).base.toNat + i + x.disp

/-- R198: the checks 1 to 4 of an access through `k` at `ea`: the cause of the first that fails. -/
def capCheck (k : Cap) (perms : List Nat) (ea : Int) (size : Nat) : Option Nat :=
  if !k.tag then some 1
  else if k.otype ≠ 0 then some 2
  else if !perms.all k.has then some 3
  else if ea - k.base.toNat < 0 || (k.len.toNat : Int) < ea - k.base.toNat + size then some 4
  else none

/-- R203: in MX format bit 20 is reserved. -/
def mxLegal (mx : Bool) (x : Fields) : Bool := !mx || x.b20 == 0

/-! ### Branch targets (R216) -/

/-- R216: a transfer to `a` (exact) is allowed. -/
def CoreS.targetOk (h : CoreS) (a : Int) : Bool :=
  a % 4 == 0 && decide ((h.pcc.base.toNat : Int) ≤ a) && decide (a < (h.pcc.base.toNat + h.pcc.len.toNat : Nat)) &&
    h.pcc.has permEX

/-- R215, R216: a transfer of the core with the state `h` of its registers after it. -/
def CoreS.transfer (h0 h : CoreS) (a : Int) : CoreRes :=
  if h0.targetOk a then .goto h (BitVec.ofInt 27 a) else .trap 6 a

end Sys2Proof.Machine
end

