-- ==== Sys2Proof/Machine/Alu.lean ====
section
/-! DEFINITION. Word, pair and immediate arithmetic of the P18 (R204 to R208). -/

namespace Sys2Proof.Machine

/-! ### Word instructions and the tandem move (R204, R205) -/

/-- R204: the state word that a tandem move names, and its nonet address. -/
def CoreS.tandemWord (h : CoreS) (x : Fields) : Nat := (h.tb.toNat + x.slot) % 16384

/-- R204: the result of a word ALU instruction with its tandem move: `res` and `cx` are the instruction's own. In SPRING a full
tandem queue holds the instruction (R232). -/
def CoreS.alu (h : CoreS) (x : Fields) (res : Word) (cx : Bool) : CoreRes :=
  let h' := { h.wr x.f27 res with cx := cx }
  if x.te then
    let a : Nat := 0o063000000 + 2 * h.tandemWord x
    match capCheck (h.cap x.tkc) [permST] a 2 with
    | some cause => .trap cause a
    | none => if h.tq.length < 4 then .done { h' with tq := h.tq ++ [(h.tandemWord x, h.rd x.rs)] } else .wait
  else .done h'

/-- R205: an instruction of two word operands that leaves CX. -/
def alu2 (x : Fields) (f : Word → Word → Word) (h : CoreS) : CoreRes := h.alu x (f (h.rd x.f23) (h.rd x.f19)) h.cx

/-- R205, R206: an instruction of two word operands that reads and writes CX. -/
def aluC (x : Fields) (f : Word → Word → Bool → Word × Bool) (h : CoreS) : CoreRes :=
  h.alu x (f (h.rd x.f23) (h.rd x.f19) h.cx).1 (f (h.rd x.f23) (h.rd x.f19) h.cx).2

/-- R205: ADD. -/
def execAdd (t : Nat) (c : Fin 16) (x : Fields) (s : State) : Host.Outcome State Fault Refusal :=
  coreIns t c (alu2 x (fun a b => a + b)) s
/-- R205: SUB. -/
def execSub (t : Nat) (c : Fin 16) (x : Fields) (s : State) : Host.Outcome State Fault Refusal :=
  coreIns t c (alu2 x (fun a b => a - b)) s
/-- R205: ADD.W. -/
def execAddW (t : Nat) (c : Fin 16) (x : Fields) (s : State) : Host.Outcome State Fault Refusal :=
  coreIns t c (aluC x (fun a b _ => addC a b false)) s
/-- R205: SUB.W. -/
def execSubW (t : Nat) (c : Fin 16) (x : Fields) (s : State) : Host.Outcome State Fault Refusal :=
  coreIns t c (aluC x (fun a b _ => subC a b false)) s
/-- R205: ADDC. -/
def execAddc (t : Nat) (c : Fin 16) (x : Fields) (s : State) : Host.Outcome State Fault Refusal :=
  coreIns t c (aluC x addC) s
/-- R205: SUBC. -/
def execSubc (t : Nat) (c : Fin 16) (x : Fields) (s : State) : Host.Outcome State Fault Refusal :=
  coreIns t c (aluC x subC) s
/-- R205: ADDS. -/
def execAdds (t : Nat) (c : Fin 16) (x : Fields) (s : State) : Host.Outcome State Fault Refusal :=
  coreIns t c (alu2 x addSat) s
/-- R205: SUBS. -/
def execSubs (t : Nat) (c : Fin 16) (x : Fields) (s : State) : Host.Outcome State Fault Refusal :=
  coreIns t c (alu2 x subSat) s
/-- R205: AND. -/
def execAnd (t : Nat) (c : Fin 16) (x : Fields) (s : State) : Host.Outcome State Fault Refusal :=
  coreIns t c (alu2 x (fun a b => a &&& b)) s
/-- R205: OR. -/
def execOr (t : Nat) (c : Fin 16) (x : Fields) (s : State) : Host.Outcome State Fault Refusal :=
  coreIns t c (alu2 x (fun a b => a ||| b)) s
/-- R205: XOR. -/
def execXor (t : Nat) (c : Fin 16) (x : Fields) (s : State) : Host.Outcome State Fault Refusal :=
  coreIns t c (alu2 x (fun a b => a ^^^ b)) s
/-- R205: ANDN. -/
def execAndn (t : Nat) (c : Fin 16) (x : Fields) (s : State) : Host.Outcome State Fault Refusal :=
  coreIns t c (alu2 x (fun a b => a &&& ~~~b)) s
/-- R205: SLL. -/
def execSll (t : Nat) (c : Fin 16) (x : Fields) (s : State) : Host.Outcome State Fault Refusal :=
  coreIns t c (alu2 x (fun a b => a <<< sh5 b)) s
/-- R205: SRL. -/
def execSrl (t : Nat) (c : Fin 16) (x : Fields) (s : State) : Host.Outcome State Fault Refusal :=
  coreIns t c (alu2 x (fun a b => a >>> sh5 b)) s
/-- R205: SRA. -/
def execSra (t : Nat) (c : Fin 16) (x : Fields) (s : State) : Host.Outcome State Fault Refusal :=
  coreIns t c (alu2 x (fun a b => a.sshiftRight (sh5 b))) s
/-- R205: SLT. -/
def execSlt (t : Nat) (c : Fin 16) (x : Fields) (s : State) : Host.Outcome State Fault Refusal :=
  coreIns t c (alu2 x (fun a b => wordB (a.slt b))) s
/-- R205: SLTU. -/
def execSltu (t : Nat) (c : Fin 16) (x : Fields) (s : State) : Host.Outcome State Fault Refusal :=
  coreIns t c (alu2 x (fun a b => wordB (a.ult b))) s
/-- R205: MIN. -/
def execMin (t : Nat) (c : Fin 16) (x : Fields) (s : State) : Host.Outcome State Fault Refusal :=
  coreIns t c (alu2 x (fun a b => if a.slt b then a else b)) s
/-- R205: MAX. -/
def execMax (t : Nat) (c : Fin 16) (x : Fields) (s : State) : Host.Outcome State Fault Refusal :=
  coreIns t c (alu2 x (fun a b => if a.slt b then b else a)) s
/-- R205: MINU. -/
def execMinu (t : Nat) (c : Fin 16) (x : Fields) (s : State) : Host.Outcome State Fault Refusal :=
  coreIns t c (alu2 x (fun a b => if a.ult b then a else b)) s
/-- R205: MAXU. -/
def execMaxu (t : Nat) (c : Fin 16) (x : Fields) (s : State) : Host.Outcome State Fault Refusal :=
  coreIns t c (alu2 x (fun a b => if a.ult b then b else a)) s
/-- R205: CLS; rb must be 0. -/
def execCls (t : Nat) (c : Fin 16) (x : Fields) (s : State) : Host.Outcome State Fault Refusal :=
  coreIns t c (fun h => legalIf (x.f19 == 0) (alu2 x (fun a _ => clsW a) h)) s

/-! ### Pair instructions (R207) -/

/-- R194, R204: a pair instruction names even registers and holds zero in the tandem field. -/
def pairLegal (x : Fields) : Bool := x.f27 % 2 == 0 && x.f23 % 2 == 0 && x.f19 % 2 == 0 && x.tan == 0

/-- R207: an instruction of two pairs. -/
def pair2 (x : Fields) (f : DWord → DWord → DWord) (h : CoreS) : CoreRes :=
  legalIf (pairLegal x) (.done (h.wrP x.f27 (f (h.rdP x.f23) (h.rdP x.f19))))

/-- R207: a shift of a pair by bits 5..0 of rb. -/
def pairSh (x : Fields) (f : DWord → Nat → DWord) (h : CoreS) : CoreRes :=
  legalIf (pairLegal x) (.done (h.wrP x.f27 (f (h.rdP x.f23) (sh6 (h.rd x.f19)))))

/-- A flag as a double word. -/
def dwordB (b : Bool) : DWord := BitVec.ofNat 36 (b2n b)

/-- R207: ADD.D. -/
def execAddD (t : Nat) (c : Fin 16) (x : Fields) (s : State) : Host.Outcome State Fault Refusal :=
  coreIns t c (pair2 x (fun a b => a + b)) s
/-- R207: SUB.D. -/
def execSubD (t : Nat) (c : Fin 16) (x : Fields) (s : State) : Host.Outcome State Fault Refusal :=
  coreIns t c (pair2 x (fun a b => a - b)) s
/-- R207: AND.D. -/
def execAndD (t : Nat) (c : Fin 16) (x : Fields) (s : State) : Host.Outcome State Fault Refusal :=
  coreIns t c (pair2 x (fun a b => a &&& b)) s
/-- R207: OR.D. -/
def execOrD (t : Nat) (c : Fin 16) (x : Fields) (s : State) : Host.Outcome State Fault Refusal :=
  coreIns t c (pair2 x (fun a b => a ||| b)) s
/-- R207: XOR.D. -/
def execXorD (t : Nat) (c : Fin 16) (x : Fields) (s : State) : Host.Outcome State Fault Refusal :=
  coreIns t c (pair2 x (fun a b => a ^^^ b)) s
/-- R207: SLL.D. -/
def execSllD (t : Nat) (c : Fin 16) (x : Fields) (s : State) : Host.Outcome State Fault Refusal :=
  coreIns t c (pairSh x (fun a n => a <<< n)) s
/-- R207: SRL.D. -/
def execSrlD (t : Nat) (c : Fin 16) (x : Fields) (s : State) : Host.Outcome State Fault Refusal :=
  coreIns t c (pairSh x (fun a n => a >>> n)) s
/-- R207: SRA.D. -/
def execSraD (t : Nat) (c : Fin 16) (x : Fields) (s : State) : Host.Outcome State Fault Refusal :=
  coreIns t c (pairSh x (fun a n => a.sshiftRight n)) s
/-- R207: SLT.D: the flag in the low word of the pair, zero in the high word. -/
def execSltD (t : Nat) (c : Fin 16) (x : Fields) (s : State) : Host.Outcome State Fault Refusal :=
  coreIns t c (pair2 x (fun a b => dwordB (a.slt b))) s
/-- R207: SLTU.D. -/
def execSltuD (t : Nat) (c : Fin 16) (x : Fields) (s : State) : Host.Outcome State Fault Refusal :=
  coreIns t c (pair2 x (fun a b => dwordB (a.ult b))) s
/-- R207: MOV.D; rb must be 0. -/
def execMovD (t : Nat) (c : Fin 16) (x : Fields) (s : State) : Host.Outcome State Fault Refusal :=
  coreIns t c (fun h => legalIf (x.f19 == 0) (pair2 x (fun a _ => a) h)) s

/-! ### Immediate instructions (R208) -/

/-- R208: an instruction of a word and the immediate. -/
def immOp (x : Fields) (f : Word → Word → Word) (h : CoreS) : CoreRes :=
  legalIf (x.res19 == 0) (.done (h.wr x.f27 (f (h.rd x.f23) x.imm)))

/-- R208: a shift by the immediate, whose bits 17..5 must be 0. -/
def immSh (x : Fields) (f : Word → Nat → Word) (h : CoreS) : CoreRes :=
  legalIf (decide (x.imm.toNat < 32)) (immOp x (fun a i => f a i.toNat) h)

/-- R208: ADDI. -/
def execAddi (t : Nat) (c : Fin 16) (x : Fields) (s : State) : Host.Outcome State Fault Refusal :=
  coreIns t c (immOp x (fun a i => a + i)) s
/-- R208: ANDI. -/
def execAndi (t : Nat) (c : Fin 16) (x : Fields) (s : State) : Host.Outcome State Fault Refusal :=
  coreIns t c (immOp x (fun a i => a &&& i)) s
/-- R208: ORI. -/
def execOri (t : Nat) (c : Fin 16) (x : Fields) (s : State) : Host.Outcome State Fault Refusal :=
  coreIns t c (immOp x (fun a i => a ||| i)) s
/-- R208: XORI. -/
def execXori (t : Nat) (c : Fin 16) (x : Fields) (s : State) : Host.Outcome State Fault Refusal :=
  coreIns t c (immOp x (fun a i => a ^^^ i)) s
/-- R208: SLLI. -/
def execSlli (t : Nat) (c : Fin 16) (x : Fields) (s : State) : Host.Outcome State Fault Refusal :=
  coreIns t c (immSh x (fun a n => a <<< n)) s
/-- R208: SRLI. -/
def execSrli (t : Nat) (c : Fin 16) (x : Fields) (s : State) : Host.Outcome State Fault Refusal :=
  coreIns t c (immSh x (fun a n => a >>> n)) s
/-- R208: SRAI. -/
def execSrai (t : Nat) (c : Fin 16) (x : Fields) (s : State) : Host.Outcome State Fault Refusal :=
  coreIns t c (immSh x (fun a n => a.sshiftRight n)) s
/-- R208: SLTI. -/
def execSlti (t : Nat) (c : Fin 16) (x : Fields) (s : State) : Host.Outcome State Fault Refusal :=
  coreIns t c (immOp x (fun a i => wordB (a.slt i))) s
/-- R208: SLTUI. -/
def execSltui (t : Nat) (c : Fin 16) (x : Fields) (s : State) : Host.Outcome State Fault Refusal :=
  coreIns t c (immOp x (fun a i => wordB (a.ult i))) s
/-- R208: ADDI.D; rd and ra even. -/
def execAddiD (t : Nat) (c : Fin 16) (x : Fields) (s : State) : Host.Outcome State Fault Refusal :=
  coreIns t c (fun h => legalIf (x.res19 == 0 && x.f27 % 2 == 0 && x.f23 % 2 == 0)
    (.done (h.wrP x.f27 (h.rdP x.f23 + x.imm.signExtend 36)))) s

end Sys2Proof.Machine
end

