-- ==== Sys2Proof/Machine/Locks.lean ====
section
/-! DEFINITION. Harbour locks (12_memory_locks_tides.md, R285 to R290). -/

namespace Sys2Proof.Machine

/-- R285: the requester is the holder of lock `n`. -/
def lockHeldBy (s : State) (q : Req) (n : Nat) : Bool :=
  match q with
  | .core c => !s.is F.LOCK_OWN_rem n && s.get F.LOCK_OWN_core n == c.val
  | .link node c => s.is F.LOCK_OWN_rem n && s.get F.LOCK_OWN_node n == node.toNat && s.get F.LOCK_OWN_core n == c.val
  | .debug => false

/-- R285, R289: a grant to a reader, which starts the lease. -/
def lockGrant (s : State) (q : Req) (n state : Nat) : State :=
  let (rem, node, core) : Nat × Nat × Nat := match q with
    | .core c => (0, 0, c.val)
    | .link node c => (1, node.toNat, c.val)
    | .debug => (0, 0, 0)
  let s := (((s.put F.LOCK_OWN_state n state).put F.LOCK_OWN_rem n rem).put F.LOCK_OWN_node n node).put F.LOCK_OWN_core n core
  let us := s.get F.LOCK_LEASE_us n
  s.setLock n { us := us, due := if us = 0 then none else some (s.now + us * 64000) }

/-- R285: the acquire operation: the value read, and the state after it. The debug port reads 0 and changes nothing. DESIGN CHOICE (log 115):
of the operations on a lock in one timer cycle, the sender gives the reads in R288's order. -/
def lockAcquire (s : State) (q : Req) (n : Nat) : Nat × State :=
  if q = .debug then (0, s)
  else
    match s.get F.LOCK_OWN_state n with
    | 0 => (1, lockGrant s q n 1)
    | 2 => (2, lockGrant s q n 3)
    | _ => (0, s)

/-- R287, R288: lock `n` becomes BROKEN for cause `why`; the holder's identity stays. -/
def lockBroken (s : State) (n why : Nat) : State :=
  let l := s.lockOf n
  let b : LockBreak := ⟨s.now / 64, why, s.get F.LOCK_OWN_state n, l.due, !s.is F.LOCK_STAT_brk n⟩
  let s := ((s.put F.LOCK_OWN_state n 2).put F.LOCK_OWN_why n why).flag F.LOCK_STAT_brk n
  s.setLock n { l with due := none, broke := some b }

/-- R287: lock `n` breaks for cause `why`, with its interrupt cause. -/
def lockBreak (s : State) (n why : Nat) : State := memCause (lockBroken s n why) 3

/-- R286: REPAIRED, renew and release act in this order. -/
def lockDo (s : State) (n v : Nat) : State :=
  let s := if F.LOCK_CMD_rep.of v = 1 ∧ s.get F.LOCK_OWN_state n = 3 then s.put F.LOCK_OWN_state n 1 else s
  let s :=
    if F.LOCK_CMD_renew.of v = 1 then
      let l := s.lockOf n
      s.setLock n { l with due := if l.us = 0 then none else some (s.now + l.us * 64000) }
    else s
  if F.LOCK_CMD_rel.of v = 1 then
    (s.put F.LOCK_OWN_state n (if s.get F.LOCK_OWN_state n = 1 then 0 else 2)).setLock n {}
  else s

/-- R288: the breaking of lock `n` in the present timer cycle, where nothing has been granted since. -/
def lockJustBroke (s : State) (n : Nat) : Option LockBreak :=
  if s.get F.LOCK_OWN_state n = 2 then (s.lockOf n).broke.filter (fun b => b.cyc == s.now / 64) else none

/-- R286, R288: a write of LOCK_CMD, which acts for the holder alone. A command of the holder acts before a breaking event of the same timer
cycle: the breaking is taken back and, unless the lock was released, follows the command. DESIGN CHOICE (log 115): the interrupt cause of
the breaking has fired by then, and the acquire reads of the cycle have been answered in their place in the queue. -/
def lockCmd (s : State) (q : Req) (n v : Nat) : State :=
  let st := s.get F.LOCK_OWN_state n
  if !lockHeldBy s q n then s.flag F.LOCK_STAT_cmderr n
  else if st = 1 ∨ st = 3 then lockDo s n v
  else
    match lockJustBroke s n with
    | some b =>
      let s := ((s.put F.LOCK_OWN_state n b.was).setLock n { s.lockOf n with due := b.due, broke := none })
      let s := lockDo (if b.flag then s.put F.LOCK_STAT_brk n 0 else s) n v
      if s.get F.LOCK_OWN_state n = 1 ∨ s.get F.LOCK_OWN_state n = 3 then lockBroken s n b.why else s
    | none => s.flag F.LOCK_STAT_cmderr n

/-- R287: the locks whose holder satisfies `p` break. -/
def lockBreakAll (s : State) (why : Nat) (p : State → Nat → Bool) : State :=
  (List.range 256).foldl (fun s n =>
    let st := s.get F.LOCK_OWN_state n
    if (st == 1 || st == 3) && p s n then lockBreak s n why else s) s

/-- R287: the locks of core `c` break. -/
def lockBreakCore (s : State) (c why : Nat) : State :=
  lockBreakAll s why (fun s n => !s.is F.LOCK_OWN_rem n && s.get F.LOCK_OWN_core n == c)

/-- R287: the locks held on behalf of a node break. -/
def lockBreakNode (s : State) (node : Nat) : State :=
  lockBreakAll s 3 (fun s n => s.is F.LOCK_OWN_rem n && s.get F.LOCK_OWN_node n == node)

/-! ### The commands -/

/-- R285: a read of LOCK_ACQ. -/
def execLockAcquire (t : Nat) (q : Req) (n : Fin 256) (s : State) : Host.Outcome State Fault Refusal :=
  let (v, s) := lockAcquire (s.tick t) q n
  ok (s.emit (.data v))

/-- R286: a write of LOCK_CMD with rel = 1. -/
def execLockRelease (t : Nat) (q : Req) (n : Fin 256) (v : Word) (s : State) : Host.Outcome State Fault Refusal :=
  event t s (fun _ => F.LOCK_CMD_rel.of v.toNat == 1) (fun s => lockCmd s q n v.toNat)

/-- R286: a write of LOCK_CMD with rep = 1. -/
def execLockRepaired (t : Nat) (q : Req) (n : Fin 256) (v : Word) (s : State) : Host.Outcome State Fault Refusal :=
  event t s (fun _ => F.LOCK_CMD_rep.of v.toNat == 1) (fun s => lockCmd s q n v.toNat)

/-- R286: a write of LOCK_CMD with renew = 1. -/
def execLockRenew (t : Nat) (q : Req) (n : Fin 256) (v : Word) (s : State) : Host.Outcome State Fault Refusal :=
  event t s (fun _ => F.LOCK_CMD_renew.of v.toNat == 1) (fun s => lockCmd s q n v.toNat)

/-- R287, R289: the lease of a held lock expires; in Stop and below it does not count. -/
def execLeaseExpiry (t : Nat) (n : Fin 256) (s : State) : Host.Outcome State Fault Refusal :=
  event t s
    (fun s => (s.get F.LOCK_OWN_state n == 1 || s.get F.LOCK_OWN_state n == 3) && decide (s.rung < 3) &&
      (match (s.lockOf n).due with | some d => decide (d ≤ s.now) | none => false))
    (fun s => memCause (lockBreak s n 4) 4)

end Sys2Proof.Machine
end

