-- ==== Sys2Proof/Machine/Special.lean ====
section
/-! DEFINITION. Special moves, and the capability instructions that act on the registers of a core alone (R195, R221, R222, R250). -/

namespace Sys2Proof.Machine

/-! ### Special registers (R195) -/

/-- R195: a special register that MFS reads. -/
def CoreS.special (h : CoreS) (c n : Nat) : Option Word :=
  if n = 0 then some h.ph
  else if n = 1 then some h.pl
  else if n < 5 then some (h.pa.extractLsb' (18 * (n - 2)) 18)
  else if n = 5 then some (wordB h.cx)
  else if n = 6 then some (BitVec.ofNat 18 h.ln)
  else if n = 7 then some (h.tb.setWidth 18)
  else if n < 12 then some (h.lcOf (n - 8))
  else if n = 0o24 then some (BitVec.ofNat 18 c)
  else if n = 0o25 then some (h.sr.setWidth 18)
  else none

/-- R195: an MTS to a writable special register. -/
def CoreS.setSpecial (h : CoreS) (n : Nat) (v : Word) : Option CoreS :=
  if n = 0 then some { h with ph := v }
  else if n = 1 then some { h with pl := v }
  else if n = 2 then some { h with pa := h.pa.extractLsb' 18 36 ++ v }
  else if n = 3 then some { h with pa := (h.pa.extractLsb' 36 18 ++ v) ++ h.pa.extractLsb' 0 18 }
  else if n = 4 then some { h with pa := v ++ h.pa.extractLsb' 0 36 }
  else if n = 6 then if v.toNat ≤ 4 then some { h with ln := v.toNat } else none
  else if n = 7 then some { h with tb := v.setWidth 14 }
  else if 8 ≤ n ∧ n < 12 then some (h.setLc (n - 8) v)
  else none

/-- R221: NOP; all fields 0. -/
def execNop (t : Nat) (c : Fin 16) (x : Fields) (s : State) : Host.Outcome State Fault Refusal :=
  coreIns t c (fun h => legalIf (x == 0) (.done h)) s

/-- R195, R210: MFS reads PH, PL and PA from before a multiply just executed. -/
def execMfs (t : Nat) (c : Fin 16) (x : Fields) (s : State) : Host.Outcome State Fault Refusal :=
  coreIns t c (fun h => legalIf (x.resS == 0)
    (match h.special c x.spec with | some v => .done (h.wr x.f27 v) | none => illegal)) s

/-- R195: MTS. -/
def execMts (t : Nat) (c : Fin 16) (x : Fields) (s : State) : Host.Outcome State Fault Refusal :=
  coreIns t c (fun h => legalIf (x.resS == 0)
    (match h.setSpecial x.spec (h.rd x.f27) with | some h => .done h | none => illegal)) s

/-- R195: MFS.D. -/
def execMfsD (t : Nat) (c : Fin 16) (x : Fields) (s : State) : Host.Outcome State Fault Refusal :=
  coreIns t c (fun h => legalIf (x.resS == 0 && x.f27 % 2 == 0)
    (if 0o14 ≤ x.spec ∧ x.spec ≤ 0o17 then .done (h.wrP x.f27 ((h.lsOf (x.spec - 0o14)).setWidth 36))
     else if 0o20 ≤ x.spec ∧ x.spec ≤ 0o23 then .done (h.wrP x.f27 ((h.leOf (x.spec - 0o20)).setWidth 36))
     else illegal)) s

/-- R195: MTS.D. -/
def execMtsD (t : Nat) (c : Fin 16) (x : Fields) (s : State) : Host.Outcome State Fault Refusal :=
  coreIns t c (fun h => legalIf (x.resS == 0 && x.f27 % 2 == 0)
    (if 0o14 ≤ x.spec ∧ x.spec ≤ 0o17 then .done (h.setLs (x.spec - 0o14) ((h.rdP x.f27).setWidth 27))
     else if 0o20 ≤ x.spec ∧ x.spec ≤ 0o23 then .done (h.setLe (x.spec - 0o20) ((h.rdP x.f27).setWidth 27))
     else illegal)) s

/-- R221, R254, R257: TRAP. -/
def execTrap (t : Nat) (c : Fin 16) (x : Fields) (s : State) : Host.Outcome State Fault Refusal :=
  coreIns t c (fun _ => legalIf (x.resT == 0) (.soft x.code)) s

/-- R221: SYNC.I; all fields 0. -/
def execSyncI (t : Nat) (c : Fin 16) (x : Fields) (s : State) : Host.Outcome State Fault Refusal :=
  coreIns t c (fun h => legalIf (x == 0) (.done { h with ic := [] })) s

/-- R221: FENCE completes when the store buffer and the tandem queue are empty, and otherwise waits; all fields 0. -/
def execFence (t : Nat) (c : Fin 16) (x : Fields) (s : State) : Host.Outcome State Fault Refusal :=
  coreIns t c (fun h => legalIf (x == 0) (if h.sb.isEmpty && h.tq.isEmpty then .done h else .wait)) s

/-! ### Capability instructions (R222, R250) -/

/-- R222: a capability instruction holds zero in kt and the reserved bits. -/
def capLegal (x : Fields) : Bool := x.kt == 0 && x.resK == 0

/-- R222: KMOV. -/
def execKmov (t : Nat) (c : Fin 16) (x : Fields) (s : State) : Host.Outcome State Fault Refusal :=
  coreIns t c (fun h => legalIf (capLegal x) (.done (h.setCap x.dl (h.cap x.ks)))) s

/-- R222: KCLR. -/
def execKclr (t : Nat) (c : Fin 16) (x : Fields) (s : State) : Host.Outcome State Fault Refusal :=
  coreIns t c (fun h => legalIf (capLegal x) (.done (h.setCap x.dl {}))) s

/-- R222: KBASE; r even. -/
def execKbase (t : Nat) (c : Fin 16) (x : Fields) (s : State) : Host.Outcome State Fault Refusal :=
  coreIns t c (fun h => legalIf (capLegal x && x.rK % 2 == 0) (.done (h.wrP x.rK ((h.cap x.ks).base.setWidth 36)))) s

/-- R222: KLEN; r even. -/
def execKlen (t : Nat) (c : Fin 16) (x : Fields) (s : State) : Host.Outcome State Fault Refusal :=
  coreIns t c (fun h => legalIf (capLegal x && x.rK % 2 == 0) (.done (h.wrP x.rK ((h.cap x.ks).len.setWidth 36)))) s

/-- R222: KPERM. -/
def execKperm (t : Nat) (c : Fin 16) (x : Fields) (s : State) : Host.Outcome State Fault Refusal :=
  coreIns t c (fun h => legalIf (capLegal x) (.done (h.wr x.rK ((h.cap x.ks).perm.setWidth 18)))) s

/-- R222: KTYPE: the tag in bit 17, the object type in bits 5..0. -/
def execKtype (t : Nat) (c : Fin 16) (x : Fields) (s : State) : Host.Outcome State Fault Refusal :=
  coreIns t c (fun h => legalIf (capLegal x)
    (.done (h.wr x.rK (BitVec.ofNat 18 (b2n (h.cap x.ks).tag * 2 ^ 17 + (h.cap x.ks).otype.toNat))))) s

/-- R250: the checks that KNAR, KPRM and KSEAL share, before their own. -/
def derive (k : Cap) (r : CoreRes) : CoreRes :=
  if !k.tag then .trap 1 0 else if k.otype ≠ 0 then .trap 2 0 else r

/-- R222, R250: KNAR; r a multiple of 4. -/
def execKnar (t : Nat) (c : Fin 16) (x : Fields) (s : State) : Host.Outcome State Fault Refusal :=
  coreIns t c (fun h =>
    let k := h.cap x.ks
    let b := (h.rdP x.rK).toNat % 2 ^ 27
    let e := (h.rdP (x.rK + 2)).toNat % 2 ^ 27
    legalIf (capLegal x && x.rK % 4 == 0) (derive k
      (if k.base.toNat ≤ b ∧ b ≤ e ∧ e ≤ k.base.toNat + k.len.toNat then
        .done (h.setCap x.dl { k with base := BitVec.ofNat 27 b, len := BitVec.ofNat 27 (e - b) })
       else .trap 8 0))) s

/-- R222, R250: KSR: the types that both SR and the word cover. -/
def narrowSr (sr v : BitVec 12) : BitVec 12 :=
  let lo := max (max (sr.extractLsb' 6 6).toNat (v.extractLsb' 6 6).toNat) 1
  let hi := min (sr.extractLsb' 0 6).toNat (v.extractLsb' 0 6).toNat
  if lo ≤ hi then BitVec.ofNat 12 (lo * 64 + hi) else 0

/-- R222, R250: KSR. -/
def execKsr (t : Nat) (c : Fin 16) (x : Fields) (s : State) : Host.Outcome State Fault Refusal :=
  coreIns t c (fun h => legalIf (capLegal x)
    (.done { h with sr := narrowSr h.sr ((h.rd x.rK).setWidth 12) })) s

/-- R222, R250: KPRM. -/
def execKprm (t : Nat) (c : Fin 16) (x : Fields) (s : State) : Host.Outcome State Fault Refusal :=
  coreIns t c (fun h =>
    let k := h.cap x.ks
    legalIf (capLegal x) (derive k
      (.done (h.setCap x.dl { k with perm := k.perm &&& (h.rd x.rK).setWidth 12 })))) s

/-- R222, R250: KSEAL. -/
def execKseal (t : Nat) (c : Fin 16) (x : Fields) (s : State) : Host.Outcome State Fault Refusal :=
  coreIns t c (fun h =>
    let k := h.cap x.ks
    let ty := ((h.rd x.rK).extractLsb' 0 6 : BitVec 6)
    legalIf (capLegal x) (derive k
      (if !k.has permSE then .trap 3 0
       else if !srCovers h.sr ty.toNat || (ty.toNat == 63 && !(k.has permEX || k.has permGT)) then .trap 9 0
       else .done (h.setCap x.dl { k with otype := ty })))) s

/-- R222, R250: KOPEN. -/
def execKopen (t : Nat) (c : Fin 16) (x : Fields) (s : State) : Host.Outcome State Fault Refusal :=
  coreIns t c (fun h =>
    let k := h.cap x.ks
    let ty := k.otype.toNat
    legalIf (capLegal x)
      (if !k.tag then .trap 1 0
       else if !(decide (1 ≤ ty) && decide (ty ≤ 62)) || !srCovers h.sr ty then .trap 9 0
       else .done (h.setCap x.dl { k with otype := 0 }))) s

/-- R222: KPC. -/
def execKpc (t : Nat) (c : Fin 16) (x : Fields) (s : State) : Host.Outcome State Fault Refusal :=
  coreIns t c (fun h => legalIf (capLegal x) (.done (h.setCap x.dl h.pcc))) s

end Sys2Proof.Machine
end

