-- ==== Sys2Proof/Machine/Taps.lean ====
section
/-! DEFINITION. The taps of the event channels (07_event_fabric.md, R159). -/

namespace Sys2Proof.Machine

/-- R159: the consumers that hold a tap of channel `ch`, in the order of their ranks. -/
def evTaps (s : State) (ch : Nat) : List Tap :=
  let pick (rank n : Nat) (p : Nat → Bool) : List Tap := ((List.range n).filter p).map (Tap.mk rank)
  (s.armed.filter (fun b => s.get F.BERTH_TRG_src b == 0 && s.get F.BERTH_TRG_num b == ch)).map (Tap.mk 1) ++
  pick 2 128 (fun n => s.is F.ICH_CTL_trgsrc n && s.is F.ICH_CTL_arm n && s.get F.ICH_TRGEV_ch n == ch) ++
  pick 3 128 (fun u => s.is F.CU_SYNC_xev u && (s.is F.CU_SYNC_gate u || s.is F.CU_SYNC_rst u) &&
    s.get F.CU_SYNCEV_ch u == ch) ++
  pick 4 256 (fun i => s.is F.CU_CAPSRC_en i && s.get F.CU_CAPSRC_ch i == ch) ++
  pick 5 256 (fun i => s.is F.LC_IN_en i && s.is F.LC_CTL_en (i / 4) && s.get F.LC_IN_ch i == ch)

/-- R159: the taps of channel `ch` in state `s` against those in `s0`: after a change EV_STAT counts them, and the new ranking takes
effect 10 ns later. -/
def retap (s0 s : State) (ch : Nat) : State :=
  let l := evTaps s ch
  if l = evTaps s0 ch then s
  else
    let n := l.length
    let s := (s.put F.EV_STAT_taps ch (min n 127)).put F.EV_STAT_relay ch (b2n (decide (8 < n)))
    let s := if 64 < n then s.flag F.EV_STAT_tapovf ch else s
    let h := s.evOf ch
    s.setEv ch { h with later := h.later ++ [(s.now + ns 10, l)] }

/-! ### Events on their way (R158, R159) -/

/-- R158, R159: the event can arrive at tap `x` at instant `t`: a direct tap 1.0 ns to 1.5 ns after it, a relayed one 1.0 ns to 1.5 ns
later, and the relayed ones within 0.5 ns of one another. -/
def Sent.reaches (e : Sent) (x : Tap) (t : Nat) : Bool :=
  (e.direct.contains x && decide (e.at_ + 64 ≤ t) && decide (t ≤ e.at_ + 96)) ||
    (e.relayed.contains x && decide (e.at_ + 128 ≤ t) && decide (t ≤ e.at_ + 192) &&
      e.arr.all (fun a => decide (t ≤ a.1 + 32) && decide (a.2 ≤ t + 32)))

/-- R159: the event has reached tap `x` at instant `t`; it never reaches it again. -/
def Sent.took (e : Sent) (x : Tap) (t : Nat) : Sent :=
  { e with
    direct := e.direct.filter (fun y => y != x)
    relayed := e.relayed.filter (fun y => y != x)
    arr := if e.relayed.contains x then some (e.arr.elim (t, t) (fun a => (min a.1 t, max a.2 t))) else e.arr }

/-- R158, R159: the oldest event that can arrive at tap `x` at instant `t` has arrived there. -/
def deliver (x : Tap) (t : Nat) : List Sent → Option (List Sent)
  | [] => none
  | e :: l => if e.reaches x t then some (e.took x t :: l) else (deliver x t l).map (e :: ·)

/-- R158: an event of channel `ch` can arrive at tap `x` at instant `t`. -/
def arrives (s : State) (ch : Nat) (x : Tap) (t : Nat) : Bool := (deliver x t (s.evOf ch).sent).isSome

/-- R159: an event of channel `ch` arrives at tap `x` at instant `t`. -/
def arrive (s : State) (ch : Nat) (x : Tap) (t : Nat) : State :=
  s.setEv ch { s.evOf ch with sent := (deliver x t (s.evOf ch).sent).getD (s.evOf ch).sent }

/-- R159: the rankings that have taken effect by now are folded into the one in force. -/
def EvS.ranked (h : EvS) (now : Nat) : EvS :=
  let due := h.later.filter (fun p => decide (p.1 ≤ now))
  { h with later := h.later.filter (fun p => decide (now < p.1)), order := (due.getLast?.map (fun p => p.2)).getD h.order }

end Sys2Proof.Machine
end

