-- ==== Sys2Proof/Machine/Comparator.lean ====
section
/-! DEFINITION. Window comparators and trip requests (03_window_comparators.md, R62 to R78). Voltages are in microvolts and
thresholds in thousandths of a code, so that every comparison of R64 is one of integers. -/

namespace Sys2Proof.Machine

/-- R65: the threshold of code `c`, in thousandths of a code, on its move. -/
def Move.at_ (m : Move) (c : Int) : Int := m.src + (c * 1000 - m.src) * (min m.pos 1000 : Nat) / 1000

/-- R65: a move that has come `pos` thousandths of its way at instant `t`; it never goes back, and has settled 100 ns after the
write. -/
def Move.step (m : Move) (t pos : Nat) : Move :=
  { m with pos := if m.due ≤ t then 1000 else max m.pos (min pos 1000) }

/-- R76: the voltage that the comparator sees; the self-check levels of 0.5 V are free within 2.5 mV. -/
def wcInput (s : State) (n : Nat) : Int × State :=
  let v := (s.wcOf n).vin
  match s.get F.WC_CTL_chk n with
  | 0 => (v, s)
  | 1 => (-v, s)
  | 2 => (0, s)
  | 3 => let (e, s) := s.draw 5001; (500000 + ((e : Int) - 2500), s)
  | _ => let (e, s) := s.draw 5001; (-500000 + ((e : Int) - 2500), s)

/-- R63, R64: v lies above a threshold of `th` thousandths of a code (one code is 15,625 / 32 microvolts). -/
def above (v th : Int) : Bool := decide (v * 32000 > th * 15625)

/-- R66: by how much a comparator is off at a decision: the input offset in microvolts, the nonlinearity of the two thresholds in
thousandths of a code, and what the two hystereses differ from h by, in microvolts. -/
structure WcTol where
  off : Int
  nlH : Int
  nlL : Int
  hyH : Int
  hyL : Int
  deriving DecidableEq, Repr

/-- R66: the hysteresis of 2 mV to 30 mV is h within 20 % and 1 mV; without hysteresis there is none. In microvolts. -/
def hystTol (k : Nat) : Nat := if k = 0 then 0 else 400 * k + 1000

/-- R66: a free value from -m to m. -/
def drawWithin (s : State) (m : Nat) : Int × State :=
  let (x, s) := s.draw (2 * m + 1)
  ((x : Int) - m, s)

/-- R66: how far comparator `n` is off at this decision: free within the limits. -/
def wcTol (s : State) (n : Nat) : WcTol × State :=
  let (off, s) := drawWithin s 3000
  let (nlH, s) := drawWithin s 2000
  let (nlL, s) := drawWithin s 2000
  let (hyH, s) := drawWithin s (hystTol (s.get F.WC_CTL_hyst n))
  let (hyL, s) := drawWithin s (hystTol (s.get F.WC_CTL_hyst n))
  (⟨off, nlH, nlL, hyH, hyL⟩, s)

/-- R64, R66: the two outputs for the input voltage `v`. -/
def wcDecide (s : State) (n : Nat) (v : Int) (e : WcTol) : Bool × Bool :=
  let h : Int := 2000 * (s.get F.WC_CTL_hyst n : Int)
  let thh := (s.wcOf n).hiMove.at_ (s.getS F.WC_THH_code n) + e.nlH
  let thl := (s.wcOf n).loMove.at_ (s.getS F.WC_THL_code n) + e.nlL
  let v := v + e.off
  let hi := if above v thh then true else if above (-(v + (h + e.hyH))) (-thh) then false else s.is F.WC_STAT_hinow n
  let lo := if above (-v) (-thl) then true else if above (v - (h + e.hyL)) thl then false else s.is F.WC_STAT_lonow n
  (hi, lo)

/-- R68: the trip request before blanking: the zones it is routed to, as a mask. -/
def wcRaw (s : State) (n : Nat) : Nat :=
  if s.is F.WC_STAT_ready n && !s.is F.WC_STAT_chkbusy n &&
      (s.is F.WC_STAT_hinow n && s.is F.WC_TRIP_hi n || s.is F.WC_STAT_lonow n && s.is F.WC_TRIP_lo n)
  then s.get F.WC_TRIP_zone n else 0

/-- R68, R72: the trip request, gated by blanking. -/
def wcReq (s : State) (n : Nat) : Nat := if s.is F.WC_STAT_blknow n then 0 else wcRaw s n

/-- R72, R147: remembers when the request asserts and deasserts at its zones, and whether it first asserts within 0.5 ns of the
opening of blanking. `s0` is the state before the change. -/
def wcTrack (s0 s : State) (n : Nat) : State :=
  let h := s.wcOf n
  let h := if wcReq s0 n = 0 ∧ wcReq s n ≠ 0 then { h with reqOn := s.now } else h
  let h := if wcReq s0 n ≠ 0 ∧ wcReq s n = 0 then { h with reqOff := some s.now } else h
  let h := match h.blk with
    | some (b, _) => if wcRaw s0 n = 0 ∧ wcRaw s n ≠ 0 ∧ s.now < b + 32 then { h with race := some s.now } else h
    | none => h
  s.setWc n h

/-- R73, R75: sets a sticky flag and fires the interrupt source where its cause is enabled (also where the flag was still set, log 122). -/
def wcFlag (s : State) (f ien : Fld) (n : Nat) : State :=
  (s.flag f n).fireIf (s.is ien n) (272 + n)

/-- R74: event `ev` of the comparator (0 hiset, 1 loset, 2 inwin): raised, held until blanking lifts, or not made. -/
def wcEvent (s : State) (n ev : Nat) : State :=
  if s.is F.WC_STAT_chkbusy n then s
  else if s.is F.WC_STAT_blknow n && s.is F.WC_CTL_blkev n then
    let h := s.wcOf n
    s.setWc n (match ev with
      | 0 => { h with heldHi := true }
      | 1 => { h with heldLo := true }
      | _ => { h with heldIn := true })
  else s.raise 4 n ev

/-- R64, R73, R74: the output `hinow` takes the value `v`. -/
def wcSetHi (s : State) (n : Nat) (v : Bool) : State :=
  if v == s.is F.WC_STAT_hinow n then s
  else
    let busy := s.is F.WC_STAT_chkbusy n
    let s := s.put F.WC_STAT_hinow n (b2n v)
    if v then
      let s := if busy then s
        else if s.is F.WC_STAT_blknow n then s.setWc n { s.wcOf n with inHi := true }
        else wcFlag s F.WC_STAT_hi F.WC_IEN_hi n
      wcEvent s n 0
    else
      let s := if !busy && s.is F.WC_STAT_blknow n && (s.wcOf n).inHi
        then wcFlag s F.WC_STAT_blkhit F.WC_IEN_blk n else s
      let s := s.setWc n { s.wcOf n with inHi := false }
      if s.is F.WC_STAT_lonow n then s else wcEvent s n 2

/-- R64, R73, R74: the output `lonow` takes the value `v`. -/
def wcSetLo (s : State) (n : Nat) (v : Bool) : State :=
  if v == s.is F.WC_STAT_lonow n then s
  else
    let busy := s.is F.WC_STAT_chkbusy n
    let s := s.put F.WC_STAT_lonow n (b2n v)
    if v then
      let s := if busy then s
        else if s.is F.WC_STAT_blknow n then s.setWc n { s.wcOf n with inLo := true }
        else wcFlag s F.WC_STAT_lo F.WC_IEN_lo n
      wcEvent s n 1
    else
      let s := if !busy && s.is F.WC_STAT_blknow n && (s.wcOf n).inLo
        then wcFlag s F.WC_STAT_blkhit F.WC_IEN_blk n else s
      let s := s.setWc n { s.wcOf n with inLo := false }
      if s.is F.WC_STAT_hinow n then s else wcEvent s n 2

/-- R64: the comparator decides on its present input. An output that asserts acts before one that deasserts, so that the input is
not taken as inside the window in between. -/
def wcEvaluate (s : State) (n : Nat) : State :=
  let (v, s) := wcInput s n
  let (e, s) := wcTol s n
  let (hi, lo) := wcDecide s n v e
  if hi then wcSetLo (wcSetHi s n hi) n lo else wcSetHi (wcSetLo s n lo) n hi

/-- R65: comparator `n` decides where no crossing tells how far its thresholds have moved: a move whose 100 ns are over has settled, and how far
another has come is free. -/
def wcDecideNow (s : State) (n : Nat) : State :=
  let (x, s) := s.draw 1001
  let (y, s) := s.draw 1001
  let h := s.wcOf n
  wcEvaluate (s.setWc n { h with hiMove := h.hiMove.step s.now x, loMove := h.loMove.step s.now y }) n

/-- R67: the comparator stops at once. DESIGN CHOICE (log 105): an output that asserted inside blanking, and falls because the comparator
stops, sets no blkhit. -/
def wcPowerDown (s : State) (n : Nat) : State :=
  let s := ((s.put F.WC_STAT_ready n 0).put F.WC_STAT_hinow n 0).put F.WC_STAT_lonow n 0
  s.setWc n { s.wcOf n with readyDue := none, inHi := false, inLo := false, heldHi := false, heldLo := false, heldIn := false }

/-- R67: the comparator is powered; ready sets 1 µs later. -/
def wcPowerUp (s : State) (n : Nat) : State :=
  s.setWc n { s.wcOf n with readyDue := some (s.now + ns 1000) }

/-- R64, R67, R69, R76: a write of WC_CTL. -/
def wcCtlWrite (s : State) (n v : Nat) : State :=
  let en := F.WC_CTL_en.of v
  let chk := F.WC_CTL_chk.of v
  if (s.is F.WC_GUARD_frz n && en != s.get F.WC_CTL_en n) || 4 < chk then s.flag F.WC_STAT_cfgerr n
  else
    let s0 := s
    let s := (s.put F.WC_CTL_hyst n (F.WC_CTL_hyst.of v)).put F.WC_CTL_blkev n (F.WC_CTL_blkev.of v)
    let s := if chk == s.get F.WC_CTL_chk n then s
      else
        let s := (s.put F.WC_CTL_chk n chk).put F.WC_STAT_chkbusy n 1
        s.setWc n { s.wcOf n with chkAt := s.now }
    let s := if en == s.get F.WC_CTL_en n then s
      else
        let s := s.put F.WC_CTL_en n en
        if en == 1 then wcPowerUp s n else wcPowerDown s n
    wcTrack s0 s n

/-- R69: a write of a register that WC_GUARD freezes. -/
def wcFrozenWrite (s : State) (r : RegName) (n : Nat) (new : BitVec 36) : State :=
  if new == s.reg r n then s
  else if s.is F.WC_GUARD_frz n then s.flag F.WC_STAT_cfgerr n
  else
    let s' := s.setReg r n new
    wcTrack s s' n

/-- R65: a write of a threshold register starts a move of the threshold. DESIGN CHOICE (log 124): during a move, the new one starts from the
position that the latest THRESHOLD_CROSSING told, or from the start of the move where none did. -/
def wcThrWrite (s : State) (high : Bool) (n v : Nat) : State :=
  let f := if high then F.WC_THH_code else F.WC_THL_code
  if f.of v == s.get f n then s
  else
    let h := s.wcOf n
    let m := if high then h.hiMove else h.loMove
    let m : Move := { src := (m.step s.now 0).at_ (s.getS f n), pos := 0, due := s.now + ns 100 }
    (s.setWc n (if high then { h with hiMove := m } else { h with loMove := m })).put f n (f.of v)

/-- R69: the write of WC_GUARD. -/
def wcGuardWrite (s : State) (n v : Nat) : State :=
  if s.locked .WC_GUARD n then s
  else (s.put F.WC_GUARD_frz n (F.WC_GUARD_frz.of v)).lockReg .WC_GUARD n

/-- R70, R71: blanking opens, or its count starts again, at the event instant `t0`. -/
def wcBlankOpen (s : State) (n t0 : Nat) : State :=
  let e := edgeCeil (t0 + ns (s.get F.WC_BLKLEN_len n))
  let h := s.wcOf n
  match h.blk with
  | some (b, e0) => s.setWc n { h with blk := some (b, max e0 e) }
  | none =>
    let s0 := s
    let s := (s.setWc n { h with blk := some (t0, e), inHi := false, inLo := false }).put F.WC_STAT_blknow n 1
    wcTrack s0 s n

/-- R70: the comparators whose blanking the event `ev` of counter unit `u` opens (ev as in R157: 0 period boundary, 1 to 4
compare matches, 5 edge of A, 6 edge of B). -/
def wcBlanks (s : State) (u ev n : Nat) : Bool :=
  s.get F.WC_BLKLEN_len n != 0 && s.get F.WC_BLKSRC_cu n == u &&
    ((s.get F.WC_BLKSRC_cuev n == ev && decide (ev < 7)) || (s.get F.WC_BLKSRC_cuev n == 7 && (ev == 5 || ev == 6)))

/-- R70, R71: a selected event of counter unit `u` opens the blanking of every comparator that selects it. -/
def blankAll (s : State) (u ev t0 : Nat) : State :=
  (List.range 128).foldl (fun s n => if wcBlanks s u ev n then wcBlankOpen s n t0 else s) s

/-- R72, R73, R74: blanking lifts. -/
def wcBlankEnd (s : State) (n : Nat) : State :=
  let s0 := s
  let h := s.wcOf n
  let s := (s.setWc n { h with blk := none, inHi := false, inLo := false, heldHi := false, heldLo := false, heldIn := false }).put
    F.WC_STAT_blknow n 0
  let hi := s.is F.WC_STAT_hinow n
  let lo := s.is F.WC_STAT_lonow n
  let s := if s.is F.WC_STAT_ready n && !s.is F.WC_STAT_chkbusy n then
      let s := if hi then wcFlag s F.WC_STAT_hi F.WC_IEN_hi n else s
      let s := if lo then wcFlag s F.WC_STAT_lo F.WC_IEN_lo n else s
      let s := if h.heldHi && hi then s.raise 4 n 0 else s
      let s := if h.heldLo && lo then s.raise 4 n 1 else s
      if h.heldIn && !hi && !lo then s.raise 4 n 2 else s
    else s
  wcTrack s0 s n

/-! ### The commands -/

/-- R64, R66: at the instant of the comparator's response the input pair stands at `v` microvolts, and thresholds on the move
have come `posH` and `posL` thousandths of their way (R65). -/
def execThresholdCrossing (t : Nat) (n : Fin 128) (v : Int) (posH posL : Nat) (s : State) :
    Host.Outcome State Fault Refusal :=
  let s := s.tick t
  let h := s.wcOf n
  let s := s.setWc n { h with vin := v, hiMove := h.hiMove.step s.now posH, loMove := h.loMove.step s.now posL }
  .next (if s.is F.WC_STAT_ready n then wcTrack s (wcEvaluate s n) n else s)

/-- R65: a write of WC_THH or WC_THL. -/
def execThresholdWrite (t : Nat) (n : Fin 128) (high : Bool) (v : Word) (s : State) : Host.Outcome State Fault Refusal :=
  .next (wcThrWrite (s.tick t) high n v.toNat)

/-- R67: a write of WC_CTL that sets en. -/
def execWcEnable (t : Nat) (n : Fin 128) (v : Word) (s : State) : Host.Outcome State Fault Refusal :=
  event t s (fun s => !s.is F.WC_CTL_en n && F.WC_CTL_en.of v.toNat == 1) (fun s => wcCtlWrite s n v.toNat)

/-- R67: a write of WC_CTL that clears en. -/
def execWcDisable (t : Nat) (n : Fin 128) (v : Word) (s : State) : Host.Outcome State Fault Refusal :=
  event t s (fun s => s.is F.WC_CTL_en n && F.WC_CTL_en.of v.toNat == 0) (fun s => wcCtlWrite s n v.toNat)

/-- R67: the comparator has settled: an input already beyond a threshold asserts as at a crossing. -/
def execWcReady (t : Nat) (n : Fin 128) (s : State) : Host.Outcome State Fault Refusal :=
  event t s
    (fun s => s.is F.WC_CTL_en n && (match (s.wcOf n).readyDue with | some d => decide (d ≤ s.now) | none => false))
    (fun s =>
      let s0 := s
      let s := (s.setWc n { s.wcOf n with readyDue := none }).put F.WC_STAT_ready n 1
      wcTrack s0 (wcDecideNow s n) n)

/-- R69: the write of WC_GUARD that sets frz. -/
def execRoutingFreeze (t : Nat) (n : Fin 128) (v : Word) (s : State) : Host.Outcome State Fault Refusal :=
  event t s (fun s => !s.locked .WC_GUARD n && F.WC_GUARD_frz.of v.toNat == 1) (fun s => wcGuardWrite s n v.toNat)

/-- R72: blanking lifts at its timer edge. -/
def execBlankingEnd (t : Nat) (n : Fin 128) (s : State) : Host.Outcome State Fault Refusal :=
  event t s (fun s => match (s.wcOf n).blk with | some (_, e) => decide (e ≤ s.now) | none => false)
    (fun s => wcBlankEnd s n)

/-- R76: a write of WC_CTL that would change chk. -/
def execSelfCheck (t : Nat) (n : Fin 128) (v : Word) (s : State) : Host.Outcome State Fault Refusal :=
  event t s (fun s => F.WC_CTL_chk.of v.toNat != s.get F.WC_CTL_chk n) (fun s => wcCtlWrite s n v.toNat)

/-- R76: 20 ns after chk returned to 0 the comparator acts on its outputs again: an output still asserted outside blanking sets
its sticky flag, as at the end of blanking. DESIGN CHOICE (log 48): it raises no hiset or loset event then. -/
def execSelfCheckEnd (t : Nat) (n : Fin 128) (s : State) : Host.Outcome State Fault Refusal :=
  event t s
    (fun s => s.is F.WC_STAT_chkbusy n && s.get F.WC_CTL_chk n == 0 && decide ((s.wcOf n).chkAt + ns 20 ≤ s.now))
    (fun s =>
      let s0 := s
      let s := if s.is F.WC_STAT_ready n then wcDecideNow s n else s
      let s := s.put F.WC_STAT_chkbusy n 0
      let clear := s.is F.WC_STAT_ready n && !s.is F.WC_STAT_blknow n
      let s := if clear && s.is F.WC_STAT_hinow n then wcFlag s F.WC_STAT_hi F.WC_IEN_hi n else s
      let s := if clear && s.is F.WC_STAT_lonow n then wcFlag s F.WC_STAT_lo F.WC_IEN_lo n else s
      wcTrack s0 s n)

end Sys2Proof.Machine
end

