-- ==== Sys2Proof/Machine/Pads.lean ====
section
/-! DEFINITION. Balls, boundary cells and the levels of pins (18_pins_interfaces_electrical.md, R408 to R411, R426, R427). -/

namespace Sys2Proof.Machine

/-! ### Balls (R408, R409) -/

/-- R408: the ball of row index `r` and column `c`. -/
def ballAt (r c : Nat) : Nat := 64 * r + c

/-- R409: output `w` (0: A; 1: B) of counter unit `u`. -/
def outBall (u w : Nat) : Nat := ballAt (2 * (u / 32) + 1 + w) (2 + u % 32)

/-- R409: GPIO pin `n`. -/
def gpioBall (n : Nat) : Nat := ballAt (9 + n / 32) (2 + n % 32)

/-- R409: TRIP pin `n`. -/
def tripBall (n : Nat) : Nat := ballAt 11 (2 + n)

/-- R409: LK_WAKEn of link port `p`. -/
def lkWakeBall (p : Nat) : Nat := ballAt (17 + 9 * (p % 2)) (if p < 2 then 1 else 34)

/-- R409: pin `k` of row L: 0 SCL, 1 SDA and 2 ALERT_N of an SMBus port, three to a port; from 6 on SCK, CS_N, SDO and SDI of an SPI port, four
to a port. -/
def rowLBall (k : Nat) : Nat := ballAt 11 (18 + k)

/-- R409: LOCKUP_N. -/
def lockupBall : Nat := ballAt 24 7

/-- R409: FAULT_N. -/
def faultBall : Nat := ballAt 24 8

/-! ### Boundary scan (R426, R427) -/

/-- R426: what the loaded boundary register holds in the cell of a ball of kind `k` (0 input, 1 output, 2 output enable); none where the ball has
no such cell. The order of the cells is the BSDL description's. -/
def cellOf (s : State) (ball k : Nat) : Option Bool :=
  ((List.range s.dbg.cells.length).find? (fun i => Config.boundaryCell i == (ball, k))).map (fun i => s.dbg.cells.getD i false)

/-- R427: what the device does to a pin that its function holds at `lvl`: EXTEST and CLAMP put the cells of the boundary register in force, and
HIGHZ lets the pin go. -/
def scanPin (s : State) (ball : Nat) (lvl : PinLevel) : PinLevel :=
  match s.dbg.scan with
  | .normal => lvl
  | .highz => .z
  | _ =>
    match cellOf s ball 2, cellOf s ball 1 with
    | some false, _ => .z
    | _, some true => .high
    | _, some false => .low
    | _, none => .z

/-- R411: an output function that is high impedance in Dormant and Vigil. -/
def awakePin (s : State) (lvl : PinLevel) : PinLevel := if 5 ≤ s.rung then .z else lvl

end Sys2Proof.Machine
end

