-- ==== Sys2Proof/Machine/CounterUnit.lean ====
section
/-! DEFINITION. Counter units: counting, loading, edges, short pulses, synchronisation and capture (06_counter_units.md, R124 to
R146, R153). Instants of a unit are integers of fine ticks, because a counter may start from a count above the present. -/

namespace Sys2Proof.Machine

/-! ### Small readings -/

/-- R135: the timer edge at or before an instant. -/
def edgeFloorI (x : Int) : Int := x / 64 * 64
/-- The first timer edge at or after an instant. -/
def edgeCeilI (x : Int) : Int := (x + 63) / 64 * 64

/-- R126: 2^36, the modulus of the period time in TIMER. -/
def w36 : Int := 68719476736

/-- R134: the field of a loaded register (0: CU_PER; 1 to 4: CU_CMP0 to CU_CMP3; 5: CU_DTR; 6: CU_DTF; 7: CU_MINP). -/
def cuFld (r : Nat) : Fld :=
  match r with
  | 0 => F.CU_PER_p
  | 5 => F.CU_DTR_t
  | 6 => F.CU_DTF_t
  | 7 => F.CU_MINP_t
  | _ => F.CU_CMP_e

/-- The instance of a loaded register of unit `u`. -/
def cuIdx (u r : Nat) : Nat := if 1 ≤ r ∧ r ≤ 4 then u * 4 + (r - 1) else u

/-- R133: the active value of a loaded register. -/
def cuActive (s : State) (u r : Nat) : Nat := s.get (cuFld r) (cuIdx u r)

/-- R134: the shadow value: the pending one, of two the later one, else the active one. -/
def cuShadow (s : State) (u r : Nat) : Nat :=
  match (s.cuOf u).shadow.reverse.find? (fun x => x.reg == r) with
  | some x => x.v
  | none => cuActive s u r

/-- R133: the load rule of a register: 0 PERIOD, 1 IMMEDIATE, 2 TIDE; dead times and the minimum pulse load under PERIOD. -/
def cuRule (s : State) (u r : Nat) : Nat :=
  match r with
  | 0 => s.get F.CU_LDM_per u
  | 1 => s.get F.CU_LDM_c0 u
  | 2 => s.get F.CU_LDM_c1 u
  | 3 => s.get F.CU_LDM_c2 u
  | 4 => s.get F.CU_LDM_c3 u
  | _ => 0

/-- R125: the length of a period in fine ticks; none in TIMER. -/
def Gov.len (g : Gov) : Option Int :=
  match g.mode with
  | 0 => some (64 * g.p)
  | 1 => some (128 * g.p)
  | 2 => some (64 * g.p)
  | _ => none

/-- R134: the values now in force. -/
def cuGov (s : State) (u : Nat) : Gov :=
  { mode := s.get F.CU_CTL_mode u, p := cuActive s u 0,
    cmp := [cuActive s u 1, cuActive s u 2, cuActive s u 3, cuActive s u 4],
    dtr := cuActive s u 5, dtf := cuActive s u 6, minp := cuActive s u 7,
    spp := s.get F.CU_CTL_spp u, indep := s.is F.CU_CTL_bmode u, clk := s.is F.CU_SYNC_clk u }

/-- R126: a compare value above 64P acts as 64P. -/
def Gov.e (g : Gov) (j : Nat) : Nat := min (g.cmp.getD j 0) (64 * g.p)

/-- R153: sets bit `b` of CU_FLAG, and fires the unit's interrupt source where its cause is enabled (also where the bit was still set,
log 122). -/
def cuFlag (s : State) (u b : Nat) : State :=
  (s.flag ⟨.CU_FLAG, b, 1⟩ u).fireIf (s.is ⟨.CU_IEN, b, 1⟩ u) u

/-- R157: raises event `ev` of unit `u` at instant `x` (0 period boundary, 1 to 4 compare matches, 5 and 6 edges of A and B,
7 CARRYOVF, 8 capture overflow). -/
def cuRaise (s : State) (u ev : Nat) (x : Int) : State := s.raiseAt 1 u ev x

/-- A refused write of a register of unit `u`. -/
def cuErr (s : State) (u : Nat) : State := s.flag F.CU_STAT_cfgerr u

/-! ### The references and the outputs (R129 to R132, R140) -/

/-- R129: reference `k` of a unit (0: R; 1: R2). -/
def CuS.ref (h : CuS) (k : Nat) : RefS := if k = 0 then h.ref0 else h.ref1
/-- The unit with reference `k` replaced. -/
def CuS.setRef (h : CuS) (k : Nat) (r : RefS) : CuS := if k = 0 then { h with ref0 := r } else { h with ref1 := r }

/-- R129, R136: the instant of the match of compare `j` that governs its edge in this period. -/
def CuS.inst (h : CuS) (j : Nat) : Int :=
  match h.moved.find? (fun p => p.1 == j) with
  | some p => p.2
  | none =>
    let e : Int := h.gov.e j
    h.pstart + (if h.gov.mode = 1 ∧ j % 2 = 1 then 128 * (h.gov.p : Int) - e else e)

/-- R131, R157: the internal level of output `w` (0: A; 1: B) changes at instant `x`, with its edge event. -/
def cuSetIo (s : State) (u w : Nat) (v : Bool) (x : Int) : State :=
  let h := s.cuOf u
  if w = 0 then
    if h.ioA == v then s else cuRaise (s.setCu u { h with ioA := v }) u 5 x
  else
    if h.ioB == v then s else cuRaise (s.setCu u { h with ioB := v }) u 6 x

/-- R129: an edge of a reference, in its place among those ahead; of one instant, an edge that was delayed or is of an ended period acts
first. -/
def RefS.add (r : RefS) (e : REdge) : RefS :=
  { r with edges := if e.fixed then insertBy (fun a b => decide (a.at_ ≤ b.at_)) e r.edges
      else r.edges.filter (fun a => decide (a.at_ ≤ e.at_)) ++ e :: r.edges.filter (fun a => decide (e.at_ < a.at_)) }

/-- R138, R140: what an end of a pulse must keep from the edge before it: DTR + MINP after a set, DTF + MINP after a clear; in INDEP MINP
after a set. -/
def Gov.gap (g : Gov) (set : Bool) : Int := ((if g.indep then 0 else if set then g.dtr else g.dtf) + g.minp : Nat)

/-- R140: an edge delayed to instant `x`. -/
def refDelay (s : State) (u k : Nat) (v : Bool) (x : Int) : State :=
  (s.setCu u ((s.cuOf u).setRef k (((s.cuOf u).ref k).add ⟨x, v, true⟩))).flag F.CU_STAT_late u

/-- R129, R140: reference `k` is to stand at `v` from instant `x` on: it changes, or the change is delayed where the pulse that it ends
would be shorter than the minimum. Where the edge before it has itself been delayed past `x`, it follows that edge by the same
distance (DESIGN CHOICE, log 111). -/
def refTo (s : State) (u k : Nat) (v : Bool) (x : Int) : State :=
  let h := s.cuOf u
  let r := h.ref k
  if r.r = v then
    match r.edges.find? (fun e => e.fixed && e.set != v) with
    | some e => if v && (h.gov.indep || k == 1) then s.setCu u (h.setRef k (r.add ⟨e.at_, v, false⟩))
        else refDelay s u k v (e.at_ + h.gov.gap (!v))
    | none => s
  else
    let lim : Option Int := if v then (if h.gov.indep || k == 1 then none else r.clrAt) else r.setAt
    let go := s.setCu u (h.setRef k (if v then { r with r := true, setAt := some x } else { r with r := false, clrAt := some x }))
    match lim with
    | some c => if x < c + h.gov.gap (!v) then refDelay s u k v (c + h.gov.gap (!v)) else go
    | none => go

/-- R129: the edges of reference `k` due at instant `x` act, and only what they leave counts. -/
def refFire (s : State) (u k : Nat) (x : Int) : State :=
  let h := s.cuOf u
  let r := h.ref k
  let due := r.edges.filter (fun e => e.at_ == x)
  match due.getLast? with
  | none => s
  | some e =>
    let r := { r with edges := r.edges.filter (fun e => e.at_ != x) }
    let r := if due.any (fun e => !e.set && !e.fixed) then { r with done := some x } else r
    refTo (s.setCu u (h.setRef k r)) u k e.set x

/-- R130: the outputs follow the net change of the references at instant `x`; `a` and `b` are the levels of R and R2 before. -/
def refSettle (s : State) (u : Nat) (a b : Bool) (x : Int) : State :=
  let h := s.cuOf u
  let s := if h.ref0.r == a then s
    else if h.ref0.r then s.setCu u { h with highFrom := x }
    else s.setCu u { h with high := h.high + (x - h.highFrom) }
  if h.gov.indep then
    let s := if h.ref0.r == a then s else cuSetIo s u 0 h.ref0.r x
    if h.ref1.r == b then s else cuSetIo s u 1 h.ref1.r x
  else if h.ref0.r == a then s
  else if h.ref0.r then
    let s := cuSetIo s u 1 false x
    s.setCu u { s.cuOf u with riseA := some (x + h.gov.dtr), riseB := none }
  else
    let s := cuSetIo s u 0 false x
    s.setCu u { s.cuOf u with riseB := some (x + h.gov.dtf), riseA := none }

/-- R130: the dead times that expire by instant `x`. After a start or a resume, where no edge of R precedes, the rise of an output
counts its pulse (R140). -/
def refRises (s : State) (u : Nat) (x : Int) : State :=
  let h := s.cuOf u
  let s := match h.riseA with
    | some y => if y ≤ x then
        let r := h.ref0
        let r := if r.setAt.isNone then { r with setAt := some (y - h.gov.dtr) } else r
        let s := s.setCu u { h with riseA := none, ref0 := r }
        if h.ref0.r then cuSetIo s u 0 true y else s
      else s
    | none => s
  let h := s.cuOf u
  match h.riseB with
  | some y => if y ≤ x then
      let r := h.ref0
      let r := if r.clrAt.isNone then { r with clrAt := some (y - h.gov.dtf) } else r
      let s := s.setCu u { h with riseB := none, ref0 := r }
      if h.ref0.r then s else cuSetIo s u 1 true y
    else s
  | none => s

/-- The earlier of two planned instants. -/
def minOpt (a b : Option Int) : Option Int :=
  match a, b with
  | some x, some y => some (min x y)
  | some x, none => some x
  | none, y => y

/-- The earliest planned edge of a unit: a set or a clear of R or R2, or the end of a dead time. -/
def CuS.nextEdge (h : CuS) : Option Int :=
  minOpt (minOpt (h.ref0.edges.head?.map (·.at_)) (h.ref1.edges.head?.map (·.at_))) (minOpt h.riseA h.riseB)

/-- R129, R130: everything planned for instant `x`. -/
def edgesAt (s : State) (u : Nat) (x : Int) : State :=
  let a := (s.cuOf u).ref0.r
  let b := (s.cuOf u).ref1.r
  refRises (refSettle (refFire (refFire s u 0 x) u 1 x) u a b x) u x

/-- R138: what the checks at the placement of the set edge decide for a pulse from `sS` to `sS + w`: whether R sets, the instant
at which it clears, and whether a policy acted. -/
def shortPulse (g : Gov) (pstart sS : Int) (sNext : Int) (w : Int) : Bool × Option Int × Bool :=
  let dtr : Int := if g.indep then 0 else g.dtr
  let dtf : Int := if g.indep then 0 else g.dtf
  let minp : Int := g.minp
  let len := g.len.getD 0
  if w - dtr < minp then
    if g.spp = 1 then (true, some (sS + dtr + minp), true) else (false, none, true)
  else if !g.indep && decide ((pstart + len + sNext) - (sS + w) - dtf < minp) then
    if g.spp = 1 then (true, some (max (pstart + len + sNext - dtf - minp) (sS + dtr + minp)), true)
    else (true, none, true)
  else (true, some (sS + w), false)

/-- R135, R138: places the set edge of reference `k` at instant `c`, with the short-pulse checks and the policy. -/
def refPlace (s : State) (u k : Nat) (c : Int) : State :=
  let h := s.cuOf u
  let g := h.gov
  let r := { h.ref k with place := none, acted := false }
  let s := s.setCu u (h.setRef k r)
  let x := h.inst (2 * k)
  let y := h.inst (2 * k + 1)
  let wreq := max (y - x) 0
  let len := g.len.getD 0
  if x < c then
    -- R143: a reset skipped the set edge; the clear stands where it still lies ahead
    if c ≤ y then s.setCu u (h.setRef k (r.add ⟨y, false, false⟩)) else s
  else
    let w := if g.spp = 2 ∧ !g.indep then min (max (wreq + s.getS F.CU_CARRY_c u) 0) (len - (x - h.pstart)) else wreq
    let dt : Int := if g.indep then 0 else g.dtr
    if w ≤ 0 ∧ (wreq = 0 ∨ dt + g.minp ≤ 0) then s
    else
      let (sets, clr, acted) := shortPulse g h.pstart x (g.e (2 * k)) w
      let r := { r with acted := acted && !s.is F.CU_STAT_short u }
      let s := if acted then s.flag F.CU_STAT_short u else s
      if sets then
        let r := r.add ⟨x, true, false⟩
        s.setCu u (h.setRef k (match clr with | some z => r.add ⟨z, false, false⟩ | none => r))
      else s.setCu u (h.setRef k r)

/-- R135: plans the placement of the set edge of reference `k`, or places it at once where its placement instant lies before `x`. -/
def refArm (s : State) (u k : Nat) (x : Int) : State :=
  let h := s.cuOf u
  let c := edgeFloorI (h.inst (2 * k)) - 128
  if c < x then refPlace s u k x
  else s.setCu u (h.setRef k { h.ref k with place := some c })

/-- The placements that are due by instant `x`. -/
def placesUntil (s : State) (u : Nat) (x : Int) : State :=
  let s := match (s.cuOf u).ref0.place with
    | some c => if c ≤ x then refPlace s u 0 c else s
    | none => s
  match (s.cuOf u).ref1.place with
  | some c => if c ≤ x then refPlace s u 1 c else s
  | none => s

/-- R129, R130: the planned edges that are due by instant `x`, in their order. -/
def edgesUntil : Nat → State → Nat → Int → State
  | 0, s, _, _ => s
  | f + 1, s, u, x =>
    match (s.cuOf u).nextEdge with
    | some y => if y ≤ x then edgesUntil f (edgesAt s u y) u x else s
    | none => s

/-- R139: the carry at the end of a period that closes at instant `x`. -/
def carryClose (s : State) (u : Nat) (x : Int) : State :=
  let h := s.cuOf u
  let g := h.gov
  if g.spp ≠ 2 ∨ g.indep ∨ g.clk then s
  else
    let del := h.high + (if h.ref0.r then x - h.highFrom else 0)
    let req := max (h.inst 1 - h.inst 0) 0
    let c := s.getS F.CU_CARRY_c u + req - del
    let len := g.len.getD 0
    if c > len ∨ c < -len then
      let c := if c > 0 then len else -len
      cuRaise ((s.hwPut F.CU_CARRY_c u (ux 36 c)).flag F.CU_STAT_carryovf u) u 7 x
    else s.hwPut F.CU_CARRY_c u (ux 36 c)

/-- R130, R152: the unit resumes at boundary `x`: R is low, and the instant counts as a fall of R. -/
def cuResume (s : State) (u : Nat) (x : Int) : State :=
  let s := (s.put F.CU_STAT_tripped u 0).setCu u { s.cuOf u with resume := none, riseA := none, riseB := none }
  let s := cuSetIo (cuSetIo s u 0 false x) u 1 false x
  let h := s.cuOf u
  s.setCu u { h with ref0 := { h.ref0 with r := false, setAt := none, clrAt := none }
                     ref1 := { h.ref1 with r := false, setAt := none, clrAt := none }
                     riseB := if h.gov.indep then none else some (x + h.gov.dtf) }

/-- R135: what is left of the edges ahead of a reference when a new period, or a reset at timer edge `x`, begins: at a reset only the
edges that are placed. None of them can be moved any more. -/
def RefS.carryOver (r : RefS) (reset : Bool) (x : Int) : RefS :=
  let l := if reset then r.edges.filter (fun e => e.fixed || decide (edgeFloorI e.at_ - 128 ≤ x)) else r.edges
  { r with place := none, done := none, acted := false, edges := l.map (fun e => { e with fixed := true }) }

/-- R127, R129, R130, R134: the edges of a period that the unit counts from instant `x` with the values `g`: `bnd` at a period boundary,
`reset` at a reset (R143), `started` at a start. -/
def edgesPeriod (s : State) (u : Nat) (x : Int) (g : Gov) (bnd reset started : Bool) : State :=
  let h := s.cuOf u
  let h := { h with gov := g, moved := [], ref0 := h.ref0.carryOver reset x, ref1 := h.ref1.carryOver reset x }
  let h := if bnd || started then { h with high := 0, highFrom := x } else h
  let s := s.setCu u h
  let s := if started then
      let s := s.hwPut F.CU_CARRY_c u 0
      if g.len.isSome && !g.indep then
        s.setCu u { s.cuOf u with riseB := some (x + g.dtf), ref0 := { h.ref0 with setAt := none, clrAt := none } }
      else s
    else s
  let s := match h.resume with
    | some y => if bnd && decide (y ≤ x) && s.is F.CU_STAT_tripped u then cuResume s u x else s
    | none => s
  let s := if g.len.isNone || g.clk then s
    else
      let s := refArm s u 0 x
      if g.indep then refArm s u 1 x else s
  if g.clk then s else edgesUntil 64 s u x

/-- R127, R142: the counting of a unit ends at instant `x`: R clears and both outputs go inactive. -/
def edgesStop (s : State) (u : Nat) (x : Int) : State :=
  let h := s.cuOf u
  let s := s.setCu u { h with ref0 := {}, ref1 := {}, riseA := none, riseB := none, moved := [], high := 0, highFrom := x }
  let s := cuSetIo (cuSetIo s u 0 false x) u 1 false x
  if (s.cuOf u).resume.isSome then
    (s.put F.CU_STAT_tripped u 0).setCu u { s.cuOf u with resume := none }
  else s

/-- R142, R129: with clk = 1, the position in the count sequence of the match of compare `j` that governs its edge, for the value `e`. -/
def Gov.clkPos (g : Gov) (j e : Nat) : Nat :=
  let c := min e (64 * g.p) / 64
  if g.mode = 1 ∧ j % 2 = 1 then 2 * g.p - c else c

/-- R129, R142: with clk = 1 an edge falls at the master event that makes the count match, at instant `x`; the outputs follow the net level
once everything of the instant is there (`edgesUntil`). -/
def edgesClk (s : State) (u j : Nat) (up : Bool) (x : Int) : State :=
  let h := s.cuOf u
  let g := h.gov
  let k := j / 2
  let clr := j % 2 == 1
  if g.len.isNone || (k == 1 && !g.indep) || (g.mode == 1 && up == clr) then s
  else if g.clkPos (2 * k + 1) (g.cmp.getD (2 * k + 1) 0) ≤ g.clkPos (2 * k) (g.cmp.getD (2 * k) 0) ∧ !(clr && (h.ref k).r) then s
  else s.setCu u (h.setRef k ((h.ref k).add ⟨x, !clr, false⟩))

/-! ### Counting (R125 to R127, R134) -/

/-- R126: the planned matches of compare `j` with value `e` in the present period. -/
def CuS.matches_ (h : CuS) (j e : Nat) : List Match :=
  let g := h.gov
  let e' := min e (64 * g.p)
  let up : Match := ⟨j, true, h.pstart + e'⟩
  if g.mode = 1 ∧ e' < 64 * g.p then [up, ⟨j, false, h.pstart + 128 * (g.p : Int) - e'⟩] else [up]

/-- R126: the matches ahead of instant `x` in the present period. -/
def cuPlan (s : State) (u : Nat) (x : Int) : State :=
  let h := s.cuOf u
  let g := h.gov
  let plan : List Match :=
    if g.clk then []
    else if g.mode = 3 then
      [0, 1, 2, 3].map (fun j => ⟨j, true, x + ((g.cmp.getD j 0 : Int) - (x - h.pstart)) % w36⟩)
    else ([0, 1, 2, 3].flatMap (fun j => h.matches_ j (g.cmp.getD j 0))).filter (fun m => decide (x ≤ m.at_))
  s.setCu u { h with plan := plan }

/-- R126: a match of compare `j` at instant `x`. -/
def cuMatch (s : State) (u j : Nat) (up : Bool) (x : Int) : State :=
  let s := cuRaise (cuFlag s u (15 - j)) u (j + 1) x
  let g := (s.cuOf u).gov
  if g.clk then
    let s := edgesClk s u j up x
    if g.mode = 1 ∧ up ∧ g.e j = 64 * g.p then edgesClk s u j false x else s
  else s

/-- R126: takes a planned match out of the plan and performs it; in TIMER the next one follows 2^36 fine ticks later. -/
def cuTake (s : State) (u : Nat) (m : Match) : State :=
  let h := s.cuOf u
  let plan := h.plan.erase m
  let plan := if h.gov.mode = 3 then plan ++ [{ m with at_ := m.at_ + w36 }] else plan
  cuMatch (s.setCu u { h with plan := plan }) u m.cmp m.up m.at_

/-- R126: the matches of an ending period that are due by instant `x`, in their order. -/
def cuDue (s : State) (u : Nat) (x : Int) : State :=
  let due := (s.cuOf u).plan.filter (fun m => decide (m.at_ ≤ x))
  (sortBy (fun a b => decide (a.at_ ≤ b.at_)) due).foldl (fun s m => cuTake s u m) s

/-- R134: CU_PEND and CU_PERS show the shadows that wait. -/
def cuShowPend (s : State) (u : Nat) : State :=
  let sh := (s.cuOf u).shadow
  let has (r : Nat) : Nat := b2n (sh.any (fun x => x.reg == r))
  let s := s.put F.CU_PEND_per u (has 0)
  let s := s.put F.CU_PEND_cmp u (8 * has 1 + 4 * has 2 + 2 * has 3 + has 4)
  let s := s.put F.CU_PEND_dt u (max (has 5) (max (has 6) (has 7)))
  s.put F.CU_PERS_p u (cuShadow s u 0)

/-- R129, R135: what the unit planned for the instants before `x`: its matches, the placements of set edges, and the edges. -/
def cuTo (s : State) (u : Nat) (x : Int) : State :=
  edgesUntil 64 (placesUntil (cuDue s u (x - 1)) u (x - 1)) u (x - 1)

/-- The instant of the period boundary at which the present period of the unit ends. -/
def CuS.nextBnd (h : CuS) : Option Int := if h.counting && !h.gov.clk then h.gov.len.map (h.pstart + ·) else none

/-- R134: loads the shadows that `p` selects into the active registers; of one register, the latest write. -/
def cuLoadIf (s : State) (u : Nat) (p : Shadow → Bool) : State :=
  let sh := (s.cuOf u).shadow
  let s := (sh.filter p).foldl (fun s x => s.put (cuFld x.reg) (cuIdx u x.reg) x.v) s
  cuShowPend (s.setCu u { s.cuOf u with shadow := sh.filter (fun x => !p x) }) u

/-- R134: the load at the period boundary `b`: the writes held at least 2 ns before it. -/
def cuLoad (s : State) (u : Nat) (b : Int) : State := cuLoadIf s u (fun x => decide (x.held + 128 ≤ b))

/-- The unit counts a period from instant `x`, with the values now in force. -/
def cuPeriod (s : State) (u : Nat) (x : Int) (bnd reset started : Bool) : State :=
  let s := edgesPeriod s u x (cuGov s u) bnd reset started
  let s := cuPlan s u x
  if bnd then cuRaise (cuFlag s u 17) u 0 x else s

/-- R142: the count matches with clk = 1: `c` is the position in the count sequence. -/
def cuClkMatch (s : State) (u : Nat) (c : Nat) (x : Int) : State :=
  [0, 1, 2, 3].foldl (fun s j =>
    let g := (s.cuOf u).gov
    if g.mode = 3 then (if c % 2 ^ 30 = g.cmp.getD j 0 / 64 then cuMatch s u j true x else s)
    else
      let e := g.e j / 64
      if c = e then cuMatch s u j true x
      else if g.mode = 1 ∧ c = 2 * g.p - e then cuMatch s u j false x else s) s

/-! ### Stores to the loaded registers (R133, R134, R136, R141) -/

/-- R141: the dead times and the minimum pulse fit into the period, with `v` as the shadow of register `r`. -/
def cuFits (s : State) (u r v : Nat) : Bool :=
  if s.is F.CU_CTL_bmode u || (1 ≤ r && r ≤ 4) then true
  else
    let x (q : Nat) : Nat := if q = r then v else cuShadow s u q
    x 5 + x 6 + 2 * x 7 ≤ 64 * x 0

/-- R134: a write held from timer edge `h` on goes to the shadow. An earlier write of the register keeps its place where a boundary may
still come at which it loads and the new one does not; where the instant of the next boundary is not known (clk = 1, no counting), until
2 ns after a later write. -/
def cuToShadow (s : State) (u r v : Nat) (h : Int) : State :=
  let stays (x : Shadow) : Bool :=
    match (s.cuOf u).nextBnd with
    | some b => decide (x.held + 128 ≤ b) && decide (b < h + 128)
    | none => decide (x.held < h) &&
        !(s.cuOf u).shadow.any (fun y => y.reg == r && decide (x.held < y.held) && decide (y.held + 128 ≤ s.now))
  let sh := (s.cuOf u).shadow.filter (fun x => x.reg != r || stays x)
  cuShowPend (s.setCu u { s.cuOf u with shadow := sh ++ [⟨r, v, h⟩] }) u

/-- R133: the active register takes a value at timer edge `h` in TIMER, where only the matches of its own compare are planned anew. -/
def cuActiveNow (s : State) (u r v : Nat) (h : Int) : State :=
  let s := cuShowPend (s.put (cuFld r) (cuIdx u r) v) u
  let c := s.cuOf u
  if !c.counting then s
  else
    let c := { c with gov := cuGov s u }
    if c.gov.clk || r == 0 || decide (4 < r) then s.setCu u c
    else
      let m : Match := ⟨r - 1, true, h + ((v : Int) - (h - c.pstart)) % w36⟩
      s.setCu u { c with plan := c.plan.filter (fun m => m.cmp != r - 1) ++ [m] }

/-- R126, R129: the instant of the governing match of compare `j` for the value `e`. -/
def CuS.govAt (h : CuS) (j e : Nat) : Int :=
  let c : Int := (min e (64 * h.gov.p) : Nat)
  h.pstart + (if h.gov.mode = 1 ∧ j % 2 = 1 then 128 * (h.gov.p : Int) - c else c)

/-- R136: the instant of the edge that compare `j` governs, as the unit will make it: the planned clear, the one already made, or the match. -/
def CuS.oldInst (h : CuS) (j : Nat) : Int :=
  let r := h.ref (j / 2)
  if j % 2 = 1 then
    match r.edges.find? (fun e => !e.set && !e.fixed) with
    | some e => e.at_
    | none => r.done.getD (h.inst j)
  else h.inst j

/-- R136: an IMMEDIATE write that is in time moves the edge that compare `j` governs to its match in `h`. A placement made at the very timer
edge `t` at which the write is held is made again. -/
def cuMove (s : State) (u j : Nat) (h : CuS) (t : Int) : State :=
  let k := j / 2
  let r := h.ref k
  if h.gov.len.isNone || (k == 1 && !h.gov.indep) then s.setCu u h
  else if r.place.isSome then
    let s := s.setCu u h
    if j % 2 = 0 then refArm s u k (t + 1) else s
  else if edgeFloorI ((s.cuOf u).inst (2 * k)) - 128 = t then
    let s := s.setCu u (h.setRef k { r with edges := r.edges.filter (·.fixed), acted := false })
    refArm (if r.acted then s.put F.CU_STAT_short u 0 else s) u k (t + 1)
  else if j % 2 = 1 ∧ r.edges.any (fun e => !e.set && !e.fixed) then
    let r : RefS := { r with edges := r.edges.filter (fun e => e.set || e.fixed) }
    s.setCu u (h.setRef k (r.add ⟨h.inst j, false, false⟩))
  else s.setCu u h

/-- R136: an IMMEDIATE write of compare `j`, held at timer edge `t`. DESIGN CHOICE (log 125): where the edge comes late, 2 ns after the write, the
compare's match, its event and its flag come with it. -/
def cuImmediate (s : State) (u j v : Nat) (t : Int) : State :=
  let h := s.cuOf u
  let g := h.gov
  let fl := cuFld (j + 1)
  let ix := cuIdx u (j + 1)
  if !h.counting then s.put fl ix v
  else if g.clk then
    if g.clkPos j (g.cmp.getD j 0) ≤ h.cnt ∧ j ∉ h.force then cuToShadow s u (j + 1) v t
    else
      let s := (s.put fl ix v).setCu u { h with gov := { g with cmp := g.cmp.set j v }, force := h.force.filter (· != j) }
      if g.clkPos j v ≤ h.cnt then
        (s.flag F.CU_STAT_late u).setCu u { s.cuOf u with force := (s.cuOf u).force ++ [j] }
      else s
  else if edgeFloorI (h.oldInst j) - 128 < t then cuToShadow s u (j + 1) v t
  else
    let x := h.govAt j v
    let late := edgeFloorI x - 128 < t
    let x' := if late then t + 128 else x
    let s := s.put fl ix v
    let s := if late then s.flag F.CU_STAT_late u else s
    let down := j % 2 == 1 && g.mode == 1
    let keep := h.plan.filter (fun m => m.cmp != j)
    let h1 := { h with gov := { g with cmp := g.cmp.set j v } }
    let new := (h1.matches_ j v).map (fun m => if m.up != down || (h1.matches_ j v).length == 1 then { m with at_ := x' } else m)
    let h1 := { h1 with plan := keep ++ new.filter (fun m => decide (t ≤ m.at_)), moved := (j, x') :: h1.moved.filter (fun p => p.1 != j) }
    cuMove s u j h1 t

/-- R15, R125, R137, R141: a store of `v` to a loaded register, by a tide or not, that the unit does not take. -/
def cuRefuses (s : State) (u r v : Nat) (tide : Bool) : Bool :=
  (r == 0 && decide (v < 16)) || !cuFits s u r v || (!tide && cuRule s u r == 2)

/-- R15: a store that the unit does not take sets cfgerr, unless it carries the value that the register has. -/
def cuRefuse (s : State) (u r v : Nat) : State := if v = cuActive s u r then s else cuErr s u

/-- R133, R134, R136, R137: the unit takes a store to a loaded register, held at timer edge `w.held`. -/
def cuApply (s : State) (u : Nat) (w : HeldWrite) : State :=
  if cuRefuses s u w.reg w.v (w.by_ == .tide) then cuRefuse s u w.reg w.v
  else if s.get F.CU_CTL_mode u = 3 then cuActiveNow s u w.reg w.v w.held
  else if cuRule s u w.reg = 1 ∧ 1 ≤ w.reg ∧ w.reg ≤ 4 then cuImmediate s u (w.reg - 1) w.v w.held
  else cuToShadow s u w.reg w.v w.held

/-- R14, R122: of two stores to one register held at one timer edge, the first stands: a tide before DUTY, DUTY before a core; of two DUTY
stores that of the lower priority number, then of the lower berth. -/
def Writer.beats (a b : Writer) : Bool :=
  match a, b with
  | .tide, .tide => false
  | .tide, _ => true
  | .duty p x, .duty q y => decide (p < q) || (p == q && decide (x < y))
  | .duty .., .core => true
  | _, _ => false

/-- R20, R122, R134: the unit takes the stores that it holds by instant `x`, each at its timer edge, after what it planned for the instants before.
A store held at a period boundary or later is judged in the period that begins there. A store loses also to one of the same edge that
has acted already. -/
def cuFlush (s : State) (u : Nat) (x : Int) : State :=
  let h := s.cuOf u
  let isDue (w : HeldWrite) : Bool := decide (w.held ≤ x) && h.nextBnd.all (fun b => decide (w.held < b))
  let due := h.held.filter isDue
  if due.isEmpty then s
  else
    let win := due.filter (fun w => !(due ++ h.acted).any (fun q => q.reg == w.reg && q.held == w.held && q.by_.beats w.by_))
    let strong := win.filter (fun w => w.by_ != .core)
    let acted := if strong.isEmpty then h.acted else strong ++ h.acted.filter (fun a => strong.any (fun w => w.held == a.held))
    (sortBy (fun a b => decide (a.held ≤ b.held)) win).foldl (fun s w => cuApply (cuTo s u w.held) u w)
      (s.setCu u { h with held := h.held.filter (fun w => !isDue w), acted := acted })

/-- R20, R134: a store that the unit holds from timer edge `w.held` on. -/
def cuHold (s : State) (u : Nat) (w : HeldWrite) : State :=
  cuFlush (s.setCu u { s.cuOf u with held := (s.cuOf u).held ++ [w] }) u s.now

/-- R134, R136: a core's store to a loaded register, held at the first timer edge at or after its arrival. -/
def cuStore (s : State) (u r v : Nat) : State := cuHold s u ⟨r, v % 2 ^ (cuFld r).w, edgeCeil s.now, .core⟩

/-- R20, R122: a DUTY write of compare `j` by a berth of priority `pri`, held at timer edge `t`. -/
def cuDuty (s : State) (u j v t pri b : Nat) : State := cuHold s u ⟨j + 1, v % 2 ^ 36, t, .duty pri b⟩

/-! ### Starts and stops (R127, R142) -/

/-- The counting of the unit before a change of it at timer edge `x`; of two changes at one edge, that before the first. -/
def CuS.before (h : CuS) (x : Int) (reset : Bool) (n : Nat) : Option CuWas :=
  match h.was with
  | some w => some (if w.edge = x then { w with reset := w.reset && reset } else ⟨x, reset, n, h.toCuRun⟩)
  | none => some ⟨x, reset, n, h.toCuRun⟩

/-- R127, R142: the unit begins to count at instant `x`: from CU_CNT at a start, or from the count it kept through a gate. DESIGN CHOICE (log 126):
a resume through the gate is no period boundary, also where the count kept is 0. -/
def cuGo (s : State) (u : Nat) (x : Int) : State :=
  let s := cuFlush s u x
  let h := s.cuOf u
  let clk := s.is F.CU_SYNC_clk u
  let timer := s.get F.CU_CTL_mode u == 3
  let c := s.get F.CU_CNT_count u
  let pstart := if clk then (if h.fresh then x else h.pstart) else x - 64 * (c : Int)
  let bnd := h.fresh && !timer && c == 0
  let cnt := if h.fresh then c else h.cnt
  let s := s.setCu u { h with counting := true, fresh := false, pstart := pstart, cnt := cnt, was := h.before x false c,
                              wrapDue := pstart + ((x - pstart) / (64 * w36) + 1) * (64 * w36) }
  let s := s.put F.CU_STAT_running u 1
  let s := if bnd then cuLoad s u x else s
  let s := cuPeriod s u x bnd false true
  edgesUntil 64 (if clk && h.fresh then cuClkMatch s u cnt x else s) u x

/-- R125, R127: the count of a counting unit at instant `x`; at a boundary that it has not passed yet, the count is 0 again. -/
def cuCount (s : State) (u : Nat) (x : Int) : Nat :=
  let h := s.cuOf u
  if h.gov.clk then h.cnt else (((x - h.pstart) % h.gov.len.getD (64 * w36)) / 64).toNat

/-- R127, R142: the unit's counting ends at timer edge `x`: what was due by then has happened, and CU_CNT keeps the count. An edge that is
the unit's own period boundary, or in TIMER the wrap, is that still (DESIGN CHOICE, log 112). -/
def cuHalt (s : State) (u : Nat) (x : Int) : State :=
  let s := cuFlush s u x
  let was := (s.cuOf u).before x false (s.get F.CU_CNT_count u)
  let s := cuDue (cuTo s u x) u x
  let h := s.cuOf u
  let n := cuCount s u x
  let s := if h.nextBnd = some x then
      let s := if h.gov.mode = 2 then s else cuLoad (carryClose s u x) u x
      cuRaise (cuFlag s u 17) u 0 x
    else if h.gov.mode = 3 ∧ !h.gov.clk ∧ h.wrapDue ≤ x then cuFlag s u 16
    else s
  let s := (s.hwPut F.CU_CNT_count u n).put F.CU_STAT_running u 0
  edgesStop (s.setCu u { s.cuOf u with counting := false, plan := [], was := was }) u x

/-- R142: unit `u` is a slave that counts only while the unit `m` of its grove counts. -/
def cuGated (s : State) (u m : Nat) : Bool :=
  s.is F.CU_SYNC_gate u && !s.is F.CU_SYNC_xev u && u / 8 * 8 + s.get F.CU_SYNC_master u == m && u != m && (s.cuOf u).on

/-- R142: the slaves that a gate ties to unit `m` start and stop with it, and their slaves with them. -/
def gateSync : Nat → State → Nat → Int → State
  | 0, s, _, _ => s
  | f + 1, s, m, x =>
    (List.range 8).foldl (fun s i =>
      let u := m / 8 * 8 + i
      if cuGated s u m then
        if (s.cuOf m).counting && !(s.cuOf u).counting then gateSync f (cuGo s u x) u x
        else if !(s.cuOf m).counting && (s.cuOf u).counting then gateSync f (cuHalt s u x) u x
        else s
      else s) s

/-- The unit begins to count, and the slaves gated by it. -/
def cuGoAll (s : State) (u : Nat) (x : Int) : State := gateSync 8 (cuGo s u x) u x
/-- The unit stops counting, and the slaves gated by it. -/
def cuHaltAll (s : State) (u : Nat) (x : Int) : State := gateSync 8 (cuHalt s u x) u x

/-- R127, R142: a unit that is on and does not count begins to count at timer edge `x`, unless it waits on its gate. -/
def cuRelease (s : State) (u : Nat) (x : Int) : State :=
  let m := u / 8 * 8 + s.get F.CU_SYNC_master u
  if s.is F.CU_SYNC_gate u && (s.is F.CU_SYNC_xev u || !(s.cuOf m).counting) then s
  else cuGoAll s u x

/-- R28, R127, R142: a start at timer edge `x`: the unit counts, or waits on its gate. While the timer domain stands it has no timer edge, and the
unit starts when the domain does (DESIGN CHOICE, log 127). -/
def cuStart (s : State) (u : Nat) (x : Int) : State :=
  if (s.cuOf u).on then s
  else
    let s := s.setCu u { s.cuOf u with on := true, fresh := true }
    if timerOn s then cuRelease s u x else s

/-- R127: a stop at timer edge `x`. -/
def cuStop (s : State) (u : Nat) (x : Int) : State :=
  let h := s.cuOf u
  let s := s.setCu u { h with on := false, fresh := false }
  if h.counting then cuHaltAll s u x else s

/-- R125: a ONESHOT period ends at instant `b`. -/
def cuOneshotEnd (s : State) (u : Nat) (b : Int) : State :=
  let s := cuDue (cuTo s u b) u b
  let s := s.hwPut F.CU_CTL_run u 0
  let s := s.setCu u { s.cuOf u with on := false, fresh := false, pstart := b }
  let s := cuHaltAll s u b
  cuRaise (cuFlag (s.hwPut F.CU_CNT_count u 0) u 17) u 0 b

/-- R134: the period boundary at instant `b`. -/
def cuBoundary (s : State) (u : Nat) (b : Int) : State :=
  let s := carryClose (cuDue (cuTo s u b) u b) u b
  cuPeriod (cuLoad (s.setCu u { s.cuOf u with pstart := b }) u b) u b true false false

/-- R143: a reset at timer edge `x`. -/
def cuReset (s : State) (u : Nat) (x : Int) : State :=
  let h := s.cuOf u
  if !h.on then s
  else
    let v := s.get F.CU_PHASE_v u
    let mode := s.get F.CU_CTL_mode u
    let p := if h.counting then h.gov.p else cuActive s u 0
    if mode ≠ 3 ∧ (if mode = 1 then 2 * p else p) ≤ v then s.flag F.CU_STAT_phserr u
    else
    let was := h.before x true (s.get F.CU_CNT_count u)
    if !h.counting then (s.hwPut F.CU_CNT_count u v).setCu u { h with fresh := true, was := was }
    else if cuCount s u x = v then s
    else if h.gov.clk then
      let s := s.setCu u { h with cnt := v, was := was }
      let s := if v = 0 ∧ mode ≠ 3 then
          cuPeriod (cuLoad (s.setCu u { s.cuOf u with pstart := x }) u x) u x true true false
        else s
      edgesUntil 64 (cuClkMatch s u v x) u x
    else
      let s := cuTo s u x
      let bnd := v == 0 && mode != 3
      let s := if bnd then carryClose s u x else s
      let y := x - 64 * (v : Int)
      let s := s.setCu u { s.cuOf u with pstart := y, wrapDue := y + 64 * w36, was := was }
      cuPeriod (if bnd then cuLoad s u x else s) u x bnd true false

/-- R129, R136, R142: one count of a clocked slave that counts, at the master event of instant `x`; where a period ends and another begins, the
outputs follow the net of both. -/
def cuClkAt (s : State) (u : Nat) (x : Int) : State :=
  let s := edgesUntil 64 s u (x - 1)
  let h := s.cuOf u
  let g := h.gov
  let c := if g.mode = 3 then (h.cnt + 1) % 2 ^ 36 else h.cnt + 1
  let s := s.setCu u { h with cnt := c, force := [] }
  let s := if g.mode = 3 ∧ c = 0 then cuFlag s u 16 else s
  let s := h.force.foldl (fun s j => cuMatch s u j (!(g.mode == 1 && j % 2 == 1)) x) s
  let s := cuClkMatch s u c x
  let last := if g.mode = 1 then 2 * g.p else g.p
  if g.mode ≠ 3 ∧ c = last then
    if g.mode = 2 then cuOneshotEnd s u x
    else
      let s := s.setCu u { s.cuOf u with cnt := 0, pstart := x }
      edgesUntil 64 (cuClkMatch (cuPeriod (cuLoad s u x) u x true false false) u 0 x) u x
  else edgesUntil 64 s u x

/-- R127, R142, R143: a count at an instant `x` before the edge at which the unit stops or is reset, as `w` says: the unit counts on as it was, and
stands at that edge as the stop or the reset leaves it. -/
def cuClkBefore (s : State) (u : Nat) (x : Int) (w : CuWas) : State :=
  let h := s.cuOf u
  let s := cuClkAt (s.setCu u { h with toCuRun := w.run }) u x
  let a := (s.cuOf u).toCuRun
  if !a.counting then s
  else
    let pick {α : Type} [DecidableEq α] (f : CuRun → α) : α := if f a = f w.run then f h.toCuRun else f a
    let after : CuRun := if w.reset then
        { h.toCuRun with gov := a.gov, ref0 := pick CuRun.ref0, ref1 := pick CuRun.ref1, ioA := pick CuRun.ioA, ioB := pick CuRun.ioB
                         riseA := pick CuRun.riseA, riseB := pick CuRun.riseB }
      else h.toCuRun
    let s := s.setCu u { s.cuOf u with toCuRun := after, was := some { w with run := a } }
    if w.reset then s
    else
      let s := s.hwPut F.CU_CNT_count u a.cnt
      let s := if a.ioA && !w.run.ioA then cuRaise s u 5 w.edge else s
      if a.ioB && !w.run.ioB then cuRaise s u 6 w.edge else s

/-- R136, R142: the master event of instant `x` at a clocked slave: it counts where it counts at that instant. -/
def cuClk (s : State) (u : Nat) (x : Int) : State :=
  let h := s.cuOf u
  match h.was.filter (fun w => decide (x < w.edge)) with
  | some w => if w.run.counting then cuClkBefore s u x w else s
  | none => if h.counting then cuClkAt s u x else s

/-! ### Events of a unit and what follows them (R70, R142) -/

/-- R127: whether the unit counts at instant `x`. -/
def CuS.countsAt (h : CuS) (x : Int) : Bool :=
  match h.was.filter (fun w => decide (x < w.edge)) with
  | some w => w.run.counting
  | none => h.counting

/-- R70, R142, R143: what an event of unit `m` at instant `x` does at once: blanking opens, and the slaves of its grove that select it
count, and then reset, since the timer edge of a reset is not before the event. DESIGN CHOICE (log 113): the events of the very edge at
which a run ends (its period event, the outputs going inactive) open no blanking, as the unit counts no more. -/
def cuFollow (s : State) (m ev : Nat) (x : Int) : State :=
  let s := if (s.cuOf m).countsAt x then blankAll s m ev x.toNat else s
  if 4 < ev then s
  else
    (List.range 8).foldl (fun s i =>
      let u := m / 8 * 8 + i
      if u ≠ m ∧ !s.is F.CU_SYNC_xev u ∧ u / 8 * 8 + s.get F.CU_SYNC_master u = m ∧ s.get F.CU_SYNC_mev u = ev then
        let s := cuFlush s u x
        let s := if s.is F.CU_SYNC_clk u then cuClk s u x else s
        if s.is F.CU_SYNC_rst u then cuReset s u (edgeCeilI x) else s
      else s) s

/-- The events that the command has raised from position `k` of its outputs on, each with what follows it. -/
def cuChain : Nat → Nat → State → State
  | 0, _, s => s
  | f + 1, k, s =>
    match s.out[k]? with
    | some (.fabric 1 u ev x) => cuChain f (k + 1) (cuFollow s u ev x)
    | some _ => cuChain f (k + 1) s
    | none => s

/-- Completes a command that may have raised counter-unit events. -/
def cuSettle (s : State) : State := cuChain 512 0 s
/-- Completes a part of a command that may have raised counter-unit events, from position `k` of its outputs on. -/
def cuSettleFrom (k : Nat) (s : State) : State := cuChain 512 k s

/-! ### Writes (R127, R133, R134, R136, R141 to R143) -/

/-- R142: the unit has a master relation. -/
def syncRel (y : BitVec 36) : Bool :=
  fget y 9 1 == 1 || ((fget y 11 1 == 1 || fget y 10 1 == 1) && fget y 8 1 == 0)

/-- R142: following the masters from CU_SYNC value `y` of unit `u` comes back to `u`. -/
def syncLoop (s : State) (u : Nat) : Nat → BitVec 36 → Bool
  | 0, _ => false
  | f + 1, y =>
    if syncRel y then
      let m := u / 8 * 8 + fget y 15 3
      m == u || syncLoop s u f (s.reg .CU_SYNC m)
    else false

/-- R137, R141: a tide's store to a loaded register, at the tide's instant: to the shadow, and in TIMER to the active register at the first
timer edge at or after it. -/
def cuTide (s : State) (u r v : Nat) : State :=
  let s := cuFlush s u s.now
  let v := v % 2 ^ (cuFld r).w
  if s.get F.CU_CTL_mode u = 3 then cuHold s u ⟨r, v, edgeCeil s.now, .tide⟩
  else if cuRefuses s u r v true then cuRefuse s u r v
  else cuToShadow s u r v s.now

/-- The stores that unit `u` holds by now have acted, with what follows from them. -/
def cuSync (s : State) (u : Nat) : State := cuSettleFrom s.out.length (cuFlush s u s.now)

/-- R151: oen is set after a power-fail sequence began: the unit takes the power-fail response, and HOLD is the internal level. -/
def pinLevel (v pol : Bool) : PinLevel := if v != pol then .high else .low

/-- R151: the power-fail response comes into force for a unit whose oen is set late. -/
def cuLatePf (s : State) (u : Nat) : State :=
  let h := s.cuOf u
  (s.put F.CU_STAT_pfr u 1).setCu u
    { h with pfA := pinLevel h.ioA (s.is F.CU_CTL_pola u), pfB := pinLevel h.ioB (s.is F.CU_CTL_polb u) }

/-- R127: a write of CU_CTL is refused. -/
def cuCtlRefused (s : State) (u v : Nat) : Bool :=
  let mode := F.CU_CTL_mode.of v
  let cfg : Bool := mode != s.get F.CU_CTL_mode u || F.CU_CTL_spp.of v != s.get F.CU_CTL_spp u ||
    F.CU_CTL_bmode.of v != s.get F.CU_CTL_bmode u || F.CU_CTL_pola.of v != s.get F.CU_CTL_pola u ||
    F.CU_CTL_polb.of v != s.get F.CU_CTL_polb u
  (s.is F.CU_CTL_run u && cfg) || F.CU_CTL_spp.of v == 3 || (F.CU_CTL_spp.of v == 2 && F.CU_CTL_bmode.of v == 1) ||
    (F.CU_CTL_run.of v == 1 && !s.is F.CU_CTL_run u && mode != 3 &&
      decide ((if mode = 1 then 2 * cuActive s u 0 else cuActive s u 0) ≤ s.get F.CU_CNT_count u))

/-- R127, R132, R151: a write of CU_CTL. -/
def cuCtlWrite (s : State) (u v : Nat) : State :=
  if cuCtlRefused s u v then cuErr s u
  else
    let run := F.CU_CTL_run.of v
    let run0 := s.get F.CU_CTL_run u
    let oen0 := s.get F.CU_CTL_oen u
    let s := s.setReg .CU_CTL u (fput 0 9 9 (v / 512))
    let s := if F.CU_CTL_oen.of v = 1 ∧ oen0 = 0 ∧ s.is F.PWR_PFSTAT_act 0 ∧ !s.is F.CU_STAT_pfr u then cuLatePf s u else s
    if run = run0 then s
    else if run = 1 then cuStart s u (edgeAfter s.now)
    else cuStop s u (edgeAfter s.now)

/-- R127, R133, R142, R143: a write of a register that can be written only while run is 0. Of CU_CNT while run is 1, the value that a read
returns (R128) is the one that passes without cfgerr (R15). -/
def cuCfgWrite (s : State) (r : RegName) (u : Nat) (new : BitVec 36) : State :=
  if new == s.reg r u && !(r == .CU_CNT && s.is F.CU_CTL_run u) then s
  else if r = .CU_CNT ∧ s.is F.CU_CTL_run u ∧ new = BitVec.allOnes 36 then s
  else
    let per := cuActive s u 0
    let bad : Bool := s.is F.CU_CTL_run u || (match r with
      | .CU_LDM => fget new 16 2 == 1 || fget new 16 2 == 3 || fget new 14 2 == 3 || fget new 12 2 == 3 ||
          fget new 10 2 == 3 || fget new 8 2 == 3
      | .CU_SYNC => 4 < fget new 12 3 || (fget new 9 1 == 1 && fget new 8 1 == 1) || syncLoop s u 8 new
      | .CU_PHASE => s.get F.CU_CTL_mode u != 3 &&
          decide ((if s.get F.CU_CTL_mode u = 1 then 2 * per else per) ≤ new.toNat)
      | _ => false)
    if bad then cuErr s u
    else
      let s1 := s.setReg r u new
      let ch := s.get F.CU_SYNCEV_ch u
      let s2 := retap s s1 ch
      if s1.get F.CU_SYNCEV_ch u = ch then s2 else retap s s2 (s1.get F.CU_SYNCEV_ch u)

/-! ### Capture (R144 to R146) -/

/-- R126, R142, R144: the period time at instant `x` of a unit whose counting is `h`; of one that does not count, that of its count `n`. -/
def CuRun.tau (h : CuRun) (n : Nat) (x : Int) : Nat :=
  let v : Int := if !h.counting then 64 * (n : Int) else if h.gov.clk then 64 * (h.cnt : Int)
    else (x - h.pstart) % h.gov.len.getD w36
  v.toNat % 2 ^ 36

/-- R127, R143, R144: the period time of a unit at instant `x`, before the edge of a start, stop or reset as before it. -/
def cuTau (s : State) (u : Nat) (x : Int) : Nat :=
  let h := s.cuOf u
  match h.was.filter (fun w => decide (x < w.edge)) with
  | some w => w.run.tau w.n x
  | none => h.toCuRun.tau (s.get F.CU_CNT_count u) x

/-- Queue `k` of a unit. -/
def CuS.caps (h : CuS) (k : Nat) : List Capture := if k = 0 then h.cap0 else h.cap1
/-- The unit with queue `k` replaced. -/
def CuS.setCaps (h : CuS) (k : Nat) (q : List Capture) : CuS := if k = 0 then { h with cap0 := q } else { h with cap1 := q }

/-- R144: CU_CAPSTAT shows the queue levels. -/
def capShow (s : State) (u : Nat) : State :=
  (s.put F.CU_CAPSTAT_n0 u (s.cuOf u).cap0.length).put F.CU_CAPSTAT_n1 u (s.cuOf u).cap1.length

/-- R144: an entry joins queue `k`. -/
def capPush (s : State) (u k : Nat) (e : Capture) : State :=
  cuFlag (capShow (s.setCu u ((s.cuOf u).setCaps k ((s.cuOf u).caps k ++ [e]))) u) u (11 - k)

/-- R266: the vector that source `n` is routed to is pending. -/
def srcPending (s : State) (n : Nat) : Bool := s.is F.VU_ROUTE_en n && s.vec .VU_PEND (s.get F.VU_ROUTE_core n) (s.get F.VU_ROUTE_vec n)

/-- R144: records an entry at instant `x`, or overflows at the timer edge that ends the cycle. DESIGN CHOICE (log 114): the overflow shows with
the command of the capture, up to 1 ns early, and a read of the queue in the rest of the cycle takes it back. -/
def cuCapture (s : State) (u k : Nat) (x : Nat) : State :=
  let h := s.cuOf u
  let e : Capture := ⟨cuTau s u x, if s.is F.CU_CAPSRC_ts (u * 2 + k) then some (tbSplit (s.tbAt x)) else none⟩
  if (h.caps k).length < 4 then capPush s u k e
  else
    let b := edgeAfter x
    let s' := cuRaise (cuFlag s u (9 - k)) u 8 b
    let fl := !s.is ⟨.CU_FLAG, 9 - k, 1⟩ u
    let o : CapOver := ⟨k, b, e, fl, !srcPending s u && srcPending s' u, s.srcAtOf (srcKey 1 u 8)⟩
    s'.setCu u { h with lost := h.lost.filter (fun o => decide (s.now < o.edge)) ++ [o] }

/-- R145: a read in the cycle of a capture that met the full queue `k` came first: the entry is recorded, and of its overflow nothing stays
unless another capture of the cycle overflowed too. -/
def capTakeBack (s : State) (u k : Nat) : State :=
  let h := s.cuOf u
  let now (o : CapOver) : Bool := decide (s.now < o.edge)
  match h.lost.find? (fun o => now o && o.queue == k) with
  | none => s
  | some o =>
    let l := h.lost.erase o
    let mine := l.any (fun p => now p && p.queue == k)
    let any := l.any now
    let l := l.map (fun p => if p.queue = k then { p with flag := p.flag || o.flag, fired := p.fired || o.fired } else p)
    let s := s.setCu u { h with lost := l }
    let s := if o.flag && !mine then s.put ⟨.CU_FLAG, 9 - k, 1⟩ u 0 else s
    let s := if o.fired && !mine then s.clrVec .VU_PEND (s.get F.VU_ROUTE_core u) (s.get F.VU_ROUTE_vec u) else s
    let s := if any then s else s.setSrcAt (srcKey 1 u 8) o.prev
    capPush s u k o.entry

/-- R145: a double-word read of a queue head. -/
def cuCapRead (s : State) (u k : Nat) : Nat × State :=
  match (s.cuOf u).caps k with
  | [] => (2 ^ 36 - 1, s)
  | e :: q =>
    let (a, b) := e.stamp.getD (0, 0)
    let s := capTakeBack (capShow (s.setCu u ((s.cuOf u).setCaps k q)) u) u k
    (e.tau, (s.put F.CU_CAPTSH_v (u * 2 + k) a).put F.CU_CAPTSL_v (u * 2 + k) b)

/-- R8, R145: the head of a queue, as a word read of either half sees it. -/
def cuCapHead (s : State) (u k : Nat) : Nat :=
  match (s.cuOf u).caps k with
  | [] => 2 ^ 36 - 1
  | e :: _ => e.tau

/-- R28, R144, R146: a write of CU_CAPSRCn; no unit captures while the timer domain stands. -/
def cuCapSrcWrite (s : State) (u k v : Nat) : State :=
  let i := u * 2 + k
  let s0 := s
  let s := if s.is F.CU_CAPSRC_en i && F.CU_CAPSRC_en.of v == 0 then capShow (s.setCu u ((s.cuOf u).setCaps k [])) u else s
  let s := ((s.put F.CU_CAPSRC_en i (F.CU_CAPSRC_en.of v)).put F.CU_CAPSRC_ts i (F.CU_CAPSRC_ts.of v)).put
    F.CU_CAPSRC_ch i (F.CU_CAPSRC_ch.of v)
  let ch := s0.get F.CU_CAPSRC_ch i
  let s := retap s0 s ch
  let s := if s.get F.CU_CAPSRC_ch i = ch then s else retap s0 s (s.get F.CU_CAPSRC_ch i)
  if F.CU_CAPSRC_swcap.of v = 1 ∧ timerOn s then cuCapture s u k (edgeCeil s.now) else s

/-- R128: a read of CU_CNT. -/
def cuCntRead (s : State) (u : Nat) : Nat × State :=
  if s.is F.CU_CTL_run u then (2 ^ 36 - 1, s.flag F.CU_STAT_readrun u) else (s.get F.CU_CNT_count u, s)

/-! ### Pins (R132, R149, R151) -/

/-- R149: the level of a response code; 3 holds the level `hold`. -/
def respLevel (code : Nat) (hold : PinLevel) : PinLevel :=
  match code with
  | 0 => .low
  | 1 => .high
  | 2 => .z
  | _ => hold

/-- R132: the state that a unit gives its output pin `w` (0: A; 1: B). -/
def unitPin (s : State) (u w : Nat) : PinLevel :=
  let h := s.cuOf u
  let pol := s.is (if w = 0 then F.CU_CTL_pola else F.CU_CTL_polb) u
  if !s.is F.CU_CTL_oen u then .z
  else if s.is F.CU_STAT_pfr u then
    respLevel (s.get (if w = 0 then F.CU_RESP_pfA else F.CU_RESP_pfB) u) (if w = 0 then h.pfA else h.pfB)
  else if s.is F.CU_STAT_tripped u then
    respLevel (s.get (if w = 0 then F.CU_RESP_trA else F.CU_RESP_trB) u) (if w = 0 then h.holdA else h.holdB)
  else if !h.counting || s.get F.CU_CTL_mode u == 3 then pinLevel false pol
  else pinLevel (if w = 0 then h.ioA else h.ioB) pol

/-- R132, R411, R427: the state of output pin `w` (0: A; 1: B) of unit `u` at the ball. -/
def outPin (s : State) (u w : Nat) : PinLevel := scanPin s (outBall u w) (awakePin s (unitPin s u w))

/-! ### The commands -/

/-- R127: a write of CU_CTL that would set run. -/
def execCuStart (t : Nat) (u : Fin 128) (v : Word) (s : State) : Host.Outcome State Fault Refusal :=
  event t s (fun s => !s.is F.CU_CTL_run u && F.CU_CTL_run.of v.toNat == 1) (fun s => cuSettle (cuCtlWrite s u (s.yielded .CU_CTL u .base v.toNat)))

/-- R127: a write of CU_CTL that clears run. -/
def execCuStop (t : Nat) (u : Fin 128) (v : Word) (s : State) : Host.Outcome State Fault Refusal :=
  event t s (fun s => s.is F.CU_CTL_run u && F.CU_CTL_run.of v.toNat == 0) (fun s => cuSettle (cuCtlWrite s u (s.yielded .CU_CTL u .base v.toNat)))

/-- R132, R151: a write of CU_CTL that changes oen. -/
def execOutputEnable (t : Nat) (u : Fin 128) (v : Word) (s : State) : Host.Outcome State Fault Refusal :=
  event t s (fun s => F.CU_CTL_oen.of v.toNat != s.get F.CU_CTL_oen u) (fun s => cuSettle (cuCtlWrite s u (s.yielded .CU_CTL u .base v.toNat)))

/-- R125, R134: the count returns to 0. -/
def execPeriodBoundary (t : Nat) (u : Fin 128) (s : State) : Host.Outcome State Fault Refusal :=
  event t s
    (fun s =>
      let h := s.cuOf u
      h.counting && !h.gov.clk && h.gov.mode != 2 &&
        (match h.gov.len with | some l => decide (h.pstart + l ≤ s.now) | none => false))
    (fun s => cuSettle (cuFlush (cuBoundary (cuFlush s u s.now) u ((s.cuOf u).pstart + (s.cuOf u).gov.len.getD 0)) u s.now))

/-- R125: a ONESHOT count reaches P. -/
def execOneshotEnd (t : Nat) (u : Fin 128) (s : State) : Host.Outcome State Fault Refusal :=
  event t s
    (fun s =>
      let h := s.cuOf u
      h.counting && !h.gov.clk && h.gov.mode == 2 && decide (h.pstart + h.gov.len.getD 0 ≤ s.now))
    (fun s => cuSettle (cuFlush (cuOneshotEnd (cuFlush s u s.now) u ((s.cuOf u).pstart + (s.cuOf u).gov.len.getD 0)) u s.now))

/-- R125: a TIMER counter wraps to 0. -/
def execTimerWrap (t : Nat) (u : Fin 128) (s : State) : Host.Outcome State Fault Refusal :=
  event t s
    (fun s =>
      let h := s.cuOf u
      h.counting && !h.gov.clk && h.gov.mode == 3 && decide (h.wrapDue ≤ s.now))
    (fun s => cuFlag (s.setCu u { s.cuOf u with wrapDue := (s.cuOf u).wrapDue + 64 * w36 }) u 16)

/-- A command that meets something that unit `u` planned for an instant by now: the stores that the unit holds act first. -/
def cuEvent (t u : Nat) (s : State) (cond : State → Bool) (eff : State → State) : Host.Outcome State Fault Refusal :=
  event t s (fun _ => true) (fun s =>
    let s := cuFlush s u s.now
    cuSettle (if cond s then eff s else s))

/-- R126: a planned match of compare `c` is reached. -/
def execCompareMatch (t : Nat) (u : Fin 128) (c : Fin 4) (up : Bool) (s : State) : Host.Outcome State Fault Refusal :=
  cuEvent t u s
    (fun s => (s.cuOf u).plan.any (fun m => m.cmp == c.val && m.up == up && decide (m.at_ ≤ (s.now : Int))))
    (fun s => match (s.cuOf u).plan.find? (fun m => m.cmp == c.val && m.up == up && decide (m.at_ ≤ (s.now : Int))) with
      | some m => cuTake s u m
      | none => s)

/-- R135, R138: the set edge of R (`k` = 0) or R2 is placed. -/
def execEdgePlacement (t : Nat) (u : Fin 128) (k : Fin 2) (s : State) : Host.Outcome State Fault Refusal :=
  cuEvent t u s
    (fun s => match ((s.cuOf u).ref k).place with | some c => decide (c ≤ s.now) | none => false)
    (fun s => match ((s.cuOf u).ref k).place with | some c => refPlace s u k c | none => s)

/-- R130: the earliest planned edge of the unit is reached. -/
def execOutputEdge (t : Nat) (u : Fin 128) (s : State) : Host.Outcome State Fault Refusal :=
  cuEvent t u s
    (fun s => match (s.cuOf u).nextEdge with | some x => decide (x ≤ s.now) | none => false)
    (fun s => match (s.cuOf u).nextEdge with | some x => edgesAt s u x | none => s)

/-- R134: a store to a register whose load rule is PERIOD. -/
def execPeriodLoadWrite (t : Nat) (u : Fin 128) (r : Fin 8) (v : DWord) (s : State) : Host.Outcome State Fault Refusal :=
  event t s (fun s => cuRule s u r == 0) (fun s => cuSettle (cuStore s u r v.toNat))

/-- R136: a store to a compare register whose load rule is IMMEDIATE. -/
def execImmediateWrite (t : Nat) (u : Fin 128) (c : Fin 4) (v : DWord) (s : State) : Host.Outcome State Fault Refusal :=
  event t s (fun s => cuRule s u (c.val + 1) == 1) (fun s => cuSettle (cuStore s u (c.val + 1) v.toNat))

/-- R128: a double-word read of CU_CNT. -/
def execCuCntRead (t : Nat) (u : Fin 128) (s : State) : Host.Outcome State Fault Refusal :=
  let r := cuCntRead (s.tick t) u
  .next (r.2.emit (.data r.1))

/-- R142, R143, R158: an event of the channel that a unit with xev = 1 selects arrives. A unit that waits on its gate takes the reset first, and
starts from the value that it loads. -/
def execSyncEvent (t : Nat) (u : Fin 128) (s : State) : Host.Outcome State Fault Refusal :=
  event t s (fun s => timerOn s && s.is F.CU_SYNC_xev u && arrives s (s.get F.CU_SYNCEV_ch u) ⟨3, u⟩ t)
    (fun s =>
      let s := arrive s (s.get F.CU_SYNCEV_ch u) ⟨3, u⟩ t
      let x : Int := edgeCeil t
      let s := cuFlush s u (x - 1)
      let s := if s.is F.CU_SYNC_rst u then cuReset s u x else s
      let h := s.cuOf u
      cuSettle (if s.is F.CU_SYNC_gate u && h.on && h.fresh && !h.counting then cuGoAll s u x else s))

/-- R28, R144, R158: an event arrives at an enabled capture input. -/
def execCapture (t : Nat) (u : Fin 128) (k : Fin 2) (s : State) : Host.Outcome State Fault Refusal :=
  let i := u.val * 2 + k
  event t s (fun s => timerOn s && s.is F.CU_CAPSRC_en i && arrives s (s.get F.CU_CAPSRC_ch i) ⟨4, i⟩ t)
    (fun s => cuSettle (cuCapture (arrive s (s.get F.CU_CAPSRC_ch i) ⟨4, i⟩ t) u k t))

/-- R145: a double-word read of CU_CAPn. -/
def execCaptureRead (t : Nat) (u : Fin 128) (k : Fin 2) (s : State) : Host.Outcome State Fault Refusal :=
  let r := cuCapRead (s.tick t) u k
  .next (r.2.emit (.data r.1))

/-- R146: a write of CU_CAPSRCn with swcap = 1. -/
def execSoftwareCapture (t : Nat) (u : Fin 128) (k : Fin 2) (v : Word) (s : State) : Host.Outcome State Fault Refusal :=
  event t s (fun _ => F.CU_CAPSRC_swcap.of v.toNat == 1) (fun s => cuSettle (cuCapSrcWrite s u k v.toNat))

end Sys2Proof.Machine
end

