-- ==== Sys2Proof/Machine/Trip.lean ====
section
/-! DEFINITION. Trip zones and the trip response of the counter units (06_counter_units.md, R147 to R152; 03_window_comparators.md,
R68). -/

namespace Sys2Proof.Machine

/-- R263: core `c` is LOCKED. -/
def coreLocked (s : State) (c : Nat) : Bool := s.get F.CORE_STAT_state c == 4

/-- R147, R357, R358: the fault of a link port: it is quarantined, or its partner has been declared absent and is not back. -/
def portFault (s : State) (p : Nat) : Bool :=
  s.get F.LK_PSTAT_state p == 4 || (s.is F.LK_PSTAT_absent p && s.get F.LK_PSTAT_state p != 3)

/-- R147: pin TRIP_nn stands at its active level. -/
def tripPinOn (s : State) (i : Nat) : Bool := (s.tripPinOf i).lvl == (s.get F.TRIP_POL_pol 0).testBit i

/-- R147: the source of code `code` (as in TZ_STAT.first) is selected by zone `z`. -/
def tzSelects (s : State) (z code : Nat) : Bool :=
  if code < 128 then (s.get F.WC_TRIP_zone code).testBit z
  else if code < 144 then (s.get F.TZ_PIN_pin z).testBit (code - 128)
  else if code < 160 then (s.get F.TZ_CORE_core z).testBit (code - 144)
  else if code < 164 then (s.get F.TZ_LINK_port z).testBit (code - 160)
  else false

/-- R147: the source of code `code` is asserted at zone `z`. -/
def tzAsserted (s : State) (z code : Nat) : Bool :=
  if code < 128 then (wcReq s code).testBit z
  else tzSelects s z code &&
    (if code < 144 then tripPinOn s (code - 128)
     else if code < 160 then coreLocked s (code - 144)
     else portFault s (code - 160))

/-- R154: TZ_STAT.now: a source of the zone is asserted. -/
def tzNow (s : State) (z : Nat) : Bool := (List.range 164).any (tzAsserted s z)

/-- R72, R147, R148: a source that is no longer asserted may still latch within 2.5 ns of its request, which must be newer than the
latest unlatching of the zone; so may a comparator request that first asserted as its blanking came into force. -/
def tzRecent (s : State) (z code : Nat) : Bool :=
  let since := (s.tzOf z).unlatAt
  if code < 128 then
    let h := s.wcOf code
    tzSelects s z code &&
      ((match h.reqOff with | some x => decide (s.now ≤ x + 160) && decide (since ≤ h.reqOn) | none => false) ||
       (match h.race with | some x => decide (s.now ≤ x + 160) && decide (since ≤ x) | none => false))
  else if code < 144 then
    let p := s.tripPinOf (code - 128)
    let on := if (s.get F.TRIP_POL_pol 0).testBit (code - 128) then p.rise else p.fall
    let off := if (s.get F.TRIP_POL_pol 0).testBit (code - 128) then p.fall else p.rise
    tzSelects s z code && decide (on ≤ off) && decide (s.now ≤ off + 160) && decide (since ≤ on) && decide (0 < off)
  else false

/-- R149: some reason trips unit `u`. -/
def cuTripReason (s : State) (u : Nat) : Bool :=
  s.is F.CU_STAT_olkt u || (List.range 16).any (fun z => (s.get F.CU_TZM_zone u).testBit z && s.is F.TZ_STAT_lat z)

/-- R149, R152: the trip response of unit `u` comes into force, goes, or waits for the boundary at which the unit resumes. -/
def cuTripEval (s : State) (u : Nat) : State :=
  let h := s.cuOf u
  if cuTripReason s u then
    if s.is F.CU_STAT_tripped u then s.setCu u { h with resume := none }
    else
      (s.put F.CU_STAT_tripped u 1).setCu u
        { h with resume := none, holdA := pinLevel h.ioA (s.is F.CU_CTL_pola u), holdB := pinLevel h.ioB (s.is F.CU_CTL_polb u) }
  else if s.is F.CU_STAT_tripped u && h.resume.isNone then
    if !h.counting || h.gov.mode == 2 || h.gov.mode == 3 then
      let x : Int := edgeAfter s.now
      let s := (s.put F.CU_STAT_tripped u 0).setCu u { h with riseA := none, riseB := none }
      cuSetIo (cuSetIo s u 0 false x) u 1 false x
    else s.setCu u { h with resume := some ((s.now : Int) + 128) }
  else s

/-- R149: every unit takes its trip response or loses its reason. -/
def cuTripAll (s : State) : State := (List.range 128).foldl cuTripEval s

/-- R147, R153: zone `z` latches, from the source of code `code`. -/
def tzLatch (s : State) (z code : Nat) : State :=
  if s.is F.TZ_STAT_lat z then
    if (s.tzOf z).latAt = s.now ∧ code < s.get F.TZ_STAT_first z then s.put F.TZ_STAT_first z code else s
  else
    let s := (s.flag F.TZ_STAT_lat z).put F.TZ_STAT_first z code
    let s := s.setTz z { s.tzOf z with latAt := s.now }
    let s := (s.raise 2 z 0).fireIf (s.is F.TZ_IEN_lat z) (128 + z)
    cuTripAll s

/-- R320: every zone latches as if TZ_LINK.force had been written. -/
def tzLatchAll (s : State) : State := (List.range 16).foldl (fun s z => tzLatch s z 164) s

/-- R147: the zones that select the source of code `code` latch. -/
def tzSource (s : State) (code : Nat) : State :=
  (List.range 16).foldl (fun s z => if tzSelects s z code then tzLatch s z code else s) s

/-- R152: a write through the clear alias unlatches the zone; a source still asserted latches it again at once. -/
def tzUnlatch (s : State) (z : Nat) : State :=
  if s.is F.TZ_STAT_lat z then
    let s := (s.put F.TZ_STAT_lat z 0).setTz z { s.tzOf z with unlatAt := s.now }
    match (List.range 164).find? (tzAsserted s z) with
    | some c => tzLatch s z c
    | none => cuTripAll s
  else s

/-- R147: a write of TZ_LINK. -/
def tzLinkWrite (s : State) (z v : Nat) : State :=
  let s := s.put F.TZ_LINK_port z (F.TZ_LINK_port.of v)
  if F.TZ_LINK_force.of v = 1 then tzLatch s z 164 else s

/-- R149: a write of CU_TZM. -/
def cuTzmWrite (s : State) (u v : Nat) : State :=
  cuSettle (cuTripEval (s.put F.CU_TZM_zone u (F.CU_TZM_zone.of v)) u)

/-- R150: a clear-alias write of CU_STAT.olkt, effective only while the owning core is not LOCKED. -/
def cuOlktClear (s : State) (u : Nat) : State :=
  if s.is F.CU_STAT_olkt u && !coreLocked s (s.get F.CU_RESP_owner u) then
    cuTripEval (s.put F.CU_STAT_olkt u 0) u
  else s

/-- R150: the lockup of core `c` trips the units that it owns with olk = 1. -/
def cuOwnerLockup (s : State) (c : Nat) : State :=
  (List.range 128).foldl (fun s u =>
    if s.is F.CU_RESP_olk u && s.get F.CU_RESP_owner u == c then cuTripEval (s.flag F.CU_STAT_olkt u) u else s) s

/-- R151, R340: the power-fail response comes into force for every unit with oen = 1. -/
def cuPowerFail (s : State) : State :=
  (List.range 128).foldl (fun s u =>
    if s.is F.CU_CTL_oen u && !s.is F.CU_STAT_pfr u then
      let h := s.cuOf u
      let trip := s.is F.CU_STAT_tripped u
      let a := if trip then unitPin s u 0 else pinLevel h.ioA (s.is F.CU_CTL_pola u)
      let b := if trip then unitPin s u 1 else pinLevel h.ioB (s.is F.CU_CTL_polb u)
      (s.put F.CU_STAT_pfr u 1).setCu u { h with pfA := a, pfB := b }
    else s) s

/-! ### The commands -/

/-- R147: a source of the zone has asserted, and the zone latches it; in Dormant and Vigil none is sensed (R411). -/
def execTripLatch (t : Nat) (z : Fin 16) (code : BitVec 8) (s : State) : Host.Outcome State Fault Refusal :=
  event t s (fun s => decide (s.rung < 5) && (tzAsserted s z code.toNat || tzRecent s z code.toNat)) (fun s => cuSettle (tzLatch s z code.toNat))

/-- R147: a write of TZ_LINK with force = 1. -/
def execTripForce (t : Nat) (z : Fin 16) (v : Word) (s : State) : Host.Outcome State Fault Refusal :=
  event t s (fun _ => F.TZ_LINK_force.of v.toNat == 1) (fun s => cuSettle (tzLinkWrite s z v.toNat))

/-- R13, R152: a clear-alias write of TZ_STAT.lat; it does not clear a latch of the same timer cycle. -/
def execTripUnlatch (t : Nat) (z : Fin 16) (s : State) : Host.Outcome State Fault Refusal :=
  event t s (fun s => s.is F.TZ_STAT_lat z && F.TZ_STAT_lat.of (s.yielded .TZ_STAT z .clr F.TZ_STAT_lat.mask.toNat) == 1) (fun s => cuSettle (tzUnlatch s z))

/-- R147: a TRIP_nn pin changes its level. -/
def execTripPinChange (t : Nat) (n : Fin 16) (lvl : Bool) (s : State) : Host.Outcome State Fault Refusal :=
  event t s (fun s => (s.tripPinOf n).lvl != lvl)
    (fun s =>
      let p := s.tripPinOf n
      (s.setTripPin n (if lvl then { p with lvl := true, rise := s.now } else { p with lvl := false, fall := s.now })).raise 15 n 0)

end Sys2Proof.Machine
end

