-- ==== Sys2Proof/Machine/Entry.lean ====
section
/-! DEFINITION. Traps, gates, interrupts, lockup, core reset and the watchdog (11_authority_traps_interrupts.md, R254 to R271; R221 for
WFI). -/

namespace Sys2Proof.Machine

/-! ### Descriptors (R255, R258, R267) -/

/-- R201, R282: a line of SRAM read by a requester: its 72 bits with the conjunction of its four tags; none where a word is
uncorrectable. -/
def readLine (s : State) (req c a : Nat) : Option (Line × Bool) × State :=
  let k := sramIx a
  let (w0, s) := sramRead s req c k
  let (w1, s) := sramRead s req c (k + 1)
  let (w2, s) := sramRead s req c (k + 2)
  let (w3, s) := sramRead s req c (k + 3)
  match w0, w1, w2, w3 with
  | some x, some y, some z, some u => (some (x.w ++ y.w ++ z.w ++ u.w, x.tag && y.tag && z.tag && u.tag), s)
  | _, _, _, _ => (none, s)

/-- Word `i` (0 highest) of a line. -/
def lineW (d : Line) (i : Nat) : BitVec 18 := d.extractLsb' (54 - 18 * i) 18

/-- R255: a valid code entry. -/
def codeOk (k : Cap) : Bool := k.tag && k.otype == 63 && k.has permEX && k.base.toNat % 4 == 0 && decide (4 ≤ k.len.toNat)

/-- R255: a valid stack capability. -/
def stackOk (k : Cap) : Bool := k.tag && k.otype == 0 && k.has permLD && k.has permST

/-- R258, cycles 5 to 10: lines 0 to 2 of a descriptor: the failing step (0: none) and the capabilities. -/
def readEntry (s : State) (req c a : Nat) (sr : BitVec 12) : (Nat × Desc) × State :=
  match readLine s req c a with
  | (none, s) => ((2, {}), s)
  | (some (d0, t0), s) =>
    let code := Cap.ofLine d0 t0
    if !codeOk code then ((4, {}), s)
    else
      match readLine s req c (a + 8) with
      | (none, s) => ((2, {}), s)
      | (some (d1, t1), s) =>
        let stack := Cap.ofLine d1 t1
        if !stackOk stack then ((5, {}), s)
        else
          match readLine s req c (a + 16) with
          | (none, s) => ((2, {}), s)
          | (some (d2, t2), s) => ((if t2 then 0 else 6, ⟨code, stack, Cap.ofLine d2 t2, sr⟩), s)

/-- R255, R258, cycles 3 to 10: the failing step (0: none), the policy, and the descriptor under HANDLE. -/
def readDesc (s : State) (c a : Nat) : (Nat × Nat × Desc) × State :=
  match readLine s 0 c (a + 24) with
  | (none, s) => ((2, 0, {}), s)
  | (some (d3, _), s) =>
    let pol := ((lineW d3 0).extractLsb' 16 2).toNat
    if 2 ≤ pol then ((3, pol, {}), s)
    else if pol = 1 then ((0, 1, {}), s)
    else
      let ((step, d), s) := readEntry s 0 c a ((lineW d3 1).extractLsb' 0 12)
      ((step, 0, d), s)

/-! ### Frames (R256) -/

/-- R256: the address of the next frame. -/
def frameAt (s : State) (c depth : Nat) : Nat := s.get F.CORE_FRM_base c + 40 * depth

/-- R258, step 11: the lockup step of a missing frame area: 7, 8, or 0 where there is room. -/
def frameStep (s : State) (c : Nat) : Nat :=
  let depth := s.get F.CORE_FSP_depth c
  if s.get F.CORE_FRM_size c = 0 ∨ inOwnBank s c (frameAt s c depth) 40 = false then 7
  else if depth = s.get F.CORE_FRM_size c then 8
  else 0

/-- R279: the new owner of the bank of the next frame waits for its handover. -/
def frameWaits (s : State) (c : Nat) : Bool :=
  let f := frameAt s c (s.get F.CORE_FSP_depth c)
  inOneBank f 40 && awaitsBank s c (bankAt f)

/-- R256: lines 0 to 4 of a frame at `f`. -/
def frameLines (h : CoreS) (f kind cpri cause w3 : Nat) (ret : Addr) (fault : Int) : List FrameLine :=
  let w2 : BitVec 18 := BitVec.ofNat 18 (kind * 2 ^ 16 + cpri * 2 ^ 12 + cause * 2 ^ 6)
  [⟨f, h.pcc.line, h.pcc.tag⟩, ⟨f + 8, (h.cap 6).line, (h.cap 6).tag⟩, ⟨f + 16, (h.cap 7).line, (h.cap 7).tag⟩,
   ⟨f + 24, ret.setWidth 36 ++ w2 ++ BitVec.ofNat 18 w3, false⟩,
   ⟨f + 32, BitVec.ofInt 36 fault ++ h.sr.setWidth 18 ++ (0 : BitVec 18), false⟩]

/-- R258, cycles 17 and 18: the handler's capabilities and seal range, and its first instruction. -/
def CoreS.enter (h : CoreS) (d : Desc) : CoreS :=
  { (h.setCap 6 d.stack).setCap 7 d.auth with sr := d.sr, pcc := { d.code with otype := 0 }, pc := d.code.base, drain := false }

/-! ### Lockup and HALT (R259, R263) -/

/-- R263, R411, R427: the level that the device lets the pin LOCKUP_N have, open drain and shared by the cores: false (low) while any core is
LOCKED, and released in Dormant and Vigil. -/
def lockupN (s : State) : Bool :=
  scanPin s lockupBall (awakePin s (if (List.range 16).any (fun c => s.get F.CORE_STAT_state c == 4) then .low else .z)) != .low

/-- R263: core `c` locks up. -/
def lockup (s : State) (c step kind cause : Nat) : State :=
  let h := s.coreOf c
  let s := s.setCore c { h with trap := none, pres := none }
  let s := ((s.put F.CORE_STAT_state c 4).put F.CORE_LKINFO_step c step).put F.CORE_LKINFO_kind c kind
  let s := (s.put F.CORE_LKINFO_cause c cause).put F.CORE_LKADR_addr c h.pc.toNat
  let s := lockBreakCore (s.fire (672 + c)) c 1
  cuSettle (cuOwnerLockup (tzSource s (144 + c)) c)

/-- R259: core `c` halts. -/
def halt (s : State) (c : Nat) : State :=
  let s := s.setCore c { s.coreOf c with trap := none, pres := none }
  lockBreakCore ((s.put F.CORE_STAT_state c 3).fire (672 + c)) c 2

/-! ### Trap entry (R258) -/

/-- R203: the opcode is assigned. -/
def opAssigned (op : Nat) : Bool :=
  let within (a b : Nat) : Bool := decide (a ≤ op) && decide (op ≤ b)
  op == 1 || within 0o010 0o035 || within 0o040 0o052 || within 0o060 0o071 || within 0o100 0o107 || within 0o110 0o113 ||
    within 0o120 0o123 || within 0o140 0o150 || within 0o160 0o170 || within 0o200 0o205 || within 0o210 0o215 ||
    within 0o220 0o225 || within 0o230 0o231 || within 0o240 0o242 || within 0o300 0o303 || within 0o320 0o335

/-- The trap to enter: the one that the core holds, or one of its fetch (R249, R254), with the state after the fetch. At the boundary where
an interrupt is taken nothing is fetched (R236, R237). -/
def trapDue (s : State) (c : Nat) (f : FetchFault) : Option TrapReq × State :=
  let h := s.coreOf c
  let a := h.pc.toNat
  let req (cause : Nat) (fault : Int) : Option TrapReq := some ⟨cause, 0, h.pc, fault⟩
  if (s.get F.CORE_STAT_state c == 1) && h.rst.isNone then
    match h.trap with
    | some tr => (some tr, s)
    | none =>
      if takesNow s c then (none, s)
      else if !h.fetchOk then (req 6 a, s)
      else
        match fetch s c a, f with
        | (.trap cause, s1), _ => (req cause a, s1)
        | (.ok, s1), .illegal op => (if opAssigned op.toNat then none else req 0 0, s1)
        | _, _ => (none, s)
  else (none, s)

/-- R258: trap entry; it waits for a bank that the core is about to own, and for room in the frame queue. -/
def trapEntry (s : State) (c : Nat) (tr : TrapReq) : State :=
  let tb := s.get F.CORE_TDT_base c + 32 * tr.cause
  if (inOneBank tb 32 && awaitsBank s c (bankAt tb)) || frameWaits s c || decide (11 < (s.coreOf c).fq.length) then s
  else
    let h := ({ (s.coreOf c).settle (s.coreOf c).mul with mul := none, trap := none }).ranOn
    let s := s.setCore c h
    if !s.is F.CORE_TDT_en c || !inOwnBank s c tb 32 then lockup s c 1 0 tr.cause
    else
      let ((step, pol, d), s) := readDesc s c tb
      if step ≠ 0 then lockup s c step 0 tr.cause
      else if pol = 1 then halt s c
      else if frameStep s c ≠ 0 then lockup s c (frameStep s c) 0 tr.cause
      else
        let depth := s.get F.CORE_FSP_depth c
        let fl := frameLines h (frameAt s c depth) 0 (s.get F.VU_STAT_cpri c) tr.cause tr.code tr.ret tr.fault
        (s.put F.CORE_FSP_depth c (depth + 1)).setCore c { h.enter d with fq := h.fq ++ fl }

/-- R258: a trap is entered. -/
def execTrapEntry (t : Nat) (c : Fin 16) (f : FetchFault) (s : State) : Host.Outcome State Fault Refusal :=
  let s := s.tick t
  match trapDue s c f with
  | (some tr, s') => ok (trapEntry s' c tr)
  | (none, _) => ok s

/-- R256: the frame queue writes its oldest line. -/
def execFrameLinePerform (t : Nat) (c : Fin 16) (s : State) : Host.Outcome State Fault Refusal :=
  let s := s.tick t
  match (s.coreOf c).fq with
  | [] => ok s
  | l :: fq =>
    let k := sramIx l.ea
    let s := s.setCore c { s.coreOf c with fq := fq }
    let s := sramOver (sramOver s 0 c k (lineW l.d 0) l.tag) 0 c (k + 1) (lineW l.d 1) l.tag
    ok (sramOver (sramOver s 0 c (k + 2) (lineW l.d 2) l.tag) 0 c (k + 3) (lineW l.d 3) l.tag)

/-! ### KGO and RETT (R260, R261) -/

/-- R261: a gate: GT and not EX, base a multiple of 8, length at least 32. -/
def gateOk (k : Cap) : Bool := k.has permGT && !k.has permEX && k.base.toNat % 8 == 0 && decide (32 ≤ k.len.toNat)

/-- R258, R261: the lines of a descriptor, in the order in which they are read. -/
def gateLines : List Nat := [24, 0, 8, 16]

/-- R261, R275: KGO, with the state of the device after it; its lines may lie in several banks of the core. -/
def kgo (x : Fields) (c : Nat) (s : State) (h : CoreS) : CoreRes × State :=
  let k := h.cap x.ks
  let a := k.base.toNat
  if !capLegal x then (illegal, s)
  else if !k.tag then (.trap 1 0, s)
  else if k.otype ≠ 63 || !gateOk k then (.trap 9 0, s)
  else if !gateLines.all (fun i => regionOf (a + i) == .sram) then (.trap 13 0, s)
  else if gateLines.any (fun i => awaitsBank s c (bankAt (a + i))) then (.wait, s)
  else if let some i := gateLines.find? (fun i => !ownsBank s c (bankAt (a + i))) then (.trap 11 (a + i : Nat), s)
  else
    let ((step, pol, d), s1) := readDesc s c a
    if step = 2 then (.trap 10 a, s1)
    else if step ≠ 0 ∨ pol ≠ 0 then (.trap 13 0, s1)
    else if frameWaits s1 c || decide (11 < h.fq.length) then (.wait, s)
    else if frameStep s1 c ≠ 0 then (.trap 13 0, s1)
    else
      let depth := s1.get F.CORE_FSP_depth c
      let fl := frameLines h (frameAt s1 c depth) 2 (s1.get F.VU_STAT_cpri c) 0 0 (h.pc + 4) 0
      let h' := { h.enter d with fq := h.fq ++ fl }
      (.goto h' h'.pc, s1.put F.CORE_FSP_depth c (depth + 1))

/-- R260: RETT, with the state of the device after it. -/
def rett (x : Fields) (c : Nat) (s : State) (h : CoreS) : CoreRes × State :=
  let depth := s.get F.CORE_FSP_depth c
  let f := frameAt s c (depth - 1)
  if !capLegal x then (illegal, s)
  else if !h.fq.isEmpty then (.wait, s)
  else if depth = 0 then (.trap 12 0, s)
  else if inOneBank f 40 && awaitsBank s c (bankAt f) then (.wait, s)
  else if !inOwnBank s c f 40 then (.trap 11 f, s)
  else
    match readLine s 0 c f with
    | (none, s) => (.trap 10 f, s)
    | (some (d0, t0), s) =>
      match readLine s 0 c (f + 8) with
      | (none, s) => (.trap 10 (f + 8 : Nat), s)
      | (some (d1, t1), s) =>
        match readLine s 0 c (f + 16) with
        | (none, s) => (.trap 10 (f + 16 : Nat), s)
        | (some (d2, t2), s) =>
          match readLine s 0 c (f + 24) with
          | (none, s) => (.trap 10 (f + 24 : Nat), s)
          | (some (d3, _), s) =>
            match readLine s 0 c (f + 32) with
            | (none, s) => (.trap 10 (f + 32 : Nat), s)
            | (some (d4, _), s) =>
              let kind := ((lineW d3 2).extractLsb' 16 2).toNat
              if kind = 3 then (.trap 12 0, s)
              else
                let h' := { (h.setCap 6 (Cap.ofLine d1 t1)).setCap 7 (Cap.ofLine d2 t2) with
                  pcc := Cap.ofLine d0 t0, sr := (lineW d4 2).extractLsb' 0 12 }
                let s := (s.put F.VU_STAT_cpri c ((lineW d3 2).extractLsb' 12 4).toNat).put F.CORE_FSP_depth c (depth - 1)
                let s := if kind = 1 then s.clrVec .VU_ACT c ((lineW d3 3).extractLsb' 10 7).toNat else s
                (.goto h' (d3.extractLsb' 36 27), s)

/-- R222, R261: KGO. -/
def execKgo (t : Nat) (c : Fin 16) (x : Fields) (s : State) : Host.Outcome State Fault Refusal :=
  ok (coreRun (s.tick t) c (kgo x c))

/-- R222, R260: RETT. -/
def execRett (t : Nat) (c : Fin 16) (x : Fields) (s : State) : Host.Outcome State Fault Refusal :=
  ok (coreRun (s.tick t) c (rett x c))

/-! ### Interrupts (R267 to R271) -/

/-- R221: a core in WAIT completes its WFI. -/
def wfiDone (s : State) (c : Nat) : State :=
  if s.get F.CORE_STAT_state c = 2 then
    let h := s.coreOf c
    (s.put F.CORE_STAT_state c 1).setCore c ((CoreRes.done h).end h).ranOn
  else s

/-- R221: WFI; all fields 0. It stops the core unless its vector unit has an interrupt that it would present. -/
def execWfi (t : Nat) (c : Fin 16) (x : Fields) (s : State) : Host.Outcome State Fault Refusal :=
  ok (coreRun (s.tick t) c (fun s h =>
    if x ≠ 0 then (illegal, s)
    else if (winner s c).isSome then (.done h, s)
    else (.wait, s.put F.CORE_STAT_state c 2)))

/-- R238: the block of the code entry of vector `v` of core `c` is requested for the instruction cache. -/
def icRequest (s : State) (c v : Nat) : State :=
  let a := (Store.get (fun _ => {}) (s.coreOf c).desc v).code.base.toNat
  if slack s || icHit s c a then s else (fetchMem s c a).2

/-- R238, R269, R221: the vector unit presents its winner, and requests the block of its code entry; a core in WAIT wakes, at the exit from
Doze or Rest where it is in one. -/
def execVectorPresent (t : Nat) (c : Fin 16) (s : State) : Host.Outcome State Fault Refusal :=
  event t s
    (fun s => decide (s.rung < 3) && (s.get F.CORE_STAT_state c == 1 || s.get F.CORE_STAT_state c == 2) && (winner s c).isSome)
    (fun s =>
      let h := s.coreOf c
      let s := s.setCore c { h with pres := winner s c, presRan := (h.pres.isSome && h.presRan) || h.stalled }
      let s := icRequest s c ((winner s c).getD 0)
      if s.rung = 0 ∧ s.dozeOf (c.val / 4) = false then wfiDone s c else s)

/-- R270, R211, R262: the core takes the best presentable vector at an instruction boundary, which is not the one after a multiply. -/
def execInterruptEntry (t : Nat) (c : Fin 16) (s : State) : Host.Outcome State Fault Refusal :=
  event t s
    (fun s => canTake s c && (s.coreOf c).mul.isNone && (s.coreOf c).pres.isSome && (winner s c).isSome &&
      !frameWaits s c && decide ((s.coreOf c).fq.length < 12))
    (fun s =>
      let v := (winner s c).getD 0
      if frameStep s c ≠ 0 then lockup s c (frameStep s c) 1 0
      else
        let h := s.coreOf c
        let depth := s.get F.CORE_FSP_depth c
        let fl := frameLines h (frameAt s c depth) 1 (s.get F.VU_STAT_cpri c) 0 (v * 1024 + s.vsrcOf (c.val * 128 + v) % 1024)
          h.pc 0
        let s := (s.clrVec .VU_PEND c v).setVec .VU_ACT c v
        let s := (s.put F.CORE_FSP_depth c (depth + 1)).put F.VU_STAT_cpri c (vecPri s c v)
        s.setCore c { h.enter (Store.get (fun _ => {}) h.desc v) with
          fq := h.fq ++ fl, pres := none, presRan := false, stalled := false })

/-- R271, R431: a set-alias write of VU_PENDj, whose bits end set whatever a clear in the same timer cycle does; the source that a frame of
such a vector records is open. -/
def vuPendSet (s : State) (c j v : Nat) : State :=
  let s := if v % 2 ^ 16 = 0 then s else s.mark .VU_PEND (c * 8 + j) (BitVec.ofNat 36 (v % 2 ^ 16))
  (List.range 16).foldl (fun s i =>
    if v.testBit i && !s.vec .VU_PEND c (16 * j + i) then
      let (f, s) := s.draw 1024
      (s.setVec .VU_PEND c (16 * j + i)).setVsrc (c * 128 + 16 * j + i) f
    else s) s

/-- R271: vectors raised in software. -/
def execSoftwareInterrupt (t : Nat) (c : Fin 16) (j : Fin 8) (v : Word) (s : State) : Host.Outcome State Fault Refusal :=
  ok (vuPendSet (s.tick t) c j v.toNat)

/-- R267: a write of VU_VLOAD. -/
def vuVloadWrite (s : State) (c v : Nat) : State :=
  if s.is F.VU_STAT_ldbusy c then s.flag F.VU_STAT_cfgerr c
  else
    let vs := if F.VU_VLOAD_all.of v = 1 then List.range 128 else [F.VU_VLOAD_vec.of v]
    (s.put F.VU_STAT_ldbusy c 1).setCore c { s.coreOf c with load := some (s.now, vs) }

/-- R267: a write of VU_VLOAD. -/
def execVectorLoad (t : Nat) (c : Fin 16) (v : Word) (s : State) : Host.Outcome State Fault Refusal :=
  ok (vuVloadWrite (s.tick t) c v.toNat)

/-- R279: core `c`, whose descriptor load began at `x`, reads bank `k`: the bank is its own, and no handover had arrived by then. -/
def vecOwns (s : State) (c x k : Nat) : Bool :=
  s.get F.BANK_OWN_kind k == 0 && s.get F.BANK_OWN_id k == c &&
    (match s.bankOf k with
      | some (_, arr) => decide (x ≤ arr)
      | none => true)

/-- R279: a descriptor load of core `c` that began at `x` waits for the handover of bank `k`. -/
def vecAwaits (s : State) (c x k : Nat) : Bool := awaitsBank s c k && !vecOwns s c x k

/-- R267: one descriptor of the table is read and checked, by a load that began at `x`; a handover that began after the load waits for it
(R279). -/
def vecLoadOne (c x : Nat) (s : State) (v : Nat) : State :=
  let a := s.get F.VU_VTAB_base c + 32 * v
  let bad (s : State) : State := ((s.put F.VU_VCTL_valid (c * 128 + v) 0).flag F.VU_STAT_ldfail c).put F.VU_STAT_ldvec c v
  if inOneBank a 32 && vecOwns s c x (bankAt a) then
    match readLine s 4 c (a + 24) with
    | (none, s) => bad s
    | (some (d3, _), s) =>
      let ((step, d), s) := readEntry s 4 c a ((lineW d3 1).extractLsb' 0 12)
      if step ≠ 0 then bad s
      else
        let h := s.coreOf c
        (s.put F.VU_VCTL_valid (c * 128 + v) 1).setCore c { h with desc := Store.set (fun _ => {}) h.desc v d }
  else bad s

/-- R267: a descriptor load ends; it waits for a bank that the core is about to own (R279). -/
def execVectorLoadDone (t : Nat) (c : Fin 16) (s : State) : Host.Outcome State Fault Refusal :=
  event t s
    (fun s => match (s.coreOf c).load with
      | some (x, vs) => vs.all (fun v => !vecAwaits s c x (bankAt (s.get F.VU_VTAB_base c + 32 * v)))
      | none => false)
    (fun s => match (s.coreOf c).load with
      | some (x, vs) => vs.foldl (vecLoadOne c x) ((s.put F.VU_STAT_ldbusy c 0).setCore c { s.coreOf c with load := none })
      | none => s)

/-! ### Core reset (R264) -/

/-- R264: a write of CORE_RST. -/
def coreRstWrite (s : State) (c v : Nat) : State :=
  let cmd := F.CORE_RST_cmd.of v
  if cmd = 1 ∨ cmd = 2 then s.setCore c { s.coreOf c with rst := some cmd, trap := none } else s

/-- R264: a write of CORE_RST.cmd = 1. -/
def execCoreResetStart (t : Nat) (c : Fin 16) (v : Word) (s : State) : Host.Outcome State Fault Refusal :=
  event t s (fun _ => F.CORE_RST_cmd.of v.toNat == 1) (fun s => coreRstWrite s c v.toNat)

/-- R264: a write of CORE_RST.cmd = 2. -/
def execCoreResetHold (t : Nat) (c : Fin 16) (v : Word) (s : State) : Host.Outcome State Fault Refusal :=
  event t s (fun _ => F.CORE_RST_cmd.of v.toNat == 2) (fun s => coreRstWrite s c v.toNat)

/-- R264, steps 2 and 3: the registers of the core reset, and its locks break. -/
def coreClear (s : State) (c : Nat) : State :=
  let h := s.coreOf c
  let s := s.setCore c
    { k := h.k, pcc := h.pcc, sr := h.sr, desc := h.desc, wdAt := h.wdAt, load := h.load }
  let s := (s.put F.VU_STAT_cpri c 15).put F.CORE_FSP_depth c 0
  let s := (List.range 8).foldl (fun s j => s.put F.VU_ACT_v (c * 8 + j) 0) s
  lockBreakCore s c 0

/-- R264, step 5: the core starts through entry 63. -/
def coreStart (s : State) (c : Nat) : State :=
  let a := s.get F.CORE_TDT_base c + 32 * 63
  if !s.is F.CORE_TDT_en c || !inOwnBank s c a 32 then lockup s c 1 3 63
  else
    let ((step, pol, d), s) := readDesc s c a
    if step ≠ 0 then lockup s c step 3 63
    else if pol = 1 then halt s c
    else (s.put F.CORE_STAT_state c 1).setCore c ({ s.coreOf c with k := [] }.enter d)

/-- R264: the queues of the core have drained, and the reset takes effect. -/
def execCoreResetComplete (t : Nat) (c : Fin 16) (s : State) : Host.Outcome State Fault Refusal :=
  event t s
    (fun s =>
      let h := s.coreOf c
      let a := s.get F.CORE_TDT_base c + 32 * 63
      h.rst.isSome && h.sb.isEmpty && h.tq.isEmpty && h.fq.isEmpty &&
        !(h.rst == some 1 && inOneBank a 32 && awaitsBank s c (bankAt a)))
    (fun s =>
      let cmd := (s.coreOf c).rst
      let s := coreClear s c
      if cmd = some 1 then coreStart s c else s.put F.CORE_STAT_state c 0)

/-! ### Watchdog (R265) -/

/-- R265: the count of a watchdog restarts. -/
def wdRestart (s : State) (c : Nat) : State :=
  if s.is F.CORE_WDT_en c then s.setCore c { s.coreOf c with wdAt := some (s.now + s.get F.CORE_WDT_tmo c * 64000) } else s

/-- R265: the watchdog expires. -/
def wdExpire (s : State) (c : Nat) : State :=
  if s.is F.CORE_WDT_en c then
    let s := (wdRestart (s.flag F.CORE_STAT_wdx c) c).fire (672 + c)
    if s.is F.CORE_WDT_act c then s.resetBy 2 c else coreRstWrite s c 1
  else s

/-- R265: a write of CORE_WDK. -/
def wdkWrite (s : State) (c v : Nat) : State := if v = 0o252525 then wdRestart s c else wdExpire s c

/-- R265: a write of CORE_WDT, whose fields are of kind LOCK. -/
def wdtWrite (s : State) (c v : Nat) : State :=
  if s.locked .CORE_WDT c then s
  else wdRestart ((s.setReg .CORE_WDT c (s.written_ .CORE_WDT c .base v)).lockReg .CORE_WDT c) c

/-- R265: a write of 0o252_525 to CORE_WDK. -/
def execWatchdogRestart (t : Nat) (c : Fin 16) (v : Word) (s : State) : Host.Outcome State Fault Refusal :=
  event t s (fun _ => v == 0o252525#18) (fun s => wdkWrite s c v.toNat)

/-- R265: a write of another value to CORE_WDK. -/
def execWatchdogBadKey (t : Nat) (c : Fin 16) (v : Word) (s : State) : Host.Outcome State Fault Refusal :=
  event t s (fun _ => v != 0o252525#18) (fun s => wdkWrite s c v.toNat)

/-- R265: the count of a watchdog expires; it stops in Stop and below. -/
def execWatchdogExpiry (t : Nat) (c : Fin 16) (s : State) : Host.Outcome State Fault Refusal :=
  event t s
    (fun s => decide (s.rung < 3) && (match (s.coreOf c).wdAt with | some d => decide (d ≤ s.now) | none => false))
    (fun s => wdExpire s c)

end Sys2Proof.Machine
end

