-- ==== Sys2Proof/Machine/Survey.lean ====
section
/-! DEFINITION. Survey converters and the mains tracker (08_survey_and_metering.md, R170 to R178). -/

namespace Sys2Proof.Machine

/-- A microsecond in fine ticks. -/
def us (n : Nat) : Nat := 64000 * n

/-! ### Converters (R170 to R176) -/

/-- The sequence entry in progress of converter `c`, as an index of SC_SEQA. -/
def scEntry (s : State) (c : Nat) : Nat := c * 64 + s.get F.SC_STAT_entry c

/-- R174: an entry that refuses the enable. -/
def seqBad (s : State) (i : Nat) : Bool :=
  let wk := s.get F.SC_SEQA_wk i
  let wp := s.get F.SC_SEQB_wp i
  65 < s.get F.SC_SEQA_ch i || wk == 3 || (wk == 2 && wp == 0) || (wk == 1 && 255 < wp)

/-- R172: entry `e` of converter `c` begins at instant `x`. -/
def scBegin (s : State) (c e x : Nat) : State :=
  let s := (s.put F.SC_STAT_entry c e).put F.SC_STAT_rep c 0
  let y := x + us (s.get F.SC_SEQA_pre (c * 64 + e))
  s.setSc c { s.scOf c with from_ := y, openAt := s.mt.bnd.filter (fun b => decide (y ≤ b.1)), win := none }

/-- R174: the converter stops; the current window has no result. -/
def scStop (s : State) (c : Nat) : State :=
  (s.put F.SC_CTL_en c 0).setSc c { s.scOf c with openAt := none, win := none }

/-- R178: the next of the fixed boundaries, counted from the first survey enable after reset. -/
def mtFixed (s : State) : Option Nat :=
  s.mt.first.map (fun a => a + ns 20000000 * ((s.now - a) / ns 20000000 + 1))

/-- R178: a survey is enabled: the first one after reset starts the fixed boundaries. -/
def mtFirst (s : State) : State :=
  let s := { s with mt := { s.mt with first := some (s.mt.first.getD s.now) } }
  if s.mt.next.isNone && !s.is F.MT_CTL_en 0 then { s with mt := { s.mt with next := mtFixed s } } else s

/-- R172, R174, R178: a write of SC_CTL. -/
def scCtlWrite (s : State) (c v : Nat) : State :=
  let len := F.SC_CTL_lenm1.of v
  let en := F.SC_CTL_en.of v
  let err := s.flag F.SC_STAT_cfgerr c
  if s.is F.SC_CTL_en c then
    if len != s.get F.SC_CTL_lenm1 c then err
    else
      let s := s.put F.SC_CTL_ien c (F.SC_CTL_ien.of v)
      if en = 0 then scStop s c else s
  else if en = 1 ∧ (List.range (len + 1)).any (fun e => seqBad s (c * 64 + e)) then err
  else
    let s := (s.put F.SC_CTL_ien c (F.SC_CTL_ien.of v)).put F.SC_CTL_lenm1 c len
    if en = 1 then scBegin (mtFirst (s.put F.SC_CTL_en c 1)) c 0 s.now else s

/-- R174: a write of a table entry. -/
def scSeqWrite (s : State) (r : RegName) (i : Nat) (new : BitVec 36) : State :=
  if new == s.reg r i then s
  else if s.is F.SC_CTL_en (i / 64) then s.flag F.SC_STAT_cfgerr (i / 64)
  else s.setReg r i new

/-- R172, R175: the window of converter `c` opens at instant `x`; `fb` says that a fallback boundary opens it. -/
def scOpen (s : State) (c x : Nat) (fb : Bool) : State :=
  let i := scEntry s c
  let wk := s.get F.SC_SEQA_wk i
  let wp := s.get F.SC_SEQB_wp i
  let same (d : Nat) : Bool :=
    d != c && (match (s.scOf d).win with
      | some w => (match w.closeAt with | some y => decide (x < y) | none => true)
      | none => false) && s.get F.SC_SEQA_ch (scEntry s d) == s.get F.SC_SEQA_ch i
  let shared := (List.range 4).any same
  let w : SvWin :=
    { openAt := x, left := if wk = 1 then wp + 1 else 1, closeAt := if wk = 2 then some (x + us wp) else none,
      closeFb := false, fb := fb, shared := shared }
  let s := (List.range 4).foldl (fun s d =>
    if same d then s.setSc d { s.scOf d with win := (s.scOf d).win.map (fun w => { w with shared := true }) } else s) s
  s.setSc c { s.scOf c with openAt := none, win := some w }

/-- R171: the code of a window: its charge `q`, in LSB × fine ticks, over its length. -/
def svCode (q : Int) (len : Nat) : Int := roundDiv q len

/-- R171: the average of a window lies outside the range from -0.100 V to +1.500 V, which is 8,388,608 LSB. -/
def svOver (q : Int) (len : Nat) : Bool := decide (15 * q < -8388608 * (len : Int)) || decide (8388608 * (len : Int) < q)

/-- R172, R173: the window `w` of converter `c` closes at instant `x` with charge `q`. -/
def scClose (s : State) (c x : Nat) (w : SvWin) (q : Int) : State :=
  let i := scEntry s c
  let y := svCode q (x - w.openAt)
  let p : SvPend :=
    { due := x + us 2, ch := s.get F.SC_SEQA_ch i, value := max (-559241) (min y 8388607),
      ovr := svOver q (x - w.openAt), fb := w.fb, shared := w.shared, bo := s.is F.SC_SEQA_bo i }
  let s := s.setSc c { s.scOf c with win := none, res := (s.scOf c).res ++ [p] }
  let rep := s.get F.SC_STAT_rep c
  if rep < s.get F.SC_SEQA_repm1 i then
    scOpen (s.put F.SC_STAT_rep c (rep + 1)) c x w.closeFb
  else
    let e := s.get F.SC_STAT_entry c
    scBegin s c (if e < s.get F.SC_CTL_lenm1 c then e + 1 else 0) x

/-- R173, R176: a result arrives. -/
def svResult (s : State) (c : Nat) (p : SvPend) : State :=
  let open_ := p.bo && decide (s.get F.SC_BOTHR_th 0 * 8388608 < p.value * 1500)
  let s := s.setSc c { s.scOf c with res := (s.scOf c).res.drop 1 }
  let s := s.put F.SV_RES_open p.ch (b2n open_)
  let s := s.put F.SV_RES_ovr p.ch (b2n p.ovr)
  let s := s.put F.SV_RES_fb p.ch (b2n p.fb)
  let s := s.put F.SV_RES_shared p.ch (b2n p.shared)
  let s := s.put F.SV_RES_seq p.ch (s.get F.SV_RES_seq p.ch + 1)
  let s := s.put F.SV_RES_value p.ch (ux 24 p.value)
  if open_ then (s.flag F.SC_STAT_open c).fireIf (s.is F.SC_CTL_ien c) (480 + c) else s

/-! ### The mains tracker (R178) -/

/-- R172, R178: a mains boundary at instant `x`; `fb`: it was not set by an accepted edge. -/
def mtBoundary (s : State) (x : Nat) (fb : Bool) : State :=
  let s := { s with mt := { s.mt with last := some x, bnd := some (x, fb) } }
  (List.range 4).foldl (fun s c =>
    let h := s.scOf c
    if !s.is F.SC_CTL_en c then s
    else match h.win with
      | some w =>
        let mains := s.get F.SC_SEQA_wk (scEntry s c) != 2
        let w := match w.closeAt with
          | some y => { w with fb := w.fb || (fb && !mains && decide (x ≤ y)) }
          | none =>
            if w.left ≤ 1 then { w with left := 0, closeAt := some x, closeFb := fb, fb := w.fb || fb }
            else { w with left := w.left - 1, fb := w.fb || fb }
        s.setSc c { h with win := some w }
      | none =>
        if s.get F.SC_SEQA_wk (scEntry s c) != 2 && h.openAt.isNone && decide (h.from_ ≤ x) then
          s.setSc c { h with openAt := some (x, fb) }
        else s) s

/-- R178: fallback begins with a boundary at last + pmax. -/
def mtFallback (s : State) (x : Nat) : State :=
  let s := (s.put F.MT_STAT_fb 0 1).fireIf (s.is F.MT_CTL_ien 0) 484
  let s := { s with mt := { s.mt with next := some (x + ns 20000000), edges := [] } }
  mtBoundary s x true

/-- R178: an edge at instant `t` while tracking, no later than last + pmax. DESIGN CHOICE (log 132): a cycle that is no whole number of
nanoseconds shows truncated in MT_STAT.period. -/
def mtTrack (s : State) (last t : Nat) : State :=
  if t < last + us (s.get F.MT_LIM_pmin 0) then s.flag F.MT_STAT_glitch 0
  else mtBoundary (s.put F.MT_STAT_period 0 ((t - last) / 64)) t false

/-- R178: an edge at instant `t` in fallback. -/
def mtRegain (s : State) (t : Nat) : State :=
  let fits (e : Nat) : Bool := decide (e + us (s.get F.MT_LIM_pmin 0) ≤ t) && decide (t ≤ e + us (s.get F.MT_LIM_pmax 0))
  if s.mt.edges.any fits then
    mtBoundary { s.put F.MT_STAT_fb 0 0 with mt := { s.mt with next := none, edges := [] } } t false
  else
    { s with mt := { s.mt with
        edges := s.mt.edges.filter (fun e => decide (t < e + us (s.get F.MT_LIM_pmax 0))) ++ [t] } }

/-- R178: a hiset edge of the tracked comparator at instant `t`. -/
def mtEdge (s : State) (t : Nat) : State :=
  if s.is F.MT_STAT_fb 0 then mtRegain s t
  else match s.mt.last with
    | none => mtBoundary s t false
    | some l =>
      let due := l + us (s.get F.MT_LIM_pmax 0)
      if due < t then mtRegain (mtFallback s due) t else mtTrack s l t

/-- R178: a write of MT_CTL. Cleared, the tracker goes on with fixed boundaries, the first 20 ms after the latest boundary, or as
fallback had it, or where there was none as the first survey enable started them (log 120). DESIGN CHOICE (log 131): enabled before any
boundary, the tracker takes the instant of the enable for the latest boundary. -/
def mtCtlWrite (s : State) (v : Nat) : State :=
  let en := F.MT_CTL_en.of v
  let en0 := s.get F.MT_CTL_en 0
  let s := ((s.put F.MT_CTL_en 0 en).put F.MT_CTL_ien 0 (F.MT_CTL_ien.of v)).put F.MT_CTL_wc 0 (F.MT_CTL_wc.of v)
  if en = en0 then s
  else if en = 1 then { s with mt := { s.mt with next := none, edges := [], last := some (s.mt.last.getD s.now) } }
  else
    let next := match s.mt.next, s.mt.bnd.map (fun b => b.1) with
      | some x, _ => some x
      | none, some l => some (max (l + ns 20000000) s.now)
      | none, none => mtFixed s
    { s.put F.MT_STAT_fb 0 0 with mt := { s.mt with next := next, edges := [] } }

/-! ### The commands -/

/-- R172, R174: a write of SC_CTL that sets en. -/
def execSurveyEnable (t : Nat) (c : Fin 4) (v : Word) (s : State) : Host.Outcome State Fault Refusal :=
  event t s (fun s => !s.is F.SC_CTL_en c && F.SC_CTL_en.of v.toNat == 1) (fun s => scCtlWrite s c (s.yielded .SC_CTL c .base v.toNat))

/-- R174: a write of SC_CTL that clears en. -/
def execSurveyDisable (t : Nat) (c : Fin 4) (v : Word) (s : State) : Host.Outcome State Fault Refusal :=
  event t s (fun s => s.is F.SC_CTL_en c && F.SC_CTL_en.of v.toNat == 0) (fun s => scCtlWrite s c (s.yielded .SC_CTL c .base v.toNat))

/-- R172: when the entry's first window opens: after the pre-delay, at a mains boundary with wk = 0 or 1. -/
def scOpenDue (s : State) (c : Nat) : Option (Nat × Bool) :=
  if s.is F.SC_CTL_en c && (s.scOf c).win.isNone then
    if s.get F.SC_SEQA_wk (scEntry s c) = 2 then some ((s.scOf c).from_, false) else (s.scOf c).openAt
  else none

/-- R172: the first window of an entry opens. -/
def execSurveyWindowOpen (t : Nat) (c : Fin 4) (s : State) : Host.Outcome State Fault Refusal :=
  event t s (fun s => match scOpenDue s c with | some (x, _) => decide (x ≤ s.now) | none => false)
    (fun s => match scOpenDue s c with | some (x, fb) => scOpen s c x fb | none => s)

/-- R172: the end of a window's span is reached. `q` is the charge over the window, in LSB × fine ticks (R171). -/
def execSurveyWindowClose (t : Nat) (c : Fin 4) (q : Int) (s : State) : Host.Outcome State Fault Refusal :=
  event t s
    (fun s => match (s.scOf c).win with
      | some w => (match w.closeAt with | some x => decide (x ≤ s.now) | none => false)
      | none => false)
    (fun s => match (s.scOf c).win with
      | some w => scClose s c (w.closeAt.getD s.now) w q
      | none => s)

/-- R173: 2 µs after a close the result arrives. -/
def execSurveyResult (t : Nat) (c : Fin 4) (s : State) : Host.Outcome State Fault Refusal :=
  event t s (fun s => match (s.scOf c).res with | p :: _ => decide (p.due ≤ s.now) | [] => false)
    (fun s => match (s.scOf c).res with | p :: _ => svResult s c p | [] => s)

/-- R74, R178: the hiset event of comparator MT_CTL.wc occurs at the present instant and is not taken yet. -/
def mainsEdgeAt (s : State) : Bool :=
  s.srcAtOf (srcKey 4 (s.get F.MT_CTL_wc 0) 0) == some (s.now : Int) && s.mt.took != some s.now

/-- R178: a hiset edge of the tracked comparator. -/
def execMainsEdge (t : Nat) (s : State) : Host.Outcome State Fault Refusal :=
  event t s (fun s => s.is F.MT_CTL_en 0 && mainsEdgeAt s) (fun s => mtEdge { s with mt := { s.mt with took := some s.now } } s.now)

/-- R178: no edge by last + pmax. -/
def execMainsFallback (t : Nat) (s : State) : Host.Outcome State Fault Refusal :=
  event t s
    (fun s => s.is F.MT_CTL_en 0 && !s.is F.MT_STAT_fb 0 && (match s.mt.last with
      | some l => decide (l + us (s.get F.MT_LIM_pmax 0) ≤ s.now)
      | none => false))
    (fun s => mtFallback s (s.mt.last.getD 0 + us (s.get F.MT_LIM_pmax 0)))

/-- R178: a fixed 20.000 ms boundary, in fallback or with tracking off. -/
def execFallbackBoundary (t : Nat) (s : State) : Host.Outcome State Fault Refusal :=
  event t s
    (fun s => (s.is F.MT_STAT_fb 0 || !s.is F.MT_CTL_en 0) && (match s.mt.next with
      | some x => decide (x ≤ s.now)
      | none => false))
    (fun s =>
      let x := s.mt.next.getD 0
      mtBoundary { s with mt := { s.mt with next := some (x + ns 20000000) } } x true)

end Sys2Proof.Machine
end

