-- ==== Sys2Proof/Machine/Metering.lean ====
section
/-! DEFINITION. Manifests: metering, demand, tariffs, views and the slice image (08_survey_and_metering.md, R179 to R187). -/

namespace Sys2Proof.Machine

/-- R184: manifest `k` is frozen (R185). -/
def mfFrozen (s : State) (k : Nat) : Bool := s.is F.MF_STAT_frozen k

/-- R180: numerator of a channel's value over T × 2^25 for the charge `q` of a tick of `T` fine ticks. -/
def mfNum (s : State) (ch T : Nat) (q : Int) : Int :=
  q * 65536 * (2097152 + s.getS F.ICH_GAINC_c ch) * 16 + s.getS F.ICH_OFFC_o ch * T * 2097152

/-- R180: the product of two channel values over the tick, in 2^-20 of a register LSB, rounded. -/
def mfTerm (a b : Int) (T : Nat) : Int := roundDiv (a * b * T * 2 ^ 20) ((T * 2 ^ 25) * (T * 2 ^ 25) * (64000 * 2 ^ 14))

/-- R180: a 72-bit account with its 20 bits below the LSB. -/
def acc92 (n : Nat) : Nat := n % 2 ^ 92

/-- R181: channel `ch` was enabled and ready throughout the tick. -/
def ichMetered (s : State) (ch from_ : Nat) : Bool := s.is F.ICH_STAT_ready ch && decide ((s.ichOf ch).readyAt ≤ from_)

/-- R181: the tick overlapped an overload of channel `ch`. -/
def ichOverloaded (s : State) (ch from_ : Nat) : Bool :=
  s.is F.ICH_STAT_ovldnow ch || (match (s.ichOf ch).ovClr with | some x => decide (from_ < x) | none => false)

/-- R180: the charge of channel `ch` in a tick. -/
def tickCharge (q : List (Nat × Int)) (ch : Nat) : Int := ((q.find? (fun p => p.1 == ch)).map (fun p => p.2)).getD 0

/-- R184, step 1: manifest `k` closes the tick that began at `from_` and lasted `T` fine ticks. -/
def mfClose (s : State) (k from_ T : Nat) (q : List (Nat × Int)) : State :=
  let h := s.mfOf k
  let vch := s.get F.MF_SRC_vch k
  let ich := s.get F.MF_SRC_ich k
  if !h.live || mfFrozen s k then s
  else if !(ichMetered s vch from_ && ichMetered s ich from_) then s.flag F.MF_STAT_gap k
  else
    let v := mfNum s vch T (tickCharge q vch)
    let i := mfNum s ich T (tickCharge q ich)
    let p := mfTerm v i T
    let a := h.acc
    let tar := s.get F.MF_CTL_tar k
    let a := { a with time := acc92 (a.time + T * 2 ^ 20), v2 := acc92 (a.v2 + (mfTerm v v T).toNat),
                      i2 := acc92 (a.i2 + (mfTerm i i T).toNat) }
    let a := if 0 ≤ p then { a with imp := a.imp.set tar (acc92 (a.imp.getD tar 0 + p.toNat)) }
      else { a with exp := a.exp.set tar (acc92 (a.exp.getD tar 0 + (-p).toNat)) }
    let s := s.setMf k { h with acc := a, dacc := h.dacc + p }
    if ichOverloaded s vch from_ || ichOverloaded s ich from_ then s.flag F.MF_STAT_ovld k else s

/-- R182: the demand of an interval of `mins` minutes with accumulator `d`. DESIGN CHOICE (log 134): an interval that a step of the
timebase or a change of dmin made shorter or longer is still divided by dmin minutes. -/
def mfDemand (d : Int) (mins : Nat) : Int := sat18 (roundDiv (d * 131072) (mins * 60000000 * 2 ^ 40))

/-- R182: the boundary at `sec` seconds, `u` microseconds ends a demand interval of manifest `k`. -/
def mfIntervalEnds (s : State) (k sec u : Nat) : Bool := u == 0 && sec % (60 * s.get F.MF_CTL_dmin k) == 0

/-- R192: the interrupt of manifest `k`. -/
def mfIrq (s : State) (k : Nat) : State := s.fireIf (s.is F.MF_CTL_ien k) (488 + k)

/-- R184, step 2: a demand interval ends at `sec` seconds. -/
def mfInterval (s : State) (k sec : Nat) : State :=
  let h := s.mfOf k
  let d := mfDemand h.dacc (s.get F.MF_CTL_dmin k)
  let tar := s.get F.MF_CTL_tar k
  let a := if !h.part && decide ((h.acc.dmax.getD tar (0, 0)).1 < d) then { h.acc with dmax := h.acc.dmax.set tar (d, sec) } else h.acc
  let s := if a = h.acc then s else { s with journal := { s.journal with force := true } }
  let s := s.setMf k { h with acc := a, dlast := (d, sec, h.part), dacc := 0, part := false }
  mfIrq (s.raise 18 k 0) k

/-- R183: manifest `k` takes tariff `n`. -/
def mfTariff (s : State) (k n : Nat) : State :=
  let s := { s.put F.MF_CTL_tar k n with journal := { s.journal with force := true } }
  mfIrq (s.raise 18 k 1) k

/-- R184, step 3: the scheduled tariff change of manifest `k`, then the one of a tide, at the boundary of `now` microseconds. -/
def mfTariffs (s : State) (k now : Nat) : State :=
  let due := tbJoin (s.get F.MF_TCHG_s k) 0
  let s := if s.is F.MF_CTL_tarm k && tbPast (now * 64000) due then
      let s := if now * 64000 = due then s else s.flag F.MF_STAT_late k
      mfTariff (s.hwPut F.MF_CTL_tarm k 0) k (s.get F.MF_CTL_ntar k)
    else s
  match (s.mfOf k).tideTar with
  | some n => mfTariff (s.setMf k { s.mfOf k with tideTar := none }) k n
  | none => s

/-- A 72-bit value in a pair of view registers. -/
def putView (s : State) (h l : RegName) (i v : Nat) : State :=
  (s.hwSet h i (BitVec.ofNat 36 (v / 2 ^ 36))).hwSet l i (BitVec.ofNat 36 v)

/-- A 72-bit value from a pair of view registers. -/
def getView (s : State) (h l : RegName) (i : Nat) : Nat := (s.reg h i).toNat * 2 ^ 36 + (s.reg l i).toNat

/-- R186: the view of a demand (D, partial, seconds). -/
def demandView (d : Int) (partial_ : Bool) (sec : Nat) : Nat := ux 18 d * 2 ^ 54 + b2n partial_ * 2 ^ 53 + sec % 2 ^ 36

/-- R184, step 5: the view registers of manifest `k` receive its state. -/
def mfView (s : State) (k : Nat) : State :=
  let h := s.mfOf k
  let a := h.acc
  let s := putView s .MF_VTIMEH .MF_VTIMEL k (a.time / 2 ^ 20)
  let s := (List.range 8).foldl (fun s t =>
    let s := putView s .MF_VIMPH .MF_VIMPL (k * 8 + t) (a.imp.getD t 0 / 2 ^ 20)
    let s := putView s .MF_VEXPH .MF_VEXPL (k * 8 + t) (a.exp.getD t 0 / 2 ^ 20)
    let d := a.dmax.getD t (0, 0)
    putView s .MF_VDMAXH .MF_VDMAXL (k * 8 + t) (demandView d.1 false d.2)) s
  let s := putView s .MF_VV2H .MF_VV2L k (a.v2 / 2 ^ 20)
  let s := putView s .MF_VI2H .MF_VI2L k (a.i2 / 2 ^ 20)
  let s := putView s .MF_VDLASTH .MF_VDLASTL k (demandView h.dlast.1 h.dlast.2.2 h.dlast.2.1)
  let (sec, sub) := tbSplit s.tbNow
  let s := (s.hwSet .MF_VVSTAMPH k (BitVec.ofNat 36 sec)).hwSet .MF_VVSTAMPL k (BitVec.ofNat 36 sub)
  s.put F.MF_STAT_vpend k 0

/-- R184: what manifest `k` does at the tick boundary of `now` microseconds. Step 4 freezes it once the power-fail sequence has
begun (R185), and the steps before it stop with the freeze. DESIGN CHOICE (log 133): a manifest meters from the first tick that begins with
MF_CTL.en set. -/
def mfBoundary (from_ T now : Nat) (q : List (Nat × Int)) (s : State) (k : Nat) : State :=
  let s := mfClose s k from_ T q
  let s := s.setMf k { s.mfOf k with live := s.is F.MF_CTL_en k }
  let sec := now / 1000000 % 2 ^ 36
  let ends := mfIntervalEnds s k sec (now % 1000000)
  let acts := s.is F.MF_CTL_en k && !mfFrozen s k
  let s := if ends then (if acts then mfInterval s k sec else s.setMf k { s.mfOf k with part := true }) else s
  let s := if acts then mfTariffs s k now else s
  let s := if s.is F.PWR_PFSTAT_act 0 then s.put F.MF_STAT_frozen k 1 else s
  if s.is F.MF_STAT_vpend k then mfView s k else s

/-- R187: the section of manifest `k` in the slice image. -/
def mfSection (s : State) (k : Nat) : MfSlice :=
  { acc := (s.mfOf k).acc, tar := s.get F.MF_CTL_tar k, dmin := s.get F.MF_CTL_dmin k, tarm := s.is F.MF_CTL_tarm k,
    ntar := s.get F.MF_CTL_ntar k }

/-- R187: the numbers of a section. -/
def MfSlice.nums (m : MfSlice) : List Int :=
  let nat (n : Nat) : Int := n
  nat m.acc.time :: m.acc.imp.map nat ++ m.acc.exp.map nat ++ [nat m.acc.v2, nat m.acc.i2] ++ m.acc.dmax.flatMap (fun d => [d.1, nat d.2]) ++
    [nat m.tar, nat m.dmin, nat (b2n m.tarm), nat m.ntar]

/-- R187: the sections of a slice image with their numbers, by manifest. -/
def sliceNums (m : Store (Option MfSlice)) : List (Nat × List Int) :=
  (List.range 32).filterMap (fun k => (Store.get (fun _ => none) m k).map (fun x => (k, x.nums)))

/-- R187: the slice image is written to the last 4,096 words of BK63, whose layout the manual does not give. -/
def sliceWrite (s : State) : State :=
  (List.range 4096).foldl (fun s i => sramOver s 5 0 (sliceBase + i) (Config.sliceWord (sliceNums s.mfu.slice) i) false) s

/-- R187, R189: the slice at the boundary of `now` microseconds; a full record that was asked for is due from it. -/
def mfSlice (s : State) (now : Nat) : State :=
  let put (m : Store (Option MfSlice)) (k : Nat) : Store (Option MfSlice) :=
    if s.is F.MF_CTL_en k then Store.set (fun _ => none) m k (some (mfSection s k)) else m
  sliceWrite
  { s with mfu := { s.mfu with sliceUs := now, ticks := 0, slice := (List.range 32).foldl put s.mfu.slice },
           journal := { s.journal with forceDue := s.journal.forceDue || s.journal.force, force := false } }

/-- R179, R184: a tick boundary. `q` gives the charge of each channel in the tick, in qu; a channel not named had none. -/
def mfTick (s : State) (q : List (Nat × Int)) : State :=
  let now := s.tbNow / 64000
  let from_ := s.mfu.tickAt
  let s := (List.range 32).foldl (mfBoundary from_ (s.now - from_) now q) s
  let fz := if s.mfu.frozenUs.isNone && s.is F.PWR_PFSTAT_act 0 then some now else s.mfu.frozenUs
  let n := if s.mfu.frozenUs.isSome then s.mfu.ticks else s.mfu.ticks + 1
  let s := { s with mfu := { s.mfu with tickAt := s.now, tickUs := now, frozenUs := fz, ticks := n } }
  if now % 1000 = 0 then mfSlice s now else s

/-- R182: a step of the timebase other than a trim makes the demand intervals in progress partial. -/
def mfStepped (s : State) : State := (List.range 32).foldl (fun s k => s.setMf k { s.mfOf k with part := true }) s

/-- R186: the view registers of manifest `k` are copied into its live state. -/
def mfLoad (s : State) (k : Nat) : State :=
  let h := s.mfOf k
  let v (a b : RegName) (i : Nat) : Nat := getView s a b i * 2 ^ 20
  let dem (x : Nat) : Int × Nat := (sx 18 (x / 2 ^ 54), x % 2 ^ 36)
  let dl := getView s .MF_VDLASTH .MF_VDLASTL k
  let a : MfAcc :=
    { time := v .MF_VTIMEH .MF_VTIMEL k,
      imp := (List.range 8).map (fun t => v .MF_VIMPH .MF_VIMPL (k * 8 + t)),
      exp := (List.range 8).map (fun t => v .MF_VEXPH .MF_VEXPL (k * 8 + t)),
      v2 := v .MF_VV2H .MF_VV2L k, i2 := v .MF_VI2H .MF_VI2L k,
      dmax := (List.range 8).map (fun t => dem (getView s .MF_VDMAXH .MF_VDMAXL (k * 8 + t))) }
  let s := s.setMf k { h with acc := a, dacc := 0, part := true, dlast := ((dem dl).1, (dem dl).2, dl / 2 ^ 53 % 2 == 1) }
  s.put F.MF_CTL_tar k (s.get F.MF_CTL_ntar k)

/-! ### Register writes -/

/-- R183, R186: a write of MF_CTL. -/
def mfCtlWrite (s : State) (k v : Nat) : State :=
  let load := F.MF_CTL_load.of v == 1
  if s.is F.MF_CTL_en k && (load || F.MF_CTL_dmin.of v != s.get F.MF_CTL_dmin k) then s.flag F.MF_STAT_cfgerr k
  else
    let s := (s.put F.MF_CTL_en k (F.MF_CTL_en.of v)).put F.MF_CTL_tarm k (F.MF_CTL_tarm.of v)
    let s := (s.put F.MF_CTL_ntar k (F.MF_CTL_ntar.of v)).put F.MF_CTL_dmin k (F.MF_CTL_dmin.of v)
    let s := s.put F.MF_CTL_ien k (F.MF_CTL_ien.of v)
    let s := if load then mfLoad s k else s
    if F.MF_CTL_take.of v = 1 then s.put F.MF_STAT_vpend k 1 else s

/-- R183, R186: a write of MF_SRC, MF_TCHG or a view register: instance `i` of register `r`, of manifest `k`. -/
def mfRegWrite (s : State) (r : RegName) (i k : Nat) (new : BitVec 36) : State :=
  if new == s.reg r i then s
  else if (if r = .MF_TCHG then s.is F.MF_CTL_tarm k else s.is F.MF_CTL_en k) then s.flag F.MF_STAT_cfgerr k
  else s.setReg r i new

/-! ### The commands -/

/-- R179, R184, R329: the timebase reaches a whole microsecond later than the previous tick boundary; no tick passes while the timer
domain is off. -/
def execMeteringTick (t : Nat) (q : List (Nat × Int)) (s : State) : Host.Outcome State Fault Refusal :=
  event t s (fun s => decide (s.rung < 3) && decide (s.mfu.tickAt < s.now) && s.reached ((s.mfu.tickUs + 1) * 64000 % tbWrap)) (fun s => mfTick s q)

/-- R186: a write of MF_CTL with take = 1. -/
def execViewRequest (t : Nat) (k : Fin 32) (v : Word) (s : State) : Host.Outcome State Fault Refusal :=
  event t s (fun _ => F.MF_CTL_take.of v.toNat == 1) (fun s => mfCtlWrite s k (s.yielded .MF_CTL k .base v.toNat))

/-- R186: a write of MF_CTL with load = 1. -/
def execViewLoad (t : Nat) (k : Fin 32) (v : Word) (s : State) : Host.Outcome State Fault Refusal :=
  event t s (fun _ => F.MF_CTL_load.of v.toNat == 1) (fun s => mfCtlWrite s k (s.yielded .MF_CTL k .base v.toNat))

/-- R183: a write of MF_CTL that sets tarm. -/
def execTariffArm (t : Nat) (k : Fin 32) (v : Word) (s : State) : Host.Outcome State Fault Refusal :=
  event t s (fun s => !s.is F.MF_CTL_tarm k && F.MF_CTL_tarm.of v.toNat == 1) (fun s => mfCtlWrite s k (s.yielded .MF_CTL k .base v.toNat))

end Sys2Proof.Machine
end

