-- ==== Sys2Proof/Machine/Journal.lean ====
section
/-! DEFINITION. The journal of the manifests in flash (08_survey_and_metering.md, R188 to R191), and the ends of line programs and
erases. -/

namespace Sys2Proof.Machine

/-! ### Records (R188) -/

/-- The words of a line that holds a 72-bit value. -/
def wide (v : Nat) : List (BitVec 18) :=
  [BitVec.ofNat 18 (v / 2 ^ 54), BitVec.ofNat 18 (v / 2 ^ 36), BitVec.ofNat 18 (v / 2 ^ 18), BitVec.ofNat 18 v]

/-- Four words from numbers. -/
def words4 (a b c d : Nat) : List (BitVec 18) :=
  [BitVec.ofNat 18 a, BitVec.ofNat 18 b, BitVec.ofNat 18 c, BitVec.ofNat 18 d]

/-- R188: the 27 data lines of a section, in the order of their presence bits 26 to 0. -/
def sectionLines (m : MfSlice) : List (List (BitVec 18)) :=
  let a := m.acc
  let v (n : Nat) : List (BitVec 18) := wide (n / 2 ^ 20)
  [v a.time] ++ a.imp.map v ++ a.exp.map v ++ [v a.v2, v a.i2] ++
    a.dmax.map (fun d => words4 (ux 18 d.1) (d.2 / 2 ^ 18) d.2 0)

/-- R188: the section of manifest `k`: its status line, and the data lines that differ from those of `base`, all of them where there
is no base. -/
def sectionOf (k : Nat) (m : MfSlice) (base : Option MfSlice) : List (List (BitVec 18)) :=
  let ls := sectionLines m
  let pres : List Bool := match base with
    | none => ls.map (fun _ => true)
    | some b => (ls.zip (sectionLines b)).map (fun p => p.1 != p.2)
  let bits := pres.foldl (fun n p => 2 * n + b2n p) 0
  let status := words4 (k * 2 ^ 13 + m.tar * 2 ^ 10 + m.dmin * 2 ^ 4 + b2n m.tarm * 2 ^ 3 + m.ntar) (bits / 2 ^ 9)
    (bits % 2 ^ 9 * 2 ^ 9) 0
  status :: ((ls.zip pres).filter (fun p => p.2)).map (fun p => p.1)

/-- R187: the sections of the slice image, by manifest. -/
def sliceSections (s : State) : List (Nat × MfSlice) :=
  (List.range 32).filterMap (fun k => (Store.get (fun _ => none) s.mfu.slice k).map (fun m => (k, m)))

/-- R188: the lines of a record: full, or a delta record against the latest full record; `pf` for a power-fail record that leaves
`lost` ticks out. -/
def record (s : State) (full pf : Bool) (lost : Nat) : List (BitVec 72) :=
  let j := s.journal
  let base (k : Nat) : Option MfSlice :=
    if full then none else match j.full with
      | some (_, m) => Store.get (fun _ => none) m k
      | none => none
  let ref := if full then j.seq else (j.full.map (fun p => p.1)).getD j.seq
  let secs := sliceSections s
  let sec := s.mfu.sliceUs / 1000000 % 2 ^ 36
  let sub := s.mfu.sliceUs % 1000000 * 64000
  let body : List (List (BitVec 18)) :=
    [words4 (b2n pf * 2 ^ 17 + b2n full * 2 ^ 16 + (secs.length - 1)) (j.seq / 2 ^ 18) j.seq (ref % 2 ^ 18),
     words4 (sec / 2 ^ 18) sec (sub / 2 ^ 18) sub, words4 lost 0 0 0] ++
    secs.flatMap (fun p => sectionOf p.1 p.2 (base p.1))
  let crc := (Config.crc32 body.flatten).toNat
  (body ++ [words4 (crc / 2 ^ 16) (crc % 2 ^ 16) (j.seq % 2 ^ 18) 0]).map lineOf

/-! ### The blocks of the set (R188, R189) -/

/-- The flash block of block `i` of the set. -/
def jrnBlk (s : State) (i : Nat) : Nat := (s.get F.MFU_JCTL_fb 0 + i % 16) % 1024

/-- R313: a block is erased: its latest erase completed and none of its lines is programmed. -/
def blkErased (s : State) (blk : Nat) : Bool :=
  (s.flBlkOf blk).ecomp && s.flash.all (fun p => p.1 / 1024 != blk || !p.2.prog)

/-- R189: the lines of a full record of the present slice. -/
def fullLines (s : State) : Nat := 4 + 28 * (sliceSections s).length

/-- R189: the journal hands operations to the controller of the bank that holds block `blk`. -/
def jrnQueue (s : State) (blk : Nat) (ops : List FlOp) : State :=
  let b := blk / 256
  flNext (s.setFl b { s.flOf b with jq := (s.flOf b).jq ++ ops }) b

/-- R189: the journal begins the next block of the set and erases the one after it. -/
def jrnBegin (s : State) : State :=
  let cur := (s.journal.cur + 1) % 16
  let s := { s with journal := { s.journal with cur := cur, pos := 0, fresh := true } }
  jrnQueue (s.put F.MFU_JSTAT_cur 0 cur) (jrnBlk s (cur + 1)) [.erase (jrnBlk s (cur + 1))]

/-- R188: programs a record at the next line of the block in use. -/
def jrnWrite (s : State) (full : Bool) (ls : List (BitVec 72)) : State :=
  let j := s.journal
  let blk := jrnBlk s j.cur
  let n := ls.length
  let ops := (ls.zip (List.range n)).map (fun p => FlOp.program (blk * 1024 + j.pos + p.2) p.1 (p.2 + 1 == n))
  let s := { s with journal := { j with seq := (j.seq + 1) % 2 ^ 36, pos := j.pos + n, fresh := false,
                                        next := j.next ++ [if full then some (j.seq, s.mfu.slice) else none] } }
  jrnQueue s blk ops

/-- R189: a record of `n` lines may be written in the block in use: it fits, and after it there is room for a full record or the next
block is erased. -/
def jrnRoom (s : State) (n : Nat) : Bool :=
  decide (s.journal.pos + n ≤ 1024) &&
    (decide (s.journal.pos + n + fullLines s ≤ 1024) || blkErased s (jrnBlk s (s.journal.cur + 1)))

/-- R189: the journal moves on to the next block where the record of `n` lines does not fit in the block in use. -/
def jrnAdvance (s : State) (n : Nat) : State :=
  if 1024 < s.journal.pos + n ∧ blkErased s (jrnBlk s (s.journal.cur + 1)) then jrnBegin s else s

/-- R189: a periodic or forced record: full as the first of a block or where asked for. It answers whether it was written. -/
def jrnRecord (s : State) (full : Bool) : Bool × State :=
  let size (s : State) : List (BitVec 72) := record s (full || s.journal.fresh) false 0
  let s := jrnAdvance s (size s).length
  let ls := size s
  if jrnRoom s ls.length then (true, jrnWrite s (full || s.journal.fresh) ls) else (false, s)

/-- R189: the journal is switched on: it takes up the block in use, erased first where it is not, with a full record, and erases the
block after it. DESIGN CHOICE (log 135): the first periodic record falls due at the next multiple of 100 ms of the timebase, and a backward step of the
timebase holds the records off. -/
def jrnEnable (s : State) : State :=
  let j := s.journal
  let s := { s with journal := { j with fresh := true, full := none, perUs := (s.mfu.sliceUs / 100000 + 1) * 100000 } }
  let s := s.put F.MFU_JSTAT_cur 0 j.cur
  if blkErased s (jrnBlk s j.cur) then
    jrnQueue { s with journal := { s.journal with pos := 0 } } (jrnBlk s (j.cur + 1)) [.erase (jrnBlk s (j.cur + 1))]
  else if blkErased s (jrnBlk s (j.cur + 1)) then jrnBegin s
  else
    let s := { s with journal := { s.journal with pos := 0 } }
    jrnQueue s (jrnBlk s j.cur) [.erase (jrnBlk s j.cur), .erase (jrnBlk s (j.cur + 1))]

/-- R189: a write of MFU_JCTL. -/
def jctlWrite (s : State) (v : Nat) : State :=
  let en0 := s.is F.MFU_JCTL_en 0
  let fb := F.MFU_JCTL_fb.of v
  let s := if fb = s.get F.MFU_JCTL_fb 0 then s else { s with journal := { s.journal with cur := 0, pos := 0 } }
  let s := (s.put F.MFU_JCTL_en 0 (F.MFU_JCTL_en.of v)).put F.MFU_JCTL_fb 0 fb
  if s.is F.MFU_JCTL_en 0 && !en0 then jrnEnable s else s

/-! ### Power failure (R189, R191, R340) -/

/-- R340: the record is programmed, or with the journal off every bank is idle: PWR_PFSTAT.done. -/
def pfDone (s : State) : State :=
  let idle (b : Nat) : Bool := (s.flOf b).run.isNone && (s.flOf b).jq.isEmpty
  let ends := if s.is F.MFU_JCTL_en 0 then s.journal.pf && idle (jrnBlk s s.journal.cur / 256) else (List.range 4).all idle
  if s.is F.PWR_PFSTAT_act 0 && ends then s.put F.PWR_PFSTAT_done 0 1 else s

/-- R191: the ticks between the latest slice and the freeze. -/
def lostTicks (s : State) : Nat := s.mfu.ticks

/-- R189, R191: the power-fail record, in the block in use or in the next one, which is erased. DESIGN CHOICE (log 136): where no full record
stands yet, it is a full one. -/
def jrnPowerFail (s : State) : State :=
  let ls (s : State) : List (BitVec 72) := record s s.journal.full.isNone true (lostTicks s)
  let cur := s.journal.cur
  let s := if s.journal.pos + (ls s).length ≤ 1024 then s
    else { s with journal := { s.journal with cur := (cur + 1) % 16, pos := 0 } }.put F.MFU_JSTAT_cur 0 ((cur + 1) % 16)
  let s := { s with journal := { s.journal with pf := true } }
  pfDone (if (sliceSections s).isEmpty then s else jrnWrite s s.journal.full.isNone (ls s))

/-! ### Ends of operations (R308) -/

/-- R189: a line of the oldest record in program, or an erase, has failed: it shows in MFU_JSTAT.err, and the record is not valid. -/
def jrnFail (s : State) (line : Bool) : State :=
  let s := s.flag F.MFU_JSTAT_err 0
  if line then { s with journal := { s.journal with next := none :: s.journal.next.drop 1 } } else s

/-- R189: the oldest record in program is complete; a full one is then the latest valid one. -/
def jrnCommit (s : State) : State :=
  let j := s.journal
  { s with journal := { j with full := (j.next.headD none).or j.full, next := j.next.drop 1 } }

/-- R308: the line is programmed and its journal entry retired; `ok` is the internal verify (R305). -/
def execLineProgramDone (t : Nat) (b : Fin 4) (ok : Bool) (s : State) : Host.Outcome State Fault Refusal :=
  event t s
    (fun s => match (s.flOf b).run with | some ⟨.program .., _, _⟩ => true | _ => false)
    (fun s => match (s.flOf b).run with
      | some ⟨.program l d commit, _, jrn⟩ =>
        let s := flEnd (flPut s l d ok) b (if ok then 0 else 5)
        let s := if jrn && !ok then jrnFail s true else s
        let s := if jrn && commit then jrnCommit s else s
        pfDone (flNext s b)
      | _ => s)

/-- R308: the block is erased; `ok` is the internal verify (R305). -/
def execEraseDone (t : Nat) (b : Fin 4) (ok : Bool) (s : State) : Host.Outcome State Fault Refusal :=
  event t s
    (fun s => match (s.flOf b).run with | some ⟨.erase _, _, _⟩ => true | _ => false)
    (fun s => match (s.flOf b).run with
      | some ⟨.erase blk, _, jrn⟩ =>
        let s := flEnd (if ok then flWipe s blk else s) b (if ok then 0 else 6)
        let s := if jrn && !ok then jrnFail s false else s
        pfDone (flNext s b)
      | _ => s)

/-- R308: the one-time word has been written; `ok` is the internal verify (R305). -/
def execOtpProgramDone (t : Nat) (ok : Bool) (s : State) : Host.Outcome State Fault Refusal :=
  event t s
    (fun s => match (s.flOf 0).run with | some ⟨.otp .., _, _⟩ => true | _ => false)
    (fun s => match (s.flOf 0).run with
      | some ⟨.otp i v, _, _⟩ =>
        let (u, s) := if ok then (v.toNat, s) else s.draw (2 ^ 18)
        pfDone (flNext (flEnd (s.setOtp i (some (BitVec.ofNat 18 u))) 0 (if ok then 0 else 5)) 0)
      | _ => s)

/-! ### The commands of the journal -/

/-- R189: a forced record waits for room. -/
def jrnWaits (s : State) : Bool := s.journal.forceDue && !(jrnRecord s true).1

/-- R189: the journal's period elapses with a slice; a forced record that is due goes first, and while it waits for room a periodic one is
skipped. -/
def execPeriodicRecord (t : Nat) (s : State) : Host.Outcome State Fault Refusal :=
  event t s
    (fun s => s.is F.MFU_JCTL_en 0 && !s.is F.PWR_PFSTAT_act 0 && (!s.journal.forceDue || jrnWaits s) && !(sliceSections s).isEmpty &&
      tbPast (s.mfu.sliceUs * 64000) (s.journal.perUs * 64000))
    (fun s =>
      let (ok, s) := if s.journal.forceDue then (false, s) else jrnRecord s false
      let s := { s with journal := { s.journal with perUs := s.mfu.sliceUs + s.get F.MFU_JPER_per 0 * 100000 } }
      if ok then s else s.flag F.MFU_JSTAT_skip 0)

/-- R189: a full record that a tariff change or a DMAX update forces, written once there is room. -/
def execForcedFullRecord (t : Nat) (s : State) : Host.Outcome State Fault Refusal :=
  event t s
    (fun s => s.is F.MFU_JCTL_en 0 && !s.is F.PWR_PFSTAT_act 0 && s.journal.forceDue && !(sliceSections s).isEmpty)
    (fun s =>
      let (ok, s) := jrnRecord s true
      if ok then { s with journal := { s.journal with forceDue := false } } else s)

/-- R189, R340: the power-fail record, once the flash is free and the manifests are frozen. -/
def execPowerFailRecord (t : Nat) (s : State) : Host.Outcome State Fault Refusal :=
  event t s
    (fun s => s.is F.MFU_JCTL_en 0 && s.is F.PWR_PFSTAT_act 0 && !s.journal.pf && s.mfu.frozenUs.isSome &&
      (s.flOf (jrnBlk s s.journal.cur / 256)).run.isNone)
    jrnPowerFail

end Sys2Proof.Machine
end

