-- ==== Sys2Proof/Machine/Clocks.lean ====
section
/-! DEFINITION. Clock sources, the timebase and PPS, operating modes and power failure (14_time_clocks_sleep.md, R318 to R328, R334 to
R345). -/

namespace Sys2Proof.Machine

/-- R345: cause `j` of PWR_IEN. -/
def pwrCause (s : State) (j : Nat) : State := s.fireIf (s.is ⟨.PWR_IEN, 17 - j, 1⟩ 0) (528 + j)

/-- R335: TB_UNCERT grows by `n` ns, and saturates. -/
def uncertUp (s : State) (n : Nat) : State := s.put F.TB_UNCERT_ns 0 (min (s.get F.TB_UNCERT_ns 0 + n) (2 ^ 36 - 1))

/-! ### The rate and the steps of the timebase (R321, R323) -/

/-- R321: the limit of the rate terms. -/
def rateClamp (v : Int) : Int := max (-2147483) (min v 2147483)

/-- R321: rho from TB_RATE and TB_SLEW. -/
def tbRho (s : State) : Int := rateClamp (s.getS F.TB_RATE_r 0 + s.getS F.TB_SLEW_s 0)

/-- R328: the crystal is measured. -/
def spanOn (s : State) : Bool :=
  s.is F.TB_STAT_lock 0 && !s.is F.TB_STAT_hold 0 && decide (2 ≤ s.get F.TB_CTL_mode 0) && !s.is F.CLK_STAT_rc 0 &&
    !s.tb.stopped

/-- R328: a span that began by instant `x` has its timebase value, on the line that governs the timebase until then. -/
def spanCatch (s : State) (x : Nat) : State :=
  match s.pps.spanFrom with
  | some e => if e ≤ x then { s with pps := { s.pps with span := some (e, s.tb.fine e), spanFrom := none, spanStep := false } } else s
  | none => s

/-- R328: the first span begins at the first coarse tick after the conditions come to hold, and none is measured while one of them fails. -/
def spanFollow (s : State) : State :=
  if !spanOn s then { s with pps := { s.pps with span := none, spanFrom := none } }
  else if s.pps.span.isSome || s.pps.spanFrom.isSome then s
  else
    let (e, s) := coarseEdge s
    { s with pps := { s.pps with spanFrom := some (e + coarseTick) } }

/-- R321: the rate terms as they now stand govern the timebase from the first timer edge after now. -/
def tbRebase (s : State) : State :=
  if s.tb.stopped then { s with tb := { s.tb with rho := tbRho s } }
  else
    let e := edgeAfter s.now
    let s := spanCatch s s.now
    if s.tb.t0 = e then { s with tb := { s.tb with rho := tbRho s } }
    else
      let v := s.tb.fine e
      { s with tb := { s.tb with t0 := e, v0 := v.toNat, u0 := v, rho := tbRho s, rhoOld := s.tb.rho, jump := false } }

/-- R323, R328: the timebase is set to `v` (in subsecond units) at instant `x`: a step, unless it has that value; `trim` for a PPS correction
below 1 us. Until `x` the timebase goes on as before. A step at the present leaves a step or a new rate that waits for a later edge in place. -/
def tbStep (s : State) (v x : Nat) (trim : Bool) : State :=
  if v % tbWrap = s.tbAt x then s
  else
    let s := spanCatch s x
    let b := s.tb
    let tb := if b.t0 = x ∧ s.now < x then { b with v0 := v % tbWrap * 2 ^ 32, jump := true }
      else if x < b.t0 ∧ !b.stopped then
        let u : Int := (v % tbWrap * 2 ^ 32 : Nat) + ((b.t0 : Int) - x) * (2 ^ 32 + b.rhoOld)
        { b with u0 := u, v0 := if b.jump then b.v0 else u.toNat, stepAt := some x }
      else { b with t0 := x, v0 := v % tbWrap * 2 ^ 32, u0 := b.fine x, rhoOld := b.rho, jump := true }
    let s := { s with tb := tb, pps := { s.pps with spanStep := true } }
    if trim then s else mfStepped (s.flag F.TB_STAT_stepped 0)

/-- R323, R326: a write of TB_CTL. -/
def tbCtlWrite (s : State) (v : Nat) : State :=
  let s' := s.setReg .TB_CTL 0 (s.written_ .TB_CTL 0 .base v)
  let s' := if F.TB_CTL_set.of v = 1 then
      let s' := tbStep s' (tbJoin (s'.get F.TB_SETH_v 0) (s'.get F.TB_SETL_v 0)) (edgeAfter s'.now) false
      (s'.put F.TB_STAT_valid 0 1).put F.TB_STAT_lock 0 0
    else s'
  spanFollow s'

/-- R321: a write of TB_RATE. -/
def tbRateWrite (s : State) (v : Nat) : State := tbRebase (s.put F.TB_RATE_r 0 v)

/-- R434: a write of a register whose value lies below `lim`; a value outside sets `flag` and is ignored. -/
def rangeWrite (s : State) (f : Fld) (i v lim : Nat) (flag : Fld) (fi : Nat) : State :=
  if v < lim then s.put f i v else s.flag flag fi

/-- R323: a write of TB_CTL with set = 1. -/
def execTimebaseSet (t : Nat) (v : Word) (s : State) : Host.Outcome State Fault Refusal :=
  event t s (fun _ => F.TB_CTL_set.of v.toNat == 1) (fun s => tbCtlWrite s (s.yielded .TB_CTL 0 .base v.toNat))

/-- R324: the latch of a requester. -/
def latchKey (q : Req) : Nat :=
  match q with
  | .core c => c.val
  | _ => 16

/-- R324: a read of TB_NOWH: the seconds, with the subsecond latched for the reader. -/
def tbNowRead (s : State) (q : Req) : Nat × State :=
  let (sec, sub) := tbSplit s.tbNow
  (sec, s.setTbLatch (latchKey q) sub)

/-- R324: a read of TB_NOWH. -/
def execTimebaseNowRead (t : Nat) (q : Req) (s : State) : Host.Outcome State Fault Refusal :=
  let (v, s) := tbNowRead (s.tick t) q
  ok (s.emit (.data v))

/-- R334: the timebase `n` coarse ticks after the timer PLL stopped, in units of 2^-32 subsecond units. -/
def tbCoarse (s : State) (n : Nat) : Nat :=
  let q := if s.is F.TB_STAT_cal 0 && !s.pwr.rcRan then s.get F.TB_XRATIO_q 0 else 8000000000
  s.tb.v0 + n * q * 2 ^ 20

/-- R319, R335: `n` to `n + 1` ticks of the coarse clock (`n` where `edge`) can have passed since the timer PLL stopped. DESIGN CHOICE (log
116): the crystal lies within 200 ppm of its nominal rate; R335 gives 2 % for the RC fallback. -/
def coarseFits (s : State) (n : Nat) (edge : Bool) : Bool :=
  let k := if s.pwr.rcRan then 50 else 5000
  let d := k * (s.now - s.tb.t0)
  decide ((k - 1) * (n * coarseTick) ≤ d) && decide (d ≤ (k + 1) * ((if edge then n else n + 1) * coarseTick))

/-- Whole seconds of a timebase in units of 2^-32 subsecond units. -/
def wholeSec (v : Int) : Int := v / (2 ^ 32 * (subUnits : Int))

/-- R321, R334: the seconds increment by counting, at a fine tick, or while the timer PLL is stopped at coarse tick `n` since then. -/
def secondTurns (s : State) (n : Nat) : Bool :=
  if s.tb.stopped then decide (0 < n) && coarseFits s n false && wholeSec (tbCoarse s n) != wholeSec (tbCoarse s (n - 1))
  else decide (0 < s.now) && !(s.tb.jump && s.tb.t0 == s.now) && s.tb.stepAt != some s.now &&
    wholeSec (s.tb.fine s.now) != wholeSec (s.tb.fine (s.now - 1))

/-! ### PPS (R325 to R328) -/

/-- R325: the error of a captured subsecond. -/
def ppsError (c d : Nat) : Int :=
  let x := ((c : Int) - d + 32000000000) % 64000000000
  x - 32000000000

/-- R326: lock and valid set, and the step of an accepted edge from `old` to `v`; below 1 us it is a trim. -/
def ppsSet (s : State) (old v : Nat) : State :=
  let move : Int := (v : Int) - old
  let near := decide ((move + 64000) % tbWrap < 128000) && decide ((move + 64000) % tbWrap ≠ 0)
  ((tbStep s v s.now near).put F.TB_STAT_lock 0 1).put F.TB_STAT_valid 0 1

/-- R326: an accepted edge of the PPS pin in STEP, or in SLEW without lock. -/
def ppsStep (s : State) (e : Int) : State :=
  let d := s.get F.TB_PPSDLY_d 0
  let (sec, c) := tbSplit s.tbNow
  let k := ((c : Int) - d - e) / 64000000000
  let ld := s.is F.TB_CTL_secld 0
  let sec' : Nat := if ld then s.get F.TB_PPSSEC_s 0 else ((sec + k) % 2 ^ 36).toNat
  let s := ppsSet s (tbJoin sec c) (tbJoin sec' d)
  if ld then s.hwPut F.TB_CTL_secld 0 0 else s

/-- R367: an accepted time exchange in STEP, or in SLEW without lock: e is subtracted from the whole timebase. -/
def linkStep (s : State) (e : Int) : State :=
  let v := s.tbNow
  ppsSet s v (((v : Int) - e) % tbWrap).toNat

/-- R326: an accepted edge in SLEW with lock. -/
def ppsSlew (s : State) (e : Int) : State :=
  let slew := rateClamp (roundDiv (-e * 2 ^ 32) 64000000000)
  let rate := rateClamp (s.getS F.TB_RATE_r 0 + roundDiv (-e * 2 ^ 32) 1024000000000)
  let s := (s.put F.TB_SLEW_s 0 (ux 36 slew)).hwPut F.TB_RATE_r 0 (ux 36 rate)
  tbRebase s

/-- R326: the edge is accepted. -/
def ppsAccepts (s : State) (e : Int) : Bool :=
  if s.is F.TB_STAT_lock 0 then decide (e.natAbs ≤ 64 * s.get F.TB_PPSWIN_w 0)
  else match s.pps.prev with
    | some x => decide (x + 32000000000 ≤ s.now)
    | none => true

/-- R327: the edge came 1 s (within 10 us) after the previous one. -/
def ppsOneSec (s : State) : Bool :=
  match s.pps.prev with
  | some x => decide (x + 63999360000 ≤ s.now) && decide (s.now ≤ x + 64000640000)
  | none => false

/-- R326, R327: an edge with error `e` is accepted or rejected; an accepted one acts by mode, with `step` in STEP and in SLEW without
lock, and leaves TB_UNCERT at `unc`. -/
def ppsEdge (s : State) (e : Int) (step : State → Int → State) (unc : Nat) : State :=
  let yes := ppsAccepts s e
  let run := if yes then 0 else if ppsOneSec s then s.pps.rejRun + 1 else 0
  let s := s.put F.TB_PPSERR_e 0 (ux 36 e)
  let s := { s with pps := { s.pps with prev := some s.now, rejRun := run } }
  if yes then
    let s := { s with pps := { s.pps with acc := some s.now } }
    let s := pwrCause (((s.flag F.TB_STAT_acc 0).put F.TB_STAT_hold 0 0).raise 17 0 0) 0
    spanFollow (match s.get F.TB_CTL_mode 0 with
      | 2 => (step s e).put F.TB_UNCERT_ns 0 unc
      | 3 => (if s.is F.TB_STAT_lock 0 then ppsSlew s e else step s e).put F.TB_UNCERT_ns 0 unc
      | _ => s)
  else
    let s := pwrCause ((s.incSat F.TB_PPSREJ_n 0).flag F.TB_STAT_rej 0) 1
    if 4 ≤ run ∧ s.is F.TB_STAT_lock 0 = true then
      spanFollow { s.put F.TB_STAT_lock 0 0 with pps := { s.pps with rejRun := 0 } }
    else s

/-- R325, R326: an edge on the PPS pin; with time from the link it is ignored (R367). -/
def execPpsEdge (t : Nat) (rising : Bool) (s : State) : Host.Outcome State Fault Refusal :=
  event t s
    (fun s => rising != s.is F.TB_CTL_pol 0 && s.get F.TB_CTL_mode 0 != 0 && !s.is F.LK_TCTL_en 0 && !s.tb.stopped)
    (fun s => ppsEdge s (ppsError (s.tbNow % subUnits) (s.get F.TB_PPSDLY_d 0)) ppsStep 0)

/-- R327: holdover begins; in MONITOR hold only shows the absence. -/
def execHoldover (t : Nat) (s : State) : Host.Outcome State Fault Refusal :=
  event t s
    (fun s =>
      let m := s.get F.TB_CTL_mode 0
      !s.is F.TB_STAT_hold 0 && (m == 1 || (decide (2 ≤ m) && s.is F.TB_STAT_lock 0)) &&
        (match s.pps.acc with
         | some x => decide (x + 64000000000 + 64 * s.get F.TB_PPSWIN_w 0 ≤ s.now)
         | none => false))
    (fun s =>
      let s := s.put F.TB_STAT_hold 0 1
      if s.get F.TB_CTL_mode 0 = 1 then s
      else tbRebase (spanFollow (pwrCause (s.put F.TB_SLEW_s 0 0) 1)))

/-- R328: 524,288 XTAL32 ticks can have passed from instant `e` to `x`. DESIGN CHOICE (log 116): the crystal's rate against the timer domain
lies within 200 ppm of its nominal one. -/
def spanTicks (e x : Nat) : Bool :=
  let d : Int := (x : Int) - e - 524288 * coarseTick
  decide (5000 * d.natAbs ≤ 524288 * coarseTick)

/-- R328: 524,288 XTAL32 ticks have passed since the previous span ended, or since the first tick after the conditions came to hold; the
tick that ends them begins the next span. -/
def execRatioSpan (t : Nat) (s : State) : Host.Outcome State Fault Refusal :=
  event t s
    (fun s => spanOn s && (match (spanCatch s s.now).pps.span with | some (e, _) => spanTicks e s.now | none => false))
    (fun s =>
      let s := (spanCatch s s.now).setDivAt 4 (some s.now)
      let (_, v0) := s.pps.span.getD (0, 0)
      let v := s.tb.fine s.now
      let s' := { s with pps := { s.pps with span := some (s.now, v), spanStep := false } }
      if s.pps.spanStep then s'
      else
        let q := (roundDiv (v - v0) (2 ^ 39)).toNat
        let s' := { s' with pps := { s'.pps with calAt := s.now } }
        (s'.put F.TB_XRATIO_q 0 q).put F.TB_STAT_cal 0 1)

/-- R328: 86,400 s after the latest span. -/
def execCalExpiry (t : Nat) (s : State) : Host.Outcome State Fault Refusal :=
  event t s (fun s => s.is F.TB_STAT_cal 0 && decide (s.pps.calAt + 86400 * 64000000000 ≤ s.now)) (fun s => s.put F.TB_STAT_cal 0 0)

/-! ### Clock sources (R319, R320) -/

/-- R319, R328: the RC fallback comes into force. -/
def execRcFallback (t : Nat) (s : State) : Host.Outcome State Fault Refusal :=
  event t s (fun s => !s.is F.CLK_STAT_rc 0)
    (fun s =>
      let s := ((s.put F.CLK_STAT_rc 0 1).flag F.TB_STAT_rcran 0).put F.TB_STAT_cal 0 0
      let s := { s with pwr := { s.pwr with rcRan := true } }
      pwrCause (spanFollow s) 2)

/-- R319: XTAL32 has run 1,024 good periods. -/
def execXtal32Return (t : Nat) (s : State) : Host.Outcome State Fault Refusal :=
  event t s (fun s => s.is F.CLK_STAT_rc 0) (fun s => spanFollow (s.put F.CLK_STAT_rc 0 0))

/-- R320: the reference has been absent for 400 ns. -/
def execReferenceLoss (t : Nat) (s : State) : Host.Outcome State Fault Refusal :=
  event t s (fun s => decide (s.rung < 4) && s.pwr.refLost.isNone)
    (fun s =>
      let s := { s with pwr := { s.pwr with refLost := some (s.now - ns 400) } }
      cuSettle (tzLatchAll (pwrCause (s.flag F.CLK_STAT_refloss 0) 2)))

/-- R320: the reference returns within 20 us. -/
def execReferenceReturn (t : Nat) (s : State) : Host.Outcome State Fault Refusal :=
  event t s (fun s => match s.pwr.refLost with | some x => decide (s.now < x + ns 20000) | none => false)
    (fun s =>
      let x := s.pwr.refLost.getD s.now
      uncertUp { s with pwr := { s.pwr with refLost := none } } ((s.now - x + 6399) / 6400 + 1))

/-- R320: the reference has been absent for 20 us. -/
def execReferenceLossReset (t : Nat) (s : State) : Host.Outcome State Fault Refusal :=
  event t s (fun s => match s.pwr.refLost with | some x => decide (x + ns 20000 ≤ s.now) | none => false)
    (fun s => s.resetBy 3 0)

/-- R334, R335: the timer PLL has locked again: the timebase restarts at a coarse tick edge, `n` coarse ticks after it stopped. -/
def execTimebaseRestore (t : Nat) (n : Nat) (s : State) : Host.Outcome State Fault Refusal :=
  event t s (fun s => s.tb.stopped && decide (s.rung < 4) && coarseFits s n true)
    (fun s =>
      let k := if s.pwr.rcRan then (20000000 * n + 32767) / 32768
        else if s.is F.TB_STAT_cal 0 then (500 * n + 32767) / 32768 else (20000 * n + 32767) / 32768
      let v := tbCoarse s n % (tbWrap * 2 ^ 32)
      let s' := { s with tb := { t0 := s.now, v0 := v, u0 := v, rho := tbRho s, rhoOld := tbRho s, stopped := false, jump := true } }
      spanFollow (uncertUp (s'.setDivAt 4 (some s.now)) (k + 1)))

/-! ### Operating modes (R336 to R338) -/

/-- R337: SPRING ends for reason `why`, the first that applies. -/
def springEnd (s : State) (why : Nat) : State :=
  if (s.get F.MODE_STAT_cur 0 = 1 ∧ s.pwr.modeTo = none) ∨ s.pwr.modeTo = some 1 then
    let s := ((s.put F.MODE_STAT_why 0 why).hwPut F.MODE_CTL_req 0 0).put F.MODE_STAT_busy 0 1
    pwrCause { s with pwr := { s.pwr with modeTo := some 0 } } 3
  else s

/-- R336: a change to mode `m` begins. -/
def modeTurn (s : State) (m : Nat) : State := { s.put F.MODE_STAT_busy 0 1 with pwr := { s.pwr with modeTo := some m } }

/-- R337: why entry to SPRING is refused (0: it is not), with VDD_CORE at `vdd` mV. -/
def springRefusal (s : State) (vdd : Nat) : Nat :=
  if s.getS F.TJ_EST_t 0 > 4 * ((s.get F.TJ_SPRING_LIMIT_t 0 : Int) - 5) then 1
  else if vdd < 780 then 2
  else if s.is F.PWR_PFSTAT_act 0 then 3
  else 0

/-- R336, R337: the request in MODE_CTL.req is taken up, unless a change is in progress. -/
def modeBegin (s : State) (vdd : Nat) : State :=
  let cur := s.get F.MODE_STAT_cur 0
  let req := s.get F.MODE_CTL_req 0
  if s.is F.MODE_STAT_busy 0 || cur == req then s
  else if req = 1 then
    let why := springRefusal s vdd
    if why ≠ 0 then pwrCause (s.put F.MODE_STAT_ref 0 why) 3
    else modeTurn s (if cur = 2 then 0 else 1)
  else if cur = 1 then modeTurn (pwrCause (s.put F.MODE_STAT_why 0 0) 3) req
  else modeTurn s req

/-- R336: a write of MODE_CTL; req = 3 is ignored. -/
def modeCtlWrite (s : State) (v vdd : Nat) : State :=
  let r := F.MODE_CTL_req.of v
  if r = 3 then s else modeBegin (s.put F.MODE_CTL_req 0 r) vdd

/-- R336: a write of MODE_CTL that requests NEAP. -/
def execModeNeap (t : Nat) (v : Word) (s : State) : Host.Outcome State Fault Refusal :=
  event t s (fun _ => F.MODE_CTL_req.of v.toNat == 0) (fun s => modeCtlWrite s (s.yielded .MODE_CTL 0 .base v.toNat) 0)

/-- R336, R337: a write of MODE_CTL that requests SPRING, with VDD_CORE at `vdd` mV. -/
def execModeSpring (t : Nat) (v : Word) (vdd : Nat) (s : State) : Host.Outcome State Fault Refusal :=
  event t s (fun _ => F.MODE_CTL_req.of v.toNat == 1) (fun s => modeCtlWrite s (s.yielded .MODE_CTL 0 .base v.toNat) vdd)

/-- R336: a write of MODE_CTL that requests SLACK. -/
def execModeSlack (t : Nat) (v : Word) (s : State) : Host.Outcome State Fault Refusal :=
  event t s (fun _ => F.MODE_CTL_req.of v.toNat == 2) (fun s => modeCtlWrite s (s.yielded .MODE_CTL 0 .base v.toNat) 0)

/-- R233, R235, R336: the predictors and caches of every core are invalidated. -/
def invalidateAll (s : State) : State :=
  (List.range 16).foldl (fun s c => s.setCore c { s.coreOf c with pred := [], ic := [], dc := [] }) s

/-- R336: a mode change completes; into or out of SLACK only with every core's issue stopped and the store buffers drained. A request that stands is then taken up. -/
def execModeChangeDone (t : Nat) (vdd : Nat) (s : State) : Host.Outcome State Fault Refusal :=
  event t s
    (fun s => s.is F.MODE_STAT_busy 0 && s.pwr.modeTo.isSome &&
      (!slackTurn s || (List.range 16).all (fun c => (s.coreOf c).sb.isEmpty && (slackHolds s c || s.get F.CORE_STAT_state c != 1))))
    (fun s =>
      let m := s.pwr.modeTo.getD 0
      let s := if slackTurn s then invalidateAll s else s
      let s := (s.put F.MODE_STAT_cur 0 m).put F.MODE_STAT_busy 0 0
      let s := { s with pwr := { s.pwr with modeTo := none, springAt := if m = 1 then some s.now else none } }
      modeBegin (pwrCause s 3) vdd)

/-- R337: TJ_EST takes the highest reading, of sensor `sens`. -/
def execJunctionSample (t : Nat) (sens : Fin 16) (v : BitVec 14) (s : State) : Host.Outcome State Fault Refusal :=
  event t s (fun s => decide (s.rung < 3))
    (fun s =>
      let s := (s.put F.TJ_EST_sens 0 sens).put F.TJ_EST_t 0 v.toNat
      if 4 * (s.get F.TJ_SPRING_LIMIT_t 0 : Int) ≤ v.toInt then springEnd s 1 else s)

/-- R337: SPRING_MAX_S expires. -/
def execSpringTimeout (t : Nat) (s : State) : Host.Outcome State Fault Refusal :=
  event t s
    (fun s =>
      let m := if s.get F.SPRING_MAX_S_s 0 = 0 then 600 else s.get F.SPRING_MAX_S_s 0
      s.get F.MODE_STAT_cur 0 == 1 && (match s.pwr.springAt with | some x => decide (x + m * 64000000000 ≤ s.now) | none => false))
    (fun s => springEnd s 2)

/-- R338: VDD_CORE has stayed below the droop threshold for 5 ns in SPRING. -/
def execDroopGuard (t : Nat) (s : State) : Host.Outcome State Fault Refusal :=
  event t s (fun s => s.get F.MODE_STAT_cur 0 == 1) (fun s => springEnd (pwrCause s 4) 3)

/-! ### Power failure (R339 to R342) -/

/-- R333: a wake event of source `w` on any rung from Stop down is held until the exit begins. -/
def wakeDeep (s : State) (w : Nat) : State := if 3 ≤ s.rung ∧ s.wake.isNone = true then { s with wake := some w } else s

/-- R339, R340, R341, R414: the power-fail sequence begins, from PFAIL_N (`src` 0) or a supply monitor; not in a held reset. -/
def execPowerFailBegin (t : Nat) (src : Fin 6) (s : State) : Host.Outcome State Fault Refusal :=
  event t s (fun s => !s.is F.PWR_PFSTAT_act 0 && !s.boot.held && decide (s.rung < 5))
    (fun s =>
      let s := (s.put F.PWR_PFSTAT_act 0 1).put F.PWR_PFSTAT_src 0 src
      let s := pwrCause (s.raise 21 0 0) 5
      let s := springEnd (cuPowerFail (flPowerFail s)) 4
      pfDone (wakeDeep s 3))

/-- R342: PFAIL_N has been high for 50 ns and every rail good for 100 ns. -/
def execSupplyRecovery (t : Nat) (s : State) : Host.Outcome State Fault Refusal :=
  event t s (fun s => s.is F.PWR_PFSTAT_act 0 && !s.is F.PWR_PFSTAT_rcv 0) (fun s => s.put F.PWR_PFSTAT_rcv 0 1)

/-- R342: a write of PWR_DEVRST. -/
def devrstWrite (s : State) (v : Nat) : State := if v = 0o525252 then s.resetBy 4 0 else s

/-- R342: a write of 0o525_252 to PWR_DEVRST. -/
def execDeviceResetWrite (t : Nat) (v : Word) (s : State) : Host.Outcome State Fault Refusal :=
  event t s (fun _ => v == 0o525252#18) (fun s => devrstWrite s v.toNat)

/-- R344: a write of PWR_ALARM. -/
def alarmWrite (s : State) (v : Nat) : State :=
  { s.put F.PWR_ALARM_s 0 v with pwr := { s.pwr with alarm := v % 2 ^ 36 != 0 } }

/-- R322, R333, R345: the timebase reaches PWR_ALARM; while the timer PLL is stopped, `n` coarse ticks after it stopped. -/
def execPowerAlarm (t : Nat) (n : Nat) (s : State) : Host.Outcome State Fault Refusal :=
  event t s
    (fun s =>
      let v := if s.tb.stopped then tbCoarse s n / 2 ^ 32 % tbWrap else s.tbNow
      s.pwr.alarm && s.get F.PWR_ALARM_s 0 != 0 && (!s.tb.stopped || coarseFits s n false) && tbPast v (tbJoin (s.get F.PWR_ALARM_s 0) 0))
    (fun s =>
      let s := { s with pwr := { s.pwr with alarm := false } }
      if s.rung < 3 then pwrCause s 7 else wakeDeep s 2)

end Sys2Proof.Machine
end

