-- ==== Sys2Proof/Machine/Crypto.lean ====
section
/-! DEFINITION. The published functions that the manual names: AES-128 (FIPS 197), CMAC (SP 800-38B), GCM (SP 800-38D), the
key-derivation function of SP 800-108 in counter mode, SHA-256 (FIPS 180-4), ECDSA P-256 verification (FIPS 186-5), and the CRC-8 of
SMBus (R353, R354, R388, R389, R401, R402, R419). PRESUMED: their definitions come from those standards. -/

namespace Sys2Proof.Machine

/-! ### Octets -/

/-- The `n` octets of a number, most significant first. -/
def octets : Nat → Nat → List Octet
  | 0, _ => []
  | n + 1, v => octets n (v / 256) ++ [BitVec.ofNat 8 v]

/-- The number of a list of octets, most significant first. -/
def ofOctets (l : List Octet) : Nat := l.foldl (fun n b => n * 256 + b.toNat) 0

/-- Two lists of octets, added bit by bit. -/
def xorL (a b : List Octet) : List Octet := List.zipWith (fun x y => x ^^^ y) a b

/-- A list cut into pieces of `n`; the fuel bounds the number of pieces. -/
def chunks {α : Type} (n : Nat) : Nat → List α → List (List α)
  | 0, _ => []
  | f + 1, l => if l.isEmpty then [] else l.take n :: chunks n f (l.drop n)

/-! ### AES-128 (FIPS 197) -/

/-- Multiplication by x in the field of AES. -/
def xtime (a : Octet) : Octet := (a <<< 1) ^^^ (if a.msb then 0x1b else 0)

/-- The field product; bit `n - 1` of `b` first. -/
def gmul (a b : Octet) : Nat → Octet
  | 0 => 0
  | n + 1 => xtime (gmul a (b >>> 1) n) ^^^ (if b.getLsbD 0 then a else 0)

/-- The field inverse, a^254. -/
def ginv (a : Octet) : Octet :=
  let sq (x : Octet) : Octet := gmul x x 8
  let a2 := sq a
  let a4 := sq a2
  let a8 := sq a4
  let a16 := sq a8
  let a32 := sq a16
  let a64 := sq a32
  let a128 := sq a64
  gmul (gmul (gmul (gmul (gmul (gmul a2 a4 8) a8 8) a16 8) a32 8) a64 8) a128 8

/-- The S-box. -/
def sbox (a : Octet) : Octet :=
  let i := ginv a
  i ^^^ i.rotateLeft 1 ^^^ i.rotateLeft 2 ^^^ i.rotateLeft 3 ^^^ i.rotateLeft 4 ^^^ 0x63

/-- The next round key, with round constant `rc`. -/
def nextKey (k : List Octet) (rc : Octet) : List Octet :=
  let g (i : Nat) : Octet := k.getD i 0
  let w0 := xorL (k.take 4) [sbox (g 13) ^^^ rc, sbox (g 14), sbox (g 15), sbox (g 12)]
  let w1 := xorL ((k.drop 4).take 4) w0
  let w2 := xorL ((k.drop 8).take 4) w1
  w0 ++ w1 ++ w2 ++ xorL (k.drop 12) w2

/-- SubBytes and ShiftRows. -/
def subShift (s : List Octet) : List Octet :=
  [0, 5, 10, 15, 4, 9, 14, 3, 8, 13, 2, 7, 12, 1, 6, 11].map (fun i => sbox (s.getD i 0))

/-- MixColumns on one column. -/
def mixCol (c : List Octet) : List Octet :=
  let g (i : Nat) : Octet := c.getD (i % 4) 0
  [0, 1, 2, 3].map (fun i => xtime (g i) ^^^ xtime (g (i + 1)) ^^^ g (i + 1) ^^^ g (i + 2) ^^^ g (i + 3))

/-- Rounds 1 to `n` left, with the round key and constant. -/
def aesRounds : Nat → List Octet → List Octet → Octet → List Octet
  | 0, s, _, _ => s
  | n + 1, s, k, rc =>
    let k := nextKey k rc
    let t := subShift s
    let t := if n = 0 then t else (chunks 4 4 t).flatMap mixCol
    aesRounds n (xorL t k) k (xtime rc)

/-- AES-128 on one block. -/
def aes (key block : List Octet) : List Octet := aesRounds 10 (xorL block key) key 1

/-- A 128-bit value as octets. -/
def oct128 (v : BitVec 128) : List Octet := octets 16 v.toNat

/-! ### CMAC and key derivation -/

/-- Doubling in the field of CMAC. -/
def cmacDbl (v : BitVec 128) : BitVec 128 := (v <<< 1) ^^^ (if v.msb then 0x87 else 0)

/-- AES-128-CMAC. -/
def cmac (key : BitVec 128) (m : List Octet) : BitVec 128 :=
  let e (b : BitVec 128) : BitVec 128 := BitVec.ofNat 128 (ofOctets (aes (oct128 key) (oct128 b)))
  let k1 := cmacDbl (e 0)
  let n := (m.length + 15) / 16
  let last := m.drop (16 * (n - 1))
  let full := decide (last.length = 16)
  let fin : BitVec 128 :=
    if full then BitVec.ofNat 128 (ofOctets last) ^^^ k1
    else BitVec.ofNat 128 (ofOctets ((last ++ [0x80] ++ List.replicate 16 0).take 16)) ^^^ cmacDbl k1
  let mid := (chunks 16 (n - 1) m).foldl (fun x b => e (x ^^^ BitVec.ofNat 128 (ofOctets b))) 0
  e (mid ^^^ fin)

/-- R353: SP 800-108 in counter mode: block `i` of the output for `bits` bits. -/
def kdf (key : BitVec 128) (label context : List Octet) (bits i : Nat) : BitVec 128 :=
  cmac key (octets 4 i ++ label ++ [0] ++ context ++ octets 4 bits)

/-! ### GCM -/

/-- The product in the field of GHASH; bit 127 first. -/
def ghMul (x : BitVec 128) : Nat → BitVec 128 → BitVec 128 → BitVec 128
  | 0, _, z => z
  | n + 1, v, z =>
    let z := if x.getLsbD n then z ^^^ v else z
    ghMul x n ((v >>> 1) ^^^ (if v.getLsbD 0 then BitVec.ofNat 128 (0xe1 * 2 ^ 120) else 0)) z

/-- GHASH of whole blocks. -/
def ghash (h : BitVec 128) (m : List Octet) : BitVec 128 :=
  (chunks 16 (m.length / 16 + 1) m).foldl
    (fun y b => ghMul (y ^^^ BitVec.ofNat 128 (ofOctets ((b ++ List.replicate 16 0).take 16))) 128 h 0) 0

/-- R389: AES-128-GCM without associated data: the plaintext of (iv, ciphertext, tag), or none. -/
def gcmOpen (key : BitVec 128) (iv ct : List Octet) (tag : BitVec 128) : Option (List Octet) :=
  let e (b : List Octet) : List Octet := aes (oct128 key) b
  let h := BitVec.ofNat 128 (ofOctets (e (octets 16 0)))
  let pad := List.replicate ((16 - ct.length % 16) % 16) (0 : Octet)
  let s := ghash h (ct ++ pad ++ octets 8 0 ++ octets 8 (8 * ct.length))
  let t := BitVec.ofNat 128 (ofOctets (e (iv ++ octets 4 1))) ^^^ s
  if t = tag then
    some (((chunks 16 (ct.length / 16 + 1) ct).zipIdx).flatMap (fun b => xorL b.1 (e (iv ++ octets 4 (b.2 + 2)))))
  else none

/-! ### SHA-256 (FIPS 180-4) -/

/-- The largest number with at most `n` bits added to `r` whose `k`-th power is at most `x`. -/
def rootFrom (k x : Nat) : Nat → Nat → Nat
  | 0, r => r
  | n + 1, r => rootFrom k x n (if (r + 2 ^ n) ^ k ≤ x then r + 2 ^ n else r)

/-- The first 32 bits of the fractional part of the `k`-th root of `p`. -/
def rootFrac (k p : Nat) : BitVec 32 := BitVec.ofNat 32 (rootFrom k (p * 2 ^ (32 * k)) 37 0)

/-- The first 64 primes. -/
def primes64 : List Nat := (List.range 312).filter (fun n => decide (2 ≤ n) && (List.range n).all (fun d => decide (d < 2) || n % d != 0))

/-- The round constants: from the cube roots of the first 64 primes. -/
def shaConstants : List (BitVec 32) := primes64.map (rootFrac 3)

/-- The initial hash value: from the square roots of the first 8 primes. -/
def shaInit : List (BitVec 32) := (primes64.take 8).map (rootFrac 2)

/-- The message schedule: `n` further words, given the words so far, latest first. -/
def shaSched : Nat → List (BitVec 32) → List (BitVec 32)
  | 0, w => w
  | n + 1, w =>
    let g (i : Nat) : BitVec 32 := w.getD i 0
    let x := g 14
    let y := g 1
    let s0 := x.rotateRight 7 ^^^ x.rotateRight 18 ^^^ (x >>> 3)
    let s1 := y.rotateRight 17 ^^^ y.rotateRight 19 ^^^ (y >>> 10)
    shaSched n ((g 15 + s0 + g 6 + s1) :: w)

/-- One round. -/
def shaRound (h : List (BitVec 32)) (kw : BitVec 32) : List (BitVec 32) :=
  let g (i : Nat) : BitVec 32 := h.getD i 0
  let e := g 4
  let a := g 0
  let t1 := g 7 + (e.rotateRight 6 ^^^ e.rotateRight 11 ^^^ e.rotateRight 25) + ((e &&& g 5) ^^^ (~~~e &&& g 6)) + kw
  let t2 := (a.rotateRight 2 ^^^ a.rotateRight 13 ^^^ a.rotateRight 22) + ((a &&& g 1) ^^^ (a &&& g 2) ^^^ (g 1 &&& g 2))
  [t1 + t2, g 0, g 1, g 2, g 3 + t1, g 4, g 5, g 6]

/-- One block of 64 octets. -/
def shaBlock (h : List (BitVec 32)) (b : List Octet) : List (BitVec 32) :=
  let w := (chunks 4 16 b).map (fun x => BitVec.ofNat 32 (ofOctets x))
  let w := (shaSched 48 w.reverse).reverse
  List.zipWith (· + ·) h ((List.zipWith (· + ·) shaConstants w).foldl shaRound h)

/-- SHA-256. -/
def sha256 (m : List Octet) : BitVec 256 :=
  let z := (119 - m.length % 64) % 64
  let p := m ++ [0x80] ++ List.replicate z 0 ++ octets 8 (8 * m.length)
  BitVec.ofNat 256 (((chunks 64 (p.length / 64) p).foldl shaBlock shaInit).foldl (fun n x => n * 2 ^ 32 + x.toNat) 0)

/-! ### ECDSA P-256 (FIPS 186-5) -/

/-- The prime of the field. -/
def ecP : Nat := 2 ^ 256 - 2 ^ 224 + 2 ^ 192 + 2 ^ 96 - 1
/-- The coefficient b. -/
def ecB : Nat := 0x5ac635d8aa3a93e7b3ebbd55769886bc651d06b0cc53b0f63bce3c3e27d2604b
/-- The order of the base point. -/
def ecN : Nat := 0xffffffff00000000ffffffffffffffffbce6faada7179e84f3b9cac2fc632551
/-- The base point. -/
def ecG : Nat × Nat :=
  (0x6b17d1f2e12c4247f8bce6e563a440f277037d812deb33a0f4a13945d898c296,
   0x4fe342e2fe1a7f9b8ee7eb4a7c0f9e162bce33576b315ececbb6406837bf51f5)

/-- x^e mod m for an exponent of at most `f` bits. -/
def powMod (m : Nat) : Nat → Nat → Nat → Nat
  | 0, _, _ => 1 % m
  | f + 1, x, e => let h := powMod m f (x * x % m) (e / 2); if e % 2 = 1 then x * h % m else h

/-- The sum of two points of the curve; none is the point at infinity. -/
def ecAdd (a b : Option (Nat × Nat)) : Option (Nat × Nat) :=
  match a, b with
  | none, q => q
  | p, none => p
  | some (x1, y1), some (x2, y2) =>
    if x1 = x2 ∧ (y1 + y2) % ecP = 0 then none
    else
      let num := if x1 = x2 then 3 * x1 * x1 + (ecP - 3) else y2 + (ecP - y1)
      let den := if x1 = x2 then 2 * y1 else x2 + (ecP - x1)
      let l := num % ecP * powMod ecP 256 (den % ecP) (ecP - 2) % ecP
      let x3 := (l * l + (ecP - x1) + (ecP - x2)) % ecP
      some (x3, (l * (x1 + (ecP - x3)) + (ecP - y1)) % ecP)

/-- The multiple of a point by a scalar of at most `f` bits. -/
def ecMul : Nat → Nat → Option (Nat × Nat) → Option (Nat × Nat)
  | 0, _, _ => none
  | f + 1, k, p => let h := ecMul f (k / 2) (ecAdd p p); if k % 2 = 1 then ecAdd p h else h

/-- The point lies on the curve. -/
def ecOn (x y : Nat) : Bool :=
  decide (x < ecP) && decide (y < ecP) && (y * y) % ecP == (x * x * x + (ecP - 3) * x + ecB) % ecP

/-- R388, R402: the signature (r, s) over digest `z` verifies under the public key (qx, qy). -/
def ecdsaOk (qx qy r s z : Nat) : Bool :=
  ecOn qx qy && decide (0 < r) && decide (r < ecN) && decide (0 < s) && decide (s < ecN) &&
    (let w := powMod ecN 256 s (ecN - 2)
     match ecAdd (ecMul 256 (z * w % ecN) (some ecG)) (ecMul 256 (r * w % ecN) (some (qx, qy))) with
     | some (x, _) => x % ecN == r
     | none => false)

/-! ### CRC-8 (R419) -/

/-- One octet of the CRC-8 of SMBus, polynomial x^8 + x^2 + x + 1. -/
def crc8Step (c b : Octet) : Octet :=
  (List.range 8).foldl (fun x _ => (x <<< 1) ^^^ (if x.msb then 0x07 else 0)) (c ^^^ b)

/-- R419: the packet error code over the octets of a transfer, addresses included. -/
def crc8 (m : List Octet) : Octet := m.foldl crc8Step 0

end Sys2Proof.Machine
end

