-- ==== Sys2Proof/Machine/Fabric.lean ====
section
/-! DEFINITION. Event channels and logic cells (07_event_fabric.md, R155 to R169). -/

namespace Sys2Proof.Machine

/-! ### Pins that feed the fabric -/

/-- R411, R425, R427: what the device drives on GPIO pin `n`. -/
def gpioDrive (s : State) (n : Nat) : PinLevel :=
  let v := (s.get F.GPIO_OUT_v (n / 16)).testBit (n % 16) != s.is F.GPIO_CFG_pol n
  scanPin s (gpioBall n) (awakePin s (if !s.is F.GPIO_CFG_dir n || (v && s.is F.GPIO_CFG_od n) then .z else if v then .high else .low))

/-- R425: the level at the pad of a GPIO: what the device drives, unless the board overrides it; else what the board drives; else what the pull
gives. DESIGN CHOICE (log 138): without any of them it is low. -/
def gpioLevel (s : State) (n : Nat) : Bool :=
  let p := s.gpioPadOf n
  let out := p.drv.getD (s.get F.GPIO_CFG_pull n == 1)
  match gpioDrive s n with
  | .z => out
  | .low => p.wins && out
  | .high => !p.wins || out

/-- R425: the level of a GPIO after pol. -/
def gpioIn (s : State) (n : Nat) : Bool := gpioLevel s n != s.is F.GPIO_CFG_pol n

/-- R358, R368: the level of the shared open-drain line LK_WAKEn of port `p` as the device senses it; a port in QUAR neither drives nor
senses the line, and shows it released. -/
def lkWakeLine (s : State) (p : Nat) : Bool :=
  s.get F.LK_PSTAT_state p == 4 || (s.lkWakeOf p && !s.is F.LK_CTL_wk p && (s.lkDriveOf p).isNone)

/-! ### Sources (R157) -/

/-- R157: source (cls, inst, ev) is in the table; class 0 is no source. -/
def srcValid (cls inst ev : Nat) : Bool :=
  match cls with
  | 0 => true
  | 1 => decide (ev ≤ 8)
  | 2 => decide (inst < 16) && decide (ev ≤ 1)
  | 3 => decide (ev ≤ 2)
  | 4 => decide (ev ≤ 4)
  | 13 => decide (inst < 8) && ev == 0
  | 14 => decide (inst < 64) && ev == 0
  | 15 => decide (inst < 16) && ev == 0
  | 16 => decide (inst < 64) && ev == 0
  | 17 => inst == 0 && decide (ev ≤ 1)
  | 18 => decide (inst < 32) && decide (ev ≤ 1)
  | 19 => decide (inst < 4) && decide (ev ≤ 2)
  | 20 => inst == 0 && decide (ev ≤ 2)
  | 21 => inst == 0 && ev == 0
  | c => decide (5 ≤ c) && decide (c ≤ 12) && decide (ev ≤ 1)

/-- R157: the source is a level source. -/
def srcIsLevel (cls ev : Nat) : Bool :=
  (cls == 2 && ev == 1) || (cls == 4 && (ev == 3 || ev == 4)) || cls == 14 || cls == 15 || cls == 16 || (cls == 19 && ev == 2)

/-- R157: the level of a level source. -/
def srcLevel (s : State) (cls inst ev : Nat) : Bool :=
  match cls with
  | 2 => ev == 1 && tzNow s inst
  | 4 => !s.is F.WC_STAT_chkbusy inst &&
      ((ev == 3 && s.is F.WC_STAT_hinow inst) || (ev == 4 && s.is F.WC_STAT_lonow inst))
  | 14 => s.is F.LC_STAT_out inst != (((s.lcOf inst).outAt.filter (fun x => decide (s.now < x))).length % 2 == 1)
  | 15 => (s.tripPinOf inst).lvl
  | 16 => gpioIn s inst
  | 19 => ev == 2 && lkWakeLine s inst
  | _ => false

/-- R168: the fabric is powered: on every rung but Dormant and Vigil. -/
def fabricOn (s : State) : Bool := decide (s.rung < 5)

/-- R77, R168: source (cls, inst, ev) is silent on the rung in force: in Stop and Hibernate the classes of the timer domain and the events, not
the levels, of the comparators but the watch comparators. -/
def srcSilent (s : State) (cls inst ev : Nat) : Bool :=
  !fabricOn s ||
    (decide (3 ≤ s.rung) && (cls == 1 || cls == 3 || (decide (5 ≤ cls) && decide (cls ≤ 13)) || cls == 18 ||
      (cls == 4 && decide (inst < 112) && decide (ev < 3))))

/-! ### Channel levels (R155, R156, R159) -/

/-- R155, R156: the level of channel `ch`. -/
def chLevel (s : State) (ch : Nat) : Bool :=
  s.is F.EV_CTL_en ch &&
    ((srcLevel s (s.get F.EV_SRC_cls ch) (s.get F.EV_SRC_inst ch) (s.get F.EV_SRC_ev ch) || (s.evOf ch).pulse) !=
      s.is F.EV_CTL_inv ch)

/-- R159: the taps that an event of channel `ch` reaches. A tap taken less than 10 ns ago may or may not receive it; a tap that ranks
beyond 64 receives nothing. -/
def reachedTaps (s : State) (ch : Nat) : List Tap × List Tap × State :=
  let now := evTaps s ch
  let all := ((s.evOf ch).ranked s.now).order
  let order := all.take 64
  let held (l : List Tap) : List Tap := l.filter (fun x => now.contains x)
  let fresh := now.filter (fun x => !(all.contains x))
  let pick (p : List Tap × State) (x : Tap) : List Tap × State :=
    let (v, s) := p.2.draw 2
    (if v = 0 then p.1 else p.1 ++ [x], s)
  let (new, s) := fresh.foldl pick ([], s)
  (held (order.take 8) ++ new, held (order.drop 8), s)

/-- R158: the longest way of a level or an event from its channel to a consumer, through the relay. -/
def fabricSpan : Nat := 192

/-- R155: the level of channel `ch` becomes `v`. -/
def chSetLevel (s : State) (ch : Nat) (v : Bool) : State :=
  let h := s.evOf ch
  let s := (s.put F.EV_STAT_lvl ch (b2n v)).emit (.level ch v)
  s.setEv ch { h with hist := { at_ := s.now, v := v } :: h.hist.filter (fun p => decide (s.now ≤ p.at_ + fabricSpan)) }

/-- R155: the event of channel `ch` forks to the taps. An event of a channel with wake = 1 begins the exit from Stop or Hibernate (R168). -/
def chFork (s : State) (ch : Nat) : State :=
  let (d, r, s) := reachedTaps s ch
  let s := s.emit (.event ch d r)
  let s1 := if s.is F.EV_CTL_wake ch then s.wakeBy 1 else s
  let h := s1.evOf ch
  s1.setEv ch { h with
    sent := h.sent.filter (fun e => decide (s.now ≤ e.at_ + fabricSpan)) ++ [⟨s.now, d, r, none, s1.wake != s.wake⟩] }

/-- R155: the level of channel `ch` follows its source; a rising edge is an event, unless `silent`. -/
def chUpdate (s : State) (ch : Nat) (silent : Bool) : State :=
  let v := chLevel s ch
  if v = s.is F.EV_STAT_lvl ch then s
  else
    let s := chSetLevel s ch v
    if v && !silent then chFork s ch else s

/-- R156: the pulse that began with the latest change of the level of channel `ch` is lost: the level is as if it had not come, and the event
with which it rose reaches no consumer. -/
def chLost (s : State) (ch : Nat) : State :=
  let h := s.evOf ch
  let x := (h.hist.head?.map (fun p => p.at_)).getD 0
  let woke := h.sent.any (fun e => e.at_ == x && e.woke)
  let s := (s.put F.EV_STAT_lvl ch (b2n (!s.is F.EV_STAT_lvl ch))).setEv ch { h with
    hist := h.hist.drop 1, sent := h.sent.filter (fun e => e.at_ != x) }
  if woke then { s with wake := none } else s

/-- R155, R156: the level of a level source of channel `ch` has changed. Where the change ends a pulse shorter than 1 ns, of either
polarity, the pulse passes or is lost. -/
def chFollow (s : State) (ch : Nat) : State :=
  let short := match (s.evOf ch).hist with
    | p :: _ => decide (s.now < p.at_ + 64)
    | [] => false
  if chLevel s ch = s.is F.EV_STAT_lvl ch || !short then chUpdate s ch false
  else
    let (x, s) := s.draw 2
    if x = 0 then chLost s ch else chUpdate s ch false

/-- R156: an occurrence of a pulse source on channel `ch`: it raises the level, or merges within 4 ns. -/
def chOccur (s : State) (ch : Nat) : State :=
  if !s.is F.EV_CTL_en ch then s
  else
    let h := s.evOf ch
    let merges := match h.raisedAt with
      | some x => decide (s.now < x + ns 4)
      | none => false
    if merges then s.flag F.EV_STAT_merge ch
    else chUpdate (s.setEv ch { h with pulse := true, raisedAt := some s.now }) ch false

/-! ### Ownership (R166, R167) -/

/-- R166: requester `q` may write a register whose owner field reads `owner`. -/
def ownerOk (q : Req) (owner : Nat) : Bool :=
  match q with
  | .core c => owner == 31 || owner == c.val
  | _ => false

/-- R166, R167: a write of EV_OWN or LC_OWN (register `r`, flag `err` for a refusal): `new` is the value it would store. -/
def ownWrite (s : State) (q : Req) (r : RegName) (err : Fld) (i : Nat) (new : BitVec 36) : State :=
  let owner := s.get ⟨r, 0, 5⟩ i
  let me := match q with
    | .core c => c.val
    | _ => 32
  let o := fget new 0 5
  let seals := fget new 17 1 == 1 && !s.is ⟨r, 17, 1⟩ i
  if new == s.reg r i then s
  else if !ownerOk q owner || s.is ⟨r, 17, 1⟩ i || (seals && owner != me) || (owner == 31 && o != me) ||
      (15 < o && o != 31) then s.flag err i
  else s.setReg r i new

/-! ### Channel registers (R156, R164, R167) -/

/-- R156, R164: stores a new value of EV_CTL. -/
def evCtlStore (s : State) (ch : Nat) (new : BitVec 36) : State :=
  let en0 := s.is F.EV_CTL_en ch
  let s := s.setReg .EV_CTL ch new
  let en := s.is F.EV_CTL_en ch
  if en == en0 then s
  else chUpdate (s.setEv ch { s.evOf ch with pulse := false }) ch true

/-- R155, R156, R164, R166, R167: a write of a channel register; `acts` are the WO bits it sets. -/
def evWrite (s : State) (q : Req) (r : RegName) (ch : Nat) (new : BitVec 36) (acts : Nat) : State :=
  let err := s.flag F.EV_STAT_cfgerr ch
  if r = .EV_OWN then ownWrite s q .EV_OWN F.EV_STAT_cfgerr ch new
  else if new == s.reg r ch && acts == 0 then s
  else if !ownerOk q (s.get F.EV_OWN_core ch) then err
  else if s.is F.EV_OWN_seal ch && r != .EV_STAT then err
  else match r with
    | .EV_SRC => if s.is F.EV_CTL_en ch then err else s.setReg r ch new
    | .EV_CTL =>
      if s.is F.EV_CTL_en ch && fget new 16 1 != s.get F.EV_CTL_inv ch then err
      else if !s.is F.EV_CTL_en ch && fget new 17 1 == 1 &&
          !srcValid (s.get F.EV_SRC_cls ch) (s.get F.EV_SRC_inst ch) (s.get F.EV_SRC_ev ch) then err
      else evCtlStore s ch new
    | .EV_SW => chOccur s ch
    | _ => s.setReg r ch new

/-! ### Logic cells (R161 to R165) -/

/-- R161: the look-up value of cell `n` for its input levels. -/
def lutValue (s : State) (n : Nat) : Bool :=
  let i := (s.lcOf n).inp
  (s.get F.LC_LUT_lut n).testBit
    (8 * b2n (i.getD 3 false) + 4 * b2n (i.getD 2 false) + 2 * b2n (i.getD 1 false) + b2n (i.getD 0 false))

/-- R161, R165: the output of cell `n` takes the level `v`, `d` fine ticks from now as the channels that select it see it, after the changes
still on their way. DESIGN CHOICES: LC_STAT.out, rise and the interrupt come with the command, up to 1 ns early (log 130); each rise fires
the source, also while rise is still 1 (log 122). -/
def lcOut (s : State) (n : Nat) (v : Bool) (d : Nat) : State :=
  if v == s.is F.LC_STAT_out n then s
  else
    let ahead := (s.lcOf n).outAt.filter (fun x => decide (s.now < x))
    let x := ahead.foldl max (s.now + d)
    let s := (s.put F.LC_STAT_out n (b2n v)).setLc n { s.lcOf n with outAt := ahead ++ (if s.now < x then [x] else []) }
    let s := s.raiseAt 14 n 0 (x : Nat)
    if v then (s.flag F.LC_STAT_rise n).fireIf (s.is F.LC_CTL_ien n) (416 + n) else s

/-- R158: the output of cell `n` takes the level `v`, 0.6 ns to 1.0 ns after what caused it. -/
def lcPass (s : State) (n : Nat) (v : Bool) : State :=
  if v == s.is F.LC_STAT_out n then s
  else
    let (x, s) := s.draw 26
    lcOut s n v (39 + x)

/-- R163: the filter output of cell `n` takes the level `v`, and passes the flip-flop stage. -/
def lcFilt (s : State) (n : Nat) (v : Bool) : State :=
  if v == s.is F.LC_STAT_filt n then s
  else
    let s := s.put F.LC_STAT_filt n (b2n v)
    match s.get F.LC_CTL_ff n with
    | 0 => lcPass s n v
    | 1 => if v then lcPass (s.setLc n { s.lcOf n with setAt := some s.now }) n true else s
    | _ => s

/-- R162: the majority of three samples. -/
def majority (l : List Bool) : Bool := 2 ≤ (l.filter id).length

/-- R162: the majority filter of cell `n` samples its input. -/
def lcSample (s : State) (n : Nat) : State :=
  let l := (s.lcOf n).samples.drop 1 ++ [s.is F.LC_STAT_lut n]
  lcFilt (s.setLc n { s.lcOf n with samples := l }) n (majority l)

/-- R162: a change of the look-up value of cell `n` reaches the filter. -/
def lcLut (s : State) (n : Nat) : State :=
  let v := lutValue s n
  if v == s.is F.LC_STAT_lut n then s
  else
    let s := s.put F.LC_STAT_lut n (b2n v)
    let h := s.lcOf n
    match s.get F.LC_CTL_filt n with
    | 0 => lcFilt s n v
    | 1 => s.setLc n { h with since := if v == s.is F.LC_STAT_filt n then none else some s.now }
    | 2 => s
    | _ =>
      if h.holdEnd.isSome || v == s.is F.LC_STAT_filt n then s
      else lcFilt (s.setLc n { h with holdWait := true }) n v

/-- R161 to R163: input `i` of cell `n` takes the level `v`. A rising edge of input 3 clocks the DFF stage, and the majority filter
with mclk = 5, with what stood just before it. -/
def lcInput (s : State) (n i : Nat) (v : Bool) : State :=
  let h := s.lcOf n
  if h.inp.getD i false == v then s
  else
    let clock := i == 3 && v
    let s := s.setLc n { h with inp := h.inp.set i v }
    let s := if clock && s.get F.LC_CTL_ff n == 2 then lcPass s n (s.is F.LC_STAT_filt n) else s
    let s := if clock && s.get F.LC_CTL_filt n == 2 && s.get F.LC_CTL_mclk n == 5 then lcSample s n else s
    lcLut s n

/-- R158: tap `x` has the level that channel `ch` has now. -/
def levelTaken (s : State) (ch : Nat) (x : Tap) : State :=
  s.setEv ch { s.evOf ch with hist := (s.evOf ch).hist.map (fun p => { p with took := x :: p.took }) }

/-- R164: the enable of cell `n` takes effect: the flip-flop clears and the filter takes the look-up value. -/
def lcEnable (s : State) (n : Nat) : State :=
  let s := [0, 1, 2, 3].foldl (fun s i => levelTaken s (s.get F.LC_IN_ch (n * 4 + i)) ⟨5, n * 4 + i⟩) s
  let lvl (i : Nat) : Bool := s.is F.LC_IN_en (n * 4 + i) && s.is F.EV_STAT_lvl (s.get F.LC_IN_ch (n * 4 + i))
  let s := s.setLc n { inp := [lvl 0, lvl 1, lvl 2, lvl 3], outAt := (s.lcOf n).outAt }
  let v := lutValue s n
  let s := s.setLc n { s.lcOf n with samples := [v, v, v] }
  let s := ((s.put F.LC_STAT_lut n (b2n v)).put F.LC_STAT_filt n (b2n v)).put F.LC_STAT_hold n 0
  if s.get F.LC_CTL_ff n = 0 then lcOut s n v 0 else s

/-- R161: the cell is disabled: its output is 0. -/
def lcDisable (s : State) (n : Nat) : State :=
  let s := (s.put F.LC_STAT_hold n 0).setLc n { s.lcOf n with since := none, holdWait := false, holdEnd := none }
  lcOut s n false 0

/-- R164: an enable of cell `n` with the value `new` of LC_CTL is refused. -/
def lcRefused (s : State) (n : Nat) (new : BitVec 36) : Bool :=
  let filt := fget new 13 2
  let k := s.get F.LC_FILT_n n
  fget new 15 2 == 3 || (filt == 2 && 6 ≤ fget new 10 3) || (filt == 1 && (k == 0 || 255 < k)) || (filt == 3 && k == 0)

/-- R163: a re-arm of cell `n`; a rising edge of the same timer cycle leaves the latch set. -/
def lcRearm (s : State) (n : Nat) : State :=
  let same := match (s.lcOf n).setAt with
    | some x => edgeFloor x == edgeFloor s.now
    | none => false
  if s.get F.LC_CTL_ff n = 1 ∧ !same then lcOut s n false 0 else s

/-- R159: the channels that the inputs of cell `n` select, each once. -/
def lcChannels (s : State) (n : Nat) : List Nat := ([0, 1, 2, 3].map (fun i => s.get F.LC_IN_ch (n * 4 + i))).eraseDups

/-- R163, R164, R166, R167: a write of a register of cell `n` (instance `i` of register `r`). -/
def lcWrite (s : State) (q : Req) (r : RegName) (i n : Nat) (new : BitVec 36) (acts : Nat) : State :=
  let err := s.flag F.LC_STAT_cfgerr n
  if r = .LC_OWN then ownWrite s q .LC_OWN F.LC_STAT_cfgerr n new
  else if new == s.reg r i && acts == 0 then s
  else if !ownerOk q (s.get F.LC_OWN_core n) then err
  else
    let sealed := s.is F.LC_OWN_seal n
    let en := s.is F.LC_CTL_en n
    match r with
    | .LC_STAT => s.setReg r i new
    | .LC_CTL =>
      let en1 := fget new 17 1 == 1
      let cfg := fget new 10 7 != fget (s.reg .LC_CTL n) 10 7
      if sealed && (en1 != en || cfg) then err
      else if en && cfg then err
      else if en1 && !en && lcRefused s n new then err
      else
        let s0 := s
        let s := s.setReg .LC_CTL n new
        let s := if en1 && !en then lcEnable s n else if en && !en1 then lcDisable s n else s
        let s := if en1 && acts != 0 then lcRearm s n else s
        if en1 == en then s else (lcChannels s n).foldl (fun s ch => retap s0 s ch) s
    | _ => if sealed || en then err else s.setReg r i new

/-! ### The commands -/

/-- R157: the source of channel `ch` is a level source, or a pulse source that occurred at instant `t` and whose occurrence the channel has not
yet taken up. -/
def srcOccurs (s : State) (ch t : Nat) : Bool :=
  let cls := s.get F.EV_SRC_cls ch
  let ev := s.get F.EV_SRC_ev ch
  srcIsLevel cls ev ||
    (s.srcAtOf (srcKey cls (s.get F.EV_SRC_inst ch) ev) == some (t : Int) && (s.evOf ch).occAt != some (t : Int))

/-- R155, R156: the source of an enabled channel occurs, or its level has changed. -/
def execEventOccurrence (t : Nat) (ch : Fin 512) (s : State) : Host.Outcome State Fault Refusal :=
  event t s
    (fun s => s.is F.EV_CTL_en ch && !srcSilent s (s.get F.EV_SRC_cls ch) (s.get F.EV_SRC_inst ch) (s.get F.EV_SRC_ev ch) && s.get F.EV_SRC_cls ch != 0 &&
      srcOccurs s ch t)
    (fun s => if srcIsLevel (s.get F.EV_SRC_cls ch) (s.get F.EV_SRC_ev ch) then chFollow s ch
      else chOccur (s.setEv ch { s.evOf ch with occAt := some (t : Int) }) ch)

/-- R155: the pulse of an occurrence ends, 2 ns ± 0.3 ns after it. -/
def execEventPulseEnd (t : Nat) (ch : Fin 512) (s : State) : Host.Outcome State Fault Refusal :=
  event t s
    (fun s => fabricOn s && (s.evOf ch).pulse && (match (s.evOf ch).raisedAt with | some x => decide (x + 109 ≤ s.now) | none => false))
    (fun s => chUpdate (s.setEv ch { s.evOf ch with pulse := false }) ch false)

/-- R156: a write of EV_CTL that sets en. -/
def execChannelEnable (t : Nat) (q : Req) (ch : Fin 512) (v : Word) (s : State) : Host.Outcome State Fault Refusal :=
  event t s (fun s => !s.is F.EV_CTL_en ch && F.EV_CTL_en.of v.toNat == 1)
    (fun s => evWrite s q .EV_CTL ch (s.written_ .EV_CTL ch .base v.toNat) 0)

/-- R155, R166, R167: a write of EV_SW with pulse = 1. -/
def execSoftwareOccurrence (t : Nat) (q : Req) (ch : Fin 512) (v : Word) (s : State) : Host.Outcome State Fault Refusal :=
  event t s (fun _ => F.EV_SW_pulse.of v.toNat == 1) (fun s => evWrite s q .EV_SW ch (s.reg .EV_SW ch) (woBits .EV_SW .base v.toNat))

/-- R159: 10 ns after a tap was taken or released, the new ranking takes effect. -/
def execTapRerank (t : Nat) (ch : Fin 512) (s : State) : Host.Outcome State Fault Refusal :=
  event t s (fun s => (s.evOf ch).later.any (fun p => decide (p.1 ≤ s.now)))
    (fun s => s.setEv ch ((s.evOf ch).ranked s.now))

/-- R158, R159: the change can be at a direct tap, or at a relayed one, at instant `t`: 1.0 ns to 1.5 ns after the channel, or 2.0 ns to 3.0 ns
and within 0.5 ns of the other relayed taps. -/
def LvlChange.reaches (p : LvlChange) (direct relayed : Bool) (t : Nat) : Bool :=
  (direct && decide (p.at_ + 64 ≤ t) && decide (t ≤ p.at_ + 96)) ||
    (relayed && decide (p.at_ + 128 ≤ t) && decide (t ≤ p.at_ + fabricSpan) &&
      p.arr.all (fun a => decide (t ≤ a.1 + 32) && decide (a.2 ≤ t + 32)))

/-- R158, R159: the change of channel `ch` to the level `v` that tap `x` can take now: it takes the changes in their order and none twice. A tap
that ranks beyond 64 takes none; a tap taken less than 10 ns ago stands among the direct and the relayed ones. -/
def levelChange (s : State) (ch : Nat) (x : Tap) (v : Bool) : Option LvlChange :=
  let order := ((s.evOf ch).ranked s.now).order
  let fresh := !order.contains x
  let direct := (order.take 8).contains x || fresh
  let relayed := ((order.take 64).drop 8).contains x || fresh
  ((s.evOf ch).hist.takeWhile (fun p => !p.took.contains x)).reverse.find? (fun p => p.v == v && p.reaches direct relayed s.now)

/-- R158: the level of channel `ch` has been `v` for longer than any way through the fabric, and tap `x` receives it. -/
def levelSteady (s : State) (ch : Nat) (x : Tap) (v : Bool) : Bool :=
  let order := ((s.evOf ch).ranked s.now).order
  ((order.take 64).contains x || !order.contains x) && s.is F.EV_STAT_lvl ch == v &&
    (s.evOf ch).hist.all (fun p => decide (p.at_ + fabricSpan < s.now))

/-- R158, R159: the level `v` of channel `ch` can be at tap `x` now. -/
def levelReaches (s : State) (ch : Nat) (x : Tap) (v : Bool) : Bool := (levelChange s ch x v).isSome || levelSteady s ch x v

/-- R159: tap `x` takes the level `v` of channel `ch`: that change, and none before it any more. -/
def levelTake (s : State) (ch : Nat) (x : Tap) (v : Bool) : State :=
  match levelChange s ch x v with
  | none => levelTaken s ch x
  | some c =>
    let relayed := decide (c.at_ + 128 ≤ s.now)
    s.setEv ch { s.evOf ch with hist := (s.evOf ch).hist.map (fun p =>
      if c.at_ < p.at_ then p
      else { p with took := x :: p.took
                    arr := if p.at_ = c.at_ ∧ relayed then some (p.arr.elim (s.now, s.now) (fun a => (min a.1 s.now, max a.2 s.now)))
                      else p.arr }) }

/-- R158, R161: the level at input `i` of an enabled cell becomes `lvl`, as its channel had it a hop ago. -/
def execCellInputChange (t : Nat) (n : Fin 64) (i : Fin 4) (lvl : Bool) (s : State) : Host.Outcome State Fault Refusal :=
  event t s
    (fun s =>
      let k := n.val * 4 + i.val
      fabricOn s && s.is F.LC_CTL_en n && s.is F.LC_IN_en k && levelReaches s (s.get F.LC_IN_ch k) ⟨5, k⟩ lvl)
    (fun s =>
      let k := n.val * 4 + i.val
      lcInput (levelTake s (s.get F.LC_IN_ch k) ⟨5, k⟩ lvl) n i lvl)

/-- R162: the input has held its level for n ns (n × (1 ± 5 %) ± 0.5 ns), and the pulse-width filter passes it. -/
def execPulseWidthPass (t : Nat) (n : Fin 64) (s : State) : Host.Outcome State Fault Refusal :=
  event t s
    (fun s => fabricOn s && s.is F.LC_CTL_en n && s.get F.LC_CTL_filt n == 1 && (match (s.lcOf n).since with
      | some x => decide (100 * x + 6080 * s.get F.LC_FILT_n n ≤ 100 * s.now + 3200)
      | none => false))
    (fun s => lcFilt (s.setLc n { s.lcOf n with since := none }) n (s.is F.LC_STAT_lut n))

/-- R162: the period of a majority clock of code `m` up to 4, in fine ticks. -/
def mclkPeriod (m : Nat) : Nat :=
  match m with
  | 0 => 64
  | 1 => 64 * 16
  | 2 => 64 * 256
  | 3 => 64 * 4096
  | _ => coarseTick

/-- R162: the present instant is a rising edge of majority clock `m`: a clock keeps the phase of its earlier edges, and the
timer-derived ones stop with the timer domain (R168). -/
def mclkEdge (s : State) (m : Nat) : Bool :=
  decide (m ≤ 4) && (m == 4 || (decide (s.rung < 3) && s.now % 64 == 0)) &&
    (match s.divAtOf m with
      | some x => (s.now - x) % mclkPeriod m == 0
      | none => true)

/-- R162: the debounce hold ends; a differing input passes, and a new hold starts at the same tick. -/
def execDebounceHoldEnd (t : Nat) (n : Fin 64) (s : State) : Host.Outcome State Fault Refusal :=
  event t s (fun s => fabricOn s && match (s.lcOf n).holdEnd with | some x => decide (x ≤ s.now) | none => false)
    (fun s =>
      let h := s.lcOf n
      let v := s.is F.LC_STAT_lut n
      if v == s.is F.LC_STAT_filt n then (s.setLc n { h with holdEnd := none }).put F.LC_STAT_hold n 0
      else lcFilt (s.setLc n { h with holdEnd := some (h.holdEnd.getD 0 + s.get F.LC_FILT_n n * coarseTick) }) n v)

/-- R162: the first 32.768 kHz tick after a passed change starts the debounce hold. -/
def execDebounceHoldStart (t : Nat) (n : Fin 64) (s : State) : Host.Outcome State Fault Refusal :=
  event t s (fun s => fabricOn s && s.is F.LC_CTL_en n && (s.lcOf n).holdWait && mclkEdge s 4)
    (fun s =>
      let s := s.setDivAt 4 (some s.now)
      let h := { s.lcOf n with holdWait := false, holdEnd := some (s.now + s.get F.LC_FILT_n n * coarseTick) }
      (s.setLc n h).put F.LC_STAT_hold n 1)

/-- R162: a rising edge of the clock that the majority filter of the cell selects. -/
def execMajoritySample (t : Nat) (n : Fin 64) (s : State) : Host.Outcome State Fault Refusal :=
  event t s (fun s => fabricOn s && s.is F.LC_CTL_en n && s.get F.LC_CTL_filt n == 2 && mclkEdge s (s.get F.LC_CTL_mclk n))
    (fun s => lcSample (s.setDivAt (s.get F.LC_CTL_mclk n) (some s.now)) n)

/-- R163: a write of LC_CTL with rearm = 1. -/
def execCellRearm (t : Nat) (q : Req) (n : Fin 64) (v : Word) (s : State) : Host.Outcome State Fault Refusal :=
  event t s (fun _ => F.LC_CTL_rearm.of v.toNat == 1)
    (fun s => lcWrite s q .LC_CTL n n (s.written_ .LC_CTL n .base v.toNat) (woBits .LC_CTL .base v.toNat))

/-- R164: a write of LC_CTL that sets en. -/
def execCellEnable (t : Nat) (q : Req) (n : Fin 64) (v : Word) (s : State) : Host.Outcome State Fault Refusal :=
  event t s (fun s => !s.is F.LC_CTL_en n && F.LC_CTL_en.of v.toNat == 1)
    (fun s => lcWrite s q .LC_CTL n n (s.written_ .LC_CTL n .base v.toNat) (woBits .LC_CTL .base v.toNat))

/-- R166: a write of EV_OWN or LC_OWN. -/
def execOwnerWrite (t : Nat) (q : Req) (cell : Bool) (n : Fin 512) (v : Word) (s : State) :
    Host.Outcome State Fault Refusal :=
  event t s (fun _ => !cell || decide (n.val < 64))
    (fun s =>
      if cell then lcWrite s q .LC_OWN n n (s.written_ .LC_OWN n .base v.toNat) 0
      else evWrite s q .EV_OWN n (s.written_ .EV_OWN n .base v.toNat) 0)

/-- R167: a write of EV_OWN or LC_OWN through the set alias. -/
def execSeal (t : Nat) (q : Req) (cell : Bool) (n : Fin 512) (v : Word) (s : State) : Host.Outcome State Fault Refusal :=
  event t s (fun _ => !cell || decide (n.val < 64))
    (fun s =>
      if cell then lcWrite s q .LC_OWN n n (s.written_ .LC_OWN n .set v.toNat) 0
      else evWrite s q .EV_OWN n (s.written_ .EV_OWN n .set v.toNat) 0)

end Sys2Proof.Machine
end

