-- ==== Sys2Proof/Machine/Pins.lean ====
section
/-! DEFINITION. SMBus ports, SPI ports and GPIO pins (18_pins_interfaces_electrical.md, R419 to R425). -/

namespace Sys2Proof.Machine

/-! ### SMBus (R419 to R423) -/

/-- R423: the head of the queue of captured entries shows in SMB_CAPH and SMB_CAPD. -/
def smbShow (s : State) (m : Nat) : State :=
  let q := (s.smbOf m).q
  let s := s.put F.SMB_STAT_capn m q.length
  match q with
  | [] => (List.range 16).foldl (fun s j => s.setReg .SMB_CAPD (m * 16 + j) 0) (s.setReg .SMB_CAPH m 0)
  | e :: _ =>
    let v := 2 ^ 35 + b2n e.rd * 2 ^ 34 + b2n e.all * 2 ^ 33 + e.page * 2 ^ 28 + e.cmd.toNat * 2 ^ 20 + e.data.length * 2 ^ 14
    let s := s.setReg .SMB_CAPH m (BitVec.ofNat 36 v)
    (List.range 16).foldl (fun s j =>
      s.setReg .SMB_CAPD (m * 16 + j)
        (BitVec.ofNat 36 ((e.data.getD (2 * j) 0).toNat * 2 ^ 9 + (e.data.getD (2 * j + 1) 0).toNat))) s

/-- R423: source 664 + m. -/
def smbCause (s : State) (m : Nat) : State := s.fireIf (s.is F.SMB_CTL_ien m) (664 + m)

/-- R423: a status flag sets. -/
def smbFlag (s : State) (f : Fld) (m : Nat) : State := smbCause (s.flag f m) m

/-- R423: an entry is captured; as the head it fires the port's source. -/
def smbCapture (s : State) (m : Nat) (e : SmbEnt) : State :=
  let h := s.smbOf m
  let s' := smbShow (s.setSmb m { h with q := h.q ++ [e] }) m
  if h.q.isEmpty then smbCause s' m else s'

/-- R411, R419: the port answers its address. -/
def smbMine (s : State) (m : Nat) (a : BitVec 7) : Bool :=
  s.is F.SMB_CTL_en m && s.get F.SMB_CTL_addr m == a.toNat && decide (s.rung < 3)

/-- R422: the port stretches the clock for an unassisted read. -/
def smbWaits (s : State) (m : Nat) : Bool := s.is F.SMB_STAT_rdw m

/-- R419: the address octet of a write (or of a read). -/
def smbAddr (a : BitVec 7) (rd : Bool) : Octet := BitVec.ofNat 8 (2 * a.toNat + b2n rd)

/-- R420, R423: an accepted write of PAGE. -/
def smbPage (s : State) (m : Nat) (v : BitVec 8) : State :=
  if v = 0xff then s.put F.SMB_STAT_allp m 1
  else (s.put F.SMB_STAT_allp m 0).put F.SMB_STAT_page m v.toNat

/-- R419, R420, R423: a write reaches port `m`: command `c`, data octets, the count octet of a block, and the PEC octet that follows
them if there is one. -/
def smbWrite (s : State) (m : Nat) (a : BitVec 7) (c : BitVec 8) (data cnt : List Octet) (pec : Option Octet) : State :=
  if !smbMine s m a || smbWaits s m then s
  else if 8 ≤ (s.smbOf m).q.length then (smbFlag s F.SMB_STAT_ovf m).emit (.nack m)
  else
    let on := s.is F.SMB_CTL_pec m
    let good := pec == some (crc8 ([smbAddr a false, c] ++ cnt ++ data))
    let data := if on then data else data ++ pec.toList
    let page := c == 0 && !data.isEmpty
    let v := data.getD 0 0
    if page && (32 ≤ v.toNat && v != 0xff) then s.emit (.nack m)
    else if 32 < data.length then s.emit (.nack m)
    else if on && !good then (smbFlag s F.SMB_STAT_pecerr m).emit (.nack m)
    else
      let s := if page then smbPage s m v else s
      smbCapture s m ⟨false, s.is F.SMB_STAT_allp m, s.get F.SMB_STAT_page m, c, data⟩

/-- R420: the assisted read commands: index and octets. -/
def smbAssist (c : BitVec 8) : Option (Nat × Nat) :=
  match c.toNat with
  | 0o031 => some (0, 1)
  | 0o040 => some (1, 1)
  | 0o170 => some (2, 1)
  | 0o171 => some (3, 2)
  | 0o210 => some (4, 2)
  | 0o211 => some (5, 2)
  | 0o213 => some (6, 2)
  | 0o214 => some (7, 2)
  | 0o215 => some (8, 2)
  | 0o226 => some (9, 2)
  | 0o227 => some (10, 2)
  | 0o230 => some (11, 1)
  | _ => none

/-- R420, R422: the port answers a read of `c` with octets, and appends the PEC where it is on. -/
def smbAnswer (s : State) (m : Nat) (c : BitVec 8) (l : List Octet) : State :=
  let a := BitVec.ofNat 7 (s.get F.SMB_CTL_addr m)
  let pec := if s.is F.SMB_CTL_pec m then [crc8 ([smbAddr a false, c, smbAddr a true] ++ l)] else []
  s.emit (.octets m (l ++ pec))

/-- R422: an unassisted read of `c` is captured, and the clock stretched; its protocol takes `want` octets, a block 0. -/
def smbStretch (s : State) (m : Nat) (c : BitVec 8) (want : Nat) : State :=
  if 8 ≤ (s.smbOf m).q.length then (smbFlag s F.SMB_STAT_ovf m).emit (.nack m)
  else
    let s := smbCapture s m ⟨true, s.is F.SMB_STAT_allp m, s.get F.SMB_STAT_page m, c, []⟩
    let s := s.setSmb m { s.smbOf m with due := some (s.now + 64000 * s.get F.SMB_TMO_us m), cmd := c, want := want }
    (s.put F.SMB_STAT_rdw m 1).put F.SMB_STAT_busy m 1

/-- R421: an entry of the image as a read latches it: a store of the same timer cycle does not govern it. -/
def smbImg (s : State) (m k : Nat) : BitVec 36 :=
  let p := Store.get (fun _ => (0, 0)) (s.smbOf m).img k
  if p.1 = s.now / 64 + 1 then p.2 else s.reg .SMB_IMG k

/-- R421: a store to entry `k` of the image. -/
def smbImgWrite (s : State) (k : Nat) (a : Alias) (v : Nat) : State :=
  let m := k / 384
  let h := s.smbOf m
  let c := s.now / 64 + 1
  let img := h.img.filter (fun p => p.2.1 == c)
  let img := if (Store.get (fun _ => (0, 0)) img k).1 = c then img else Store.set (fun _ => (0, 0)) img k (c, s.reg .SMB_IMG k)
  (s.setSmb m { h with img := img }).setReg .SMB_IMG k (s.written_ .SMB_IMG k a v)

/-- R420 to R422: a read of command `c` reaches port `m`; its protocol takes `want` octets, a block 0. -/
def smbRead (s : State) (m : Nat) (a : BitVec 7) (c : BitVec 8) (want : Nat) : State :=
  if !smbMine s m a || smbWaits s m then s
  else if c = 0 then
    smbAnswer s m c [if s.is F.SMB_STAT_allp m then 0xff else BitVec.ofNat 8 (s.get F.SMB_STAT_page m)]
  else
    match smbAssist c with
    | some (i, n) =>
      let k := (m * 32 + s.get F.SMB_STAT_page m) * 12 + i
      let e := (smbImg s m k).toNat
      if F.SMB_IMG_hw.of e = 1 then
        let l : List Octet := [BitVec.ofNat 8 (F.SMB_IMG_lo.of e), BitVec.ofNat 8 (F.SMB_IMG_hi.of e)]
        smbAnswer s m c (l.take n)
      else smbStretch s m c want
    | none => smbStretch s m c want

/-- R422: the stretched read ends. -/
def smbIdle (s : State) (m : Nat) : State :=
  ((s.setSmb m { s.smbOf m with due := none }).put F.SMB_STAT_rdw m 0).put F.SMB_STAT_busy m 0

/-- Octet `k` of SMB_RSPD of port `m`. -/
def smbRspd (s : State) (m k : Nat) : Octet :=
  BitVec.ofNat 8 (s.get (if k % 2 = 0 then F.SMB_RSPD_a else F.SMB_RSPD_b) (m * 16 + k / 2))

/-- R422: a write of SMB_RSP. -/
def smbRspWrite (s : State) (m v : Nat) : State :=
  if F.SMB_RSP_go.of v = 0 ∨ smbWaits s m = false then s
  else
    let n := min (F.SMB_RSP_n.of v) 32
    let l := (List.range n).map (smbRspd s m)
    let l := if F.SMB_RSP_blk.of v = 1 then BitVec.ofNat 8 n :: l else l
    smbIdle (smbAnswer s m (s.smbOf m).cmd l) m

/-- R423: a write of SMB_POP. -/
def smbPopWrite (s : State) (m v : Nat) : State :=
  if F.SMB_POP_pop.of v = 0 then s
  else
    let h := s.smbOf m
    let s' := smbShow (s.setSmb m { h with q := h.q.tail }) m
    if 2 ≤ h.q.length then smbCause s' m else s'

/-- R15, R419, R428: a write of SMB_CTL; the address is written only while en = 0, and a write that would change it then is ignored. -/
def smbCtlWrite (s : State) (m v : Nat) : State :=
  if s.is F.SMB_CTL_en m && F.SMB_CTL_addr.of v != s.get F.SMB_CTL_addr m then s
  else
    let s := s.setReg .SMB_CTL m (s.written_ .SMB_CTL m .base v)
    if s.is F.SMB_CTL_en m then s else smbIdle s m

/-- R411, R419, R427: the level that port `m` lets the pin SMBALERT_N have: low while SMB_CTL.alert is 1, released in Stop and deeper. -/
def smbAlertN (s : State) (m : Nat) : Bool :=
  scanPin s (rowLBall (3 * m + 2)) (if s.is F.SMB_CTL_alert m && decide (s.rung < 3) then .low else .z) != .low

/-- R419: send byte. -/
def execSendByte (t : Nat) (m : Fin 2) (a : BitVec 7) (c : BitVec 8) (pec : Option (BitVec 8)) (s : State) :
    Host.Outcome State Fault Refusal := ok (smbWrite (s.tick t) m a c [] [] pec)

/-- R423: write byte. -/
def execWriteByte (t : Nat) (m : Fin 2) (a : BitVec 7) (c x : BitVec 8) (pec : Option (BitVec 8)) (s : State) :
    Host.Outcome State Fault Refusal := ok (smbWrite (s.tick t) m a c [x] [] pec)

/-- R423: write word. -/
def execWriteWord (t : Nat) (m : Fin 2) (a : BitVec 7) (c x y : BitVec 8) (pec : Option (BitVec 8)) (s : State) :
    Host.Outcome State Fault Refusal := ok (smbWrite (s.tick t) m a c [x, y] [] pec)

/-- R419, R423: block write; a block of more than 32 octets is refused. -/
def execBlockWrite (t : Nat) (m : Fin 2) (a : BitVec 7) (c : BitVec 8) (l : List (BitVec 8)) (pec : Option (BitVec 8))
    (s : State) : Host.Outcome State Fault Refusal := ok (smbWrite (s.tick t) m a c l [BitVec.ofNat 8 l.length] pec)

/-- R420: read byte. -/
def execReadByte (t : Nat) (m : Fin 2) (a : BitVec 7) (c : BitVec 8) (s : State) : Host.Outcome State Fault Refusal :=
  ok (smbRead (s.tick t) m a c 1)

/-- R420: read word. -/
def execReadWord (t : Nat) (m : Fin 2) (a : BitVec 7) (c : BitVec 8) (s : State) : Host.Outcome State Fault Refusal :=
  ok (smbRead (s.tick t) m a c 2)

/-- R422: block read. -/
def execBlockRead (t : Nat) (m : Fin 2) (a : BitVec 7) (c : BitVec 8) (s : State) : Host.Outcome State Fault Refusal :=
  ok (smbRead (s.tick t) m a c 0)

/-- R420: a write of PAGE, or with no octet a read of it. -/
def execPage (t : Nat) (m : Fin 2) (a : BitVec 7) (x : Option (BitVec 8)) (pec : Option (BitVec 8)) (s : State) :
    Host.Outcome State Fault Refusal :=
  let s := s.tick t
  ok (match x with
    | some v => smbWrite s m a 0 [v] [] pec
    | none => smbRead s m a 0 1)

/-- R419: a read of the Alert Response Address. -/
def execAlertResponse (t : Nat) (m : Fin 2) (s : State) : Host.Outcome State Fault Refusal :=
  event t s (fun s => s.is F.SMB_CTL_en m && s.is F.SMB_CTL_alert m && decide (s.rung < 3))
    (fun s => s.emit (.octets m [smbAddr (BitVec.ofNat 7 (s.get F.SMB_CTL_addr m)) false]))

/-- R419: a protocol that the port does not support. -/
def execUnsupportedProtocol (t : Nat) (m : Fin 2) (a : BitVec 7) (s : State) : Host.Outcome State Fault Refusal :=
  event t s (fun s => smbMine s m a) (fun s => s.emit (.nack m))

/-- R419: the clock-low timeout. -/
def execClockLowTimeout (t : Nat) (m : Fin 2) (s : State) : Host.Outcome State Fault Refusal :=
  event t s (fun s => s.is F.SMB_CTL_en m && decide (s.rung < 3)) (fun s => smbFlag (smbIdle s m) F.SMB_STAT_tmo m)

/-- R422: the stretch limit is reached: octets of all ones, as many as the read's protocol takes, and a wrong PEC, whose value the manual leaves
open; so is the number of octets of a block. -/
def execStretchLimit (t : Nat) (m : Fin 2) (s : State) : Host.Outcome State Fault Refusal :=
  event t s (fun s => smbWaits s m && (match (s.smbOf m).due with | some x => decide (x ≤ s.now) | none => false))
    (fun s =>
      let (x, s) := s.draw 255
      let want := (s.smbOf m).want
      let (n, s) := if want = 0 then ((s.draw 256).1 + 1, (s.draw 256).2) else (want, s)
      let a := BitVec.ofNat 7 (s.get F.SMB_CTL_addr m)
      let l : List Octet := List.replicate n 0xff
      let pec := crc8 ([smbAddr a false, (s.smbOf m).cmd, smbAddr a true] ++ l) + BitVec.ofNat 8 (1 + x)
      smbFlag ((smbIdle s m).emit (.octets m (l ++ [pec]))) F.SMB_STAT_stex m)

/-- R422: a write of SMB_RSP with go = 1. -/
def execSmbusResponse (t : Nat) (m : Fin 2) (v : Word) (s : State) : Host.Outcome State Fault Refusal :=
  event t s (fun _ => F.SMB_RSP_go.of v.toNat == 1) (fun s => smbRspWrite s m v.toNat)

/-- R423: a write of SMB_POP with pop = 1. -/
def execSmbusPop (t : Nat) (m : Fin 2) (v : Word) (s : State) : Host.Outcome State Fault Refusal :=
  event t s (fun _ => F.SMB_POP_pop.of v.toNat == 1) (fun s => smbPopWrite s m v.toNat)

/-! ### SPI (R424) -/

/-- The FIFO counts of port `m` show in SPI_STAT. -/
def spiShow (s : State) (m : Nat) : State :=
  (s.put F.SPI_STAT_txn m (s.spiOf m).tx.length).put F.SPI_STAT_rxn m (s.spiOf m).rx.length

/-- R424: the width of a frame. -/
def spiWidth (s : State) (m : Nat) : Nat :=
  match s.get F.SPI_CTL_wid m with
  | 0 => 8
  | 1 => 9
  | 2 => 16
  | _ => 18

/-- R15, R424, R428: a write of SPI_CTL; but for en and cs, the fields are written only while en = 0, and a write that would change one of them then
is ignored. -/
def spiCtlWrite (s : State) (m v : Nat) : State :=
  let new := s.written_ .SPI_CTL m .base v
  let free := F.SPI_CTL_en.mask ||| F.SPI_CTL_cs.mask
  if s.is F.SPI_CTL_en m && new ||| free != s.reg .SPI_CTL m ||| free then s else s.setReg .SPI_CTL m new

/-- R411, R424: port `m` drives its pins as a controller. -/
def spiDrives (s : State) (m : Nat) : Bool := s.is F.SPI_CTL_en m && !s.is F.SPI_CTL_tgt m

/-- R411, R424, R427: the pin CS_N of port `m`: a controller drives it low while SPI_CTL.cs is 1. -/
def spiCsN (s : State) (m : Nat) : PinLevel :=
  scanPin s (rowLBall (7 + 4 * m)) (awakePin s (if !spiDrives s m then .z else if s.is F.SPI_CTL_cs m then .low else .high))

/-- R411, R424, R427: the pin SCK of port `m` between frames: a controller holds it at cpol. -/
def spiSck (s : State) (m : Nat) : PinLevel :=
  scanPin s (rowLBall (6 + 4 * m)) (awakePin s (if !spiDrives s m then .z else if s.is F.SPI_CTL_cpol m then .high else .low))

/-- R424: the `w` bits of `v` in the order of the wire, the first in the highest place: the value itself, or with lsb = 1 its reverse. -/
def wireOrder (lsb : Bool) (w v : Nat) : Nat :=
  if lsb then (List.range w).foldl (fun n i => n + v / 2 ^ i % 2 * 2 ^ (w - 1 - i)) 0 else v % 2 ^ w

/-- R424: a write of SPI_TX. -/
def spiPush (s : State) (m v : Nat) : State :=
  let h := s.spiOf m
  if 16 ≤ h.tx.length then s else spiShow (s.setSpi m { h with tx := h.tx ++ [BitVec.ofNat 18 v] }) m

/-- R424: a read of SPI_RX. -/
def spiPop (s : State) (m : Nat) : Nat × State :=
  let h := s.spiOf m
  match h.rx with
  | [] => (0o777777, s)
  | x :: l => (x.toNat, spiShow (s.setSpi m { h with rx := l }) m)

/-- R424: source 666 + m. -/
def spiCause (s : State) (m : Nat) : State := s.fireIf (s.is F.SPI_CTL_ien m) (666 + m)

/-- R424: a status flag sets. -/
def spiFlag (s : State) (f : Fld) (m : Nat) : State := spiCause (s.flag f m) m

/-- R424: one frame is transferred; `x` holds the bits that come in, in the order of the wire, the first in the highest place of the frame's width, and
so does what goes out. -/
def spiFrame (s : State) (m : Nat) (x : BitVec 18) : State :=
  let h := s.spiOf m
  let mask (v : BitVec 18) : BitVec 18 := BitVec.ofNat 18 (wireOrder (s.is F.SPI_CTL_lsb m) (spiWidth s m) v.toNat)
  let sent := mask (h.tx.headD (BitVec.allOnes 18))
  let dry := h.tx.isEmpty
  let full := decide (16 ≤ h.rx.length)
  let s := (s.setSpi m { tx := h.tx.tail, rx := if full then h.rx else h.rx ++ [mask x] }).emit (.spi m sent)
  let s := if dry then spiFlag s F.SPI_STAT_udr m else s
  let s := if full then spiFlag s F.SPI_STAT_ovr m else if h.rx.isEmpty then spiCause s m else s
  spiShow s m

/-- R424: a write of SPI_TX. -/
def execSpiTxPush (t : Nat) (m : Fin 2) (v : Word) (s : State) : Host.Outcome State Fault Refusal :=
  ok (spiPush (s.tick t) m v.toNat)

/-- R424: a read of SPI_RX. -/
def execSpiRxPop (t : Nat) (m : Fin 2) (s : State) : Host.Outcome State Fault Refusal :=
  let (v, s) := spiPop (s.tick t) m
  ok (s.emit (.data v))

/-- R424: one SPI frame: a controller sends while it has an entry and room for what comes in; a target always takes part. -/
def execSpiFrame (t : Nat) (m : Fin 2) (x : BitVec 18) (s : State) : Host.Outcome State Fault Refusal :=
  event t s
    (fun s => s.is F.SPI_CTL_en m && decide (s.rung < 3) &&
      (s.is F.SPI_CTL_tgt m || (!(s.spiOf m).tx.isEmpty && decide ((s.spiOf m).rx.length < 16))))
    (fun s => spiFrame s m x)

/-! ### GPIO (R425) -/

/-- R411: pin `n` is sensed: in Dormant and Vigil only an input of GPIO00 to GPIO07. -/
def gpioSensed (s : State) (n : Nat) : Bool := decide (s.rung < 5) || (decide (n < 8) && !s.is F.GPIO_CFG_dir n)

/-- R333, R425: what a change of the level of pin `n` after pol does, from state `s0` to `s`. -/
def gpioChange (s0 s : State) (n : Nat) : State :=
  let lvl := gpioIn s n
  if gpioIn s0 n = lvl || !gpioSensed s n then s
  else
    let e := s.get F.GPIO_CFG_edge n
    let sel := if lvl then e.testBit 0 else e.testBit 1
    let s' := if sel then (s.flag F.GPIO_CFG_flag n).fireIf (s.is F.GPIO_CFG_ien n) (600 + n) else s
    let s' := s'.raise 16 n 0
    if lvl && decide (n < 8) && decide (5 ≤ s.rung) && (s.get F.PWR_WPIN_en 0).testBit (4 + n) then wakeDeep s' 5 else s'

/-- R425: the device has come from `s0` to `s`, where it may drive pin `n` otherwise. DESIGN CHOICE (log 138): an override by the board lasts until
then. -/
def gpioSettle (s0 s : State) (n : Nat) : State :=
  gpioChange s0 (if gpioDrive s0 n = gpioDrive s n then s else s.setGpioPad n { s.gpioPadOf n with wins := false }) n

/-- R425: a write of GPIO_CFG of pin `n` through an alias. -/
def gpioCfgWrite (s : State) (n : Nat) (a : Alias) (v : Nat) : State :=
  gpioSettle s (s.setReg .GPIO_CFG n (s.written_ .GPIO_CFG n a v)) n

/-- R425: a write of GPIO_OUT `j` through an alias. -/
def gpioOutWrite (s : State) (j : Nat) (a : Alias) (v : Nat) : State :=
  let s' := s.setReg .GPIO_OUT j (s.written_ .GPIO_OUT j a v)
  (List.range 16).foldl (fun x i => gpioSettle s x (16 * j + i)) s'

/-- R425: GPIO_IN `j`. -/
def gpioInRead (s : State) (j : Nat) : Nat :=
  (List.range 16).foldl (fun v i => v + b2n (gpioIn s (16 * j + i)) * 2 ^ i) 0

/-- R425: the board drives level `lvl` on pin `n`, over an output's own level where that differs. -/
def execGpioEdge (t : Nat) (n : Fin 64) (lvl : Bool) (s : State) : Host.Outcome State Fault Refusal :=
  let s := s.tick t
  let wins := match gpioDrive s n with
    | .z => false
    | .low => lvl
    | .high => !lvl
  ok (gpioChange s (s.setGpioPad n ⟨some lvl, wins⟩) n)

/-! ### Pin levels and boundary scan (R411, R426, R427) -/

/-- R390, R411, R427: the level that the device lets the pin FAULT_N have. -/
def faultN (s : State) : Bool := scanPin s faultBall (awakePin s (if s.boot.faultN then .low else .z)) != .low

/-- The level of a driven pin. -/
def PinLevel.level : PinLevel → Option Bool
  | .low => some false
  | .high => some true
  | .z => none

/-- R426: the level at a ball, where the state tells it; a released open-drain pin is pulled up (R412). -/
def ballLevel (s : State) (ball : Nat) : Option Bool :=
  let find (n : Nat) (f : Nat → Nat) : Option Nat := (List.range n).find? (fun i => f i == ball)
  ((find 64 gpioBall).map (gpioLevel s)).or <|
  ((find 256 (fun i => outBall (i / 2) (i % 2))).bind (fun i => (outPin s (i / 2) (i % 2)).level)).or <|
  ((find 16 tripBall).map (fun n => (s.tripPinOf n).lvl)).or <|
  ((find 4 lkWakeBall).map (lkWakeLine s)).or <|
  ((find 2 (fun m => rowLBall (3 * m + 2))).map (smbAlertN s)).or <|
  ((find 2 (fun m => rowLBall (6 + 4 * m))).bind (fun m => (spiSck s m).level)).or <|
  ((find 2 (fun m => rowLBall (7 + 4 * m))).bind (fun m => (spiCsN s m).level)).or <|
  if ball = lockupBall then some (lockupN s) else if ball = faultBall then some (faultN s) else none

/-- R426: what boundary cell `i` captures: an input cell the level at its ball; `x` where the state does not tell it. -/
def cellCapture (s : State) (i : Nat) (x : Bool) : Bool :=
  let (ball, k) := Config.boundaryCell i
  if k = 0 then (ballLevel s ball).getD x else x

/-- R425: the pads of every GPIO pin after the boundary cells act otherwise on them. -/
def gpioSettleAll (s0 s : State) : State := (List.range 64).foldl (gpioSettle s0) s

end Sys2Proof.Machine
end

