-- ==== Sys2Proof/Machine/Integrator.lean ====
section
/-! DEFINITION. Integrator channels (02_integrator_channels.md, R32 to R61). -/

namespace Sys2Proof.Machine

/-- R36: the shortest window, 8 ns. -/
def ichMin : Nat := 512
/-- R36: the longest window, 268,435,455 ns. -/
def ichMax : Nat := 17179869120

/-- R44: the window that a disarm discards: the open window and every pending edge instant. A window already closed keeps its
result; the probe current stops with the discarded window (R54). -/
def ichDisarm (s : State) (n : Nat) : State :=
  s.setIch n { s.ichOf n with edges := [], win := none }

/-- R43: powers the modulator down. DESIGN CHOICE (log 102): ovldnow and the overload it tells of clear at once; the manual gives only the clear
that an opposite decision brings (R51). -/
def ichPowerDown (s : State) (n : Nat) : State :=
  let s := (s.put F.ICH_STAT_ready n 0).put F.ICH_STAT_ovldnow n 0
  s.setIch n { s.ichOf n with readyDue := none, ovClr := none }

/-- R43: powers the modulator; ready sets 2,000 ns later. -/
def ichPowerUp (s : State) (n : Nat) : State :=
  s.setIch n { s.ichOf n with readyDue := some (s.now + ns 2000), powAt := s.now }

/-- R54: a new arming: windows are counted from 1 again. -/
def ichNewArming (s : State) (n : Nat) : State :=
  s.setIch n { s.ichOf n with winNo := 0, armNo := (s.ichOf n).armNo + 1, edges := [], win := none }

/-- R44: stores the configuration fields of a write of ICH_CTL. -/
def ichStoreCfg (s : State) (n v : Nat) : State :=
  ((s.put F.ICH_CTL_calsel n (F.ICH_CTL_calsel.of v)).put F.ICH_CTL_mode n (F.ICH_CTL_mode.of v)).put
    F.ICH_CTL_trgsrc n (F.ICH_CTL_trgsrc.of v)

/-- R44: a write of ICH_CTL would change a configuration field. -/
def ichCfgChanges (s : State) (n v : Nat) : Bool :=
  F.ICH_CTL_calsel.of v != s.get F.ICH_CTL_calsel n || F.ICH_CTL_mode.of v != s.get F.ICH_CTL_mode n ||
    F.ICH_CTL_trgsrc.of v != s.get F.ICH_CTL_trgsrc n

/-- R44: an arming is refused when ready is 0, when a FIXED window would not meet R40, or when ICH_TRGCU.cuev is reserved. -/
def ichArmRefused (s : State) (n v : Nat) : Bool :=
  !s.is F.ICH_STAT_ready n ||
    (F.ICH_CTL_mode.of v == 1 &&
      (s.get F.ICH_WLEN_len n < ichMin || s.get F.ICH_DELAY_d n < s.get F.ICH_WLEN_len n)) ||
    4 < s.get F.ICH_TRGCU_cuev n

/-- R43, R44: a write of ICH_CTL, but for the tap that it takes or releases. -/
def ichCtlStore (s : State) (n v : Nat) : State :=
  if s.is F.ICH_CTL_en n && F.ICH_CTL_en.of v == 0 then
    let s := ichPowerDown (ichDisarm s n) n
    ichStoreCfg ((s.put F.ICH_CTL_arm n 0).put F.ICH_CTL_en n 0) n v
  else if s.is F.ICH_CTL_arm n && F.ICH_CTL_arm.of v == 0 then
    ichStoreCfg ((ichDisarm s n).put F.ICH_CTL_arm n 0) n v
  else if s.is F.ICH_CTL_arm n then
    if ichCfgChanges s n v then s.flag F.ICH_STAT_cfgerr n else s
  else if F.ICH_CTL_arm.of v == 1 then
    if ichArmRefused s n v then s.flag F.ICH_STAT_cfgerr n
    else ichStoreCfg ((ichNewArming s n).put F.ICH_CTL_arm n 1) n v
  else
    let s := if F.ICH_CTL_en.of v == 1 && !s.is F.ICH_CTL_en n then (ichPowerUp s n).put F.ICH_CTL_en n 1 else s
    ichStoreCfg s n v

/-- R43, R44, R159: a write of ICH_CTL. -/
def ichCtlWrite (s : State) (n v : Nat) : State := retap s (ichCtlStore s n v) (s.get F.ICH_TRGEV_ch n)

/-- R44: a write of another configuration register: ignored, with cfgerr, where it would change the register of an armed channel. -/
def ichCfgWrite (s : State) (f : Fld) (n v : Nat) : State :=
  if f.of v == s.get f n then s
  else if s.is F.ICH_CTL_arm n then s.flag F.ICH_STAT_cfgerr n
  else s.put f n (f.of v)

/-- R45: the values that govern windows whose normalization begins after the present are those of the registers now. -/
def ichRefresh (s : State) (n : Nat) : State :=
  let refresh (w : NormWin) : NormWin :=
    if s.now < w.start then
      { w with c := s.getS F.ICH_GAINC_c n, o := s.getS F.ICH_OFFC_o n, thr := s.get F.ICH_PROBETHR_thr n,
               wdone := s.is F.ICH_IEN_wdone n, openIen := s.is F.ICH_IEN_open n }
    else w
  s.setIch n { s.ichOf n with norms := (s.ichOf n).norms.map refresh }

/-- R59: a write of ICH_CALCTL.refen. DESIGN CHOICE (log 104): refready clears with refen; the manual says only when it sets. -/
def calctlWrite (s : State) (v : Nat) : State :=
  let e := F.ICH_CALCTL_refen.of v
  if e == s.get F.ICH_CALCTL_refen 0 then s
  else
    let s := s.put F.ICH_CALCTL_refen 0 e
    if e == 1 then { s with calDue := some (s.now + ns 50000) }
    else { s.put F.ICH_CALCTL_refready 0 0 with calDue := none }

/-- R41, R42: a trigger that is dropped or merged. -/
def ichMiss (s : State) (n : Nat) : State :=
  ((s.incSat F.ICH_MISSCNT_count n).flag F.ICH_STAT_miss n).fireIf (s.is F.ICH_IEN_miss n) (144 + n)

/-- R54: the leg that the probe current drives in window `j` of an arming (true: AIN); none outside probe windows. -/
def probeLeg (k j : Nat) : Option Bool :=
  if k = 0 ∨ j % (k + 1) ≠ 0 then none else some ((j / (k + 1)) % 2 == 0)

/-- R37, R38, R41: a trigger of an armed channel. -/
def ichTrigger (s : State) (n t : Nat) : State :=
  let h := s.ichOf n
  let e := t + s.get F.ICH_DELAY_d n
  let fixed := s.is F.ICH_CTL_mode n
  let overlaps := match h.edges.getLast? with
    | some c => fixed && decide (e < c + s.get F.ICH_WLEN_len n)
    | none => false
  if 4 ≤ h.edges.length || overlaps then ichMiss s n
  else s.setIch n { h with edges := h.edges ++ [e] }

/-- R39, R40, R54: opens a window at instant `e` with residue `r`. -/
def ichOpen (s : State) (n e : Nat) (r : Int) : State :=
  let h := s.ichOf n
  let j := h.winNo + 1
  s.setIch n { h with winNo := j, win := some ⟨e, r, false, probeLeg (s.get F.ICH_PROBE_n n) j⟩ }

/-- R53: some part of a window that is open from `a` to `e` lies between the setting and the clearing of ovldnow. -/
def windowOverloaded (s : State) (n a e : Nat) : Bool :=
  let h := s.ichOf n
  (s.is F.ICH_STAT_ovldnow n && decide (h.ovSet < e)) || h.ovClr.elim false (fun c => decide (a < c))

/-- R35, R48, R53: closes the window `w` at instant `e` with residue `r` and `d` as the sum of the decisions in between. DESIGN CHOICE
(log 103): a window that two overloads of opposite sign touch takes the sign of the later one. -/
def ichClose (s : State) (n e : Nat) (w : OpenWin) (d r : Int) (forced : Bool) : State :=
  let h := s.ichOf n
  let nw : NormWin :=
    { start := edgeCeil e, raw := 128 * d + r - w.res, len := e - w.openAt, merged := w.merged, forced := forced,
      ovld := windowOverloaded s n w.openAt e, neg := h.ovNeg, cal := s.get F.ICH_CTL_calsel n != 0, leg := w.leg,
      c := s.getS F.ICH_GAINC_c n, o := s.getS F.ICH_OFFC_o n, thr := s.get F.ICH_PROBETHR_thr n,
      wdone := s.is F.ICH_IEN_wdone n, openIen := s.is F.ICH_IEN_open n, armNo := h.armNo }
  s.setIch n { h with win := none, norms := h.norms ++ [nw] }

/-- R34, R35: `d` can be the sum of the decisions of a window that opens at `a` and closes at `e`: one decision of +1 or -1 for
each timer edge in between. -/
def decisionsOk (a e : Nat) (d : Int) : Bool :=
  let k : Int := ((edgeCeil e - edgeCeil a) / 64 : Nat)
  decide (-k ≤ d) && decide (d ≤ k) && decide ((d - k) % 2 = 0)

/-- R39, R40, R42: what an edge instant `e` does. DESIGN CHOICE (log 101): a trigger too close to the open instant holds its pending place, and
is counted, at its edge instant. -/
def ichEdge (s : State) (n e : Nat) (d r : Int) : State :=
  let h := s.ichOf n
  let s := s.setIch n { h with edges := h.edges.drop 1 }
  match h.win with
  | none => ichOpen s n e r
  | some w =>
    if s.is F.ICH_CTL_mode n then ichClose s n e w d r false
    else if e < w.openAt + ichMin then
      let s := ichMiss s n
      s.setIch n { s.ichOf n with win := some { w with merged := true } }
    else ichOpen (ichClose s n e w d r false) n e r

/-- R47: the normalized sample before saturation. -/
def ichNorm (raw : Int) (len : Nat) (c o : Int) : Int :=
  roundDiv (raw * 65536 * (2097152 + c) * 16 + o * len * 2097152) (len * 2097152 * 16)

/-- R55: the probe test on three consecutive results: `q` before, `p` in the probe window, `y` after. -/
def probeHit (q p y : Sample) (thr : Nat) : Bool :=
  match p.leg with
  | none => false
  | some ain =>
    !(q.bad || p.bad || y.bad) &&
      (if ain then decide (q.y - p.y > thr) && decide (y.y - p.y > thr)
       else decide (p.y - q.y > thr) && decide (p.y - y.y > thr))

/-- R48, R49, R53, R54: the result registers of a window. -/
def ichPublish (s : State) (n : Nat) (w : NormWin) (y : Int) (sat : Bool) : State :=
  let s := s.put F.ICH_RAW_qu n (ux 36 w.raw)
  let s := s.put F.ICH_NORM_value n (ux 18 y)
  let s := s.put F.ICH_TLEN_t n w.len
  let s := s.put F.ICH_RSTAT_seq n (s.get F.ICH_RSTAT_seq n + 1)
  let s := s.put F.ICH_RSTAT_ovld n (b2n w.ovld)
  let s := s.put F.ICH_RSTAT_probe n (b2n w.leg.isSome)
  let s := s.put F.ICH_RSTAT_leg n (b2n (w.leg == some true))
  let s := s.put F.ICH_RSTAT_merged n (b2n w.merged)
  let s := s.put F.ICH_RSTAT_forced n (b2n w.forced)
  let s := s.put F.ICH_RSTAT_sat n (b2n sat)
  s.put F.ICH_RSTAT_cal n (b2n w.cal)

/-- R55: the probe test at a result, and the memory of the last two results. -/
def ichProbeTest (s : State) (n : Nat) (w : NormWin) (y : Int) : State :=
  let h := s.ichOf n
  let cur : Sample := ⟨y, w.ovld || w.merged, w.leg, w.armNo⟩
  let hit := match h.hist with
    | [q, p] => q.armNo == w.armNo && p.armNo == w.armNo && probeHit q p cur w.thr
    | _ => false
  let ain := match h.hist with
    | [_, p] => p.leg == some true
    | _ => false
  let s := s.setIch n { h with hist := (h.hist ++ [cur]).drop ((h.hist.length + 1) - 2) }
  if hit then
    let s := s.flag (if ain then F.ICH_STAT_openn else F.ICH_STAT_openp) n
    (s.raise 3 n 2).fireIf w.openIen (144 + n)
  else s

/-- R48, R53: the result of the oldest closed window. DESIGN CHOICE (log 129): sat of a window whose sample an overload forces tells the
saturation of the computed value. -/
def ichResult (s : State) (n : Nat) (w : NormWin) : State :=
  let x := ichNorm w.raw w.len w.c w.o
  let y := if w.ovld then (if w.neg then -131072 else 131071) else sat18 x
  let s := s.setIch n { s.ichOf n with norms := (s.ichOf n).norms.drop 1 }
  let s := ichPublish s n w y (sat18 x != x)
  let s := (s.raise 3 n 0).fireIf w.wdone (144 + n)
  ichProbeTest s n w y

/-! ### The commands -/

/-- R43: a write of ICH_CTL that sets en. -/
def execIchEnable (t : Nat) (n : Fin 128) (v : Word) (s : State) : Host.Outcome State Fault Refusal :=
  event t s (fun s => !s.is F.ICH_CTL_en n && F.ICH_CTL_en.of v.toNat == 1) (fun s => ichCtlWrite s n (s.yielded .ICH_CTL n .base v.toNat))

/-- R43: a write of ICH_CTL that clears en. -/
def execIchDisable (t : Nat) (n : Fin 128) (v : Word) (s : State) : Host.Outcome State Fault Refusal :=
  event t s (fun s => s.is F.ICH_CTL_en n && F.ICH_CTL_en.of v.toNat == 0) (fun s => ichCtlWrite s n (s.yielded .ICH_CTL n .base v.toNat))

/-- R28, R43: the modulator has settled. -/
def execIchReady (t : Nat) (n : Fin 128) (s : State) : Host.Outcome State Fault Refusal :=
  event t s
    (fun s => timerOn s && s.is F.ICH_CTL_en n && (match (s.ichOf n).readyDue with | some d => decide (d ≤ s.now) | none => false))
    (fun s => (s.setIch n { s.ichOf n with readyDue := none, readyAt := s.now }).put F.ICH_STAT_ready n 1)

/-- R44: a write of ICH_CTL that would set arm. -/
def execIchArm (t : Nat) (n : Fin 128) (v : Word) (s : State) : Host.Outcome State Fault Refusal :=
  event t s (fun s => !s.is F.ICH_CTL_arm n && F.ICH_CTL_arm.of v.toNat == 1) (fun s => ichCtlWrite s n (s.yielded .ICH_CTL n .base v.toNat))

/-- R44: a write of ICH_CTL that clears arm. -/
def execIchDisarm (t : Nat) (n : Fin 128) (v : Word) (s : State) : Host.Outcome State Fault Refusal :=
  event t s (fun s => s.is F.ICH_CTL_arm n && F.ICH_CTL_arm.of v.toNat == 0) (fun s => ichCtlWrite s n (s.yielded .ICH_CTL n .base v.toNat))

/-- R37, R158: a trigger from the source that channel `n` selects can have the instant `t`: the fine tick at which the counter unit produced the
selected event, or the first one at which an event of the channel has arrived; and no trigger came then or later before. -/
def ichTriggerAt (s : State) (n t : Nat) : Bool :=
  (s.ichOf n).trgAt.all (fun x => decide (x < t)) &&
    (if s.is F.ICH_CTL_trgsrc n then arrives s (s.get F.ICH_TRGEV_ch n) ⟨2, n⟩ t
     else s.srcAtOf (srcKey 1 (s.get F.ICH_TRGCU_cu n) (s.get F.ICH_TRGCU_cuev n)) == some (t : Int))

/-- R37, R41, R43: a trigger reaches an armed channel; while ready is 0 it is ignored. -/
def execIchTrigger (t : Nat) (n : Fin 128) (s : State) : Host.Outcome State Fault Refusal :=
  event t s (fun s => s.is F.ICH_CTL_arm n && s.is F.ICH_STAT_ready n && ichTriggerAt s n t) (fun s =>
    let s := if s.is F.ICH_CTL_trgsrc n then arrive s (s.get F.ICH_TRGEV_ch n) ⟨2, n⟩ t else s
    ichTrigger (s.setIch n { s.ichOf n with trgAt := some t }) n t)

/-- R39, R40: the oldest pending edge instant is reached. `d` is the sum of the decisions since the window opened and `r` the
residue read (R34, R35). -/
def execWindowEdge (t : Nat) (n : Fin 128) (d : Int) (r : BitVec 7) (s : State) : Host.Outcome State Fault Refusal :=
  event t s
    (fun s => match (s.ichOf n).edges with
      | e :: _ => decide (e ≤ s.now) && (match (s.ichOf n).win with
        | some w => decisionsOk w.openAt e d && (s.is F.ICH_CTL_mode n || decide (e ≤ w.openAt + ichMax))
        | none => !s.is F.ICH_CTL_mode n)
      | [] => false)
    (fun s => ichEdge s n ((s.ichOf n).edges.headD 0) d r.toInt)

/-- R40: the next FIXED window opens. -/
def execFixedWindowOpen (t : Nat) (n : Fin 128) (r : BitVec 7) (s : State) : Host.Outcome State Fault Refusal :=
  event t s
    (fun s => s.is F.ICH_CTL_mode n && (s.ichOf n).win.isNone && (match (s.ichOf n).edges with
      | e :: _ => decide (e ≤ s.now + s.get F.ICH_WLEN_len n)
      | [] => false))
    (fun s => ichOpen s n ((s.ichOf n).edges.headD 0 - s.get F.ICH_WLEN_len n) r.toInt)

/-- R36: a CONTIGUOUS window reaches its maximum length, and no accepted trigger closes it by then. -/
def execForcedClose (t : Nat) (n : Fin 128) (d : Int) (r : BitVec 7) (s : State) : Host.Outcome State Fault Refusal :=
  event t s
    (fun s => !s.is F.ICH_CTL_mode n && (match (s.ichOf n).win with
      | some w => decide (w.openAt + ichMax ≤ s.now) && (s.ichOf n).edges.all (fun e => decide (w.openAt + ichMax < e)) &&
        decisionsOk w.openAt (w.openAt + ichMax) d
      | none => false))
    (fun s => match (s.ichOf n).win with
      | some w => ichOpen (ichClose s n (w.openAt + ichMax) w d r.toInt true) n (w.openAt + ichMax) r.toInt
      | none => s)

/-- R48: 6 ns after normalization began, the results of the oldest closed window appear. -/
def execWindowResult (t : Nat) (n : Fin 128) (s : State) : Host.Outcome State Fault Refusal :=
  event t s
    (fun s => match (s.ichOf n).norms with
      | w :: _ => decide (w.start + ns 6 ≤ s.now)
      | [] => false)
    (fun s => match (s.ichOf n).norms with
      | w :: _ => ichResult s n w
      | [] => s)

/-- R51: there can have been 64 decisions of one sign (`neg`: -1) in a row 1 ns ago: the modulator has had power for so long, and a run of the
sign of the overload before began after the opposite decision that ended that one. -/
def overloadRun (s : State) (n : Nat) (neg : Bool) : Bool :=
  let h := s.ichOf n
  decide (edgeCeil h.powAt + ns 65 ≤ s.now) &&
    h.ovClr.all (fun c => if neg = h.ovNeg then decide (c + ns 1 ≤ s.now) else decide (c ≤ s.now))

/-- R28, R51: 1 ns after the edge that ends the 64th decision of one sign (`neg`: -1). -/
def execOverloadSet (t : Nat) (n : Fin 128) (neg : Bool) (s : State) : Host.Outcome State Fault Refusal :=
  event t s
    (fun s => timerOn s && s.is F.ICH_CTL_en n && !s.is F.ICH_STAT_ovldnow n && s.now % 64 == 0 && overloadRun s n neg)
    (fun s =>
      let s := s.setIch n { s.ichOf n with ovNeg := neg, ovSet := s.now }
      let s := (s.put F.ICH_STAT_ovldnow n 1).flag F.ICH_STAT_ovld n
      (s.raise 3 n 1).fireIf (s.is F.ICH_IEN_ovld n) (144 + n))

/-- R51: 64 ns after the edge that ends the first decision of the opposite sign, which comes at the earliest when ovldnow sets. -/
def execOverloadClear (t : Nat) (n : Fin 128) (s : State) : Host.Outcome State Fault Refusal :=
  event t s
    (fun s => s.is F.ICH_STAT_ovldnow n && s.now % 64 == 0 && decide ((s.ichOf n).ovSet + ns 64 ≤ s.now))
    (fun s => (s.setIch n { s.ichOf n with ovClr := some s.now }).put F.ICH_STAT_ovldnow n 0)

/-- R59: CALREF has settled. -/
def execCalrefReady (t : Nat) (s : State) : Host.Outcome State Fault Refusal :=
  event t s
    (fun s => s.is F.ICH_CALCTL_refen 0 && (match s.calDue with | some d => decide (d ≤ s.now) | none => false))
    (fun s => { s.put F.ICH_CALCTL_refready 0 1 with calDue := none })

end Sys2Proof.Machine
end

