-- ==== Sys2Proof/Machine/Port.lean ====
section
/-! DEFINITION. Frames of the Velub link, and what a port sends (15_velub_link.md, R346 to R356). -/

namespace Sys2Proof.Machine

/-! ### Frames (R349, R350, R354) -/

/-- R350: the header line. -/
def frameHdr (f : Frame) : BitVec 72 :=
  f.ty ++ f.nw ++ f.dst ++ f.src ++ f.hops ++ f.seq ++ f.core ++ f.tag ++ f.cls ++ f.res

/-- R349: the payload words with the zero words of the last line. -/
def framePad (f : Frame) : List Word :=
  f.pay ++ List.replicate ((4 - f.pay.length % 4) % 4) 0

/-- Payload word `i`; zero past the payload. -/
def frameW (f : Frame) (i : Nat) : Nat := (f.pay.getD i 0).toNat

/-- Payload words `i` and `i + 1` as one value. -/
def framePair (f : Frame) (i : Nat) : Nat := frameW f i * 2 ^ 18 + frameW f (i + 1)

/-- Bit `b` of payload word `i`. -/
def frameBit (f : Frame) (i b : Nat) : Bool := (frameW f i).testBit b

/-- R348: the octets of the payload as sent. -/
def frameOctets (f : Frame) : List Octet :=
  let ws := framePad f
  octets (9 * (ws.length / 4)) (ws.foldl (fun n w => n * 2 ^ 18 + w.toNat) 0)

/-- R354: the tag of a frame under a key, with the implicit counter. -/
def frameMac (key : BitVec 128) (ctr : Nat) (f : Frame) : BitVec 64 :=
  (cmac key (octets 5 ctr ++ octets 9 (frameHdr f).toNat ++ frameOctets f)).extractLsb' 64 64

/-- R350, R351: the header of a received frame is legal. -/
def frameLegal (f : Frame) : Bool :=
  decide (f.nw.toNat ≤ 32) && f.res == 0 && f.pay.length == f.nw.toNat &&
    [1, 2, 3, 4, 5, 6, 8, 9, 10, 11, 16, 17, 18, 19].contains f.ty.toNat

/-- R351: the credit class of a type. -/
def tyClass (ty : Nat) : Nat :=
  if ty ≤ 5 then 3 else if ty = 6 ∨ 16 ≤ ty then 2 else if ty = 11 then 1 else 0

/-- Two words of a 36-bit value. -/
def words2 (v : Nat) : List Word := [BitVec.ofNat 18 (v / 2 ^ 18), BitVec.ofNat 18 v]

/-- R391: the device waits for a network boot. -/
def inNetBoot (s : State) : Bool :=
  match s.boot.phase with
  | .net _ => true
  | _ => false

/-- R359, R391: the device's node ID; 4,095 while the rootstock waits for a network boot. -/
def lkOwn (s : State) : Nat :=
  match s.boot.phase with
  | .net _ => 4095
  | _ => s.get F.LK_NET_node 0

/-- A frame from this device, without its sequence and its tag. -/
def mkFrame (s : State) (ty dst hops core tag : Nat) (pay : List Word) : Frame where
  ty := BitVec.ofNat 5 ty
  nw := BitVec.ofNat 6 pay.length
  dst := BitVec.ofNat 12 dst
  src := BitVec.ofNat 12 (lkOwn s)
  hops := BitVec.ofNat 6 hops
  seq := 0
  core := BitVec.ofNat 4 core
  tag := BitVec.ofNat 8 tag
  cls := BitVec.ofNat 2 (tyClass ty)
  res := 0
  pay := pay
  mac := 0

/-! ### Keys (R353) -/

/-- R353: the key-derivation key of port `p`. -/
def lkKdk (s : State) (p : Nat) : BitVec 128 :=
  (otpPacked s (32 + 16 * s.get F.LK_CTL_slot p)).extractLsb' 128 128

/-- R353: the key of HELLO frames; the label is VELUB-HI. -/
def lkHelloKey (s : State) (p : Nat) : BitVec 128 :=
  kdf (lkKdk s p) [0x56, 0x45, 0x4c, 0x55, 0x42, 0x2d, 0x48, 0x49] [] 128 1

/-- R353: the session keys of nodes `lo` and `hi` with their nonces; the label is VELUB-LK. -/
def lkSession (s : State) (p lo hi : Nat) (nlo nhi : BitVec 64) : BitVec 128 × BitVec 128 :=
  let label : List Octet := [0x56, 0x45, 0x4c, 0x55, 0x42, 0x2d, 0x4c, 0x4b]
  let ctx := octets 2 lo ++ octets 2 hi ++ octets 8 nlo.toNat ++ octets 8 nhi.toNat
  (kdf (lkKdk s p) label ctx 256 1, kdf (lkKdk s p) label ctx 256 2)

/-! ### Ports -/

/-- R352: port `p` is in UP. -/
def lkUp (s : State) (p : Nat) : Bool := s.get F.LK_PSTAT_state p == 3

/-- R359: the port that the route of a node names, if it is usable. -/
def lkRoute (s : State) (node : Nat) : Option Nat :=
  let p := s.get F.LK_ROUTE_port node
  if p < 4 ∧ lkUp s p = true then some p else none

/-- R369: a cause of source 564; the field tells which bit of LK_IEN enables it. -/
def lkCause (s : State) (f : Fld) : State := s.fireIf (s.is f 0) 564

/-- R352, R361: a write is ignored. -/
def lkCfgErr (s : State) : State := s.flag F.LK_GSTAT_cfgerr 0

/-- R157, R368: the change of a LK_WAKE line between two states. -/
def wakeChange (s0 s : State) (p : Nat) : State :=
  if lkWakeLine s0 p = lkWakeLine s p then s else s.raise 19 p 2

/-- R352: port `p` enters a state; QUAR and others differ in what LK_WAKE shows. -/
def lkEnter (s : State) (p st : Nat) : State := wakeChange s (s.put F.LK_PSTAT_state p st) p

/-- R356: a buffer of class `c` is freed at port `p`. -/
def lkFree (s : State) (p c : Nat) : State :=
  let h := s.linkOf p
  if c < 3 then s.setLink p { h with mine := h.mine.set c ((h.mine.getD c 0 + 1) % 256), chg := true } else s

/-- R351, R354: port `p` sends an unsequenced frame under the session key. -/
def lkControl (s : State) (p : Nat) (f : Frame) : State :=
  s.emit (.frame p { f with mac := frameMac (s.linkOf p).txKey 0 f })

/-- R351: the unsequenced counter of port `p` advances. -/
def lkCount (s : State) (p : Nat) : Nat × State :=
  let h := s.linkOf p
  ((h.utx + 1) % 2 ^ 36, s.setLink p { h with utx := h.utx + 1 })

/-- R356: port `p` holds credit for class `c`. -/
def lkCredit (h : LinkS) (c : Nat) : Bool := decide ((h.sent.getD c 0 + 256 - h.freed.getD c 0) % 256 < 8)

/-- R356: the frame that a port sends next: class 2, then 1, then 0, each in arrival order. -/
def lkPick (h : LinkS) : Option TxEnt :=
  let pick (c : Nat) : Option TxEnt := if lkCredit h c then h.txq.find? (fun e => e.f.cls.toNat == c) else none
  if 16 ≤ h.retry.length then none else ((pick 2).orElse (fun _ => pick 1)).orElse (fun _ => pick 0)

/-- R354 to R356, R359: port `p` sends entry `e`: it gives it the sequence and the tag, keeps it until it is acknowledged, and frees the
input buffer that it held. -/
def lkEmit (s : State) (p : Nat) (e : TxEnt) : State :=
  let h := s.linkOf p
  let f := { e.f with seq := BitVec.ofNat 8 h.tx }
  let f := { f with mac := frameMac h.txKey h.tx f }
  let c := f.cls.toNat
  let h' := { h with
    txq := h.txq.erase e
    retry := h.retry ++ [⟨f, 1, e.slot⟩]
    tx := h.tx + 1
    sent := h.sent.set c ((h.sent.getD c 0 + 1) % 256)
    ackAt := if h.retry.isEmpty then s.now else h.ackAt }
  let s := (s.setLink p h').emit (.frame p f)
  match e.from_ with
  | some (q, k) => lkFree s q k
  | none => s

/-- R356: the frame of class 2 that a port may send. -/
def lkPick2 (h : LinkS) : Option TxEnt :=
  if decide (h.retry.length < 16) && lkCredit h 2 then h.txq.find? (fun e => e.f.cls.toNat == 2) else none

/-- R355, R356: port `p` sends what `pick` lets it; the fuel bounds the frames. -/
def lkPumpBy (pick : LinkS → Option TxEnt) (p : Nat) : Nat → State → State
  | 0, s => s
  | n + 1, s =>
    if lkUp s p then
      match pick (s.linkOf p) with
      | some e => lkPumpBy pick p n (lkEmit s p e)
      | none => s
    else s

/-- R355, R356: port `p` sends what it may. -/
def lkPump (p n : Nat) (s : State) : State := lkPumpBy lkPick p n s

/-- R356, R359: a frame of class `c` that port `p` receives as its next would start out at once: what waits has no credit. -/
def lkStarts (s : State) (p c : Nat) : Bool := decide ((s.linkOf p).retry.length < 16) && lkCredit (s.linkOf p) c

/-- R355: a sequenced frame goes out on port `p`, at once or when credit and the retry buffer allow. -/
def lkSend (s : State) (p : Nat) (f : Frame) (from_ : Option (Nat × Nat)) (slot : Option Nat) : State :=
  let h := s.linkOf p
  lkPump p (h.txq.length + 1) (s.setLink p { h with txq := h.txq ++ [⟨f, from_, slot⟩] })

/-- R359: a frame of this device goes out by the route of its destination; without one it is lost. -/
def lkOut (s : State) (f : Frame) : State :=
  match lkRoute s f.dst.toNat with
  | some p => lkSend s p f none none
  | none => s

/-- R355: port `p` sends an LSTAT. -/
def lkLstat (s : State) (p : Nat) (nak : Bool) : State :=
  let (n, s) := lkCount s p
  let h := s.linkOf p
  let w (v : Nat) : Word := BitVec.ofNat 18 v
  let pay := [w (b2n nak * 2 ^ 17 + (h.rx + 255) % 256), w (h.mine.getD 0 0), w (h.mine.getD 1 0), w (h.mine.getD 2 0)]
  let s := s.setLink p { h with chg := false, lstatDue := s.now + 64000 }
  lkControl s p (mkFrame s 2 (s.get F.LK_PNODE_node p) 1 0 0 (pay ++ words2 n))

/-- R357: port `p` sends a BEAT. -/
def lkBeat (s : State) (p : Nat) (sleeping : Bool) : State :=
  let (n, s) := lkCount s p
  let h := s.linkOf p
  let s := s.setLink p { h with beatDue := s.now + 640000 }
  lkControl s p (mkFrame s 3 (s.get F.LK_PNODE_node p) 1 0 0 (words2 n ++ [BitVec.ofNat 18 (b2n sleeping * 2 ^ 17)]))

/-- R351, R352: port `p` sends a HELLO, which counts as an unsequenced frame in UP; the partner's node is not in question. -/
def lkHello (s : State) (p : Nat) : State :=
  let h := s.linkOf p
  let w (v : Nat) : Word := BitVec.ofNat 18 v
  let line (v : BitVec 64) : List Word := [w (v.toNat / 2 ^ 54), w (v.toNat / 2 ^ 36), w (v.toNat / 2 ^ 18), w v.toNat]
  let pay := [w (lkOwn s), w 3, w (s.get F.LK_CTL_slot p), w 0] ++ line h.nonce ++ line h.peer
  let s := s.setLink p { h with helloDue := s.now + 640000 }
  let s := if lkUp s p then (lkCount s p).2 else s
  let f := mkFrame s 1 0 1 0 0 pay
  s.emit (.frame p { f with mac := frameMac (lkHelloKey s p) 0 f })

end Sys2Proof.Machine
end

