-- ==== Sys2Proof/Machine/Engine.lean ====
section
/-! DEFINITION. Loop engine: berths, runs, cranes, admission, gain regions and competition groups (04_loop_engine.md, R79 to R106),
and the engine instructions (05_engine_instructions.md, R107 to R123). -/

namespace Sys2Proof.Machine

/-! ### Berth configuration -/

/-- R94: the first instruction and the length of a berth's program. -/
def berthProg (s : State) (b : Nat) : Nat × Nat := (s.get F.BERTH_PROG_base b, s.get F.BERTH_PROG_lenm1 b + 1)

/-- R99: the number of gain regions. -/
def berthNreg (s : State) (b : Nat) : Nat := s.get F.BERTH_GAIN_nregm1 b + 1

/-- R100: the boundaries b1 to b3. -/
def berthBnds (s : State) (b : Nat) : List Int :=
  [s.getS F.BERTH_BND_b (b * 3), s.getS F.BERTH_BND_b (b * 3 + 1), s.getS F.BERTH_BND_b (b * 3 + 2)]

/-- R99: the first and the last state word of the coefficient blocks. -/
def berthBlock (s : State) (b : Nat) : Nat × Nat :=
  let lo := s.get F.BERTH_GBASE_base b
  (lo, lo + (berthNreg s b - 1) * s.get F.BERTH_GAIN_step b + 15)

/-- R100: the region moves from region `g` on the value `v`. -/
def moveRegion (nreg : Nat) (bnd : List Int) (hys : Int) (g : Nat) (v : Int) : Nat :=
  let up (g : Nat) : Nat := if g + 1 < nreg ∧ bnd.getD g 0 + hys ≤ v then g + 1 else g
  let down (g : Nat) : Nat := if 0 < g ∧ v < bnd.getD (g - 1) 0 - hys then g - 1 else g
  down (down (down (up (up (up g)))))

/-- R100: the region at arming. -/
def armRegion (nreg : Nat) (bnd : List Int) (v : Int) : Nat := ((bnd.take (nreg - 1)).filter (fun b => decide (b ≤ v))).length

/-- R101: the armed members of a competition group. -/
def groupMembers (s : State) (g : Nat) : List Nat :=
  s.armed.filter (fun b => s.is F.BERTH_GRP_mem b && s.get F.BERTH_GRP_grp b == g)

/-- R101: the armed closer of a group. -/
def groupCloser (s : State) (g : Nat) : Option Nat := (groupMembers s g).find? (fun b => s.is F.BERTH_GRP_close b)

/-- R101: a group is live. -/
def groupLive (s : State) (g : Nat) : Bool := s.is F.CG_CTL_en g && (groupCloser s g).isSome

/-- R91: the armed berths of a crane. -/
def armedOn (s : State) (c : Nat) : List Nat := s.armed.filter (fun b => s.get F.BERTH_CTL_crane b == c)

/-! ### Admission (R90 to R93) -/

/-- R92: k, the position of the last duty store (opcode 0o17) of a program, or its length. -/
def progK (p : List (BitVec 36)) : Nat :=
  let pos := (List.range p.length).filter (fun i => ((p.getD i 0).extractLsb' 30 6) == 15#6)
  match pos.getLast? with
  | some i => i + 1
  | none => p.length

/-- R98: the words of a program as they stand. -/
def progWords (s : State) (base len : Nat) : List (BitVec 36) := (List.range len).map (fun i => s.bstoreOf (base + i))

/-- R92: what the budget check knows of a berth: priority, coincidence set (one set where CR_SEP.sep = 0), length and k. -/
structure Budget where
  berth : Nat
  pri : Nat
  set : Nat
  len : Nat
  k : Nat
  deriving DecidableEq, Repr

/-- R92: the budget entry of a berth. -/
def budgetOf (s : State) (sep b : Nat) : Budget :=
  let (base, len) := berthProg s b
  ⟨b, s.get F.BERTH_CTL_pri b, if sep = 0 then 0 else s.get F.BERTH_CTL_cset b, len, progK (progWords s base len)⟩

/-- R24, R93: the worst wait of a priority-0 berth, where `exempt` lists the exempt berths. -/
def worstWait (bs : List Budget) (exempt : List Nat) (p : Budget) : Nat :=
  let blockers := bs.filter (fun q => q.pri != 0 || (q.set != p.set && !exempt.contains q.berth))
  let b := (blockers.map (fun q => q.len)).foldl max 0
  let peers := bs.filter (fun q => q.pri == 0 && q.set == p.set && q.berth != p.berth)
  b + (peers.map (fun q => q.len)).foldl (· + ·) 0

/-- R93: the exempt set after the loop; at most 16 passes change it. -/
def exemptLoop (bs : List Budget) (sep : Nat) : Nat → List Nat → List Nat
  | 0, e => e
  | f + 1, e =>
    let e' := ((bs.filter (fun p => p.pri == 0)).filter (fun p => decide (worstWait bs e p + p.len ≤ sep))).map (fun p => p.berth)
    if e' = e then e else exemptLoop bs sep f e'

/-- R24, R93: the budget check of a crane, with berth `b` counted as armed. -/
def budgetOk (s : State) (c b : Nat) : Bool :=
  let sep := s.get F.CR_SEP_sep c
  let bs := (b :: (armedOn s c).filter (fun x => x != b)).map (budgetOf s sep)
  let p0 := bs.filter (fun p => p.pri == 0)
  let e := exemptLoop bs sep 130 (p0.map (fun p => p.berth))
  p0.all (fun p => decide (worstWait bs e p + p.k ≤ 22))

/-- R91: the coefficient blocks and the boundaries of berth `b` against the armed berths: code 5, 6 or 7, or 0. -/
def blockCode (s : State) (b : Nat) : Nat :=
  let used := (berthBnds s b).take (berthNreg s b - 1)
  let (lo, hi) := berthBlock s b
  let ordered := match used with
    | [x, y] => decide (x < y)
    | [x, y, z] => decide (x < y) && decide (y < z)
    | _ => true
  if !ordered then 5
  else if 16384 ≤ hi then 6
  else if s.armed.any (fun m => m != b &&
      ((decide (lo ≤ 16 * m + 15) && decide (16 * m ≤ hi)) ||
        (decide ((berthBlock s m).1 ≤ 16 * b + 15) && decide (16 * b ≤ (berthBlock s m).2)))) then 7
  else 0

/-- R101: the competition-group rules for arming berth `b`. -/
def groupOk (s : State) (b : Nat) : Bool :=
  if s.is F.BERTH_GRP_mem b then
    let ms := (groupMembers s (s.get F.BERTH_GRP_grp b)).filter (fun m => m != b)
    let same (m : Nat) : Bool :=
      s.get F.BERTH_CTL_crane m == s.get F.BERTH_CTL_crane b && s.get F.BERTH_CTL_cset m == s.get F.BERTH_CTL_cset b &&
        s.get F.BERTH_CTL_pri m == s.get F.BERTH_CTL_pri b && s.get F.BERTH_TRG_src m == s.get F.BERTH_TRG_src b &&
        s.get F.BERTH_TRG_num m == s.get F.BERTH_TRG_num b
    decide (ms.length < 8) && ms.all same &&
      (if s.is F.BERTH_GRP_close b then ms.all (fun m => !s.is F.BERTH_GRP_close m && decide (m < b))
       else ms.all (fun m => !s.is F.BERTH_GRP_close m || decide (b < m)))
  else true

/-- R91: the reason code of the first rule that refuses the arming of berth `b`; 0 where none does. -/
def admCode (s : State) (b : Nat) : Nat :=
  let src := s.get F.BERTH_TRG_src b
  let (base, len) := berthProg s b
  let c := s.get F.BERTH_CTL_crane b
  if !s.is F.ENG_CTL_en 0 then 1
  else if src = 3 ∨ (src = 0 ∧ 511 < s.get F.BERTH_TRG_num b) then 2
  else if 16384 < base + len then 3
  else if 128 ≤ (armedOn s c).length then 4
  else if blockCode s b ≠ 0 then blockCode s b
  else if !groupOk s b then 8
  else if !budgetOk s c b then 9
  else 0

/-- CR_STAT.narmed shows the armed berths of a crane. -/
def showArmed (s : State) (c : Nat) : State := s.put F.CR_STAT_narmed c (armedOn s c).length

/-- R90, R100: the arming of berth `b` is accepted. -/
def berthAdmit (s : State) (b : Nat) : State :=
  let s0 := s
  let s := { s with armed := s.armed.filter (fun x => decide (x < b)) ++ b :: s.armed.filter (fun x => decide (b < x)) }
  let sv := s.bramOf (16 * b + s.get F.BERTH_GAIN_svar b)
  let s := s.hwPut F.BERTH_CTL_arm b 1
  let s := s.put F.BERTH_STAT_region b (armRegion (berthNreg s b) (berthBnds s b) sv)
  retap s0 (showArmed (s.setBerth b { s.berthOf b with endOff := false }) (s.get F.BERTH_CTL_crane b)) (s.get F.BERTH_TRG_num b)

/-- R90: the arming of berth `b` is refused for the reason `code`. -/
def berthRefuse (s : State) (b code : Nat) : State :=
  let s := s.flag F.BERTH_STAT_refused b
  let s := (s.put F.ENG_ADMERR_code 0 code).put F.ENG_ADMERR_berth 0 b
  s.fireIf (s.is F.ENG_IEN_adm 0) 408

/-! ### Disarming, skipping and readiness -/

/-- A run of berth `b` is executing. -/
def berthRuns (s : State) (b : Nat) : Bool :=
  match (s.craneOf (s.get F.BERTH_CTL_crane b)).run with
  | some x => x.berth == b
  | none => false

/-- R104: the round of group `g` whose closer `b` became ready at instant `r` has lost the closer's run: what was offered to it is gone, and the
members that have not yet offered have nothing to offer to. The offers to a closer's run that is executing are another round's, and stay. -/
def roundLost (s : State) (g b r : Nat) : State :=
  (groupMembers s g).foldl (fun s m =>
    let h := s.berthOf m
    let s := match h.pend with
      | some p => if p.ready = r then s.setBerth m { h with pend := some { p with voided := true } } else s
      | none => s
    let c := s.get F.BERTH_CTL_crane m
    match (s.craneOf c).run with
    | some x => if x.berth = m ∧ x.ready = r then s.setCrane c { s.craneOf c with run := some { x with voided := true } } else s
    | none => s) (if berthRuns s b then s else s.setRounds g [])

/-- R84, R89: the pending run of berth `b` is discarded without BERTH_OVR. DESIGN CHOICE (log 106): a round that loses its closer's run so is
dropped, without CG_STAT.abort. -/
def berthDiscard (s : State) (b : Nat) : State :=
  match (s.berthOf b).pend with
  | none => s
  | some p =>
    let g := s.get F.BERTH_GRP_grp b
    let closes := groupCloser s g == some b
    let s := (s.setBerth b { s.berthOf b with pend := none }).put F.BERTH_STAT_ready b 0
    if closes then roundLost s g b p.ready else s

/-- R89: berth `b`, which does not run, is no longer armed: `hw` where the end of its run disarms it. -/
def berthUnarm (s : State) (b : Nat) (hw : Bool) : State :=
  let s0 := s
  let s := berthDiscard s b
  let s := (if hw then s.hwPut F.BERTH_CTL_arm b 0 else s.put F.BERTH_CTL_arm b 0).setBerth b {}
  let s := if groupCloser s0 (s.get F.BERTH_GRP_grp b) == some b then s.setRounds (s.get F.BERTH_GRP_grp b) [] else s
  let s := { s with armed := s.armed.filter (fun x => x != b) }
  retap s0 (showArmed s (s.get F.BERTH_CTL_crane b)) (s.get F.BERTH_TRG_num b)

/-- R104: the round of group `g` aborts as its closer `b`, ready at instant `r`, is skipped. -/
def roundAbort (s : State) (g b r : Nat) : State := (roundLost s g b r).flag F.CG_STAT_abort g

/-- R105: sets a sticky flag of a crane, and fires its interrupt source where the cause is enabled: at each skip and each violation (log 122). -/
def craneFlag (s : State) (f ien : Fld) (c : Nat) : State := (s.flag f c).fireIf (s.is ien c) (400 + c)

/-- R31, R81, R83, R104, R105: the pending run of berth `b` is skipped at instant `x`. -/
def berthSkip (s : State) (b x : Nat) : State :=
  let h := s.berthOf b
  match h.pend with
  | none => s
  | some p =>
    let c := s.get F.BERTH_CTL_crane b
    let s := (s.setBerth b { h with pend := none }).put F.BERTH_STAT_ready b 0
    let s := (s.flag F.BERTH_OVR_ovr b).incSat F.BERTH_OVR_skips b
    let s := craneFlag s F.CR_STAT_ovr F.CR_IEN_ovr c
    let s := s.raiseAt (5 + b / 128) (b % 128) 1 x
    let s := runLog s c b true x
    let g := s.get F.BERTH_GRP_grp b
    if s.is F.BERTH_GRP_mem b then
      let s := s.flag F.BERTH_STAT_grpmiss b
      if groupLive s g && s.is F.BERTH_GRP_close b then roundAbort s g b p.ready else s
    else s

/-- R25, R87: the instants at which berths of the other sets than `k` became ready on crane `c`, with the berths. -/
def otherReady (s : State) (c k : Nat) : List (Nat × Nat) :=
  ((List.range 16).filter (fun j => j != k)).flatMap (fun j => Store.get (fun _ => []) (s.craneOf c).lastReady j)

/-- R25, R87: the crane flags that berth `b` became ready, at instant `r`, less than the separation after a berth of another set. -/
def sepFlag (s : State) (c b r : Nat) : State :=
  (craneFlag (s.put F.CR_SEPB_berth c b) F.CR_STAT_sepf F.CR_IEN_sepf c).raiseAt 13 c 0 r

/-- R25, R87: berth `b` of set `k` becomes ready on crane `c` at instant `r`: less than the separation after a berth of another set, or less
than the separation before one whose ready instant is already fixed (R80). DESIGN CHOICE (log 128): of two berths that become ready at one
edge, the one told later is the second; of those chained to one run end, the one of the higher number. -/
def sepCheck (s : State) (c k b r : Nat) : State :=
  let sep := s.get F.CR_SEP_sep c
  let l := otherReady s c k
  let s := if l.any (fun p => decide (p.1 ≤ r) && decide (r < p.1 + ns sep)) then sepFlag s c b r else s
  match l.find? (fun p => decide (r < p.1) && decide (p.1 < r + ns sep)) with
  | some p => sepFlag s c p.2 p.1
  | none => s

/-- R87: remembers that berth `b` of set `k` becomes ready on crane `c` at instant `r`. -/
def sepRemember (s : State) (c k b r : Nat) : State :=
  let h := s.craneOf c
  let l := Store.get (fun _ => []) h.lastReady k
  let l := (l.takeWhile (fun p => decide (r < p.1)) ++ (r, b) :: l.dropWhile (fun p => decide (r ≤ p.1))).take 2
  s.setCrane c { h with lastReady := Store.set (fun _ => []) h.lastReady k l }

/-- R79 to R82, R85, R87: an accepted trigger of berth `b`: a run becomes ready at instant `r`. -/
def berthReady (s : State) (b r : Nat) : State :=
  if !(s.armed.contains b) || !s.is F.ENG_CTL_en 0 || !timerOn s then s
  else
    let s := if (s.berthOf b).pend.isSome then berthSkip s b r else s
    let c := s.get F.BERTH_CTL_crane b
    let s := if berthRuns s b then s.flag F.BERTH_STAT_late b else s
    let dl := s.get F.BERTH_DL_dl b
    let p : PendRun := ⟨r, if dl = 0 then none else some (r + ns dl), false⟩
    let s := (s.setBerth b { s.berthOf b with pend := some p }).put F.BERTH_STAT_ready b 1
    let k := s.get F.BERTH_CTL_cset b
    sepRemember (sepCheck s c k b r) c k b r

/-! ### Register writes -/

/-- R89, R90: a write of BERTH_CTL. DESIGN CHOICE (log 107): a write that clears arm of an armed berth with no executing run disarms it first, and
then stores the configuration it carries; (log 108) while a request waits, a write with arm = 1 makes no second one, and one with arm = 0 does
not cancel it; while a disarm waits for the end of a run, a write with arm = 1 does not cancel that. -/
def berthCtlWrite (s : State) (b v : Nat) : State :=
  let arm := F.BERTH_CTL_arm.of v
  let cfg (s : State) : State :=
    ((s.put F.BERTH_CTL_pri b (F.BERTH_CTL_pri.of v)).put F.BERTH_CTL_crane b (F.BERTH_CTL_crane.of v)).put
      F.BERTH_CTL_cset b (F.BERTH_CTL_cset.of v)
  let changes := F.BERTH_CTL_pri.of v != s.get F.BERTH_CTL_pri b || F.BERTH_CTL_crane.of v != s.get F.BERTH_CTL_crane b ||
    F.BERTH_CTL_cset.of v != s.get F.BERTH_CTL_cset b
  if s.armed.contains b then
    if arm = 0 then
      if berthRuns s b then
        -- the disarm takes effect at the end of the run; a configuration carried with it is that of an armed berth
        let s := s.setBerth b { s.berthOf b with endOff := true }
        if changes then s.flag F.BERTH_STAT_cfgerr b else s
      else cfg (berthUnarm s b false)
    else if changes then s.flag F.BERTH_STAT_cfgerr b
    else s
  else
    let s := cfg s
    if arm = 1 ∧ !s.is F.BERTH_STAT_admpend b then { s.put F.BERTH_STAT_admpend b 1 with admq := s.admq ++ [b] } else s

/-- R89: a write of another configuration register of a berth. -/
def berthCfgWrite (s : State) (r : RegName) (i b : Nat) (new : BitVec 36) : State :=
  if new == s.reg r i then s
  else if s.armed.contains b then s.flag F.BERTH_STAT_cfgerr b
  else s.setReg r i new

/-- R80: a write of ENG_SWTRG. -/
def swTrigger (s : State) (v : Nat) : State := berthReady s (F.ENG_SWTRG_berth.of v) (edgeAfter s.now)

/-- R79, R84: a write of ENG_CTL. -/
def engCtlWrite (s : State) (v : Nat) : State :=
  let e := F.ENG_CTL_en.of v
  let s := s.put F.ENG_CTL_en 0 e
  if e = 1 then s else s.armed.foldl berthDiscard s

/-- R87, R106: a write of a crane or group register that an armed berth locks. -/
def engLockedWrite (s : State) (r : RegName) (i : Nat) (new : BitVec 36) : State :=
  let busy := match r with
    | .CR_SEP => !(armedOn s i).isEmpty
    | _ => !(groupMembers s i).isEmpty
  if new == s.reg r i then s
  else if busy then s.flag F.ENG_STAT_cfgerr 0
  else s.setReg r i new

/-! ### Runs (R86, R98, R107, R108) -/

/-- R30, R86: berth `a` is selected before berth `b`. -/
def runsBefore (s : State) (a b : Nat) : Bool :=
  let pa := s.get F.BERTH_CTL_pri a
  let pb := s.get F.BERTH_CTL_pri b
  decide (pa < pb) || (pa == pb && decide (a < b))

/-- R30, R31, R82, R86: the berth that crane `c` selects in the cycle that begins at instant `x`. -/
def selectRun (s : State) (c x : Nat) : Option Nat :=
  let ready := (armedOn s c).filter (fun b => match (s.berthOf b).pend with
    | some p => decide (p.ready ≤ x) && (match p.deadline with | some d => decide (x < d) | none => true)
    | none => false)
  ready.foldl (fun m b => match m with | none => some b | some a => if runsBefore s b a then some b else some a) none

/-- R98, R100, R107: the context of a run of berth `b` that starts at instant `x`, became ready at `rdy` and finds the berth in region `reg0`. -/
def newRun (s : State) (b x rdy reg0 : Nat) (voided : Bool) : Run :=
  let (base, len) := berthProg s b
  let nreg := berthNreg s b
  let hys : Int := 64 * (s.get F.BERTH_GAIN_hys b : Int)
  let sv := s.bramOf (16 * b + s.get F.BERTH_GAIN_svar b)
  { berth := b, start := x, ready := rdy, pos := 0, prog := progWords s base len, x := [0, 0, 0, 0], acc := 0,
    region := moveRegion nreg (berthBnds s b) hys reg0 sv, offered := false, selDone := false, voided := voided, ch := s.get F.BERTH_IO_ch b, cu := s.get F.BERTH_IO_cu b,
      pri := s.get F.BERTH_CTL_pri b, base := s.get F.BERTH_GBASE_base b, step := s.get F.BERTH_GAIN_step b, nreg := nreg,
      bnd := berthBnds s b, hys := hys, mem := s.is F.BERTH_GRP_mem b, close := s.is F.BERTH_GRP_close b,
      grp := s.get F.BERTH_GRP_grp b, intw := s.get F.BERTH_GRP_intw b, prov := none, view := false, old := [], tide := [],
    reg0 := reg0, at0 := (List.range 16).map (fun i => s.bramOf (16 * b + i)) }

/-- R86, R100, R107: crane `c` starts the pending run of berth `b` in the cycle that begins at instant `x`. -/
def startRun (s : State) (c b x : Nat) : State :=
  let h := s.berthOf b
  let (rdy, voided) := match h.pend with
    | some p => (p.ready, p.voided)
    | none => (x, false)
  let r := newRun s b x rdy (s.get F.BERTH_STAT_region b) voided
  let s := (s.setBerth b { h with pend := none }).setCrane c { s.craneOf c with run := some r }
  let s := (s.put F.BERTH_STAT_ready b 0).put F.BERTH_STAT_running b 1
  (s.put F.BERTH_STAT_region b r.region).put F.CR_STAT_busy c 1

/-- R108: the instant at which the next instruction of a run completes. -/
def Run.done (r : Run) : Nat := r.start + ns (r.pos + 1)

/-- R95, R98, R118: a run reads state word `j` in the cycle that ends at its next completion: the old value under a tide, its own
provisional value, the value before an engine write that completes in the same cycle, or the word as it stands. -/
def stateRead (s : State) (r : Run) (j : Nat) : Int :=
  match (r.old.find? (fun p => p.1 == j)), r.prov with
  | some p, _ => p.2
  | none, some v =>
    if r.view ∧ j = 16 * r.berth + r.intw then v.v
    else match s.engWOf j with
      | some w => if w.at_ = r.done then w.prev else s.bramOf j
      | none => s.bramOf j
  | none, none => match s.engWOf j with
      | some w => if w.at_ = r.done then w.prev else s.bramOf j
      | none => s.bramOf j

/-- R98: an engine write of state word `j` that completes at instant `x`. -/
def stateWrite (s : State) (j : Nat) (v : Int) (x : Nat) : State :=
  let prev := match s.engWOf j with
    | some w => if w.at_ = x then w.prev else s.bramOf j
    | none => s.bramOf j
  (s.setEngW j (some ⟨prev, x⟩)).setBram j (sx 18 (ux 18 v))

/-- R292: a run's own write of a state word; a word that a tide replaced during the run keeps the tide's value. -/
def runWrite (s : State) (r : Run) (j : Nat) (v : Int) : State :=
  if r.tide.contains j then s else stateWrite s j v r.done

/-- R48, R110: the normalized sample of a channel. -/
def sampleOf (s : State) (ch : Nat) : Int := s.getS F.ICH_NORM_value ch

/-- R110: the value of an operand code. -/
def opVal (s : State) (r : Run) (a : Nat) : Int :=
  if a < 16 then stateRead s r (16 * r.berth + a)
  else if a < 32 then stateRead s r ((r.base + r.region * r.step + (a - 16)) % 16384)
  else if a < 36 then r.x.getD (a - 32) 0
  else if a = 36 then sampleOf s r.ch
  else if a = 37 then sat18 (roundDiv r.acc (2 ^ 17))
  else 0

/-- R111: the engine instructions after decoding; a reserved encoding is `nop` (R112). -/
inductive EngOp where
  | nop
  | ldi (d : Nat) (imm : BitVec 18)
  | ldw (d a : Nat)
  | lda (d idx : Nat)
  | lds (d : Nat) (own : Bool) (ch : Nat)
  | err (d a b : Nat) (add : Bool)
  | mac (m a b : Nat)
  | macd (m a b : Nat)
  | rnd (d sh : Nat)
  | ffw (d a b : Nat) (bsel : Bool) (ch : Nat)
  | int (d a lo hi w : Nat)
  | clp (d a lo hi : Nat)
  | mnx (d a b : Nat) (mx : Bool)
  | gselA (a : Nat)
  | gselG (g : Nat)
  | sel (d a : Nat)
  | duty (c a b hi bias : Nat) (ps : Bool) (uo : Nat)
  | stw (a w : Nat)
  deriving DecidableEq, Repr

/-- R110: an operand code that is not reserved. -/
def opOk (a : Nat) : Bool := a < 39

/-- R111, R112: decodes an instruction of the berth store. A reserved code in an operand field makes it a NOP also where the instruction does
not read that operand, but in MAC with m = 3 (R114). A field that the instruction does not read reads as 0. -/
def engDecode (w : BitVec 36) : EngOp :=
  let f (lo n : Nat) : Nat := (w.extractLsb' lo n).toNat
  let d := f 28 2
  let a := f 22 6
  let b := f 16 6
  let hi := f 10 6
  let m := f 15 1 == 1
  match f 30 6 with
  | 1 => .ldi d (w.extractLsb' 0 18)
  | 2 => if opOk a then .ldw d a else .nop
  | 3 => .lda d (f 0 14)
  | 4 => .lds d m (if m then 0 else f 0 7)
  | 5 => if opOk a && opOk b then .err d a b m else .nop
  | 6 => if d = 3 then (if opOk a then .mac 3 a 0 else .nop) else if opOk a && opOk b then .mac d a b else .nop
  | 7 => if d ≠ 3 ∧ a < 15 ∧ opOk b then .macd d a b else .nop
  | 8 => .rnd d (f 0 4)
  | 9 => if opOk a && opOk b then .ffw d a (if m then 0 else b) m (if m then f 0 7 else 0) else .nop
  | 10 => if opOk a && opOk b && opOk hi then .int d a b hi (f 6 4) else .nop
  | 11 => if opOk a && opOk b && opOk hi then .clp d a b hi else .nop
  | 12 => if opOk a && opOk b then .mnx d a b m else .nop
  | 13 => if opOk a then (if m then .gselG d else .gselA a) else .nop
  | 14 => if opOk a then .sel d a else .nop
  | 15 => if opOk a && opOk b && opOk hi && opOk (f 4 6) then .duty d a b hi (f 4 6) (f 3 1 == 1) (f 0 3) else .nop
  | 16 => if opOk a then .stw a (f 6 4) else .nop
  | _ => .nop

/-- The run with working word `d` holding `v`. -/
def Run.setX (r : Run) (d : Nat) (v : Int) : Run := { r with x := r.x.set d v }

/-- R114, R117: lo wins where lo > hi. -/
def clampI (lo v hi : Int) : Int := max lo (min v hi)

/-- R103: the winner among the offers: the lowest candidate (the highest in MAX), then the lowest berth number. -/
def roundWinner (mx : Bool) (os : List Offer) : Option Offer :=
  os.foldl (fun m o => match m with
    | none => some o
    | some w => if (if mx then decide (w.y < o.y) else decide (o.y < w.y)) || (o.y == w.y && decide (o.berth < w.berth)) then some o else some w)
    none

/-- R103, R292: the round of group `g` resolves in the cycle that completes at instant `x`; the closer's run discards its writes of the state
words `tide` that a tide replaced during it. -/
def roundResolve (s : State) (g x : Nat) (tide : List Nat) : Int × State :=
  let os := s.roundsOf g
  match roundWinner (s.is F.CG_CTL_mode g) os with
  | none => (0, s)
  | some w =>
    let track := s.is F.CG_CTL_pol g
    let s := os.foldl (fun s o => match o.prov with
      | none => s
      | some p =>
        if tide.contains (16 * o.berth + o.word) then s
        else if o.berth = w.berth then stateWrite s (16 * o.berth + o.word) p.v x
        else if track then stateWrite s (16 * o.berth + o.word) (clampI p.lo (p.v + (w.y - o.y)) p.hi) x
        else s) s
    let s := s.setRounds g []
    let s := (s.put F.CG_OUT_y g (ux 18 w.y)).put F.CG_STAT_winner g w.berth
    (w.y, s.put F.CG_STAT_nmem g (os.length - 1))

/-- R121: the compare value of a duty store, in fine ticks. -/
def dutyValue (s : State) (u : Nat) (ps : Bool) (y bias : Int) : Int :=
  let p : Int := 64 * (if ps then s.get F.CU_PERS_p u else s.get F.CU_PER_p u : Nat)
  let e := roundDiv (y * p) 131072
  let e := if s.get F.CU_CTL_mode u = 1 then p - e else e
  clampI 0 (e + bias) p

/-- R116: the quotient of FFW. -/
def ffwValue (a d : Int) : Int :=
  if d = 0 then (if 0 < a then 131071 else if a < 0 then -131072 else 0)
  else if 0 < d then sat18 (roundDiv (a * 131072) d.natAbs) else sat18 (roundDiv (-a * 131072) d.natAbs)

/-- R113 to R123: what an instruction does in run `r`; the answer is the run and the state after it, before the run's position
advances. -/
def engApply (s : State) (r : Run) (op : EngOp) : Run × State :=
  let v := opVal s r
  match op with
  | .nop => (r, s)
  | .ldi d imm => (r.setX d imm.toInt, s)
  | .ldw d a => (r.setX d (v a), s)
  | .lda d idx => (r.setX d (stateRead s r idx), s)
  | .lds d own ch => (r.setX d (sampleOf s (if own then r.ch else ch)), s)
  | .err d a b add => (r.setX d (sat18 (if add then v a + v b else v a - v b)), s)
  | .mac m a b =>
    ({ r with acc := match m with
        | 0 => v a * v b
        | 1 => r.acc + v a * v b
        | 2 => r.acc - v a * v b
        | _ => r.acc + v a * 2 ^ 17 }, s)
  | .macd m a b =>
    ({ r with
        acc := match m with
          | 0 => v a * v b
          | 1 => r.acc + v a * v b
          | _ => r.acc - v a * v b
        view := if a + 1 = r.intw then false else r.view }, runWrite s r (16 * r.berth + a + 1) (v a))
  | .rnd d sh => (r.setX d (sat18 (roundDiv (r.acc * 2 ^ sh) (2 ^ 17))), s)
  | .ffw d a b bsel ch => (r.setX d (ffwValue (v a) (if bsel then sampleOf s ch else v b)), s)
  | .int d a lo hi w =>
    let j := 16 * r.berth + w
    let y := clampI (v lo) (v w + v a) (v hi)
    let r' := r.setX d y
    if r.mem ∧ w = r.intw ∧ !r.selDone then ({ r' with prov := some ⟨y, v lo, v hi⟩, view := true }, s)
    else ({ r' with view := if j = 16 * r.berth + r.intw then false else r'.view }, runWrite s r j y)
  | .clp d a lo hi => (r.setX d (clampI (v lo) (v a) (v hi)), s)
  | .mnx d a b mx => (r.setX d (if mx then max (v a) (v b) else min (v a) (v b)), s)
  | .gselA a =>
    let g := moveRegion r.nreg r.bnd r.hys r.region (v a)
    ({ r with region := g }, s.put F.BERTH_STAT_region r.berth g)
  | .gselG g =>
    let g := min g (r.nreg - 1)
    ({ r with region := g }, s.put F.BERTH_STAT_region r.berth g)
  | .sel d a =>
    let y := v a
    let r' := { r with selDone := true, offered := true }
    if !r.offered && r.mem && groupLive s r.grp then
      if r.voided then (r'.setX d y, s)
      else
        -- DESIGN CHOICE (log 109): a member that runs twice before the closer's SEL offers twice, and both offers count
        -- R292: a provisional integrator that a tide replaced during the run is not written back
        let prov := if r.tide.contains (16 * r.berth + r.intw) then none else r.prov
        let s := s.setRounds r.grp (s.roundsOf r.grp ++ [⟨r.berth, y, prov, r.intw⟩])
        if r.close then
          let (w, s) := roundResolve s r.grp r.done r.tide
          ({ (r'.setX d w) with prov := none, view := false }, s)
        else (r'.setX d y, s)
    else (r'.setX d y, s)
  | .duty c a b hi bias ps uo =>
    let y := clampI 0 (v a + v b) (v hi)
    let u := (r.cu + uo) % 128
    -- R20: the unit holds the value one timer cycle after the instruction completes
    let s' := cuFlush s u (r.done - 1)
    (r, cuSettleFrom s.out.length (cuDuty s' u c (dutyValue s' u ps y (v bias)).toNat (r.done + 64) r.pri r.berth))
  | .stw a w =>
    let j := 16 * r.berth + w
    ({ r with view := if w = r.intw then false else r.view }, runWrite s r j (v a))

/-- R88: the length of a utilisation window. -/
def utilWindow : Nat := ns 10000

/-- R88: the busy cycles counted so far in window `w` of a crane. -/
def CraneS.busyIn (c : CraneS) (w : Nat) : Nat := if w = c.win then c.busy else if w = c.win + 1 then c.busyNext else 0

/-- R88: counts a busy cycle of a crane that ends at instant `x`. -/
def CraneS.count (c : CraneS) (x : Nat) : CraneS :=
  let w := (x - 1 - c.winOff) / utilWindow
  if w = c.win then { c with busy := c.busy + 1 }
  else { c with win := w - 1, busy := c.busyIn (w - 1), busyNext := c.busyIn w + 1 }

/-- The instruction that the run on crane `c` executes next. -/
def engNext (s : State) (c : Nat) : Option EngOp :=
  match (s.craneOf c).run with
  | some r => (r.prog[r.pos]?).map engDecode
  | none => none

/-- R108: crane `c` executes `op` as the next instruction of its run. -/
def engRun (s : State) (c : Nat) (op : EngOp) : State :=
  match (s.craneOf c).run with
  | none => s
  | some r =>
    let s := s.tick r.done
    let (r', s) := engApply s r op
    s.setCrane c { (s.craneOf c).count r.done with run := some { r' with pos := r.pos + 1 } }

/-- An engine instruction takes place where it is the next one of the run on its crane. -/
def engStep (c : Nat) (op : EngOp) (s : State) : Host.Outcome State Fault Refusal :=
  if engNext s c = some op then .next (engRun s c op) else .next (s.tick 0)

/-- R83, R102, R104, R118, R120: the run on crane `c` ends, and the berths chained to it become ready, in the order of their numbers. -/
def endRun (s : State) (c : Nat) (r : Run) : State :=
  let b := r.berth
  let x := r.start + ns r.pos
  let s := s.setCrane c { s.craneOf c with run := none, freeAt := x }
  let s := if r.mem && !r.voided then
      if groupLive s r.grp then
        if r.close then (if r.offered then s else (s.setRounds r.grp []).flag F.CG_STAT_abort r.grp)
        else s.setBerth b { s.berthOf b with pre := some ⟨r.ready, r.intw, r.at0.getD r.intw 0⟩ }
      else match r.prov with
        | some p => if r.tide.contains (16 * b + r.intw) then s else stateWrite s (16 * b + r.intw) p.v x
        | none => s
    else s
  let s := (s.put F.BERTH_STAT_running b 0).put F.CR_STAT_busy c 0
  let s := s.raiseAt (5 + b / 128) (b % 128) 0 x
  let s := runLog s c b false r.start
  let s := if (s.berthOf b).endOff then berthUnarm s b true else s
  (s.armed.filter (fun m => s.get F.BERTH_TRG_src m == 1 && s.get F.BERTH_TRG_num m == b)).foldl
    (fun s m => berthReady s m x) s

/-! ### The commands -/

/-- R90: a write of BERTH_CTL that sets arm. -/
def execBerthArmRequest (t : Nat) (b : Fin 1024) (v : Word) (s : State) : Host.Outcome State Fault Refusal :=
  event t s (fun s => F.BERTH_CTL_arm.of v.toNat == 1 && !s.is F.BERTH_CTL_arm b && !s.is F.BERTH_STAT_admpend b)
    (fun s => berthCtlWrite s b (s.yielded .BERTH_CTL b .base v.toNat))

/-- R28, R90, R91: the admission unit decides the oldest arming request; it stands with the timer domain. -/
def execAdmissionDecision (t : Nat) (s : State) : Host.Outcome State Fault Refusal :=
  event t s (fun s => timerOn s && !s.admq.isEmpty)
    (fun s => match s.admq with
      | [] => s
      | b :: q =>
        let s := { s.put F.BERTH_STAT_admpend b 0 with admq := q }
        if admCode s b = 0 then berthAdmit s b else berthRefuse s b (admCode s b))

/-- R89: a write of BERTH_CTL that clears arm. -/
def execBerthDisarm (t : Nat) (b : Fin 1024) (v : Word) (s : State) : Host.Outcome State Fault Refusal :=
  event t s (fun s => s.is F.BERTH_CTL_arm b && F.BERTH_CTL_arm.of v.toNat == 0)
    (fun s => berthCtlWrite s b (s.yielded .BERTH_CTL b .base v.toNat))

/-- R80, R81, R158: an event of the selected channel arrives at the trigger of an armed berth. -/
def execBerthTrigger (t : Nat) (b : Fin 1024) (s : State) : Host.Outcome State Fault Refusal :=
  event t s (fun s => s.is F.BERTH_CTL_arm b && s.get F.BERTH_TRG_src b == 0 && arrives s (s.get F.BERTH_TRG_num b) ⟨1, b⟩ t)
    (fun s => berthReady (arrive s (s.get F.BERTH_TRG_num b) ⟨1, b⟩ t) b (edgeCeil t))

/-- R80: a write of ENG_SWTRG. -/
def execSoftwareTrigger (t : Nat) (v : Word) (s : State) : Host.Outcome State Fault Refusal :=
  .next (swTrigger (s.tick t) v.toNat)

/-- R28, R85, R86: a free crane selects a run at a timer edge and starts it; none starts in Stop or below. -/
def execRunStart (t : Nat) (c : Fin 8) (s : State) : Host.Outcome State Fault Refusal :=
  event t s
    (fun s => s.is F.ENG_CTL_en 0 && timerOn s && s.now % 64 == 0 && (s.craneOf c).run.isNone &&
      decide ((s.craneOf c).freeAt ≤ s.now) && (selectRun s c s.now).isSome)
    (fun s => match selectRun s c s.now with
      | some b => startRun s c b s.now
      | none => s)

/-- R83: the last instruction of the run on a crane has completed. -/
def execRunEnd (c : Fin 8) (s : State) : Host.Outcome State Fault Refusal :=
  match (s.craneOf c).run with
  | some r => if r.prog.length ≤ r.pos then .next (endRun (s.tick (r.start + ns r.pos)) c r) else .next (s.tick 0)
  | none => .next (s.tick 0)

/-- R31, R82: a pending run reaches its deadline. -/
def execRunSkip (t : Nat) (b : Fin 1024) (s : State) : Host.Outcome State Fault Refusal :=
  event t s
    (fun s => match (s.berthOf b).pend with
      | some p => (match p.deadline with | some d => decide (d ≤ s.now) | none => false)
      | none => false)
    (fun s => match (s.berthOf b).pend with
      | some p => berthSkip s b (p.deadline.getD s.now)
      | none => s)

/-- R79: a write of ENG_CTL that sets en. -/
def execEngineEnable (t : Nat) (v : Word) (s : State) : Host.Outcome State Fault Refusal :=
  event t s (fun _ => F.ENG_CTL_en.of v.toNat == 1) (fun s => engCtlWrite s v.toNat)

/-- R84: a write of ENG_CTL that clears en. -/
def execEngineDisable (t : Nat) (v : Word) (s : State) : Host.Outcome State Fault Refusal :=
  event t s (fun _ => F.ENG_CTL_en.of v.toNat == 0) (fun s => engCtlWrite s v.toNat)

/-- R88: the utilisation windows of a crane that have completed. DESIGN CHOICE (log 110): they follow one another from the power-on, and the
timer domain counts none of their cycles while it stands. -/
def CraneS.windows (c : CraneS) (now : Nat) : Nat := (now - c.winOff) / utilWindow

/-- R88: a window of 10,000 timer cycles has completed: CR_UTIL shows the latest completed one. -/
def execUtilisationWindow (t : Nat) (c : Fin 8) (s : State) : Host.Outcome State Fault Refusal :=
  event t s (fun s => timerOn s && decide ((s.craneOf c).pub < (s.craneOf c).windows s.now))
    (fun s =>
      let h := s.craneOf c
      let n := h.windows s.now
      (s.put F.CR_UTIL_busy c (h.busyIn (n - 1))).setCrane c
        { h with pub := n, win := n, busy := h.busyIn n, busyNext := h.busyIn (n + 1) })

/-- R111, R112: the engine NOP, or any reserved encoding. -/
def execEngNop (c : Fin 8) (s : State) : Host.Outcome State Fault Refusal := engStep c .nop s
/-- R113: LDI. -/
def execLdi (c : Fin 8) (d : BitVec 2) (imm : Word) (s : State) : Host.Outcome State Fault Refusal :=
  engStep c (.ldi d.toNat imm) s
/-- R113: LDW. -/
def execLdw (c : Fin 8) (d : BitVec 2) (a : BitVec 6) (s : State) : Host.Outcome State Fault Refusal :=
  engStep c (.ldw d.toNat a.toNat) s
/-- R113: LDA. -/
def execLda (c : Fin 8) (d : BitVec 2) (idx : BitVec 14) (s : State) : Host.Outcome State Fault Refusal :=
  engStep c (.lda d.toNat idx.toNat) s
/-- R113: LDS. -/
def execLds (c : Fin 8) (d : BitVec 2) (own : Bool) (ch : BitVec 7) (s : State) : Host.Outcome State Fault Refusal :=
  engStep c (.lds d.toNat own (if own then 0 else ch.toNat)) s
/-- R114: ERR with m = 0. -/
def execErr (c : Fin 8) (d : BitVec 2) (a b : BitVec 6) (s : State) : Host.Outcome State Fault Refusal :=
  engStep c (.err d.toNat a.toNat b.toNat false) s
/-- R114: ERR with m = 1. -/
def execErrAdd (c : Fin 8) (d : BitVec 2) (a b : BitVec 6) (s : State) : Host.Outcome State Fault Refusal :=
  engStep c (.err d.toNat a.toNat b.toNat true) s
/-- R114: MAC.SET. -/
def execMacSet (c : Fin 8) (a b : BitVec 6) (s : State) : Host.Outcome State Fault Refusal :=
  engStep c (.mac 0 a.toNat b.toNat) s
/-- R114: MAC.ADD. -/
def execMacAdd (c : Fin 8) (a b : BitVec 6) (s : State) : Host.Outcome State Fault Refusal :=
  engStep c (.mac 1 a.toNat b.toNat) s
/-- R114: MAC.SUB. -/
def execMacSub (c : Fin 8) (a b : BitVec 6) (s : State) : Host.Outcome State Fault Refusal :=
  engStep c (.mac 2 a.toNat b.toNat) s
/-- R114: MAC.ADDW. -/
def execMacAddw (c : Fin 8) (a : BitVec 6) (s : State) : Host.Outcome State Fault Refusal := engStep c (.mac 3 a.toNat 0) s
/-- R115: MACD.SET. -/
def execMacdSet (c : Fin 8) (a b : BitVec 6) (s : State) : Host.Outcome State Fault Refusal :=
  engStep c (.macd 0 a.toNat b.toNat) s
/-- R115: MACD.ADD. -/
def execMacdAdd (c : Fin 8) (a b : BitVec 6) (s : State) : Host.Outcome State Fault Refusal :=
  engStep c (.macd 1 a.toNat b.toNat) s
/-- R115: MACD.SUB. -/
def execMacdSub (c : Fin 8) (a b : BitVec 6) (s : State) : Host.Outcome State Fault Refusal :=
  engStep c (.macd 2 a.toNat b.toNat) s
/-- R114: RND. -/
def execRnd (c : Fin 8) (d : BitVec 2) (sh : BitVec 4) (s : State) : Host.Outcome State Fault Refusal :=
  engStep c (.rnd d.toNat sh.toNat) s
/-- R114: CLP. -/
def execClp (c : Fin 8) (d : BitVec 2) (a lo hi : BitVec 6) (s : State) : Host.Outcome State Fault Refusal :=
  engStep c (.clp d.toNat a.toNat lo.toNat hi.toNat) s
/-- R114: MNX with m = 0. -/
def execMnxMin (c : Fin 8) (d : BitVec 2) (a b : BitVec 6) (s : State) : Host.Outcome State Fault Refusal :=
  engStep c (.mnx d.toNat a.toNat b.toNat false) s
/-- R114: MNX with m = 1. -/
def execMnxMax (c : Fin 8) (d : BitVec 2) (a b : BitVec 6) (s : State) : Host.Outcome State Fault Refusal :=
  engStep c (.mnx d.toNat a.toNat b.toNat true) s
/-- R116: FFW. -/
def execFfw (c : Fin 8) (d : BitVec 2) (a b : BitVec 6) (bsel : Bool) (ch : BitVec 7) (s : State) :
    Host.Outcome State Fault Refusal :=
  engStep c (.ffw d.toNat a.toNat (if bsel then 0 else b.toNat) bsel (if bsel then ch.toNat else 0)) s
/-- R117, R118: INT. -/
def execInt (c : Fin 8) (d : BitVec 2) (a lo hi : BitVec 6) (w : BitVec 4) (s : State) : Host.Outcome State Fault Refusal :=
  engStep c (.int d.toNat a.toNat lo.toNat hi.toNat w.toNat) s
/-- R119: GSEL with f = 0. -/
def execGselSchedule (c : Fin 8) (a : BitVec 6) (s : State) : Host.Outcome State Fault Refusal := engStep c (.gselA a.toNat) s
/-- R119: GSEL with f = 1. -/
def execGselFixed (c : Fin 8) (g : BitVec 2) (s : State) : Host.Outcome State Fault Refusal := engStep c (.gselG g.toNat) s
/-- R120: SEL. -/
def execSel (c : Fin 8) (d : BitVec 2) (a : BitVec 6) (s : State) : Host.Outcome State Fault Refusal :=
  engStep c (.sel d.toNat a.toNat) s
/-- R121: DUTY. -/
def execDuty (c : Fin 8) (cmp : BitVec 2) (a b hi bias : BitVec 6) (ps : Bool) (uo : BitVec 3) (s : State) :
    Host.Outcome State Fault Refusal :=
  engStep c (.duty cmp.toNat a.toNat b.toNat hi.toNat bias.toNat ps uo.toNat) s
/-- R123: STW. -/
def execStw (c : Fin 8) (a : BitVec 6) (w : BitVec 4) (s : State) : Host.Outcome State Fault Refusal :=
  engStep c (.stw a.toNat w.toNat) s

end Sys2Proof.Machine
end

