-- ==== Sys2Proof/Machine/Regmap.lean ====
section
/-! DEFINITION. The register at an address of peripheral space (19_address_map.md, R433). -/

namespace Sys2Proof.Machine

/-- R433: the instance at distance `d` from the first, and the nonets left over. -/
def dimsAt : List (Nat × Nat) → Nat → Nat → Option (Nat × Nat)
  | [], d, i => some (i, d)
  | (n, st) :: l, d, i => if d / st < n then dimsAt l (d % st) (i * n + d / st) else none

/-- The nonets of a register. -/
def RegName.size (r : RegName) : Nat := if r.row.dword then 4 else 2

/-- R433: the instance of register `r` that covers base address `a`, and the nonets of it before `a`. -/
def RegName.at_ (r : RegName) (a : Nat) : Option (Nat × Nat) :=
  if a < r.row.addr then none
  else
    match dimsAt r.row.dims (a - r.row.addr) 0 with
    | some (i, d) => if d < r.size then some (i, d) else none
    | none => none

/-- R433: the register, the instance and the nonets before it at base address `a`; none at an offset that no register occupies. -/
def regAt (a : Nat) : Option (RegName × Nat × Nat) :=
  RegName.all.findSome? (fun r => (r.at_ a).map (fun x => (r, x)))

end Sys2Proof.Machine
end

