-- ==== Sys2Proof/Machine/Tides.lean ====
section
/-! DEFINITION. Bank owners and handovers, the scrubber, and local tides with their epochs (12_memory_locks_tides.md, R273 to R284 and
R291 to R295). -/

namespace Sys2Proof.Machine

/-! ### Bank owners (R274, R279) -/

/-- R274: BK63 can be owned only by a core. -/
def ownerRefused (k : Nat) (new : BitVec 36) : Bool := k == 63 && fget new 16 2 != 0

/-- R274, R279, R294: a write of BANK_OWN, by a tide or not, begins a handover, or is ignored. A tide's write stands over one that arrived in the
same timer cycle. -/
def bankOwnWrite (s : State) (k : Nat) (new : BitVec 36) (tide : Bool := false) : State :=
  let meets := tide && (s.bankOf k).any (fun p => p.2 / 64 == s.now / 64)
  if s.is F.BANK_STAT_hpend k && !meets then if new = s.reg .BANK_OWN k then s else s.flag F.BANK_STAT_cfgerr k
  else if ownerRefused k new then if new = s.reg .BANK_OWN k then s else s.flag F.BANK_STAT_cfgerr k
  else (s.put F.BANK_STAT_hpend k 1).setBank k (some (new, s.now))

/-- R279, R280: the new owner and the guest bits take effect. -/
def bankOwnDone (s : State) (k : Nat) : State :=
  let new := newOwner s k
  let s := (s.hwSet .BANK_OWN k new).setBank k none
  let s := if fget new 16 2 = 1 then s.put F.BANK_LOG_next k 0 else s
  memCause (s.put F.BANK_STAT_hpend k 0) 2

/-- R279: a write of BANK_OWN. -/
def execBankHandover (t : Nat) (k : Fin 64) (v : Word) (s : State) : Host.Outcome State Fault Refusal :=
  let s := s.tick t
  ok (bankOwnWrite s k (s.written_ .BANK_OWN k .base v.toNat))

/-! ### The scrubber (R283) -/

/-- R283: the scrubber reads the next line of bank `k`. -/
def execScrub (t : Nat) (k : Fin 64) (s : State) : Host.Outcome State Fault Refusal :=
  event t s
    (fun s => s.is F.MEM_SCRUB_en 0 && decide (s.rung < 3) && decide ((s.scrubOf k).2 ≤ s.now))
    (fun s =>
      let (l, _) := s.scrubOf k
      let s := s.setScrub k ((l + 1) % 8192, s.now + 128000)
      (List.range 4).foldl (fun s i => (sramRead s 3 0 (32768 * k + 4 * l + i)).2) s)

/-! ### Staging (R291, R292) -/

/-- R292: a target of a tide. -/
inductive TideDest where
  | bstore (i : Nat)
  | bram (j : Nat)
  | reg (r : RegName) (i : Nat)
  deriving DecidableEq, Repr

/-- R292: the registers that a tide may carry. -/
def tideReg (r : RegName) : Bool :=
  [RegName.BERTH_GBASE, .BERTH_BND, .CU_PER, .CU_CMP, .WC_THH, .WC_THL, .MF_CTL, .BANK_OWN].contains r

/-- R291, R292: the target at address `a` (the alias removed), and whether it is a double word; none where no target begins there. -/
def tideDest (a : Nat) : Option (TideDest × Bool) :=
  match regionOf a with
  | .bstore => if a % 4 = 0 then some (.bstore ((a - 0o062000000) / 4), true) else none
  | .bram => if a % 2 = 0 then some (.bram ((a - 0o063000000) / 2), false) else none
  | .periph =>
    match regAt a with
    | some (r, i, d) => if d = 0 ∧ tideReg r then some (.reg r i, r.row.dword) else none
    | none => none
  | _ => none

/-- R291: the entries of a store of `size` nonets (2 or 4) at target address `a`; none where it does not cover whole targets. -/
def tideEntries (a size : Nat) (v : BitVec 36) : Option (List TideEntry) :=
  match tideDest a with
  | some (_, true) => if size = 4 then some [⟨a, true, v⟩] else none
  | some (_, false) =>
    if size = 2 then some [⟨a, false, v &&& 0o777777⟩]
    else
      match tideDest (a + 2) with
      | some (_, false) => some [⟨a, false, v >>> 18⟩, ⟨a + 2, false, v &&& 0o777777⟩]
      | _ => none
  | none => none

/-- The staged entries of all slots. -/
def tideUsed (s : State) : Nat := ((List.range 4).map (fun k => (s.tideOf k).entries.length)).foldl (· + ·) 0

/-- TSLOT_STAT.n and TIDE_STAT.used show the entries. -/
def tideShow (s : State) (k : Nat) : State :=
  let s := s.put F.TSLOT_STAT_n k (s.tideOf k).entries.length
  s.put F.TIDE_STAT_used 0 (tideUsed s)

/-- R291: a staging store to slot `k` of `size` nonets at target address `a`. -/
def tideStage (s : State) (k a size : Nat) (v : BitVec 36) : State :=
  match s.get F.TSLOT_STAT_state k with
  | 2 => s.flag F.TIDE_STAT_armst 0
  | 3 => s
  | _ =>
    match tideEntries a size v with
    | some es =>
      if tideUsed s + es.length ≤ 1024 then
        tideShow ((s.put F.TSLOT_STAT_state k 1).setTide k { s.tideOf k with entries := (s.tideOf k).entries ++ es }) k
      else s.put F.TSLOT_STAT_state k 3
    | none => s.put F.TSLOT_STAT_state k 3

/-- R291, R432: a staging store of core `c`, a word or a double word at tide-alias address `a`; at an odd one it poisons the slot. -/
def execTideStage (t : Nat) (c : Fin 16) (a : Addr) (dbl : Bool) (v : DWord) (s : State) : Host.Outcome State Fault Refusal :=
  event t s (fun _ => regionOf a.toNat == .tide)
    (fun s => tideStage s (s.get F.TIDE_CSEL_slot c) (a.toNat - 0o200000000) (if dbl then 4 else 2)
      (if dbl then v else v &&& 0o777777))

/-! ### Commit and arming (R293) -/

/-- R293: the slot is discarded. -/
def tideDiscard (s : State) (k : Nat) : State := tideShow ((s.put F.TSLOT_STAT_state k 0).setTide k {}) k

/-- R374: slot `k` is armed for a global tide. -/
def tideGlobal (s : State) (k : Nat) : Bool :=
  match (s.tideOf k).armed with
  | some (.round, _) => true
  | some (.global _, _) => true
  | _ => false

/-- R293, R374: the commit of slot `k` is refused for the reason `why`. -/
def commitRefuse (s : State) (k why : Nat) : State := memCause (s.put F.TSLOT_STAT_why k why) 6

/-- R293, R374: a write of TIDE_COMMIT. -/
def tideCommitWrite (s : State) (v : Nat) : State :=
  let k := F.TIDE_COMMIT_slot.of v
  match F.TIDE_COMMIT_kind.of v with
  | 0 => s.setTide k { s.tideOf k with commit := some (.instant 0) }
  | 1 => s.setTide k { s.tideOf k with commit := some (.boundary (F.TIDE_COMMIT_cu.of v)) }
  | 2 => if tideGlobal s k then commitRefuse s k 1 else tideDiscard s k
  | _ => s

/-- R293: a write of TIDE_COMMIT of kind 0. -/
def execTideCommitInstant (t : Nat) (v : Word) (s : State) : Host.Outcome State Fault Refusal :=
  event t s (fun _ => F.TIDE_COMMIT_kind.of v.toNat == 0) (fun s => tideCommitWrite s v.toNat)

/-- R293: a write of TIDE_COMMIT of kind 1. -/
def execTideCommitBoundary (t : Nat) (v : Word) (s : State) : Host.Outcome State Fault Refusal :=
  event t s (fun _ => F.TIDE_COMMIT_kind.of v.toNat == 1) (fun s => tideCommitWrite s v.toNat)

/-- R293: a write of TIDE_COMMIT of kind 2. -/
def execTideDiscard (t : Nat) (v : Word) (s : State) : Host.Outcome State Fault Refusal :=
  event t s (fun _ => F.TIDE_COMMIT_kind.of v.toNat == 2) (fun s => tideCommitWrite s v.toNat)

/-- The state word of an entry of a counter unit: (unit, loaded register as in R134). -/
def cuTarget (r : RegName) (i : Nat) : Option (Nat × Nat) :=
  match r with
  | .CU_PER => some (i, 0)
  | .CU_CMP => some (i / 4, i % 4 + 1)
  | _ => none

/-- R293, reasons 3 and 5: the entry names a register whose rule is not TIDE, carries a period below 16, or is a refused owner. -/
def entryWhy (s : State) (e : TideEntry) : Nat :=
  match tideDest e.addr with
  | some (.reg .BANK_OWN i, _) => if ownerRefused i e.v then 5 else 0
  | some (.reg r i, _) =>
    match cuTarget r i with
    | some (u, j) => if cuRule s u j ≠ 2 ∨ (j = 0 ∧ F.CU_PER_p.of e.v.toNat < 16) then 3 else 0
    | none => 0
  | _ => 0

/-- R291: the registers of berths as the entries would leave them. -/
def berthPreview (s : State) (es : List TideEntry) : State :=
  es.foldl (fun s e => match tideDest e.addr with
    | some (.reg .BERTH_GBASE i, _) => s.setReg .BERTH_GBASE i (s.written_ .BERTH_GBASE i .base e.v.toNat)
    | some (.reg .BERTH_BND i, _) => s.setReg .BERTH_BND i (s.written_ .BERTH_BND i .base e.v.toNat)
    | _ => s) s

/-- R293, reasons 2 to 5: why the entries of slot `k` are refused, or 0. -/
def tideWhy (s : State) (k : Nat) : Nat :=
  let es := (s.tideOf k).entries
  if s.get F.TSLOT_STAT_state k = 3 then 2
  else if es.any (fun e => entryWhy s e == 3) then 3
  else if s.armed.any (fun b => blockCode (berthPreview s es) b != 0) then 4
  else if es.any (fun e => entryWhy s e == 5) then 5
  else 0

/-- R125, R293: unit `u` has no period boundary to wait for. -/
def cuNoBoundary (s : State) (u : Nat) : Bool := !s.is F.CU_STAT_running u || s.get F.CU_CTL_mode u == 3

/-- The instant in TSLOT_ATH and TSLOT_ATL. -/
def slotInstant (s : State) (k : Nat) : Nat := tbJoin (s.get F.TSLOT_ATH_v k) (s.get F.TSLOT_ATL_v k)

/-- R293: why the commit of slot `k` is refused, or 0. -/
def commitWhy (s : State) (k : Nat) (c : TideWhen) : Nat :=
  if s.get F.TSLOT_STAT_state k = 2 then 1
  else if tideWhy s k ≠ 0 then tideWhy s k
  else
    match c with
    | .instant _ => if s.reached (slotInstant s k) && slotInstant s k % tbWrap != s.tbNow then 6 else 0
    | .boundary u => if cuNoBoundary s u then 7 else 0
    | _ => 0

/-- R293: slot `k` is armed for `w`. -/
def tideArm (s : State) (k : Nat) (w : TideWhen) : State :=
  (s.put F.TSLOT_STAT_state k 2).setTide k { s.tideOf k with commit := none, armed := some (w, s.now) }

/-- R293: the tide unit validates a committed slot, and arms it or refuses it. -/
def execTideArm (t : Nat) (k : Fin 4) (s : State) : Host.Outcome State Fault Refusal :=
  event t s (fun s => (s.tideOf k).commit.isSome)
    (fun s =>
      let c := (s.tideOf k).commit.getD (.instant 0)
      let why := commitWhy s k c
      if why = 0 then
        tideArm s k (match c with | .instant _ => .instant (slotInstant s k) | w => w)
      else commitRefuse (s.setTide k { s.tideOf k with commit := none }) k why)

/-! ### The tide (R292, R294, R295) -/

/-- R98, R292: the runs executing at the tide's timer edge, not those that start at it, keep the value that state word `j` had, and discard their
own later writes of it. -/
def tideRuns (s : State) (j : Nat) : State :=
  (List.range 8).foldl (fun s c =>
    let h := s.craneOf c
    match h.run with
    | some r =>
      if edgeCeil s.now ≤ r.start then s
      else
      let old := if r.tide.contains j then r.old else Store.insert r.old j (s.bramOf j)
      s.setCrane c { h with run := some { r with old := old, tide := if r.tide.contains j then r.tide else j :: r.tide } }
    | none => s) s

/-- R98: the runs that start at the tide's timer edge read the new values. -/
def tideStarts (s : State) : State :=
  (List.range 8).foldl (fun s c =>
    match (s.craneOf c).run with
    | some r =>
      if edgeCeil s.now ≤ r.start ∧ r.pos = 0 then
        let r' := newRun s r.berth r.start r.ready r.reg0 r.voided
        (s.setCrane c { s.craneOf c with run := some r' }).put F.BERTH_STAT_region r.berth r'.region
      else s
    | none => s) s

/-- R297: a run that executes, and a member's word before the round in progress, are taken in a snapshot with the tide included. -/
def tideSnap (s : State) (j : Nat) (v : Int) : State :=
  let s := match (s.berthOf (j / 16)).pre with
    | some p => if p.word = j % 16 then s.setBerth (j / 16) { s.berthOf (j / 16) with pre := some { p with v := v } } else s
    | none => s
  (List.range 8).foldl (fun s c =>
    let h := s.craneOf c
    match h.run with
    | some r => if j / 16 = r.berth then s.setCrane c { h with run := some { r with at0 := r.at0.set (j % 16) v } } else s
    | none => s) s

/-- R294: a tide's write of a register stands over every other write of it in the timer cycle. -/
def tideMark (s : State) (r : RegName) (i : Nat) : State := s.mark r i (BitVec.allOnes 36)

/-- R292, R294: one entry applies. -/
def tideEntry (s : State) (e : TideEntry) : State :=
  match tideDest e.addr with
  | some (.bstore i, _) => (s.setBstore i e.v).setBstoreAt i (s.now / 64 + 1)
  | some (.bram j, _) =>
    let v := sx 18 e.v.toNat
    let s := tideSnap (tideRuns s j) j v
    (s.setEngW j (some ⟨s.bramOf j, edgeCeil s.now⟩)).setBram j v
  | some (.reg r i, _) =>
    match r with
    | .WC_THH => tideMark (wcThrWrite s true i e.v.toNat) r i
    | .WC_THL => tideMark (wcThrWrite s false i e.v.toNat) r i
    | .MF_CTL => (s.setMf i { s.mfOf i with tideTar := some (e.v.toNat / 2 ^ 11 % 8) }).mark r i F.MF_CTL_tar.mask
    | .BANK_OWN => bankOwnWrite s i (s.written_ .BANK_OWN i .base e.v.toNat) true
    | _ =>
      match cuTarget r i with
      | some (u, j) => cuTide s u j e.v.toNat
      | none => tideMark (s.setReg r i (s.written_ r i .base e.v.toNat)) r i
  | none => s

/-- R294: of the entries that name one target, the last. -/
def lastEntries : List TideEntry → List TideEntry
  | [] => []
  | e :: l => if l.any (fun f => f.addr == e.addr) then lastEntries l else e :: lastEntries l

/-- R294, R295: the tide of slot `k` applies: all of its entries at once; the epoch counts it, and the slot is EMPTY. `ev` is the event
of class 20. -/
def tideApply (s : State) (k ev : Nat) : State :=
  let s := tideStarts ((lastEntries (s.tideOf k).entries).foldl tideEntry s)
  let s := s.put F.TIDE_EPOCH_n 0 (s.get F.TIDE_EPOCH_n 0 + 1)
  let s := (tideShow ((s.put F.TSLOT_STAT_state k 0).setTide k {}) k).raise 20 0 ev
  cuSettle (memCause s 5)

/-- R293, R322, R379: the instant of an armed slot has come; the round of a global tide has no instant until it is committed. -/
def tideDue (s : State) (k : Nat) : Bool :=
  match (s.tideOf k).armed with
  | some (.instant v, _) => s.reached v
  | some (.boundary u, a) => (s.cuOf u).pstart == s.now && decide (a ≤ s.now)
  | some (.global v, _) => s.reached v
  | _ => false

/-- R293, R297: the instant of slot `k`'s tide has come, or comes with a period boundary that its unit has yet to make. -/
def tideComes (s : State) (k : Nat) : Bool :=
  tideDue s k || (match (s.tideOf k).armed with
    | some (.boundary u, a) => (s.cuOf u).nextBnd.any (fun b : Int => decide (b ≤ (s.now : Int)) && decide ((a : Int) ≤ b))
    | _ => false)

/-- R294: a local tide applies; slots that share an instant apply in slot order. -/
def execTideApply (t : Nat) (k : Fin 4) (s : State) : Host.Outcome State Fault Refusal :=
  event t s (fun s => tideDue s k && !tideGlobal s k && !(List.range k).any (tideDue s)) (fun s => tideApply s k 0)

end Sys2Proof.Machine
end

