-- ==== Sys2Proof/Machine/Round.lean ====
section
/-! DEFINITION. The round of a global tide on one device (16_system_tides_upgrades.md, R370 to R383). -/

namespace Sys2Proof.Machine

/-! ### Votes (R374, R375) -/

/-- R375: a YES of this device. -/
def voteYes : Vote := ⟨true, 0, 63, 1, none⟩

/-- R375: a NO: its reason, the offered level where the reason is 1, and the refuser. -/
def voteNo (reason lvl node : Nat) : Vote := ⟨false, reason, if reason = 1 then lvl else 63, 0, some node⟩

/-- The lower of two values where 0 stands for none. -/
def minNz (a b : Nat) : Nat := if a = 0 then b else if b = 0 then a else min a b

/-- R375: two votes combined. -/
def voteAnd (a b : Vote) : Vote where
  yes := a.yes && b.yes
  reason := minNz a.reason b.reason
  minlvl := min a.minlvl b.minlvl
  count := a.count + b.count
  refuser := match a.refuser, b.refuser with
    | some x, some y => some (min x y)
    | some x, none => some x
    | none, y => y

/-- R375, R376: the combined vote of the votes held, and whether every awaited vote has come. -/
def Round.combined (r : Round) : Vote := r.kids.foldl (fun v k => match k.2 with | some x => voteAnd v x | none => v) r.own

/-- R376: every awaited vote has come. -/
def Round.complete (r : Round) : Bool := r.kids.all (fun k => k.2.isSome)

/-- R375: the payload of a VOTE. -/
def votePay (s : State) (id : Nat) (v : Vote) (report : Bool) : List Word :=
  let w (v : Nat) : Word := BitVec.ofNat 18 v
  words2 id ++
    [w (b2n v.yes * 2 ^ 17 + b2n report * 2 ^ 16 + v.reason * 2 ^ 12 + v.minlvl), w v.count,
     w (b2n v.refuser.isSome * 2 ^ 17 + v.refuser.getD 0), w (lkOwn s)]

/-- R375: the vote in a VOTE. -/
def voteOf (f : Frame) : Vote where
  yes := frameBit f 2 17
  reason := frameW f 2 / 2 ^ 12 % 16
  minlvl := frameW f 2 % 64
  count := frameW f 3 % 2 ^ 13
  refuser := if frameBit f 4 17 then some (frameW f 4 % 4096) else none

/-! ### The tree (R370, R371) -/

/-- R370: port `p` is a child port. -/
def gtChild (s : State) (p : Nat) : Bool := (s.get F.GT_TREE_child 0).testBit (3 - p)

/-- R371: child port `p` is optional. -/
def gtOpt (s : State) (p : Nat) : Bool := (s.get F.GT_TREE_opt 0).testBit (3 - p)

/-- R370: a tree frame on port `p`: one hop, to the partner. -/
def gtSend (s : State) (p ty : Nat) (pay : List Word) : State :=
  lkSend s p (mkFrame s ty (s.get F.LK_PNODE_node p) 1 0 0 pay) none none

/-- R373, R377: a tree frame on every child port in UP. -/
def gtSendDown (s : State) (ty : Nat) (pay : List Word) : State :=
  [0, 1, 2, 3].foldl (fun s p => if gtChild s p && lkUp s p then gtSend s p ty pay else s) s

/-- R370: a tree frame is discarded and counted. -/
def gtIgnore (s : State) : State := s.incSat F.GT_IGN_n 0

/-- The state with the round in progress. -/
def setRound (s : State) (r : Option Round) : State := { s with gt := { s.gt with round := r } }

/-! ### Deciding and voting (R376, R377) -/

/-- R377: the root decides: the result goes to GT_RES and GT_RESN, and the decision down the tree. -/
def gtDecide (s : State) (r : Round) (commit : Bool) : State :=
  let v := r.combined
  let s := (s.put F.GT_RES_done 0 1).put F.GT_RES_yes 0 (b2n (v.yes && r.complete))
  let s := (s.put F.GT_RES_reason 0 v.reason).put F.GT_RES_minlvl 0 v.minlvl
  let s := (s.put F.GT_RESN_count 0 v.count).put F.GT_RESN_refv 0 (b2n v.refuser.isSome)
  let s := (s.put F.GT_RESN_refuser 0 (v.refuser.getD 0)).put F.GT_STAT_dec 0 (if commit then 1 else 2)
  if commit then
    let (sec, sub) := tbSplit r.inst
    gtSendDown s 18 (words2 r.id ++ words2 sec ++ words2 sub)
  else gtSendDown s 19 (words2 r.id)

/-- R376, R377: what the votes held bring: the root decides at the first NO, or once all have come; another device sends its VOTE at P or
once all have come. -/
def gtStep (s : State) : State :=
  match s.gt.round with
  | none => s
  | some r =>
    if s.is F.GT_STAT_doubt 0 then s
    else if s.is F.GT_TREE_root 0 then
      if s.get F.GT_STAT_dec 0 ≠ 0 then s
      else if !r.combined.yes then gtDecide s r false
      else if r.complete then gtDecide s r true
      else s
    else if !r.sent && r.complete && s.reached r.p then
      let s := setRound s (some { r with sent := true })
      let p := s.get F.GT_TREE_parent 0
      if p < 4 ∧ lkUp s p = true then gtSend s p 17 (votePay s r.id r.combined false) else s
    else s

/-- The vote of child port `p` becomes `v`; without one the round no longer awaits it. -/
def gtAnswer (s : State) (p : Nat) (v : Option Vote) : State :=
  match s.gt.round with
  | none => s
  | some r =>
    let kids := match v with
      | some x => r.kids.map (fun k => if k.1 = p ∧ k.2 = none then (p, some x) else k)
      | none => r.kids.filter (fun k => !(k.1 == p && k.2.isNone))
    gtStep (setRound s (some { r with kids := kids }))

/-- R371: port `p` has left UP: its vote still awaited counts as NO with reason 8, or the round ignores it. -/
def gtPortDown (s : State) (p : Nat) : State :=
  match s.gt.round with
  | none => s
  | some r =>
    if r.kids.any (fun k => k.1 == p && k.2.isNone) then
      gtAnswer s p (if gtOpt s p then none else some (voteNo 8 63 (s.get F.LK_PNODE_node p)))
    else s

/-! ### Opening a round (R372 to R374) -/

/-- R374: the level that the device offers. -/
def gtOffer (s : State) (raise : Bool) : Nat :=
  if raise then min (s.get F.BEHAVIOUR_LEVEL_ceil 0) 3 else s.get F.BEHAVIOUR_LEVEL_lvl 0

/-- R374: the slot bound to tide `id`. -/
def gtBound (s : State) (id : Nat) : Option Nat :=
  if s.is F.GT_BIND_en 0 && s.get F.GT_BINDID_id 0 == id then some (s.get F.GT_BIND_slot 0) else none

/-- R374: the first reason for a NO to tide `id` at instant `inst`, of kind `raise`, level `lvl`; 0: YES. -/
def gtReason (s : State) (id inst : Nat) (raise : Bool) (lvl : Nat) (late : Bool) : Nat :=
  if id ≤ s.get F.GT_LAST_v 0 ∨ late = true then 4
  else if s.is F.GT_STAT_doubt 0 then 3
  else if s.gt.round.isSome then 2
  else if s.is F.PWR_PFSTAT_act 0 then 6
  else if gtOffer s raise < lvl then 1
  else if (match gtBound s id with
    | some k => s.get F.TSLOT_STAT_state k != 1 || tideWhy s k != 0 || s.reached inst
    | none => false) then 5
  else if s.is F.GT_CTL_veto 0 then 7
  else 0

/-- R371, R373: what child port `p` contributes as the round opens: nothing, a vote, or one to await. -/
def gtKid (s : State) (lvl p : Nat) : List (Nat × Option Vote) :=
  let node := s.get F.LK_PNODE_node p
  if !gtChild s p then []
  else if lkUp s p then
    if s.get F.LK_PSTAT_bl p < lvl then [(p, some (voteNo 1 (s.get F.LK_PSTAT_bl p) node))] else [(p, none)]
  else if gtOpt s p then []
  else [(p, some (voteNo 8 63 node))]

/-- R373: the payload of a PREPARE. -/
def preparePay (id inst lead guard : Nat) (raise : Bool) (lvl hm : Nat) : List Word :=
  let w (v : Nat) : Word := BitVec.ofNat 18 v
  let (sec, sub) := tbSplit inst
  words2 id ++ words2 sec ++ words2 sub ++ words2 lead ++ [w guard, w (b2n raise * 2 ^ 17 + lvl), w hm]

/-- R373, R374: a round opens on this device: it votes, arms the bound slot with a YES, and sends the PREPARE on. -/
def gtOpen (s : State) (id inst lead guard : Nat) (raise : Bool) (lvl hm reason : Nat) : State :=
  let own := if reason = 0 then voteYes else voteNo reason (gtOffer s raise) (lkOwn s)
  let slot := gtBound s id
  let kids := [0, 1, 2, 3].flatMap (gtKid s lvl)
  let s := ((s.put F.GT_STAT_open 0 1).put F.GT_STAT_vote 0 (b2n own.yes)).put F.GT_STAT_dec 0 0
  let s := (s.put F.GT_STAT_reason 0 reason).put F.GT_RID_v 0 id
  let s := match slot with
    | some k => if own.yes then tideArm s k .round else s
    | none => s
  let p := (inst + tbWrap - 64 * lead % tbWrap) % tbWrap
  let s := setRound s (some ⟨id, inst, p, guard, raise, lvl, hm, slot, own, kids, false⟩)
  let pay := preparePay id inst lead guard raise lvl hm
  let s := kids.foldl (fun s k => if k.2 = none then gtSend s k.1 16 pay else s) s
  gtStep s

/-- R372: the proposal of the root is refused. -/
def gtRefuses (s : State) : Bool :=
  let lead := s.get F.GT_PLEAD_v 0
  let g := s.get F.GT_PGUARD_g 0
  let inst := tbJoin (s.get F.GT_PINH_v 0) (s.get F.GT_PINL_v 0)
  let p := (inst + tbWrap - 64 * lead % tbWrap) % tbWrap
  !s.is F.GT_TREE_root 0 || s.is F.GT_STAT_open 0 || decide (s.get F.GT_PID_v 0 ≤ s.get F.GT_LAST_v 0) ||
    decide (g < 1000) || decide (lead < 2 * g + 2000) || (tbPast (s.tbNow + 256000) p && (s.tbNow + 256000) % tbWrap != p)

/-- R377: the outcome of a round that does not commit: the bound slot returns to OPEN, and the binding clears. -/
def gtRelease (s : State) (r : Round) : State :=
  match r.slot with
  | some k =>
    let s := if tideGlobal s k then (s.put F.TSLOT_STAT_state k 1).setTide k { s.tideOf k with armed := none } else s
    s.hwPut F.GT_BIND_en 0 0
  | none => s

/-- R381: a routed decision of the root. -/
def gtRouted (s : State) (commit : Bool) : State :=
  if s.is F.GT_TREE_root 0 then
    let id := words2 (s.get F.GT_PRID_id 0)
    let pay := if commit then id ++ words2 (s.get F.GT_PINH_v 0) ++ words2 (s.get F.GT_PINL_v 0) else id
    lkOut s (mkFrame s (if commit then 18 else 19) (s.get F.GT_PDST_node 0) (s.get F.LK_NET_hops 0) 0 0 pay)
  else s

/-- R372, R377, R381: a write of GT_PCTL; its actions act in the order of its bits. -/
def gtPctlWrite (s : State) (v : Nat) : State :=
  let s := s.setReg .GT_PCTL 0 (s.written_ .GT_PCTL 0 .base v)
  let s :=
    if F.GT_PCTL_go.of v = 0 then s
    else if gtRefuses s then s.flag F.GT_STAT_perr 0
    else
      let id := s.get F.GT_PID_v 0
      let inst := tbJoin (s.get F.GT_PINH_v 0) (s.get F.GT_PINL_v 0)
      let raise := s.is F.GT_PCTL_raise 0
      let lvl := s.get F.GT_PCTL_lvl 0
      let s := s.put F.GT_RES_done 0 0
      gtOpen s id inst (s.get F.GT_PLEAD_v 0) (s.get F.GT_PGUARD_g 0) raise lvl (lkOwn s) (gtReason s id inst raise lvl false)
  let s := match s.gt.round with
    | some r => if F.GT_PCTL_abort.of v = 1 ∧ s.is F.GT_TREE_root 0 = true ∧ s.get F.GT_STAT_dec 0 = 0 then gtDecide s r false else s
    | none => s
  let s := if F.GT_PCTL_rcm.of v = 1 then gtRouted s true else s
  if F.GT_PCTL_rab.of v = 1 then gtRouted s false else s

/-- R371: a write of GT_TREE; R378: of GT_BIND. Both are ignored while a round is open. -/
def gtOpenWrite (s : State) (r : RegName) (new : BitVec 36) : State :=
  if s.is F.GT_STAT_open 0 then s.flag F.GT_STAT_cfgerr 0 else s.setReg r 0 new

/-! ### The outcome (R378 to R380) -/

/-- R378: the instant I - g of the round is reached. -/
def gtGuardDue (s : State) : Bool :=
  match s.gt.round with
  | some r => !s.is F.GT_STAT_doubt 0 && s.reached ((r.inst + tbWrap - 64 * r.guard % tbWrap) % tbWrap)
  | none => false

/-- R378, R380: the committed tide of round `r` waits for instant `inst`. -/
def gtCommit (s : State) (r : Round) (inst : Nat) : State :=
  let s := match r.slot with
    | some k => if tideGlobal s k then s.setTide k { s.tideOf k with armed := some (.global inst, s.now) } else s
    | none => s
  { s with gt := { s.gt with round := none, apply := s.gt.apply ++ [{ r with inst := inst }] } }

/-- R378: the round ends at I - g, or the device enters DOUBT. -/
def gtGuard (s : State) : State :=
  match s.gt.round with
  | none => s
  | some r =>
    if r.own.yes && s.get F.GT_STAT_dec 0 == 1 then (gtCommit s r r.inst).put F.GT_STAT_open 0 0
    else if r.own.yes && s.get F.GT_STAT_dec 0 == 0 then
      let s := (s.put F.GT_STAT_doubt 0 1).raise 20 0 2
      { s with gt := { s.gt with reportAt := s.now } }
    else setRound ((gtRelease s r).put F.GT_STAT_open 0 0) none

/-- R380: DOUBT ends. -/
def gtUndoubt (s : State) (dec : Nat) : State :=
  ((s.put F.GT_STAT_doubt 0 0).put F.GT_STAT_open 0 0).put F.GT_STAT_dec 0 dec

end Sys2Proof.Machine
end

