-- ==== Sys2Proof/Machine/Snapshot.lean ====
section
/-! DEFINITION. Snapshots (12_memory_locks_tides.md, R296 to R298). -/

namespace Sys2Proof.Machine

/-- R296: the kind of a list item: 0 berth, 1 counter unit, 2 integrator channel. -/
def itemKind (w : BitVec 18) : Nat := (w.extractLsb' 16 2).toNat

/-- R296: the instance of a list item. -/
def itemNo (w : BitVec 18) : Nat := (w.extractLsb' 0 10).toNat

/-- R296: a reserved item: kind 3, or an instance that does not exist. -/
def itemReserved (w : BitVec 18) : Bool := itemKind w == 3 || (itemKind w != 0 && decide (128 ≤ itemNo w))

/-- R298: the lines of an item's record. -/
def itemLines (w : BitVec 18) : Nat := if itemKind w = 0 then 5 else if itemKind w = 1 then 1 else 2

/-- R298: the lines of the output for a list. -/
def snapLines (items : List (BitVec 18)) : Nat := (items.map itemLines).foldl (· + ·) 2

/-- R281, R296: the snapshot unit reads `n` words of the list from SRAM word `k`; an uncorrectable word is open. -/
def snapRead (s : State) (c k : Nat) : Nat → List (BitVec 18) × State
  | 0 => ([], s)
  | n + 1 =>
    let (w, s) := sramRead s 1 c k
    let (v, s) : BitVec 18 × State := match w with
      | some x => (x.w, s)
      | none => let (f, s) := s.draw (2 ^ 18); (BitVec.ofNat 18 f, s)
    let (l, s) := snapRead s c (k + 1) n
    (v :: l, s)

/-- R296: core `c` owns the bank of `a`, and the snapshot unit is its guest. -/
def snapBank (s : State) (c a : Nat) : Bool :=
  regionOf a == .sram && ownsBank s c (bankAt a) && s.is F.BANK_OWN_gs (bankAt a)

/-- R296: why the request of core `c` for `items` is refused, or 0. -/
def snapWhy (s : State) (c : Nat) (items : List (BitVec 18)) (at_ : Option Nat) : Nat :=
  let l := s.get F.SNAP_LIST_addr c
  let n := 2 * (s.get F.SNAP_LIST_cnt c + 1)
  let d := s.get F.SNAP_DST_addr c
  let m := 8 * snapLines items
  if !snapBank s c l || !snapBank s c d then 1
  else if d % 8 ≠ 0 ∨ (l < d + m ∧ d < l + n) ∨ inOneBank l n = false ∨ inOneBank d m = false then 2
  else if items.any itemReserved || decide (256 < (items.filter (fun w => itemKind w == 0)).length) then 3
  else match at_ with
    | some v => if s.reached v then 4 else 0
    | none => 0

/-- R296: a write of SNAP_GO of core `c` by requester `q`. -/
def snapGoWrite (s : State) (q : Req) (c v : Nat) : State :=
  let mine := match q with
    | .core n => n.val == c
    | _ => false
  if !mine then s.flag F.SNAP_STAT_cfgerr c
  else if F.SNAP_GO_go.of v = 0 ∨ s.is F.SNAP_STAT_busy c = true then s
  else
    let l := s.get F.SNAP_LIST_addr c
    let at_ := if F.SNAP_GO_at.of v = 1 then some (tbJoin (s.get F.SNAP_ATH_v c) (s.get F.SNAP_ATL_v c)) else none
    let readable := snapBank s c l && inOneBank l (2 * (s.get F.SNAP_LIST_cnt c + 1))
    let (items, s) := if readable then snapRead s c (sramIx l) (s.get F.SNAP_LIST_cnt c + 1) else ([], s)
    let why := snapWhy s c items at_
    if why ≠ 0 then memCause ((s.flag F.SNAP_STAT_refused c).put F.SNAP_STAT_why c why) 8
    else
      let due : Nat ⊕ Nat := match at_ with
        | some v => .inr v
        | none => .inl (edgeAfter s.now)
      (s.put F.SNAP_STAT_busy c 1).setSnap c { items := items, dst := s.get F.SNAP_DST_addr c, due := some due, lines := [] }

/-- R296: a write of SNAP_GO with at = 0. -/
def execSnapshotNow (t : Nat) (q : Req) (c : Fin 16) (v : Word) (s : State) : Host.Outcome State Fault Refusal :=
  event t s (fun _ => F.SNAP_GO_go.of v.toNat == 1 && F.SNAP_GO_at.of v.toNat == 0) (fun s => snapGoWrite s q c v.toNat)

/-- R296: a write of SNAP_GO with at = 1. -/
def execSnapshotAt (t : Nat) (q : Req) (c : Fin 16) (v : Word) (s : State) : Host.Outcome State Fault Refusal :=
  event t s (fun _ => F.SNAP_GO_go.of v.toNat == 1 && F.SNAP_GO_at.of v.toNat == 1) (fun s => snapGoWrite s q c v.toNat)

/-- Four words as a line. -/
def line4 (a b c d : Nat) : Line :=
  BitVec.ofNat 18 a ++ BitVec.ofNat 18 b ++ BitVec.ofNat 18 c ++ BitVec.ofNat 18 d

/-- R297: the executing run of berth `b`. -/
def runOf (s : State) (b : Nat) : Option Run :=
  (s.craneOf (s.get F.BERTH_CTL_crane b)).run.bind (fun r => if r.berth = b then some r else none)

/-- R102, R297: the round of group `g` whose members became ready at instant `r` is in progress: its closer has yet to resolve it. -/
def roundOpen (s : State) (g r : Nat) : Bool :=
  groupLive s g && (match groupCloser s g with
    | some c => (s.berthOf c).pend.any (fun p => p.ready == r) || (runOf s c).any (fun x => x.ready == r && !x.offered)
    | none => false)

/-- R297, R298: the record of a berth, as it stood when an executing run started, with a member's integrator word as it stood before the round in
progress. -/
def snapBerth (s : State) (b : Nat) : List Line :=
  let r := runOf s b
  let region := match r with | some r => r.reg0 | none => s.get F.BERTH_STAT_region b
  let pre := (s.berthOf b).pre.filter (fun p => s.is F.BERTH_GRP_mem b && roundOpen s (s.get F.BERTH_GRP_grp b) p.ready)
  let w (i : Nat) : Nat := ux 18 (match pre.filter (fun p => p.word == i), r with
    | some p, _ => p.v
    | none, some r => r.at0.getD i 0
    | none, none => s.bramOf (16 * b + i))
  line4 (b2n r.isSome * 2 ^ 17 + region * 2 ^ 15 + b) 0 0 0 ::
    [0, 4, 8, 12].map (fun i => line4 (w i) (w (i + 1)) (w (i + 2)) (w (i + 3)))

/-- R297, R298: the record of a counter unit. -/
def snapCu (s : State) (u : Nat) : List Line :=
  let tau := cuTau s u s.now
  [line4 (b2n (s.is F.CU_STAT_running u) * 2 ^ 17 + b2n (s.is F.CU_STAT_tripped u) * 2 ^ 16 + u) (tau / 2 ^ 18) tau 0]

/-- R34, R35, R50: what the modulator and the residue converter of a channel give at the instant of a snapshot: the sum of the decisions since
the window opened, and the residue. -/
abbrev IchRead := Int × BitVec 7

/-- R50: the readings can be those of the integrator channels among the items, in order. -/
def ichReadsOk (s : State) : List (BitVec 18) → List IchRead → Bool
  | [], _ => true
  | w :: ws, l =>
    if itemKind w = 2 then
      (match (s.ichOf (itemNo w)).win with
        | some o => decisionsOk o.openAt s.now (l.headD (0, 0)).1
        | none => true) && ichReadsOk s ws l.tail
    else ichReadsOk s ws l

/-- R50, R297, R298: the record of an integrator channel: RAW and T as if the open window closed now; without an open window both are open. -/
def snapIch (s : State) (n : Nat) (x : IchRead) : List Line × State :=
  let (r, d, s) := match (s.ichOf n).win with
    | some w => (ux 36 (128 * x.1 + x.2.toInt - w.res), s.now - w.openAt, s)
    | none =>
      let (x, s) := s.draw (2 ^ 36)
      let (y, s) := s.draw (2 ^ 36)
      (x, y, s)
  ([line4 (b2n (s.ichOf n).win.isSome * 2 ^ 17 + b2n (s.is F.ICH_STAT_ovldnow n) * 2 ^ 16 + n) 0 0 0,
    line4 (r / 2 ^ 18) r (d / 2 ^ 18) d], s)

/-- R298: the records of a list; `reads` are the readings of the integrator channels among its items, in order. -/
def snapRecords (s : State) : List (BitVec 18) → List IchRead → List Line × State
  | [], _ => ([], s)
  | w :: ws, reads =>
    let (l, reads, s) := match itemKind w with
      | 0 => (snapBerth s (itemNo w), reads, s)
      | 1 => let s := cuSync s (itemNo w); (snapCu s (itemNo w), reads, s)
      | _ => let (l, s) := snapIch s (itemNo w) (reads.headD (0, 0)); (l, reads.tail, s)
    let (ls, s) := snapRecords s ws reads
    (l ++ ls, s)

/-- R298: the two header lines. -/
def snapHeader (s : State) (n : Nat) : List Line :=
  let (sec, sub) := tbSplit s.tbNow
  let e := s.get F.TIDE_EPOCH_n 0
  [line4 (sec / 2 ^ 18) sec (sub / 2 ^ 18) sub, line4 (e / 2 ^ 18) e n 0]

/-- R275: the snapshot unit may write SRAM word `k`: it owns the bank, or is its guest. -/
def snapAccess (s : State) (k : Nat) : Bool := s.get F.BANK_OWN_kind (bankOf k) == 3 || s.is F.BANK_OWN_gs (bankOf k)

/-- Lines are written word by word, by `put`, from SRAM word `k` on. -/
def linesBy (put : State → Nat → BitVec 18 → State) (s : State) (k : Nat) : List Line → State
  | [] => s
  | d :: l => linesBy put ([0, 1, 2, 3].foldl (fun s i => put s (k + i) (d.extractLsb' (54 - 18 * i) 18)) s) (k + 4) l

/-- R275, R284, R298: the snapshot unit writes lines from SRAM word `k` on, where the bank accepts them. -/
def guestLines (s : State) (k : Nat) (ls : List Line) : State :=
  linesBy (fun s j w => if inSlice j || !snapAccess s j then s else sramOver s 1 0 j w false) s k ls

/-- R282, R390, R391: the rootstock, on core 0, writes lines from SRAM word `k` on. -/
def putLines (s : State) (k : Nat) (ls : List Line) : State := linesBy (fun s j w => sramOver s 0 0 j w false) s k ls

/-- R297: the output of core `c`'s snapshot has been written to the area of its request. -/
def snapDone (s : State) (c : Nat) : State :=
  let s := guestLines s (sramIx (s.snapOf c).dst) (s.snapOf c).lines
  memCause (((s.setSnap c {}).put F.SNAP_STAT_busy c 0).flag F.SNAP_STAT_done c) 7

end Sys2Proof.Machine
end

