-- ==== Sys2Proof/Machine/Link.lean ====
section
/-! DEFINITION. Link ports: states, partners, retry, quarantine, forwarding, transaction slots and time transfer (15_velub_link.md). -/

namespace Sys2Proof.Machine

/-! ### Transaction slots (R361, R362, R365) -/

/-- R361: a transaction ends with status `st`; source 548 + c fires. -/
def txEnd (s : State) (k st : Nat) : State :=
  let s := s.setTxs k { s.txsOf k with job := none }
  let s := ((s.put F.LK_TXS_busy k 0).flag F.LK_TXS_done k).put F.LK_TXS_st k st
  s.fireIf (s.is F.LK_IEN_tx 0) (548 + k / 4)

/-- R357: the transactions whose request left through port `p` end with status 7. -/
def txPortDown (s : State) (p : Nat) : State :=
  (List.range 64).foldl (fun s k => match (s.txsOf k).job with
    | some j => if j.port = p then txEnd s k 7 else s
    | none => s) s

/-- R361: the local buffer of `n` nonets at `a` lies in one bank that core `c` owns with gl = 1. -/
def txBuffer (s : State) (c a n : Nat) : Bool := inOwnBank s c a n && s.is F.BANK_OWN_gl (bankAt a)

/-- R363: the link unit reads `n` words from SRAM word `k` on; none where a word is uncorrectable. -/
def linkRead (s : State) (k : Nat) : Nat → Option (List Word) × State
  | 0 => (some [], s)
  | n + 1 =>
    match sramRead s 2 0 k with
    | (some x, s) =>
      match linkRead s (k + 1) n with
      | (some l, s) => (some (x.w :: l), s)
      | (none, s) => (none, s)
    | (none, s) => (none, s)

/-- R366, R298: the output words of a snapshot of the items. -/
def snapWords (items : List Word) : Nat := 4 * snapLines items

/-- R362, R366: the fields of a request keep their limits. -/
def txLimits (kind off cnt : Nat) : Bool :=
  match kind with
  | 0 => decide (1 ≤ cnt) && decide (cnt ≤ 31) && off % 2 == 0
  | 1 => decide (1 ≤ cnt) && decide (cnt ≤ 28) && off % 2 == 0
  | _ => decide (1 ≤ cnt) && decide (cnt ≤ 27)

/-- R362, R366: the payload of a request: the words of the local buffer stand after its own fields. -/
def txPay (kind win off cnt : Nat) (at_ : Bool) (buf : List Word) : List Word :=
  let w (v : Nat) : Word := BitVec.ofNat 18 v
  match kind with
  | 0 => [w (win * 2 ^ 12)] ++ words2 off ++ [w cnt]
  | 1 => [w (win * 2 ^ 12)] ++ words2 off ++ [w cnt] ++ buf
  | _ => [w (b2n at_ * 2 ^ 17)] ++ buf.take 4 ++ (buf.drop 4).take cnt

/-- R361, R362: go starts the request of slot `k` of core `c`, or ends it at once with a status. -/
def txGo (s : State) (c k : Nat) : State :=
  let kind := s.get F.LK_TXD_kind k
  let node := s.get F.LK_TXD_node k
  let cnt := s.get F.LK_TXW_cnt k
  let off := s.get F.LK_TXO_a k
  let a := s.get F.LK_TXL_a k
  let n := if kind = 2 then 8 + 2 * cnt else 2 * cnt
  if kind = 3 then s
  else if !txBuffer s c a (max n 2) then txEnd s k 4
  else
    match lkRoute s node with
    | none => txEnd s k 7
    | some p =>
      if s.is F.LK_ROUTE_absent node then txEnd s k 7
      else if !txLimits kind off cnt || a % 2 != 0 then txEnd s k 3
      else
        match (if kind = 0 then (some [], s) else linkRead s (sramIx a) (n / 2)) with
        | (none, s) => txEnd s k 5
        | (some buf, s) =>
          let h := s.txsOf k
          let tag := (k % 4 + 4 * h.gen) % 256
          let want := if kind = 2 then snapWords ((buf.drop 4).take cnt) else cnt
          let due := s.now + 64000 * s.get F.LK_TMO_us 0
          let s := s.setTxs k { job := some ⟨kind, node, p, tag, due, a, off, want, 0⟩, gen := h.gen + 1 }
          let s := s.put F.LK_TXS_busy k 1
          let pay := txPay kind (s.get F.LK_TXW_win k) off cnt (s.is F.LK_TXD_at k) buf
          let ty := if kind = 0 then 9 else if kind = 1 then 8 else 10
          lkSend s p (mkFrame s ty node (s.get F.LK_NET_hops 0) c tag pay) none (some k)

/-- R361: a write of a register of slot `k` by requester `q`; a go to a busy slot is ignored. -/
def txWrite (s : State) (q : Req) (r : RegName) (k : Nat) (a : Alias) (v : Nat) : State :=
  let mine := match q with
    | .core n => n.val == k / 4
    | _ => false
  let go := r == .LK_TXD && F.LK_TXD_go.of (woBits r a v) == 1
  let new := s.written_ r k a v
  if !mine && !go && new == s.reg r k then s
  else if !mine || (go && s.is F.LK_TXS_busy k) then lkCfgErr s
  else
    let s := s.setReg r k new
    if go then txGo s (k / 4) k else s

/-! ### Losing a partner (R357, R358, R360) -/

/-- R357, R360: a node is marked absent: its locks break. -/
def nodeAbsent (s : State) (node : Nat) : State := lockBreakNode (s.flag F.LK_ROUTE_absent node) node

/-- R360: a NODEDOWN, made by `mk` for each port, on every port in UP but `p`. -/
def nodeFlood (s : State) (p : Nat) (mk : State → Nat → Frame) : State :=
  [0, 1, 2, 3].foldl (fun s n => if n ≠ p ∧ lkUp s n = true then lkSend s n (mk s n) none none else s) s

/-- R360: a NODEDOWN of this device for `node`. -/
def nodeDown (node : Nat) (s : State) (n : Nat) : Frame :=
  mkFrame s 6 (s.get F.LK_PNODE_node n) (s.get F.LK_NET_hops 0) 0 0 [BitVec.ofNat 18 node]

/-- R357: an entry of a queue came in by port `p`. -/
def TxEnt.cameBy (e : TxEnt) (p : Nat) : Bool := e.from_.any (fun x => x.1 == p)

/-- R357: what waits at port `p` is discarded: its queue, its retry buffer and the requests in its input buffers, and what came in by it and
waits at another port; a remote snapshot asked for through it is completed, and not answered. -/
def lkDrop (s : State) (p : Nat) : State :=
  let h := s.linkOf p
  let s := [0, 1, 2, 3].foldl (fun s q =>
    s.setLink q { s.linkOf q with txq := (s.linkOf q).txq.filter (fun e => !e.cameBy p) }) s
  let s := s.setLink p { s.linkOf p with txq := [], retry := [], wait := [], adm := [] }
  let s := h.txq.foldl (fun s e => match e.from_ with | some (q, k) => lkFree s q k | none => s) s
  { s with lku := { s.lku with mute := s.lku.mute || s.lku.snap.any (fun x => x.1 == p) } }

/-- R357, R358: the effects of losing the partner of port `p`, which was in UP where `up` says so, as the port enters `st`. -/
def lkLost (s : State) (p st : Nat) (up : Bool) : State :=
  let s := lkDrop (lkEnter s p st) p
  let s := (s.flag F.LK_PSTAT_absent p).raise 19 p 0
  let s := cuSettle (tzSource s (160 + p))
  let node := s.get F.LK_PNODE_node p
  let s := if up then nodeFlood (nodeAbsent s node) p (nodeDown node) else s
  gtPortDown (txPortDown s p) p

/-- R369: source 544 + p. -/
def portCause (s : State) (p : Nat) : State := s.fireIf (s.is ⟨.LK_IEN, 17 - p, 1⟩ 0) (544 + p)

/-- R368: the port begins to drive LK_WAKEn as it enters ALIGN. -/
def lkAlign (s : State) (p : Nat) : State :=
  wakeChange s ((s.put F.LK_PSTAT_state p 1).setLkDrive p (some (s.now + 128000))) p

/-- R357: the partner of port `p` is declared absent. -/
def lkAbsent (s : State) (p : Nat) : State := portCause (lkAlign (lkLost s p 1 true) p) p

/-- R358: a failure that counts toward quarantine. -/
def lkFailure (s : State) (p : Nat) : State :=
  let h := s.linkOf p
  let fails := (h.fails.filter (fun x => decide (s.now < x + 64000000))) ++ [s.now]
  let s := s.setLink p { h with fails := fails }
  let n := s.get F.LK_QUAR_n p
  let st := s.get F.LK_PSTAT_state p
  if n ≠ 0 ∧ n ≤ fails.length ∧ (st = 3 ∨ st = 2) then
    let s := (lkLost s p 4 (st == 3)).flag F.LK_PSTAT_quar p
    portCause (s.raise 19 p 1) p
  else s

/-! ### Receiving (R354, R355, R358, R359) -/

/-- R355: the first discard for the expected frame is answered with nak. -/
def lkNak (s : State) (p : Nat) : State :=
  let h := s.linkOf p
  if lkUp s p && !h.nakd then lkLstat (s.setLink p { h with nakd := true }) p true else s

/-- R351: the frame is of a sequenced type. -/
def frameSeq (f : Frame) : Bool := decide (6 ≤ f.ty.toNat)

/-- R354, R355: the count of a received sequenced frame: the one nearest to the expected count. -/
def lkIndex (h : LinkS) (seq : Nat) : Nat :=
  let d := (seq + 256 - h.rx % 256) % 256
  if d < 128 ∨ h.rx < 256 - d then h.rx + d else h.rx - (256 - d)

/-- R354: the tag that port `p` expects of a frame. -/
def lkTag (s : State) (p : Nat) (f : Frame) : BitVec 64 :=
  let h := s.linkOf p
  if f.ty = 1 then frameMac (lkHelloKey s p) 0 f
  else frameMac h.rxKey (if frameSeq f then lkIndex h f.seq.toNat % 2 ^ 40 else 0) f

/-- R354: the tag of a frame passes; before UP no session key exists. -/
def lkAuth (s : State) (p : Nat) (f : Frame) : Bool :=
  (f.ty == 1 || lkUp s p) && f.mac == lkTag s p f

/-- R350, R354: port `p` takes frames in, and this one is good. -/
def lkGood (s : State) (p : Nat) (f : Frame) : Bool :=
  let st := s.get F.LK_PSTAT_state p
  (st == 2 || st == 3) && frameLegal f && lkAuth s p f

/-- R359: a frame that came in by port `p` fails the hop-limit or the reverse-path check, which R358 sums. -/
def lkStrays (s : State) (p : Nat) (f : Frame) : Bool :=
  f.hops == 0 || (s.is F.LK_ROUTE_rpf f.src.toNat && s.get F.LK_ROUTE_port f.src.toNat != p)

/-- R359: where a frame in transit goes; none where a check fails. The flag marks the failures that R358 sums. -/
def lkForward (s : State) (p : Nat) (f : Frame) : Option Nat × Bool :=
  if lkStrays s p f then (none, true) else (lkRoute s f.dst.toNat, false)

/-- R347, R354, R355, R359: a bad frame is discarded, counted and answered. -/
def lkBad (s : State) (p : Nat) (crc : Bool) (f : Option Frame) : State :=
  let st := s.get F.LK_PSTAT_state p
  if st ≠ 2 ∧ st ≠ 3 then s
  else
    let out := match f with
      | some f => if frameSeq f && frameLegal f && f.ty != 6 && f.dst != BitVec.ofNat 12 (lkOwn s) then (lkForward s p f).1 else none
      | none => none
    let s := match out, f with
      | some q, some f => if lkStarts s q f.cls.toNat then s.emit (.abort q) else s
      | _, _ => s
    match crc, f with
    | false, some f =>
      if !frameLegal f then lkNak (s.incSat F.LK_ECRC_n p) p
      else if !lkAuth s p f then
        let s := lkNak (s.incSat F.LK_EAUTH_n p) p
        lkFailure s p
      else s
    | _, _ => lkNak (s.incSat F.LK_ECRC_n p) p

/-- R355: a good sequenced frame: whether it is accepted. -/
def lkAccept (s : State) (p : Nat) (f : Frame) : Bool × State :=
  let h := s.linkOf p
  let i := lkIndex h f.seq.toNat
  if i = h.rx then (true, s.setLink p { h with rx := h.rx + 1, nakd := false, chg := true })
  else if i < h.rx then (false, s.setLink p { h with chg := true })
  else (false, lkNak s p)

/-- R351: a good unsequenced frame whose counter is `n`: whether it is accepted. -/
def lkFresh (s : State) (p n : Nat) : Bool × State :=
  let h := s.linkOf p
  if h.urx < n then (true, s.setLink p { h with urx := n }) else (false, s)

/-- A received sequenced frame for which `ok` holds: it is taken in order and acts by `k`, or it is discarded. R391: in boot mode a frame that is no
WRITE is taken in order and discarded. -/
def lkSequenced (t : Nat) (p : Nat) (f : Frame) (ok : State → Bool) (k : State → State) (s : State) :
    Host.Outcome State Fault Refusal :=
  event t s (fun s => lkUp s p && lkGood s p f && ok s)
    (fun s =>
      let (yes, s) := lkAccept s p f
      if !yes then s
      else if inNetBoot s && f.ty != 8 then lkFree s p f.cls.toNat
      else k s)

/-- R359: the frame is for this device. -/
def lkMine (s : State) (f : Frame) : Bool := f.dst == BitVec.ofNat 12 (lkOwn s)

/-! ### Port states (R352, R368) -/

/-- R352: a write of LK_CTL of port `p` that may store its slot. -/
def lkCtlStore (s : State) (p v : Nat) : State :=
  let s0 := s
  let was := s.is F.LK_CTL_en p
  let en := F.LK_CTL_en.of v
  let s := s.put F.LK_CTL_slot p (F.LK_CTL_slot.of v)
  let s := wakeChange s0 ((s.put F.LK_CTL_en p en).put F.LK_CTL_wk p (F.LK_CTL_wk.of v)) p
  let st := s.get F.LK_PSTAT_state p
  if en = 0 then
    let s := s.put F.LK_PSTAT_krev p 0
    if st = 4 ∨ st = 0 then s else gtPortDown (txPortDown (lkDrop (lkEnter s p 0) p) p) p
  else if st = 0 ∨ (st = 4 ∧ was = false) then
    if !s.is F.LK_GSTAT_nodeset 0 then lkCfgErr s0
    else if otpRevoked s (s.get F.LK_CTL_slot p) then s.put F.LK_PSTAT_krev p 1
    else
      let s := (s.put F.LK_PSTAT_krev p 0).setLink p {}
      lkAlign s p
  else s

/-- R15, R352: a write of LK_CTL of port `p`; one that would change the slot while en is 1 is ignored as a whole. -/
def lkCtlWrite (s : State) (p v : Nat) : State :=
  if s.is F.LK_CTL_en p && F.LK_CTL_slot.of v != s.get F.LK_CTL_slot p then lkCfgErr s else lkCtlStore s p v

/-- R15, R352, R369: a write of LK_NET; one with hops outside 1 to 32 is ignored as a whole. -/
def lkNetWrite (s : State) (v : Nat) : State :=
  let new := s.written_ .LK_NET 0 .base v
  let hops := F.LK_NET_hops.of v
  if 1 ≤ hops ∧ hops ≤ 32 then
    (((s.put F.LK_NET_hops 0 hops).put F.LK_NET_node 0 (F.LK_NET_node.of new.toNat)).lockReg .LK_NET 0).put F.LK_GSTAT_nodeset 0 1
  else lkCfgErr s

/-- R352, R400: port `p` has a nonce, and starts to send HELLOs; without one it waits. -/
def lkNonce (s : State) (p : Nat) : State :=
  if s.is F.KU_STAT_hfail 0 then s.setLink p { s.linkOf p with waits := true }
  else
    let h : LinkS := { s.linkOf p with waits := false, nonce := Config.nonce s.free, peer := 0, helloDue := s.now }
    { s.setLink p h with free := s.free + 1 }

/-- R352: commas are found on both lanes and the deskew is done. -/
def execAlignDone (t : Nat) (p : Fin 4) (s : State) : Host.Outcome State Fault Refusal :=
  event t s (fun s => s.get F.LK_PSTAT_state p == 1)
    (fun s => lkNonce (s.setLink p { s.linkOf p with nonce := 0, peer := 0 } |>.put F.LK_PSTAT_state p 2) p)

/-- R352: a write of LK_CTL with en = 1. -/
def execPortEnable (t : Nat) (p : Fin 4) (v : Word) (s : State) : Host.Outcome State Fault Refusal :=
  event t s (fun _ => F.LK_CTL_en.of v.toNat == 1) (fun s => lkCtlWrite s p v.toNat)

/-- R352: a write of LK_CTL with en = 0. -/
def execPortDisable (t : Nat) (p : Fin 4) (v : Word) (s : State) : Host.Outcome State Fault Refusal :=
  event t s (fun _ => F.LK_CTL_en.of v.toNat == 0) (fun s => lkCtlWrite s p v.toNat)

/-- R352: in HELLO the port sends a HELLO every 10 us. -/
def execHelloTimer (t : Nat) (p : Fin 4) (s : State) : Host.Outcome State Fault Refusal :=
  event t s (fun s => s.get F.LK_PSTAT_state p == 2 && !(s.linkOf p).waits && decide ((s.linkOf p).helloDue ≤ s.now))
    (fun s => lkHello s p)

/-- The nonce in lines of a HELLO from word `i` on. -/
def helloNonce (f : Frame) (i : Nat) : BitVec 64 :=
  BitVec.ofNat 64 (framePair f i * 2 ^ 36 + framePair f (i + 2))

/-- R352 to R355: port `p` reaches UP with partner `node`, whose nonce is `peer` and whose highest level is `lvl`. -/
def lkReachUp (s : State) (p node lvl : Nat) (peer : BitVec 64) : State :=
  let h := s.linkOf p
  let own := lkOwn s
  let (k0, k1) := if own < node then lkSession s p own node h.nonce peer else lkSession s p node own peer h.nonce
  let h : LinkS := {
    nonce := h.nonce, peer := peer, fails := h.fails
    txKey := if own < node then k0 else k1
    rxKey := if own < node then k1 else k0
    ackAt := s.now, beatAt := s.now, beatDue := s.now, lstatDue := s.now }
  let s := (s.setLink p h).put F.LK_PSTAT_state p 3
  let s := (s.put F.LK_PSTAT_bl p (min 3 lvl)).put F.LK_ROUTE_absent node 0
  let s := (s.put F.LK_PNODE_valid p 1).put F.LK_PNODE_node p node
  lkLstat (lkHello s p) p false

/-- R352: a HELLO received. -/
def execHello (t : Nat) (p : Fin 4) (f : Frame) (s : State) : Host.Outcome State Fault Refusal :=
  event t s (fun s => f.ty == 1 && lkGood s p f)
    (fun s =>
      if lkUp s p then s.incSat F.LK_EDROP_n p
      else
        let h := s.linkOf p
        let peer := helloNonce f 4
        if h.waits then s
        else if helloNonce f 8 = h.nonce then lkReachUp s p (frameW f 0 % 4096) (frameW f 1 % 64) peer
        else s.setLink p { h with peer := peer })

/-! ### Link control (R355 to R357) -/

/-- R355: the send budget of the mode in force. -/
def lkBudget (s : State) : Nat := if s.get F.MODE_STAT_cur 0 = 1 then s.get F.LK_RETRY_rbs 0 else s.get F.LK_RETRY_rbn 0

/-- R355: port `p` sends its unacknowledged frames again; a frame past the budget exhausts it. -/
def lkResend (s : State) (p : Nat) : State :=
  let h := s.linkOf p
  if h.retry.any (fun e => decide (lkBudget s + 1 ≤ e.n)) then lkAbsent (s.flag F.LK_PSTAT_rex p) p
  else
    let s := s.setLink p { h with retry := h.retry.map (fun e => { e with n := e.n + 1 }), ackAt := s.now }
    h.retry.foldl (fun s e => (s.incSat F.LK_ERTRY_n p).emit (.frame p e.f)) s

/-- R355, R356: what an LSTAT does; frames of class 2 that it gives credit go before the retransmissions that its nak asks for. -/
def lkLstatIn (s : State) (p : Nat) (f : Frame) : State :=
  let h := s.linkOf p
  let n := h.retry.length
  let oldest := h.tx - n
  let k := (frameW f 0 % 256 + 257 - oldest % 256) % 256
  let k := if k ≤ n then k else 0
  let acked := h.retry.take k
  let s := s.setLink p { h with
    retry := h.retry.drop k
    freed := [frameW f 1 % 256, frameW f 2 % 256, frameW f 3 % 256]
    ackAt := if 0 < k then s.now else h.ackAt }
  let s := acked.foldl (fun s e => match e.slot with
    | some j => (match (s.txsOf j).job with
      | some b => if b.kind = 1 ∧ BitVec.ofNat 8 b.tag = e.f.tag then txEnd s j 0 else s
      | none => s)
    | none => s) s
  let s := if frameBit f 0 17 then lkResend (lkPumpBy lkPick2 p ((s.linkOf p).txq.length) s) p else s
  lkPump p ((s.linkOf p).txq.length) s

/-- R355: an LSTAT received. -/
def execLstat (t : Nat) (p : Fin 4) (f : Frame) (s : State) : Host.Outcome State Fault Refusal :=
  event t s (fun s => f.ty == 2 && lkUp s p && lkGood s p f)
    (fun s =>
      let (yes, s) := lkFresh s p (framePair f 4)
      if yes then lkLstatIn s p f else s)

/-- R355: an LSTAT goes out on a change, and at least every 1 us. -/
def execLstatTimer (t : Nat) (p : Fin 4) (s : State) : Host.Outcome State Fault Refusal :=
  event t s (fun s => lkUp s p && ((s.linkOf p).chg || decide ((s.linkOf p).lstatDue ≤ s.now))) (fun s => lkLstat s p false)

/-- R357: a BEAT received. -/
def execBeat (t : Nat) (p : Fin 4) (f : Frame) (s : State) : Host.Outcome State Fault Refusal :=
  event t s (fun s => f.ty == 3 && lkUp s p && lkGood s p f)
    (fun s =>
      let (yes, s) := lkFresh s p (framePair f 0)
      if !yes then s
      else if frameBit f 2 17 then lkAbsent s p
      else s.setLink p { s.linkOf p with beatAt := s.now })

/-- R357: the port sends a BEAT every 10 us. -/
def execBeatTimer (t : Nat) (p : Fin 4) (s : State) : Host.Outcome State Fault Refusal :=
  event t s (fun s => lkUp s p && decide ((s.linkOf p).beatDue ≤ s.now)) (fun s => lkBeat s p false)

/-- R357: no valid BEAT for 31 us. -/
def execPartnerAbsent (t : Nat) (p : Fin 4) (s : State) : Host.Outcome State Fault Refusal :=
  event t s (fun s => lkUp s p && decide ((s.linkOf p).beatAt + 1984000 ≤ s.now)) (fun s => lkAbsent s p)

/-- R355: no acknowledgement for the retry timeout. -/
def execRetryTimeout (t : Nat) (p : Fin 4) (s : State) : Host.Outcome State Fault Refusal :=
  event t s
    (fun s => lkUp s p && !(s.linkOf p).retry.isEmpty &&
      decide ((s.linkOf p).ackAt + 16000 * s.get F.LK_RETRY_rtmo 0 ≤ s.now))
    (fun s => lkResend s p)

/-- R355: a bad frame received. -/
def execBadFrame (t : Nat) (p : Fin 4) (crc : Bool) (f : Option Frame) (s : State) : Host.Outcome State Fault Refusal :=
  ok (lkBad (s.tick t) p crc f)

/-- R347: an error between frames. -/
def execCodeGroupError (t : Nat) (p : Fin 4) (s : State) : Host.Outcome State Fault Refusal :=
  event t s (fun s => s.get F.LK_PSTAT_state p == 2 || s.get F.LK_PSTAT_state p == 3) (fun s => s.incSat F.LK_ECODE_n p)

/-- R333, R368: the partner drives or releases LK_WAKEn. -/
def execLkWakePinChange (t : Nat) (p : Fin 4) (lvl : Bool) (s : State) : Host.Outcome State Fault Refusal :=
  let s := s.tick t
  let s' := wakeChange s (s.setLkWake p lvl) p
  ok (if !lvl && decide (5 ≤ s.rung) && (s.get F.PWR_WPIN_en 0).testBit p then wakeDeep s' 5 else s')

/-- R368: the port stops driving LK_WAKEn. -/
def execLkWakeDriveEnd (t : Nat) (p : Fin 4) (s : State) : Host.Outcome State Fault Refusal :=
  event t s (fun s => match s.lkDriveOf p with | some x => decide (x ≤ s.now) | none => false)
    (fun s => wakeChange s (s.setLkDrive p none) p)

/-! ### Network (R359, R360) -/

/-- R359: a frame is dropped and counted; the failures that R358 sums count toward quarantine. -/
def lkDropIn (s : State) (p : Nat) (f : Frame) (hostile : Bool) : State :=
  let s := lkFree (s.incSat F.LK_EDROP_n p) p f.cls.toNat
  if hostile then lkFailure s p else s

/-- R360: a NODEDOWN received. -/
def execNodedown (t : Nat) (p : Fin 4) (f : Frame) (s : State) : Host.Outcome State Fault Refusal :=
  lkSequenced t p f (fun _ => f.ty == 6)
    (fun s =>
      let node := frameW f 0 % 4096
      if s.is F.LK_ROUTE_absent node then lkFree s p 2
      else
        let s := nodeAbsent s node
        if lkStrays s p f then lkDropIn s p f true
        else lkFree (nodeFlood s p (fun _ _ => { f with hops := f.hops - 1 })) p 2) s

/-- R359: a request of this device that comes back to it without a usable route ends its transaction with status 7. -/
def txUnroutable (s : State) (f : Frame) : State :=
  let k := f.core.toNat * 4 + f.tag.toNat % 4
  match (s.txsOf k).job with
  | some j => if f.src = BitVec.ofNat 12 (lkOwn s) ∧ 8 ≤ f.ty.toNat ∧ f.ty.toNat ≤ 10 ∧ BitVec.ofNat 8 j.tag = f.tag then txEnd s k 7 else s
  | none => s

/-- R359: a frame for another node is received. -/
def execFrameForward (t : Nat) (p : Fin 4) (f : Frame) (s : State) : Host.Outcome State Fault Refusal :=
  lkSequenced t p f (fun s => frameSeq f && f.ty != 6 && !lkMine s f)
    (fun s => match lkForward s p f with
      | (some q, _) => lkSend s q { f with hops := f.hops - 1 } (some (p.val, f.cls.toNat)) none
      | (none, true) => lkDropIn s p f true
      | (none, false) => txUnroutable (lkDropIn s p f false) f) s

/-! ### Transactions of this device (R361, R362, R365) -/

/-- R361: a write of LK_TXD with go = 1 and kind READ. -/
def execTxRead (t : Nat) (q : Req) (c : Fin 16) (k : Fin 4) (v : Word) (s : State) : Host.Outcome State Fault Refusal :=
  event t s (fun _ => F.LK_TXD_go.of v.toNat == 1 && F.LK_TXD_kind.of v.toNat == 0)
    (fun s => txWrite s q .LK_TXD (c * 4 + k) .base v.toNat)

/-- R361: a write of LK_TXD with go = 1 and kind WRITE. -/
def execTxWrite (t : Nat) (q : Req) (c : Fin 16) (k : Fin 4) (v : Word) (s : State) : Host.Outcome State Fault Refusal :=
  event t s (fun _ => F.LK_TXD_go.of v.toNat == 1 && F.LK_TXD_kind.of v.toNat == 1)
    (fun s => txWrite s q .LK_TXD (c * 4 + k) .base v.toNat)

/-- R366: a write of LK_TXD with go = 1 and kind SNAP. -/
def execTxSnap (t : Nat) (q : Req) (c : Fin 16) (k : Fin 4) (v : Word) (s : State) : Host.Outcome State Fault Refusal :=
  event t s (fun _ => F.LK_TXD_go.of v.toNat == 1 && F.LK_TXD_kind.of v.toNat == 2)
    (fun s => txWrite s q .LK_TXD (c * 4 + k) .base v.toNat)

/-- R362: words of a response are written to the originator's memory from nonet address `a` on. -/
def txStore (s : State) (a : Nat) : List Word → State
  | [] => s
  | w :: ws =>
    let s := if regionOf a == .sram && !inSlice (sramIx a) then sramOver s 2 0 (sramIx a) w false else s
    txStore s (a + 2) ws

/-- R275, R361: the link may write `n` nonets at `a` for a transaction in progress: they lie in one bank that is open to the link. -/
def linkWindow (s : State) (a n : Nat) : Bool :=
  inOneBank a n && (s.is F.BANK_OWN_gl (bankAt a) || s.get F.BANK_OWN_kind (bankAt a) == 2)

/-- R362, R366: a response for slot `k`. -/
def txResponse (s : State) (k : Nat) (j : TxJob) (f : Frame) : State :=
  let st := frameW f 0 / 2 ^ 14
  if st ≠ 0 then txEnd s k st
  else
    let ws := f.pay.drop 1
    let base := if j.kind = 2 then j.out + 62 * (frameW f 0 % 256) else j.buf
    if ws.isEmpty || linkWindow s base (2 * ws.length) then
      let s := txStore s base ws
      let got := j.got + ws.length
      if j.want ≤ got then txEnd s k 0 else s.setTxs k { s.txsOf k with job := some { j with got := got } }
    else txEnd s k 4

/-- R362: an RDATA for this device received. -/
def execRdata (t : Nat) (p : Fin 4) (f : Frame) (s : State) : Host.Outcome State Fault Refusal :=
  lkSequenced t p f (fun s => f.ty == 11 && lkMine s f)
    (fun s =>
      let s := lkFree s p 1
      let k := f.core.toNat * 4 + f.tag.toNat % 4
      match (s.txsOf k).job with
      | some j =>
        if BitVec.ofNat 8 j.tag = f.tag ∧ BitVec.ofNat 12 j.node = f.src ∧ j.kind ≠ 1 then txResponse s k j f
        else lkCause (s.flag F.LK_GSTAT_late 0) F.LK_IEN_late
      | none => lkCause (s.flag F.LK_GSTAT_late 0) F.LK_IEN_late) s

/-- R365: a READ or SNAP without a response. -/
def execTxTimeout (t : Nat) (c : Fin 16) (k : Fin 4) (s : State) : Host.Outcome State Fault Refusal :=
  event t s
    (fun s => match (s.txsOf (c * 4 + k)).job with
      | some j => j.kind != 1 && decide (j.due ≤ s.now)
      | none => false)
    (fun s => txEnd s (c * 4 + k) 8)

/-! ### The window table (R363) -/

/-- R363: a capability covers only SRAM, or only peripheral space outside the event-fabric block. -/
def winCovers (k : Cap) : Bool :=
  let a := k.base.toNat
  let e := a + k.len.toNat
  let periph := decide (0o100000000 ≤ a) && decide (e ≤ 0o160000000)
  let fabric (lo : Nat) : Bool := decide (a < lo + 0o1000000) && decide (lo < e)
  (decide (0o040000000 ≤ a) && decide (e ≤ 0o060000000)) ||
    (periph && !fabric 0o104000000 && !fabric 0o124000000 && !fabric 0o144000000)

/-- R363: entry `w` of the table is loaded. -/
def winLoad (s : State) (w : Nat) : State :=
  let a := s.get F.LK_WTAB_base 0 + 16 * w
  let k := bankAt a
  let bad (s : State) : State :=
    let s := (s.setWin w {}).put F.LK_GSTAT_ldwin 0 w
    lkCause (s.flag F.LK_GSTAT_ldfail 0) F.LK_IEN_ld
  if inOneBank a 16 && (s.is F.BANK_OWN_gl k || s.get F.BANK_OWN_kind k == 2) && !s.is F.BANK_STAT_hpend k then
    match readLine s 2 0 a with
    | (none, s) => bad s
    | (some (d, tag), s) =>
      match readLine s 2 0 (a + 8) with
      | (none, s) => bad s
      | (some (e, _), s) =>
        let cap := Cap.ofLine d tag
        if cap.tag && cap.otype == 0 && winCovers cap then
          s.setWin w ⟨true, cap, (lineW e 0).getLsbD 17, (lineW e 0).extractLsb' 0 12⟩
        else bad s
  else bad s

/-- R363: LK_GSTAT.ldbusy: the window table loads. -/
def lkLoading (s : State) : Bool := decide (s.now < s.lku.ldEnd)

/-- R267, R363: a write of LK_WLOAD. The load lasts as R267 says: at most 20 timer cycles for one entry and 600 for all, a free value. DEDUCED (log
61): the entries change as it begins. -/
def lkWloadWrite (s : State) (v : Nat) : State :=
  if lkLoading s then s
  else
    let all := F.LK_WLOAD_all.of v == 1
    let (d, s) := s.draw (if all then 600 else 20)
    let s := { s with lku := { s.lku with ldEnd := s.now + 64 * (d + 1) } }
    if all then (List.range 64).foldl winLoad s else winLoad s (F.LK_WLOAD_win.of v)

/-- R363: a write of LK_WLOAD. -/
def execWindowLoad (t : Nat) (v : Word) (s : State) : Host.Outcome State Fault Refusal :=
  ok (lkWloadWrite (s.tick t) v.toNat)

/-! ### Time transfer (R367) -/

/-- R321, R367: the whole-second event; the time source sends a TREQ, whose first column goes out `d` fine ticks later. -/
def execWholeSecond (t : Nat) (n : Nat) (d : Nat) (s : State) : Host.Outcome State Fault Refusal :=
  event t s (fun s => secondTurns s n)
    (fun s =>
      let s := s.raise 17 0 1
      if s.is F.LK_TCTL_en 0 then
        let p := s.get F.LK_TCTL_port 0
        let s := { s with lku := { s.lku with exch := some (s.tbAt (s.now + d), s.now) } }
        if lkUp s p then
          let (c, s) := lkCount s p
          lkControl s p (mkFrame s 4 (s.get F.LK_PNODE_node p) 1 0 0 (words2 c))
        else s
      else s)

/-- R367: a TREQ received is stamped, and answered by a TRSP that leaves `d` fine ticks later, within 2 us. -/
def execTreq (t : Nat) (p : Fin 4) (f : Frame) (d : Nat) (s : State) : Host.Outcome State Fault Refusal :=
  event t s (fun s => f.ty == 4 && lkUp s p && lkGood s p f && decide (d ≤ 128000))
    (fun s =>
      let (yes, s) := lkFresh s p (framePair f 0)
      if !yes then s
      else
        let line (v : Nat) : List Word := let (a, b) := tbSplit v; words2 a ++ words2 b
        let valid : Word := BitVec.ofNat 18 (s.get F.TB_STAT_valid 0 * 2 ^ 17)
        let (_, s) := lkCount s p
        let pay := line s.tbNow ++ line (s.tbAt (s.now + d)) ++ [valid] ++ words2 (s.get F.TB_UNCERT_ns 0)
        lkControl s p (mkFrame s 5 (s.get F.LK_PNODE_node p) 1 0 0 pay))

/-- The timebase value in words `i` to `i + 3`. -/
def frameTime (f : Frame) (i : Nat) : Nat := tbJoin (framePair f i) (framePair f (i + 2))

/-- R322: the difference of two timebase values, the shorter way round. -/
def tbDiff (a b : Nat) : Int :=
  let d : Nat := (a + tbWrap - b % tbWrap) % tbWrap
  if d < tbWrap / 2 then d else (d : Int) - tbWrap

/-- R367: half of a sum; the manual does not say which way an odd one goes. -/
def halve (v : Int) (s : State) : Int × State :=
  if v % 2 = 0 then (v / 2, s) else let (b, s) := s.draw 2; (v / 2 + b, s)

/-- R367: a TRSP received. -/
def execTrsp (t : Nat) (p : Fin 4) (f : Frame) (s : State) : Host.Outcome State Fault Refusal :=
  event t s
    (fun s => f.ty == 5 && lkUp s p && lkGood s p f && s.is F.LK_TCTL_en 0 && s.get F.LK_TCTL_port 0 == p.val &&
      (match s.lku.exch with | some (_, x) => decide (s.now ≤ x + 64000000) | none => false))
    (fun s =>
      let t1 := match s.lku.exch with | some (x, _) => x | none => 0
      let t2 := frameTime f 0
      let t3 := frameTime f 4
      let t4 := s.tbNow
      let (theta, s) := halve (tbDiff t2 t1 + tbDiff t3 t4) s
      let (delay, s) := halve (tbDiff t4 t1 - tbDiff t3 t2) s
      let s := s.put F.LK_TDLY_d p (ux 36 delay)
      if frameBit f 8 17 then
        let s := { s with lku := { s.lku with exch := none } }
        if s.get F.TB_CTL_mode 0 = 0 then s
        else ppsEdge s (-theta) linkStep (min (framePair f 9 + 1) (2 ^ 36 - 1))
      else s)

/-- R367: no valid TRSP within 1 ms. -/
def execTimeExchangeMiss (t : Nat) (s : State) : Host.Outcome State Fault Refusal :=
  event t s (fun s => match s.lku.exch with | some (_, x) => decide (x + 64000000 ≤ s.now) | none => false)
    (fun s =>
      let s := { s with lku := { s.lku with exch := none } }
      lkCause (s.flag F.LK_GSTAT_tmiss 0) F.LK_IEN_time)

end Sys2Proof.Machine
end

