-- ==== Sys2Proof/Machine/Sleep.lean ====
section
/-! DEFINITION. The sleep ladder (14_time_clocks_sleep.md, R329 to R335). -/

namespace Sys2Proof.Machine

/-- R330, R331: core `c` is in WAIT, RESET, HALTED or LOCKED. -/
def coreIdle (s : State) (c : Nat) : Bool := s.get F.CORE_STAT_state c != 1

/-- R330: the cores of quay `q`. -/
def quayCores (q : Nat) : List Nat := [4 * q, 4 * q + 1, 4 * q + 2, 4 * q + 3]

/-- R330: quay `q` enters Doze. -/
def execQuayDoze (t : Nat) (q : Fin 4) (s : State) : Host.Outcome State Fault Refusal :=
  event t s
    (fun s => s.is ⟨.PWR_QCTL, 17 - q, 1⟩ 0 && !s.dozeOf q && (quayCores q).all (coreIdle s) &&
      (quayCores q).all (fun c => (s.coreOf c).pres.isNone))
    (fun s => s.setDoze q true)

/-- R221, R269: the waits of the cores that a vector is presented to end. -/
def waitsEnd (s : State) (cs : List Nat) : State :=
  cs.foldl (fun s c => if (s.coreOf c).pres.isSome then wfiDone s c else s) s

/-- R330, R333: quay `q` leaves Doze as a winner is presented. -/
def execQuayWake (t : Nat) (q : Fin 4) (s : State) : Host.Outcome State Fault Refusal :=
  event t s (fun s => s.dozeOf q && !(quayCores q).all (fun c => coreIdle s c && (s.coreOf c).pres.isNone))
    (fun s =>
      let s := (s.setDoze q false).put F.PWR_STAT_wake 0 0
      if s.rung = 0 then waitsEnd s (quayCores q) else s)

/-- R331: the rung that PWR_SLEEP requests: 0 Doze, 2 Rest, 3 Stop, 4 Hibernate, 5 Dormant, 6 Vigil. -/
def rungAsked (s : State) : Nat :=
  let r := s.get F.PWR_SLEEP_rung 0
  if r = 0 ∨ 6 ≤ r then 0 else r + 1

/-- R331, R333: a wake source that firmware enables is enabled for the rung. -/
def wakeEnabled (s : State) (rung : Nat) : Bool :=
  s.get F.PWR_ALARM_s 0 != 0 ||
    (if rung ≤ 4 then (List.range 512).any (fun ch => s.is F.EV_CTL_en ch && s.is F.EV_CTL_wake ch)
     else s.get F.PWR_WPIN_en 0 != 0)

/-- R331, R383: the first check that fails for a rung from Stop down, or 0. -/
def sleepWhy (s : State) (rung : Nat) : Nat :=
  if (List.range 128).any (fun u => s.is F.CU_CTL_run u) then 1
  else if (List.range 4).any (fun b => s.is F.FL_BSTAT_busy b) then 2
  else if (List.range 4).any (fun k => s.get F.TSLOT_STAT_state k == 2) || (List.range 16).any (fun c => s.is F.SNAP_STAT_busy c) ||
      s.lku.snap.isSome || (List.range 64).any (fun k => s.is F.BANK_STAT_hpend k) || s.is F.GT_STAT_open 0 then 3
  else if s.is F.PWR_PFSTAT_act 0 then 4
  else if !wakeEnabled s rung then 5
  else 0

/-- R332, R368: port `p` goes down for the sleep, and keeps en. -/
def lkSleep (s : State) (p : Nat) : State :=
  let s := if lkUp s p then lkBeat s p true else s
  let st := s.get F.LK_PSTAT_state p
  if st = 0 ∨ st = 4 then s else gtPortDown (txPortDown (lkDrop (lkEnter s p 0) p) p) p

/-- R44, R332: channel `n` is disarmed, and loses ready. -/
def ichSleep (s : State) (n : Nat) : State :=
  let s := if s.is F.ICH_CTL_arm n then
      (ichCtlWrite s n (fput (s.reg .ICH_CTL n) F.ICH_CTL_arm.lo 1 0).toNat).mark .ICH_CTL n F.ICH_CTL_arm.mask
    else s
  if s.is F.ICH_CTL_en n then ichPowerDown s n else s

/-- R77: a comparator that the rung leaves unpowered: its open blanking ends, and it asserts nothing. -/
def wcSleep (s : State) (n : Nat) : State :=
  let s0 := s
  let s := (s.put F.WC_STAT_blknow n 0).setWc n { s.wcOf n with blk := none }
  wcTrack s0 (if s.is F.WC_CTL_en n then wcPowerDown s n else s) n

/-- R334: the timer PLL stops: the timebase and the coarse count are recorded at one coarse tick edge. DESIGN CHOICE (log 93): the latest edge
before. -/
def tbStop (s : State) : State :=
  if s.tb.stopped then s
  else
    let (e, s) := coarseEdge s
    let v := s.tb.fine e
    spanFollow { s with tb := { s.tb with t0 := e, v0 := v.toNat, u0 := v, stopped := true, jump := false },
                        pwr := { s.pwr with rcRan := s.is F.CLK_STAT_rc 0 } }

/-- R77, R174, R265, R289, R332: what entry to rung `rung`, Stop or deeper, does. In Stop and Hibernate the blanking of the watch comparators
lifts as at its end (R72 to R74). -/
def stopEntry (s : State) (rung : Nat) : State :=
  let s := (List.range 128).foldl ichSleep s
  let s := (List.range 4).foldl (fun s c =>
    if s.is F.SC_CTL_en c then
      (scCtlWrite s c (fput (s.reg .SC_CTL c) F.SC_CTL_en.lo 1 0).toNat).mark .SC_CTL c F.SC_CTL_en.mask
    else s) s
  let s := s.armed.foldl berthDiscard s
  let s := (List.range (if 5 ≤ rung then 128 else 112)).foldl wcSleep s
  let s := (List.range 16).foldl (fun s i => if (s.wcOf (112 + i)).blk.isSome then wcBlankEnd s (112 + i) else s) s
  let s := [0, 1, 2, 3].foldl lkSleep s
  (List.range 16).foldl (fun s c => s.setCore c { s.coreOf c with wdAt := none }) s

/-- R329, R331, R332, R334, R337: the device enters a rung. -/
def enterRung (s : State) (rung : Nat) : State :=
  let s := springEnd s 5
  let s := s.put F.PWR_STAT_last 0 (rung - 1)
  let s := { s with rung := rung, wake := none, pwr := { s.pwr with sleepAt := s.now } }
  if rung = 2 then s.put F.CLK_STAT_lock 0 5
  else
    let s := stopEntry s rung
    if rung = 3 then s.put F.CLK_STAT_lock 0 4 else tbStop (s.put F.CLK_STAT_lock 0 0)

/-- R331: every core waits or is stopped: the device enters the rung that PWR_SLEEP requests, or Rest where a check fails. -/
def execSleepEntry (t : Nat) (s : State) : Host.Outcome State Fault Refusal :=
  event t s
    (fun s => (s.rung == 0 || s.rung == 2) && (List.range 16).all (fun c => coreIdle s c && (s.coreOf c).pres.isNone))
    (fun s =>
      let r := rungAsked s
      if r = 0 then (if s.rung = 0 then s.put F.PWR_STAT_last 0 0 else s)
      else
        let why := if r = 2 then 0 else sleepWhy s r
        let s := if why = 0 then s else s.put F.PWR_STAT_why 0 why
        let r := if why = 0 then r else 2
        if s.rung = r then s else enterRung s r)

/-- R333: the wake event that begins the exit. -/
def wakeSource (s : State) : Option Nat :=
  if s.rung = 2 then
    if (List.range 16).all (fun c => coreIdle s c && (s.coreOf c).pres.isNone) then none else some 0
  else s.wake

/-- R77, R88, R162, R265, R289, R332, R368: what resumes on an exit from Stop or Hibernate. -/
def stopExit (s : State) : State :=
  let slept := s.now - s.pwr.sleepAt
  let s := (List.range 128).foldl (fun s n => if s.is F.ICH_CTL_en n then ichPowerUp s n else s) s
  let s := (List.range 112).foldl (fun s n => if s.is F.WC_CTL_en n then wcPowerUp s n else s) s
  let s := (List.range 256).foldl (fun s n =>
    let l := s.lockOf n
    match l.due with
    | some d => s.setLock n { l with due := some (d + slept) }
    | none => s) s
  let s := (List.range 16).foldl (fun s c => if s.is F.CORE_WDT_en c then wdRestart s c else s) s
  -- R88, R162, R179: the timer domain stood still: the utilisation windows and the tick go on, and the divided timer clocks restart
  let s := (List.range 8).foldl (fun s c => s.setCrane c { s.craneOf c with winOff := (s.craneOf c).winOff + slept / 64 * 64 }) s
  let s := [0, 1, 2, 3].foldl (fun s m => s.setDivAt m none) s
  let s := { s with mfu := { s.mfu with tickAt := s.mfu.tickAt + slept } }
  -- R127: a unit whose run was set meanwhile starts at the first timer edge
  let s := cuSettleFrom s.out.length ((List.range 128).foldl (fun s u =>
    if (s.cuOf u).on && (s.cuOf u).fresh && !(s.cuOf u).counting then cuRelease s u (edgeAfter s.now) else s) s)
  [0, 1, 2, 3].foldl (fun s p =>
    if s.is F.LK_CTL_en p && s.get F.LK_PSTAT_state p == 0 && s.is F.LK_GSTAT_nodeset 0 &&
        !otpRevoked s (s.get F.LK_CTL_slot p) then
      lkAlign (s.setLink p {}) p
    else s) s

/-- R333: the exit from a rung; from Dormant and Vigil the device restarts. -/
def execSleepExit (t : Nat) (s : State) : Host.Outcome State Fault Refusal :=
  event t s (fun s => decide (2 ≤ s.rung) && (wakeSource s).isSome)
    (fun s =>
      let r := s.rung
      let s := s.put F.PWR_STAT_wake 0 ((wakeSource s).getD 0)
      if 5 ≤ r then s.resetBy (r + 1) 0
      else
        let s := { s with rung := 0, wake := none }
        let s := s.put F.CLK_STAT_lock 0 7
        let s := if 3 ≤ r then pwrCause (stopExit s) 6 else s
        waitsEnd s ((List.range 16).filter (fun c => !s.dozeOf (c / 4))))

end Sys2Proof.Machine
end

