-- ==== Sys2Proof/Machine/Boot.lean ====
section
/-! DEFINITION. Device reset, the boot, grafts, the key unit and tamper (17_boot_and_security.md, R386 to R401, R404, R405; R243, R313,
R414). -/

namespace Sys2Proof.Machine

/-! ### Device reset (R17, R313, R386) -/

/-- R17: what a device reset leaves of the value `v` of register `r`, instance `i`. -/
def keptReg (r : RegName) (i : Nat) (v : BitVec 36) : BitVec 36 :=
  r.row.fields.foldl (fun x f =>
    if f.keep = .all ∨ (f.keep = .low8 ∧ i < 8) then fput x f.lo f.w (fget v f.lo f.w) else x)
    (BitVec.ofNat 36 (resetVal r i))

/-- The registers that `f` keeps, by register and instance; the others return to their reset values. -/
def mapRegs (f : RegName → Nat → BitVec 36 → BitVec 36) (regs : Store (BitVec 36)) : Store (BitVec 36) :=
  (regs.map (fun p => (p.1, f (RegName.ofNat (p.1 % 512)) (p.1 / 512) p.2))).filter (fun p => p.2 != regDefault p.1)

/-- R313: a flash operation that a reset cuts short: a line with a complete journal entry is programmed again and recorded, and one whose
journal entry was cut short is untouched (R308: complete 0.8 us after the start, and open before); a block in erase stays with ecomp = 0; a
one-time word is open. -/
def flCut (s : State) (b : Nat) : State :=
  match (s.flOf b).run with
  | some ⟨.program l d _, start, _⟩ =>
    let (x, s) := if start + ns 800 ≤ s.now then (1, s) else s.draw 2
    if x = 1 then
      let s := flPut s l d true
      (s.put ⟨.FL_RECOV, 35 - b, 1⟩ 0 1).put F.FL_RECOV_addr 0 (8 * l)
    else s
  | some ⟨.otp i _, _, _⟩ =>
    let (x, s) := s.draw (2 ^ 18)
    s.setOtp i (some (BitVec.ofNat 18 x))
  | _ => s

/-- R386: the state after a device reset with its cause. What survives: the kept registers, the flash and the one-time row, the memory that
the rootstock has not yet cleared, the levels outside the device (pads, pins, comparator inputs), the always-on domain with the coarse clock
and the rate of TB_RATE, and the model's own fields. The windows of CR_UTIL start anew (log 110). -/
def deviceReset (s : State) (cause core : Nat) : State :=
  let s := tbStop s
  let r : State := { State.reset with
    now := s.now, regs := mapRegs keptReg s.regs, tb := s.tb, pps := s.pps, tbLatch := s.tbLatch
    wc := (s.wc.map (fun p => (p.1, ({ vin := p.2.vin } : WcS)))).filter (fun p => p.2 != {})
    crane := ((List.range 8).map (fun c => (c, ({ winOff := s.now } : CraneS)))).filter (fun p => p.2 != {})
    divAt := s.divAt.filter (fun p => p.1 == 4)
    pwr := { rcRan := s.pwr.rcRan, alarm := s.pwr.alarm }
    sram := s.sram, fl := s.fl, flash := s.flash, flBlk := s.flBlk, otp := s.otp
    journal := { s.journal with full := none, next := [], force := false, forceDue := false, pf := false }
    gpioPad := s.gpioPad, lkWake := s.lkWake, tripPin := s.tripPin
    boot := { held := s.boot.held, resume := s.boot.resume }
    ku := { rng := s.ku.rng, gen := s.ku.gen }, dbg := { chal := s.dbg.chal + 1 }
    pending := s.pending, out := s.out, free := s.free }
  let r := [0, 1, 2, 3].foldl flCut r
  let r := { r with fl := [], tb := { r.tb with rho := tbRho r, rhoOld := tbRho r } }
  (r.put F.BOOT_RSTC_cause 0 cause).put F.BOOT_RSTC_core 0 core

/-- R386: a device reset from the cause that is due, or by RESET_N; of two the lower code is recorded. R418: the sender reports a reset by
RESET_N only for a low pulse that the pin does not ignore (log 137). -/
def execDeviceReset (t : Nat) (pin : Bool) (s : State) : Host.Outcome State Fault Refusal :=
  event t s (fun s => !s.boot.held && (s.devRst.isSome || pin))
    (fun s =>
      let s := if pin then s.resetBy 1 0 else s
      let (cause, core) := s.devRst.getD (1, 0)
      let s := if cause = 1 ∧ 3 ≤ s.rung then s.put F.PWR_STAT_wake 0 4 else s
      deviceReset s cause core)

/-- R414: the main rails are above their monitor thresholds, and the held reset ends. -/
def execPowerOn (t : Nat) (s : State) : Host.Outcome State Fault Refusal :=
  event t s (fun s => s.boot.held)
    (fun s => ({ s with boot := { s.boot with held := false } }.put F.BOOT_RSTC_cause 0 0).put F.BOOT_RSTC_core 0 0)

/-- R414: a main rail has stayed below 90 % of its threshold for 100 ns: the device returns to reset, and is held there. -/
def execRailCollapse (t : Nat) (s : State) : Host.Outcome State Fault Refusal :=
  event t s (fun s => !s.boot.held)
    (fun s =>
      let s := deviceReset s 0 0
      { s with sram := [], boot := { s.boot with held := true } })

/-- R344: the registers of which every field takes its power-on value. -/
def aonWhole : List RegName :=
  [.TB_CTL, .TB_STAT, .TB_NOWH, .TB_NOWL, .TB_PPSDLY, .TB_PPSWIN, .TB_RATE, .TB_UNCERT, .TB_XRATIO, .PWR_SLEEP, .PWR_STAT, .PWR_WPIN, .PWR_ALARM]

/-- R344: the always-on registers, and the always-on fields of the others, take their power-on values. -/
def aonReg (r : RegName) (i : Nat) (v : BitVec 36) : BitVec 36 :=
  if aonWhole.contains r then BitVec.ofNat 36 (resetVal r i)
  else r.row.fields.foldl (fun x f =>
    if f.keep = .all ∨ (f.keep = .low8 ∧ i < 8) then fput x f.lo f.w (fget (BitVec.ofNat 36 (resetVal r i)) f.lo f.w) else x) v

/-- R321, R344, R395: power-on of the always-on domain. -/
def execAlwaysOnPowerOn (t : Nat) (s : State) : Host.Outcome State Fault Refusal :=
  let s := s.tick t
  ok { s with
    regs := mapRegs aonReg s.regs
    tb := { t0 := s.now, v0 := 0, u0 := 0, rho := tbRho s, rhoOld := tbRho s, stopped := s.tb.stopped, jump := true }
    pps := {}, pwr := { s.pwr with alarm := false, rcRan := false }, tbLatch := []
    boot := { s.boot with resume := none } }

/-! ### The image (R387, R388) -/

/-- R387: an image under verification: its lines (none where one cannot be read), the nonet address of its first line, and the source's limit. -/
abbrev Image := List (Option Line)

/-- Word `j` of line `i` of an image. -/
def imgW (im : Image) (i j : Nat) : Nat := (lineW ((im.getD i none).getD 0) j).toNat

/-- Words `j` and `j + 1` of line `i`. -/
def imgPair (im : Image) (i j : Nat) : Nat := imgW im i j * 2 ^ 18 + imgW im i (j + 1)

/-- The value in lines `i` to `i + 3`. -/
def img288 (im : Image) (i : Nat) : Nat :=
  ([0, 1, 2, 3].map (fun k => ((im.getD (i + k) none).getD 0).toNat)).foldl (fun n x => n * 2 ^ 72 + x) 0

/-- Every bit of line `i` is zero. -/
def imgZero (im : Image) (i : Nat) : Bool := (im.getD i none).getD 0 == 0

/-- R388, check 1: magic, format, and the fields that are reserved or zero; every header line can be read. -/
def imgForm (im : Image) : Bool :=
  (im.take 32).all (·.isSome) && imgW im 0 0 == 0o517055 && imgW im 0 1 == 1 &&
    decide (imgW im 1 0 < 64) && decide (imgW im 1 1 < 64) && decide (imgW im 1 2 < 2) && imgW im 1 3 % 2 ^ 16 == 0 &&
    decide (imgPair im 2 0 < 2 ^ 27) && decide (imgPair im 2 2 < 2 ^ 27) &&
    decide (imgW im 3 0 < 1024) && decide (imgW im 3 1 < 1024) &&
    decide (imgPair im 5 0 < 2 ^ 27) && imgPair im 5 2 == 0 && imgZero im 7 &&
    [8, 12, 16, 20].all (fun i => decide (img288 im i < 2 ^ 256)) &&
    [24, 25, 26, 27, 28, 29, 30, 31].all (imgZero im)

/-- R388, check 2: the length, the load lines, and their destination. -/
def imgFits (im : Image) : Bool :=
  let len := imgPair im 0 2
  let src := imgPair im 4 0
  let n := imgPair im 4 2
  let dst := imgPair im 5 0
  decide (32 ≤ len) && decide (len ≤ 262144) &&
    (n == 0 || (decide (src + n ≤ len) && dst % 8 == 0 && decide (0o040000000 ≤ dst) &&
      decide (dst + 8 * n ≤ 0o040000000 + 63 * 65536)))

/-- R388, check 3: the behaviour levels. -/
def imgLevels (s : State) (im : Image) : Bool :=
  decide (1 ≤ otpFloor s) && decide (otpFloor s ≤ imgW im 1 0) && decide (imgW im 1 0 ≤ 3) && decide (imgW im 1 0 ≤ imgW im 1 1)

/-- R315: the words of a packed value from word `i` on are written. -/
def otpWritten (s : State) (i : Nat) : Bool := (List.range 15).all (fun j => (s.otpOf (i + j)).isSome)

/-- R388, check 4: the digest of the signer's key. -/
def imgKey (s : State) (im : Image) : Bool :=
  let i := 160 + 16 * imgW im 1 2
  otpWritten s i && otpPacked s i == sha256 (octets 32 (img288 im 8) ++ octets 32 (img288 im 12))

/-- R388, check 5: the entry. -/
def imgEntry (im : Image) (base : Nat) : Bool :=
  let e := imgPair im 2 0
  let dst := imgPair im 5 0
  e % 4 == 0 &&
    ((decide (dst ≤ e) && decide (e < dst + 8 * imgPair im 4 2)) || (decide (base ≤ e) && decide (e < base + 8 * imgPair im 0 2)))

/-- R388, check 6: the signature over lines 0 to 15 and 24 to the last. -/
def imgSigned (im : Image) : Bool :=
  let signed := im.take 16 ++ im.drop 24
  signed.all (·.isSome) &&
    ecdsaOk (img288 im 8) (img288 im 12) (img288 im 16) (img288 im 20)
      (sha256 (signed.flatMap (fun l => octets 9 (l.getD 0).toNat))).toNat

/-- R388: the code of the first header check that fails, or 0. -/
def headWhy (s : State) (im : Image) (base : Nat) : Nat :=
  if !imgForm im then 1
  else if !imgFits im then 2
  else if !imgLevels s im then 3
  else if !imgKey s im then 4
  else if !imgEntry im base then 5
  else 0

/-! ### Sources (R390) -/

/-- R301: `n` lines of flash from line `l` on. -/
def flashImage (s : State) (l : Nat) : Nat → Image × State
  | 0 => ([], s)
  | n + 1 =>
    let (x, s) := flashLine s l
    let (r, s) := flashImage s (l + 1) n
    (x :: r, s)

/-- R281: `n` lines of SRAM from word `k` on, as the rootstock running on core 0 reads them. -/
def sramImage (s : State) (k : Nat) : Nat → Image × State
  | 0 => ([], s)
  | n + 1 =>
    let (x, s) := readLine s 0 0 (0o040000000 + 2 * k)
    let (r, s) := sramImage s (k + 4) n
    (x.map (·.1) :: r, s)

/-- R390: lines `i` to `i + n - 1` of source `src`: flash slot A or B, or the image written into BK00 on. -/
def srcLines (s : State) (src i n : Nat) : Image × State :=
  if src < 2 then flashImage s (524288 * src + i) n else sramImage s (4 * i) n

/-- The nonet address of the image of a source. -/
def srcBase (src : Nat) : Nat := if src < 2 then 8 * 524288 * src else 0o040000000

/-- R282, R392: line `i` of an image with header `hd`, as it is hashed, is copied to SRAM where it is one of the load lines. -/
def loadLine (s : State) (hd : Image) (i : Nat) (l : Option Line) : State :=
  let off := imgPair hd 4 0
  match l with
  | some d => if off ≤ i ∧ i < off + imgPair hd 4 2 then putLines s (sramIx (imgPair hd 5 0) + 4 * (i - off)) [d] else s
  | none => s

/-- R392: `n` lines of the image from line `i` on are read, hashed and, as load lines, copied as they pass. -/
def hashLines (s : State) (src : Nat) (hd : Image) (i : Nat) : Nat → Image × State
  | 0 => ([], s)
  | n + 1 =>
    let (x, s) := srcLines s src i 1
    let l := x.headD none
    let (r, s) := hashLines (loadLine s hd i l) src hd (i + 1) n
    (l :: r, s)

/-- R388, R390, R392: the image of source `src`, and the code of the first check that fails, or 0; past the header checks its load lines are
copied. -/
def verify (s : State) (src : Nat) : (Nat × Image) × State :=
  let (hd, s) := srcLines s src 0 32
  let why := headWhy s hd (srcBase src)
  if why ≠ 0 then ((why, hd), s)
  else
    let s := hd.zipIdx.foldl (fun s x => loadLine s hd x.2 x.1) s
    let (rest, s) := hashLines s src hd 32 (imgPair hd 0 2 - 32)
    let im := hd ++ rest
    ((if imgSigned im then 0 else 6, im), s)

/-! ### Grafts (R242, R243, R389) -/

/-- R389: the graft blob of an image decrypts and verifies. -/
def graftGood (im : Image) : Bool :=
  let off := imgPair im 6 0
  let n := imgPair im 6 2
  let ls := (im.drop off).take ((n + 8) / 9)
  let os := (ls.flatMap (fun l => octets 9 (l.getD 0).toNat)).take n
  os.length == n && decide (28 ≤ n) &&
    (gcmOpen Config.graftKey (os.take 12) ((os.drop 12).take (n - 28)) (BitVec.ofNat 128 (ofOctets (os.drop (n - 16))))).isSome

/-- R243: the graft stores take what the graft set holds, whose format is not published: microwords and nanowords are free values. -/
def graftFill (s : State) : State :=
  (List.range 512).foldl (fun s i =>
    let (x, s) := s.draw (2 ^ 28)
    s.setGraft i (BitVec.ofNat 36 x)) s

/-- R243: the match registers take what the graft set holds, whose format is not published. -/
def graftMatch (s : State) : State :=
  let s := (List.range 32).foldl (fun s i =>
    let (x, s) := s.draw (2 ^ 36)
    s.setReg .GRF_MATCH i (BitVec.ofNat 36 x &&& (0o400000000000 + 0o7777400000 + 0o377))) s
  s.put F.GRF_STAT_nmatch 0 ((List.range 32).filter (fun i => s.is F.GRF_MATCH_en i)).length

/-- R243, R245, R389: the grafts of an image are loaded, and the stores locked; the ID of a set is not published, and not 0. -/
def graftLoad (s : State) (im : Image) : State :=
  let s :=
    if imgPair im 6 2 = 0 then s
    else if graftGood im then
      let (id, s) := s.draw (2 ^ 36 - 1)
      graftMatch (graftFill ((s.setReg .GRF_ID 0 (BitVec.ofNat 36 (id + 1))).put F.GRF_STAT_loaded 0 1))
    else { s with graft := [] }.put F.GRF_STAT_err 0 1
  ((s.put F.GRF_LOCK_lk 0 1).put F.GRF_STAT_locked 0 1).lockReg .GRF_LOCK 0

/-! ### The start of core 0 (R252, R393 to R396) -/

/-- R252, R393: core 0 starts at `entry`. -/
def startCore0 (s : State) (entry : Nat) : State :=
  let root : Cap := { base := 0, len := BitVec.ofNat 27 (2 ^ 27 - 1), perm := 0o7777, otype := 0, tag := true }
  let h : CoreS := {
    k := Store.set (fun _ => {}) [] 0 root
    pcc := { root with perm := 0o5000 }
    pc := BitVec.ofNat 27 entry
    sr := 0o177 }
  (s.put F.CORE_STAT_state 0 1).setCore 0 h

/-- R390, R392: what every start ends with. -/
def bootEnd (s : State) (src : Nat) (fast : Bool) (lvl ceil ver : Nat) : State :=
  let s := (s.put F.BOOT_STAT_src 0 src).put F.BOOT_STAT_fast 0 (b2n fast)
  let s := (s.put F.BOOT_STAT_fail 0 s.boot.fail).put F.CLK_STAT_lock 0 7
  let s := ((s.put F.BEHAVIOUR_LEVEL_lvl 0 lvl).put F.BEHAVIOUR_LEVEL_ceil 0 ceil).put F.BEHAVIOUR_LEVEL_floor 0 (otpFloor s)
  let s := s.put F.BOOT_VER_v 0 ver
  { s with boot := { s.boot with phase := .run, faultN := false, fail := 0 } }

/-- R391: the link registers return to their reset values, and the ports to OFF. -/
def linkReset (s : State) : State :=
  { s with
    regs := s.regs.filter (fun p => decide ((RegName.ofNat (p.1 % 512)).row.addr < 0o112000000) ||
      decide (0o113000000 ≤ (RegName.ofNat (p.1 % 512)).row.addr))
    written := s.written.filter (fun p => RegName.ofNat (p.1 % 512) != .LK_NET)
    link := [], txs := [], win := [], lku := {}, lkDrive := [] }

/-- R395: the sum of the ring counts of the blocks of an image in flash. -/
def ringSum (s : State) (slot len : Nat) : Nat :=
  ((List.range ((len + 1023) / 1024)).map (fun i => (s.flBlkOf (512 * slot + i)).ring)).foldl (· + ·) 0

/-- R394: FL_PROT and FL_OTPLK are written as the header of the image asks. -/
def bootLocks (s : State) (im : Image) : State :=
  let x := imgW im 1 3
  let s := if x.testBit 17 then
      (((s.put F.FL_PROT_en 0 1).put F.FL_PROT_lo 0 (imgW im 3 0)).put F.FL_PROT_hi 0 (imgW im 3 1)).lockReg .FL_PROT 0
    else s
  if x.testBit 16 then (s.put F.FL_OTPLK_lk 0 1).lockReg .FL_OTPLK 0 else s

/-- R392 to R396: an accepted image, whose load lines are copied, starts core 0. -/
def bootStart (s : State) (src : Nat) (im : Image) : State :=
  let s := bootLocks (graftLoad s im) im
  let s := if 2 ≤ src then linkReset s else s
  let lvl := imgW im 1 0
  let ceil := imgW im 1 1
  let len := imgPair im 0 2
  let rec_ : Option Resume := if src < 2 ∧ imgPair im 2 2 ≠ 0 then some ⟨src, len, lvl, ceil, ringSum s src len⟩ else none
  let s := bootEnd s src false lvl ceil (imgPair im 3 2)
  startCore0 { s with boot := { s.boot with resume := rec_ } } (imgPair im 2 0)

/-- R390: source `src` fails. -/
def bootFail (s : State) (src : Nat) : State :=
  let s := { s with boot := { s.boot with fail := s.boot.fail ||| 2 ^ (3 - src), faultN := true } }
  s.put F.BOOT_STAT_fail 0 s.boot.fail

/-- R388, R390: source `src` is tried: core 0 starts, or the source fails. -/
def bootTry (s : State) (src : Nat) : State :=
  let ((why, im), s) := verify s src
  if why = 0 then bootStart s src im else bootFail (s.put F.BOOT_STAT_why 0 why) src

/-- R391: every port is brought up in boot mode. -/
def netStart (s : State) : State :=
  let s := { s with boot := { s.boot with phase := .net (some (s.now + 10 * 64000000000)) } }
  [0, 1, 2, 3].foldl (fun s p =>
    if otpRevoked s 0 then s else lkAlign ((s.put F.LK_CTL_en p 1).setLink p {}) p) s

/-- R390: after the network source the rootstock returns to slot A. -/
def netFail (s : State) : State :=
  let s := linkReset (bootFail s 3)
  { s with boot := { s.boot with phase := .due } }

/-! ### The rootstock (R97, R284, R392, R395) -/

/-- R97, R284: the rootstock clears the memories; after an exit from Dormant BK63 keeps its words, without tags. -/
def clearMem (s : State) : State :=
  let kept := if s.get F.BOOT_RSTC_cause 0 = 6 then
      (s.sram.filter (fun p => decide (63 * 32768 ≤ p.1))).map (fun p => (p.1, { p.2 with tag := false }))
    else []
  { s with sram := kept.filter (fun p => p.2 != {}), bstore := [], bram := [], engW := [] }

/-- R395: the record allows the fast path; R396: an image below the floor is refused, and so is its fast path. -/
def resumeOk (s : State) : Option Resume :=
  if s.get F.BOOT_RSTC_cause 0 = 6 then
    s.boot.resume.filter (fun r => ringSum s r.slot r.len == r.ring && decide (otpFloor s ≤ r.lvl))
  else none

/-- R392, R395: the rootstock runs: the fast path, which writes the locks of R394 as a full boot does (DEDUCED, log 121), or slot A, slot B,
and then SPI recovery. The PLLs are locked, and R307: it reads only idle banks of flash. -/
def execRootstockBoot (t : Nat) (s : State) : Host.Outcome State Fault Refusal :=
  event t s (fun s => s.boot.phase == .due && !s.boot.held && (List.range 4).all (fun b => (s.flOf b).run.isNone))
    (fun s =>
      let s := (clearMem s).put F.CLK_STAT_lock 0 7
      match resumeOk s with
      | some r =>
        let (im, s) := srcLines s r.slot 0 r.len
        let s := bootEnd (bootLocks (graftLoad s im) im) r.slot true r.lvl r.ceil (imgPair im 3 2)
        startCore0 s (imgPair im 2 2)
      | none =>
        let s := bootTry s 0
        let s := if s.boot.phase = .due then bootTry s 1 else s
        if s.boot.phase = .due then { s with boot := { s.boot with phase := .spi (some (s.now + 64000000000)) } } else s)

/-- R390: the host of the source in progress has not come in time. -/
def execBootSourceTimeout (t : Nat) (s : State) : Host.Outcome State Fault Refusal :=
  event t s
    (fun s => match s.boot.phase with
      | .spi (some x) => decide (x ≤ s.now)
      | .net (some x) => decide (x ≤ s.now)
      | _ => false)
    (fun s => match s.boot.phase with
      | .spi _ => netStart (bootFail s 2)
      | _ => netFail s)

/-- R391: SPI recovery waits for its host. -/
def inSpiBoot (s : State) : Bool :=
  match s.boot.phase with
  | .spi _ => true
  | _ => false

/-- R391: the first command has come. -/
def spiHeard (s : State) : State := { s with boot := { s.boot with phase := .spi none } }

/-- R391: SPI recovery command 0o001: lines into BK00 to BK31. -/
def execSpiRecoveryWrite (t : Nat) (a : Addr) (ls : List (BitVec 72)) (s : State) : Host.Outcome State Fault Refusal :=
  event t s inSpiBoot
    (fun s =>
      let s := spiHeard s
      let a := a.toNat
      if a % 8 = 0 ∧ 0o040000000 ≤ a ∧ a + 8 * ls.length ≤ 0o040000000 + 32 * 65536 then putLines s (sramIx a) ls else s)

/-- R391: SPI recovery command 0o002: the image is verified. -/
def execSpiRecoveryVerify (t : Nat) (s : State) : Host.Outcome State Fault Refusal :=
  event t s inSpiBoot
    (fun s =>
      let s := bootTry (spiHeard s) 2
      if inSpiBoot s then netStart s else s)

/-- R391: SPI recovery command 0o003: the boot status is read. -/
def execSpiRecoveryStatus (t : Nat) (s : State) : Host.Outcome State Fault Refusal :=
  event t s inSpiBoot (fun s => (spiHeard s).emit (.data (State.shown s .BOOT_STAT 0)))

/-- R391: the words of BK00 to BK31, beside which word 0 of BK32 takes the go. -/
def netWords : Nat := 32 * 32768

/-- R391: the words of a WRITE in boot mode, by SRAM word; none where it reaches beyond BK00 to BK31 and word 0 of BK32. -/
def netItems (f : Frame) : List (Word × Nat) :=
  let off := framePair f 1 % 2 ^ 27
  let ws := (f.pay.drop 4).take (frameW f 3 % 32)
  if off % 2 = 0 ∧ off / 2 + ws.length ≤ netWords + 1 then ws.zipIdx (off / 2) else []

/-- R391: a WRITE of a direct partner in boot mode: its words go into BK00 to BK31, and 1 to word 0 of BK32 is the go. -/
def netWrite (s : State) (f : Frame) : State :=
  let s := { s with boot := { s.boot with phase := .net none } }
  let s := ((netItems f).filter (fun x => decide (x.2 < netWords))).foldl (fun s x => sramOver s 2 0 x.2 x.1 false) s
  if (netItems f).contains (1, netWords) then
    let s := bootTry s 3
    match s.boot.phase with
    | .net _ => netFail s
    | _ => s
  else s

/-- R391: a WRITE of 1 to word 0 of BK32 by the direct partner. -/
def execNetworkBootGo (t : Nat) (p : Fin 4) (f : Frame) (s : State) : Host.Outcome State Fault Refusal :=
  lkSequenced t p f
    (fun s => inNetBoot s && f.ty == 8 && f.src == BitVec.ofNat 12 (s.get F.LK_PNODE_node p) &&
      (netItems f).contains (1, netWords))
    (fun s => netWrite (lkFree s p 0) f) s

/-! ### Graft registers (R243, R245) -/

/-- R245: a write of GRF_LDD. -/
def graftWrite (s : State) (v : Nat) : State :=
  if s.is F.GRF_LOCK_lk 0 then s
  else
    let i := s.get F.GRF_LDA_idx 0
    s.setGraft (if s.is F.GRF_LDA_sel 0 then 256 + i else i) (BitVec.ofNat 36 (v % 2 ^ 28))

/-- R245: a write of GRF_LDA, GRF_LDD, GRF_MATCH or GRF_LOCK: frozen once lk is 1. The load address is not readable, and stands in its register. -/
def graftRegWrite (s : State) (r : RegName) (i v : Nat) : State :=
  if s.is F.GRF_LOCK_lk 0 then s
  else match r with
    | .GRF_LDD => graftWrite s v
    | .GRF_LDA => (s.put F.GRF_LDA_sel 0 (F.GRF_LDA_sel.of v)).put F.GRF_LDA_idx 0 (F.GRF_LDA_idx.of v)
    | .GRF_LOCK =>
      let lk := F.GRF_LOCK_lk.of v
      if s.locked .GRF_LOCK 0 then s else ((s.put F.GRF_LOCK_lk 0 lk).put F.GRF_STAT_locked 0 lk).lockReg .GRF_LOCK 0
    | .GRF_MATCH =>
      let s := s.setReg .GRF_MATCH i (s.written_ .GRF_MATCH i .base v)
      s.put F.GRF_STAT_nmatch 0 ((List.range 32).filter (fun i => s.is F.GRF_MATCH_en i)).length
    | _ => s

/-- R243: a write of GRF_LDD. -/
def execGraftLoadData (t : Nat) (v : DWord) (s : State) : Host.Outcome State Fault Refusal :=
  ok (graftRegWrite (s.tick t) .GRF_LDD 0 v.toNat)

/-- R243: a write of GRF_LOCK with lk = 1. -/
def execGraftLock (t : Nat) (v : Word) (s : State) : Host.Outcome State Fault Refusal :=
  event t s (fun _ => F.GRF_LOCK_lk.of v.toNat == 1) (fun s => graftRegWrite s .GRF_LOCK 0 v.toNat)

/-! ### The key unit (R400, R401) -/

/-- R392, R400, R405: KU_RNG.valid: the entropy source, ready since the rootstock runs, reports no failure, the DRBG has a state, and the next value
is ready. -/
def rngValid (s : State) : Bool := s.boot.phase != .due && !s.ku.zeroed && !s.is F.KU_STAT_hfail 0 && decide (s.ku.rngAt ≤ s.now)

/-- R400: a read of KU_RNG; the bits of one that is not valid are open. -/
def rngRead (s : State) : Nat × State :=
  if rngValid s then
    (2 ^ 35 + (Config.drbg s.ku.gen s.ku.rng).toNat, { s with ku := { s.ku with rng := s.ku.rng + 1, rngAt := s.now + ns 40 } })
  else s.draw (2 ^ 32)

/-- R400: a read of KU_RNG. -/
def execRngRead (t : Nat) (_q : Req) (s : State) : Host.Outcome State Fault Refusal :=
  let (v, s) := rngRead (s.tick t)
  ok (s.emit (.data v))

/-- R400: an entropy health test fails. -/
def execHealthFailure (t : Nat) (s : State) : Host.Outcome State Fault Refusal :=
  event t s (fun s => !s.is F.KU_STAT_hfail 0) (fun s => (s.put F.KU_STAT_hfail 0 1).fireIf (s.is F.KU_IEN_hf 0) 593)

/-- R352, R400: the health tests stop reporting a failure; ports that wait in HELLO get their nonce. -/
def execHealthRecovery (t : Nat) (s : State) : Host.Outcome State Fault Refusal :=
  event t s (fun s => s.is F.KU_STAT_hfail 0)
    (fun s => [0, 1, 2, 3].foldl (fun s p => if (s.linkOf p).waits then lkNonce s p else s) (s.put F.KU_STAT_hfail 0 0))

/-- R401: a write of KU_CMD. -/
def kuCmdWrite (s : State) (v : Nat) : State :=
  if s.is F.KU_STAT_busy 0 then s.flag F.KU_STAT_err 0
  else
    let op := F.KU_CMD_op.of v
    if op = 1 ∨ op = 2 then
      { s.put F.KU_STAT_busy 0 1 with ku := { s.ku with op := some (op, F.KU_CMD_slot.of v) } }
    else s

/-- R401: a write of KU_CMD with op = 1. -/
def execCheck (t : Nat) (v : Word) (s : State) : Host.Outcome State Fault Refusal :=
  event t s (fun _ => F.KU_CMD_op.of v.toNat == 1) (fun s => kuCmdWrite s v.toNat)

/-- R401: a write of KU_CMD with op = 2. -/
def execAttest (t : Nat) (v : Word) (s : State) : Host.Outcome State Fault Refusal :=
  event t s (fun _ => F.KU_CMD_op.of v.toNat == 2) (fun s => kuCmdWrite s v.toNat)

/-- R401: KU_DOUT `j` and `j + 1` receive the first 64 bits of the CMAC of KU_DIN under a key. -/
def kuOut (s : State) (j : Nat) (key : BitVec 128) : State :=
  let m := [0, 1, 2, 3].flatMap (fun i => octets 4 (s.get F.KU_DIN_v i))
  let x := (cmac key m).toNat / 2 ^ 64
  (s.put F.KU_DOUT_v j (x / 2 ^ 32)).put F.KU_DOUT_v (j + 1) (x % 2 ^ 32)

/-- R401: the operation of the key unit ends. The device key has 128 bits; what KU_DOUT2 and KU_DOUT3 receive from ATTEST is open. -/
def execKeyOperationEnd (t : Nat) (s : State) : Host.Outcome State Fault Refusal :=
  event t s (fun s => s.ku.op.isSome)
    (fun s =>
      let (op, slot) := s.ku.op.getD (1, 0)
      let i := 32 + 16 * slot
      let s := { s with ku := { s.ku with op := none } }.put F.KU_STAT_busy 0 0
      let s :=
        if op = 1 then
          if otpRevoked s slot || !otpWritten s i then s.flag F.KU_STAT_err 0
          else
            let key := otpPacked s i
            kuOut (kuOut s 0 (key.extractLsb' 128 128)) 2 (key.extractLsb' 0 128)
        else
          let s := kuOut s 0 (if s.ku.zeroed then 0 else Config.deviceKey)
          let (x, s) := s.draw (2 ^ 32)
          let (y, s) := s.draw (2 ^ 32)
          (s.put F.KU_DOUT_v 2 x).put F.KU_DOUT_v 3 y
      s.fireIf (s.is F.KU_IEN_done 0) 592)

/-! ### Tamper (R404, R405) -/

/-- R425, R427: from `s0` to `s` the boundary cells may have come to act otherwise on the GPIO pins. -/
def scanned (s0 s : State) : State := if s0.dbg.scan = .normal ∧ s.dbg.scan = .normal then s else gpioSettleAll s0 s

/-- R403, R427: the debug session closes: the boundary cells let the pins go, and no token stays under verification. -/
def dbgClose (s : State) : State :=
  scanned s { (s.put F.BOOT_STAT_dbg 0 0).put F.DBG_SCOPE_scope 0 0 with dbg := { s.dbg with scan := .normal, tok := none } }

/-- R405: tamper sensor `n` fires (0 voltage, 1 clock, 2 temperature, 3 shield): the keys, the DRBG state and the resume record are zeroized, the outputs
float, and a device reset is due. -/
def execTamper (t : Nat) (n : Fin 4) (s : State) : Host.Outcome State Fault Refusal :=
  let s := (s.tick t).flag ⟨.TMP_STAT, 17 - n, 1⟩ 0
  let s := [0, 1, 2, 3].foldl (fun s p => s.setLink p { s.linkOf p with txKey := 0, rxKey := 0 }) s
  let s := { s with ku := { s.ku with zeroed := true, rng := 0, gen := s.ku.gen + 1 }, boot := { s.boot with resume := none } }
  let s := cuSettle ((List.range 128).foldl (fun s u => s.hwPut F.CU_CTL_oen u 0) (dbgClose s))
  let s := if 3 ≤ s.rung then s.put F.PWR_STAT_wake 0 6 else s
  ok (s.resetBy 5 0)

end Sys2Proof.Machine
end

