-- ==== Sys2Proof/Machine/Branch.lean ====
section
/-! DEFINITION. Branches, jumps and hardware loops of the P18 (R214 to R219, R233). -/

namespace Sys2Proof.Machine

/-- R233: the predictor entry that serves the core's address: its counter, or none where it is invalid. -/
def CoreS.predEntry (h : CoreS) : Option Nat := Store.get (fun _ => none) h.pred (h.pc.toNat / 4 % 256)

/-- R233, R239: the conditional branch with offset `off` is predicted taken; where `on` is false (SLACK), never. -/
def CoreS.predict (h : CoreS) (on : Bool) (off : Int) : Bool :=
  on && (match h.predEntry with
    | some n => decide (2 ≤ n)
    | none => decide (off < 0))

/-- R227, R233: a conditional branch resolves: the cycles that it stalled, and the predictor after it; in SLACK there is no prediction (R239). -/
def CoreS.resolve (h : CoreS) (on taken : Bool) (off : Int) : CoreS :=
  let h := { h with brStall := if h.predict on off = taken then 0 else 3 }
  if on then
    let n := match h.predEntry with
      | some n => if taken then min (n + 1) 3 else n - 1
      | none => if taken then 2 else 1
    { h with pred := Store.set (fun _ => none) h.pred (h.pc.toNat / 4 % 256) (some n) }
  else h

/-- R214, R216: a conditional branch with offset `off` in instructions. -/
def CoreS.branch (h : CoreS) (on taken : Bool) (off : Int) : CoreRes :=
  let h' := h.resolve on taken off
  if taken then h.transfer h' (h.pc.toNat + 4 * off) else .done h'

/-- A core executes a conditional branch. -/
def brIns (t : Nat) (c : Nat) (f : CoreS → Bool → CoreRes) (s : State) : Host.Outcome State Fault Refusal :=
  coreIns t c (fun h => f h (!slack s)) s

/-- R214: format B over words. -/
def brW (x : Fields) (p : Word → Word → Bool) (h : CoreS) (on : Bool) : CoreRes :=
  h.branch on (p (h.rd x.f27) (h.rd x.f23)) x.offB

/-- R214: format BI; `p` gets the immediate sign-extended or zero-extended. -/
def brI (x : Fields) (p : Word → Bool) (h : CoreS) (on : Bool) : CoreRes := h.branch on (p (h.rd x.f27)) x.offBI

/-- R214: format B over pairs, which must be even. -/
def brP (x : Fields) (p : DWord → DWord → Bool) (h : CoreS) (on : Bool) : CoreRes :=
  legalIf (x.f27 % 2 == 0 && x.f23 % 2 == 0) (h.branch on (p (h.rdP x.f27) (h.rdP x.f23)) x.offB)

/-- R214: BEQ. -/
def execBeq (t : Nat) (c : Fin 16) (x : Fields) (s : State) : Host.Outcome State Fault Refusal :=
  brIns t c (brW x (fun a b => a == b)) s
/-- R214: BNE. -/
def execBne (t : Nat) (c : Fin 16) (x : Fields) (s : State) : Host.Outcome State Fault Refusal :=
  brIns t c (brW x (fun a b => a != b)) s
/-- R214: BLT. -/
def execBlt (t : Nat) (c : Fin 16) (x : Fields) (s : State) : Host.Outcome State Fault Refusal :=
  brIns t c (brW x (fun a b => a.slt b)) s
/-- R214: BGE. -/
def execBge (t : Nat) (c : Fin 16) (x : Fields) (s : State) : Host.Outcome State Fault Refusal :=
  brIns t c (brW x (fun a b => !a.slt b)) s
/-- R214: BLTU. -/
def execBltu (t : Nat) (c : Fin 16) (x : Fields) (s : State) : Host.Outcome State Fault Refusal :=
  brIns t c (brW x (fun a b => a.ult b)) s
/-- R214: BGEU. -/
def execBgeu (t : Nat) (c : Fin 16) (x : Fields) (s : State) : Host.Outcome State Fault Refusal :=
  brIns t c (brW x (fun a b => !a.ult b)) s
/-- R214: BEQI. -/
def execBeqi (t : Nat) (c : Fin 16) (x : Fields) (s : State) : Host.Outcome State Fault Refusal :=
  brIns t c (brI x (fun a => a == x.immBI.signExtend 18)) s
/-- R214: BNEI. -/
def execBnei (t : Nat) (c : Fin 16) (x : Fields) (s : State) : Host.Outcome State Fault Refusal :=
  brIns t c (brI x (fun a => a != x.immBI.signExtend 18)) s
/-- R214: BLTI. -/
def execBlti (t : Nat) (c : Fin 16) (x : Fields) (s : State) : Host.Outcome State Fault Refusal :=
  brIns t c (brI x (fun a => a.slt (x.immBI.signExtend 18))) s
/-- R214: BGEI. -/
def execBgei (t : Nat) (c : Fin 16) (x : Fields) (s : State) : Host.Outcome State Fault Refusal :=
  brIns t c (brI x (fun a => !a.slt (x.immBI.signExtend 18))) s
/-- R214: BLTUI. -/
def execBltui (t : Nat) (c : Fin 16) (x : Fields) (s : State) : Host.Outcome State Fault Refusal :=
  brIns t c (brI x (fun a => a.ult (x.immBI.setWidth 18))) s
/-- R214: BGEUI. -/
def execBgeui (t : Nat) (c : Fin 16) (x : Fields) (s : State) : Host.Outcome State Fault Refusal :=
  brIns t c (brI x (fun a => !a.ult (x.immBI.setWidth 18))) s
/-- R214: BEQ.D. -/
def execBeqD (t : Nat) (c : Fin 16) (x : Fields) (s : State) : Host.Outcome State Fault Refusal :=
  brIns t c (brP x (fun a b => a == b)) s
/-- R214: BNE.D. -/
def execBneD (t : Nat) (c : Fin 16) (x : Fields) (s : State) : Host.Outcome State Fault Refusal :=
  brIns t c (brP x (fun a b => a != b)) s
/-- R214: BLT.D. -/
def execBltD (t : Nat) (c : Fin 16) (x : Fields) (s : State) : Host.Outcome State Fault Refusal :=
  brIns t c (brP x (fun a b => a.slt b)) s
/-- R214: BGE.D. -/
def execBgeD (t : Nat) (c : Fin 16) (x : Fields) (s : State) : Host.Outcome State Fault Refusal :=
  brIns t c (brP x (fun a b => !a.slt b)) s
/-- R214: BLTU.D. -/
def execBltuD (t : Nat) (c : Fin 16) (x : Fields) (s : State) : Host.Outcome State Fault Refusal :=
  brIns t c (brP x (fun a b => a.ult b)) s
/-- R214: BGEU.D. -/
def execBgeuD (t : Nat) (c : Fin 16) (x : Fields) (s : State) : Host.Outcome State Fault Refusal :=
  brIns t c (brP x (fun a b => !a.ult b)) s

/-- R215: the link of JAL and JALR; dl = 0 writes none. -/
def CoreS.link (h : CoreS) (dl : Nat) : CoreS := if dl = 0 then h else h.wrP (2 * dl) ((h.pc + 4).setWidth 36)

/-- R215: JAL. -/
def execJal (t : Nat) (c : Fin 16) (x : Fields) (s : State) : Host.Outcome State Fault Refusal :=
  coreIns t c (fun h => legalIf (x.b24 == 0) (h.transfer (h.link x.dl) (h.pc.toNat + 4 * x.offJ))) s
/-- R215: JALR. -/
def execJalr (t : Nat) (c : Fin 16) (x : Fields) (s : State) : Host.Outcome State Fault Refusal :=
  coreIns t c (fun h => legalIf (x.b24 == 0 && x.resJR == 0)
    (h.transfer (h.link x.dl) ((h.rdP (2 * x.dn)).toNat % 2 ^ 27 : Nat))) s

/-- R217: LP and LPI open a loop level with `count`, skip the body, or raise the loop-nest trap. -/
def CoreS.openLoop (h : CoreS) (x : Fields) (count : Word) : CoreRes :=
  let e := h.pc + BitVec.ofNat 27 (4 * x.offL)
  if h.ln = 4 then .trap 7 0
  else if count = 0 then .goto h (e + 4)
  else .goto { ((h.setLs h.ln (h.pc + 4)).setLe h.ln e).setLc h.ln count with ln := h.ln + 1 } (h.pc + 4)

/-- R217: LP. -/
def execLp (t : Nat) (c : Fin 16) (x : Fields) (s : State) : Host.Outcome State Fault Refusal :=
  coreIns t c (fun h => legalIf (x.resLP == 0 && x.offL != 0) (h.openLoop x (h.rd x.f27))) s
/-- R217: LPI. -/
def execLpi (t : Nat) (c : Fin 16) (x : Fields) (s : State) : Host.Outcome State Fault Refusal :=
  coreIns t c (fun h => legalIf (x.offL != 0) (h.openLoop x (BitVec.ofNat 18 x.cnt))) s
/-- R219: LBRK; all fields 0. -/
def execLbrk (t : Nat) (c : Fin 16) (x : Fields) (s : State) : Host.Outcome State Fault Refusal :=
  coreIns t c (fun h => legalIf (x == 0)
    (.done (if h.ln = 0 then h else { h.setLc (h.ln - 1) 0 with ln := h.ln - 1 }))) s

end Sys2Proof.Machine
end

