-- ==== Sys2Proof/Machine/GlobalTide.lean ====
section
/-! DEFINITION. The commands of global tides (16_system_tides_upgrades.md, R370 to R383). -/

namespace Sys2Proof.Machine

/-- R372: a write of GT_PCTL with go = 1. -/
def execPropose (t : Nat) (v : Word) (s : State) : Host.Outcome State Fault Refusal :=
  event t s (fun _ => F.GT_PCTL_go.of v.toNat == 1) (fun s => gtPctlWrite s v.toNat)

/-- R377: a write of GT_PCTL with abort = 1. -/
def execRoundAbort (t : Nat) (v : Word) (s : State) : Host.Outcome State Fault Refusal :=
  event t s (fun _ => F.GT_PCTL_abort.of v.toNat == 1) (fun s => gtPctlWrite s v.toNat)

/-- R381: a write of GT_PCTL with rcm = 1. -/
def execRoutedCommit (t : Nat) (v : Word) (s : State) : Host.Outcome State Fault Refusal :=
  event t s (fun _ => F.GT_PCTL_rcm.of v.toNat == 1) (fun s => gtPctlWrite s v.toNat)

/-- R381: a write of GT_PCTL with rab = 1. -/
def execRoutedAbort (t : Nat) (v : Word) (s : State) : Host.Outcome State Fault Refusal :=
  event t s (fun _ => F.GT_PCTL_rab.of v.toNat == 1) (fun s => gtPctlWrite s v.toNat)

/-- R370: port `p` is the parent port. -/
def gtParent (s : State) (p : Nat) : Bool := !s.is F.GT_TREE_root 0 && s.get F.GT_TREE_parent 0 == p

/-- R373, R374: a PREPARE for this device. -/
def gtPrepare (s : State) (p : Nat) (f : Frame) : State :=
  if !gtParent s p then gtIgnore s
  else
    let id := framePair f 0
    let inst := tbJoin (framePair f 2) (framePair f 4)
    let lead := framePair f 6
    let raise := frameBit f 9 17
    let lvl := frameW f 9 % 64
    let hm := frameW f 10 % 4096
    let vote := (inst + tbWrap - 64 * lead % tbWrap) % tbWrap
    let late := s.reached ((vote + tbWrap - 128000) % tbWrap) && (s.tbNow + 128000) % tbWrap != vote
    let reason := gtReason s id inst raise lvl late
    if s.gt.round.isSome then
      let no := voteNo reason (gtOffer s raise) (lkOwn s)
      let g := mkFrame s 17 (s.get F.LK_PNODE_node p) 1 0 0 (votePay s id no false)
      { s with gt := { s.gt with nos := s.gt.nos ++ [(vote, g)] } }
    else gtOpen s id inst lead (frameW f 8) raise lvl hm reason

/-- R373: a PREPARE received. -/
def execPrepare (t : Nat) (p : Fin 4) (f : Frame) (s : State) : Host.Outcome State Fault Refusal :=
  lkSequenced t p f (fun s => f.ty == 16 && lkMine s f) (fun s => gtPrepare (lkFree s p 2) p f) s

/-- R374, R376: the vote instant is reached: the votes due go out. -/
def execVoteInstant (t : Nat) (s : State) : Host.Outcome State Fault Refusal :=
  event t s
    (fun s => s.gt.nos.any (fun x => s.reached x.1) ||
      (match s.gt.round with | some r => !r.sent && s.reached r.p | none => false))
    (fun s =>
      let due := s.gt.nos.filter (fun x => s.reached x.1)
      let s := { s with gt := { s.gt with nos := s.gt.nos.filter (fun x => !s.reached x.1) } }
      let p := s.get F.GT_TREE_parent 0
      let s := due.foldl (fun s x => if p < 4 ∧ lkUp s p = true then lkSend s p x.2 none none else s) s
      gtStep s)

/-- R381: the head of the queue of reports shows in GT_DREP and GT_DREPID. -/
def gtShowRep (s : State) : State :=
  let (v, node, id) : Nat × Nat × Nat := match s.gt.reps with
    | (n, i) :: _ => (1, n.toNat, i.toNat)
    | [] => (0, 0, 0)
  ((s.put F.GT_DREP_valid 0 v).put F.GT_DREP_node 0 node).put F.GT_DREPID_id 0 id

/-- R381: a doubt report reaches the harbour master's device. -/
def gtReport (s : State) (f : Frame) : State :=
  if !s.is F.GT_TREE_root 0 then gtIgnore s
  else if 16 ≤ s.gt.reps.length then s.flag F.GT_DREP_ovf 0
  else
    let rep := (BitVec.ofNat 12 (frameW f 5), BitVec.ofNat 36 (framePair f 0))
    gtShowRep { s with gt := { s.gt with reps := s.gt.reps ++ [rep] } }

/-- R375, R381: a VOTE for this device received. -/
def execVote (t : Nat) (p : Fin 4) (f : Frame) (s : State) : Host.Outcome State Fault Refusal :=
  lkSequenced t p f (fun s => f.ty == 17 && lkMine s f)
    (fun s =>
      let s := lkFree s p 2
      if frameBit f 2 16 then gtReport s f
      else
        match s.gt.round with
        | some r =>
          if gtChild s p && r.id == framePair f 0 && !s.is F.GT_STAT_doubt 0 && r.kids.any (fun k => k.1 == p.val && k.2.isNone)
          then gtAnswer s p (some (voteOf f))
          else gtIgnore s
        | none => gtIgnore s) s

/-- R377: a decision that comes down the tree: from the partner on the parent port. -/
def gtFromParent (s : State) (p : Nat) (f : Frame) : Bool := gtParent s p && f.src.toNat == s.get F.LK_PNODE_node p

/-- R377, R380: a decision for this device: from the parent in a round, or routed in DOUBT. One from the parent goes on down the tree also after
I - g, where it changes nothing but under R380. -/
def gtDecision (s : State) (p : Nat) (f : Frame) (commit : Bool) : State :=
  let ty := if commit then 18 else 19
  let s := match s.gt.round with
    | some r => if gtGuardDue s && (s.tbNow + 64 * r.guard) % tbWrap != r.inst then gtGuard s else s
    | none => s
  match s.gt.round with
  | none => if gtParent s p ∧ framePair f 0 = s.get F.GT_RID_v 0 then gtSendDown s ty f.pay else gtIgnore s
  | some r =>
    if r.id ≠ framePair f 0 then gtIgnore s
    else if s.is F.GT_STAT_doubt 0 then
      let s := if gtFromParent s p f then gtSendDown s ty f.pay else s
      let inst := tbJoin (framePair f 2) (framePair f 4)
      let e := s.tbNow + 64 * r.guard
      if !commit then setRound (gtUndoubt (gtRelease s r) 2) none
      else if !tbPast e inst || e % tbWrap == inst then gtUndoubt (gtCommit s r inst) 1
      else gtIgnore s
    else if gtParent s p && s.get F.GT_STAT_dec 0 == 0 then
      gtSendDown (s.put F.GT_STAT_dec 0 (if commit then 1 else 2)) ty f.pay
    else gtIgnore s

/-- R377, R380: a COMMIT for this device received. -/
def execCommit (t : Nat) (p : Fin 4) (f : Frame) (s : State) : Host.Outcome State Fault Refusal :=
  lkSequenced t p f (fun s => f.ty == 18 && lkMine s f) (fun s => gtDecision (lkFree s p 2) p f true) s

/-- R377, R380: an ABORT for this device received. -/
def execAbort (t : Nat) (p : Fin 4) (f : Frame) (s : State) : Host.Outcome State Fault Refusal :=
  lkSequenced t p f (fun s => f.ty == 19 && lkMine s f) (fun s => gtDecision (lkFree s p 2) p f false) s

/-- R377: Q, the decision deadline of the root: half way from P to I - g. -/
def gtDeadline (r : Round) : Nat :=
  (r.p + ((r.inst + 2 * tbWrap - 64 * r.guard % tbWrap - r.p) % tbWrap) / 2) % tbWrap

/-- R377: the root is undecided at Q. -/
def execDecisionDeadline (t : Nat) (s : State) : Host.Outcome State Fault Refusal :=
  event t s
    (fun s => match s.gt.round with
      | some r => s.is F.GT_TREE_root 0 && s.get F.GT_STAT_dec 0 == 0 && s.reached (gtDeadline r)
      | none => false)
    (fun s => match s.gt.round with
      | some r => gtDecide s r false
      | none => s)

/-- R378: I - g is reached. -/
def execDecisionGuard (t : Nat) (s : State) : Host.Outcome State Fault Refusal :=
  event t s gtGuardDue gtGuard

/-- R379: of the committed global tides whose instants have come, the next to apply: that of the lowest slot. -/
def gtNext (s : State) : Option Round :=
  (s.gt.apply.filter (fun r => s.reached r.inst)).foldl (fun m r => match m with
    | none => some r
    | some q => if r.slot.getD 0 < q.slot.getD 0 then some r else some q) none

/-- R379: a committed global tide is due, after the local tides of the same instant in lower slots. -/
def gtApplyDue (s : State) : Bool :=
  match gtNext s with
  | some r => (match r.slot with | some k => !(List.range k).any (tideDue s) | none => true)
  | none => false

/-- R379: the committed global tide applies. -/
def gtApply (s : State) (r : Round) : State :=
  let s := { s with gt := { s.gt with apply := s.gt.apply.erase r } }
  let s := (s.put F.GT_LAST_v 0 r.id).put F.GT_GEPOCH_v 0 (s.get F.GT_GEPOCH_v 0 + 1)
  let s :=
    if r.raise then s.put F.BEHAVIOUR_LEVEL_lvl 0 (max (s.get F.BEHAVIOUR_LEVEL_lvl 0) r.lvl) else s
  match r.slot with
  | some k => tideApply (s.hwPut F.GT_BIND_en 0 0) k 1
  | none => memCause ((s.put F.TIDE_EPOCH_n 0 (s.get F.TIDE_EPOCH_n 0 + 1)).raise 20 0 1) 5

/-- R379: a committed global tide applies at I. -/
def execGlobalTideApply (t : Nat) (s : State) : Host.Outcome State Fault Refusal :=
  event t s gtApplyDue (fun s => match gtNext s with | some r => gtApply s r | none => s)

/-- R380: in DOUBT a report goes to the harbour master every 1 ms. -/
def execDoubtReport (t : Nat) (s : State) : Host.Outcome State Fault Refusal :=
  event t s (fun s => s.is F.GT_STAT_doubt 0 && decide (s.gt.reportAt ≤ s.now))
    (fun s =>
      let s := { s with gt := { s.gt with reportAt := s.now + 64000000 } }
      match s.gt.round with
      | some r => lkOut s (mkFrame s 17 r.hm (s.get F.LK_NET_hops 0) 0 0 (votePay s r.id voteYes true))
      | none => s)

/-- R381: a read of GT_DREP: its value, and the head report removed. -/
def gtDrepRead (s : State) : Nat × State :=
  (State.shown s .GT_DREP 0, gtShowRep { s with gt := { s.gt with reps := s.gt.reps.tail } })

/-- R381: a read of GT_DREP. -/
def execDoubtReportRead (t : Nat) (_q : Req) (s : State) : Host.Outcome State Fault Refusal :=
  let (v, s) := gtDrepRead (s.tick t)
  ok (s.emit (.data v))

end Sys2Proof.Machine
end

