-- ==== Sys2Proof/Machine/Bus.lean ====
section
/-! DEFINITION. Accesses to peripheral space: which register an address reaches (R8, R12, R430, R431, R433), and what a read or a write
of each register does (R11, R15, R16), by the rules of its own chapter where it has one. -/

namespace Sys2Proof.Machine

/-! ### What an access reaches (R8, R430) -/

/-- R8, R430: what an access to peripheral space meets: a whole register, one half of a double-word register (the high one where `hi`),
unoccupied offsets, a violation of R8, or an unassigned block. -/
inductive PAcc where
  | reg (r : RegName) (i : Nat)
  | half (r : RegName) (i : Nat) (hi : Bool)
  | free
  | align
  | gone
  deriving DecidableEq, Repr

/-- R8, R430, R431: what an access of `size` nonets at address `a` of peripheral space meets; the aliases are those of R12. -/
def periphAcc (a size : Nat) : PAcc :=
  let b := (aliasOf a).2
  if !assigned b || !assigned (b + size - 1) then .gone
  else if a % 2 ≠ 0 then .align
  else if size = 2 then
    match regAt b with
    | none => .free
    | some (r, i, d) => if r.row.dword then .half r i (d == 0) else .reg r i
  else if size = 4 then
    match regAt b with
    | some (r, i, 0) => if r.row.dword then .reg r i else .align
    | some _ => .align
    | none => if (regAt (b + 2)).isNone then .free else .align
  else .align

/-! ### What a counter unit holds by now (R20, R134) -/

/-- The counter unit whose held stores an access to a register meets. -/
def cuOfReg (r : RegName) (i : Nat) : Option Nat :=
  match r with
  | .CU_CTL => some i
  | .CU_LDM => some i
  | .CU_SYNC => some i
  | .CU_SYNCEV => some i
  | .CU_PHASE => some i
  | .CU_CNT => some i
  | .CU_CARRY => some i
  | .CU_PER => some i
  | .CU_PERS => some i
  | .CU_CMP => some (i / 4)
  | .CU_DTR => some i
  | .CU_DTF => some i
  | .CU_MINP => some i
  | .CU_PEND => some i
  | .CU_STAT => some i
  | .CU_FLAG => some i
  | _ => none

/-- R20, R134: before an access to a register of a counter unit, the stores that the unit holds by now act. -/
def regSync (s : State) (r : RegName) (i : Nat) : State := (cuOfReg r i).elim s (cuSync s)

/-! ### Reads (R11) -/

/-- R11: a register value with `n` in its RC field. -/
def rcSet (r : RegName) (x : BitVec 36) (n : Nat) : BitVec 36 :=
  r.row.fields.foldl (fun x f => if f.kind = .rc then fput x f.lo f.w n else x) x

/-- The register has an RC field. -/
def RegName.hasRc (r : RegName) : Bool := r.row.fields.any (fun f => f.kind == .rc)

/-- R8, R11: what a register shows, without any effect of a read. -/
def regShow (s : State) (q : Req) (r : RegName) (i : Nat) : Nat :=
  match r with
  | .CU_CNT => if s.is F.CU_CTL_run i then 2 ^ 36 - 1 else State.shown s r i
  | .CU_CAP => cuCapHead s (i / 2) (i % 2)
  | .TZ_STAT => State.shown s r i + b2n (tzNow s i) * 2 ^ 16
  | .FL_RING => flRing s
  | .LK_GSTAT => State.shown s r i + b2n (lkLoading s) * 2 ^ 16
  | .TB_NOWH => (tbSplit s.tbNow).1
  | .TB_NOWL => s.tbLatchOf (latchKey q)
  | .GPIO_IN => gpioInRead s i
  | .KU_RNG => b2n (rngValid s) * 2 ^ 35 + (if rngValid s then (Config.drbg s.ku.gen s.ku.rng).toNat else 0)
  | .GRF_LDA => 0
  | _ => State.shown s r i

/-- R11, R13: a read of a register with an RC field: the field clears; the events that counted in it in this timer cycle are not in what the
read returns, and stay. -/
def rcRead (s : State) (r : RegName) (i : Nat) : Nat × State :=
  match (s.hwAt r i).rc with
  | none => (State.shown s r i, s.setReg r i (rcSet r (s.reg r i) 0))
  | some (old, more) =>
    ((rcSet r (s.reg r i) old).toNat,
      { s.setReg r i (rcSet r (s.reg r i) more) with
        hw := Store.set (fun _ => {}) s.hw (regKey r i) { s.hwAt r i with rc := some (0, more) } })

/-- R11: a read of a whole register by requester `q`: the value, and the state after the effects of the read. -/
def regRead (s : State) (q : Req) (r : RegName) (i : Nat) : Nat × State :=
  let s := regSync s r i
  match r with
  | .CU_CNT => cuCntRead s i
  | .CU_CAP => cuCapRead s (i / 2) (i % 2)
  | .LOCK_ACQ => lockAcquire s q i
  | .TB_NOWH => tbNowRead s q
  | .SPI_RX => spiPop s i
  | .KU_RNG => rngRead s
  | .GT_DREP => gtDrepRead s
  | _ =>
    if r.hasRc then rcRead s r i else (regShow s q r i, s)

/-! ### Writes (R11, R12, R15, R16) -/

/-- R296, R434: a write of a snapshot register of core `c`, which only that core writes. -/
def snapWrite (s : State) (q : Req) (r : RegName) (c : Nat) (a : Alias) (v : Nat) : State :=
  let mine := match q with
    | .core n => n.val == c
    | _ => false
  let new := s.written_ r c a v
  if r = .SNAP_GO then (if a = .base then snapGoWrite s q c v else s)
  else if new = s.reg r c then s
  else if !mine then s.flag F.SNAP_STAT_cfgerr c
  else if r = .SNAP_ATL ∧ 64000000000 ≤ v % 2 ^ 36 then s.flag F.SNAP_STAT_cfgerr c
  else s.setReg r c new

/-- R291: a write of TSLOT_ATH or TSLOT_ATL. -/
def tslotWrite (s : State) (r : RegName) (k v : Nat) : State :=
  if s.get F.TSLOT_STAT_state k = 2 then s
  else if r = .TSLOT_ATL then rangeWrite s F.TSLOT_ATL_v k (v % 2 ^ 36) 64000000000 F.TIDE_STAT_verr 0
  else s.put F.TSLOT_ATH_v k v

/-- R255: a write of CORE_FRM, whose base is fixed while frames are in use. -/
def coreFrmWrite (s : State) (c v : Nat) : State :=
  let s' := s.put F.CORE_FRM_size c (F.CORE_FRM_size.of v)
  if F.CORE_FRM_base.of v = s.get F.CORE_FRM_base c then s'
  else if s.get F.CORE_FSP_depth c ≠ 0 then s.flag F.CORE_STAT_cfgerr c
  else s'.put F.CORE_FRM_base c (F.CORE_FRM_base.of v)

/-- R11: a write of a register whose fields are of kind LOCK, through its base. -/
def lockWrite (s : State) (r : RegName) (i : Nat) (new : BitVec 36) : State :=
  if s.locked r i then s else (s.setReg r i new).lockReg r i

/-- R403: deny closes the debug port. -/
def denyWrite (s : State) (a : Alias) (v : Nat) : State :=
  if a = .set ∧ F.DBG_CTL_deny.of v = 1 then dbgClose (s.put F.DBG_CTL_deny 0 1) else s

/-- R150: a clear-alias write of CU_STAT. -/
def cuStatClear (s : State) (u v : Nat) (new : BitVec 36) : State :=
  let s' := s.setReg .CU_STAT u (fput new F.CU_STAT_olkt.lo 1 (s.get F.CU_STAT_olkt u))
  if F.CU_STAT_olkt.of v = 1 then cuOlktClear s' u else s'

/-- A base-address write of a register of the loop path (chapters 2 to 8) that its chapter gives rules; none for the others. -/
def loopWrite (s : State) (r : RegName) (i v : Nat) (new : BitVec 36) : Option State :=
  match r with
  | .ICH_CTL => some (ichCtlWrite s i v)
  | .ICH_TRGCU =>
    some (if new = s.reg r i then s else if s.is F.ICH_CTL_arm i then s.flag F.ICH_STAT_cfgerr i else s.setReg r i new)
  | .ICH_TRGEV => some (ichCfgWrite s F.ICH_TRGEV_ch i v)
  | .ICH_DELAY => some (ichCfgWrite s F.ICH_DELAY_d i v)
  | .ICH_WLEN => some (ichCfgWrite s F.ICH_WLEN_len i v)
  | .ICH_PROBE => some (ichCfgWrite s F.ICH_PROBE_n i v)
  | .ICH_PROBETHR => some (ichRefresh (s.setReg r i new) i)
  | .ICH_GAINC => some (ichRefresh (s.setReg r i new) i)
  | .ICH_OFFC => some (ichRefresh (s.setReg r i new) i)
  | .ICH_IEN => some (ichRefresh (s.setReg r i new) i)
  | .ICH_CALCTL => some (calctlWrite s v)
  | .WC_CTL => some (wcCtlWrite s i v)
  | .WC_THH => some (wcThrWrite s true i v)
  | .WC_THL => some (wcThrWrite s false i v)
  | .WC_TRIP => some (cuSettle (wcFrozenWrite s r i new))
  | .WC_BLKSRC => some (wcFrozenWrite s r i new)
  | .WC_BLKLEN => some (wcFrozenWrite s r i new)
  | .WC_GUARD => some (wcGuardWrite s i v)
  | .BERTH_CTL => some (berthCtlWrite s i v)
  | .BERTH_TRG => some (berthCfgWrite s r i i new)
  | .BERTH_PROG => some (berthCfgWrite s r i i new)
  | .BERTH_DL => some (berthCfgWrite s r i i new)
  | .BERTH_GAIN => some (berthCfgWrite s r i i new)
  | .BERTH_GBASE => some (berthCfgWrite s r i i new)
  | .BERTH_BND => some (berthCfgWrite s r i (i / 3) new)
  | .BERTH_GRP => some (berthCfgWrite s r i i new)
  | .BERTH_IO => some (berthCfgWrite s r i i new)
  | .CR_SEP => some (engLockedWrite s r i new)
  | .CG_CTL => some (engLockedWrite s r i new)
  | .ENG_CTL => some (engCtlWrite s v)
  | .ENG_SWTRG => some (swTrigger s v)
  | .CU_CTL => some (cuCtlWrite s i v)
  | .CU_LDM => some (cuCfgWrite s r i new)
  | .CU_SYNC => some (cuCfgWrite s r i new)
  | .CU_SYNCEV => some (cuCfgWrite s r i new)
  | .CU_PHASE => some (cuCfgWrite s r i new)
  | .CU_CNT => some (cuCfgWrite s r i new)
  | .CU_CARRY => some (cuCfgWrite s r i new)
  | .CU_PER => some (cuStore s i 0 v)
  | .CU_CMP => some (cuStore s (i / 4) (i % 4 + 1) v)
  | .CU_DTR => some (cuStore s i 5 v)
  | .CU_DTF => some (cuStore s i 6 v)
  | .CU_MINP => some (cuStore s i 7 v)
  | .CU_TZM => some (cuTzmWrite s i v)
  | .CU_CAPSRC => some (cuSettle (cuCapSrcWrite s (i / 2) (i % 2) v))
  | .TZ_LINK => some (cuSettle (tzLinkWrite s i v))
  | .SC_CTL => some (scCtlWrite s i v)
  | .SC_SEQA => some (scSeqWrite s r i new)
  | .SC_SEQB => some (scSeqWrite s r i new)
  | .MT_CTL => some (mtCtlWrite s v)
  | .MF_CTL => some (mfCtlWrite s i v)
  | .MF_SRC => some (mfRegWrite s r i i new)
  | .MF_TCHG => some (mfRegWrite s r i i new)
  | .MF_VTIMEH => some (mfRegWrite s r i i new)
  | .MF_VTIMEL => some (mfRegWrite s r i i new)
  | .MF_VIMPH => some (mfRegWrite s r i (i / 8) new)
  | .MF_VIMPL => some (mfRegWrite s r i (i / 8) new)
  | .MF_VEXPH => some (mfRegWrite s r i (i / 8) new)
  | .MF_VEXPL => some (mfRegWrite s r i (i / 8) new)
  | .MF_VV2H => some (mfRegWrite s r i i new)
  | .MF_VV2L => some (mfRegWrite s r i i new)
  | .MF_VI2H => some (mfRegWrite s r i i new)
  | .MF_VI2L => some (mfRegWrite s r i i new)
  | .MF_VDMAXH => some (mfRegWrite s r i (i / 8) new)
  | .MF_VDMAXL => some (mfRegWrite s r i (i / 8) new)
  | .MF_VDLASTH => some (mfRegWrite s r i i new)
  | .MF_VDLASTL => some (mfRegWrite s r i i new)
  | .MF_VVSTAMPH => some (mfRegWrite s r i i new)
  | .MF_VVSTAMPL => some (mfRegWrite s r i i new)
  | .MFU_JCTL => some (jctlWrite s v)
  | _ => none

/-- A base-address write of a register of chapters 10 to 18 that its chapter gives rules; none for the others. A request for SPRING meets
VDD_CORE at a level that the write does not tell (R337): a free value. -/
def deviceWrite (s : State) (q : Req) (r : RegName) (i v : Nat) (new : BitVec 36) : Option State :=
  match r with
  | .GRF_LOCK => some (graftRegWrite s r i v)
  | .GRF_LDA => some (graftRegWrite s r i v)
  | .GRF_LDD => some (graftRegWrite s r i v)
  | .GRF_MATCH => some (graftRegWrite s r i v)
  | .CORE_RST => some (coreRstWrite s i v)
  | .CORE_FRM => some (coreFrmWrite s i v)
  | .CORE_WDT => some (wdtWrite s i v)
  | .CORE_WDK => some (wdkWrite s i v)
  | .VU_VLOAD => some (vuVloadWrite s i v)
  | .BANK_OWN => some (bankOwnWrite s i new)
  | .LOCK_CMD => some (lockCmd s q i v)
  | .TIDE_COMMIT => some (tideCommitWrite s v)
  | .TSLOT_ATH => some (tslotWrite s r i v)
  | .TSLOT_ATL => some (tslotWrite s r i v)
  | .FL_PROT => some (lockWrite s r i new)
  | .FL_OTPLK => some (lockWrite s r i new)
  | .TB_CTL => some (tbCtlWrite s v)
  | .TB_RATE => some (tbRateWrite s v)
  | .TB_SETL => some (rangeWrite s F.TB_SETL_v 0 (v % 2 ^ 36) 64000000000 F.TB_STAT_verr 0)
  | .TB_PPSDLY => some (rangeWrite s F.TB_PPSDLY_d 0 (v % 2 ^ 36) 32000000000 F.TB_STAT_verr 0)
  | .PWR_DEVRST => some (devrstWrite s v)
  | .PWR_ALARM => some (alarmWrite s v)
  | .MODE_CTL => let (x, s) := s.draw 2000; some (modeCtlWrite s v x)
  | .LK_CTL => some (lkCtlWrite s i v)
  | .LK_NET => some (lkNetWrite s v)
  | .LK_WLOAD => some (lkWloadWrite s v)
  | .GT_TREE => some (if new = s.reg r i then s else gtOpenWrite s r new)
  | .GT_BIND => some (if new = s.reg r i then s else gtOpenWrite s r new)
  | .GT_PINL => some (rangeWrite s F.GT_PINL_v 0 (v % 2 ^ 36) 64000000000 F.GT_STAT_cfgerr 0)
  | .GT_PCTL => some (gtPctlWrite s v)
  | .KU_CMD => some (kuCmdWrite s v)
  | .SMB_CTL => some (smbCtlWrite s i v)
  | .SMB_POP => some (smbPopWrite s i v)
  | .SMB_RSP => some (smbRspWrite s i v)
  | .SPI_CTL => some (spiCtlWrite s i v)
  | .SPI_TX => some (spiPush s i v)
  | _ => none

/-- A base-address write that a chapter gives rules of its own; none where R11 alone says what it does. -/
def ownRules (s : State) (q : Req) (r : RegName) (i v : Nat) (new : BitVec 36) : Option State :=
  match loopWrite s r i v new with
  | some s' => some s'
  | none => deviceWrite s q r i v new

/-- R11, R12: a write of a whole register by requester `q` through an alias, where hardware claims none of its bits in this timer cycle. -/
def regStore (s : State) (q : Req) (r : RegName) (i : Nat) (a : Alias) (v : Nat) : State :=
  let new := s.written_ r i a v
  let acts := woBits r a v
  match r with
  | .EV_SRC => evWrite s q r i new acts
  | .EV_CTL => evWrite s q r i new acts
  | .EV_OWN => evWrite s q r i new acts
  | .EV_STAT => evWrite s q r i new acts
  | .EV_SW => evWrite s q r i new acts
  | .LC_IN => lcWrite s q r i (i / 4) new acts
  | .LC_LUT => lcWrite s q r i i new acts
  | .LC_CTL => lcWrite s q r i i new acts
  | .LC_FILT => lcWrite s q r i i new acts
  | .LC_STAT => lcWrite s q r i i new acts
  | .LC_OWN => lcWrite s q r i i new acts
  | .SNAP_LIST => snapWrite s q r i a v
  | .SNAP_DST => snapWrite s q r i a v
  | .SNAP_ATH => snapWrite s q r i a v
  | .SNAP_ATL => snapWrite s q r i a v
  | .SNAP_GO => snapWrite s q r i a v
  | .SNAP_STAT => snapWrite s q r i a v
  | .LK_TXD => txWrite s q r i a v
  | .LK_TXW => txWrite s q r i a v
  | .LK_TXO => txWrite s q r i a v
  | .LK_TXL => txWrite s q r i a v
  | .LK_TXS => txWrite s q r i a v
  | .VU_PEND => if a = .set then vuPendSet s (i / 8) (i % 8) v else s.setReg r i new
  | .CU_STAT => if a = .clr then cuStatClear s i v new else s
  | .TZ_STAT => if a = .clr ∧ F.TZ_STAT_lat.of v = 1 then cuSettle (tzUnlatch s i) else s
  | .DBG_CTL => denyWrite s a v
  | .GPIO_CFG => gpioCfgWrite s i a v
  | .GPIO_OUT => gpioOutWrite s i a v
  | .SMB_IMG => smbImgWrite s i a v
  | _ =>
    if a = .base then (ownRules s q r i v new).getD (s.setReg r i new) else s.setReg r i new

/-- R431: a bit that the set alias has set stays set against the clear alias for the rest of this timer cycle. -/
def setHolds (s : State) (r : RegName) (i : Nat) (a : Alias) (v : Nat) : State :=
  if a = .set ∧ setBits r v ≠ 0 then s.mark r i (BitVec.ofNat 36 (setBits r v)) else s

/-- R11 to R14, R431: a write of a whole register by requester `q` through an alias. -/
def regWrite (s : State) (q : Req) (r : RegName) (i : Nat) (a : Alias) (v : Nat) : State :=
  let k := s.out.length
  let s := (cuOfReg r i).elim s (fun u => cuFlush s u s.now)
  let s' := setHolds (regStore s q r i a (s.yielded r i a v)) r i a v
  if (cuOfReg r i).isSome then cuSettleFrom k s' else s'

/-! ### Accesses by address -/

/-- R8, R9, R430, R431: a load of `size` nonets at address `a` of peripheral space: its value, with the state after it; none where the access
breaks R8 or meets an unassigned block. -/
def periphRead (s : State) (q : Req) (a size : Nat) : Option (Nat × State) :=
  match periphAcc a size with
  | .reg r i => some (regRead s q r i)
  | .half r i hi =>
    let s := regSync s r i
    let v := regShow s q r i
    some (if hi then v / 2 ^ 18 else v % 2 ^ 18, s)
  | .free => some (0, s)
  | .align => none
  | .gone => none

/-- R8, R430: a store at address `a` of peripheral space is allowed. -/
def periphStorable (a size : Nat) : Bool :=
  match periphAcc a size with
  | .reg .. => true
  | .free => true
  | _ => false

/-- R8, R430: a store of `v` at address `a` of peripheral space; without effect where it is not allowed. -/
def periphWrite (s : State) (q : Req) (a size v : Nat) : State :=
  match periphAcc a size with
  | .reg r i => regWrite s q r i (aliasOf a).1 v
  | _ => s

/-! ### The commands -/

/-- R18: an access by `q` at `a` has the capability it needs: a core's stands in its capability register `k`. The accesses of the link and of
the debug port are checked where they arrive (R363, R427). The cause of the trap where it has not. -/
def accessCause (s : State) (q : Req) (k perm a size : Nat) : Option Nat :=
  match q with
  | .core c => capCheck ((s.coreOf c).cap k) [perm] a size
  | _ => none

/-- R18: an access by `q` without the capability it needs raises a trap of the core and does not touch the register. -/
def accessTrap (s : State) (q : Req) (cause a : Nat) : State :=
  match q with
  | .core c => if canRun s c then s.setCore c ((s.coreOf c).raise cause 0 (s.coreOf c).pc a) else s
  | _ => s

/-- R11, R18: a store to a register, by a core through its capability register `k`. -/
def execRegisterWrite (t : Nat) (q : Req) (k : Fin 8) (a : Addr) (dbl : Bool) (v : DWord) (s : State) :
    Host.Outcome State Fault Refusal :=
  event t s (fun _ => regionOf a.toNat == .periph) (fun s =>
    match accessCause s q k permST a.toNat (if dbl then 4 else 2) with
    | some cause => accessTrap s q cause a.toNat
    | none =>
      let n := if dbl then 4 else 2
      if !periphStorable a.toNat n then accessTrap s q 5 a.toNat
      else periphWrite s q a.toNat n (if dbl then v.toNat else v.toNat % 2 ^ 18))

/-- R11, R18: a read of a register with an RC field, by a core through its capability register `k`. -/
def execRcFieldRead (t : Nat) (q : Req) (k : Fin 8) (a : Addr) (dbl : Bool) (s : State) : Host.Outcome State Fault Refusal :=
  let s := s.tick t
  let n := if dbl then 4 else 2
  let checked (r : State) : Host.Outcome State Fault Refusal :=
    match accessCause s q k permLD a.toNat n with
    | some cause => ok (accessTrap s q cause a.toNat)
    | none => ok r
  if regionOf a.toNat ≠ .periph then ok s
  else
    match periphAcc a.toNat n with
    | .align => checked (accessTrap s q 5 a.toNat)
    | .gone => checked (accessTrap s q 5 a.toNat)
    | .reg r i =>
      if r.hasRc then
        let (v, s) := regRead s q r i
        checked (s.emit (.data v))
      else ok s
    | _ => ok s

end Sys2Proof.Machine
end

