-- ==== Sys2Proof/Machine/LoadStore.lean ====
section
/-! DEFINITION. Loads and stores of the P18 cores, the store buffer and the tandem queue (09_p18_instruction_set.md, R197 to R201 and R220;
10_pipeline_and_microcode.md, R228 to R232 and R239). -/

namespace Sys2Proof.Machine

/-! ### Alignment and regions (R199, R430) -/

/-- R199: a double word stands at an even address, a line at a multiple of 8. -/
def unitAligned (a size : Nat) : Bool := if size = 8 then a % 8 == 0 else if size = 4 then a % 2 == 0 else true

/-- R8, R199, R291, R304, R430: an access of `size` nonets at `a`, a store where `st`, raises no access-alignment trap. -/
def accessOk (a size : Nat) (st : Bool) : Bool :=
  regionOf (a + size - 1) == regionOf a &&
    (match regionOf a with
      | .sram => bankAt a == bankAt (a + size - 1) && unitAligned a size
      | .flash => unitAligned a size && !(st && (size == 8 || (size == 2 && a % 2 == 1)))
      | .rom => !st && unitAligned a size
      | .otp => !st && unitAligned a size
      | .bstore => (size == 2 || size == 4) && a % 2 == 0
      | .bram => (size == 2 || size == 4) && a % 2 == 0
      | .periph =>
        if st then periphStorable a size
        else match periphAcc a size with
          | .align => false
          | .gone => false
          | _ => true
      | .tide => !st || size == 2 || size == 4
      | .unmapped => false)

/-! ### Units of memory (R7) -/

/-- R7: the value of words in descending significance. -/
def gather (ws : List Word) : Nat := ws.foldl (fun n w => n * 2 ^ 18 + w.toNat) 0

/-- R7, R200: the nonets `off` to `off + size - 1` of a value of `n` nonets. -/
def cutNonets (v n off size : Nat) : Nat := v / 2 ^ (9 * (n - off - size)) % 2 ^ (9 * size)

/-- The words that an access of `size` nonets at `a` touches. -/
def wordSpan (a size : Nat) : Nat := (a + size - 1) / 2 - a / 2 + 1

/-- R200: the value of an access at `a` from the words it touches. -/
def ofWords (a size : Nat) (ws : List Word) : Nat := cutNonets (gather ws) (2 * ws.length) (a % 2) size

/-- R281, R282: core `c` reads `n` words from SRAM word `k` on: their data and the conjunction of their tags; none at an uncorrectable word. -/
def sramLoad (s : State) (c k : Nat) : Nat → Option (List Word × Bool) × State
  | 0 => (some ([], true), s)
  | n + 1 =>
    match sramRead s 0 c k with
    | (none, s) => (none, s)
    | (some x, s) =>
      match sramLoad s c (k + 1) n with
      | (none, s) => (none, s)
      | (some (l, t), s) => (some (x.w :: l, x.tag && t), s)

/-- R301, R307: the value of an access to flash at margin level 0, from the one or two lines it touches; none at an uncorrectable line. -/
def flashValue (s : State) (a size : Nat) : Option Nat × State :=
  match flashRead s (a / 8) with
  | (none, s) => (none, s)
  | (some d, s) =>
    if (a + size - 1) / 8 = a / 8 then (some (cutNonets d.toNat 8 (a % 8) size), s)
    else
      match flashRead s (a / 8 + 1) with
      | (none, s) => (none, s)
      | (some e, s) => (some (cutNonets (d.toNat * 2 ^ 72 + e.toNat) 16 (a % 8) size), s)

/-! ### The store buffer (R228 to R230) -/

/-- R229: two accesses share a nonet. -/
def overlaps (a n b m : Nat) : Bool := decide (a < b + m) && decide (b < a + n)

/-- R229: the youngest entry that overlaps a load. -/
def sbYoungest (sb : List SbEntry) (a size : Nat) : Option SbEntry := sb.reverse.find? (fun e => overlaps a size e.ea e.size)

/-- R229: an entry covers every nonet of a load. -/
def SbEntry.covers (e : SbEntry) (a size : Nat) : Bool := decide (e.ea ≤ a) && decide (a + size ≤ e.ea + e.size)

/-- R229: what a load takes from an entry that covers it. -/
def SbEntry.take (e : SbEntry) (a size : Nat) : Nat := cutNonets e.data.toNat e.size (a - e.ea) size

/-- R230: the buffer holds a store to region `r`. -/
def sbHolds (sb : List SbEntry) (r : Region) : Bool := sb.any (fun e => regionOf e.ea == r)

/-! ### Loads -/

/-- The outcome of a load: its value with the tag that LD.K meets, a trap, or a wait. -/
inductive LoadRes where
  | val (v : Nat) (tag : Bool)
  | trap (cause : Nat)
  | wait
  deriving DecidableEq, Repr

/-- R256: the load touches the frame area of the core. -/
def inFrameArea (s : State) (c a size : Nat) : Bool :=
  overlaps a size (s.get F.CORE_FRM_base c) (40 * s.get F.CORE_FRM_size c)

/-- R227, R229: a load from a region that forwards: from the buffer, or by `m` from memory; after a partial overlap, once the buffer is
empty. -/
def forwarded (s : State) (h : CoreS) (a size : Nat) (m : LoadRes × State) : (LoadRes × CoreS) × State :=
  if h.drain && !h.sb.isEmpty then ((.wait, h), s)
  else
    match sbYoungest h.sb a size with
    | none => ((m.1, { h with drain := false }), m.2)
    | some e =>
      if e.covers a size then ((.val (e.take a size) (e.cap && e.tag), h), s) else ((.wait, { h with drain := true }), s)

/-! ### Flash, the rootstock ROM and the OTP window (R234, R301, R307, R311) -/

/-- R300: the bank of a flash address. -/
def flBankAt (a : Nat) : Nat := a / 0o010000000

/-- Word `i` of a block of 16 words, word 0 first. -/
def blockWord (v : BitVec 288) (i : Nat) : BitVec 18 := v.extractLsb' (270 - 18 * i) 18

/-- R301, R307, R310, R311: a core reads lines `ls` of flash, of bank `b`: their data by line, with those that are uncorrectable. -/
def flashLines (s : State) (b : Nat) (ls : List Nat) : (Store (BitVec 72) × List Nat) × State :=
  let lvl := s.get F.FL_BSTAT_mlvl b
  ls.foldl (fun (p : (Store (BitVec 72) × List Nat) × State) l =>
    if lvl ≠ 0 ∧ !(p.2.flOf b).run.isSome then
      let (d, s) := flashRaw p.2 lvl l
      ((p.1.1 ++ [(l, d)], p.1.2), s)
    else
      match flashRead p.2 l with
      | (some d, s) => ((p.1.1 ++ [(l, d)], p.1.2), s)
      | (none, s) => ((p.1.1, p.1.2 ++ [l]), s)) (([], []), s)

/-- R234: a block with its words enters the data cache of a core, which holds 256 blocks. -/
def dcFill (s : State) (h : CoreS) (k : Nat) (v : BitVec 288) : CoreS × State :=
  let (dc, s) := cacheRoom s h.dc 256
  ({ h with dc := Store.set (fun _ => none) dc k (some v) }, s)

/-- R234, R235, R239, R301, R307, R311: block `k` of a region that the data cache serves, of which a load touches lines `lo` to `hi`: its words,
and whether a touched line is uncorrectable. The cache, off in SLACK and at a margin level, answers a hit; a miss on an idle bank reads
the block and keeps it, if it is good. -/
def blockRead (s : State) (h : CoreS) (k lo hi : Nat) : ((BitVec 288 × Bool) × CoreS) × State :=
  let words (f : Nat → Word) : BitVec 288 := BitVec.ofNat 288 (gather ((List.range 16).map f))
  let b := flBankAt (32 * k)
  let flash := regionOf (32 * k) == .flash
  let on := !slack s && !(flash && s.get F.FL_BSTAT_mlvl b != 0)
  match if on then Store.get (fun _ => none) h.dc k else none with
  | some v => (((v, false), h), s)
  | none =>
    if flash then
      let idle := on && !(s.flOf b).run.isSome
      let ls := ((List.range 4).map (fun i => 4 * k + i)).filter (fun l => idle || (decide (lo ≤ l) && decide (l ≤ hi)))
      let ((ds, bad), s) := flashLines s b ls
      let v := words (fun i => (Store.get (fun _ => 0) ds (4 * k + i / 4)).extractLsb' (54 - 18 * (i % 4)) 18)
      let (h, s) := if idle && bad.isEmpty then dcFill s h k v else (h, s)
      (((v, bad.any (fun l => decide (lo ≤ l) && decide (l ≤ hi))), h), s)
    else
      let v := words (fun i =>
        if regionOf (32 * k) = .rom then Config.romWord ((32 * k - 0o060000000) / 2 + i) else otpLoad s ((32 * k - 0o061000000) / 2 + i))
      let (h, s) := if on then dcFill s h k v else (h, s)
      (((v, false), h), s)

/-- R234, R301: a load from flash, the rootstock ROM or the OTP window. -/
def blockLoad (s : State) (h : CoreS) (a size : Nat) : (LoadRes × CoreS) × State :=
  let z := a + size - 1
  let answer (v : Nat) (n : Nat) (bad : Bool) : LoadRes := if bad then .trap 10 else .val (cutNonets v n (a % 32) size) false
  let (((v, e), h), s) := blockRead s h (a / 32) (a / 8) (z / 8)
  if z / 32 = a / 32 then ((answer v.toNat 32 e, h), s)
  else
    let (((w, f), h), s) := blockRead s h (z / 32) (a / 8) (z / 8)
    ((answer (v.toNat * 2 ^ 288 + w.toNat) 64 (e || f), h), s)

/-- R199, R201, R229, R230, R254, R275: core `c` loads `size` nonets at `a`, an access that R199 allows. -/
def memLoad (s : State) (c : Nat) (h : CoreS) (a size : Nat) : (LoadRes × CoreS) × State :=
  let words (f : Nat → Word) : Nat := ofWords a size ((List.range (wordSpan a size)).map f)
  match regionOf a with
  | .sram =>
    if awaitsBank s c (bankAt a) then ((.wait, h), s)
    else if !ownsBank s c (bankAt a) then ((.trap 11, h), s)
    else if inFrameArea s c a size && !h.fq.isEmpty then ((.wait, h), s)
    else forwarded s h a size (match sramLoad s c (sramIx a) (wordSpan a size) with
      | (some (ws, tag), s1) => (.val (ofWords a size ws) tag, s1)
      | (none, s1) => (.trap 10, s1))
  | .flash => if sbHolds h.sb .flash then ((.wait, h), s) else blockLoad s h a size
  | .rom => blockLoad s h a size
  | .otp => blockLoad s h a size
  | .bstore =>
    forwarded s h a size (.val (words (fun i =>
      let w := (a - 0o062000000) / 2 + i
      if w % 2 = 0 then (s.bstoreOf (w / 2)).extractLsb' 18 18 else (s.bstoreOf (w / 2)).extractLsb' 0 18)) false, s)
  | .bram =>
    if !h.tq.isEmpty then ((.wait, h), s)
    else forwarded s h a size (.val (words (fun i => wordOf (s.bramOf ((a - 0o063000000) / 2 + i)))) false, s)
  | .periph =>
    if sbHolds h.sb .periph then ((.wait, h), s)
    else match periphRead s (.core (Fin.ofNat 16 c)) a size with
      | some (v, s1) => ((.val v false, h), s1)
      | none => ((.trap 5, h), s)
  | .tide => ((.val 0 false, h), s)
  | .unmapped => ((.trap 5, h), s)

/-- R197 to R199: a load instruction of `size` nonets, whose encoding is right where `enc`; `fin` writes the value to its register. -/
def loadIns (t : Nat) (c : Fin 16) (mx : Bool) (x : Fields) (size : Nat) (enc : Bool)
    (fin : CoreS → Nat → Bool → CoreS) (s : State) : Host.Outcome State Fault Refusal :=
  ok (coreRun (s.tick t) c (fun s h =>
    if !(mxLegal mx x && enc) then (illegal, s)
    else
      let ea := h.ea mx x
      match capCheck (h.cap x.kc) [permLD] ea size with
      | some cause => (.trap cause ea, s)
      | none =>
        if !accessOk ea.toNat size false then (.trap 5 ea, s)
        else
          match memLoad s c h ea.toNat size with
          | ((.val v tag, h1), s1) => (.done (fin h1 v tag), s1)
          | ((.trap cause, _), s1) => (.trap cause ea, s1)
          | ((.wait, h1), s1) => (.wait, s1.setCore c h1)))

/-- R220: LD.N. -/
def execLdN (t : Nat) (c : Fin 16) (mx : Bool) (x : Fields) (s : State) : Host.Outcome State Fault Refusal :=
  loadIns t c mx x 1 true (fun h v _ => h.wr x.f27 (BitVec.ofNat 18 v)) s

/-- R220: LD.NS. -/
def execLdNs (t : Nat) (c : Fin 16) (mx : Bool) (x : Fields) (s : State) : Host.Outcome State Fault Refusal :=
  loadIns t c mx x 1 true (fun h v _ => h.wr x.f27 ((BitVec.ofNat 9 v).signExtend 18)) s

/-- R220: LD.W. -/
def execLdW (t : Nat) (c : Fin 16) (mx : Bool) (x : Fields) (s : State) : Host.Outcome State Fault Refusal :=
  loadIns t c mx x 2 true (fun h v _ => h.wr x.f27 (BitVec.ofNat 18 v)) s

/-- R220: LD.D; r even. -/
def execLdD (t : Nat) (c : Fin 16) (mx : Bool) (x : Fields) (s : State) : Host.Outcome State Fault Refusal :=
  loadIns t c mx x 4 (x.f27 % 2 == 0) (fun h v _ => h.wrP x.f27 (BitVec.ofNat 36 v)) s

/-- R201, R220: LD.K; bit 27 is 0. The tag comes with LK alone. -/
def execLdK (t : Nat) (c : Fin 16) (mx : Bool) (x : Fields) (s : State) : Host.Outcome State Fault Refusal :=
  loadIns t c mx x 8 (decide (x.f27 < 8))
    (fun h v tag => h.setCap x.f27 (Cap.ofLine (BitVec.ofNat 72 v) (tag && (h.cap x.kc).has permLK))) s

/-! ### Stores -/

/-- R201, R282: one SRAM word of a store: `n` nonets from nonet `off` of the word on take the value `v`. Written whole, the word takes
fresh check bits; in part, a poisoned word stays as it is. -/
def sramPart (s : State) (c k off n v : Nat) (tag : Bool) : State :=
  if n = 2 then sramOver s 0 c k (BitVec.ofNat 18 v) tag
  else
    match sramRead s 0 c k with
    | (none, s) => s
    | (some x, s) =>
      sramPut s k (BitVec.ofNat 18 (if off = 0 then v * 512 + x.w.toNat % 512 else x.w.toNat / 512 * 512 + v)) false

/-- R200, R201: core `c` stores `size` nonets at `a` of SRAM. -/
def sramStore (s : State) (c a size v : Nat) (tag : Bool) : State :=
  if size = 1 then sramPart s c (sramIx a) (a % 2) 1 (v % 512) false
  else if a % 2 = 1 then
    sramPart (sramPart s c (sramIx a) 1 1 (v / 512 % 512) false) c (sramIx a + 1) 0 1 (v % 512) false
  else
    (List.range (size / 2)).foldl (fun s i =>
      sramPart s c (sramIx a + i) 0 2 (v / 2 ^ (18 * (size / 2 - 1 - i)) % 2 ^ 18) tag) s

/-- R94: instruction `i` of the berth store is used by an armed berth. -/
def inArmedProgram (s : State) (i : Nat) : Bool :=
  s.armed.any (fun b => decide (s.get F.BERTH_PROG_base b ≤ i) &&
    decide (i ≤ s.get F.BERTH_PROG_base b + s.get F.BERTH_PROG_lenm1 b))

/-- R294: one word of the berth store; a tide's write of the instruction in the same timer cycle stands. -/
def bstoreWord (s : State) (w v : Nat) : State :=
  let x := s.bstoreOf (w / 2)
  if s.bstoreAtOf (w / 2) = s.now / 64 + 1 then s
  else s.setBstore (w / 2) (if w % 2 = 0 then BitVec.ofNat 18 v ++ x.extractLsb' 0 18 else x.extractLsb' 18 18 ++ BitVec.ofNat 18 v)

/-- R94: a store of `n` words to the berth store from word `w` on. -/
def bstoreStore (s : State) (w n v : Nat) : State :=
  if (List.range n).any (fun i => inArmedProgram s ((w + i) / 2)) then s.flag F.ENG_STAT_stwerr 0
  else (List.range n).foldl (fun s i => bstoreWord s (w + i) (v / 2 ^ (18 * (n - 1 - i)))) s

/-- R98, R294: a core's write of state word `j`; an engine write or a tide in the same cycle stands. -/
def bramStore (s : State) (j v : Nat) : State :=
  match s.engWOf j with
  | some w => if w.at_ = edgeCeil s.now then s else s.setBram j (sx 18 v)
  | none => s.setBram j (sx 18 v)

/-- A store to the berth state RAM of `n` words from word `j` on. -/
def bramStores (s : State) (j n v : Nat) : State :=
  (List.range n).foldl (fun s i => bramStore s (j + i) (v / 2 ^ (18 * (n - 1 - i)) % 2 ^ 18)) s

/-- R228: a store of `v`, `size` nonets at `a`, is performed: by core `c`, or where `q` is not a core by that requester. `tag` is the tag that
ST.K stores. -/
def storeTo (s : State) (q : Req) (c a size v : Nat) (tag : Bool) : State :=
  match regionOf a with
  | .sram => sramStore s c a size v tag
  | .flash =>
    let s := flStore s (flBankAt a) (a % 0o010000000) (size == 4) (size == 1) v
    if flBankAt (a + size - 1) = flBankAt a then s else flBreak s (flBankAt (a + size - 1))
  | .bstore => bstoreStore s ((a - 0o062000000) / 2) (size / 2) v
  | .bram => bramStores s ((a - 0o063000000) / 2) (size / 2) v
  | .periph => periphWrite s q a size v
  | .tide => tideStage s (s.get F.TIDE_CSEL_slot c) (a - 0o200000000) size (BitVec.ofNat 36 v)
  | _ => s

/-- R228: an entry of the store buffer of core `c` is performed. -/
def storePerform (s : State) (c : Nat) (e : SbEntry) : State :=
  storeTo s (.core (Fin.ofNat 16 c)) c e.ea e.size (e.data.toNat % 2 ^ (9 * e.size)) (e.cap && e.tag)

/-- R197 to R199, R228, R239, R275, R284: a store instruction of `size` nonets; `data` gives what it stores, and the capability's tag for
ST.K. In SLACK, a store to SRAM is performed at once, after every buffered store. -/
def storeIns (t : Nat) (c : Fin 16) (mx : Bool) (x : Fields) (size : Nat) (enc : Bool) (cap : Bool)
    (data : CoreS → Line × Bool) (s : State) : Host.Outcome State Fault Refusal :=
  ok (coreRun (s.tick t) c (fun s h =>
    if !(mxLegal mx x && enc) then (illegal, s)
    else
      let ea := h.ea mx x
      let (d, tag) := data h
      match capCheck (h.cap x.kc) (if cap && tag then [permST, permSK] else [permST]) ea size with
      | some cause => (.trap cause ea, s)
      | none =>
        let a := ea.toNat
        let sram := regionOf a == .sram
        if !accessOk a size true then (.trap 5 ea, s)
        else if sram && awaitsBank s c (bankAt a) then (.wait, s)
        else if sram && (!ownsBank s c (bankAt a) || inSlice (sramIx (a + size - 1))) then (.trap 11 ea, s)
        else if sram && slack s then
          if h.sb.isEmpty then (.done h, storePerform s c ⟨a, size, d, cap, tag⟩) else (.wait, s)
        else if h.sb.length < 8 then (.done { h with sb := h.sb ++ [⟨a, size, d, cap, tag⟩] }, s)
        else (.wait, s)))

/-- R220: ST.N. -/
def execStN (t : Nat) (c : Fin 16) (mx : Bool) (x : Fields) (s : State) : Host.Outcome State Fault Refusal :=
  storeIns t c mx x 1 true false (fun h => (((h.rd x.f27).extractLsb' 0 9).setWidth 72, false)) s

/-- R220: ST.W. -/
def execStW (t : Nat) (c : Fin 16) (mx : Bool) (x : Fields) (s : State) : Host.Outcome State Fault Refusal :=
  storeIns t c mx x 2 true false (fun h => ((h.rd x.f27).setWidth 72, false)) s

/-- R220: ST.D; r even. -/
def execStD (t : Nat) (c : Fin 16) (mx : Bool) (x : Fields) (s : State) : Host.Outcome State Fault Refusal :=
  storeIns t c mx x 4 (x.f27 % 2 == 0) false (fun h => ((h.rdP x.f27).setWidth 72, false)) s

/-- R201, R220: ST.K; bit 27 is 0. -/
def execStK (t : Nat) (c : Fin 16) (mx : Bool) (x : Fields) (s : State) : Host.Outcome State Fault Refusal :=
  storeIns t c mx x 8 (decide (x.f27 < 8)) true (fun h => ((h.cap x.f27).line, (h.cap x.f27).tag)) s

/-! ### Buffered work -/

/-- R228: the store buffer of core `c` performs its oldest entry. -/
def execStorePerform (t : Nat) (c : Fin 16) (s : State) : Host.Outcome State Fault Refusal :=
  let s := s.tick t
  match (s.coreOf c).sb with
  | [] => ok s
  | e :: sb => ok (storePerform (s.setCore c { s.coreOf c with sb := sb }) c e)

/-- R232: the tandem queue of core `c` performs its oldest move. -/
def execTandemMovePerform (t : Nat) (c : Fin 16) (s : State) : Host.Outcome State Fault Refusal :=
  let s := s.tick t
  match (s.coreOf c).tq with
  | [] => ok s
  | (j, v) :: tq => ok (bramStore (s.setCore c { s.coreOf c with tq := tq }) j v.toNat)

end Sys2Proof.Machine
end

