-- ==== Sys2Proof/Machine/LinkTarget.lean ====
section
/-! DEFINITION. Requests that a device serves over the link, remote snapshots, and the completion of a bank handover (15_velub_link.md, R362
to R366; 12_memory_locks_tides.md, R279, R297). -/

namespace Sys2Proof.Machine

/-! ### The checks of a request (R363) -/

/-- R362: the window that a request names. -/
def reqWin (f : Frame) : Nat := frameW f 0 / 2 ^ 12

/-- R362: the offset of a request. -/
def reqOff (f : Frame) : Nat := framePair f 1 % 2 ^ 27

/-- R362: the words of a request. -/
def reqCnt (f : Frame) : Nat := frameW f 3 % 32

/-- R363: the first nonet address that a request names. -/
def reqAddr (s : State) (f : Frame) : Nat := (s.winOf (reqWin f)).cap.base.toNat + reqOff f

/-- R363: the sizes of the accesses that a range of `n` words of peripheral space takes, from address `a` on; none where one of them breaks
R8 or covers half of a double-word register. -/
def periphUnits (a : Nat) : Nat → Option (List Nat)
  | 0 => some []
  | 1 =>
    match periphAcc a 2 with
    | .reg .. => some [2]
    | .free => some [2]
    | _ => none
  | n + 2 =>
    match periphAcc a 4 with
    | .reg .. => (periphUnits (a + 4) n).map (4 :: ·)
    | _ =>
      match periphAcc a 2 with
      | .reg .. => (periphUnits (a + 2) (n + 1)).map (2 :: ·)
      | .free => (periphUnits (a + 2) (n + 1)).map (2 :: ·)
      | _ => none

/-- R363: a bank is closed to the link. -/
def bankClosed (s : State) (k : Nat) : Bool :=
  !(s.is F.BANK_OWN_gl k || s.get F.BANK_OWN_kind k == 2) || s.is F.BANK_STAT_hpend k

/-- R363: the status of the first check that a READ or a WRITE fails, or 0. -/
def reqStatus (s : State) (f : Frame) : Nat :=
  let w := s.winOf (reqWin f)
  let wr := f.ty == 8
  let n := reqCnt f
  let a := reqAddr s f
  let limits := reqOff f % 2 == 0 && a % 2 == 0 && decide (1 ≤ n) && decide (n ≤ if wr then 28 else 31) &&
    decide (reqOff f + 2 * n ≤ w.cap.len.toNat) && f.pay.length == (if wr then 4 + n else 4)
  if !w.valid || !(w.any || w.node == f.src) then 1
  else if !w.cap.has (if wr then permST else permLD) then 2
  else if !limits then 3
  else if regionOf a = .sram then
    let e := a + 2 * n - 1
    if bankClosed s (bankAt a) || bankClosed s (bankAt e) || inSlice (sramIx e) then 4 else 0
  else if (periphUnits a n).isNone then 3
  else 0

/-! ### Performing a request (R362, R363, R365) -/

/-- R362: the RDATA that answers request `f`: the status, the index of the frame, and its words. -/
def reqAnswer (s : State) (f : Frame) (st idx : Nat) (ws : List Word) : State :=
  lkOut s (mkFrame s 11 f.src.toNat (s.get F.LK_NET_hops 0) f.core.toNat f.tag.toNat
    (BitVec.ofNat 18 (st * 2 ^ 14 + idx) :: ws))

/-- R358, R363: a refused request is recorded; a SNAP names no window. -/
def reqRefused (s : State) (f : Frame) (st : Nat) : State :=
  let s := (s.put F.LK_REFLOG_st 0 st).put F.LK_REFLOG_src 0 f.src.toNat
  lkCause ((s.put F.LK_REFLOG_win 0 (if f.ty = 10 then 0 else reqWin f)).flag F.LK_GSTAT_refd 0) F.LK_IEN_ref

/-- R363: a READ of peripheral space: its words. -/
def periphReads (s : State) (q : Req) (a : Nat) : List Nat → List Word × State
  | [] => ([], s)
  | n :: l =>
    let (v, s) := (periphRead s q a n).getD (0, s)
    let (ws, s) := periphReads s q (a + n) l
    ((if n = 4 then [BitVec.ofNat 18 (v / 2 ^ 18), BitVec.ofNat 18 v] else [BitVec.ofNat 18 v]) ++ ws, s)

/-- R363: a WRITE to peripheral space. -/
def periphWrites (s : State) (q : Req) (a : Nat) : List Nat → List Word → State
  | [], _ => s
  | n :: l, ws => periphWrites (periphWrite s q a n (gather (ws.take (n / 2)))) q (a + n) l (ws.drop (n / 2))

/-- R285, R363: the requester that a frame speaks for. -/
def reqBy (f : Frame) : Req := .link f.src (Fin.ofNat 16 f.core.toNat)

/-- R363: a READ that passed its checks. -/
def reqRead (s : State) (f : Frame) : State :=
  let a := reqAddr s f
  let n := reqCnt f
  if regionOf a = .sram then
    match linkRead s (sramIx a) n with
    | (some ws, s) => reqAnswer s f 0 0 ws
    | (none, s) => reqAnswer s f 5 0 []
  else
    let (ws, s) := periphReads s (reqBy f) a ((periphUnits a n).getD [])
    reqAnswer s f 0 0 ws

/-- R363: a WRITE that passed its checks. -/
def reqWrite (s : State) (f : Frame) : State :=
  let a := reqAddr s f
  let n := reqCnt f
  let ws := (f.pay.drop 4).take n
  if regionOf a = .sram then ws.zipIdx.foldl (fun s x => sramOver s 2 0 (sramIx a + x.2) x.1 false) s
  else periphWrites s (reqBy f) a ((periphUnits a n).getD []) ws

/-- R366: the items of a SNAP request. -/
def snapItems (f : Frame) : List Word := f.pay.drop 5

/-- R296, R366: a SNAP request is served. -/
def snapServed (s : State) (f : Frame) : Bool :=
  let k := s.get F.LK_SNAPB_bank 0
  let at_ := tbJoin (framePair f 1) (framePair f 3)
  s.lku.snap.isNone && s.is F.LK_SNAPB_en 0 && s.get F.BANK_OWN_kind k == 3 && !s.is F.BANK_STAT_hpend k &&
    !(snapItems f).any itemReserved && !(frameBit f 0 17 && s.reached at_)

/-- R366: a SNAP request. -/
def reqSnap (s : State) (p : Nat) (f : Frame) : State :=
  let n := (snapItems f).length
  if n = 0 ∨ 27 < n then reqAnswer (reqRefused s f 3) f 3 0 []
  else if !snapServed s f then reqAnswer (reqRefused s f 6) f 6 0 []
  else
    let due : Nat ⊕ Nat :=
      if frameBit f 0 17 then .inr (tbJoin (framePair f 1) (framePair f 3)) else .inl (edgeAfter s.now)
    { s.setSnap 16 { items := snapItems f, dst := 65536 * s.get F.LK_SNAPB_bank 0 + 0o040000000, due := some due, lines := [] } with lku := { s.lku with snap := some (p, f) } }

/-- R365: the requests of port `p` whose accesses are still under way. -/
def lkAdmitted (s : State) (p : Nat) : List (Nat × Nat × Nat) := (s.linkOf p).adm.filter (fun x => decide (s.now < x.1))

/-- R365: port `p` may admit a request. -/
def lkRoom (s : State) (p : Nat) : Bool := decide ((lkAdmitted s p).length < s.get F.LK_CAP_n 0)

/-- R365: a request is admitted, and takes `dur` fine ticks, at most 1 us, for its accesses; its input buffer is free. -/
def lkAdmit (s : State) (p : Nat) (f : Frame) (dur : Nat) : State :=
  let a := reqAddr s f
  let sram := regionOf a == .sram && f.ty != 10
  let e : Nat × Nat × Nat :=
    (s.now + min dur 64000, if sram then bankAt a else 64, if sram then bankAt (a + 2 * reqCnt f - 1) else 64)
  let s := lkFree (s.setLink p { s.linkOf p with adm := lkAdmitted s p ++ [e] }) p 0
  if f.ty = 10 then reqSnap s p f
  else
    let st := reqStatus s f
    if f.ty = 8 then (if st = 0 then reqWrite s f else reqRefused s f st)
    else if st = 0 then reqRead s f
    else reqAnswer (reqRefused s f st) f st 0 []

/-- R365, R391: a request for this device arrives: it is admitted, or waits behind the requests before it. In boot mode only WRITEs of the
direct partner are accepted. -/
def lkRequest (s : State) (p : Nat) (f : Frame) (dur : Nat) : State :=
  if inNetBoot s then
    let s := lkFree s p 0
    if f.ty == 8 && f.src == BitVec.ofNat 12 (s.get F.LK_PNODE_node p) then netWrite s f else s
  else if (s.linkOf p).wait.isEmpty && lkRoom s p then lkAdmit s p f dur
  else s.setLink p { s.linkOf p with wait := (s.linkOf p).wait ++ [f] }

/-! ### The commands -/

/-- R362, R363: a READ for this device. -/
def execRead (t : Nat) (p : Fin 4) (f : Frame) (dur : Nat) (s : State) : Host.Outcome State Fault Refusal :=
  lkSequenced t p f (fun s => f.ty == 9 && lkMine s f) (fun s => lkRequest s p f dur) s

/-- R362, R363: a WRITE for this device. -/
def execWrite (t : Nat) (p : Fin 4) (f : Frame) (dur : Nat) (s : State) : Host.Outcome State Fault Refusal :=
  lkSequenced t p f (fun s => f.ty == 8 && lkMine s f) (fun s => lkRequest s p f dur) s

/-- R366: a SNAP for this device. -/
def execSnap (t : Nat) (p : Fin 4) (f : Frame) (dur : Nat) (s : State) : Host.Outcome State Fault Refusal :=
  lkSequenced t p f (fun s => f.ty == 10 && lkMine s f) (fun s => lkRequest s p f dur) s

/-- R365: the oldest request that waits at a port is admitted. -/
def execRequestAdmit (t : Nat) (p : Fin 4) (dur : Nat) (s : State) : Host.Outcome State Fault Refusal :=
  event t s (fun s => !(s.linkOf p).wait.isEmpty && lkRoom s p)
    (fun s => match (s.linkOf p).wait with
      | f :: l => lkAdmit (s.setLink p { s.linkOf p with wait := l }) p f dur
      | [] => s)

/-- R366: the RDATA frames of a remote snapshot, 31 words each. -/
def snapAnswers (s : State) (f : Frame) (idx : Nat) : List (List Word) → State
  | [] => s
  | ws :: l => snapAnswers (reqAnswer s f 0 idx ws) f (idx + 1) l

/-- The words of lines. -/
def lineWords (l : List Line) : List Word := l.flatMap (fun d => [lineW d 0, lineW d 1, lineW d 2, lineW d 3])

/-- R357, R366: the output of the remote snapshot is in its bank, and goes to the originator, unless the port that asked for it was lost. -/
def snapRemoteDone (s : State) : State :=
  let ls := (s.snapOf 16).lines
  let s' := guestLines (s.setSnap 16 {}) (sramIx (s.snapOf 16).dst) ls
  let s' := { s' with lku := { s'.lku with snap := none, mute := false } }
  match if s.lku.mute then none else s.lku.snap with
  | some (_, f) => snapAnswers s' f 0 ((lineWords ls).toChunks 31)
  | none => s'

/-- R297, R366: the snapshot of core `c` (16: the remote one) is taken, at the first timer edge after the list was read or at its instant; every
tide whose instant has come has been applied. `reads` are the readings of the integrator channels among the items, in order. -/
def execSnapshotTake (t : Nat) (c : Fin 17) (reads : List (Int × BitVec 7)) (s : State) : Host.Outcome State Fault Refusal :=
  event t s
    (fun s => (s.snapOf c).lines.isEmpty && !(List.range 4).any (tideComes s) && !s.gt.apply.any (fun r => s.reached r.inst) &&
      ichReadsOk s (s.snapOf c).items reads &&
      (match (s.snapOf c).due with
        | some (.inl x) => decide (x ≤ s.now) && s.now % 64 == 0
        | some (.inr v) => s.reached v
        | none => false))
    (fun s =>
      let items := (s.snapOf c).items
      let hdr := snapHeader s items.length
      let (ls, s) := snapRecords s items reads
      s.setSnap c { s.snapOf c with due := none, lines := hdr ++ ls })

/-- R297, R366: the output of a snapshot has been written: of core `c`, or with 16 of the remote one. -/
def execSnapshotDone (t : Nat) (c : Fin 17) (s : State) : Host.Outcome State Fault Refusal :=
  event t s (fun s => !(s.snapOf c).lines.isEmpty) (fun s => if c.val = 16 then snapRemoteDone s else snapDone s c)

/-! ### The end of a handover (R279) -/

/-- R279: an access to bank `k` is outstanding: an entry of a store buffer or a line of a frame queue, a vector load, an admitted link
transaction, or a snapshot whose writes have begun. -/
def bankBusy (s : State) (k : Nat) : Bool :=
  let inBank (a n : Nat) : Bool := regionOf a == .sram && (bankAt a == k || bankAt (a + n - 1) == k)
  (List.range 16).any (fun c =>
    let h := s.coreOf c
    h.sb.any (fun e => inBank e.ea e.size) || h.fq.any (fun l => inBank l.ea 8) ||
      (match h.load with
        | some (x, vs) => vs.any (fun v => inBank (s.get F.VU_VTAB_base c + 32 * v) 32 && vecOwns s c x k)
        | none => false) ||
      (!(s.snapOf c).lines.isEmpty && inBank (s.snapOf c).dst (8 * (s.snapOf c).lines.length))) ||
  (!(s.snapOf 16).lines.isEmpty && bankAt (s.snapOf 16).dst == k) ||
  [0, 1, 2, 3].any (fun p => (lkAdmitted s p).any (fun x => x.2.1 == k || x.2.2 == k))

/-- R279: the outstanding accesses have been performed, and the handover completes. -/
def execHandoverComplete (t : Nat) (k : Fin 64) (s : State) : Host.Outcome State Fault Refusal :=
  event t s (fun s => s.is F.BANK_STAT_hpend k && !bankBusy s k) (fun s => bankOwnDone s k)

end Sys2Proof.Machine
end

