-- ==== Sys2Proof/Machine/Debug.lean ====
section
/-! DEFINITION. The debug port: tokens and sessions (17_boot_and_security.md, R402, R403), the TAP and boundary scan (18_pins_interfaces_electrical.md,
R426, R427). -/

namespace Sys2Proof.Machine

/-! ### Sessions (R402, R403) -/

/-- R402: SHA-256 of a message of `n` bits, at most 447. -/
def shaBits (v n : Nat) : BitVec 256 :=
  let block := v * 2 ^ (512 - n) + 2 ^ (511 - n) + n
  (shaBlock shaInit (octets 64 block)).foldl (fun x w => BitVec.ofNat 256 (x.toNat * 2 ^ 32 + w.toNat)) 0

/-- R315: the device serial. -/
def otpSerial (s : State) : Nat := gather [otpWord s 0, otpWord s 1, otpWord s 2, otpWord s 3]

/-- R403: three refused tokens or deny close the port until device reset. -/
def dbgClosed (s : State) : Bool := s.is F.DBG_CTL_deny 0 || s.get F.DBG_SCOPE_nref 0 == 3

/-- R403: the open session grants scope bit `b`. -/
def dbgGrants (s : State) (b : Nat) : Bool := s.is F.BOOT_STAT_dbg 0 && (s.get F.DBG_SCOPE_scope 0).testBit (b - 13)

/-- R402, R427: the fields of a token. -/
def tokSerial (x : BitVec 1242) : Nat := (x.extractLsb' 1170 72).toNat
/-- R402. -/
def tokChallenge (x : BitVec 1242) : BitVec 128 := x.extractLsb' 1042 128
/-- R402. -/
def tokScope (x : BitVec 1242) : Nat := (x.extractLsb' 1024 18).toNat

/-- R402: the key unit accepts a token. -/
def tokOk (s : State) (x : BitVec 1242) : Bool :=
  let n (lo : Nat) : Nat := (x.extractLsb' lo 256).toNat
  otpWritten s 192 && otpPacked s 192 == sha256 (octets 32 (n 768) ++ octets 32 (n 512)) &&
    tokSerial x == otpSerial s && tokChallenge x == Config.challenge s.dbg.chal &&
    ecdsaOk (n 768) (n 512) (n 256) (n 0) (shaBits (x.extractLsb' 1024 218).toNat 218).toNat

/-- R402, R403: the verdict on the token under verification; it replaces the challenge. -/
def tokVerdict (s : State) (x : BitVec 1242) : State :=
  let s' := { s with dbg := { s.dbg with tok := none } }
  if dbgClosed s then s'
  else
    let s' := { s' with dbg := { s'.dbg with chal := s'.dbg.chal + 1 } }
    if tokOk s x then
      ((s'.put F.BOOT_STAT_dbg 0 1).put F.DBG_SCOPE_scope 0 (tokScope x / 2 ^ 13)).fireIf (s.is F.KU_IEN_dbg 0) 594
    else
      let s' := s'.put F.DBG_SCOPE_nref 0 (s.get F.DBG_SCOPE_nref 0 + 1)
      if dbgClosed s' then dbgClose s' else s'

/-- R402: the verdict on a token. -/
def execTokenVerdict (t : Nat) (s : State) : Host.Outcome State Fault Refusal :=
  event t s (fun s => s.dbg.tok.isSome) (fun s => match s.dbg.tok with | some x => tokVerdict s x | none => s)

/-- R403: a set-alias write of DBG_CTL. -/
def execDebugDeny (t : Nat) (v : Word) (s : State) : Host.Outcome State Fault Refusal :=
  event t s (fun _ => F.DBG_CTL_deny.of v.toNat == 1) (fun s => denyWrite s .set v.toNat)

/-! ### The TAP (R426, R427) -/

/-- R426: IDCODE. -/
def idcode : Nat := 0o2034220737

/-- The TAP holds instruction `code`, and the boundary cells act on the pins as `m` says. -/
def tapSet (s : State) (code : BitVec 8) (m : Scan) : State := scanned s { s with dbg := { s.dbg with ir := code, scan := m } }

/-- R426, R427: a scan of the boundary register under instruction `code`: what the cells captured goes out, a free value where the state does not
tell it, and they take `x` and act on the pins as `m` says. -/
def tapScan (s : State) (code : BitVec 8) (m : Scan) (x : List Bool) : State :=
  let (v, s) := s.draw (2 ^ x.length)
  let n := (List.range x.length).foldl (fun n i => n + b2n (cellCapture s i (v.testBit i)) * 2 ^ i) 0
  (scanned s { s with dbg := { s.dbg with ir := code, scan := m, cells := x } }).emit (.data n)

/-- R411: the pins of the TAP are sensed: on every rung but Dormant and Vigil. -/
def tapOn (s : State) : Bool := decide (s.rung < 5)

/-- R427: EXTEST; without scope bit 14 it acts as BYPASS. -/
def execExtest (t : Nat) (x : List Bool) (s : State) : Host.Outcome State Fault Refusal :=
  event t s tapOn (fun s => if dbgGrants s 14 then tapScan s 0 .extest x else tapSet s 0 .normal)

/-- R427: IDCODE. -/
def execIdcode (t : Nat) (s : State) : Host.Outcome State Fault Refusal :=
  event t s tapOn (fun s => (tapSet s 1 .normal).emit (.data idcode))

/-- R427: SAMPLE/PRELOAD. -/
def execSamplePreload (t : Nat) (x : List Bool) (s : State) : Host.Outcome State Fault Refusal :=
  event t s tapOn (fun s => tapScan s 2 .normal x)

/-- R427: CLAMP; without scope bit 14 it acts as BYPASS. -/
def execClamp (t : Nat) (s : State) : Host.Outcome State Fault Refusal :=
  event t s tapOn (fun s => tapSet s 4 (if dbgGrants s 14 then .clamp else .normal))

/-- R427: HIGHZ; without scope bit 14 it acts as BYPASS. -/
def execHighz (t : Nat) (s : State) : Host.Outcome State Fault Refusal :=
  event t s tapOn (fun s => tapSet s 5 (if dbgGrants s 14 then .highz else .normal))

/-- R402, R427: DBGCHAL; a closed port offers it no more. -/
def execDbgchal (t : Nat) (s : State) : Host.Outcome State Fault Refusal :=
  event t s tapOn (fun s =>
    let s := tapSet s 0o40 .normal
    if dbgClosed s then s else s.emit (.data (Config.challenge s.dbg.chal).toNat))

/-- R402, R427: DBGTOK: a token is written, and verified where no other is under verification. -/
def execDbgtok (t : Nat) (x : BitVec 1242) (s : State) : Host.Outcome State Fault Refusal :=
  event t s tapOn (fun s =>
    let s := tapSet s 0o41 .normal
    if dbgClosed s || s.dbg.tok.isSome then s else { s with dbg := { s.dbg with tok := some x } })

/-- R427: BYPASS: its own code, and every code that the table does not list. -/
def execBypass (t : Nat) (code : BitVec 8) (s : State) : Host.Outcome State Fault Refusal :=
  event t s (fun s => tapOn s && !([0, 1, 2, 4, 5, 0o40, 0o41, 0o42].contains code.toNat)) (fun s => tapSet s code .normal)

/-! ### DBGACC (R403, R427) -/

/-- R281, R282, R403, R427: a debug read of `size` nonets; none where it is refused. DESIGN CHOICE (log 141): MEM_ECCADR shows it as core 0's. -/
def dbgRead (s : State) (a size : Nat) : Option Nat × State :=
  let words (f : Nat → Word) : Nat := ofWords a size ((List.range (wordSpan a size)).map f)
  match regionOf a with
  | .sram =>
    match sramLoad s 0 (sramIx a) (wordSpan a size) with
    | (some (ws, _), s) => (some (ofWords a size ws), s)
    | (none, s) => (none, s)
  | .flash => flashValue s a size
  | .rom => (some (words (fun i => Config.romWord ((a - 0o060000000) / 2 + i))), s)
  | .otp => (some (words (fun i => otpLoad s ((a - 0o061000000) / 2 + i))), s)
  | .bstore =>
    (some (words (fun i =>
      let w := (a - 0o062000000) / 2 + i
      if w % 2 = 0 then (s.bstoreOf (w / 2)).extractLsb' 18 18 else (s.bstoreOf (w / 2)).extractLsb' 0 18)), s)
  | .bram => (some (words (fun i => wordOf (s.bramOf ((a - 0o063000000) / 2 + i)))), s)
  | .periph =>
    match periphRead s .debug a size with
    | some (v, s) => (some v, s)
    | none => (none, s)
  | .tide => (some 0, s)
  | .unmapped => (none, s)

/-- R166, R403: the access would write an ownership register of the event fabric, which refuses it and sets cfgerr. -/
def ownershipAt (a size : Nat) : Bool :=
  match periphAcc a size with
  | .reg r _ => r == .EV_OWN || r == .LC_OWN
  | _ => false

/-- R403: an access would start or reset a core, which halts and resumes it. -/
def coreControlAt (a size : Nat) : Bool :=
  match periphAcc a size with
  | .reg r _ => r == .CORE_RST
  | _ => false

/-- R284, R403, R427: a debug write reaches its target. DEDUCED (log 84): scope bit 17 limits the writes of CORE_RST. -/
def dbgStorable (s : State) (a size : Nat) : Bool :=
  let r := regionOf a
  dbgGrants s 15 && (dbgGrants s 17 || r != .periph || !coreControlAt a size) && accessOk a size true && r != .tide && !(r == .flash && !dbgGrants s 13) &&
    !(r == .sram && inSlice (sramIx (a + size - 1)))

/-- R427: an access of DBGACC: what its next capture shows, and the state after it. -/
def dbgAccess (s : State) (wr : Bool) (a size v : Nat) : BitVec 74 × State :=
  let refused : BitVec 74 := BitVec.ofNat 74 (2 ^ 36)
  if a % 2 ≠ 0 then (refused, s)
  else if wr then
    if dbgStorable s a size then
      (if regionOf a == .periph && ownershipAt a size then refused else 0, storeTo s .debug 0 a size (v % 2 ^ (9 * size)) false)
    else (refused, s)
  else if dbgGrants s 16 && accessOk a size false then
    match dbgRead s a size with
    | (some d, s) => (BitVec.ofNat 74 (d % 2 ^ 36), s)
    | (none, s) => (refused, s)
  else (refused, s)

/-- R427: DBGACC: the result of the access before goes out, and the access that `x` names is performed; without a session it acts as
BYPASS. -/
def execDbgacc (t : Nat) (x : BitVec 74) (s : State) : Host.Outcome State Fault Refusal :=
  event t s tapOn (fun s =>
    let s := tapSet s 0o42 .normal
    if s.is F.BOOT_STAT_dbg 0 then
      let s := s.emit (.data s.dbg.cap.toNat)
      let size := if x.getLsbD 72 then 4 else 2
      let (c, s) := dbgAccess s (x.getLsbD 73) (x.extractLsb' 45 27).toNat size (x.extractLsb' 0 36).toNat
      { s with dbg := { s.dbg with cap := c } }
    else s)

end Sys2Proof.Machine
end

