-- ==== Sys2Proof/Machine/Multiply.lean ====
section
/-! DEFINITION. Multiplication, the accumulator and division of the P18 (R209 to R213). -/

namespace Sys2Proof.Machine

/-- R209: an instruction of format A with rd = 0 and no tandem field. -/
def mulLegal (x : Fields) : Bool := x.f27 == 0 && x.tan == 0

/-- R209, R210: MUL: the product for PH:PL. -/
def mulOp (x : Fields) (f : Word → Word → DWord) (h : CoreS) : CoreRes :=
  legalIf (mulLegal x) (.mul h { p := some (f (h.rd x.f23) (h.rd x.f19)) })

/-- R209, R210: MAC and MSC: the product, and the accumulator as every earlier instruction left it with the product combined. -/
def macOp (x : Fields) (f : Word → Word → DWord) (g : BitVec 54 → DWord → BitVec 54) (h : CoreS) : CoreRes :=
  let p := f (h.rd x.f23) (h.rd x.f19)
  legalIf (mulLegal x) (.mul h { p := some p, pa := some (g h.paNow p) })

/-- R209: MUL.S. -/
def execMulS (t : Nat) (c : Fin 16) (x : Fields) (s : State) : Host.Outcome State Fault Refusal :=
  coreIns t c (mulOp x mulS) s
/-- R209: MUL.U. -/
def execMulU (t : Nat) (c : Fin 16) (x : Fields) (s : State) : Host.Outcome State Fault Refusal :=
  coreIns t c (mulOp x mulU) s
/-- R209: MAC.S. -/
def execMacS (t : Nat) (c : Fin 16) (x : Fields) (s : State) : Host.Outcome State Fault Refusal :=
  coreIns t c (macOp x mulS (fun a p => a + p.signExtend 54)) s
/-- R209: MAC.U. -/
def execMacU (t : Nat) (c : Fin 16) (x : Fields) (s : State) : Host.Outcome State Fault Refusal :=
  coreIns t c (macOp x mulU (fun a p => a + p.setWidth 54)) s
/-- R209: MSC.S. -/
def execMscS (t : Nat) (c : Fin 16) (x : Fields) (s : State) : Host.Outcome State Fault Refusal :=
  coreIns t c (macOp x mulS (fun a p => a - p.signExtend 54)) s
/-- R209: MSC.U. -/
def execMscU (t : Nat) (c : Fin 16) (x : Fields) (s : State) : Host.Outcome State Fault Refusal :=
  coreIns t c (macOp x mulU (fun a p => a - p.setWidth 54)) s
/-- R209, R210: PAR reads the accumulator from before a multiply just executed; ra must be 0. It is itself a multiply that leaves
no update. -/
def execPar (t : Nat) (c : Fin 16) (x : Fields) (s : State) : Host.Outcome State Fault Refusal :=
  coreIns t c (fun h => legalIf (x.f23 == 0 && x.tan == 0) (.mul (h.wr x.f27 (parW h.pa x.f19)) {})) s
/-- R209: PAZ; all fields 0. -/
def execPaz (t : Nat) (c : Fin 16) (x : Fields) (s : State) : Host.Outcome State Fault Refusal :=
  coreIns t c (fun h => legalIf (x == 0) (.mul h { pa := some 0 })) s

/-- R212: a division: the quotient to w[rd], the remainder to w[rd + 1]; rd even. -/
def divOp (x : Fields) (legal : Bool) (f : CoreS → Word × Word) (h : CoreS) : CoreRes :=
  legalIf (x.f27 % 2 == 0 && x.tan == 0 && legal) (.done ((h.wr x.f27 (f h).1).wr (x.f27 + 1) (f h).2))

/-- R212: DIV.S. -/
def execDivS (t : Nat) (c : Fin 16) (x : Fields) (s : State) : Host.Outcome State Fault Refusal :=
  coreIns t c (divOp x true (fun h => divS (h.rd x.f23) (h.rd x.f19))) s
/-- R212: DIV.U. -/
def execDivU (t : Nat) (c : Fin 16) (x : Fields) (s : State) : Host.Outcome State Fault Refusal :=
  coreIns t c (divOp x true (fun h => divU (h.rd x.f23) (h.rd x.f19))) s
/-- R212: DIV.DS; ra even. -/
def execDivDs (t : Nat) (c : Fin 16) (x : Fields) (s : State) : Host.Outcome State Fault Refusal :=
  coreIns t c (divOp x (x.f23 % 2 == 0) (fun h => divDS (h.rdP x.f23) (h.rd x.f19))) s
/-- R212: DIV.DU; ra even. -/
def execDivDu (t : Nat) (c : Fin 16) (x : Fields) (s : State) : Host.Outcome State Fault Refusal :=
  coreIns t c (divOp x (x.f23 % 2 == 0) (fun h => divDU (h.rdP x.f23) (h.rd x.f19))) s

end Sys2Proof.Machine
end

