-- ==== Sys2Proof/Machine/Dispatch.lean ====
section
/-! DEFINITION. The meaning of every command, one arm for each constructor of `Instr`. -/

namespace Sys2Proof.Machine

def exec (i : Instr) (s : State) : Host.Outcome State Fault Refusal :=
  match i with
  | .registerWrite t q k a dbl v => Sys2Proof.Machine.execRegisterWrite t q k a dbl v s
  | .rcFieldRead t q k a dbl => Sys2Proof.Machine.execRcFieldRead t q k a dbl s
  | .ichEnable t n v => Sys2Proof.Machine.execIchEnable t n v s
  | .ichDisable t n v => Sys2Proof.Machine.execIchDisable t n v s
  | .ichReady t n => Sys2Proof.Machine.execIchReady t n s
  | .ichArm t n v => Sys2Proof.Machine.execIchArm t n v s
  | .ichDisarm t n v => Sys2Proof.Machine.execIchDisarm t n v s
  | .ichTrigger t n => Sys2Proof.Machine.execIchTrigger t n s
  | .windowEdge t n d r => Sys2Proof.Machine.execWindowEdge t n d r s
  | .fixedWindowOpen t n r => Sys2Proof.Machine.execFixedWindowOpen t n r s
  | .forcedClose t n d r => Sys2Proof.Machine.execForcedClose t n d r s
  | .windowResult t n => Sys2Proof.Machine.execWindowResult t n s
  | .overloadSet t n neg => Sys2Proof.Machine.execOverloadSet t n neg s
  | .overloadClear t n => Sys2Proof.Machine.execOverloadClear t n s
  | .calrefReady t => Sys2Proof.Machine.execCalrefReady t s
  | .thresholdCrossing t n v posH posL => Sys2Proof.Machine.execThresholdCrossing t n v posH posL s
  | .thresholdWrite t n high v => Sys2Proof.Machine.execThresholdWrite t n high v s
  | .wcEnable t n v => Sys2Proof.Machine.execWcEnable t n v s
  | .wcDisable t n v => Sys2Proof.Machine.execWcDisable t n v s
  | .wcReady t n => Sys2Proof.Machine.execWcReady t n s
  | .routingFreeze t n v => Sys2Proof.Machine.execRoutingFreeze t n v s
  | .blankingEnd t n => Sys2Proof.Machine.execBlankingEnd t n s
  | .selfCheck t n v => Sys2Proof.Machine.execSelfCheck t n v s
  | .selfCheckEnd t n => Sys2Proof.Machine.execSelfCheckEnd t n s
  | .berthArmRequest t b v => Sys2Proof.Machine.execBerthArmRequest t b v s
  | .admissionDecision t => Sys2Proof.Machine.execAdmissionDecision t s
  | .berthDisarm t b v => Sys2Proof.Machine.execBerthDisarm t b v s
  | .berthTrigger t b => Sys2Proof.Machine.execBerthTrigger t b s
  | .softwareTrigger t v => Sys2Proof.Machine.execSoftwareTrigger t v s
  | .runStart t c => Sys2Proof.Machine.execRunStart t c s
  | .runEnd c => Sys2Proof.Machine.execRunEnd c s
  | .runSkip t b => Sys2Proof.Machine.execRunSkip t b s
  | .engineEnable t v => Sys2Proof.Machine.execEngineEnable t v s
  | .engineDisable t v => Sys2Proof.Machine.execEngineDisable t v s
  | .utilisationWindow t c => Sys2Proof.Machine.execUtilisationWindow t c s
  | .engNop c => Sys2Proof.Machine.execEngNop c s
  | .ldi c d imm => Sys2Proof.Machine.execLdi c d imm s
  | .ldw c d a => Sys2Proof.Machine.execLdw c d a s
  | .lda c d idx => Sys2Proof.Machine.execLda c d idx s
  | .lds c d own ch => Sys2Proof.Machine.execLds c d own ch s
  | .err c d a b => Sys2Proof.Machine.execErr c d a b s
  | .errAdd c d a b => Sys2Proof.Machine.execErrAdd c d a b s
  | .macSet c a b => Sys2Proof.Machine.execMacSet c a b s
  | .macAdd c a b => Sys2Proof.Machine.execMacAdd c a b s
  | .macSub c a b => Sys2Proof.Machine.execMacSub c a b s
  | .macAddw c a => Sys2Proof.Machine.execMacAddw c a s
  | .macdSet c a b => Sys2Proof.Machine.execMacdSet c a b s
  | .macdAdd c a b => Sys2Proof.Machine.execMacdAdd c a b s
  | .macdSub c a b => Sys2Proof.Machine.execMacdSub c a b s
  | .rnd c d sh => Sys2Proof.Machine.execRnd c d sh s
  | .clp c d a lo hi => Sys2Proof.Machine.execClp c d a lo hi s
  | .mnxMin c d a b => Sys2Proof.Machine.execMnxMin c d a b s
  | .mnxMax c d a b => Sys2Proof.Machine.execMnxMax c d a b s
  | .ffw c d a b bsel ch => Sys2Proof.Machine.execFfw c d a b bsel ch s
  | .int c d a lo hi w => Sys2Proof.Machine.execInt c d a lo hi w s
  | .gselSchedule c a => Sys2Proof.Machine.execGselSchedule c a s
  | .gselFixed c g => Sys2Proof.Machine.execGselFixed c g s
  | .sel c d a => Sys2Proof.Machine.execSel c d a s
  | .duty c cmp a b hi bias ps uo => Sys2Proof.Machine.execDuty c cmp a b hi bias ps uo s
  | .stw c a w => Sys2Proof.Machine.execStw c a w s
  | .cuStart t u v => Sys2Proof.Machine.execCuStart t u v s
  | .cuStop t u v => Sys2Proof.Machine.execCuStop t u v s
  | .outputEnable t u v => Sys2Proof.Machine.execOutputEnable t u v s
  | .periodBoundary t u => Sys2Proof.Machine.execPeriodBoundary t u s
  | .oneshotEnd t u => Sys2Proof.Machine.execOneshotEnd t u s
  | .timerWrap t u => Sys2Proof.Machine.execTimerWrap t u s
  | .compareMatch t u c up => Sys2Proof.Machine.execCompareMatch t u c up s
  | .edgePlacement t u k => Sys2Proof.Machine.execEdgePlacement t u k s
  | .outputEdge t u => Sys2Proof.Machine.execOutputEdge t u s
  | .periodLoadWrite t u r v => Sys2Proof.Machine.execPeriodLoadWrite t u r v s
  | .immediateWrite t u c v => Sys2Proof.Machine.execImmediateWrite t u c v s
  | .cuCntRead t u => Sys2Proof.Machine.execCuCntRead t u s
  | .syncEvent t u => Sys2Proof.Machine.execSyncEvent t u s
  | .capture t u k => Sys2Proof.Machine.execCapture t u k s
  | .captureRead t u k => Sys2Proof.Machine.execCaptureRead t u k s
  | .softwareCapture t u k v => Sys2Proof.Machine.execSoftwareCapture t u k v s
  | .tripLatch t z code => Sys2Proof.Machine.execTripLatch t z code s
  | .tripForce t z v => Sys2Proof.Machine.execTripForce t z v s
  | .tripUnlatch t z => Sys2Proof.Machine.execTripUnlatch t z s
  | .eventOccurrence t ch => Sys2Proof.Machine.execEventOccurrence t ch s
  | .eventPulseEnd t ch => Sys2Proof.Machine.execEventPulseEnd t ch s
  | .channelEnable t q ch v => Sys2Proof.Machine.execChannelEnable t q ch v s
  | .softwareOccurrence t q ch v => Sys2Proof.Machine.execSoftwareOccurrence t q ch v s
  | .tapRerank t ch => Sys2Proof.Machine.execTapRerank t ch s
  | .cellInputChange t n x lvl => Sys2Proof.Machine.execCellInputChange t n x lvl s
  | .pulseWidthPass t n => Sys2Proof.Machine.execPulseWidthPass t n s
  | .debounceHoldEnd t n => Sys2Proof.Machine.execDebounceHoldEnd t n s
  | .cellRearm t q n v => Sys2Proof.Machine.execCellRearm t q n v s
  | .cellEnable t q n v => Sys2Proof.Machine.execCellEnable t q n v s
  | .ownerWrite t q cell n v => Sys2Proof.Machine.execOwnerWrite t q cell n v s
  | .seal t q cell n v => Sys2Proof.Machine.execSeal t q cell n v s
  | .surveyEnable t c v => Sys2Proof.Machine.execSurveyEnable t c v s
  | .surveyDisable t c v => Sys2Proof.Machine.execSurveyDisable t c v s
  | .surveyWindowOpen t c => Sys2Proof.Machine.execSurveyWindowOpen t c s
  | .surveyWindowClose t c q => Sys2Proof.Machine.execSurveyWindowClose t c q s
  | .surveyResult t c => Sys2Proof.Machine.execSurveyResult t c s
  | .mainsEdge t => Sys2Proof.Machine.execMainsEdge t s
  | .mainsFallback t => Sys2Proof.Machine.execMainsFallback t s
  | .fallbackBoundary t => Sys2Proof.Machine.execFallbackBoundary t s
  | .meteringTick t q => Sys2Proof.Machine.execMeteringTick t q s
  | .viewRequest t k v => Sys2Proof.Machine.execViewRequest t k v s
  | .viewLoad t k v => Sys2Proof.Machine.execViewLoad t k v s
  | .tariffArm t k v => Sys2Proof.Machine.execTariffArm t k v s
  | .periodicRecord t => Sys2Proof.Machine.execPeriodicRecord t s
  | .forcedFullRecord t => Sys2Proof.Machine.execForcedFullRecord t s
  | .powerFailRecord t => Sys2Proof.Machine.execPowerFailRecord t s
  | .add t c x => Sys2Proof.Machine.execAdd t c x s
  | .sub t c x => Sys2Proof.Machine.execSub t c x s
  | .addW t c x => Sys2Proof.Machine.execAddW t c x s
  | .subW t c x => Sys2Proof.Machine.execSubW t c x s
  | .addc t c x => Sys2Proof.Machine.execAddc t c x s
  | .subc t c x => Sys2Proof.Machine.execSubc t c x s
  | .adds t c x => Sys2Proof.Machine.execAdds t c x s
  | .subs t c x => Sys2Proof.Machine.execSubs t c x s
  | .and t c x => Sys2Proof.Machine.execAnd t c x s
  | .or t c x => Sys2Proof.Machine.execOr t c x s
  | .xor t c x => Sys2Proof.Machine.execXor t c x s
  | .andn t c x => Sys2Proof.Machine.execAndn t c x s
  | .sll t c x => Sys2Proof.Machine.execSll t c x s
  | .srl t c x => Sys2Proof.Machine.execSrl t c x s
  | .sra t c x => Sys2Proof.Machine.execSra t c x s
  | .slt t c x => Sys2Proof.Machine.execSlt t c x s
  | .sltu t c x => Sys2Proof.Machine.execSltu t c x s
  | .min t c x => Sys2Proof.Machine.execMin t c x s
  | .max t c x => Sys2Proof.Machine.execMax t c x s
  | .minu t c x => Sys2Proof.Machine.execMinu t c x s
  | .maxu t c x => Sys2Proof.Machine.execMaxu t c x s
  | .cls t c x => Sys2Proof.Machine.execCls t c x s
  | .addD t c x => Sys2Proof.Machine.execAddD t c x s
  | .subD t c x => Sys2Proof.Machine.execSubD t c x s
  | .andD t c x => Sys2Proof.Machine.execAndD t c x s
  | .orD t c x => Sys2Proof.Machine.execOrD t c x s
  | .xorD t c x => Sys2Proof.Machine.execXorD t c x s
  | .sllD t c x => Sys2Proof.Machine.execSllD t c x s
  | .srlD t c x => Sys2Proof.Machine.execSrlD t c x s
  | .sraD t c x => Sys2Proof.Machine.execSraD t c x s
  | .sltD t c x => Sys2Proof.Machine.execSltD t c x s
  | .sltuD t c x => Sys2Proof.Machine.execSltuD t c x s
  | .movD t c x => Sys2Proof.Machine.execMovD t c x s
  | .addi t c x => Sys2Proof.Machine.execAddi t c x s
  | .andi t c x => Sys2Proof.Machine.execAndi t c x s
  | .ori t c x => Sys2Proof.Machine.execOri t c x s
  | .xori t c x => Sys2Proof.Machine.execXori t c x s
  | .slli t c x => Sys2Proof.Machine.execSlli t c x s
  | .srli t c x => Sys2Proof.Machine.execSrli t c x s
  | .srai t c x => Sys2Proof.Machine.execSrai t c x s
  | .slti t c x => Sys2Proof.Machine.execSlti t c x s
  | .sltui t c x => Sys2Proof.Machine.execSltui t c x s
  | .addiD t c x => Sys2Proof.Machine.execAddiD t c x s
  | .mulS t c x => Sys2Proof.Machine.execMulS t c x s
  | .mulU t c x => Sys2Proof.Machine.execMulU t c x s
  | .macS t c x => Sys2Proof.Machine.execMacS t c x s
  | .macU t c x => Sys2Proof.Machine.execMacU t c x s
  | .mscS t c x => Sys2Proof.Machine.execMscS t c x s
  | .mscU t c x => Sys2Proof.Machine.execMscU t c x s
  | .par t c x => Sys2Proof.Machine.execPar t c x s
  | .paz t c x => Sys2Proof.Machine.execPaz t c x s
  | .divS t c x => Sys2Proof.Machine.execDivS t c x s
  | .divU t c x => Sys2Proof.Machine.execDivU t c x s
  | .divDs t c x => Sys2Proof.Machine.execDivDs t c x s
  | .divDu t c x => Sys2Proof.Machine.execDivDu t c x s
  | .beq t c x => Sys2Proof.Machine.execBeq t c x s
  | .bne t c x => Sys2Proof.Machine.execBne t c x s
  | .blt t c x => Sys2Proof.Machine.execBlt t c x s
  | .bge t c x => Sys2Proof.Machine.execBge t c x s
  | .bltu t c x => Sys2Proof.Machine.execBltu t c x s
  | .bgeu t c x => Sys2Proof.Machine.execBgeu t c x s
  | .beqi t c x => Sys2Proof.Machine.execBeqi t c x s
  | .bnei t c x => Sys2Proof.Machine.execBnei t c x s
  | .blti t c x => Sys2Proof.Machine.execBlti t c x s
  | .bgei t c x => Sys2Proof.Machine.execBgei t c x s
  | .bltui t c x => Sys2Proof.Machine.execBltui t c x s
  | .bgeui t c x => Sys2Proof.Machine.execBgeui t c x s
  | .beqD t c x => Sys2Proof.Machine.execBeqD t c x s
  | .bneD t c x => Sys2Proof.Machine.execBneD t c x s
  | .bltD t c x => Sys2Proof.Machine.execBltD t c x s
  | .bgeD t c x => Sys2Proof.Machine.execBgeD t c x s
  | .bltuD t c x => Sys2Proof.Machine.execBltuD t c x s
  | .bgeuD t c x => Sys2Proof.Machine.execBgeuD t c x s
  | .jal t c x => Sys2Proof.Machine.execJal t c x s
  | .jalr t c x => Sys2Proof.Machine.execJalr t c x s
  | .lp t c x => Sys2Proof.Machine.execLp t c x s
  | .lpi t c x => Sys2Proof.Machine.execLpi t c x s
  | .lbrk t c x => Sys2Proof.Machine.execLbrk t c x s
  | .ldN t c mx x => Sys2Proof.Machine.execLdN t c mx x s
  | .ldNs t c mx x => Sys2Proof.Machine.execLdNs t c mx x s
  | .ldW t c mx x => Sys2Proof.Machine.execLdW t c mx x s
  | .ldD t c mx x => Sys2Proof.Machine.execLdD t c mx x s
  | .stN t c mx x => Sys2Proof.Machine.execStN t c mx x s
  | .stW t c mx x => Sys2Proof.Machine.execStW t c mx x s
  | .stD t c mx x => Sys2Proof.Machine.execStD t c mx x s
  | .ldK t c mx x => Sys2Proof.Machine.execLdK t c mx x s
  | .stK t c mx x => Sys2Proof.Machine.execStK t c mx x s
  | .storePerform t c => Sys2Proof.Machine.execStorePerform t c s
  | .tandemMovePerform t c => Sys2Proof.Machine.execTandemMovePerform t c s
  | .frameLinePerform t c => Sys2Proof.Machine.execFrameLinePerform t c s
  | .nop t c x => Sys2Proof.Machine.execNop t c x s
  | .mfs t c x => Sys2Proof.Machine.execMfs t c x s
  | .mts t c x => Sys2Proof.Machine.execMts t c x s
  | .mfsD t c x => Sys2Proof.Machine.execMfsD t c x s
  | .mtsD t c x => Sys2Proof.Machine.execMtsD t c x s
  | .fence t c x => Sys2Proof.Machine.execFence t c x s
  | .wfi t c x => Sys2Proof.Machine.execWfi t c x s
  | .trap t c x => Sys2Proof.Machine.execTrap t c x s
  | .syncI t c x => Sys2Proof.Machine.execSyncI t c x s
  | .kmov t c x => Sys2Proof.Machine.execKmov t c x s
  | .kclr t c x => Sys2Proof.Machine.execKclr t c x s
  | .kbase t c x => Sys2Proof.Machine.execKbase t c x s
  | .klen t c x => Sys2Proof.Machine.execKlen t c x s
  | .kperm t c x => Sys2Proof.Machine.execKperm t c x s
  | .ktype t c x => Sys2Proof.Machine.execKtype t c x s
  | .knar t c x => Sys2Proof.Machine.execKnar t c x s
  | .ksr t c x => Sys2Proof.Machine.execKsr t c x s
  | .kprm t c x => Sys2Proof.Machine.execKprm t c x s
  | .kseal t c x => Sys2Proof.Machine.execKseal t c x s
  | .kopen t c x => Sys2Proof.Machine.execKopen t c x s
  | .kpc t c x => Sys2Proof.Machine.execKpc t c x s
  | .kgo t c x => Sys2Proof.Machine.execKgo t c x s
  | .rett t c x => Sys2Proof.Machine.execRett t c x s
  | .trapEntry t c f => Sys2Proof.Machine.execTrapEntry t c f s
  | .coreResetStart t c v => Sys2Proof.Machine.execCoreResetStart t c v s
  | .coreResetHold t c v => Sys2Proof.Machine.execCoreResetHold t c v s
  | .coreResetComplete t c => Sys2Proof.Machine.execCoreResetComplete t c s
  | .watchdogRestart t c v => Sys2Proof.Machine.execWatchdogRestart t c v s
  | .watchdogBadKey t c v => Sys2Proof.Machine.execWatchdogBadKey t c v s
  | .watchdogExpiry t c => Sys2Proof.Machine.execWatchdogExpiry t c s
  | .vectorLoad t c v => Sys2Proof.Machine.execVectorLoad t c v s
  | .vectorLoadDone t c => Sys2Proof.Machine.execVectorLoadDone t c s
  | .softwareInterrupt t c j v => Sys2Proof.Machine.execSoftwareInterrupt t c j v s
  | .vectorPresent t c => Sys2Proof.Machine.execVectorPresent t c s
  | .interruptEntry t c => Sys2Proof.Machine.execInterruptEntry t c s
  | .bankHandover t k v => Sys2Proof.Machine.execBankHandover t k v s
  | .handoverComplete t k => Sys2Proof.Machine.execHandoverComplete t k s
  | .scrub t k => Sys2Proof.Machine.execScrub t k s
  | .lockAcquire t q n => Sys2Proof.Machine.execLockAcquire t q n s
  | .lockRelease t q n v => Sys2Proof.Machine.execLockRelease t q n v s
  | .lockRepaired t q n v => Sys2Proof.Machine.execLockRepaired t q n v s
  | .lockRenew t q n v => Sys2Proof.Machine.execLockRenew t q n v s
  | .leaseExpiry t n => Sys2Proof.Machine.execLeaseExpiry t n s
  | .tideStage t c a dbl v => Sys2Proof.Machine.execTideStage t c a dbl v s
  | .tideCommitInstant t v => Sys2Proof.Machine.execTideCommitInstant t v s
  | .tideCommitBoundary t v => Sys2Proof.Machine.execTideCommitBoundary t v s
  | .tideDiscard t v => Sys2Proof.Machine.execTideDiscard t v s
  | .tideArm t k => Sys2Proof.Machine.execTideArm t k s
  | .tideApply t k => Sys2Proof.Machine.execTideApply t k s
  | .snapshotNow t q c v => Sys2Proof.Machine.execSnapshotNow t q c v s
  | .snapshotAt t q c v => Sys2Proof.Machine.execSnapshotAt t q c v s
  | .snapshotTake t c reads => Sys2Proof.Machine.execSnapshotTake t c reads s
  | .snapshotDone t c => Sys2Proof.Machine.execSnapshotDone t c s
  | .lineProgram t b off dbl v => Sys2Proof.Machine.execLineProgram t b off dbl v s
  | .blockErase t b off v => Sys2Proof.Machine.execBlockErase t b off v s
  | .marginLevel t b off v => Sys2Proof.Machine.execMarginLevel t b off v s
  | .otpWordProgram t off v => Sys2Proof.Machine.execOtpWordProgram t off v s
  | .flashReset t b off v => Sys2Proof.Machine.execFlashReset t b off v s
  | .lineProgramDone t b ok => Sys2Proof.Machine.execLineProgramDone t b ok s
  | .eraseDone t b ok => Sys2Proof.Machine.execEraseDone t b ok s
  | .otpProgramDone t ok => Sys2Proof.Machine.execOtpProgramDone t ok s
  | .rcFallback t => Sys2Proof.Machine.execRcFallback t s
  | .xtal32Return t => Sys2Proof.Machine.execXtal32Return t s
  | .referenceLoss t => Sys2Proof.Machine.execReferenceLoss t s
  | .referenceReturn t => Sys2Proof.Machine.execReferenceReturn t s
  | .referenceLossReset t => Sys2Proof.Machine.execReferenceLossReset t s
  | .wholeSecond t n d => Sys2Proof.Machine.execWholeSecond t n d s
  | .timebaseSet t v => Sys2Proof.Machine.execTimebaseSet t v s
  | .timebaseNowRead t q => Sys2Proof.Machine.execTimebaseNowRead t q s
  | .ppsEdge t rising => Sys2Proof.Machine.execPpsEdge t rising s
  | .holdover t => Sys2Proof.Machine.execHoldover t s
  | .ratioSpan t => Sys2Proof.Machine.execRatioSpan t s
  | .calExpiry t => Sys2Proof.Machine.execCalExpiry t s
  | .quayDoze t q => Sys2Proof.Machine.execQuayDoze t q s
  | .quayWake t q => Sys2Proof.Machine.execQuayWake t q s
  | .sleepEntry t => Sys2Proof.Machine.execSleepEntry t s
  | .sleepExit t => Sys2Proof.Machine.execSleepExit t s
  | .timebaseRestore t n => Sys2Proof.Machine.execTimebaseRestore t n s
  | .powerAlarm t n => Sys2Proof.Machine.execPowerAlarm t n s
  | .modeNeap t v => Sys2Proof.Machine.execModeNeap t v s
  | .modeSpring t v vdd => Sys2Proof.Machine.execModeSpring t v vdd s
  | .modeSlack t v => Sys2Proof.Machine.execModeSlack t v s
  | .modeChangeDone t vdd => Sys2Proof.Machine.execModeChangeDone t vdd s
  | .junctionSample t sens v => Sys2Proof.Machine.execJunctionSample t sens v s
  | .springTimeout t => Sys2Proof.Machine.execSpringTimeout t s
  | .droopGuard t => Sys2Proof.Machine.execDroopGuard t s
  | .powerFailBegin t src => Sys2Proof.Machine.execPowerFailBegin t src s
  | .supplyRecovery t => Sys2Proof.Machine.execSupplyRecovery t s
  | .deviceResetWrite t v => Sys2Proof.Machine.execDeviceResetWrite t v s
  | .powerOn t => Sys2Proof.Machine.execPowerOn t s
  | .railCollapse t => Sys2Proof.Machine.execRailCollapse t s
  | .deviceReset t pin => Sys2Proof.Machine.execDeviceReset t pin s
  | .rootstockBoot t => Sys2Proof.Machine.execRootstockBoot t s
  | .bootSourceTimeout t => Sys2Proof.Machine.execBootSourceTimeout t s
  | .spiRecoveryWrite t a ls => Sys2Proof.Machine.execSpiRecoveryWrite t a ls s
  | .spiRecoveryVerify t => Sys2Proof.Machine.execSpiRecoveryVerify t s
  | .spiRecoveryStatus t => Sys2Proof.Machine.execSpiRecoveryStatus t s
  | .networkBootGo t p f => Sys2Proof.Machine.execNetworkBootGo t p f s
  | .graftLoadData t v => Sys2Proof.Machine.execGraftLoadData t v s
  | .graftLock t v => Sys2Proof.Machine.execGraftLock t v s
  | .rngRead t q => Sys2Proof.Machine.execRngRead t q s
  | .healthFailure t => Sys2Proof.Machine.execHealthFailure t s
  | .check t v => Sys2Proof.Machine.execCheck t v s
  | .attest t v => Sys2Proof.Machine.execAttest t v s
  | .keyOperationEnd t => Sys2Proof.Machine.execKeyOperationEnd t s
  | .tokenVerdict t => Sys2Proof.Machine.execTokenVerdict t s
  | .debugDeny t v => Sys2Proof.Machine.execDebugDeny t v s
  | .tamper t n => Sys2Proof.Machine.execTamper t n s
  | .extest t x => Sys2Proof.Machine.execExtest t x s
  | .idcode t => Sys2Proof.Machine.execIdcode t s
  | .samplePreload t x => Sys2Proof.Machine.execSamplePreload t x s
  | .clamp t => Sys2Proof.Machine.execClamp t s
  | .highz t => Sys2Proof.Machine.execHighz t s
  | .dbgchal t => Sys2Proof.Machine.execDbgchal t s
  | .dbgtok t x => Sys2Proof.Machine.execDbgtok t x s
  | .dbgacc t x => Sys2Proof.Machine.execDbgacc t x s
  | .bypass t code => Sys2Proof.Machine.execBypass t code s
  | .portEnable t p v => Sys2Proof.Machine.execPortEnable t p v s
  | .portDisable t p v => Sys2Proof.Machine.execPortDisable t p v s
  | .alignDone t p => Sys2Proof.Machine.execAlignDone t p s
  | .helloTimer t p => Sys2Proof.Machine.execHelloTimer t p s
  | .hello t p f => Sys2Proof.Machine.execHello t p f s
  | .lstat t p f => Sys2Proof.Machine.execLstat t p f s
  | .lstatTimer t p => Sys2Proof.Machine.execLstatTimer t p s
  | .beat t p f => Sys2Proof.Machine.execBeat t p f s
  | .beatTimer t p => Sys2Proof.Machine.execBeatTimer t p s
  | .partnerAbsent t p => Sys2Proof.Machine.execPartnerAbsent t p s
  | .retryTimeout t p => Sys2Proof.Machine.execRetryTimeout t p s
  | .nodedown t p f => Sys2Proof.Machine.execNodedown t p f s
  | .frameForward t p f => Sys2Proof.Machine.execFrameForward t p f s
  | .txRead t q c k v => Sys2Proof.Machine.execTxRead t q c k v s
  | .txWrite t q c k v => Sys2Proof.Machine.execTxWrite t q c k v s
  | .txSnap t q c k v => Sys2Proof.Machine.execTxSnap t q c k v s
  | .read t p f dur => Sys2Proof.Machine.execRead t p f dur s
  | .write t p f dur => Sys2Proof.Machine.execWrite t p f dur s
  | .snap t p f dur => Sys2Proof.Machine.execSnap t p f dur s
  | .rdata t p f => Sys2Proof.Machine.execRdata t p f s
  | .requestAdmit t p dur => Sys2Proof.Machine.execRequestAdmit t p dur s
  | .txTimeout t c k => Sys2Proof.Machine.execTxTimeout t c k s
  | .windowLoad t v => Sys2Proof.Machine.execWindowLoad t v s
  | .treq t p f d => Sys2Proof.Machine.execTreq t p f d s
  | .trsp t p f => Sys2Proof.Machine.execTrsp t p f s
  | .timeExchangeMiss t => Sys2Proof.Machine.execTimeExchangeMiss t s
  | .propose t v => Sys2Proof.Machine.execPropose t v s
  | .prepare t p f => Sys2Proof.Machine.execPrepare t p f s
  | .voteInstant t => Sys2Proof.Machine.execVoteInstant t s
  | .vote t p f => Sys2Proof.Machine.execVote t p f s
  | .commit t p f => Sys2Proof.Machine.execCommit t p f s
  | .abort t p f => Sys2Proof.Machine.execAbort t p f s
  | .roundAbort t v => Sys2Proof.Machine.execRoundAbort t v s
  | .decisionDeadline t => Sys2Proof.Machine.execDecisionDeadline t s
  | .decisionGuard t => Sys2Proof.Machine.execDecisionGuard t s
  | .globalTideApply t => Sys2Proof.Machine.execGlobalTideApply t s
  | .doubtReport t => Sys2Proof.Machine.execDoubtReport t s
  | .routedCommit t v => Sys2Proof.Machine.execRoutedCommit t v s
  | .routedAbort t v => Sys2Proof.Machine.execRoutedAbort t v s
  | .doubtReportRead t q => Sys2Proof.Machine.execDoubtReportRead t q s
  | .sendByte t m a c pec => Sys2Proof.Machine.execSendByte t m a c pec s
  | .writeByte t m a c x pec => Sys2Proof.Machine.execWriteByte t m a c x pec s
  | .writeWord t m a c x y pec => Sys2Proof.Machine.execWriteWord t m a c x y pec s
  | .blockWrite t m a c l pec => Sys2Proof.Machine.execBlockWrite t m a c l pec s
  | .readByte t m a c => Sys2Proof.Machine.execReadByte t m a c s
  | .readWord t m a c => Sys2Proof.Machine.execReadWord t m a c s
  | .blockRead t m a c => Sys2Proof.Machine.execBlockRead t m a c s
  | .page t m a x pec => Sys2Proof.Machine.execPage t m a x pec s
  | .alertResponse t m => Sys2Proof.Machine.execAlertResponse t m s
  | .unsupportedProtocol t m a => Sys2Proof.Machine.execUnsupportedProtocol t m a s
  | .clockLowTimeout t m => Sys2Proof.Machine.execClockLowTimeout t m s
  | .stretchLimit t m => Sys2Proof.Machine.execStretchLimit t m s
  | .smbusResponse t m v => Sys2Proof.Machine.execSmbusResponse t m v s
  | .smbusPop t m v => Sys2Proof.Machine.execSmbusPop t m v s
  | .spiTxPush t m v => Sys2Proof.Machine.execSpiTxPush t m v s
  | .spiRxPop t m => Sys2Proof.Machine.execSpiRxPop t m s
  | .spiFrame t m x => Sys2Proof.Machine.execSpiFrame t m x s
  | .gpioEdge t n lvl => Sys2Proof.Machine.execGpioEdge t n lvl s
  | .badFrame t p crc f => Sys2Proof.Machine.execBadFrame t p crc f s
  | .codeGroupError t p => Sys2Proof.Machine.execCodeGroupError t p s
  | .alwaysOnPowerOn t => Sys2Proof.Machine.execAlwaysOnPowerOn t s
  | .tripPinChange t n lvl => Sys2Proof.Machine.execTripPinChange t n lvl s
  | .lkWakePinChange t p lvl => Sys2Proof.Machine.execLkWakePinChange t p lvl s
  | .lkWakeDriveEnd t p => Sys2Proof.Machine.execLkWakeDriveEnd t p s
  | .majoritySample t n => Sys2Proof.Machine.execMajoritySample t n s
  | .debounceHoldStart t n => Sys2Proof.Machine.execDebounceHoldStart t n s
  | .healthRecovery t => Sys2Proof.Machine.execHealthRecovery t s

end Sys2Proof.Machine
end

