-- ==== Sys2Proof/WellFormed.lean ====
section
/-! DEFINITION. Which commands are well formed: the bounds that an operand's type does not carry. A meaning does not rest on them; a sender
keeps them. -/

namespace Sys2Proof

/-- Why a command is ill formed. -/
inductive IllFormed where
  /-- R350: nw is not the number of payload words, or exceeds 32. -/
  | payload
  /-- R365: the accesses of an admitted request last longer than 1 us. -/
  | duration
  /-- R65: a moving threshold has come further than its way. -/
  | position
  /-- R179: a charge of a channel that does not exist. -/
  | channel
  /-- R419: a block of more than 255 octets. -/
  | octets
  /-- R337: VDD_CORE at 2 V or more. -/
  | supply
  /-- R391: a recovery write that does not begin at a line. -/
  | line
  deriving DecidableEq, Repr

/-- R350: the payload of a frame fits its header. -/
def Frame.fits (f : Frame) : Bool := f.pay.length == f.nw.toNat && decide (f.nw.toNat ≤ 32)

/-- The check of a frame. -/
def frameCheck (f : Frame) : Option IllFormed := if f.fits then none else some .payload

/-- The check of a request: its frame, then how long its accesses take. -/
def requestCheck (f : Frame) (dur : Nat) : Option IllFormed :=
  if !f.fits then some .payload else if 64000 < dur then some .duration else none

/-- The first check that a command fails. -/
def Instr.illFormed (i : Instr) : Option IllFormed :=
  match i with
  | .thresholdCrossing _ _ _ h l => if 1000 < h ∨ 1000 < l then some .position else none
  | .meteringTick _ q => if q.all (fun x => decide (x.1 < 128)) then none else some .channel
  | .modeSpring _ _ vdd => if 2000 ≤ vdd then some .supply else none
  | .modeChangeDone _ vdd => if 2000 ≤ vdd then some .supply else none
  | .hello _ _ f => frameCheck f
  | .lstat _ _ f => frameCheck f
  | .beat _ _ f => frameCheck f
  | .nodedown _ _ f => frameCheck f
  | .frameForward _ _ f => frameCheck f
  | .read _ _ f dur => requestCheck f dur
  | .write _ _ f dur => requestCheck f dur
  | .snap _ _ f dur => requestCheck f dur
  | .rdata _ _ f => frameCheck f
  | .requestAdmit _ _ dur => if 64000 < dur then some .duration else none
  | .treq _ _ f _ => frameCheck f
  | .trsp _ _ f => frameCheck f
  | .prepare _ _ f => frameCheck f
  | .vote _ _ f => frameCheck f
  | .commit _ _ f => frameCheck f
  | .abort _ _ f => frameCheck f
  | .networkBootGo _ _ f => frameCheck f
  | .spiRecoveryWrite _ a _ => if a.toNat % 8 ≠ 0 then some .line else none
  | .blockWrite _ _ _ _ l _ => if 255 < l.length then some .octets else none
  | _ => none

/-- A command is well formed. -/
def Instr.wellFormed (i : Instr) : Bool := i.illFormed.isNone

end Sys2Proof
end

