-- ==== Sys2Proof/Safety.lean ====
section
/-! DEFINITION. What counts as a safe run, and the terms in which the statements speak: a command that completes, the frame of a command,
the canonical form of the state, and how a core goes on after an instruction. -/

namespace Sys2Proof.Machine

/-! ### Completion and frames -/

/-- The command answers a next state, and that state has the property. -/
def Does (i : Instr) (s : State) (P : State → Prop) : Prop := ∃ s', exec i s = .next s' ∧ P s'

/-- Register `r`, instance `n`, holds what it held, and what hardware did to it in a timer cycle is as before (R13, R14). -/
def RegKept (r : RegName) (n : Nat) (s s' : State) : Prop :=
  s'.reg r n = s.reg r n ∧ s'.hwOf (regKey r n) = s.hwOf (regKey r n)

/-- The registers outside the list `l` hold what they held. -/
def RegsKept (l : List RegName) (s s' : State) : Prop := ∀ r n, r ∉ l → RegKept r n s s'

/-- Every instance of register `r` but instance `n` holds what it held. -/
def OthersKept (r : RegName) (n : Nat) (s s' : State) : Prop := ∀ m, m ≠ n → RegKept r m s s'

/-- R157: no event source but those of unit `inst` of class `cls` occurred. -/
def SourcesKept (cls inst : Nat) (s s' : State) : Prop :=
  ∀ k, k / 16 ≠ 128 * cls + inst → s'.srcAtOf k = s.srcAtOf k

/-- R13, R14: hardware set no bit of register `r`, instance `n`, and updated no field of it, in the timer cycle of a command at `t`: a write
takes effect whole. -/
def HwIdle (t : Nat) (r : RegName) (n : Nat) (s : State) : Prop := ((s.tick t).hwAt r n).bits = 0

/-- Every core but core `c` is as it was. -/
def SameCoreBut (c : Nat) (s s' : State) : Prop := ∀ d, d ≠ c → s'.coreOf d = s.coreOf d

/-! ### Cores (R193 to R222) -/

/-- The frame of a command that acts on one core alone: the rest of the device is as it was, and so is every other core. -/
def OnlyCore (t c : Nat) (s s' : State) : Prop :=
  s' = { s with now := max s.now t, out := [], core := s'.core } ∧ SameCoreBut c s s'

/-- R234, R249: the device once core `c` has fetched the instruction at its address: the state in which the instruction acts. -/
def issued (t c : Nat) (s : State) : State := (fetch (s.tick t) c (s.coreOf c).pc.toNat).2

/-- R234: the registers of core `c` as its instruction finds them: what they were, with the instruction cache as the fetch left it. -/
def atIssue (t c : Nat) (s : State) : CoreS := { s.coreOf c with ic := ((issued t c s).coreOf c).ic }

/-- The core executes the instruction at its address: it runs and holds no trap, no reset is under way, no interrupt is due before the
instruction, and its fetch meets R249 and brings the instruction (R254). -/
def CoreReady (t : Nat) (s : State) (c : Nat) : Prop :=
  canRun s c = true ∧ (s.coreOf c).fetchOk = true ∧ (fetch (s.tick t) c (s.coreOf c).pc.toNat).1 = .ok

/-- The frame of an instruction that acts on its core alone: the rest of the device is as the fetch left it, and so is every other core. -/
def OnlyIssuer (t c : Nat) (s s' : State) : Prop :=
  s' = { issued t c s with core := s'.core } ∧ SameCoreBut c s s'

/-- R210, R236: core registers `h` are `g`, where the update of the multiply executed before has taken effect and `m` is the update that
this instruction leaves; an instruction has then completed since an interrupt was presented, if one is. -/
def Settled (m : Option Product) (g h : CoreS) : Prop :=
  h = { g with ph := h.ph, pl := h.pl, pa := h.pa, mul := m, presRan := g.pres.isSome, stalled := false } ∧
    h.ph ++ h.pl = (g.mul.bind (·.p)).getD (g.ph ++ g.pl) ∧ h.pa = g.paNow

/-- The instruction completes: its core's registers become `g`, and the core goes on by the loop rule of R218. -/
def Completes (i : Instr) (t c : Nat) (s : State) (g : CoreS) : Prop :=
  Does i s (fun s' => OnlyIssuer t c s s' ∧ Settled none g.advance (s'.coreOf c))

/-- The multiply completes: its core's registers become `g`, its update `m` waits (R210), and the core goes on by the loop rule. -/
def CompletesMul (i : Instr) (t c : Nat) (s : State) (g : CoreS) (m : Product) : Prop :=
  Does i s (fun s' => OnlyIssuer t c s s' ∧ Settled (some m) g.advance (s'.coreOf c))

/-- The transfer is made: its core's registers become `g`, and the core goes on at `a`. -/
def GoesTo (i : Instr) (t c : Nat) (s : State) (g : CoreS) (a : Addr) : Prop :=
  Does i s (fun s' => OnlyIssuer t c s s' ∧ Settled none { g with pc := a } (s'.coreOf c))

/-- The instruction raises a trap: its core holds the trap, with the instruction's address to return to, and nothing else of the device
changes. -/
def Traps (i : Instr) (t c : Nat) (s : State) (cause : Nat) (fault : Int) : Prop :=
  Does i s (fun s' => OnlyIssuer t c s s' ∧ s'.coreOf c =
    { atIssue t c s with
      trap := some ⟨cause, 0, (s.coreOf c).pc, fault⟩, presRan := (s.coreOf c).pres.isSome, stalled := false })

/-- The instruction waits: nothing changes but that its core stands at a boundary for an interrupt (R237). -/
def Waits (i : Instr) (t c : Nat) (s : State) : Prop :=
  Does i s (fun s' => s' = (issued t c s).setCore c
    { atIssue t c s with presRan := (s.coreOf c).pres.isSome, stalled := true })

/-- A command of a core's instruction. -/
abbrev CoreCmd := Nat → Fin 16 → Fields → Instr

/-! ### The canonical form -/

/-- Every sparse store of the state is in its canonical form: keys strictly rising, no entry equal to what an unlisted key reads as. -/
def State.canonical (s : State) : Bool :=
  Store.wf regDefault s.regs && Store.wf (fun _ => false) s.written && Store.wf (fun _ => ({} : HwRec)) s.hw &&
  Store.wf (fun _ => ({} : IchS)) s.ich && Store.wf (fun _ => ({} : WcS)) s.wc && Store.wf (fun _ => ({} : BerthS)) s.berth &&
  Store.wf (fun _ => ({} : CraneS)) s.crane && Store.wf (fun _ => ([] : List Offer)) s.rounds &&
  Store.wf (fun _ => (0 : BitVec 36)) s.bstore && Store.wf (fun _ => (0 : Nat)) s.bstoreAt && Store.wf (fun _ => (0 : Int)) s.bram &&
  Store.wf (fun _ => (none : Option EngWrite)) s.engW && Store.wf (fun _ => ({} : CuS)) s.cu &&
  Store.wf (fun _ => ({} : MCell)) s.sram && Store.wf (fun _ => ({} : LogCycle)) s.logAt && Store.wf (fun _ => ({} : TzS)) s.tz &&
  Store.wf (fun _ => ({ lvl := true } : PinIn)) s.tripPin && Store.wf (fun _ => (0 : Nat)) s.tbLatch &&
  Store.wf (fun _ => (none : Option Int)) s.srcAt && Store.wf (fun _ => ({} : EvS)) s.ev && Store.wf (fun _ => ({} : LcS)) s.lc &&
  Store.wf (fun _ => (none : Option Nat)) s.divAt && Store.wf (fun _ => ({} : ScS)) s.sc && Store.wf (fun _ => ({} : MfS)) s.mf &&
  Store.wf (fun _ => ({} : FlBank)) s.fl && Store.wf (fun _ => ({} : FlLine)) s.flash && Store.wf (fun _ => ({} : FlBlk)) s.flBlk &&
  Store.wf (fun _ => (none : Option (BitVec 18))) s.otp && Store.wf (fun _ => ({} : GpioPad)) s.gpioPad &&
  Store.wf (fun _ => (true : Bool)) s.lkWake && Store.wf (fun _ => (none : Option Nat)) s.lkDrive &&
  Store.wf (fun _ => ({} : CoreS)) s.core && Store.wf (fun _ => (none : Option (BitVec 36 × Nat))) s.bank &&
  Store.wf (fun _ => ({} : LockS)) s.lock && Store.wf (fun _ => ({} : TideS)) s.tide && Store.wf (fun _ => ({} : SnapS)) s.snap &&
  Store.wf (fun _ => (0 : Nat)) s.vsrc && Store.wf (fun _ => (false : Bool)) s.doze &&
  Store.wf (fun _ => ((0, 0) : Nat × Nat)) s.scrub && Store.wf (fun _ => ({} : LinkS)) s.link && Store.wf (fun _ => ({} : TxS)) s.txs &&
  Store.wf (fun _ => ({} : WinS)) s.win && Store.wf (fun _ => (0 : BitVec 36)) s.graft && Store.wf (fun _ => ({} : SmbS)) s.smb &&
  Store.wf (fun _ => ({} : SpiS)) s.spi

end Sys2Proof.Machine
end

