-- ==== Sys2Proof/Certificates/Slice0/Obligations.lean ====
section
/-! DEFINITION. The statements for the provers, from the numbered rules of the spec; beside each stand the definitions that it speaks in. -/

open Sys2Proof Sys2Proof.Machine

/-! ### The whole machine -/

/-- One step takes the command at the front of the queue and executes it on the state with the rest of the queue; on an empty queue the block idles, by the model's choice (log entry 1). -/
def Obligations.StepTakesFront : Prop :=
  (∀ (c : Instr) (l : List Instr) (s : State), step { s with pending := c :: l } = exec c { s with pending := l }) ∧
  ∀ s : State, s.pending = [] → step s = .next s

/-- Every command answers a next state, keeps the queue of the commands that wait, and never sets the present back: the model's own choices (DESIGN CHOICE, log entries 1, 3 and 4), no rule of the spec. -/
def Obligations.CommandsComplete : Prop :=
  ∀ (c : Instr) (s : State), Does c s (fun s' => s'.pending = s.pending ∧ s.now ≤ s'.now)

/-- Every step keeps the canonical form of the memories, the registers and the units' stores: keys strictly rising, no entry equal to what an unlisted key reads as. -/
def Obligations.CanonicalFormKept : Prop :=
  ∀ s s' : State, s.canonical = true → step s = .next s' → s'.canonical = true

/-- The reset values of the fields whose reset value is not 0, by the register tables: R61, R78, R106, R154, R169, R192, R272, R299, R344, R345, R369, R385, R407, R428. A sample of the fields that the tables give as 0 reads 0. -/
def Obligations.ResetValues : Prop :=
  State.reset.canonical = true ∧ State.reset.pending = [] ∧
  (∀ n < 128, ∀ e ∈ ([(F.ICH_WLEN_len, 512), (F.ICH_PROBETHR_thr, 1280), (F.WC_THH_code, 2047), (F.WC_THL_code, 2048), (F.BERTH_CTL_pri, 3), (F.BERTH_CTL_crane, n % 8), (F.BERTH_TRG_src, 2),
    (F.BERTH_GBASE_base, 16 * n), (F.BERTH_IO_ch, n), (F.BERTH_IO_cu, n), (F.CU_PER_p, 1000), (F.CU_PERS_p, 1000), (F.CU_CAP_t, 2 ^ 36 - 1), (F.LC_FILT_n, 1), (F.LC_OWN_core, 31), (F.EV_OWN_core, 31),
    (F.ICH_CTL_en, 0), (F.WC_CTL_en, 0), (F.BERTH_CTL_arm, 0), (F.CU_CTL_run, 0), (F.CU_CTL_oen, 0), (F.LC_CTL_en, 0), (F.EV_CTL_en, 0)] : List (Fld × Nat)), State.reset.get e.1 n = e.2) ∧
  (∀ n < 16, ∀ e ∈ ([(F.CORE_WDT_tmo, 1000), (F.VU_STAT_cpri, 15), (F.VU_VCTL_pri, 15), (F.SC_BOTHR_th, 1450), (F.MF_CTL_dmin, 15)] : List (Fld × Nat)), State.reset.get e.1 n = e.2) ∧
  (∀ n < 64, ∀ e ∈ ([(F.BANK_STAT_hpend, 0), (F.BANK_STAT_cfgerr, 0), (F.LK_TXW_cnt, 1), (F.LK_TXS_busy, 0), (F.GPIO_CFG_dir, 0), (F.TZ_STAT_lat, 0)] : List (Fld × Nat)), State.reset.get e.1 n = e.2) ∧
  (∀ n < 4096, State.reset.get F.LK_ROUTE_rpf n = 1 ∧ State.reset.get F.LK_ROUTE_port n = 5) ∧
  ∀ e ∈ ([(F.MT_LIM_pmin, 15000), (F.MT_LIM_pmax, 23000), (F.MFU_JPER_per, 1), (F.MEM_SCRUB_en, 1), (F.TB_PPSWIN_w, 1000), (F.TB_UNCERT_ns, 2 ^ 36 - 1), (F.TB_XRATIO_q, 8000000000), (F.PWR_QCTL_q, 15),
    (F.TJ_SPRING_LIMIT_t, 100), (F.SPRING_MAX_S_s, 60), (F.MODE_DROOP_th, 154), (F.LK_QUAR_n, 16), (F.LK_NET_hops, 32), (F.LK_RETRY_rbn, 4), (F.LK_RETRY_rbs, 16), (F.LK_RETRY_rtmo, 8), (F.LK_CAP_n, 8),
    (F.LK_TMO_us, 100), (F.GT_TREE_parent, 7), (F.GT_PLEAD_v, 20000), (F.GT_PGUARD_g, 2000), (F.GT_PCTL_lvl, 1), (F.BEHAVIOUR_LEVEL_impl, 3), (F.SMB_TMO_us, 1000), (F.SPI_CTL_div, 9), (F.LK_PSTAT_state, 0),
    (F.GT_LAST_v, 0), (F.GT_STAT_open, 0), (F.TIDE_EPOCH_n, 0)] : List (Fld × Nat)), State.reset.get e.1 0 = e.2

/-! ### P18 word arithmetic -/

/-- Restates R205: what each word instruction that leaves CX writes to w[rd], from ra and rb. -/
def Sys2Proof.Machine.wordTable : List (CoreCmd × (Word → Word → Word)) :=
  [(.add, fun a b => BitVec.ofNat 18 (a.toNat + b.toNat)), (.sub, fun a b => BitVec.ofInt 18 (a.toNat - b.toNat)),
   (.adds, fun a b => BitVec.ofInt 18 (sat18 (a.toInt + b.toInt))), (.subs, fun a b => BitVec.ofInt 18 (sat18 (a.toInt - b.toInt))),
   (.and, fun a b => a &&& b), (.or, fun a b => a ||| b), (.xor, fun a b => a ^^^ b), (.andn, fun a b => a &&& ~~~b),
   (.sll, fun a b => if 18 ≤ b.toNat % 32 then 0 else BitVec.ofNat 18 (a.toNat * 2 ^ (b.toNat % 32))),
   (.srl, fun a b => BitVec.ofNat 18 (a.toNat / 2 ^ (b.toNat % 32))),
   (.sra, fun a b => BitVec.ofInt 18 (a.toInt / 2 ^ (b.toNat % 32))),
   (.slt, fun a b => if a.toInt < b.toInt then 1 else 0), (.sltu, fun a b => if a.toNat < b.toNat then 1 else 0),
   (.min, fun a b => BitVec.ofInt 18 (min a.toInt b.toInt)), (.max, fun a b => BitVec.ofInt 18 (max a.toInt b.toInt)),
   (.minu, fun a b => BitVec.ofNat 18 (min a.toNat b.toNat)), (.maxu, fun a b => BitVec.ofNat 18 (max a.toNat b.toNat))]

/-- Restates R205: what each word instruction that writes CX makes of ra, rb and CX: the sum or difference as an integer. CX becomes 1
where it lies outside 0 to 2^18 - 1. -/
def Sys2Proof.Machine.carryTable : List (CoreCmd × (Word → Word → Bool → Int)) :=
  [(.addW, fun a b _ => a.toNat + b.toNat), (.subW, fun a b _ => a.toNat - b.toNat),
   (.addc, fun a b c => a.toNat + b.toNat + b2n c), (.subc, fun a b c => a.toNat - b.toNat - b2n c)]

/-- R204, R232: the tandem move of `x`, if it has one, meets a capability that allows it and a queue with room. -/
def Sys2Proof.Machine.TandemOk (h : CoreS) (x : Fields) : Prop :=
  x.te = true → capCheck (h.cap x.tkc) [permST] ((0o063000000 + 2 * ((h.tb.toNat + x.slot) % 16384) : Nat) : Int) 2 = none ∧ h.tq.length < 4

/-- R204: core registers `g` with the tandem move of `x`, if it has one, in the queue: w[rs] as the registers `h` hold it, for state word
(TB + slot) mod 16,384. -/
def Sys2Proof.Machine.withMove (h : CoreS) (x : Fields) (g : CoreS) : CoreS :=
  if x.te then { g with tq := h.tq ++ [((h.tb.toNat + x.slot) % 16384, h.rd x.rs)] } else g

/-- R204, R205, R206: a word instruction writes w[rd], leaves CX, and queues its tandem move; CLS needs rb = 0. -/
def Sys2Proof.Machine.WordResultsRules : Prop :=
  (∀ e ∈ wordTable, ∀ (t : Nat) (c : Fin 16) (x : Fields) (s : State), CoreReady t s c.val → TandemOk (s.coreOf c) x →
    Completes (e.1 t c x) t c s (let h := atIssue t c s; withMove h x (h.wr x.f27 (e.2 (h.rd x.f23) (h.rd x.f19))))) ∧
  (∀ (t : Nat) (c : Fin 16) (x : Fields) (s : State), CoreReady t s c.val → TandemOk (s.coreOf c) x → x.f19 = 0 →
    Completes (.cls t c x) t c s (let h := atIssue t c s
      withMove h x (h.wr x.f27 (BitVec.ofNat 18 ((List.range 17).takeWhile
        (fun i => (h.rd x.f23).getLsbD (16 - i) == (h.rd x.f23).getLsbD 17)).length))))

/-- R205, R206: ADD.W, SUB.W, ADDC and SUBC write w[rd] and CX. -/
def Sys2Proof.Machine.CarryResultsRules : Prop :=
  ∀ e ∈ carryTable, ∀ (t : Nat) (c : Fin 16) (x : Fields) (s : State), CoreReady t s c.val → TandemOk (s.coreOf c) x →
    Completes (e.1 t c x) t c s (let h := atIssue t c s
      let v := e.2 (h.rd x.f23) (h.rd x.f19) h.cx
      withMove h x { h.wr x.f27 (BitVec.ofInt 18 v) with cx := decide (v < 0 ∨ 2 ^ 18 ≤ v) })

/-- The word instructions of opcodes 0o010 to 0o035. -/
def Sys2Proof.Machine.wordCmds : List CoreCmd := wordTable.map (·.1) ++ carryTable.map (·.1) ++ [.cls]

/-- R204, R232: a tandem move whose capability fails a check traps with that cause, and neither the result nor the move takes effect; a full
queue of 4 holds the instruction. -/
def Sys2Proof.Machine.TandemMoveStopsRules : Prop :=
  ∀ m ∈ wordCmds, ∀ (t : Nat) (c : Fin 16) (x : Fields) (s : State), CoreReady t s c.val → x.te = true →
    (x.f19 = 0 ∨ m t c x ≠ .cls t c x) →
    let h := atIssue t c s
    let a : Nat := 0o063000000 + 2 * ((h.tb.toNat + x.slot) % 16384)
    (∀ cause, capCheck (h.cap x.tkc) [permST] a 2 = some cause → Traps (m t c x) t c s cause a) ∧
    (capCheck (h.cap x.tkc) [permST] a 2 = none → 4 ≤ h.tq.length → Waits (m t c x) t c s)

/-- Restates R207: what each pair instruction writes to the pair rd from the pairs ra and rb. -/
def Sys2Proof.Machine.pairTable : List (CoreCmd × (DWord → DWord → DWord)) :=
  [(.addD, fun a b => BitVec.ofNat 36 (a.toNat + b.toNat)), (.subD, fun a b => BitVec.ofInt 36 (a.toNat - b.toNat)),
   (.andD, fun a b => a &&& b), (.orD, fun a b => a ||| b), (.xorD, fun a b => a ^^^ b),
   (.sltD, fun a b => if a.toInt < b.toInt then 1 else 0), (.sltuD, fun a b => if a.toNat < b.toNat then 1 else 0)]

/-- Restates R207: what each pair shift writes from the pair ra and the amount, bits 5..0 of rb. -/
def Sys2Proof.Machine.pairShifts : List (CoreCmd × (DWord → Nat → DWord)) :=
  [(.sllD, fun a n => if 36 ≤ n then 0 else BitVec.ofNat 36 (a.toNat * 2 ^ n)), (.srlD, fun a n => BitVec.ofNat 36 (a.toNat / 2 ^ n)),
   (.sraD, fun a n => BitVec.ofInt 36 (a.toInt / 2 ^ n))]

/-- R207: the pair instructions on even registers with a zero tandem field. -/
def Sys2Proof.Machine.PairResultsRules : Prop :=
  ∀ (t : Nat) (c : Fin 16) (x : Fields) (s : State), CoreReady t s c.val → x.f27 % 2 = 0 → x.f23 % 2 = 0 → x.f19 % 2 = 0 → x.tan = 0 →
    let h := atIssue t c s
    (∀ e ∈ pairTable, Completes (e.1 t c x) t c s (h.wrP x.f27 (e.2 (h.rdP x.f23) (h.rdP x.f19)))) ∧
    (∀ e ∈ pairShifts, Completes (e.1 t c x) t c s (h.wrP x.f27 (e.2 (h.rdP x.f23) ((h.rd x.f19).toNat % 64)))) ∧
    (x.f19 = 0 → Completes (.movD t c x) t c s (h.wrP x.f27 (h.rdP x.f23)))

/-- Restates R208: what each immediate instruction writes to w[rd] from ra and imm. -/
def Sys2Proof.Machine.immTable : List (CoreCmd × (Word → Word → Word)) :=
  [(.addi, fun a i => BitVec.ofNat 18 (a.toNat + i.toNat)), (.andi, fun a i => a &&& i), (.ori, fun a i => a ||| i),
   (.xori, fun a i => a ^^^ i), (.slti, fun a i => if a.toInt < i.toInt then 1 else 0),
   (.sltui, fun a i => if a.toNat < i.toNat then 1 else 0)]

/-- Restates R208: what each immediate shift writes from ra and the amount. -/
def Sys2Proof.Machine.immShifts : List (CoreCmd × (Word → Nat → Word)) :=
  [(.slli, fun a n => if 18 ≤ n then 0 else BitVec.ofNat 18 (a.toNat * 2 ^ n)), (.srli, fun a n => BitVec.ofNat 18 (a.toNat / 2 ^ n)),
   (.srai, fun a n => BitVec.ofInt 18 (a.toInt / 2 ^ n))]

/-- R208: the immediate instructions. -/
def Sys2Proof.Machine.ImmediateResultsRules : Prop :=
  ∀ (t : Nat) (c : Fin 16) (x : Fields) (s : State), CoreReady t s c.val → x.res19 = 0 →
    let h := atIssue t c s
    (∀ e ∈ immTable, Completes (e.1 t c x) t c s (h.wr x.f27 (e.2 (h.rd x.f23) x.imm))) ∧
    (x.imm.toNat < 32 → ∀ e ∈ immShifts, Completes (e.1 t c x) t c s (h.wr x.f27 (e.2 (h.rd x.f23) x.imm.toNat))) ∧
    (x.f27 % 2 = 0 → x.f23 % 2 = 0 →
      Completes (.addiD t c x) t c s (h.wrP x.f27 (BitVec.ofInt 36 ((h.rdP x.f23).toNat + x.imm.toInt))))

/-- R203: reserved bits, odd pair registers, reserved special codes and zero loop offsets raise the illegal-instruction trap and change
nothing else; R222: so does a nonzero kt, a KNAR whose r is not a multiple of 4, and a KBASE or KLEN whose r is odd. -/
def Sys2Proof.Machine.IllegalEncodingsRules : Prop :=
  ∀ (t : Nat) (c : Fin 16) (x : Fields) (s : State), CoreReady t s c.val →
    (∀ m ∈ (pairTable.map (·.1) ++ pairShifts.map (·.1) ++ [.movD] : List CoreCmd),
      (x.f27 % 2 = 1 ∨ x.f23 % 2 = 1 ∨ x.f19 % 2 = 1 ∨ x.tan ≠ 0) → Traps (m t c x) t c s 0 0) ∧
    (∀ m ∈ (immTable.map (·.1) ++ immShifts.map (·.1) ++ [.addiD] : List CoreCmd), x.res19 ≠ 0 → Traps (m t c x) t c s 0 0) ∧
    (∀ m ∈ (immShifts.map (·.1) : List CoreCmd), 32 ≤ x.imm.toNat → Traps (m t c x) t c s 0 0) ∧
    (∀ m ∈ ([.mulS, .mulU, .macS, .macU, .mscS, .mscU] : List CoreCmd), (x.f27 ≠ 0 ∨ x.tan ≠ 0) → Traps (m t c x) t c s 0 0) ∧
    (∀ m ∈ ([.nop, .fence, .wfi, .syncI, .lbrk, .paz] : List CoreCmd), x ≠ 0 → Traps (m t c x) t c s 0 0) ∧
    (∀ m ∈ ([.divS, .divU, .divDs, .divDu] : List CoreCmd), (x.f27 % 2 = 1 ∨ x.tan ≠ 0) → Traps (m t c x) t c s 0 0) ∧
    (∀ m ∈ ([.divDs, .divDu] : List CoreCmd), x.f23 % 2 = 1 → Traps (m t c x) t c s 0 0) ∧
    (x.f19 ≠ 0 → Traps (.cls t c x) t c s 0 0) ∧ (x.f23 ≠ 0 ∨ x.tan ≠ 0 → Traps (.par t c x) t c s 0 0) ∧
    (x.b24 ≠ 0 → Traps (.jal t c x) t c s 0 0) ∧ (x.b24 ≠ 0 ∨ x.resJR ≠ 0 → Traps (.jalr t c x) t c s 0 0) ∧
    (x.resT ≠ 0 → Traps (.trap t c x) t c s 0 0) ∧ (x.resLP ≠ 0 → Traps (.lp t c x) t c s 0 0) ∧
    (x.b20 = 1 → Traps (.ldN t c true x) t c s 0 0 ∧ Traps (.ldNs t c true x) t c s 0 0 ∧ Traps (.ldW t c true x) t c s 0 0 ∧
      Traps (.stN t c true x) t c s 0 0 ∧ Traps (.stW t c true x) t c s 0 0) ∧
    (∀ mx, (x.f27 % 2 = 1 → Traps (.ldD t c mx x) t c s 0 0 ∧ Traps (.stD t c mx x) t c s 0 0) ∧
      (8 ≤ x.f27 → Traps (.ldK t c mx x) t c s 0 0 ∧ Traps (.stK t c mx x) t c s 0 0)) ∧
    (∀ m ∈ ([.lp, .lpi] : List CoreCmd), x.offL = 0 → Traps (m t c x) t c s 0 0) ∧
    (∀ m ∈ ([.kmov, .kclr, .kbase, .klen, .kperm, .ktype, .knar, .ksr, .kprm, .kseal, .kopen, .kpc, .kgo, .rett] : List CoreCmd),
      (x.kt ≠ 0 ∨ x.resK ≠ 0) → Traps (m t c x) t c s 0 0) ∧
    (x.rK % 4 ≠ 0 → Traps (.knar t c x) t c s 0 0) ∧
    (∀ m ∈ ([.mfs, .mts] : List CoreCmd), (0o14 ≤ x.spec ∧ x.spec ≤ 0o23) ∨ 0o26 ≤ x.spec → Traps (m t c x) t c s 0 0) ∧
    (x.spec = 5 ∨ x.spec = 0o24 ∨ x.spec = 0o25 → Traps (.mts t c x) t c s 0 0) ∧
    (x.spec = 6 → 4 < ((s.coreOf c).rd x.f27).toNat → Traps (.mts t c x) t c s 0 0) ∧
    (∀ m ∈ ([.mfsD, .mtsD] : List CoreCmd), x.f27 % 2 = 1 ∨ x.spec < 0o14 ∨ 0o24 ≤ x.spec → Traps (m t c x) t c s 0 0) ∧
    (∀ m ∈ ([.mfs, .mts, .mfsD, .mtsD] : List CoreCmd), x.resS ≠ 0 → Traps (m t c x) t c s 0 0) ∧
    (∀ m ∈ ([.addiD, .beqD, .bneD, .bltD, .bgeD, .bltuD, .bgeuD] : List CoreCmd), (x.f27 % 2 = 1 ∨ x.f23 % 2 = 1) → Traps (m t c x) t c s 0 0) ∧
    (x.b20 = 1 → Traps (.ldD t c true x) t c s 0 0 ∧ Traps (.stD t c true x) t c s 0 0 ∧ Traps (.ldK t c true x) t c s 0 0 ∧ Traps (.stK t c true x) t c s 0 0) ∧
    (∀ m ∈ ([.kbase, .klen] : List CoreCmd), x.rK % 2 = 1 → Traps (m t c x) t c s 0 0)

/-! ### P18 multiplication and division -/

/-- Restates R209: the product of each multiply as an integer, and what it makes of PA (none: PA keeps its value). -/
def Sys2Proof.Machine.mulTable : List (CoreCmd × (Word → Word → Int) × Option (Int → Int → Int)) :=
  [(.mulS, fun a b => a.toInt * b.toInt, none), (.mulU, fun a b => a.toNat * b.toNat, none),
   (.macS, fun a b => a.toInt * b.toInt, some fun pa p => pa + p), (.macU, fun a b => a.toNat * b.toNat, some fun pa p => pa + p),
   (.mscS, fun a b => a.toInt * b.toInt, some fun pa p => pa - p), (.mscU, fun a b => a.toNat * b.toNat, some fun pa p => pa - p)]

/-- R209, R210: a multiply leaves the product for PH:PL and the new accumulator, made from the accumulator as every earlier instruction
left it, to take effect when the next instruction completes; PAR reads the accumulator from before a multiply just executed. -/
def Sys2Proof.Machine.MultiplyResultsRules : Prop :=
  ∀ (t : Nat) (c : Fin 16) (x : Fields) (s : State), CoreReady t s c.val →
    let h := atIssue t c s
    (∀ e ∈ mulTable, x.f27 = 0 → x.tan = 0 →
      let p := e.2.1 (h.rd x.f23) (h.rd x.f19)
      CompletesMul (e.1 t c x) t c s h
        { p := some (BitVec.ofInt 36 p), pa := e.2.2.map (fun g => BitVec.ofInt 54 (g h.paNow.toInt p)) }) ∧
    (x.f23 = 0 → x.tan = 0 → CompletesMul (.par t c x) t c s
      (h.wr x.f27 (BitVec.ofInt 18 (sat18 (roundDiv (h.pa.toInt * 2 ^ x.f19) (2 ^ 17))))) {}) ∧
    (x = 0 → CompletesMul (.paz t c x) t c s h { pa := some 0 })

/-- Restates R212: the quotient and remainder of dividend `a` by `b`, whose true quotient must lie between `lo` and `hi` and is else `big`;
`low` is the low word of the dividend. -/
def Sys2Proof.Machine.divRule (lo hi : Int) (big : Int → Word) (a b : Int) (low : Word) : Word × Word :=
  if b = 0 then (0o777777#18, low)
  else if a.tdiv b < lo ∨ hi < a.tdiv b then (big (a.tdiv b), low)
  else (BitVec.ofInt 18 (a.tdiv b), BitVec.ofInt 18 (a - a.tdiv b * b))

/-- R212: DIV.S, DIV.U, DIV.DS and DIV.DU, for every operand value. -/
def Sys2Proof.Machine.DivisionResultsRules : Prop :=
  ∀ (t : Nat) (c : Fin 16) (x : Fields) (s : State), CoreReady t s c.val → x.f27 % 2 = 0 → x.tan = 0 →
    let h := atIssue t c s
    let b := h.rd x.f19
    let put (r : Word × Word) : CoreS := (h.wr x.f27 r.1).wr (x.f27 + 1) r.2
    Completes (.divS t c x) t c s (put (let a := h.rd x.f23
      if a = 0o400000#18 ∧ b = 0o777777#18 then (0o400000#18, 0)
      else divRule (-131072) 131071 (fun q => BitVec.ofInt 18 q) a.toInt b.toInt a)) ∧
    Completes (.divU t c x) t c s (put (let a := h.rd x.f23
      divRule 0 262143 (fun q => BitVec.ofInt 18 q) a.toNat b.toNat a)) ∧
    (x.f23 % 2 = 0 →
      let a := h.rdP x.f23
      Completes (.divDs t c x) t c s
        (put (divRule (-131072) 131071 (fun q => BitVec.ofInt 18 (sat18 q)) a.toInt b.toInt (h.rd (x.f23 + 1)))) ∧
      Completes (.divDu t c x) t c s (put (divRule 0 262143 (fun _ => 0o777777#18) a.toNat b.toNat (h.rd (x.f23 + 1)))))

/-! ### P18 branches and loops -/

/-- Restates R214: the condition of each conditional branch, in format B, BI and B over pairs. -/
def Sys2Proof.Machine.branchTable : List (CoreCmd × (CoreS → Fields → Bool) × (Fields → Int)) :=
  [(.beq, fun h x => h.rd x.f27 = h.rd x.f23, Fields.offB), (.bne, fun h x => h.rd x.f27 ≠ h.rd x.f23, Fields.offB),
   (.blt, fun h x => (h.rd x.f27).toInt < (h.rd x.f23).toInt, Fields.offB),
   (.bge, fun h x => (h.rd x.f23).toInt ≤ (h.rd x.f27).toInt, Fields.offB),
   (.bltu, fun h x => (h.rd x.f27).toNat < (h.rd x.f23).toNat, Fields.offB),
   (.bgeu, fun h x => (h.rd x.f23).toNat ≤ (h.rd x.f27).toNat, Fields.offB),
   (.beqi, fun h x => (h.rd x.f27).toInt = x.immBI.toInt, Fields.offBI), (.bnei, fun h x => (h.rd x.f27).toInt ≠ x.immBI.toInt, Fields.offBI),
   (.blti, fun h x => (h.rd x.f27).toInt < x.immBI.toInt, Fields.offBI), (.bgei, fun h x => x.immBI.toInt ≤ (h.rd x.f27).toInt, Fields.offBI),
   (.bltui, fun h x => (h.rd x.f27).toNat < x.immBI.toNat, Fields.offBI), (.bgeui, fun h x => x.immBI.toNat ≤ (h.rd x.f27).toNat, Fields.offBI)]

/-- Restates R214: the condition of each branch on pairs. -/
def Sys2Proof.Machine.pairBranchTable : List (CoreCmd × (DWord → DWord → Bool)) :=
  [(.beqD, fun a b => a = b), (.bneD, fun a b => a ≠ b), (.bltD, fun a b => a.toInt < b.toInt), (.bgeD, fun a b => b.toInt ≤ a.toInt),
   (.bltuD, fun a b => a.toNat < b.toNat), (.bgeuD, fun a b => b.toNat ≤ a.toNat)]

/-- R216: a target that a transfer may take: a multiple of 4, inside the bounds of PCC, which has EX. -/
def Sys2Proof.Machine.TargetOk (h : CoreS) (a : Int) : Prop :=
  a % 4 = 0 ∧ (h.pcc.base.toNat : Int) ≤ a ∧ a < h.pcc.base.toNat + h.pcc.len.toNat ∧ h.pcc.has permEX = true

/-- R214, R216, R218, R227, R233, R239: what a branch with offset `off` in instructions does where `taken`. It is predicted taken where the
entry at bits 9..2 of its address holds 2 or 3, or where that entry is invalid and `off` is negative, and in SLACK never; a misprediction
stalls 3 cycles. The entry then counts up to 3 or down to 0, from 2 or 1 where it was invalid; SLACK leaves the predictor alone. A branch
not allowed to go to its target traps and leaves it alone too. -/
def Sys2Proof.Machine.BranchDoes (i : Instr) (t c : Nat) (s : State) (taken : Bool) (off : Int) : Prop :=
  let h := atIssue t c s
  let a : Int := h.pc.toNat + 4 * off
  let entry := Store.get (fun _ => none) h.pred (h.pc.toNat / 4 % 256)
  let predicted : Bool := !slack s && (match entry with | some n => decide (2 ≤ n) | none => decide (off < 0))
  let next : Nat := match entry with
    | some n => if taken then min (n + 1) 3 else n - 1
    | none => if taken then 2 else 1
  let g := { h with
    brStall := if predicted = taken then 0 else 3
    pred := if slack s then h.pred else Store.set (fun _ => none) h.pred (h.pc.toNat / 4 % 256) (some next) }
  (taken = false → Completes i t c s g) ∧
  (taken = true → TargetOk h a → GoesTo i t c s g (BitVec.ofInt 27 a)) ∧
  (taken = true → ¬ TargetOk h a → Traps i t c s 6 a)

/-- R214, R216: every conditional branch: where its condition fails, the core goes on by the loop rule; where it holds, to the address of
the branch plus 4 times the offset, or into the transfer trap where the target is not allowed. Registers and flags keep their values. -/
def Sys2Proof.Machine.BranchesRules : Prop :=
  ∀ (t : Nat) (c : Fin 16) (x : Fields) (s : State), CoreReady t s c.val →
    let h := atIssue t c s
    (∀ e ∈ branchTable, BranchDoes (e.1 t c x) t c s (e.2.1 h x) (e.2.2 x)) ∧
    (x.f27 % 2 = 0 → x.f23 % 2 = 0 → ∀ e ∈ pairBranchTable,
      BranchDoes (e.1 t c x) t c s (e.2 (h.rdP x.f27) (h.rdP x.f23)) x.offB)

/-- R215, R216: JAL and JALR: the target, the link in the pair dl (none where dl = 0), and no link where the target is not allowed. -/
def Sys2Proof.Machine.JumpsRules : Prop :=
  ∀ (t : Nat) (c : Fin 16) (x : Fields) (s : State), CoreReady t s c.val → x.b24 = 0 →
    let h := atIssue t c s
    let linked := if x.dl = 0 then h else h.wrP (2 * x.dl) ((h.pc + 4).setWidth 36)
    let jal : Int := h.pc.toNat + 4 * x.offJ
    let jalr : Int := ((h.rdP (2 * x.dn)).toNat % 2 ^ 27 : Nat)
    (TargetOk h jal → GoesTo (.jal t c x) t c s linked (BitVec.ofInt 27 jal)) ∧
    (¬ TargetOk h jal → Traps (.jal t c x) t c s 6 jal) ∧
    (x.resJR = 0 → TargetOk h jalr → GoesTo (.jalr t c x) t c s linked (BitVec.ofInt 27 jalr)) ∧
    (x.resJR = 0 → ¬ TargetOk h jalr → Traps (.jalr t c x) t c s 6 jalr)

/-- R217: LP and LPI with a legal offset: the loop-nest trap at LN = 4, the skip of the body at count 0, and else a new innermost level. -/
def Sys2Proof.Machine.LoopOpenRules : Prop :=
  ∀ (t : Nat) (c : Fin 16) (x : Fields) (s : State), CoreReady t s c.val → x.offL ≠ 0 → ∀ e ∈ ([(.lp, (s.coreOf c).rd x.f27), (.lpi, BitVec.ofNat 18 x.cnt)] : List (CoreCmd × Word)),
    (x.resLP = 0 ∨ e.1 t c x = .lpi t c x) →
    let h := atIssue t c s
    let e_ := h.pc + BitVec.ofNat 27 (4 * x.offL)
    (h.ln = 4 → Traps (e.1 t c x) t c s 7 0) ∧
    (h.ln ≠ 4 → e.2 = 0 → GoesTo (e.1 t c x) t c s h (e_ + 4)) ∧
    (h.ln ≠ 4 → e.2 ≠ 0 → GoesTo (e.1 t c x) t c s
      { ((h.setLs h.ln (h.pc + 4)).setLe h.ln e_).setLc h.ln e.2 with ln := h.ln + 1 } (h.pc + 4))

/-- R218: the loop rule, for a NOP at address A: A + 4 where A ends no innermost level; back to LS with the count one less where it is above
1; else the level ends and the next outer one is tested. -/
def Sys2Proof.Machine.LoopRuleRules : Prop :=
  (∀ (t : Nat) (c : Fin 16) (s : State), CoreReady t s c.val → Completes (.nop t c 0) t c s (atIssue t c s)) ∧
  ∀ h : CoreS, let i := h.ln - 1
    ((h.ln = 0 ∨ h.pc ≠ h.leOf i) → h.advance = { h with pc := h.pc + 4 }) ∧
    (0 < h.ln → h.pc = h.leOf i → 1 < (h.lcOf i).toNat → h.advance = { h.setLc i (h.lcOf i - 1) with pc := h.lsOf i }) ∧
    (0 < h.ln → h.pc = h.leOf i → (h.lcOf i).toNat ≤ 1 → h.advance = ({ h.setLc i 0 with ln := i } : CoreS).advance)

/-! ### P18 special moves and system instructions -/

/-- R195, R210, R221: MFS and MTS of every readable and writable code, MFS.D and MTS.D of LS and LE, LBRK, SYNC.I, FENCE and WFI. -/
def Obligations.SpecialMoves : Prop :=
  ∀ (t : Nat) (c : Fin 16) (x : Fields) (s : State), CoreReady t s c.val →
    let h := atIssue t c s
    (x.resS = 0 → ∀ e ∈ ([(0o00, h.ph), (0o01, h.pl), (0o02, h.pa.extractLsb' 0 18), (0o03, h.pa.extractLsb' 18 18),
        (0o04, h.pa.extractLsb' 36 18), (0o05, BitVec.ofNat 18 (b2n h.cx)), (0o06, BitVec.ofNat 18 h.ln), (0o07, h.tb.setWidth 18),
        (0o10, h.lcOf 0), (0o11, h.lcOf 1), (0o12, h.lcOf 2), (0o13, h.lcOf 3), (0o24, BitVec.ofNat 18 c.val),
        (0o25, h.sr.setWidth 18)] : List (Nat × Word)), x.spec = e.1 → Completes (.mfs t c x) t c s (h.wr x.f27 e.2)) ∧
    (x.resS = 0 → let v := h.rd x.f27
      ∀ e ∈ ([(0o00, { h with ph := v }), (0o01, { h with pl := v }), (0o02, { h with pa := h.pa.extractLsb' 18 36 ++ v }),
        (0o03, { h with pa := (h.pa.extractLsb' 36 18 ++ v) ++ h.pa.extractLsb' 0 18 }),
        (0o04, { h with pa := v ++ h.pa.extractLsb' 0 36 }), (0o07, { h with tb := v.setWidth 14 }),
        (0o10, h.setLc 0 v), (0o11, h.setLc 1 v), (0o12, h.setLc 2 v), (0o13, h.setLc 3 v)] : List (Nat × CoreS)),
        x.spec = e.1 → Completes (.mts t c x) t c s e.2) ∧
    (x.resS = 0 → x.spec = 6 → (h.rd x.f27).toNat ≤ 4 → Completes (.mts t c x) t c s { h with ln := (h.rd x.f27).toNat }) ∧
    (x.resS = 0 → x.f27 % 2 = 0 → ∀ i < 4,
      (x.spec = 0o14 + i → Completes (.mfsD t c x) t c s (h.wrP x.f27 ((h.lsOf i).setWidth 36)) ∧
        Completes (.mtsD t c x) t c s (h.setLs i ((h.rdP x.f27).setWidth 27))) ∧
      (x.spec = 0o20 + i → Completes (.mfsD t c x) t c s (h.wrP x.f27 ((h.leOf i).setWidth 36)) ∧
        Completes (.mtsD t c x) t c s (h.setLe i ((h.rdP x.f27).setWidth 27)))) ∧
    Completes (.lbrk t c 0) t c s (if h.ln = 0 then h else { h.setLc (h.ln - 1) 0 with ln := h.ln - 1 }) ∧
    Completes (.syncI t c 0) t c s { h with ic := [] } ∧
    (h.sb = [] → h.tq = [] → Completes (.fence t c 0) t c s h) ∧
    ((h.sb ≠ [] ∨ h.tq ≠ []) → Waits (.fence t c 0) t c s) ∧
    ((winner (issued t c s) c).isSome → Completes (.wfi t c 0) t c s h) ∧
    (winner (issued t c s) c = none → Does (.wfi t c 0) s (fun s' =>
      s' = ((issued t c s).put F.CORE_STAT_state c 2).setCore c { h with presRan := h.pres.isSome, stalled := true }))

/-! ### P18 capability instructions -/

/-- R222, R250, R252: the capability instructions that cannot trap, and the derivations where their checks pass. -/
def Sys2Proof.Machine.CapabilityResultsRules : Prop :=
  ∀ (t : Nat) (c : Fin 16) (x : Fields) (s : State), CoreReady t s c.val → x.kt = 0 → x.resK = 0 →
    let h := atIssue t c s
    let k := h.cap x.ks
    let w := h.rd x.rK
    Completes (.kmov t c x) t c s (h.setCap x.dl k) ∧ Completes (.kclr t c x) t c s (h.setCap x.dl {}) ∧
    Completes (.kpc t c x) t c s (h.setCap x.dl h.pcc) ∧
    (x.rK % 2 = 0 → Completes (.kbase t c x) t c s (h.wrP x.rK (k.base.setWidth 36)) ∧
      Completes (.klen t c x) t c s (h.wrP x.rK (k.len.setWidth 36))) ∧
    Completes (.kperm t c x) t c s (h.wr x.rK (k.perm.setWidth 18)) ∧
    Completes (.ktype t c x) t c s (h.wr x.rK (BitVec.ofNat 18 (b2n k.tag * 2 ^ 17 + k.otype.toNat))) ∧
    Does (.ksr t c x) s (fun s' => OnlyIssuer t c s s' ∧ ∀ ty < 64, srCovers (s'.coreOf c).sr ty =
      (srCovers h.sr ty && srCovers (w.setWidth 12) ty)) ∧
    (k.tag = true → k.otype = 0 →
      Completes (.kprm t c x) t c s (h.setCap x.dl { k with perm := k.perm &&& w.setWidth 12 }) ∧
      (x.rK % 4 = 0 → let b := (h.rdP x.rK).toNat % 2 ^ 27; let e := (h.rdP (x.rK + 2)).toNat % 2 ^ 27
        k.base.toNat ≤ b → b ≤ e → e ≤ k.base.toNat + k.len.toNat →
        Completes (.knar t c x) t c s (h.setCap x.dl { k with base := BitVec.ofNat 27 b, len := BitVec.ofNat 27 (e - b) })) ∧
      (k.has permSE = true → let ty := w.toNat % 64
        srCovers h.sr ty = true → (ty = 63 → k.has permEX = true ∨ k.has permGT = true) →
        Completes (.kseal t c x) t c s (h.setCap x.dl { k with otype := BitVec.ofNat 6 ty }))) ∧
    (k.tag = true → 1 ≤ k.otype.toNat → k.otype.toNat ≤ 62 → srCovers h.sr k.otype.toNat = true →
      Completes (.kopen t c x) t c s (h.setCap x.dl { k with otype := 0 }))

/-- R250: the checks of KNAR, KPRM, KSEAL and KOPEN, in the order shown, raise the first trap that applies and write no register. -/
def Sys2Proof.Machine.DerivationTrapsRules : Prop :=
  ∀ (t : Nat) (c : Fin 16) (x : Fields) (s : State), CoreReady t s c.val → x.kt = 0 → x.resK = 0 → x.rK % 4 = 0 →
    let h := atIssue t c s
    let k := h.cap x.ks
    let b := (h.rdP x.rK).toNat % 2 ^ 27
    let e := (h.rdP (x.rK + 2)).toNat % 2 ^ 27
    let ty := (h.rd x.rK).toNat % 64
    (k.tag = false → ∀ m ∈ ([.knar, .kprm, .kseal, .kopen] : List CoreCmd), Traps (m t c x) t c s 1 0) ∧
    (k.tag = true → k.otype ≠ 0 → ∀ m ∈ ([.knar, .kprm, .kseal] : List CoreCmd), Traps (m t c x) t c s 2 0) ∧
    (k.tag = true → k.otype = 0 →
      (¬ (k.base.toNat ≤ b ∧ b ≤ e ∧ e ≤ k.base.toNat + k.len.toNat) → Traps (.knar t c x) t c s 8 0) ∧
      (k.has permSE = false → Traps (.kseal t c x) t c s 3 0) ∧
      (k.has permSE = true → (srCovers h.sr ty = false ∨ (ty = 63 ∧ k.has permEX = false ∧ k.has permGT = false)) →
        Traps (.kseal t c x) t c s 9 0)) ∧
    (k.tag = true → (k.otype.toNat = 0 ∨ k.otype.toNat = 63 ∨ srCovers h.sr k.otype.toNat = false) → Traps (.kopen t c x) t c s 9 0)

/-- Capability `k` grants nothing that `j` does not: its bounds and its permissions lie within those of `j`. -/
def Sys2Proof.Machine.Within (k j : Cap) : Prop :=
  j.base.toNat ≤ k.base.toNat ∧ k.base.toNat + k.len.toNat ≤ j.base.toNat + j.len.toNat ∧ k.perm &&& j.perm = k.perm

/-- The instructions that act on the registers of their core alone. -/
def Sys2Proof.Machine.registerCmds : List CoreCmd :=
  wordCmds ++ pairTable.map (·.1) ++ pairShifts.map (·.1) ++ [.movD] ++ immTable.map (·.1) ++ immShifts.map (·.1) ++ [.addiD] ++
    mulTable.map (·.1) ++ [.par, .paz, .divS, .divU, .divDs, .divDu] ++ branchTable.map (·.1) ++ pairBranchTable.map (·.1) ++
    [.jal, .jalr, .lp, .lpi, .lbrk, .nop, .mfs, .mts, .mfsD, .mtsD, .fence, .trap, .syncI, .kmov, .kclr, .kbase, .klen, .kperm, .ktype,
     .knar, .ksr, .kprm, .kseal, .kopen, .kpc]

/-- R222, R247, R250: no instruction of `registerCmds`, those that act on registers alone, widens authority: every tagged capability that the
core then holds lies within one that it held, or is PCC; no seal range covers a new type; and PCC keeps its value. The commands that take
capabilities from memory and descriptors have a statement of their own. -/
def Obligations.RegisterCommandsKeepAuthority : Prop :=
  ∀ m ∈ registerCmds, ∀ (t : Nat) (c : Fin 16) (x : Fields) (s : State), Does (m t c x) s (fun s' =>
    SameCoreBut c s s' ∧ (s'.coreOf c).pcc = (s.coreOf c).pcc ∧
    (∀ n, ((s'.coreOf c).cap n).tag = true →
      (Within ((s'.coreOf c).cap n) (s.coreOf c).pcc ∧ (s.coreOf c).pcc.tag = true) ∨
      ∃ j, ((s.coreOf c).cap j).tag = true ∧ Within ((s'.coreOf c).cap n) ((s.coreOf c).cap j)) ∧
    ∀ ty < 64, srCovers (s'.coreOf c).sr ty = true → srCovers (s.coreOf c).sr ty = true)

/-- R246, R255: capability `k` lies within one of line `d` with tag `tag`, but for its type. -/
def Sys2Proof.Machine.FromLine (k : Cap) (d : Line) (tag : Bool) : Prop := tag = true ∧ Within k (Cap.ofLine d tag)

/-- R247, R250, R255: a tagged capability that core `c` may come to hold from state `s`: within one of its registers or PCC, within a line of its store
buffer or of SRAM whose words are tagged, or within one of its descriptor copies. -/
def Sys2Proof.Machine.MayHold (s : State) (c : Nat) (k : Cap) : Prop :=
  let h := s.coreOf c
  let cell (a i : Nat) : MCell := s.sramOf (a + i)
  (∃ n < 8, (h.cap n).tag = true ∧ Within k (h.cap n)) ∨ (h.pcc.tag = true ∧ Within k h.pcc) ∨
  (∃ e ∈ h.sb, e.size = 8 ∧ FromLine k e.data (e.cap && e.tag)) ∨
  (∃ a < 2097152, FromLine k ((cell a 0).w ++ (cell a 1).w ++ (cell a 2).w ++ (cell a 3).w) ((List.range 4).all (fun i => (cell a i).tag))) ∨
  ∃ v < 128, let d := Store.get (fun _ => {}) h.desc v
    ∃ j ∈ [d.code, d.stack, d.auth], j.tag = true ∧ Within k j

/-- R201, R222, R247, R255, R258, R260, R261, R264, R270: no load, gate, return, entry, wake or restart of a core makes a capability: every tagged one
that the core then holds comes from its registers, from tagged lines of memory, or from its descriptor copies; no other core changes. The
descriptor copies with valid vectors hold tagged code, stack and authority capabilities, and no store is longer than a line, as the premises say. -/
def Obligations.CapabilitiesComeFromTaggedLines : Prop :=
  ∀ (t : Nat) (c : Fin 16) (mx : Bool) (x : Fields) (f : FetchFault) (s : State),
    (∀ v < 128, s.is F.VU_VCTL_valid (c * 128 + v) = true → let d := Store.get (fun _ => {}) (s.coreOf c).desc v
      d.code.tag = true ∧ d.stack.tag = true ∧ d.auth.tag = true) → (∀ e ∈ (s.coreOf c).sb, e.size ≤ 8) →
    ∀ i ∈ ([.ldK t c mx x, .kgo t c x, .rett t c x, .wfi t c x, .trapEntry t c f, .interruptEntry t c, .vectorPresent t c, .coreResetComplete t c] : List Instr),
      Does i s (fun s' => SameCoreBut c s s' ∧ ∀ k, ((∃ n < 8, k = (s'.coreOf c).cap n) ∨ k = (s'.coreOf c).pcc) → k.tag = true → MayHold s c k)

/-! ### P18 instruction fetch -/

/-- R202, R249: the address and PCC that a fetch asks for: a multiple of 4; a tagged, unsealed capability with EX whose bounds hold the whole
instruction; SRAM, flash or the rootstock ROM. -/
def Sys2Proof.Machine.MayFetch (h : CoreS) : Prop :=
  let a := h.pc.toNat
  a % 4 = 0 ∧ h.pcc.tag = true ∧ h.pcc.otype = 0 ∧ h.pcc.has permEX = true ∧ h.pcc.base.toNat ≤ a ∧
    a + 4 ≤ h.pcc.base.toNat + h.pcc.len.toNat ∧ (regionOf a = .flash ∨ regionOf a = .sram ∨ regionOf a = .rom) ∧
    regionOf (a + 3) = regionOf a

/-- The device after a command at `t` that changed nothing else. -/
def Sys2Proof.Machine.Idle (t : Nat) (s s' : State) : Prop := s' = { s with now := max s.now t, out := [] }

/-- The instruction's fetch raises the trap: no other register and no other part of the device changes. -/
def Sys2Proof.Machine.FetchTraps (i : Instr) (t c : Nat) (s : State) (cause : Nat) : Prop :=
  let h := s.coreOf c
  Does i s (fun s' => OnlyCore t c s s' ∧
    s'.coreOf c = { h with trap := some ⟨cause, 0, h.pc, (h.pc.toNat : Int)⟩, presRan := h.pres.isSome, stalled := false })

/-- The instruction's fetch waits: nothing changes but that its core stands at a boundary for an interrupt (R237). -/
def Sys2Proof.Machine.FetchWaits (i : Instr) (t c : Nat) (s : State) : Prop :=
  Does i s (fun s' => OnlyCore t c s s' ∧ s'.coreOf c = { s.coreOf c with presRan := (s.coreOf c).pres.isSome, stalled := true })

/-- R234, R239, R249, R254, R275, R279, R301, R307: the fetch of an instruction. A core that may not issue does nothing. A fetch against R202 or
R249 raises cause 6, also where PCC is untagged or sealed (DEDUCED, log 22: R251 and R254 give causes 2 and 1 for other uses). A block in the
instruction cache needs no access; which block leaves a full cache, and that a block with an error beside the instruction does not enter, is
log 27 (DESIGN CHOICE). Else a bank that the core does not own raises cause 11, a bank about to be handed over to it and a busy flash bank
hold the core, an uncorrectable error in the instruction raises cause 10, and SRAM and flash without error and the ROM give the instruction,
whose block then stands in the cache; in SLACK the cache is not used. -/
def Obligations.InstructionFetch : Prop :=
  ∀ m ∈ registerCmds, ∀ (t : Nat) (c : Fin 16) (x : Fields) (s : State),
    let h := s.coreOf c
    let a := h.pc.toNat
    let cached : Prop := slack s = false ∧ Store.get (fun _ => false) h.ic (a / 32) = true
    (canRun s c = false → Does (m t c x) s (Idle t s)) ∧
    (canRun s c = true → ¬ MayFetch h → FetchTraps (m t c x) t c s 6) ∧
    (canRun s c = true → MayFetch h → cached → CoreReady t s c ∧ Idle t s (issued t c s)) ∧
    (canRun s c = true → MayFetch h → ¬ cached →
      (regionOf a = .sram → awaitsBank s c (bankAt a) = true → FetchWaits (m t c x) t c s) ∧
      (regionOf a = .sram → awaitsBank s c (bankAt a) = false → ownsBank s c (bankAt a) = false → FetchTraps (m t c x) t c s 11) ∧
      (regionOf a = .flash → (s.flOf (a / 0o010000000)).run.isSome = true → FetchWaits (m t c x) t c s) ∧
      (((regionOf a = .sram ∧ awaitsBank s c (bankAt a) = false ∧ ownsBank s c (bankAt a) = true ∧ ((s.sramOf (sramIx a)).ecc = .bad ∨ (s.sramOf (sramIx a + 1)).ecc = .bad)) ∨
          (regionOf a = .flash ∧ (s.flOf (a / 0o010000000)).run.isSome = false ∧ (s.flBlkOf (a / 8192)).ecomp = true ∧ (s.flashOf (a / 8)).undef = false ∧ (s.flashOf (a / 8)).ecc = .bad)) →
        Does (m t c x) s (fun s' => SameCoreBut c s s' ∧
          s'.coreOf c = { h with trap := some ⟨10, 0, h.pc, (h.pc.toNat : Int)⟩, presRan := h.pres.isSome, stalled := false })) ∧
      ((regionOf a = .rom ∨ (regionOf a = .flash ∧ (s.flOf (a / 0o010000000)).run.isSome = false ∧
          ∀ i < 4, (s.flBlkOf ((a / 32 * 4 + i) / 1024)).ecomp = true ∧ (s.flashOf (a / 32 * 4 + i)).undef = false ∧ (s.flashOf (a / 32 * 4 + i)).ecc = .good) ∨ (regionOf a = .sram ∧ awaitsBank s c (bankAt a) = false ∧ ownsBank s c (bankAt a) = true ∧
          ∀ i < 16, (s.sramOf (sramIx (a / 32 * 32) + i)).ecc = .good)) →
        CoreReady t s c ∧
        issued t c s = { s with now := max s.now t, out := [], core := (issued t c s).core, free := (issued t c s).free } ∧
        (slack s = true → atIssue t c s = h) ∧
        (slack s = false → Store.get (fun _ => false) (atIssue t c s).ic (a / 32) = true ∧
          (Store.wf (fun _ => false) h.ic = true →
            ∀ b, b ≠ a / 32 → Store.get (fun _ => false) (atIssue t c s).ic b = true → Store.get (fun _ => false) h.ic b = true))))

/-- R204, R205, R206: a word instruction writes w[rd], leaves CX, and queues its tandem move; CLS needs rb = 0. R205, R206: ADD.W, SUB.W, ADDC and SUBC write w[rd] and CX. -/
def Obligations.WordInstructions : Prop := WordResultsRules ∧ CarryResultsRules

/-- R207: the pair instructions on even registers with a zero tandem field. R208: the immediate instructions. -/
def Obligations.PairAndImmediateInstructions : Prop := PairResultsRules ∧ ImmediateResultsRules

/-- R203: reserved bits, odd pair registers, reserved special codes and zero loop offsets raise the illegal-instruction trap and change nothing else; R222: so does a nonzero kt, a KNAR whose r is not a multiple of 4, and a KBASE or KLEN whose r is odd. R204, R232: a tandem move whose capability fails a check traps with that cause, and neither the result nor the move takes effect; a full queue of 4 holds the instruction. -/
def Obligations.InstructionsStopped : Prop := IllegalEncodingsRules ∧ TandemMoveStopsRules

/-- R209, R210: a multiply leaves the product for PH:PL and the new accumulator, made from the accumulator as every earlier instruction left it, to take effect when the next instruction completes; PAR reads the accumulator from before a multiply just executed. R212: DIV.S, DIV.U, DIV.DS and DIV.DU, for every operand value. -/
def Obligations.MultiplyAndDivide : Prop := MultiplyResultsRules ∧ DivisionResultsRules

/-- R214, R216: every conditional branch: where its condition fails, the core goes on by the loop rule; where it holds, to the address of the branch plus 4 times the offset, or into the transfer trap where the target is not allowed. Registers and flags keep their values. R215, R216: JAL and JALR: the target, the link in the pair dl (none where dl = 0), and no link where the target is not allowed. -/
def Obligations.BranchesAndJumps : Prop := BranchesRules ∧ JumpsRules

/-- R217: LP and LPI with a legal offset: the loop-nest trap at LN = 4, the skip of the body at count 0, and else a new innermost level. R218: the loop rule, for a NOP at address A: A + 4 where A ends no innermost level; back to LS with the count one less where it is above 1; else the level ends and the next outer one is tested. -/
def Obligations.HardwareLoops : Prop := LoopOpenRules ∧ LoopRuleRules

/-- R222, R250, R252: the capability instructions that cannot trap, and the derivations where their checks pass. R250: the checks of KNAR, KPRM, KSEAL and KOPEN, in the order shown, raise the first trap that applies and write no register. -/
def Obligations.CapabilityInstructions : Prop := CapabilityResultsRules ∧ DerivationTrapsRules

/-! ### P18 loads and stores -/

/-- R7, R200: the nonet at address `a` of SRAM: bits 17..9 of its word at an even address, bits 8..0 at an odd one. -/
def Sys2Proof.Machine.nonetAt (s : State) (a : Nat) : Nat :=
  let w := (s.sramOf (sramIx a)).w.toNat
  if a % 2 = 0 then w / 512 else w % 512

/-- R7: the value of the `n` nonets from address `a` of SRAM on, the first the most significant. -/
def Sys2Proof.Machine.sramValue (s : State) (a n : Nat) : Nat := (List.range n).foldl (fun v i => v * 512 + nonetAt s (a + i)) 0

/-- The SRAM words that an access of `n` nonets at `a` touches show no error. -/
def Sys2Proof.Machine.wordsGood (s : State) (a n : Nat) : Prop := ∀ k, sramIx a ≤ k → k ≤ sramIx (a + n - 1) → (s.sramOf k).ecc = .good

/-- Restates R220: each load with its size, and what it makes of its core's registers from the value, the tags of the line (LD.K) and the
capability register used. -/
def Sys2Proof.Machine.loadTable : List ((Nat → Fin 16 → Bool → Fields → Instr) × Nat × (Fields → Prop) × (CoreS → Fields → Nat → Bool → CoreS)) :=
  [(.ldN, 1, fun _ => True, fun h x v _ => h.wr x.f27 (BitVec.ofNat 18 v)),
   (.ldNs, 1, fun _ => True, fun h x v _ => h.wr x.f27 (BitVec.ofInt 18 (if v < 256 then (v : Int) else v - 512))),
   (.ldW, 2, fun _ => True, fun h x v _ => h.wr x.f27 (BitVec.ofNat 18 v)),
   (.ldD, 4, fun x => x.f27 % 2 = 0, fun h x v _ => h.wrP x.f27 (BitVec.ofNat 36 v)),
   (.ldK, 8, fun x => x.f27 < 8, fun h x v tag => h.setCap x.f27 (Cap.ofLine (BitVec.ofNat 72 v) (tag && (h.cap x.kc).has permLK)))]

/-- R197 to R199, R275: a load or store of `n` nonets by core `c` through `k` at `ea` meets its checks and an SRAM bank that the core owns. -/
def Sys2Proof.Machine.SramAccess (s : State) (c : Nat) (k : Cap) (perms : List Nat) (ea : Int) (n : Nat) : Prop :=
  capCheck k perms ea n = none ∧ regionOf ea.toNat = .sram ∧ regionOf (ea.toNat + n - 1) = .sram ∧
    bankAt (ea.toNat + n - 1) = bankAt ea.toNat ∧ ownsBank s c (bankAt ea.toNat) = true ∧
    (n = 4 → ea.toNat % 2 = 0) ∧ (n = 8 → ea.toNat % 8 = 0)

/-- The instruction waits, with the registers `g`: its core stands at a boundary for an interrupt (R237), and nothing else changes. -/
def Sys2Proof.Machine.Stalls (i : Instr) (t c : Nat) (s : State) (g : CoreS) : Prop :=
  Does i s (fun s' => OnlyIssuer t c s s' ∧ s'.coreOf c = { g with presRan := g.pres.isSome, stalled := true })

/-- R200, R201, R220, R227, R229: every load from an owned SRAM bank, M and MX forms, with no frame line in the queue: from memory where no
store of the buffer overlaps it, and from the youngest entry that overlaps where that covers it. After a partial overlap it waits until the
buffer is empty. -/
def Sys2Proof.Machine.LoadsFromSramRules : Prop :=
  ∀ e ∈ loadTable, ∀ (t : Nat) (c : Fin 16) (mx : Bool) (x : Fields) (s : State), CoreReady t s c.val →
    let u := issued t c s
    let h := atIssue t c s
    let ea := h.ea mx x
    let n := e.2.1
    (mx = true → x.b20 = 0) → e.2.2.1 x → SramAccess u c (h.cap x.kc) [permLD] ea n → h.fq = [] →
    ((h.drain = false ∨ h.sb = []) → sbYoungest h.sb ea.toNat n = none → wordsGood u ea.toNat n →
      Completes (e.1 t c mx x) t c s (e.2.2.2 { h with drain := false } x (sramValue u ea.toNat n)
        ((List.range 4).all (fun i => (u.sramOf (sramIx ea.toNat + i)).tag)))) ∧
    (h.drain = false → ∀ y, sbYoungest h.sb ea.toNat n = some y → y.covers ea.toNat n = true →
      Completes (e.1 t c mx x) t c s (e.2.2.2 h x
        (y.data.toNat / 512 ^ (y.ea + y.size - (ea.toNat + n)) % 512 ^ n) (y.cap && y.tag))) ∧
    (h.drain = false → ∀ y, sbYoungest h.sb ea.toNat n = some y → y.covers ea.toNat n = false →
      Stalls (e.1 t c mx x) t c s { h with drain := true }) ∧
    (h.drain = true → h.sb ≠ [] → Stalls (e.1 t c mx x) t c s h)

/-- Restates R220: each store with its size, and the value and the tag that it stores. -/
def Sys2Proof.Machine.storeTable : List ((Nat → Fin 16 → Bool → Fields → Instr) × Nat × (Fields → Prop) × (CoreS → Fields → Nat) × (CoreS → Fields → Bool)) :=
  [(.stN, 1, fun _ => True, fun h x => (h.rd x.f27).toNat % 512, fun _ _ => false),
   (.stW, 2, fun _ => True, fun h x => (h.rd x.f27).toNat, fun _ _ => false),
   (.stD, 4, fun x => x.f27 % 2 = 0, fun h x => (h.rdP x.f27).toNat, fun _ _ => false),
   (.stK, 8, fun x => x.f27 < 8, fun h x => (h.cap x.f27).line.toNat, fun h x => (h.cap x.f27).tag)]

/-- What a store of `n` nonets of the value `v` at `ea` makes of SRAM: its nonets take the value, every other nonet keeps its own, and the
tag of every word that it touches becomes `tag`. -/
def Sys2Proof.Machine.Stored (s s' : State) (ea n v : Nat) (tag : Bool) : Prop :=
  (∀ a, 0o040000000 ≤ a → nonetAt s' a = if ea ≤ a ∧ a < ea + n then v / 512 ^ (ea + n - 1 - a) % 512 else nonetAt s a) ∧
  (∀ k, (s'.sramOf k).tag = if sramIx ea ≤ k ∧ k ≤ sramIx (ea + n - 1) then tag else (s.sramOf k).tag)

/-- R201, R220, R228, R239: every store to an owned SRAM bank: outside SLACK it enters the store buffer, waiting where 8 entries are
there; in SLACK it waits for an empty buffer and then reaches SRAM at once. Nothing else of the core or the device changes. ST.K of a
tagged capability needs SK too. -/
def Sys2Proof.Machine.StoresToSramRules : Prop :=
  ∀ e ∈ storeTable, ∀ (t : Nat) (c : Fin 16) (mx : Bool) (x : Fields) (s : State), CoreReady t s c.val →
    let u := issued t c s
    let h := atIssue t c s
    let ea := h.ea mx x
    let n := e.2.1
    let tag := e.2.2.2.2 h x
    (mx = true → x.b20 = 0) → e.2.2.1 x → SramAccess u c (h.cap x.kc) (if tag then [permST, permSK] else [permST]) ea n →
    inSlice (sramIx (ea.toNat + n - 1)) = false →
    (slack u = false → h.sb.length < 8 → Completes (e.1 t c mx x) t c s
      { h with sb := h.sb ++ [⟨ea.toNat, n, BitVec.ofNat 72 (e.2.2.2.1 h x), n == 8, tag⟩] }) ∧
    (slack u = false → 8 ≤ h.sb.length → Waits (e.1 t c mx x) t c s) ∧
    (slack u = true → h.sb ≠ [] → Waits (e.1 t c mx x) t c s) ∧
    (slack u = true → h.sb = [] → wordsGood u ea.toNat n → Does (e.1 t c mx x) s (fun s' =>
      s' = { u with core := s'.core, sram := s'.sram } ∧ SameCoreBut c s s' ∧
      Settled none h.advance (s'.coreOf c) ∧ Stored u s' ea.toNat n (e.2.2.2.1 h x) tag))

/-- Restates R199, R291, R304, R430 for every region but peripheral space: an access of `n` nonets at `a`, a store where `st`, raises no
access-alignment trap. -/
def Sys2Proof.Machine.AlignRule (a n : Nat) (st : Bool) : Prop :=
  let within (lo hi : Nat) : Prop := lo ≤ a ∧ a + n ≤ hi
  let unit := (n = 4 → a % 2 = 0) ∧ (n = 8 → a % 8 = 0)
  (within 0o040000000 0o060000000 ∧ a / 65536 = (a + n - 1) / 65536 ∧ unit) ∨
  (within 0 0o040000000 ∧ unit ∧ (st = true → n ≠ 8 ∧ (n = 2 → a % 2 = 0))) ∨
  ((within 0o060000000 0o060400000 ∨ within 0o061000000 0o061002000) ∧ st = false ∧ unit) ∨
  ((within 0o062000000 0o062200000 ∨ within 0o063000000 0o063100000) ∧ (n = 2 ∨ n = 4) ∧ a % 2 = 0) ∨
  ((within 0o200000000 0o315000000 ∨ within 0o320000000 0o400000000) ∧ (st = true → n = 2 ∨ n = 4))

/-- R198, R254, R275, R284: the checks of a load or a store in their order: tag, sealed, permission, bounds, alignment, then the bank. The
instruction traps with the effective address, and no register is written. -/
def Sys2Proof.Machine.AccessTrapsRules : Prop :=
  ∀ (t : Nat) (c : Fin 16) (mx : Bool) (x : Fields) (s : State), CoreReady t s c.val → (mx = true → x.b20 = 0) →
    let u := issued t c s
    let h := atIssue t c s
    let k := h.cap x.kc
    let ea := h.ea mx x
    (∀ e ∈ loadTable, e.2.2.1 x →
      (∀ cause, capCheck k [permLD] ea e.2.1 = some cause → Traps (e.1 t c mx x) t c s cause ea) ∧
      (capCheck k [permLD] ea e.2.1 = none →
        (accessOk ea.toNat e.2.1 false = false → Traps (e.1 t c mx x) t c s 5 ea) ∧
        (accessOk ea.toNat e.2.1 false = true → regionOf ea.toNat = .sram → ownsBank u c (bankAt ea.toNat) = false →
          awaitsBank u c (bankAt ea.toNat) = false → Traps (e.1 t c mx x) t c s 11 ea))) ∧
    (∀ e ∈ storeTable, e.2.2.1 x → let perms := if e.2.2.2.2 h x then [permST, permSK] else [permST]
      (∀ cause, capCheck k perms ea e.2.1 = some cause → Traps (e.1 t c mx x) t c s cause ea) ∧
      (capCheck k perms ea e.2.1 = none →
        (accessOk ea.toNat e.2.1 true = false → Traps (e.1 t c mx x) t c s 5 ea) ∧
        (accessOk ea.toNat e.2.1 true = true → regionOf ea.toNat = .sram → awaitsBank u c (bankAt ea.toNat) = false →
          (ownsBank u c (bankAt ea.toNat) = false ∨ inSlice (sramIx (ea.toNat + e.2.1 - 1)) = true) →
          Traps (e.1 t c mx x) t c s 11 ea))) ∧
    (∀ n ∈ [1, 2, 4, 8], ∀ st, 0 ≤ ea → regionOf ea.toNat ≠ .periph → (accessOk ea.toNat n st = true ↔ AlignRule ea.toNat n st)) ∧
    (capCheck k [permLD] ea 2 = (if k.tag = false then some 1 else if k.otype ≠ 0 then some 2 else if k.has permLD = false then some 3
      else if ea < k.base.toNat ∨ (k.base.toNat + k.len.toNat : Int) < ea + 2 then some 4 else none))

/-- R200, R201, R228, R256: the oldest entry of the store buffer reaches SRAM: its nonets take the data, every other nonet of SRAM keeps its
value, and every word that it touches loses its tag (ST.K: takes the capability's); the oldest line of the frame queue does the same
with its tag. Nothing else changes but the queue. -/
def Sys2Proof.Machine.StoresReachSramRules : Prop :=
  (∀ (t : Nat) (c : Fin 16) (s : State) (e : SbEntry) (l : List SbEntry), (s.coreOf c).sb = e :: l →
    regionOf e.ea = .sram → regionOf (e.ea + e.size - 1) = .sram → wordsGood s e.ea e.size →
    (e.size = 1 ∨ e.size = 2 ∨ (e.size = 4 ∧ e.ea % 2 = 0) ∨ (e.size = 8 ∧ e.ea % 8 = 0)) →
    Does (.storePerform t c) s (fun s' =>
      s' = { s with now := max s.now t, out := [], core := s'.core, sram := s'.sram } ∧ SameCoreBut c s s' ∧
      s'.coreOf c = { s.coreOf c with sb := l } ∧
      Stored s s' e.ea e.size e.data.toNat (e.size != 1 && e.ea % 2 == 0 && e.cap && e.tag))) ∧
  (∀ (t : Nat) (c : Fin 16) (s : State) (e : FrameLine) (l : List FrameLine), (s.coreOf c).fq = e :: l → e.ea % 2 = 0 →
    0o040000000 ≤ e.ea → wordsGood s e.ea 8 →
    Does (.frameLinePerform t c) s (fun s' =>
      s' = { s with now := max s.now t, out := [], core := s'.core, sram := s'.sram } ∧ SameCoreBut c s s' ∧
      s'.coreOf c = { s.coreOf c with fq := l } ∧
      Stored s s' e.ea 8 e.d.toNat e.tag))

/-- R98, R232: the oldest move of the tandem queue enters the berth state RAM, unless an engine write of the same cycle stands; every other state
word keeps its value. -/
def Sys2Proof.Machine.TandemMovesEnterRules : Prop :=
  ∀ (t : Nat) (c : Fin 16) (s : State) (j : Nat) (v : Word) (l : List (Nat × BitVec 18)), (s.coreOf c).tq = (j, v) :: l →
    Does (.tandemMovePerform t c) s (fun s' =>
      s' = { s with now := max s.now t, out := [], core := s'.core, bram := s'.bram } ∧ SameCoreBut c s s' ∧
      s'.coreOf c = { s.coreOf c with tq := l } ∧
      (∀ i, s'.bramOf i = if i = j ∧ (s.engWOf j).map (·.at_) ≠ some (edgeCeil (max s.now t)) then v.toInt else s.bramOf i))

/-! ### Traps, gates, interrupts, core reset and the watchdog -/

/-- The frame of a command on core `c` that writes registers of the list `l`, instance `c`, and no other. -/
def Sys2Proof.Machine.CoreRegs (t c : Nat) (l : List RegName) (s s' : State) : Prop :=
  s' = { s with now := max s.now t, out := [], core := s'.core, regs := s'.regs, hw := s'.hw } ∧ SameCoreBut c s s' ∧ RegsKept l s s' ∧
    ∀ r ∈ l, OthersKept r c s s'

/-- The line at address `a` of SRAM. -/
def Sys2Proof.Machine.lineAt (s : State) (a : Nat) : Line :=
  let w (i : Nat) : Word := (s.sramOf (sramIx a + i)).w
  w 0 ++ w 1 ++ w 2 ++ w 3

/-- The conjunction of the four tags of the line at address `a` of SRAM. -/
def Sys2Proof.Machine.lineTag (s : State) (a : Nat) : Bool := (List.range 4).all (fun i => (s.sramOf (sramIx a + i)).tag)

/-- R255: the 32 nonets at `a` hold a valid descriptor with policy HANDLE and show no error: its code entry, stack and authority capabilities
and seal range are those of `d`. -/
def Sys2Proof.Machine.DescAt (s : State) (a : Nat) (d : Desc) : Prop :=
  a % 8 = 0 ∧ wordsGood s a 32 ∧ d.code = Cap.ofLine (lineAt s a) (lineTag s a) ∧ codeOk d.code = true ∧
    d.stack = Cap.ofLine (lineAt s (a + 8)) (lineTag s (a + 8)) ∧ stackOk d.stack = true ∧
    d.auth = Cap.ofLine (lineAt s (a + 16)) (lineTag s (a + 16)) ∧ d.auth.tag = true ∧
    (lineW (lineAt s (a + 24)) 0).extractLsb' 16 2 = 0 ∧ d.sr = (lineW (lineAt s (a + 24)) 1).extractLsb' 0 12

/-- R258, R261, R270: the registers `g` as an entry through descriptor `d` leaves them: k6, k7, SR and PCC from the descriptor, execution at
the code entry, five lines more in the frame queue; every other register as in `h`. -/
def Sys2Proof.Machine.Entered (h g : CoreS) (d : Desc) (fl : List FrameLine) : Prop :=
  g = { (h.setCap 6 d.stack).setCap 7 d.auth with
    sr := d.sr, pcc := { d.code with otype := 0 }, pc := d.code.base, drain := false, fq := h.fq ++ fl }

/-- R221, R254, R257: TRAP raises the software trap of its code, which returns to the TRAP address plus 4. -/
def Sys2Proof.Machine.TrapRaisesRules : Prop :=
  ∀ (t : Nat) (c : Fin 16) (x : Fields) (s : State), CoreReady t s c.val → x.resT = 0 →
    Does (.trap t c x) s (fun s' => OnlyIssuer t c s s' ∧ s'.coreOf c =
      { atIssue t c s with trap := some ⟨32 + x.code / 32, x.code, (s.coreOf c).pc + 4, 0⟩, presRan := (s.coreOf c).pres.isSome, stalled := false })

/-- R258, R211: a trap that a running core holds is entered: with table, descriptor and frame area in owned banks, the depth rises by one, the
frame enters the queue, and the handler's registers are in place, with a pending product completed first; CPRI, CX, w, k0 to k5 and the
loop registers keep their values. -/
def Sys2Proof.Machine.TrapEntryRules : Prop :=
  ∀ (t : Nat) (c : Fin 16) (f : FetchFault) (s : State) (tr : TrapReq) (d : Desc), s.get F.CORE_STAT_state c = 1 →
    (s.coreOf c).rst = none → (s.coreOf c).trap = some tr → (s.coreOf c).fq.length ≤ 11 →
    let tb := s.get F.CORE_TDT_base c + 32 * tr.cause
    let h := { (s.coreOf c).settle (s.coreOf c).mul with mul := none, trap := none, presRan := (s.coreOf c).pres.isSome, stalled := false }
    let depth := s.get F.CORE_FSP_depth c
    s.is F.CORE_TDT_en c = true → inOwnBank s c tb 32 = true → DescAt s tb d → frameStep s c = 0 →
      Does (.trapEntry t c f) s (fun s' => CoreRegs t c [.CORE_FSP] s s' ∧
        s'.get F.CORE_FSP_depth c = (depth + 1) % 512 ∧
        Entered h (s'.coreOf c) d (frameLines h (frameAt s c depth) 0 (s.get F.VU_STAT_cpri c) tr.cause tr.code tr.ret tr.fault))

/-- R255: a code entry that a descriptor may hold. -/
def Sys2Proof.Machine.GoodCode (k : Cap) : Prop := k.tag = true ∧ k.otype.toNat = 63 ∧ k.has permEX = true ∧ k.base.toNat % 4 = 0 ∧ 4 ≤ k.len.toNat

/-- R255: a stack that a descriptor may hold. -/
def Sys2Proof.Machine.GoodStack (k : Cap) : Prop := k.tag = true ∧ k.otype = 0 ∧ k.has permLD = true ∧ k.has permST = true

/-- R256, R258: the next frame of core `c` has no area in a bank that the core owns. -/
def Sys2Proof.Machine.NoFrameArea (s : State) (c : Nat) : Prop :=
  s.get F.CORE_FRM_size c = 0 ∨ inOwnBank s c (s.get F.CORE_FRM_base c + 40 * s.get F.CORE_FSP_depth c) 40 = false

/-- R258, R259, R263: a trap locks the core up with its cause, the instruction's address and the step that fails: 1 without a table in a bank that
the core owns, 2 with an unreadable line, 3 with a reserved policy, 4, 5 and 6 with a bad code entry, stack or authority, 7 without an area for
the frame, 8 with a full one; a descriptor that says HALT halts the core. None writes a frame. -/
def Sys2Proof.Machine.LockupAndHaltRules : Prop :=
  ∀ (t : Nat) (c : Fin 16) (f : FetchFault) (s : State) (tr : TrapReq), s.get F.CORE_STAT_state c = 1 → (s.coreOf c).rst = none →
    (s.coreOf c).trap = some tr → (s.coreOf c).fq.length ≤ 11 → frameWaits s c = false →
    let tb := s.get F.CORE_TDT_base c + 32 * tr.cause
    let pol := ((lineW (lineAt s (tb + 24)) 0).extractLsb' 16 2).toNat
    let cap (i : Nat) : Cap := Cap.ofLine (lineAt s (tb + 8 * i)) (lineTag s (tb + 8 * i))
    let Locks (step : Nat) : Prop := Does (.trapEntry t c f) s (fun s' => s'.get F.CORE_STAT_state c = 4 ∧ s'.get F.CORE_LKINFO_step c = step ∧
        s'.get F.CORE_LKINFO_kind c = 0 ∧ s'.get F.CORE_LKINFO_cause c = tr.cause % 64 ∧
        s'.get F.CORE_LKADR_addr c = (s.coreOf c).pc.toNat ∧ (s'.coreOf c).trap = none ∧ (s'.coreOf c).fq = (s.coreOf c).fq ∧
        s'.get F.CORE_FSP_depth c = s.get F.CORE_FSP_depth c ∧ (step ≠ 2 → s'.sram = s.sram))
    ((inOneBank tb 32 = true → awaitsBank s c (bankAt tb) = false) → (s.is F.CORE_TDT_en c = false ∨ inOwnBank s c tb 32 = false) → Locks 1) ∧
    (s.is F.CORE_TDT_en c = true → inOwnBank s c tb 32 = true → tb % 8 = 0 →
      ((∃ i < 4, (s.sramOf (sramIx (tb + 24) + i)).ecc = .bad) → Locks 2) ∧
      (wordsGood s tb 32 →
        (2 ≤ pol → Locks 3) ∧
        (pol = 1 → Does (.trapEntry t c f) s (fun s' => s'.get F.CORE_STAT_state c = 3 ∧ (s'.coreOf c).trap = none ∧
          (s'.coreOf c).fq = (s.coreOf c).fq ∧ s'.sram = s.sram ∧ s'.get F.CORE_FSP_depth c = s.get F.CORE_FSP_depth c)) ∧
        (pol = 0 → ¬ GoodCode (cap 0) → Locks 4) ∧ (pol = 0 → GoodCode (cap 0) → ¬ GoodStack (cap 1) → Locks 5) ∧
        (pol = 0 → GoodCode (cap 0) → GoodStack (cap 1) → (cap 2).tag = false → Locks 6) ∧
        (pol = 0 → GoodCode (cap 0) → GoodStack (cap 1) → (cap 2).tag = true →
          (NoFrameArea s c → Locks 7) ∧ (¬ NoFrameArea s c → s.get F.CORE_FSP_depth c = s.get F.CORE_FRM_size c → Locks 8))))

/-- R261: KGO through a gate whose checks pass enters the gate's code with kind 2; the frame returns to the KGO address plus 4. Its own
checks in their order raise causes 1 and 9, a descriptor outside SRAM cause 13, one in a foreign bank cause 11, an unreadable one cause 10, and a
bad one or a missing frame area cause 13; they write nothing. -/
def Sys2Proof.Machine.GateCallRules : Prop :=
  ∀ (t : Nat) (c : Fin 16) (x : Fields) (s : State), CoreReady t s c.val → x.kt = 0 → x.resK = 0 →
    let u := issued t c s
    let h := atIssue t c s
    let k := h.cap x.ks
    let b := k.base.toNat
    let depth := u.get F.CORE_FSP_depth c
    (∀ d, k.tag = true → k.otype = 63 → k.has permGT = true → k.has permEX = false → 32 ≤ k.len.toNat →
      (∀ i ∈ [0, 8, 16, 24], regionOf (b + i) = .sram ∧ ownsBank u c (bankAt (b + i)) = true ∧ awaitsBank u c (bankAt (b + i)) = false) →
      DescAt u b d → frameStep u c = 0 → h.fq.length ≤ 11 →
      Does (.kgo t c x) s (fun s' => s' = { u with core := s'.core, regs := s'.regs } ∧ SameCoreBut c s s' ∧ RegsKept [.CORE_FSP] u s' ∧
        OthersKept .CORE_FSP c u s' ∧ s'.get F.CORE_FSP_depth c = (depth + 1) % 512 ∧
        ∃ g, Entered h g d (frameLines h (frameAt u c depth) 2 (u.get F.VU_STAT_cpri c) 0 0 (h.pc + 4) 0) ∧
          Settled none g (s'.coreOf c))) ∧
    let gate := k.tag = true ∧ k.otype = 63 ∧ k.has permGT = true ∧ k.has permEX = false ∧ 32 ≤ k.len.toNat ∧ b % 8 = 0
    let lines := [24, 0, 8, 16]
    let cap (i : Nat) : Cap := Cap.ofLine (lineAt u (b + 8 * i)) (lineTag u (b + 8 * i))
    let good := (lineW (lineAt u (b + 24)) 0).extractLsb' 16 2 = 0 ∧ GoodCode (cap 0) ∧ GoodStack (cap 1) ∧ (cap 2).tag = true
    (gate → (∃ i ∈ lines, regionOf (b + i) ≠ .sram) → Traps (.kgo t c x) t c s 13 0) ∧
    (gate → (∀ i ∈ lines, regionOf (b + i) = .sram ∧ awaitsBank u c (bankAt (b + i)) = false) →
      (∀ i, lines.find? (fun i => !ownsBank u c (bankAt (b + i))) = some i → Traps (.kgo t c x) t c s 11 ((b + i : Nat) : Int)) ∧
      ((∀ i ∈ lines, ownsBank u c (bankAt (b + i)) = true) →
        ((∃ i < 4, (u.sramOf (sramIx (b + 24) + i)).ecc = .bad) → Does (.kgo t c x) s (fun s' => SameCoreBut c s s' ∧
          s'.coreOf c = { h with trap := some ⟨10, 0, h.pc, (b : Int)⟩, presRan := h.pres.isSome, stalled := false })) ∧
        (wordsGood u b 32 → ¬ good → Traps (.kgo t c x) t c s 13 0) ∧
        (wordsGood u b 32 → good → frameWaits u c = false → h.fq.length ≤ 11 →
          (NoFrameArea u c ∨ u.get F.CORE_FSP_depth c = u.get F.CORE_FRM_size c) → Traps (.kgo t c x) t c s 13 0))) ∧
    (k.tag = false → Traps (.kgo t c x) t c s 1 0) ∧
    (k.tag = true → (k.otype ≠ 63 ∨ k.has permGT = false ∨ k.has permEX = true ∨ b % 8 ≠ 0 ∨ k.len.toNat < 32) →
      Traps (.kgo t c x) t c s 9 0)

/-- R260: RETT restores PCC, the return address, k6, k7, SR and CPRI from the newest frame and takes one frame from the depth; of an
interrupt's frame it clears the vector's active bit. With depth 0, or of a frame
of kind 3, it raises cause 12, of a frame in a foreign bank cause 11, and of an unreadable one cause 10. -/
def Sys2Proof.Machine.TrapReturnRules : Prop :=
  ∀ (t : Nat) (c : Fin 16) (x : Fields) (s : State), CoreReady t s c.val → x.kt = 0 → x.resK = 0 →
    let u := issued t c s
    let h := atIssue t c s
    let depth := u.get F.CORE_FSP_depth c
    let f := frameAt u c (depth - 1)
    let kind := (lineW (lineAt u (f + 24)) 2).toNat / 2 ^ 16
    let v := (lineW (lineAt u (f + 24)) 3).toNat / 1024 % 128
    (h.fq ≠ [] → Waits (.rett t c x) t c s) ∧
    (h.fq = [] → depth = 0 → Traps (.rett t c x) t c s 12 0) ∧
    (h.fq = [] → depth ≠ 0 → (inOneBank f 40 = true → awaitsBank u c (bankAt f) = false) → inOwnBank u c f 40 = false → Traps (.rett t c x) t c s 11 (f : Int)) ∧
    (h.fq = [] → depth ≠ 0 → inOwnBank u c f 40 = true → f % 2 = 0 →
      ((∃ i < 4, (u.sramOf (sramIx f + i)).ecc = .bad) → Does (.rett t c x) s (fun s' => SameCoreBut c s s' ∧
        s'.coreOf c = { h with trap := some ⟨10, 0, h.pc, (f : Int)⟩, presRan := h.pres.isSome, stalled := false })) ∧
      (wordsGood u f 40 → kind = 3 → Traps (.rett t c x) t c s 12 0)) ∧
    (h.fq = [] → depth ≠ 0 → inOwnBank u c f 40 = true → f % 2 = 0 → wordsGood u f 40 → kind ≠ 3 →
      Does (.rett t c x) s (fun s' =>
        s' = { u with core := s'.core, regs := s'.regs } ∧ SameCoreBut c s s' ∧
        RegsKept [.CORE_FSP, .VU_STAT, .VU_ACT] u s' ∧ OthersKept .CORE_FSP c u s' ∧ OthersKept .VU_STAT c u s' ∧
        (∀ m, m / 8 ≠ c.val → s'.reg .VU_ACT m = u.reg .VU_ACT m) ∧ s'.get F.CORE_FSP_depth c = depth - 1 ∧
        s'.get F.VU_STAT_cpri c = (lineW (lineAt u (f + 24)) 2).toNat / 2 ^ 12 % 16 ∧
        (∀ n < 128, s'.vec .VU_ACT c n = (u.vec .VU_ACT c n && !(kind == 1 && n == v))) ∧
        Settled none { (h.setCap 6 (Cap.ofLine (lineAt u (f + 8)) (lineTag u (f + 8)))).setCap 7
          (Cap.ofLine (lineAt u (f + 16)) (lineTag u (f + 16))) with
            pcc := Cap.ofLine (lineAt u f) (lineTag u f), sr := (lineW (lineAt u (f + 32)) 2).extractLsb' 0 12,
            pc := (lineAt u (f + 24)).extractLsb' 36 27 } (s'.coreOf c)))

/-- R267 to R271: a descriptor load begins and ends, software raises vectors, the vector unit presents the best one, and the core enters it: pending
falls, active rises, CPRI takes the vector's priority, the depth rises, and the handler's registers come from the copy; a core that waits wakes. That an
instruction that waits at the presentation is abandoned, and one under way completes, is log 117 (DESIGN CHOICE). -/
def Sys2Proof.Machine.InterruptsRules : Prop :=
  ∀ (t : Nat) (c : Fin 16) (s : State),
    let h := s.coreOf c
    let depth := s.get F.CORE_FSP_depth c
    (∀ v : Word, s.is F.VU_STAT_ldbusy c = false → Does (.vectorLoad t c v) s (fun s' => CoreRegs t c [.VU_STAT] s s' ∧
      s'.is F.VU_STAT_ldbusy c = true ∧ s'.get F.VU_STAT_cpri c = s.get F.VU_STAT_cpri c ∧
      s'.coreOf c = { h with load := some (max s.now t, if v.getLsbD 17 then List.range 128 else [v.toNat % 128]) })) ∧
    (∀ v : Word, s.is F.VU_STAT_ldbusy c = true → Does (.vectorLoad t c v) s (fun s' => CoreRegs t c [.VU_STAT] s s' ∧
      s'.is F.VU_STAT_cfgerr c = true ∧ s'.coreOf c = h)) ∧
    (∀ at_ u d, h.load = some (at_, [u]) → u < 128 → let a := s.get F.VU_VTAB_base c + 32 * u
      inOneBank a 32 = true → s.get F.BANK_OWN_kind (bankAt a) = 0 → s.get F.BANK_OWN_id (bankAt a) = c.val → s.bankOf (bankAt a) = none → DescAt s a d →
      Does (.vectorLoadDone t c) s (fun s' => s'.is F.VU_STAT_ldbusy c = false ∧ s'.is F.VU_VCTL_valid (c.val * 128 + u) = true ∧
        Store.get (fun _ => {}) (s'.coreOf c).desc u = d ∧ RegsKept [.VU_STAT, .VU_VCTL] s s' ∧
        SameCoreBut c s s')) ∧
    (∀ (j : Fin 8) (v : Word), Does (.softwareInterrupt t c j v) s (fun s' => RegsKept [.VU_PEND] s s' ∧ s'.core = s.core ∧
      ∀ u < 128, s'.vec .VU_PEND c u = (s.vec .VU_PEND c u || (decide (u / 16 = j.val) && v.getLsbD (u % 16))))) ∧
    (∀ u, s.rung = 0 → s.dozeOf (c.val / 4) = false → s.get F.CORE_STAT_state c = 1 → winner s c = some u →
      let p := { h with pres := some u, presRan := (h.pres.isSome && h.presRan) || h.stalled }
      let a := (Store.get (fun _ => {}) h.desc u).code.base.toNat
      ((slack s = true ∨ icHit s c a = true) → Does (.vectorPresent t c) s (fun s' => OnlyCore t c s s' ∧ s'.coreOf c = p)) ∧
      (slack s = false → regionOf a = .rom → Does (.vectorPresent t c) s (fun s' => SameCoreBut c s s' ∧ s'.regs = s.regs ∧
        (∃ ic, s'.coreOf c = { p with ic := ic }) ∧ icHit s' c a = true))) ∧
    (∀ u, s.rung < 3 → s.get F.CORE_STAT_state c = 2 → winner s c = some u →
      let p := { h with pres := some u, presRan := (h.pres.isSome && h.presRan) || h.stalled }
      let a := (Store.get (fun _ => {}) h.desc u).code.base.toNat
      let wakes := s.rung = 0 ∧ s.dozeOf (c.val / 4) = false
      (slack s = true ∨ icHit s c a = true) → Does (.vectorPresent t c) s (fun s' => SameCoreBut c s s' ∧
        (wakes → s'.get F.CORE_STAT_state c = 1 ∧ Settled none p.advance (s'.coreOf c)) ∧
        (¬ wakes → s'.get F.CORE_STAT_state c = 2 ∧ s'.coreOf c = p))) ∧
    (∀ u, winner s c = some u → canTake s c = true → h.mul = none → h.pres.isSome = true → h.fq.length < 12 → frameStep s c = 0 →
      Does (.interruptEntry t c) s (fun s' => s'.get F.CORE_FSP_depth c = (depth + 1) % 512 ∧
        s'.get F.VU_STAT_cpri c = vecPri s c u ∧ s'.vec .VU_PEND c u = false ∧ s'.vec .VU_ACT c u = true ∧
        RegsKept [.CORE_FSP, .VU_STAT, .VU_PEND, .VU_ACT] s s' ∧ SameCoreBut c s s' ∧ s'.sram = s.sram ∧
        Entered { h with pres := none, presRan := false, stalled := false } (s'.coreOf c) (Store.get (fun _ => {}) h.desc u) (frameLines h (frameAt s c depth) 1
          (s.get F.VU_STAT_cpri c) 0 (u * 1024 + s.vsrcOf (c.val * 128 + u) % 1024) h.pc 0)))

/-- R269: a vector is presentable while it is pending, not masked, its descriptor is valid and its priority is below CPRI. The winner is presentable,
and no presentable vector has a lower priority value, or the same one and a lower number; there is a winner where any vector is presentable. -/
def Sys2Proof.Machine.WinnerIsBestRules : Prop :=
  ∀ (s : State) (c : Nat),
    let pri (v : Nat) : Nat := s.get F.VU_VCTL_pri (c * 128 + v)
    let Presentable (v : Nat) : Prop := s.vec .VU_PEND c v = true ∧ s.vec .VU_MASK c v = false ∧ s.is F.VU_VCTL_valid (c * 128 + v) = true ∧ pri v < s.get F.VU_STAT_cpri c
    (∀ u, winner s c = some u → u < 128 ∧ Presentable u ∧ ∀ v < 128, Presentable v → pri u < pri v ∨ (pri u = pri v ∧ u ≤ v)) ∧
    (winner s c = none → ∀ v < 128, ¬ Presentable v)

/-- R264, R265: a core reset is commanded by CORE_RST, by a bad key or by an expired watchdog with act = 0; it completes once the queues are empty:
word and special registers zero, CPRI 15, depth 0, no active vector, the descriptor copies and the watchdog kept; with cmd = 2 the
core stays stopped, and with cmd = 1 it starts through entry 63 of its table, locks up without one, or halts. That a reset keeps the capability
registers, PCC and SR of a core that does not start is log 76 (DEDUCED). The key 0o252_525 restarts the count. -/
def Obligations.CoreResetAndWatchdog : Prop :=
  ∀ (t : Nat) (c : Fin 16) (s : State),
    let h := s.coreOf c
    let cleared : CoreS := { k := h.k, pcc := h.pcc, sr := h.sr, desc := h.desc, wdAt := h.wdAt, load := h.load }
    let tb := s.get F.CORE_TDT_base c + 32 * 63
    (∀ v : Word, v.toNat % 4 = 1 → Does (.coreResetStart t c v) s (fun s' => OnlyCore t c s s' ∧
      s'.coreOf c = { h with rst := some 1, trap := none })) ∧
    (∀ v : Word, v.toNat % 4 = 2 → Does (.coreResetHold t c v) s (fun s' => OnlyCore t c s s' ∧
      s'.coreOf c = { h with rst := some 2, trap := none })) ∧
    (h.rst = some 2 → h.sb = [] → h.tq = [] → h.fq = [] → Does (.coreResetComplete t c) s (fun s' =>
      s'.get F.CORE_STAT_state c = 0 ∧ s'.get F.VU_STAT_cpri c = 15 ∧ s'.get F.CORE_FSP_depth c = 0 ∧
      (∀ u < 128, s'.vec .VU_ACT c u = false) ∧ SameCoreBut c s s' ∧
      s'.coreOf c = cleared)) ∧
    (h.rst = some 1 → h.sb = [] → h.tq = [] → h.fq = [] → (inOneBank tb 32 = true → awaitsBank s c (bankAt tb) = false) →
      (∀ d, s.is F.CORE_TDT_en c = true → inOwnBank s c tb 32 = true → DescAt s tb d → Does (.coreResetComplete t c) s (fun s' =>
        s'.get F.CORE_STAT_state c = 1 ∧ s'.get F.VU_STAT_cpri c = 15 ∧ s'.get F.CORE_FSP_depth c = 0 ∧ (∀ u < 128, s'.vec .VU_ACT c u = false) ∧
        SameCoreBut c s s' ∧ Entered { cleared with k := [] } (s'.coreOf c) d [])) ∧
      (s.is F.CORE_TDT_en c = false ∨ inOwnBank s c tb 32 = false → Does (.coreResetComplete t c) s (fun s' =>
        s'.get F.CORE_STAT_state c = 4 ∧ s'.get F.CORE_LKINFO_step c = 1 ∧ s'.get F.CORE_LKINFO_kind c = 3 ∧ s'.get F.CORE_LKINFO_cause c = 63 ∧ s'.coreOf c = cleared)) ∧
      (s.is F.CORE_TDT_en c = true → inOwnBank s c tb 32 = true → tb % 8 = 0 → wordsGood s (tb + 24) 8 → (lineW (lineAt s (tb + 24)) 0).extractLsb' 16 2 = 1 →
        Does (.coreResetComplete t c) s (fun s' => s'.get F.CORE_STAT_state c = 3 ∧ s'.coreOf c = cleared))) ∧
    (s.is F.CORE_WDT_en c = true →
      Does (.watchdogRestart t c 0o252525#18) s (fun s' => OnlyCore t c s s' ∧
        s'.coreOf c = { h with wdAt := some (max s.now t + s.get F.CORE_WDT_tmo c * 64000) }) ∧
      (s.is F.CORE_WDT_act c = false → ∀ v : Word, v ≠ 0o252525#18 → Does (.watchdogBadKey t c v) s (fun s' =>
        s'.is F.CORE_STAT_wdx c = true ∧ (s'.coreOf c).rst = some 1 ∧ SameCoreBut c s s')) ∧
      (∀ d, s.rung < 3 → h.wdAt = some d → d ≤ max s.now t →
        Does (.watchdogExpiry t c) s (fun s' => s'.is F.CORE_STAT_wdx c = true ∧ SameCoreBut c s s' ∧
          (s.is F.CORE_WDT_act c = false → (s'.coreOf c).rst = some 1) ∧
          (s.is F.CORE_WDT_act c = true → s.devRst = none → s'.devRst = some (2, c.val)))))

/-- R200, R201, R220, R227, R229: every load from an owned SRAM bank, M and MX forms, with no frame line in the queue: from memory where no store of the buffer overlaps it, and from the youngest entry that overlaps where that covers it. After a partial overlap it waits until the buffer is empty. R201, R220, R228, R239: every store to an owned SRAM bank: outside SLACK it enters the store buffer, waiting where 8 entries are there; in SLACK it waits for an empty buffer and then reaches SRAM at once. Nothing else of the core or the device changes. ST.K of a tagged capability needs SK too. R198, R254, R275, R284: the checks of a load or a store in their order: tag, sealed, permission, bounds, alignment, then the bank. The instruction traps with the effective address, and no register is written. -/
def Obligations.LoadsAndStores : Prop := LoadsFromSramRules ∧ StoresToSramRules ∧ AccessTrapsRules

/-- R200, R201, R228, R256: the oldest entry of the store buffer reaches SRAM: its nonets take the data, every other nonet of SRAM keeps its value, and every word that it touches loses its tag (ST.K: takes the capability's); the oldest line of the frame queue does the same with its tag. Nothing else changes but the queue. R98, R232: the oldest move of the tandem queue enters the berth state RAM, unless an engine write of the same cycle stands; every other state word keeps its value. -/
def Obligations.QueuesDrain : Prop := StoresReachSramRules ∧ TandemMovesEnterRules

/-- R221, R254, R257: TRAP raises the software trap of its code, which returns to the TRAP address plus 4. R258, R211: a trap that a running core holds is entered: with table, descriptor and frame area in owned banks, the depth rises by one, the frame enters the queue, and the handler's registers are in place, with a pending product completed first; CPRI, CX, w, k0 to k5 and the loop registers keep their values. R258, R259, R263: a trap locks the core up with its cause, the instruction's address and the step that fails: 1 without a table in a bank that the core owns, 2 with an unreadable line, 3 with a reserved policy, 4, 5 and 6 with a bad code entry, stack or authority, 7 without an area for the frame, 8 with a full one; a descriptor that says HALT halts the core. None writes a frame. -/
def Obligations.TrapEntry : Prop := TrapRaisesRules ∧ TrapEntryRules ∧ LockupAndHaltRules

/-- R261: KGO through a gate whose checks pass enters the gate's code with kind 2; the frame returns to the KGO address plus 4. Its own checks in their order raise causes 1 and 9, a descriptor outside SRAM cause 13, one in a foreign bank cause 11, an unreadable one cause 10, and a bad one or a missing frame area cause 13; they write nothing. R260: RETT restores PCC, the return address, k6, k7, SR and CPRI from the newest frame and takes one frame from the depth; of an interrupt's frame it clears the vector's active bit. With depth 0, or of a frame of kind 3, it raises cause 12, of a frame in a foreign bank cause 11, and of an unreadable one cause 10. -/
def Obligations.GateCallAndReturn : Prop := GateCallRules ∧ TrapReturnRules

/-- R267 to R271: a descriptor load begins and ends, software raises vectors, the vector unit presents the best one, and the core enters it: pending falls, active rises, CPRI takes the vector's priority, the depth rises, and the handler's registers come from the copy; a core that waits wakes. That an instruction that waits at the presentation is abandoned, and one under way completes, is log 117 (DESIGN CHOICE). R269: a vector is presentable while it is pending, not masked, its descriptor is valid and its priority is below CPRI. The winner is presentable, and no presentable vector has a lower priority value, or the same one and a lower number; there is a winner where any vector is presentable. -/
def Obligations.InterruptsAndWinner : Prop := InterruptsRules ∧ WinnerIsBestRules

/-! ### Integrator channels -/

/-- The frame of a command on integrator channel `n`: it may write the registers of the list `l`, instance `n`, the hidden state of that channel,
the taps of the event channel of its trigger with that channel's EV_STAT, its event sources, its interrupt source's vector, and outputs; nothing else. -/
def Sys2Proof.Machine.IchFrame (t n : Nat) (l : List RegName) (s s' : State) : Prop :=
  s' = { s with now := max s.now t, out := s'.out, regs := s'.regs, hw := s'.hw, ich := s'.ich, ev := s'.ev, srcAt := s'.srcAt, vsrc := s'.vsrc } ∧
    (∀ m, m ≠ n → s'.ichOf m = s.ichOf m) ∧ (∀ m, m ≠ s.get F.ICH_TRGEV_ch n → s'.evOf m = s.evOf m) ∧ SourcesKept 3 n s s' ∧
    RegsKept (.EV_STAT :: .VU_PEND :: .VU_LOST :: l) s s' ∧ OthersKept .EV_STAT (s.get F.ICH_TRGEV_ch n) s s' ∧ ∀ r ∈ l, OthersKept r n s s'

/-- R37, R158: a trigger of the selected source can have the instant `t`: the fine tick of the counter unit's event, or of an event's arrival at the
channel, after the trigger before. -/
def Sys2Proof.Machine.TriggerComes (t n : Nat) (s : State) : Prop :=
  (∀ x, (s.ichOf n).trgAt = some x → x < t) ∧
    (if s.is F.ICH_CTL_trgsrc n = true then arrives s (s.get F.ICH_TRGEV_ch n) ⟨2, n⟩ t = true
     else s.srcAtOf (srcKey 1 (s.get F.ICH_TRGCU_cu n) (s.get F.ICH_TRGCU_cuev n)) = some (t : Int))

/-- R43, R44, R59: a channel is enabled, becomes ready 2,000 ns later, and is disabled, with the disarm first; CALREF is ready 50 µs after
refen. -/
def Sys2Proof.Machine.ChannelPowerRules : Prop :=
  ∀ (t : Nat) (n : Fin 128) (v : Word) (s : State),
    let h := s.ichOf n
    (s.is F.ICH_CTL_en n = false → s.is F.ICH_CTL_arm n = false → HwIdle t .ICH_CTL n s → v.getLsbD 16 = true → v.getLsbD 17 = false →
      Does (.ichEnable t n v) s (fun s' => IchFrame t n [.ICH_CTL] s s' ∧ s'.is F.ICH_CTL_en n = true ∧ s'.is F.ICH_CTL_arm n = false ∧
        s'.get F.ICH_CTL_mode n = F.ICH_CTL_mode.of v.toNat ∧ s'.get F.ICH_CTL_calsel n = F.ICH_CTL_calsel.of v.toNat ∧
        s'.ev = s.ev ∧ s'.ichOf n = { h with readyDue := some (max s.now t + 128000), powAt := max s.now t })) ∧
    (∀ d, s.rung < 3 → s.is F.ICH_CTL_en n = true → h.readyDue = some d → d ≤ max s.now t →
      Does (.ichReady t n) s (fun s' => IchFrame t n [.ICH_STAT] s s' ∧ s'.is F.ICH_STAT_ready n = true ∧
        s'.ichOf n = { h with readyDue := none, readyAt := max s.now t })) ∧
    (s.is F.ICH_CTL_en n = true → HwIdle t .ICH_CTL n s → v.getLsbD 16 = false →
      Does (.ichDisable t n v) s (fun s' => IchFrame t n [.ICH_CTL, .ICH_STAT] s s' ∧ s'.is F.ICH_CTL_en n = false ∧
        s'.is F.ICH_CTL_arm n = false ∧ s'.is F.ICH_STAT_ready n = false ∧ s'.is F.ICH_STAT_ovldnow n = false ∧
        s'.get F.ICH_CTL_mode n = F.ICH_CTL_mode.of v.toNat ∧
        s'.ichOf n = { h with edges := [], win := none, readyDue := none, ovClr := none })) ∧
    (∀ d, s.is F.ICH_CALCTL_refen 0 = true → s.calDue = some d → d ≤ max s.now t →
      Does (.calrefReady t) s (fun s' => s'.is F.ICH_CALCTL_refready 0 = true ∧ RegsKept [.ICH_CALCTL] s s' ∧
        s' = { s with now := max s.now t, out := [], regs := s'.regs, calDue := none }))

/-- R44: a write that sets arm is refused as a whole, with cfgerr, where ready is 0, where FIXED would not meet R40, or where cuev is reserved; else the
channel is armed with no window and no edge instant. Clearing arm discards the open window and the pending edge instants and keeps the
windows in normalization. -/
def Sys2Proof.Machine.ChannelArmingRules : Prop :=
  ∀ (t : Nat) (n : Fin 128) (v : Word) (s : State),
    let h := s.ichOf n
    let bad := s.is F.ICH_STAT_ready n = false ∨ 4 < s.get F.ICH_TRGCU_cuev n ∨
      (v.getLsbD 13 = true ∧ (s.get F.ICH_WLEN_len n < 512 ∨ s.get F.ICH_DELAY_d n < s.get F.ICH_WLEN_len n))
    HwIdle t .ICH_CTL n s →
    (s.is F.ICH_CTL_arm n = false → v.getLsbD 17 = true → (s.is F.ICH_CTL_en n = false ∨ v.getLsbD 16 = true) →
      (bad → Does (.ichArm t n v) s (fun s' => IchFrame t n [.ICH_STAT] s s' ∧ s'.is F.ICH_STAT_cfgerr n = true ∧ s'.ich = s.ich)) ∧
      (¬ bad → Does (.ichArm t n v) s (fun s' => IchFrame t n [.ICH_CTL] s s' ∧ s'.is F.ICH_CTL_arm n = true ∧
        s'.is F.ICH_CTL_en n = s.is F.ICH_CTL_en n ∧ s'.get F.ICH_CTL_mode n = F.ICH_CTL_mode.of v.toNat ∧
        s'.ichOf n = { h with winNo := 0, armNo := h.armNo + 1, edges := [], win := none }))) ∧
    (s.is F.ICH_CTL_arm n = true → v.getLsbD 17 = false → (s.is F.ICH_CTL_en n = false ∨ v.getLsbD 16 = true) →
      Does (.ichDisarm t n v) s (fun s' => IchFrame t n [.ICH_CTL] s s' ∧ s'.is F.ICH_CTL_arm n = false ∧
        s'.is F.ICH_CTL_en n = s.is F.ICH_CTL_en n ∧ s'.ichOf n = { h with edges := [], win := none }))

/-- R36 to R42: a trigger of an armed, ready channel queues its edge instant, at most four, or counts as missed; an edge instant opens the first
window, closes one and opens the next (CONTIGUOUS), closes a FIXED one, or merges; a FIXED window opens its length before its edge;
a CONTIGUOUS window closes by itself at the maximum length. -/
def Sys2Proof.Machine.WindowsRules : Prop :=
  ∀ (t : Nat) (n : Fin 128) (s : State),
    let h := s.ichOf n
    let edge := t + s.get F.ICH_DELAY_d n
    let dropped := 4 ≤ h.edges.length ∨
      (s.is F.ICH_CTL_mode n = true ∧ ∃ last ∈ h.edges.getLast?, edge < last + s.get F.ICH_WLEN_len n)
    (s.is F.ICH_CTL_arm n = true → s.is F.ICH_STAT_ready n = true → TriggerComes t n s →
      (¬ dropped → Does (.ichTrigger t n) s (fun s' => IchFrame t n [] s s' ∧ s'.ichOf n = { h with edges := h.edges ++ [edge], trgAt := some t })) ∧
      (dropped → Does (.ichTrigger t n) s (fun s' => IchFrame t n [.ICH_STAT, .ICH_MISSCNT] s s' ∧ s'.is F.ICH_STAT_miss n = true ∧
        s'.get F.ICH_MISSCNT_count n = min (s.get F.ICH_MISSCNT_count n + 1) 262143 ∧ s'.ichOf n = { h with trgAt := some t }))) ∧
    (∀ e l (d : Int) (r : BitVec 7), h.edges = e :: l → e ≤ max s.now t →
      (h.win = none → s.is F.ICH_CTL_mode n = false →
        Does (.windowEdge t n d r) s (fun s' => IchFrame t n [] s s' ∧ (s'.ichOf n).edges = l ∧ (s'.ichOf n).norms = h.norms ∧
          ∃ leg, (s'.ichOf n).win = some ⟨e, r.toInt, false, leg⟩)) ∧
      (∀ w, h.win = some w → decisionsOk w.openAt e d = true →
        (w.openAt + 512 ≤ e → e ≤ w.openAt + 17179869120 → s.is F.ICH_CTL_mode n = false →
          Does (.windowEdge t n d r) s (fun s' => IchFrame t n [] s s' ∧ (s'.ichOf n).edges = l ∧
            (∃ leg, (s'.ichOf n).win = some ⟨e, r.toInt, false, leg⟩) ∧
            ∃ nw, (s'.ichOf n).norms = h.norms ++ [nw] ∧ nw.raw = 128 * d + r.toInt - w.res ∧ nw.len = e - w.openAt ∧
              nw.start = (e + 63) / 64 * 64 ∧ nw.merged = w.merged ∧ nw.forced = false)) ∧
        (e < w.openAt + 512 → s.is F.ICH_CTL_mode n = false →
          Does (.windowEdge t n d r) s (fun s' => IchFrame t n [.ICH_STAT, .ICH_MISSCNT] s s' ∧ s'.is F.ICH_STAT_miss n = true ∧
            (s'.ichOf n).win = some { w with merged := true } ∧ (s'.ichOf n).norms = h.norms)) ∧
        (s.is F.ICH_CTL_mode n = true → Does (.windowEdge t n d r) s (fun s' => IchFrame t n [] s s' ∧ (s'.ichOf n).edges = l ∧
          (s'.ichOf n).win = none ∧ (s'.ichOf n).norms.length = h.norms.length + 1)))) ∧
    (∀ e l (r : BitVec 7), h.edges = e :: l → e ≤ max s.now t + s.get F.ICH_WLEN_len n → h.win = none → s.is F.ICH_CTL_mode n = true →
      Does (.fixedWindowOpen t n r) s (fun s' => IchFrame t n [] s s' ∧ (s'.ichOf n).edges = h.edges ∧
        ∃ leg, (s'.ichOf n).win = some ⟨e - s.get F.ICH_WLEN_len n, r.toInt, false, leg⟩)) ∧
    (∀ w (d : Int) (r : BitVec 7), h.win = some w → s.is F.ICH_CTL_mode n = false → w.openAt + 17179869120 ≤ max s.now t → (∀ e ∈ h.edges, w.openAt + 17179869120 < e) →
      decisionsOk w.openAt (w.openAt + 17179869120) d = true →
      Does (.forcedClose t n d r) s (fun s' => IchFrame t n [] s s' ∧
        (∃ leg, (s'.ichOf n).win = some ⟨w.openAt + 17179869120, r.toInt, false, leg⟩) ∧
        ∃ nw, (s'.ichOf n).norms = h.norms ++ [nw] ∧ nw.forced = true ∧ nw.len = 17179869120))

/-- R46 to R49, R51, R53, R55: the result of the oldest closed window: RAW, its length, the normalized sample, rounded and saturated, and the flags; seq counts
by one; the window-complete event leaves the channel. An overloaded result is the code of the overload's sign. The probe test compares three results of one arming
(log entry 47), and sat follows the computed value also where an overload forces the result (log entry 129): the model's readings.
The overload flags follow R51: set where 64 decisions of one sign can have come, cleared 64 ns later at the earliest. The sample's exact value is (RAW × 65,536 / T) × (1 + c / 2,097,152) + o / 16. -/
def Sys2Proof.Machine.WindowResultsRules : Prop :=
  ∀ (t : Nat) (n : Fin 128) (s : State),
    let h := s.ichOf n
    (∀ w l, h.norms = w :: l → w.start + 384 ≤ max s.now t → 0 < w.len →
      let q : ℚ := (w.raw * 65536 / w.len) * (1 + w.c / 2097152) + w.o / 16
      let x : Int := if 0 ≤ q then ⌊q + 1 / 2⌋ else ⌈q - 1 / 2⌉
      let y := if w.ovld then (if w.neg then -131072 else 131071) else max (-131072) (min x 131071)
      let hit (ain : Bool) : Bool := match h.hist with
        | [q, p] => p.leg == some ain && q.armNo == w.armNo && p.armNo == w.armNo && !(q.bad || p.bad || w.ovld || w.merged) &&
            (if ain then decide (q.y - p.y > w.thr) && decide (y - p.y > w.thr) else decide (p.y - q.y > w.thr) && decide (p.y - y > w.thr))
        | _ => false
      Does (.windowResult t n) s (fun s' => IchFrame t n [.ICH_RAW, .ICH_NORM, .ICH_TLEN, .ICH_RSTAT, .ICH_STAT] s s' ∧
        s'.get F.ICH_RAW_qu n = (w.raw % 2 ^ 36).toNat ∧ s'.getS F.ICH_NORM_value n = y ∧ s'.get F.ICH_TLEN_t n = w.len % 2 ^ 36 ∧
        s'.get F.ICH_RSTAT_seq n = (s.get F.ICH_RSTAT_seq n + 1) % 256 ∧ s'.is F.ICH_RSTAT_ovld n = w.ovld ∧
        s'.is F.ICH_RSTAT_merged n = w.merged ∧ s'.is F.ICH_RSTAT_forced n = w.forced ∧
        s'.is F.ICH_RSTAT_sat n = decide (x < -131072 ∨ 131071 < x) ∧ s'.is F.ICH_RSTAT_cal n = w.cal ∧
        s'.is F.ICH_RSTAT_probe n = w.leg.isSome ∧ s'.is F.ICH_RSTAT_leg n = (w.leg == some true) ∧
        s'.is F.ICH_STAT_openn n = (s.is F.ICH_STAT_openn n || hit true) ∧ s'.is F.ICH_STAT_openp n = (s.is F.ICH_STAT_openp n || hit false) ∧
        s'.ichOf n = { h with norms := l, hist := (h.hist ++ [(⟨y, w.ovld || w.merged, w.leg, w.armNo⟩ : Sample)]).drop (h.hist.length - 1) } ∧
        ∃ o, s'.out = .fabric 3 n 0 (max s.now t : Nat) :: o)) ∧
    (∀ neg, s.rung < 3 → s.is F.ICH_CTL_en n = true → s.is F.ICH_STAT_ovldnow n = false → max s.now t % 64 = 0 →
      (h.powAt + 63) / 64 * 64 + 4160 ≤ max s.now t → (∀ c, h.ovClr = some c → (if neg = h.ovNeg then c + 64 else c) ≤ max s.now t) →
      Does (.overloadSet t n neg) s (fun s' => IchFrame t n [.ICH_STAT] s s' ∧ s'.is F.ICH_STAT_ovldnow n = true ∧
        s'.is F.ICH_STAT_ovld n = true ∧ s'.ichOf n = { h with ovNeg := neg, ovSet := max s.now t } ∧ ∃ o, s'.out = .fabric 3 n 1 (max s.now t : Nat) :: o)) ∧
    (s.is F.ICH_STAT_ovldnow n = true → max s.now t % 64 = 0 → h.ovSet + 4096 ≤ max s.now t →
      Does (.overloadClear t n) s (fun s' => IchFrame t n [.ICH_STAT] s s' ∧ s'.is F.ICH_STAT_ovldnow n = false ∧
        s'.is F.ICH_STAT_ovld n = s.is F.ICH_STAT_ovld n ∧ s'.ichOf n = { h with ovClr := some (max s.now t) }))

/-! ### Window comparators -/

/-- The frame of a command on comparator `n`: registers of the list `l`, instance `n`, its hidden state, its event sources, the interrupt source's
vector, outputs, and free values drawn; nothing else. -/
def Sys2Proof.Machine.WcFrame (t n : Nat) (l : List RegName) (s s' : State) : Prop :=
  s' = { s with now := max s.now t, out := s'.out, regs := s'.regs, hw := s'.hw, wc := s'.wc, srcAt := s'.srcAt, vsrc := s'.vsrc, free := s'.free } ∧
    (∀ m, m ≠ n → s'.wcOf m = s.wcOf m) ∧ SourcesKept 4 n s s' ∧ RegsKept (.VU_PEND :: .VU_LOST :: l) s s' ∧ ∀ r ∈ l, OthersKept r n s s'

/-- R65, R67, R69, R76: enabling powers the comparator for 1 µs, disabling drops its outputs at once; a threshold write starts a move of 100 ns; the
first write of WC_GUARD that sets frz freezes en and the routing; a new chk holds the comparator until 20 ns after chk is 0 again. -/
def Sys2Proof.Machine.ComparatorControlRules : Prop :=
  ∀ (t : Nat) (n : Fin 128) (v : Word) (s : State),
    let h := s.wcOf n
    let en := F.WC_CTL_en.of v.toNat
    let chk := F.WC_CTL_chk.of v.toNat
    (s.is F.WC_CTL_en n = false → en = 1 → chk ≤ 4 → s.is F.WC_GUARD_frz n = false →
      Does (.wcEnable t n v) s (fun s' => WcFrame t n [.WC_CTL, .WC_STAT] s s' ∧ s'.is F.WC_CTL_en n = true ∧
        s'.get F.WC_CTL_hyst n = F.WC_CTL_hyst.of v.toNat ∧ (s'.wcOf n).readyDue = some (max s.now t + 64000))) ∧
    (s.is F.WC_CTL_en n = true → en = 0 → chk ≤ 4 → s.is F.WC_GUARD_frz n = false →
      Does (.wcDisable t n v) s (fun s' => WcFrame t n [.WC_CTL, .WC_STAT] s s' ∧ s'.is F.WC_CTL_en n = false ∧
        s'.is F.WC_STAT_ready n = false ∧ s'.is F.WC_STAT_hinow n = false ∧ s'.is F.WC_STAT_lonow n = false ∧ wcReq s' n = 0)) ∧
    (s.is F.WC_GUARD_frz n = true → ((s.is F.WC_CTL_en n = true ∧ en = 0) → Does (.wcDisable t n v) s (fun s' =>
        WcFrame t n [.WC_STAT] s s' ∧ s'.is F.WC_STAT_cfgerr n = true ∧ s'.wc = s.wc)) ∧
      ((s.is F.WC_CTL_en n = false ∧ en = 1) → Does (.wcEnable t n v) s (fun s' =>
        WcFrame t n [.WC_STAT] s s' ∧ s'.is F.WC_STAT_cfgerr n = true ∧ s'.wc = s.wc))) ∧
    (∀ high : Bool, let f := if high then F.WC_THH_code else F.WC_THL_code
      v.toNat % 4096 ≠ s.get f n → Does (.thresholdWrite t n high v) s (fun s' =>
        WcFrame t n [if high then .WC_THH else .WC_THL] s s' ∧ s'.get f n = v.toNat % 4096 ∧
        (if high then (s'.wcOf n).hiMove.due else (s'.wcOf n).loMove.due) = max s.now t + 6400)) ∧
    (s.locked .WC_GUARD n = false → F.WC_GUARD_frz.of v.toNat = 1 → Does (.routingFreeze t n v) s (fun s' =>
      s'.is F.WC_GUARD_frz n = true ∧ s'.locked .WC_GUARD n = true ∧ RegsKept [.WC_GUARD] s s' ∧ OthersKept .WC_GUARD n s s' ∧
      s'.wc = s.wc)) ∧
    (chk ≠ s.get F.WC_CTL_chk n → chk ≤ 4 → (s.is F.WC_GUARD_frz n = false ∨ en = s.get F.WC_CTL_en n) →
      Does (.selfCheck t n v) s (fun s' => WcFrame t n [.WC_CTL, .WC_STAT] s s' ∧ s'.get F.WC_CTL_chk n = chk ∧
        s'.is F.WC_STAT_chkbusy n = true ∧ (s'.wcOf n).chkAt = max s.now t ∧ wcRaw s' n = 0)) ∧
    (s.is F.WC_STAT_chkbusy n = true → s.get F.WC_CTL_chk n = 0 → h.chkAt + 1280 ≤ max s.now t →
      Does (.selfCheckEnd t n) s (fun s' => WcFrame t n [.WC_STAT] s s' ∧ s'.is F.WC_STAT_chkbusy n = false))

/-- R63, R64, R66, R67, R73: with settled thresholds, both outputs follow the input and their hysteresis: hinow asserts above THH and deasserts below
THH - h, lonow asserts below THL and deasserts above THL + h, and else they hold, each within the offset of 3 mV, the nonlinearity of 2 codes and the
hysteresis' 20 % and 1 mV; an output that asserts outside blanking sets its sticky flag; ready, 1 µs after enable, evaluates at once. -/
def Sys2Proof.Machine.ComparatorOutputsRules : Prop :=
  ∀ (t : Nat) (n : Fin 128) (s : State),
    let h := s.wcOf n
    let thh : ℚ := s.getS F.WC_THH_code n * 1000000 / 2048
    let thl : ℚ := s.getS F.WC_THL_code n * 1000000 / 2048
    let hy : ℚ := 2000 * s.get F.WC_CTL_hyst n
    let tol : ℚ := 3000 + 2 * 1000000 / 2048
    let hyTol : ℚ := if s.get F.WC_CTL_hyst n = 0 then 0 else hy / 5 + 1000
    let clear : Bool := !s.is F.WC_STAT_blknow n && !s.is F.WC_STAT_chkbusy n
    let Follows (v : Int) (s' : State) : Prop :=
      ((v : ℚ) > thh + tol → s'.is F.WC_STAT_hinow n = true) ∧
      ((v : ℚ) < thh - hy - hyTol - tol → s'.is F.WC_STAT_hinow n = false) ∧
      (s.is F.WC_STAT_hinow n = true → (v : ℚ) > thh - hy + hyTol + tol → s'.is F.WC_STAT_hinow n = true) ∧
      (s.is F.WC_STAT_hinow n = false → (v : ℚ) < thh - tol → s'.is F.WC_STAT_hinow n = false) ∧
      ((v : ℚ) < thl - tol → s'.is F.WC_STAT_lonow n = true) ∧
      ((v : ℚ) > thl + hy + hyTol + tol → s'.is F.WC_STAT_lonow n = false) ∧
      (s.is F.WC_STAT_lonow n = true → (v : ℚ) < thl + hy - hyTol - tol → s'.is F.WC_STAT_lonow n = true) ∧
      (s.is F.WC_STAT_lonow n = false → (v : ℚ) > thl + tol → s'.is F.WC_STAT_lonow n = false) ∧
      s'.is F.WC_STAT_hi n = (s.is F.WC_STAT_hi n || (clear && !s.is F.WC_STAT_hinow n && s'.is F.WC_STAT_hinow n)) ∧
      s'.is F.WC_STAT_lo n = (s.is F.WC_STAT_lo n || (clear && !s.is F.WC_STAT_lonow n && s'.is F.WC_STAT_lonow n))
    s.get F.WC_CTL_chk n = 0 →
    (∀ v posH posL, s.is F.WC_STAT_ready n = true → h.hiMove.due ≤ max s.now t → h.loMove.due ≤ max s.now t →
      Does (.thresholdCrossing t n v posH posL) s (fun s' => WcFrame t n [.WC_STAT] s s' ∧ Follows v s' ∧ (s'.wcOf n).vin = v)) ∧
    (∀ d, s.is F.WC_CTL_en n = true → h.readyDue = some d → d ≤ max s.now t → h.hiMove.due ≤ max s.now t → h.loMove.due ≤ max s.now t →
      Does (.wcReady t n) s (fun s' => WcFrame t n [.WC_STAT] s s' ∧ Follows h.vin s' ∧ s'.is F.WC_STAT_ready n = true ∧ (s'.wcOf n).readyDue = none))

/-- R70, R72, R73, R74: blanking lifts at its timer edge: blknow falls, an output of a ready comparator that is still asserted sets its sticky flag, and
a held event is raised where its output still stands. -/
def Sys2Proof.Machine.BlankingLiftsRules : Prop :=
  ∀ (t : Nat) (n : Fin 128) (s : State) (b e : Nat), (s.wcOf n).blk = some (b, e) → e ≤ max s.now t →
    Does (.blankingEnd t n) s (fun s' => WcFrame t n [.WC_STAT] s s' ∧ s'.is F.WC_STAT_blknow n = false ∧ (s'.wcOf n).blk = none ∧
      s'.is F.WC_STAT_hinow n = s.is F.WC_STAT_hinow n ∧ s'.is F.WC_STAT_lonow n = s.is F.WC_STAT_lonow n ∧
      s'.is F.WC_STAT_hi n = (s.is F.WC_STAT_hi n || (s.is F.WC_STAT_ready n && !s.is F.WC_STAT_chkbusy n && s.is F.WC_STAT_hinow n)) ∧
      s'.is F.WC_STAT_lo n = (s.is F.WC_STAT_lo n || (s.is F.WC_STAT_ready n && !s.is F.WC_STAT_chkbusy n && s.is F.WC_STAT_lonow n)) ∧
      (s.is F.WC_STAT_ready n = true → s.is F.WC_STAT_chkbusy n = false →
        (Out.fabric 4 n 0 (max s.now t : Nat) ∈ s'.out ↔ (s.wcOf n).heldHi = true ∧ s.is F.WC_STAT_hinow n = true) ∧
        (Out.fabric 4 n 1 (max s.now t : Nat) ∈ s'.out ↔ (s.wcOf n).heldLo = true ∧ s.is F.WC_STAT_lonow n = true)))

/-- R43, R44, R59: a channel is enabled, becomes ready 2,000 ns later, and is disabled, with the disarm first; CALREF is ready 50 µs after refen. R44: a write that sets arm is refused as a whole, with cfgerr, where ready is 0, where FIXED would not meet R40, or where cuev is reserved; else the channel is armed with no window and no edge instant. Clearing arm discards the open window and the pending edge instants and keeps the windows in normalization. -/
def Obligations.IntegratorPowerAndArming : Prop := ChannelPowerRules ∧ ChannelArmingRules

/-- R36 to R42: a trigger of an armed, ready channel queues its edge instant, at most four, or counts as missed; an edge instant opens the first window, closes one and opens the next (CONTIGUOUS), closes a FIXED one, or merges; a FIXED window opens its length before its edge; a CONTIGUOUS window closes by itself at the maximum length. R46 to R49, R51, R53, R55: the result of the oldest closed window: RAW, its length, the normalized sample, rounded and saturated, and the flags; seq counts by one; the window-complete event leaves the channel. An overloaded result is the code of the overload's sign. The probe test compares three results of one arming (log entry 47), and sat follows the computed value also where an overload forces the result (log entry 129): the model's readings. The overload flags follow R51: set where 64 decisions of one sign can have come, cleared 64 ns later at the earliest. The sample's exact value is (RAW × 65,536 / T) × (1 + c / 2,097,152) + o / 16. -/
def Obligations.IntegratorWindows : Prop := WindowsRules ∧ WindowResultsRules

/-- R65, R67, R69, R76: enabling powers the comparator for 1 µs, disabling drops its outputs at once; a threshold write starts a move of 100 ns; the first write of WC_GUARD that sets frz freezes en and the routing; a new chk holds the comparator until 20 ns after chk is 0 again. R63, R64, R66, R67, R73: with settled thresholds, both outputs follow the input and their hysteresis: hinow asserts above THH and deasserts below THH - h, lonow asserts below THL and deasserts above THL + h, and else they hold, each within the offset of 3 mV, the nonlinearity of 2 codes and the hysteresis' 20 % and 1 mV; an output that asserts outside blanking sets its sticky flag; ready, 1 µs after enable, evaluates at once. R70, R72, R73, R74: blanking lifts at its timer edge: blknow falls, an output of a ready comparator that is still asserted sets its sticky flag, and a held event is raised where its output still stands. -/
def Obligations.Comparators : Prop := ComparatorControlRules ∧ ComparatorOutputsRules ∧ BlankingLiftsRules

/-! ### Engine instructions -/

/-- R47, R109: round to the nearest integer, ties away from zero. -/
def Sys2Proof.Machine.roundQ (q : ℚ) : Int := if 0 ≤ q then ⌊q + 1 / 2⌋ else ⌈q - 1 / 2⌉

/-- R109: sat. -/
def Sys2Proof.Machine.satI (v : Int) : Int := max (-131072) (min v 131071)

/-- The crane's run `r` goes on as `r'`, one cycle further (R108); every other crane is as it was. -/
def Sys2Proof.Machine.EngGoes (c : Fin 8) (r r' : Run) (s s' : State) : Prop :=
  s'.now = max s.now (r.start + 64 * (r.pos + 1)) ∧ (s'.craneOf c).run = some { r' with pos := r.pos + 1 } ∧
    ∀ m, m ≠ c.val → s'.craneOf m = s.craneOf m

/-- R107, R108: instruction `i` completes at its place in run `r` of crane `c`, changes the run's context to `r'`, and nothing else of the
device but the time and the crane's counts. -/
def Sys2Proof.Machine.EngSets (i : Instr) (c : Fin 8) (s : State) (r r' : Run) : Prop :=
  Does i s (fun s' => EngGoes c r r' s s' ∧ s' = { s with now := s'.now, out := [], crane := s'.crane })

/-- R110, R112 to R114, R116: with `w` the double word at the run's position, its fields at the places of R111, and no reserved operand code, each load and
each arithmetic instruction makes of the working words and ACC what the rule says, and a reserved opcode or operand code makes NOP. -/
def Sys2Proof.Machine.EngineResultsRules : Prop :=
  ∀ (c : Fin 8) (s : State) (r : Run) (w : BitVec 36), (s.craneOf c).run = some r → r.prog[r.pos]? = some w →
    let op := w.toNat / 2 ^ 30
    let d := w.extractLsb' 28 2
    let a := w.extractLsb' 22 6
    let b := w.extractLsb' 16 6
    let hi := w.extractLsb' 10 6
    let bias := w.extractLsb' 4 6
    let m := w.getLsbD 15
    let ch := w.extractLsb' 0 7
    let val (f : BitVec 6) : Int := opVal s r f.toNat
    let smp (n : Nat) : Int := s.getS F.ICH_NORM_value n
    let setX (y : Int) : Run := { r with x := r.x.set d.toNat y }
    ((op = 0 ∨ 17 ≤ op ∨ (op ∈ [2, 5, 6, 9, 10, 11, 12, 13, 14, 15, 16] ∧ 39 ≤ a.toNat) ∨
        (op ∈ [5, 7, 9, 10, 11, 12, 15] ∧ 39 ≤ b.toNat) ∨ (op = 6 ∧ d ≠ 3 ∧ 39 ≤ b.toNat) ∨
        (op ∈ [10, 11, 15] ∧ 39 ≤ hi.toNat) ∨ (op = 15 ∧ 39 ≤ bias.toNat) ∨ (op = 7 ∧ (d = 3 ∨ 15 ≤ a.toNat))) →
      EngSets (.engNop c) c s r r) ∧
    (op = 1 → EngSets (.ldi c d (w.extractLsb' 0 18)) c s r (setX (w.extractLsb' 0 18).toInt)) ∧
    (op = 2 → a.toNat < 39 → EngSets (.ldw c d a) c s r (setX (val a)) ∧
      (a.toNat < 16 → r.old = [] → r.view = false → s.engWOf (16 * r.berth + a.toNat) = none →
        val a = s.bramOf (16 * r.berth + a.toNat)) ∧
      (16 ≤ a.toNat → a.toNat < 32 → let j := (r.base + r.region * r.step + (a.toNat - 16)) % 16384
        r.old = [] → r.view = false → s.engWOf j = none → val a = s.bramOf j) ∧
      (32 ≤ a.toNat → a.toNat < 36 → val a = r.x.getD (a.toNat - 32) 0) ∧ (a.toNat = 36 → val a = smp r.ch) ∧
      (a.toNat = 37 → val a = satI (roundQ (r.acc / 2 ^ 17))) ∧ (a.toNat = 38 → val a = 0)) ∧
    (op = 3 → EngSets (.lda c d (w.extractLsb' 0 14)) c s r (setX (stateRead s r (w.extractLsb' 0 14).toNat))) ∧
    (op = 4 → EngSets (.lds c d m ch) c s r (setX (smp (if m then r.ch else ch.toNat)))) ∧
    (op = 5 → a.toNat < 39 → b.toNat < 39 → (m = false → EngSets (.err c d a b) c s r (setX (satI (val a - val b)))) ∧
      (m = true → EngSets (.errAdd c d a b) c s r (setX (satI (val a + val b))))) ∧
    (op = 6 → a.toNat < 39 → (b.toNat < 39 ∨ d = 3) →
      (d = 0 → EngSets (.macSet c a b) c s r { r with acc := val a * val b }) ∧
      (d = 1 → EngSets (.macAdd c a b) c s r { r with acc := r.acc + val a * val b }) ∧
      (d = 2 → EngSets (.macSub c a b) c s r { r with acc := r.acc - val a * val b }) ∧
      (d = 3 → EngSets (.macAddw c a) c s r { r with acc := r.acc + val a * 2 ^ 17 })) ∧
    (op = 8 → EngSets (.rnd c d (w.extractLsb' 0 4)) c s r
      (setX (satI (roundQ (r.acc * 2 ^ (w.extractLsb' 0 4).toNat / 2 ^ 17))))) ∧
    (op = 9 → a.toNat < 39 → b.toNat < 39 →
      let y := if m then smp ch.toNat else val b
      EngSets (.ffw c d a b m ch) c s r (setX (if y = 0 then (if 0 < val a then 131071 else if val a < 0 then -131072 else 0)
        else satI (roundQ (val a * 131072 / y))))) ∧
    (op = 11 → a.toNat < 39 → b.toNat < 39 → hi.toNat < 39 →
      EngSets (.clp c d a b hi) c s r (setX (max (val b) (min (val a) (val hi))))) ∧
    (op = 12 → a.toNat < 39 → b.toNat < 39 → (m = false → EngSets (.mnxMin c d a b) c s r (setX (min (val a) (val b)))) ∧
      (m = true → EngSets (.mnxMax c d a b) c s r (setX (max (val a) (val b)))))

/-- R98, R112, R115, R117, R118, R123: MACD accumulates and writes its own word into the next, INT adds, clamps and writes its own word, directly or
provisionally in a competition group before SEL, and STW stores its own word. No other state word and no register changes. The value
written is an 18-bit word; a word that a tide replaced during the run keeps the tide's value. -/
def Sys2Proof.Machine.EngineStateWordsRules : Prop :=
  ∀ (c : Fin 8) (s : State) (r : Run) (w : BitVec 36), (s.craneOf c).run = some r → r.prog[r.pos]? = some w →
    let op := w.toNat / 2 ^ 30
    let d := w.extractLsb' 28 2
    let a := w.extractLsb' 22 6
    let b := w.extractLsb' 16 6
    let hi := w.extractLsb' 10 6
    let own := w.extractLsb' 6 4
    let val (f : BitVec 6) : Int := opVal s r f.toNat
    let Stores (i : Instr) (j : Nat) (y : Int) (r' : Run) : Prop := (j ∈ r.tide → EngSets i c s r r') ∧ (j ∉ r.tide → Does i s (fun s' => EngGoes c r r' s s' ∧
      s' = { s with now := s'.now, out := [], crane := s'.crane, bram := s'.bram, engW := s'.engW } ∧
      s'.bramOf j = (BitVec.ofInt 18 y).toInt ∧ (∃ p, s'.engWOf j = some ⟨p, r.start + 64 * (r.pos + 1)⟩) ∧
      ∀ k, k ≠ j → s'.bramOf k = s.bramOf k ∧ s'.engWOf k = s.engWOf k))
    (op = 7 → a.toNat < 15 → b.toNat < 39 →
      let j := 16 * r.berth + a.toNat + 1
      let r' : Run := { r with view := if a.toNat + 1 = r.intw then false else r.view }
      (d = 0 → Stores (.macdSet c a b) j (val a) { r' with acc := val a * val b }) ∧
      (d = 1 → Stores (.macdAdd c a b) j (val a) { r' with acc := r.acc + val a * val b }) ∧
      (d = 2 → Stores (.macdSub c a b) j (val a) { r' with acc := r.acc - val a * val b })) ∧
    (op = 10 → a.toNat < 39 → b.toNat < 39 → hi.toNat < 39 →
      let j := 16 * r.berth + own.toNat
      let y := max (val b) (min (stateRead s r j + val a) (val hi))
      let r' : Run := { r with x := r.x.set d.toNat y }
      if r.mem ∧ own.toNat = r.intw ∧ r.selDone = false
      then EngSets (.int c d a b hi own) c s r { r' with prov := some ⟨y, val b, val hi⟩, view := true }
      else Stores (.int c d a b hi own) j y { r' with view := if own.toNat = r.intw then false else r.view }) ∧
    (op = 16 → a.toNat < 39 → Stores (.stw c a own) (16 * r.berth + own.toNat) (val a)
      { r with view := if own.toNat = r.intw then false else r.view })

/-- R101, R103, R119, R120: GSEL moves the region, which BERTH_STAT shows; SEL moves its operand, and the first SEL of a member of a live group
offers it to the round; the closer's resolves the round: X[d], CG_OUT and CG_STAT take the best offer, whose provisional integrator is written; a loser's
is written too, shifted by the difference and clamped, where CG_CTL.pol is 1; and the round is over. -/
def Sys2Proof.Machine.EngineSelectionRules : Prop :=
  ∀ (c : Fin 8) (s : State) (r : Run) (w : BitVec 36), (s.craneOf c).run = some r → r.prog[r.pos]? = some w →
    let op := w.toNat / 2 ^ 30
    let d := w.extractLsb' 28 2
    let a := w.extractLsb' 22 6
    let f := w.getLsbD 15
    let y : Int := opVal s r a.toNat
    let Regions (i : Instr) (g : Nat) : Prop := Does i s (fun s' => EngGoes c r { r with region := g } s s' ∧
      s' = { s with now := s'.now, out := [], crane := s'.crane, regs := s'.regs } ∧ RegsKept [.BERTH_STAT] s s' ∧
      OthersKept .BERTH_STAT r.berth s s' ∧ s'.get F.BERTH_STAT_region r.berth = g % 4)
    let first := r.offered = false ∧ r.mem = true ∧ groupLive s r.grp = true
    let r' : Run := { r with x := r.x.set d.toNat y, selDone := true, offered := true }
    let os := s.roundsOf r.grp ++ [⟨r.berth, y, r.prov, r.intw⟩]
    let before (o p : Offer) : Prop := (if s.is F.CG_CTL_mode r.grp then p.y < o.y else o.y < p.y) ∨ (o.y = p.y ∧ o.berth < p.berth)
    (op = 13 → f = false → a.toNat < 39 → Regions (.gselSchedule c a) (moveRegion r.nreg r.bnd r.hys r.region y)) ∧
    (op = 13 → f = true → a.toNat < 39 → Regions (.gselFixed c d) (min d.toNat (r.nreg - 1))) ∧
    (op = 14 → a.toNat < 39 → (¬ first ∨ r.voided = true) → EngSets (.sel c d a) c s r r') ∧
    (op = 14 → a.toNat < 39 → first → r.voided = false → r.close = false →
      Does (.sel c d a) s (fun s' => EngGoes c r r' s s' ∧ s'.roundsOf r.grp = os ∧ (∀ g, g ≠ r.grp → s'.roundsOf g = s.roundsOf g) ∧
        s' = { s with now := s'.now, out := [], crane := s'.crane, rounds := s'.rounds })) ∧
    (op = 14 → a.toNat < 39 → first → r.voided = false → r.close = true →
      Does (.sel c d a) s (fun s' => ∃ best ∈ os, (∀ o ∈ os, (o.y = best.y ∧ o.berth = best.berth) ∨ before best o) ∧
        s' = { s with now := s'.now, out := [], crane := s'.crane, rounds := s'.rounds, regs := s'.regs, bram := s'.bram, engW := s'.engW } ∧
        EngGoes c r { r' with x := r.x.set d.toNat best.y, prov := none, view := false } s s' ∧ s'.roundsOf r.grp = [] ∧ (∀ g, g ≠ r.grp → s'.roundsOf g = s.roundsOf g) ∧
        s'.get F.CG_OUT_y r.grp = (best.y % 2 ^ 18).toNat ∧ s'.get F.CG_STAT_winner r.grp = best.berth % 1024 ∧
        s'.get F.CG_STAT_nmem r.grp = (os.length - 1) % 8 ∧ RegsKept [.CG_OUT, .CG_STAT] s s' ∧
        OthersKept .CG_OUT r.grp s s' ∧ OthersKept .CG_STAT r.grp s s' ∧
        (∀ p, best.prov = some p → s'.bramOf (16 * best.berth + best.word) = (BitVec.ofInt 18 p.v).toInt ∨
          ∃ o ∈ os, o ≠ best ∧ 16 * o.berth + o.word = 16 * best.berth + best.word) ∧
        (∀ o ∈ os, ∀ p, o.prov = some p → o.berth ≠ best.berth → (∀ q ∈ os, q ≠ o → 16 * q.berth + q.word ≠ 16 * o.berth + o.word) →
          s'.bramOf (16 * o.berth + o.word) = (if s.is F.CG_CTL_pol r.grp = true
            then (BitVec.ofInt 18 (max p.lo (min (p.v + (best.y - o.y)) p.hi))).toInt else s.bramOf (16 * o.berth + o.word))) ∧
        (∀ k, (∀ o ∈ os, o.prov = none ∨ k ≠ 16 * o.berth + o.word) → s'.bramOf k = s.bramOf k)))

/-- R20, R121, R122: DUTY makes its value E, from the period as ps selects it, and the unit holds it for the compare register from one timer cycle after the
instruction completes, with the priority and the berth of the run; nothing of the unit changes before. -/
def Sys2Proof.Machine.DutyStoreRules : Prop :=
  ∀ (c : Fin 8) (s : State) (r : Run) (w : BitVec 36), (s.craneOf c).run = some r → r.prog[r.pos]? = some w → w.toNat / 2 ^ 30 = 15 →
    let a := w.extractLsb' 22 6
    let b := w.extractLsb' 16 6
    let hi := w.extractLsb' 10 6
    let bias := w.extractLsb' 4 6
    let cmp := w.extractLsb' 28 2
    let val (f : BitVec 6) : Int := opVal s r f.toNat
    let u := (r.cu + w.toNat % 8) % 128
    a.toNat < 39 → b.toNat < 39 → hi.toNat < 39 → bias.toNat < 39 → s.now ≤ r.start + 64 * (r.pos + 1) →
    (∀ x ∈ (s.cuOf u).held, ((r.start + 64 * (r.pos + 1) : Nat) : Int) < x.held) →
    let y := max 0 (min (val a + val b) (val hi))
    let p : Int := 64 * (if w.getLsbD 3 then s.get F.CU_PERS_p u else s.get F.CU_PER_p u : Nat)
    let e := roundQ (y * p / 131072)
    let e := if s.get F.CU_CTL_mode u = 1 then p - e else e
    Does (.duty c cmp a b hi bias (w.getLsbD 3) (w.extractLsb' 0 3)) s (fun s' => EngGoes c r r s s' ∧
      s' = { s with now := s'.now, out := [], crane := s'.crane, cu := s'.cu } ∧
      s'.cuOf u = { s.cuOf u with held := (s.cuOf u).held ++ [⟨cmp.toNat + 1, (max 0 (min (e + val bias) p)).toNat % 2 ^ 36,
        ((r.start + 64 * (r.pos + 2) : Nat) : Int), .duty r.pri r.berth⟩] } ∧ ∀ m, m ≠ u → s'.cuOf m = s.cuOf m)

/-- R110, R112 to R114, R116: with `w` the double word at the run's position, its fields at the places of R111, and no reserved operand code, each load and each arithmetic instruction makes of the working words and ACC what the rule says, and a reserved opcode or operand code makes NOP. R101, R103, R119, R120: GSEL moves the region, which BERTH_STAT shows; SEL moves its operand, and the first SEL of a member of a live group offers it to the round; the closer's resolves the round: X[d], CG_OUT and CG_STAT take the best offer, whose provisional integrator is written; a loser's is written too, shifted by the difference and clamped, where CG_CTL.pol is 1; and the round is over. -/
def Obligations.EngineInstructions : Prop := EngineResultsRules ∧ EngineSelectionRules

/-- R98, R112, R115, R117, R118, R123: MACD accumulates and writes its own word into the next, INT adds, clamps and writes its own word, directly or provisionally in a competition group before SEL, and STW stores its own word. No other state word and no register changes. The value written is an 18-bit word; a word that a tide replaced during the run keeps the tide's value. R20, R121, R122: DUTY makes its value E, from the period as ps selects it, and the unit holds it for the compare register from one timer cycle after the instruction completes, with the priority and the berth of the run; nothing of the unit changes before. -/
def Obligations.EngineStateAndDuty : Prop := EngineStateWordsRules ∧ DutyStoreRules

/-! ### Berths, runs and cranes -/

/-- The frame of a command on berth `b`: it may write the berth's BERTH_CTL, BERTH_STAT and BERTH_OVR, the registers of the list `l`, the scheduling state of
the engine, the taps of event channels, the event sources of the berth and of cranes, an interrupt source's vector, and outputs; no state word, no
program word and no SRAM word. -/
def Sys2Proof.Machine.BerthFrame (t b : Nat) (l : List RegName) (s s' : State) : Prop :=
  s' = { s with now := max s.now t, out := s'.out, regs := s'.regs, hw := s'.hw, berth := s'.berth, armed := s'.armed, admq := s'.admq,
                crane := s'.crane, rounds := s'.rounds, ev := s'.ev, srcAt := s'.srcAt, vsrc := s'.vsrc } ∧
    (∀ m, m ≠ b → s'.berthOf m = s.berthOf m) ∧
    (∀ k, k / 16 ≠ 128 * (5 + b / 128) + b % 128 → k / 16 / 128 ≠ 13 → s'.srcAtOf k = s.srcAtOf k) ∧
    RegsKept ([.BERTH_CTL, .BERTH_STAT, .BERTH_OVR, .VU_PEND, .VU_LOST] ++ l) s s' ∧
    ∀ r ∈ [RegName.BERTH_CTL, RegName.BERTH_STAT, RegName.BERTH_OVR], OthersKept r b s s'

/-- Restates R24, R92, R93: with berth `b` counted as armed on crane `c`, the greatest set `e` of exempt berths, those with Wmax + length <= CR_SEP.sep, leaves
Wmax + k <= 22 for every priority-0 berth. -/
def Sys2Proof.Machine.BudgetRule (s : State) (c b : Nat) : Prop :=
  let on := b :: s.armed.filter (fun m => s.get F.BERTH_CTL_crane m == c && m != b)
  let sep := s.get F.CR_SEP_sep c
  let len (m : Nat) : Nat := s.get F.BERTH_PROG_lenm1 m + 1
  let set (m : Nat) : Nat := if sep = 0 then 0 else s.get F.BERTH_CTL_cset m
  let duty (m i : Nat) : Bool := (s.bstoreOf (s.get F.BERTH_PROG_base m + i)).toNat / 2 ^ 30 == 0o17
  let k (m : Nat) : Nat := (((List.range (len m)).filter (duty m)).getLast?.map (· + 1)).getD (len m)
  let wmax (e : List Nat) (p : Nat) : Nat :=
    ((on.filter (fun q => s.get F.BERTH_CTL_pri q != 0 || (set q != set p && !e.contains q))).map len).foldl max 0 +
      ((on.filter (fun q => s.get F.BERTH_CTL_pri q == 0 && set q == set p && q != p)).map len).sum
  ∃ e : List Nat, (∀ p ∈ on, s.get F.BERTH_CTL_pri p = 0 → (p ∈ e ↔ wmax e p + len p ≤ sep)) ∧
    (∀ e' : List Nat, (∀ p ∈ e', p ∈ on → s.get F.BERTH_CTL_pri p = 0 → wmax e' p + len p ≤ sep) →
      ∀ p ∈ e', p ∈ on → s.get F.BERTH_CTL_pri p = 0 → p ∈ e) ∧
    ∀ p ∈ on, s.get F.BERTH_CTL_pri p = 0 → wmax e p + k p ≤ 22

/-- R89 to R93, R100, R101: an arming request of a disarmed berth joins the end of the queue with admpend, and takes the configuration with it; the admission
unit refuses the oldest request for the first reason of R91 that applies, into ENG_ADMERR, or arms its berth, whose region is the count of boundaries in use
at or below its scheduling variable; the write that clears arm disarms at once and discards the pending run without BERTH_OVR, or, where a run
executes, leaves the berth armed until its end. That a write which disarms stores the configuration it carries is the model's choice (log entry 107). -/
def Sys2Proof.Machine.BerthArmingRules : Prop :=
  (∀ (t : Nat) (b : Fin 1024) (v : Word) (s : State), v.getLsbD 17 = true → HwIdle t .BERTH_CTL b s → s.is F.BERTH_CTL_arm b = false →
    s.is F.BERTH_STAT_admpend b = false → b.val ∉ s.armed →
    Does (.berthArmRequest t b v) s (fun s' => BerthFrame t b [] s s' ∧ s'.admq = s.admq ++ [b.val] ∧ s'.armed = s.armed ∧
      s'.is F.BERTH_STAT_admpend b = true ∧ s'.is F.BERTH_CTL_arm b = false ∧ s'.get F.BERTH_CTL_pri b = F.BERTH_CTL_pri.of v.toNat ∧
      s'.get F.BERTH_CTL_crane b = F.BERTH_CTL_crane.of v.toNat ∧ s'.get F.BERTH_CTL_cset b = F.BERTH_CTL_cset.of v.toNat ∧
      s'.berth = s.berth ∧ s'.crane = s.crane)) ∧
  (∀ (t b : Nat) (q : List Nat) (s : State), s.admq = b :: q → s.rung < 3 →
    let base := s.get F.BERTH_PROG_base b
    let len := s.get F.BERTH_PROG_lenm1 b + 1
    let c := s.get F.BERTH_CTL_crane b
    let src := s.get F.BERTH_TRG_src b
    let n := s.get F.BERTH_GAIN_nregm1 b
    let bnd (i : Nat) : Int := s.getS F.BERTH_BND_b (3 * b + i)
    let lo (m : Nat) : Nat := s.get F.BERTH_GBASE_base m
    let hi (m : Nat) : Nat := lo m + s.get F.BERTH_GAIN_nregm1 m * s.get F.BERTH_GAIN_step m + 15
    let covers (m m' : Nat) : Prop := lo m ≤ 16 * m' + 15 ∧ 16 * m' ≤ hi m
    let peers := s.armed.filter (fun m => s.is F.BERTH_GRP_mem m && s.get F.BERTH_GRP_grp m == s.get F.BERTH_GRP_grp b && m != b)
    let differs (m : Nat) : Prop := ∃ f ∈ [F.BERTH_CTL_crane, F.BERTH_CTL_cset, F.BERTH_CTL_pri, F.BERTH_TRG_src, F.BERTH_TRG_num], s.get f m ≠ s.get f b
    let closes (m : Nat) : Prop := s.is F.BERTH_GRP_close m = true
    let first : Nat := if s.is F.ENG_CTL_en 0 = false then 1 else if src = 3 ∨ (src = 0 ∧ 511 < s.get F.BERTH_TRG_num b) then 2
      else if 16384 < base + len then 3 else if 128 ≤ (armedOn s c).length then 4
      else if (2 ≤ n ∧ bnd 1 ≤ bnd 0) ∨ (3 ≤ n ∧ bnd 2 ≤ bnd 1) then 5 else if 16384 ≤ hi b then 6
      else if ∃ m ∈ s.armed, m ≠ b ∧ (covers b m ∨ covers m b) then 7
      else if s.is F.BERTH_GRP_mem b = true ∧ (8 ≤ peers.length ∨ (∃ m ∈ peers, differs m) ∨ (closes b ∧ ∃ m ∈ peers, closes m ∨ b < m) ∨
        (¬ closes b ∧ ∃ m ∈ peers, closes m ∧ m < b)) then 8 else 0
    let Refused (code : Nat) : Prop := Does (.admissionDecision t) s (fun s' => BerthFrame t b [.ENG_ADMERR] s s' ∧ s'.admq = q ∧ s'.armed = s.armed ∧
      s'.is F.BERTH_STAT_admpend b = false ∧ s'.is F.BERTH_STAT_refused b = true ∧ s'.get F.ENG_ADMERR_code 0 = code ∧
      s'.get F.ENG_ADMERR_berth 0 = b % 1024 ∧ (Out.irq 408 ∈ s'.out ↔ s.is F.ENG_IEN_adm 0 = true) ∧
      s'.get F.BERTH_CTL_arm b = s.get F.BERTH_CTL_arm b)
    (first ≠ 0 → Refused first) ∧ (first = 0 → ¬ BudgetRule s c b → Refused 9) ∧
    (first = 0 → BudgetRule s c b → Does (.admissionDecision t) s (fun s' => BerthFrame t b [.CR_STAT, .EV_STAT] s s' ∧ OthersKept .CR_STAT c s s' ∧
      OthersKept .EV_STAT (s.get F.BERTH_TRG_num b) s s' ∧ s'.admq = q ∧
      (∀ m, m ∈ s'.armed ↔ m = b ∨ m ∈ s.armed) ∧ s'.is F.BERTH_STAT_admpend b = false ∧ s'.is F.BERTH_CTL_arm b = true ∧
      s'.is F.BERTH_STAT_refused b = s.is F.BERTH_STAT_refused b ∧
      s'.get F.BERTH_STAT_region b = (((List.range (s.get F.BERTH_GAIN_nregm1 b)).filter
        (fun i => decide (s.getS F.BERTH_BND_b (3 * b + i) ≤ s.bramOf (16 * b + s.get F.BERTH_GAIN_svar b)))).length)))) ∧
  (∀ (t : Nat) (b : Fin 1024) (v : Word) (s : State), v.getLsbD 17 = false → HwIdle t .BERTH_CTL b s → s.is F.BERTH_CTL_arm b = true →
    b.val ∈ s.armed →
    let c := s.get F.BERTH_CTL_crane b
    let closes := groupCloser s (s.get F.BERTH_GRP_grp b) = some b.val
    let same := F.BERTH_CTL_pri.of v.toNat = s.get F.BERTH_CTL_pri b ∧ F.BERTH_CTL_crane.of v.toNat = c ∧
      F.BERTH_CTL_cset.of v.toNat = s.get F.BERTH_CTL_cset b
    ((∀ r, (s.craneOf c).run = some r → r.berth ≠ b) → Does (.berthDisarm t b v) s (fun s' =>
      ((closes → (s.berthOf b).pend = none) → BerthFrame t b [.CR_STAT, .EV_STAT] s s') ∧
      (closes → s'.roundsOf (s.get F.BERTH_GRP_grp b) = []) ∧ s'.armed = s.armed.filter (· != b.val) ∧ s'.is F.BERTH_CTL_arm b = false ∧ s'.berthOf b = {} ∧
      (s.is F.BERTH_STAT_ready b = (s.berthOf b).pend.isSome → s'.is F.BERTH_STAT_ready b = false) ∧
      s'.reg .BERTH_OVR b = s.reg .BERTH_OVR b ∧ s'.get F.BERTH_CTL_pri b = F.BERTH_CTL_pri.of v.toNat)) ∧
    (∀ r, (s.craneOf c).run = some r → r.berth = b.val → Does (.berthDisarm t b v) s (fun s' => BerthFrame t b [] s s' ∧
      s'.armed = s.armed ∧ s'.is F.BERTH_CTL_arm b = true ∧ s'.berthOf b = { s.berthOf b with endOff := true } ∧
      s'.reg .BERTH_OVR b = s.reg .BERTH_OVR b ∧ s'.reg .BERTH_CTL b = s.reg .BERTH_CTL b ∧ s'.crane = s.crane ∧
      s'.rounds = s.rounds ∧ s'.is F.BERTH_STAT_cfgerr b = (s.is F.BERTH_STAT_cfgerr b || decide (¬ same)))))

/-- R79 to R82, R85, R87: a trigger of an armed berth makes a pending run, ready at the first timer edge at or after the event's arrival, or after the software
write, with the deadline of BERTH_DL, and late where its own run executes; a run still pending is skipped first, with BERTH_OVR; the crane flags a run that becomes
ready less than CR_SEP from one of another coincidence set. A software trigger of a disarmed berth, or in Stop or below, is ignored. -/
def Sys2Proof.Machine.BerthTriggersRules : Prop :=
  ∀ (t : Nat) (b : Fin 1024) (s : State),
    let c := s.get F.BERTH_CTL_crane b
    let edge := (t + 63) / 64 * 64
    let after := (max s.now t / 64 + 1) * 64
    let sep := 64 * s.get F.CR_SEP_sep c
    let near (r : Nat) : Bool := ((List.range 16).filter (fun k => k != s.get F.BERTH_CTL_cset b)).any (fun k =>
      (Store.get (fun _ => []) (s.craneOf c).lastReady k).any (fun p => (decide (p.1 ≤ r) && decide (r < p.1 + sep)) || (decide (r < p.1) && decide (p.1 < r + sep))))
    let v : Word := BitVec.ofNat 18 b.val
    let dl := s.get F.BERTH_DL_dl b
    let Ready (i : Instr) (r : Nat) : Prop := Does i s (fun s' =>
      (s'.berthOf b).pend = some ⟨r, if dl = 0 then none else some (r + 64 * dl), false⟩ ∧ s'.is F.BERTH_STAT_ready b = true ∧
      (∀ x, (s.craneOf c).run = some x → x.berth = b.val → s'.is F.BERTH_STAT_late b = true) ∧ s'.armed = s.armed ∧
      s'.bram = s.bram ∧ s'.bstore = s.bstore ∧ s'.is F.CR_STAT_sepf c = (s.is F.CR_STAT_sepf c || near r) ∧
      ((s.berthOf b).pend = none → BerthFrame t b [.CR_STAT, .CR_SEPB] s s' ∧ OthersKept .CR_STAT c s s' ∧ OthersKept .CR_SEPB c s s' ∧ s'.reg .BERTH_OVR b = s.reg .BERTH_OVR b) ∧
      ((s.berthOf b).pend.isSome = true → s'.is F.BERTH_OVR_ovr b = true ∧
        s'.get F.BERTH_OVR_skips b = min (s.get F.BERTH_OVR_skips b + 1) 65535))
    (b.val ∈ s.armed → s.is F.ENG_CTL_en 0 = true → s.rung < 3 →
      (s.is F.BERTH_CTL_arm b = true → s.get F.BERTH_TRG_src b = 0 → arrives s (s.get F.BERTH_TRG_num b) ⟨1, b⟩ t = true →
        Ready (.berthTrigger t b) edge) ∧
      Ready (.softwareTrigger t v) after) ∧
    ((b.val ∉ s.armed ∨ 3 ≤ s.rung) → Does (.softwareTrigger t v) s (fun s' => s' = { s with now := max s.now t, out := [] }))

/-- R30, R82, R83, R86, R98, R107: a free crane starts the pending run of the ready berth of lowest priority number, then of lowest berth number, with a fresh
context and the program as it stands; the run that has executed its last instruction ends and frees its crane, with the done event; a run at its deadline is
skipped, with BERTH_OVR and the overrun event. A run that ends disarms a berth whose disarm waited for it, and makes the berths chained to it ready. The frame of a
run end takes a berth outside a competition group to which no berth is chained, and, like that of a skip, a crane whose runs no bank logs (R280). -/
def Sys2Proof.Machine.RunsRules : Prop :=
  (∀ (t : Nat) (c : Fin 8) (b : Nat) (p : PendRun) (s : State), s.is F.ENG_CTL_en 0 = true → s.rung < 3 → t % 64 = 0 → (s.craneOf c).run = none →
    (s.craneOf c).freeAt ≤ t → s.now ≤ t → b ∈ armedOn s c → (s.berthOf b).pend = some p → p.ready ≤ t → (∀ d, p.deadline = some d → t < d) →
    (∀ m ∈ armedOn s c, m ≠ b → ∀ q, (s.berthOf m).pend = some q → q.ready ≤ t →
      s.get F.BERTH_CTL_pri b < s.get F.BERTH_CTL_pri m ∨ (s.get F.BERTH_CTL_pri b = s.get F.BERTH_CTL_pri m ∧ b < m)) →
    Does (.runStart t c) s (fun s' => BerthFrame t b [.CR_STAT] s s' ∧ OthersKept .CR_STAT c s s' ∧ (s'.berthOf b).pend = none ∧ s'.is F.BERTH_STAT_running b = true ∧
      s'.is F.BERTH_STAT_ready b = false ∧ s'.is F.CR_STAT_busy c = true ∧ s'.armed = s.armed ∧
      ∃ r, (s'.craneOf c).run = some r ∧ r.berth = b ∧ r.start = t ∧ r.ready = p.ready ∧ r.pos = 0 ∧ r.x = [0, 0, 0, 0] ∧ r.acc = 0 ∧
        r.offered = false ∧ r.prog = (List.range (s.get F.BERTH_PROG_lenm1 b + 1)).map (fun i => s.bstoreOf (s.get F.BERTH_PROG_base b + i)) ∧
        r.region % 4 = s'.get F.BERTH_STAT_region b)) ∧
  (∀ (c : Fin 8) (r : Run) (s : State), (s.craneOf c).run = some r → r.prog.length ≤ r.pos → r.mem = false →
    (s.berthOf r.berth).endOff = false →
    (∀ m ∈ s.armed, s.get F.BERTH_TRG_src m ≠ 1 ∨ s.get F.BERTH_TRG_num m ≠ r.berth) →
    (∀ k < 64, s.get F.BANK_OWN_kind k ≠ 1 ∨ (s.get F.BANK_OWN_id k).testBit c = false) →
    let x := r.start + 64 * r.pos
    Does (.runEnd c) s (fun s' => BerthFrame x r.berth [.CR_STAT] s s' ∧ OthersKept .CR_STAT c s s' ∧ s'.craneOf c = { s.craneOf c with run := none, freeAt := x } ∧
      s'.is F.BERTH_STAT_running r.berth = false ∧ s'.is F.CR_STAT_busy c = false ∧ s'.berth = s.berth ∧ s'.armed = s.armed ∧
      Out.fabric (5 + r.berth / 128) (r.berth % 128) 0 x ∈ s'.out)) ∧
  (∀ (c : Fin 8) (r : Run) (s : State), (s.craneOf c).run = some r → r.prog.length ≤ r.pos →
    let x := r.start + 64 * r.pos
    Does (.runEnd c) s (fun s' => (s'.craneOf c).run = none ∧ (s'.craneOf c).freeAt = x ∧ s'.is F.BERTH_STAT_running r.berth = false ∧
      s'.is F.CR_STAT_busy c = false ∧ Out.fabric (5 + r.berth / 128) (r.berth % 128) 0 x ∈ s'.out ∧ s'.bstore = s.bstore ∧
      ((s.berthOf r.berth).endOff = true → r.berth ∉ s'.armed ∧ s'.is F.BERTH_CTL_arm r.berth = false) ∧
      (s.is F.ENG_CTL_en 0 = true → s.rung < 3 → ∀ m ∈ s.armed, m ≠ r.berth → s.get F.BERTH_TRG_src m = 1 →
        s.get F.BERTH_TRG_num m = r.berth → (s'.berthOf m).pend.map (·.ready) = some x))) ∧
  (∀ (t : Nat) (b : Fin 1024) (p : PendRun) (d : Nat) (s : State), (s.berthOf b).pend = some p → p.deadline = some d → d ≤ max s.now t →
    s.is F.BERTH_GRP_mem b = false →
    let c := s.get F.BERTH_CTL_crane b
    (∀ k < 64, s.get F.BANK_OWN_kind k ≠ 1 ∨ (s.get F.BANK_OWN_id k).testBit c = false) →
    Does (.runSkip t b) s (fun s' => BerthFrame t b [.CR_STAT] s s' ∧ OthersKept .CR_STAT c s s' ∧ s'.berthOf b = { s.berthOf b with pend := none } ∧
      s'.is F.BERTH_STAT_ready b = false ∧ s'.is F.BERTH_OVR_ovr b = true ∧
      s'.get F.BERTH_OVR_skips b = min (s.get F.BERTH_OVR_skips b + 1) 65535 ∧ s'.is F.CR_STAT_ovr c = true ∧ s'.crane = s.crane ∧
      Out.fabric (5 + b / 128) (b % 128) 1 d ∈ s'.out))

/-- R79, R84, R88: ENG_CTL.en: setting it changes nothing else; clearing it discards every pending run of an armed berth, and keeps the arm bits,
the executing runs and BERTH_OVR; a round that loses its closer's run so is dropped (the model's choice, log entry 106). CR_UTIL takes the busy cycles of the
latest completed window of 10,000 cycles (their grid is the model's choice, log entry 110). -/
def Sys2Proof.Machine.EngineControlRules : Prop :=
  (∀ (t : Nat) (v : Word) (s : State), v.getLsbD 17 = true → Does (.engineEnable t v) s (fun s' => s'.is F.ENG_CTL_en 0 = true ∧
    s' = { s with now := max s.now t, out := [], regs := s'.regs } ∧ RegsKept [.ENG_CTL] s s')) ∧
  (∀ (t : Nat) (v : Word) (s : State), v.getLsbD 17 = false → Does (.engineDisable t v) s (fun s' => s'.is F.ENG_CTL_en 0 = false ∧
    s' = { s with now := max s.now t, out := [], regs := s'.regs, berth := s'.berth, crane := s'.crane, rounds := s'.rounds } ∧
    RegsKept [.ENG_CTL, .BERTH_STAT] s s' ∧
    (∀ d, ∃ vo, s'.craneOf d = { s.craneOf d with run := (s.craneOf d).run.map (fun r => { r with voided := vo }) }) ∧
    (∀ b ∈ s.armed, (s.berthOf b).pend.isSome = true → s'.is F.BERTH_STAT_ready b = false) ∧
    ∀ b, (b ∈ s.armed → s'.berthOf b = { s.berthOf b with pend := none }) ∧ (b ∉ s.armed → s'.berthOf b = s.berthOf b) ∧
      s'.is F.BERTH_CTL_arm b = s.is F.BERTH_CTL_arm b)) ∧
  (∀ (t : Nat) (c : Fin 8) (s : State), let h := s.craneOf c
    let n := (max s.now t - h.winOff) / 640000
    let busy (w : Nat) : Nat := if w = h.win then h.busy else if w = h.win + 1 then h.busyNext else 0
    s.rung < 3 → h.pub < n → busy (n - 1) ≤ 10000 → Does (.utilisationWindow t c) s (fun s' => s'.get F.CR_UTIL_busy c = busy (n - 1) ∧
      s' = { s with now := max s.now t, out := [], regs := s'.regs, crane := s'.crane } ∧ RegsKept [.CR_UTIL] s s' ∧
      OthersKept .CR_UTIL c s s' ∧ s'.craneOf c = { h with pub := n, win := n, busy := busy n, busyNext := busy (n + 1) } ∧
      ∀ d, d ≠ c.val → s'.craneOf d = s.craneOf d))

/-- R89 to R93, R100, R101: an arming request of a disarmed berth joins the end of the queue with admpend, and takes the configuration with it; the admission unit refuses the oldest request for the first reason of R91 that applies, into ENG_ADMERR, or arms its berth, whose region is the count of boundaries in use at or below its scheduling variable; the write that clears arm disarms at once and discards the pending run without BERTH_OVR, or, where a run executes, leaves the berth armed until its end. That a write which disarms stores the configuration it carries is the model's choice (log entry 107). R79, R84, R88: ENG_CTL.en: setting it changes nothing else; clearing it discards every pending run of an armed berth, and keeps the arm bits, the executing runs and BERTH_OVR; a round that loses its closer's run so is dropped (the model's choice, log entry 106). CR_UTIL takes the busy cycles of the latest completed window of 10,000 cycles (their grid is the model's choice, log entry 110). -/
def Obligations.BerthArmingAndEngineControl : Prop := BerthArmingRules ∧ EngineControlRules

/-- R79 to R82, R85, R87: a trigger of an armed berth makes a pending run, ready at the first timer edge at or after the event's arrival, or after the software write, with the deadline of BERTH_DL, and late where its own run executes; a run still pending is skipped first, with BERTH_OVR; the crane flags a run that becomes ready less than CR_SEP from one of another coincidence set. A software trigger of a disarmed berth, or in Stop or below, is ignored. R30, R82, R83, R86, R98, R107: a free crane starts the pending run of the ready berth of lowest priority number, then of lowest berth number, with a fresh context and the program as it stands; the run that has executed its last instruction ends and frees its crane, with the done event; a run at its deadline is skipped, with BERTH_OVR and the overrun event. A run that ends disarms a berth whose disarm waited for it, and makes the berths chained to it ready. The frame of a run end takes a berth outside a competition group to which no berth is chained, and, like that of a skip, a crane whose runs no bank logs (R280). -/
def Obligations.BerthRuns : Prop := BerthTriggersRules ∧ RunsRules

/-! ### Counter units -/

/-- Nothing follows the events of unit `u`: no unit of its grove is its slave, and no comparator's blanking selects it. -/
def Sys2Proof.Machine.CuAlone (s : State) (u : Nat) : Prop :=
  (∀ i < 8, s.is F.CU_SYNC_xev (u / 8 * 8 + i) = true ∨ s.get F.CU_SYNC_master (u / 8 * 8 + i) ≠ u % 8 ∨
    (s.is F.CU_SYNC_gate (u / 8 * 8 + i) = false ∧ s.is F.CU_SYNC_rst (u / 8 * 8 + i) = false ∧
      s.is F.CU_SYNC_clk (u / 8 * 8 + i) = false)) ∧
    ∀ n < 128, s.get F.WC_BLKLEN_len n = 0 ∨ s.get F.WC_BLKSRC_cu n ≠ u

/-- Nothing that the unit has planned lies before instant `x`: no match, no placement, no edge. -/
def Sys2Proof.Machine.CuQuiet (h : CuS) (x : Int) : Prop :=
  (∀ m ∈ h.plan, x ≤ m.at_) ∧ (∀ c, h.ref0.place = some c → x ≤ c) ∧ (∀ c, h.ref1.place = some c → x ≤ c) ∧
    ∀ c, h.nextEdge = some c → x ≤ c

/-- The frame of a command on counter unit `u`: it may write that unit's control, status, flag, count, carry, pending and loaded registers, its capture status and
stamps, its hidden state, its event sources, the events on their way to it, an interrupt source's vector, and outputs; nothing else. -/
def Sys2Proof.Machine.CuFrame (t u : Nat) (s s' : State) : Prop :=
  s' = { s with now := max s.now t, out := s'.out, regs := s'.regs, hw := s'.hw, cu := s'.cu, srcAt := s'.srcAt, ev := s'.ev, vsrc := s'.vsrc } ∧
    (∀ m, m ≠ u → s'.cuOf m = s.cuOf m) ∧ SourcesKept 1 u s s' ∧
    (let l : List RegName := [.CU_CTL, .CU_STAT, .CU_FLAG, .CU_CNT, .CU_CARRY, .CU_PEND, .CU_PER, .CU_PERS, .CU_DTR, .CU_DTF, .CU_MINP, .CU_CAPSTAT]
     RegsKept ([.CU_CMP, .CU_CAPTSH, .CU_CAPTSL, .VU_PEND, .VU_LOST] ++ l) s s' ∧ (∀ r ∈ l, OthersKept r u s s') ∧
     (∀ m, m / 4 ≠ u → RegKept .CU_CMP m s s') ∧
     ∀ m, m / 2 ≠ u → RegKept .CU_CAPTSH m s s' ∧ RegKept .CU_CAPTSL m s s')

/-- R127, R128, R132, R142, R143: a start from a count in the sequence counts from the next timer edge, a start out of range is refused with cfgerr; a stop freezes the count in
CU_CNT with both outputs inactive (where the stop edge is the period boundary, that boundary occurs still: the model's choice, log entry 112; that the registers show the change
with the write, before that edge, is the model's reading, log entry 7); a write that changes oen alone takes the pins off high impedance or to it; the channel event starts a waiting unit at the
first timer edge at or after it, and resets a counting one to CU_PHASE, or sets phserr. -/
def Obligations.CounterRun : Prop :=
  ∀ (t : Nat) (u : Fin 128) (v : Word) (s : State),
    let h := s.cuOf u
    let after : Int := ((max s.now t / 64 + 1) * 64 : Nat)
    let edge : Int := ((t + 63) / 64 * 64 : Nat)
    let comes := arrives s (s.get F.CU_SYNCEV_ch u) ⟨3, u⟩ t = true
    let mode := s.get F.CU_CTL_mode u
    let per := s.get F.CU_PER_p u
    let n := s.get F.CU_CNT_count u
    let inRange (md x : Nat) : Prop := md = 3 ∨ x < (if md = 1 then 2 * per else per)
    let same (f : Fld) : Prop := f.of v.toNat = s.get f u
    let len : Int := if h.gov.mode = 1 then 128 * h.gov.p else 64 * h.gov.p
    CuAlone s u → s.is F.CU_SYNC_clk u = false → HwIdle t .CU_CTL u s → h.held = [] → s.rung < 3 →
    (s.is F.CU_CTL_run u = false → F.CU_CTL_run.of v.toNat = 1 → F.CU_CTL_spp.of v.toNat ≠ 3 →
      ¬ (F.CU_CTL_spp.of v.toNat = 2 ∧ F.CU_CTL_bmode.of v.toNat = 1) →
      (¬ inRange (F.CU_CTL_mode.of v.toNat) n → Does (.cuStart t u v) s (fun s' => CuFrame t u s s' ∧ s'.is F.CU_CTL_run u = false ∧
        s'.reg .CU_CTL u = s.reg .CU_CTL u ∧ s'.is F.CU_STAT_cfgerr u = true ∧ s'.cu = s.cu)) ∧
      (inRange (F.CU_CTL_mode.of v.toNat) n → h.on = false → s.is F.CU_SYNC_gate u = false →
        Does (.cuStart t u v) s (fun s' => CuFrame t u s s' ∧ s'.reg .CU_CTL u = fput 0 9 9 (v.toNat / 512) ∧
          s'.is F.CU_STAT_running u = true ∧ (s'.cuOf u).counting = true ∧ cuCount s' u after = n ∧ s'.get F.CU_CARRY_c u = 0 ∧
          (n = 0 → F.CU_CTL_mode.of v.toNat ≠ 3 → Out.fabric 1 u 0 after ∈ s'.out ∧ s'.is F.CU_FLAG_prd u = true)))) ∧
    (s.is F.CU_CTL_run u = true → F.CU_CTL_run.of v.toNat = 0 → same F.CU_CTL_mode → same F.CU_CTL_spp → same F.CU_CTL_bmode →
      same F.CU_CTL_pola → same F.CU_CTL_polb → same F.CU_CTL_oen → mode ≠ 3 → F.CU_CTL_spp.of v.toNat ≠ 3 →
      ¬ (F.CU_CTL_spp.of v.toNat = 2 ∧ F.CU_CTL_bmode.of v.toNat = 1) → h.counting = true → h.gov.clk = false → h.gov.mode ≠ 3 → h.pstart ≤ after → after ≤ h.pstart + len → 0 < h.gov.p →
      Does (.cuStop t u v) s (fun s' => CuFrame t u s s' ∧ s'.is F.CU_CTL_run u = false ∧ s'.is F.CU_STAT_running u = false ∧
        s'.get F.CU_CNT_count u = ((((after - h.pstart) % len) / 64) % 2 ^ 36).toNat ∧ (s'.cuOf u).counting = false ∧
        (s'.cuOf u).ioA = false ∧ (s'.cuOf u).ioB = false ∧ (s'.cuOf u).plan = [] ∧
        (after < h.pstart + len → (s'.cuOf u).shadow = h.shadow) ∧
        (after = h.pstart + len → s'.is F.CU_FLAG_prd u = true ∧ Out.fabric 1 u 0 after ∈ s'.out))) ∧
    (same F.CU_CTL_run → same F.CU_CTL_mode → same F.CU_CTL_spp → same F.CU_CTL_bmode → same F.CU_CTL_pola → same F.CU_CTL_polb →
      ¬ same F.CU_CTL_oen → F.CU_CTL_spp.of v.toNat ≠ 3 → ¬ (F.CU_CTL_spp.of v.toNat = 2 ∧ F.CU_CTL_bmode.of v.toNat = 1) →
      s.is F.PWR_PFSTAT_act 0 = false →
      Does (.outputEnable t u v) s (fun s' => CuFrame t u s s' ∧ s'.get F.CU_CTL_oen u = F.CU_CTL_oen.of v.toNat ∧ s'.cu = s.cu ∧
        RegsKept [.CU_CTL] s s' ∧ (s.dbg.scan = .normal → ∀ w < 2, outPin s' u w = unitPin s' u w) ∧
        (F.CU_CTL_oen.of v.toNat = 0 → ∀ w < 2, unitPin s' u w = .z) ∧
        (F.CU_CTL_oen.of v.toNat = 1 → s.is F.CU_STAT_pfr u = false → s.is F.CU_STAT_tripped u = false → h.counting = true → mode ≠ 3 →
          unitPin s' u 0 = pinLevel h.ioA (s.is F.CU_CTL_pola u) ∧ unitPin s' u 1 = pinLevel h.ioB (s.is F.CU_CTL_polb u)))) ∧
    (comes → s.is F.CU_SYNC_xev u = true → s.is F.CU_SYNC_gate u = true → s.is F.CU_SYNC_rst u = false → inRange mode n → h.on = true → h.fresh = true → h.counting = false →
      Does (.syncEvent t u) s (fun s' => CuFrame t u s s' ∧ (s'.cuOf u).counting = true ∧ s'.is F.CU_STAT_running u = true ∧
        cuCount s' u edge = n)) ∧
    (comes → s.is F.CU_SYNC_xev u = true → s.is F.CU_SYNC_gate u = false → s.is F.CU_SYNC_rst u = true → h.on = true → h.counting = true →
      h.gov.clk = false → mode ≠ 3 →
      let p := s.get F.CU_PHASE_v u
      let lim := if mode = 1 then 2 * h.gov.p else h.gov.p
      (lim ≤ p → Does (.syncEvent t u) s (fun s' => CuFrame t u s s' ∧ s'.is F.CU_STAT_phserr u = true ∧ s'.cu = s.cu)) ∧
      (p < lim → cuCount s u edge = p → Does (.syncEvent t u) s (fun s' => CuFrame t u s s' ∧ s'.cu = s.cu ∧ s'.out = [])) ∧
      (p < lim → cuCount s u edge ≠ p → Does (.syncEvent t u) s (fun s' => CuFrame t u s s' ∧ (s'.cuOf u).pstart = edge - 64 * p ∧
        (p = 0 → Out.fabric 1 u 0 edge ∈ s'.out ∧ s'.is F.CU_FLAG_prd u = true))))

/-- R125, R126, R134: at a period boundary every shadow held at least 2 ns before it becomes active, of one register the latest of them, and the others wait; the end of a ONESHOT clears run and leaves
0 in CU_CNT; both raise the period event and set its flag; a TIMER wrap sets ovf; a match raises its event and sets its flag. -/
def Sys2Proof.Machine.CounterPeriodsRules : Prop :=
  ∀ (t : Nat) (u : Fin 128) (s : State),
    let h := s.cuOf u
    let len : Int := if h.gov.mode = 1 then 128 * h.gov.p else 64 * h.gov.p
    let b := h.pstart + len
    CuAlone s u → s.is F.CU_SYNC_clk u = false → h.gov.clk = false → h.counting = true → h.held = [] →
    ((h.gov.mode = 0 ∨ h.gov.mode = 1) → b ≤ max s.now t → (∀ x ∈ h.shadow, x.reg < 8) →
      Does (.periodBoundary t u) s (fun s' => CuFrame t u s s' ∧ (s'.cuOf u).pstart = b ∧ (s'.cuOf u).counting = true ∧
        (s'.cuOf u).shadow = h.shadow.filter (fun x => decide (b < x.held + 128)) ∧
        (∀ r < 8, let l := h.shadow.filter (fun x => x.reg == r && decide (x.held + 128 ≤ b))
          (∀ x, l.getLast? = some x → cuActive s' u r = x.v % 2 ^ (cuFld r).w) ∧ (l = [] → cuActive s' u r = cuActive s u r)) ∧
        s'.is F.CU_FLAG_prd u = true ∧ Out.fabric 1 u 0 b ∈ s'.out)) ∧
    (h.gov.mode = 2 → b ≤ max s.now t → Does (.oneshotEnd t u) s (fun s' => CuFrame t u s s' ∧ s'.is F.CU_CTL_run u = false ∧
      s'.is F.CU_STAT_running u = false ∧ s'.get F.CU_CNT_count u = 0 ∧ (s'.cuOf u).counting = false ∧ (s'.cuOf u).ioA = false ∧
      (s'.cuOf u).ioB = false ∧ s'.is F.CU_FLAG_prd u = true ∧ Out.fabric 1 u 0 b ∈ s'.out)) ∧
    (h.gov.mode = 3 → h.wrapDue ≤ max s.now t → Does (.timerWrap t u) s (fun s' => CuFrame t u s s' ∧ s'.is F.CU_FLAG_ovf u = true ∧
      s'.cuOf u = { h with wrapDue := h.wrapDue + 2 ^ 42 })) ∧
    (∀ (c : Fin 4) (up : Bool) (m : Match), h.plan = [m] → m.cmp = c.val → m.up = up → m.at_ ≤ max s.now t →
      Does (.compareMatch t u c up) s (fun s' => CuFrame t u s s' ∧ (s.get F.CU_FLAG_m u ||| 2 ^ (3 - c.val)) = s'.get F.CU_FLAG_m u ∧
        Out.fabric 1 u (c.val + 1) m.at_ ∈ s'.out ∧
        (s'.cuOf u).plan = (if h.gov.mode = 3 then [{ m with at_ := m.at_ + 2 ^ 36 }] else [])))

/-- R129, R130, R135, R138, R140: the set edge of R is placed with the short-pulse checks, under DROP and STRETCH; R sets and clears at its planned edges, the output that falls does
so at once and the one that rises waits its dead time; an edge that would end a pulse too early is delayed, with late. R is the reference of a unit in COMPL, in UP, whose
pulse lies ahead. -/
def Sys2Proof.Machine.CounterEdgesRules : Prop :=
  ∀ (t : Nat) (u : Fin 128) (s : State),
    let h := s.cuOf u
    let g := h.gov
    let x := h.inst 0
    let y := h.inst 1
    let dtr : Int := g.dtr
    let dtf : Int := g.dtf
    let minp : Int := g.minp
    let next := h.pstart + 64 * g.p + g.e 0
    h.held = [] →
    (∀ c, h.ref0.place = some c → c ≤ max s.now t → c ≤ x → x < y → g.indep = false → g.mode = 0 → h.ref0.edges = [] →
      let set : REdge := ⟨x, true, false⟩
      let clr (z : Int) : REdge := ⟨z, false, false⟩
      let Places (act : Bool) (l : List REdge) : Prop := Does (.edgePlacement t u 0) s (fun s' => CuFrame t u s s' ∧
        s'.cuOf u = { h with ref0 := { h.ref0 with place := none, edges := l, acted := act && !s.is F.CU_STAT_short u } } ∧
        s'.is F.CU_STAT_short u = (act || s.is F.CU_STAT_short u) ∧ s'.out = [])
      (g.spp = 0 → y - x - dtr < minp → Places true []) ∧
      (g.spp = 1 → y - x - dtr < minp → Places true [set, clr (x + dtr + minp)]) ∧
      (g.spp = 0 → minp ≤ y - x - dtr → next - y - dtf < minp → Places true [set]) ∧
      (g.spp = 1 → minp ≤ y - x - dtr → next - y - dtf < minp → Places true [set, clr (max (next - dtf - minp) (x + dtr + minp))]) ∧
      (g.spp < 2 → minp ≤ y - x - dtr → minp ≤ next - y - dtf → Places false [set, clr y])) ∧
    (g.indep = false → CuAlone s u → h.ref1.edges = [] →
      (∀ e f, h.ref0.edges = [⟨e, true, f⟩] → e ≤ max s.now t → h.riseA = none → h.riseB = none → h.ref0.r = false →
        ∀ c, h.ref0.clrAt = some c → e < c + dtf + minp → Does (.outputEdge t u) s (fun s' => CuFrame t u s s' ∧
          s'.cuOf u = { h with ref0 := { h.ref0 with edges := [⟨c + dtf + minp, true, true⟩] } } ∧ s'.is F.CU_STAT_late u = true ∧ s'.out = [])) ∧
      (∀ e f, h.ref0.edges = [⟨e, true, f⟩] → e ≤ max s.now t → h.riseA = none → h.riseB = none → h.ref0.r = false → 0 < g.dtr →
        (∀ c, h.ref0.clrAt = some c → c + dtf + minp ≤ e) → Does (.outputEdge t u) s (fun s' => CuFrame t u s s' ∧
          (s'.cuOf u).ref0 = { h.ref0 with r := true, edges := [], setAt := some e } ∧ (s'.cuOf u).ioB = false ∧
          (s'.cuOf u).ioA = h.ioA ∧ (s'.cuOf u).riseA = some (e + dtr) ∧
          (h.ioB = true → Out.fabric 1 u 6 e ∈ s'.out) ∧ RegsKept [] s s')) ∧
      (∀ e f, h.ref0.edges = [⟨e, false, f⟩] → e ≤ max s.now t → h.riseA = none → h.riseB = none → h.ref0.r = true → 0 < g.dtf →
        (∀ c, h.ref0.setAt = some c → c + dtr + minp ≤ e) → Does (.outputEdge t u) s (fun s' => CuFrame t u s s' ∧
          (s'.cuOf u).ref0 = { h.ref0 with r := false, edges := [], clrAt := some e, done := if f then h.ref0.done else some e } ∧ (s'.cuOf u).ioA = false ∧
          (s'.cuOf u).ioB = h.ioB ∧ (s'.cuOf u).riseB = some (e + dtf) ∧
          (h.ioA = true → Out.fabric 1 u 5 e ∈ s'.out) ∧ RegsKept [] s s')) ∧
      (∀ e, h.riseB = some e → e ≤ max s.now t → h.ref0.edges = [] → h.riseA = none → h.ref0.r = false →
        Does (.outputEdge t u) s (fun s' => CuFrame t u s s' ∧ (s'.cuOf u).ioB = true ∧ (s'.cuOf u).riseB = none ∧
          (s'.cuOf u).ioA = h.ioA ∧ (h.ioB = false → Out.fabric 1 u 6 e ∈ s'.out) ∧ RegsKept [] s s')) ∧
      (∀ e, h.riseA = some e → e ≤ max s.now t → h.ref0.edges = [] → h.riseB = none → h.ref0.r = true →
        Does (.outputEdge t u) s (fun s' => CuFrame t u s s' ∧ (s'.cuOf u).ioA = true ∧ (s'.cuOf u).riseA = none ∧
          (s'.cuOf u).ioB = h.ioB ∧ (h.ioA = false → Out.fabric 1 u 5 e ∈ s'.out) ∧ RegsKept [] s s')))

/-- R15, R20, R122, R125, R133, R134, R136, R141: a store to a loaded register is held from the first timer edge at or after it. From there a store under PERIOD is in the shadow, and
one that breaks P or the dead-time limit is ignored, with cfgerr where it would change the register; under IMMEDIATE the new value governs the edge where the old edge and the
new one are not yet placed, the edge comes 2 ns after the write with late where only the new one is, and the value waits in the shadow where the old one is. Of two DUTY stores
held at one edge that of the lower priority number, then of the lower berth, stands, and a core's store gives way to a tide's or a DUTY's of its edge, also to one that has acted (R14). -/
def Sys2Proof.Machine.CounterWritesRules : Prop :=
  ∀ (t : Nat) (u : Fin 128) (s : State), s.get F.CU_CTL_mode u ≠ 3 →
    let h := s.cuOf u
    let g := h.gov
    let now := max s.now t
    let edge : Int := ((now + 63) / 64 * 64 : Nat)
    let bnd : Int := h.pstart + (if g.mode = 1 then 128 * g.p else 64 * g.p : Nat)
    let before (x : Int) : Prop := h.counting = true → g.clk = false → g.mode < 3 → x < bnd
    let bad (r x : Nat) : Prop := (r = 0 ∧ x < 16) ∨ (s.is F.CU_CTL_bmode u = false ∧ (r = 0 ∨ 5 ≤ r) ∧
      let sh (q : Nat) : Nat := if q = r then x else cuShadow s u q
      64 * sh 0 < sh 5 + sh 6 + 2 * sh 7)
    (h.held = [] → (now % 64 ≠ 0 ∨ ¬ before edge) →
      (∀ (r : Fin 8) (v : DWord), cuRule s u r = 0 → Does (.periodLoadWrite t u r v) s (fun s' => CuFrame t u s s' ∧ RegsKept [] s s' ∧
        s'.cuOf u = { h with held := [⟨r.val, v.toNat % 2 ^ (cuFld r).w, edge, .core⟩] })) ∧
      (∀ (j : Fin 4) (v : DWord), cuRule s u (j.val + 1) = 1 → Does (.immediateWrite t u j v) s (fun s' => CuFrame t u s s' ∧ RegsKept [] s s' ∧
        s'.cuOf u = { h with held := [⟨j.val + 1, v.toNat, edge, .core⟩] }))) ∧
    (h.held = [] → now % 64 = 0 → before edge → CuQuiet h edge → CuAlone s u → (∀ q ∈ h.acted, q.held ≠ edge) →
      (∀ (r : Fin 8) (v : DWord), cuRule s u r = 0 →
        let x := v.toNat % 2 ^ (cuFld r).w
        (bad r x → Does (.periodLoadWrite t u r v) s (fun s' => CuFrame t u s s' ∧ s'.cuOf u = h ∧ RegsKept [.CU_STAT] s s' ∧
          s'.is F.CU_STAT_cfgerr u = (s.is F.CU_STAT_cfgerr u || decide (x ≠ cuActive s u r)))) ∧
        (¬ bad r x → Does (.periodLoadWrite t u r v) s (fun s' => CuFrame t u s s' ∧ cuShadow s' u r = x ∧ cuActive s' u r = cuActive s u r ∧
          (∀ q < 8, q ≠ r.val → cuShadow s' u q = cuShadow s u q) ∧ RegsKept [.CU_PEND, .CU_PERS] s s' ∧
          (r = 0 → s'.is F.CU_PEND_per u = true ∧ s'.get F.CU_PERS_p u = x)))) ∧
      (∀ (j : Fin 4) (v : DWord), cuRule s u (j.val + 1) = 1 →
        let old : Int := h.oldInst j
        let new := h.govAt j v.toNat
        let inTime (x : Int) : Prop := edge ≤ x / 64 * 64 - 128
        (h.counting = false → Does (.immediateWrite t u j v) s (fun s' => CuFrame t u s s' ∧ cuActive s' u (j.val + 1) = v.toNat ∧
          s'.cuOf u = h ∧ RegsKept [.CU_CMP] s s')) ∧
        (h.counting = true → g.clk = false → inTime old → Does (.immediateWrite t u j v) s (fun s' => CuFrame t u s s' ∧
          cuActive s' u (j.val + 1) = v.toNat ∧ (inTime new → (s'.cuOf u).inst j = new) ∧
          (¬ inTime new → (s'.cuOf u).inst j = edge + 128 ∧ s'.is F.CU_STAT_late u = true))) ∧
        (h.counting = true → g.clk = false → ¬ inTime old → Does (.immediateWrite t u j v) s (fun s' => CuFrame t u s s' ∧
          cuShadow s' u (j.val + 1) = v.toNat ∧ cuActive s' u (j.val + 1) = cuActive s u (j.val + 1) ∧
          (s'.cuOf u).inst j = h.inst j)))) ∧
    (CuQuiet h (now + 1) → CuAlone s u →
      (∀ w, h.held = [w] → (∀ q ∈ h.acted, q.held ≠ w.held) → w.held ≤ now → before w.held → w.reg < 8 → cuRule s u w.reg = 0 → ¬ bad w.reg w.v →
        Does (.outputEdge t u) s (fun s' => CuFrame t u s s' ∧ (s'.cuOf u).held = [] ∧ cuShadow s' u w.reg = w.v ∧
          cuActive s' u w.reg = cuActive s u w.reg ∧ RegsKept [.CU_PEND, .CU_PERS] s s')) ∧
      (∀ (r v x : Nat) (e : Int) (p b q c : Nat), h.held = [⟨r, v, e, .duty p b⟩, ⟨r, x, e, .duty q c⟩] → (q < p ∨ (q = p ∧ c < b)) →
        (∀ a ∈ h.acted, a.held ≠ e) → e ≤ now → before e → r < 8 → cuRule s u r = 0 → ¬ bad r x →
        Does (.outputEdge t u) s (fun s' => CuFrame t u s s' ∧ (s'.cuOf u).held = [] ∧ cuShadow s' u r = x ∧
          RegsKept [.CU_PEND, .CU_PERS] s s')) ∧
      (∀ w, h.held = [w] → ∀ a, h.acted = [a] → a.reg = w.reg → a.held = w.held → w.held ≤ now → before w.held →
        a.by_ ≠ .core → w.by_ = .core →
        Does (.outputEdge t u) s (fun s' => CuFrame t u s s' ∧ s'.cuOf u = { h with held := [] } ∧ RegsKept [] s s')))

/-- R128, R144 to R146: CU_CNT reads as all ones, with readrun, while run is 1; an event of an enabled capture input, or swcap, takes the period time, or that of the count of a unit
that does not count (before the edge of a start, a stop or a reset, as the unit counted before it), and the stamp into a queue of 4, and overflows a full one; a double-word read takes the oldest entry and its stamp out, and an empty queue reads as all ones. A read
in the timer cycle of an overflow comes first, so that the entry is recorded (that the overflow shows before the cycle ends is the model's choice, log entry 114). -/
def Sys2Proof.Machine.CaptureRules : Prop :=
  ∀ (t : Nat) (u : Fin 128) (k : Fin 2) (s : State), CuAlone s u →
    let h := s.cuOf u
    let q := h.caps k
    let i := 2 * u.val + k.val
    let tauOf (r : CuRun) (n : Nat) (x : Int) : Int :=
      let len : Int := if r.gov.mode = 3 then 2 ^ 36 else if r.gov.mode = 1 then 128 * r.gov.p else 64 * r.gov.p
      if r.counting = false then 64 * n else if r.gov.clk = true then 64 * r.cnt else (x - r.pstart) % len
    let tau (x : Int) : Int := match h.was with
      | some w => if x < w.edge then tauOf w.run w.n x else tauOf h.toCuRun (s.get F.CU_CNT_count u) x
      | none => tauOf h.toCuRun (s.get F.CU_CNT_count u) x
    let Takes (c : Instr) (x : Nat) (ts : Bool) : Prop :=
      (q.length < 4 → Does c s (fun s' =>
        (s'.cuOf u).caps k = q ++ [⟨(tau x).toNat % 2 ^ 36, if ts then some (tbSplit (s.tbAt x)) else none⟩] ∧
        s'.is (if k = 0 then F.CU_FLAG_cap0 else F.CU_FLAG_cap1) u = true ∧
        s'.get (if k = 0 then F.CU_CAPSTAT_n0 else F.CU_CAPSTAT_n1) u = q.length + 1)) ∧
      (4 ≤ q.length → Does c s (fun s' => (s'.cuOf u).caps k = q ∧
        s'.is (if k = 0 then F.CU_FLAG_capovf0 else F.CU_FLAG_capovf1) u = true ∧
        Out.fabric 1 u 8 ((x / 64 + 1) * 64 : Nat) ∈ s'.out))
    (s.rung < 3 → s.is F.CU_CAPSRC_en i = true → arrives s (s.get F.CU_CAPSRC_ch i) ⟨4, i⟩ t = true →
      Takes (.capture t u k) t (s.is F.CU_CAPSRC_ts i) ∧ Does (.capture t u k) s (fun s' => CuFrame t u s s')) ∧
    (3 ≤ s.rung → Does (.capture t u k) s (fun s' => s' = { s with now := max s.now t, out := [] })) ∧
    (∀ v : Word, s.rung < 3 → F.CU_CAPSRC_swcap.of v.toNat = 1 → (F.CU_CAPSRC_en.of v.toNat = 1 ∨ s.is F.CU_CAPSRC_en i = false) →
      Takes (.softwareCapture t u k v) ((max s.now t + 63) / 64 * 64) (F.CU_CAPSRC_ts.of v.toNat == 1)) ∧
    (∀ e l, q = e :: l →
      ((∀ o ∈ h.lost, max s.now t < o.edge → o.queue ≠ k.val) → Does (.captureRead t u k) s (fun s' => CuFrame t u s s' ∧ s'.out = [.data e.tau] ∧
        (s'.cuOf u).caps k = l ∧ s'.get F.CU_CAPTSH_v i = (e.stamp.getD (0, 0)).1 % 2 ^ 36 ∧
        s'.get F.CU_CAPTSL_v i = (e.stamp.getD (0, 0)).2 % 2 ^ 36 ∧ RegsKept [.CU_CAPSTAT, .CU_CAPTSH, .CU_CAPTSL] s s')) ∧
      (∀ o, h.lost = [o] → max s.now t < o.edge → o.queue = k.val → Does (.captureRead t u k) s (fun s' => Out.data e.tau ∈ s'.out ∧
        (s'.cuOf u).caps k = l ++ [o.entry] ∧
        (o.flag = true → s'.is (if k = 0 then F.CU_FLAG_capovf0 else F.CU_FLAG_capovf1) u = false)))) ∧
    (q = [] → Does (.captureRead t u k) s (fun s' => s' = { s with now := max s.now t, out := [.data (2 ^ 36 - 1)] })) ∧
    (s.is F.CU_CTL_run u = true → Does (.cuCntRead t u) s (fun s' => CuFrame t u s s' ∧ s'.out = [.data (2 ^ 36 - 1)] ∧
      s'.is F.CU_STAT_readrun u = true ∧ RegsKept [.CU_STAT] s s' ∧ s'.cu = s.cu)) ∧
    (s.is F.CU_CTL_run u = false → Does (.cuCntRead t u) s (fun s' =>
      s' = { s with now := max s.now t, out := [.data (s.get F.CU_CNT_count u)] }))

/-- R125, R126, R134: at a period boundary every shadow held at least 2 ns before it becomes active, of one register the latest of them, and the others wait; the end of a ONESHOT clears run and leaves 0 in CU_CNT; both raise the period event and set its flag; a TIMER wrap sets ovf; a match raises its event and sets its flag. R129, R130, R135, R138, R140: the set edge of R is placed with the short-pulse checks, under DROP and STRETCH; R sets and clears at its planned edges, the output that falls does so at once and the one that rises waits its dead time; an edge that would end a pulse too early is delayed, with late. R is the reference of a unit in COMPL, in UP, whose pulse lies ahead. -/
def Obligations.CounterPeriodsAndEdges : Prop := CounterPeriodsRules ∧ CounterEdgesRules

/-- R15, R20, R122, R125, R133, R134, R136, R141: a store to a loaded register is held from the first timer edge at or after it. From there a store under PERIOD is in the shadow, and one that breaks P or the dead-time limit is ignored, with cfgerr where it would change the register; under IMMEDIATE the new value governs the edge where the old edge and the new one are not yet placed, the edge comes 2 ns after the write with late where only the new one is, and the value waits in the shadow where the old one is. Of two DUTY stores held at one edge that of the lower priority number, then of the lower berth, stands, and a core's store gives way to a tide's or a DUTY's of its edge, also to one that has acted (R14). R128, R144 to R146: CU_CNT reads as all ones, with readrun, while run is 1; an event of an enabled capture input, or swcap, takes the period time, or that of the count of a unit that does not count (before the edge of a start, a stop or a reset, as the unit counted before it), and the stamp into a queue of 4, and overflows a full one; a double-word read takes the oldest entry and its stamp out, and an empty queue reads as all ones. A read in the timer cycle of an overflow comes first, so that the entry is recorded (that the overflow shows before the cycle ends is the model's choice, log entry 114). -/
def Obligations.CounterWritesAndCapture : Prop := CounterWritesRules ∧ CaptureRules

/-! ### Trip zones -/

/-- The frame of a command on trip zone `z`: it may write that zone's TZ_STAT and TZ_LINK, CU_STAT and the hidden state of the counter units, the zone's own
instants, its event sources, an interrupt source's vector, and outputs; nothing else. -/
def Sys2Proof.Machine.TripFrame (t z : Nat) (s s' : State) : Prop :=
  s' = { s with now := max s.now t, out := s'.out, regs := s'.regs, hw := s'.hw, tz := s'.tz, cu := s'.cu, srcAt := s'.srcAt, vsrc := s'.vsrc } ∧ SourcesKept 2 z s s' ∧
    RegsKept [.TZ_STAT, .TZ_LINK, .CU_STAT, .VU_PEND, .VU_LOST] s s' ∧ OthersKept .TZ_STAT z s s' ∧ OthersKept .TZ_LINK z s s' ∧
    ∀ m, m ≠ z → s'.tzOf m = s.tzOf m

/-- R132, R149: a unit that is tripped with oen = 1 and no power-fail response shows its response codes at its pins. -/
def Sys2Proof.Machine.TripShown (s : State) (u : Nat) : Prop :=
  s.is F.CU_STAT_tripped u = true ∧ (s.is F.CU_CTL_oen u = true → s.is F.CU_STAT_pfr u = false →
    (∀ w < 2, let code := s.get (if w = 0 then F.CU_RESP_trA else F.CU_RESP_trB) u
      ((code = 0 → unitPin s u w = .low) ∧ (code = 1 → unitPin s u w = .high) ∧ (code = 2 → unitPin s u w = .z)) ∧
      (s.rung < 5 → s.dbg.scan = .normal → outPin s u w = unitPin s u w)))

/-- R68, R147 to R149, R152, R153, R157: an asserted source, or a force write, latches its zone, which records it in first, raises the event and trips every unit that
lists the zone; unlatching a zone whose sources are gone lets those units resume, at once where they do not count or have no boundary to wait for and at a boundary 2 ns
later at the earliest elsewhere, and one whose source is still asserted latches again; a latch of the same timer cycle stays (R13); a TRIP pin's change is an event source. In Dormant and Vigil
no source latches (R411). The instants inside the bounds of R148 and R152 are the commands' (log entries 35, 36). -/
def Obligations.TripZones : Prop :=
  ∀ (t : Nat) (z : Fin 16) (s : State), let now := max s.now t
    let settled := ∀ u < 128, s.is F.CU_STAT_tripped u = true → cuTripReason s u = true ∨ (s.cuOf u).resume ≠ none
    settled →
    let Latches (i : Instr) (code : Nat) : Prop := Does i s (fun s' => TripFrame t z s s' ∧ s'.is F.TZ_STAT_lat z = true ∧
      s'.get F.TZ_STAT_first z = code ∧ (s'.tzOf z).latAt = now ∧ Out.fabric 2 z 0 now ∈ s'.out ∧
      (Out.irq (128 + z) ∈ s'.out ↔ s.is F.TZ_IEN_lat z = true) ∧
      (∀ u < 128, (s.get F.CU_TZM_zone u).testBit z = true → TripShown s' u) ∧
      ∀ u < 128, (s.get F.CU_TZM_zone u).testBit z = false → (cuTripReason s u = true → s.is F.CU_STAT_tripped u = true) → s'.is F.CU_STAT_tripped u = s.is F.CU_STAT_tripped u)
    (∀ code : BitVec 8, s.rung < 5 → let n := code.toNat
      ((n < 128 ∧ (wcReq s n).testBit z = true) ∨
        (128 ≤ n ∧ n < 144 ∧ (s.get F.TZ_PIN_pin z).testBit (n - 128) = true ∧ (s.tripPinOf (n - 128)).lvl = (s.get F.TRIP_POL_pol 0).testBit (n - 128)) ∨
        (144 ≤ n ∧ n < 160 ∧ (s.get F.TZ_CORE_core z).testBit (n - 144) = true ∧ s.get F.CORE_STAT_state (n - 144) = 4) ∨
        (160 ≤ n ∧ n < 164 ∧ (s.get F.TZ_LINK_port z).testBit (n - 160) = true ∧
          (s.get F.LK_PSTAT_state (n - 160) = 4 ∨ (s.is F.LK_PSTAT_absent (n - 160) = true ∧ s.get F.LK_PSTAT_state (n - 160) ≠ 3)))) →
      (s.is F.TZ_STAT_lat z = false → Latches (.tripLatch t z code) n) ∧
      (s.is F.TZ_STAT_lat z = true → (s.tzOf z).latAt = now → n < s.get F.TZ_STAT_first z →
        Does (.tripLatch t z code) s (fun s' => TripFrame t z s s' ∧ s'.is F.TZ_STAT_lat z = true ∧ s'.get F.TZ_STAT_first z = n ∧
          s'.cu = s.cu))) ∧
    (∀ code : BitVec 8, 5 ≤ s.rung → Does (.tripLatch t z code) s (fun s' => s' = { s with now := now, out := [] })) ∧
    (∀ v : Word, v.getLsbD 17 = true → s.is F.TZ_STAT_lat z = false → Latches (.tripForce t z v) 0o244) ∧
    (s.is F.TZ_STAT_lat z = true → (s.hwOf (regKey .TZ_STAT z)).cyc = now / 64 → (s.hwOf (regKey .TZ_STAT z)).bits.getLsbD F.TZ_STAT_lat.lo = true →
      Does (.tripUnlatch t z) s (fun s' => s' = { s with now := now, out := [] })) ∧
    (s.is F.TZ_STAT_lat z = true → HwIdle t .TZ_STAT z s → (∀ u < 128, cuTripReason s u = true → s.is F.CU_STAT_tripped u = true) →
      (∀ u < 128, (s.get F.CU_TZM_zone u).testBit z = true → (s.cuOf u).counting = true ∧ (s.cuOf u).gov.mode < 2 ∧ (s.cuOf u).resume = none) →
      ((∀ code < 164, tzAsserted s z code = false) → Does (.tripUnlatch t z) s (fun s' => TripFrame t z s s' ∧ s'.is F.TZ_STAT_lat z = false ∧
        ∀ u < 128, (s.get F.CU_TZM_zone u).testBit z = true →
          (cuTripReason s' u = false → s'.is F.CU_STAT_tripped u = true ∧ (s'.cuOf u).resume = some (now + 128 : Nat)) ∧
          (cuTripReason s' u = true → s'.is F.CU_STAT_tripped u = true ∧ (s'.cuOf u).resume = none))) ∧
      (∀ code < 164, tzAsserted s z code = true → (∀ c < code, tzAsserted s z c = false) →
        Does (.tripUnlatch t z) s (fun s' => TripFrame t z s s' ∧ s'.is F.TZ_STAT_lat z = true ∧ s'.get F.TZ_STAT_first z = code))) ∧
    (s.is F.TZ_STAT_lat z = true → HwIdle t .TZ_STAT z s → (∀ code < 164, tzAsserted s z code = false) → Does (.tripUnlatch t z) s (fun s' =>
      s'.is F.TZ_STAT_lat z = false ∧ ∀ u < 128, (s.get F.CU_TZM_zone u).testBit z = true → cuTripReason s' u = false →
        s.is F.CU_STAT_tripped u = true → (s.cuOf u).resume = none → (s.cuOf u).counting = false ∨ (s.cuOf u).gov.mode ∈ [2, 3] →
        s'.is F.CU_STAT_tripped u = false ∧ (s'.cuOf u).ioA = false ∧ (s'.cuOf u).ioB = false)) ∧
    (∀ lvl : Bool, (s.tripPinOf z).lvl ≠ lvl → Does (.tripPinChange t z lvl) s (fun s' => s' = { s with now := now, out := [.fabric 15 z 0 now], tripPin := s'.tripPin, srcAt := s'.srcAt } ∧
      s'.srcAtOf (srcKey 15 z 0) = some (now : Int) ∧ SourcesKept 15 z s s' ∧
      (s'.tripPinOf z).lvl = lvl ∧ (if lvl then (s'.tripPinOf z).rise = now else (s'.tripPinOf z).fall = now) ∧
      ∀ m, m ≠ z.val → s'.tripPinOf m = s.tripPinOf m))

/-! ### Event channels and logic cells -/

/-- The frame of a command on event channel `ch`: its registers and hidden state, a wake, free values and outputs; nothing else. -/
def Sys2Proof.Machine.EvFrame (t ch : Nat) (l : List RegName) (s s' : State) : Prop :=
  s' = { s with now := max s.now t, out := s'.out, regs := s'.regs, hw := s'.hw, ev := s'.ev, wake := s'.wake, free := s'.free } ∧
    (∀ m, m ≠ ch → s'.evOf m = s.evOf m) ∧ RegsKept l s s' ∧ ∀ r ∈ l, OthersKept r ch s s'

/-- R155 to R157, R159, R166 to R168: a pulse occurrence 4 ns or more after the one that raised the level raises it and reaches the first 8 taps directly and the next 56 through the relay; one that comes sooner merges; a level
source's channel follows it, but a pulse shorter than 1 ns may be lost; the pulse ends; en raises a standing level without an event; a refused writer, a reserved source and a seal set cfgerr alone; a new ranking of taps comes
into force; in Stop and below the sources of the timer domain are silent. The statements about occurrences take a channel whose taps have been held 10 ns. -/
def Sys2Proof.Machine.EventChannelsRules : Prop :=
  ∀ (t : Nat) (ch : Fin 512) (c : Fin 16) (v : Word) (s : State), let now := max s.now t
    let h := s.evOf ch
    let cls := s.get F.EV_SRC_cls ch
    let ev := s.get F.EV_SRC_ev ch
    let inv := s.is F.EV_CTL_inv ch
    let owner := s.get F.EV_OWN_core ch
    let mine := owner = 31 ∨ owner = c.val
    let src := srcLevel (s.tick t) cls (s.get F.EV_SRC_inst ch) ev
    let settled := h.later = [] ∧ h.order = evTaps s ch
    let Reaches (s' : State) : Prop := s'.out = [.level ch true, .event ch (h.order.take 8) ((h.order.take 64).drop 8)] ∧
      ((s'.evOf ch).sent.getLast?.map (fun e => (e.at_, e.direct, e.relayed, e.arr))) = some (now, h.order.take 8, (h.order.take 64).drop 8, none)
    let Occurs (i : Instr) (h' : EvS) : Prop :=
      ((∀ x, h.raisedAt = some x → x + 256 ≤ now) → inv = false → src = false → h.pulse = false → s.is F.EV_STAT_lvl ch = false → settled →
        Does i s (fun s' => EvFrame t ch [.EV_STAT] s s' ∧ s'.is F.EV_STAT_lvl ch = true ∧ (s'.evOf ch).pulse = true ∧
          (s'.evOf ch).raisedAt = some now ∧ (s'.evOf ch).occAt = h'.occAt ∧ Reaches s' ∧
          s'.wake = (if s.is F.EV_CTL_wake ch ∧ (s.rung = 3 ∨ s.rung = 4) ∧ s.wake = none then some 1 else s.wake))) ∧
      (∀ x, h.raisedAt = some x → now < x + 256 → Does i s (fun s' => EvFrame t ch [.EV_STAT] s s' ∧ s'.out = [] ∧
        s'.is F.EV_STAT_merge ch = true ∧ s'.get F.EV_STAT_lvl ch = s.get F.EV_STAT_lvl ch ∧ s'.evOf ch = h' ∧ s'.wake = s.wake))
    let key := srcKey cls (s.get F.EV_SRC_inst ch) ev
    (s.is F.EV_CTL_en ch = true → srcSilent s cls (s.get F.EV_SRC_inst ch) ev = false → cls ≠ 0 → srcIsLevel cls ev = false →
      s.srcAtOf key = some (t : Int) → h.occAt ≠ some (t : Int) → Occurs (.eventOccurrence t ch) { h with occAt := some (t : Int) }) ∧
    (s.is F.EV_CTL_en ch = true → v.getLsbD 17 = true → mine → s.is F.EV_OWN_seal ch = false → Occurs (.softwareOccurrence t (.core c) ch v) h) ∧
    (v.getLsbD 17 = true → ¬ mine ∨ s.is F.EV_OWN_seal ch = true → Does (.softwareOccurrence t (.core c) ch v) s (fun s' =>
      EvFrame t ch [.EV_STAT] s s' ∧ s'.out = [] ∧ s'.is F.EV_STAT_cfgerr ch = true ∧ s'.ev = s.ev)) ∧
    (s.is F.EV_CTL_en ch = true → srcSilent s cls (s.get F.EV_SRC_inst ch) ev = false → cls ≠ 0 → srcIsLevel cls ev = true → h.pulse = false → settled →
      Does (.eventOccurrence t ch) s (fun s' => EvFrame t ch [.EV_STAT] s s' ∧ s'.is F.EV_STAT_lvl ch = (src != inv) ∧
        ((src != inv) = true → s.is F.EV_STAT_lvl ch = false → (∀ p, h.hist.head? = some p → p.at_ + 64 ≤ now) → Reaches s'))) ∧
    (3 ≤ s.rung → cls = 1 ∨ cls = 3 ∨ (5 ≤ cls ∧ cls ≤ 13) ∨ cls = 18 ∨ 5 ≤ s.rung →
      Does (.eventOccurrence t ch) s (fun s' => s' = { s with now := now, out := [] })) ∧
    (h.pulse = true → (∀ x, h.raisedAt = some x → x + 109 ≤ now) → h.raisedAt ≠ none → s.rung < 5 → inv = false → src = false →
      Does (.eventPulseEnd t ch) s (fun s' => EvFrame t ch [.EV_STAT] s s' ∧ s'.is F.EV_STAT_lvl ch = false ∧ (s'.evOf ch).pulse = false)) ∧
    (s.is F.EV_CTL_en ch = false → v.getLsbD 17 = true →
      let ok := mine ∧ s.is F.EV_OWN_seal ch = false ∧ srcValid cls (s.get F.EV_SRC_inst ch) ev = true
      (ok → s.is F.EV_STAT_lvl ch = false → Does (.channelEnable t (.core c) ch v) s (fun s' => EvFrame t ch [.EV_CTL, .EV_STAT] s s' ∧
        s'.is F.EV_CTL_en ch = true ∧ s'.is F.EV_CTL_inv ch = v.getLsbD 16 ∧ s'.is F.EV_CTL_wake ch = v.getLsbD 15 ∧
        s'.is F.EV_STAT_lvl ch = (src != v.getLsbD 16) ∧ ∀ d r, Out.event ch d r ∉ s'.out)) ∧
      (¬ ok → Does (.channelEnable t (.core c) ch v) s (fun s' => EvFrame t ch [.EV_STAT] s s' ∧ s'.out = [] ∧
        s'.is F.EV_STAT_cfgerr ch = true ∧ s'.ev = s.ev))) ∧
    (∀ x l, h.later = [(x, l)] → x ≤ now → Does (.tapRerank t ch) s (fun s' => EvFrame t ch [] s s' ∧ s'.out = [] ∧
      s'.evOf ch = { h with later := [], order := l }))

/-- The frame of a command on logic cell `n`: its registers and hidden state, its event source, an interrupt source's vector, a clock's phase, free values and outputs;
nothing else. -/
def Sys2Proof.Machine.LcFrame (t n : Nat) (l : List RegName) (s s' : State) : Prop :=
  s' = { s with now := max s.now t, out := s'.out, regs := s'.regs, hw := s'.hw, lc := s'.lc, divAt := s'.divAt, srcAt := s'.srcAt, vsrc := s'.vsrc,
                ev := s'.ev, free := s'.free } ∧
    (∀ m, m ≠ n → s'.lcOf m = s.lcOf m) ∧ SourcesKept 14 n s s' ∧ RegsKept ([.VU_PEND, .VU_LOST] ++ l) s s' ∧ ∀ r ∈ l, r = .EV_STAT ∨ OthersKept r n s s'

/-- R158, R161 to R165: the look-up value of an enabled cell follows its inputs; the pulse-width, majority and debounce filters pass it by their rules; COMB shows the filtered value, LATCH keeps a rise until a
re-arm, DFF takes at a rise of input 3 the value that stood before it; the channels see an output 0.6 ns to 1.0 ns later. A statement about inputs takes a level that can have
come over the fabric by now. An enable clears the flip-flop and is refused with cfgerr for a reserved setting. The instants at which the pulse-width filter passes and the hold ends are
the model's choice within R162's bounds (log entry 97). -/
def Sys2Proof.Machine.LogicCellsRules : Prop :=
  ∀ (t : Nat) (n : Fin 64) (s : State), let now := max s.now t
    let h := s.lcOf n
    let m := s.get F.LC_CTL_mclk n
    let ff := s.get F.LC_CTL_ff n
    let filt := s.get F.LC_CTL_filt n
    let lut (i : List Bool) : Bool := (s.get F.LC_LUT_lut n).testBit
      (8 * b2n (i.getD 3 false) + 4 * b2n (i.getD 2 false) + 2 * b2n (i.getD 1 false) + b2n (i.getD 0 false))
    let Passes (v : Bool) (s' : State) : Prop := LcFrame t n [.LC_STAT] s s' ∧ s'.is F.LC_STAT_filt n = v ∧
      (ff = 0 → s.is F.LC_STAT_filt n ≠ v → s'.is F.LC_STAT_out n = v) ∧
      (ff = 1 → s.is F.LC_STAT_filt n = false → s'.is F.LC_STAT_out n = (v || s.is F.LC_STAT_out n)) ∧
      (s.is F.LC_STAT_out n = false → s'.is F.LC_STAT_out n = true → s'.is F.LC_STAT_rise n = true ∧
        (let x := (s'.lcOf n).outAt.getLast?.getD 0
         now + 39 ≤ x ∧ (∀ y ∈ h.outAt, y ≤ x) ∧ ((∀ y ∈ h.outAt, y ≤ now) → x ≤ now + 64)) ∧ (s.is F.LC_CTL_ien n = true → Out.irq (416 + n) ∈ s'.out))
    let period (m : Nat) : Nat := if m = 4 then 1953125 else 64 * 16 ^ (if m = 0 then 0 else if m = 1 then 1 else if m = 2 then 2 else 3)
    s.is F.LC_CTL_en n = true → s.rung < 5 →
    (∀ (i : Fin 4) (lvl : Bool), let k := 4 * n.val + i.val
      s.is F.LC_IN_en k = true → levelReaches (s.tick t) (s.get F.LC_IN_ch k) ⟨5, k⟩ lvl = true → h.inp.getD i false ≠ lvl → h.inp.length = 4 →
      let v := lut (h.inp.set i lvl)
      Does (.cellInputChange t n i lvl) s (fun s' => LcFrame t n [.LC_STAT] s s' ∧ (s'.lcOf n).inp = h.inp.set i lvl ∧
        s'.is F.LC_STAT_lut n = v ∧
        (filt = 0 → ff = 0 → s.is F.LC_STAT_lut n = s.is F.LC_STAT_filt n → s.is F.LC_STAT_filt n = s.is F.LC_STAT_out n → s'.is F.LC_STAT_out n = v) ∧
        (filt = 3 → h.holdEnd = none → v ≠ s.is F.LC_STAT_filt n → s.is F.LC_STAT_lut n ≠ v → (s'.lcOf n).holdWait = true ∧ s'.is F.LC_STAT_filt n = v) ∧
        (filt = 3 → h.holdEnd ≠ none → s'.is F.LC_STAT_filt n = s.is F.LC_STAT_filt n) ∧
        (filt = 1 → s.is F.LC_STAT_lut n ≠ v → (s'.lcOf n).since = (if v = s.is F.LC_STAT_filt n then none else some now)) ∧
        (ff = 2 → i = 3 → lvl = true → s'.is F.LC_STAT_out n = s.is F.LC_STAT_filt n) ∧
        (filt = 2 → m = 5 → i = 3 → lvl = true → h.samples.length = 3 →
          let l := h.samples.drop 1 ++ [s.is F.LC_STAT_lut n]
          (s'.lcOf n).samples = l ∧ s'.is F.LC_STAT_filt n = decide (2 ≤ (l.filter id).length)) ∧
        (filt = 2 → m ≠ 5 ∨ i ≠ 3 ∨ lvl = false → (s'.lcOf n).samples = h.samples ∧ s'.is F.LC_STAT_filt n = s.is F.LC_STAT_filt n))) ∧
    (∀ x, h.since = some x → filt = 1 → 100 * x + 6080 * s.get F.LC_FILT_n n ≤ 100 * now + 3200 →
      Does (.pulseWidthPass t n) s (fun s' => Passes (s.is F.LC_STAT_lut n) s' ∧ (s'.lcOf n).since = none)) ∧
    (filt = 2 → m ≤ 4 → (m < 4 → s.rung < 3 ∧ now % 64 = 0) → (∀ x, s.divAtOf m = some x → (now - x) % period m = 0) → h.samples.length = 3 →
      let l := h.samples.drop 1 ++ [s.is F.LC_STAT_lut n]
      Does (.majoritySample t n) s (fun s' => Passes (decide (2 ≤ (l.filter id).length)) s' ∧ (s'.lcOf n).samples = l ∧ s'.divAtOf m = some now)) ∧
    (h.holdWait = true → (∀ x, s.divAtOf 4 = some x → (now - x) % 1953125 = 0) → Does (.debounceHoldStart t n) s (fun s' => LcFrame t n [.LC_STAT] s s' ∧ s'.is F.LC_STAT_hold n = true ∧
      s'.lcOf n = { h with holdWait := false, holdEnd := some (now + s.get F.LC_FILT_n n * 1953125) } ∧ s'.divAtOf 4 = some now)) ∧
    (∀ x, h.holdEnd = some x → x ≤ now →
      (s.is F.LC_STAT_lut n = s.is F.LC_STAT_filt n → Does (.debounceHoldEnd t n) s (fun s' => LcFrame t n [.LC_STAT] s s' ∧
        s'.is F.LC_STAT_hold n = false ∧ (s'.lcOf n).holdEnd = none ∧ s'.get F.LC_STAT_out n = s.get F.LC_STAT_out n)) ∧
      (s.is F.LC_STAT_lut n ≠ s.is F.LC_STAT_filt n → Does (.debounceHoldEnd t n) s (fun s' => Passes (s.is F.LC_STAT_lut n) s' ∧
        (s'.lcOf n).holdEnd = some (x + s.get F.LC_FILT_n n * 1953125))))

/-- R163, R164, R166, R167: the owner's writes: re-arming clears LATCH; an enable puts the flip-flop to 0 and the look-up value into the filter, and is refused for a reserved setting; an unowned channel or cell is claimed
with the writer's own number, an owned one is handed over by its owner alone, and sealed by its owner alone; every refusal sets cfgerr and changes nothing else. -/
def Obligations.FabricOwnership : Prop :=
  ∀ (t : Nat) (c : Fin 16) (v : Word) (s : State),
    (∀ n : Fin 64, let h := s.lcOf n
      let owner := s.get F.LC_OWN_core n
      let mine := owner = 31 ∨ owner = c.val
      let asIs := F.LC_CTL_ff.of v.toNat = s.get F.LC_CTL_ff n ∧ F.LC_CTL_filt.of v.toNat = s.get F.LC_CTL_filt n ∧
        F.LC_CTL_mclk.of v.toNat = s.get F.LC_CTL_mclk n
      (v.getLsbD 8 = true → v.getLsbD 17 = true → s.is F.LC_CTL_en n = true → mine → asIs → s.get F.LC_CTL_ff n = 1 →
        (∀ x, h.setAt = some x → x / 64 * 64 ≠ max s.now t / 64 * 64) → (∀ x ∈ h.outAt, x ≤ max s.now t) →
        Does (.cellRearm t (.core c) n v) s (fun s' => LcFrame t n [.LC_CTL, .LC_STAT] s s' ∧ s'.is F.LC_STAT_out n = false ∧
          s'.is F.LC_CTL_en n = true ∧ s'.get F.LC_STAT_filt n = s.get F.LC_STAT_filt n ∧
          s'.get F.LC_STAT_cfgerr n = s.get F.LC_STAT_cfgerr n ∧
          s'.lcOf n = { h with outAt := if s.is F.LC_STAT_out n then [] else h.outAt })) ∧
      (s.is F.LC_CTL_en n = false → v.getLsbD 17 = true → v.getLsbD 8 = false →
        let filt := F.LC_CTL_filt.of v.toNat
        let k := s.get F.LC_FILT_n n
        let ok := mine ∧ s.is F.LC_OWN_seal n = false ∧ F.LC_CTL_ff.of v.toNat ≠ 3 ∧ ¬ (filt = 2 ∧ 6 ≤ F.LC_CTL_mclk.of v.toNat) ∧
          ¬ (filt = 1 ∧ (k = 0 ∨ 255 < k)) ∧ ¬ (filt = 3 ∧ k = 0)
        (ok → Does (.cellEnable t (.core c) n v) s (fun s' => LcFrame t n [.LC_CTL, .LC_STAT, .EV_STAT] s s' ∧ s'.is F.LC_CTL_en n = true ∧
          s'.get F.LC_CTL_ff n = F.LC_CTL_ff.of v.toNat ∧ s'.get F.LC_CTL_filt n = filt ∧
          (s'.lcOf n).inp = (List.range 4).map (fun i => s.is F.LC_IN_en (4 * n + i) && s.is F.EV_STAT_lvl (s.get F.LC_IN_ch (4 * n + i))) ∧
          s'.is F.LC_STAT_lut n = lutValue s' n ∧ s'.is F.LC_STAT_filt n = lutValue s' n ∧
          (s'.lcOf n).samples = [lutValue s' n, lutValue s' n, lutValue s' n] ∧ s'.is F.LC_STAT_hold n = false)) ∧
        (¬ ok → Does (.cellEnable t (.core c) n v) s (fun s' => LcFrame t n [.LC_STAT] s s' ∧ s'.is F.LC_STAT_cfgerr n = true ∧ s'.lc = s.lc)))) ∧
    (∀ (cell : Bool) (n : Fin 512), (cell = true → n.val < 64) →
      let r : RegName := if cell then .LC_OWN else .EV_OWN
      let st : RegName := if cell then .LC_STAT else .EV_STAT
      let err := if cell then F.LC_STAT_cfgerr else F.EV_STAT_cfgerr
      let owner := s.get ⟨r, 0, 5⟩ n
      let sealed := s.is ⟨r, 17, 1⟩ n
      let o := v.toNat % 32
      let Refused (i : Instr) : Prop := Does i s (fun s' => s' = { s with now := max s.now t, out := [], regs := s'.regs, hw := s'.hw } ∧
        s'.is err n = true ∧ RegsKept [st] s s' ∧ OthersKept st n s s')
      let Takes (i : Instr) (o : Nat) (b : Bool) : Prop := Does i s (fun s' => s' = { s with now := max s.now t, out := [], regs := s'.regs } ∧
        s'.get ⟨r, 0, 5⟩ n = o ∧ s'.is ⟨r, 17, 1⟩ n = b ∧ RegsKept [r] s s' ∧ OthersKept r n s s')
      (o ≠ owner → o < 16 ∨ o = 31 →
        ((sealed = false ∧ ((owner = 31 ∧ o = c.val) ∨ owner = c.val)) → Takes (.ownerWrite t (.core c) cell n v) o false) ∧
        (¬ (sealed = false ∧ ((owner = 31 ∧ o = c.val) ∨ owner = c.val)) → Refused (.ownerWrite t (.core c) cell n v))) ∧
      (v.getLsbD 17 = true → sealed = false → (owner = c.val → Takes (.seal t (.core c) cell n v) owner true) ∧
        (owner ≠ c.val → Refused (.seal t (.core c) cell n v))))

/-- R155 to R157, R159, R166 to R168: a pulse occurrence 4 ns or more after the one that raised the level raises it and reaches the first 8 taps directly and the next 56 through the relay; one that comes sooner merges; a level source's channel follows it, but a pulse shorter than 1 ns may be lost; the pulse ends; en raises a standing level without an event; a refused writer, a reserved source and a seal set cfgerr alone; a new ranking of taps comes into force; in Stop and below the sources of the timer domain are silent. The statements about occurrences take a channel whose taps have been held 10 ns. R158, R161 to R165: the look-up value of an enabled cell follows its inputs; the pulse-width, majority and debounce filters pass it by their rules; COMB shows the filtered value, LATCH keeps a rise until a re-arm, DFF takes at a rise of input 3 the value that stood before it; the channels see an output 0.6 ns to 1.0 ns later. A statement about inputs takes a level that can have come over the fabric by now. An enable clears the flip-flop and is refused with cfgerr for a reserved setting. The instants at which the pulse-width filter passes and the hold ends are the model's choice within R162's bounds (log entry 97). -/
def Obligations.EventChannelsAndCells : Prop := EventChannelsRules ∧ LogicCellsRules

/-! ### Banks, harbour locks, local tides, snapshots and register access -/

/-- R268: the registers of the vector units that a fired source may write, with the list `l`. -/
abbrev Sys2Proof.Machine.andVecs (l : List RegName) : List RegName := .VU_PEND :: .VU_LOST :: l

/-- The output of an interrupt source that fires where `b` holds. -/
def Sys2Proof.Machine.irqIf (b : Bool) (n : Nat) : List Out := if b then [.irq n] else []

/-- R274, R279, R281 to R283: a write of BANK_OWN begins a handover, and is ignored with cfgerr while one is in progress or where it names an owner other
than a core for BK63, unless it carries what the register holds; the old owner's register stands until the handover completes, once no access of the old owner is outstanding, which brings the new owner and guests and clears hpend. The scrubber reads the next line of a bank: a correctable word
is corrected and counted, an uncorrectable one is recorded and left. -/
def Obligations.BankHandovers : Prop :=
  ∀ (t : Nat) (k : Fin 64) (v : Word) (s : State), let now := max s.now t
    let own := F.BANK_OWN_kind.of v.toNat
    let same := own = s.get F.BANK_OWN_kind k ∧ F.BANK_OWN_gs.of v.toNat = s.get F.BANK_OWN_gs k ∧ F.BANK_OWN_gl.of v.toNat = s.get F.BANK_OWN_gl k ∧
      F.BANK_OWN_id.of v.toNat = s.get F.BANK_OWN_id k
    let Frame (l : List RegName) (s' : State) : Prop := s' = { s with now := now, out := s'.out, regs := s'.regs, hw := s'.hw, bank := s'.bank, vsrc := s'.vsrc, scrub := s'.scrub, sram := s'.sram } ∧
      RegsKept l s s' ∧ ∀ m, m ≠ k.val → s'.bankOf m = s.bankOf m ∧ s'.scrubOf m = s.scrubOf m
    (s.is F.BANK_STAT_hpend k = false → (k.val = 63 → own = 0) → Does (.bankHandover t k v) s (fun s' => Frame [.BANK_STAT] s' ∧ OthersKept .BANK_STAT k s s' ∧
      s'.is F.BANK_STAT_hpend k = true ∧ s'.is F.BANK_STAT_cfgerr k = s.is F.BANK_STAT_cfgerr k ∧ s'.sram = s.sram ∧ s'.vsrc = s.vsrc ∧
      ∃ x : BitVec 36, s'.bankOf k = some (x, now) ∧ F.BANK_OWN_kind.of x.toNat = own ∧ F.BANK_OWN_gs.of x.toNat = F.BANK_OWN_gs.of v.toNat ∧
        F.BANK_OWN_gl.of x.toNat = F.BANK_OWN_gl.of v.toNat ∧ F.BANK_OWN_id.of x.toNat = F.BANK_OWN_id.of v.toNat)) ∧
    ((s.is F.BANK_STAT_hpend k = true ∨ (k.val = 63 ∧ own ≠ 0)) → ¬ same → Does (.bankHandover t k v) s (fun s' => Frame [.BANK_STAT] s' ∧
      OthersKept .BANK_STAT k s s' ∧ s'.is F.BANK_STAT_cfgerr k = true ∧ s'.is F.BANK_STAT_hpend k = s.is F.BANK_STAT_hpend k ∧ s'.bank = s.bank)) ∧
    ((s.is F.BANK_STAT_hpend k = true ∨ (k.val = 63 ∧ own ≠ 0)) → same → Does (.bankHandover t k v) s (fun s' => s' = { s with now := now, out := [] })) ∧
    (∀ x y, s.bankOf k = some (x, y) → s.is F.BANK_STAT_hpend k = true → bankBusy (s.tick t) k = false → Does (.handoverComplete t k) s (fun s' =>
      Frame (andVecs [.BANK_OWN, .BANK_STAT, .BANK_LOG]) s' ∧ OthersKept .BANK_OWN k s s' ∧ OthersKept .BANK_STAT k s s' ∧ OthersKept .BANK_LOG k s s' ∧
      s'.reg .BANK_OWN k = x ∧ s'.is F.BANK_STAT_hpend k = false ∧ s'.bankOf k = none ∧ s'.sram = s.sram ∧
      (F.BANK_OWN_kind.of x.toNat = 1 → s'.get F.BANK_LOG_next k = 0) ∧ s'.out = irqIf (s.is F.MEM_IEN_hov 0) 578)) ∧
    (let (l, d) := s.scrubOf k
      let wd (i : Nat) : Nat := 32768 * k + 4 * l + i
      s.is F.MEM_SCRUB_en 0 = true → s.rung < 3 → d ≤ now → Does (.scrub t k) s (fun s' => Frame (andVecs [.MEM_ECCADR, .MEM_ECCCNT]) s' ∧
        s'.bank = s.bank ∧ s'.scrubOf k = ((l + 1) % 8192, now + 128000) ∧
        (∀ j, s'.sramOf j = if wd 0 ≤ j ∧ j ≤ wd 3 ∧ (s.sramOf j).ecc = .single then { s.sramOf j with ecc := .good } else s.sramOf j) ∧
        s'.get F.MEM_ECCCNT_n 0 = max (s.get F.MEM_ECCCNT_n 0)
          (min (s.get F.MEM_ECCCNT_n 0 + ((List.range 4).filter (fun i => (s.sramOf (wd i)).ecc == .single)).length) 262143) ∧
        ((∀ i < 4, (s.sramOf (wd i)).ecc ≠ .bad) → s'.reg .MEM_ECCADR 0 = s.reg .MEM_ECCADR 0) ∧
        (∀ i < 4, (s.sramOf (wd i)).ecc = .bad → (∀ j < 4, i < j → (s.sramOf (wd j)).ecc ≠ .bad) →
          s'.get F.MEM_ECCADR_req 0 = 3 ∧ s'.get F.MEM_ECCADR_addr 0 = (0o040000000 + 2 * wd i) % 2 ^ 27)))

/-- R285, R286, R289: a read of LOCK_ACQ of a free lock holds it, of a broken one repairs it, and of a held one changes nothing, with the value it returns; the lease starts; the debug port reads 0.
A write of LOCK_CMD by the holder repairs, renews and releases in this order, and by another sets cmderr alone. A lease that ends breaks the lock (R287). -/
def Obligations.HarbourLocks : Prop :=
  ∀ (t : Nat) (q : Req) (n : Fin 256) (v : Word) (s : State), let now := max s.now t
    let h := s.lockOf n
    let st := s.get F.LOCK_OWN_state n
    let Frame (l : List RegName) (s' : State) : Prop := s' = { s with now := now, out := s'.out, regs := s'.regs, hw := s'.hw, lock := s'.lock, vsrc := s'.vsrc } ∧
      RegsKept (andVecs l) s s' ∧ (∀ r ∈ l, OthersKept r n s s') ∧ ∀ m, m ≠ n.val → s'.lockOf m = s.lockOf m
    let due (us : Nat) : Option Nat := if us = 0 then none else some (now + us * 64000)
    let us := s.get F.LOCK_LEASE_us n
    let held := st = 1 ∨ st = 3
    let rel := F.LOCK_CMD_rel.of v.toNat = 1
    let rep := F.LOCK_CMD_rep.of v.toNat = 1
    let renew := F.LOCK_CMD_renew.of v.toNat = 1
    (q ≠ .debug → (st = 0 ∨ st = 2) → Does (.lockAcquire t q n) s (fun s' => Frame [.LOCK_OWN] s' ∧ lockHeldBy s' q n = true ∧ s'.get F.LOCK_OWN_state n = st + 1 ∧
      s'.get F.LOCK_OWN_why n = s.get F.LOCK_OWN_why n ∧ s'.lockOf n = { us := us, due := due us } ∧ s'.out = [.data (if st = 0 then 1 else 2)])) ∧
    ((q = .debug ∨ held) → Does (.lockAcquire t q n) s (fun s' => Frame [] s' ∧ s'.lock = s.lock ∧ s'.out = [.data 0])) ∧
    let Acts (i : Instr) : Prop :=
      (held → lockHeldBy s q n = true → let st1 := if rep then 1 else st
        Does i s (fun s' => Frame [.LOCK_OWN] s' ∧ s'.out = [] ∧
          s'.get F.LOCK_OWN_state n = (if rel then (if st1 = 1 then 0 else 2) else st1) ∧
          s'.lockOf n = (if rel then {} else if renew then { h with due := due h.us } else h) ∧
          (∀ f ∈ [F.LOCK_OWN_rem, F.LOCK_OWN_node, F.LOCK_OWN_core, F.LOCK_OWN_why], s'.get f n = s.get f n))) ∧
      (∀ b, lockJustBroke (s.tick t) n = some b → lockHeldBy s q n = true → b.was = 1 ∨ b.was = 3 → Does i s (fun s' => Frame [.LOCK_OWN, .LOCK_STAT] s' ∧ s'.out = [] ∧
        (rel → s'.get F.LOCK_OWN_state n = (if rep ∨ b.was = 1 then 0 else 2) ∧ s'.lockOf n = {} ∧
          s'.is F.LOCK_STAT_brk n = (s.is F.LOCK_STAT_brk n && !b.flag)) ∧
        (¬ rel → s'.get F.LOCK_OWN_state n = 2 ∧ s'.get F.LOCK_OWN_why n = b.why % 8 ∧ s'.is F.LOCK_STAT_brk n = true ∧ (s'.lockOf n).due = none) ∧
        ∀ f ∈ [F.LOCK_OWN_rem, F.LOCK_OWN_node, F.LOCK_OWN_core], s'.get f n = s.get f n)) ∧
      (¬ (held ∧ lockHeldBy s q n = true) → (lockHeldBy s q n = true → lockJustBroke (s.tick t) n = none) → Does i s (fun s' => Frame [.LOCK_STAT] s' ∧ s'.is F.LOCK_STAT_cmderr n = true ∧
        s'.is F.LOCK_STAT_brk n = s.is F.LOCK_STAT_brk n ∧ s'.lock = s.lock ∧ s'.out = []))
    (rel → Acts (.lockRelease t q n v)) ∧ (rep → Acts (.lockRepaired t q n v)) ∧ (renew → Acts (.lockRenew t q n v)) ∧
    (∀ d, h.due = some d → held → s.rung < 3 → d ≤ now → Does (.leaseExpiry t n) s (fun s' => Frame [.LOCK_OWN, .LOCK_STAT] s' ∧ s'.get F.LOCK_OWN_state n = 2 ∧
      s'.get F.LOCK_OWN_why n = 4 ∧ s'.is F.LOCK_STAT_brk n = true ∧ s'.lockOf n = { h with due := none, broke := some ⟨now / 64, 4, st, h.due, !s.is F.LOCK_STAT_brk n⟩ } ∧
      (∀ f ∈ [F.LOCK_OWN_rem, F.LOCK_OWN_node, F.LOCK_OWN_core], s'.get f n = s.get f n) ∧
      s'.out = irqIf (s.is F.MEM_IEN_brk 0) 579 ++ irqIf (s.is F.MEM_IEN_lease 0) 580))

/-- R291, R293, R374, R432: a staging store to a listed target adds its entries to the core's slot, which becomes OPEN; to an unlisted one or an odd address, or with 1,024 entries in use, it poisons the slot; to an
armed slot it sets armst alone. A commit waits for the unit, which arms the slot or refuses it with the first reason that applies; a discard empties it, but is refused with why 1 while a round of a system tide has the
slot armed. DEDUCED, log 50: the reason of a slot that is not OPEN goes before the poisoned one, the instant is sampled at arming, and a discard is a commit in R374's sense. -/
def Sys2Proof.Machine.LocalTidesRules : Prop :=
  ∀ (t : Nat) (s : State), let now := max s.now t
    let Frame (l : List RegName) (k : Nat) (s' : State) : Prop := s' = { s with now := now, out := s'.out, regs := s'.regs, hw := s'.hw, tide := s'.tide, vsrc := s'.vsrc } ∧
      RegsKept (andVecs l) s s' ∧ (∀ m, m ≠ k → s'.tideOf m = s.tideOf m) ∧ OthersKept .TSLOT_STAT k s s'
    (∀ (c : Fin 16) (a : Addr) (dbl : Bool) (v : DWord), regionOf a.toNat = .tide →
      let k := s.get F.TIDE_CSEL_slot c
      let st := s.get F.TSLOT_STAT_state k
      let es := tideEntries (a.toNat - 0o200000000) (if dbl then 4 else 2) (if dbl then v else v &&& 0o777777)
      let Stages (P : State → Prop) : Prop := Does (.tideStage t c a dbl v) s (fun s' => Frame [.TSLOT_STAT, .TIDE_STAT] k s' ∧ s'.out = [] ∧ P s')
      (∀ l, es = some l → st ≤ 1 → tideUsed s + l.length ≤ 1024 → Stages (fun s' => s'.get F.TSLOT_STAT_state k = 1 ∧
        s'.tideOf k = { s.tideOf k with entries := (s.tideOf k).entries ++ l } ∧ s'.get F.TSLOT_STAT_n k = ((s.tideOf k).entries ++ l).length % 2048 ∧
        s'.get F.TIDE_STAT_used 0 = tideUsed s + l.length)) ∧
      (st ≤ 1 → (es = none ∨ ∃ l, es = some l ∧ 1024 < tideUsed s + l.length) → Stages (fun s' => s'.get F.TSLOT_STAT_state k = 3 ∧ s'.tide = s.tide)) ∧
      (st = 2 → Stages (fun s' => s'.is F.TIDE_STAT_armst 0 = true ∧ s'.tide = s.tide ∧ s'.reg .TSLOT_STAT k = s.reg .TSLOT_STAT k))) ∧
    (∀ v : Word, let k := F.TIDE_COMMIT_slot.of v.toNat
      let kind := F.TIDE_COMMIT_kind.of v.toNat
      let Waits (i : Instr) (w : TideWhen) : Prop := Does i s (fun s' => Frame [] k s' ∧ s'.tideOf k = { s.tideOf k with commit := some w } ∧ s'.out = [])
      (kind = 0 → Waits (.tideCommitInstant t v) (.instant 0)) ∧
      (kind = 1 → Waits (.tideCommitBoundary t v) (.boundary (F.TIDE_COMMIT_cu.of v.toNat))) ∧
      let ofRound : Bool := match (s.tideOf k).armed with | some (.round, _) => true | some (.global _, _) => true | _ => false
      (kind = 2 → ofRound = true → Does (.tideDiscard t v) s (fun s' => Frame [.TSLOT_STAT] k s' ∧ s'.tide = s.tide ∧ s'.get F.TSLOT_STAT_why k = 1 ∧
        s'.get F.TSLOT_STAT_state k = s.get F.TSLOT_STAT_state k ∧ s'.get F.TSLOT_STAT_n k = s.get F.TSLOT_STAT_n k ∧ s'.out = irqIf (s.is F.MEM_IEN_tref 0) 582)) ∧
      (kind = 2 → ofRound = false → Does (.tideDiscard t v) s (fun s' => Frame [.TSLOT_STAT, .TIDE_STAT] k s' ∧ s'.tideOf k = {} ∧ s'.get F.TSLOT_STAT_state k = 0 ∧
        s'.get F.TSLOT_STAT_n k = 0 ∧ s'.get F.TIDE_STAT_used 0 = tideUsed s' % 2048 ∧ s'.out = []))) ∧
    (∀ (k : Fin 4) (w : TideWhen), (s.tideOf k).commit = some w →
      let at_ := s.get F.TSLOT_ATH_v k * 64000000000 + s.get F.TSLOT_ATL_v k
      let st := s.get F.TSLOT_STAT_state k
      let es := (s.tideOf k).entries
      let why := if st = 2 then 1 else if st = 3 then 2 else if (∃ e ∈ es, entryWhy s e = 3) then 3
        else if (∃ b ∈ s.armed, blockCode (berthPreview s es) b ≠ 0) then 4 else if (∃ e ∈ es, entryWhy s e = 5) then 5
        else match w with
          | .instant _ => if tbPast (s.tbAt now) at_ = true ∧ at_ % tbWrap ≠ s.tbAt now then 6 else 0
          | .boundary u => if s.is F.CU_STAT_running u = false ∨ s.get F.CU_CTL_mode u = 3 then 7 else 0
          | _ => 0
      (why ≠ 0 → Does (.tideArm t k) s (fun s' => Frame [.TSLOT_STAT] k s' ∧ s'.get F.TSLOT_STAT_why k = why ∧ s'.get F.TSLOT_STAT_state k = st ∧
        s'.tideOf k = { s.tideOf k with commit := none } ∧ s'.out = irqIf (s.is F.MEM_IEN_tref 0) 582)) ∧
      (why = 0 → Does (.tideArm t k) s (fun s' => Frame [.TSLOT_STAT] k s' ∧ s'.get F.TSLOT_STAT_state k = 2 ∧ s'.out = [] ∧
        s'.tideOf k = { s.tideOf k with commit := none, armed := some ((match w with | .instant _ => .instant at_ | w => w), now) })))

/-- R294, R295, R379: the tide of slot `k` has applied as a whole: the last staged value of each word, register and threshold stands, the slot is empty again, and the epoch has counted. -/
def Sys2Proof.Machine.TideApplied (s s' : State) (k : Nat) : Prop :=
  let es := (s.tideOf k).entries
  s'.tideOf k = {} ∧ s'.get F.TSLOT_STAT_state k = 0 ∧
    s'.get F.TIDE_EPOCH_n 0 = (s.get F.TIDE_EPOCH_n 0 + 1) % 2 ^ 36 ∧ (s.is F.MEM_IEN_tapp 0 = true → Out.irq 581 ∈ s'.out) ∧
    s'.pending = s.pending ∧ s'.sram = s.sram ∧ s'.core = s.core ∧ (∀ m, m ≠ k → s'.tideOf m = s.tideOf m) ∧
    (∀ i < 16384, let w := (es.filter (fun e => e.addr == 0o062000000 + 4 * i)).map (·.v)
      s'.bstoreOf i = w.getLastD (s.bstoreOf i)) ∧
    (∀ j < 16384, let w := (es.filter (fun e => e.addr == 0o063000000 + 2 * j)).map (·.v)
      s'.bramOf j = (w.map (fun x => sx 18 x.toNat)).getLastD (s.bramOf j)) ∧
    let last (r : RegName) (i : Nat) : Option (BitVec 36) := ((es.filter (fun e => regionOf e.addr == .periph && regAt e.addr == some (r, i, 0))).map (·.v)).getLast?
    (∀ f ∈ [F.BERTH_GBASE_base, F.BERTH_BND_b, F.WC_THH_code, F.WC_THL_code], ∀ i < 3072, s'.get f i = (match last f.reg i with | some x => x.toNat % 2 ^ f.w | none => s.get f i)) ∧
    ∀ (high : Bool) (n : Fin 128), let f := if high then F.WC_THH_code else F.WC_THL_code
      let move (x : State) : Move := if high then (x.wcOf n).hiMove else (x.wcOf n).loMove
      (∀ x, last f.reg n = some x → x.toNat % 2 ^ 12 ≠ s.get f n → (move s').pos = 0 ∧ (move s').due = s'.now + 6400) ∧ (last f.reg n = none → move s' = move s)

/-- R65, R292, R294, R295: a tide applies: the last entry of each berth-store word, berth state word, berth register (BERTH_GBASE, BERTH_BND) and threshold takes effect at once, what no entry names stands, and a new
threshold code begins its move, which has settled 100 ns on; the epoch counts the tide, the slot is EMPTY, and the local-tide event and the applied cause are raised. DEDUCED, log 50: several slots whose instants have come apply in slot order. -/
def Sys2Proof.Machine.TideAppliesRules : Prop :=
  ∀ (t : Nat) (k : Fin 4) (s : State), let now := max s.now t
    (∃ v a, (s.tideOf k).armed = some (.instant v, a) ∧ tbPast (s.tbAt now) v = true) →
    (∀ j < k.val, (s.tideOf j).armed = none) →
    Does (.tideApply t k) s (fun s' => s'.now = now ∧ Out.fabric 20 0 0 now ∈ s'.out ∧ TideApplied s s' k)

/-- R296 to R298: a request of a core for itself is accepted with its list read, or refused with the first reason that applies; another requester's sets cfgerr alone (DEDUCED, log 51: another core's, the link's and the
debug port's request alike, and the list is read at the request). At its instant, when no tide is due that has not applied, the snapshot is taken: a header of the instant, the epoch and the count, then the records in list order. Once written, the lines stand from SNAP_DST on, with busy 0 and done 1. -/
def Obligations.Snapshots : Prop :=
  (∀ (t : Nat) (c : Fin 16) (v : Word) (s : State), let now := max s.now t
    let Frame (s' : State) : Prop := s' = { s with now := now, out := s'.out, regs := s'.regs, hw := s'.hw, snap := s'.snap, vsrc := s'.vsrc } ∧
      RegsKept (andVecs [.SNAP_STAT]) s s' ∧ OthersKept .SNAP_STAT c s s' ∧ ∀ m, m ≠ c.val → s'.snapOf m = s.snapOf m
    let at1 := F.SNAP_GO_at.of v.toNat = 1
    let Go (q : Req) (P : State → Prop) : Prop := (¬ at1 → Does (.snapshotNow t q c v) s P) ∧ (at1 → Does (.snapshotAt t q c v) s P)
    let l := s.get F.SNAP_LIST_addr c
    let n := s.get F.SNAP_LIST_cnt c + 1
    let d := s.get F.SNAP_DST_addr c
    let items := (List.range n).map (fun i => (s.sramOf (sramIx l + i)).w)
    let m := 8 * snapLines items
    let guest (a : Nat) : Prop := regionOf a = .sram ∧ ownsBank s c (bankAt a) = true ∧ s.is F.BANK_OWN_gs (bankAt a) = true
    let x := s.get F.SNAP_ATH_v c * 64000000000 + s.get F.SNAP_ATL_v c
    let areas := inOneBank l (2 * n) = true ∧ inOneBank d m = true ∧ d % 8 = 0 ∧ (d + m ≤ l ∨ l + 2 * n ≤ d)
    let badItem := (∃ w ∈ items, itemReserved w = true) ∨ 256 < (items.filter (fun w => itemKind w == 0)).length
    let early := at1 ∧ tbPast (s.tbAt now) x = true
    let why := if ¬ (guest l ∧ guest d) then 1 else if ¬ areas then 2 else if badItem then 3 else if early then 4 else 0
    F.SNAP_GO_go.of v.toNat = 1 →
    (∀ q, q ≠ .core c → Go q (fun s' => Frame s' ∧ s'.is F.SNAP_STAT_cfgerr c = true ∧ s'.is F.SNAP_STAT_busy c = s.is F.SNAP_STAT_busy c ∧ s'.snap = s.snap ∧ s'.out = [])) ∧
    (s.is F.SNAP_STAT_busy c = true → Go (.core c) (fun s' => s' = { s with now := now, out := [] })) ∧
    (s.is F.SNAP_STAT_busy c = false → (guest l → inOneBank l (2 * n) = true → ∀ i < n, (s.sramOf (sramIx l + i)).ecc = .good) →
      (why = 0 → Go (.core c) (fun s' => Frame s' ∧ s'.is F.SNAP_STAT_busy c = true ∧ s'.out = [] ∧
        s'.snapOf c = { items := items, dst := d, due := some (if at1 then .inr x else .inl (edgeAfter now)), lines := [] })) ∧
      (why ≠ 0 → Go (.core c) (fun s' => Frame s' ∧ s'.is F.SNAP_STAT_refused c = true ∧ s'.get F.SNAP_STAT_why c = why ∧
        s'.is F.SNAP_STAT_busy c = false ∧ s'.snap = s.snap ∧ s'.out = irqIf (s.is F.MEM_IEN_sref 0) 584)))) ∧
  (∀ (t : Nat) (c : Fin 17) (reads : List (Int × BitVec 7)) (s : State), let now := max s.now t
    let h := s.snapOf c
    let hi (x : Nat) : BitVec 18 := BitVec.ofNat 18 (x / 2 ^ 18)
    let lo (x : Nat) : BitVec 18 := BitVec.ofNat 18 x
    let e := s.get F.TIDE_EPOCH_n 0
    let v := s.tbAt now
    h.lines = [] → (match h.due with | some (.inl y) => decide (y ≤ now ∧ now % 64 = 0) | some (.inr y) => tbPast v y | none => false) = true →
    (∀ k < 4, tideComes (s.tick t) k = false) → (∀ r ∈ s.gt.apply, tbPast v r.inst = false) → ichReadsOk (s.tick t) h.items reads = true →
    Does (.snapshotTake t c reads) s (fun s' => (s'.snapOf c).due = none ∧ (s'.snapOf c).lines.length = snapLines h.items ∧ s'.sram = s.sram) ∧
    ((∀ w ∈ h.items, itemKind w = 1 → (s.cuOf (itemNo w)).held = []) →
    Does (.snapshotTake t c reads) s (fun s' => s' = { s with now := now, out := [], snap := s'.snap, free := s'.free } ∧ (∀ m, m ≠ c.val → s'.snapOf m = s.snapOf m) ∧
      let ls := (s'.snapOf c).lines.drop 2
      let raw (w : OpenWin) : Nat := ux 36 (128 * (reads.headD (0, 0)).1 + (reads.headD (0, 0)).2.toInt - w.res)
      s'.snapOf c = { h with due := none, lines := (hi (v / subUnits % 2 ^ 36) ++ lo (v / subUnits % 2 ^ 36) ++ hi (v % subUnits) ++ lo (v % subUnits)) ::
          (hi e ++ lo e ++ lo h.items.length ++ 0#18) :: ls } ∧
        (∀ u < 128, h.items = [BitVec.ofNat 18 (0o200000 + u)] → ls = [line4 (b2n (s.is F.CU_STAT_running u) * 2 ^ 17 + b2n (s.is F.CU_STAT_tripped u) * 2 ^ 16 + u) (cuTau s u now / 2 ^ 18) (cuTau s u now) 0]) ∧
        (∀ b < 1024, h.items = [BitVec.ofNat 18 b] → (s.craneOf (s.get F.BERTH_CTL_crane b)).run = none → (s.berthOf b).pre = none →
          ls = line4 (s.get F.BERTH_STAT_region b * 2 ^ 15 + b) 0 0 0 :: [0, 4, 8, 12].map (fun i => line4 (ux 18 (s.bramOf (16 * b + i))) (ux 18 (s.bramOf (16 * b + i + 1)))
            (ux 18 (s.bramOf (16 * b + i + 2))) (ux 18 (s.bramOf (16 * b + i + 3))))) ∧
        (∀ i < 128, ∀ w, (s.ichOf i).win = some w → h.items = [BitVec.ofNat 18 (0o400000 + i)] →
          ls = [line4 (2 ^ 17 + b2n (s.is F.ICH_STAT_ovldnow i) * 2 ^ 16 + i) 0 0 0, hi (raw w) ++ lo (raw w) ++ hi (now - w.openAt) ++ lo (now - w.openAt)])))) ∧
  (∀ (t : Nat) (c : Fin 17) (s : State), let now := max s.now t
    let h := s.snapOf c
    let d := sramIx h.dst
    c.val < 16 → h.lines ≠ [] → Does (.snapshotDone t c) s (fun s' => s' = { s with now := now, out := s'.out, regs := s'.regs, hw := s'.hw, snap := s'.snap, sram := s'.sram, vsrc := s'.vsrc } ∧
      RegsKept (andVecs [.SNAP_STAT, .MEM_ECCADR]) s s' ∧ OthersKept .SNAP_STAT c s s' ∧ s'.is F.SNAP_STAT_busy c = false ∧ s'.is F.SNAP_STAT_done c = true ∧ s'.snapOf c = {} ∧
      ((∀ j < 4 * h.lines.length, (s.sramOf (d + j)).ecc ≠ .bad) → s'.reg .MEM_ECCADR 0 = s.reg .MEM_ECCADR 0 ∧ s'.out = irqIf (s.is F.MEM_IEN_sdone 0) 583) ∧
      ∀ j, s'.sramOf j = (if d ≤ j ∧ j < d + 4 * h.lines.length ∧ inSlice j = false ∧ snapAccess s j = true then
        ⟨((h.lines.getD ((j - d) / 4) 0).extractLsb' (54 - 18 * ((j - d) % 4)) 18), false, .good⟩ else s.sramOf j)))

/-- R433: the registers that R11 alone governs: those that a store changes. -/
def Sys2Proof.Machine.plainRegs : List RegName :=
  [.ICH_STAT, .ICH_MISSCNT, .WC_IEN, .WC_STAT, .BERTH_STAT, .BERTH_OVR, .CR_STAT, .CR_IEN, .CG_STAT, .ENG_STAT, .ENG_IEN, .CU_RESP, .CU_FLAG,
   .CU_IEN, .TZ_PIN, .TZ_CORE, .TZ_IEN, .TRIP_POL, .SC_STAT, .SC_BOTHR, .MT_LIM, .MT_STAT, .MF_STAT, .MFU_JPER, .MFU_JSTAT, .CORE_STAT, .CORE_TDT,
   .VU_STAT, .VU_VTAB, .VU_MASK, .VU_LOST, .VU_VCTL, .VU_ROUTE, .BANK_STAT, .BANK_LOG, .MEM_ECCCNT, .MEM_SCRUB, .MEM_IEN, .LOCK_LEASE, .LOCK_STAT,
   .TIDE_CSEL, .TIDE_STAT, .FL_BSTAT, .FL_IEN, .FL_RSEL, .FL_ECCCNT, .TB_STAT, .TB_SETH, .TB_PPSWIN, .TB_PPSSEC, .TB_PPSREJ, .CLK_STAT, .PWR_SLEEP,
   .PWR_QCTL, .PWR_WPIN, .PWR_IEN, .TJ_SPRING_LIMIT, .SPRING_MAX_S, .MODE_DROOP, .LK_PSTAT, .LK_ECODE, .LK_ECRC, .LK_EAUTH, .LK_ERTRY, .LK_EDROP,
   .LK_QUAR, .LK_RETRY, .LK_CAP, .LK_TMO, .LK_TCTL, .LK_WTAB, .LK_GSTAT, .LK_SNAPB, .LK_IEN, .LK_ROUTE, .GT_CTL, .GT_BINDID, .GT_STAT, .GT_IGN,
   .GT_PID, .GT_PINH, .GT_PLEAD, .GT_PGUARD, .GT_PDST, .GT_DREP, .GT_PRID, .KU_STAT, .KU_DIN, .KU_IEN, .TMP_STAT, .SMB_STAT, .SMB_TMO, .SMB_RSPD,
   .SMB_IMG, .SPI_STAT]

/-- R433: the registers that no store changes. -/
def Sys2Proof.Machine.readOnlyRegs : List RegName :=
  [.ICH_RSTAT, .ICH_NORM, .ICH_RAW, .ICH_TLEN, .CR_UTIL, .CR_SEPB, .CG_OUT, .ENG_ADMERR, .CU_PERS, .CU_PEND, .CU_CAPSTAT, .CU_CAP, .CU_CAPTSH,
   .CU_CAPTSL, .SV_RES, .GRF_ID, .GRF_STAT, .CORE_FSP, .CORE_LKINFO, .CORE_LKADR, .VU_ACT, .MEM_ECCADR, .LOCK_ACQ, .LOCK_OWN, .TIDE_EPOCH,
   .TSLOT_STAT, .FL_BADDR, .FL_RING, .FL_RECOV, .TB_NOWH, .TB_NOWL, .TB_PPSERR, .TB_SLEW, .TB_UNCERT, .TB_XRATIO, .PWR_STAT, .PWR_PFSTAT, .MODE_STAT,
   .TJ_EST, .LK_PNODE, .LK_TDLY, .LK_REFLOG, .GT_LAST, .GT_GEPOCH, .GT_RID, .GT_RES, .GT_RESN, .GT_DREPID, .BOOT_STAT, .BOOT_RSTC, .BEHAVIOUR_LEVEL,
   .BOOT_VER, .KU_RNG, .KU_DOUT, .DBG_SCOPE, .SMB_CAPH, .SMB_CAPD, .SPI_RX, .GPIO_IN]

/-- R11: the registers with RC fields. -/
def Sys2Proof.Machine.rcRegs : List RegName :=
  [.ICH_MISSCNT, .BERTH_OVR, .MEM_ECCCNT, .FL_ECCCNT, .TB_PPSREJ, .LK_ECODE, .LK_ECRC, .LK_EAUTH, .LK_ERTRY, .LK_EDROP, .GT_IGN]

/-- R8, R12: address `a`, an even one, reaches the whole of register `r`, instance `i`, through alias `al`. -/
def Sys2Proof.Machine.Reaches (a : Nat) (r : RegName) (i : Nat) (al : Alias) : Prop :=
  let b := a - (match al with | .base => 0 | .set => 0o020000000 | .clr => 0o040000000)
  0o100000000 ≤ b ∧ b + r.size ≤ 0o115000000 ∧ a % 2 = 0 ∧ regAt b = some (r, i, 0) ∧ (al ≠ .base → 0o040000000 ≤ a)

/-- R11, R12: the value that a write of `v` gives a field that held `cur`, by its kind and the alias. -/
def Sys2Proof.Machine.fieldNext (kind : Kind) (a : Alias) (cur v : Nat) (locked : Bool) : Nat :=
  match kind, a with
  | .rw, .base => v
  | .lock, .base => if locked then cur else v
  | .set, .set => cur ||| v
  | .setClr, .set => cur ||| v
  | .clr, .clr => cur - (cur &&& v)
  | .setClr, .clr => cur - (cur &&& v)
  | _, _ => cur

/-- R8, R11 to R13, R18, R430: an access of a core without the capability that it needs raises a trap and does not touch the register, and one with it against R8 or in an unassigned block raises cause 5. Another store to
a register that R11 alone governs gives each field its value by the field's kind and the alias, and changes nothing else; to a register whose fields are all RO or to unoccupied offsets it changes nothing; nor does one against R8
or R430 that no core makes (DEDUCED, log 91: it has no trap to raise). A read of a register with
RC fields returns its value and clears those fields; the events that counted in this timer cycle are not in the value, and stay. -/
def Obligations.RegisterAccess : Prop :=
  ∀ (t : Nat) (q : Req) (k : Fin 8) (a : Addr) (v : DWord) (s : State), let now := max s.now t
    let allowed (perm size : Nat) : Prop := ∀ c, q = .core c → capCheck ((s.coreOf c).cap k) [perm] a.toNat size = none
    (∀ (r : RegName) (i : Nat) (al : Alias), Reaches a.toNat r i al → (∀ u, cuOfReg r i = some u → (s.cuOf u).held = []) →
      let x := if r.row.dword then v.toNat else v.toNat % 2 ^ 18
      (allowed permST r.size → HwIdle t r i s →
        (r ∈ plainRegs → Does (.registerWrite t q k a r.row.dword v) s (fun s' => s' = { s with now := now, out := [], regs := s'.regs, hw := s'.hw, smb := s'.smb } ∧ (r ≠ .SMB_IMG → s'.smb = s.smb) ∧
          RegsKept [r] s s' ∧ OthersKept r i s s' ∧ ∀ f ∈ r.row.fields, fget (s'.reg r i) f.lo f.w =
            fieldNext f.kind al (fget (s.reg r i) f.lo f.w) (x >>> f.lo % 2 ^ f.w) (s.locked r i))) ∧
        (r ∈ readOnlyRegs → Does (.registerWrite t q k a r.row.dword v) s (fun s' => s' = { s with now := now, out := [], regs := s'.regs } ∧ RegsKept [] s s'))) ∧
      (allowed permLD r.size → r ∈ rcRegs →
        let Reads (old more : FieldRow → Nat) : Prop := Does (.rcFieldRead t q k a r.row.dword) s (fun s' => s' = { s with now := now, out := s'.out, regs := s'.regs, hw := s'.hw } ∧
          RegsKept [r] s s' ∧ OthersKept r i s s' ∧ ∃ y : BitVec 36, s'.out = [.data y.toNat] ∧ ∀ f ∈ r.row.fields,
            fget y f.lo f.w = (if f.kind = .rc then old f % 2 ^ f.w else fget (s.reg r i) f.lo f.w) ∧
            fget (s'.reg r i) f.lo f.w = if f.kind = .rc then more f % 2 ^ f.w else fget (s.reg r i) f.lo f.w)
        (((s.tick t).hwAt r i).rc = none → Reads (fun f => fget (s.reg r i) f.lo f.w) (fun _ => 0)) ∧
        ∀ y, ((s.tick t).hwAt r i).rc = some y → Reads (fun _ => y.1) (fun _ => y.2))) ∧
    (∀ dbl, regionOf a.toNat = .periph → let n := if dbl then 4 else 2
      let bad : Bool := match periphAcc a.toNat n with | .half .. => true | .align => true | .gone => true | _ => false
      let rc : Bool := match periphAcc a.toNat n with | .reg r _ => r.hasRc | .align => true | .gone => true | _ => false
      let Same (i : Instr) : Prop := Does i s (fun s' => s' = { s with now := now, out := [] })
      (periphAcc a.toNat n = .free → allowed permST n → Same (.registerWrite t q k a dbl v)) ∧
      (bad = true → (∀ c, q ≠ .core c) → Same (.registerWrite t q k a dbl v)) ∧
      (∀ c : Fin 16, q = .core c → canRun s c = true →
        let Traps (i : Instr) (cause : Nat) : Prop := Does i s (fun s' => OnlyCore t c s s' ∧ (s'.coreOf c).trap = some ⟨cause, 0, (s.coreOf c).pc, a.toNat⟩)
        let First (i : Instr) (perm : Nat) : Prop := (∀ cause, capCheck ((s.coreOf c).cap k) [perm] a.toNat n = some cause → Traps i cause) ∧
          (bad = true → capCheck ((s.coreOf c).cap k) [perm] a.toNat n = none → Traps i 5)
        First (.registerWrite t q k a dbl v) permST ∧
        (rc = true → First (.rcFieldRead t q k a dbl) permLD)))

/-- R291, R293, R374, R432: a staging store to a listed target adds its entries to the core's slot, which becomes OPEN; to an unlisted one or an odd address, or with 1,024 entries in use, it poisons the slot; to an armed slot it sets armst alone. A commit waits for the unit, which arms the slot or refuses it with the first reason that applies; a discard empties it, but is refused with why 1 while a round of a system tide has the slot armed. DEDUCED, log 50: the reason of a slot that is not OPEN goes before the poisoned one, the instant is sampled at arming, and a discard is a commit in R374's sense. R65, R292, R294, R295: a tide applies: the last entry of each berth-store word, berth state word, berth register (BERTH_GBASE, BERTH_BND) and threshold takes effect at once, what no entry names stands, and a new threshold code begins its move, which has settled 100 ns on; the epoch counts the tide, the slot is EMPTY, and the local-tide event and the applied cause are raised. DEDUCED, log 50: several slots whose instants have come apply in slot order. -/
def Obligations.LocalTides : Prop := LocalTidesRules ∧ TideAppliesRules

/-! ### P18 loads and stores outside SRAM -/

/-- R7: the value of the `n` nonets from nonet address `a` on, where `w` gives the word of each pair of nonets. -/
def Sys2Proof.Machine.nonetsOf (w : Nat → Word) (a n : Nat) : Nat :=
  (List.range n).foldl (fun v i => let x := (w ((a + i) / 2)).toNat; v * 512 + if (a + i) % 2 = 0 then x / 512 else x % 512) 0

/-- R300, R301, R315, R316, R429: word `k` of the address space, of flash, the rootstock ROM, the one-time row, the berth store or the state RAM. The
key words of the one-time row read 0. -/
def Sys2Proof.Machine.wordAt (s : State) (k : Nat) : Word :=
  match regionOf (2 * k) with
  | .flash => (s.flashOf (k / 4)).d.extractLsb' (54 - 18 * (k % 4)) 18
  | .rom => Config.romWord (k - 0o030000000)
  | .otp => let i := k - 0o030400000; if 32 ≤ i ∧ i < 160 then 0 else otpWord s i
  | .bstore => let j := k - 0o031000000; (s.bstoreOf (j / 2)).extractLsb' (if j % 2 = 0 then 18 else 0) 18
  | .bram => BitVec.ofInt 18 (s.bramOf (k - 0o031400000))
  | _ => 0

/-- Line `l` of flash is read without error: its block's erase completed, its data are defined, and its check bits show no error. -/
def Sys2Proof.Machine.LineGood (s : State) (l : Nat) : Prop :=
  (s.flBlkOf (l / 1024)).ecomp = true ∧ (s.flashOf l).undef = false ∧ (s.flashOf l).ecc = .good

/-- R9, R199, R229, R230, R232, R234, R235, R301, R307, R315, R316: every load of an allowed access outside SRAM. From idle flash, the ROM and the one-time row,
where the data cache has not the blocks, the value stands in memory, and outside SLACK the cache then holds the last block; where the cache
has the block, the value comes from it; a busy flash bank gives its status word in every word, a buffered flash store holds the load, and an uncorrectable
line traps. Berth store and state RAM give their words, the state RAM once the tandem queue is empty; the tide alias reads 0; a register of
peripheral space that R11 alone governs gives its value once no store to peripheral space is buffered. Which block leaves a full cache is log 27, and that a load of two lines of a busy bank
reads twice log 118 (DESIGN CHOICE). -/
def Sys2Proof.Machine.LoadsElsewhereRules : Prop :=
  ∀ e ∈ loadTable, ∀ (t : Nat) (c : Fin 16) (mx : Bool) (x : Fields) (s : State), CoreReady t s c.val →
    let u := issued t c s
    let h := atIssue t c s
    let ea := h.ea mx x
    let a := ea.toNat
    let n := e.2.1
    let z := a + n - 1
    let r := regionOf a
    let bank := a / 0o010000000
    let calm := ∀ y ∈ h.sb, regionOf y.ea ≠ .flash
    let served := slack u = false ∧ (r = .flash → u.get F.FL_BSTAT_mlvl bank = 0)
    (mx = true → x.b20 = 0) → e.2.2.1 x → capCheck (h.cap x.kc) [permLD] ea n = none → accessOk a n false = true →
    (∀ (_ : r = .rom ∨ r = .otp ∨ (r = .flash ∧ calm ∧ z / 0o010000000 = bank ∧ (u.flOf bank).run = none ∧ u.get F.FL_BSTAT_mlvl bank = 0 ∧
        ∀ l, 4 * (a / 32) ≤ l → l < 4 * (z / 32 + 1) → LineGood u l)), Store.wf (fun _ => none) h.dc = true →
      (slack u = true ∨ (Store.get (fun _ => none) h.dc (a / 32) = none ∧ Store.get (fun _ => none) h.dc (z / 32) = none)) →
      Does (e.1 t c mx x) s (fun s' => s' = { u with core := s'.core, free := s'.free } ∧ SameCoreBut c s s' ∧
        Settled none (e.2.2.2 { h with dc := (s'.coreOf c).dc } x (nonetsOf (wordAt u) a n) false).advance (s'.coreOf c) ∧
        (slack u = true → (s'.coreOf c).dc = h.dc) ∧
        (slack u = false → ∃ v, Store.get (fun _ => none) (s'.coreOf c).dc (z / 32) = some v ∧ ∀ i < 16, blockWord v i = wordAt u (z / 32 * 16 + i)))) ∧
    (∀ v, r = .rom ∨ r = .otp ∨ (r = .flash ∧ calm) → served → z / 32 = a / 32 → Store.get (fun _ => none) h.dc (a / 32) = some v →
      Completes (e.1 t c mx x) t c s (e.2.2.2 h x (nonetsOf (fun k => blockWord v (k % 16)) a n) false)) ∧
    (r = .flash → calm → z / 8 = a / 8 → (u.flOf bank).run.isSome = true → (served → Store.get (fun _ => none) h.dc (a / 32) = none) →
      let f := u.flOf bank
      Does (e.1 t c mx x) s (fun s' => s' = { u with core := s'.core, fl := s'.fl } ∧ SameCoreBut c s s' ∧ s'.flOf bank = { f with toggle := !f.toggle } ∧
        (∀ b, b ≠ bank → s'.flOf b = u.flOf b) ∧ Settled none (e.2.2.2 h x (nonetsOf (fun _ => if f.toggle then 0o200000#18 else 0) a n) false).advance (s'.coreOf c))) ∧
    (r = .flash → ¬ calm → Stalls (e.1 t c mx x) t c s h) ∧
    (r = .flash → calm → slack u = true → z / 8 = a / 8 → (u.flOf bank).run = none → u.get F.FL_BSTAT_mlvl bank = 0 → (u.flBlkOf (a / 8192)).ecomp = true →
      (u.flashOf (a / 8)).undef = false → (u.flashOf (a / 8)).ecc = .bad → Traps (e.1 t c mx x) t c s 10 ea) ∧
    (r = .bstore ∨ (r = .bram ∧ h.tq = []) → h.sb = [] → Completes (e.1 t c mx x) t c s (e.2.2.2 { h with drain := false } x (nonetsOf (wordAt u) a n) false)) ∧
    (r = .bram → h.tq ≠ [] → Stalls (e.1 t c mx x) t c s h) ∧
    (r = .tide → Completes (e.1 t c mx x) t c s (e.2.2.2 h x 0 false)) ∧
    (r = .periph → (∃ y ∈ h.sb, regionOf y.ea = .periph) → Stalls (e.1 t c mx x) t c s h) ∧
    (∀ (m : RegName) (i : Nat) (al : Alias), r = .periph → (∀ y ∈ h.sb, regionOf y.ea ≠ .periph) → Reaches a m i al → m ∈ plainRegs → n = m.size → m.hasRc = false →
      m ≠ .LK_GSTAT → m ≠ .GT_DREP → (∀ f ∈ m.row.fields, f.kind ≠ .wo) → (∀ w, cuOfReg m i = some w → (u.cuOf w).held = []) →
      Completes (e.1 t c mx x) t c s (e.2.2.2 h x (u.reg m i).toNat false))

/-- R94, R98, R228, R291, R294, R303, R304: every store of an allowed access outside SRAM enters the store buffer, in SLACK too, or waits for a full one. The oldest
entry of the buffer acts: on the berth store, where no armed berth's program holds the instruction and no tide of this timer cycle wrote it; on
the state RAM, where no engine write of the same cycle stands; and on the tide alias, on flash and on peripheral space it is the command that stages,
ends the sequence, or writes the register. -/
def Sys2Proof.Machine.StoresElsewhereRules : Prop :=
  (∀ e ∈ storeTable, ∀ (t : Nat) (c : Fin 16) (mx : Bool) (x : Fields) (s : State), CoreReady t s c.val →
    let h := atIssue t c s
    let ea := h.ea mx x
    let n := e.2.1
    let tag := e.2.2.2.2 h x
    (mx = true → x.b20 = 0) → e.2.2.1 x → capCheck (h.cap x.kc) (if tag then [permST, permSK] else [permST]) ea n = none →
    accessOk ea.toNat n true = true → regionOf ea.toNat ≠ .sram →
    (h.sb.length < 8 → Completes (e.1 t c mx x) t c s
      { h with sb := h.sb ++ [⟨ea.toNat, n, BitVec.ofNat 72 (e.2.2.2.1 h x), n == 8, tag⟩] }) ∧
    (8 ≤ h.sb.length → Waits (e.1 t c mx x) t c s)) ∧
  ∀ (t : Nat) (c : Fin 16) (s : State) (e : SbEntry) (l : List SbEntry), (s.coreOf c).sb = e :: l →
    let now := max s.now t
    let k := e.ea / 2
    let m := e.size / 2
    let dbl := e.size == 4
    let d : DWord := BitVec.ofNat 36 (e.data.toNat % 2 ^ (9 * e.size))
    let u := s.setCore c { s.coreOf c with sb := l }
    let word (i : Nat) : Word := BitVec.ofNat 18 (d.toNat / 2 ^ (18 * (m - 1 - i)))
    let armed := ∃ i < m, ∃ b ∈ s.armed, s.get F.BERTH_PROG_base b ≤ (k - 0o031000000 + i) / 2 ∧ (k - 0o031000000 + i) / 2 ≤ s.get F.BERTH_PROG_base b + s.get F.BERTH_PROG_lenm1 b
    (e.size = 2 ∨ e.size = 4) →
    (regionOf e.ea = .bstore → e.ea % 2 = 0 →
      (armed → Does (.storePerform t c) s (fun s' => s'.is F.ENG_STAT_stwerr 0 = true ∧ s'.bstore = s.bstore ∧ s'.core = u.core)) ∧
      (¬ armed → Does (.storePerform t c) s (fun s' => s' = { u with now := now, out := [], bstore := s'.bstore } ∧ ∀ j, 0o031000000 ≤ j → j < 0o031100000 →
        wordAt s' j = if k ≤ j ∧ j < k + m ∧ s.bstoreAtOf ((j - 0o031000000) / 2) ≠ now / 64 + 1 then word (j - k) else wordAt s j))) ∧
    (regionOf e.ea = .bram → e.ea % 2 = 0 → Does (.storePerform t c) s (fun s' => s' = { u with now := now, out := [], bram := s'.bram } ∧
      ∀ j, s'.bramOf j = if k ≤ 0o031400000 + j ∧ 0o031400000 + j < k + m ∧ (s.engWOf j).map (·.at_) ≠ some (edgeCeil now) then (word (0o031400000 + j - k)).toInt else s.bramOf j)) ∧
    (regionOf e.ea = .tide → exec (.storePerform t c) s = exec (.tideStage t c (BitVec.ofNat 27 e.ea) dbl d) u) ∧
    (regionOf e.ea = .periph → ∀ r : Fin 8, capCheck ((s.coreOf c).cap r) [permST] e.ea e.size = none → periphStorable e.ea e.size = true →
      exec (.storePerform t c) s = exec (.registerWrite t (.core c) r (BitVec.ofNat 27 e.ea) dbl d) u) ∧
    (∀ b : Fin 4, regionOf e.ea = .flash → e.ea / 0o010000000 = b → (e.ea + e.size - 1) / 0o010000000 = b →
      let off : BitVec 21 := BitVec.ofNat 21 (e.ea % 0o010000000)
      let f := s.flOf b
      (∀ line data, flStep f.seq b off.toNat dbl d.toNat = .done (.program line data false) → exec (.storePerform t c) s = exec (.lineProgram t b off dbl d) u) ∧
      (∀ q, flStep f.seq b off.toNat dbl d.toNat = .go q → Does (.storePerform t c) s (fun s' => s' = { u with now := now, out := [], fl := s'.fl } ∧
        s'.flOf b = { f with seq := q } ∧ ∀ b', b' ≠ b.val → s'.flOf b' = s.flOf b')) ∧
      (flStep f.seq b off.toNat dbl d.toNat = .brk → Does (.storePerform t c) s (fun s' => s'.get F.FL_BSTAT_err b = 1 ∧ s'.flOf b = { f with seq := .start } ∧ s'.flash = s.flash)) ∧
      (∀ v : Word, dbl = false → d = v.setWidth 36 → (f.seq = .start → off.toNat = 0o12524 → v = 0o252525#18 → flStep f.seq b off.toNat dbl d.toNat = .go .u1) ∧
        (f.seq = .u1 → off.toNat = 0o5252 → v = 0o525252#18 → flStep f.seq b off.toNat dbl d.toNat = .go .u2)))

/-- R9, R199, R229, R230, R232, R234, R235, R301, R307, R315, R316: every load of an allowed access outside SRAM. From idle flash, the ROM and the one-time row, where the data cache has not the blocks, the value stands in memory, and outside SLACK the cache then holds the last block; where the cache has the block, the value comes from it; a busy flash bank gives its status word in every word, a buffered flash store holds the load, and an uncorrectable line traps. Berth store and state RAM give their words, the state RAM once the tandem queue is empty; the tide alias reads 0; a register of peripheral space that R11 alone governs gives its value once no store to peripheral space is buffered. Which block leaves a full cache is log 27, and that a load of two lines of a busy bank reads twice log 118 (DESIGN CHOICE). R94, R98, R228, R291, R294, R303, R304: every store of an allowed access outside SRAM enters the store buffer, in SLACK too, or waits for a full one. The oldest entry of the buffer acts: on the berth store, where no armed berth's program holds the instruction and no tide of this timer cycle wrote it; on the state RAM, where no engine write of the same cycle stands; and on the tide alias, on flash and on peripheral space it is the command that stages, ends the sequence, or writes the register. -/
def Obligations.OtherRegions : Prop := LoadsElsewhereRules ∧ StoresElsewhereRules

/-! ### Survey converters, manifests, flash and the journal -/

/-- R170 to R176, R178: an enable begins entry 0 and is refused with cfgerr for a bad entry; clearing en ends the window without a result; a window opens after the pre-delay, its charge over its length, rounded and
saturated, is the result, which arrives 2 µs after the close with its flags and the burn-out test; an accepted mains edge, the hiset event of comparator MT_CTL.wc, is a boundary, one too early a glitch; with no edge by the limit fallback begins, with a boundary every 20 ms. -/
def Sys2Proof.Machine.SurveyRules : Prop :=
  ∀ (t : Nat) (c : Fin 4) (v : Word) (s : State), let now := max s.now t
    let h := s.scOf c
    let i := 64 * c.val + s.get F.SC_STAT_entry c
    let Frame (l : List RegName) (s' : State) : Prop := s' = { s with now := now, out := s'.out, regs := s'.regs, hw := s'.hw, sc := s'.sc, mt := s'.mt, vsrc := s'.vsrc } ∧
      RegsKept ([.VU_PEND, .VU_LOST] ++ l) s s'
    let Bad (e : Nat) : Prop := let j := 64 * c.val + e
      65 < s.get F.SC_SEQA_ch j ∨ s.get F.SC_SEQA_wk j = 3 ∨ (s.get F.SC_SEQA_wk j = 2 ∧ s.get F.SC_SEQB_wp j = 0) ∨
        (s.get F.SC_SEQA_wk j = 1 ∧ 255 < s.get F.SC_SEQB_wp j)
    let n := F.SC_CTL_lenm1.of v.toNat
    (s.is F.SC_CTL_en c = false → HwIdle t .SC_CTL c s → v.getLsbD 17 = true →
      ((∃ e ≤ n, Bad e) → Does (.surveyEnable t c v) s (fun s' => Frame [.SC_STAT] s' ∧ s'.is F.SC_STAT_cfgerr c = true ∧ s'.sc = s.sc)) ∧
      ((∀ e ≤ n, ¬ Bad e) → Does (.surveyEnable t c v) s (fun s' => Frame [.SC_CTL, .SC_STAT] s' ∧ s'.is F.SC_CTL_en c = true ∧
        s'.get F.SC_CTL_lenm1 c = n ∧ s'.get F.SC_STAT_entry c = 0 ∧ s'.get F.SC_STAT_rep c = 0 ∧ (s'.scOf c).win = none ∧
        (s'.scOf c).from_ = now + 64000 * s.get F.SC_SEQA_pre (64 * c.val) ∧ (s'.scOf c).res = h.res))) ∧
    (s.is F.SC_CTL_en c = true → HwIdle t .SC_CTL c s → v.getLsbD 17 = false → n = s.get F.SC_CTL_lenm1 c → Does (.surveyDisable t c v) s (fun s' =>
      Frame [.SC_CTL] s' ∧ s'.is F.SC_CTL_en c = false ∧ s'.scOf c = { h with openAt := none, win := none })) ∧
    (s.is F.SC_CTL_en c = true → h.win = none → s.get F.SC_SEQA_wk i = 2 → h.from_ ≤ now →
      Does (.surveyWindowOpen t c) s (fun s' => Frame [] s' ∧ ∃ sh, (s'.scOf c).win =
        some ⟨h.from_, 1, some (h.from_ + 64000 * s.get F.SC_SEQB_wp i), false, false, sh⟩)) ∧
    (∀ w x (q : Int), h.win = some w → w.closeAt = some x → x ≤ now → w.openAt < x →
      let y := roundQ (q / (x - w.openAt : Nat))
      Does (.surveyWindowClose t c q) s (fun s' => Frame [.SC_STAT] s' ∧
        (∃ p, (s'.scOf c).res = h.res ++ [p] ∧ p.due = x + 128000 ∧ p.ch = s.get F.SC_SEQA_ch i ∧ p.value = max (-559241) (min y 8388607) ∧
          p.ovr = decide ((q : ℚ) / (x - w.openAt : Nat) < -8388608 / 15 ∨ 8388608 < (q : ℚ) / (x - w.openAt : Nat)) ∧ p.fb = w.fb ∧ p.shared = w.shared ∧ p.bo = s.is F.SC_SEQA_bo i) ∧
        (s.get F.SC_STAT_rep c < s.get F.SC_SEQA_repm1 i → ∃ w', (s'.scOf c).win = some w' ∧ w'.openAt = x) ∧
        (s.get F.SC_SEQA_repm1 i ≤ s.get F.SC_STAT_rep c → (s'.scOf c).win = none ∧
          s'.get F.SC_STAT_entry c = (if s.get F.SC_STAT_entry c < s.get F.SC_CTL_lenm1 c then s.get F.SC_STAT_entry c + 1 else 0)))) ∧
    (∀ p l, h.res = p :: l → p.due ≤ now →
      let bo := p.bo && decide ((s.get F.SC_BOTHR_th 0 : ℚ) / 1000 < p.value * 3 / 2 / 8388608)
      Does (.surveyResult t c) s (fun s' => Frame [.SV_RES, .SC_STAT] s' ∧ (s'.scOf c).res = l ∧
        s'.getS F.SV_RES_value p.ch = (BitVec.ofInt 24 p.value).toInt ∧ s'.get F.SV_RES_seq p.ch = (s.get F.SV_RES_seq p.ch + 1) % 256 ∧
        s'.is F.SV_RES_ovr p.ch = p.ovr ∧ s'.is F.SV_RES_fb p.ch = p.fb ∧ s'.is F.SV_RES_shared p.ch = p.shared ∧
        s'.is F.SV_RES_open p.ch = bo ∧ (bo = true → s'.is F.SC_STAT_open c = true))) ∧
    (∀ l, s.mt.last = some l → s.is F.MT_CTL_en 0 = true → s.is F.MT_STAT_fb 0 = false →
      let lo := l + 64000 * s.get F.MT_LIM_pmin 0
      let hi := l + 64000 * s.get F.MT_LIM_pmax 0
      let edge := s.srcAtOf (srcKey 4 (s.get F.MT_CTL_wc 0) 0) = some (now : Int) ∧ s.mt.took ≠ some now
      (¬ edge → Does (.mainsEdge t) s (fun s' => s' = { s with now := now, out := [] })) ∧
      (edge → now < lo → now ≤ hi → Does (.mainsEdge t) s (fun s' => Frame [.MT_STAT] s' ∧ s'.is F.MT_STAT_glitch 0 = true ∧
        s'.mt = { s.mt with took := some now } ∧ s'.sc = s.sc)) ∧
      (edge → lo ≤ now → now ≤ hi → l ≤ now → Does (.mainsEdge t) s (fun s' => Frame [.MT_STAT] s' ∧ s'.get F.MT_STAT_period 0 = (now - l) / 64 % 2 ^ 29 ∧
        s'.mt = { s.mt with bnd := some (now, false), last := some now, took := some now })) ∧
      (hi ≤ now → Does (.mainsFallback t) s (fun s' => Frame [.MT_STAT] s' ∧ s'.is F.MT_STAT_fb 0 = true ∧
        s'.mt = { s.mt with bnd := some (hi, true), last := some hi, next := some (hi + 1280000000), edges := [] }))) ∧
    (∀ x, s.mt.next = some x → (s.is F.MT_STAT_fb 0 = true ∨ s.is F.MT_CTL_en 0 = false) → x ≤ now →
      Does (.fallbackBoundary t) s (fun s' => Frame [] s' ∧ s'.mt = { s.mt with bnd := some (x, true), last := some x, next := some (x + 1280000000) }))

/-- R179 to R186: at a tick boundary each enabled manifest whose channels were metered throughout adds the tick's energy, squares and time, in 2^-20 of the register LSB; a tick without its channels sets gap alone; a demand interval gives its average, a due
tariff takes force, a power failure freezes, a requested view is taken; a load copies the view registers into the live state and is refused while en is 1; an armed tariff waits. At each
millisecond the slice image is written to its 4,096 words of BK63, in a layout that the manual leaves open (log entry 70). Ties round away from zero (log entry 69), and the accounts wrap at 2^92 (log entry 99): the model's readings. -/
def Sys2Proof.Machine.MeteringRules : Prop :=
  (∀ (t : Nat) (q : List (Nat × Int)) (s : State), let now := max s.now t
    let micros := s.tbAt now / 64000
    let T := now - s.mfu.tickAt
    s.rung < 3 → s.mfu.tickAt < now → tbPast (s.tbAt now) ((s.mfu.tickUs + 1) * 64000 % tbWrap) = true →
    Does (.meteringTick t q) s (fun s' =>
      s' = { s with now := now, out := s'.out, regs := s'.regs, hw := s'.hw, mf := s'.mf, mfu := s'.mfu, journal := s'.journal, srcAt := s'.srcAt, vsrc := s'.vsrc,
                     sram := s'.sram } ∧
      (∀ i < sliceBase, s'.sramOf i = s.sramOf i) ∧ (micros % 1000 ≠ 0 → s'.sram = s.sram) ∧
      (micros % 1000 = 0 → (∀ i < 4096, s'.sramOf (63 * 32768 + 28672 + i) = ⟨Config.sliceWord (sliceNums s'.mfu.slice) i, false, .good⟩) ∧
        ∀ k < 32, s.is F.MF_CTL_en k = true → (Store.get (fun _ => none) s'.mfu.slice k).map (fun m => (m.acc, m.tar)) =
          some ((s'.mfOf k).acc, s'.get F.MF_CTL_tar k)) ∧
      (∀ i, i / 2048 ≠ 18 → s'.srcAtOf i = s.srcAtOf i) ∧
      s'.mfu.tickAt = now ∧ s'.mfu.tickUs = micros ∧
      ∀ k < 32, let h := s.mfOf k
        let h' := s'.mfOf k
        let vch := s.get F.MF_SRC_vch k
        let ich := s.get F.MF_SRC_ich k
        let val (ch : Nat) : ℚ := (((q.find? (fun p => p.1 == ch)).map (·.2)).getD 0 * 65536 / T) * (1 + s.getS F.ICH_GAINC_c ch / 2097152) +
          s.getS F.ICH_OFFC_o ch / 16
        let sum (a b : ℚ) : Int := roundQ (a * b * T / (64000 * 2 ^ 14) * 2 ^ 20)
        let p := sum (val vch) (val ich)
        let tar := s.get F.MF_CTL_tar k
        let dmin := s.get F.MF_CTL_dmin k
        let sec := micros / 1000000 % 2 ^ 36
        let ends := micros % 1000000 = 0 ∧ sec % (60 * dmin) = 0
        let metered (ch : Nat) : Prop := s.is F.ICH_STAT_ready ch = true ∧ (s.ichOf ch).readyAt ≤ s.mfu.tickAt
        s.is F.MF_CTL_en k = true → s.is F.MF_STAT_frozen k = false →
        (h.live = true → metered vch → metered ich → ¬ ends → h'.dacc = h.dacc + p ∧ h'.acc.time = (h.acc.time + T * 2 ^ 20) % 2 ^ 92 ∧
          h'.acc.v2 = (h.acc.v2 + (sum (val vch) (val vch)).toNat) % 2 ^ 92 ∧ h'.acc.i2 = (h.acc.i2 + (sum (val ich) (val ich)).toNat) % 2 ^ 92 ∧
          (0 ≤ p → h'.acc.imp = h.acc.imp.set tar ((h.acc.imp.getD tar 0 + p.toNat) % 2 ^ 92) ∧ h'.acc.exp = h.acc.exp) ∧
          (p < 0 → h'.acc.exp = h.acc.exp.set tar ((h.acc.exp.getD tar 0 + (-p).toNat) % 2 ^ 92) ∧ h'.acc.imp = h.acc.imp)) ∧
        (h.live = true → ¬ (metered vch ∧ metered ich) → ¬ ends → h'.acc = h.acc ∧ h'.dacc = h.dacc ∧ s'.is F.MF_STAT_gap k = true) ∧
        (h.live = false → ends → 0 < dmin → let d := satI (roundQ (h.dacc / 2 ^ 20 * 131072 / (60000000 * dmin * 2 ^ 20)))
          h'.dlast = (d, sec, h.part) ∧ h'.dacc = 0 ∧ h'.part = false ∧ Out.fabric 18 k 0 now ∈ s'.out ∧
          h'.acc.dmax = (if h.part = false ∧ (h.acc.dmax.getD tar (0, 0)).1 < d then h.acc.dmax.set tar (d, sec) else h.acc.dmax)) ∧
        (h.tideTar = none → s.is F.MF_CTL_tarm k = true → tbPast (micros * 64000) (tbJoin (s.get F.MF_TCHG_s k) 0) = true →
          s'.get F.MF_CTL_tar k = s.get F.MF_CTL_ntar k ∧ s'.is F.MF_CTL_tarm k = false ∧ Out.fabric 18 k 1 now ∈ s'.out) ∧
        (s'.is F.MF_STAT_frozen k = s.is F.PWR_PFSTAT_act 0) ∧
        (s.is F.MF_STAT_vpend k = true → s'.is F.MF_STAT_vpend k = false ∧
          getView s' .MF_VTIMEH .MF_VTIMEL k = h'.acc.time / 2 ^ 20 % 2 ^ 72 ∧ getView s' .MF_VV2H .MF_VV2L k = h'.acc.v2 / 2 ^ 20 % 2 ^ 72 ∧
          ∀ n < 8, getView s' .MF_VIMPH .MF_VIMPL (8 * k + n) = h'.acc.imp.getD n 0 / 2 ^ 20 % 2 ^ 72))) ∧
  (∀ (t : Nat) (k : Fin 32) (v : Word) (s : State), let now := max s.now t
    let sets (f : Fld) (s' : State) : Prop := s'.get f k = f.of v.toNat
    HwIdle t .MF_CTL k s →
    let Writes (i : Instr) : Prop := Does i s (fun s' => s' = { s with now := now, out := [], regs := s'.regs } ∧ RegsKept [.MF_CTL, .MF_STAT] s s' ∧
      OthersKept .MF_CTL k s s' ∧ OthersKept .MF_STAT k s s' ∧ sets F.MF_CTL_en s' ∧ sets F.MF_CTL_tarm s' ∧ sets F.MF_CTL_ntar s' ∧ sets F.MF_CTL_dmin s' ∧
      sets F.MF_CTL_ien s' ∧ s'.get F.MF_CTL_tar k = s.get F.MF_CTL_tar k ∧ s'.is F.MF_STAT_vpend k = (v.getLsbD 16 || s.is F.MF_STAT_vpend k))
    (v.getLsbD 15 = false → (s.is F.MF_CTL_en k = false ∨ F.MF_CTL_dmin.of v.toNat = s.get F.MF_CTL_dmin k) →
      (v.getLsbD 16 = true → Writes (.viewRequest t k v)) ∧ (v.getLsbD 14 = true → s.is F.MF_CTL_tarm k = false → Writes (.tariffArm t k v))) ∧
    (v.getLsbD 15 = true → s.is F.MF_CTL_en k = false → Does (.viewLoad t k v) s (fun s' => let h := s'.mfOf k
      s' = { s with now := now, out := [], regs := s'.regs, mf := s'.mf } ∧ RegsKept [.MF_CTL, .MF_STAT] s s' ∧ (∀ m, m ≠ k.val → s'.mfOf m = s.mfOf m) ∧
      s'.get F.MF_CTL_tar k = F.MF_CTL_ntar.of v.toNat ∧ h.dacc = 0 ∧ h.part = true ∧ h.acc.time = getView s .MF_VTIMEH .MF_VTIMEL k * 2 ^ 20 ∧
      h.acc.v2 = getView s .MF_VV2H .MF_VV2L k * 2 ^ 20 ∧ h.acc.i2 = getView s .MF_VI2H .MF_VI2L k * 2 ^ 20 ∧
      ∀ n < 8, h.acc.imp.getD n 0 = getView s .MF_VIMPH .MF_VIMPL (8 * k + n) * 2 ^ 20 ∧ h.acc.exp.getD n 0 = getView s .MF_VEXPH .MF_VEXPL (8 * k + n) * 2 ^ 20)) ∧
    (v.getLsbD 15 = true → s.is F.MF_CTL_en k = true → Does (.viewLoad t k v) s (fun s' => s' = { s with now := now, out := [], regs := s'.regs, hw := s'.hw } ∧
      RegsKept [.MF_STAT] s s' ∧ s'.is F.MF_STAT_cfgerr k = true ∧ s'.reg .MF_CTL k = s.reg .MF_CTL k)))

/-- R303 to R308, R310, R312, R315: a complete sequence starts its operation, with busy, op and the target's address, or is refused with the first reason of R305, and the sequence begins anew; a margin level and the reset command act at once; a program
ends with the line programmed, an erase with the block erased, a one-time word written, or with the verify's error. -/
def Sys2Proof.Machine.FlashRules : Prop :=
  ∀ (t : Nat) (b : Fin 4) (off : BitVec 21) (v : Word) (dv : DWord) (s : State), let now := max s.now t
    let h := s.flOf b
    let Frame (s' : State) : Prop := s' = { s with now := now, out := s'.out, regs := s'.regs, hw := s'.hw, fl := s'.fl, flash := s'.flash, flBlk := s'.flBlk, flWear := s'.flWear, otp := s'.otp, core := s'.core, journal := s'.journal, vsrc := s'.vsrc, free := s'.free } ∧
      RegsKept [.FL_BSTAT, .FL_BADDR, .MFU_JSTAT, .PWR_PFSTAT, .VU_PEND, .VU_LOST] s s' ∧ OthersKept .FL_BSTAT b s s' ∧ OthersKept .FL_BADDR b s s' ∧
      ∀ m, m ≠ b.val → s'.flOf m = s.flOf m
    let Ended (s' : State) : Prop := Frame s' ∧ s'.is F.FL_BSTAT_busy b = !h.jq.isEmpty ∧
      s'.flOf b = (match h.jq with | [] => { h with run := none } | op :: q => { h with run := some ⟨op, now, true⟩, jq := q })
    let i := off.toNat / 2
    let prot (blk : Nat) : Prop := s.is F.FL_PROT_en 0 = true ∧ s.get F.FL_PROT_lo 0 ≤ blk ∧ blk ≤ s.get F.FL_PROT_hi 0
    let Ends (i : Instr) (op : FlOp) (two four : Bool) : Prop :=
      (two = false → h.run = none → four = false → s.is F.PWR_PFSTAT_act 0 = false → Does i s (fun s' => Frame s' ∧ s'.is F.FL_BSTAT_busy b = true ∧
        s'.get F.FL_BSTAT_op b = op.code ∧ s'.is F.FL_BSTAT_jrn b = false ∧ s'.get F.FL_BADDR_addr b = op.addr % 2 ^ 27 ∧
        s'.flOf b = { h with seq := .start, run := some ⟨op, now, false⟩ } ∧ s'.flash = s.flash ∧ s'.otp = s.otp)) ∧
      (∀ e, e = (if two then 2 else if h.run ≠ none then 3 else if four then 4 else if s.is F.PWR_PFSTAT_act 0 then 7 else 0) → e ≠ 0 →
        Does i s (fun s' => Frame s' ∧ s'.get F.FL_BSTAT_err b = e ∧ s'.flOf b = { h with seq := .start } ∧ s'.flash = s.flash ∧
          s'.flBlk = s.flBlk ∧ s'.otp = s.otp))
    (∀ l ws, h.seq = .line (some l) ws false → ws.length = 3 → off.toNat = 8 * l + 6 →
      let line := b.val * 262144 + l
      Ends (.lineProgram t b off false (v.setWidth 36)) (.program line (lineOf (ws ++ [v])) false) (decide (prot (line / 1024)))
        ((s.flashOf line).prog || !(s.flBlkOf (line / 1024)).ecomp)) ∧
    (∀ l ws, h.seq = .line (some l) ws true → ws.length = 2 → off.toNat = 8 * l + 4 →
      let line := b.val * 262144 + l
      Ends (.lineProgram t b off true dv) (.program line (lineOf (ws ++ [dv.extractLsb' 18 18, dv.extractLsb' 0 18])) false) (decide (prot (line / 1024)))
        ((s.flashOf line).prog || !(s.flBlkOf (line / 1024)).ecomp)) ∧
    (h.seq = .eraseU2 → v = 0o60 → off.toNat % 2 = 0 →
      Ends (.blockErase t b off v) (.erase (b.val * 256 + off.toNat / 8192)) (decide (prot (b.val * 256 + off.toNat / 8192))) false) ∧
    (b = 0 → h.seq = .otp → off.toNat % 2 = 0 → off.toNat < 1024 →
      Ends (.otpWordProgram t off v) (.otp i v) (decide (s.is F.FL_OTPLK_lk 0 = true ∨ i < 8 ∨ (24 ≤ i ∧ i < 32) ∨ 480 ≤ i)) (s.otpOf i).isSome) ∧
    (h.seq = .u2 → off.toNat = 0o12524 → 0o110 ≤ v.toNat → v.toNat ≤ 0o114 → Does (.marginLevel t b off v) s (fun s' => Frame s' ∧
      (if h.run ≠ none then s'.get F.FL_BSTAT_err b = 3 else if s.is F.PWR_PFSTAT_act 0 = true then s'.get F.FL_BSTAT_err b = 7 else s'.get F.FL_BSTAT_mlvl b = v.toNat - 0o110) ∧ s'.flOf b = { h with seq := .start } ∧ s'.flash = s.flash)) ∧
    (h.seq = .start → off.toNat % 2 = 0 → v = 0o360 → Does (.flashReset t b off v) s (fun s' => Frame s' ∧
      s'.get F.FL_BSTAT_mlvl b = 0 ∧ s'.get F.FL_BSTAT_err b = 0 ∧ s'.flOf b = h ∧ s'.flash = s.flash)) ∧
    (∀ (l : Nat) (d : BitVec 72) (c : Bool) (st : Nat) (j ok : Bool), h.run = some ⟨.program l d c, st, j⟩ →
      Does (.lineProgramDone t b ok) s (fun s' => Ended s' ∧ (j = false → s'.journal = s.journal) ∧ (j = true → ok = false → s'.is F.MFU_JSTAT_err 0 = true) ∧
        (j = true → s'.journal.full = if c then ((if ok then s.journal.next.headD none else none).or s.journal.full) else s.journal.full) ∧ s'.is F.FL_BSTAT_done b = true ∧
        (s'.flashOf l).prog = true ∧ (ok = true → s'.flashOf l = { d := d, prog := true, undef := false, ecc := .good }) ∧
        (ok = false → (s'.flashOf l).undef = true ∧ s'.get F.FL_BSTAT_err b = 5) ∧
        ∀ m, m ≠ l → s'.flashOf m = s.flashOf m)) ∧
    (∀ (blk : Nat) (st : Nat) (j ok : Bool), h.run = some ⟨.erase blk, st, j⟩ →
      Does (.eraseDone t b ok) s (fun s' => Ended s' ∧ (j = true → ok = false → s'.is F.MFU_JSTAT_err 0 = true) ∧ s'.is F.FL_BSTAT_done b = true ∧
        (ok = true → (h.jq.head? ≠ some (.erase blk) → (s'.flBlkOf blk).ecomp = true) ∧ ∀ m, s'.flashOf m = if m / 1024 = blk then {} else s.flashOf m) ∧
        (ok = false → s'.get F.FL_BSTAT_err b = 6 ∧ s'.flash = s.flash))) ∧
    (∀ (k : Nat) (x : Word) (st : Nat) (ok : Bool), b = 0 → h.run = some ⟨.otp k x, st, false⟩ →
      Does (.otpProgramDone t ok) s (fun s' => Ended s' ∧ s'.is F.FL_BSTAT_done b = true ∧
        (ok = true → s'.otpOf k = some x) ∧ (ok = false → (s'.otpOf k).isSome = true ∧ s'.get F.FL_BSTAT_err b = 5) ∧
        ∀ m, m ≠ k → s'.otpOf m = s.otpOf m))

/-- R188, R189, R191 (with log entries 135, 136): a periodic record is written from the slice where the block has room for it and for a full record after it, full as the first of a block, a forced one full; without room the periodic one is skipped, also behind a forced one, which waits; the power-fail record
is written from the frozen slice against the latest full record. A written record takes the next sequence number and the lines after those of the block. -/
def Sys2Proof.Machine.JournalRules : Prop :=
  ∀ (t : Nat) (s : State), let now := max s.now t
    let j := s.journal
    let bank := jrnBlk s j.cur / 256
    let Frame (s' : State) : Prop := s' = { s with now := now, out := s'.out, regs := s'.regs, hw := s'.hw, fl := s'.fl, flBlk := s'.flBlk, flWear := s'.flWear, journal := s'.journal, vsrc := s'.vsrc } ∧
      RegsKept [.FL_BSTAT, .FL_BADDR, .MFU_JSTAT, .PWR_PFSTAT, .VU_PEND, .VU_LOST] s s'
    let ops (ls : List (BitVec 72)) : List FlOp := (ls.zip (List.range ls.length)).map (fun p =>
      FlOp.program (jrnBlk s j.cur * 1024 + j.pos + p.2) p.1 (p.2 + 1 == ls.length))
    let Written (s' : State) (ls : List (BitVec 72)) (full : Bool) : Prop := Frame s' ∧ s'.journal.seq = (j.seq + 1) % 2 ^ 36 ∧
      s'.journal.pos = j.pos + ls.length ∧ s'.journal.fresh = false ∧ s'.journal.next = j.next ++ [if full then some (j.seq, s.mfu.slice) else none] ∧
      (∀ op q, ops ls = op :: q → (s'.flOf bank).run = some ⟨op, now, true⟩ ∧ (s'.flOf bank).jq = q)
    let idle := (s.flOf bank).run = none ∧ (s.flOf bank).jq = []
    let room (n : Nat) : Prop := j.pos + n + fullLines s ≤ 1024 ∨ (j.pos + n ≤ 1024 ∧ blkErased s (jrnBlk s (j.cur + 1)) = true)
    let Moves (s' : State) (n : Nat) : Prop := Frame s' ∧ s'.journal.cur = (j.cur + 1) % 16 ∧ s'.get F.MFU_JSTAT_cur 0 = (j.cur + 1) % 16 ∧
      (if n + fullLines s ≤ 1024 then s'.journal.pos = n ∧ s'.journal.seq = (j.seq + 1) % 2 ^ 36 ∧ s'.journal.next = j.next ++ [some (j.seq, s.mfu.slice)]
        else s'.journal.pos = 0 ∧ s'.journal.seq = j.seq ∧ s'.journal.next = j.next)
    s.is F.MFU_JCTL_en 0 = true → (sliceSections s).isEmpty = false →
    (s.is F.PWR_PFSTAT_act 0 = false → j.forceDue = false → tbPast (s.mfu.sliceUs * 64000) (j.perUs * 64000) = true →
      let ls := record s j.fresh false 0
      let per := s.mfu.sliceUs + s.get F.MFU_JPER_per 0 * 100000
      (room ls.length → idle → Does (.periodicRecord t) s (fun s' => Written s' ls j.fresh ∧ s'.journal.perUs = per ∧
        s'.get F.MFU_JSTAT_skip 0 = s.get F.MFU_JSTAT_skip 0)) ∧
      (1024 < j.pos + ls.length + fullLines s → blkErased s (jrnBlk s (j.cur + 1)) = false → Does (.periodicRecord t) s (fun s' => Frame s' ∧
        s'.is F.MFU_JSTAT_skip 0 = true ∧ s'.journal = { j with perUs := per } ∧ s'.fl = s.fl)) ∧
      (1024 < j.pos + ls.length → blkErased s (jrnBlk s (j.cur + 1)) = true → idle → jrnBlk s (j.cur + 2) / 256 = bank → Does (.periodicRecord t) s (fun s' => Moves s' (record s true false 0).length ∧
        s'.journal.perUs = per))) ∧
    (s.is F.PWR_PFSTAT_act 0 = false → j.forceDue = true →
      let ls := record s true false 0
      (1024 < j.pos + ls.length + fullLines s → blkErased s (jrnBlk s (j.cur + 1)) = false → tbPast (s.mfu.sliceUs * 64000) (j.perUs * 64000) = true →
        Does (.periodicRecord t) s (fun s' => Frame s' ∧ s'.is F.MFU_JSTAT_skip 0 = true ∧ s'.fl = s.fl ∧
          s'.journal = { j with perUs := s.mfu.sliceUs + s.get F.MFU_JPER_per 0 * 100000 })) ∧
      (room ls.length → idle → Does (.forcedFullRecord t) s (fun s' => Written s' ls true ∧ s'.journal.forceDue = false)) ∧
      (1024 < j.pos + ls.length + fullLines s → blkErased s (jrnBlk s (j.cur + 1)) = false → Does (.forcedFullRecord t) s (fun s' => Frame s' ∧ s'.journal = j ∧ s'.fl = s.fl)) ∧
      (1024 < j.pos + ls.length → blkErased s (jrnBlk s (j.cur + 1)) = true → idle → jrnBlk s (j.cur + 2) / 256 = bank → Does (.forcedFullRecord t) s (fun s' => Moves s' ls.length))) ∧
    (s.is F.PWR_PFSTAT_act 0 = true → j.pf = false → s.mfu.frozenUs.isSome = true → idle →
      let ls := record s j.full.isNone true s.mfu.ticks
      (j.pos + ls.length ≤ 1024 → Does (.powerFailRecord t) s (fun s' => Written s' ls j.full.isNone ∧ s'.journal.pf = true)) ∧
      (1024 < j.pos + ls.length → Does (.powerFailRecord t) s (fun s' => Frame s' ∧ s'.journal.pf = true ∧ s'.journal.cur = (j.cur + 1) % 16 ∧ s'.get F.MFU_JSTAT_cur 0 = (j.cur + 1) % 16 ∧ s'.journal.pos = ls.length ∧
        s'.journal.seq = (j.seq + 1) % 2 ^ 36 ∧ s'.journal.next = j.next ++ [if j.full.isNone then some (j.seq, s.mfu.slice) else none])))

/-- R170 to R176, R178: an enable begins entry 0 and is refused with cfgerr for a bad entry; clearing en ends the window without a result; a window opens after the pre-delay, its charge over its length, rounded and saturated, is the result, which arrives 2 µs after the close with its flags and the burn-out test; an accepted mains edge, the hiset event of comparator MT_CTL.wc, is a boundary, one too early a glitch; with no edge by the limit fallback begins, with a boundary every 20 ms. R179 to R186: at a tick boundary each enabled manifest whose channels were metered throughout adds the tick's energy, squares and time, in 2^-20 of the register LSB; a tick without its channels sets gap alone; a demand interval gives its average, a due tariff takes force, a power failure freezes, a requested view is taken; a load copies the view registers into the live state and is refused while en is 1; an armed tariff waits. At each millisecond the slice image is written to its 4,096 words of BK63, in a layout that the manual leaves open (log entry 70). Ties round away from zero (log entry 69), and the accounts wrap at 2^92 (log entry 99): the model's readings. -/
def Obligations.SurveyAndMetering : Prop := SurveyRules ∧ MeteringRules

/-- R303 to R308, R310, R312, R315: a complete sequence starts its operation, with busy, op and the target's address, or is refused with the first reason of R305, and the sequence begins anew; a margin level and the reset command act at once; a program ends with the line programmed, an erase with the block erased, a one-time word written, or with the verify's error. R188, R189, R191 (with log entries 135, 136): a periodic record is written from the slice where the block has room for it and for a full record after it, full as the first of a block, a forced one full; without room the periodic one is skipped, also behind a forced one, which waits; the power-fail record is written from the frozen slice against the latest full record. A written record takes the next sequence number and the lines after those of the block. -/
def Obligations.FlashAndJournal : Prop := FlashRules ∧ JournalRules

/-! ### Timebase, clock sources, modes, power failure and sleep -/

/-- The frame of a command of the clocks and of the power controller: it may write the registers of the list `l`, the timebase, the PPS record, the edge
of the coarse clock, the power controller's record and outputs; nothing else. -/
def Sys2Proof.Machine.PwrFrame (t : Nat) (l : List RegName) (s s' : State) : Prop :=
  s' = { s with now := max s.now t, out := s'.out, regs := s'.regs, hw := s'.hw, tb := s'.tb, pps := s'.pps, pwr := s'.pwr, divAt := s'.divAt, free := s'.free, vsrc := s'.vsrc } ∧
    RegsKept (andVecs l) s s' ∧ ∀ m, m ≠ 4 → s'.divAtOf m = s.divAtOf m

/-- R321, R323, R324, R328, R334, R335: a write of TB_CTL with set = 1 brings the timebase to TB_SETH and TB_SETL at the next timer edge; a read of TB_NOWH returns the seconds and latches the subsecond for its
reader alone; a span without a step gives the ratio; a restart after a stop adds the coarse ticks by the ratio and the bound to TB_UNCERT.
DEDUCED, log 7: a write is stamped with its timer edge inside its own command. DESIGN CHOICES: log 93, the coarse ticks of a stop are the command's operand; log 116, the crystal lies within 200 ppm of its nominal rate. -/
def Sys2Proof.Machine.TimebaseRules : Prop :=
  ∀ (t : Nat) (s : State), let now := max s.now t
    let v := s.tbAt now
    (∀ w : Word, let x := s.get F.TB_SETH_v 0 * subUnits + s.get F.TB_SETL_v 0
      F.TB_CTL_set.of w.toNat = 1 → s.get F.TB_SETL_v 0 < subUnits → HwIdle t .TB_CTL 0 s → Does (.timebaseSet t w) s (fun s' =>
      s' = { s with now := now, out := [], regs := s'.regs, hw := s'.hw, tb := s'.tb, pps := s'.pps, mf := s'.mf, divAt := s'.divAt, free := s'.free } ∧ RegsKept [.TB_CTL, .TB_STAT] s s' ∧
      s'.tbAt (edgeAfter now) = x ∧ s'.tb.rho = s.tb.rho ∧ (s.tb.stopped = false → s.tb.t0 ≤ now → s'.tbAt now = v) ∧
      s'.get F.TB_CTL_mode 0 = F.TB_CTL_mode.of w.toNat ∧ s'.get F.TB_CTL_secld 0 = F.TB_CTL_secld.of w.toNat ∧ s'.get F.TB_CTL_pol 0 = F.TB_CTL_pol.of w.toNat ∧
      s'.is F.TB_STAT_valid 0 = true ∧ s'.is F.TB_STAT_lock 0 = false ∧
      (s.tbAt (edgeAfter now) ≠ x → s'.is F.TB_STAT_stepped 0 = true ∧ ∀ k < 32, (s'.mfOf k) = { s.mfOf k with part := true }) ∧
      (s.tbAt (edgeAfter now) = x → s'.is F.TB_STAT_stepped 0 = s.is F.TB_STAT_stepped 0 ∧ s'.mf = s.mf ∧ s'.tb = s.tb))) ∧
    (∀ q : Req, let key : Nat := match q with | .core c => c.val | _ => 16
      Does (.timebaseNowRead t q) s (fun s' => s' = { s with now := now, out := [.data (v / subUnits % 2 ^ 36)], tbLatch := s'.tbLatch } ∧
        s'.tbLatchOf key = v % subUnits ∧ ∀ m, m ≠ key → s'.tbLatchOf m = s.tbLatchOf m)) ∧
    (s.is F.TB_STAT_lock 0 = true → s.is F.TB_STAT_hold 0 = false → 2 ≤ s.get F.TB_CTL_mode 0 → s.is F.CLK_STAT_rc 0 = false → s.tb.stopped = false →
      let Spans (e : Nat) (v0 : Int) (step : Bool) : Prop := spanTicks e now = true → Does (.ratioSpan t) s (fun s' => PwrFrame t [.TB_XRATIO, .TB_STAT] s s' ∧ s'.out = [] ∧ s'.tb = s.tb ∧
        s'.pps.span = some (now, s.tb.fine now) ∧ s'.pps.spanFrom = none ∧ s'.pps.spanStep = false ∧ s'.divAtOf 4 = some now ∧
        (step = true → s'.is F.TB_STAT_cal 0 = s.is F.TB_STAT_cal 0 ∧ s'.get F.TB_XRATIO_q 0 = s.get F.TB_XRATIO_q 0) ∧
        (step = false → s'.is F.TB_STAT_cal 0 = true ∧ s'.pps.calAt = now ∧
          s'.get F.TB_XRATIO_q 0 = (roundQ (((s.tb.fine now - v0 : Int) : ℚ) / 2 ^ 32 * 4096 / 524288)).toNat % 2 ^ 36))
      (∀ x, s.pps.span = some x → s.pps.spanFrom = none → Spans x.1 x.2 s.pps.spanStep) ∧ (∀ e, s.pps.spanFrom = some e → e ≤ now → Spans e (s.tb.fine e) false)) ∧
    (s.is F.TB_STAT_cal 0 = true → s.pps.calAt + 86400 * 64000000000 ≤ now → Does (.calExpiry t) s (fun s' => PwrFrame t [.TB_STAT] s s' ∧
      s'.is F.TB_STAT_cal 0 = false ∧ s'.get F.TB_XRATIO_q 0 = s.get F.TB_XRATIO_q 0 ∧ s'.tb = s.tb)) ∧
    (∀ n : Nat, s.tb.stopped = true → s.rung < 4 → coarseFits (s.tick t) n true = true →
      let cal := s.is F.TB_STAT_cal 0 = true
      let q := if cal ∧ s.pwr.rcRan = false then s.get F.TB_XRATIO_q 0 else 8000000000
      let k : ℚ := if s.pwr.rcRan = true then 20000000 else if cal then 500 else 20000
      Does (.timebaseRestore t n) s (fun s' => PwrFrame t [.TB_UNCERT] s s' ∧ s'.out = [] ∧ s'.tb.stopped = false ∧ s'.tb.t0 = now ∧
        s'.tb.v0 = (s.tb.v0 + n * q * 2 ^ 32 / 4096) % (2 ^ 36 * 64000000000 * 2 ^ 32) ∧ s'.divAtOf 4 = some now ∧
        s'.tb.rho = max (-2147483) (min (s.getS F.TB_RATE_r 0 + s.getS F.TB_SLEW_s 0) 2147483) ∧
        (s'.get F.TB_UNCERT_ns 0 : ℚ) = min ((s.get F.TB_UNCERT_ns 0 : ℚ) + ⌈k * n / 32768⌉ + 1) (2 ^ 36 - 1)))

/-- R325 to R327: an edge of TB_CTL.pol is accepted within the window while lock = 1, and 500 ms after the previous one while lock = 0; an accepted edge acts by mode: none in MONITOR, a step to d in STEP and in SLEW without
lock, the slew and the rate in SLEW with lock; a rejected one is counted, and the fourth in a row clears lock. A step to a value that waits for a later edge is not lost when an edge is
accepted before it (R323). Holdover clears TB_SLEW and keeps TB_RATE. DEDUCED, log 68: a run of rejects ends at an accepted edge. -/
def Sys2Proof.Machine.PpsRules : Prop :=
  ∀ (t : Nat) (s : State), let now := max s.now t
    let mode := s.get F.TB_CTL_mode 0
    let lock := s.is F.TB_STAT_lock 0
    let Frame (l : List RegName) (s' : State) : Prop := s' = { s with now := now, out := s'.out, regs := s'.regs, hw := s'.hw, tb := s'.tb, pps := s'.pps, mf := s'.mf, srcAt := s'.srcAt, divAt := s'.divAt, free := s'.free, vsrc := s'.vsrc } ∧
      RegsKept (andVecs l) s s' ∧ SourcesKept 17 0 s s' ∧ ∀ m, m ≠ 4 → s'.divAtOf m = s.divAtOf m
    (∀ rising, let d := s.get F.TB_PPSDLY_d 0
      let c : Int := s.tbAt now % 64000000000
      let sec : Int := s.tbAt now / 64000000000
      let e : Int := (c - d + 32000000000) % 64000000000 - 32000000000
      let k := (c - d - e) / 64000000000
      let accepted := if lock = true then e.natAbs ≤ 64 * s.get F.TB_PPSWIN_w 0 else ∀ x, s.pps.prev = some x → x + 32000000000 ≤ now
      let dest : Nat := (if s.is F.TB_CTL_secld 0 = true then s.get F.TB_PPSSEC_s 0 else ((sec + k) % 2 ^ 36).toNat) * 64000000000 + d
      let lim (x : Int) : Int := max (-2147483) (min x 2147483)
      let g : ℚ := -e * 2 ^ 32 / 64000000000
      rising ≠ s.is F.TB_CTL_pol 0 → mode ≠ 0 → s.is F.LK_TCTL_en 0 = false → s.tb.stopped = false → d < 32000000000 →
      (accepted → Does (.ppsEdge t rising) s (fun s' =>
        Frame [.TB_CTL, .TB_STAT, .TB_PPSERR, .TB_SLEW, .TB_RATE, .TB_UNCERT] s' ∧ s'.getS F.TB_PPSERR_e 0 = e ∧ s'.is F.TB_STAT_acc 0 = true ∧ s'.is F.TB_STAT_hold 0 = false ∧
        s'.out = .fabric 17 0 0 now :: irqIf (s.is F.PWR_IEN_acc 0) 528 ∧ s'.pps.prev = some now ∧ s'.pps.acc = some now ∧ s'.pps.rejRun = 0 ∧
        (mode = 1 → s'.tb = s.tb ∧ s'.is F.TB_STAT_lock 0 = lock ∧ s'.get F.TB_UNCERT_ns 0 = s.get F.TB_UNCERT_ns 0) ∧
        (2 ≤ mode → s'.get F.TB_UNCERT_ns 0 = 0) ∧
        (mode = 2 ∨ (mode = 3 ∧ lock = false) → s'.tbAt now = dest ∧ s'.is F.TB_STAT_lock 0 = true ∧ s'.is F.TB_STAT_valid 0 = true ∧ s'.is F.TB_CTL_secld 0 = false ∧
          s'.get F.TB_RATE_r 0 = s.get F.TB_RATE_r 0 ∧ (now < s.tb.t0 → s.tb.jump = true → s'.tb.t0 = s.tb.t0 ∧ s'.tb.v0 = s.tb.v0) ∧
          (let m := ((dest : Int) - s.tbAt now).natAbs
           (m < 64000 → s'.is F.TB_STAT_stepped 0 = s.is F.TB_STAT_stepped 0) ∧ (64000 ≤ m → m ≤ 2 ^ 35 * 64000000000 → s'.is F.TB_STAT_stepped 0 = true))) ∧
        (mode = 3 → lock = true → s'.getS F.TB_SLEW_s 0 = lim (roundQ g) ∧ s'.getS F.TB_RATE_r 0 = lim (s.getS F.TB_RATE_r 0 + roundQ (g / 16)) ∧
          s'.tb.rho = lim (s'.getS F.TB_RATE_r 0 + s'.getS F.TB_SLEW_s 0) ∧ s'.is F.TB_STAT_lock 0 = true ∧ (s.tb.t0 ≤ now ∨ s.tb.t0 = edgeAfter now → s'.tbAt now = s.tbAt now)))) ∧
      (¬ accepted → let near := ∃ x, s.pps.prev = some x ∧ x + 63999360000 ≤ now ∧ now ≤ x + 64000640000
        let run := if near then s.pps.rejRun + 1 else 0
        Does (.ppsEdge t rising) s (fun s' => Frame [.TB_STAT, .TB_PPSERR, .TB_PPSREJ] s' ∧ s'.getS F.TB_PPSERR_e 0 = e ∧ s'.is F.TB_STAT_rej 0 = true ∧
          s'.get F.TB_PPSREJ_n 0 = min (s.get F.TB_PPSREJ_n 0 + 1) 262143 ∧ s'.out = irqIf (s.is F.PWR_IEN_rej 0) 529 ∧ s'.tb = s.tb ∧ s'.pps.acc = s.pps.acc ∧
          s'.is F.TB_STAT_lock 0 = (lock && decide (run < 4)) ∧ (run < 4 → s'.pps.rejRun = run)))) ∧
    (∀ a, s.pps.acc = some a → s.is F.TB_STAT_hold 0 = false → a + 64000000000 + 64 * s.get F.TB_PPSWIN_w 0 ≤ now →
      (2 ≤ mode → lock = true → Does (.holdover t) s (fun s' => Frame [.TB_STAT, .TB_SLEW] s' ∧ s'.is F.TB_STAT_hold 0 = true ∧ s'.getS F.TB_SLEW_s 0 = 0 ∧
        s'.get F.TB_RATE_r 0 = s.get F.TB_RATE_r 0 ∧ s'.tb.rho = max (-2147483) (min (s.getS F.TB_RATE_r 0) 2147483) ∧ s'.is F.TB_STAT_lock 0 = true)) ∧
      (mode = 1 → Does (.holdover t) s (fun s' => Frame [.TB_STAT] s' ∧ s'.is F.TB_STAT_hold 0 = true ∧ s'.tb = s.tb ∧ s'.out = [])))

/-- R319, R320, R328, R342, R345: the RC fallback comes into force, with cal cleared, and leaves; a reference absent for 400 ns sets refloss and latches every zone; a return within 20 us adds 1 % of the absence and 1 ns to
TB_UNCERT, and an absence of 20 us brings the device reset of cause 3. A write of 0o525_252 to PWR_DEVRST brings that of cause 4. PWR_ALARM raises its cause, or wakes from Stop down. DEDUCED, log 68: 1 % of an absence is rounded up to whole nanoseconds. -/
def Sys2Proof.Machine.ClockSourcesRules : Prop :=
  ∀ (t : Nat) (s : State), let now := max s.now t
    (s.is F.CLK_STAT_rc 0 = false → Does (.rcFallback t) s (fun s' => PwrFrame t [.CLK_STAT, .TB_STAT] s s' ∧ s'.is F.CLK_STAT_rc 0 = true ∧ s'.is F.TB_STAT_rcran 0 = true ∧
      s'.is F.TB_STAT_cal 0 = false ∧ s'.is F.CLK_STAT_refloss 0 = s.is F.CLK_STAT_refloss 0 ∧ s'.tb = s.tb ∧ s'.out = irqIf (s.is F.PWR_IEN_clk 0) 530)) ∧
    (s.is F.CLK_STAT_rc 0 = true → Does (.xtal32Return t) s (fun s' => PwrFrame t [.CLK_STAT] s s' ∧ s'.is F.CLK_STAT_rc 0 = false ∧ s'.tb = s.tb ∧ s'.out = [])) ∧
    (s.rung < 4 → s.pwr.refLost = none → Does (.referenceLoss t) s (fun s' => s'.now = now ∧ s'.is F.CLK_STAT_refloss 0 = true ∧ s'.pwr.refLost = some (now - 25600) ∧
      (∀ z < 16, s'.is F.TZ_STAT_lat z = true) ∧ s'.sram = s.sram ∧ s'.tb = s.tb ∧ s'.core = s.core ∧ s'.pending = s.pending)) ∧
    (∀ x, s.pwr.refLost = some x → x ≤ now → now < x + 1280000 → Does (.referenceReturn t) s (fun s' => PwrFrame t [.TB_UNCERT] s s' ∧ s'.pwr.refLost = none ∧ s'.tb = s.tb ∧
      (s'.get F.TB_UNCERT_ns 0 : ℚ) = min ((s.get F.TB_UNCERT_ns 0 : ℚ) + ⌈((now - x : Nat) : ℚ) / 64 / 100⌉ + 1) (2 ^ 36 - 1))) ∧
    (∀ x, s.pwr.refLost = some x → x + 1280000 ≤ now → s.devRst = none → Does (.referenceLossReset t) s (fun s' => s' = { s with now := now, out := [], devRst := some (3, 0) })) ∧
    (s.devRst = none → Does (.deviceResetWrite t 0o525252#18) s (fun s' => s' = { s with now := now, out := [], devRst := some (4, 0) })) ∧
    (∀ n, let a := s.get F.PWR_ALARM_s 0 * 64000000000
      s.pwr.alarm = true → a ≠ 0 → (s.tb.stopped = true → coarseFits (s.tick t) n false = true) → tbPast (if s.tb.stopped = true then tbCoarse s n / 2 ^ 32 % tbWrap else s.tbAt now) a = true →
      (s.rung < 3 → Does (.powerAlarm t n) s (fun s' => PwrFrame t [] s s' ∧ s'.pwr.alarm = false ∧ s'.out = irqIf (s.is F.PWR_IEN_alarm 0) 535)) ∧
      (3 ≤ s.rung → s.wake = none → Does (.powerAlarm t n) s (fun s' => s' = { s with now := now, out := [], pwr := { s.pwr with alarm := false }, wake := some 2 })))

/-- R336 to R338: a request of another mode begins a change, from SLACK to SPRING by way of NEAP; SPRING is refused for temperature, voltage or power failure; the change completes, with the predictors and caches
invalidated where it involves SLACK; SPRING ends at its limit, at SPRING_MAX_S and by the droop guard, with the reason. -/
def Sys2Proof.Machine.ModesRules : Prop :=
  ∀ (t : Nat) (s : State), let now := max s.now t
    let cur := s.get F.MODE_STAT_cur 0
    let busy := s.is F.MODE_STAT_busy 0
    let Frame (l : List RegName) (s' : State) : Prop := PwrFrame t l s s' ∧ s'.tb = s.tb ∧ s'.pps = s.pps
    let turns (i : Instr) (r m : Nat) (o : List Out) : Prop := Does i s (fun s' => Frame [.MODE_CTL, .MODE_STAT] s' ∧ s'.get F.MODE_CTL_req 0 = r ∧ s'.is F.MODE_STAT_busy 0 = true ∧
      s'.get F.MODE_STAT_cur 0 = cur ∧ s'.pwr = { s.pwr with modeTo := some m } ∧ s'.out = o)
    let springs := (cur = 1 ∧ s.pwr.modeTo = none) ∨ s.pwr.modeTo = some 1
    let hot := (s.getS F.TJ_EST_t 0 : ℚ) / 4 > (s.get F.TJ_SPRING_LIMIT_t 0 : ℚ) - 5
    let Ends (i : Instr) (why : Nat) (l : List RegName) (o : List Out) : Prop := Does i s (fun s' => Frame (.MODE_CTL :: .MODE_STAT :: l) s' ∧ s'.get F.MODE_STAT_why 0 = why ∧
      s'.get F.MODE_CTL_req 0 = 0 ∧ s'.is F.MODE_STAT_busy 0 = true ∧ s'.pwr = { s.pwr with modeTo := some 0 } ∧ s'.out = o ++ irqIf (s.is F.PWR_IEN_mode 0) 531)
    (∀ v : Word, let r := F.MODE_CTL_req.of v.toNat
      HwIdle t .MODE_CTL 0 s →
      (r = 0 → busy = false → cur = 2 → turns (.modeNeap t v) 0 0 []) ∧
      (r = 0 → busy = false → cur = 1 → turns (.modeNeap t v) 0 0 (irqIf (s.is F.PWR_IEN_mode 0) 531)) ∧
      (r = 2 → busy = false → cur = 0 → turns (.modeSlack t v) 2 2 []) ∧
      (r = 2 → busy = false → cur = 1 → turns (.modeSlack t v) 2 2 (irqIf (s.is F.PWR_IEN_mode 0) 531)) ∧
      (∀ vdd, r = 1 → busy = false → cur ≠ 1 →
        (¬ hot → 780 ≤ vdd → s.is F.PWR_PFSTAT_act 0 = false → turns (.modeSpring t v vdd) 1 (if cur = 2 then 0 else 1) []) ∧
        (let why := if hot then 1 else if vdd < 780 then 2 else if s.is F.PWR_PFSTAT_act 0 = true then 3 else 0
         why ≠ 0 → Does (.modeSpring t v vdd) s (fun s' => Frame [.MODE_CTL, .MODE_STAT] s' ∧ s'.get F.MODE_STAT_ref 0 = why ∧ s'.is F.MODE_STAT_busy 0 = false ∧
          s'.get F.MODE_STAT_cur 0 = cur ∧ s'.pwr = s.pwr ∧ s'.out = irqIf (s.is F.PWR_IEN_mode 0) 531)))) ∧
    (∀ m vdd, busy = true → s.pwr.modeTo = some m → m < 3 → s.get F.MODE_CTL_req 0 = m →
      let slackIn := cur = 2 ∨ m = 2
      (slackIn → ∀ c < 16, (s.coreOf c).sb = [] ∧ (slackHolds s c = true ∨ s.get F.CORE_STAT_state c ≠ 1)) → Does (.modeChangeDone t vdd) s (fun s' =>
        s' = { s with now := now, out := s'.out, regs := s'.regs, hw := s'.hw, pwr := s'.pwr, core := s'.core, vsrc := s'.vsrc } ∧ RegsKept (andVecs [.MODE_STAT]) s s' ∧
        s'.get F.MODE_STAT_cur 0 = m ∧ s'.is F.MODE_STAT_busy 0 = false ∧ s'.pwr = { s.pwr with modeTo := none, springAt := if m = 1 then some now else none } ∧
        s'.out = irqIf (s.is F.PWR_IEN_mode 0) 531 ∧
        ∀ c < 16, s'.coreOf c = if slackIn then { s.coreOf c with pred := [], ic := [], dc := [] } else s.coreOf c)) ∧
    (∀ (k : Fin 16) (v : BitVec 14), s.rung < 3 →
      let high := (v.toInt : ℚ) / 4 ≥ s.get F.TJ_SPRING_LIMIT_t 0
      (¬ (high ∧ springs) → Does (.junctionSample t k v) s (fun s' => Frame [.TJ_EST] s' ∧ s'.getS F.TJ_EST_t 0 = v.toInt ∧ s'.get F.TJ_EST_sens 0 = k.val ∧
        s'.pwr = s.pwr ∧ s'.out = [])) ∧
      (high → springs → Ends (.junctionSample t k v) 1 [.TJ_EST] [])) ∧
    (∀ x, s.pwr.springAt = some x → cur = 1 → springs → x + (if s.get F.SPRING_MAX_S_s 0 = 0 then 600 else s.get F.SPRING_MAX_S_s 0) * 64000000000 ≤ now →
      Ends (.springTimeout t) 2 [] []) ∧
    (cur = 1 → springs → Ends (.droopGuard t) 3 [] (irqIf (s.is F.PWR_IEN_droop 0) 532))

/-- R314, R339 to R342: the power-fail sequence begins: act and its source, the power event, the partial flash sequences discarded and an erase stopped, every counter unit with oen = 1 at its power-fail response, SPRING ended; in Stop and
Hibernate it also wakes; what runs in the cores goes on. It does not begin in a held reset. With the journal off it is done once every bank is idle, be it by the end of a one-time program. A recovery of the supplies sets rcv alone. -/
def Sys2Proof.Machine.PowerFailureRules : Prop :=
  ∀ (t : Nat) (s : State), let now := max s.now t
    (∀ src : Fin 6, s.boot.held = true → Does (.powerFailBegin t src) s (fun s' => s' = { s with now := now, out := [] })) ∧
    (∀ src : Fin 6, s.is F.PWR_PFSTAT_act 0 = false → s.boot.held = false → s.rung < 5 → Does (.powerFailBegin t src) s (fun s' => s'.now = now ∧ s'.is F.PWR_PFSTAT_act 0 = true ∧
      s'.get F.PWR_PFSTAT_src 0 = src ∧ .fabric 21 0 0 now ∈ s'.out ∧ (s.is F.PWR_IEN_pf 0 = true → .irq 533 ∈ s'.out) ∧
      (∀ b < 4, (s'.flOf b).seq = .start ∧ (s'.flOf b).jq = [] ∧ ((∃ k x y, (s.flOf b).run = some ⟨.erase k, x, y⟩) → s'.is F.FL_BSTAT_busy b = false ∧ s'.get F.FL_BSTAT_err b = 7)) ∧
      (∀ u < 128, s'.is F.CU_STAT_pfr u = (s.is F.CU_CTL_oen u || s.is F.CU_STAT_pfr u)) ∧
      (s.get F.MODE_STAT_cur 0 = 1 → s.pwr.modeTo = none ∨ s.pwr.modeTo = some 1 → s'.get F.MODE_STAT_why 0 = 4 ∧ s'.is F.MODE_STAT_busy 0 = true ∧ s'.pwr.modeTo = some 0) ∧
      (3 ≤ s.rung → s.wake = none → s'.wake = some 3) ∧ (∀ c < 16, s'.coreOf c = { s.coreOf c with dc := (s'.coreOf c).dc }) ∧ s'.sram = s.sram ∧ s'.tb = s.tb ∧ s'.pending = s.pending)) ∧
    (s.is F.PWR_PFSTAT_act 0 = true → s.is F.MFU_JCTL_en 0 = false → (∀ b < 4, b ≠ 0 → (s.flOf b).run = none) → (∀ b < 4, (s.flOf b).jq = []) →
      ∀ i v x j, (s.flOf 0).run = some ⟨.otp i v, x, j⟩ → x + 1280000 ≤ now → Does (.otpProgramDone t true) s (fun s' => s'.is F.PWR_PFSTAT_done 0 = true ∧ s'.otpOf i = some v ∧
        s'.is F.FL_BSTAT_busy 0 = false ∧ s'.now = now)) ∧
    (s.is F.PWR_PFSTAT_act 0 = true → s.is F.PWR_PFSTAT_rcv 0 = false → Does (.supplyRecovery t) s (fun s' => PwrFrame t [.PWR_PFSTAT] s s' ∧ s'.is F.PWR_PFSTAT_rcv 0 = true ∧
      s'.is F.PWR_PFSTAT_act 0 = true ∧ s'.get F.PWR_PFSTAT_src 0 = s.get F.PWR_PFSTAT_src 0 ∧ s'.out = []))

/-- R329 to R333: a quay with all its cores stopped enters Doze and leaves it as a winner is presented. With every core stopped and no winner, the device enters Rest, or a deeper rung where no check fails, and else Rest with the reason. From
Rest a winner wakes it, from Stop and Hibernate its wake source, with the wake cause; from Dormant and Vigil the device restarts. The codes of CLK_STAT.lock and PWR_STAT.last are DEDUCED (log 66); the wake sources that the last check looks at are PRESUMED those of R333 (log 67). -/
def Sys2Proof.Machine.SleepLadderRules : Prop :=
  ∀ (t : Nat) (s : State), let now := max s.now t
    let quiet (c : Nat) : Prop := s.get F.CORE_STAT_state c ≠ 1 ∧ (s.coreOf c).pres = none
    let allQuiet := ∀ c < 16, quiet c
    let sl := s.get F.PWR_SLEEP_rung 0
    (∀ r, let why := sleepWhy s r
      let p1 := ∃ u < 128, s.is F.CU_CTL_run u = true
      let p2 := ∃ b < 4, s.is F.FL_BSTAT_busy b = true
      let p3 := (∃ k < 4, s.get F.TSLOT_STAT_state k = 2) ∨ (∃ c < 16, s.is F.SNAP_STAT_busy c = true) ∨ s.lku.snap.isSome = true ∨ (∃ k < 64, s.is F.BANK_STAT_hpend k = true) ∨ s.is F.GT_STAT_open 0 = true
      let p4 := s.is F.PWR_PFSTAT_act 0 = true
      let p5 := s.get F.PWR_ALARM_s 0 = 0 ∧ (r ≤ 4 → ¬ ∃ ch < 512, s.is F.EV_CTL_en ch = true ∧ s.is F.EV_CTL_wake ch = true) ∧ (4 < r → s.get F.PWR_WPIN_en 0 = 0)
      (why = 1 ↔ p1) ∧ (why = 2 ↔ ¬ p1 ∧ p2) ∧ (why = 3 ↔ ¬ p1 ∧ ¬ p2 ∧ p3) ∧ (why = 4 ↔ ¬ p1 ∧ ¬ p2 ∧ ¬ p3 ∧ p4) ∧ (why = 5 ↔ ¬ p1 ∧ ¬ p2 ∧ ¬ p3 ∧ ¬ p4 ∧ p5) ∧
        (why = 0 ↔ ¬ p1 ∧ ¬ p2 ∧ ¬ p3 ∧ ¬ p4 ∧ ¬ p5)) ∧
    (∀ q : Fin 4, s.is ⟨.PWR_QCTL, 17 - q, 1⟩ 0 = true → s.dozeOf q = false → (∀ c : Nat, c < 16 → c / 4 = q.val → quiet c) →
      Does (.quayDoze t q) s (fun s' => s' = { s with now := now, out := [], doze := s'.doze } ∧ s'.dozeOf q = true ∧ ∀ m, m ≠ q.val → s'.dozeOf m = s.dozeOf m)) ∧
    (∀ q : Fin 4, s.dozeOf q = true → (∃ c : Nat, c < 16 ∧ c / 4 = q.val ∧ (s.coreOf c).pres ≠ none) → Does (.quayWake t q) s (fun s' =>
      s' = { s with now := now, out := [], regs := s'.regs, doze := s'.doze, core := s'.core } ∧ RegsKept [.CORE_STAT, .PWR_STAT] s s' ∧ s'.dozeOf q = false ∧ s'.get F.PWR_STAT_wake 0 = 0 ∧
      (∀ m, m ≠ q.val → s'.dozeOf m = s.dozeOf m) ∧
      ∀ c : Nat, c < 16 → s'.get F.CORE_STAT_state c = if s.rung = 0 ∧ c / 4 = q.val ∧ (s.coreOf c).pres ≠ none ∧ s.get F.CORE_STAT_state c = 2 then 1 else s.get F.CORE_STAT_state c)) ∧
    (allQuiet → s.rung = 0 → sl = 0 ∨ 6 ≤ sl → Does (.sleepEntry t) s (fun s' => s' = { s with now := now, out := [], regs := s'.regs } ∧ RegsKept [.PWR_STAT] s s' ∧
      s'.get F.PWR_STAT_last 0 = 0 ∧ s'.get F.PWR_STAT_why 0 = s.get F.PWR_STAT_why 0 ∧ s'.get F.PWR_STAT_wake 0 = s.get F.PWR_STAT_wake 0)) ∧
    (allQuiet → s.rung = 0 → s.get F.MODE_STAT_cur 0 ≠ 1 → s.pwr.modeTo ≠ some 1 → (sl = 1 ∨ (2 ≤ sl ∧ sl < 6 ∧ sleepWhy s (sl + 1) ≠ 0)) → Does (.sleepEntry t) s (fun s' =>
      PwrFrame t [.PWR_STAT, .CLK_STAT] { s with rung := 2, wake := none } s' ∧ s'.get F.PWR_STAT_last 0 = 1 ∧ s'.get F.CLK_STAT_lock 0 = 5 ∧ s'.out = [] ∧ s'.tb = s.tb ∧
      s'.pwr.sleepAt = now ∧ (sl ≠ 1 → s'.get F.PWR_STAT_why 0 = sleepWhy s (sl + 1)))) ∧
    (allQuiet → (s.rung = 0 ∨ s.rung = 2) → 2 ≤ sl → sl < 6 → sleepWhy s (sl + 1) = 0 → Does (.sleepEntry t) s (fun s' => s'.rung = sl + 1 ∧ s'.wake = none ∧ s'.now = now ∧
      s'.get F.PWR_STAT_last 0 = sl ∧ s'.get F.CLK_STAT_lock 0 = (if sl = 2 then 4 else 0) ∧ s'.pwr.sleepAt = now ∧
      (∀ n < 128, s'.is F.ICH_CTL_arm n = false ∧ (s.is F.ICH_CTL_en n = true → s'.is F.ICH_STAT_ready n = false)) ∧ (∀ c < 4, s'.is F.SC_CTL_en c = false) ∧
      (∀ p < 4, s'.get F.LK_PSTAT_state p = 0 ∨ s'.get F.LK_PSTAT_state p = 4) ∧ (∀ c < 16, (s'.coreOf c).wdAt = none) ∧ s'.sram = s.sram ∧ s'.bram = s.bram ∧ s'.bstore = s.bstore ∧
      (2 < sl → s.tb.stopped = false → s'.tb.stopped = true ∧ s'.tb.t0 ≤ now ∧ now < s'.tb.t0 + 1953125 ∧ s'.tb.v0 = (s.tb.fine s'.tb.t0).toNat) ∧ s'.pending = s.pending)) ∧
    (∀ c < 16, ∀ w, s.rung = 2 → (s.coreOf c).pres = some w → Does (.sleepExit t) s (fun s' => s' = { s with now := now, out := [], regs := s'.regs, core := s'.core, rung := 0, wake := none } ∧
      RegsKept [.PWR_STAT, .CLK_STAT, .CORE_STAT] s s' ∧ s'.get F.PWR_STAT_wake 0 = 0 ∧ s'.get F.CLK_STAT_lock 0 = 7 ∧
      (s.get F.CORE_STAT_state c = 2 → s.dozeOf (c / 4) = false → s'.get F.CORE_STAT_state c = 1))) ∧
    (∀ w, 3 ≤ s.rung → s.wake = some w → w < 16 →
      (s.rung ≤ 4 → Does (.sleepExit t) s (fun s' => s'.rung = 0 ∧ s'.wake = none ∧ s'.now = now ∧ s'.get F.PWR_STAT_wake 0 = w ∧ s'.get F.CLK_STAT_lock 0 = 7 ∧
        (s.is F.PWR_IEN_wake 0 = true → .irq 534 ∈ s'.out) ∧ (∀ n < 128, s.is F.ICH_CTL_en n = true → (s'.ichOf n).readyDue = some (now + 128000)) ∧
        (∀ n < 256, ∀ d, (s.lockOf n).due = some d → (s'.lockOf n).due = some (d + (now - s.pwr.sleepAt))) ∧ s'.sram = s.sram ∧ s'.bram = s.bram ∧ s'.pending = s.pending)) ∧
      (5 ≤ s.rung → s.devRst = none → Does (.sleepExit t) s (fun s' => PwrFrame t [.PWR_STAT] { s with devRst := some (s.rung + 1, 0) } s' ∧ s'.get F.PWR_STAT_wake 0 = w)))

/-- R321, R323, R324, R328, R334, R335: a write of TB_CTL with set = 1 brings the timebase to TB_SETH and TB_SETL at the next timer edge; a read of TB_NOWH returns the seconds and latches the subsecond for its reader alone; a span without a step gives the ratio; a restart after a stop adds the coarse ticks by the ratio and the bound to TB_UNCERT. DEDUCED, log 7: a write is stamped with its timer edge inside its own command. DESIGN CHOICES: log 93, the coarse ticks of a stop are the command's operand; log 116, the crystal lies within 200 ppm of its nominal rate. R325 to R327: an edge of TB_CTL.pol is accepted within the window while lock = 1, and 500 ms after the previous one while lock = 0; an accepted edge acts by mode: none in MONITOR, a step to d in STEP and in SLEW without lock, the slew and the rate in SLEW with lock; a rejected one is counted, and the fourth in a row clears lock. A step to a value that waits for a later edge is not lost when an edge is accepted before it (R323). Holdover clears TB_SLEW and keeps TB_RATE. DEDUCED, log 68: a run of rejects ends at an accepted edge. -/
def Obligations.TimebaseAndPps : Prop := TimebaseRules ∧ PpsRules

/-- R319, R320, R328, R342, R345: the RC fallback comes into force, with cal cleared, and leaves; a reference absent for 400 ns sets refloss and latches every zone; a return within 20 us adds 1 % of the absence and 1 ns to TB_UNCERT, and an absence of 20 us brings the device reset of cause 3. A write of 0o525_252 to PWR_DEVRST brings that of cause 4. PWR_ALARM raises its cause, or wakes from Stop down. DEDUCED, log 68: 1 % of an absence is rounded up to whole nanoseconds. R314, R339 to R342: the power-fail sequence begins: act and its source, the power event, the partial flash sequences discarded and an erase stopped, every counter unit with oen = 1 at its power-fail response, SPRING ended; in Stop and Hibernate it also wakes; what runs in the cores goes on. It does not begin in a held reset. With the journal off it is done once every bank is idle, be it by the end of a one-time program. A recovery of the supplies sets rcv alone. -/
def Obligations.ClocksAndPowerFailure : Prop := ClockSourcesRules ∧ PowerFailureRules

/-- R336 to R338: a request of another mode begins a change, from SLACK to SPRING by way of NEAP; SPRING is refused for temperature, voltage or power failure; the change completes, with the predictors and caches invalidated where it involves SLACK; SPRING ends at its limit, at SPRING_MAX_S and by the droop guard, with the reason. R329 to R333: a quay with all its cores stopped enters Doze and leaves it as a winner is presented. With every core stopped and no winner, the device enters Rest, or a deeper rung where no check fails, and else Rest with the reason. From Rest a winner wakes it, from Stop and Hibernate its wake source, with the wake cause; from Dormant and Vigil the device restarts. The codes of CLK_STAT.lock and PWR_STAT.last are DEDUCED (log 66); the wake sources that the last check looks at are PRESUMED those of R333 (log 67). -/
def Obligations.ModesAndSleep : Prop := ModesRules ∧ SleepLadderRules

/-! ### Reset, boot, grafts, keys, tamper and the debug port -/

/-- R17: a device reset keeps the field, in instance `i`. -/
def Sys2Proof.Machine.fieldKept (f : FieldRow) (i : Nat) : Bool := f.keep == .all || (f.keep == .low8 && decide (i < 8))

/-- What a device reset leaves: every field of a register outside `l` at its reset value or, where R17 keeps it, as it was; the units at rest; the timer PLL stopped with the timebase
recorded at a coarse tick; the flash, the one-time row, the SRAM and the levels outside as they were.
A line program of bank `b` that the reset cuts short past its first phase is replayed and recorded in FL_RECOV, one cut short within it is replayed or has left its line as it was, an erase leaves ecomp as it is, and a one-time word is open (DEDUCED, log 72). -/
def Sys2Proof.Machine.ResetLeaves (t : Nat) (l : List RegName) (s s' : State) : Prop :=
  s' = { State.reset with
    now := max s.now t, out := [], regs := s'.regs, tb := s'.tb, wc := s'.wc, crane := s'.crane, divAt := s'.divAt,
    pps := if s.tb.stopped then s.pps else { s.pps with span := none, spanFrom := none }, pwr := { rcRan := s'.pwr.rcRan, alarm := s.pwr.alarm }, sram := s.sram, flash := s'.flash,
    flBlk := s.flBlk, otp := s'.otp, journal := s'.journal, gpioPad := s.gpioPad, lkWake := s.lkWake, tripPin := s.tripPin, boot := s'.boot, ku := { rng := s.ku.rng, gen := s.ku.gen }, dbg := s'.dbg,
    tbLatch := s.tbLatch, pending := s.pending, free := s'.free } ∧
  (∀ n, s'.wcOf n = { vin := (s.wcOf n).vin }) ∧ (∀ c < 8, s'.craneOf c = { winOff := max s.now t }) ∧ (∀ m, m ≠ 4 → s'.divAtOf m = none) ∧
  (∀ (r : RegName) (i : Nat), r ∉ l → ∀ f ∈ r.row.fields, fget (s'.reg r i) f.lo f.w =
    if fieldKept f i = true then fget (s.reg r i) f.lo f.w else fget (BitVec.ofNat 36 (resetVal r i)) f.lo f.w) ∧
  s'.tb.stopped = true ∧ (s.tb.stopped = true → s'.tb.v0 = s.tb.v0 ∧ s'.tb.t0 = s.tb.t0) ∧
  (s.tb.stopped = false → s'.tb.t0 ≤ max s.now t ∧ max s.now t < s'.tb.t0 + 1953125 ∧ s'.tb.v0 = (s.tb.fine s'.tb.t0).toNat) ∧
  s'.tb.rho = max (-2147483) (min (s'.getS F.TB_RATE_r 0 + s'.getS F.TB_SLEW_s 0) 2147483) ∧
  s'.boot = { held := s'.boot.held, resume := s.boot.resume } ∧ s'.dbg = { chal := s.dbg.chal + 1 } ∧
  ((∀ b < 4, (s.flOf b).run = none) → s'.flash = s.flash ∧ s'.otp = s.otp ∧ s'.free = (if s.tb.stopped then s.free else s'.free) ∧ s'.get F.FL_RECOV_bank 0 = 0) ∧
  ∀ b < 4, (∀ m < 4, m ≠ b → (s.flOf m).run = none) →
    let Replayed (l : Nat) (d : BitVec 72) : Prop := s'.flashOf l = { d := d, prog := true, undef := false, ecc := .good } ∧ s'.get F.FL_RECOV_bank 0 = 2 ^ (3 - b) ∧ s'.get F.FL_RECOV_addr 0 = 8 * l % 2 ^ 27
    (∀ l d x st j, (s.flOf b).run = some ⟨.program l d x, st, j⟩ → (∀ m, m ≠ l → s'.flashOf m = s.flashOf m) ∧ s'.otp = s.otp ∧ (st + 51200 ≤ max s.now t → Replayed l d) ∧
      (Replayed l d ∨ (s'.flashOf l = s.flashOf l ∧ s'.get F.FL_RECOV_bank 0 = 0))) ∧
    (∀ i v st j, (s.flOf b).run = some ⟨.otp i v, st, j⟩ → s'.flash = s.flash ∧ (s'.otpOf i).isSome = true ∧ ∀ m, m ≠ i → s'.otpOf m = s.otpOf m) ∧
    ∀ k st j, (s.flOf b).run = some ⟨.erase k, st, j⟩ → s'.flash = s.flash ∧ s'.otp = s.otp

/-- R17, R313, R344, R386, R414: a device reset that is due, or one by RESET_N, leaves what R17 and R386 say, with its cause; a collapse of the main rails holds the device in reset, and their return is the reset of cause 0. Power-on of the always-on
domain gives its registers, and the kept fields of the others, their reset values, and the timebase 0. DEDUCED, log 78: the SRAM stands until the rootstock clears it. -/
def Obligations.DeviceReset : Prop :=
  ∀ (t : Nat) (s : State), let now := max s.now t
    let l : List RegName := [.BOOT_RSTC, .FL_RECOV, .PWR_STAT]
    s.canonical = true →
    (s.boot.held = false → ∀ c k, s.devRst = some (c, k) → Does (.deviceReset t false) s (fun s' => ResetLeaves t l s s' ∧
      s'.get F.BOOT_RSTC_cause 0 = c % 8 ∧ s'.get F.BOOT_RSTC_core 0 = k % 16 ∧ s'.boot.held = false)) ∧
    (s.boot.held = false → s.devRst = none → Does (.deviceReset t true) s (fun s' => ResetLeaves t l s s' ∧ s'.get F.BOOT_RSTC_cause 0 = 1 ∧ s'.boot.held = false)) ∧
    (s.boot.held = true → Does (.powerOn t) s (fun s' => s' = { s with now := now, out := [], regs := s'.regs, boot := { s.boot with held := false } } ∧
      RegsKept [.BOOT_RSTC] s s' ∧ s'.get F.BOOT_RSTC_cause 0 = 0)) ∧
    (s.boot.held = false → Does (.railCollapse t) s (fun s' => ResetLeaves t l { s with sram := [] } s' ∧ s'.boot.held = true)) ∧
    Does (.alwaysOnPowerOn t) s (fun s' => s' = { s with now := now, out := [], regs := s'.regs, tb := s'.tb, pps := {}, pwr := { s.pwr with alarm := false, rcRan := false }, tbLatch := [], boot := { s.boot with resume := none } } ∧
      s'.tbAt now = 0 ∧ (∀ (r : RegName) (i : Nat), ∀ f ∈ r.row.fields, fget (s'.reg r i) f.lo f.w =
        if fieldKept f i = true ∨ r ∈ [.TB_CTL, .TB_STAT, .TB_NOWH, .TB_NOWL, .TB_PPSDLY, .TB_PPSWIN, .TB_RATE, .TB_UNCERT, .TB_XRATIO, .PWR_SLEEP, .PWR_STAT, .PWR_WPIN, .PWR_ALARM] then
          fget (BitVec.ofNat 36 (resetVal r i)) f.lo f.w else fget (s.reg r i) f.lo f.w))

/-- R252, R392, R393, R396: core 0 runs at `entry`, with k0 the memory root, SR as R252 gives it, PCC with LD and EX, and every other register zero or null; the rest of the boot's record. -/
def Sys2Proof.Machine.CoreStarts (s' : State) (src : Nat) (fast : Bool) (entry lvl ceil : Nat) : Prop :=
  let root : Cap := { base := 0, len := 0o777777777#27, perm := 0o7777#12, otype := 0, tag := true }
  s'.coreOf 0 = { k := [(0, root)], pcc := { root with perm := 0o5000#12 }, pc := BitVec.ofNat 27 entry, sr := 0o000177#12 } ∧ s'.get F.CORE_STAT_state 0 = 1 ∧
  s'.boot.phase = .run ∧ s'.boot.faultN = false ∧ s'.get F.BOOT_STAT_src 0 = src % 4 ∧ s'.is F.BOOT_STAT_fast 0 = fast ∧
  s'.get F.BEHAVIOUR_LEVEL_lvl 0 = lvl % 64 ∧ s'.get F.BEHAVIOUR_LEVEL_ceil 0 = ceil % 64 ∧ s'.is F.GRF_LOCK_lk 0 = true

/-- R394: FL_PROT and FL_OTPLK are written, and locked, where the header of the image asks for it, and left as they were where it does not. -/
def Sys2Proof.Machine.LocksAs (s s' : State) (im : Image) : Prop :=
  let x := imgW im 1 3
  (if x.testBit 17 then s'.is F.FL_PROT_en 0 = true ∧ s'.get F.FL_PROT_lo 0 = imgW im 3 0 % 1024 ∧ s'.get F.FL_PROT_hi 0 = imgW im 3 1 % 1024 ∧ s'.locked .FL_PROT 0 = true
    else s'.reg .FL_PROT 0 = s.reg .FL_PROT 0 ∧ s'.locked .FL_PROT 0 = s.locked .FL_PROT 0) ∧
  if x.testBit 16 then s'.is F.FL_OTPLK_lk 0 = true ∧ s'.locked .FL_OTPLK 0 = true
    else s'.reg .FL_OTPLK 0 = s.reg .FL_OTPLK 0 ∧ s'.locked .FL_OTPLK 0 = s.locked .FL_OTPLK 0

/-- R388, R390: what a verification of source `src` gives: the image that it read, its header alone where one of the first five checks fails, and the code of the first check that fails, or 0. -/
def Sys2Proof.Machine.ImageRule (s : State) (src : Nat) : Prop :=
  let a := verify s src
  let im := a.1.2
  let w (i j : Nat) : Nat := imgW im i j
  let p (i j : Nat) : Nat := imgPair im i j
  let base := if src = 0 then 0 else if src = 1 then 0o20000000 else 0o040000000
  let key := 160 + 16 * w 1 2
  let signed := im.take 16 ++ im.drop 24
  let c1 := (∀ i < 32, (im.getD i none).isSome = true) ∧ w 0 0 = 0o517055 ∧ w 0 1 = 1 ∧ w 1 0 < 64 ∧ w 1 1 < 64 ∧ w 1 2 < 2 ∧ w 1 3 % 2 ^ 16 = 0 ∧ p 2 0 < 2 ^ 27 ∧ p 2 2 < 2 ^ 27 ∧
    w 3 0 < 1024 ∧ w 3 1 < 1024 ∧ p 5 0 < 2 ^ 27 ∧ p 5 2 = 0 ∧ (∀ i ∈ [7, 24, 25, 26, 27, 28, 29, 30, 31], im.getD i none = some 0) ∧ ∀ i ∈ [8, 12, 16, 20], img288 im i < 2 ^ 256
  let c2 := 32 ≤ p 0 2 ∧ p 0 2 ≤ 262144 ∧ (p 4 2 = 0 ∨ (p 4 0 + p 4 2 ≤ p 0 2 ∧ p 5 0 % 8 = 0 ∧ 0o040000000 ≤ p 5 0 ∧ p 5 0 + 8 * p 4 2 ≤ 0o040000000 + 63 * 0o200000))
  let c3 := 1 ≤ otpFloor s ∧ otpFloor s ≤ w 1 0 ∧ w 1 0 ≤ 3 ∧ w 1 0 ≤ w 1 1
  let c4 := (∀ j < 15, (s.otpOf (key + j)).isSome = true) ∧ otpPacked s key = sha256 (octets 32 (img288 im 8) ++ octets 32 (img288 im 12))
  let c5 := p 2 0 % 4 = 0 ∧ ((p 5 0 ≤ p 2 0 ∧ p 2 0 < p 5 0 + 8 * p 4 2) ∨ (base ≤ p 2 0 ∧ p 2 0 < base + 8 * p 0 2))
  let c6 := (∀ l ∈ signed, l.isSome = true) ∧
    ecdsaOk (img288 im 8) (img288 im 12) (img288 im 16) (img288 im 20) (sha256 (signed.flatMap (fun l => octets 9 (l.getD 0).toNat))).toNat = true
  (a.1.1 = 0 ↔ c1 ∧ c2 ∧ c3 ∧ c4 ∧ c5 ∧ c6) ∧ (a.1.1 = 1 ↔ ¬ c1) ∧ (a.1.1 = 2 ↔ c1 ∧ ¬ c2) ∧ (a.1.1 = 3 ↔ c1 ∧ c2 ∧ ¬ c3) ∧ (a.1.1 = 4 ↔ c1 ∧ c2 ∧ c3 ∧ ¬ c4) ∧
  (a.1.1 = 5 ↔ c1 ∧ c2 ∧ c3 ∧ c4 ∧ ¬ c5) ∧ (a.1.1 = 6 ↔ c1 ∧ c2 ∧ c3 ∧ c4 ∧ c5 ∧ ¬ c6) ∧ im.length = (if c1 ∧ c2 ∧ c3 ∧ c4 ∧ c5 then p 0 2 else 32) ∧
  (src < 2 → ∀ i < im.length, let c := s.flashOf (524288 * src + i)
    (s.flBlkOf ((524288 * src + i) / 1024)).ecomp = true → c.undef = false → im.getD i none = if c.ecc = .bad then none else some c.d) ∧
  (2 ≤ src → ∀ i < 32, (∀ j < 4, (s.sramOf (4 * i + j)).ecc = .good) → ∀ j < 4, w i j = (s.sramOf (4 * i + j)).w.toNat)

/-- R389: the graft stores after a start from image `im`: filled where the blob decrypts and verifies, empty with err where it does not. -/
def Sys2Proof.Machine.GraftsAs (s s' : State) (im : Image) : Prop :=
  let n := imgPair im 6 2
  let os := (((im.drop (imgPair im 6 0)).take ((n + 8) / 9)).flatMap (fun l => octets 9 (l.getD 0).toNat)).take n
  let good := os.length = n ∧ 28 ≤ n ∧ (gcmOpen Config.graftKey (os.take 12) ((os.drop 12).take (n - 28)) (BitVec.ofNat 128 (ofOctets (os.drop (n - 16))))).isSome = true
  (n = 0 → s'.graft = s.graft ∧ s'.get F.GRF_STAT_loaded 0 = s.get F.GRF_STAT_loaded 0 ∧ s'.get F.GRF_STAT_err 0 = s.get F.GRF_STAT_err 0) ∧
  (n ≠ 0 → good → s'.is F.GRF_STAT_loaded 0 = true ∧ s'.reg .GRF_ID 0 ≠ 0) ∧ (n ≠ 0 → ¬ good → s'.is F.GRF_STAT_err 0 = true ∧ s'.graft = [])

/-- R392: the load lines of image `im` stand in SRAM, without tags. -/
def Sys2Proof.Machine.LoadedAs (s' : State) (im : Image) : Prop :=
  ∀ j < 4 * imgPair im 4 2, s'.sramOf ((imgPair im 5 0 - 0o040000000) / 2 + j) =
    ⟨((im.getD (imgPair im 4 0 + j / 4) none).getD 0).extractLsb' (54 - 18 * (j % 4)) 18, false, .good⟩

/-- R97, R284, R307, R388 to R390, R392 to R396: the rootstock clears the memories and starts core 0 by the fast path after Dormant, or from slot A where the image passes every check, or else from slot B, or waits for SPI recovery with both
failures recorded and FAULT_N low; it waits while a bank of flash is busy. Lines written by the host reach SRAM; a verify starts the image or goes on to the network; a source whose host does not come in time fails. DEDUCED: log 78, a boot from a slot without a resume entry drops the resume record; log 79, a header line that cannot be read fails with why 1 and a line of the body with why 6; log 121, the fast path writes the locks too. -/
def Obligations.BootSources : Prop :=
  ∀ (t : Nat) (s : State), let now := max s.now t
    let s0 := (clearMem (s.tick t)).put F.CLK_STAT_lock 0 7
    let idle := ∀ b < 4, (s.flOf b).run = none
    let Cleared (s' : State) : Prop := s'.bstore = [] ∧ s'.bram = [] ∧ s'.now = now ∧ s'.pending = s.pending
    let failed (n : Nat) : Nat := s.boot.fail ||| 2 ^ (3 - n)
    (∀ k, ¬ (s.get F.BOOT_RSTC_cause 0 = 6 ∧ 63 * 32768 ≤ k) → s0.sramOf k = {}) ∧
    (∀ src < 4, ImageRule s src) ∧
    (s.boot.phase = .due → s.boot.held = false → ¬ idle → Does (.rootstockBoot t) s (fun s' => s' = { s with now := now, out := [] })) ∧
    (s.boot.phase = .due → s.boot.held = false → idle →
      (∀ r, s.boot.resume = some r → s.get F.BOOT_RSTC_cause 0 = 6 → ringSum s r.slot r.len = r.ring → otpFloor s ≤ r.lvl →
        let im := (srcLines s0 r.slot 0 r.len).1
        Does (.rootstockBoot t) s (fun s' => Cleared s' ∧ CoreStarts s' r.slot true (imgPair im 2 2) r.lvl r.ceil ∧ LocksAs s s' im ∧ GraftsAs s s' im ∧ s'.boot.resume = some r)) ∧
      ((∀ r, s.boot.resume = some r → s.get F.BOOT_RSTC_cause 0 = 6 → ringSum s r.slot r.len ≠ r.ring ∨ r.lvl < otpFloor s) →
        let a := verify s0 0
        let b := verify (bootFail (a.2.put F.BOOT_STAT_why 0 a.1.1) 0) 1
        Does (.rootstockBoot t) s (fun s' => Cleared s' ∧
          if a.1.1 = 0 then CoreStarts s' 0 false (imgPair a.1.2 2 0) (imgW a.1.2 1 0) (imgW a.1.2 1 1) ∧ LocksAs s s' a.1.2 ∧ GraftsAs s s' a.1.2 ∧ LoadedAs s' a.1.2 ∧ s'.get F.BOOT_STAT_fail 0 = s.boot.fail % 16
          else if b.1.1 = 0 then CoreStarts s' 1 false (imgPair b.1.2 2 0) (imgW b.1.2 1 0) (imgW b.1.2 1 1) ∧ LocksAs s s' b.1.2 ∧ GraftsAs s s' b.1.2 ∧ LoadedAs s' b.1.2 ∧ s'.get F.BOOT_STAT_fail 0 = (s.boot.fail ||| 8) % 16
          else s'.boot = { s.boot with phase := .spi (some (now + 64000000000)), fail := s.boot.fail ||| 8 ||| 4, faultN := true } ∧
            s'.get F.BOOT_STAT_why 0 = b.1.1 % 8 ∧ s'.get F.BOOT_STAT_fail 0 = (s.boot.fail ||| 8 ||| 4) % 16))) ∧
    (∀ x, s.boot.phase = .spi (some x) → x ≤ now → Does (.bootSourceTimeout t) s (fun s' => s'.boot.phase = .net (some (now + 640000000000)) ∧ s'.boot.fail = failed 2 ∧ s'.get F.BOOT_STAT_fail 0 = failed 2 % 16 ∧
      s'.boot.faultN = true ∧ s'.now = now ∧ s'.sram = s.sram ∧ s'.core = s.core)) ∧
    (∀ x, s.boot.phase = .net (some x) → x ≤ now → Does (.bootSourceTimeout t) s (fun s' => s'.boot = { s.boot with phase := .due, fail := failed 3, faultN := true } ∧
      s'.link = [] ∧ s'.get F.BOOT_STAT_fail 0 = failed 3 % 16 ∧ s'.now = now ∧ s'.sram = s.sram ∧ s'.core = s.core)) ∧
    (∀ x, s.boot.phase = .spi x → let s1 : State := { s.tick t with boot := { s.boot with phase := .spi none } }
      (∀ (a : Addr) (ls : List (BitVec 72)), a.toNat % 8 = 0 → 0o040000000 ≤ a.toNat → a.toNat + 8 * ls.length ≤ 0o040000000 + 32 * 0o200000 →
        (∀ j < 4 * ls.length, (s.sramOf ((a.toNat - 0o040000000) / 2 + j)).ecc ≠ .bad) →
        Does (.spiRecoveryWrite t a ls) s (fun s' => s' = { s1 with sram := s'.sram } ∧ ∀ j, s'.sramOf j = (let d := (a.toNat - 0o040000000) / 2
          if d ≤ j ∧ j < d + 4 * ls.length then ⟨((ls.getD ((j - d) / 4) 0).extractLsb' (54 - 18 * ((j - d) % 4)) 18), false, .good⟩ else s.sramOf j))) ∧
      (
        let a := verify s1 2
        Does (.spiRecoveryVerify t) s (fun s' =>
          if a.1.1 = 0 then CoreStarts s' 2 false (imgPair a.1.2 2 0) (imgW a.1.2 1 0) (imgW a.1.2 1 1) ∧ LocksAs s s' a.1.2 ∧ GraftsAs s s' a.1.2 ∧ s'.boot.resume = none
          else s'.boot.phase = .net (some (now + 640000000000)) ∧ s'.boot.fail = failed 2 ∧ s'.get F.BOOT_STAT_fail 0 = failed 2 % 16 ∧ s'.get F.BOOT_STAT_why 0 = a.1.1 % 8)) ∧
      Does (.spiRecoveryStatus t) s (fun s' => s' = { s1 with out := s'.out } ∧ ∃ v, s'.out = [.data v] ∧ F.BOOT_STAT_fail.of v = s.get F.BOOT_STAT_fail 0 ∧ F.BOOT_STAT_why.of v = s.get F.BOOT_STAT_why 0))

/-- R243, R245, R400, R401, R404, R405: the graft stores take a word through the loading port until lk is 1; a read of KU_RNG gives a fresh word of the DRBG where valid; CHECK and ATTEST start one operation, whose end gives the CMACs or err; a health failure is shown and reported,
and a sensor that fires zeroizes the keys and the state of the DRBG (whose later values are fresh free values), floats the outputs, closes the session with any token under verification, and brings the reset of cause 5. DEDUCED: log 81, KU_DIN is read at the end of an operation and the bits of an invalid KU_RNG are free; log 82, all this in one command. -/
def Sys2Proof.Machine.KeyUnitAndTamperRules : Prop :=
  ∀ (t : Nat) (s : State), let now := max s.now t
    let busy := s.is F.KU_STAT_busy 0
    let Frame (l : List RegName) (s' : State) : Prop := s' = { s with now := now, out := s'.out, regs := s'.regs, hw := s'.hw, ku := s'.ku, vsrc := s'.vsrc } ∧ RegsKept (andVecs l) s s'
    (∀ v : DWord, let k := s.get F.GRF_LDA_idx 0 + (if s.is F.GRF_LDA_sel 0 = true then 256 else 0)
      (s.is F.GRF_LOCK_lk 0 = false → Does (.graftLoadData t v) s (fun s' => s' = { s with now := now, out := [], graft := s'.graft } ∧
        s'.graftOf k = v &&& 0o1777777777#36 ∧ ∀ m, m ≠ k → s'.graftOf m = s.graftOf m)) ∧
      (s.is F.GRF_LOCK_lk 0 = true → Does (.graftLoadData t v) s (fun s' => s' = { s with now := now, out := [] }))) ∧
    (∀ v : Word, F.GRF_LOCK_lk.of v.toNat = 1 → s.locked .GRF_LOCK 0 = false → s.is F.GRF_LOCK_lk 0 = false → Does (.graftLock t v) s (fun s' =>
      s' = { s with now := now, out := [], regs := s'.regs, written := s'.written } ∧ RegsKept [.GRF_LOCK, .GRF_STAT] s s' ∧ s'.is F.GRF_LOCK_lk 0 = true ∧ s'.is F.GRF_STAT_locked 0 = true ∧
      s'.locked .GRF_LOCK 0 = true)) ∧
    (∀ q, s.boot.phase ≠ .due → s.ku.zeroed = false → s.is F.KU_STAT_hfail 0 = false → s.ku.rngAt ≤ now → Does (.rngRead t q) s (fun s' => s' = { s with now := now, out := [.data (2 ^ 35 + (Config.drbg s.ku.gen s.ku.rng).toNat)], ku := { s.ku with rng := s.ku.rng + 1, rngAt := now + 2560 } })) ∧
    (∀ q, (s.boot.phase = .due ∨ s.ku.zeroed = true ∨ s.is F.KU_STAT_hfail 0 = true ∨ now < s.ku.rngAt) → Does (.rngRead t q) s (fun s' => s' = { s with now := now, out := s'.out, free := s.free + 1 } ∧
      ∃ v, s'.out = [.data v] ∧ v < 2 ^ 32)) ∧
    (s.is F.KU_STAT_hfail 0 = false → Does (.healthFailure t) s (fun s' => Frame [.KU_STAT] s' ∧ s'.is F.KU_STAT_hfail 0 = true ∧ s'.is F.KU_STAT_busy 0 = busy ∧ s'.ku = s.ku ∧
      s'.out = irqIf (s.is F.KU_IEN_hf 0) 593)) ∧
    (s.is F.KU_STAT_hfail 0 = true → Does (.healthRecovery t) s (fun s' => s'.is F.KU_STAT_hfail 0 = false ∧ s'.ku.op = s.ku.op ∧ s'.now = now ∧ s'.core = s.core ∧ s'.sram = s.sram ∧
      ∀ p < 4, (s.linkOf p).waits = false → s'.linkOf p = s.linkOf p)) ∧
    (∀ v : Word, let op := F.KU_CMD_op.of v.toNat
      let Starts (i : Instr) : Prop := (busy = false → Does i s (fun s' => Frame [.KU_STAT] s' ∧ s'.is F.KU_STAT_busy 0 = true ∧ s'.ku = { s.ku with op := some (op, F.KU_CMD_slot.of v.toNat) } ∧
          s'.out = [])) ∧
        (busy = true → Does i s (fun s' => Frame [.KU_STAT] s' ∧ s'.is F.KU_STAT_err 0 = true ∧ s'.is F.KU_STAT_busy 0 = true ∧ s'.ku = s.ku ∧ s'.out = []))
      (op = 1 → Starts (.check t v)) ∧ (op = 2 → Starts (.attest t v))) ∧
    (∀ op slot, s.ku.op = some (op, slot) → let i := 32 + 16 * slot
      let m := [0, 1, 2, 3].flatMap (fun j => octets 4 (s.get F.KU_DIN_v j))
      let half (key : BitVec 128) (j : Nat) : Nat := (cmac key m).toNat / (if j = 0 then 2 ^ 96 else 2 ^ 64) % 2 ^ 32
      let key := otpPacked s i
      let usable := otpRevoked s slot = false ∧ otpWritten s i = true
      let Ends (P : State → Prop) : Prop := Does (.keyOperationEnd t) s (fun s' => s' = { s with now := now, out := s'.out, regs := s'.regs, hw := s'.hw, ku := { s.ku with op := none }, vsrc := s'.vsrc, free := s'.free } ∧
        RegsKept (andVecs [.KU_STAT, .KU_DOUT]) s s' ∧ s'.is F.KU_STAT_busy 0 = false ∧ s'.out = irqIf (s.is F.KU_IEN_done 0) 592 ∧ P s')
      (op = 1 → usable → Ends (fun s' => s'.free = s.free ∧ ∀ j < 2, s'.get F.KU_DOUT_v j = half (key.extractLsb' 128 128) j ∧ s'.get F.KU_DOUT_v (2 + j) = half (key.extractLsb' 0 128) j)) ∧
      (op = 1 → ¬ usable → Ends (fun s' => s'.is F.KU_STAT_err 0 = true ∧ s'.free = s.free ∧ ∀ j, s'.reg .KU_DOUT j = s.reg .KU_DOUT j)) ∧
      (op = 2 → s.ku.zeroed = false → Ends (fun s' => ∀ j < 2, s'.get F.KU_DOUT_v j = half Config.deviceKey j))) ∧
    (∀ n : Fin 4, Does (.tamper t n) s (fun s' => s'.now = now ∧ s'.is ⟨.TMP_STAT, 17 - n.val, 1⟩ 0 = true ∧ s'.ku = { s.ku with zeroed := true, rng := 0, gen := s.ku.gen + 1 } ∧ s'.dbg = { s.dbg with scan := .normal, tok := none } ∧ s'.boot = { s.boot with resume := none } ∧
      (∀ p < 4, (s'.linkOf p).txKey = 0 ∧ (s'.linkOf p).rxKey = 0) ∧ s'.is F.BOOT_STAT_dbg 0 = false ∧ s'.get F.DBG_SCOPE_scope 0 = 0 ∧ (∀ u < 128, s'.is F.CU_CTL_oen u = false) ∧
      (s.devRst = none → s'.devRst = some (5, 0)) ∧ s'.flash = s.flash ∧ s'.otp = s.otp ∧ s'.core = s.core ∧ s'.pending = s.pending))

/-- R402, R403, R426, R427: the TAP instructions: IDCODE, the boundary scan with and without scope bit 14, the challenge and the token of an open port, the access by DBGACC within the session's scope, and BYPASS. A token is accepted, with its scope, or refused, the
third refusal closing the port; deny closes it and its session. EXTEST and CLAMP put the boundary cells in force at the output pins, and HIGHZ floats them. DEDUCED, log 84: scope bit 17 limits writes of CORE_RST;
log 86, a token is hashed as 218 bits, and one under verification blocks another. DESIGN CHOICE, log 141: a debug read's uncorrectable word shows as core 0's. -/
def Sys2Proof.Machine.DebugPortRules : Prop :=
  ∀ (t : Nat) (s : State), let now := max s.now t
    let open_ := s.is F.DBG_CTL_deny 0 = false ∧ s.get F.DBG_SCOPE_nref 0 ≠ 3
    let session := s.is F.BOOT_STAT_dbg 0 = true
    let grants (b : Nat) : Prop := session ∧ (s.get F.DBG_SCOPE_scope 0).testBit (b - 13) = true
    let Tap (i : Instr) (d : DbgS) (o : List Out) (P : State → Prop) : Prop := Does i s (fun s' => s'.dbg = d ∧ s'.now = now ∧ s'.core = s.core ∧ s'.sram = s.sram ∧ s'.flash = s.flash ∧
      s'.cu = s.cu ∧ s'.pending = s.pending ∧ s'.out.drop (s'.out.length - o.length) = o ∧ (s.dbg.scan = .normal → d.scan = .normal → s' = { s with now := now, out := o, dbg := d }) ∧ P s')
    let Scan_ (i : Instr) (x : List Bool) (d : DbgS) (P : State → Prop) : Prop := Does i s (fun s' => s'.dbg = d ∧ s'.now = now ∧ s'.core = s.core ∧ s'.sram = s.sram ∧ s'.flash = s.flash ∧
      s'.cu = s.cu ∧ s'.pending = s.pending ∧ (s.dbg.scan = .normal → d.scan = .normal → s' = { s with now := now, out := s'.out, dbg := d, free := s.free + 1 }) ∧
      (∃ v, s'.out.getLast? = some (.data v) ∧ ∀ i < x.length, (∀ n < 64, Config.boundaryCell i = (gpioBall n, 0) → v.testBit i = gpioLevel s n) ∧
        ∀ n < 16, Config.boundaryCell i = (tripBall n, 0) → v.testBit i = (s.tripPinOf n).lvl) ∧ P s')
    let Driven (s' : State) : Prop := ∀ u < 128, ∀ w < 2, outPin s' u w = (match cellOf s' (outBall u w) 2, cellOf s' (outBall u w) 1 with
      | some false, _ => .z | _, some true => .high | _, some false => .low | _, none => .z)
    let Floats (s' : State) : Prop := ∀ u < 128, ∀ w < 2, outPin s' u w = .z
    s.rung < 5 →
    Tap (.idcode t) { s.dbg with ir := 1, scan := .normal } [.data 0o2034220737] (fun _ => True) ∧
    (∀ x, Scan_ (.samplePreload t x) x { s.dbg with ir := 2, scan := .normal, cells := x } (fun _ => True)) ∧
    (∀ x, (grants 14 → Scan_ (.extest t x) x { s.dbg with ir := 0, scan := .extest, cells := x } Driven) ∧ (¬ grants 14 → Tap (.extest t x) { s.dbg with ir := 0, scan := .normal } [] (fun _ => True))) ∧
    (grants 14 → Tap (.clamp t) { s.dbg with ir := 4, scan := .clamp } [] Driven ∧ Tap (.highz t) { s.dbg with ir := 5, scan := .highz } [] Floats) ∧
    (¬ grants 14 → Tap (.clamp t) { s.dbg with ir := 4, scan := .normal } [] (fun _ => True) ∧ Tap (.highz t) { s.dbg with ir := 5, scan := .normal } [] (fun _ => True)) ∧
    (open_ → Tap (.dbgchal t) { s.dbg with ir := 0o40, scan := .normal } [.data (Config.challenge s.dbg.chal).toNat] (fun _ => True)) ∧
    (∀ x, open_ → s.dbg.tok = none → Tap (.dbgtok t x) { s.dbg with ir := 0o41, scan := .normal, tok := some x } [] (fun _ => True)) ∧
    (∀ code : BitVec 8, code.toNat ∉ [0, 1, 2, 4, 5, 0o40, 0o41, 0o42] → Tap (.bypass t code) { s.dbg with ir := code, scan := .normal } [] (fun _ => True)) ∧
    (∀ x, let d := { s.dbg with ir := 0o42#8, scan := Scan.normal }
      let a := (x.extractLsb' 45 27).toNat
      let Acc (cap : BitVec 74) : Prop := Tap (.dbgacc t x) { d with cap := cap } [.data s.dbg.cap.toNat] (fun _ => True)
      (¬ session → Tap (.dbgacc t x) d [] (fun _ => True)) ∧
      (session → x.getLsbD 73 = false → ¬ grants 16 → Acc (2 ^ 36)) ∧
      (session → x.getLsbD 73 = true → ¬ grants 15 → Acc (2 ^ 36)) ∧
      (∀ i, session → x.getLsbD 73 = true → x.getLsbD 72 = false → ¬ grants 17 → regAt a = some (.CORE_RST, i, 0) → Acc (2 ^ 36)) ∧
      (∀ j : Fin 16384, a = 0o063000000 + 2 * j.val → x.getLsbD 72 = false → x.getLsbD 73 = false → grants 16 → Acc (BitVec.ofNat 74 (ux 18 (s.bramOf j)))) ∧
      (∀ k : Fin 2097152, a = 0o040000000 + 2 * k.val → x.getLsbD 72 = false → x.getLsbD 73 = false → grants 16 → let c := s.sramOf k
        (c.ecc = .good → Acc (BitVec.ofNat 74 c.w.toNat)) ∧
        (c.ecc = .single → Does (.dbgacc t x) s (fun s' => s'.dbg = { d with cap := BitVec.ofNat 74 c.w.toNat } ∧ s'.sramOf k = { c with ecc := .good } ∧
          s'.get F.MEM_ECCCNT_n 0 = min (s.get F.MEM_ECCCNT_n 0 + 1) 262143)) ∧
        (c.ecc = .bad → Does (.dbgacc t x) s (fun s' => s'.dbg = { d with cap := 2 ^ 36 } ∧ s'.sram = s.sram ∧ s'.get F.MEM_ECCADR_req 0 = 0 ∧
          s'.get F.MEM_ECCADR_addr 0 = (0o040000000 + 2 * k.val) % 2 ^ 27)))) ∧
    (∀ v : Word, F.DBG_CTL_deny.of v.toNat = 1 → Does (.debugDeny t v) s (fun s' => s'.dbg = { s.dbg with scan := .normal, tok := none } ∧ (s.dbg.scan = .normal →
      s' = { s with now := now, out := [], regs := s'.regs, dbg := s'.dbg } ∧ RegsKept [.DBG_CTL, .BOOT_STAT, .DBG_SCOPE] s s') ∧
      s'.is F.DBG_CTL_deny 0 = true ∧ s'.is F.BOOT_STAT_dbg 0 = false ∧ s'.get F.DBG_SCOPE_scope 0 = 0 ∧ s'.get F.DBG_SCOPE_nref 0 = s.get F.DBG_SCOPE_nref 0)) ∧
    (∀ x, s.dbg.tok = some x → s.dbg.scan = .normal → open_ → let n (lo : Nat) : Nat := (x.extractLsb' lo 256).toNat
      let good := otpWritten s 192 = true ∧ otpPacked s 192 = sha256 (octets 32 (n 768) ++ octets 32 (n 512)) ∧ (x.extractLsb' 1170 72).toNat = otpSerial s ∧
        x.extractLsb' 1042 128 = Config.challenge s.dbg.chal ∧ ecdsaOk (n 768) (n 512) (n 256) (n 0) (shaBits (x.extractLsb' 1024 218).toNat 218).toNat = true
      let Verdict (P : State → Prop) : Prop := Does (.tokenVerdict t) s (fun s' => s' = { s with now := now, out := s'.out, regs := s'.regs, hw := s'.hw, dbg := { s.dbg with tok := none, chal := s.dbg.chal + 1 }, vsrc := s'.vsrc } ∧
        RegsKept (andVecs [.BOOT_STAT, .DBG_SCOPE]) s s' ∧ P s')
      Verdict (fun s' => if good then s'.is F.BOOT_STAT_dbg 0 = true ∧ s'.get F.DBG_SCOPE_scope 0 = (x.extractLsb' 1037 5).toNat ∧
          s'.get F.DBG_SCOPE_nref 0 = s.get F.DBG_SCOPE_nref 0 ∧ s'.out = irqIf (s.is F.KU_IEN_dbg 0) 594
        else s'.get F.DBG_SCOPE_nref 0 = s.get F.DBG_SCOPE_nref 0 + 1 ∧ s'.out = [] ∧
          (s.get F.DBG_SCOPE_nref 0 < 2 → s'.is F.BOOT_STAT_dbg 0 = s.is F.BOOT_STAT_dbg 0 ∧ s'.get F.DBG_SCOPE_scope 0 = s.get F.DBG_SCOPE_scope 0) ∧
          (s.get F.DBG_SCOPE_nref 0 = 2 → s'.is F.BOOT_STAT_dbg 0 = false)))

/-- R243, R245, R400, R401, R404, R405: the graft stores take a word through the loading port until lk is 1; a read of KU_RNG gives a fresh word of the DRBG where valid; CHECK and ATTEST start one operation, whose end gives the CMACs or err; a health failure is shown and reported, and a sensor that fires zeroizes the keys and the state of the DRBG (whose later values are fresh free values), floats the outputs, closes the session with any token under verification, and brings the reset of cause 5. DEDUCED: log 81, KU_DIN is read at the end of an operation and the bits of an invalid KU_RNG are free; log 82, all this in one command. R402, R403, R426, R427: the TAP instructions: IDCODE, the boundary scan with and without scope bit 14, the challenge and the token of an open port, the access by DBGACC within the session's scope, and BYPASS. A token is accepted, with its scope, or refused, the third refusal closing the port; deny closes it and its session. EXTEST and CLAMP put the boundary cells in force at the output pins, and HIGHZ floats them. DEDUCED, log 84: scope bit 17 limits writes of CORE_RST; log 86, a token is hashed as 218 bits, and one under verification blocks another. DESIGN CHOICE, log 141: a debug read's uncorrectable word shows as core 0's. -/
def Obligations.KeysTamperAndDebug : Prop := KeyUnitAndTamperRules ∧ DebugPortRules

/-! ### Velub link -/

/-- R354, R355: port `p` is UP and receives the sequenced frame that it expects, legal and with its tag. -/
def Sys2Proof.Machine.InOrder (s : State) (p : Nat) (f : Frame) : Prop :=
  let h := s.linkOf p
  s.get F.LK_PSTAT_state p = 3 ∧ 6 ≤ f.ty.toNat ∧ frameLegal f = true ∧ f.seq.toNat = h.rx % 256 ∧ f.mac = frameMac h.rxKey (h.rx % 2 ^ 40) f

/-- R351, R354: port `p` is UP and receives an unsequenced frame of type `ty`, legal and with its tag, whose counter is `n`, a fresh one. -/
def Sys2Proof.Machine.Unsequenced (s : State) (p : Nat) (f : Frame) (ty n : Nat) : Prop :=
  s.get F.LK_PSTAT_state p = 3 ∧ f.ty.toNat = ty ∧ frameLegal f = true ∧ f.mac = frameMac (s.linkOf p).rxKey 0 f ∧ (s.linkOf p).urx < n

/-- R355, R356: the port after it accepted the frame that it expected; with the input buffer of class `c` free again. -/
def Sys2Proof.Machine.accepted (h : LinkS) (c : Nat) : LinkS :=
  { h with rx := h.rx + 1, nakd := false, chg := true, mine := h.mine.set c ((h.mine.getD c 0 + 1) % 256) }

/-- R355, R356: port `q` is UP, nothing waits there, and a frame of class `c` may go out at once. -/
def Sys2Proof.Machine.Quiet (s : State) (q c : Nat) : Prop :=
  s.get F.LK_PSTAT_state q = 3 ∧ (s.linkOf q).txq = [] ∧ (s.linkOf q).retry.length < 16 ∧
    ((s.linkOf q).sent.getD c 0 + 256 - (s.linkOf q).freed.getD c 0) % 256 < 8

/-- R354: a sequenced frame as port `h` sends it next. -/
def Sys2Proof.Machine.sentAs (h : LinkS) (f : Frame) : Frame :=
  let g := { f with seq := BitVec.ofNat 8 h.tx }
  { g with mac := frameMac h.txKey h.tx g }

/-- R355, R356: the port after it sent `f`, for transaction slot `slot`. -/
def Sys2Proof.Machine.afterSend (h : LinkS) (f : Frame) (slot : Option Nat) (now : Nat) : LinkS :=
  let c := f.cls.toNat
  { h with retry := h.retry ++ [⟨sentAs h f, 1, slot⟩], tx := h.tx + 1, sent := h.sent.set c ((h.sent.getD c 0 + 1) % 256),
           ackAt := if h.retry.isEmpty then now else h.ackAt }

/-- R349, R350: a frame of this device, as `mkFrame` forms it. -/
abbrev Sys2Proof.Machine.Framed (s : State) (ty dst hops core tag : Nat) (pay : List Word) : Frame := mkFrame s ty dst hops core tag pay

/-- The frame of a command of the link: it may write the registers of the list `l`, the ports and outputs; nothing else. -/
def Sys2Proof.Machine.LinkFrame (t : Nat) (l : List RegName) (s s' : State) : Prop :=
  s' = { s with now := max s.now t, out := s'.out, regs := s'.regs, hw := s'.hw, link := s'.link, vsrc := s'.vsrc } ∧ RegsKept (andVecs l) s s'

/-- R357: port `p` has lost its partner, which was in UP. -/
def Sys2Proof.Machine.Lost (s s' : State) (p now : Nat) : Prop :=
  let node := s.get F.LK_PNODE_node p
  s'.get F.LK_PSTAT_state p = 1 ∧ s'.is F.LK_PSTAT_absent p = true ∧ s'.is F.LK_ROUTE_absent node = true ∧ .fabric 19 p 0 now ∈ s'.out ∧
    (s'.linkOf p).retry = [] ∧ s'.lkDriveOf p = some (now + 128000) ∧ s'.now = now ∧ s'.core = s.core ∧ s'.sram = s.sram ∧ s'.pending = s.pending ∧
    (∀ k < 64, ∀ j, (s.txsOf k).job = some j → j.port = p → (s'.txsOf k).job = none ∧ s'.get F.LK_TXS_st k = 7 ∧ s'.is F.LK_TXS_done k = true) ∧
    (∀ n < 256, (s.get F.LOCK_OWN_state n = 1 ∨ s.get F.LOCK_OWN_state n = 3) → s.is F.LOCK_OWN_rem n = true → s.get F.LOCK_OWN_node n = node →
      s'.get F.LOCK_OWN_state n = 2 ∧ s'.get F.LOCK_OWN_why n = 3)

/-- R352, R353, R358, R368, R400: an enable brings a port from OFF or QUAR to ALIGN, or is refused for the node ID or a revoked key; a disable brings it to OFF; with the columns aligned it takes a nonce and sends HELLOs; a HELLO with the partner's nonce is answered, and one that
carries this end's nonce brings the port UP with the session keys. The LK_WAKE line.
DEDUCED, log 55: what a write of LK_CTL with a revoked key, without a node ID or with another slot leaves. -/
def Obligations.LinkPorts : Prop :=
  ∀ (t : Nat) (p : Fin 4) (v : Word) (f : Frame) (s : State), let now := max s.now t
    let h := s.linkOf p
    let st := s.get F.LK_PSTAT_state p
    let Frame (l : List RegName) (s' : State) : Prop := LinkFrame t l { s with lkDrive := s'.lkDrive, free := s'.free, srcAt := s'.srcAt } s' ∧ SourcesKept 19 p s s' ∧ (∀ r ∈ l, r = .LK_ROUTE ∨ OthersKept r p s s') ∧
      ∀ q, q ≠ p.val → s'.linkOf q = s.linkOf q ∧ s'.lkDriveOf q = s.lkDriveOf q
    let slot := F.LK_CTL_slot.of v.toNat
    let was := s.is F.LK_CTL_en p = true
    let line (v : BitVec 64) : List Word := [(v.extractLsb' 54 10).setWidth 18, v.extractLsb' 36 18, v.extractLsb' 18 18, v.extractLsb' 0 18]
    let hello (h : LinkS) : Sys2Proof.Frame :=
      let g := Framed s 1 0 1 0 0 ([BitVec.ofNat 18 (lkOwn s), 3, BitVec.ofNat 18 (s.get F.LK_CTL_slot p), 0] ++ line h.nonce ++ line h.peer)
      { g with mac := frameMac (lkHelloKey s p) 0 g }
    (F.LK_CTL_en.of v.toNat = 1 → ¬ was → HwIdle t .LK_CTL p s → (st = 0 ∨ st = 4) →
      (s.is F.LK_GSTAT_nodeset 0 = true → otpRevoked s slot = false → Does (.portEnable t p v) s (fun s' => Frame [.LK_CTL, .LK_PSTAT] s' ∧ s'.is F.LK_CTL_en p = true ∧
        s'.get F.LK_CTL_slot p = slot ∧ s'.get F.LK_CTL_wk p = F.LK_CTL_wk.of v.toNat ∧ s'.get F.LK_PSTAT_state p = 1 ∧ s'.is F.LK_PSTAT_krev p = false ∧ s'.linkOf p = {} ∧
        s'.lkDriveOf p = some (now + 128000))) ∧
      (s.is F.LK_GSTAT_nodeset 0 = false → Does (.portEnable t p v) s (fun s' => LinkFrame t [.LK_GSTAT] s s' ∧ s'.is F.LK_GSTAT_cfgerr 0 = true ∧ s'.link = s.link)) ∧
      (s.is F.LK_GSTAT_nodeset 0 = true → otpRevoked s slot = true → Does (.portEnable t p v) s (fun s' => Frame [.LK_CTL, .LK_PSTAT] s' ∧ s'.is F.LK_PSTAT_krev p = true ∧
        s'.get F.LK_PSTAT_state p = st ∧ s'.linkOf p = h))) ∧
    (was → slot ≠ s.get F.LK_CTL_slot p →
      let P (s' : State) : Prop := LinkFrame t [.LK_GSTAT] s s' ∧ s'.is F.LK_GSTAT_cfgerr 0 = true ∧ s'.link = s.link ∧ s'.out = []
      (F.LK_CTL_en.of v.toNat = 1 → Does (.portEnable t p v) s P) ∧ (F.LK_CTL_en.of v.toNat = 0 → Does (.portDisable t p v) s P)) ∧
    (F.LK_CTL_en.of v.toNat = 0 → (st = 0 ∨ st = 4) → (was → slot = s.get F.LK_CTL_slot p) → Does (.portDisable t p v) s (fun s' => Frame [.LK_CTL, .LK_PSTAT] s' ∧ s'.is F.LK_CTL_en p = false ∧
      s'.get F.LK_PSTAT_state p = st ∧ s'.linkOf p = h)) ∧
    (F.LK_CTL_en.of v.toNat = 0 → st ≠ 0 → st ≠ 4 → (was → slot = s.get F.LK_CTL_slot p) → Does (.portDisable t p v) s (fun s' => s'.is F.LK_CTL_en p = false ∧ s'.get F.LK_PSTAT_state p = 0 ∧ (s'.linkOf p).retry = [] ∧
      s'.now = now ∧ s'.core = s.core ∧ s'.sram = s.sram ∧ s'.pending = s.pending ∧
      ∀ k < 64, ∀ j, (s.txsOf k).job = some j → j.port = p → (s'.txsOf k).job = none ∧ s'.get F.LK_TXS_st k = 7)) ∧
    (st = 1 → Does (.alignDone t p) s (fun s' => Frame [.LK_PSTAT] s' ∧ s'.get F.LK_PSTAT_state p = 2 ∧
      (s.is F.KU_STAT_hfail 0 = false → s'.free = s.free + 1 ∧ s'.linkOf p = { h with waits := false, nonce := Config.nonce s.free, peer := 0, helloDue := now }) ∧
      (s.is F.KU_STAT_hfail 0 = true → s'.linkOf p = { h with waits := true, nonce := 0, peer := 0 }))) ∧
    (st = 2 → h.waits = false → h.helloDue ≤ now → Does (.helloTimer t p) s (fun s' => Frame [] s' ∧ s'.linkOf p = { h with helloDue := now + 640000 } ∧
      s'.out = [.frame p (hello h)])) ∧
    (st = 2 → h.waits = false → f.ty = 1 → frameLegal f = true → f.mac = frameMac (lkHelloKey s p) 0 f →
      let theirs := helloNonce f 4
      let node := frameW f 0 % 4096
      let own := lkOwn s
      let keys := if own < node then lkSession s p own node h.nonce theirs else lkSession s p node own theirs h.nonce
      (helloNonce f 8 ≠ h.nonce → Does (.hello t p f) s (fun s' => Frame [] s' ∧ s'.linkOf p = { h with peer := theirs } ∧ s'.out = [])) ∧
      (helloNonce f 8 = h.nonce → Does (.hello t p f) s (fun s' => Frame [.LK_PSTAT, .LK_PNODE, .LK_ROUTE] s' ∧ s'.get F.LK_PSTAT_state p = 3 ∧
        s'.get F.LK_PSTAT_bl p = min 3 (frameW f 1 % 64) ∧ s'.is F.LK_PNODE_valid p = true ∧ s'.get F.LK_PNODE_node p = node ∧ s'.is F.LK_ROUTE_absent node = false ∧
        (s'.linkOf p).txKey = (if own < node then keys.1 else keys.2) ∧ (s'.linkOf p).rxKey = (if own < node then keys.2 else keys.1) ∧ (s'.linkOf p).tx = 0 ∧
        (s'.linkOf p).rx = 0 ∧ (s'.linkOf p).utx = 2 ∧ (s'.linkOf p).beatAt = now ∧ ∃ g, s'.out = [.frame p (hello { h with peer := theirs }), .frame p g]))) ∧
    (∀ lvl, Does (.lkWakePinChange t p lvl) s (fun s' => s' = { s with now := now, out := s'.out, lkWake := s'.lkWake, wake := s'.wake, srcAt := s'.srcAt } ∧ SourcesKept 19 p s s' ∧ s'.lkWakeOf p = lvl ∧
      (∀ q, q ≠ p.val → s'.lkWakeOf q = s.lkWakeOf q) ∧ s'.out = (if lkWakeLine s p = lkWakeLine s' p then [] else [.fabric 19 p 2 now]) ∧
      s'.wake = (if lvl = false ∧ 5 ≤ s.rung ∧ (s.get F.PWR_WPIN_en 0).testBit p = true ∧ s.wake = none then some 5 else s.wake))) ∧
    (∀ x, s.lkDriveOf p = some x → x ≤ now → Does (.lkWakeDriveEnd t p) s (fun s' => s' = { s with now := now, out := s'.out, lkDrive := s'.lkDrive, srcAt := s'.srcAt } ∧ SourcesKept 19 p s s' ∧ s'.lkDriveOf p = none ∧
      s'.out = (if lkWakeLine s p = lkWakeLine s' p then [] else [.fabric 19 p 2 now])))

/-- R347, R354 to R358: an LSTAT acknowledges, gives credit and asks for a resend; the port sends LSTATs and BEATs; a BEAT keeps the partner present, and its end, the sleeping bit, or the exhausted retry budget lose it. Errors are counted, answered and summed. -/
def Obligations.LinkControl : Prop :=
  ∀ (t : Nat) (p : Fin 4) (f : Frame) (s : State), let now := max s.now t
    let h := s.linkOf p
    let up := s.get F.LK_PSTAT_state p = 3
    let Frame (l : List RegName) (s' : State) : Prop := LinkFrame t l s s' ∧ (∀ r ∈ l, OthersKept r p s s') ∧ ∀ q, q ≠ p.val → s'.linkOf q = s.linkOf q
    let budget := if s.get F.MODE_STAT_cur 0 = 1 then s.get F.LK_RETRY_rbs 0 else s.get F.LK_RETRY_rbn 0
    let exhausted := ∃ e ∈ h.retry, budget + 1 ≤ e.n
    let Resent (s' : State) (h' : LinkS) (l : List RtEnt) : Prop := s'.linkOf p = { h' with retry := l.map (fun e => { e with n := e.n + 1 }), ackAt := now } ∧
      s'.out = l.map (fun e => Out.frame p e.f) ∧ s'.get F.LK_ERTRY_n p = max (s.get F.LK_ERTRY_n p) (min (s.get F.LK_ERTRY_n p + l.length) 262143)
    let lstat (h : LinkS) (nak : Bool) : Sys2Proof.Frame :=
      let w (x : Nat) : Word := BitVec.ofNat 18 x
      let g := Framed s 2 (s.get F.LK_PNODE_node p) 1 0 0 ([w (b2n nak * 2 ^ 17 + (h.rx + 255) % 256), w (h.mine.getD 0 0), w (h.mine.getD 1 0), w (h.mine.getD 2 0)] ++
        words2 ((h.utx + 1) % 2 ^ 36))
      { g with mac := frameMac h.txKey 0 g }
    let n := framePair f 4
    (Unsequenced s p f 2 n → h.txq = [] → (∀ e ∈ h.retry, e.slot = none) → h.retry.length < 256 →
      ∀ k ≤ h.retry.length, (h.tx - h.retry.length + k) % 256 = (frameW f 0 + 1) % 256 →
      let h' := { h with urx := n, retry := h.retry.drop k, freed := [frameW f 1 % 256, frameW f 2 % 256, frameW f 3 % 256], ackAt := if 0 < k then now else h.ackAt }
      (frameBit f 0 17 = false → Does (.lstat t p f) s (fun s' => Frame [] s' ∧ s'.linkOf p = h' ∧ s'.out = [])) ∧
      (frameBit f 0 17 = true → ¬ exhausted → Does (.lstat t p f) s (fun s' => Frame [.LK_ERTRY] s' ∧ Resent s' h' (h.retry.drop k)))) ∧
    (∀ e, h.retry = [e] → ∀ k, e.slot = some k → ∀ j, (s.txsOf k).job = some j → Unsequenced s p f 2 n → h.txq = [] → j.kind = 1 → e.f.tag = BitVec.ofNat 8 j.tag →
      frameBit f 0 17 = false → (h.tx - 1 + 1) % 256 = (frameW f 0 + 1) % 256 → Does (.lstat t p f) s (fun s' => (s'.linkOf p).retry = [] ∧ (s'.txsOf k).job = none ∧
        s'.is F.LK_TXS_done k = true ∧ s'.get F.LK_TXS_st k = 0 ∧ s'.is F.LK_TXS_busy k = false ∧ s'.out = irqIf (s.is F.LK_IEN_tx 0) (548 + k / 4))) ∧
    (up → (h.chg = true ∨ h.lstatDue ≤ now) → Does (.lstatTimer t p) s (fun s' => Frame [] s' ∧ s'.linkOf p = { h with utx := h.utx + 1, chg := false, lstatDue := now + 64000 } ∧
      s'.out = [.frame p (lstat h false)])) ∧
    (Unsequenced s p f 3 (framePair f 0) →
      (frameBit f 2 17 = false → Does (.beat t p f) s (fun s' => Frame [] s' ∧ s'.linkOf p = { h with urx := framePair f 0, beatAt := now } ∧ s'.out = [])) ∧
      (frameBit f 2 17 = true → Does (.beat t p f) s (fun s' => Lost s s' p now))) ∧
    (up → h.beatDue ≤ now → Does (.beatTimer t p) s (fun s' => Frame [] s' ∧ s'.linkOf p = { h with utx := h.utx + 1, beatDue := now + 640000 } ∧
      (let g := Framed s 3 (s.get F.LK_PNODE_node p) 1 0 0 (words2 ((h.utx + 1) % 2 ^ 36) ++ [0])
       s'.out = [.frame p { g with mac := frameMac h.txKey 0 g }]))) ∧
    (up → h.beatAt + 1984000 ≤ now → Does (.partnerAbsent t p) s (fun s' => Lost s s' p now)) ∧
    (up → h.retry ≠ [] → h.ackAt + 16000 * s.get F.LK_RETRY_rtmo 0 ≤ now →
      (¬ exhausted → Does (.retryTimeout t p) s (fun s' => Frame [.LK_ERTRY] s' ∧ Resent s' h h.retry)) ∧
      (exhausted → Does (.retryTimeout t p) s (fun s' => Lost s s' p now ∧ s'.is F.LK_PSTAT_rex p = true))) ∧
    ((up ∨ s.get F.LK_PSTAT_state p = 2) → Does (.badFrame t p true none) s (fun s' => Frame [.LK_ECRC] s' ∧ s'.get F.LK_ECRC_n p = min (s.get F.LK_ECRC_n p + 1) 262143 ∧
      (¬ up ∨ h.nakd = true → s'.linkOf p = h ∧ s'.out = []) ∧
      (up → h.nakd = false → s'.linkOf p = { h with nakd := true, utx := h.utx + 1, chg := false, lstatDue := now + 64000 } ∧ s'.out = [.frame p (lstat h true)]))) ∧
    (up → frameLegal f = true → f.ty ≠ 1 → f.mac ≠ lkTag s p f → f.dst = BitVec.ofNat 12 (lkOwn s) → s.get F.LK_QUAR_n p = 0 → h.nakd = true →
      Does (.badFrame t p false (some f)) s (fun s' => Frame [.LK_EAUTH] s' ∧ s'.get F.LK_EAUTH_n p = min (s.get F.LK_EAUTH_n p + 1) 262143 ∧ s'.out = [] ∧
        s'.linkOf p = { h with fails := h.fails.filter (fun x => decide (now < x + 64000000)) ++ [now] })) ∧
    ((up ∨ s.get F.LK_PSTAT_state p = 2) → Does (.codeGroupError t p) s (fun s' => Frame [.LK_ECODE] s' ∧ s'.get F.LK_ECODE_n p = min (s.get F.LK_ECODE_n p + 1) 262143 ∧
      s'.link = s.link ∧ s'.out = []))

/-- R359, R360, R363: a frame for another node leaves by its route, one hop lower, or is dropped and counted, and a request of this device that comes back so ends its transaction with status 7; a NODEDOWN marks the node absent, breaks its locks, and is
passed on, one hop lower, unless it fails the checks of a forwarded frame; entries of the window table are loaded from their lines, or cleared, with ldbusy for 1 to 20 timer cycles (R267), and a write meanwhile is ignored.
DEDUCED, log 61: an alias of peripheral space may be covered, and the entry changes as the load begins. -/
def Sys2Proof.Machine.LinkNetworkRules : Prop :=
  ∀ (t : Nat) (p : Fin 4) (f : Frame) (s : State), let now := max s.now t
    let h := s.linkOf p
    let c := f.cls.toNat
    (InOrder s p f → f.ty ≠ 6 → f.dst ≠ BitVec.ofNat 12 (lkOwn s) → inNetBoot s = false →
      let rpf := s.is F.LK_ROUTE_rpf f.src.toNat = true ∧ s.get F.LK_ROUTE_port f.src.toNat ≠ p
      let q := s.get F.LK_ROUTE_port f.dst.toNat
      (f.hops ≠ 0 → ¬ rpf → q < 4 → q ≠ p → Quiet s q c → c < 3 → Does (.frameForward t p f) s (fun s' => LinkFrame t [] s s' ∧ s'.linkOf p = accepted h c ∧
        s'.linkOf q = afterSend (s.linkOf q) { f with hops := f.hops - 1 } none now ∧ s'.out = [.frame q (sentAs (s.linkOf q) { f with hops := f.hops - 1 })] ∧
        ∀ m, m ≠ p.val → m ≠ q → s'.linkOf m = s.linkOf m)) ∧
      (f.hops ≠ 0 → ¬ rpf → (4 ≤ q ∨ s.get F.LK_PSTAT_state q ≠ 3) → f.src = BitVec.ofNat 12 (lkOwn s) → (f.ty = 8 ∨ f.ty = 9 ∨ f.ty = 10) →
        let k := f.core.toNat * 4 + f.tag.toNat % 4
        ∀ j, (s.txsOf k).job = some j → f.tag = BitVec.ofNat 8 j.tag → Does (.frameForward t p f) s (fun s' => (s'.txsOf k).job = none ∧ s'.get F.LK_TXS_st k = 7 ∧ s'.is F.LK_TXS_done k = true ∧
          s'.is F.LK_TXS_busy k = false ∧ s'.get F.LK_EDROP_n p = min (s.get F.LK_EDROP_n p + 1) 262143 ∧ ∀ m, m ≠ k → s'.txsOf m = s.txsOf m)) ∧
      ((f.hops = 0 ∨ rpf ∨ ((4 ≤ q ∨ s.get F.LK_PSTAT_state q ≠ 3) ∧ f.src ≠ BitVec.ofNat 12 (lkOwn s))) → c < 3 → s.get F.LK_QUAR_n p = 0 → Does (.frameForward t p f) s (fun s' => LinkFrame t [.LK_EDROP] s s' ∧
        s'.get F.LK_EDROP_n p = min (s.get F.LK_EDROP_n p + 1) 262143 ∧ s'.out = [] ∧
        s'.linkOf p = (if f.hops = 0 ∨ rpf then { accepted h c with fails := h.fails.filter (fun x => decide (now < x + 64000000)) ++ [now] } else accepted h c) ∧
        ∀ m, m ≠ p.val → s'.linkOf m = s.linkOf m))) ∧
    (let node := frameW f 0 % 4096
     let stray := f.hops = 0 ∨ (s.is F.LK_ROUTE_rpf f.src.toNat = true ∧ s.get F.LK_ROUTE_port f.src.toNat ≠ p)
     let Marks (s' : State) : Prop := s'.is F.LK_ROUTE_absent node = true ∧ s'.now = now ∧ s'.core = s.core ∧ s'.sram = s.sram ∧ s'.pending = s.pending ∧
        (∀ n < 256, (s.get F.LOCK_OWN_state n = 1 ∨ s.get F.LOCK_OWN_state n = 3) → s.is F.LOCK_OWN_rem n = true → s.get F.LOCK_OWN_node n = node →
          s'.get F.LOCK_OWN_state n = 2 ∧ s'.get F.LOCK_OWN_why n = 3)
     InOrder s p f → f.ty = 6 → c = 2 → inNetBoot s = false →
      (s.is F.LK_ROUTE_absent node = false → ¬ stray → Does (.nodedown t p f) s (fun s' => Marks s' ∧ s'.linkOf p = accepted h 2 ∧
        ∀ q < 4, q ≠ p.val → Quiet s q 2 → let g := { f with hops := f.hops - 1 }
          s'.linkOf q = afterSend (s.linkOf q) g none now ∧ .frame q (sentAs (s.linkOf q) g) ∈ s'.out)) ∧
      (s.is F.LK_ROUTE_absent node = false → stray → s.get F.LK_QUAR_n p = 0 → Does (.nodedown t p f) s (fun s' => Marks s' ∧ s'.get F.LK_EDROP_n p = min (s.get F.LK_EDROP_n p + 1) 262143 ∧
        (∀ q < 4, q ≠ p.val → s'.linkOf q = s.linkOf q) ∧ ∀ q g, Out.frame q g ∉ s'.out)) ∧
      (s.is F.LK_ROUTE_absent node = true → Does (.nodedown t p f) s (fun s' => LinkFrame t [] s s' ∧ s'.out = [] ∧ s'.linkOf p = accepted h 2 ∧ ∀ q, q ≠ p.val → s'.linkOf q = s.linkOf q))) ∧
    (∀ v : Word, now < s.lku.ldEnd → Does (.windowLoad t v) s (fun s' => s' = { s with now := now, out := [] })) ∧
    (∀ v : Word, let w := F.LK_WLOAD_win.of v.toNat
      let a := s.get F.LK_WTAB_base 0 + 16 * w
      let k := sramIx a
      let cell (i : Nat) : MCell := s.sramOf (k + i)
      let cap := Cap.ofLine ((cell 0).w ++ (cell 1).w ++ (cell 2).w ++ (cell 3).w) ((cell 0).tag && (cell 1).tag && (cell 2).tag && (cell 3).tag)
      let open_ := s.is F.BANK_STAT_hpend (bankAt a) = false ∧ (s.is F.BANK_OWN_gl (bankAt a) = true ∨ s.get F.BANK_OWN_kind (bankAt a) = 2)
      let lo := cap.base.toNat
      let hi := lo + cap.len.toNat
      let covers := (0o040000000 ≤ lo ∧ hi ≤ 0o060000000) ∨ (0o100000000 ≤ lo ∧ hi ≤ 0o160000000 ∧ ∀ x ∈ [0o104000000, 0o124000000, 0o144000000], ¬ (lo < x + 0o1000000 ∧ x < hi))
      let good := cap.tag = true ∧ cap.otype = 0 ∧ covers
      let Loading (s' : State) : Prop := s'.lku = { s.lku with ldEnd := s'.lku.ldEnd } ∧ now + 64 ≤ s'.lku.ldEnd ∧ s'.lku.ldEnd ≤ now + 1280 ∧ s'.free = s.free + 1
      s.lku.ldEnd ≤ now → F.LK_WLOAD_all.of v.toNat = 0 → inOneBank a 16 = true → (∀ i < 8, (cell i).ecc = .good) →
      (open_ → good → Does (.windowLoad t v) s (fun s' => s' = { s with now := now, out := [], win := s'.win, lku := s'.lku, free := s'.free } ∧ Loading s' ∧ (∀ m, m ≠ w → s'.winOf m = s.winOf m) ∧
        s'.winOf w = { valid := true, cap := cap, any := (cell 4).w.getLsbD 17, node := (cell 4).w.extractLsb' 0 12 })) ∧
      (¬ (open_ ∧ good) → Does (.windowLoad t v) s (fun s' => s' = { s with now := now, out := s'.out, regs := s'.regs, hw := s'.hw, win := s'.win, vsrc := s'.vsrc, lku := s'.lku, free := s'.free } ∧ Loading s' ∧ (∀ m, m ≠ w → s'.winOf m = s.winOf m) ∧
        RegsKept (andVecs [.LK_GSTAT]) s s' ∧ s'.winOf w = {} ∧ s'.is F.LK_GSTAT_ldfail 0 = true ∧ s'.get F.LK_GSTAT_ldwin 0 = w)))

/-- R361, R362, R365, R366: go of a core's own free slot sends its request by the route of the node, with a timeout, or ends it with the first status that applies; another requester's go, or one to a busy slot, sets cfgerr alone. A response brings the status, or its words into
the buffer and the end; one that no slot awaits sets late; without one the slot ends with status 8.
DEDUCED: log 56, a tag is the slot and a generation, and an odd local address is status 3; log 57, the local buffer lies in one bank of the core with gl = 1, and a response's words need one bank that is open to the link. -/
def Obligations.LinkTransactions : Prop :=
  ∀ (t : Nat) (c : Fin 16) (k : Fin 4) (v : Word) (s : State), let now := max s.now t
    let i := c.val * 4 + k.val
    let kind := F.LK_TXD_kind.of v.toNat
    let go (q : Req) (P : State → Prop) : Prop := (kind = 0 → Does (.txRead t q c k v) s P) ∧ (kind = 1 → Does (.txWrite t q c k v) s P) ∧ (kind = 2 → Does (.txSnap t q c k v) s P)
    let node := F.LK_TXD_node.of v.toNat
    let cnt := s.get F.LK_TXW_cnt i
    let off := s.get F.LK_TXO_a i
    let a := s.get F.LK_TXL_a i
    let n := if kind = 2 then 8 + 2 * cnt else 2 * cnt
    let port := s.get F.LK_ROUTE_port node
    let hidden (s' : State) : Prop := s' = { s with now := now, out := s'.out, regs := s'.regs, hw := s'.hw, txs := s'.txs, link := s'.link, vsrc := s'.vsrc } ∧ ∀ m, m ≠ i → s'.txsOf m = s.txsOf m
    let buffer := inOwnBank s c a (max n 2) = true ∧ s.is F.BANK_OWN_gl (bankAt a) = true
    let routed := port < 4 ∧ s.get F.LK_PSTAT_state port = 3 ∧ s.is F.LK_ROUTE_absent node = false
    let limits := a % 2 = 0 ∧ 1 ≤ cnt ∧ cnt ≤ (if kind = 0 then 31 else if kind = 1 then 28 else 27) ∧ (kind = 2 ∨ off % 2 = 0)
    let why := if ¬ buffer then 4 else if ¬ routed then 7 else if ¬ limits then 3 else 0
    let ws := (List.range (n / 2)).map (fun j => (s.sramOf (sramIx a + j)).w)
    let w (x : Nat) : Word := BitVec.ofNat 18 x
    let pay : List Word := match kind with
      | 0 => [w (s.get F.LK_TXW_win i * 2 ^ 12), w (off / 2 ^ 18), w off, w cnt]
      | 1 => [w (s.get F.LK_TXW_win i * 2 ^ 12), w (off / 2 ^ 18), w off, w cnt] ++ ws
      | _ => [w (F.LK_TXD_at.of v.toNat * 2 ^ 17)] ++ ws
    let g := Framed s (if kind = 0 then 9 else if kind = 1 then 8 else 10) node (s.get F.LK_NET_hops 0) c ((k.val + 4 * (s.txsOf i).gen) % 256) pay
    let want := if kind = 2 then 4 * snapLines (ws.drop 4) else cnt
    let Ended (st : Nat) (s' : State) : Prop := (s'.txsOf i).job = none ∧ s'.is F.LK_TXS_done i = true ∧ s'.is F.LK_TXS_busy i = false ∧ s'.get F.LK_TXS_st i = st ∧
      (s.is F.LK_IEN_tx 0 = true → .irq (548 + c.val) ∈ s'.out)
    (F.LK_TXD_go.of v.toNat = 1 → kind < 3 →
      (s.is F.LK_TXS_busy i = false → why = 0 → (kind ≠ 0 → ∀ j < n / 2, (s.sramOf (sramIx a + j)).ecc = .good) → Quiet s port 0 → go (.core c) (fun s' => hidden s' ∧ RegsKept [.LK_TXD, .LK_TXS] s s' ∧
        s'.is F.LK_TXS_busy i = true ∧ s'.txsOf i = ⟨some ⟨kind, node, port, g.tag.toNat, now + 64000 * s.get F.LK_TMO_us 0, a, off, want, 0⟩, (s.txsOf i).gen + 1⟩ ∧
        s'.out = [.frame port (sentAs (s.linkOf port) g)] ∧ s'.linkOf port = afterSend (s.linkOf port) g (some i) now ∧ ∀ m, m ≠ port → s'.linkOf m = s.linkOf m)) ∧
      (s.is F.LK_TXS_busy i = false → why ≠ 0 → go (.core c) (fun s' => hidden s' ∧ RegsKept (andVecs [.LK_TXD, .LK_TXS]) s s' ∧ Ended why s' ∧ s'.link = s.link)) ∧
      (∀ q, (q ≠ .core c ∨ s.is F.LK_TXS_busy i = true) → go q (fun s' => hidden s' ∧ RegsKept [.LK_GSTAT] s s' ∧ s'.is F.LK_GSTAT_cfgerr 0 = true ∧ s'.txs = s.txs ∧ s'.out = []))) ∧
    (∀ j, (s.txsOf i).job = some j → j.kind ≠ 1 → j.due ≤ now → Does (.txTimeout t c k) s (fun s' => hidden s' ∧ RegsKept (andVecs [.LK_TXS]) s s' ∧ Ended 8 s' ∧ s'.link = s.link)) ∧
    (∀ (p : Fin 4) (f : Frame) (j : TxJob), (s.txsOf i).job = some j → InOrder s p f → f.ty = 11 → f.dst = BitVec.ofNat 12 (lkOwn s) → f.core = BitVec.ofNat 4 c → f.tag.toNat % 4 = k →
      let st := frameW f 0 / 2 ^ 14
      let ours := f.tag = BitVec.ofNat 8 j.tag ∧ f.src = BitVec.ofNat 12 j.node ∧ j.kind ≠ 1
      let l := f.pay.drop 1
      let base := if j.kind = 2 then j.out + 62 * (frameW f 0 % 256) else j.buf
      (ours → st ≠ 0 → st < 16 → Does (.rdata t p f) s (fun s' => hidden s' ∧ Ended st s' ∧ s'.linkOf p = accepted (s.linkOf p) 1)) ∧
      (ours → st = 0 → inOneBank base (2 * l.length) = true → (s.is F.BANK_OWN_gl (bankAt base) = true ∨ s.get F.BANK_OWN_kind (bankAt base) = 2) → base % 2 = 0 → (∀ i < l.length, (s.sramOf (sramIx base + i)).ecc ≠ .bad) → Does (.rdata t p f) s (fun s' => hidden { s' with sram := s.sram } ∧
        s'.linkOf p = accepted (s.linkOf p) 1 ∧ (j.want ≤ j.got + l.length → Ended 0 s') ∧ (j.got + l.length < j.want → (s'.txsOf i).job = some { j with got := j.got + l.length }) ∧
        ∀ x, s'.sramOf x = if sramIx base ≤ x ∧ x < sramIx base + l.length ∧ inSlice x = false then ⟨l.getD (x - sramIx base) 0, false, .good⟩ else s.sramOf x)) ∧
      (¬ ours → Does (.rdata t p f) s (fun s' => hidden s' ∧ s'.is F.LK_GSTAT_late 0 = true ∧ s'.txs = s.txs ∧ s'.linkOf p = accepted (s.linkOf p) 1)))

/-- R363 to R366, R391: a request of the link for this device is admitted where room is, or waits; a READ is answered with the words, or with the status of the first check that it fails; a WRITE stores its words, or is refused; a SNAP is taken up or answered with a
status; every refusal is recorded. In boot mode the direct partner's WRITE stores its words in BK00 to BK31, and one of 1 to word 0 of BK32 starts the verification.
DEDUCED: log 58, a request is performed when it is admitted, and holds its banks for at most 1 us; log 60, the statuses of a SNAP that is not served. -/
def Obligations.LinkRequests : Prop :=
  ∀ (t : Nat) (p : Fin 4) (f : Frame) (dur : Nat) (s : State), let now := max s.now t
    let h := s.linkOf p
    let mine := InOrder s p f ∧ f.dst = BitVec.ofNat 12 (lkOwn s)
    let a := (s.winOf (frameW f 0 / 2 ^ 12)).cap.base.toNat + framePair f 1 % 2 ^ 27
    let n := frameW f 3 % 32
    let room := ((h.adm.filter (fun x => decide (now < x.1))).length < s.get F.LK_CAP_n 0)
    let bank (b : Nat) : Nat := if regionOf a = .sram ∧ f.ty ≠ 10 then bankAt b else 64
    let admitted (h : LinkS) : LinkS := { h with adm := h.adm.filter (fun x => decide (now < x.1)) ++ [(now + min dur 64000, bank a, bank (a + 2 * n - 1))] }
    let q := s.get F.LK_ROUTE_port f.src.toNat
    let answer (st : Nat) (ws : List Word) : Frame := Framed s 11 f.src.toNat (s.get F.LK_NET_hops 0) f.core.toNat f.tag.toNat (BitVec.ofNat 18 (st * 2 ^ 14) :: ws)
    let Answers (o : List Out) (hp : LinkS) (s' : State) (g : Frame) : Prop :=
      let hq := if q = p.val then hp else s.linkOf q
      s'.out = o ++ [.frame q (sentAs hq g)] ∧ s'.linkOf q = afterSend hq g none now ∧ ∀ m, m ≠ q → s'.linkOf m = if m = p.val then hp else s.linkOf m
    let hp := admitted (accepted h 0)
    let win := s.winOf (frameW f 0 / 2 ^ 12)
    let off := framePair f 1 % 2 ^ 27
    let wr := f.ty = 8
    let shut (b : Nat) : Prop := ¬ (s.is F.BANK_OWN_gl b = true ∨ s.get F.BANK_OWN_kind b = 2) ∨ s.is F.BANK_STAT_hpend b = true
    let st := if ¬ (win.valid = true ∧ (win.any = true ∨ win.node = f.src)) then 1
      else if win.cap.has (if wr then permST else permLD) = false then 2
      else if ¬ (off % 2 = 0 ∧ a % 2 = 0 ∧ 1 ≤ n ∧ n ≤ (if wr then 28 else 31) ∧ off + 2 * n ≤ win.cap.len.toNat ∧ f.pay.length = (if wr then 4 + n else 4)) then 3
      else if regionOf a = .sram then (if shut (bankAt a) ∨ shut (bankAt (a + 2 * n - 1)) ∨ 63 * 32768 + 28672 ≤ sramIx (a + 2 * n - 1) then 4 else 0)
      else if periphUnits a n = none then 3 else 0
    let Logged (st win : Nat) (s' : State) : Prop := s'.is F.LK_GSTAT_refd 0 = true ∧ s'.get F.LK_REFLOG_st 0 = st % 16 ∧ s'.get F.LK_REFLOG_src 0 = f.src.toNat ∧
      s'.get F.LK_REFLOG_win 0 = win
    let refIrq := irqIf (s.is F.LK_IEN_ref 0) 564
    let w6 := frameW f 0 / 2 ^ 12 % 64
    let words := (List.range n).map (fun i => (s.sramOf (sramIx a + i)).w)
    let kept (l : List RegName) (s' : State) : Prop := s' = { s with now := now, out := s'.out, regs := s'.regs, hw := s'.hw, link := s'.link, sram := s'.sram, vsrc := s'.vsrc } ∧ RegsKept (andVecs l) s s'
    let reads : Prop := (st = 0 → regionOf a = .sram → (∀ i < n, (s.sramOf (sramIx a + i)).ecc = .good) → Does (.read t p f dur) s (fun s' => kept [] s' ∧ s'.sram = s.sram ∧ Answers [] hp s' (answer 0 words))) ∧
      (st ≠ 0 → Does (.read t p f dur) s (fun s' => kept [.LK_REFLOG, .LK_GSTAT] s' ∧ s'.sram = s.sram ∧ Logged st w6 s' ∧ Answers refIrq hp s' (answer st [])))
    (mine → f.ty = 9 → inNetBoot s = false → h.wait = [] → room → q < 4 → Quiet s q 1 → reads) ∧
    (mine → f.ty = 8 → inNetBoot s = false → h.wait = [] → room →
      (st = 0 → regionOf a = .sram → (∀ i < n, (s.sramOf (sramIx a + i)).ecc ≠ .bad) → Does (.write t p f dur) s (fun s' => kept [] s' ∧ s'.linkOf p = hp ∧ s'.out = [] ∧ (∀ m, m ≠ p.val → s'.linkOf m = s.linkOf m) ∧
        ∀ x, s'.sramOf x = if sramIx a ≤ x ∧ x < sramIx a + n then ⟨(f.pay.drop 4).getD (x - sramIx a) 0, false, .good⟩ else s.sramOf x)) ∧
      (st ≠ 0 → Does (.write t p f dur) s (fun s' => kept [.LK_REFLOG, .LK_GSTAT] s' ∧ s'.linkOf p = hp ∧ s'.sram = s.sram ∧ Logged st w6 s' ∧ s'.out = refIrq))) ∧
    (mine → f.ty = 10 → inNetBoot s = false → h.wait = [] → room → let items := f.pay.drop 5
      let at1 := frameBit f 0 17 = true
      let x := framePair f 1 * 64000000000 + framePair f 3
      let b := s.get F.LK_SNAPB_bank 0
      let served := s.lku.snap = none ∧ s.is F.LK_SNAPB_en 0 = true ∧ s.get F.BANK_OWN_kind b = 3 ∧ s.is F.BANK_STAT_hpend b = false ∧ (∀ w ∈ items, itemReserved w = false) ∧
        ¬ (at1 ∧ tbPast (s.tbAt now) x = true)
      (items ≠ [] → items.length ≤ 27 → served → Does (.snap t p f dur) s (fun s' => s' = { s with now := now, out := [], link := s'.link, snap := s'.snap, lku := { s.lku with snap := some (p.val, f) } } ∧
        s'.linkOf p = hp ∧ s'.snapOf 16 = { items := items, dst := 65536 * b + 0o040000000, due := some (if at1 then .inr x else .inl (edgeAfter now)), lines := [] } ∧ ∀ c < 16, s'.snapOf c = s.snapOf c)) ∧
      ((items = [] ∨ 27 < items.length ∨ ¬ served) → q < 4 → Quiet s q 1 → Does (.snap t p f dur) s (fun s' => kept [.LK_REFLOG, .LK_GSTAT] s' ∧ s'.sram = s.sram ∧
        (let st := if items = [] ∨ 27 < items.length then 3 else 6
         Logged st 0 s' ∧ Answers refIrq hp s' (answer st []))))) ∧
    (mine → (f.ty = 8 ∨ f.ty = 9 ∨ f.ty = 10) → inNetBoot s = false → (h.wait ≠ [] ∨ ¬ room) →
      let P (s' : State) : Prop := LinkFrame t [] s s' ∧ s'.out = [] ∧ s'.linkOf p = { h with rx := h.rx + 1, nakd := false, chg := true, wait := h.wait ++ [f] } ∧ ∀ m, m ≠ p.val → s'.linkOf m = s.linkOf m
      (f.ty = 8 → Does (.write t p f dur) s P) ∧ (f.ty = 9 → Does (.read t p f dur) s P) ∧ (f.ty = 10 → Does (.snap t p f dur) s P)) ∧
    (∀ l, h.wait = f :: l → room → f.ty = 9 → st = 0 → regionOf a = .sram → (∀ i < n, (s.sramOf (sramIx a + i)).ecc = .good) → q < 4 → Quiet s q 1 →
      let hp := { admitted h with wait := l, chg := true, mine := h.mine.set 0 ((h.mine.getD 0 0 + 1) % 256) }
      Does (.requestAdmit t p dur) s (fun s' => kept [] s' ∧ s'.sram = s.sram ∧ Answers [] hp s' (answer 0 words))) ∧
    (mine → f.ty = 8 → inNetBoot s = true → f.src = BitVec.ofNat 12 (s.get F.LK_PNODE_node p) → let l := (f.pay.drop 4).take n
      off % 2 = 0 → off / 2 + l.length ≤ 0o4000000 → (∀ i < l.length, (s.sramOf (off / 2 + i)).ecc ≠ .bad) → Does (.write t p f dur) s (fun s' =>
        s' = { s with now := now, out := [], link := s'.link, sram := s'.sram, boot := { s.boot with phase := .net none } } ∧ s'.linkOf p = accepted h 0 ∧ (∀ m, m ≠ p.val → s'.linkOf m = s.linkOf m) ∧
        ∀ x, s'.sramOf x = if off / 2 ≤ x ∧ x < off / 2 + l.length then ⟨l.getD (x - off / 2) 0, false, .good⟩ else s.sramOf x)) ∧
    (mine → f.ty = 8 → (∃ x, s.boot.phase = .net x) → f.src = BitVec.ofNat 12 (s.get F.LK_PNODE_node p) → framePair f 1 % 2 ^ 27 = 32 * 0o200000 → n = 1 → f.pay.drop 4 = [1] →
      let s1 : State := { (s.tick t).setLink p (accepted h 0) with boot := { s.boot with phase := .net none } }
      let r := verify s1 3
      Does (.networkBootGo t p f) s (fun s' => if r.1.1 = 0 then CoreStarts s' 3 false (imgPair r.1.2 2 0) (imgW r.1.2 1 0) (imgW r.1.2 1 1) ∧ GraftsAs s s' r.1.2 ∧ s'.link = []
        else s'.boot.phase = .due ∧ s'.boot.fail = s.boot.fail ||| 1 ∧ s'.get F.BOOT_STAT_fail 0 = (s.boot.fail ||| 1) % 16 ∧ s'.get F.BOOT_STAT_why 0 = r.1.1 % 8 ∧ s'.link = []))

/-- R321, R367: the whole-second event, with which the time source sends its TREQ; a TREQ is answered with both stamps and the uncertainty; a TRSP gives the delay and corrects the timebase by the mode; without a valid one within 1 ms the exchange is missed. DESIGN CHOICE, log 62: a TRSP without the valid bit leaves the exchange open. DEDUCED, log 63: LK_TDLY takes the delay of every TRSP of an exchange. -/
def Sys2Proof.Machine.TimeTransferRules : Prop :=
  ∀ (t : Nat) (p : Fin 4) (f : Frame) (d : Nat) (s : State), let now := max s.now t
    let h := s.linkOf p
    let Frame (s' : State) : Prop := LinkFrame t [] { s with lku := s'.lku, srcAt := s'.srcAt } s' ∧ SourcesKept 17 0 s s' ∧ ∀ q, q ≠ p.val → s'.linkOf q = s.linkOf q
    let split (v : Nat) : List Word := words2 (v / 64000000000 % 2 ^ 36) ++ words2 (v % 64000000000)
    let mac (g : Sys2Proof.Frame) : Sys2Proof.Frame := { g with mac := frameMac h.txKey 0 g }
    let n := framePair f 0
    (∀ k, secondTurns { s with now := now } k = true → s.get F.LK_TCTL_port 0 = p →
      (s.is F.LK_TCTL_en 0 = false → Does (.wholeSecond t k d) s (fun s' => Frame s' ∧ s'.out = [.fabric 17 0 1 now] ∧ s'.link = s.link ∧ s'.lku = s.lku)) ∧
      (s.is F.LK_TCTL_en 0 = true → s.get F.LK_PSTAT_state p = 3 → Does (.wholeSecond t k d) s (fun s' => Frame s' ∧ s'.lku = { s.lku with exch := some (s.tbAt (now + d), now) } ∧
        s'.linkOf p = { h with utx := h.utx + 1 } ∧ s'.out = [.fabric 17 0 1 now, .frame p (mac (Framed s 4 (s.get F.LK_PNODE_node p) 1 0 0 (words2 ((h.utx + 1) % 2 ^ 36))))]))) ∧
    (Unsequenced s p f 4 n → d ≤ 128000 → Does (.treq t p f d) s (fun s' => Frame s' ∧ s'.linkOf p = { h with urx := n, utx := h.utx + 1 } ∧ s'.lku = s.lku ∧
      s'.out = [.frame p (mac (Framed s 5 (s.get F.LK_PNODE_node p) 1 0 0 (split (s.tbAt now) ++ split (s.tbAt (now + d)) ++ [BitVec.ofNat 18 (s.get F.TB_STAT_valid 0 * 2 ^ 17)] ++
        words2 (s.get F.TB_UNCERT_ns 0))))])) ∧
    (∀ t1 x, s.lku.exch = some (t1, x) → now ≤ x + 64000000 → s.get F.LK_PSTAT_state p = 3 → f.ty = 5 → frameLegal f = true → f.mac = frameMac h.rxKey 0 f → s.is F.LK_TCTL_en 0 = true →
      s.get F.LK_TCTL_port 0 = p →
      let t2 := framePair f 0 * 64000000000 + framePair f 2
      let t3 := framePair f 4 * 64000000000 + framePair f 6
      let two := tbDiff t2 t1 + tbDiff t3 (s.tbAt now)
      let twice := tbDiff (s.tbAt now) t1 - tbDiff t3 t2
      two % 2 = 0 → twice % 2 = 0 → -2 ^ 35 < two / 2 → two / 2 < 2 ^ 35 → -2 ^ 35 ≤ twice / 2 → twice / 2 < 2 ^ 35 →
      let Kept (l : List RegName) (s' : State) : Prop := s' = { s with now := now, out := s'.out, regs := s'.regs, hw := s'.hw, tb := s'.tb, pps := s'.pps, lku := s'.lku, mf := s'.mf, srcAt := s'.srcAt, divAt := s'.divAt, free := s'.free, vsrc := s'.vsrc } ∧
        SourcesKept 17 0 s s' ∧ (∀ m, m ≠ 4 → s'.divAtOf m = s.divAtOf m) ∧
        RegsKept (andVecs (.LK_TDLY :: l)) s s' ∧ s'.getS F.LK_TDLY_d p = twice / 2
      (frameBit f 8 17 = false → Does (.trsp t p f) s (fun s' => Kept [] s' ∧ s'.tb = s.tb ∧ s'.lku = s.lku ∧ s'.out = [])) ∧
      (frameBit f 8 17 = true → s.get F.TB_CTL_mode 0 = 0 → Does (.trsp t p f) s (fun s' => Kept [] s' ∧ s'.tb = s.tb ∧ s'.lku = { s.lku with exch := none } ∧ s'.out = [])) ∧
      (frameBit f 8 17 = true → s.get F.TB_CTL_mode 0 = 2 → s.tb.stopped = false → s.is F.TB_STAT_lock 0 = true → (two / 2).natAbs ≤ 64 * s.get F.TB_PPSWIN_w 0 →
        Does (.trsp t p f) s (fun s' => Kept [.TB_PPSERR, .TB_STAT, .TB_UNCERT] s' ∧ s'.lku = { s.lku with exch := none } ∧ s'.getS F.TB_PPSERR_e 0 = -(two / 2) ∧
          s'.is F.TB_STAT_acc 0 = true ∧ s'.tbAt now = (((s.tbAt now : Int) + two / 2) % (tbWrap : Int)).toNat ∧ s'.get F.TB_UNCERT_ns 0 = min (framePair f 9 + 1) (2 ^ 36 - 1)))) ∧
    (∀ v x, s.lku.exch = some (v, x) → x + 64000000 ≤ now → Does (.timeExchangeMiss t) s (fun s' => s' = { s with now := now, out := s'.out, regs := s'.regs, hw := s'.hw, lku := { s.lku with exch := none }, vsrc := s'.vsrc } ∧
      RegsKept (andVecs [.LK_GSTAT]) s s' ∧ s'.is F.LK_GSTAT_tmiss 0 = true ∧ s'.out = irqIf (s.is F.LK_IEN_time 0) 564))

/-- R359, R360, R363: a frame for another node leaves by its route, one hop lower, or is dropped and counted, and a request of this device that comes back so ends its transaction with status 7; a NODEDOWN marks the node absent, breaks its locks, and is passed on, one hop lower, unless it fails the checks of a forwarded frame; entries of the window table are loaded from their lines, or cleared, with ldbusy for 1 to 20 timer cycles (R267), and a write meanwhile is ignored. DEDUCED, log 61: an alias of peripheral space may be covered, and the entry changes as the load begins. R321, R367: the whole-second event, with which the time source sends its TREQ; a TREQ is answered with both stamps and the uncertainty; a TRSP gives the delay and corrects the timebase by the mode; without a valid one within 1 ms the exchange is missed. DESIGN CHOICE, log 62: a TRSP without the valid bit leaves the exchange open. DEDUCED, log 63: LK_TDLY takes the delay of every TRSP of an exchange. -/
def Obligations.LinkNetworkAndTime : Prop := LinkNetworkRules ∧ TimeTransferRules

/-! ### Global tides -/

/-- R370: tree frames of type `ty` went out on the ports of `dst`, after the ports stood as `ports` says; the other ports stand so. -/
def Sys2Proof.Machine.TreeSent (s s' : State) (ports : Nat → LinkS) (ty : Nat) (pay : List Word) (dst : Nat → Bool) : Prop :=
  let g (q : Nat) : Frame := Framed s ty (s.get F.LK_PNODE_node q) 1 0 0 pay
  (∀ q < 4, s'.linkOf q = if dst q then afterSend (ports q) (g q) none s'.now else ports q) ∧
    s'.out = ([0, 1, 2, 3].filter dst).map (fun q => Out.frame q (sentAs (ports q) (g q)))

/-- R370: port `q` is a child port of the tree. -/
def Sys2Proof.Machine.Child (s : State) (q : Nat) : Bool := (s.get F.GT_TREE_child 0).testBit (3 - q)

/-- R370: a child port in UP. -/
def Sys2Proof.Machine.UpChild (s : State) (q : Nat) : Bool := Child s q && s.get F.LK_PSTAT_state q == 3

/-- R375: the votes that round `r` holds. -/
def Sys2Proof.Machine.held (r : Round) : List Vote := r.own :: r.kids.filterMap (fun k => k.2)

/-- R375: `v` is the combination of the votes of `l`, of which `o` is the first. -/
def Sys2Proof.Machine.Combines (o : Vote) (l : List Vote) (v : Vote) : Prop :=
  v.yes = l.all (fun x => x.yes) ∧ v.count = (l.map (fun x => x.count)).sum ∧ v.minlvl = (l.map (fun x => x.minlvl)).foldl min o.minlvl ∧
    v.reason = (((l.map (fun x => x.reason)).filter (fun x => decide (x ≠ 0))).min?).getD 0 ∧ v.refuser = (l.filterMap (fun x => x.refuser)).min?

/-- R375: the payload of a VOTE. -/
def Sys2Proof.Machine.voteWords (s : State) (id : Nat) (v : Vote) (report : Bool) : List Word :=
  let w (x : Nat) : Word := BitVec.ofNat 18 x
  words2 id ++ [w ((if v.yes then 2 ^ 17 else 0) + (if report then 2 ^ 16 else 0) + v.reason * 2 ^ 12 + v.minlvl), w v.count,
    w (match v.refuser with | some n => 2 ^ 17 + n | none => 0), w (lkOwn s)]

/-- R377: the root has decided on round `r`, of which it holds the votes of `r'`. -/
def Sys2Proof.Machine.Decided (s s' : State) (ports : Nat → LinkS) (r r' : Round) (commit : Bool) : Prop :=
  let v := r'.combined
  s'.get F.GT_STAT_dec 0 = (if commit then 1 else 2) ∧ s'.is F.GT_RES_done 0 = true ∧ s'.is F.GT_RES_yes 0 = (v.yes && r'.complete) ∧
    s'.get F.GT_RES_reason 0 = v.reason % 16 ∧ s'.get F.GT_RES_minlvl 0 = v.minlvl % 64 ∧ s'.get F.GT_RESN_count 0 = v.count % 2 ^ 13 ∧
    s'.is F.GT_RESN_refv 0 = v.refuser.isSome ∧ s'.get F.GT_RESN_refuser 0 = v.refuser.getD 0 % 4096 ∧ s'.gt.round = some r' ∧
    TreeSent s s' ports (if commit then 18 else 19) (words2 r.id ++ if commit then words2 (r.inst / subUnits % 2 ^ 36) ++ words2 (r.inst % subUnits) else []) (UpChild s)

/-- R374: the first reason for a NO, or 0. -/
def Sys2Proof.Machine.firstReason (s : State) (id inst : Nat) (raise : Bool) (lvl : Nat) (late : Prop) [Decidable late] : Nat :=
  let k := s.get F.GT_BIND_slot 0
  if id ≤ s.get F.GT_LAST_v 0 ∨ late then 4
  else if s.is F.GT_STAT_doubt 0 = true then 3
  else if s.gt.round ≠ none then 2
  else if s.is F.PWR_PFSTAT_act 0 = true then 6
  else if (if raise then min (s.get F.BEHAVIOUR_LEVEL_ceil 0) 3 else s.get F.BEHAVIOUR_LEVEL_lvl 0) < lvl then 1
  else if s.is F.GT_BIND_en 0 = true ∧ s.get F.GT_BINDID_id 0 = id ∧ (s.get F.TSLOT_STAT_state k ≠ 1 ∨ tideWhy s k ≠ 0 ∨ tbPast s.tbNow inst = true) then 5
  else if s.is F.GT_CTL_veto 0 = true then 7
  else 0

/-- R373, R374: a round opened: the own vote, the bound slot armed by a YES, the votes awaited, and the registers. -/
def Sys2Proof.Machine.Opened (s s' : State) (id inst lead g : Nat) (raise : Bool) (lvl hm reason : Nat) : Prop :=
  let offer := if raise then min (s.get F.BEHAVIOUR_LEVEL_ceil 0) 3 else s.get F.BEHAVIOUR_LEVEL_lvl 0
  let slot := if s.is F.GT_BIND_en 0 = true ∧ s.get F.GT_BINDID_id 0 = id then some (s.get F.GT_BIND_slot 0) else none
  s'.is F.GT_STAT_open 0 = true ∧ s'.is F.GT_STAT_vote 0 = decide (reason = 0) ∧ s'.get F.GT_STAT_reason 0 = reason ∧ s'.get F.GT_RID_v 0 = id ∧
    (∃ r, s'.gt.round = some r ∧ r.id = id ∧ r.inst = inst ∧ r.p = (inst + tbWrap - 64 * lead % tbWrap) % tbWrap ∧ r.guard = g ∧ r.raise = raise ∧ r.lvl = lvl ∧ r.hm = hm ∧
      r.slot = slot ∧ r.own = (if reason = 0 then ⟨true, 0, 63, 1, none⟩ else ⟨false, reason, if reason = 1 then offer else 63, 0, some (lkOwn s)⟩) ∧
      ∀ q < 4, (Child s q = false → ∀ x ∈ r.kids, x.1 ≠ q) ∧ (UpChild s q = true → s.get F.LK_PSTAT_bl q ≥ lvl → (q, none) ∈ r.kids) ∧
        (UpChild s q = true → s.get F.LK_PSTAT_bl q < lvl → (q, some ⟨false, 1, s.get F.LK_PSTAT_bl q, 0, some (s.get F.LK_PNODE_node q)⟩) ∈ r.kids) ∧
        (Child s q = true → UpChild s q = false → (s.get F.GT_TREE_opt 0).testBit (3 - q) = false → (q, some ⟨false, 8, 63, 0, some (s.get F.LK_PNODE_node q)⟩) ∈ r.kids) ∧
        (Child s q = true → UpChild s q = false → (s.get F.GT_TREE_opt 0).testBit (3 - q) = true → ∀ x ∈ r.kids, x.1 ≠ q)) ∧
    ∀ k < 4, if slot = some k ∧ reason = 0 then s'.get F.TSLOT_STAT_state k = 2 ∧ s'.tideOf k = { s.tideOf k with commit := none, armed := some (.round, s'.now) }
      else s'.get F.TSLOT_STAT_state k = s.get F.TSLOT_STAT_state k ∧ s'.tideOf k = s.tideOf k

/-- The frame of a command of the tide unit: it may write registers of the list `l`, the ports, the slots and the tide unit's own state. -/
def Sys2Proof.Machine.TideFrame (t : Nat) (l : List RegName) (s s' : State) : Prop :=
  s' = { s with now := max s.now t, out := s'.out, regs := s'.regs, hw := s'.hw, link := s'.link, tide := s'.tide, gt := s'.gt, srcAt := s'.srcAt, vsrc := s'.vsrc } ∧
    SourcesKept 20 0 s s' ∧ RegsKept l s s'

/-- R370 to R374, R376: the root's go is refused with perr, or opens the round and sends the PREPARE; a PREPARE from the parent opens the round on a device and goes to its children, or in a round or in DOUBT is answered by a NO at P alone; one from another port is ignored and counted; at P a device
whose votes are complete sends its VOTE. The reasons in DOUBT and the binding's ID follow log 64 (DEDUCED). -/
def Obligations.TideVotes : Prop :=
  ∀ (t : Nat) (p : Fin 4) (v : Word) (f : Frame) (s : State), let now := max s.now t
    let h := s.linkOf p
    let ports (q : Nat) : LinkS := if q = p then accepted h 2 else s.linkOf q
    let tb := s.tbAt now
    let GT : List RegName := [.GT_STAT, .GT_RID, .TSLOT_STAT]
    (let lead := s.get F.GT_PLEAD_v 0
     let g := s.get F.GT_PGUARD_g 0
     let id := s.get F.GT_PID_v 0
     let inst := s.get F.GT_PINH_v 0 * subUnits + s.get F.GT_PINL_v 0
     let at_ := (inst + tbWrap - 64 * lead % tbWrap) % tbWrap
     let raise := F.GT_PCTL_raise.of v.toNat = 1
     let lvl := F.GT_PCTL_lvl.of v.toNat
     let early := tbPast (tb + 256000) at_ = true ∧ (tb + 256000) % tbWrap ≠ at_
     let refused := s.is F.GT_TREE_root 0 = false ∨ s.is F.GT_STAT_open 0 = true ∨ id ≤ s.get F.GT_LAST_v 0 ∨ g < 1000 ∨ lead < 2 * g + 2000 ∨ early
     let reason := firstReason { s with now := now } id inst raise lvl False
     F.GT_PCTL_go.of v.toNat = 1 → F.GT_PCTL_abort.of v.toNat = 0 → F.GT_PCTL_rcm.of v.toNat = 0 → F.GT_PCTL_rab.of v.toNat = 0 →
      (refused → Does (.propose t v) s (fun s' => TideFrame t [.GT_PCTL, .GT_STAT] s s' ∧ s'.is F.GT_STAT_perr 0 = true ∧ s'.is F.GT_STAT_open 0 = s.is F.GT_STAT_open 0 ∧
        s'.gt = s.gt ∧ s'.tide = s.tide ∧ s'.link = s.link ∧ s'.out = [])) ∧
      (¬ refused → reason = 0 → (∀ q < 4, Child s q = true → UpChild s q = true ∧ Quiet s q 2 ∧ lvl ≤ s.get F.LK_PSTAT_bl q) → (∃ q < 4, Child s q = true) →
        Does (.propose t v) s (fun s' => TideFrame t (.GT_PCTL :: .GT_RES :: GT) s s' ∧ Opened s s' id inst lead g raise lvl (lkOwn s) 0 ∧ s'.get F.GT_STAT_dec 0 = 0 ∧ s'.is F.GT_RES_done 0 = false ∧
          TreeSent s s' s.linkOf 16 (preparePay id inst lead g raise lvl (lkOwn s)) (Child s))) ∧
      (¬ refused → (∀ q < 4, Child s q = false) → Does (.propose t v) s (fun s' => TideFrame t (.GT_PCTL :: .GT_RES :: .GT_RESN :: GT) s s' ∧
        Opened s s' id inst lead g raise lvl (lkOwn s) reason ∧ s'.is F.GT_RES_done 0 = true ∧ s'.get F.GT_STAT_dec 0 = (if reason = 0 then 1 else 2) ∧ s'.link = s.link ∧ s'.out = []))) ∧
    (InOrder s p f → f.ty = 16 → f.dst = BitVec.ofNat 12 (lkOwn s) →
      let parent := s.is F.GT_TREE_root 0 = false ∧ s.get F.GT_TREE_parent 0 = p
      let id := framePair f 0
      let inst := framePair f 2 * subUnits + framePair f 4
      let lead := framePair f 6
      let raise := frameBit f 9 17
      let lvl := frameW f 9 % 64
      let at_ := (inst + tbWrap - 64 * lead % tbWrap) % tbWrap
      let late := tbPast (tb + 128000) at_ = true ∧ (tb + 128000) % tbWrap ≠ at_
      let reason := firstReason { s with now := now } id inst raise lvl late
      (¬ parent → Does (.prepare t p f) s (fun s' => TideFrame t [.GT_IGN] s s' ∧ s'.get F.GT_IGN_n 0 = min (s.get F.GT_IGN_n 0 + 1) 262143 ∧ s'.gt = s.gt ∧ s'.tide = s.tide ∧
        (∀ q < 4, s'.linkOf q = ports q) ∧ s'.out = [])) ∧
      (parent → s.gt.round ≠ none → Does (.prepare t p f) s (fun s' => TideFrame t [] s s' ∧ s'.tide = s.tide ∧ s'.out = [] ∧ (∀ q < 4, s'.linkOf q = ports q) ∧
        s'.gt = { s.gt with nos := s.gt.nos ++ [(at_, Framed s 17 (s.get F.LK_PNODE_node p) 1 0 0 (voteWords s id ⟨false, reason, 63, 0, some (lkOwn s)⟩ false))] })) ∧
      (parent → s.gt.round = none → s.is F.GT_STAT_doubt 0 = false → Child s p = false → tbPast tb at_ = false → (∀ q < 4, UpChild s q = true → Quiet s q 2) →
        Does (.prepare t p f) s (fun s' => TideFrame t GT s s' ∧ Opened s s' id inst lead (frameW f 8) raise lvl (frameW f 10 % 4096) reason ∧ s'.get F.GT_STAT_dec 0 = 0 ∧
          TreeSent s s' ports 16 (preparePay id inst lead (frameW f 8) raise lvl (frameW f 10 % 4096)) (fun q => UpChild s q && decide (lvl ≤ s.get F.LK_PSTAT_bl q))))) ∧
    (∀ r, s.gt.round = some r → r.sent = false → tbPast tb r.p = true → s.gt.nos = [] → s.is F.GT_TREE_root 0 = false → s.is F.GT_STAT_doubt 0 = false →
      let u := s.get F.GT_TREE_parent 0
      (r.complete = false → Does (.voteInstant t) s (fun s' => TideFrame t [] s s' ∧ s'.gt = s.gt ∧ s'.link = s.link ∧ s'.tide = s.tide ∧ s'.out = [])) ∧
      (r.complete = true → u < 4 → Quiet s u 2 → Does (.voteInstant t) s (fun s' => TideFrame t [] s s' ∧ s'.gt = { s.gt with round := some { r with sent := true } } ∧ s'.tide = s.tide ∧
        Combines r.own (held r) r.combined ∧ TreeSent s s' s.linkOf 17 (voteWords s r.id r.combined false) (fun q => decide (q = u)))))

/-- R371, R375 to R377, R381: a child's VOTE is recorded, and brings the root's decision at the first NO or once all are in, or another device's VOTE; a report is queued, or lost to a full queue; other VOTEs are ignored and counted. The root decides ABORT at Q or by
GT_PCTL.abort; a decision from the parent is taken and passed on, and one that comes after the round ended here is passed on alone. That GT_RES.yes needs every awaited vote, and what GT_IGN counts, is log 64 (DEDUCED). -/
def Obligations.TideDecisions : Prop :=
  ∀ (t : Nat) (p : Fin 4) (v : Word) (f : Frame) (s : State), let now := max s.now t
    let h := s.linkOf p
    let ports (q : Nat) : LinkS := if q = p then accepted h 2 else s.linkOf q
    let tb := s.tbAt now
    let root := s.is F.GT_TREE_root 0 = true
    let calm := ∀ q < 4, UpChild s q = true → Quiet s q 2
    let mine := InOrder s p f ∧ f.dst = BitVec.ofNat 12 (lkOwn s)
    let RES : List RegName := [.GT_STAT, .GT_RES, .GT_RESN]
    let ignored (s' : State) : Prop := TideFrame t [.GT_IGN] s s' ∧ s'.get F.GT_IGN_n 0 = min (s.get F.GT_IGN_n 0 + 1) 262143 ∧ s'.gt = s.gt ∧ s'.tide = s.tide ∧
      (∀ q < 4, s'.linkOf q = ports q) ∧ s'.out = []
    (mine → f.ty = 17 → frameBit f 2 16 = false →
      (Child s p = false ∨ s.gt.round = none ∨ s.is F.GT_STAT_doubt 0 = true → Does (.vote t p f) s ignored) ∧
      ∀ r, s.gt.round = some r → r.id ≠ framePair f 0 ∨ (∀ k ∈ r.kids, k ≠ (p.val, none)) → Does (.vote t p f) s ignored) ∧
    (∀ r, s.gt.round = some r → ∀ (l m : List (Nat × Option Vote)), r.kids = l ++ (p.val, none) :: m → mine → f.ty = 17 → frameBit f 2 16 = false → Child s p = true → s.is F.GT_STAT_doubt 0 = false →
      r.id = framePair f 0 → (∀ k ∈ l, k.1 ≠ p) → (∀ k ∈ m, k.1 ≠ p) → calm →
      let vote : Vote := ⟨frameBit f 2 17, frameW f 2 / 2 ^ 12 % 16, frameW f 2 % 64, frameW f 3 % 2 ^ 13, if frameBit f 4 17 then some (frameW f 4 % 4096) else none⟩
      let r' := { r with kids := l ++ (p.val, some vote) :: m }
      let u := s.get F.GT_TREE_parent 0
      Combines r.own (held r') r'.combined ∧
      (root → s.get F.GT_STAT_dec 0 = 0 → r'.combined.yes = false → Does (.vote t p f) s (fun s' => TideFrame t RES s s' ∧ Decided s s' ports r r' false)) ∧
      (root → s.get F.GT_STAT_dec 0 = 0 → r'.combined.yes = true → r'.complete = true → Does (.vote t p f) s (fun s' => TideFrame t RES s s' ∧ Decided s s' ports r r' true)) ∧
      ((root ∧ s.get F.GT_STAT_dec 0 = 0 ∧ r'.combined.yes = true ∧ r'.complete = false) ∨ (¬ root ∧ (r'.complete = false ∨ tbPast tb r.p = false)) →
        Does (.vote t p f) s (fun s' => TideFrame t [] s s' ∧ s'.gt = { s.gt with round := some r' } ∧ (∀ q < 4, s'.linkOf q = ports q) ∧ s'.out = [])) ∧
      (¬ root → r'.complete = true → tbPast tb r.p = true → r.sent = false → u < 4 → u ≠ p → Quiet s u 2 → Does (.vote t p f) s (fun s' => TideFrame t [] s s' ∧
        s'.gt = { s.gt with round := some { r' with sent := true } } ∧ TreeSent s s' ports 17 (voteWords s r.id r'.combined false) (fun q => decide (q = u))))) ∧
    (mine → f.ty = 17 → frameBit f 2 16 = true →
      let rep := s.gt.reps ++ [(BitVec.ofNat 12 (frameW f 5), BitVec.ofNat 36 (framePair f 0))]
      (root → s.gt.reps.length < 16 → Does (.vote t p f) s (fun s' => TideFrame t [.GT_DREP, .GT_DREPID] s s' ∧ s'.gt = { s.gt with reps := rep } ∧ s'.is F.GT_DREP_valid 0 = true ∧
        (∀ x ∈ rep.head?, s'.get F.GT_DREP_node 0 = x.1.toNat ∧ s'.get F.GT_DREPID_id 0 = x.2.toNat) ∧ s'.tide = s.tide ∧ (∀ q < 4, s'.linkOf q = ports q) ∧ s'.out = [])) ∧
      (root → 16 ≤ s.gt.reps.length → Does (.vote t p f) s (fun s' => TideFrame t [.GT_DREP] s s' ∧ s'.gt = s.gt ∧ s'.is F.GT_DREP_ovf 0 = true ∧ (∀ q < 4, s'.linkOf q = ports q))) ∧
      (¬ root → Does (.vote t p f) s ignored)) ∧
    (∀ r, s.gt.round = some r → root → s.get F.GT_STAT_dec 0 = 0 → calm →
      let q := (r.p + ((r.inst + 2 * tbWrap - 64 * r.guard % tbWrap - r.p) % tbWrap) / 2) % tbWrap
      (tbPast tb q = true → Does (.decisionDeadline t) s (fun s' => TideFrame t RES s s' ∧ Decided s s' s.linkOf r r false)) ∧
      (F.GT_PCTL_abort.of v.toNat = 1 → F.GT_PCTL_go.of v.toNat = 0 → F.GT_PCTL_rcm.of v.toNat = 0 → F.GT_PCTL_rab.of v.toNat = 0 →
        Does (.roundAbort t v) s (fun s' => TideFrame t (.GT_PCTL :: RES) s s' ∧ Decided s s' s.linkOf r r false))) ∧
    (mine → (f.ty = 18 ∨ f.ty = 19) → s.is F.GT_STAT_doubt 0 = false →
      let run (P : State → Prop) : Prop := if f.ty = 18 then Does (.commit t p f) s P else Does (.abort t p f) s P
      let parent := ¬ root ∧ s.get F.GT_TREE_parent 0 = p
      (s.gt.round = none → ¬ (parent ∧ s.get F.GT_RID_v 0 = framePair f 0) → run ignored) ∧
      (s.gt.round = none → parent → s.get F.GT_RID_v 0 = framePair f 0 → Child s p = false → calm → run (fun s' => TideFrame t [] s s' ∧ s'.gt = s.gt ∧ s'.tide = s.tide ∧
        TreeSent s s' ports f.ty.toNat f.pay (UpChild s))) ∧
      ∀ r, s.gt.round = some r → tbPast (tb + 64 * r.guard) r.inst = false →
        (r.id ≠ framePair f 0 ∨ ¬ parent → run ignored) ∧
        (r.id = framePair f 0 → parent → Child s p = false → s.get F.GT_STAT_dec 0 = 0 → calm → run (fun s' => TideFrame t [.GT_STAT] s s' ∧
          s'.get F.GT_STAT_dec 0 = (if f.ty = 18 then 1 else 2) ∧ s'.gt = s.gt ∧ s'.tide = s.tide ∧ TreeSent s s' ports f.ty.toNat f.pay (UpChild s))))

/-- R378 to R381, R383: at I - g the round closes, committed or without effect, or the device enters DOUBT; the committed tide applies at I; in DOUBT reports go out each 1 ms, and only a COMMIT in time or an ABORT for the round's ID ends it; the root sends routed decisions, and a read of GT_DREP takes
the head report. A committed tide of a bound slot applies what the slot holds. The first report's time and its YES are log 64 (DEDUCED). -/
def Obligations.TideOutcomes : Prop :=
  ∀ (t : Nat) (p : Fin 4) (v : Word) (f : Frame) (s : State), let now := max s.now t
    let h := s.linkOf p
    let ports (q : Nat) : LinkS := if q = p then accepted h 2 else s.linkOf q
    let tb := s.tbAt now
    let released (r : Round) (s' : State) : Prop := s'.gt.round = none ∧ s'.is F.GT_STAT_open 0 = false ∧
      (∀ k, r.slot = some k → s'.is F.GT_BIND_en 0 = false ∧ (tideGlobal s k = true → s'.get F.TSLOT_STAT_state k = 1 ∧ s'.tideOf k = { s.tideOf k with armed := none })) ∧
      (r.slot = none → s'.is F.GT_BIND_en 0 = s.is F.GT_BIND_en 0) ∧ ∀ k, r.slot ≠ some k → s'.tideOf k = s.tideOf k
    let committed (r : Round) (x : Nat) (s' : State) : Prop := s'.gt = { s.gt with round := none, apply := s.gt.apply ++ [{ r with inst := x }] } ∧ s'.is F.GT_STAT_open 0 = false ∧
      (∀ k, r.slot = some k → tideGlobal s k = true → s'.tideOf k = { s.tideOf k with armed := some (.global x, now) }) ∧ ∀ k, r.slot ≠ some k → s'.tideOf k = s.tideOf k
    (∀ r, s.gt.round = some r → s.is F.GT_STAT_doubt 0 = false →
      let due := tbPast tb ((r.inst + tbWrap - 64 * r.guard % tbWrap) % tbWrap) = true
      (due → r.own.yes = true → s.get F.GT_STAT_dec 0 = 1 → Does (.decisionGuard t) s (fun s' => TideFrame t [.GT_STAT] s s' ∧ committed r r.inst s' ∧ s'.link = s.link ∧ s'.out = [])) ∧
      (due → r.own.yes = true → s.get F.GT_STAT_dec 0 = 0 → Does (.decisionGuard t) s (fun s' => TideFrame t [.GT_STAT] s s' ∧ s'.is F.GT_STAT_doubt 0 = true ∧
        s'.is F.GT_STAT_open 0 = s.is F.GT_STAT_open 0 ∧ s'.gt = { s.gt with reportAt := now } ∧ s'.tide = s.tide ∧ s'.link = s.link ∧ s'.out = [.fabric 20 0 2 now])) ∧
      (due → r.own.yes = false ∨ s.get F.GT_STAT_dec 0 = 2 → Does (.decisionGuard t) s (fun s' => TideFrame t [.GT_STAT, .GT_BIND, .TSLOT_STAT] s s' ∧ released r s' ∧ s'.link = s.link ∧ s'.out = []))) ∧
    (∀ r ∈ s.gt.apply, tbPast tb r.inst = true → (∀ q ∈ s.gt.apply, q ≠ r → tbPast tb q.inst = true → r.slot.getD 0 < q.slot.getD 0) →
      let level := if r.raise then max (s.get F.BEHAVIOUR_LEVEL_lvl 0) (r.lvl % 64) else s.get F.BEHAVIOUR_LEVEL_lvl 0
      let Counted (s' : State) : Prop := s'.get F.GT_LAST_v 0 = r.id % 2 ^ 36 ∧ s'.get F.GT_GEPOCH_v 0 = (s.get F.GT_GEPOCH_v 0 + 1) % 2 ^ 36 ∧
        s'.get F.BEHAVIOUR_LEVEL_lvl 0 = level ∧ s'.gt = { s.gt with apply := s.gt.apply.erase r } ∧ s'.link = s.link
      (r.slot = none → Does (.globalTideApply t) s (fun s' => TideFrame t (andVecs [.GT_LAST, .GT_GEPOCH, .TIDE_EPOCH, .BEHAVIOUR_LEVEL]) s s' ∧ Counted s' ∧ s'.tide = s.tide ∧
        s'.get F.TIDE_EPOCH_n 0 = (s.get F.TIDE_EPOCH_n 0 + 1) % 2 ^ 36 ∧ s'.out = .fabric 20 0 1 now :: irqIf (s.is F.MEM_IEN_tapp 0) 581)) ∧
      (∀ k < 4, r.slot = some k → (∀ j < k, tideDue { s with now := now } j = false) →
        Does (.globalTideApply t) s (fun s' => s'.now = now ∧ Counted s' ∧ s'.is F.GT_BIND_en 0 = false ∧ .fabric 20 0 1 now ∈ s'.out ∧ TideApplied s s' k))) ∧
    (∀ r, s.gt.round = some r → s.is F.GT_STAT_doubt 0 = true →
      let q := s.get F.LK_ROUTE_port r.hm
      let g := Framed s 17 r.hm (s.get F.LK_NET_hops 0) 0 0 (voteWords s r.id ⟨true, 0, 63, 1, none⟩ true)
      (s.gt.reportAt ≤ now → r.hm < 4096 → q < 4 → Quiet s q 2 → Does (.doubtReport t) s (fun s' => TideFrame t [] s s' ∧ s'.gt = { s.gt with reportAt := now + 64000000 } ∧ s'.tide = s.tide ∧
        s'.linkOf q = afterSend (s.linkOf q) g none now ∧ s'.out = [.frame q (sentAs (s.linkOf q) g)] ∧ ∀ m, m ≠ q → s'.linkOf m = s.linkOf m)) ∧
      (InOrder s p f → f.dst = BitVec.ofNat 12 (lkOwn s) →
        let x := framePair f 2 * subUnits + framePair f 4
        let soon := tbPast (tb + 64 * r.guard) x = true ∧ (tb + 64 * r.guard) % tbWrap ≠ x
        let tree := s.is F.GT_TREE_root 0 = false ∧ s.get F.GT_TREE_parent 0 = p ∧ f.src = BitVec.ofNat 12 (s.get F.LK_PNODE_node p)
        let Alone (s' : State) : Prop := (∀ q < 4, s'.linkOf q = ports q) ∧ s'.out = []
        let Passed (s' : State) : Prop := (¬ tree → Alone s') ∧ (tree → Child s p = false → (∀ q < 4, UpChild s q = true → Quiet s q 2) → TreeSent s s' ports f.ty.toNat f.pay (UpChild s))
        let ignored (s' : State) : Prop := TideFrame t [.GT_IGN] s s' ∧ s'.get F.GT_IGN_n 0 = min (s.get F.GT_IGN_n 0 + 1) 262143 ∧ s'.gt = s.gt ∧ s'.tide = s.tide
        (f.ty = 18 → framePair f 0 = r.id → ¬ soon → Does (.commit t p f) s (fun s' => TideFrame t [.GT_STAT] s s' ∧ committed r x s' ∧ s'.is F.GT_STAT_doubt 0 = false ∧
          s'.get F.GT_STAT_dec 0 = 1 ∧ Passed s')) ∧
        (f.ty = 19 → framePair f 0 = r.id → Does (.abort t p f) s (fun s' => TideFrame t [.GT_STAT, .GT_BIND, .TSLOT_STAT] s s' ∧ released r s' ∧ s'.is F.GT_STAT_doubt 0 = false ∧
          s'.get F.GT_STAT_dec 0 = 2 ∧ Passed s')) ∧
        (f.ty = 18 → framePair f 0 = r.id → soon → Does (.commit t p f) s (fun s' => ignored s' ∧ Passed s')) ∧
        (f.ty = 18 → framePair f 0 ≠ r.id → Does (.commit t p f) s (fun s' => ignored s' ∧ Alone s')) ∧ (f.ty = 19 → framePair f 0 ≠ r.id → Does (.abort t p f) s (fun s' => ignored s' ∧ Alone s')))) ∧
    (let q := s.get F.LK_ROUTE_port (s.get F.GT_PDST_node 0)
     let id := words2 (s.get F.GT_PRID_id 0)
     let g (ty : Nat) (pay : List Word) : Frame := Framed s ty (s.get F.GT_PDST_node 0) (s.get F.LK_NET_hops 0) 0 0 pay
     let sent (x : Frame) (s' : State) : Prop := TideFrame t [.GT_PCTL] s s' ∧ s'.gt = s.gt ∧ s'.tide = s.tide ∧ s'.linkOf q = afterSend (s.linkOf q) x none now ∧
       s'.out = [.frame q (sentAs (s.linkOf q) x)] ∧ ∀ m, m ≠ q → s'.linkOf m = s.linkOf m
     let none_ (s' : State) : Prop := TideFrame t [.GT_PCTL] s s' ∧ s'.gt = s.gt ∧ s'.tide = s.tide ∧ s'.link = s.link ∧ s'.out = []
     let commit := F.GT_PCTL_rcm.of v.toNat = 1 ∧ F.GT_PCTL_rab.of v.toNat = 0
     let abort := F.GT_PCTL_rcm.of v.toNat = 0 ∧ F.GT_PCTL_rab.of v.toNat = 1
     F.GT_PCTL_go.of v.toNat = 0 → F.GT_PCTL_abort.of v.toNat = 0 →
      (commit → s.is F.GT_TREE_root 0 = true → q < 4 → Quiet s q 2 → Does (.routedCommit t v) s (sent (g 18 (id ++ words2 (s.get F.GT_PINH_v 0) ++ words2 (s.get F.GT_PINL_v 0))))) ∧
      (abort → s.is F.GT_TREE_root 0 = true → q < 4 → Quiet s q 2 → Does (.routedAbort t v) s (sent (g 19 id))) ∧
      (commit → s.is F.GT_TREE_root 0 = false → Does (.routedCommit t v) s none_) ∧ (abort → s.is F.GT_TREE_root 0 = false → Does (.routedAbort t v) s none_)) ∧
    (∀ (q : Req), Does (.doubtReportRead t q) s (fun s' => TideFrame t [.GT_DREP, .GT_DREPID] s s' ∧ s'.out = [.data (s.get F.GT_DREP_valid 0 * 2 ^ 17 + s.get F.GT_DREP_ovf 0 * 2 ^ 16 + s.get F.GT_DREP_node 0)] ∧
      s'.gt = { s.gt with reps := s.gt.reps.tail } ∧ s'.tide = s.tide ∧ s'.link = s.link ∧ s'.is F.GT_DREP_valid 0 = !s.gt.reps.tail.isEmpty ∧
      ∀ x ∈ s.gt.reps.tail.head?, s'.get F.GT_DREP_node 0 = x.1.toNat ∧ s'.get F.GT_DREPID_id 0 = x.2.toNat))

/-! ### SMBus, SPI and GPIO -/

/-- R423: the queue of captured entries of port `m` shows in its registers. -/
def Sys2Proof.Machine.ShowsHead (s' : State) (m : Nat) (q : List SmbEnt) : Prop :=
  (s'.smbOf m).q = q ∧ s'.get F.SMB_STAT_capn m = q.length % 16 ∧ s'.is F.SMB_CAPH_valid m = !q.isEmpty ∧
    ∀ e ∈ q.head?, s'.is F.SMB_CAPH_rd m = e.rd ∧ s'.is F.SMB_CAPH_all m = e.all ∧ (e.page < 32 → s'.get F.SMB_CAPH_page m = e.page) ∧ s'.get F.SMB_CAPH_cmd m = e.cmd.toNat ∧
      (e.data.length ≤ 32 → s'.get F.SMB_CAPH_n m = e.data.length) ∧
      ∀ j < 16, s'.get F.SMB_CAPD_a (m * 16 + j) = (e.data.getD (2 * j) 0).toNat ∧ s'.get F.SMB_CAPD_b (m * 16 + j) = (e.data.getD (2 * j + 1) 0).toNat

/-- The frame of a command of SMBus port `m`. -/
def Sys2Proof.Machine.SmbFrame (t : Nat) (m : Nat) (s s' : State) : Prop :=
  s' = { s with now := max s.now t, out := s'.out, regs := s'.regs, hw := s'.hw, smb := s'.smb, vsrc := s'.vsrc, free := s'.free } ∧
    RegsKept (andVecs [.SMB_STAT, .SMB_CAPH, .SMB_CAPD]) s s' ∧ OthersKept .SMB_STAT m s s' ∧ OthersKept .SMB_CAPH m s s' ∧
    (∀ k < 32, k / 16 ≠ m → s'.reg .SMB_CAPD k = s.reg .SMB_CAPD k) ∧ ∀ k, k ≠ m → s'.smbOf k = s.smbOf k

/-- R419, R423: what the write `i` of command `c` to address `a` of port `m` does, with its data, the count octet of a block, and the PEC octet after them, if one comes. -/
def Sys2Proof.Machine.SmbWrites (t : Nat) (m : Fin 2) (a : BitVec 7) (c : BitVec 8) (data cnt : List (BitVec 8)) (pec : Option (BitVec 8)) (i : Instr) (s : State) : Prop :=
  let now := max s.now t
  let h := s.smbOf m
  let mine := s.is F.SMB_CTL_en m = true ∧ s.get F.SMB_CTL_addr m = a.toNat ∧ s.rung < 3 ∧ s.is F.SMB_STAT_rdw m = false
  let on := s.is F.SMB_CTL_pec m = true
  let ien := s.is F.SMB_CTL_ien m = true
  let good := on → pec = some (crc8 ([BitVec.ofNat 8 (2 * a.toNat), c] ++ cnt ++ data))
  let l := if on then data else data ++ pec.toList
  let v := l.getD 0 0
  let paging := c = 0 ∧ l ≠ []
  let bad := (paging ∧ 32 ≤ v.toNat ∧ v ≠ 0xff) ∨ 32 < l.length
  let all := if paging then decide (v = 0xff) else s.is F.SMB_STAT_allp m
  let page := if paging ∧ v ≠ 0xff then v.toNat else s.get F.SMB_STAT_page m
  (¬ mine → Does i s (fun s' => s' = { s with now := now, out := [] })) ∧
  (mine → 8 ≤ h.q.length → Does i s (fun s' => SmbFrame t m s s' ∧ s'.is F.SMB_STAT_ovf m = true ∧ s'.smb = s.smb ∧ s'.is F.SMB_STAT_allp m = s.is F.SMB_STAT_allp m ∧
    s'.get F.SMB_STAT_page m = s.get F.SMB_STAT_page m ∧ s'.out = irqIf (ien) (664 + m) ++ [.nack m])) ∧
  (mine → h.q.length < 8 → bad → Does i s (fun s' => s' = { s with now := now, out := [.nack m] })) ∧
  (mine → h.q.length < 8 → ¬ bad → ¬ good → Does i s (fun s' => SmbFrame t m s s' ∧ s'.is F.SMB_STAT_pecerr m = true ∧ s'.smb = s.smb ∧ s'.get F.SMB_STAT_page m = s.get F.SMB_STAT_page m ∧
    s'.out = irqIf (ien) (664 + m) ++ [.nack m])) ∧
  (mine → h.q.length < 8 → ¬ bad → good → Does i s (fun s' => SmbFrame t m s s' ∧ ShowsHead s' m (h.q ++ [⟨false, all, page, c, l⟩]) ∧ s'.is F.SMB_STAT_allp m = all ∧
    s'.get F.SMB_STAT_page m = page ∧ s'.is F.SMB_STAT_rdw m = false ∧ s'.out = irqIf (ien && h.q.isEmpty) (664 + m)))

/-- R421: entry `k` of the image as a read latches it at `now`: a store that completes in that timer cycle does not govern it. -/
def Sys2Proof.Machine.smbLatched (s : State) (now k : Nat) : BitVec 36 :=
  let old := Store.get (fun _ => (0, 0)) (s.smbOf (k / 384)).img k
  if old.1 = now / 64 + 1 then old.2 else s.reg .SMB_IMG k

/-- R420 to R422: what the read `i` of command `c` at address `a` of port `m` does, whose protocol takes `want` octets, a block 0. -/
def Sys2Proof.Machine.SmbReads (t : Nat) (m : Fin 2) (a : BitVec 7) (c : BitVec 8) (want : Nat) (i : Instr) (s : State) : Prop :=
  let now := max s.now t
  let h := s.smbOf m
  let mine := s.is F.SMB_CTL_en m = true ∧ s.get F.SMB_CTL_addr m = a.toNat ∧ s.rung < 3 ∧ s.is F.SMB_STAT_rdw m = false
  let ien := s.is F.SMB_CTL_ien m = true
  let table : List (Nat × Nat × Nat) := [(0, 0o031, 1), (1, 0o040, 1), (2, 0o170, 1), (3, 0o171, 2), (4, 0o210, 2), (5, 0o211, 2), (6, 0o213, 2), (7, 0o214, 2), (8, 0o215, 2), (9, 0o226, 2), (10, 0o227, 2),
    (11, 0o230, 1)]
  let answers (l : List (BitVec 8)) (s' : State) : Prop := s' = { s with now := now, out := [.octets m (l ++ if s.is F.SMB_CTL_pec m = true then
    [crc8 ([BitVec.ofNat 8 (2 * a.toNat), c, BitVec.ofNat 8 (2 * a.toNat + 1)] ++ l)] else [])] }
  let entry (k : Nat) : Nat := (smbLatched s now ((m * 32 + s.get F.SMB_STAT_page m) * 12 + k)).toNat
  let assisted := ∃ r ∈ table, c.toNat = r.2.1 ∧ F.SMB_IMG_hw.of (entry r.1) = 1
  (¬ mine → Does i s (fun s' => s' = { s with now := now, out := [] })) ∧
  (mine → c = 0 → Does i s (answers [if s.is F.SMB_STAT_allp m = true then 0xff else BitVec.ofNat 8 (s.get F.SMB_STAT_page m)])) ∧
  (mine → ∀ r ∈ table, c.toNat = r.2.1 → F.SMB_IMG_hw.of (entry r.1) = 1 →
    Does i s (answers (([F.SMB_IMG_lo.of (entry r.1), F.SMB_IMG_hi.of (entry r.1)].take r.2.2).map (BitVec.ofNat 8)))) ∧
  (mine → c ≠ 0 → ¬ assisted → h.q.length < 8 → Does i s (fun s' => SmbFrame t m s s' ∧
    ShowsHead s' m (h.q ++ [⟨true, s.is F.SMB_STAT_allp m, s.get F.SMB_STAT_page m, c, []⟩]) ∧ s'.is F.SMB_STAT_rdw m = true ∧ s'.is F.SMB_STAT_busy m = true ∧
    (s'.smbOf m).due = some (now + 64000 * s.get F.SMB_TMO_us m) ∧ (s'.smbOf m).cmd = c ∧ (s'.smbOf m).want = want ∧ s'.out = irqIf (ien && h.q.isEmpty) (664 + m))) ∧
  (mine → c ≠ 0 → ¬ assisted → 8 ≤ h.q.length → Does i s (fun s' => SmbFrame t m s s' ∧ s'.is F.SMB_STAT_ovf m = true ∧ s'.is F.SMB_STAT_rdw m = false ∧ s'.smb = s.smb ∧
    s'.out = irqIf (ien) (664 + m) ++ [.nack m]))

/-- R419 to R423: writes are captured in the queue, or refused for the page, the PEC or a full queue; reads are answered from the image, or captured and stretched until the response or the limit; the alert address, unsupported protocols, the clock-low timeout, and the queue's pop. A store to the image governs reads of later timer cycles alone. The code 0 of PAGE is log 88 (PRESUMED), the refusals and an octet after the data log 89 (DEDUCED); the octets of a block cut off at the limit are free. -/
def Obligations.SmbusPorts : Prop :=
  ∀ (t : Nat) (m : Fin 2) (a : BitVec 7) (c x y : BitVec 8) (l : List (BitVec 8)) (pec : Option (BitVec 8)) (v : Word) (s : State), let now := max s.now t
    let h := s.smbOf m
    let ien := s.is F.SMB_CTL_ien m = true
    let own : BitVec 8 := BitVec.ofNat 8 (2 * s.get F.SMB_CTL_addr m)
    let own1 : BitVec 8 := BitVec.ofNat 8 (2 * s.get F.SMB_CTL_addr m + 1)
    let idle (s' : State) : Prop := s'.is F.SMB_STAT_rdw m = false ∧ s'.is F.SMB_STAT_busy m = false ∧ s'.smbOf m = { h with due := none }
    SmbWrites t m a c [] [] pec (.sendByte t m a c pec) s ∧ SmbWrites t m a c [x] [] pec (.writeByte t m a c x pec) s ∧ SmbWrites t m a c [x, y] [] pec (.writeWord t m a c x y pec) s ∧
    SmbWrites t m a c l [BitVec.ofNat 8 l.length] pec (.blockWrite t m a c l pec) s ∧ SmbWrites t m a 0 [x] [] pec (.page t m a (some x) pec) s ∧
    SmbReads t m a c 1 (.readByte t m a c) s ∧ SmbReads t m a c 2 (.readWord t m a c) s ∧ SmbReads t m a c 0 (.blockRead t m a c) s ∧ SmbReads t m a 0 1 (.page t m a none pec) s ∧
    (s.is F.SMB_CTL_en m = true → s.get F.SMB_CTL_addr m = a.toNat → s.rung < 3 →
      Does (.unsupportedProtocol t m a) s (fun s' => s' = { s with now := now, out := [.nack m] })) ∧
    (∀ (q : Req) (k : Fin 8) (b : Addr) (d : DWord) (e : Nat), Reaches b.toNat .SMB_IMG e .base → e / 384 = m → (∀ c, q = .core c → capCheck ((s.coreOf c).cap k) [permST] b.toNat 2 = none) →
      Does (.registerWrite t q k b false d) s (fun s' => ∀ j < 768, j / 384 = m → smbLatched s' now j = smbLatched s now j)) ∧
    (s.is F.SMB_CTL_en m = true → s.rung < 3 → (s.is F.SMB_CTL_alert m = true → Does (.alertResponse t m) s (fun s' => s' = { s with now := now, out := [.octets m [own]] })) ∧
      Does (.clockLowTimeout t m) s (fun s' => SmbFrame t m s s' ∧ idle s' ∧ s'.is F.SMB_STAT_tmo m = true ∧ s'.out = irqIf (ien) (664 + m))) ∧
    (F.SMB_RSP_go.of v.toNat = 1 → F.SMB_RSP_n.of v.toNat ≤ 32 →
      let n := F.SMB_RSP_n.of v.toNat
      let ws := (List.range n).map (fun k => BitVec.ofNat 8 (if k % 2 = 0 then s.get F.SMB_RSPD_a (m * 16 + k / 2) else s.get F.SMB_RSPD_b (m * 16 + k / 2)))
      let ws := if F.SMB_RSP_blk.of v.toNat = 1 then BitVec.ofNat 8 n :: ws else ws
      (s.is F.SMB_STAT_rdw m = true → Does (.smbusResponse t m v) s (fun s' => SmbFrame t m s s' ∧ idle s' ∧
        s'.out = [.octets m (ws ++ if s.is F.SMB_CTL_pec m = true then [crc8 ([own, h.cmd, own1] ++ ws)] else [])])) ∧
      (s.is F.SMB_STAT_rdw m = false → Does (.smbusResponse t m v) s (fun s' => s' = { s with now := now, out := [] }))) ∧
    (∀ d, h.due = some d → s.is F.SMB_STAT_rdw m = true → d ≤ now → Does (.stretchLimit t m) s (fun s' => SmbFrame t m s s' ∧ idle s' ∧ s'.is F.SMB_STAT_stex m = true ∧
      ∃ n < 257, 1 ≤ n ∧ (h.want ≠ 0 → h.want < 3 → n = h.want) ∧ ∃ p, p ≠ crc8 ([own, h.cmd, own1] ++ List.replicate n 0xff) ∧ s'.out = .octets m (List.replicate n 0xff ++ [p]) :: irqIf (ien) (664 + m))) ∧
    (F.SMB_POP_pop.of v.toNat = 1 → Does (.smbusPop t m v) s (fun s' => SmbFrame t m s s' ∧ ShowsHead s' m h.q.tail ∧ s'.is F.SMB_STAT_rdw m = s.is F.SMB_STAT_rdw m ∧
      (s'.smbOf m).due = h.due ∧ s'.out = irqIf (ien && decide (2 ≤ h.q.length)) (664 + m)))

/-- R424, R425: the FIFOs of an SPI port take and give frames, and one frame crosses the port with udr and ovr; a level change at a GPIO pin sets the flag for a selected edge, reaches the fabric, and wakes. A full or empty FIFO is log 90 (DEDUCED); the level of an undriven pin without a pull, and how long the board overrides an output, log 138 (DESIGN CHOICE). -/
def Obligations.SpiAndGpio : Prop :=
  ∀ (t : Nat) (m : Fin 2) (n : Fin 64) (v : Word) (x : BitVec 18) (lvl : Bool) (s : State), let now := max s.now t
    let h := s.spiOf m
    let Frame (s' : State) : Prop := s' = { s with now := now, out := s'.out, regs := s'.regs, hw := s'.hw, spi := s'.spi, vsrc := s'.vsrc } ∧ RegsKept (andVecs [.SPI_STAT]) s s' ∧
      OthersKept .SPI_STAT m s s' ∧ (∀ k, k ≠ m.val → s'.spiOf k = s.spiOf k) ∧ s'.is F.SPI_STAT_busy m = s.is F.SPI_STAT_busy m
    let fifo (tx rx : List (BitVec 18)) (s' : State) : Prop := s'.spiOf m = { tx := tx, rx := rx } ∧ s'.get F.SPI_STAT_txn m = tx.length % 32 ∧ s'.get F.SPI_STAT_rxn m = rx.length % 32
    let ien := s.is F.SPI_CTL_ien m
    let flags (u o : Bool) (s' : State) : Prop := s'.is F.SPI_STAT_udr m = u ∧ s'.is F.SPI_STAT_ovr m = o
    let kept := flags (s.is F.SPI_STAT_udr m) (s.is F.SPI_STAT_ovr m)
    (h.tx.length < 16 → Does (.spiTxPush t m v) s (fun s' => Frame s' ∧ fifo (h.tx ++ [v]) h.rx s' ∧ kept s' ∧ s'.out = [])) ∧
    (16 ≤ h.tx.length → Does (.spiTxPush t m v) s (fun s' => s' = { s with now := now, out := [] })) ∧
    (h.rx = [] → Does (.spiRxPop t m) s (fun s' => s' = { s with now := now, out := [.data 0o777777] })) ∧
    (∀ y l, h.rx = y :: l → Does (.spiRxPop t m) s (fun s' => Frame s' ∧ fifo h.tx l s' ∧ kept s' ∧ s'.out = [.data y.toNat])) ∧
    (let w := [8, 9, 16, 18].getD (s.get F.SPI_CTL_wid m) 18
     let cut (y : BitVec 18) : BitVec 18 := BitVec.ofNat 18 (if s.is F.SPI_CTL_lsb m = true then ((List.range w).map (fun i => y.toNat / 2 ^ i % 2 * 2 ^ (w - 1 - i))).sum else y.toNat % 2 ^ w)
     let part := s.is F.SPI_CTL_tgt m = true ∨ (h.tx ≠ [] ∧ h.rx.length < 16)
     s.is F.SPI_CTL_en m = true → s.rung < 3 →
      (part → h.rx.length < 16 → Does (.spiFrame t m x) s (fun s' => Frame s' ∧ fifo h.tx.tail (h.rx ++ [cut x]) s' ∧ flags (s.is F.SPI_STAT_udr m || h.tx.isEmpty) (s.is F.SPI_STAT_ovr m) s' ∧
        s'.out = .spi m (cut (h.tx.headD 0o777777)) :: (irqIf (ien && h.tx.isEmpty) (666 + m) ++ irqIf (ien && h.rx.isEmpty) (666 + m)))) ∧
      (s.is F.SPI_CTL_tgt m = true → 16 ≤ h.rx.length → Does (.spiFrame t m x) s (fun s' => Frame s' ∧ fifo h.tx.tail h.rx s' ∧ flags (s.is F.SPI_STAT_udr m || h.tx.isEmpty) true s' ∧
        s'.out = .spi m (cut (h.tx.headD 0o777777)) :: (irqIf (ien && h.tx.isEmpty) (666 + m) ++ irqIf (ien) (666 + m)))) ∧
      (¬ part → Does (.spiFrame t m x) s (fun s' => s' = { s with now := now, out := [] }))) ∧
    (let v : Bool := (s.get F.GPIO_OUT_v (n / 16)).testBit (n % 16) != s.is F.GPIO_CFG_pol n
     let drives : Option Bool := if 5 ≤ s.rung ∨ s.is F.GPIO_CFG_dir n = false ∨ (v = true ∧ s.is F.GPIO_CFG_od n = true) then none else some v
     let level (p : GpioPad) : Bool := let b := p.drv.getD (s.get F.GPIO_CFG_pull n == 1); match drives with | none => b | some d => if p.wins then b else d
     let pad : GpioPad := ⟨some lvl, match drives with | none => false | some d => d != lvl⟩
     let s1 : State := s.setGpioPad n pad
     let old := level (s.gpioPadOf n) != s.is F.GPIO_CFG_pol n
     let new := level pad != s.is F.GPIO_CFG_pol n
     let sensed := s.rung < 5 ∨ (n.val < 8 ∧ s.is F.GPIO_CFG_dir n = false)
     let sel := if new then (s.get F.GPIO_CFG_edge n).testBit 0 else (s.get F.GPIO_CFG_edge n).testBit 1
     s.dbg.scan = .normal →
     (∀ p, gpioLevel (s.setGpioPad n p) n = level p) ∧
     (old = new ∨ ¬ sensed → Does (.gpioEdge t n lvl) s (fun s' => s' = { s1 with now := now, out := [] })) ∧
     (old ≠ new → sensed → Does (.gpioEdge t n lvl) s (fun s' => s' = { s1 with now := now, out := s'.out, regs := s'.regs, hw := s'.hw, wake := s'.wake, srcAt := s'.srcAt, vsrc := s'.vsrc } ∧ SourcesKept 16 n s s' ∧ RegsKept (andVecs [.GPIO_CFG]) s s' ∧
       OthersKept .GPIO_CFG n s s' ∧ s'.is F.GPIO_CFG_flag n = (s.is F.GPIO_CFG_flag n || sel) ∧ (∀ k < 9, (s'.reg .GPIO_CFG n).getLsbD (10 + k) = (s.reg .GPIO_CFG n).getLsbD (10 + k)) ∧
       s'.out = irqIf (sel && s.is F.GPIO_CFG_ien n) (600 + n) ++ [.fabric 16 n 0 now] ∧
       s'.wake = if new = true ∧ n.val < 8 ∧ 5 ≤ s.rung ∧ (s.get F.PWR_WPIN_en 0).testBit (4 + n) = true ∧ s.wake = none then some 5 else s.wake)))
end

