-- ==== Sys2Proof/Laws/Store.lean ====
section
/-! SUPPORT. The laws of sparse storage: a read after a write, and that every operation keeps the canonical form. -/

namespace Sys2Proof.Machine

variable {α : Type}

theorem Store.get_erase_ne (d : Nat → α) (m : Store α) {j k : Nat} (h : k ≠ j) :
    Store.get d (m.erase j) k = Store.get d m k := by
  induction m with
  | nil => rfl
  | cons p m ih =>
    obtain ⟨i, v⟩ := p
    by_cases hi : i = j
    · subst hi; simp [Store.erase, Store.get, ih, Ne.symm h]
    · simp [Store.erase, Store.get, hi, ih]

theorem Store.get_erase_self (d : Nat → α) (m : Store α) (k : Nat) : Store.get d (m.erase k) k = d k := by
  induction m with
  | nil => rfl
  | cons p m ih =>
    obtain ⟨i, v⟩ := p
    by_cases hi : i = k
    · simp [Store.erase, hi, ih]
    · simp [Store.erase, Store.get, hi, ih]

theorem Store.get_insert_ne (d : Nat → α) (m : Store α) {j k : Nat} (v : α) (h : k ≠ j) :
    Store.get d (m.insert j v) k = Store.get d m k := by
  induction m with
  | nil => simp [Store.insert, Store.get, Ne.symm h]
  | cons p m ih =>
    obtain ⟨i, u⟩ := p
    by_cases hi : j < i
    · simp [Store.insert, Store.get, hi, Ne.symm h]
    · simp [Store.insert, Store.get, hi, ih]

theorem Store.get_insert_erase (d : Nat → α) (m : Store α) (k : Nat) (v : α) :
    Store.get d ((m.erase k).insert k v) k = v := by
  induction m with
  | nil => simp [Store.erase, Store.insert, Store.get]
  | cons p m ih =>
    obtain ⟨i, u⟩ := p
    by_cases hi : i = k
    · simp [Store.erase, hi, ih]
    · by_cases hk : k < i
      · simp [Store.erase, Store.insert, Store.get, hi, hk]
      · simp [Store.erase, Store.insert, Store.get, hi, hk, ih]

@[simp] theorem Store.get_set_same [DecidableEq α] (d : Nat → α) (m : Store α) (k : Nat) (v : α) :
    Store.get d (Store.set d m k v) k = v := by
  unfold Store.set
  split
  · next h => rw [Store.get_erase_self, h]
  · exact Store.get_insert_erase d m k v

theorem Store.get_set_ne [DecidableEq α] (d : Nat → α) (m : Store α) {j k : Nat} (v : α) (h : k ≠ j) :
    Store.get d (Store.set d m j v) k = Store.get d m k := by
  unfold Store.set
  split
  · exact Store.get_erase_ne d m h
  · rw [Store.get_insert_ne d _ v h, Store.get_erase_ne d m h]

theorem Store.get_set [DecidableEq α] (d : Nat → α) (m : Store α) (j k : Nat) (v : α) :
    Store.get d (Store.set d m j v) k = if k = j then v else Store.get d m k := by
  by_cases h : k = j
  · simp [h]
  · simp [h, Store.get_set_ne d m v h]

theorem Store.wfFrom_mono [DecidableEq α] (d : Nat → α) {a b : Nat} (m : Store α) (h : a ≤ b)
    (hm : Store.wfFrom d b m = true) : Store.wfFrom d a m = true := by
  cases m with
  | nil => rfl
  | cons p m =>
    obtain ⟨k, v⟩ := p
    simp only [Store.wfFrom, Bool.and_eq_true, decide_eq_true_eq] at hm ⊢
    exact ⟨⟨by omega, hm.1.2⟩, hm.2⟩

theorem Store.wfFrom_erase [DecidableEq α] (d : Nat → α) (a k : Nat) (m : Store α)
    (hm : Store.wfFrom d a m = true) : Store.wfFrom d a (m.erase k) = true := by
  induction m generalizing a with
  | nil => rfl
  | cons p m ih =>
    obtain ⟨i, v⟩ := p
    simp only [Store.wfFrom, Bool.and_eq_true, decide_eq_true_eq] at hm
    by_cases hi : i = k
    · simp only [Store.erase, hi, if_true]
      exact Store.wfFrom_mono d _ (by omega) (ih _ hm.2)
    · simp only [Store.erase, hi, if_false, Store.wfFrom, Bool.and_eq_true, decide_eq_true_eq]
      exact ⟨hm.1, ih _ hm.2⟩

theorem Store.erase_of_lt [DecidableEq α] (d : Nat → α) (a k : Nat) (m : Store α)
    (hm : Store.wfFrom d a m = true) (hk : k < a) : m.erase k = m := by
  induction m generalizing a with
  | nil => rfl
  | cons p m ih =>
    obtain ⟨i, v⟩ := p
    simp only [Store.wfFrom, Bool.and_eq_true, decide_eq_true_eq] at hm
    have hi : i ≠ k := by omega
    simp [Store.erase, hi, ih (i + 1) hm.2 (by omega)]

theorem Store.wfFrom_insert [DecidableEq α] (d : Nat → α) (a k : Nat) (v : α) (m : Store α) (ha : a ≤ k)
    (hv : v ≠ d k) (hm : Store.wfFrom d a m = true) :
    Store.wfFrom d a ((m.erase k).insert k v) = true := by
  induction m generalizing a with
  | nil => simp [Store.erase, Store.insert, Store.wfFrom, ha, hv]
  | cons p m ih =>
    obtain ⟨i, u⟩ := p
    simp only [Store.wfFrom, Bool.and_eq_true, decide_eq_true_eq] at hm
    by_cases hi : i = k
    · subst hi
      simp only [Store.erase, if_true]
      rw [Store.erase_of_lt d (i + 1) i m hm.2 (by omega)]
      cases m with
      | nil => simp [Store.insert, Store.wfFrom, ha, hv]
      | cons q m =>
        obtain ⟨j, w⟩ := q
        have hj := hm.2
        simp only [Store.wfFrom, Bool.and_eq_true, decide_eq_true_eq] at hj
        have : i < j := by omega
        simp only [Store.insert, this, if_true, Store.wfFrom, Bool.and_eq_true, decide_eq_true_eq]
        exact ⟨⟨ha, hv⟩, ⟨by omega, hj.1.2⟩, hj.2⟩
    · by_cases hk : k < i
      · have he : Store.erase m k = m := Store.erase_of_lt d (i + 1) k m hm.2 (by omega)
        simp only [Store.erase, hi, if_false, he, Store.insert, hk, if_true, Store.wfFrom,
          Bool.and_eq_true, decide_eq_true_eq]
        exact ⟨⟨ha, hv⟩, ⟨by omega, hm.1.2⟩, hm.2⟩
      · simp only [Store.erase, hi, if_false, Store.insert, hk, Store.wfFrom, Bool.and_eq_true,
          decide_eq_true_eq]
        exact ⟨hm.1, ih (i + 1) (by omega) hm.2⟩

/-- Every write keeps the canonical form. -/
theorem Store.wf_set [DecidableEq α] (d : Nat → α) (m : Store α) (k : Nat) (v : α)
    (hm : Store.wf d m = true) : Store.wf d (Store.set d m k v) = true := by
  unfold Store.set
  split
  · exact Store.wfFrom_erase d 0 k m hm
  · next h => exact Store.wfFrom_insert d 0 k v m (Nat.zero_le _) h hm

end Sys2Proof.Machine
end

