-- ==== Sys2Proof/Laws/P18.lean ====
section
/-! SUPPORT. What an instruction of a core can do, said once: the laws of its fetch, of `coreRun` and `coreIns`, of the loop rule and of the
pending product. -/

namespace Sys2Proof.Machine

@[simp] theorem State.tick_core (t : Nat) (s : State) : (s.tick t).core = s.core := rfl
@[simp] theorem State.tick_regs (t : Nat) (s : State) : (s.tick t).regs = s.regs := rfl
@[simp] theorem State.tick_now (t : Nat) (s : State) : (s.tick t).now = max s.now t := rfl
@[simp] theorem State.tick_out (t : Nat) (s : State) : (s.tick t).out = [] := rfl
@[simp] theorem State.tick_pending (t : Nat) (s : State) : (s.tick t).pending = s.pending := rfl
@[simp] theorem State.tick_reg (t : Nat) (s : State) (r : RegName) (n : Nat) : (s.tick t).reg r n = s.reg r n := rfl
@[simp] theorem State.tick_get (t : Nat) (s : State) (f : Fld) (n : Nat) : (s.tick t).get f n = s.get f n := rfl
@[simp] theorem State.tick_is (t : Nat) (s : State) (f : Fld) (n : Nat) : (s.tick t).is f n = s.is f n := rfl
@[simp] theorem canRun_tick (t c : Nat) (s : State) : canRun (s.tick t) c = canRun s c := rfl
@[simp] theorem slack_tick (t : Nat) (s : State) : slack (s.tick t) = slack s := rfl

/-- The state with core `c` set keeps every other core. -/
theorem setCore_ne (s : State) (c d : Nat) (h : CoreS) (hd : d ≠ c) : (s.setCore c h).coreOf d = s.coreOf d :=
  Store.get_set_ne _ _ _ hd

/-- The state with core `c` set holds it. -/
theorem setCore_same (s : State) (c : Nat) (h : CoreS) : (s.setCore c h).coreOf c = h := Store.get_set_same _ _ _ _

/-- Setting a core after the command began touches that core alone. -/
theorem onlyCore_setCore (t c : Nat) (s : State) (h : CoreS) : OnlyCore t c s ((s.tick t).setCore c h) :=
  ⟨rfl, fun d hd => setCore_ne (s.tick t) c d h hd⟩

/-! ### Fetch (R234, R249) -/

/-- A source that fires touches no core. -/
@[simp] theorem fire_core (s : State) (n : Nat) : (s.fire n).core = s.core := by
  simp only [State.fire]
  repeat' split
  all_goals rfl

@[simp] theorem fireIf_core (s : State) (b : Bool) (n : Nat) : (s.fireIf b n).core = s.core := by
  unfold State.fireIf; split
  · exact fire_core s n
  · rfl

/-- A read of an SRAM word touches no core. -/
theorem sramRead_core (s : State) (r c k : Nat) : (sramRead s r c k).2.core = s.core := by
  simp only [sramRead]
  split
  · rfl
  · exact fireIf_core _ _ _
  · exact fireIf_core _ _ _

/-- A read of a flash line touches no core. -/
theorem flashLine_core (s : State) (l : Nat) : (flashLine s l).2.core = s.core := by
  simp only [flashLine, State.draw]
  repeat' split
  all_goals rfl

/-- A fold whose steps touch no core touches none. -/
theorem foldl_core {α β : Type} (f : β × State → α → β × State) (hf : ∀ p x, (f p x).2.core = p.2.core) (l : List α) (p : β × State) :
    (l.foldl f p).2.core = p.2.core := by
  induction l generalizing p with
  | nil => rfl
  | cons x l ih => rw [List.foldl_cons, ih, hf]

/-- The reads of a fetch touch no core. -/
theorem fetchErrs_core (s : State) (c a : Nat) (whole : Bool) : (fetchErrs s c a whole).2.core = s.core := by
  unfold fetchErrs
  split
  · refine foldl_core _ (fun p x => ?_) _ _
    have := sramRead_core p.2 0 c x
    split <;> simp_all
  · refine foldl_core _ (fun p x => ?_) _ _
    have := flashLine_core p.2 x
    split <;> simp_all
  · rfl

/-- What a fetch does with the cores: the instruction cache of core `c` may take a block, and nothing else changes. -/
theorem fetch_core (s : State) (c a : Nat) :
    ∃ ic, (fetch s c a).2.coreOf c = { s.coreOf c with ic := ic } ∧ SameCoreBut c s (fetch s c a).2 := by
  have same : ∀ s' : State, s'.core = s.core → ∃ ic, s'.coreOf c = { s.coreOf c with ic := ic } ∧ SameCoreBut c s s' := by
    intro s' h
    refine ⟨(s.coreOf c).ic, ?_, fun d _ => ?_⟩ <;> rw [State.coreOf, h]
  have fill : ∀ s' : State, s'.core = s.core → ∀ k, ∃ ic, (icFill s' c k).coreOf c = { s.coreOf c with ic := ic } ∧
      SameCoreBut c s (icFill s' c k) := by
    intro s' h k
    have hd' : ∀ d, s'.coreOf d = s.coreOf d := fun d => by rw [State.coreOf, h]
    rw [← hd' c]
    exact ⟨_, setCore_same _ c _, fun d hd => (setCore_ne _ c d _ hd).trans (hd' d)⟩
  have mem : ∃ ic, (fetchMem s c a).2.coreOf c = { s.coreOf c with ic := ic } ∧ SameCoreBut c s (fetchMem s c a).2 := by
    have he := fetchErrs_core s c a (!slack s)
    simp only [fetchMem]
    repeat' split
    all_goals first | exact same _ rfl | exact same _ he | exact fill _ he _
  unfold fetch
  split
  · exact same s rfl
  · exact mem

variable {t c : Nat} {s : State}

/-- The registers that an instruction finds, in the state in which it acts. -/
theorem issued_core (t c : Nat) (s : State) : (issued t c s).coreOf c = atIssue t c s := by
  obtain ⟨ic, h, -⟩ := fetch_core (s.tick t) c (s.coreOf c).pc.toNat
  unfold atIssue issued; rw [h]; rfl

/-- The fetch touches no other core. -/
theorem issued_others (t c : Nat) (s : State) : SameCoreBut c s (issued t c s) :=
  fun d hd => (fetch_core (s.tick t) c (s.coreOf c).pc.toNat).choose_spec.2 d hd

/-- Setting the issuing core after its fetch touches that core alone. -/
theorem onlyIssuer_setCore (t c : Nat) (s : State) (h : CoreS) : OnlyIssuer t c s ((issued t c s).setCore c h) :=
  ⟨rfl, fun d hd => (setCore_ne _ c d h hd).trans (issued_others t c s d hd)⟩

/-- What a ready core executes: the instruction, in the state and with the registers that the fetch left. -/
theorem coreRun_ready (f : State → CoreS → CoreRes × State) (hr : CoreReady t s c) :
    coreRun (s.tick t) c f = match f (issued t c s) (atIssue t c s) with
      | (.wait, u) => u.setCore c (u.coreOf c).stallOn
      | (r, u) => u.setCore c (r.end (atIssue t c s)).ranOn := by
  obtain ⟨h1, h2, h3⟩ := hr
  have e2 : ((s.tick t).coreOf c).fetchOk = true := h2
  have e3 : fetch (s.tick t) c ((s.tick t).coreOf c).pc.toNat = (.ok, issued t c s) := Prod.ext h3 rfl
  have e4 : ((fetch (s.tick t) c ((s.tick t).coreOf c).pc.toNat).2).coreOf c = atIssue t c s := issued_core t c s
  simp only [coreRun, canRun_tick, h1, if_true, e2]
  rw [e3] at e4 ⊢
  simp only at e4 ⊢
  rw [e4]
  all_goals
    rcases f (issued t c s) (atIssue t c s) with ⟨r, s1⟩
    cases r <;> rfl

/-- What an instruction that acts on its core alone answers on a ready core. -/
theorem coreIns_ready (f : CoreS → CoreRes) (hr : CoreReady t s c) :
    coreIns t c f s = .next (match f (atIssue t c s) with
      | .wait => (issued t c s).setCore c (atIssue t c s).stallOn
      | r => (issued t c s).setCore c (r.end (atIssue t c s)).ranOn) := by
  simp only [coreIns, ok]
  rw [coreRun_ready _ hr]
  generalize f (atIssue t c s) = r
  cases r <;> simp only [issued_core]

/-- The loop rule changes the pc, LN and LC alone. -/
theorem loopRule_frame (a : Addr) (n : Nat) (h : CoreS) :
    h.loopRule a n = { h with pc := (h.loopRule a n).pc, ln := (h.loopRule a n).ln, lc := (h.loopRule a n).lc } := by
  induction n generalizing h with
  | zero => rfl
  | succ n ih =>
    unfold CoreS.loopRule
    split
    · split
      · rfl
      · rw [ih]; rfl
    · rfl

/-- The loop rule reads the loop registers alone. -/
theorem loopRule_congr (a : Addr) (n : Nat) (h g : CoreS) (h1 : g.ls = h.ls) (h2 : g.le = h.le) (h3 : g.lc = h.lc) (h4 : g.ln = h.ln) :
    (g.loopRule a n).pc = (h.loopRule a n).pc ∧ (g.loopRule a n).ln = (h.loopRule a n).ln ∧ (g.loopRule a n).lc = (h.loopRule a n).lc := by
  induction n generalizing h g with
  | zero => exact ⟨rfl, h4, h3⟩
  | succ n ih =>
    have e1 : ∀ i, g.leOf i = h.leOf i := fun i => by simp [CoreS.leOf, h2]
    have e2 : ∀ i, g.lcOf i = h.lcOf i := fun i => by simp [CoreS.lcOf, h3]
    have e3 : ∀ i, g.lsOf i = h.lsOf i := fun i => by simp [CoreS.lsOf, h1]
    simp only [CoreS.loopRule, e1, e2, e3, h4]
    by_cases hA : 0 < h.ln ∧ a = h.leOf (h.ln - 1)
    · by_cases hB : 1 < (h.lcOf (h.ln - 1)).toNat
      · simp [hA, hB, CoreS.setLc, h3, h4]
      · rw [if_pos hA, if_pos hA, if_neg hB, if_neg hB]
        apply ih <;> simp [CoreS.setLc, h1, h2, h3]
    · simp [hA, h3]

/-- What the end of an instruction makes of the registers `g` that it left, where the update `m0` was pending. -/
theorem settle_frame (g : CoreS) (m0 : Option Product) :
    g.settle m0 = { g with ph := (g.settle m0).ph, pl := (g.settle m0).pl, pa := (g.settle m0).pa } := by
  cases m0 with
  | none => rfl
  | some m => obtain ⟨_ | p, _ | a⟩ := m <;> rfl

@[simp] theorem settle_pc (h : CoreS) (m : Option Product) : (h.settle m).pc = h.pc := by rw [settle_frame]
@[simp] theorem settle_ls (h : CoreS) (m : Option Product) : (h.settle m).ls = h.ls := by rw [settle_frame]
@[simp] theorem settle_le (h : CoreS) (m : Option Product) : (h.settle m).le = h.le := by rw [settle_frame]
@[simp] theorem settle_lc (h : CoreS) (m : Option Product) : (h.settle m).lc = h.lc := by rw [settle_frame]
@[simp] theorem settle_ln (h : CoreS) (m : Option Product) : (h.settle m).ln = h.ln := by rw [settle_frame]
@[simp] theorem settle_mul (h : CoreS) (m : Option Product) : (h.settle m).mul = h.mul := by rw [settle_frame]
@[simp] theorem settle_w (h : CoreS) (m : Option Product) : (h.settle m).w = h.w := by rw [settle_frame]
@[simp] theorem settle_k (h : CoreS) (m : Option Product) : (h.settle m).k = h.k := by rw [settle_frame]
@[simp] theorem settle_pcc (h : CoreS) (m : Option Product) : (h.settle m).pcc = h.pcc := by rw [settle_frame]
@[simp] theorem settle_ic (h : CoreS) (m : Option Product) : (h.settle m).ic = h.ic := by rw [settle_frame]
@[simp] theorem settle_sr (h : CoreS) (m : Option Product) : (h.settle m).sr = h.sr := by rw [settle_frame]
@[simp] theorem settle_tq (h : CoreS) (m : Option Product) : (h.settle m).tq = h.tq := by rw [settle_frame]
@[simp] theorem settle_sb (h : CoreS) (m : Option Product) : (h.settle m).sb = h.sb := by rw [settle_frame]
@[simp] theorem settle_fq (h : CoreS) (m : Option Product) : (h.settle m).fq = h.fq := by rw [settle_frame]
@[simp] theorem settle_trap (h : CoreS) (m : Option Product) : (h.settle m).trap = h.trap := by rw [settle_frame]

/-- Two word registers joined from the halves of a double word. -/
theorem halves (p : BitVec 36) : (p.extractLsb' 18 18 ++ p.extractLsb' 0 18 : BitVec 36) = p := by
  apply BitVec.eq_of_getLsbD_eq
  intro i hi
  simp only [BitVec.getLsbD_append, BitVec.getLsbD_extractLsb']
  by_cases h : i < 18
  · simp [h]
  · simp only [h, decide_false]
    have : 18 + (i - 18) = i := by omega
    simp [this]; omega

theorem settle_product (g : CoreS) (m0 : Option Product) :
    (g.settle m0).ph ++ (g.settle m0).pl = (m0.bind (·.p)).getD (g.ph ++ g.pl) ∧ (g.settle m0).pa = (m0.bind (·.pa)).getD g.pa := by
  cases m0 with
  | none => exact ⟨rfl, rfl⟩
  | some m => obtain ⟨_ | p, _ | a⟩ := m <;> simp [CoreS.settle, halves]

/-- The loop rule of registers that agree with `g` on the pc and the loop registers. -/
theorem advance_congr (g h : CoreS) (h0 : h.pc = g.pc) (h1 : h.ls = g.ls) (h2 : h.le = g.le) (h3 : h.lc = g.lc) (h4 : h.ln = g.ln) :
    h.advance = { h with pc := g.advance.pc, ln := g.advance.ln, lc := g.advance.lc } := by
  have hc := loopRule_congr h.pc h.ln g h h1 h2 h3 h4
  have e : g.advance = g.loopRule h.pc h.ln := by rw [CoreS.advance, h0, h4]
  rw [e, ← hc.1, ← hc.2.1, ← hc.2.2]
  exact loopRule_frame _ _ _

/-- R210: the update of a multiply, as the values that it gives PH, PL and PA. -/
theorem settle_values (g : CoreS) (m0 : Option Product) (hm : g.mul = m0) :
    ∃ ph pl pa, g.settle m0 = { g with ph := ph, pl := pl, pa := pa } ∧
      ph ++ pl = (g.mul.bind (·.p)).getD (g.ph ++ g.pl) ∧ pa = g.paNow := by
  refine ⟨(g.settle m0).ph, (g.settle m0).pl, (g.settle m0).pa, settle_frame g m0, ?_, ?_⟩
  · rw [hm]; exact (settle_product g m0).1
  · rw [CoreS.paNow, hm]; exact (settle_product g m0).2

/-- The loop rule keeps the presented vector. -/
theorem loopRule_pres (a : Addr) (n : Nat) (h : CoreS) : (h.loopRule a n).pres = h.pres := by rw [loopRule_frame]

/-- The end of a completing instruction, in the terms of the statements. -/
theorem settled_end (g : CoreS) (m0 m : Option Product) (hm : g.mul = m0) :
    Settled m g.advance ({ g.settle m0 with mul := m } : CoreS).advance.ranOn := by
  obtain ⟨ph, pl, pa, hs, hp, ha⟩ := settle_values g m0 hm
  have hg : g.advance = { g with pc := g.advance.pc, ln := g.advance.ln, lc := g.advance.lc } := loopRule_frame g.pc g.ln g
  rw [hs, advance_congr g { g with ph := ph, pl := pl, pa := pa, mul := m } rfl rfl rfl rfl rfl]
  generalize g.advance.pc = apc at hg ⊢
  generalize g.advance.ln = aln at hg ⊢
  generalize g.advance.lc = alc at hg ⊢
  rw [hg]
  exact ⟨rfl, hp, ha⟩

/-- The end of a transfer, in the terms of the statements. -/
theorem settled_goto (a : Addr) (g : CoreS) (m0 : Option Product) (hm : g.mul = m0) :
    Settled none { g with pc := a } ({ g.settle m0 with mul := none, pc := a } : CoreS).ranOn := by
  obtain ⟨ph, pl, pa, hs, hp, ha⟩ := settle_values g m0 hm
  rw [hs]
  exact ⟨rfl, hp, ha⟩

section Outcomes

variable {i : Instr} {f : CoreS → CoreRes} {g : CoreS}

/-- An instruction whose effect on a ready core is to complete with the registers `g`. -/
theorem completes_of (hr : CoreReady t s c) (hi : exec i s = coreIns t c f s) (hm : g.mul = (s.coreOf c).mul)
    (hf : f (atIssue t c s) = .done g) : Completes i t c s g := by
  refine ⟨_, hi.trans (coreIns_ready f hr), ?_⟩
  rw [hf]
  refine ⟨onlyIssuer_setCore t c s _, ?_⟩
  rw [setCore_same]
  exact settled_end g _ none hm

/-- A multiply that completes with the registers `g` and leaves the update `m`. -/
theorem completesMul_of {m : Product} (hr : CoreReady t s c) (hi : exec i s = coreIns t c f s) (hm : g.mul = (s.coreOf c).mul)
    (hf : f (atIssue t c s) = .mul g m) : CompletesMul i t c s g m := by
  refine ⟨_, hi.trans (coreIns_ready f hr), ?_⟩
  rw [hf]
  refine ⟨onlyIssuer_setCore t c s _, ?_⟩
  rw [setCore_same]
  exact settled_end g _ (some m) hm

/-- An instruction that transfers control to `a` with the registers `g`. -/
theorem goesTo_of {a : Addr} (hr : CoreReady t s c) (hi : exec i s = coreIns t c f s) (hm : g.mul = (s.coreOf c).mul)
    (hf : f (atIssue t c s) = .goto g a) : GoesTo i t c s g a := by
  refine ⟨_, hi.trans (coreIns_ready f hr), ?_⟩
  rw [hf]
  refine ⟨onlyIssuer_setCore t c s _, ?_⟩
  rw [setCore_same]
  exact settled_goto a g _ hm

/-- An instruction that raises a trap. -/
theorem traps_of {cause : Nat} {fault : Int} (hr : CoreReady t s c) (hi : exec i s = coreIns t c f s)
    (hf : f (atIssue t c s) = .trap cause fault) : Traps i t c s cause fault := by
  refine ⟨_, hi.trans (coreIns_ready f hr), ?_⟩
  rw [hf]
  refine ⟨onlyIssuer_setCore t c s _, ?_⟩
  rw [setCore_same]
  rfl

/-- An instruction that waits. -/
theorem waits_of (hr : CoreReady t s c) (hi : exec i s = coreIns t c f s) (hf : f (atIssue t c s) = .wait) :
    Waits i t c s := by
  refine ⟨_, hi.trans (coreIns_ready f hr), ?_⟩
  rw [hf]
  rfl

end Outcomes

end Sys2Proof.Machine
end

