-- ==== Sys2Proof/Laws/State.lean ====
section
/-! SUPPORT. One law for each field of the state under each update of a stored entry: true by unfolding once, so that no later
proof opens a record update. -/

namespace Sys2Proof.Machine


@[simp] theorem State.setHw_hwOf (s : State) (k : Nat) (v : HwRec) : (s.setHw k v).hwOf k = v := Store.get_set_same _ _ _ _
theorem State.setHw_hwOf_ne (s : State) {j k : Nat} (v : HwRec) (h : k ≠ j) : (s.setHw j v).hwOf k = s.hwOf k := Store.get_set_ne _ _ _ h
@[simp] theorem State.setHw_now (s : State) (k : Nat) (v : HwRec) : (s.setHw k v).now = s.now := rfl
@[simp] theorem State.setHw_regs (s : State) (k : Nat) (v : HwRec) : (s.setHw k v).regs = s.regs := rfl
@[simp] theorem State.setHw_written (s : State) (k : Nat) (v : HwRec) : (s.setHw k v).written = s.written := rfl
@[simp] theorem State.setHw_ich (s : State) (k : Nat) (v : HwRec) : (s.setHw k v).ich = s.ich := rfl
@[simp] theorem State.setHw_wc (s : State) (k : Nat) (v : HwRec) : (s.setHw k v).wc = s.wc := rfl
@[simp] theorem State.setHw_calDue (s : State) (k : Nat) (v : HwRec) : (s.setHw k v).calDue = s.calDue := rfl
@[simp] theorem State.setHw_berth (s : State) (k : Nat) (v : HwRec) : (s.setHw k v).berth = s.berth := rfl
@[simp] theorem State.setHw_armed (s : State) (k : Nat) (v : HwRec) : (s.setHw k v).armed = s.armed := rfl
@[simp] theorem State.setHw_admq (s : State) (k : Nat) (v : HwRec) : (s.setHw k v).admq = s.admq := rfl
@[simp] theorem State.setHw_crane (s : State) (k : Nat) (v : HwRec) : (s.setHw k v).crane = s.crane := rfl
@[simp] theorem State.setHw_rounds (s : State) (k : Nat) (v : HwRec) : (s.setHw k v).rounds = s.rounds := rfl
@[simp] theorem State.setHw_bstore (s : State) (k : Nat) (v : HwRec) : (s.setHw k v).bstore = s.bstore := rfl
@[simp] theorem State.setHw_bstoreAt (s : State) (k : Nat) (v : HwRec) : (s.setHw k v).bstoreAt = s.bstoreAt := rfl
@[simp] theorem State.setHw_bram (s : State) (k : Nat) (v : HwRec) : (s.setHw k v).bram = s.bram := rfl
@[simp] theorem State.setHw_engW (s : State) (k : Nat) (v : HwRec) : (s.setHw k v).engW = s.engW := rfl
@[simp] theorem State.setHw_cu (s : State) (k : Nat) (v : HwRec) : (s.setHw k v).cu = s.cu := rfl
@[simp] theorem State.setHw_sram (s : State) (k : Nat) (v : HwRec) : (s.setHw k v).sram = s.sram := rfl
@[simp] theorem State.setHw_logAt (s : State) (k : Nat) (v : HwRec) : (s.setHw k v).logAt = s.logAt := rfl
@[simp] theorem State.setHw_tz (s : State) (k : Nat) (v : HwRec) : (s.setHw k v).tz = s.tz := rfl
@[simp] theorem State.setHw_tripPin (s : State) (k : Nat) (v : HwRec) : (s.setHw k v).tripPin = s.tripPin := rfl
@[simp] theorem State.setHw_tb (s : State) (k : Nat) (v : HwRec) : (s.setHw k v).tb = s.tb := rfl
@[simp] theorem State.setHw_tbLatch (s : State) (k : Nat) (v : HwRec) : (s.setHw k v).tbLatch = s.tbLatch := rfl
@[simp] theorem State.setHw_srcAt (s : State) (k : Nat) (v : HwRec) : (s.setHw k v).srcAt = s.srcAt := rfl
@[simp] theorem State.setHw_ev (s : State) (k : Nat) (v : HwRec) : (s.setHw k v).ev = s.ev := rfl
@[simp] theorem State.setHw_lc (s : State) (k : Nat) (v : HwRec) : (s.setHw k v).lc = s.lc := rfl
@[simp] theorem State.setHw_divAt (s : State) (k : Nat) (v : HwRec) : (s.setHw k v).divAt = s.divAt := rfl
@[simp] theorem State.setHw_sc (s : State) (k : Nat) (v : HwRec) : (s.setHw k v).sc = s.sc := rfl
@[simp] theorem State.setHw_mt (s : State) (k : Nat) (v : HwRec) : (s.setHw k v).mt = s.mt := rfl
@[simp] theorem State.setHw_mf (s : State) (k : Nat) (v : HwRec) : (s.setHw k v).mf = s.mf := rfl
@[simp] theorem State.setHw_mfu (s : State) (k : Nat) (v : HwRec) : (s.setHw k v).mfu = s.mfu := rfl
@[simp] theorem State.setHw_journal (s : State) (k : Nat) (v : HwRec) : (s.setHw k v).journal = s.journal := rfl
@[simp] theorem State.setHw_fl (s : State) (k : Nat) (v : HwRec) : (s.setHw k v).fl = s.fl := rfl
@[simp] theorem State.setHw_flash (s : State) (k : Nat) (v : HwRec) : (s.setHw k v).flash = s.flash := rfl
@[simp] theorem State.setHw_flBlk (s : State) (k : Nat) (v : HwRec) : (s.setHw k v).flBlk = s.flBlk := rfl
@[simp] theorem State.setHw_flWear (s : State) (k : Nat) (v : HwRec) : (s.setHw k v).flWear = s.flWear := rfl
@[simp] theorem State.setHw_otp (s : State) (k : Nat) (v : HwRec) : (s.setHw k v).otp = s.otp := rfl
@[simp] theorem State.setHw_gpioPad (s : State) (k : Nat) (v : HwRec) : (s.setHw k v).gpioPad = s.gpioPad := rfl
@[simp] theorem State.setHw_lkWake (s : State) (k : Nat) (v : HwRec) : (s.setHw k v).lkWake = s.lkWake := rfl
@[simp] theorem State.setHw_lkDrive (s : State) (k : Nat) (v : HwRec) : (s.setHw k v).lkDrive = s.lkDrive := rfl
@[simp] theorem State.setHw_rung (s : State) (k : Nat) (v : HwRec) : (s.setHw k v).rung = s.rung := rfl
@[simp] theorem State.setHw_wake (s : State) (k : Nat) (v : HwRec) : (s.setHw k v).wake = s.wake := rfl
@[simp] theorem State.setHw_core (s : State) (k : Nat) (v : HwRec) : (s.setHw k v).core = s.core := rfl
@[simp] theorem State.setHw_bank (s : State) (k : Nat) (v : HwRec) : (s.setHw k v).bank = s.bank := rfl
@[simp] theorem State.setHw_lock (s : State) (k : Nat) (v : HwRec) : (s.setHw k v).lock = s.lock := rfl
@[simp] theorem State.setHw_tide (s : State) (k : Nat) (v : HwRec) : (s.setHw k v).tide = s.tide := rfl
@[simp] theorem State.setHw_snap (s : State) (k : Nat) (v : HwRec) : (s.setHw k v).snap = s.snap := rfl
@[simp] theorem State.setHw_vsrc (s : State) (k : Nat) (v : HwRec) : (s.setHw k v).vsrc = s.vsrc := rfl
@[simp] theorem State.setHw_doze (s : State) (k : Nat) (v : HwRec) : (s.setHw k v).doze = s.doze := rfl
@[simp] theorem State.setHw_devRst (s : State) (k : Nat) (v : HwRec) : (s.setHw k v).devRst = s.devRst := rfl
@[simp] theorem State.setHw_scrub (s : State) (k : Nat) (v : HwRec) : (s.setHw k v).scrub = s.scrub := rfl
@[simp] theorem State.setHw_pps (s : State) (k : Nat) (v : HwRec) : (s.setHw k v).pps = s.pps := rfl
@[simp] theorem State.setHw_pwr (s : State) (k : Nat) (v : HwRec) : (s.setHw k v).pwr = s.pwr := rfl
@[simp] theorem State.setHw_link (s : State) (k : Nat) (v : HwRec) : (s.setHw k v).link = s.link := rfl
@[simp] theorem State.setHw_txs (s : State) (k : Nat) (v : HwRec) : (s.setHw k v).txs = s.txs := rfl
@[simp] theorem State.setHw_win (s : State) (k : Nat) (v : HwRec) : (s.setHw k v).win = s.win := rfl
@[simp] theorem State.setHw_lku (s : State) (k : Nat) (v : HwRec) : (s.setHw k v).lku = s.lku := rfl
@[simp] theorem State.setHw_gt (s : State) (k : Nat) (v : HwRec) : (s.setHw k v).gt = s.gt := rfl
@[simp] theorem State.setHw_boot (s : State) (k : Nat) (v : HwRec) : (s.setHw k v).boot = s.boot := rfl
@[simp] theorem State.setHw_graft (s : State) (k : Nat) (v : HwRec) : (s.setHw k v).graft = s.graft := rfl
@[simp] theorem State.setHw_ku (s : State) (k : Nat) (v : HwRec) : (s.setHw k v).ku = s.ku := rfl
@[simp] theorem State.setHw_dbg (s : State) (k : Nat) (v : HwRec) : (s.setHw k v).dbg = s.dbg := rfl
@[simp] theorem State.setHw_smb (s : State) (k : Nat) (v : HwRec) : (s.setHw k v).smb = s.smb := rfl
@[simp] theorem State.setHw_spi (s : State) (k : Nat) (v : HwRec) : (s.setHw k v).spi = s.spi := rfl
@[simp] theorem State.setHw_pending (s : State) (k : Nat) (v : HwRec) : (s.setHw k v).pending = s.pending := rfl
@[simp] theorem State.setHw_out (s : State) (k : Nat) (v : HwRec) : (s.setHw k v).out = s.out := rfl
@[simp] theorem State.setHw_free (s : State) (k : Nat) (v : HwRec) : (s.setHw k v).free = s.free := rfl
@[simp] theorem State.setIch_ichOf (s : State) (k : Nat) (v : IchS) : (s.setIch k v).ichOf k = v := Store.get_set_same _ _ _ _
theorem State.setIch_ichOf_ne (s : State) {j k : Nat} (v : IchS) (h : k ≠ j) : (s.setIch j v).ichOf k = s.ichOf k := Store.get_set_ne _ _ _ h
@[simp] theorem State.setIch_now (s : State) (k : Nat) (v : IchS) : (s.setIch k v).now = s.now := rfl
@[simp] theorem State.setIch_regs (s : State) (k : Nat) (v : IchS) : (s.setIch k v).regs = s.regs := rfl
@[simp] theorem State.setIch_written (s : State) (k : Nat) (v : IchS) : (s.setIch k v).written = s.written := rfl
@[simp] theorem State.setIch_hw (s : State) (k : Nat) (v : IchS) : (s.setIch k v).hw = s.hw := rfl
@[simp] theorem State.setIch_wc (s : State) (k : Nat) (v : IchS) : (s.setIch k v).wc = s.wc := rfl
@[simp] theorem State.setIch_calDue (s : State) (k : Nat) (v : IchS) : (s.setIch k v).calDue = s.calDue := rfl
@[simp] theorem State.setIch_berth (s : State) (k : Nat) (v : IchS) : (s.setIch k v).berth = s.berth := rfl
@[simp] theorem State.setIch_armed (s : State) (k : Nat) (v : IchS) : (s.setIch k v).armed = s.armed := rfl
@[simp] theorem State.setIch_admq (s : State) (k : Nat) (v : IchS) : (s.setIch k v).admq = s.admq := rfl
@[simp] theorem State.setIch_crane (s : State) (k : Nat) (v : IchS) : (s.setIch k v).crane = s.crane := rfl
@[simp] theorem State.setIch_rounds (s : State) (k : Nat) (v : IchS) : (s.setIch k v).rounds = s.rounds := rfl
@[simp] theorem State.setIch_bstore (s : State) (k : Nat) (v : IchS) : (s.setIch k v).bstore = s.bstore := rfl
@[simp] theorem State.setIch_bstoreAt (s : State) (k : Nat) (v : IchS) : (s.setIch k v).bstoreAt = s.bstoreAt := rfl
@[simp] theorem State.setIch_bram (s : State) (k : Nat) (v : IchS) : (s.setIch k v).bram = s.bram := rfl
@[simp] theorem State.setIch_engW (s : State) (k : Nat) (v : IchS) : (s.setIch k v).engW = s.engW := rfl
@[simp] theorem State.setIch_cu (s : State) (k : Nat) (v : IchS) : (s.setIch k v).cu = s.cu := rfl
@[simp] theorem State.setIch_sram (s : State) (k : Nat) (v : IchS) : (s.setIch k v).sram = s.sram := rfl
@[simp] theorem State.setIch_logAt (s : State) (k : Nat) (v : IchS) : (s.setIch k v).logAt = s.logAt := rfl
@[simp] theorem State.setIch_tz (s : State) (k : Nat) (v : IchS) : (s.setIch k v).tz = s.tz := rfl
@[simp] theorem State.setIch_tripPin (s : State) (k : Nat) (v : IchS) : (s.setIch k v).tripPin = s.tripPin := rfl
@[simp] theorem State.setIch_tb (s : State) (k : Nat) (v : IchS) : (s.setIch k v).tb = s.tb := rfl
@[simp] theorem State.setIch_tbLatch (s : State) (k : Nat) (v : IchS) : (s.setIch k v).tbLatch = s.tbLatch := rfl
@[simp] theorem State.setIch_srcAt (s : State) (k : Nat) (v : IchS) : (s.setIch k v).srcAt = s.srcAt := rfl
@[simp] theorem State.setIch_ev (s : State) (k : Nat) (v : IchS) : (s.setIch k v).ev = s.ev := rfl
@[simp] theorem State.setIch_lc (s : State) (k : Nat) (v : IchS) : (s.setIch k v).lc = s.lc := rfl
@[simp] theorem State.setIch_divAt (s : State) (k : Nat) (v : IchS) : (s.setIch k v).divAt = s.divAt := rfl
@[simp] theorem State.setIch_sc (s : State) (k : Nat) (v : IchS) : (s.setIch k v).sc = s.sc := rfl
@[simp] theorem State.setIch_mt (s : State) (k : Nat) (v : IchS) : (s.setIch k v).mt = s.mt := rfl
@[simp] theorem State.setIch_mf (s : State) (k : Nat) (v : IchS) : (s.setIch k v).mf = s.mf := rfl
@[simp] theorem State.setIch_mfu (s : State) (k : Nat) (v : IchS) : (s.setIch k v).mfu = s.mfu := rfl
@[simp] theorem State.setIch_journal (s : State) (k : Nat) (v : IchS) : (s.setIch k v).journal = s.journal := rfl
@[simp] theorem State.setIch_fl (s : State) (k : Nat) (v : IchS) : (s.setIch k v).fl = s.fl := rfl
@[simp] theorem State.setIch_flash (s : State) (k : Nat) (v : IchS) : (s.setIch k v).flash = s.flash := rfl
@[simp] theorem State.setIch_flBlk (s : State) (k : Nat) (v : IchS) : (s.setIch k v).flBlk = s.flBlk := rfl
@[simp] theorem State.setIch_flWear (s : State) (k : Nat) (v : IchS) : (s.setIch k v).flWear = s.flWear := rfl
@[simp] theorem State.setIch_otp (s : State) (k : Nat) (v : IchS) : (s.setIch k v).otp = s.otp := rfl
@[simp] theorem State.setIch_gpioPad (s : State) (k : Nat) (v : IchS) : (s.setIch k v).gpioPad = s.gpioPad := rfl
@[simp] theorem State.setIch_lkWake (s : State) (k : Nat) (v : IchS) : (s.setIch k v).lkWake = s.lkWake := rfl
@[simp] theorem State.setIch_lkDrive (s : State) (k : Nat) (v : IchS) : (s.setIch k v).lkDrive = s.lkDrive := rfl
@[simp] theorem State.setIch_rung (s : State) (k : Nat) (v : IchS) : (s.setIch k v).rung = s.rung := rfl
@[simp] theorem State.setIch_wake (s : State) (k : Nat) (v : IchS) : (s.setIch k v).wake = s.wake := rfl
@[simp] theorem State.setIch_core (s : State) (k : Nat) (v : IchS) : (s.setIch k v).core = s.core := rfl
@[simp] theorem State.setIch_bank (s : State) (k : Nat) (v : IchS) : (s.setIch k v).bank = s.bank := rfl
@[simp] theorem State.setIch_lock (s : State) (k : Nat) (v : IchS) : (s.setIch k v).lock = s.lock := rfl
@[simp] theorem State.setIch_tide (s : State) (k : Nat) (v : IchS) : (s.setIch k v).tide = s.tide := rfl
@[simp] theorem State.setIch_snap (s : State) (k : Nat) (v : IchS) : (s.setIch k v).snap = s.snap := rfl
@[simp] theorem State.setIch_vsrc (s : State) (k : Nat) (v : IchS) : (s.setIch k v).vsrc = s.vsrc := rfl
@[simp] theorem State.setIch_doze (s : State) (k : Nat) (v : IchS) : (s.setIch k v).doze = s.doze := rfl
@[simp] theorem State.setIch_devRst (s : State) (k : Nat) (v : IchS) : (s.setIch k v).devRst = s.devRst := rfl
@[simp] theorem State.setIch_scrub (s : State) (k : Nat) (v : IchS) : (s.setIch k v).scrub = s.scrub := rfl
@[simp] theorem State.setIch_pps (s : State) (k : Nat) (v : IchS) : (s.setIch k v).pps = s.pps := rfl
@[simp] theorem State.setIch_pwr (s : State) (k : Nat) (v : IchS) : (s.setIch k v).pwr = s.pwr := rfl
@[simp] theorem State.setIch_link (s : State) (k : Nat) (v : IchS) : (s.setIch k v).link = s.link := rfl
@[simp] theorem State.setIch_txs (s : State) (k : Nat) (v : IchS) : (s.setIch k v).txs = s.txs := rfl
@[simp] theorem State.setIch_win (s : State) (k : Nat) (v : IchS) : (s.setIch k v).win = s.win := rfl
@[simp] theorem State.setIch_lku (s : State) (k : Nat) (v : IchS) : (s.setIch k v).lku = s.lku := rfl
@[simp] theorem State.setIch_gt (s : State) (k : Nat) (v : IchS) : (s.setIch k v).gt = s.gt := rfl
@[simp] theorem State.setIch_boot (s : State) (k : Nat) (v : IchS) : (s.setIch k v).boot = s.boot := rfl
@[simp] theorem State.setIch_graft (s : State) (k : Nat) (v : IchS) : (s.setIch k v).graft = s.graft := rfl
@[simp] theorem State.setIch_ku (s : State) (k : Nat) (v : IchS) : (s.setIch k v).ku = s.ku := rfl
@[simp] theorem State.setIch_dbg (s : State) (k : Nat) (v : IchS) : (s.setIch k v).dbg = s.dbg := rfl
@[simp] theorem State.setIch_smb (s : State) (k : Nat) (v : IchS) : (s.setIch k v).smb = s.smb := rfl
@[simp] theorem State.setIch_spi (s : State) (k : Nat) (v : IchS) : (s.setIch k v).spi = s.spi := rfl
@[simp] theorem State.setIch_pending (s : State) (k : Nat) (v : IchS) : (s.setIch k v).pending = s.pending := rfl
@[simp] theorem State.setIch_out (s : State) (k : Nat) (v : IchS) : (s.setIch k v).out = s.out := rfl
@[simp] theorem State.setIch_free (s : State) (k : Nat) (v : IchS) : (s.setIch k v).free = s.free := rfl
@[simp] theorem State.setWc_wcOf (s : State) (k : Nat) (v : WcS) : (s.setWc k v).wcOf k = v := Store.get_set_same _ _ _ _
theorem State.setWc_wcOf_ne (s : State) {j k : Nat} (v : WcS) (h : k ≠ j) : (s.setWc j v).wcOf k = s.wcOf k := Store.get_set_ne _ _ _ h
@[simp] theorem State.setWc_now (s : State) (k : Nat) (v : WcS) : (s.setWc k v).now = s.now := rfl
@[simp] theorem State.setWc_regs (s : State) (k : Nat) (v : WcS) : (s.setWc k v).regs = s.regs := rfl
@[simp] theorem State.setWc_written (s : State) (k : Nat) (v : WcS) : (s.setWc k v).written = s.written := rfl
@[simp] theorem State.setWc_hw (s : State) (k : Nat) (v : WcS) : (s.setWc k v).hw = s.hw := rfl
@[simp] theorem State.setWc_ich (s : State) (k : Nat) (v : WcS) : (s.setWc k v).ich = s.ich := rfl
@[simp] theorem State.setWc_calDue (s : State) (k : Nat) (v : WcS) : (s.setWc k v).calDue = s.calDue := rfl
@[simp] theorem State.setWc_berth (s : State) (k : Nat) (v : WcS) : (s.setWc k v).berth = s.berth := rfl
@[simp] theorem State.setWc_armed (s : State) (k : Nat) (v : WcS) : (s.setWc k v).armed = s.armed := rfl
@[simp] theorem State.setWc_admq (s : State) (k : Nat) (v : WcS) : (s.setWc k v).admq = s.admq := rfl
@[simp] theorem State.setWc_crane (s : State) (k : Nat) (v : WcS) : (s.setWc k v).crane = s.crane := rfl
@[simp] theorem State.setWc_rounds (s : State) (k : Nat) (v : WcS) : (s.setWc k v).rounds = s.rounds := rfl
@[simp] theorem State.setWc_bstore (s : State) (k : Nat) (v : WcS) : (s.setWc k v).bstore = s.bstore := rfl
@[simp] theorem State.setWc_bstoreAt (s : State) (k : Nat) (v : WcS) : (s.setWc k v).bstoreAt = s.bstoreAt := rfl
@[simp] theorem State.setWc_bram (s : State) (k : Nat) (v : WcS) : (s.setWc k v).bram = s.bram := rfl
@[simp] theorem State.setWc_engW (s : State) (k : Nat) (v : WcS) : (s.setWc k v).engW = s.engW := rfl
@[simp] theorem State.setWc_cu (s : State) (k : Nat) (v : WcS) : (s.setWc k v).cu = s.cu := rfl
@[simp] theorem State.setWc_sram (s : State) (k : Nat) (v : WcS) : (s.setWc k v).sram = s.sram := rfl
@[simp] theorem State.setWc_logAt (s : State) (k : Nat) (v : WcS) : (s.setWc k v).logAt = s.logAt := rfl
@[simp] theorem State.setWc_tz (s : State) (k : Nat) (v : WcS) : (s.setWc k v).tz = s.tz := rfl
@[simp] theorem State.setWc_tripPin (s : State) (k : Nat) (v : WcS) : (s.setWc k v).tripPin = s.tripPin := rfl
@[simp] theorem State.setWc_tb (s : State) (k : Nat) (v : WcS) : (s.setWc k v).tb = s.tb := rfl
@[simp] theorem State.setWc_tbLatch (s : State) (k : Nat) (v : WcS) : (s.setWc k v).tbLatch = s.tbLatch := rfl
@[simp] theorem State.setWc_srcAt (s : State) (k : Nat) (v : WcS) : (s.setWc k v).srcAt = s.srcAt := rfl
@[simp] theorem State.setWc_ev (s : State) (k : Nat) (v : WcS) : (s.setWc k v).ev = s.ev := rfl
@[simp] theorem State.setWc_lc (s : State) (k : Nat) (v : WcS) : (s.setWc k v).lc = s.lc := rfl
@[simp] theorem State.setWc_divAt (s : State) (k : Nat) (v : WcS) : (s.setWc k v).divAt = s.divAt := rfl
@[simp] theorem State.setWc_sc (s : State) (k : Nat) (v : WcS) : (s.setWc k v).sc = s.sc := rfl
@[simp] theorem State.setWc_mt (s : State) (k : Nat) (v : WcS) : (s.setWc k v).mt = s.mt := rfl
@[simp] theorem State.setWc_mf (s : State) (k : Nat) (v : WcS) : (s.setWc k v).mf = s.mf := rfl
@[simp] theorem State.setWc_mfu (s : State) (k : Nat) (v : WcS) : (s.setWc k v).mfu = s.mfu := rfl
@[simp] theorem State.setWc_journal (s : State) (k : Nat) (v : WcS) : (s.setWc k v).journal = s.journal := rfl
@[simp] theorem State.setWc_fl (s : State) (k : Nat) (v : WcS) : (s.setWc k v).fl = s.fl := rfl
@[simp] theorem State.setWc_flash (s : State) (k : Nat) (v : WcS) : (s.setWc k v).flash = s.flash := rfl
@[simp] theorem State.setWc_flBlk (s : State) (k : Nat) (v : WcS) : (s.setWc k v).flBlk = s.flBlk := rfl
@[simp] theorem State.setWc_flWear (s : State) (k : Nat) (v : WcS) : (s.setWc k v).flWear = s.flWear := rfl
@[simp] theorem State.setWc_otp (s : State) (k : Nat) (v : WcS) : (s.setWc k v).otp = s.otp := rfl
@[simp] theorem State.setWc_gpioPad (s : State) (k : Nat) (v : WcS) : (s.setWc k v).gpioPad = s.gpioPad := rfl
@[simp] theorem State.setWc_lkWake (s : State) (k : Nat) (v : WcS) : (s.setWc k v).lkWake = s.lkWake := rfl
@[simp] theorem State.setWc_lkDrive (s : State) (k : Nat) (v : WcS) : (s.setWc k v).lkDrive = s.lkDrive := rfl
@[simp] theorem State.setWc_rung (s : State) (k : Nat) (v : WcS) : (s.setWc k v).rung = s.rung := rfl
@[simp] theorem State.setWc_wake (s : State) (k : Nat) (v : WcS) : (s.setWc k v).wake = s.wake := rfl
@[simp] theorem State.setWc_core (s : State) (k : Nat) (v : WcS) : (s.setWc k v).core = s.core := rfl
@[simp] theorem State.setWc_bank (s : State) (k : Nat) (v : WcS) : (s.setWc k v).bank = s.bank := rfl
@[simp] theorem State.setWc_lock (s : State) (k : Nat) (v : WcS) : (s.setWc k v).lock = s.lock := rfl
@[simp] theorem State.setWc_tide (s : State) (k : Nat) (v : WcS) : (s.setWc k v).tide = s.tide := rfl
@[simp] theorem State.setWc_snap (s : State) (k : Nat) (v : WcS) : (s.setWc k v).snap = s.snap := rfl
@[simp] theorem State.setWc_vsrc (s : State) (k : Nat) (v : WcS) : (s.setWc k v).vsrc = s.vsrc := rfl
@[simp] theorem State.setWc_doze (s : State) (k : Nat) (v : WcS) : (s.setWc k v).doze = s.doze := rfl
@[simp] theorem State.setWc_devRst (s : State) (k : Nat) (v : WcS) : (s.setWc k v).devRst = s.devRst := rfl
@[simp] theorem State.setWc_scrub (s : State) (k : Nat) (v : WcS) : (s.setWc k v).scrub = s.scrub := rfl
@[simp] theorem State.setWc_pps (s : State) (k : Nat) (v : WcS) : (s.setWc k v).pps = s.pps := rfl
@[simp] theorem State.setWc_pwr (s : State) (k : Nat) (v : WcS) : (s.setWc k v).pwr = s.pwr := rfl
@[simp] theorem State.setWc_link (s : State) (k : Nat) (v : WcS) : (s.setWc k v).link = s.link := rfl
@[simp] theorem State.setWc_txs (s : State) (k : Nat) (v : WcS) : (s.setWc k v).txs = s.txs := rfl
@[simp] theorem State.setWc_win (s : State) (k : Nat) (v : WcS) : (s.setWc k v).win = s.win := rfl
@[simp] theorem State.setWc_lku (s : State) (k : Nat) (v : WcS) : (s.setWc k v).lku = s.lku := rfl
@[simp] theorem State.setWc_gt (s : State) (k : Nat) (v : WcS) : (s.setWc k v).gt = s.gt := rfl
@[simp] theorem State.setWc_boot (s : State) (k : Nat) (v : WcS) : (s.setWc k v).boot = s.boot := rfl
@[simp] theorem State.setWc_graft (s : State) (k : Nat) (v : WcS) : (s.setWc k v).graft = s.graft := rfl
@[simp] theorem State.setWc_ku (s : State) (k : Nat) (v : WcS) : (s.setWc k v).ku = s.ku := rfl
@[simp] theorem State.setWc_dbg (s : State) (k : Nat) (v : WcS) : (s.setWc k v).dbg = s.dbg := rfl
@[simp] theorem State.setWc_smb (s : State) (k : Nat) (v : WcS) : (s.setWc k v).smb = s.smb := rfl
@[simp] theorem State.setWc_spi (s : State) (k : Nat) (v : WcS) : (s.setWc k v).spi = s.spi := rfl
@[simp] theorem State.setWc_pending (s : State) (k : Nat) (v : WcS) : (s.setWc k v).pending = s.pending := rfl
@[simp] theorem State.setWc_out (s : State) (k : Nat) (v : WcS) : (s.setWc k v).out = s.out := rfl
@[simp] theorem State.setWc_free (s : State) (k : Nat) (v : WcS) : (s.setWc k v).free = s.free := rfl
@[simp] theorem State.setBerth_berthOf (s : State) (k : Nat) (v : BerthS) : (s.setBerth k v).berthOf k = v := Store.get_set_same _ _ _ _
theorem State.setBerth_berthOf_ne (s : State) {j k : Nat} (v : BerthS) (h : k ≠ j) : (s.setBerth j v).berthOf k = s.berthOf k := Store.get_set_ne _ _ _ h
@[simp] theorem State.setBerth_now (s : State) (k : Nat) (v : BerthS) : (s.setBerth k v).now = s.now := rfl
@[simp] theorem State.setBerth_regs (s : State) (k : Nat) (v : BerthS) : (s.setBerth k v).regs = s.regs := rfl
@[simp] theorem State.setBerth_written (s : State) (k : Nat) (v : BerthS) : (s.setBerth k v).written = s.written := rfl
@[simp] theorem State.setBerth_hw (s : State) (k : Nat) (v : BerthS) : (s.setBerth k v).hw = s.hw := rfl
@[simp] theorem State.setBerth_ich (s : State) (k : Nat) (v : BerthS) : (s.setBerth k v).ich = s.ich := rfl
@[simp] theorem State.setBerth_wc (s : State) (k : Nat) (v : BerthS) : (s.setBerth k v).wc = s.wc := rfl
@[simp] theorem State.setBerth_calDue (s : State) (k : Nat) (v : BerthS) : (s.setBerth k v).calDue = s.calDue := rfl
@[simp] theorem State.setBerth_armed (s : State) (k : Nat) (v : BerthS) : (s.setBerth k v).armed = s.armed := rfl
@[simp] theorem State.setBerth_admq (s : State) (k : Nat) (v : BerthS) : (s.setBerth k v).admq = s.admq := rfl
@[simp] theorem State.setBerth_crane (s : State) (k : Nat) (v : BerthS) : (s.setBerth k v).crane = s.crane := rfl
@[simp] theorem State.setBerth_rounds (s : State) (k : Nat) (v : BerthS) : (s.setBerth k v).rounds = s.rounds := rfl
@[simp] theorem State.setBerth_bstore (s : State) (k : Nat) (v : BerthS) : (s.setBerth k v).bstore = s.bstore := rfl
@[simp] theorem State.setBerth_bstoreAt (s : State) (k : Nat) (v : BerthS) : (s.setBerth k v).bstoreAt = s.bstoreAt := rfl
@[simp] theorem State.setBerth_bram (s : State) (k : Nat) (v : BerthS) : (s.setBerth k v).bram = s.bram := rfl
@[simp] theorem State.setBerth_engW (s : State) (k : Nat) (v : BerthS) : (s.setBerth k v).engW = s.engW := rfl
@[simp] theorem State.setBerth_cu (s : State) (k : Nat) (v : BerthS) : (s.setBerth k v).cu = s.cu := rfl
@[simp] theorem State.setBerth_sram (s : State) (k : Nat) (v : BerthS) : (s.setBerth k v).sram = s.sram := rfl
@[simp] theorem State.setBerth_logAt (s : State) (k : Nat) (v : BerthS) : (s.setBerth k v).logAt = s.logAt := rfl
@[simp] theorem State.setBerth_tz (s : State) (k : Nat) (v : BerthS) : (s.setBerth k v).tz = s.tz := rfl
@[simp] theorem State.setBerth_tripPin (s : State) (k : Nat) (v : BerthS) : (s.setBerth k v).tripPin = s.tripPin := rfl
@[simp] theorem State.setBerth_tb (s : State) (k : Nat) (v : BerthS) : (s.setBerth k v).tb = s.tb := rfl
@[simp] theorem State.setBerth_tbLatch (s : State) (k : Nat) (v : BerthS) : (s.setBerth k v).tbLatch = s.tbLatch := rfl
@[simp] theorem State.setBerth_srcAt (s : State) (k : Nat) (v : BerthS) : (s.setBerth k v).srcAt = s.srcAt := rfl
@[simp] theorem State.setBerth_ev (s : State) (k : Nat) (v : BerthS) : (s.setBerth k v).ev = s.ev := rfl
@[simp] theorem State.setBerth_lc (s : State) (k : Nat) (v : BerthS) : (s.setBerth k v).lc = s.lc := rfl
@[simp] theorem State.setBerth_divAt (s : State) (k : Nat) (v : BerthS) : (s.setBerth k v).divAt = s.divAt := rfl
@[simp] theorem State.setBerth_sc (s : State) (k : Nat) (v : BerthS) : (s.setBerth k v).sc = s.sc := rfl
@[simp] theorem State.setBerth_mt (s : State) (k : Nat) (v : BerthS) : (s.setBerth k v).mt = s.mt := rfl
@[simp] theorem State.setBerth_mf (s : State) (k : Nat) (v : BerthS) : (s.setBerth k v).mf = s.mf := rfl
@[simp] theorem State.setBerth_mfu (s : State) (k : Nat) (v : BerthS) : (s.setBerth k v).mfu = s.mfu := rfl
@[simp] theorem State.setBerth_journal (s : State) (k : Nat) (v : BerthS) : (s.setBerth k v).journal = s.journal := rfl
@[simp] theorem State.setBerth_fl (s : State) (k : Nat) (v : BerthS) : (s.setBerth k v).fl = s.fl := rfl
@[simp] theorem State.setBerth_flash (s : State) (k : Nat) (v : BerthS) : (s.setBerth k v).flash = s.flash := rfl
@[simp] theorem State.setBerth_flBlk (s : State) (k : Nat) (v : BerthS) : (s.setBerth k v).flBlk = s.flBlk := rfl
@[simp] theorem State.setBerth_flWear (s : State) (k : Nat) (v : BerthS) : (s.setBerth k v).flWear = s.flWear := rfl
@[simp] theorem State.setBerth_otp (s : State) (k : Nat) (v : BerthS) : (s.setBerth k v).otp = s.otp := rfl
@[simp] theorem State.setBerth_gpioPad (s : State) (k : Nat) (v : BerthS) : (s.setBerth k v).gpioPad = s.gpioPad := rfl
@[simp] theorem State.setBerth_lkWake (s : State) (k : Nat) (v : BerthS) : (s.setBerth k v).lkWake = s.lkWake := rfl
@[simp] theorem State.setBerth_lkDrive (s : State) (k : Nat) (v : BerthS) : (s.setBerth k v).lkDrive = s.lkDrive := rfl
@[simp] theorem State.setBerth_rung (s : State) (k : Nat) (v : BerthS) : (s.setBerth k v).rung = s.rung := rfl
@[simp] theorem State.setBerth_wake (s : State) (k : Nat) (v : BerthS) : (s.setBerth k v).wake = s.wake := rfl
@[simp] theorem State.setBerth_core (s : State) (k : Nat) (v : BerthS) : (s.setBerth k v).core = s.core := rfl
@[simp] theorem State.setBerth_bank (s : State) (k : Nat) (v : BerthS) : (s.setBerth k v).bank = s.bank := rfl
@[simp] theorem State.setBerth_lock (s : State) (k : Nat) (v : BerthS) : (s.setBerth k v).lock = s.lock := rfl
@[simp] theorem State.setBerth_tide (s : State) (k : Nat) (v : BerthS) : (s.setBerth k v).tide = s.tide := rfl
@[simp] theorem State.setBerth_snap (s : State) (k : Nat) (v : BerthS) : (s.setBerth k v).snap = s.snap := rfl
@[simp] theorem State.setBerth_vsrc (s : State) (k : Nat) (v : BerthS) : (s.setBerth k v).vsrc = s.vsrc := rfl
@[simp] theorem State.setBerth_doze (s : State) (k : Nat) (v : BerthS) : (s.setBerth k v).doze = s.doze := rfl
@[simp] theorem State.setBerth_devRst (s : State) (k : Nat) (v : BerthS) : (s.setBerth k v).devRst = s.devRst := rfl
@[simp] theorem State.setBerth_scrub (s : State) (k : Nat) (v : BerthS) : (s.setBerth k v).scrub = s.scrub := rfl
@[simp] theorem State.setBerth_pps (s : State) (k : Nat) (v : BerthS) : (s.setBerth k v).pps = s.pps := rfl
@[simp] theorem State.setBerth_pwr (s : State) (k : Nat) (v : BerthS) : (s.setBerth k v).pwr = s.pwr := rfl
@[simp] theorem State.setBerth_link (s : State) (k : Nat) (v : BerthS) : (s.setBerth k v).link = s.link := rfl
@[simp] theorem State.setBerth_txs (s : State) (k : Nat) (v : BerthS) : (s.setBerth k v).txs = s.txs := rfl
@[simp] theorem State.setBerth_win (s : State) (k : Nat) (v : BerthS) : (s.setBerth k v).win = s.win := rfl
@[simp] theorem State.setBerth_lku (s : State) (k : Nat) (v : BerthS) : (s.setBerth k v).lku = s.lku := rfl
@[simp] theorem State.setBerth_gt (s : State) (k : Nat) (v : BerthS) : (s.setBerth k v).gt = s.gt := rfl
@[simp] theorem State.setBerth_boot (s : State) (k : Nat) (v : BerthS) : (s.setBerth k v).boot = s.boot := rfl
@[simp] theorem State.setBerth_graft (s : State) (k : Nat) (v : BerthS) : (s.setBerth k v).graft = s.graft := rfl
@[simp] theorem State.setBerth_ku (s : State) (k : Nat) (v : BerthS) : (s.setBerth k v).ku = s.ku := rfl
@[simp] theorem State.setBerth_dbg (s : State) (k : Nat) (v : BerthS) : (s.setBerth k v).dbg = s.dbg := rfl
@[simp] theorem State.setBerth_smb (s : State) (k : Nat) (v : BerthS) : (s.setBerth k v).smb = s.smb := rfl
@[simp] theorem State.setBerth_spi (s : State) (k : Nat) (v : BerthS) : (s.setBerth k v).spi = s.spi := rfl
@[simp] theorem State.setBerth_pending (s : State) (k : Nat) (v : BerthS) : (s.setBerth k v).pending = s.pending := rfl
@[simp] theorem State.setBerth_out (s : State) (k : Nat) (v : BerthS) : (s.setBerth k v).out = s.out := rfl
@[simp] theorem State.setBerth_free (s : State) (k : Nat) (v : BerthS) : (s.setBerth k v).free = s.free := rfl
@[simp] theorem State.setCrane_craneOf (s : State) (k : Nat) (v : CraneS) : (s.setCrane k v).craneOf k = v := Store.get_set_same _ _ _ _
theorem State.setCrane_craneOf_ne (s : State) {j k : Nat} (v : CraneS) (h : k ≠ j) : (s.setCrane j v).craneOf k = s.craneOf k := Store.get_set_ne _ _ _ h
@[simp] theorem State.setCrane_now (s : State) (k : Nat) (v : CraneS) : (s.setCrane k v).now = s.now := rfl
@[simp] theorem State.setCrane_regs (s : State) (k : Nat) (v : CraneS) : (s.setCrane k v).regs = s.regs := rfl
@[simp] theorem State.setCrane_written (s : State) (k : Nat) (v : CraneS) : (s.setCrane k v).written = s.written := rfl
@[simp] theorem State.setCrane_hw (s : State) (k : Nat) (v : CraneS) : (s.setCrane k v).hw = s.hw := rfl
@[simp] theorem State.setCrane_ich (s : State) (k : Nat) (v : CraneS) : (s.setCrane k v).ich = s.ich := rfl
@[simp] theorem State.setCrane_wc (s : State) (k : Nat) (v : CraneS) : (s.setCrane k v).wc = s.wc := rfl
@[simp] theorem State.setCrane_calDue (s : State) (k : Nat) (v : CraneS) : (s.setCrane k v).calDue = s.calDue := rfl
@[simp] theorem State.setCrane_berth (s : State) (k : Nat) (v : CraneS) : (s.setCrane k v).berth = s.berth := rfl
@[simp] theorem State.setCrane_armed (s : State) (k : Nat) (v : CraneS) : (s.setCrane k v).armed = s.armed := rfl
@[simp] theorem State.setCrane_admq (s : State) (k : Nat) (v : CraneS) : (s.setCrane k v).admq = s.admq := rfl
@[simp] theorem State.setCrane_rounds (s : State) (k : Nat) (v : CraneS) : (s.setCrane k v).rounds = s.rounds := rfl
@[simp] theorem State.setCrane_bstore (s : State) (k : Nat) (v : CraneS) : (s.setCrane k v).bstore = s.bstore := rfl
@[simp] theorem State.setCrane_bstoreAt (s : State) (k : Nat) (v : CraneS) : (s.setCrane k v).bstoreAt = s.bstoreAt := rfl
@[simp] theorem State.setCrane_bram (s : State) (k : Nat) (v : CraneS) : (s.setCrane k v).bram = s.bram := rfl
@[simp] theorem State.setCrane_engW (s : State) (k : Nat) (v : CraneS) : (s.setCrane k v).engW = s.engW := rfl
@[simp] theorem State.setCrane_cu (s : State) (k : Nat) (v : CraneS) : (s.setCrane k v).cu = s.cu := rfl
@[simp] theorem State.setCrane_sram (s : State) (k : Nat) (v : CraneS) : (s.setCrane k v).sram = s.sram := rfl
@[simp] theorem State.setCrane_logAt (s : State) (k : Nat) (v : CraneS) : (s.setCrane k v).logAt = s.logAt := rfl
@[simp] theorem State.setCrane_tz (s : State) (k : Nat) (v : CraneS) : (s.setCrane k v).tz = s.tz := rfl
@[simp] theorem State.setCrane_tripPin (s : State) (k : Nat) (v : CraneS) : (s.setCrane k v).tripPin = s.tripPin := rfl
@[simp] theorem State.setCrane_tb (s : State) (k : Nat) (v : CraneS) : (s.setCrane k v).tb = s.tb := rfl
@[simp] theorem State.setCrane_tbLatch (s : State) (k : Nat) (v : CraneS) : (s.setCrane k v).tbLatch = s.tbLatch := rfl
@[simp] theorem State.setCrane_srcAt (s : State) (k : Nat) (v : CraneS) : (s.setCrane k v).srcAt = s.srcAt := rfl
@[simp] theorem State.setCrane_ev (s : State) (k : Nat) (v : CraneS) : (s.setCrane k v).ev = s.ev := rfl
@[simp] theorem State.setCrane_lc (s : State) (k : Nat) (v : CraneS) : (s.setCrane k v).lc = s.lc := rfl
@[simp] theorem State.setCrane_divAt (s : State) (k : Nat) (v : CraneS) : (s.setCrane k v).divAt = s.divAt := rfl
@[simp] theorem State.setCrane_sc (s : State) (k : Nat) (v : CraneS) : (s.setCrane k v).sc = s.sc := rfl
@[simp] theorem State.setCrane_mt (s : State) (k : Nat) (v : CraneS) : (s.setCrane k v).mt = s.mt := rfl
@[simp] theorem State.setCrane_mf (s : State) (k : Nat) (v : CraneS) : (s.setCrane k v).mf = s.mf := rfl
@[simp] theorem State.setCrane_mfu (s : State) (k : Nat) (v : CraneS) : (s.setCrane k v).mfu = s.mfu := rfl
@[simp] theorem State.setCrane_journal (s : State) (k : Nat) (v : CraneS) : (s.setCrane k v).journal = s.journal := rfl
@[simp] theorem State.setCrane_fl (s : State) (k : Nat) (v : CraneS) : (s.setCrane k v).fl = s.fl := rfl
@[simp] theorem State.setCrane_flash (s : State) (k : Nat) (v : CraneS) : (s.setCrane k v).flash = s.flash := rfl
@[simp] theorem State.setCrane_flBlk (s : State) (k : Nat) (v : CraneS) : (s.setCrane k v).flBlk = s.flBlk := rfl
@[simp] theorem State.setCrane_flWear (s : State) (k : Nat) (v : CraneS) : (s.setCrane k v).flWear = s.flWear := rfl
@[simp] theorem State.setCrane_otp (s : State) (k : Nat) (v : CraneS) : (s.setCrane k v).otp = s.otp := rfl
@[simp] theorem State.setCrane_gpioPad (s : State) (k : Nat) (v : CraneS) : (s.setCrane k v).gpioPad = s.gpioPad := rfl
@[simp] theorem State.setCrane_lkWake (s : State) (k : Nat) (v : CraneS) : (s.setCrane k v).lkWake = s.lkWake := rfl
@[simp] theorem State.setCrane_lkDrive (s : State) (k : Nat) (v : CraneS) : (s.setCrane k v).lkDrive = s.lkDrive := rfl
@[simp] theorem State.setCrane_rung (s : State) (k : Nat) (v : CraneS) : (s.setCrane k v).rung = s.rung := rfl
@[simp] theorem State.setCrane_wake (s : State) (k : Nat) (v : CraneS) : (s.setCrane k v).wake = s.wake := rfl
@[simp] theorem State.setCrane_core (s : State) (k : Nat) (v : CraneS) : (s.setCrane k v).core = s.core := rfl
@[simp] theorem State.setCrane_bank (s : State) (k : Nat) (v : CraneS) : (s.setCrane k v).bank = s.bank := rfl
@[simp] theorem State.setCrane_lock (s : State) (k : Nat) (v : CraneS) : (s.setCrane k v).lock = s.lock := rfl
@[simp] theorem State.setCrane_tide (s : State) (k : Nat) (v : CraneS) : (s.setCrane k v).tide = s.tide := rfl
@[simp] theorem State.setCrane_snap (s : State) (k : Nat) (v : CraneS) : (s.setCrane k v).snap = s.snap := rfl
@[simp] theorem State.setCrane_vsrc (s : State) (k : Nat) (v : CraneS) : (s.setCrane k v).vsrc = s.vsrc := rfl
@[simp] theorem State.setCrane_doze (s : State) (k : Nat) (v : CraneS) : (s.setCrane k v).doze = s.doze := rfl
@[simp] theorem State.setCrane_devRst (s : State) (k : Nat) (v : CraneS) : (s.setCrane k v).devRst = s.devRst := rfl
@[simp] theorem State.setCrane_scrub (s : State) (k : Nat) (v : CraneS) : (s.setCrane k v).scrub = s.scrub := rfl
@[simp] theorem State.setCrane_pps (s : State) (k : Nat) (v : CraneS) : (s.setCrane k v).pps = s.pps := rfl
@[simp] theorem State.setCrane_pwr (s : State) (k : Nat) (v : CraneS) : (s.setCrane k v).pwr = s.pwr := rfl
@[simp] theorem State.setCrane_link (s : State) (k : Nat) (v : CraneS) : (s.setCrane k v).link = s.link := rfl
@[simp] theorem State.setCrane_txs (s : State) (k : Nat) (v : CraneS) : (s.setCrane k v).txs = s.txs := rfl
@[simp] theorem State.setCrane_win (s : State) (k : Nat) (v : CraneS) : (s.setCrane k v).win = s.win := rfl
@[simp] theorem State.setCrane_lku (s : State) (k : Nat) (v : CraneS) : (s.setCrane k v).lku = s.lku := rfl
@[simp] theorem State.setCrane_gt (s : State) (k : Nat) (v : CraneS) : (s.setCrane k v).gt = s.gt := rfl
@[simp] theorem State.setCrane_boot (s : State) (k : Nat) (v : CraneS) : (s.setCrane k v).boot = s.boot := rfl
@[simp] theorem State.setCrane_graft (s : State) (k : Nat) (v : CraneS) : (s.setCrane k v).graft = s.graft := rfl
@[simp] theorem State.setCrane_ku (s : State) (k : Nat) (v : CraneS) : (s.setCrane k v).ku = s.ku := rfl
@[simp] theorem State.setCrane_dbg (s : State) (k : Nat) (v : CraneS) : (s.setCrane k v).dbg = s.dbg := rfl
@[simp] theorem State.setCrane_smb (s : State) (k : Nat) (v : CraneS) : (s.setCrane k v).smb = s.smb := rfl
@[simp] theorem State.setCrane_spi (s : State) (k : Nat) (v : CraneS) : (s.setCrane k v).spi = s.spi := rfl
@[simp] theorem State.setCrane_pending (s : State) (k : Nat) (v : CraneS) : (s.setCrane k v).pending = s.pending := rfl
@[simp] theorem State.setCrane_out (s : State) (k : Nat) (v : CraneS) : (s.setCrane k v).out = s.out := rfl
@[simp] theorem State.setCrane_free (s : State) (k : Nat) (v : CraneS) : (s.setCrane k v).free = s.free := rfl
@[simp] theorem State.setRounds_roundsOf (s : State) (k : Nat) (v : (List Offer)) : (s.setRounds k v).roundsOf k = v := Store.get_set_same _ _ _ _
theorem State.setRounds_roundsOf_ne (s : State) {j k : Nat} (v : (List Offer)) (h : k ≠ j) : (s.setRounds j v).roundsOf k = s.roundsOf k := Store.get_set_ne _ _ _ h
@[simp] theorem State.setRounds_now (s : State) (k : Nat) (v : (List Offer)) : (s.setRounds k v).now = s.now := rfl
@[simp] theorem State.setRounds_regs (s : State) (k : Nat) (v : (List Offer)) : (s.setRounds k v).regs = s.regs := rfl
@[simp] theorem State.setRounds_written (s : State) (k : Nat) (v : (List Offer)) : (s.setRounds k v).written = s.written := rfl
@[simp] theorem State.setRounds_hw (s : State) (k : Nat) (v : (List Offer)) : (s.setRounds k v).hw = s.hw := rfl
@[simp] theorem State.setRounds_ich (s : State) (k : Nat) (v : (List Offer)) : (s.setRounds k v).ich = s.ich := rfl
@[simp] theorem State.setRounds_wc (s : State) (k : Nat) (v : (List Offer)) : (s.setRounds k v).wc = s.wc := rfl
@[simp] theorem State.setRounds_calDue (s : State) (k : Nat) (v : (List Offer)) : (s.setRounds k v).calDue = s.calDue := rfl
@[simp] theorem State.setRounds_berth (s : State) (k : Nat) (v : (List Offer)) : (s.setRounds k v).berth = s.berth := rfl
@[simp] theorem State.setRounds_armed (s : State) (k : Nat) (v : (List Offer)) : (s.setRounds k v).armed = s.armed := rfl
@[simp] theorem State.setRounds_admq (s : State) (k : Nat) (v : (List Offer)) : (s.setRounds k v).admq = s.admq := rfl
@[simp] theorem State.setRounds_crane (s : State) (k : Nat) (v : (List Offer)) : (s.setRounds k v).crane = s.crane := rfl
@[simp] theorem State.setRounds_bstore (s : State) (k : Nat) (v : (List Offer)) : (s.setRounds k v).bstore = s.bstore := rfl
@[simp] theorem State.setRounds_bstoreAt (s : State) (k : Nat) (v : (List Offer)) : (s.setRounds k v).bstoreAt = s.bstoreAt := rfl
@[simp] theorem State.setRounds_bram (s : State) (k : Nat) (v : (List Offer)) : (s.setRounds k v).bram = s.bram := rfl
@[simp] theorem State.setRounds_engW (s : State) (k : Nat) (v : (List Offer)) : (s.setRounds k v).engW = s.engW := rfl
@[simp] theorem State.setRounds_cu (s : State) (k : Nat) (v : (List Offer)) : (s.setRounds k v).cu = s.cu := rfl
@[simp] theorem State.setRounds_sram (s : State) (k : Nat) (v : (List Offer)) : (s.setRounds k v).sram = s.sram := rfl
@[simp] theorem State.setRounds_logAt (s : State) (k : Nat) (v : (List Offer)) : (s.setRounds k v).logAt = s.logAt := rfl
@[simp] theorem State.setRounds_tz (s : State) (k : Nat) (v : (List Offer)) : (s.setRounds k v).tz = s.tz := rfl
@[simp] theorem State.setRounds_tripPin (s : State) (k : Nat) (v : (List Offer)) : (s.setRounds k v).tripPin = s.tripPin := rfl
@[simp] theorem State.setRounds_tb (s : State) (k : Nat) (v : (List Offer)) : (s.setRounds k v).tb = s.tb := rfl
@[simp] theorem State.setRounds_tbLatch (s : State) (k : Nat) (v : (List Offer)) : (s.setRounds k v).tbLatch = s.tbLatch := rfl
@[simp] theorem State.setRounds_srcAt (s : State) (k : Nat) (v : (List Offer)) : (s.setRounds k v).srcAt = s.srcAt := rfl
@[simp] theorem State.setRounds_ev (s : State) (k : Nat) (v : (List Offer)) : (s.setRounds k v).ev = s.ev := rfl
@[simp] theorem State.setRounds_lc (s : State) (k : Nat) (v : (List Offer)) : (s.setRounds k v).lc = s.lc := rfl
@[simp] theorem State.setRounds_divAt (s : State) (k : Nat) (v : (List Offer)) : (s.setRounds k v).divAt = s.divAt := rfl
@[simp] theorem State.setRounds_sc (s : State) (k : Nat) (v : (List Offer)) : (s.setRounds k v).sc = s.sc := rfl
@[simp] theorem State.setRounds_mt (s : State) (k : Nat) (v : (List Offer)) : (s.setRounds k v).mt = s.mt := rfl
@[simp] theorem State.setRounds_mf (s : State) (k : Nat) (v : (List Offer)) : (s.setRounds k v).mf = s.mf := rfl
@[simp] theorem State.setRounds_mfu (s : State) (k : Nat) (v : (List Offer)) : (s.setRounds k v).mfu = s.mfu := rfl
@[simp] theorem State.setRounds_journal (s : State) (k : Nat) (v : (List Offer)) : (s.setRounds k v).journal = s.journal := rfl
@[simp] theorem State.setRounds_fl (s : State) (k : Nat) (v : (List Offer)) : (s.setRounds k v).fl = s.fl := rfl
@[simp] theorem State.setRounds_flash (s : State) (k : Nat) (v : (List Offer)) : (s.setRounds k v).flash = s.flash := rfl
@[simp] theorem State.setRounds_flBlk (s : State) (k : Nat) (v : (List Offer)) : (s.setRounds k v).flBlk = s.flBlk := rfl
@[simp] theorem State.setRounds_flWear (s : State) (k : Nat) (v : (List Offer)) : (s.setRounds k v).flWear = s.flWear := rfl
@[simp] theorem State.setRounds_otp (s : State) (k : Nat) (v : (List Offer)) : (s.setRounds k v).otp = s.otp := rfl
@[simp] theorem State.setRounds_gpioPad (s : State) (k : Nat) (v : (List Offer)) : (s.setRounds k v).gpioPad = s.gpioPad := rfl
@[simp] theorem State.setRounds_lkWake (s : State) (k : Nat) (v : (List Offer)) : (s.setRounds k v).lkWake = s.lkWake := rfl
@[simp] theorem State.setRounds_lkDrive (s : State) (k : Nat) (v : (List Offer)) : (s.setRounds k v).lkDrive = s.lkDrive := rfl
@[simp] theorem State.setRounds_rung (s : State) (k : Nat) (v : (List Offer)) : (s.setRounds k v).rung = s.rung := rfl
@[simp] theorem State.setRounds_wake (s : State) (k : Nat) (v : (List Offer)) : (s.setRounds k v).wake = s.wake := rfl
@[simp] theorem State.setRounds_core (s : State) (k : Nat) (v : (List Offer)) : (s.setRounds k v).core = s.core := rfl
@[simp] theorem State.setRounds_bank (s : State) (k : Nat) (v : (List Offer)) : (s.setRounds k v).bank = s.bank := rfl
@[simp] theorem State.setRounds_lock (s : State) (k : Nat) (v : (List Offer)) : (s.setRounds k v).lock = s.lock := rfl
@[simp] theorem State.setRounds_tide (s : State) (k : Nat) (v : (List Offer)) : (s.setRounds k v).tide = s.tide := rfl
@[simp] theorem State.setRounds_snap (s : State) (k : Nat) (v : (List Offer)) : (s.setRounds k v).snap = s.snap := rfl
@[simp] theorem State.setRounds_vsrc (s : State) (k : Nat) (v : (List Offer)) : (s.setRounds k v).vsrc = s.vsrc := rfl
@[simp] theorem State.setRounds_doze (s : State) (k : Nat) (v : (List Offer)) : (s.setRounds k v).doze = s.doze := rfl
@[simp] theorem State.setRounds_devRst (s : State) (k : Nat) (v : (List Offer)) : (s.setRounds k v).devRst = s.devRst := rfl
@[simp] theorem State.setRounds_scrub (s : State) (k : Nat) (v : (List Offer)) : (s.setRounds k v).scrub = s.scrub := rfl
@[simp] theorem State.setRounds_pps (s : State) (k : Nat) (v : (List Offer)) : (s.setRounds k v).pps = s.pps := rfl
@[simp] theorem State.setRounds_pwr (s : State) (k : Nat) (v : (List Offer)) : (s.setRounds k v).pwr = s.pwr := rfl
@[simp] theorem State.setRounds_link (s : State) (k : Nat) (v : (List Offer)) : (s.setRounds k v).link = s.link := rfl
@[simp] theorem State.setRounds_txs (s : State) (k : Nat) (v : (List Offer)) : (s.setRounds k v).txs = s.txs := rfl
@[simp] theorem State.setRounds_win (s : State) (k : Nat) (v : (List Offer)) : (s.setRounds k v).win = s.win := rfl
@[simp] theorem State.setRounds_lku (s : State) (k : Nat) (v : (List Offer)) : (s.setRounds k v).lku = s.lku := rfl
@[simp] theorem State.setRounds_gt (s : State) (k : Nat) (v : (List Offer)) : (s.setRounds k v).gt = s.gt := rfl
@[simp] theorem State.setRounds_boot (s : State) (k : Nat) (v : (List Offer)) : (s.setRounds k v).boot = s.boot := rfl
@[simp] theorem State.setRounds_graft (s : State) (k : Nat) (v : (List Offer)) : (s.setRounds k v).graft = s.graft := rfl
@[simp] theorem State.setRounds_ku (s : State) (k : Nat) (v : (List Offer)) : (s.setRounds k v).ku = s.ku := rfl
@[simp] theorem State.setRounds_dbg (s : State) (k : Nat) (v : (List Offer)) : (s.setRounds k v).dbg = s.dbg := rfl
@[simp] theorem State.setRounds_smb (s : State) (k : Nat) (v : (List Offer)) : (s.setRounds k v).smb = s.smb := rfl
@[simp] theorem State.setRounds_spi (s : State) (k : Nat) (v : (List Offer)) : (s.setRounds k v).spi = s.spi := rfl
@[simp] theorem State.setRounds_pending (s : State) (k : Nat) (v : (List Offer)) : (s.setRounds k v).pending = s.pending := rfl
@[simp] theorem State.setRounds_out (s : State) (k : Nat) (v : (List Offer)) : (s.setRounds k v).out = s.out := rfl
@[simp] theorem State.setRounds_free (s : State) (k : Nat) (v : (List Offer)) : (s.setRounds k v).free = s.free := rfl
@[simp] theorem State.setBstore_bstoreOf (s : State) (k : Nat) (v : (BitVec 36)) : (s.setBstore k v).bstoreOf k = v := Store.get_set_same _ _ _ _
theorem State.setBstore_bstoreOf_ne (s : State) {j k : Nat} (v : (BitVec 36)) (h : k ≠ j) : (s.setBstore j v).bstoreOf k = s.bstoreOf k := Store.get_set_ne _ _ _ h
@[simp] theorem State.setBstore_now (s : State) (k : Nat) (v : (BitVec 36)) : (s.setBstore k v).now = s.now := rfl
@[simp] theorem State.setBstore_regs (s : State) (k : Nat) (v : (BitVec 36)) : (s.setBstore k v).regs = s.regs := rfl
@[simp] theorem State.setBstore_written (s : State) (k : Nat) (v : (BitVec 36)) : (s.setBstore k v).written = s.written := rfl
@[simp] theorem State.setBstore_hw (s : State) (k : Nat) (v : (BitVec 36)) : (s.setBstore k v).hw = s.hw := rfl
@[simp] theorem State.setBstore_ich (s : State) (k : Nat) (v : (BitVec 36)) : (s.setBstore k v).ich = s.ich := rfl
@[simp] theorem State.setBstore_wc (s : State) (k : Nat) (v : (BitVec 36)) : (s.setBstore k v).wc = s.wc := rfl
@[simp] theorem State.setBstore_calDue (s : State) (k : Nat) (v : (BitVec 36)) : (s.setBstore k v).calDue = s.calDue := rfl
@[simp] theorem State.setBstore_berth (s : State) (k : Nat) (v : (BitVec 36)) : (s.setBstore k v).berth = s.berth := rfl
@[simp] theorem State.setBstore_armed (s : State) (k : Nat) (v : (BitVec 36)) : (s.setBstore k v).armed = s.armed := rfl
@[simp] theorem State.setBstore_admq (s : State) (k : Nat) (v : (BitVec 36)) : (s.setBstore k v).admq = s.admq := rfl
@[simp] theorem State.setBstore_crane (s : State) (k : Nat) (v : (BitVec 36)) : (s.setBstore k v).crane = s.crane := rfl
@[simp] theorem State.setBstore_rounds (s : State) (k : Nat) (v : (BitVec 36)) : (s.setBstore k v).rounds = s.rounds := rfl
@[simp] theorem State.setBstore_bstoreAt (s : State) (k : Nat) (v : (BitVec 36)) : (s.setBstore k v).bstoreAt = s.bstoreAt := rfl
@[simp] theorem State.setBstore_bram (s : State) (k : Nat) (v : (BitVec 36)) : (s.setBstore k v).bram = s.bram := rfl
@[simp] theorem State.setBstore_engW (s : State) (k : Nat) (v : (BitVec 36)) : (s.setBstore k v).engW = s.engW := rfl
@[simp] theorem State.setBstore_cu (s : State) (k : Nat) (v : (BitVec 36)) : (s.setBstore k v).cu = s.cu := rfl
@[simp] theorem State.setBstore_sram (s : State) (k : Nat) (v : (BitVec 36)) : (s.setBstore k v).sram = s.sram := rfl
@[simp] theorem State.setBstore_logAt (s : State) (k : Nat) (v : (BitVec 36)) : (s.setBstore k v).logAt = s.logAt := rfl
@[simp] theorem State.setBstore_tz (s : State) (k : Nat) (v : (BitVec 36)) : (s.setBstore k v).tz = s.tz := rfl
@[simp] theorem State.setBstore_tripPin (s : State) (k : Nat) (v : (BitVec 36)) : (s.setBstore k v).tripPin = s.tripPin := rfl
@[simp] theorem State.setBstore_tb (s : State) (k : Nat) (v : (BitVec 36)) : (s.setBstore k v).tb = s.tb := rfl
@[simp] theorem State.setBstore_tbLatch (s : State) (k : Nat) (v : (BitVec 36)) : (s.setBstore k v).tbLatch = s.tbLatch := rfl
@[simp] theorem State.setBstore_srcAt (s : State) (k : Nat) (v : (BitVec 36)) : (s.setBstore k v).srcAt = s.srcAt := rfl
@[simp] theorem State.setBstore_ev (s : State) (k : Nat) (v : (BitVec 36)) : (s.setBstore k v).ev = s.ev := rfl
@[simp] theorem State.setBstore_lc (s : State) (k : Nat) (v : (BitVec 36)) : (s.setBstore k v).lc = s.lc := rfl
@[simp] theorem State.setBstore_divAt (s : State) (k : Nat) (v : (BitVec 36)) : (s.setBstore k v).divAt = s.divAt := rfl
@[simp] theorem State.setBstore_sc (s : State) (k : Nat) (v : (BitVec 36)) : (s.setBstore k v).sc = s.sc := rfl
@[simp] theorem State.setBstore_mt (s : State) (k : Nat) (v : (BitVec 36)) : (s.setBstore k v).mt = s.mt := rfl
@[simp] theorem State.setBstore_mf (s : State) (k : Nat) (v : (BitVec 36)) : (s.setBstore k v).mf = s.mf := rfl
@[simp] theorem State.setBstore_mfu (s : State) (k : Nat) (v : (BitVec 36)) : (s.setBstore k v).mfu = s.mfu := rfl
@[simp] theorem State.setBstore_journal (s : State) (k : Nat) (v : (BitVec 36)) : (s.setBstore k v).journal = s.journal := rfl
@[simp] theorem State.setBstore_fl (s : State) (k : Nat) (v : (BitVec 36)) : (s.setBstore k v).fl = s.fl := rfl
@[simp] theorem State.setBstore_flash (s : State) (k : Nat) (v : (BitVec 36)) : (s.setBstore k v).flash = s.flash := rfl
@[simp] theorem State.setBstore_flBlk (s : State) (k : Nat) (v : (BitVec 36)) : (s.setBstore k v).flBlk = s.flBlk := rfl
@[simp] theorem State.setBstore_flWear (s : State) (k : Nat) (v : (BitVec 36)) : (s.setBstore k v).flWear = s.flWear := rfl
@[simp] theorem State.setBstore_otp (s : State) (k : Nat) (v : (BitVec 36)) : (s.setBstore k v).otp = s.otp := rfl
@[simp] theorem State.setBstore_gpioPad (s : State) (k : Nat) (v : (BitVec 36)) : (s.setBstore k v).gpioPad = s.gpioPad := rfl
@[simp] theorem State.setBstore_lkWake (s : State) (k : Nat) (v : (BitVec 36)) : (s.setBstore k v).lkWake = s.lkWake := rfl
@[simp] theorem State.setBstore_lkDrive (s : State) (k : Nat) (v : (BitVec 36)) : (s.setBstore k v).lkDrive = s.lkDrive := rfl
@[simp] theorem State.setBstore_rung (s : State) (k : Nat) (v : (BitVec 36)) : (s.setBstore k v).rung = s.rung := rfl
@[simp] theorem State.setBstore_wake (s : State) (k : Nat) (v : (BitVec 36)) : (s.setBstore k v).wake = s.wake := rfl
@[simp] theorem State.setBstore_core (s : State) (k : Nat) (v : (BitVec 36)) : (s.setBstore k v).core = s.core := rfl
@[simp] theorem State.setBstore_bank (s : State) (k : Nat) (v : (BitVec 36)) : (s.setBstore k v).bank = s.bank := rfl
@[simp] theorem State.setBstore_lock (s : State) (k : Nat) (v : (BitVec 36)) : (s.setBstore k v).lock = s.lock := rfl
@[simp] theorem State.setBstore_tide (s : State) (k : Nat) (v : (BitVec 36)) : (s.setBstore k v).tide = s.tide := rfl
@[simp] theorem State.setBstore_snap (s : State) (k : Nat) (v : (BitVec 36)) : (s.setBstore k v).snap = s.snap := rfl
@[simp] theorem State.setBstore_vsrc (s : State) (k : Nat) (v : (BitVec 36)) : (s.setBstore k v).vsrc = s.vsrc := rfl
@[simp] theorem State.setBstore_doze (s : State) (k : Nat) (v : (BitVec 36)) : (s.setBstore k v).doze = s.doze := rfl
@[simp] theorem State.setBstore_devRst (s : State) (k : Nat) (v : (BitVec 36)) : (s.setBstore k v).devRst = s.devRst := rfl
@[simp] theorem State.setBstore_scrub (s : State) (k : Nat) (v : (BitVec 36)) : (s.setBstore k v).scrub = s.scrub := rfl
@[simp] theorem State.setBstore_pps (s : State) (k : Nat) (v : (BitVec 36)) : (s.setBstore k v).pps = s.pps := rfl
@[simp] theorem State.setBstore_pwr (s : State) (k : Nat) (v : (BitVec 36)) : (s.setBstore k v).pwr = s.pwr := rfl
@[simp] theorem State.setBstore_link (s : State) (k : Nat) (v : (BitVec 36)) : (s.setBstore k v).link = s.link := rfl
@[simp] theorem State.setBstore_txs (s : State) (k : Nat) (v : (BitVec 36)) : (s.setBstore k v).txs = s.txs := rfl
@[simp] theorem State.setBstore_win (s : State) (k : Nat) (v : (BitVec 36)) : (s.setBstore k v).win = s.win := rfl
@[simp] theorem State.setBstore_lku (s : State) (k : Nat) (v : (BitVec 36)) : (s.setBstore k v).lku = s.lku := rfl
@[simp] theorem State.setBstore_gt (s : State) (k : Nat) (v : (BitVec 36)) : (s.setBstore k v).gt = s.gt := rfl
@[simp] theorem State.setBstore_boot (s : State) (k : Nat) (v : (BitVec 36)) : (s.setBstore k v).boot = s.boot := rfl
@[simp] theorem State.setBstore_graft (s : State) (k : Nat) (v : (BitVec 36)) : (s.setBstore k v).graft = s.graft := rfl
@[simp] theorem State.setBstore_ku (s : State) (k : Nat) (v : (BitVec 36)) : (s.setBstore k v).ku = s.ku := rfl
@[simp] theorem State.setBstore_dbg (s : State) (k : Nat) (v : (BitVec 36)) : (s.setBstore k v).dbg = s.dbg := rfl
@[simp] theorem State.setBstore_smb (s : State) (k : Nat) (v : (BitVec 36)) : (s.setBstore k v).smb = s.smb := rfl
@[simp] theorem State.setBstore_spi (s : State) (k : Nat) (v : (BitVec 36)) : (s.setBstore k v).spi = s.spi := rfl
@[simp] theorem State.setBstore_pending (s : State) (k : Nat) (v : (BitVec 36)) : (s.setBstore k v).pending = s.pending := rfl
@[simp] theorem State.setBstore_out (s : State) (k : Nat) (v : (BitVec 36)) : (s.setBstore k v).out = s.out := rfl
@[simp] theorem State.setBstore_free (s : State) (k : Nat) (v : (BitVec 36)) : (s.setBstore k v).free = s.free := rfl
@[simp] theorem State.setBstoreAt_bstoreAtOf (s : State) (k : Nat) (v : Nat) : (s.setBstoreAt k v).bstoreAtOf k = v := Store.get_set_same _ _ _ _
theorem State.setBstoreAt_bstoreAtOf_ne (s : State) {j k : Nat} (v : Nat) (h : k ≠ j) : (s.setBstoreAt j v).bstoreAtOf k = s.bstoreAtOf k := Store.get_set_ne _ _ _ h
@[simp] theorem State.setBstoreAt_now (s : State) (k : Nat) (v : Nat) : (s.setBstoreAt k v).now = s.now := rfl
@[simp] theorem State.setBstoreAt_regs (s : State) (k : Nat) (v : Nat) : (s.setBstoreAt k v).regs = s.regs := rfl
@[simp] theorem State.setBstoreAt_written (s : State) (k : Nat) (v : Nat) : (s.setBstoreAt k v).written = s.written := rfl
@[simp] theorem State.setBstoreAt_hw (s : State) (k : Nat) (v : Nat) : (s.setBstoreAt k v).hw = s.hw := rfl
@[simp] theorem State.setBstoreAt_ich (s : State) (k : Nat) (v : Nat) : (s.setBstoreAt k v).ich = s.ich := rfl
@[simp] theorem State.setBstoreAt_wc (s : State) (k : Nat) (v : Nat) : (s.setBstoreAt k v).wc = s.wc := rfl
@[simp] theorem State.setBstoreAt_calDue (s : State) (k : Nat) (v : Nat) : (s.setBstoreAt k v).calDue = s.calDue := rfl
@[simp] theorem State.setBstoreAt_berth (s : State) (k : Nat) (v : Nat) : (s.setBstoreAt k v).berth = s.berth := rfl
@[simp] theorem State.setBstoreAt_armed (s : State) (k : Nat) (v : Nat) : (s.setBstoreAt k v).armed = s.armed := rfl
@[simp] theorem State.setBstoreAt_admq (s : State) (k : Nat) (v : Nat) : (s.setBstoreAt k v).admq = s.admq := rfl
@[simp] theorem State.setBstoreAt_crane (s : State) (k : Nat) (v : Nat) : (s.setBstoreAt k v).crane = s.crane := rfl
@[simp] theorem State.setBstoreAt_rounds (s : State) (k : Nat) (v : Nat) : (s.setBstoreAt k v).rounds = s.rounds := rfl
@[simp] theorem State.setBstoreAt_bstore (s : State) (k : Nat) (v : Nat) : (s.setBstoreAt k v).bstore = s.bstore := rfl
@[simp] theorem State.setBstoreAt_bram (s : State) (k : Nat) (v : Nat) : (s.setBstoreAt k v).bram = s.bram := rfl
@[simp] theorem State.setBstoreAt_engW (s : State) (k : Nat) (v : Nat) : (s.setBstoreAt k v).engW = s.engW := rfl
@[simp] theorem State.setBstoreAt_cu (s : State) (k : Nat) (v : Nat) : (s.setBstoreAt k v).cu = s.cu := rfl
@[simp] theorem State.setBstoreAt_sram (s : State) (k : Nat) (v : Nat) : (s.setBstoreAt k v).sram = s.sram := rfl
@[simp] theorem State.setBstoreAt_logAt (s : State) (k : Nat) (v : Nat) : (s.setBstoreAt k v).logAt = s.logAt := rfl
@[simp] theorem State.setBstoreAt_tz (s : State) (k : Nat) (v : Nat) : (s.setBstoreAt k v).tz = s.tz := rfl
@[simp] theorem State.setBstoreAt_tripPin (s : State) (k : Nat) (v : Nat) : (s.setBstoreAt k v).tripPin = s.tripPin := rfl
@[simp] theorem State.setBstoreAt_tb (s : State) (k : Nat) (v : Nat) : (s.setBstoreAt k v).tb = s.tb := rfl
@[simp] theorem State.setBstoreAt_tbLatch (s : State) (k : Nat) (v : Nat) : (s.setBstoreAt k v).tbLatch = s.tbLatch := rfl
@[simp] theorem State.setBstoreAt_srcAt (s : State) (k : Nat) (v : Nat) : (s.setBstoreAt k v).srcAt = s.srcAt := rfl
@[simp] theorem State.setBstoreAt_ev (s : State) (k : Nat) (v : Nat) : (s.setBstoreAt k v).ev = s.ev := rfl
@[simp] theorem State.setBstoreAt_lc (s : State) (k : Nat) (v : Nat) : (s.setBstoreAt k v).lc = s.lc := rfl
@[simp] theorem State.setBstoreAt_divAt (s : State) (k : Nat) (v : Nat) : (s.setBstoreAt k v).divAt = s.divAt := rfl
@[simp] theorem State.setBstoreAt_sc (s : State) (k : Nat) (v : Nat) : (s.setBstoreAt k v).sc = s.sc := rfl
@[simp] theorem State.setBstoreAt_mt (s : State) (k : Nat) (v : Nat) : (s.setBstoreAt k v).mt = s.mt := rfl
@[simp] theorem State.setBstoreAt_mf (s : State) (k : Nat) (v : Nat) : (s.setBstoreAt k v).mf = s.mf := rfl
@[simp] theorem State.setBstoreAt_mfu (s : State) (k : Nat) (v : Nat) : (s.setBstoreAt k v).mfu = s.mfu := rfl
@[simp] theorem State.setBstoreAt_journal (s : State) (k : Nat) (v : Nat) : (s.setBstoreAt k v).journal = s.journal := rfl
@[simp] theorem State.setBstoreAt_fl (s : State) (k : Nat) (v : Nat) : (s.setBstoreAt k v).fl = s.fl := rfl
@[simp] theorem State.setBstoreAt_flash (s : State) (k : Nat) (v : Nat) : (s.setBstoreAt k v).flash = s.flash := rfl
@[simp] theorem State.setBstoreAt_flBlk (s : State) (k : Nat) (v : Nat) : (s.setBstoreAt k v).flBlk = s.flBlk := rfl
@[simp] theorem State.setBstoreAt_flWear (s : State) (k : Nat) (v : Nat) : (s.setBstoreAt k v).flWear = s.flWear := rfl
@[simp] theorem State.setBstoreAt_otp (s : State) (k : Nat) (v : Nat) : (s.setBstoreAt k v).otp = s.otp := rfl
@[simp] theorem State.setBstoreAt_gpioPad (s : State) (k : Nat) (v : Nat) : (s.setBstoreAt k v).gpioPad = s.gpioPad := rfl
@[simp] theorem State.setBstoreAt_lkWake (s : State) (k : Nat) (v : Nat) : (s.setBstoreAt k v).lkWake = s.lkWake := rfl
@[simp] theorem State.setBstoreAt_lkDrive (s : State) (k : Nat) (v : Nat) : (s.setBstoreAt k v).lkDrive = s.lkDrive := rfl
@[simp] theorem State.setBstoreAt_rung (s : State) (k : Nat) (v : Nat) : (s.setBstoreAt k v).rung = s.rung := rfl
@[simp] theorem State.setBstoreAt_wake (s : State) (k : Nat) (v : Nat) : (s.setBstoreAt k v).wake = s.wake := rfl
@[simp] theorem State.setBstoreAt_core (s : State) (k : Nat) (v : Nat) : (s.setBstoreAt k v).core = s.core := rfl
@[simp] theorem State.setBstoreAt_bank (s : State) (k : Nat) (v : Nat) : (s.setBstoreAt k v).bank = s.bank := rfl
@[simp] theorem State.setBstoreAt_lock (s : State) (k : Nat) (v : Nat) : (s.setBstoreAt k v).lock = s.lock := rfl
@[simp] theorem State.setBstoreAt_tide (s : State) (k : Nat) (v : Nat) : (s.setBstoreAt k v).tide = s.tide := rfl
@[simp] theorem State.setBstoreAt_snap (s : State) (k : Nat) (v : Nat) : (s.setBstoreAt k v).snap = s.snap := rfl
@[simp] theorem State.setBstoreAt_vsrc (s : State) (k : Nat) (v : Nat) : (s.setBstoreAt k v).vsrc = s.vsrc := rfl
@[simp] theorem State.setBstoreAt_doze (s : State) (k : Nat) (v : Nat) : (s.setBstoreAt k v).doze = s.doze := rfl
@[simp] theorem State.setBstoreAt_devRst (s : State) (k : Nat) (v : Nat) : (s.setBstoreAt k v).devRst = s.devRst := rfl
@[simp] theorem State.setBstoreAt_scrub (s : State) (k : Nat) (v : Nat) : (s.setBstoreAt k v).scrub = s.scrub := rfl
@[simp] theorem State.setBstoreAt_pps (s : State) (k : Nat) (v : Nat) : (s.setBstoreAt k v).pps = s.pps := rfl
@[simp] theorem State.setBstoreAt_pwr (s : State) (k : Nat) (v : Nat) : (s.setBstoreAt k v).pwr = s.pwr := rfl
@[simp] theorem State.setBstoreAt_link (s : State) (k : Nat) (v : Nat) : (s.setBstoreAt k v).link = s.link := rfl
@[simp] theorem State.setBstoreAt_txs (s : State) (k : Nat) (v : Nat) : (s.setBstoreAt k v).txs = s.txs := rfl
@[simp] theorem State.setBstoreAt_win (s : State) (k : Nat) (v : Nat) : (s.setBstoreAt k v).win = s.win := rfl
@[simp] theorem State.setBstoreAt_lku (s : State) (k : Nat) (v : Nat) : (s.setBstoreAt k v).lku = s.lku := rfl
@[simp] theorem State.setBstoreAt_gt (s : State) (k : Nat) (v : Nat) : (s.setBstoreAt k v).gt = s.gt := rfl
@[simp] theorem State.setBstoreAt_boot (s : State) (k : Nat) (v : Nat) : (s.setBstoreAt k v).boot = s.boot := rfl
@[simp] theorem State.setBstoreAt_graft (s : State) (k : Nat) (v : Nat) : (s.setBstoreAt k v).graft = s.graft := rfl
@[simp] theorem State.setBstoreAt_ku (s : State) (k : Nat) (v : Nat) : (s.setBstoreAt k v).ku = s.ku := rfl
@[simp] theorem State.setBstoreAt_dbg (s : State) (k : Nat) (v : Nat) : (s.setBstoreAt k v).dbg = s.dbg := rfl
@[simp] theorem State.setBstoreAt_smb (s : State) (k : Nat) (v : Nat) : (s.setBstoreAt k v).smb = s.smb := rfl
@[simp] theorem State.setBstoreAt_spi (s : State) (k : Nat) (v : Nat) : (s.setBstoreAt k v).spi = s.spi := rfl
@[simp] theorem State.setBstoreAt_pending (s : State) (k : Nat) (v : Nat) : (s.setBstoreAt k v).pending = s.pending := rfl
@[simp] theorem State.setBstoreAt_out (s : State) (k : Nat) (v : Nat) : (s.setBstoreAt k v).out = s.out := rfl
@[simp] theorem State.setBstoreAt_free (s : State) (k : Nat) (v : Nat) : (s.setBstoreAt k v).free = s.free := rfl
@[simp] theorem State.setBram_bramOf (s : State) (k : Nat) (v : Int) : (s.setBram k v).bramOf k = v := Store.get_set_same _ _ _ _
theorem State.setBram_bramOf_ne (s : State) {j k : Nat} (v : Int) (h : k ≠ j) : (s.setBram j v).bramOf k = s.bramOf k := Store.get_set_ne _ _ _ h
@[simp] theorem State.setBram_now (s : State) (k : Nat) (v : Int) : (s.setBram k v).now = s.now := rfl
@[simp] theorem State.setBram_regs (s : State) (k : Nat) (v : Int) : (s.setBram k v).regs = s.regs := rfl
@[simp] theorem State.setBram_written (s : State) (k : Nat) (v : Int) : (s.setBram k v).written = s.written := rfl
@[simp] theorem State.setBram_hw (s : State) (k : Nat) (v : Int) : (s.setBram k v).hw = s.hw := rfl
@[simp] theorem State.setBram_ich (s : State) (k : Nat) (v : Int) : (s.setBram k v).ich = s.ich := rfl
@[simp] theorem State.setBram_wc (s : State) (k : Nat) (v : Int) : (s.setBram k v).wc = s.wc := rfl
@[simp] theorem State.setBram_calDue (s : State) (k : Nat) (v : Int) : (s.setBram k v).calDue = s.calDue := rfl
@[simp] theorem State.setBram_berth (s : State) (k : Nat) (v : Int) : (s.setBram k v).berth = s.berth := rfl
@[simp] theorem State.setBram_armed (s : State) (k : Nat) (v : Int) : (s.setBram k v).armed = s.armed := rfl
@[simp] theorem State.setBram_admq (s : State) (k : Nat) (v : Int) : (s.setBram k v).admq = s.admq := rfl
@[simp] theorem State.setBram_crane (s : State) (k : Nat) (v : Int) : (s.setBram k v).crane = s.crane := rfl
@[simp] theorem State.setBram_rounds (s : State) (k : Nat) (v : Int) : (s.setBram k v).rounds = s.rounds := rfl
@[simp] theorem State.setBram_bstore (s : State) (k : Nat) (v : Int) : (s.setBram k v).bstore = s.bstore := rfl
@[simp] theorem State.setBram_bstoreAt (s : State) (k : Nat) (v : Int) : (s.setBram k v).bstoreAt = s.bstoreAt := rfl
@[simp] theorem State.setBram_engW (s : State) (k : Nat) (v : Int) : (s.setBram k v).engW = s.engW := rfl
@[simp] theorem State.setBram_cu (s : State) (k : Nat) (v : Int) : (s.setBram k v).cu = s.cu := rfl
@[simp] theorem State.setBram_sram (s : State) (k : Nat) (v : Int) : (s.setBram k v).sram = s.sram := rfl
@[simp] theorem State.setBram_logAt (s : State) (k : Nat) (v : Int) : (s.setBram k v).logAt = s.logAt := rfl
@[simp] theorem State.setBram_tz (s : State) (k : Nat) (v : Int) : (s.setBram k v).tz = s.tz := rfl
@[simp] theorem State.setBram_tripPin (s : State) (k : Nat) (v : Int) : (s.setBram k v).tripPin = s.tripPin := rfl
@[simp] theorem State.setBram_tb (s : State) (k : Nat) (v : Int) : (s.setBram k v).tb = s.tb := rfl
@[simp] theorem State.setBram_tbLatch (s : State) (k : Nat) (v : Int) : (s.setBram k v).tbLatch = s.tbLatch := rfl
@[simp] theorem State.setBram_srcAt (s : State) (k : Nat) (v : Int) : (s.setBram k v).srcAt = s.srcAt := rfl
@[simp] theorem State.setBram_ev (s : State) (k : Nat) (v : Int) : (s.setBram k v).ev = s.ev := rfl
@[simp] theorem State.setBram_lc (s : State) (k : Nat) (v : Int) : (s.setBram k v).lc = s.lc := rfl
@[simp] theorem State.setBram_divAt (s : State) (k : Nat) (v : Int) : (s.setBram k v).divAt = s.divAt := rfl
@[simp] theorem State.setBram_sc (s : State) (k : Nat) (v : Int) : (s.setBram k v).sc = s.sc := rfl
@[simp] theorem State.setBram_mt (s : State) (k : Nat) (v : Int) : (s.setBram k v).mt = s.mt := rfl
@[simp] theorem State.setBram_mf (s : State) (k : Nat) (v : Int) : (s.setBram k v).mf = s.mf := rfl
@[simp] theorem State.setBram_mfu (s : State) (k : Nat) (v : Int) : (s.setBram k v).mfu = s.mfu := rfl
@[simp] theorem State.setBram_journal (s : State) (k : Nat) (v : Int) : (s.setBram k v).journal = s.journal := rfl
@[simp] theorem State.setBram_fl (s : State) (k : Nat) (v : Int) : (s.setBram k v).fl = s.fl := rfl
@[simp] theorem State.setBram_flash (s : State) (k : Nat) (v : Int) : (s.setBram k v).flash = s.flash := rfl
@[simp] theorem State.setBram_flBlk (s : State) (k : Nat) (v : Int) : (s.setBram k v).flBlk = s.flBlk := rfl
@[simp] theorem State.setBram_flWear (s : State) (k : Nat) (v : Int) : (s.setBram k v).flWear = s.flWear := rfl
@[simp] theorem State.setBram_otp (s : State) (k : Nat) (v : Int) : (s.setBram k v).otp = s.otp := rfl
@[simp] theorem State.setBram_gpioPad (s : State) (k : Nat) (v : Int) : (s.setBram k v).gpioPad = s.gpioPad := rfl
@[simp] theorem State.setBram_lkWake (s : State) (k : Nat) (v : Int) : (s.setBram k v).lkWake = s.lkWake := rfl
@[simp] theorem State.setBram_lkDrive (s : State) (k : Nat) (v : Int) : (s.setBram k v).lkDrive = s.lkDrive := rfl
@[simp] theorem State.setBram_rung (s : State) (k : Nat) (v : Int) : (s.setBram k v).rung = s.rung := rfl
@[simp] theorem State.setBram_wake (s : State) (k : Nat) (v : Int) : (s.setBram k v).wake = s.wake := rfl
@[simp] theorem State.setBram_core (s : State) (k : Nat) (v : Int) : (s.setBram k v).core = s.core := rfl
@[simp] theorem State.setBram_bank (s : State) (k : Nat) (v : Int) : (s.setBram k v).bank = s.bank := rfl
@[simp] theorem State.setBram_lock (s : State) (k : Nat) (v : Int) : (s.setBram k v).lock = s.lock := rfl
@[simp] theorem State.setBram_tide (s : State) (k : Nat) (v : Int) : (s.setBram k v).tide = s.tide := rfl
@[simp] theorem State.setBram_snap (s : State) (k : Nat) (v : Int) : (s.setBram k v).snap = s.snap := rfl
@[simp] theorem State.setBram_vsrc (s : State) (k : Nat) (v : Int) : (s.setBram k v).vsrc = s.vsrc := rfl
@[simp] theorem State.setBram_doze (s : State) (k : Nat) (v : Int) : (s.setBram k v).doze = s.doze := rfl
@[simp] theorem State.setBram_devRst (s : State) (k : Nat) (v : Int) : (s.setBram k v).devRst = s.devRst := rfl
@[simp] theorem State.setBram_scrub (s : State) (k : Nat) (v : Int) : (s.setBram k v).scrub = s.scrub := rfl
@[simp] theorem State.setBram_pps (s : State) (k : Nat) (v : Int) : (s.setBram k v).pps = s.pps := rfl
@[simp] theorem State.setBram_pwr (s : State) (k : Nat) (v : Int) : (s.setBram k v).pwr = s.pwr := rfl
@[simp] theorem State.setBram_link (s : State) (k : Nat) (v : Int) : (s.setBram k v).link = s.link := rfl
@[simp] theorem State.setBram_txs (s : State) (k : Nat) (v : Int) : (s.setBram k v).txs = s.txs := rfl
@[simp] theorem State.setBram_win (s : State) (k : Nat) (v : Int) : (s.setBram k v).win = s.win := rfl
@[simp] theorem State.setBram_lku (s : State) (k : Nat) (v : Int) : (s.setBram k v).lku = s.lku := rfl
@[simp] theorem State.setBram_gt (s : State) (k : Nat) (v : Int) : (s.setBram k v).gt = s.gt := rfl
@[simp] theorem State.setBram_boot (s : State) (k : Nat) (v : Int) : (s.setBram k v).boot = s.boot := rfl
@[simp] theorem State.setBram_graft (s : State) (k : Nat) (v : Int) : (s.setBram k v).graft = s.graft := rfl
@[simp] theorem State.setBram_ku (s : State) (k : Nat) (v : Int) : (s.setBram k v).ku = s.ku := rfl
@[simp] theorem State.setBram_dbg (s : State) (k : Nat) (v : Int) : (s.setBram k v).dbg = s.dbg := rfl
@[simp] theorem State.setBram_smb (s : State) (k : Nat) (v : Int) : (s.setBram k v).smb = s.smb := rfl
@[simp] theorem State.setBram_spi (s : State) (k : Nat) (v : Int) : (s.setBram k v).spi = s.spi := rfl
@[simp] theorem State.setBram_pending (s : State) (k : Nat) (v : Int) : (s.setBram k v).pending = s.pending := rfl
@[simp] theorem State.setBram_out (s : State) (k : Nat) (v : Int) : (s.setBram k v).out = s.out := rfl
@[simp] theorem State.setBram_free (s : State) (k : Nat) (v : Int) : (s.setBram k v).free = s.free := rfl
@[simp] theorem State.setEngW_engWOf (s : State) (k : Nat) (v : (Option EngWrite)) : (s.setEngW k v).engWOf k = v := Store.get_set_same _ _ _ _
theorem State.setEngW_engWOf_ne (s : State) {j k : Nat} (v : (Option EngWrite)) (h : k ≠ j) : (s.setEngW j v).engWOf k = s.engWOf k := Store.get_set_ne _ _ _ h
@[simp] theorem State.setEngW_now (s : State) (k : Nat) (v : (Option EngWrite)) : (s.setEngW k v).now = s.now := rfl
@[simp] theorem State.setEngW_regs (s : State) (k : Nat) (v : (Option EngWrite)) : (s.setEngW k v).regs = s.regs := rfl
@[simp] theorem State.setEngW_written (s : State) (k : Nat) (v : (Option EngWrite)) : (s.setEngW k v).written = s.written := rfl
@[simp] theorem State.setEngW_hw (s : State) (k : Nat) (v : (Option EngWrite)) : (s.setEngW k v).hw = s.hw := rfl
@[simp] theorem State.setEngW_ich (s : State) (k : Nat) (v : (Option EngWrite)) : (s.setEngW k v).ich = s.ich := rfl
@[simp] theorem State.setEngW_wc (s : State) (k : Nat) (v : (Option EngWrite)) : (s.setEngW k v).wc = s.wc := rfl
@[simp] theorem State.setEngW_calDue (s : State) (k : Nat) (v : (Option EngWrite)) : (s.setEngW k v).calDue = s.calDue := rfl
@[simp] theorem State.setEngW_berth (s : State) (k : Nat) (v : (Option EngWrite)) : (s.setEngW k v).berth = s.berth := rfl
@[simp] theorem State.setEngW_armed (s : State) (k : Nat) (v : (Option EngWrite)) : (s.setEngW k v).armed = s.armed := rfl
@[simp] theorem State.setEngW_admq (s : State) (k : Nat) (v : (Option EngWrite)) : (s.setEngW k v).admq = s.admq := rfl
@[simp] theorem State.setEngW_crane (s : State) (k : Nat) (v : (Option EngWrite)) : (s.setEngW k v).crane = s.crane := rfl
@[simp] theorem State.setEngW_rounds (s : State) (k : Nat) (v : (Option EngWrite)) : (s.setEngW k v).rounds = s.rounds := rfl
@[simp] theorem State.setEngW_bstore (s : State) (k : Nat) (v : (Option EngWrite)) : (s.setEngW k v).bstore = s.bstore := rfl
@[simp] theorem State.setEngW_bstoreAt (s : State) (k : Nat) (v : (Option EngWrite)) : (s.setEngW k v).bstoreAt = s.bstoreAt := rfl
@[simp] theorem State.setEngW_bram (s : State) (k : Nat) (v : (Option EngWrite)) : (s.setEngW k v).bram = s.bram := rfl
@[simp] theorem State.setEngW_cu (s : State) (k : Nat) (v : (Option EngWrite)) : (s.setEngW k v).cu = s.cu := rfl
@[simp] theorem State.setEngW_sram (s : State) (k : Nat) (v : (Option EngWrite)) : (s.setEngW k v).sram = s.sram := rfl
@[simp] theorem State.setEngW_logAt (s : State) (k : Nat) (v : (Option EngWrite)) : (s.setEngW k v).logAt = s.logAt := rfl
@[simp] theorem State.setEngW_tz (s : State) (k : Nat) (v : (Option EngWrite)) : (s.setEngW k v).tz = s.tz := rfl
@[simp] theorem State.setEngW_tripPin (s : State) (k : Nat) (v : (Option EngWrite)) : (s.setEngW k v).tripPin = s.tripPin := rfl
@[simp] theorem State.setEngW_tb (s : State) (k : Nat) (v : (Option EngWrite)) : (s.setEngW k v).tb = s.tb := rfl
@[simp] theorem State.setEngW_tbLatch (s : State) (k : Nat) (v : (Option EngWrite)) : (s.setEngW k v).tbLatch = s.tbLatch := rfl
@[simp] theorem State.setEngW_srcAt (s : State) (k : Nat) (v : (Option EngWrite)) : (s.setEngW k v).srcAt = s.srcAt := rfl
@[simp] theorem State.setEngW_ev (s : State) (k : Nat) (v : (Option EngWrite)) : (s.setEngW k v).ev = s.ev := rfl
@[simp] theorem State.setEngW_lc (s : State) (k : Nat) (v : (Option EngWrite)) : (s.setEngW k v).lc = s.lc := rfl
@[simp] theorem State.setEngW_divAt (s : State) (k : Nat) (v : (Option EngWrite)) : (s.setEngW k v).divAt = s.divAt := rfl
@[simp] theorem State.setEngW_sc (s : State) (k : Nat) (v : (Option EngWrite)) : (s.setEngW k v).sc = s.sc := rfl
@[simp] theorem State.setEngW_mt (s : State) (k : Nat) (v : (Option EngWrite)) : (s.setEngW k v).mt = s.mt := rfl
@[simp] theorem State.setEngW_mf (s : State) (k : Nat) (v : (Option EngWrite)) : (s.setEngW k v).mf = s.mf := rfl
@[simp] theorem State.setEngW_mfu (s : State) (k : Nat) (v : (Option EngWrite)) : (s.setEngW k v).mfu = s.mfu := rfl
@[simp] theorem State.setEngW_journal (s : State) (k : Nat) (v : (Option EngWrite)) : (s.setEngW k v).journal = s.journal := rfl
@[simp] theorem State.setEngW_fl (s : State) (k : Nat) (v : (Option EngWrite)) : (s.setEngW k v).fl = s.fl := rfl
@[simp] theorem State.setEngW_flash (s : State) (k : Nat) (v : (Option EngWrite)) : (s.setEngW k v).flash = s.flash := rfl
@[simp] theorem State.setEngW_flBlk (s : State) (k : Nat) (v : (Option EngWrite)) : (s.setEngW k v).flBlk = s.flBlk := rfl
@[simp] theorem State.setEngW_flWear (s : State) (k : Nat) (v : (Option EngWrite)) : (s.setEngW k v).flWear = s.flWear := rfl
@[simp] theorem State.setEngW_otp (s : State) (k : Nat) (v : (Option EngWrite)) : (s.setEngW k v).otp = s.otp := rfl
@[simp] theorem State.setEngW_gpioPad (s : State) (k : Nat) (v : (Option EngWrite)) : (s.setEngW k v).gpioPad = s.gpioPad := rfl
@[simp] theorem State.setEngW_lkWake (s : State) (k : Nat) (v : (Option EngWrite)) : (s.setEngW k v).lkWake = s.lkWake := rfl
@[simp] theorem State.setEngW_lkDrive (s : State) (k : Nat) (v : (Option EngWrite)) : (s.setEngW k v).lkDrive = s.lkDrive := rfl
@[simp] theorem State.setEngW_rung (s : State) (k : Nat) (v : (Option EngWrite)) : (s.setEngW k v).rung = s.rung := rfl
@[simp] theorem State.setEngW_wake (s : State) (k : Nat) (v : (Option EngWrite)) : (s.setEngW k v).wake = s.wake := rfl
@[simp] theorem State.setEngW_core (s : State) (k : Nat) (v : (Option EngWrite)) : (s.setEngW k v).core = s.core := rfl
@[simp] theorem State.setEngW_bank (s : State) (k : Nat) (v : (Option EngWrite)) : (s.setEngW k v).bank = s.bank := rfl
@[simp] theorem State.setEngW_lock (s : State) (k : Nat) (v : (Option EngWrite)) : (s.setEngW k v).lock = s.lock := rfl
@[simp] theorem State.setEngW_tide (s : State) (k : Nat) (v : (Option EngWrite)) : (s.setEngW k v).tide = s.tide := rfl
@[simp] theorem State.setEngW_snap (s : State) (k : Nat) (v : (Option EngWrite)) : (s.setEngW k v).snap = s.snap := rfl
@[simp] theorem State.setEngW_vsrc (s : State) (k : Nat) (v : (Option EngWrite)) : (s.setEngW k v).vsrc = s.vsrc := rfl
@[simp] theorem State.setEngW_doze (s : State) (k : Nat) (v : (Option EngWrite)) : (s.setEngW k v).doze = s.doze := rfl
@[simp] theorem State.setEngW_devRst (s : State) (k : Nat) (v : (Option EngWrite)) : (s.setEngW k v).devRst = s.devRst := rfl
@[simp] theorem State.setEngW_scrub (s : State) (k : Nat) (v : (Option EngWrite)) : (s.setEngW k v).scrub = s.scrub := rfl
@[simp] theorem State.setEngW_pps (s : State) (k : Nat) (v : (Option EngWrite)) : (s.setEngW k v).pps = s.pps := rfl
@[simp] theorem State.setEngW_pwr (s : State) (k : Nat) (v : (Option EngWrite)) : (s.setEngW k v).pwr = s.pwr := rfl
@[simp] theorem State.setEngW_link (s : State) (k : Nat) (v : (Option EngWrite)) : (s.setEngW k v).link = s.link := rfl
@[simp] theorem State.setEngW_txs (s : State) (k : Nat) (v : (Option EngWrite)) : (s.setEngW k v).txs = s.txs := rfl
@[simp] theorem State.setEngW_win (s : State) (k : Nat) (v : (Option EngWrite)) : (s.setEngW k v).win = s.win := rfl
@[simp] theorem State.setEngW_lku (s : State) (k : Nat) (v : (Option EngWrite)) : (s.setEngW k v).lku = s.lku := rfl
@[simp] theorem State.setEngW_gt (s : State) (k : Nat) (v : (Option EngWrite)) : (s.setEngW k v).gt = s.gt := rfl
@[simp] theorem State.setEngW_boot (s : State) (k : Nat) (v : (Option EngWrite)) : (s.setEngW k v).boot = s.boot := rfl
@[simp] theorem State.setEngW_graft (s : State) (k : Nat) (v : (Option EngWrite)) : (s.setEngW k v).graft = s.graft := rfl
@[simp] theorem State.setEngW_ku (s : State) (k : Nat) (v : (Option EngWrite)) : (s.setEngW k v).ku = s.ku := rfl
@[simp] theorem State.setEngW_dbg (s : State) (k : Nat) (v : (Option EngWrite)) : (s.setEngW k v).dbg = s.dbg := rfl
@[simp] theorem State.setEngW_smb (s : State) (k : Nat) (v : (Option EngWrite)) : (s.setEngW k v).smb = s.smb := rfl
@[simp] theorem State.setEngW_spi (s : State) (k : Nat) (v : (Option EngWrite)) : (s.setEngW k v).spi = s.spi := rfl
@[simp] theorem State.setEngW_pending (s : State) (k : Nat) (v : (Option EngWrite)) : (s.setEngW k v).pending = s.pending := rfl
@[simp] theorem State.setEngW_out (s : State) (k : Nat) (v : (Option EngWrite)) : (s.setEngW k v).out = s.out := rfl
@[simp] theorem State.setEngW_free (s : State) (k : Nat) (v : (Option EngWrite)) : (s.setEngW k v).free = s.free := rfl
@[simp] theorem State.setCu_cuOf (s : State) (k : Nat) (v : CuS) : (s.setCu k v).cuOf k = v := Store.get_set_same _ _ _ _
theorem State.setCu_cuOf_ne (s : State) {j k : Nat} (v : CuS) (h : k ≠ j) : (s.setCu j v).cuOf k = s.cuOf k := Store.get_set_ne _ _ _ h
@[simp] theorem State.setCu_now (s : State) (k : Nat) (v : CuS) : (s.setCu k v).now = s.now := rfl
@[simp] theorem State.setCu_regs (s : State) (k : Nat) (v : CuS) : (s.setCu k v).regs = s.regs := rfl
@[simp] theorem State.setCu_written (s : State) (k : Nat) (v : CuS) : (s.setCu k v).written = s.written := rfl
@[simp] theorem State.setCu_hw (s : State) (k : Nat) (v : CuS) : (s.setCu k v).hw = s.hw := rfl
@[simp] theorem State.setCu_ich (s : State) (k : Nat) (v : CuS) : (s.setCu k v).ich = s.ich := rfl
@[simp] theorem State.setCu_wc (s : State) (k : Nat) (v : CuS) : (s.setCu k v).wc = s.wc := rfl
@[simp] theorem State.setCu_calDue (s : State) (k : Nat) (v : CuS) : (s.setCu k v).calDue = s.calDue := rfl
@[simp] theorem State.setCu_berth (s : State) (k : Nat) (v : CuS) : (s.setCu k v).berth = s.berth := rfl
@[simp] theorem State.setCu_armed (s : State) (k : Nat) (v : CuS) : (s.setCu k v).armed = s.armed := rfl
@[simp] theorem State.setCu_admq (s : State) (k : Nat) (v : CuS) : (s.setCu k v).admq = s.admq := rfl
@[simp] theorem State.setCu_crane (s : State) (k : Nat) (v : CuS) : (s.setCu k v).crane = s.crane := rfl
@[simp] theorem State.setCu_rounds (s : State) (k : Nat) (v : CuS) : (s.setCu k v).rounds = s.rounds := rfl
@[simp] theorem State.setCu_bstore (s : State) (k : Nat) (v : CuS) : (s.setCu k v).bstore = s.bstore := rfl
@[simp] theorem State.setCu_bstoreAt (s : State) (k : Nat) (v : CuS) : (s.setCu k v).bstoreAt = s.bstoreAt := rfl
@[simp] theorem State.setCu_bram (s : State) (k : Nat) (v : CuS) : (s.setCu k v).bram = s.bram := rfl
@[simp] theorem State.setCu_engW (s : State) (k : Nat) (v : CuS) : (s.setCu k v).engW = s.engW := rfl
@[simp] theorem State.setCu_sram (s : State) (k : Nat) (v : CuS) : (s.setCu k v).sram = s.sram := rfl
@[simp] theorem State.setCu_logAt (s : State) (k : Nat) (v : CuS) : (s.setCu k v).logAt = s.logAt := rfl
@[simp] theorem State.setCu_tz (s : State) (k : Nat) (v : CuS) : (s.setCu k v).tz = s.tz := rfl
@[simp] theorem State.setCu_tripPin (s : State) (k : Nat) (v : CuS) : (s.setCu k v).tripPin = s.tripPin := rfl
@[simp] theorem State.setCu_tb (s : State) (k : Nat) (v : CuS) : (s.setCu k v).tb = s.tb := rfl
@[simp] theorem State.setCu_tbLatch (s : State) (k : Nat) (v : CuS) : (s.setCu k v).tbLatch = s.tbLatch := rfl
@[simp] theorem State.setCu_srcAt (s : State) (k : Nat) (v : CuS) : (s.setCu k v).srcAt = s.srcAt := rfl
@[simp] theorem State.setCu_ev (s : State) (k : Nat) (v : CuS) : (s.setCu k v).ev = s.ev := rfl
@[simp] theorem State.setCu_lc (s : State) (k : Nat) (v : CuS) : (s.setCu k v).lc = s.lc := rfl
@[simp] theorem State.setCu_divAt (s : State) (k : Nat) (v : CuS) : (s.setCu k v).divAt = s.divAt := rfl
@[simp] theorem State.setCu_sc (s : State) (k : Nat) (v : CuS) : (s.setCu k v).sc = s.sc := rfl
@[simp] theorem State.setCu_mt (s : State) (k : Nat) (v : CuS) : (s.setCu k v).mt = s.mt := rfl
@[simp] theorem State.setCu_mf (s : State) (k : Nat) (v : CuS) : (s.setCu k v).mf = s.mf := rfl
@[simp] theorem State.setCu_mfu (s : State) (k : Nat) (v : CuS) : (s.setCu k v).mfu = s.mfu := rfl
@[simp] theorem State.setCu_journal (s : State) (k : Nat) (v : CuS) : (s.setCu k v).journal = s.journal := rfl
@[simp] theorem State.setCu_fl (s : State) (k : Nat) (v : CuS) : (s.setCu k v).fl = s.fl := rfl
@[simp] theorem State.setCu_flash (s : State) (k : Nat) (v : CuS) : (s.setCu k v).flash = s.flash := rfl
@[simp] theorem State.setCu_flBlk (s : State) (k : Nat) (v : CuS) : (s.setCu k v).flBlk = s.flBlk := rfl
@[simp] theorem State.setCu_flWear (s : State) (k : Nat) (v : CuS) : (s.setCu k v).flWear = s.flWear := rfl
@[simp] theorem State.setCu_otp (s : State) (k : Nat) (v : CuS) : (s.setCu k v).otp = s.otp := rfl
@[simp] theorem State.setCu_gpioPad (s : State) (k : Nat) (v : CuS) : (s.setCu k v).gpioPad = s.gpioPad := rfl
@[simp] theorem State.setCu_lkWake (s : State) (k : Nat) (v : CuS) : (s.setCu k v).lkWake = s.lkWake := rfl
@[simp] theorem State.setCu_lkDrive (s : State) (k : Nat) (v : CuS) : (s.setCu k v).lkDrive = s.lkDrive := rfl
@[simp] theorem State.setCu_rung (s : State) (k : Nat) (v : CuS) : (s.setCu k v).rung = s.rung := rfl
@[simp] theorem State.setCu_wake (s : State) (k : Nat) (v : CuS) : (s.setCu k v).wake = s.wake := rfl
@[simp] theorem State.setCu_core (s : State) (k : Nat) (v : CuS) : (s.setCu k v).core = s.core := rfl
@[simp] theorem State.setCu_bank (s : State) (k : Nat) (v : CuS) : (s.setCu k v).bank = s.bank := rfl
@[simp] theorem State.setCu_lock (s : State) (k : Nat) (v : CuS) : (s.setCu k v).lock = s.lock := rfl
@[simp] theorem State.setCu_tide (s : State) (k : Nat) (v : CuS) : (s.setCu k v).tide = s.tide := rfl
@[simp] theorem State.setCu_snap (s : State) (k : Nat) (v : CuS) : (s.setCu k v).snap = s.snap := rfl
@[simp] theorem State.setCu_vsrc (s : State) (k : Nat) (v : CuS) : (s.setCu k v).vsrc = s.vsrc := rfl
@[simp] theorem State.setCu_doze (s : State) (k : Nat) (v : CuS) : (s.setCu k v).doze = s.doze := rfl
@[simp] theorem State.setCu_devRst (s : State) (k : Nat) (v : CuS) : (s.setCu k v).devRst = s.devRst := rfl
@[simp] theorem State.setCu_scrub (s : State) (k : Nat) (v : CuS) : (s.setCu k v).scrub = s.scrub := rfl
@[simp] theorem State.setCu_pps (s : State) (k : Nat) (v : CuS) : (s.setCu k v).pps = s.pps := rfl
@[simp] theorem State.setCu_pwr (s : State) (k : Nat) (v : CuS) : (s.setCu k v).pwr = s.pwr := rfl
@[simp] theorem State.setCu_link (s : State) (k : Nat) (v : CuS) : (s.setCu k v).link = s.link := rfl
@[simp] theorem State.setCu_txs (s : State) (k : Nat) (v : CuS) : (s.setCu k v).txs = s.txs := rfl
@[simp] theorem State.setCu_win (s : State) (k : Nat) (v : CuS) : (s.setCu k v).win = s.win := rfl
@[simp] theorem State.setCu_lku (s : State) (k : Nat) (v : CuS) : (s.setCu k v).lku = s.lku := rfl
@[simp] theorem State.setCu_gt (s : State) (k : Nat) (v : CuS) : (s.setCu k v).gt = s.gt := rfl
@[simp] theorem State.setCu_boot (s : State) (k : Nat) (v : CuS) : (s.setCu k v).boot = s.boot := rfl
@[simp] theorem State.setCu_graft (s : State) (k : Nat) (v : CuS) : (s.setCu k v).graft = s.graft := rfl
@[simp] theorem State.setCu_ku (s : State) (k : Nat) (v : CuS) : (s.setCu k v).ku = s.ku := rfl
@[simp] theorem State.setCu_dbg (s : State) (k : Nat) (v : CuS) : (s.setCu k v).dbg = s.dbg := rfl
@[simp] theorem State.setCu_smb (s : State) (k : Nat) (v : CuS) : (s.setCu k v).smb = s.smb := rfl
@[simp] theorem State.setCu_spi (s : State) (k : Nat) (v : CuS) : (s.setCu k v).spi = s.spi := rfl
@[simp] theorem State.setCu_pending (s : State) (k : Nat) (v : CuS) : (s.setCu k v).pending = s.pending := rfl
@[simp] theorem State.setCu_out (s : State) (k : Nat) (v : CuS) : (s.setCu k v).out = s.out := rfl
@[simp] theorem State.setCu_free (s : State) (k : Nat) (v : CuS) : (s.setCu k v).free = s.free := rfl
@[simp] theorem State.setSram_sramOf (s : State) (k : Nat) (v : MCell) : (s.setSram k v).sramOf k = v := Store.get_set_same _ _ _ _
theorem State.setSram_sramOf_ne (s : State) {j k : Nat} (v : MCell) (h : k ≠ j) : (s.setSram j v).sramOf k = s.sramOf k := Store.get_set_ne _ _ _ h
@[simp] theorem State.setSram_now (s : State) (k : Nat) (v : MCell) : (s.setSram k v).now = s.now := rfl
@[simp] theorem State.setSram_regs (s : State) (k : Nat) (v : MCell) : (s.setSram k v).regs = s.regs := rfl
@[simp] theorem State.setSram_written (s : State) (k : Nat) (v : MCell) : (s.setSram k v).written = s.written := rfl
@[simp] theorem State.setSram_hw (s : State) (k : Nat) (v : MCell) : (s.setSram k v).hw = s.hw := rfl
@[simp] theorem State.setSram_ich (s : State) (k : Nat) (v : MCell) : (s.setSram k v).ich = s.ich := rfl
@[simp] theorem State.setSram_wc (s : State) (k : Nat) (v : MCell) : (s.setSram k v).wc = s.wc := rfl
@[simp] theorem State.setSram_calDue (s : State) (k : Nat) (v : MCell) : (s.setSram k v).calDue = s.calDue := rfl
@[simp] theorem State.setSram_berth (s : State) (k : Nat) (v : MCell) : (s.setSram k v).berth = s.berth := rfl
@[simp] theorem State.setSram_armed (s : State) (k : Nat) (v : MCell) : (s.setSram k v).armed = s.armed := rfl
@[simp] theorem State.setSram_admq (s : State) (k : Nat) (v : MCell) : (s.setSram k v).admq = s.admq := rfl
@[simp] theorem State.setSram_crane (s : State) (k : Nat) (v : MCell) : (s.setSram k v).crane = s.crane := rfl
@[simp] theorem State.setSram_rounds (s : State) (k : Nat) (v : MCell) : (s.setSram k v).rounds = s.rounds := rfl
@[simp] theorem State.setSram_bstore (s : State) (k : Nat) (v : MCell) : (s.setSram k v).bstore = s.bstore := rfl
@[simp] theorem State.setSram_bstoreAt (s : State) (k : Nat) (v : MCell) : (s.setSram k v).bstoreAt = s.bstoreAt := rfl
@[simp] theorem State.setSram_bram (s : State) (k : Nat) (v : MCell) : (s.setSram k v).bram = s.bram := rfl
@[simp] theorem State.setSram_engW (s : State) (k : Nat) (v : MCell) : (s.setSram k v).engW = s.engW := rfl
@[simp] theorem State.setSram_cu (s : State) (k : Nat) (v : MCell) : (s.setSram k v).cu = s.cu := rfl
@[simp] theorem State.setSram_logAt (s : State) (k : Nat) (v : MCell) : (s.setSram k v).logAt = s.logAt := rfl
@[simp] theorem State.setSram_tz (s : State) (k : Nat) (v : MCell) : (s.setSram k v).tz = s.tz := rfl
@[simp] theorem State.setSram_tripPin (s : State) (k : Nat) (v : MCell) : (s.setSram k v).tripPin = s.tripPin := rfl
@[simp] theorem State.setSram_tb (s : State) (k : Nat) (v : MCell) : (s.setSram k v).tb = s.tb := rfl
@[simp] theorem State.setSram_tbLatch (s : State) (k : Nat) (v : MCell) : (s.setSram k v).tbLatch = s.tbLatch := rfl
@[simp] theorem State.setSram_srcAt (s : State) (k : Nat) (v : MCell) : (s.setSram k v).srcAt = s.srcAt := rfl
@[simp] theorem State.setSram_ev (s : State) (k : Nat) (v : MCell) : (s.setSram k v).ev = s.ev := rfl
@[simp] theorem State.setSram_lc (s : State) (k : Nat) (v : MCell) : (s.setSram k v).lc = s.lc := rfl
@[simp] theorem State.setSram_divAt (s : State) (k : Nat) (v : MCell) : (s.setSram k v).divAt = s.divAt := rfl
@[simp] theorem State.setSram_sc (s : State) (k : Nat) (v : MCell) : (s.setSram k v).sc = s.sc := rfl
@[simp] theorem State.setSram_mt (s : State) (k : Nat) (v : MCell) : (s.setSram k v).mt = s.mt := rfl
@[simp] theorem State.setSram_mf (s : State) (k : Nat) (v : MCell) : (s.setSram k v).mf = s.mf := rfl
@[simp] theorem State.setSram_mfu (s : State) (k : Nat) (v : MCell) : (s.setSram k v).mfu = s.mfu := rfl
@[simp] theorem State.setSram_journal (s : State) (k : Nat) (v : MCell) : (s.setSram k v).journal = s.journal := rfl
@[simp] theorem State.setSram_fl (s : State) (k : Nat) (v : MCell) : (s.setSram k v).fl = s.fl := rfl
@[simp] theorem State.setSram_flash (s : State) (k : Nat) (v : MCell) : (s.setSram k v).flash = s.flash := rfl
@[simp] theorem State.setSram_flBlk (s : State) (k : Nat) (v : MCell) : (s.setSram k v).flBlk = s.flBlk := rfl
@[simp] theorem State.setSram_flWear (s : State) (k : Nat) (v : MCell) : (s.setSram k v).flWear = s.flWear := rfl
@[simp] theorem State.setSram_otp (s : State) (k : Nat) (v : MCell) : (s.setSram k v).otp = s.otp := rfl
@[simp] theorem State.setSram_gpioPad (s : State) (k : Nat) (v : MCell) : (s.setSram k v).gpioPad = s.gpioPad := rfl
@[simp] theorem State.setSram_lkWake (s : State) (k : Nat) (v : MCell) : (s.setSram k v).lkWake = s.lkWake := rfl
@[simp] theorem State.setSram_lkDrive (s : State) (k : Nat) (v : MCell) : (s.setSram k v).lkDrive = s.lkDrive := rfl
@[simp] theorem State.setSram_rung (s : State) (k : Nat) (v : MCell) : (s.setSram k v).rung = s.rung := rfl
@[simp] theorem State.setSram_wake (s : State) (k : Nat) (v : MCell) : (s.setSram k v).wake = s.wake := rfl
@[simp] theorem State.setSram_core (s : State) (k : Nat) (v : MCell) : (s.setSram k v).core = s.core := rfl
@[simp] theorem State.setSram_bank (s : State) (k : Nat) (v : MCell) : (s.setSram k v).bank = s.bank := rfl
@[simp] theorem State.setSram_lock (s : State) (k : Nat) (v : MCell) : (s.setSram k v).lock = s.lock := rfl
@[simp] theorem State.setSram_tide (s : State) (k : Nat) (v : MCell) : (s.setSram k v).tide = s.tide := rfl
@[simp] theorem State.setSram_snap (s : State) (k : Nat) (v : MCell) : (s.setSram k v).snap = s.snap := rfl
@[simp] theorem State.setSram_vsrc (s : State) (k : Nat) (v : MCell) : (s.setSram k v).vsrc = s.vsrc := rfl
@[simp] theorem State.setSram_doze (s : State) (k : Nat) (v : MCell) : (s.setSram k v).doze = s.doze := rfl
@[simp] theorem State.setSram_devRst (s : State) (k : Nat) (v : MCell) : (s.setSram k v).devRst = s.devRst := rfl
@[simp] theorem State.setSram_scrub (s : State) (k : Nat) (v : MCell) : (s.setSram k v).scrub = s.scrub := rfl
@[simp] theorem State.setSram_pps (s : State) (k : Nat) (v : MCell) : (s.setSram k v).pps = s.pps := rfl
@[simp] theorem State.setSram_pwr (s : State) (k : Nat) (v : MCell) : (s.setSram k v).pwr = s.pwr := rfl
@[simp] theorem State.setSram_link (s : State) (k : Nat) (v : MCell) : (s.setSram k v).link = s.link := rfl
@[simp] theorem State.setSram_txs (s : State) (k : Nat) (v : MCell) : (s.setSram k v).txs = s.txs := rfl
@[simp] theorem State.setSram_win (s : State) (k : Nat) (v : MCell) : (s.setSram k v).win = s.win := rfl
@[simp] theorem State.setSram_lku (s : State) (k : Nat) (v : MCell) : (s.setSram k v).lku = s.lku := rfl
@[simp] theorem State.setSram_gt (s : State) (k : Nat) (v : MCell) : (s.setSram k v).gt = s.gt := rfl
@[simp] theorem State.setSram_boot (s : State) (k : Nat) (v : MCell) : (s.setSram k v).boot = s.boot := rfl
@[simp] theorem State.setSram_graft (s : State) (k : Nat) (v : MCell) : (s.setSram k v).graft = s.graft := rfl
@[simp] theorem State.setSram_ku (s : State) (k : Nat) (v : MCell) : (s.setSram k v).ku = s.ku := rfl
@[simp] theorem State.setSram_dbg (s : State) (k : Nat) (v : MCell) : (s.setSram k v).dbg = s.dbg := rfl
@[simp] theorem State.setSram_smb (s : State) (k : Nat) (v : MCell) : (s.setSram k v).smb = s.smb := rfl
@[simp] theorem State.setSram_spi (s : State) (k : Nat) (v : MCell) : (s.setSram k v).spi = s.spi := rfl
@[simp] theorem State.setSram_pending (s : State) (k : Nat) (v : MCell) : (s.setSram k v).pending = s.pending := rfl
@[simp] theorem State.setSram_out (s : State) (k : Nat) (v : MCell) : (s.setSram k v).out = s.out := rfl
@[simp] theorem State.setSram_free (s : State) (k : Nat) (v : MCell) : (s.setSram k v).free = s.free := rfl
@[simp] theorem State.setLogAt_logAtOf (s : State) (k : Nat) (v : LogCycle) : (s.setLogAt k v).logAtOf k = v := Store.get_set_same _ _ _ _
theorem State.setLogAt_logAtOf_ne (s : State) {j k : Nat} (v : LogCycle) (h : k ≠ j) : (s.setLogAt j v).logAtOf k = s.logAtOf k := Store.get_set_ne _ _ _ h
@[simp] theorem State.setLogAt_now (s : State) (k : Nat) (v : LogCycle) : (s.setLogAt k v).now = s.now := rfl
@[simp] theorem State.setLogAt_regs (s : State) (k : Nat) (v : LogCycle) : (s.setLogAt k v).regs = s.regs := rfl
@[simp] theorem State.setLogAt_written (s : State) (k : Nat) (v : LogCycle) : (s.setLogAt k v).written = s.written := rfl
@[simp] theorem State.setLogAt_hw (s : State) (k : Nat) (v : LogCycle) : (s.setLogAt k v).hw = s.hw := rfl
@[simp] theorem State.setLogAt_ich (s : State) (k : Nat) (v : LogCycle) : (s.setLogAt k v).ich = s.ich := rfl
@[simp] theorem State.setLogAt_wc (s : State) (k : Nat) (v : LogCycle) : (s.setLogAt k v).wc = s.wc := rfl
@[simp] theorem State.setLogAt_calDue (s : State) (k : Nat) (v : LogCycle) : (s.setLogAt k v).calDue = s.calDue := rfl
@[simp] theorem State.setLogAt_berth (s : State) (k : Nat) (v : LogCycle) : (s.setLogAt k v).berth = s.berth := rfl
@[simp] theorem State.setLogAt_armed (s : State) (k : Nat) (v : LogCycle) : (s.setLogAt k v).armed = s.armed := rfl
@[simp] theorem State.setLogAt_admq (s : State) (k : Nat) (v : LogCycle) : (s.setLogAt k v).admq = s.admq := rfl
@[simp] theorem State.setLogAt_crane (s : State) (k : Nat) (v : LogCycle) : (s.setLogAt k v).crane = s.crane := rfl
@[simp] theorem State.setLogAt_rounds (s : State) (k : Nat) (v : LogCycle) : (s.setLogAt k v).rounds = s.rounds := rfl
@[simp] theorem State.setLogAt_bstore (s : State) (k : Nat) (v : LogCycle) : (s.setLogAt k v).bstore = s.bstore := rfl
@[simp] theorem State.setLogAt_bstoreAt (s : State) (k : Nat) (v : LogCycle) : (s.setLogAt k v).bstoreAt = s.bstoreAt := rfl
@[simp] theorem State.setLogAt_bram (s : State) (k : Nat) (v : LogCycle) : (s.setLogAt k v).bram = s.bram := rfl
@[simp] theorem State.setLogAt_engW (s : State) (k : Nat) (v : LogCycle) : (s.setLogAt k v).engW = s.engW := rfl
@[simp] theorem State.setLogAt_cu (s : State) (k : Nat) (v : LogCycle) : (s.setLogAt k v).cu = s.cu := rfl
@[simp] theorem State.setLogAt_sram (s : State) (k : Nat) (v : LogCycle) : (s.setLogAt k v).sram = s.sram := rfl
@[simp] theorem State.setLogAt_tz (s : State) (k : Nat) (v : LogCycle) : (s.setLogAt k v).tz = s.tz := rfl
@[simp] theorem State.setLogAt_tripPin (s : State) (k : Nat) (v : LogCycle) : (s.setLogAt k v).tripPin = s.tripPin := rfl
@[simp] theorem State.setLogAt_tb (s : State) (k : Nat) (v : LogCycle) : (s.setLogAt k v).tb = s.tb := rfl
@[simp] theorem State.setLogAt_tbLatch (s : State) (k : Nat) (v : LogCycle) : (s.setLogAt k v).tbLatch = s.tbLatch := rfl
@[simp] theorem State.setLogAt_srcAt (s : State) (k : Nat) (v : LogCycle) : (s.setLogAt k v).srcAt = s.srcAt := rfl
@[simp] theorem State.setLogAt_ev (s : State) (k : Nat) (v : LogCycle) : (s.setLogAt k v).ev = s.ev := rfl
@[simp] theorem State.setLogAt_lc (s : State) (k : Nat) (v : LogCycle) : (s.setLogAt k v).lc = s.lc := rfl
@[simp] theorem State.setLogAt_divAt (s : State) (k : Nat) (v : LogCycle) : (s.setLogAt k v).divAt = s.divAt := rfl
@[simp] theorem State.setLogAt_sc (s : State) (k : Nat) (v : LogCycle) : (s.setLogAt k v).sc = s.sc := rfl
@[simp] theorem State.setLogAt_mt (s : State) (k : Nat) (v : LogCycle) : (s.setLogAt k v).mt = s.mt := rfl
@[simp] theorem State.setLogAt_mf (s : State) (k : Nat) (v : LogCycle) : (s.setLogAt k v).mf = s.mf := rfl
@[simp] theorem State.setLogAt_mfu (s : State) (k : Nat) (v : LogCycle) : (s.setLogAt k v).mfu = s.mfu := rfl
@[simp] theorem State.setLogAt_journal (s : State) (k : Nat) (v : LogCycle) : (s.setLogAt k v).journal = s.journal := rfl
@[simp] theorem State.setLogAt_fl (s : State) (k : Nat) (v : LogCycle) : (s.setLogAt k v).fl = s.fl := rfl
@[simp] theorem State.setLogAt_flash (s : State) (k : Nat) (v : LogCycle) : (s.setLogAt k v).flash = s.flash := rfl
@[simp] theorem State.setLogAt_flBlk (s : State) (k : Nat) (v : LogCycle) : (s.setLogAt k v).flBlk = s.flBlk := rfl
@[simp] theorem State.setLogAt_flWear (s : State) (k : Nat) (v : LogCycle) : (s.setLogAt k v).flWear = s.flWear := rfl
@[simp] theorem State.setLogAt_otp (s : State) (k : Nat) (v : LogCycle) : (s.setLogAt k v).otp = s.otp := rfl
@[simp] theorem State.setLogAt_gpioPad (s : State) (k : Nat) (v : LogCycle) : (s.setLogAt k v).gpioPad = s.gpioPad := rfl
@[simp] theorem State.setLogAt_lkWake (s : State) (k : Nat) (v : LogCycle) : (s.setLogAt k v).lkWake = s.lkWake := rfl
@[simp] theorem State.setLogAt_lkDrive (s : State) (k : Nat) (v : LogCycle) : (s.setLogAt k v).lkDrive = s.lkDrive := rfl
@[simp] theorem State.setLogAt_rung (s : State) (k : Nat) (v : LogCycle) : (s.setLogAt k v).rung = s.rung := rfl
@[simp] theorem State.setLogAt_wake (s : State) (k : Nat) (v : LogCycle) : (s.setLogAt k v).wake = s.wake := rfl
@[simp] theorem State.setLogAt_core (s : State) (k : Nat) (v : LogCycle) : (s.setLogAt k v).core = s.core := rfl
@[simp] theorem State.setLogAt_bank (s : State) (k : Nat) (v : LogCycle) : (s.setLogAt k v).bank = s.bank := rfl
@[simp] theorem State.setLogAt_lock (s : State) (k : Nat) (v : LogCycle) : (s.setLogAt k v).lock = s.lock := rfl
@[simp] theorem State.setLogAt_tide (s : State) (k : Nat) (v : LogCycle) : (s.setLogAt k v).tide = s.tide := rfl
@[simp] theorem State.setLogAt_snap (s : State) (k : Nat) (v : LogCycle) : (s.setLogAt k v).snap = s.snap := rfl
@[simp] theorem State.setLogAt_vsrc (s : State) (k : Nat) (v : LogCycle) : (s.setLogAt k v).vsrc = s.vsrc := rfl
@[simp] theorem State.setLogAt_doze (s : State) (k : Nat) (v : LogCycle) : (s.setLogAt k v).doze = s.doze := rfl
@[simp] theorem State.setLogAt_devRst (s : State) (k : Nat) (v : LogCycle) : (s.setLogAt k v).devRst = s.devRst := rfl
@[simp] theorem State.setLogAt_scrub (s : State) (k : Nat) (v : LogCycle) : (s.setLogAt k v).scrub = s.scrub := rfl
@[simp] theorem State.setLogAt_pps (s : State) (k : Nat) (v : LogCycle) : (s.setLogAt k v).pps = s.pps := rfl
@[simp] theorem State.setLogAt_pwr (s : State) (k : Nat) (v : LogCycle) : (s.setLogAt k v).pwr = s.pwr := rfl
@[simp] theorem State.setLogAt_link (s : State) (k : Nat) (v : LogCycle) : (s.setLogAt k v).link = s.link := rfl
@[simp] theorem State.setLogAt_txs (s : State) (k : Nat) (v : LogCycle) : (s.setLogAt k v).txs = s.txs := rfl
@[simp] theorem State.setLogAt_win (s : State) (k : Nat) (v : LogCycle) : (s.setLogAt k v).win = s.win := rfl
@[simp] theorem State.setLogAt_lku (s : State) (k : Nat) (v : LogCycle) : (s.setLogAt k v).lku = s.lku := rfl
@[simp] theorem State.setLogAt_gt (s : State) (k : Nat) (v : LogCycle) : (s.setLogAt k v).gt = s.gt := rfl
@[simp] theorem State.setLogAt_boot (s : State) (k : Nat) (v : LogCycle) : (s.setLogAt k v).boot = s.boot := rfl
@[simp] theorem State.setLogAt_graft (s : State) (k : Nat) (v : LogCycle) : (s.setLogAt k v).graft = s.graft := rfl
@[simp] theorem State.setLogAt_ku (s : State) (k : Nat) (v : LogCycle) : (s.setLogAt k v).ku = s.ku := rfl
@[simp] theorem State.setLogAt_dbg (s : State) (k : Nat) (v : LogCycle) : (s.setLogAt k v).dbg = s.dbg := rfl
@[simp] theorem State.setLogAt_smb (s : State) (k : Nat) (v : LogCycle) : (s.setLogAt k v).smb = s.smb := rfl
@[simp] theorem State.setLogAt_spi (s : State) (k : Nat) (v : LogCycle) : (s.setLogAt k v).spi = s.spi := rfl
@[simp] theorem State.setLogAt_pending (s : State) (k : Nat) (v : LogCycle) : (s.setLogAt k v).pending = s.pending := rfl
@[simp] theorem State.setLogAt_out (s : State) (k : Nat) (v : LogCycle) : (s.setLogAt k v).out = s.out := rfl
@[simp] theorem State.setLogAt_free (s : State) (k : Nat) (v : LogCycle) : (s.setLogAt k v).free = s.free := rfl
@[simp] theorem State.setTz_tzOf (s : State) (k : Nat) (v : TzS) : (s.setTz k v).tzOf k = v := Store.get_set_same _ _ _ _
theorem State.setTz_tzOf_ne (s : State) {j k : Nat} (v : TzS) (h : k ≠ j) : (s.setTz j v).tzOf k = s.tzOf k := Store.get_set_ne _ _ _ h
@[simp] theorem State.setTz_now (s : State) (k : Nat) (v : TzS) : (s.setTz k v).now = s.now := rfl
@[simp] theorem State.setTz_regs (s : State) (k : Nat) (v : TzS) : (s.setTz k v).regs = s.regs := rfl
@[simp] theorem State.setTz_written (s : State) (k : Nat) (v : TzS) : (s.setTz k v).written = s.written := rfl
@[simp] theorem State.setTz_hw (s : State) (k : Nat) (v : TzS) : (s.setTz k v).hw = s.hw := rfl
@[simp] theorem State.setTz_ich (s : State) (k : Nat) (v : TzS) : (s.setTz k v).ich = s.ich := rfl
@[simp] theorem State.setTz_wc (s : State) (k : Nat) (v : TzS) : (s.setTz k v).wc = s.wc := rfl
@[simp] theorem State.setTz_calDue (s : State) (k : Nat) (v : TzS) : (s.setTz k v).calDue = s.calDue := rfl
@[simp] theorem State.setTz_berth (s : State) (k : Nat) (v : TzS) : (s.setTz k v).berth = s.berth := rfl
@[simp] theorem State.setTz_armed (s : State) (k : Nat) (v : TzS) : (s.setTz k v).armed = s.armed := rfl
@[simp] theorem State.setTz_admq (s : State) (k : Nat) (v : TzS) : (s.setTz k v).admq = s.admq := rfl
@[simp] theorem State.setTz_crane (s : State) (k : Nat) (v : TzS) : (s.setTz k v).crane = s.crane := rfl
@[simp] theorem State.setTz_rounds (s : State) (k : Nat) (v : TzS) : (s.setTz k v).rounds = s.rounds := rfl
@[simp] theorem State.setTz_bstore (s : State) (k : Nat) (v : TzS) : (s.setTz k v).bstore = s.bstore := rfl
@[simp] theorem State.setTz_bstoreAt (s : State) (k : Nat) (v : TzS) : (s.setTz k v).bstoreAt = s.bstoreAt := rfl
@[simp] theorem State.setTz_bram (s : State) (k : Nat) (v : TzS) : (s.setTz k v).bram = s.bram := rfl
@[simp] theorem State.setTz_engW (s : State) (k : Nat) (v : TzS) : (s.setTz k v).engW = s.engW := rfl
@[simp] theorem State.setTz_cu (s : State) (k : Nat) (v : TzS) : (s.setTz k v).cu = s.cu := rfl
@[simp] theorem State.setTz_sram (s : State) (k : Nat) (v : TzS) : (s.setTz k v).sram = s.sram := rfl
@[simp] theorem State.setTz_logAt (s : State) (k : Nat) (v : TzS) : (s.setTz k v).logAt = s.logAt := rfl
@[simp] theorem State.setTz_tripPin (s : State) (k : Nat) (v : TzS) : (s.setTz k v).tripPin = s.tripPin := rfl
@[simp] theorem State.setTz_tb (s : State) (k : Nat) (v : TzS) : (s.setTz k v).tb = s.tb := rfl
@[simp] theorem State.setTz_tbLatch (s : State) (k : Nat) (v : TzS) : (s.setTz k v).tbLatch = s.tbLatch := rfl
@[simp] theorem State.setTz_srcAt (s : State) (k : Nat) (v : TzS) : (s.setTz k v).srcAt = s.srcAt := rfl
@[simp] theorem State.setTz_ev (s : State) (k : Nat) (v : TzS) : (s.setTz k v).ev = s.ev := rfl
@[simp] theorem State.setTz_lc (s : State) (k : Nat) (v : TzS) : (s.setTz k v).lc = s.lc := rfl
@[simp] theorem State.setTz_divAt (s : State) (k : Nat) (v : TzS) : (s.setTz k v).divAt = s.divAt := rfl
@[simp] theorem State.setTz_sc (s : State) (k : Nat) (v : TzS) : (s.setTz k v).sc = s.sc := rfl
@[simp] theorem State.setTz_mt (s : State) (k : Nat) (v : TzS) : (s.setTz k v).mt = s.mt := rfl
@[simp] theorem State.setTz_mf (s : State) (k : Nat) (v : TzS) : (s.setTz k v).mf = s.mf := rfl
@[simp] theorem State.setTz_mfu (s : State) (k : Nat) (v : TzS) : (s.setTz k v).mfu = s.mfu := rfl
@[simp] theorem State.setTz_journal (s : State) (k : Nat) (v : TzS) : (s.setTz k v).journal = s.journal := rfl
@[simp] theorem State.setTz_fl (s : State) (k : Nat) (v : TzS) : (s.setTz k v).fl = s.fl := rfl
@[simp] theorem State.setTz_flash (s : State) (k : Nat) (v : TzS) : (s.setTz k v).flash = s.flash := rfl
@[simp] theorem State.setTz_flBlk (s : State) (k : Nat) (v : TzS) : (s.setTz k v).flBlk = s.flBlk := rfl
@[simp] theorem State.setTz_flWear (s : State) (k : Nat) (v : TzS) : (s.setTz k v).flWear = s.flWear := rfl
@[simp] theorem State.setTz_otp (s : State) (k : Nat) (v : TzS) : (s.setTz k v).otp = s.otp := rfl
@[simp] theorem State.setTz_gpioPad (s : State) (k : Nat) (v : TzS) : (s.setTz k v).gpioPad = s.gpioPad := rfl
@[simp] theorem State.setTz_lkWake (s : State) (k : Nat) (v : TzS) : (s.setTz k v).lkWake = s.lkWake := rfl
@[simp] theorem State.setTz_lkDrive (s : State) (k : Nat) (v : TzS) : (s.setTz k v).lkDrive = s.lkDrive := rfl
@[simp] theorem State.setTz_rung (s : State) (k : Nat) (v : TzS) : (s.setTz k v).rung = s.rung := rfl
@[simp] theorem State.setTz_wake (s : State) (k : Nat) (v : TzS) : (s.setTz k v).wake = s.wake := rfl
@[simp] theorem State.setTz_core (s : State) (k : Nat) (v : TzS) : (s.setTz k v).core = s.core := rfl
@[simp] theorem State.setTz_bank (s : State) (k : Nat) (v : TzS) : (s.setTz k v).bank = s.bank := rfl
@[simp] theorem State.setTz_lock (s : State) (k : Nat) (v : TzS) : (s.setTz k v).lock = s.lock := rfl
@[simp] theorem State.setTz_tide (s : State) (k : Nat) (v : TzS) : (s.setTz k v).tide = s.tide := rfl
@[simp] theorem State.setTz_snap (s : State) (k : Nat) (v : TzS) : (s.setTz k v).snap = s.snap := rfl
@[simp] theorem State.setTz_vsrc (s : State) (k : Nat) (v : TzS) : (s.setTz k v).vsrc = s.vsrc := rfl
@[simp] theorem State.setTz_doze (s : State) (k : Nat) (v : TzS) : (s.setTz k v).doze = s.doze := rfl
@[simp] theorem State.setTz_devRst (s : State) (k : Nat) (v : TzS) : (s.setTz k v).devRst = s.devRst := rfl
@[simp] theorem State.setTz_scrub (s : State) (k : Nat) (v : TzS) : (s.setTz k v).scrub = s.scrub := rfl
@[simp] theorem State.setTz_pps (s : State) (k : Nat) (v : TzS) : (s.setTz k v).pps = s.pps := rfl
@[simp] theorem State.setTz_pwr (s : State) (k : Nat) (v : TzS) : (s.setTz k v).pwr = s.pwr := rfl
@[simp] theorem State.setTz_link (s : State) (k : Nat) (v : TzS) : (s.setTz k v).link = s.link := rfl
@[simp] theorem State.setTz_txs (s : State) (k : Nat) (v : TzS) : (s.setTz k v).txs = s.txs := rfl
@[simp] theorem State.setTz_win (s : State) (k : Nat) (v : TzS) : (s.setTz k v).win = s.win := rfl
@[simp] theorem State.setTz_lku (s : State) (k : Nat) (v : TzS) : (s.setTz k v).lku = s.lku := rfl
@[simp] theorem State.setTz_gt (s : State) (k : Nat) (v : TzS) : (s.setTz k v).gt = s.gt := rfl
@[simp] theorem State.setTz_boot (s : State) (k : Nat) (v : TzS) : (s.setTz k v).boot = s.boot := rfl
@[simp] theorem State.setTz_graft (s : State) (k : Nat) (v : TzS) : (s.setTz k v).graft = s.graft := rfl
@[simp] theorem State.setTz_ku (s : State) (k : Nat) (v : TzS) : (s.setTz k v).ku = s.ku := rfl
@[simp] theorem State.setTz_dbg (s : State) (k : Nat) (v : TzS) : (s.setTz k v).dbg = s.dbg := rfl
@[simp] theorem State.setTz_smb (s : State) (k : Nat) (v : TzS) : (s.setTz k v).smb = s.smb := rfl
@[simp] theorem State.setTz_spi (s : State) (k : Nat) (v : TzS) : (s.setTz k v).spi = s.spi := rfl
@[simp] theorem State.setTz_pending (s : State) (k : Nat) (v : TzS) : (s.setTz k v).pending = s.pending := rfl
@[simp] theorem State.setTz_out (s : State) (k : Nat) (v : TzS) : (s.setTz k v).out = s.out := rfl
@[simp] theorem State.setTz_free (s : State) (k : Nat) (v : TzS) : (s.setTz k v).free = s.free := rfl
@[simp] theorem State.setTripPin_tripPinOf (s : State) (k : Nat) (v : PinIn) : (s.setTripPin k v).tripPinOf k = v := Store.get_set_same _ _ _ _
theorem State.setTripPin_tripPinOf_ne (s : State) {j k : Nat} (v : PinIn) (h : k ≠ j) : (s.setTripPin j v).tripPinOf k = s.tripPinOf k := Store.get_set_ne _ _ _ h
@[simp] theorem State.setTripPin_now (s : State) (k : Nat) (v : PinIn) : (s.setTripPin k v).now = s.now := rfl
@[simp] theorem State.setTripPin_regs (s : State) (k : Nat) (v : PinIn) : (s.setTripPin k v).regs = s.regs := rfl
@[simp] theorem State.setTripPin_written (s : State) (k : Nat) (v : PinIn) : (s.setTripPin k v).written = s.written := rfl
@[simp] theorem State.setTripPin_hw (s : State) (k : Nat) (v : PinIn) : (s.setTripPin k v).hw = s.hw := rfl
@[simp] theorem State.setTripPin_ich (s : State) (k : Nat) (v : PinIn) : (s.setTripPin k v).ich = s.ich := rfl
@[simp] theorem State.setTripPin_wc (s : State) (k : Nat) (v : PinIn) : (s.setTripPin k v).wc = s.wc := rfl
@[simp] theorem State.setTripPin_calDue (s : State) (k : Nat) (v : PinIn) : (s.setTripPin k v).calDue = s.calDue := rfl
@[simp] theorem State.setTripPin_berth (s : State) (k : Nat) (v : PinIn) : (s.setTripPin k v).berth = s.berth := rfl
@[simp] theorem State.setTripPin_armed (s : State) (k : Nat) (v : PinIn) : (s.setTripPin k v).armed = s.armed := rfl
@[simp] theorem State.setTripPin_admq (s : State) (k : Nat) (v : PinIn) : (s.setTripPin k v).admq = s.admq := rfl
@[simp] theorem State.setTripPin_crane (s : State) (k : Nat) (v : PinIn) : (s.setTripPin k v).crane = s.crane := rfl
@[simp] theorem State.setTripPin_rounds (s : State) (k : Nat) (v : PinIn) : (s.setTripPin k v).rounds = s.rounds := rfl
@[simp] theorem State.setTripPin_bstore (s : State) (k : Nat) (v : PinIn) : (s.setTripPin k v).bstore = s.bstore := rfl
@[simp] theorem State.setTripPin_bstoreAt (s : State) (k : Nat) (v : PinIn) : (s.setTripPin k v).bstoreAt = s.bstoreAt := rfl
@[simp] theorem State.setTripPin_bram (s : State) (k : Nat) (v : PinIn) : (s.setTripPin k v).bram = s.bram := rfl
@[simp] theorem State.setTripPin_engW (s : State) (k : Nat) (v : PinIn) : (s.setTripPin k v).engW = s.engW := rfl
@[simp] theorem State.setTripPin_cu (s : State) (k : Nat) (v : PinIn) : (s.setTripPin k v).cu = s.cu := rfl
@[simp] theorem State.setTripPin_sram (s : State) (k : Nat) (v : PinIn) : (s.setTripPin k v).sram = s.sram := rfl
@[simp] theorem State.setTripPin_logAt (s : State) (k : Nat) (v : PinIn) : (s.setTripPin k v).logAt = s.logAt := rfl
@[simp] theorem State.setTripPin_tz (s : State) (k : Nat) (v : PinIn) : (s.setTripPin k v).tz = s.tz := rfl
@[simp] theorem State.setTripPin_tb (s : State) (k : Nat) (v : PinIn) : (s.setTripPin k v).tb = s.tb := rfl
@[simp] theorem State.setTripPin_tbLatch (s : State) (k : Nat) (v : PinIn) : (s.setTripPin k v).tbLatch = s.tbLatch := rfl
@[simp] theorem State.setTripPin_srcAt (s : State) (k : Nat) (v : PinIn) : (s.setTripPin k v).srcAt = s.srcAt := rfl
@[simp] theorem State.setTripPin_ev (s : State) (k : Nat) (v : PinIn) : (s.setTripPin k v).ev = s.ev := rfl
@[simp] theorem State.setTripPin_lc (s : State) (k : Nat) (v : PinIn) : (s.setTripPin k v).lc = s.lc := rfl
@[simp] theorem State.setTripPin_divAt (s : State) (k : Nat) (v : PinIn) : (s.setTripPin k v).divAt = s.divAt := rfl
@[simp] theorem State.setTripPin_sc (s : State) (k : Nat) (v : PinIn) : (s.setTripPin k v).sc = s.sc := rfl
@[simp] theorem State.setTripPin_mt (s : State) (k : Nat) (v : PinIn) : (s.setTripPin k v).mt = s.mt := rfl
@[simp] theorem State.setTripPin_mf (s : State) (k : Nat) (v : PinIn) : (s.setTripPin k v).mf = s.mf := rfl
@[simp] theorem State.setTripPin_mfu (s : State) (k : Nat) (v : PinIn) : (s.setTripPin k v).mfu = s.mfu := rfl
@[simp] theorem State.setTripPin_journal (s : State) (k : Nat) (v : PinIn) : (s.setTripPin k v).journal = s.journal := rfl
@[simp] theorem State.setTripPin_fl (s : State) (k : Nat) (v : PinIn) : (s.setTripPin k v).fl = s.fl := rfl
@[simp] theorem State.setTripPin_flash (s : State) (k : Nat) (v : PinIn) : (s.setTripPin k v).flash = s.flash := rfl
@[simp] theorem State.setTripPin_flBlk (s : State) (k : Nat) (v : PinIn) : (s.setTripPin k v).flBlk = s.flBlk := rfl
@[simp] theorem State.setTripPin_flWear (s : State) (k : Nat) (v : PinIn) : (s.setTripPin k v).flWear = s.flWear := rfl
@[simp] theorem State.setTripPin_otp (s : State) (k : Nat) (v : PinIn) : (s.setTripPin k v).otp = s.otp := rfl
@[simp] theorem State.setTripPin_gpioPad (s : State) (k : Nat) (v : PinIn) : (s.setTripPin k v).gpioPad = s.gpioPad := rfl
@[simp] theorem State.setTripPin_lkWake (s : State) (k : Nat) (v : PinIn) : (s.setTripPin k v).lkWake = s.lkWake := rfl
@[simp] theorem State.setTripPin_lkDrive (s : State) (k : Nat) (v : PinIn) : (s.setTripPin k v).lkDrive = s.lkDrive := rfl
@[simp] theorem State.setTripPin_rung (s : State) (k : Nat) (v : PinIn) : (s.setTripPin k v).rung = s.rung := rfl
@[simp] theorem State.setTripPin_wake (s : State) (k : Nat) (v : PinIn) : (s.setTripPin k v).wake = s.wake := rfl
@[simp] theorem State.setTripPin_core (s : State) (k : Nat) (v : PinIn) : (s.setTripPin k v).core = s.core := rfl
@[simp] theorem State.setTripPin_bank (s : State) (k : Nat) (v : PinIn) : (s.setTripPin k v).bank = s.bank := rfl
@[simp] theorem State.setTripPin_lock (s : State) (k : Nat) (v : PinIn) : (s.setTripPin k v).lock = s.lock := rfl
@[simp] theorem State.setTripPin_tide (s : State) (k : Nat) (v : PinIn) : (s.setTripPin k v).tide = s.tide := rfl
@[simp] theorem State.setTripPin_snap (s : State) (k : Nat) (v : PinIn) : (s.setTripPin k v).snap = s.snap := rfl
@[simp] theorem State.setTripPin_vsrc (s : State) (k : Nat) (v : PinIn) : (s.setTripPin k v).vsrc = s.vsrc := rfl
@[simp] theorem State.setTripPin_doze (s : State) (k : Nat) (v : PinIn) : (s.setTripPin k v).doze = s.doze := rfl
@[simp] theorem State.setTripPin_devRst (s : State) (k : Nat) (v : PinIn) : (s.setTripPin k v).devRst = s.devRst := rfl
@[simp] theorem State.setTripPin_scrub (s : State) (k : Nat) (v : PinIn) : (s.setTripPin k v).scrub = s.scrub := rfl
@[simp] theorem State.setTripPin_pps (s : State) (k : Nat) (v : PinIn) : (s.setTripPin k v).pps = s.pps := rfl
@[simp] theorem State.setTripPin_pwr (s : State) (k : Nat) (v : PinIn) : (s.setTripPin k v).pwr = s.pwr := rfl
@[simp] theorem State.setTripPin_link (s : State) (k : Nat) (v : PinIn) : (s.setTripPin k v).link = s.link := rfl
@[simp] theorem State.setTripPin_txs (s : State) (k : Nat) (v : PinIn) : (s.setTripPin k v).txs = s.txs := rfl
@[simp] theorem State.setTripPin_win (s : State) (k : Nat) (v : PinIn) : (s.setTripPin k v).win = s.win := rfl
@[simp] theorem State.setTripPin_lku (s : State) (k : Nat) (v : PinIn) : (s.setTripPin k v).lku = s.lku := rfl
@[simp] theorem State.setTripPin_gt (s : State) (k : Nat) (v : PinIn) : (s.setTripPin k v).gt = s.gt := rfl
@[simp] theorem State.setTripPin_boot (s : State) (k : Nat) (v : PinIn) : (s.setTripPin k v).boot = s.boot := rfl
@[simp] theorem State.setTripPin_graft (s : State) (k : Nat) (v : PinIn) : (s.setTripPin k v).graft = s.graft := rfl
@[simp] theorem State.setTripPin_ku (s : State) (k : Nat) (v : PinIn) : (s.setTripPin k v).ku = s.ku := rfl
@[simp] theorem State.setTripPin_dbg (s : State) (k : Nat) (v : PinIn) : (s.setTripPin k v).dbg = s.dbg := rfl
@[simp] theorem State.setTripPin_smb (s : State) (k : Nat) (v : PinIn) : (s.setTripPin k v).smb = s.smb := rfl
@[simp] theorem State.setTripPin_spi (s : State) (k : Nat) (v : PinIn) : (s.setTripPin k v).spi = s.spi := rfl
@[simp] theorem State.setTripPin_pending (s : State) (k : Nat) (v : PinIn) : (s.setTripPin k v).pending = s.pending := rfl
@[simp] theorem State.setTripPin_out (s : State) (k : Nat) (v : PinIn) : (s.setTripPin k v).out = s.out := rfl
@[simp] theorem State.setTripPin_free (s : State) (k : Nat) (v : PinIn) : (s.setTripPin k v).free = s.free := rfl
@[simp] theorem State.setTbLatch_tbLatchOf (s : State) (k : Nat) (v : Nat) : (s.setTbLatch k v).tbLatchOf k = v := Store.get_set_same _ _ _ _
theorem State.setTbLatch_tbLatchOf_ne (s : State) {j k : Nat} (v : Nat) (h : k ≠ j) : (s.setTbLatch j v).tbLatchOf k = s.tbLatchOf k := Store.get_set_ne _ _ _ h
@[simp] theorem State.setTbLatch_now (s : State) (k : Nat) (v : Nat) : (s.setTbLatch k v).now = s.now := rfl
@[simp] theorem State.setTbLatch_regs (s : State) (k : Nat) (v : Nat) : (s.setTbLatch k v).regs = s.regs := rfl
@[simp] theorem State.setTbLatch_written (s : State) (k : Nat) (v : Nat) : (s.setTbLatch k v).written = s.written := rfl
@[simp] theorem State.setTbLatch_hw (s : State) (k : Nat) (v : Nat) : (s.setTbLatch k v).hw = s.hw := rfl
@[simp] theorem State.setTbLatch_ich (s : State) (k : Nat) (v : Nat) : (s.setTbLatch k v).ich = s.ich := rfl
@[simp] theorem State.setTbLatch_wc (s : State) (k : Nat) (v : Nat) : (s.setTbLatch k v).wc = s.wc := rfl
@[simp] theorem State.setTbLatch_calDue (s : State) (k : Nat) (v : Nat) : (s.setTbLatch k v).calDue = s.calDue := rfl
@[simp] theorem State.setTbLatch_berth (s : State) (k : Nat) (v : Nat) : (s.setTbLatch k v).berth = s.berth := rfl
@[simp] theorem State.setTbLatch_armed (s : State) (k : Nat) (v : Nat) : (s.setTbLatch k v).armed = s.armed := rfl
@[simp] theorem State.setTbLatch_admq (s : State) (k : Nat) (v : Nat) : (s.setTbLatch k v).admq = s.admq := rfl
@[simp] theorem State.setTbLatch_crane (s : State) (k : Nat) (v : Nat) : (s.setTbLatch k v).crane = s.crane := rfl
@[simp] theorem State.setTbLatch_rounds (s : State) (k : Nat) (v : Nat) : (s.setTbLatch k v).rounds = s.rounds := rfl
@[simp] theorem State.setTbLatch_bstore (s : State) (k : Nat) (v : Nat) : (s.setTbLatch k v).bstore = s.bstore := rfl
@[simp] theorem State.setTbLatch_bstoreAt (s : State) (k : Nat) (v : Nat) : (s.setTbLatch k v).bstoreAt = s.bstoreAt := rfl
@[simp] theorem State.setTbLatch_bram (s : State) (k : Nat) (v : Nat) : (s.setTbLatch k v).bram = s.bram := rfl
@[simp] theorem State.setTbLatch_engW (s : State) (k : Nat) (v : Nat) : (s.setTbLatch k v).engW = s.engW := rfl
@[simp] theorem State.setTbLatch_cu (s : State) (k : Nat) (v : Nat) : (s.setTbLatch k v).cu = s.cu := rfl
@[simp] theorem State.setTbLatch_sram (s : State) (k : Nat) (v : Nat) : (s.setTbLatch k v).sram = s.sram := rfl
@[simp] theorem State.setTbLatch_logAt (s : State) (k : Nat) (v : Nat) : (s.setTbLatch k v).logAt = s.logAt := rfl
@[simp] theorem State.setTbLatch_tz (s : State) (k : Nat) (v : Nat) : (s.setTbLatch k v).tz = s.tz := rfl
@[simp] theorem State.setTbLatch_tripPin (s : State) (k : Nat) (v : Nat) : (s.setTbLatch k v).tripPin = s.tripPin := rfl
@[simp] theorem State.setTbLatch_tb (s : State) (k : Nat) (v : Nat) : (s.setTbLatch k v).tb = s.tb := rfl
@[simp] theorem State.setTbLatch_srcAt (s : State) (k : Nat) (v : Nat) : (s.setTbLatch k v).srcAt = s.srcAt := rfl
@[simp] theorem State.setTbLatch_ev (s : State) (k : Nat) (v : Nat) : (s.setTbLatch k v).ev = s.ev := rfl
@[simp] theorem State.setTbLatch_lc (s : State) (k : Nat) (v : Nat) : (s.setTbLatch k v).lc = s.lc := rfl
@[simp] theorem State.setTbLatch_divAt (s : State) (k : Nat) (v : Nat) : (s.setTbLatch k v).divAt = s.divAt := rfl
@[simp] theorem State.setTbLatch_sc (s : State) (k : Nat) (v : Nat) : (s.setTbLatch k v).sc = s.sc := rfl
@[simp] theorem State.setTbLatch_mt (s : State) (k : Nat) (v : Nat) : (s.setTbLatch k v).mt = s.mt := rfl
@[simp] theorem State.setTbLatch_mf (s : State) (k : Nat) (v : Nat) : (s.setTbLatch k v).mf = s.mf := rfl
@[simp] theorem State.setTbLatch_mfu (s : State) (k : Nat) (v : Nat) : (s.setTbLatch k v).mfu = s.mfu := rfl
@[simp] theorem State.setTbLatch_journal (s : State) (k : Nat) (v : Nat) : (s.setTbLatch k v).journal = s.journal := rfl
@[simp] theorem State.setTbLatch_fl (s : State) (k : Nat) (v : Nat) : (s.setTbLatch k v).fl = s.fl := rfl
@[simp] theorem State.setTbLatch_flash (s : State) (k : Nat) (v : Nat) : (s.setTbLatch k v).flash = s.flash := rfl
@[simp] theorem State.setTbLatch_flBlk (s : State) (k : Nat) (v : Nat) : (s.setTbLatch k v).flBlk = s.flBlk := rfl
@[simp] theorem State.setTbLatch_flWear (s : State) (k : Nat) (v : Nat) : (s.setTbLatch k v).flWear = s.flWear := rfl
@[simp] theorem State.setTbLatch_otp (s : State) (k : Nat) (v : Nat) : (s.setTbLatch k v).otp = s.otp := rfl
@[simp] theorem State.setTbLatch_gpioPad (s : State) (k : Nat) (v : Nat) : (s.setTbLatch k v).gpioPad = s.gpioPad := rfl
@[simp] theorem State.setTbLatch_lkWake (s : State) (k : Nat) (v : Nat) : (s.setTbLatch k v).lkWake = s.lkWake := rfl
@[simp] theorem State.setTbLatch_lkDrive (s : State) (k : Nat) (v : Nat) : (s.setTbLatch k v).lkDrive = s.lkDrive := rfl
@[simp] theorem State.setTbLatch_rung (s : State) (k : Nat) (v : Nat) : (s.setTbLatch k v).rung = s.rung := rfl
@[simp] theorem State.setTbLatch_wake (s : State) (k : Nat) (v : Nat) : (s.setTbLatch k v).wake = s.wake := rfl
@[simp] theorem State.setTbLatch_core (s : State) (k : Nat) (v : Nat) : (s.setTbLatch k v).core = s.core := rfl
@[simp] theorem State.setTbLatch_bank (s : State) (k : Nat) (v : Nat) : (s.setTbLatch k v).bank = s.bank := rfl
@[simp] theorem State.setTbLatch_lock (s : State) (k : Nat) (v : Nat) : (s.setTbLatch k v).lock = s.lock := rfl
@[simp] theorem State.setTbLatch_tide (s : State) (k : Nat) (v : Nat) : (s.setTbLatch k v).tide = s.tide := rfl
@[simp] theorem State.setTbLatch_snap (s : State) (k : Nat) (v : Nat) : (s.setTbLatch k v).snap = s.snap := rfl
@[simp] theorem State.setTbLatch_vsrc (s : State) (k : Nat) (v : Nat) : (s.setTbLatch k v).vsrc = s.vsrc := rfl
@[simp] theorem State.setTbLatch_doze (s : State) (k : Nat) (v : Nat) : (s.setTbLatch k v).doze = s.doze := rfl
@[simp] theorem State.setTbLatch_devRst (s : State) (k : Nat) (v : Nat) : (s.setTbLatch k v).devRst = s.devRst := rfl
@[simp] theorem State.setTbLatch_scrub (s : State) (k : Nat) (v : Nat) : (s.setTbLatch k v).scrub = s.scrub := rfl
@[simp] theorem State.setTbLatch_pps (s : State) (k : Nat) (v : Nat) : (s.setTbLatch k v).pps = s.pps := rfl
@[simp] theorem State.setTbLatch_pwr (s : State) (k : Nat) (v : Nat) : (s.setTbLatch k v).pwr = s.pwr := rfl
@[simp] theorem State.setTbLatch_link (s : State) (k : Nat) (v : Nat) : (s.setTbLatch k v).link = s.link := rfl
@[simp] theorem State.setTbLatch_txs (s : State) (k : Nat) (v : Nat) : (s.setTbLatch k v).txs = s.txs := rfl
@[simp] theorem State.setTbLatch_win (s : State) (k : Nat) (v : Nat) : (s.setTbLatch k v).win = s.win := rfl
@[simp] theorem State.setTbLatch_lku (s : State) (k : Nat) (v : Nat) : (s.setTbLatch k v).lku = s.lku := rfl
@[simp] theorem State.setTbLatch_gt (s : State) (k : Nat) (v : Nat) : (s.setTbLatch k v).gt = s.gt := rfl
@[simp] theorem State.setTbLatch_boot (s : State) (k : Nat) (v : Nat) : (s.setTbLatch k v).boot = s.boot := rfl
@[simp] theorem State.setTbLatch_graft (s : State) (k : Nat) (v : Nat) : (s.setTbLatch k v).graft = s.graft := rfl
@[simp] theorem State.setTbLatch_ku (s : State) (k : Nat) (v : Nat) : (s.setTbLatch k v).ku = s.ku := rfl
@[simp] theorem State.setTbLatch_dbg (s : State) (k : Nat) (v : Nat) : (s.setTbLatch k v).dbg = s.dbg := rfl
@[simp] theorem State.setTbLatch_smb (s : State) (k : Nat) (v : Nat) : (s.setTbLatch k v).smb = s.smb := rfl
@[simp] theorem State.setTbLatch_spi (s : State) (k : Nat) (v : Nat) : (s.setTbLatch k v).spi = s.spi := rfl
@[simp] theorem State.setTbLatch_pending (s : State) (k : Nat) (v : Nat) : (s.setTbLatch k v).pending = s.pending := rfl
@[simp] theorem State.setTbLatch_out (s : State) (k : Nat) (v : Nat) : (s.setTbLatch k v).out = s.out := rfl
@[simp] theorem State.setTbLatch_free (s : State) (k : Nat) (v : Nat) : (s.setTbLatch k v).free = s.free := rfl
@[simp] theorem State.setSrcAt_srcAtOf (s : State) (k : Nat) (v : (Option Int)) : (s.setSrcAt k v).srcAtOf k = v := Store.get_set_same _ _ _ _
theorem State.setSrcAt_srcAtOf_ne (s : State) {j k : Nat} (v : (Option Int)) (h : k ≠ j) : (s.setSrcAt j v).srcAtOf k = s.srcAtOf k := Store.get_set_ne _ _ _ h
@[simp] theorem State.setSrcAt_now (s : State) (k : Nat) (v : (Option Int)) : (s.setSrcAt k v).now = s.now := rfl
@[simp] theorem State.setSrcAt_regs (s : State) (k : Nat) (v : (Option Int)) : (s.setSrcAt k v).regs = s.regs := rfl
@[simp] theorem State.setSrcAt_written (s : State) (k : Nat) (v : (Option Int)) : (s.setSrcAt k v).written = s.written := rfl
@[simp] theorem State.setSrcAt_hw (s : State) (k : Nat) (v : (Option Int)) : (s.setSrcAt k v).hw = s.hw := rfl
@[simp] theorem State.setSrcAt_ich (s : State) (k : Nat) (v : (Option Int)) : (s.setSrcAt k v).ich = s.ich := rfl
@[simp] theorem State.setSrcAt_wc (s : State) (k : Nat) (v : (Option Int)) : (s.setSrcAt k v).wc = s.wc := rfl
@[simp] theorem State.setSrcAt_calDue (s : State) (k : Nat) (v : (Option Int)) : (s.setSrcAt k v).calDue = s.calDue := rfl
@[simp] theorem State.setSrcAt_berth (s : State) (k : Nat) (v : (Option Int)) : (s.setSrcAt k v).berth = s.berth := rfl
@[simp] theorem State.setSrcAt_armed (s : State) (k : Nat) (v : (Option Int)) : (s.setSrcAt k v).armed = s.armed := rfl
@[simp] theorem State.setSrcAt_admq (s : State) (k : Nat) (v : (Option Int)) : (s.setSrcAt k v).admq = s.admq := rfl
@[simp] theorem State.setSrcAt_crane (s : State) (k : Nat) (v : (Option Int)) : (s.setSrcAt k v).crane = s.crane := rfl
@[simp] theorem State.setSrcAt_rounds (s : State) (k : Nat) (v : (Option Int)) : (s.setSrcAt k v).rounds = s.rounds := rfl
@[simp] theorem State.setSrcAt_bstore (s : State) (k : Nat) (v : (Option Int)) : (s.setSrcAt k v).bstore = s.bstore := rfl
@[simp] theorem State.setSrcAt_bstoreAt (s : State) (k : Nat) (v : (Option Int)) : (s.setSrcAt k v).bstoreAt = s.bstoreAt := rfl
@[simp] theorem State.setSrcAt_bram (s : State) (k : Nat) (v : (Option Int)) : (s.setSrcAt k v).bram = s.bram := rfl
@[simp] theorem State.setSrcAt_engW (s : State) (k : Nat) (v : (Option Int)) : (s.setSrcAt k v).engW = s.engW := rfl
@[simp] theorem State.setSrcAt_cu (s : State) (k : Nat) (v : (Option Int)) : (s.setSrcAt k v).cu = s.cu := rfl
@[simp] theorem State.setSrcAt_sram (s : State) (k : Nat) (v : (Option Int)) : (s.setSrcAt k v).sram = s.sram := rfl
@[simp] theorem State.setSrcAt_logAt (s : State) (k : Nat) (v : (Option Int)) : (s.setSrcAt k v).logAt = s.logAt := rfl
@[simp] theorem State.setSrcAt_tz (s : State) (k : Nat) (v : (Option Int)) : (s.setSrcAt k v).tz = s.tz := rfl
@[simp] theorem State.setSrcAt_tripPin (s : State) (k : Nat) (v : (Option Int)) : (s.setSrcAt k v).tripPin = s.tripPin := rfl
@[simp] theorem State.setSrcAt_tb (s : State) (k : Nat) (v : (Option Int)) : (s.setSrcAt k v).tb = s.tb := rfl
@[simp] theorem State.setSrcAt_tbLatch (s : State) (k : Nat) (v : (Option Int)) : (s.setSrcAt k v).tbLatch = s.tbLatch := rfl
@[simp] theorem State.setSrcAt_ev (s : State) (k : Nat) (v : (Option Int)) : (s.setSrcAt k v).ev = s.ev := rfl
@[simp] theorem State.setSrcAt_lc (s : State) (k : Nat) (v : (Option Int)) : (s.setSrcAt k v).lc = s.lc := rfl
@[simp] theorem State.setSrcAt_divAt (s : State) (k : Nat) (v : (Option Int)) : (s.setSrcAt k v).divAt = s.divAt := rfl
@[simp] theorem State.setSrcAt_sc (s : State) (k : Nat) (v : (Option Int)) : (s.setSrcAt k v).sc = s.sc := rfl
@[simp] theorem State.setSrcAt_mt (s : State) (k : Nat) (v : (Option Int)) : (s.setSrcAt k v).mt = s.mt := rfl
@[simp] theorem State.setSrcAt_mf (s : State) (k : Nat) (v : (Option Int)) : (s.setSrcAt k v).mf = s.mf := rfl
@[simp] theorem State.setSrcAt_mfu (s : State) (k : Nat) (v : (Option Int)) : (s.setSrcAt k v).mfu = s.mfu := rfl
@[simp] theorem State.setSrcAt_journal (s : State) (k : Nat) (v : (Option Int)) : (s.setSrcAt k v).journal = s.journal := rfl
@[simp] theorem State.setSrcAt_fl (s : State) (k : Nat) (v : (Option Int)) : (s.setSrcAt k v).fl = s.fl := rfl
@[simp] theorem State.setSrcAt_flash (s : State) (k : Nat) (v : (Option Int)) : (s.setSrcAt k v).flash = s.flash := rfl
@[simp] theorem State.setSrcAt_flBlk (s : State) (k : Nat) (v : (Option Int)) : (s.setSrcAt k v).flBlk = s.flBlk := rfl
@[simp] theorem State.setSrcAt_flWear (s : State) (k : Nat) (v : (Option Int)) : (s.setSrcAt k v).flWear = s.flWear := rfl
@[simp] theorem State.setSrcAt_otp (s : State) (k : Nat) (v : (Option Int)) : (s.setSrcAt k v).otp = s.otp := rfl
@[simp] theorem State.setSrcAt_gpioPad (s : State) (k : Nat) (v : (Option Int)) : (s.setSrcAt k v).gpioPad = s.gpioPad := rfl
@[simp] theorem State.setSrcAt_lkWake (s : State) (k : Nat) (v : (Option Int)) : (s.setSrcAt k v).lkWake = s.lkWake := rfl
@[simp] theorem State.setSrcAt_lkDrive (s : State) (k : Nat) (v : (Option Int)) : (s.setSrcAt k v).lkDrive = s.lkDrive := rfl
@[simp] theorem State.setSrcAt_rung (s : State) (k : Nat) (v : (Option Int)) : (s.setSrcAt k v).rung = s.rung := rfl
@[simp] theorem State.setSrcAt_wake (s : State) (k : Nat) (v : (Option Int)) : (s.setSrcAt k v).wake = s.wake := rfl
@[simp] theorem State.setSrcAt_core (s : State) (k : Nat) (v : (Option Int)) : (s.setSrcAt k v).core = s.core := rfl
@[simp] theorem State.setSrcAt_bank (s : State) (k : Nat) (v : (Option Int)) : (s.setSrcAt k v).bank = s.bank := rfl
@[simp] theorem State.setSrcAt_lock (s : State) (k : Nat) (v : (Option Int)) : (s.setSrcAt k v).lock = s.lock := rfl
@[simp] theorem State.setSrcAt_tide (s : State) (k : Nat) (v : (Option Int)) : (s.setSrcAt k v).tide = s.tide := rfl
@[simp] theorem State.setSrcAt_snap (s : State) (k : Nat) (v : (Option Int)) : (s.setSrcAt k v).snap = s.snap := rfl
@[simp] theorem State.setSrcAt_vsrc (s : State) (k : Nat) (v : (Option Int)) : (s.setSrcAt k v).vsrc = s.vsrc := rfl
@[simp] theorem State.setSrcAt_doze (s : State) (k : Nat) (v : (Option Int)) : (s.setSrcAt k v).doze = s.doze := rfl
@[simp] theorem State.setSrcAt_devRst (s : State) (k : Nat) (v : (Option Int)) : (s.setSrcAt k v).devRst = s.devRst := rfl
@[simp] theorem State.setSrcAt_scrub (s : State) (k : Nat) (v : (Option Int)) : (s.setSrcAt k v).scrub = s.scrub := rfl
@[simp] theorem State.setSrcAt_pps (s : State) (k : Nat) (v : (Option Int)) : (s.setSrcAt k v).pps = s.pps := rfl
@[simp] theorem State.setSrcAt_pwr (s : State) (k : Nat) (v : (Option Int)) : (s.setSrcAt k v).pwr = s.pwr := rfl
@[simp] theorem State.setSrcAt_link (s : State) (k : Nat) (v : (Option Int)) : (s.setSrcAt k v).link = s.link := rfl
@[simp] theorem State.setSrcAt_txs (s : State) (k : Nat) (v : (Option Int)) : (s.setSrcAt k v).txs = s.txs := rfl
@[simp] theorem State.setSrcAt_win (s : State) (k : Nat) (v : (Option Int)) : (s.setSrcAt k v).win = s.win := rfl
@[simp] theorem State.setSrcAt_lku (s : State) (k : Nat) (v : (Option Int)) : (s.setSrcAt k v).lku = s.lku := rfl
@[simp] theorem State.setSrcAt_gt (s : State) (k : Nat) (v : (Option Int)) : (s.setSrcAt k v).gt = s.gt := rfl
@[simp] theorem State.setSrcAt_boot (s : State) (k : Nat) (v : (Option Int)) : (s.setSrcAt k v).boot = s.boot := rfl
@[simp] theorem State.setSrcAt_graft (s : State) (k : Nat) (v : (Option Int)) : (s.setSrcAt k v).graft = s.graft := rfl
@[simp] theorem State.setSrcAt_ku (s : State) (k : Nat) (v : (Option Int)) : (s.setSrcAt k v).ku = s.ku := rfl
@[simp] theorem State.setSrcAt_dbg (s : State) (k : Nat) (v : (Option Int)) : (s.setSrcAt k v).dbg = s.dbg := rfl
@[simp] theorem State.setSrcAt_smb (s : State) (k : Nat) (v : (Option Int)) : (s.setSrcAt k v).smb = s.smb := rfl
@[simp] theorem State.setSrcAt_spi (s : State) (k : Nat) (v : (Option Int)) : (s.setSrcAt k v).spi = s.spi := rfl
@[simp] theorem State.setSrcAt_pending (s : State) (k : Nat) (v : (Option Int)) : (s.setSrcAt k v).pending = s.pending := rfl
@[simp] theorem State.setSrcAt_out (s : State) (k : Nat) (v : (Option Int)) : (s.setSrcAt k v).out = s.out := rfl
@[simp] theorem State.setSrcAt_free (s : State) (k : Nat) (v : (Option Int)) : (s.setSrcAt k v).free = s.free := rfl
@[simp] theorem State.setEv_evOf (s : State) (k : Nat) (v : EvS) : (s.setEv k v).evOf k = v := Store.get_set_same _ _ _ _
theorem State.setEv_evOf_ne (s : State) {j k : Nat} (v : EvS) (h : k ≠ j) : (s.setEv j v).evOf k = s.evOf k := Store.get_set_ne _ _ _ h
@[simp] theorem State.setEv_now (s : State) (k : Nat) (v : EvS) : (s.setEv k v).now = s.now := rfl
@[simp] theorem State.setEv_regs (s : State) (k : Nat) (v : EvS) : (s.setEv k v).regs = s.regs := rfl
@[simp] theorem State.setEv_written (s : State) (k : Nat) (v : EvS) : (s.setEv k v).written = s.written := rfl
@[simp] theorem State.setEv_hw (s : State) (k : Nat) (v : EvS) : (s.setEv k v).hw = s.hw := rfl
@[simp] theorem State.setEv_ich (s : State) (k : Nat) (v : EvS) : (s.setEv k v).ich = s.ich := rfl
@[simp] theorem State.setEv_wc (s : State) (k : Nat) (v : EvS) : (s.setEv k v).wc = s.wc := rfl
@[simp] theorem State.setEv_calDue (s : State) (k : Nat) (v : EvS) : (s.setEv k v).calDue = s.calDue := rfl
@[simp] theorem State.setEv_berth (s : State) (k : Nat) (v : EvS) : (s.setEv k v).berth = s.berth := rfl
@[simp] theorem State.setEv_armed (s : State) (k : Nat) (v : EvS) : (s.setEv k v).armed = s.armed := rfl
@[simp] theorem State.setEv_admq (s : State) (k : Nat) (v : EvS) : (s.setEv k v).admq = s.admq := rfl
@[simp] theorem State.setEv_crane (s : State) (k : Nat) (v : EvS) : (s.setEv k v).crane = s.crane := rfl
@[simp] theorem State.setEv_rounds (s : State) (k : Nat) (v : EvS) : (s.setEv k v).rounds = s.rounds := rfl
@[simp] theorem State.setEv_bstore (s : State) (k : Nat) (v : EvS) : (s.setEv k v).bstore = s.bstore := rfl
@[simp] theorem State.setEv_bstoreAt (s : State) (k : Nat) (v : EvS) : (s.setEv k v).bstoreAt = s.bstoreAt := rfl
@[simp] theorem State.setEv_bram (s : State) (k : Nat) (v : EvS) : (s.setEv k v).bram = s.bram := rfl
@[simp] theorem State.setEv_engW (s : State) (k : Nat) (v : EvS) : (s.setEv k v).engW = s.engW := rfl
@[simp] theorem State.setEv_cu (s : State) (k : Nat) (v : EvS) : (s.setEv k v).cu = s.cu := rfl
@[simp] theorem State.setEv_sram (s : State) (k : Nat) (v : EvS) : (s.setEv k v).sram = s.sram := rfl
@[simp] theorem State.setEv_logAt (s : State) (k : Nat) (v : EvS) : (s.setEv k v).logAt = s.logAt := rfl
@[simp] theorem State.setEv_tz (s : State) (k : Nat) (v : EvS) : (s.setEv k v).tz = s.tz := rfl
@[simp] theorem State.setEv_tripPin (s : State) (k : Nat) (v : EvS) : (s.setEv k v).tripPin = s.tripPin := rfl
@[simp] theorem State.setEv_tb (s : State) (k : Nat) (v : EvS) : (s.setEv k v).tb = s.tb := rfl
@[simp] theorem State.setEv_tbLatch (s : State) (k : Nat) (v : EvS) : (s.setEv k v).tbLatch = s.tbLatch := rfl
@[simp] theorem State.setEv_srcAt (s : State) (k : Nat) (v : EvS) : (s.setEv k v).srcAt = s.srcAt := rfl
@[simp] theorem State.setEv_lc (s : State) (k : Nat) (v : EvS) : (s.setEv k v).lc = s.lc := rfl
@[simp] theorem State.setEv_divAt (s : State) (k : Nat) (v : EvS) : (s.setEv k v).divAt = s.divAt := rfl
@[simp] theorem State.setEv_sc (s : State) (k : Nat) (v : EvS) : (s.setEv k v).sc = s.sc := rfl
@[simp] theorem State.setEv_mt (s : State) (k : Nat) (v : EvS) : (s.setEv k v).mt = s.mt := rfl
@[simp] theorem State.setEv_mf (s : State) (k : Nat) (v : EvS) : (s.setEv k v).mf = s.mf := rfl
@[simp] theorem State.setEv_mfu (s : State) (k : Nat) (v : EvS) : (s.setEv k v).mfu = s.mfu := rfl
@[simp] theorem State.setEv_journal (s : State) (k : Nat) (v : EvS) : (s.setEv k v).journal = s.journal := rfl
@[simp] theorem State.setEv_fl (s : State) (k : Nat) (v : EvS) : (s.setEv k v).fl = s.fl := rfl
@[simp] theorem State.setEv_flash (s : State) (k : Nat) (v : EvS) : (s.setEv k v).flash = s.flash := rfl
@[simp] theorem State.setEv_flBlk (s : State) (k : Nat) (v : EvS) : (s.setEv k v).flBlk = s.flBlk := rfl
@[simp] theorem State.setEv_flWear (s : State) (k : Nat) (v : EvS) : (s.setEv k v).flWear = s.flWear := rfl
@[simp] theorem State.setEv_otp (s : State) (k : Nat) (v : EvS) : (s.setEv k v).otp = s.otp := rfl
@[simp] theorem State.setEv_gpioPad (s : State) (k : Nat) (v : EvS) : (s.setEv k v).gpioPad = s.gpioPad := rfl
@[simp] theorem State.setEv_lkWake (s : State) (k : Nat) (v : EvS) : (s.setEv k v).lkWake = s.lkWake := rfl
@[simp] theorem State.setEv_lkDrive (s : State) (k : Nat) (v : EvS) : (s.setEv k v).lkDrive = s.lkDrive := rfl
@[simp] theorem State.setEv_rung (s : State) (k : Nat) (v : EvS) : (s.setEv k v).rung = s.rung := rfl
@[simp] theorem State.setEv_wake (s : State) (k : Nat) (v : EvS) : (s.setEv k v).wake = s.wake := rfl
@[simp] theorem State.setEv_core (s : State) (k : Nat) (v : EvS) : (s.setEv k v).core = s.core := rfl
@[simp] theorem State.setEv_bank (s : State) (k : Nat) (v : EvS) : (s.setEv k v).bank = s.bank := rfl
@[simp] theorem State.setEv_lock (s : State) (k : Nat) (v : EvS) : (s.setEv k v).lock = s.lock := rfl
@[simp] theorem State.setEv_tide (s : State) (k : Nat) (v : EvS) : (s.setEv k v).tide = s.tide := rfl
@[simp] theorem State.setEv_snap (s : State) (k : Nat) (v : EvS) : (s.setEv k v).snap = s.snap := rfl
@[simp] theorem State.setEv_vsrc (s : State) (k : Nat) (v : EvS) : (s.setEv k v).vsrc = s.vsrc := rfl
@[simp] theorem State.setEv_doze (s : State) (k : Nat) (v : EvS) : (s.setEv k v).doze = s.doze := rfl
@[simp] theorem State.setEv_devRst (s : State) (k : Nat) (v : EvS) : (s.setEv k v).devRst = s.devRst := rfl
@[simp] theorem State.setEv_scrub (s : State) (k : Nat) (v : EvS) : (s.setEv k v).scrub = s.scrub := rfl
@[simp] theorem State.setEv_pps (s : State) (k : Nat) (v : EvS) : (s.setEv k v).pps = s.pps := rfl
@[simp] theorem State.setEv_pwr (s : State) (k : Nat) (v : EvS) : (s.setEv k v).pwr = s.pwr := rfl
@[simp] theorem State.setEv_link (s : State) (k : Nat) (v : EvS) : (s.setEv k v).link = s.link := rfl
@[simp] theorem State.setEv_txs (s : State) (k : Nat) (v : EvS) : (s.setEv k v).txs = s.txs := rfl
@[simp] theorem State.setEv_win (s : State) (k : Nat) (v : EvS) : (s.setEv k v).win = s.win := rfl
@[simp] theorem State.setEv_lku (s : State) (k : Nat) (v : EvS) : (s.setEv k v).lku = s.lku := rfl
@[simp] theorem State.setEv_gt (s : State) (k : Nat) (v : EvS) : (s.setEv k v).gt = s.gt := rfl
@[simp] theorem State.setEv_boot (s : State) (k : Nat) (v : EvS) : (s.setEv k v).boot = s.boot := rfl
@[simp] theorem State.setEv_graft (s : State) (k : Nat) (v : EvS) : (s.setEv k v).graft = s.graft := rfl
@[simp] theorem State.setEv_ku (s : State) (k : Nat) (v : EvS) : (s.setEv k v).ku = s.ku := rfl
@[simp] theorem State.setEv_dbg (s : State) (k : Nat) (v : EvS) : (s.setEv k v).dbg = s.dbg := rfl
@[simp] theorem State.setEv_smb (s : State) (k : Nat) (v : EvS) : (s.setEv k v).smb = s.smb := rfl
@[simp] theorem State.setEv_spi (s : State) (k : Nat) (v : EvS) : (s.setEv k v).spi = s.spi := rfl
@[simp] theorem State.setEv_pending (s : State) (k : Nat) (v : EvS) : (s.setEv k v).pending = s.pending := rfl
@[simp] theorem State.setEv_out (s : State) (k : Nat) (v : EvS) : (s.setEv k v).out = s.out := rfl
@[simp] theorem State.setEv_free (s : State) (k : Nat) (v : EvS) : (s.setEv k v).free = s.free := rfl
@[simp] theorem State.setLc_lcOf (s : State) (k : Nat) (v : LcS) : (s.setLc k v).lcOf k = v := Store.get_set_same _ _ _ _
theorem State.setLc_lcOf_ne (s : State) {j k : Nat} (v : LcS) (h : k ≠ j) : (s.setLc j v).lcOf k = s.lcOf k := Store.get_set_ne _ _ _ h
@[simp] theorem State.setLc_now (s : State) (k : Nat) (v : LcS) : (s.setLc k v).now = s.now := rfl
@[simp] theorem State.setLc_regs (s : State) (k : Nat) (v : LcS) : (s.setLc k v).regs = s.regs := rfl
@[simp] theorem State.setLc_written (s : State) (k : Nat) (v : LcS) : (s.setLc k v).written = s.written := rfl
@[simp] theorem State.setLc_hw (s : State) (k : Nat) (v : LcS) : (s.setLc k v).hw = s.hw := rfl
@[simp] theorem State.setLc_ich (s : State) (k : Nat) (v : LcS) : (s.setLc k v).ich = s.ich := rfl
@[simp] theorem State.setLc_wc (s : State) (k : Nat) (v : LcS) : (s.setLc k v).wc = s.wc := rfl
@[simp] theorem State.setLc_calDue (s : State) (k : Nat) (v : LcS) : (s.setLc k v).calDue = s.calDue := rfl
@[simp] theorem State.setLc_berth (s : State) (k : Nat) (v : LcS) : (s.setLc k v).berth = s.berth := rfl
@[simp] theorem State.setLc_armed (s : State) (k : Nat) (v : LcS) : (s.setLc k v).armed = s.armed := rfl
@[simp] theorem State.setLc_admq (s : State) (k : Nat) (v : LcS) : (s.setLc k v).admq = s.admq := rfl
@[simp] theorem State.setLc_crane (s : State) (k : Nat) (v : LcS) : (s.setLc k v).crane = s.crane := rfl
@[simp] theorem State.setLc_rounds (s : State) (k : Nat) (v : LcS) : (s.setLc k v).rounds = s.rounds := rfl
@[simp] theorem State.setLc_bstore (s : State) (k : Nat) (v : LcS) : (s.setLc k v).bstore = s.bstore := rfl
@[simp] theorem State.setLc_bstoreAt (s : State) (k : Nat) (v : LcS) : (s.setLc k v).bstoreAt = s.bstoreAt := rfl
@[simp] theorem State.setLc_bram (s : State) (k : Nat) (v : LcS) : (s.setLc k v).bram = s.bram := rfl
@[simp] theorem State.setLc_engW (s : State) (k : Nat) (v : LcS) : (s.setLc k v).engW = s.engW := rfl
@[simp] theorem State.setLc_cu (s : State) (k : Nat) (v : LcS) : (s.setLc k v).cu = s.cu := rfl
@[simp] theorem State.setLc_sram (s : State) (k : Nat) (v : LcS) : (s.setLc k v).sram = s.sram := rfl
@[simp] theorem State.setLc_logAt (s : State) (k : Nat) (v : LcS) : (s.setLc k v).logAt = s.logAt := rfl
@[simp] theorem State.setLc_tz (s : State) (k : Nat) (v : LcS) : (s.setLc k v).tz = s.tz := rfl
@[simp] theorem State.setLc_tripPin (s : State) (k : Nat) (v : LcS) : (s.setLc k v).tripPin = s.tripPin := rfl
@[simp] theorem State.setLc_tb (s : State) (k : Nat) (v : LcS) : (s.setLc k v).tb = s.tb := rfl
@[simp] theorem State.setLc_tbLatch (s : State) (k : Nat) (v : LcS) : (s.setLc k v).tbLatch = s.tbLatch := rfl
@[simp] theorem State.setLc_srcAt (s : State) (k : Nat) (v : LcS) : (s.setLc k v).srcAt = s.srcAt := rfl
@[simp] theorem State.setLc_ev (s : State) (k : Nat) (v : LcS) : (s.setLc k v).ev = s.ev := rfl
@[simp] theorem State.setLc_divAt (s : State) (k : Nat) (v : LcS) : (s.setLc k v).divAt = s.divAt := rfl
@[simp] theorem State.setLc_sc (s : State) (k : Nat) (v : LcS) : (s.setLc k v).sc = s.sc := rfl
@[simp] theorem State.setLc_mt (s : State) (k : Nat) (v : LcS) : (s.setLc k v).mt = s.mt := rfl
@[simp] theorem State.setLc_mf (s : State) (k : Nat) (v : LcS) : (s.setLc k v).mf = s.mf := rfl
@[simp] theorem State.setLc_mfu (s : State) (k : Nat) (v : LcS) : (s.setLc k v).mfu = s.mfu := rfl
@[simp] theorem State.setLc_journal (s : State) (k : Nat) (v : LcS) : (s.setLc k v).journal = s.journal := rfl
@[simp] theorem State.setLc_fl (s : State) (k : Nat) (v : LcS) : (s.setLc k v).fl = s.fl := rfl
@[simp] theorem State.setLc_flash (s : State) (k : Nat) (v : LcS) : (s.setLc k v).flash = s.flash := rfl
@[simp] theorem State.setLc_flBlk (s : State) (k : Nat) (v : LcS) : (s.setLc k v).flBlk = s.flBlk := rfl
@[simp] theorem State.setLc_flWear (s : State) (k : Nat) (v : LcS) : (s.setLc k v).flWear = s.flWear := rfl
@[simp] theorem State.setLc_otp (s : State) (k : Nat) (v : LcS) : (s.setLc k v).otp = s.otp := rfl
@[simp] theorem State.setLc_gpioPad (s : State) (k : Nat) (v : LcS) : (s.setLc k v).gpioPad = s.gpioPad := rfl
@[simp] theorem State.setLc_lkWake (s : State) (k : Nat) (v : LcS) : (s.setLc k v).lkWake = s.lkWake := rfl
@[simp] theorem State.setLc_lkDrive (s : State) (k : Nat) (v : LcS) : (s.setLc k v).lkDrive = s.lkDrive := rfl
@[simp] theorem State.setLc_rung (s : State) (k : Nat) (v : LcS) : (s.setLc k v).rung = s.rung := rfl
@[simp] theorem State.setLc_wake (s : State) (k : Nat) (v : LcS) : (s.setLc k v).wake = s.wake := rfl
@[simp] theorem State.setLc_core (s : State) (k : Nat) (v : LcS) : (s.setLc k v).core = s.core := rfl
@[simp] theorem State.setLc_bank (s : State) (k : Nat) (v : LcS) : (s.setLc k v).bank = s.bank := rfl
@[simp] theorem State.setLc_lock (s : State) (k : Nat) (v : LcS) : (s.setLc k v).lock = s.lock := rfl
@[simp] theorem State.setLc_tide (s : State) (k : Nat) (v : LcS) : (s.setLc k v).tide = s.tide := rfl
@[simp] theorem State.setLc_snap (s : State) (k : Nat) (v : LcS) : (s.setLc k v).snap = s.snap := rfl
@[simp] theorem State.setLc_vsrc (s : State) (k : Nat) (v : LcS) : (s.setLc k v).vsrc = s.vsrc := rfl
@[simp] theorem State.setLc_doze (s : State) (k : Nat) (v : LcS) : (s.setLc k v).doze = s.doze := rfl
@[simp] theorem State.setLc_devRst (s : State) (k : Nat) (v : LcS) : (s.setLc k v).devRst = s.devRst := rfl
@[simp] theorem State.setLc_scrub (s : State) (k : Nat) (v : LcS) : (s.setLc k v).scrub = s.scrub := rfl
@[simp] theorem State.setLc_pps (s : State) (k : Nat) (v : LcS) : (s.setLc k v).pps = s.pps := rfl
@[simp] theorem State.setLc_pwr (s : State) (k : Nat) (v : LcS) : (s.setLc k v).pwr = s.pwr := rfl
@[simp] theorem State.setLc_link (s : State) (k : Nat) (v : LcS) : (s.setLc k v).link = s.link := rfl
@[simp] theorem State.setLc_txs (s : State) (k : Nat) (v : LcS) : (s.setLc k v).txs = s.txs := rfl
@[simp] theorem State.setLc_win (s : State) (k : Nat) (v : LcS) : (s.setLc k v).win = s.win := rfl
@[simp] theorem State.setLc_lku (s : State) (k : Nat) (v : LcS) : (s.setLc k v).lku = s.lku := rfl
@[simp] theorem State.setLc_gt (s : State) (k : Nat) (v : LcS) : (s.setLc k v).gt = s.gt := rfl
@[simp] theorem State.setLc_boot (s : State) (k : Nat) (v : LcS) : (s.setLc k v).boot = s.boot := rfl
@[simp] theorem State.setLc_graft (s : State) (k : Nat) (v : LcS) : (s.setLc k v).graft = s.graft := rfl
@[simp] theorem State.setLc_ku (s : State) (k : Nat) (v : LcS) : (s.setLc k v).ku = s.ku := rfl
@[simp] theorem State.setLc_dbg (s : State) (k : Nat) (v : LcS) : (s.setLc k v).dbg = s.dbg := rfl
@[simp] theorem State.setLc_smb (s : State) (k : Nat) (v : LcS) : (s.setLc k v).smb = s.smb := rfl
@[simp] theorem State.setLc_spi (s : State) (k : Nat) (v : LcS) : (s.setLc k v).spi = s.spi := rfl
@[simp] theorem State.setLc_pending (s : State) (k : Nat) (v : LcS) : (s.setLc k v).pending = s.pending := rfl
@[simp] theorem State.setLc_out (s : State) (k : Nat) (v : LcS) : (s.setLc k v).out = s.out := rfl
@[simp] theorem State.setLc_free (s : State) (k : Nat) (v : LcS) : (s.setLc k v).free = s.free := rfl
@[simp] theorem State.setDivAt_divAtOf (s : State) (k : Nat) (v : (Option Nat)) : (s.setDivAt k v).divAtOf k = v := Store.get_set_same _ _ _ _
theorem State.setDivAt_divAtOf_ne (s : State) {j k : Nat} (v : (Option Nat)) (h : k ≠ j) : (s.setDivAt j v).divAtOf k = s.divAtOf k := Store.get_set_ne _ _ _ h
@[simp] theorem State.setDivAt_now (s : State) (k : Nat) (v : (Option Nat)) : (s.setDivAt k v).now = s.now := rfl
@[simp] theorem State.setDivAt_regs (s : State) (k : Nat) (v : (Option Nat)) : (s.setDivAt k v).regs = s.regs := rfl
@[simp] theorem State.setDivAt_written (s : State) (k : Nat) (v : (Option Nat)) : (s.setDivAt k v).written = s.written := rfl
@[simp] theorem State.setDivAt_hw (s : State) (k : Nat) (v : (Option Nat)) : (s.setDivAt k v).hw = s.hw := rfl
@[simp] theorem State.setDivAt_ich (s : State) (k : Nat) (v : (Option Nat)) : (s.setDivAt k v).ich = s.ich := rfl
@[simp] theorem State.setDivAt_wc (s : State) (k : Nat) (v : (Option Nat)) : (s.setDivAt k v).wc = s.wc := rfl
@[simp] theorem State.setDivAt_calDue (s : State) (k : Nat) (v : (Option Nat)) : (s.setDivAt k v).calDue = s.calDue := rfl
@[simp] theorem State.setDivAt_berth (s : State) (k : Nat) (v : (Option Nat)) : (s.setDivAt k v).berth = s.berth := rfl
@[simp] theorem State.setDivAt_armed (s : State) (k : Nat) (v : (Option Nat)) : (s.setDivAt k v).armed = s.armed := rfl
@[simp] theorem State.setDivAt_admq (s : State) (k : Nat) (v : (Option Nat)) : (s.setDivAt k v).admq = s.admq := rfl
@[simp] theorem State.setDivAt_crane (s : State) (k : Nat) (v : (Option Nat)) : (s.setDivAt k v).crane = s.crane := rfl
@[simp] theorem State.setDivAt_rounds (s : State) (k : Nat) (v : (Option Nat)) : (s.setDivAt k v).rounds = s.rounds := rfl
@[simp] theorem State.setDivAt_bstore (s : State) (k : Nat) (v : (Option Nat)) : (s.setDivAt k v).bstore = s.bstore := rfl
@[simp] theorem State.setDivAt_bstoreAt (s : State) (k : Nat) (v : (Option Nat)) : (s.setDivAt k v).bstoreAt = s.bstoreAt := rfl
@[simp] theorem State.setDivAt_bram (s : State) (k : Nat) (v : (Option Nat)) : (s.setDivAt k v).bram = s.bram := rfl
@[simp] theorem State.setDivAt_engW (s : State) (k : Nat) (v : (Option Nat)) : (s.setDivAt k v).engW = s.engW := rfl
@[simp] theorem State.setDivAt_cu (s : State) (k : Nat) (v : (Option Nat)) : (s.setDivAt k v).cu = s.cu := rfl
@[simp] theorem State.setDivAt_sram (s : State) (k : Nat) (v : (Option Nat)) : (s.setDivAt k v).sram = s.sram := rfl
@[simp] theorem State.setDivAt_logAt (s : State) (k : Nat) (v : (Option Nat)) : (s.setDivAt k v).logAt = s.logAt := rfl
@[simp] theorem State.setDivAt_tz (s : State) (k : Nat) (v : (Option Nat)) : (s.setDivAt k v).tz = s.tz := rfl
@[simp] theorem State.setDivAt_tripPin (s : State) (k : Nat) (v : (Option Nat)) : (s.setDivAt k v).tripPin = s.tripPin := rfl
@[simp] theorem State.setDivAt_tb (s : State) (k : Nat) (v : (Option Nat)) : (s.setDivAt k v).tb = s.tb := rfl
@[simp] theorem State.setDivAt_tbLatch (s : State) (k : Nat) (v : (Option Nat)) : (s.setDivAt k v).tbLatch = s.tbLatch := rfl
@[simp] theorem State.setDivAt_srcAt (s : State) (k : Nat) (v : (Option Nat)) : (s.setDivAt k v).srcAt = s.srcAt := rfl
@[simp] theorem State.setDivAt_ev (s : State) (k : Nat) (v : (Option Nat)) : (s.setDivAt k v).ev = s.ev := rfl
@[simp] theorem State.setDivAt_lc (s : State) (k : Nat) (v : (Option Nat)) : (s.setDivAt k v).lc = s.lc := rfl
@[simp] theorem State.setDivAt_sc (s : State) (k : Nat) (v : (Option Nat)) : (s.setDivAt k v).sc = s.sc := rfl
@[simp] theorem State.setDivAt_mt (s : State) (k : Nat) (v : (Option Nat)) : (s.setDivAt k v).mt = s.mt := rfl
@[simp] theorem State.setDivAt_mf (s : State) (k : Nat) (v : (Option Nat)) : (s.setDivAt k v).mf = s.mf := rfl
@[simp] theorem State.setDivAt_mfu (s : State) (k : Nat) (v : (Option Nat)) : (s.setDivAt k v).mfu = s.mfu := rfl
@[simp] theorem State.setDivAt_journal (s : State) (k : Nat) (v : (Option Nat)) : (s.setDivAt k v).journal = s.journal := rfl
@[simp] theorem State.setDivAt_fl (s : State) (k : Nat) (v : (Option Nat)) : (s.setDivAt k v).fl = s.fl := rfl
@[simp] theorem State.setDivAt_flash (s : State) (k : Nat) (v : (Option Nat)) : (s.setDivAt k v).flash = s.flash := rfl
@[simp] theorem State.setDivAt_flBlk (s : State) (k : Nat) (v : (Option Nat)) : (s.setDivAt k v).flBlk = s.flBlk := rfl
@[simp] theorem State.setDivAt_flWear (s : State) (k : Nat) (v : (Option Nat)) : (s.setDivAt k v).flWear = s.flWear := rfl
@[simp] theorem State.setDivAt_otp (s : State) (k : Nat) (v : (Option Nat)) : (s.setDivAt k v).otp = s.otp := rfl
@[simp] theorem State.setDivAt_gpioPad (s : State) (k : Nat) (v : (Option Nat)) : (s.setDivAt k v).gpioPad = s.gpioPad := rfl
@[simp] theorem State.setDivAt_lkWake (s : State) (k : Nat) (v : (Option Nat)) : (s.setDivAt k v).lkWake = s.lkWake := rfl
@[simp] theorem State.setDivAt_lkDrive (s : State) (k : Nat) (v : (Option Nat)) : (s.setDivAt k v).lkDrive = s.lkDrive := rfl
@[simp] theorem State.setDivAt_rung (s : State) (k : Nat) (v : (Option Nat)) : (s.setDivAt k v).rung = s.rung := rfl
@[simp] theorem State.setDivAt_wake (s : State) (k : Nat) (v : (Option Nat)) : (s.setDivAt k v).wake = s.wake := rfl
@[simp] theorem State.setDivAt_core (s : State) (k : Nat) (v : (Option Nat)) : (s.setDivAt k v).core = s.core := rfl
@[simp] theorem State.setDivAt_bank (s : State) (k : Nat) (v : (Option Nat)) : (s.setDivAt k v).bank = s.bank := rfl
@[simp] theorem State.setDivAt_lock (s : State) (k : Nat) (v : (Option Nat)) : (s.setDivAt k v).lock = s.lock := rfl
@[simp] theorem State.setDivAt_tide (s : State) (k : Nat) (v : (Option Nat)) : (s.setDivAt k v).tide = s.tide := rfl
@[simp] theorem State.setDivAt_snap (s : State) (k : Nat) (v : (Option Nat)) : (s.setDivAt k v).snap = s.snap := rfl
@[simp] theorem State.setDivAt_vsrc (s : State) (k : Nat) (v : (Option Nat)) : (s.setDivAt k v).vsrc = s.vsrc := rfl
@[simp] theorem State.setDivAt_doze (s : State) (k : Nat) (v : (Option Nat)) : (s.setDivAt k v).doze = s.doze := rfl
@[simp] theorem State.setDivAt_devRst (s : State) (k : Nat) (v : (Option Nat)) : (s.setDivAt k v).devRst = s.devRst := rfl
@[simp] theorem State.setDivAt_scrub (s : State) (k : Nat) (v : (Option Nat)) : (s.setDivAt k v).scrub = s.scrub := rfl
@[simp] theorem State.setDivAt_pps (s : State) (k : Nat) (v : (Option Nat)) : (s.setDivAt k v).pps = s.pps := rfl
@[simp] theorem State.setDivAt_pwr (s : State) (k : Nat) (v : (Option Nat)) : (s.setDivAt k v).pwr = s.pwr := rfl
@[simp] theorem State.setDivAt_link (s : State) (k : Nat) (v : (Option Nat)) : (s.setDivAt k v).link = s.link := rfl
@[simp] theorem State.setDivAt_txs (s : State) (k : Nat) (v : (Option Nat)) : (s.setDivAt k v).txs = s.txs := rfl
@[simp] theorem State.setDivAt_win (s : State) (k : Nat) (v : (Option Nat)) : (s.setDivAt k v).win = s.win := rfl
@[simp] theorem State.setDivAt_lku (s : State) (k : Nat) (v : (Option Nat)) : (s.setDivAt k v).lku = s.lku := rfl
@[simp] theorem State.setDivAt_gt (s : State) (k : Nat) (v : (Option Nat)) : (s.setDivAt k v).gt = s.gt := rfl
@[simp] theorem State.setDivAt_boot (s : State) (k : Nat) (v : (Option Nat)) : (s.setDivAt k v).boot = s.boot := rfl
@[simp] theorem State.setDivAt_graft (s : State) (k : Nat) (v : (Option Nat)) : (s.setDivAt k v).graft = s.graft := rfl
@[simp] theorem State.setDivAt_ku (s : State) (k : Nat) (v : (Option Nat)) : (s.setDivAt k v).ku = s.ku := rfl
@[simp] theorem State.setDivAt_dbg (s : State) (k : Nat) (v : (Option Nat)) : (s.setDivAt k v).dbg = s.dbg := rfl
@[simp] theorem State.setDivAt_smb (s : State) (k : Nat) (v : (Option Nat)) : (s.setDivAt k v).smb = s.smb := rfl
@[simp] theorem State.setDivAt_spi (s : State) (k : Nat) (v : (Option Nat)) : (s.setDivAt k v).spi = s.spi := rfl
@[simp] theorem State.setDivAt_pending (s : State) (k : Nat) (v : (Option Nat)) : (s.setDivAt k v).pending = s.pending := rfl
@[simp] theorem State.setDivAt_out (s : State) (k : Nat) (v : (Option Nat)) : (s.setDivAt k v).out = s.out := rfl
@[simp] theorem State.setDivAt_free (s : State) (k : Nat) (v : (Option Nat)) : (s.setDivAt k v).free = s.free := rfl
@[simp] theorem State.setSc_scOf (s : State) (k : Nat) (v : ScS) : (s.setSc k v).scOf k = v := Store.get_set_same _ _ _ _
theorem State.setSc_scOf_ne (s : State) {j k : Nat} (v : ScS) (h : k ≠ j) : (s.setSc j v).scOf k = s.scOf k := Store.get_set_ne _ _ _ h
@[simp] theorem State.setSc_now (s : State) (k : Nat) (v : ScS) : (s.setSc k v).now = s.now := rfl
@[simp] theorem State.setSc_regs (s : State) (k : Nat) (v : ScS) : (s.setSc k v).regs = s.regs := rfl
@[simp] theorem State.setSc_written (s : State) (k : Nat) (v : ScS) : (s.setSc k v).written = s.written := rfl
@[simp] theorem State.setSc_hw (s : State) (k : Nat) (v : ScS) : (s.setSc k v).hw = s.hw := rfl
@[simp] theorem State.setSc_ich (s : State) (k : Nat) (v : ScS) : (s.setSc k v).ich = s.ich := rfl
@[simp] theorem State.setSc_wc (s : State) (k : Nat) (v : ScS) : (s.setSc k v).wc = s.wc := rfl
@[simp] theorem State.setSc_calDue (s : State) (k : Nat) (v : ScS) : (s.setSc k v).calDue = s.calDue := rfl
@[simp] theorem State.setSc_berth (s : State) (k : Nat) (v : ScS) : (s.setSc k v).berth = s.berth := rfl
@[simp] theorem State.setSc_armed (s : State) (k : Nat) (v : ScS) : (s.setSc k v).armed = s.armed := rfl
@[simp] theorem State.setSc_admq (s : State) (k : Nat) (v : ScS) : (s.setSc k v).admq = s.admq := rfl
@[simp] theorem State.setSc_crane (s : State) (k : Nat) (v : ScS) : (s.setSc k v).crane = s.crane := rfl
@[simp] theorem State.setSc_rounds (s : State) (k : Nat) (v : ScS) : (s.setSc k v).rounds = s.rounds := rfl
@[simp] theorem State.setSc_bstore (s : State) (k : Nat) (v : ScS) : (s.setSc k v).bstore = s.bstore := rfl
@[simp] theorem State.setSc_bstoreAt (s : State) (k : Nat) (v : ScS) : (s.setSc k v).bstoreAt = s.bstoreAt := rfl
@[simp] theorem State.setSc_bram (s : State) (k : Nat) (v : ScS) : (s.setSc k v).bram = s.bram := rfl
@[simp] theorem State.setSc_engW (s : State) (k : Nat) (v : ScS) : (s.setSc k v).engW = s.engW := rfl
@[simp] theorem State.setSc_cu (s : State) (k : Nat) (v : ScS) : (s.setSc k v).cu = s.cu := rfl
@[simp] theorem State.setSc_sram (s : State) (k : Nat) (v : ScS) : (s.setSc k v).sram = s.sram := rfl
@[simp] theorem State.setSc_logAt (s : State) (k : Nat) (v : ScS) : (s.setSc k v).logAt = s.logAt := rfl
@[simp] theorem State.setSc_tz (s : State) (k : Nat) (v : ScS) : (s.setSc k v).tz = s.tz := rfl
@[simp] theorem State.setSc_tripPin (s : State) (k : Nat) (v : ScS) : (s.setSc k v).tripPin = s.tripPin := rfl
@[simp] theorem State.setSc_tb (s : State) (k : Nat) (v : ScS) : (s.setSc k v).tb = s.tb := rfl
@[simp] theorem State.setSc_tbLatch (s : State) (k : Nat) (v : ScS) : (s.setSc k v).tbLatch = s.tbLatch := rfl
@[simp] theorem State.setSc_srcAt (s : State) (k : Nat) (v : ScS) : (s.setSc k v).srcAt = s.srcAt := rfl
@[simp] theorem State.setSc_ev (s : State) (k : Nat) (v : ScS) : (s.setSc k v).ev = s.ev := rfl
@[simp] theorem State.setSc_lc (s : State) (k : Nat) (v : ScS) : (s.setSc k v).lc = s.lc := rfl
@[simp] theorem State.setSc_divAt (s : State) (k : Nat) (v : ScS) : (s.setSc k v).divAt = s.divAt := rfl
@[simp] theorem State.setSc_mt (s : State) (k : Nat) (v : ScS) : (s.setSc k v).mt = s.mt := rfl
@[simp] theorem State.setSc_mf (s : State) (k : Nat) (v : ScS) : (s.setSc k v).mf = s.mf := rfl
@[simp] theorem State.setSc_mfu (s : State) (k : Nat) (v : ScS) : (s.setSc k v).mfu = s.mfu := rfl
@[simp] theorem State.setSc_journal (s : State) (k : Nat) (v : ScS) : (s.setSc k v).journal = s.journal := rfl
@[simp] theorem State.setSc_fl (s : State) (k : Nat) (v : ScS) : (s.setSc k v).fl = s.fl := rfl
@[simp] theorem State.setSc_flash (s : State) (k : Nat) (v : ScS) : (s.setSc k v).flash = s.flash := rfl
@[simp] theorem State.setSc_flBlk (s : State) (k : Nat) (v : ScS) : (s.setSc k v).flBlk = s.flBlk := rfl
@[simp] theorem State.setSc_flWear (s : State) (k : Nat) (v : ScS) : (s.setSc k v).flWear = s.flWear := rfl
@[simp] theorem State.setSc_otp (s : State) (k : Nat) (v : ScS) : (s.setSc k v).otp = s.otp := rfl
@[simp] theorem State.setSc_gpioPad (s : State) (k : Nat) (v : ScS) : (s.setSc k v).gpioPad = s.gpioPad := rfl
@[simp] theorem State.setSc_lkWake (s : State) (k : Nat) (v : ScS) : (s.setSc k v).lkWake = s.lkWake := rfl
@[simp] theorem State.setSc_lkDrive (s : State) (k : Nat) (v : ScS) : (s.setSc k v).lkDrive = s.lkDrive := rfl
@[simp] theorem State.setSc_rung (s : State) (k : Nat) (v : ScS) : (s.setSc k v).rung = s.rung := rfl
@[simp] theorem State.setSc_wake (s : State) (k : Nat) (v : ScS) : (s.setSc k v).wake = s.wake := rfl
@[simp] theorem State.setSc_core (s : State) (k : Nat) (v : ScS) : (s.setSc k v).core = s.core := rfl
@[simp] theorem State.setSc_bank (s : State) (k : Nat) (v : ScS) : (s.setSc k v).bank = s.bank := rfl
@[simp] theorem State.setSc_lock (s : State) (k : Nat) (v : ScS) : (s.setSc k v).lock = s.lock := rfl
@[simp] theorem State.setSc_tide (s : State) (k : Nat) (v : ScS) : (s.setSc k v).tide = s.tide := rfl
@[simp] theorem State.setSc_snap (s : State) (k : Nat) (v : ScS) : (s.setSc k v).snap = s.snap := rfl
@[simp] theorem State.setSc_vsrc (s : State) (k : Nat) (v : ScS) : (s.setSc k v).vsrc = s.vsrc := rfl
@[simp] theorem State.setSc_doze (s : State) (k : Nat) (v : ScS) : (s.setSc k v).doze = s.doze := rfl
@[simp] theorem State.setSc_devRst (s : State) (k : Nat) (v : ScS) : (s.setSc k v).devRst = s.devRst := rfl
@[simp] theorem State.setSc_scrub (s : State) (k : Nat) (v : ScS) : (s.setSc k v).scrub = s.scrub := rfl
@[simp] theorem State.setSc_pps (s : State) (k : Nat) (v : ScS) : (s.setSc k v).pps = s.pps := rfl
@[simp] theorem State.setSc_pwr (s : State) (k : Nat) (v : ScS) : (s.setSc k v).pwr = s.pwr := rfl
@[simp] theorem State.setSc_link (s : State) (k : Nat) (v : ScS) : (s.setSc k v).link = s.link := rfl
@[simp] theorem State.setSc_txs (s : State) (k : Nat) (v : ScS) : (s.setSc k v).txs = s.txs := rfl
@[simp] theorem State.setSc_win (s : State) (k : Nat) (v : ScS) : (s.setSc k v).win = s.win := rfl
@[simp] theorem State.setSc_lku (s : State) (k : Nat) (v : ScS) : (s.setSc k v).lku = s.lku := rfl
@[simp] theorem State.setSc_gt (s : State) (k : Nat) (v : ScS) : (s.setSc k v).gt = s.gt := rfl
@[simp] theorem State.setSc_boot (s : State) (k : Nat) (v : ScS) : (s.setSc k v).boot = s.boot := rfl
@[simp] theorem State.setSc_graft (s : State) (k : Nat) (v : ScS) : (s.setSc k v).graft = s.graft := rfl
@[simp] theorem State.setSc_ku (s : State) (k : Nat) (v : ScS) : (s.setSc k v).ku = s.ku := rfl
@[simp] theorem State.setSc_dbg (s : State) (k : Nat) (v : ScS) : (s.setSc k v).dbg = s.dbg := rfl
@[simp] theorem State.setSc_smb (s : State) (k : Nat) (v : ScS) : (s.setSc k v).smb = s.smb := rfl
@[simp] theorem State.setSc_spi (s : State) (k : Nat) (v : ScS) : (s.setSc k v).spi = s.spi := rfl
@[simp] theorem State.setSc_pending (s : State) (k : Nat) (v : ScS) : (s.setSc k v).pending = s.pending := rfl
@[simp] theorem State.setSc_out (s : State) (k : Nat) (v : ScS) : (s.setSc k v).out = s.out := rfl
@[simp] theorem State.setSc_free (s : State) (k : Nat) (v : ScS) : (s.setSc k v).free = s.free := rfl
@[simp] theorem State.setMf_mfOf (s : State) (k : Nat) (v : MfS) : (s.setMf k v).mfOf k = v := Store.get_set_same _ _ _ _
theorem State.setMf_mfOf_ne (s : State) {j k : Nat} (v : MfS) (h : k ≠ j) : (s.setMf j v).mfOf k = s.mfOf k := Store.get_set_ne _ _ _ h
@[simp] theorem State.setMf_now (s : State) (k : Nat) (v : MfS) : (s.setMf k v).now = s.now := rfl
@[simp] theorem State.setMf_regs (s : State) (k : Nat) (v : MfS) : (s.setMf k v).regs = s.regs := rfl
@[simp] theorem State.setMf_written (s : State) (k : Nat) (v : MfS) : (s.setMf k v).written = s.written := rfl
@[simp] theorem State.setMf_hw (s : State) (k : Nat) (v : MfS) : (s.setMf k v).hw = s.hw := rfl
@[simp] theorem State.setMf_ich (s : State) (k : Nat) (v : MfS) : (s.setMf k v).ich = s.ich := rfl
@[simp] theorem State.setMf_wc (s : State) (k : Nat) (v : MfS) : (s.setMf k v).wc = s.wc := rfl
@[simp] theorem State.setMf_calDue (s : State) (k : Nat) (v : MfS) : (s.setMf k v).calDue = s.calDue := rfl
@[simp] theorem State.setMf_berth (s : State) (k : Nat) (v : MfS) : (s.setMf k v).berth = s.berth := rfl
@[simp] theorem State.setMf_armed (s : State) (k : Nat) (v : MfS) : (s.setMf k v).armed = s.armed := rfl
@[simp] theorem State.setMf_admq (s : State) (k : Nat) (v : MfS) : (s.setMf k v).admq = s.admq := rfl
@[simp] theorem State.setMf_crane (s : State) (k : Nat) (v : MfS) : (s.setMf k v).crane = s.crane := rfl
@[simp] theorem State.setMf_rounds (s : State) (k : Nat) (v : MfS) : (s.setMf k v).rounds = s.rounds := rfl
@[simp] theorem State.setMf_bstore (s : State) (k : Nat) (v : MfS) : (s.setMf k v).bstore = s.bstore := rfl
@[simp] theorem State.setMf_bstoreAt (s : State) (k : Nat) (v : MfS) : (s.setMf k v).bstoreAt = s.bstoreAt := rfl
@[simp] theorem State.setMf_bram (s : State) (k : Nat) (v : MfS) : (s.setMf k v).bram = s.bram := rfl
@[simp] theorem State.setMf_engW (s : State) (k : Nat) (v : MfS) : (s.setMf k v).engW = s.engW := rfl
@[simp] theorem State.setMf_cu (s : State) (k : Nat) (v : MfS) : (s.setMf k v).cu = s.cu := rfl
@[simp] theorem State.setMf_sram (s : State) (k : Nat) (v : MfS) : (s.setMf k v).sram = s.sram := rfl
@[simp] theorem State.setMf_logAt (s : State) (k : Nat) (v : MfS) : (s.setMf k v).logAt = s.logAt := rfl
@[simp] theorem State.setMf_tz (s : State) (k : Nat) (v : MfS) : (s.setMf k v).tz = s.tz := rfl
@[simp] theorem State.setMf_tripPin (s : State) (k : Nat) (v : MfS) : (s.setMf k v).tripPin = s.tripPin := rfl
@[simp] theorem State.setMf_tb (s : State) (k : Nat) (v : MfS) : (s.setMf k v).tb = s.tb := rfl
@[simp] theorem State.setMf_tbLatch (s : State) (k : Nat) (v : MfS) : (s.setMf k v).tbLatch = s.tbLatch := rfl
@[simp] theorem State.setMf_srcAt (s : State) (k : Nat) (v : MfS) : (s.setMf k v).srcAt = s.srcAt := rfl
@[simp] theorem State.setMf_ev (s : State) (k : Nat) (v : MfS) : (s.setMf k v).ev = s.ev := rfl
@[simp] theorem State.setMf_lc (s : State) (k : Nat) (v : MfS) : (s.setMf k v).lc = s.lc := rfl
@[simp] theorem State.setMf_divAt (s : State) (k : Nat) (v : MfS) : (s.setMf k v).divAt = s.divAt := rfl
@[simp] theorem State.setMf_sc (s : State) (k : Nat) (v : MfS) : (s.setMf k v).sc = s.sc := rfl
@[simp] theorem State.setMf_mt (s : State) (k : Nat) (v : MfS) : (s.setMf k v).mt = s.mt := rfl
@[simp] theorem State.setMf_mfu (s : State) (k : Nat) (v : MfS) : (s.setMf k v).mfu = s.mfu := rfl
@[simp] theorem State.setMf_journal (s : State) (k : Nat) (v : MfS) : (s.setMf k v).journal = s.journal := rfl
@[simp] theorem State.setMf_fl (s : State) (k : Nat) (v : MfS) : (s.setMf k v).fl = s.fl := rfl
@[simp] theorem State.setMf_flash (s : State) (k : Nat) (v : MfS) : (s.setMf k v).flash = s.flash := rfl
@[simp] theorem State.setMf_flBlk (s : State) (k : Nat) (v : MfS) : (s.setMf k v).flBlk = s.flBlk := rfl
@[simp] theorem State.setMf_flWear (s : State) (k : Nat) (v : MfS) : (s.setMf k v).flWear = s.flWear := rfl
@[simp] theorem State.setMf_otp (s : State) (k : Nat) (v : MfS) : (s.setMf k v).otp = s.otp := rfl
@[simp] theorem State.setMf_gpioPad (s : State) (k : Nat) (v : MfS) : (s.setMf k v).gpioPad = s.gpioPad := rfl
@[simp] theorem State.setMf_lkWake (s : State) (k : Nat) (v : MfS) : (s.setMf k v).lkWake = s.lkWake := rfl
@[simp] theorem State.setMf_lkDrive (s : State) (k : Nat) (v : MfS) : (s.setMf k v).lkDrive = s.lkDrive := rfl
@[simp] theorem State.setMf_rung (s : State) (k : Nat) (v : MfS) : (s.setMf k v).rung = s.rung := rfl
@[simp] theorem State.setMf_wake (s : State) (k : Nat) (v : MfS) : (s.setMf k v).wake = s.wake := rfl
@[simp] theorem State.setMf_core (s : State) (k : Nat) (v : MfS) : (s.setMf k v).core = s.core := rfl
@[simp] theorem State.setMf_bank (s : State) (k : Nat) (v : MfS) : (s.setMf k v).bank = s.bank := rfl
@[simp] theorem State.setMf_lock (s : State) (k : Nat) (v : MfS) : (s.setMf k v).lock = s.lock := rfl
@[simp] theorem State.setMf_tide (s : State) (k : Nat) (v : MfS) : (s.setMf k v).tide = s.tide := rfl
@[simp] theorem State.setMf_snap (s : State) (k : Nat) (v : MfS) : (s.setMf k v).snap = s.snap := rfl
@[simp] theorem State.setMf_vsrc (s : State) (k : Nat) (v : MfS) : (s.setMf k v).vsrc = s.vsrc := rfl
@[simp] theorem State.setMf_doze (s : State) (k : Nat) (v : MfS) : (s.setMf k v).doze = s.doze := rfl
@[simp] theorem State.setMf_devRst (s : State) (k : Nat) (v : MfS) : (s.setMf k v).devRst = s.devRst := rfl
@[simp] theorem State.setMf_scrub (s : State) (k : Nat) (v : MfS) : (s.setMf k v).scrub = s.scrub := rfl
@[simp] theorem State.setMf_pps (s : State) (k : Nat) (v : MfS) : (s.setMf k v).pps = s.pps := rfl
@[simp] theorem State.setMf_pwr (s : State) (k : Nat) (v : MfS) : (s.setMf k v).pwr = s.pwr := rfl
@[simp] theorem State.setMf_link (s : State) (k : Nat) (v : MfS) : (s.setMf k v).link = s.link := rfl
@[simp] theorem State.setMf_txs (s : State) (k : Nat) (v : MfS) : (s.setMf k v).txs = s.txs := rfl
@[simp] theorem State.setMf_win (s : State) (k : Nat) (v : MfS) : (s.setMf k v).win = s.win := rfl
@[simp] theorem State.setMf_lku (s : State) (k : Nat) (v : MfS) : (s.setMf k v).lku = s.lku := rfl
@[simp] theorem State.setMf_gt (s : State) (k : Nat) (v : MfS) : (s.setMf k v).gt = s.gt := rfl
@[simp] theorem State.setMf_boot (s : State) (k : Nat) (v : MfS) : (s.setMf k v).boot = s.boot := rfl
@[simp] theorem State.setMf_graft (s : State) (k : Nat) (v : MfS) : (s.setMf k v).graft = s.graft := rfl
@[simp] theorem State.setMf_ku (s : State) (k : Nat) (v : MfS) : (s.setMf k v).ku = s.ku := rfl
@[simp] theorem State.setMf_dbg (s : State) (k : Nat) (v : MfS) : (s.setMf k v).dbg = s.dbg := rfl
@[simp] theorem State.setMf_smb (s : State) (k : Nat) (v : MfS) : (s.setMf k v).smb = s.smb := rfl
@[simp] theorem State.setMf_spi (s : State) (k : Nat) (v : MfS) : (s.setMf k v).spi = s.spi := rfl
@[simp] theorem State.setMf_pending (s : State) (k : Nat) (v : MfS) : (s.setMf k v).pending = s.pending := rfl
@[simp] theorem State.setMf_out (s : State) (k : Nat) (v : MfS) : (s.setMf k v).out = s.out := rfl
@[simp] theorem State.setMf_free (s : State) (k : Nat) (v : MfS) : (s.setMf k v).free = s.free := rfl
@[simp] theorem State.setFl_flOf (s : State) (k : Nat) (v : FlBank) : (s.setFl k v).flOf k = v := Store.get_set_same _ _ _ _
theorem State.setFl_flOf_ne (s : State) {j k : Nat} (v : FlBank) (h : k ≠ j) : (s.setFl j v).flOf k = s.flOf k := Store.get_set_ne _ _ _ h
@[simp] theorem State.setFl_now (s : State) (k : Nat) (v : FlBank) : (s.setFl k v).now = s.now := rfl
@[simp] theorem State.setFl_regs (s : State) (k : Nat) (v : FlBank) : (s.setFl k v).regs = s.regs := rfl
@[simp] theorem State.setFl_written (s : State) (k : Nat) (v : FlBank) : (s.setFl k v).written = s.written := rfl
@[simp] theorem State.setFl_hw (s : State) (k : Nat) (v : FlBank) : (s.setFl k v).hw = s.hw := rfl
@[simp] theorem State.setFl_ich (s : State) (k : Nat) (v : FlBank) : (s.setFl k v).ich = s.ich := rfl
@[simp] theorem State.setFl_wc (s : State) (k : Nat) (v : FlBank) : (s.setFl k v).wc = s.wc := rfl
@[simp] theorem State.setFl_calDue (s : State) (k : Nat) (v : FlBank) : (s.setFl k v).calDue = s.calDue := rfl
@[simp] theorem State.setFl_berth (s : State) (k : Nat) (v : FlBank) : (s.setFl k v).berth = s.berth := rfl
@[simp] theorem State.setFl_armed (s : State) (k : Nat) (v : FlBank) : (s.setFl k v).armed = s.armed := rfl
@[simp] theorem State.setFl_admq (s : State) (k : Nat) (v : FlBank) : (s.setFl k v).admq = s.admq := rfl
@[simp] theorem State.setFl_crane (s : State) (k : Nat) (v : FlBank) : (s.setFl k v).crane = s.crane := rfl
@[simp] theorem State.setFl_rounds (s : State) (k : Nat) (v : FlBank) : (s.setFl k v).rounds = s.rounds := rfl
@[simp] theorem State.setFl_bstore (s : State) (k : Nat) (v : FlBank) : (s.setFl k v).bstore = s.bstore := rfl
@[simp] theorem State.setFl_bstoreAt (s : State) (k : Nat) (v : FlBank) : (s.setFl k v).bstoreAt = s.bstoreAt := rfl
@[simp] theorem State.setFl_bram (s : State) (k : Nat) (v : FlBank) : (s.setFl k v).bram = s.bram := rfl
@[simp] theorem State.setFl_engW (s : State) (k : Nat) (v : FlBank) : (s.setFl k v).engW = s.engW := rfl
@[simp] theorem State.setFl_cu (s : State) (k : Nat) (v : FlBank) : (s.setFl k v).cu = s.cu := rfl
@[simp] theorem State.setFl_sram (s : State) (k : Nat) (v : FlBank) : (s.setFl k v).sram = s.sram := rfl
@[simp] theorem State.setFl_logAt (s : State) (k : Nat) (v : FlBank) : (s.setFl k v).logAt = s.logAt := rfl
@[simp] theorem State.setFl_tz (s : State) (k : Nat) (v : FlBank) : (s.setFl k v).tz = s.tz := rfl
@[simp] theorem State.setFl_tripPin (s : State) (k : Nat) (v : FlBank) : (s.setFl k v).tripPin = s.tripPin := rfl
@[simp] theorem State.setFl_tb (s : State) (k : Nat) (v : FlBank) : (s.setFl k v).tb = s.tb := rfl
@[simp] theorem State.setFl_tbLatch (s : State) (k : Nat) (v : FlBank) : (s.setFl k v).tbLatch = s.tbLatch := rfl
@[simp] theorem State.setFl_srcAt (s : State) (k : Nat) (v : FlBank) : (s.setFl k v).srcAt = s.srcAt := rfl
@[simp] theorem State.setFl_ev (s : State) (k : Nat) (v : FlBank) : (s.setFl k v).ev = s.ev := rfl
@[simp] theorem State.setFl_lc (s : State) (k : Nat) (v : FlBank) : (s.setFl k v).lc = s.lc := rfl
@[simp] theorem State.setFl_divAt (s : State) (k : Nat) (v : FlBank) : (s.setFl k v).divAt = s.divAt := rfl
@[simp] theorem State.setFl_sc (s : State) (k : Nat) (v : FlBank) : (s.setFl k v).sc = s.sc := rfl
@[simp] theorem State.setFl_mt (s : State) (k : Nat) (v : FlBank) : (s.setFl k v).mt = s.mt := rfl
@[simp] theorem State.setFl_mf (s : State) (k : Nat) (v : FlBank) : (s.setFl k v).mf = s.mf := rfl
@[simp] theorem State.setFl_mfu (s : State) (k : Nat) (v : FlBank) : (s.setFl k v).mfu = s.mfu := rfl
@[simp] theorem State.setFl_journal (s : State) (k : Nat) (v : FlBank) : (s.setFl k v).journal = s.journal := rfl
@[simp] theorem State.setFl_flash (s : State) (k : Nat) (v : FlBank) : (s.setFl k v).flash = s.flash := rfl
@[simp] theorem State.setFl_flBlk (s : State) (k : Nat) (v : FlBank) : (s.setFl k v).flBlk = s.flBlk := rfl
@[simp] theorem State.setFl_flWear (s : State) (k : Nat) (v : FlBank) : (s.setFl k v).flWear = s.flWear := rfl
@[simp] theorem State.setFl_otp (s : State) (k : Nat) (v : FlBank) : (s.setFl k v).otp = s.otp := rfl
@[simp] theorem State.setFl_gpioPad (s : State) (k : Nat) (v : FlBank) : (s.setFl k v).gpioPad = s.gpioPad := rfl
@[simp] theorem State.setFl_lkWake (s : State) (k : Nat) (v : FlBank) : (s.setFl k v).lkWake = s.lkWake := rfl
@[simp] theorem State.setFl_lkDrive (s : State) (k : Nat) (v : FlBank) : (s.setFl k v).lkDrive = s.lkDrive := rfl
@[simp] theorem State.setFl_rung (s : State) (k : Nat) (v : FlBank) : (s.setFl k v).rung = s.rung := rfl
@[simp] theorem State.setFl_wake (s : State) (k : Nat) (v : FlBank) : (s.setFl k v).wake = s.wake := rfl
@[simp] theorem State.setFl_core (s : State) (k : Nat) (v : FlBank) : (s.setFl k v).core = s.core := rfl
@[simp] theorem State.setFl_bank (s : State) (k : Nat) (v : FlBank) : (s.setFl k v).bank = s.bank := rfl
@[simp] theorem State.setFl_lock (s : State) (k : Nat) (v : FlBank) : (s.setFl k v).lock = s.lock := rfl
@[simp] theorem State.setFl_tide (s : State) (k : Nat) (v : FlBank) : (s.setFl k v).tide = s.tide := rfl
@[simp] theorem State.setFl_snap (s : State) (k : Nat) (v : FlBank) : (s.setFl k v).snap = s.snap := rfl
@[simp] theorem State.setFl_vsrc (s : State) (k : Nat) (v : FlBank) : (s.setFl k v).vsrc = s.vsrc := rfl
@[simp] theorem State.setFl_doze (s : State) (k : Nat) (v : FlBank) : (s.setFl k v).doze = s.doze := rfl
@[simp] theorem State.setFl_devRst (s : State) (k : Nat) (v : FlBank) : (s.setFl k v).devRst = s.devRst := rfl
@[simp] theorem State.setFl_scrub (s : State) (k : Nat) (v : FlBank) : (s.setFl k v).scrub = s.scrub := rfl
@[simp] theorem State.setFl_pps (s : State) (k : Nat) (v : FlBank) : (s.setFl k v).pps = s.pps := rfl
@[simp] theorem State.setFl_pwr (s : State) (k : Nat) (v : FlBank) : (s.setFl k v).pwr = s.pwr := rfl
@[simp] theorem State.setFl_link (s : State) (k : Nat) (v : FlBank) : (s.setFl k v).link = s.link := rfl
@[simp] theorem State.setFl_txs (s : State) (k : Nat) (v : FlBank) : (s.setFl k v).txs = s.txs := rfl
@[simp] theorem State.setFl_win (s : State) (k : Nat) (v : FlBank) : (s.setFl k v).win = s.win := rfl
@[simp] theorem State.setFl_lku (s : State) (k : Nat) (v : FlBank) : (s.setFl k v).lku = s.lku := rfl
@[simp] theorem State.setFl_gt (s : State) (k : Nat) (v : FlBank) : (s.setFl k v).gt = s.gt := rfl
@[simp] theorem State.setFl_boot (s : State) (k : Nat) (v : FlBank) : (s.setFl k v).boot = s.boot := rfl
@[simp] theorem State.setFl_graft (s : State) (k : Nat) (v : FlBank) : (s.setFl k v).graft = s.graft := rfl
@[simp] theorem State.setFl_ku (s : State) (k : Nat) (v : FlBank) : (s.setFl k v).ku = s.ku := rfl
@[simp] theorem State.setFl_dbg (s : State) (k : Nat) (v : FlBank) : (s.setFl k v).dbg = s.dbg := rfl
@[simp] theorem State.setFl_smb (s : State) (k : Nat) (v : FlBank) : (s.setFl k v).smb = s.smb := rfl
@[simp] theorem State.setFl_spi (s : State) (k : Nat) (v : FlBank) : (s.setFl k v).spi = s.spi := rfl
@[simp] theorem State.setFl_pending (s : State) (k : Nat) (v : FlBank) : (s.setFl k v).pending = s.pending := rfl
@[simp] theorem State.setFl_out (s : State) (k : Nat) (v : FlBank) : (s.setFl k v).out = s.out := rfl
@[simp] theorem State.setFl_free (s : State) (k : Nat) (v : FlBank) : (s.setFl k v).free = s.free := rfl
@[simp] theorem State.setFlash_flashOf (s : State) (k : Nat) (v : FlLine) : (s.setFlash k v).flashOf k = v := Store.get_set_same _ _ _ _
theorem State.setFlash_flashOf_ne (s : State) {j k : Nat} (v : FlLine) (h : k ≠ j) : (s.setFlash j v).flashOf k = s.flashOf k := Store.get_set_ne _ _ _ h
@[simp] theorem State.setFlash_now (s : State) (k : Nat) (v : FlLine) : (s.setFlash k v).now = s.now := rfl
@[simp] theorem State.setFlash_regs (s : State) (k : Nat) (v : FlLine) : (s.setFlash k v).regs = s.regs := rfl
@[simp] theorem State.setFlash_written (s : State) (k : Nat) (v : FlLine) : (s.setFlash k v).written = s.written := rfl
@[simp] theorem State.setFlash_hw (s : State) (k : Nat) (v : FlLine) : (s.setFlash k v).hw = s.hw := rfl
@[simp] theorem State.setFlash_ich (s : State) (k : Nat) (v : FlLine) : (s.setFlash k v).ich = s.ich := rfl
@[simp] theorem State.setFlash_wc (s : State) (k : Nat) (v : FlLine) : (s.setFlash k v).wc = s.wc := rfl
@[simp] theorem State.setFlash_calDue (s : State) (k : Nat) (v : FlLine) : (s.setFlash k v).calDue = s.calDue := rfl
@[simp] theorem State.setFlash_berth (s : State) (k : Nat) (v : FlLine) : (s.setFlash k v).berth = s.berth := rfl
@[simp] theorem State.setFlash_armed (s : State) (k : Nat) (v : FlLine) : (s.setFlash k v).armed = s.armed := rfl
@[simp] theorem State.setFlash_admq (s : State) (k : Nat) (v : FlLine) : (s.setFlash k v).admq = s.admq := rfl
@[simp] theorem State.setFlash_crane (s : State) (k : Nat) (v : FlLine) : (s.setFlash k v).crane = s.crane := rfl
@[simp] theorem State.setFlash_rounds (s : State) (k : Nat) (v : FlLine) : (s.setFlash k v).rounds = s.rounds := rfl
@[simp] theorem State.setFlash_bstore (s : State) (k : Nat) (v : FlLine) : (s.setFlash k v).bstore = s.bstore := rfl
@[simp] theorem State.setFlash_bstoreAt (s : State) (k : Nat) (v : FlLine) : (s.setFlash k v).bstoreAt = s.bstoreAt := rfl
@[simp] theorem State.setFlash_bram (s : State) (k : Nat) (v : FlLine) : (s.setFlash k v).bram = s.bram := rfl
@[simp] theorem State.setFlash_engW (s : State) (k : Nat) (v : FlLine) : (s.setFlash k v).engW = s.engW := rfl
@[simp] theorem State.setFlash_cu (s : State) (k : Nat) (v : FlLine) : (s.setFlash k v).cu = s.cu := rfl
@[simp] theorem State.setFlash_sram (s : State) (k : Nat) (v : FlLine) : (s.setFlash k v).sram = s.sram := rfl
@[simp] theorem State.setFlash_logAt (s : State) (k : Nat) (v : FlLine) : (s.setFlash k v).logAt = s.logAt := rfl
@[simp] theorem State.setFlash_tz (s : State) (k : Nat) (v : FlLine) : (s.setFlash k v).tz = s.tz := rfl
@[simp] theorem State.setFlash_tripPin (s : State) (k : Nat) (v : FlLine) : (s.setFlash k v).tripPin = s.tripPin := rfl
@[simp] theorem State.setFlash_tb (s : State) (k : Nat) (v : FlLine) : (s.setFlash k v).tb = s.tb := rfl
@[simp] theorem State.setFlash_tbLatch (s : State) (k : Nat) (v : FlLine) : (s.setFlash k v).tbLatch = s.tbLatch := rfl
@[simp] theorem State.setFlash_srcAt (s : State) (k : Nat) (v : FlLine) : (s.setFlash k v).srcAt = s.srcAt := rfl
@[simp] theorem State.setFlash_ev (s : State) (k : Nat) (v : FlLine) : (s.setFlash k v).ev = s.ev := rfl
@[simp] theorem State.setFlash_lc (s : State) (k : Nat) (v : FlLine) : (s.setFlash k v).lc = s.lc := rfl
@[simp] theorem State.setFlash_divAt (s : State) (k : Nat) (v : FlLine) : (s.setFlash k v).divAt = s.divAt := rfl
@[simp] theorem State.setFlash_sc (s : State) (k : Nat) (v : FlLine) : (s.setFlash k v).sc = s.sc := rfl
@[simp] theorem State.setFlash_mt (s : State) (k : Nat) (v : FlLine) : (s.setFlash k v).mt = s.mt := rfl
@[simp] theorem State.setFlash_mf (s : State) (k : Nat) (v : FlLine) : (s.setFlash k v).mf = s.mf := rfl
@[simp] theorem State.setFlash_mfu (s : State) (k : Nat) (v : FlLine) : (s.setFlash k v).mfu = s.mfu := rfl
@[simp] theorem State.setFlash_journal (s : State) (k : Nat) (v : FlLine) : (s.setFlash k v).journal = s.journal := rfl
@[simp] theorem State.setFlash_fl (s : State) (k : Nat) (v : FlLine) : (s.setFlash k v).fl = s.fl := rfl
@[simp] theorem State.setFlash_flBlk (s : State) (k : Nat) (v : FlLine) : (s.setFlash k v).flBlk = s.flBlk := rfl
@[simp] theorem State.setFlash_flWear (s : State) (k : Nat) (v : FlLine) : (s.setFlash k v).flWear = s.flWear := rfl
@[simp] theorem State.setFlash_otp (s : State) (k : Nat) (v : FlLine) : (s.setFlash k v).otp = s.otp := rfl
@[simp] theorem State.setFlash_gpioPad (s : State) (k : Nat) (v : FlLine) : (s.setFlash k v).gpioPad = s.gpioPad := rfl
@[simp] theorem State.setFlash_lkWake (s : State) (k : Nat) (v : FlLine) : (s.setFlash k v).lkWake = s.lkWake := rfl
@[simp] theorem State.setFlash_lkDrive (s : State) (k : Nat) (v : FlLine) : (s.setFlash k v).lkDrive = s.lkDrive := rfl
@[simp] theorem State.setFlash_rung (s : State) (k : Nat) (v : FlLine) : (s.setFlash k v).rung = s.rung := rfl
@[simp] theorem State.setFlash_wake (s : State) (k : Nat) (v : FlLine) : (s.setFlash k v).wake = s.wake := rfl
@[simp] theorem State.setFlash_core (s : State) (k : Nat) (v : FlLine) : (s.setFlash k v).core = s.core := rfl
@[simp] theorem State.setFlash_bank (s : State) (k : Nat) (v : FlLine) : (s.setFlash k v).bank = s.bank := rfl
@[simp] theorem State.setFlash_lock (s : State) (k : Nat) (v : FlLine) : (s.setFlash k v).lock = s.lock := rfl
@[simp] theorem State.setFlash_tide (s : State) (k : Nat) (v : FlLine) : (s.setFlash k v).tide = s.tide := rfl
@[simp] theorem State.setFlash_snap (s : State) (k : Nat) (v : FlLine) : (s.setFlash k v).snap = s.snap := rfl
@[simp] theorem State.setFlash_vsrc (s : State) (k : Nat) (v : FlLine) : (s.setFlash k v).vsrc = s.vsrc := rfl
@[simp] theorem State.setFlash_doze (s : State) (k : Nat) (v : FlLine) : (s.setFlash k v).doze = s.doze := rfl
@[simp] theorem State.setFlash_devRst (s : State) (k : Nat) (v : FlLine) : (s.setFlash k v).devRst = s.devRst := rfl
@[simp] theorem State.setFlash_scrub (s : State) (k : Nat) (v : FlLine) : (s.setFlash k v).scrub = s.scrub := rfl
@[simp] theorem State.setFlash_pps (s : State) (k : Nat) (v : FlLine) : (s.setFlash k v).pps = s.pps := rfl
@[simp] theorem State.setFlash_pwr (s : State) (k : Nat) (v : FlLine) : (s.setFlash k v).pwr = s.pwr := rfl
@[simp] theorem State.setFlash_link (s : State) (k : Nat) (v : FlLine) : (s.setFlash k v).link = s.link := rfl
@[simp] theorem State.setFlash_txs (s : State) (k : Nat) (v : FlLine) : (s.setFlash k v).txs = s.txs := rfl
@[simp] theorem State.setFlash_win (s : State) (k : Nat) (v : FlLine) : (s.setFlash k v).win = s.win := rfl
@[simp] theorem State.setFlash_lku (s : State) (k : Nat) (v : FlLine) : (s.setFlash k v).lku = s.lku := rfl
@[simp] theorem State.setFlash_gt (s : State) (k : Nat) (v : FlLine) : (s.setFlash k v).gt = s.gt := rfl
@[simp] theorem State.setFlash_boot (s : State) (k : Nat) (v : FlLine) : (s.setFlash k v).boot = s.boot := rfl
@[simp] theorem State.setFlash_graft (s : State) (k : Nat) (v : FlLine) : (s.setFlash k v).graft = s.graft := rfl
@[simp] theorem State.setFlash_ku (s : State) (k : Nat) (v : FlLine) : (s.setFlash k v).ku = s.ku := rfl
@[simp] theorem State.setFlash_dbg (s : State) (k : Nat) (v : FlLine) : (s.setFlash k v).dbg = s.dbg := rfl
@[simp] theorem State.setFlash_smb (s : State) (k : Nat) (v : FlLine) : (s.setFlash k v).smb = s.smb := rfl
@[simp] theorem State.setFlash_spi (s : State) (k : Nat) (v : FlLine) : (s.setFlash k v).spi = s.spi := rfl
@[simp] theorem State.setFlash_pending (s : State) (k : Nat) (v : FlLine) : (s.setFlash k v).pending = s.pending := rfl
@[simp] theorem State.setFlash_out (s : State) (k : Nat) (v : FlLine) : (s.setFlash k v).out = s.out := rfl
@[simp] theorem State.setFlash_free (s : State) (k : Nat) (v : FlLine) : (s.setFlash k v).free = s.free := rfl
@[simp] theorem State.setFlBlk_flBlkOf (s : State) (k : Nat) (v : FlBlk) : (s.setFlBlk k v).flBlkOf k = v := Store.get_set_same _ _ _ _
theorem State.setFlBlk_flBlkOf_ne (s : State) {j k : Nat} (v : FlBlk) (h : k ≠ j) : (s.setFlBlk j v).flBlkOf k = s.flBlkOf k := Store.get_set_ne _ _ _ h
@[simp] theorem State.setFlBlk_now (s : State) (k : Nat) (v : FlBlk) : (s.setFlBlk k v).now = s.now := rfl
@[simp] theorem State.setFlBlk_regs (s : State) (k : Nat) (v : FlBlk) : (s.setFlBlk k v).regs = s.regs := rfl
@[simp] theorem State.setFlBlk_written (s : State) (k : Nat) (v : FlBlk) : (s.setFlBlk k v).written = s.written := rfl
@[simp] theorem State.setFlBlk_hw (s : State) (k : Nat) (v : FlBlk) : (s.setFlBlk k v).hw = s.hw := rfl
@[simp] theorem State.setFlBlk_ich (s : State) (k : Nat) (v : FlBlk) : (s.setFlBlk k v).ich = s.ich := rfl
@[simp] theorem State.setFlBlk_wc (s : State) (k : Nat) (v : FlBlk) : (s.setFlBlk k v).wc = s.wc := rfl
@[simp] theorem State.setFlBlk_calDue (s : State) (k : Nat) (v : FlBlk) : (s.setFlBlk k v).calDue = s.calDue := rfl
@[simp] theorem State.setFlBlk_berth (s : State) (k : Nat) (v : FlBlk) : (s.setFlBlk k v).berth = s.berth := rfl
@[simp] theorem State.setFlBlk_armed (s : State) (k : Nat) (v : FlBlk) : (s.setFlBlk k v).armed = s.armed := rfl
@[simp] theorem State.setFlBlk_admq (s : State) (k : Nat) (v : FlBlk) : (s.setFlBlk k v).admq = s.admq := rfl
@[simp] theorem State.setFlBlk_crane (s : State) (k : Nat) (v : FlBlk) : (s.setFlBlk k v).crane = s.crane := rfl
@[simp] theorem State.setFlBlk_rounds (s : State) (k : Nat) (v : FlBlk) : (s.setFlBlk k v).rounds = s.rounds := rfl
@[simp] theorem State.setFlBlk_bstore (s : State) (k : Nat) (v : FlBlk) : (s.setFlBlk k v).bstore = s.bstore := rfl
@[simp] theorem State.setFlBlk_bstoreAt (s : State) (k : Nat) (v : FlBlk) : (s.setFlBlk k v).bstoreAt = s.bstoreAt := rfl
@[simp] theorem State.setFlBlk_bram (s : State) (k : Nat) (v : FlBlk) : (s.setFlBlk k v).bram = s.bram := rfl
@[simp] theorem State.setFlBlk_engW (s : State) (k : Nat) (v : FlBlk) : (s.setFlBlk k v).engW = s.engW := rfl
@[simp] theorem State.setFlBlk_cu (s : State) (k : Nat) (v : FlBlk) : (s.setFlBlk k v).cu = s.cu := rfl
@[simp] theorem State.setFlBlk_sram (s : State) (k : Nat) (v : FlBlk) : (s.setFlBlk k v).sram = s.sram := rfl
@[simp] theorem State.setFlBlk_logAt (s : State) (k : Nat) (v : FlBlk) : (s.setFlBlk k v).logAt = s.logAt := rfl
@[simp] theorem State.setFlBlk_tz (s : State) (k : Nat) (v : FlBlk) : (s.setFlBlk k v).tz = s.tz := rfl
@[simp] theorem State.setFlBlk_tripPin (s : State) (k : Nat) (v : FlBlk) : (s.setFlBlk k v).tripPin = s.tripPin := rfl
@[simp] theorem State.setFlBlk_tb (s : State) (k : Nat) (v : FlBlk) : (s.setFlBlk k v).tb = s.tb := rfl
@[simp] theorem State.setFlBlk_tbLatch (s : State) (k : Nat) (v : FlBlk) : (s.setFlBlk k v).tbLatch = s.tbLatch := rfl
@[simp] theorem State.setFlBlk_srcAt (s : State) (k : Nat) (v : FlBlk) : (s.setFlBlk k v).srcAt = s.srcAt := rfl
@[simp] theorem State.setFlBlk_ev (s : State) (k : Nat) (v : FlBlk) : (s.setFlBlk k v).ev = s.ev := rfl
@[simp] theorem State.setFlBlk_lc (s : State) (k : Nat) (v : FlBlk) : (s.setFlBlk k v).lc = s.lc := rfl
@[simp] theorem State.setFlBlk_divAt (s : State) (k : Nat) (v : FlBlk) : (s.setFlBlk k v).divAt = s.divAt := rfl
@[simp] theorem State.setFlBlk_sc (s : State) (k : Nat) (v : FlBlk) : (s.setFlBlk k v).sc = s.sc := rfl
@[simp] theorem State.setFlBlk_mt (s : State) (k : Nat) (v : FlBlk) : (s.setFlBlk k v).mt = s.mt := rfl
@[simp] theorem State.setFlBlk_mf (s : State) (k : Nat) (v : FlBlk) : (s.setFlBlk k v).mf = s.mf := rfl
@[simp] theorem State.setFlBlk_mfu (s : State) (k : Nat) (v : FlBlk) : (s.setFlBlk k v).mfu = s.mfu := rfl
@[simp] theorem State.setFlBlk_journal (s : State) (k : Nat) (v : FlBlk) : (s.setFlBlk k v).journal = s.journal := rfl
@[simp] theorem State.setFlBlk_fl (s : State) (k : Nat) (v : FlBlk) : (s.setFlBlk k v).fl = s.fl := rfl
@[simp] theorem State.setFlBlk_flash (s : State) (k : Nat) (v : FlBlk) : (s.setFlBlk k v).flash = s.flash := rfl
@[simp] theorem State.setFlBlk_flWear (s : State) (k : Nat) (v : FlBlk) : (s.setFlBlk k v).flWear = s.flWear := rfl
@[simp] theorem State.setFlBlk_otp (s : State) (k : Nat) (v : FlBlk) : (s.setFlBlk k v).otp = s.otp := rfl
@[simp] theorem State.setFlBlk_gpioPad (s : State) (k : Nat) (v : FlBlk) : (s.setFlBlk k v).gpioPad = s.gpioPad := rfl
@[simp] theorem State.setFlBlk_lkWake (s : State) (k : Nat) (v : FlBlk) : (s.setFlBlk k v).lkWake = s.lkWake := rfl
@[simp] theorem State.setFlBlk_lkDrive (s : State) (k : Nat) (v : FlBlk) : (s.setFlBlk k v).lkDrive = s.lkDrive := rfl
@[simp] theorem State.setFlBlk_rung (s : State) (k : Nat) (v : FlBlk) : (s.setFlBlk k v).rung = s.rung := rfl
@[simp] theorem State.setFlBlk_wake (s : State) (k : Nat) (v : FlBlk) : (s.setFlBlk k v).wake = s.wake := rfl
@[simp] theorem State.setFlBlk_core (s : State) (k : Nat) (v : FlBlk) : (s.setFlBlk k v).core = s.core := rfl
@[simp] theorem State.setFlBlk_bank (s : State) (k : Nat) (v : FlBlk) : (s.setFlBlk k v).bank = s.bank := rfl
@[simp] theorem State.setFlBlk_lock (s : State) (k : Nat) (v : FlBlk) : (s.setFlBlk k v).lock = s.lock := rfl
@[simp] theorem State.setFlBlk_tide (s : State) (k : Nat) (v : FlBlk) : (s.setFlBlk k v).tide = s.tide := rfl
@[simp] theorem State.setFlBlk_snap (s : State) (k : Nat) (v : FlBlk) : (s.setFlBlk k v).snap = s.snap := rfl
@[simp] theorem State.setFlBlk_vsrc (s : State) (k : Nat) (v : FlBlk) : (s.setFlBlk k v).vsrc = s.vsrc := rfl
@[simp] theorem State.setFlBlk_doze (s : State) (k : Nat) (v : FlBlk) : (s.setFlBlk k v).doze = s.doze := rfl
@[simp] theorem State.setFlBlk_devRst (s : State) (k : Nat) (v : FlBlk) : (s.setFlBlk k v).devRst = s.devRst := rfl
@[simp] theorem State.setFlBlk_scrub (s : State) (k : Nat) (v : FlBlk) : (s.setFlBlk k v).scrub = s.scrub := rfl
@[simp] theorem State.setFlBlk_pps (s : State) (k : Nat) (v : FlBlk) : (s.setFlBlk k v).pps = s.pps := rfl
@[simp] theorem State.setFlBlk_pwr (s : State) (k : Nat) (v : FlBlk) : (s.setFlBlk k v).pwr = s.pwr := rfl
@[simp] theorem State.setFlBlk_link (s : State) (k : Nat) (v : FlBlk) : (s.setFlBlk k v).link = s.link := rfl
@[simp] theorem State.setFlBlk_txs (s : State) (k : Nat) (v : FlBlk) : (s.setFlBlk k v).txs = s.txs := rfl
@[simp] theorem State.setFlBlk_win (s : State) (k : Nat) (v : FlBlk) : (s.setFlBlk k v).win = s.win := rfl
@[simp] theorem State.setFlBlk_lku (s : State) (k : Nat) (v : FlBlk) : (s.setFlBlk k v).lku = s.lku := rfl
@[simp] theorem State.setFlBlk_gt (s : State) (k : Nat) (v : FlBlk) : (s.setFlBlk k v).gt = s.gt := rfl
@[simp] theorem State.setFlBlk_boot (s : State) (k : Nat) (v : FlBlk) : (s.setFlBlk k v).boot = s.boot := rfl
@[simp] theorem State.setFlBlk_graft (s : State) (k : Nat) (v : FlBlk) : (s.setFlBlk k v).graft = s.graft := rfl
@[simp] theorem State.setFlBlk_ku (s : State) (k : Nat) (v : FlBlk) : (s.setFlBlk k v).ku = s.ku := rfl
@[simp] theorem State.setFlBlk_dbg (s : State) (k : Nat) (v : FlBlk) : (s.setFlBlk k v).dbg = s.dbg := rfl
@[simp] theorem State.setFlBlk_smb (s : State) (k : Nat) (v : FlBlk) : (s.setFlBlk k v).smb = s.smb := rfl
@[simp] theorem State.setFlBlk_spi (s : State) (k : Nat) (v : FlBlk) : (s.setFlBlk k v).spi = s.spi := rfl
@[simp] theorem State.setFlBlk_pending (s : State) (k : Nat) (v : FlBlk) : (s.setFlBlk k v).pending = s.pending := rfl
@[simp] theorem State.setFlBlk_out (s : State) (k : Nat) (v : FlBlk) : (s.setFlBlk k v).out = s.out := rfl
@[simp] theorem State.setFlBlk_free (s : State) (k : Nat) (v : FlBlk) : (s.setFlBlk k v).free = s.free := rfl
@[simp] theorem State.setOtp_otpOf (s : State) (k : Nat) (v : (Option (BitVec 18))) : (s.setOtp k v).otpOf k = v := Store.get_set_same _ _ _ _
theorem State.setOtp_otpOf_ne (s : State) {j k : Nat} (v : (Option (BitVec 18))) (h : k ≠ j) : (s.setOtp j v).otpOf k = s.otpOf k := Store.get_set_ne _ _ _ h
@[simp] theorem State.setOtp_now (s : State) (k : Nat) (v : (Option (BitVec 18))) : (s.setOtp k v).now = s.now := rfl
@[simp] theorem State.setOtp_regs (s : State) (k : Nat) (v : (Option (BitVec 18))) : (s.setOtp k v).regs = s.regs := rfl
@[simp] theorem State.setOtp_written (s : State) (k : Nat) (v : (Option (BitVec 18))) : (s.setOtp k v).written = s.written := rfl
@[simp] theorem State.setOtp_hw (s : State) (k : Nat) (v : (Option (BitVec 18))) : (s.setOtp k v).hw = s.hw := rfl
@[simp] theorem State.setOtp_ich (s : State) (k : Nat) (v : (Option (BitVec 18))) : (s.setOtp k v).ich = s.ich := rfl
@[simp] theorem State.setOtp_wc (s : State) (k : Nat) (v : (Option (BitVec 18))) : (s.setOtp k v).wc = s.wc := rfl
@[simp] theorem State.setOtp_calDue (s : State) (k : Nat) (v : (Option (BitVec 18))) : (s.setOtp k v).calDue = s.calDue := rfl
@[simp] theorem State.setOtp_berth (s : State) (k : Nat) (v : (Option (BitVec 18))) : (s.setOtp k v).berth = s.berth := rfl
@[simp] theorem State.setOtp_armed (s : State) (k : Nat) (v : (Option (BitVec 18))) : (s.setOtp k v).armed = s.armed := rfl
@[simp] theorem State.setOtp_admq (s : State) (k : Nat) (v : (Option (BitVec 18))) : (s.setOtp k v).admq = s.admq := rfl
@[simp] theorem State.setOtp_crane (s : State) (k : Nat) (v : (Option (BitVec 18))) : (s.setOtp k v).crane = s.crane := rfl
@[simp] theorem State.setOtp_rounds (s : State) (k : Nat) (v : (Option (BitVec 18))) : (s.setOtp k v).rounds = s.rounds := rfl
@[simp] theorem State.setOtp_bstore (s : State) (k : Nat) (v : (Option (BitVec 18))) : (s.setOtp k v).bstore = s.bstore := rfl
@[simp] theorem State.setOtp_bstoreAt (s : State) (k : Nat) (v : (Option (BitVec 18))) : (s.setOtp k v).bstoreAt = s.bstoreAt := rfl
@[simp] theorem State.setOtp_bram (s : State) (k : Nat) (v : (Option (BitVec 18))) : (s.setOtp k v).bram = s.bram := rfl
@[simp] theorem State.setOtp_engW (s : State) (k : Nat) (v : (Option (BitVec 18))) : (s.setOtp k v).engW = s.engW := rfl
@[simp] theorem State.setOtp_cu (s : State) (k : Nat) (v : (Option (BitVec 18))) : (s.setOtp k v).cu = s.cu := rfl
@[simp] theorem State.setOtp_sram (s : State) (k : Nat) (v : (Option (BitVec 18))) : (s.setOtp k v).sram = s.sram := rfl
@[simp] theorem State.setOtp_logAt (s : State) (k : Nat) (v : (Option (BitVec 18))) : (s.setOtp k v).logAt = s.logAt := rfl
@[simp] theorem State.setOtp_tz (s : State) (k : Nat) (v : (Option (BitVec 18))) : (s.setOtp k v).tz = s.tz := rfl
@[simp] theorem State.setOtp_tripPin (s : State) (k : Nat) (v : (Option (BitVec 18))) : (s.setOtp k v).tripPin = s.tripPin := rfl
@[simp] theorem State.setOtp_tb (s : State) (k : Nat) (v : (Option (BitVec 18))) : (s.setOtp k v).tb = s.tb := rfl
@[simp] theorem State.setOtp_tbLatch (s : State) (k : Nat) (v : (Option (BitVec 18))) : (s.setOtp k v).tbLatch = s.tbLatch := rfl
@[simp] theorem State.setOtp_srcAt (s : State) (k : Nat) (v : (Option (BitVec 18))) : (s.setOtp k v).srcAt = s.srcAt := rfl
@[simp] theorem State.setOtp_ev (s : State) (k : Nat) (v : (Option (BitVec 18))) : (s.setOtp k v).ev = s.ev := rfl
@[simp] theorem State.setOtp_lc (s : State) (k : Nat) (v : (Option (BitVec 18))) : (s.setOtp k v).lc = s.lc := rfl
@[simp] theorem State.setOtp_divAt (s : State) (k : Nat) (v : (Option (BitVec 18))) : (s.setOtp k v).divAt = s.divAt := rfl
@[simp] theorem State.setOtp_sc (s : State) (k : Nat) (v : (Option (BitVec 18))) : (s.setOtp k v).sc = s.sc := rfl
@[simp] theorem State.setOtp_mt (s : State) (k : Nat) (v : (Option (BitVec 18))) : (s.setOtp k v).mt = s.mt := rfl
@[simp] theorem State.setOtp_mf (s : State) (k : Nat) (v : (Option (BitVec 18))) : (s.setOtp k v).mf = s.mf := rfl
@[simp] theorem State.setOtp_mfu (s : State) (k : Nat) (v : (Option (BitVec 18))) : (s.setOtp k v).mfu = s.mfu := rfl
@[simp] theorem State.setOtp_journal (s : State) (k : Nat) (v : (Option (BitVec 18))) : (s.setOtp k v).journal = s.journal := rfl
@[simp] theorem State.setOtp_fl (s : State) (k : Nat) (v : (Option (BitVec 18))) : (s.setOtp k v).fl = s.fl := rfl
@[simp] theorem State.setOtp_flash (s : State) (k : Nat) (v : (Option (BitVec 18))) : (s.setOtp k v).flash = s.flash := rfl
@[simp] theorem State.setOtp_flBlk (s : State) (k : Nat) (v : (Option (BitVec 18))) : (s.setOtp k v).flBlk = s.flBlk := rfl
@[simp] theorem State.setOtp_flWear (s : State) (k : Nat) (v : (Option (BitVec 18))) : (s.setOtp k v).flWear = s.flWear := rfl
@[simp] theorem State.setOtp_gpioPad (s : State) (k : Nat) (v : (Option (BitVec 18))) : (s.setOtp k v).gpioPad = s.gpioPad := rfl
@[simp] theorem State.setOtp_lkWake (s : State) (k : Nat) (v : (Option (BitVec 18))) : (s.setOtp k v).lkWake = s.lkWake := rfl
@[simp] theorem State.setOtp_lkDrive (s : State) (k : Nat) (v : (Option (BitVec 18))) : (s.setOtp k v).lkDrive = s.lkDrive := rfl
@[simp] theorem State.setOtp_rung (s : State) (k : Nat) (v : (Option (BitVec 18))) : (s.setOtp k v).rung = s.rung := rfl
@[simp] theorem State.setOtp_wake (s : State) (k : Nat) (v : (Option (BitVec 18))) : (s.setOtp k v).wake = s.wake := rfl
@[simp] theorem State.setOtp_core (s : State) (k : Nat) (v : (Option (BitVec 18))) : (s.setOtp k v).core = s.core := rfl
@[simp] theorem State.setOtp_bank (s : State) (k : Nat) (v : (Option (BitVec 18))) : (s.setOtp k v).bank = s.bank := rfl
@[simp] theorem State.setOtp_lock (s : State) (k : Nat) (v : (Option (BitVec 18))) : (s.setOtp k v).lock = s.lock := rfl
@[simp] theorem State.setOtp_tide (s : State) (k : Nat) (v : (Option (BitVec 18))) : (s.setOtp k v).tide = s.tide := rfl
@[simp] theorem State.setOtp_snap (s : State) (k : Nat) (v : (Option (BitVec 18))) : (s.setOtp k v).snap = s.snap := rfl
@[simp] theorem State.setOtp_vsrc (s : State) (k : Nat) (v : (Option (BitVec 18))) : (s.setOtp k v).vsrc = s.vsrc := rfl
@[simp] theorem State.setOtp_doze (s : State) (k : Nat) (v : (Option (BitVec 18))) : (s.setOtp k v).doze = s.doze := rfl
@[simp] theorem State.setOtp_devRst (s : State) (k : Nat) (v : (Option (BitVec 18))) : (s.setOtp k v).devRst = s.devRst := rfl
@[simp] theorem State.setOtp_scrub (s : State) (k : Nat) (v : (Option (BitVec 18))) : (s.setOtp k v).scrub = s.scrub := rfl
@[simp] theorem State.setOtp_pps (s : State) (k : Nat) (v : (Option (BitVec 18))) : (s.setOtp k v).pps = s.pps := rfl
@[simp] theorem State.setOtp_pwr (s : State) (k : Nat) (v : (Option (BitVec 18))) : (s.setOtp k v).pwr = s.pwr := rfl
@[simp] theorem State.setOtp_link (s : State) (k : Nat) (v : (Option (BitVec 18))) : (s.setOtp k v).link = s.link := rfl
@[simp] theorem State.setOtp_txs (s : State) (k : Nat) (v : (Option (BitVec 18))) : (s.setOtp k v).txs = s.txs := rfl
@[simp] theorem State.setOtp_win (s : State) (k : Nat) (v : (Option (BitVec 18))) : (s.setOtp k v).win = s.win := rfl
@[simp] theorem State.setOtp_lku (s : State) (k : Nat) (v : (Option (BitVec 18))) : (s.setOtp k v).lku = s.lku := rfl
@[simp] theorem State.setOtp_gt (s : State) (k : Nat) (v : (Option (BitVec 18))) : (s.setOtp k v).gt = s.gt := rfl
@[simp] theorem State.setOtp_boot (s : State) (k : Nat) (v : (Option (BitVec 18))) : (s.setOtp k v).boot = s.boot := rfl
@[simp] theorem State.setOtp_graft (s : State) (k : Nat) (v : (Option (BitVec 18))) : (s.setOtp k v).graft = s.graft := rfl
@[simp] theorem State.setOtp_ku (s : State) (k : Nat) (v : (Option (BitVec 18))) : (s.setOtp k v).ku = s.ku := rfl
@[simp] theorem State.setOtp_dbg (s : State) (k : Nat) (v : (Option (BitVec 18))) : (s.setOtp k v).dbg = s.dbg := rfl
@[simp] theorem State.setOtp_smb (s : State) (k : Nat) (v : (Option (BitVec 18))) : (s.setOtp k v).smb = s.smb := rfl
@[simp] theorem State.setOtp_spi (s : State) (k : Nat) (v : (Option (BitVec 18))) : (s.setOtp k v).spi = s.spi := rfl
@[simp] theorem State.setOtp_pending (s : State) (k : Nat) (v : (Option (BitVec 18))) : (s.setOtp k v).pending = s.pending := rfl
@[simp] theorem State.setOtp_out (s : State) (k : Nat) (v : (Option (BitVec 18))) : (s.setOtp k v).out = s.out := rfl
@[simp] theorem State.setOtp_free (s : State) (k : Nat) (v : (Option (BitVec 18))) : (s.setOtp k v).free = s.free := rfl
@[simp] theorem State.setGpioPad_gpioPadOf (s : State) (k : Nat) (v : GpioPad) : (s.setGpioPad k v).gpioPadOf k = v := Store.get_set_same _ _ _ _
theorem State.setGpioPad_gpioPadOf_ne (s : State) {j k : Nat} (v : GpioPad) (h : k ≠ j) : (s.setGpioPad j v).gpioPadOf k = s.gpioPadOf k := Store.get_set_ne _ _ _ h
@[simp] theorem State.setGpioPad_now (s : State) (k : Nat) (v : GpioPad) : (s.setGpioPad k v).now = s.now := rfl
@[simp] theorem State.setGpioPad_regs (s : State) (k : Nat) (v : GpioPad) : (s.setGpioPad k v).regs = s.regs := rfl
@[simp] theorem State.setGpioPad_written (s : State) (k : Nat) (v : GpioPad) : (s.setGpioPad k v).written = s.written := rfl
@[simp] theorem State.setGpioPad_hw (s : State) (k : Nat) (v : GpioPad) : (s.setGpioPad k v).hw = s.hw := rfl
@[simp] theorem State.setGpioPad_ich (s : State) (k : Nat) (v : GpioPad) : (s.setGpioPad k v).ich = s.ich := rfl
@[simp] theorem State.setGpioPad_wc (s : State) (k : Nat) (v : GpioPad) : (s.setGpioPad k v).wc = s.wc := rfl
@[simp] theorem State.setGpioPad_calDue (s : State) (k : Nat) (v : GpioPad) : (s.setGpioPad k v).calDue = s.calDue := rfl
@[simp] theorem State.setGpioPad_berth (s : State) (k : Nat) (v : GpioPad) : (s.setGpioPad k v).berth = s.berth := rfl
@[simp] theorem State.setGpioPad_armed (s : State) (k : Nat) (v : GpioPad) : (s.setGpioPad k v).armed = s.armed := rfl
@[simp] theorem State.setGpioPad_admq (s : State) (k : Nat) (v : GpioPad) : (s.setGpioPad k v).admq = s.admq := rfl
@[simp] theorem State.setGpioPad_crane (s : State) (k : Nat) (v : GpioPad) : (s.setGpioPad k v).crane = s.crane := rfl
@[simp] theorem State.setGpioPad_rounds (s : State) (k : Nat) (v : GpioPad) : (s.setGpioPad k v).rounds = s.rounds := rfl
@[simp] theorem State.setGpioPad_bstore (s : State) (k : Nat) (v : GpioPad) : (s.setGpioPad k v).bstore = s.bstore := rfl
@[simp] theorem State.setGpioPad_bstoreAt (s : State) (k : Nat) (v : GpioPad) : (s.setGpioPad k v).bstoreAt = s.bstoreAt := rfl
@[simp] theorem State.setGpioPad_bram (s : State) (k : Nat) (v : GpioPad) : (s.setGpioPad k v).bram = s.bram := rfl
@[simp] theorem State.setGpioPad_engW (s : State) (k : Nat) (v : GpioPad) : (s.setGpioPad k v).engW = s.engW := rfl
@[simp] theorem State.setGpioPad_cu (s : State) (k : Nat) (v : GpioPad) : (s.setGpioPad k v).cu = s.cu := rfl
@[simp] theorem State.setGpioPad_sram (s : State) (k : Nat) (v : GpioPad) : (s.setGpioPad k v).sram = s.sram := rfl
@[simp] theorem State.setGpioPad_logAt (s : State) (k : Nat) (v : GpioPad) : (s.setGpioPad k v).logAt = s.logAt := rfl
@[simp] theorem State.setGpioPad_tz (s : State) (k : Nat) (v : GpioPad) : (s.setGpioPad k v).tz = s.tz := rfl
@[simp] theorem State.setGpioPad_tripPin (s : State) (k : Nat) (v : GpioPad) : (s.setGpioPad k v).tripPin = s.tripPin := rfl
@[simp] theorem State.setGpioPad_tb (s : State) (k : Nat) (v : GpioPad) : (s.setGpioPad k v).tb = s.tb := rfl
@[simp] theorem State.setGpioPad_tbLatch (s : State) (k : Nat) (v : GpioPad) : (s.setGpioPad k v).tbLatch = s.tbLatch := rfl
@[simp] theorem State.setGpioPad_srcAt (s : State) (k : Nat) (v : GpioPad) : (s.setGpioPad k v).srcAt = s.srcAt := rfl
@[simp] theorem State.setGpioPad_ev (s : State) (k : Nat) (v : GpioPad) : (s.setGpioPad k v).ev = s.ev := rfl
@[simp] theorem State.setGpioPad_lc (s : State) (k : Nat) (v : GpioPad) : (s.setGpioPad k v).lc = s.lc := rfl
@[simp] theorem State.setGpioPad_divAt (s : State) (k : Nat) (v : GpioPad) : (s.setGpioPad k v).divAt = s.divAt := rfl
@[simp] theorem State.setGpioPad_sc (s : State) (k : Nat) (v : GpioPad) : (s.setGpioPad k v).sc = s.sc := rfl
@[simp] theorem State.setGpioPad_mt (s : State) (k : Nat) (v : GpioPad) : (s.setGpioPad k v).mt = s.mt := rfl
@[simp] theorem State.setGpioPad_mf (s : State) (k : Nat) (v : GpioPad) : (s.setGpioPad k v).mf = s.mf := rfl
@[simp] theorem State.setGpioPad_mfu (s : State) (k : Nat) (v : GpioPad) : (s.setGpioPad k v).mfu = s.mfu := rfl
@[simp] theorem State.setGpioPad_journal (s : State) (k : Nat) (v : GpioPad) : (s.setGpioPad k v).journal = s.journal := rfl
@[simp] theorem State.setGpioPad_fl (s : State) (k : Nat) (v : GpioPad) : (s.setGpioPad k v).fl = s.fl := rfl
@[simp] theorem State.setGpioPad_flash (s : State) (k : Nat) (v : GpioPad) : (s.setGpioPad k v).flash = s.flash := rfl
@[simp] theorem State.setGpioPad_flBlk (s : State) (k : Nat) (v : GpioPad) : (s.setGpioPad k v).flBlk = s.flBlk := rfl
@[simp] theorem State.setGpioPad_flWear (s : State) (k : Nat) (v : GpioPad) : (s.setGpioPad k v).flWear = s.flWear := rfl
@[simp] theorem State.setGpioPad_otp (s : State) (k : Nat) (v : GpioPad) : (s.setGpioPad k v).otp = s.otp := rfl
@[simp] theorem State.setGpioPad_lkWake (s : State) (k : Nat) (v : GpioPad) : (s.setGpioPad k v).lkWake = s.lkWake := rfl
@[simp] theorem State.setGpioPad_lkDrive (s : State) (k : Nat) (v : GpioPad) : (s.setGpioPad k v).lkDrive = s.lkDrive := rfl
@[simp] theorem State.setGpioPad_rung (s : State) (k : Nat) (v : GpioPad) : (s.setGpioPad k v).rung = s.rung := rfl
@[simp] theorem State.setGpioPad_wake (s : State) (k : Nat) (v : GpioPad) : (s.setGpioPad k v).wake = s.wake := rfl
@[simp] theorem State.setGpioPad_core (s : State) (k : Nat) (v : GpioPad) : (s.setGpioPad k v).core = s.core := rfl
@[simp] theorem State.setGpioPad_bank (s : State) (k : Nat) (v : GpioPad) : (s.setGpioPad k v).bank = s.bank := rfl
@[simp] theorem State.setGpioPad_lock (s : State) (k : Nat) (v : GpioPad) : (s.setGpioPad k v).lock = s.lock := rfl
@[simp] theorem State.setGpioPad_tide (s : State) (k : Nat) (v : GpioPad) : (s.setGpioPad k v).tide = s.tide := rfl
@[simp] theorem State.setGpioPad_snap (s : State) (k : Nat) (v : GpioPad) : (s.setGpioPad k v).snap = s.snap := rfl
@[simp] theorem State.setGpioPad_vsrc (s : State) (k : Nat) (v : GpioPad) : (s.setGpioPad k v).vsrc = s.vsrc := rfl
@[simp] theorem State.setGpioPad_doze (s : State) (k : Nat) (v : GpioPad) : (s.setGpioPad k v).doze = s.doze := rfl
@[simp] theorem State.setGpioPad_devRst (s : State) (k : Nat) (v : GpioPad) : (s.setGpioPad k v).devRst = s.devRst := rfl
@[simp] theorem State.setGpioPad_scrub (s : State) (k : Nat) (v : GpioPad) : (s.setGpioPad k v).scrub = s.scrub := rfl
@[simp] theorem State.setGpioPad_pps (s : State) (k : Nat) (v : GpioPad) : (s.setGpioPad k v).pps = s.pps := rfl
@[simp] theorem State.setGpioPad_pwr (s : State) (k : Nat) (v : GpioPad) : (s.setGpioPad k v).pwr = s.pwr := rfl
@[simp] theorem State.setGpioPad_link (s : State) (k : Nat) (v : GpioPad) : (s.setGpioPad k v).link = s.link := rfl
@[simp] theorem State.setGpioPad_txs (s : State) (k : Nat) (v : GpioPad) : (s.setGpioPad k v).txs = s.txs := rfl
@[simp] theorem State.setGpioPad_win (s : State) (k : Nat) (v : GpioPad) : (s.setGpioPad k v).win = s.win := rfl
@[simp] theorem State.setGpioPad_lku (s : State) (k : Nat) (v : GpioPad) : (s.setGpioPad k v).lku = s.lku := rfl
@[simp] theorem State.setGpioPad_gt (s : State) (k : Nat) (v : GpioPad) : (s.setGpioPad k v).gt = s.gt := rfl
@[simp] theorem State.setGpioPad_boot (s : State) (k : Nat) (v : GpioPad) : (s.setGpioPad k v).boot = s.boot := rfl
@[simp] theorem State.setGpioPad_graft (s : State) (k : Nat) (v : GpioPad) : (s.setGpioPad k v).graft = s.graft := rfl
@[simp] theorem State.setGpioPad_ku (s : State) (k : Nat) (v : GpioPad) : (s.setGpioPad k v).ku = s.ku := rfl
@[simp] theorem State.setGpioPad_dbg (s : State) (k : Nat) (v : GpioPad) : (s.setGpioPad k v).dbg = s.dbg := rfl
@[simp] theorem State.setGpioPad_smb (s : State) (k : Nat) (v : GpioPad) : (s.setGpioPad k v).smb = s.smb := rfl
@[simp] theorem State.setGpioPad_spi (s : State) (k : Nat) (v : GpioPad) : (s.setGpioPad k v).spi = s.spi := rfl
@[simp] theorem State.setGpioPad_pending (s : State) (k : Nat) (v : GpioPad) : (s.setGpioPad k v).pending = s.pending := rfl
@[simp] theorem State.setGpioPad_out (s : State) (k : Nat) (v : GpioPad) : (s.setGpioPad k v).out = s.out := rfl
@[simp] theorem State.setGpioPad_free (s : State) (k : Nat) (v : GpioPad) : (s.setGpioPad k v).free = s.free := rfl
@[simp] theorem State.setLkWake_lkWakeOf (s : State) (k : Nat) (v : Bool) : (s.setLkWake k v).lkWakeOf k = v := Store.get_set_same _ _ _ _
theorem State.setLkWake_lkWakeOf_ne (s : State) {j k : Nat} (v : Bool) (h : k ≠ j) : (s.setLkWake j v).lkWakeOf k = s.lkWakeOf k := Store.get_set_ne _ _ _ h
@[simp] theorem State.setLkWake_now (s : State) (k : Nat) (v : Bool) : (s.setLkWake k v).now = s.now := rfl
@[simp] theorem State.setLkWake_regs (s : State) (k : Nat) (v : Bool) : (s.setLkWake k v).regs = s.regs := rfl
@[simp] theorem State.setLkWake_written (s : State) (k : Nat) (v : Bool) : (s.setLkWake k v).written = s.written := rfl
@[simp] theorem State.setLkWake_hw (s : State) (k : Nat) (v : Bool) : (s.setLkWake k v).hw = s.hw := rfl
@[simp] theorem State.setLkWake_ich (s : State) (k : Nat) (v : Bool) : (s.setLkWake k v).ich = s.ich := rfl
@[simp] theorem State.setLkWake_wc (s : State) (k : Nat) (v : Bool) : (s.setLkWake k v).wc = s.wc := rfl
@[simp] theorem State.setLkWake_calDue (s : State) (k : Nat) (v : Bool) : (s.setLkWake k v).calDue = s.calDue := rfl
@[simp] theorem State.setLkWake_berth (s : State) (k : Nat) (v : Bool) : (s.setLkWake k v).berth = s.berth := rfl
@[simp] theorem State.setLkWake_armed (s : State) (k : Nat) (v : Bool) : (s.setLkWake k v).armed = s.armed := rfl
@[simp] theorem State.setLkWake_admq (s : State) (k : Nat) (v : Bool) : (s.setLkWake k v).admq = s.admq := rfl
@[simp] theorem State.setLkWake_crane (s : State) (k : Nat) (v : Bool) : (s.setLkWake k v).crane = s.crane := rfl
@[simp] theorem State.setLkWake_rounds (s : State) (k : Nat) (v : Bool) : (s.setLkWake k v).rounds = s.rounds := rfl
@[simp] theorem State.setLkWake_bstore (s : State) (k : Nat) (v : Bool) : (s.setLkWake k v).bstore = s.bstore := rfl
@[simp] theorem State.setLkWake_bstoreAt (s : State) (k : Nat) (v : Bool) : (s.setLkWake k v).bstoreAt = s.bstoreAt := rfl
@[simp] theorem State.setLkWake_bram (s : State) (k : Nat) (v : Bool) : (s.setLkWake k v).bram = s.bram := rfl
@[simp] theorem State.setLkWake_engW (s : State) (k : Nat) (v : Bool) : (s.setLkWake k v).engW = s.engW := rfl
@[simp] theorem State.setLkWake_cu (s : State) (k : Nat) (v : Bool) : (s.setLkWake k v).cu = s.cu := rfl
@[simp] theorem State.setLkWake_sram (s : State) (k : Nat) (v : Bool) : (s.setLkWake k v).sram = s.sram := rfl
@[simp] theorem State.setLkWake_logAt (s : State) (k : Nat) (v : Bool) : (s.setLkWake k v).logAt = s.logAt := rfl
@[simp] theorem State.setLkWake_tz (s : State) (k : Nat) (v : Bool) : (s.setLkWake k v).tz = s.tz := rfl
@[simp] theorem State.setLkWake_tripPin (s : State) (k : Nat) (v : Bool) : (s.setLkWake k v).tripPin = s.tripPin := rfl
@[simp] theorem State.setLkWake_tb (s : State) (k : Nat) (v : Bool) : (s.setLkWake k v).tb = s.tb := rfl
@[simp] theorem State.setLkWake_tbLatch (s : State) (k : Nat) (v : Bool) : (s.setLkWake k v).tbLatch = s.tbLatch := rfl
@[simp] theorem State.setLkWake_srcAt (s : State) (k : Nat) (v : Bool) : (s.setLkWake k v).srcAt = s.srcAt := rfl
@[simp] theorem State.setLkWake_ev (s : State) (k : Nat) (v : Bool) : (s.setLkWake k v).ev = s.ev := rfl
@[simp] theorem State.setLkWake_lc (s : State) (k : Nat) (v : Bool) : (s.setLkWake k v).lc = s.lc := rfl
@[simp] theorem State.setLkWake_divAt (s : State) (k : Nat) (v : Bool) : (s.setLkWake k v).divAt = s.divAt := rfl
@[simp] theorem State.setLkWake_sc (s : State) (k : Nat) (v : Bool) : (s.setLkWake k v).sc = s.sc := rfl
@[simp] theorem State.setLkWake_mt (s : State) (k : Nat) (v : Bool) : (s.setLkWake k v).mt = s.mt := rfl
@[simp] theorem State.setLkWake_mf (s : State) (k : Nat) (v : Bool) : (s.setLkWake k v).mf = s.mf := rfl
@[simp] theorem State.setLkWake_mfu (s : State) (k : Nat) (v : Bool) : (s.setLkWake k v).mfu = s.mfu := rfl
@[simp] theorem State.setLkWake_journal (s : State) (k : Nat) (v : Bool) : (s.setLkWake k v).journal = s.journal := rfl
@[simp] theorem State.setLkWake_fl (s : State) (k : Nat) (v : Bool) : (s.setLkWake k v).fl = s.fl := rfl
@[simp] theorem State.setLkWake_flash (s : State) (k : Nat) (v : Bool) : (s.setLkWake k v).flash = s.flash := rfl
@[simp] theorem State.setLkWake_flBlk (s : State) (k : Nat) (v : Bool) : (s.setLkWake k v).flBlk = s.flBlk := rfl
@[simp] theorem State.setLkWake_flWear (s : State) (k : Nat) (v : Bool) : (s.setLkWake k v).flWear = s.flWear := rfl
@[simp] theorem State.setLkWake_otp (s : State) (k : Nat) (v : Bool) : (s.setLkWake k v).otp = s.otp := rfl
@[simp] theorem State.setLkWake_gpioPad (s : State) (k : Nat) (v : Bool) : (s.setLkWake k v).gpioPad = s.gpioPad := rfl
@[simp] theorem State.setLkWake_lkDrive (s : State) (k : Nat) (v : Bool) : (s.setLkWake k v).lkDrive = s.lkDrive := rfl
@[simp] theorem State.setLkWake_rung (s : State) (k : Nat) (v : Bool) : (s.setLkWake k v).rung = s.rung := rfl
@[simp] theorem State.setLkWake_wake (s : State) (k : Nat) (v : Bool) : (s.setLkWake k v).wake = s.wake := rfl
@[simp] theorem State.setLkWake_core (s : State) (k : Nat) (v : Bool) : (s.setLkWake k v).core = s.core := rfl
@[simp] theorem State.setLkWake_bank (s : State) (k : Nat) (v : Bool) : (s.setLkWake k v).bank = s.bank := rfl
@[simp] theorem State.setLkWake_lock (s : State) (k : Nat) (v : Bool) : (s.setLkWake k v).lock = s.lock := rfl
@[simp] theorem State.setLkWake_tide (s : State) (k : Nat) (v : Bool) : (s.setLkWake k v).tide = s.tide := rfl
@[simp] theorem State.setLkWake_snap (s : State) (k : Nat) (v : Bool) : (s.setLkWake k v).snap = s.snap := rfl
@[simp] theorem State.setLkWake_vsrc (s : State) (k : Nat) (v : Bool) : (s.setLkWake k v).vsrc = s.vsrc := rfl
@[simp] theorem State.setLkWake_doze (s : State) (k : Nat) (v : Bool) : (s.setLkWake k v).doze = s.doze := rfl
@[simp] theorem State.setLkWake_devRst (s : State) (k : Nat) (v : Bool) : (s.setLkWake k v).devRst = s.devRst := rfl
@[simp] theorem State.setLkWake_scrub (s : State) (k : Nat) (v : Bool) : (s.setLkWake k v).scrub = s.scrub := rfl
@[simp] theorem State.setLkWake_pps (s : State) (k : Nat) (v : Bool) : (s.setLkWake k v).pps = s.pps := rfl
@[simp] theorem State.setLkWake_pwr (s : State) (k : Nat) (v : Bool) : (s.setLkWake k v).pwr = s.pwr := rfl
@[simp] theorem State.setLkWake_link (s : State) (k : Nat) (v : Bool) : (s.setLkWake k v).link = s.link := rfl
@[simp] theorem State.setLkWake_txs (s : State) (k : Nat) (v : Bool) : (s.setLkWake k v).txs = s.txs := rfl
@[simp] theorem State.setLkWake_win (s : State) (k : Nat) (v : Bool) : (s.setLkWake k v).win = s.win := rfl
@[simp] theorem State.setLkWake_lku (s : State) (k : Nat) (v : Bool) : (s.setLkWake k v).lku = s.lku := rfl
@[simp] theorem State.setLkWake_gt (s : State) (k : Nat) (v : Bool) : (s.setLkWake k v).gt = s.gt := rfl
@[simp] theorem State.setLkWake_boot (s : State) (k : Nat) (v : Bool) : (s.setLkWake k v).boot = s.boot := rfl
@[simp] theorem State.setLkWake_graft (s : State) (k : Nat) (v : Bool) : (s.setLkWake k v).graft = s.graft := rfl
@[simp] theorem State.setLkWake_ku (s : State) (k : Nat) (v : Bool) : (s.setLkWake k v).ku = s.ku := rfl
@[simp] theorem State.setLkWake_dbg (s : State) (k : Nat) (v : Bool) : (s.setLkWake k v).dbg = s.dbg := rfl
@[simp] theorem State.setLkWake_smb (s : State) (k : Nat) (v : Bool) : (s.setLkWake k v).smb = s.smb := rfl
@[simp] theorem State.setLkWake_spi (s : State) (k : Nat) (v : Bool) : (s.setLkWake k v).spi = s.spi := rfl
@[simp] theorem State.setLkWake_pending (s : State) (k : Nat) (v : Bool) : (s.setLkWake k v).pending = s.pending := rfl
@[simp] theorem State.setLkWake_out (s : State) (k : Nat) (v : Bool) : (s.setLkWake k v).out = s.out := rfl
@[simp] theorem State.setLkWake_free (s : State) (k : Nat) (v : Bool) : (s.setLkWake k v).free = s.free := rfl
@[simp] theorem State.setLkDrive_lkDriveOf (s : State) (k : Nat) (v : (Option Nat)) : (s.setLkDrive k v).lkDriveOf k = v := Store.get_set_same _ _ _ _
theorem State.setLkDrive_lkDriveOf_ne (s : State) {j k : Nat} (v : (Option Nat)) (h : k ≠ j) : (s.setLkDrive j v).lkDriveOf k = s.lkDriveOf k := Store.get_set_ne _ _ _ h
@[simp] theorem State.setLkDrive_now (s : State) (k : Nat) (v : (Option Nat)) : (s.setLkDrive k v).now = s.now := rfl
@[simp] theorem State.setLkDrive_regs (s : State) (k : Nat) (v : (Option Nat)) : (s.setLkDrive k v).regs = s.regs := rfl
@[simp] theorem State.setLkDrive_written (s : State) (k : Nat) (v : (Option Nat)) : (s.setLkDrive k v).written = s.written := rfl
@[simp] theorem State.setLkDrive_hw (s : State) (k : Nat) (v : (Option Nat)) : (s.setLkDrive k v).hw = s.hw := rfl
@[simp] theorem State.setLkDrive_ich (s : State) (k : Nat) (v : (Option Nat)) : (s.setLkDrive k v).ich = s.ich := rfl
@[simp] theorem State.setLkDrive_wc (s : State) (k : Nat) (v : (Option Nat)) : (s.setLkDrive k v).wc = s.wc := rfl
@[simp] theorem State.setLkDrive_calDue (s : State) (k : Nat) (v : (Option Nat)) : (s.setLkDrive k v).calDue = s.calDue := rfl
@[simp] theorem State.setLkDrive_berth (s : State) (k : Nat) (v : (Option Nat)) : (s.setLkDrive k v).berth = s.berth := rfl
@[simp] theorem State.setLkDrive_armed (s : State) (k : Nat) (v : (Option Nat)) : (s.setLkDrive k v).armed = s.armed := rfl
@[simp] theorem State.setLkDrive_admq (s : State) (k : Nat) (v : (Option Nat)) : (s.setLkDrive k v).admq = s.admq := rfl
@[simp] theorem State.setLkDrive_crane (s : State) (k : Nat) (v : (Option Nat)) : (s.setLkDrive k v).crane = s.crane := rfl
@[simp] theorem State.setLkDrive_rounds (s : State) (k : Nat) (v : (Option Nat)) : (s.setLkDrive k v).rounds = s.rounds := rfl
@[simp] theorem State.setLkDrive_bstore (s : State) (k : Nat) (v : (Option Nat)) : (s.setLkDrive k v).bstore = s.bstore := rfl
@[simp] theorem State.setLkDrive_bstoreAt (s : State) (k : Nat) (v : (Option Nat)) : (s.setLkDrive k v).bstoreAt = s.bstoreAt := rfl
@[simp] theorem State.setLkDrive_bram (s : State) (k : Nat) (v : (Option Nat)) : (s.setLkDrive k v).bram = s.bram := rfl
@[simp] theorem State.setLkDrive_engW (s : State) (k : Nat) (v : (Option Nat)) : (s.setLkDrive k v).engW = s.engW := rfl
@[simp] theorem State.setLkDrive_cu (s : State) (k : Nat) (v : (Option Nat)) : (s.setLkDrive k v).cu = s.cu := rfl
@[simp] theorem State.setLkDrive_sram (s : State) (k : Nat) (v : (Option Nat)) : (s.setLkDrive k v).sram = s.sram := rfl
@[simp] theorem State.setLkDrive_logAt (s : State) (k : Nat) (v : (Option Nat)) : (s.setLkDrive k v).logAt = s.logAt := rfl
@[simp] theorem State.setLkDrive_tz (s : State) (k : Nat) (v : (Option Nat)) : (s.setLkDrive k v).tz = s.tz := rfl
@[simp] theorem State.setLkDrive_tripPin (s : State) (k : Nat) (v : (Option Nat)) : (s.setLkDrive k v).tripPin = s.tripPin := rfl
@[simp] theorem State.setLkDrive_tb (s : State) (k : Nat) (v : (Option Nat)) : (s.setLkDrive k v).tb = s.tb := rfl
@[simp] theorem State.setLkDrive_tbLatch (s : State) (k : Nat) (v : (Option Nat)) : (s.setLkDrive k v).tbLatch = s.tbLatch := rfl
@[simp] theorem State.setLkDrive_srcAt (s : State) (k : Nat) (v : (Option Nat)) : (s.setLkDrive k v).srcAt = s.srcAt := rfl
@[simp] theorem State.setLkDrive_ev (s : State) (k : Nat) (v : (Option Nat)) : (s.setLkDrive k v).ev = s.ev := rfl
@[simp] theorem State.setLkDrive_lc (s : State) (k : Nat) (v : (Option Nat)) : (s.setLkDrive k v).lc = s.lc := rfl
@[simp] theorem State.setLkDrive_divAt (s : State) (k : Nat) (v : (Option Nat)) : (s.setLkDrive k v).divAt = s.divAt := rfl
@[simp] theorem State.setLkDrive_sc (s : State) (k : Nat) (v : (Option Nat)) : (s.setLkDrive k v).sc = s.sc := rfl
@[simp] theorem State.setLkDrive_mt (s : State) (k : Nat) (v : (Option Nat)) : (s.setLkDrive k v).mt = s.mt := rfl
@[simp] theorem State.setLkDrive_mf (s : State) (k : Nat) (v : (Option Nat)) : (s.setLkDrive k v).mf = s.mf := rfl
@[simp] theorem State.setLkDrive_mfu (s : State) (k : Nat) (v : (Option Nat)) : (s.setLkDrive k v).mfu = s.mfu := rfl
@[simp] theorem State.setLkDrive_journal (s : State) (k : Nat) (v : (Option Nat)) : (s.setLkDrive k v).journal = s.journal := rfl
@[simp] theorem State.setLkDrive_fl (s : State) (k : Nat) (v : (Option Nat)) : (s.setLkDrive k v).fl = s.fl := rfl
@[simp] theorem State.setLkDrive_flash (s : State) (k : Nat) (v : (Option Nat)) : (s.setLkDrive k v).flash = s.flash := rfl
@[simp] theorem State.setLkDrive_flBlk (s : State) (k : Nat) (v : (Option Nat)) : (s.setLkDrive k v).flBlk = s.flBlk := rfl
@[simp] theorem State.setLkDrive_flWear (s : State) (k : Nat) (v : (Option Nat)) : (s.setLkDrive k v).flWear = s.flWear := rfl
@[simp] theorem State.setLkDrive_otp (s : State) (k : Nat) (v : (Option Nat)) : (s.setLkDrive k v).otp = s.otp := rfl
@[simp] theorem State.setLkDrive_gpioPad (s : State) (k : Nat) (v : (Option Nat)) : (s.setLkDrive k v).gpioPad = s.gpioPad := rfl
@[simp] theorem State.setLkDrive_lkWake (s : State) (k : Nat) (v : (Option Nat)) : (s.setLkDrive k v).lkWake = s.lkWake := rfl
@[simp] theorem State.setLkDrive_rung (s : State) (k : Nat) (v : (Option Nat)) : (s.setLkDrive k v).rung = s.rung := rfl
@[simp] theorem State.setLkDrive_wake (s : State) (k : Nat) (v : (Option Nat)) : (s.setLkDrive k v).wake = s.wake := rfl
@[simp] theorem State.setLkDrive_core (s : State) (k : Nat) (v : (Option Nat)) : (s.setLkDrive k v).core = s.core := rfl
@[simp] theorem State.setLkDrive_bank (s : State) (k : Nat) (v : (Option Nat)) : (s.setLkDrive k v).bank = s.bank := rfl
@[simp] theorem State.setLkDrive_lock (s : State) (k : Nat) (v : (Option Nat)) : (s.setLkDrive k v).lock = s.lock := rfl
@[simp] theorem State.setLkDrive_tide (s : State) (k : Nat) (v : (Option Nat)) : (s.setLkDrive k v).tide = s.tide := rfl
@[simp] theorem State.setLkDrive_snap (s : State) (k : Nat) (v : (Option Nat)) : (s.setLkDrive k v).snap = s.snap := rfl
@[simp] theorem State.setLkDrive_vsrc (s : State) (k : Nat) (v : (Option Nat)) : (s.setLkDrive k v).vsrc = s.vsrc := rfl
@[simp] theorem State.setLkDrive_doze (s : State) (k : Nat) (v : (Option Nat)) : (s.setLkDrive k v).doze = s.doze := rfl
@[simp] theorem State.setLkDrive_devRst (s : State) (k : Nat) (v : (Option Nat)) : (s.setLkDrive k v).devRst = s.devRst := rfl
@[simp] theorem State.setLkDrive_scrub (s : State) (k : Nat) (v : (Option Nat)) : (s.setLkDrive k v).scrub = s.scrub := rfl
@[simp] theorem State.setLkDrive_pps (s : State) (k : Nat) (v : (Option Nat)) : (s.setLkDrive k v).pps = s.pps := rfl
@[simp] theorem State.setLkDrive_pwr (s : State) (k : Nat) (v : (Option Nat)) : (s.setLkDrive k v).pwr = s.pwr := rfl
@[simp] theorem State.setLkDrive_link (s : State) (k : Nat) (v : (Option Nat)) : (s.setLkDrive k v).link = s.link := rfl
@[simp] theorem State.setLkDrive_txs (s : State) (k : Nat) (v : (Option Nat)) : (s.setLkDrive k v).txs = s.txs := rfl
@[simp] theorem State.setLkDrive_win (s : State) (k : Nat) (v : (Option Nat)) : (s.setLkDrive k v).win = s.win := rfl
@[simp] theorem State.setLkDrive_lku (s : State) (k : Nat) (v : (Option Nat)) : (s.setLkDrive k v).lku = s.lku := rfl
@[simp] theorem State.setLkDrive_gt (s : State) (k : Nat) (v : (Option Nat)) : (s.setLkDrive k v).gt = s.gt := rfl
@[simp] theorem State.setLkDrive_boot (s : State) (k : Nat) (v : (Option Nat)) : (s.setLkDrive k v).boot = s.boot := rfl
@[simp] theorem State.setLkDrive_graft (s : State) (k : Nat) (v : (Option Nat)) : (s.setLkDrive k v).graft = s.graft := rfl
@[simp] theorem State.setLkDrive_ku (s : State) (k : Nat) (v : (Option Nat)) : (s.setLkDrive k v).ku = s.ku := rfl
@[simp] theorem State.setLkDrive_dbg (s : State) (k : Nat) (v : (Option Nat)) : (s.setLkDrive k v).dbg = s.dbg := rfl
@[simp] theorem State.setLkDrive_smb (s : State) (k : Nat) (v : (Option Nat)) : (s.setLkDrive k v).smb = s.smb := rfl
@[simp] theorem State.setLkDrive_spi (s : State) (k : Nat) (v : (Option Nat)) : (s.setLkDrive k v).spi = s.spi := rfl
@[simp] theorem State.setLkDrive_pending (s : State) (k : Nat) (v : (Option Nat)) : (s.setLkDrive k v).pending = s.pending := rfl
@[simp] theorem State.setLkDrive_out (s : State) (k : Nat) (v : (Option Nat)) : (s.setLkDrive k v).out = s.out := rfl
@[simp] theorem State.setLkDrive_free (s : State) (k : Nat) (v : (Option Nat)) : (s.setLkDrive k v).free = s.free := rfl
@[simp] theorem State.setCore_coreOf (s : State) (k : Nat) (v : CoreS) : (s.setCore k v).coreOf k = v := Store.get_set_same _ _ _ _
theorem State.setCore_coreOf_ne (s : State) {j k : Nat} (v : CoreS) (h : k ≠ j) : (s.setCore j v).coreOf k = s.coreOf k := Store.get_set_ne _ _ _ h
@[simp] theorem State.setCore_now (s : State) (k : Nat) (v : CoreS) : (s.setCore k v).now = s.now := rfl
@[simp] theorem State.setCore_regs (s : State) (k : Nat) (v : CoreS) : (s.setCore k v).regs = s.regs := rfl
@[simp] theorem State.setCore_written (s : State) (k : Nat) (v : CoreS) : (s.setCore k v).written = s.written := rfl
@[simp] theorem State.setCore_hw (s : State) (k : Nat) (v : CoreS) : (s.setCore k v).hw = s.hw := rfl
@[simp] theorem State.setCore_ich (s : State) (k : Nat) (v : CoreS) : (s.setCore k v).ich = s.ich := rfl
@[simp] theorem State.setCore_wc (s : State) (k : Nat) (v : CoreS) : (s.setCore k v).wc = s.wc := rfl
@[simp] theorem State.setCore_calDue (s : State) (k : Nat) (v : CoreS) : (s.setCore k v).calDue = s.calDue := rfl
@[simp] theorem State.setCore_berth (s : State) (k : Nat) (v : CoreS) : (s.setCore k v).berth = s.berth := rfl
@[simp] theorem State.setCore_armed (s : State) (k : Nat) (v : CoreS) : (s.setCore k v).armed = s.armed := rfl
@[simp] theorem State.setCore_admq (s : State) (k : Nat) (v : CoreS) : (s.setCore k v).admq = s.admq := rfl
@[simp] theorem State.setCore_crane (s : State) (k : Nat) (v : CoreS) : (s.setCore k v).crane = s.crane := rfl
@[simp] theorem State.setCore_rounds (s : State) (k : Nat) (v : CoreS) : (s.setCore k v).rounds = s.rounds := rfl
@[simp] theorem State.setCore_bstore (s : State) (k : Nat) (v : CoreS) : (s.setCore k v).bstore = s.bstore := rfl
@[simp] theorem State.setCore_bstoreAt (s : State) (k : Nat) (v : CoreS) : (s.setCore k v).bstoreAt = s.bstoreAt := rfl
@[simp] theorem State.setCore_bram (s : State) (k : Nat) (v : CoreS) : (s.setCore k v).bram = s.bram := rfl
@[simp] theorem State.setCore_engW (s : State) (k : Nat) (v : CoreS) : (s.setCore k v).engW = s.engW := rfl
@[simp] theorem State.setCore_cu (s : State) (k : Nat) (v : CoreS) : (s.setCore k v).cu = s.cu := rfl
@[simp] theorem State.setCore_sram (s : State) (k : Nat) (v : CoreS) : (s.setCore k v).sram = s.sram := rfl
@[simp] theorem State.setCore_logAt (s : State) (k : Nat) (v : CoreS) : (s.setCore k v).logAt = s.logAt := rfl
@[simp] theorem State.setCore_tz (s : State) (k : Nat) (v : CoreS) : (s.setCore k v).tz = s.tz := rfl
@[simp] theorem State.setCore_tripPin (s : State) (k : Nat) (v : CoreS) : (s.setCore k v).tripPin = s.tripPin := rfl
@[simp] theorem State.setCore_tb (s : State) (k : Nat) (v : CoreS) : (s.setCore k v).tb = s.tb := rfl
@[simp] theorem State.setCore_tbLatch (s : State) (k : Nat) (v : CoreS) : (s.setCore k v).tbLatch = s.tbLatch := rfl
@[simp] theorem State.setCore_srcAt (s : State) (k : Nat) (v : CoreS) : (s.setCore k v).srcAt = s.srcAt := rfl
@[simp] theorem State.setCore_ev (s : State) (k : Nat) (v : CoreS) : (s.setCore k v).ev = s.ev := rfl
@[simp] theorem State.setCore_lc (s : State) (k : Nat) (v : CoreS) : (s.setCore k v).lc = s.lc := rfl
@[simp] theorem State.setCore_divAt (s : State) (k : Nat) (v : CoreS) : (s.setCore k v).divAt = s.divAt := rfl
@[simp] theorem State.setCore_sc (s : State) (k : Nat) (v : CoreS) : (s.setCore k v).sc = s.sc := rfl
@[simp] theorem State.setCore_mt (s : State) (k : Nat) (v : CoreS) : (s.setCore k v).mt = s.mt := rfl
@[simp] theorem State.setCore_mf (s : State) (k : Nat) (v : CoreS) : (s.setCore k v).mf = s.mf := rfl
@[simp] theorem State.setCore_mfu (s : State) (k : Nat) (v : CoreS) : (s.setCore k v).mfu = s.mfu := rfl
@[simp] theorem State.setCore_journal (s : State) (k : Nat) (v : CoreS) : (s.setCore k v).journal = s.journal := rfl
@[simp] theorem State.setCore_fl (s : State) (k : Nat) (v : CoreS) : (s.setCore k v).fl = s.fl := rfl
@[simp] theorem State.setCore_flash (s : State) (k : Nat) (v : CoreS) : (s.setCore k v).flash = s.flash := rfl
@[simp] theorem State.setCore_flBlk (s : State) (k : Nat) (v : CoreS) : (s.setCore k v).flBlk = s.flBlk := rfl
@[simp] theorem State.setCore_flWear (s : State) (k : Nat) (v : CoreS) : (s.setCore k v).flWear = s.flWear := rfl
@[simp] theorem State.setCore_otp (s : State) (k : Nat) (v : CoreS) : (s.setCore k v).otp = s.otp := rfl
@[simp] theorem State.setCore_gpioPad (s : State) (k : Nat) (v : CoreS) : (s.setCore k v).gpioPad = s.gpioPad := rfl
@[simp] theorem State.setCore_lkWake (s : State) (k : Nat) (v : CoreS) : (s.setCore k v).lkWake = s.lkWake := rfl
@[simp] theorem State.setCore_lkDrive (s : State) (k : Nat) (v : CoreS) : (s.setCore k v).lkDrive = s.lkDrive := rfl
@[simp] theorem State.setCore_rung (s : State) (k : Nat) (v : CoreS) : (s.setCore k v).rung = s.rung := rfl
@[simp] theorem State.setCore_wake (s : State) (k : Nat) (v : CoreS) : (s.setCore k v).wake = s.wake := rfl
@[simp] theorem State.setCore_bank (s : State) (k : Nat) (v : CoreS) : (s.setCore k v).bank = s.bank := rfl
@[simp] theorem State.setCore_lock (s : State) (k : Nat) (v : CoreS) : (s.setCore k v).lock = s.lock := rfl
@[simp] theorem State.setCore_tide (s : State) (k : Nat) (v : CoreS) : (s.setCore k v).tide = s.tide := rfl
@[simp] theorem State.setCore_snap (s : State) (k : Nat) (v : CoreS) : (s.setCore k v).snap = s.snap := rfl
@[simp] theorem State.setCore_vsrc (s : State) (k : Nat) (v : CoreS) : (s.setCore k v).vsrc = s.vsrc := rfl
@[simp] theorem State.setCore_doze (s : State) (k : Nat) (v : CoreS) : (s.setCore k v).doze = s.doze := rfl
@[simp] theorem State.setCore_devRst (s : State) (k : Nat) (v : CoreS) : (s.setCore k v).devRst = s.devRst := rfl
@[simp] theorem State.setCore_scrub (s : State) (k : Nat) (v : CoreS) : (s.setCore k v).scrub = s.scrub := rfl
@[simp] theorem State.setCore_pps (s : State) (k : Nat) (v : CoreS) : (s.setCore k v).pps = s.pps := rfl
@[simp] theorem State.setCore_pwr (s : State) (k : Nat) (v : CoreS) : (s.setCore k v).pwr = s.pwr := rfl
@[simp] theorem State.setCore_link (s : State) (k : Nat) (v : CoreS) : (s.setCore k v).link = s.link := rfl
@[simp] theorem State.setCore_txs (s : State) (k : Nat) (v : CoreS) : (s.setCore k v).txs = s.txs := rfl
@[simp] theorem State.setCore_win (s : State) (k : Nat) (v : CoreS) : (s.setCore k v).win = s.win := rfl
@[simp] theorem State.setCore_lku (s : State) (k : Nat) (v : CoreS) : (s.setCore k v).lku = s.lku := rfl
@[simp] theorem State.setCore_gt (s : State) (k : Nat) (v : CoreS) : (s.setCore k v).gt = s.gt := rfl
@[simp] theorem State.setCore_boot (s : State) (k : Nat) (v : CoreS) : (s.setCore k v).boot = s.boot := rfl
@[simp] theorem State.setCore_graft (s : State) (k : Nat) (v : CoreS) : (s.setCore k v).graft = s.graft := rfl
@[simp] theorem State.setCore_ku (s : State) (k : Nat) (v : CoreS) : (s.setCore k v).ku = s.ku := rfl
@[simp] theorem State.setCore_dbg (s : State) (k : Nat) (v : CoreS) : (s.setCore k v).dbg = s.dbg := rfl
@[simp] theorem State.setCore_smb (s : State) (k : Nat) (v : CoreS) : (s.setCore k v).smb = s.smb := rfl
@[simp] theorem State.setCore_spi (s : State) (k : Nat) (v : CoreS) : (s.setCore k v).spi = s.spi := rfl
@[simp] theorem State.setCore_pending (s : State) (k : Nat) (v : CoreS) : (s.setCore k v).pending = s.pending := rfl
@[simp] theorem State.setCore_out (s : State) (k : Nat) (v : CoreS) : (s.setCore k v).out = s.out := rfl
@[simp] theorem State.setCore_free (s : State) (k : Nat) (v : CoreS) : (s.setCore k v).free = s.free := rfl
@[simp] theorem State.setBank_bankOf (s : State) (k : Nat) (v : (Option (BitVec 36 × Nat))) : (s.setBank k v).bankOf k = v := Store.get_set_same _ _ _ _
theorem State.setBank_bankOf_ne (s : State) {j k : Nat} (v : (Option (BitVec 36 × Nat))) (h : k ≠ j) : (s.setBank j v).bankOf k = s.bankOf k := Store.get_set_ne _ _ _ h
@[simp] theorem State.setBank_now (s : State) (k : Nat) (v : (Option (BitVec 36 × Nat))) : (s.setBank k v).now = s.now := rfl
@[simp] theorem State.setBank_regs (s : State) (k : Nat) (v : (Option (BitVec 36 × Nat))) : (s.setBank k v).regs = s.regs := rfl
@[simp] theorem State.setBank_written (s : State) (k : Nat) (v : (Option (BitVec 36 × Nat))) : (s.setBank k v).written = s.written := rfl
@[simp] theorem State.setBank_hw (s : State) (k : Nat) (v : (Option (BitVec 36 × Nat))) : (s.setBank k v).hw = s.hw := rfl
@[simp] theorem State.setBank_ich (s : State) (k : Nat) (v : (Option (BitVec 36 × Nat))) : (s.setBank k v).ich = s.ich := rfl
@[simp] theorem State.setBank_wc (s : State) (k : Nat) (v : (Option (BitVec 36 × Nat))) : (s.setBank k v).wc = s.wc := rfl
@[simp] theorem State.setBank_calDue (s : State) (k : Nat) (v : (Option (BitVec 36 × Nat))) : (s.setBank k v).calDue = s.calDue := rfl
@[simp] theorem State.setBank_berth (s : State) (k : Nat) (v : (Option (BitVec 36 × Nat))) : (s.setBank k v).berth = s.berth := rfl
@[simp] theorem State.setBank_armed (s : State) (k : Nat) (v : (Option (BitVec 36 × Nat))) : (s.setBank k v).armed = s.armed := rfl
@[simp] theorem State.setBank_admq (s : State) (k : Nat) (v : (Option (BitVec 36 × Nat))) : (s.setBank k v).admq = s.admq := rfl
@[simp] theorem State.setBank_crane (s : State) (k : Nat) (v : (Option (BitVec 36 × Nat))) : (s.setBank k v).crane = s.crane := rfl
@[simp] theorem State.setBank_rounds (s : State) (k : Nat) (v : (Option (BitVec 36 × Nat))) : (s.setBank k v).rounds = s.rounds := rfl
@[simp] theorem State.setBank_bstore (s : State) (k : Nat) (v : (Option (BitVec 36 × Nat))) : (s.setBank k v).bstore = s.bstore := rfl
@[simp] theorem State.setBank_bstoreAt (s : State) (k : Nat) (v : (Option (BitVec 36 × Nat))) : (s.setBank k v).bstoreAt = s.bstoreAt := rfl
@[simp] theorem State.setBank_bram (s : State) (k : Nat) (v : (Option (BitVec 36 × Nat))) : (s.setBank k v).bram = s.bram := rfl
@[simp] theorem State.setBank_engW (s : State) (k : Nat) (v : (Option (BitVec 36 × Nat))) : (s.setBank k v).engW = s.engW := rfl
@[simp] theorem State.setBank_cu (s : State) (k : Nat) (v : (Option (BitVec 36 × Nat))) : (s.setBank k v).cu = s.cu := rfl
@[simp] theorem State.setBank_sram (s : State) (k : Nat) (v : (Option (BitVec 36 × Nat))) : (s.setBank k v).sram = s.sram := rfl
@[simp] theorem State.setBank_logAt (s : State) (k : Nat) (v : (Option (BitVec 36 × Nat))) : (s.setBank k v).logAt = s.logAt := rfl
@[simp] theorem State.setBank_tz (s : State) (k : Nat) (v : (Option (BitVec 36 × Nat))) : (s.setBank k v).tz = s.tz := rfl
@[simp] theorem State.setBank_tripPin (s : State) (k : Nat) (v : (Option (BitVec 36 × Nat))) : (s.setBank k v).tripPin = s.tripPin := rfl
@[simp] theorem State.setBank_tb (s : State) (k : Nat) (v : (Option (BitVec 36 × Nat))) : (s.setBank k v).tb = s.tb := rfl
@[simp] theorem State.setBank_tbLatch (s : State) (k : Nat) (v : (Option (BitVec 36 × Nat))) : (s.setBank k v).tbLatch = s.tbLatch := rfl
@[simp] theorem State.setBank_srcAt (s : State) (k : Nat) (v : (Option (BitVec 36 × Nat))) : (s.setBank k v).srcAt = s.srcAt := rfl
@[simp] theorem State.setBank_ev (s : State) (k : Nat) (v : (Option (BitVec 36 × Nat))) : (s.setBank k v).ev = s.ev := rfl
@[simp] theorem State.setBank_lc (s : State) (k : Nat) (v : (Option (BitVec 36 × Nat))) : (s.setBank k v).lc = s.lc := rfl
@[simp] theorem State.setBank_divAt (s : State) (k : Nat) (v : (Option (BitVec 36 × Nat))) : (s.setBank k v).divAt = s.divAt := rfl
@[simp] theorem State.setBank_sc (s : State) (k : Nat) (v : (Option (BitVec 36 × Nat))) : (s.setBank k v).sc = s.sc := rfl
@[simp] theorem State.setBank_mt (s : State) (k : Nat) (v : (Option (BitVec 36 × Nat))) : (s.setBank k v).mt = s.mt := rfl
@[simp] theorem State.setBank_mf (s : State) (k : Nat) (v : (Option (BitVec 36 × Nat))) : (s.setBank k v).mf = s.mf := rfl
@[simp] theorem State.setBank_mfu (s : State) (k : Nat) (v : (Option (BitVec 36 × Nat))) : (s.setBank k v).mfu = s.mfu := rfl
@[simp] theorem State.setBank_journal (s : State) (k : Nat) (v : (Option (BitVec 36 × Nat))) : (s.setBank k v).journal = s.journal := rfl
@[simp] theorem State.setBank_fl (s : State) (k : Nat) (v : (Option (BitVec 36 × Nat))) : (s.setBank k v).fl = s.fl := rfl
@[simp] theorem State.setBank_flash (s : State) (k : Nat) (v : (Option (BitVec 36 × Nat))) : (s.setBank k v).flash = s.flash := rfl
@[simp] theorem State.setBank_flBlk (s : State) (k : Nat) (v : (Option (BitVec 36 × Nat))) : (s.setBank k v).flBlk = s.flBlk := rfl
@[simp] theorem State.setBank_flWear (s : State) (k : Nat) (v : (Option (BitVec 36 × Nat))) : (s.setBank k v).flWear = s.flWear := rfl
@[simp] theorem State.setBank_otp (s : State) (k : Nat) (v : (Option (BitVec 36 × Nat))) : (s.setBank k v).otp = s.otp := rfl
@[simp] theorem State.setBank_gpioPad (s : State) (k : Nat) (v : (Option (BitVec 36 × Nat))) : (s.setBank k v).gpioPad = s.gpioPad := rfl
@[simp] theorem State.setBank_lkWake (s : State) (k : Nat) (v : (Option (BitVec 36 × Nat))) : (s.setBank k v).lkWake = s.lkWake := rfl
@[simp] theorem State.setBank_lkDrive (s : State) (k : Nat) (v : (Option (BitVec 36 × Nat))) : (s.setBank k v).lkDrive = s.lkDrive := rfl
@[simp] theorem State.setBank_rung (s : State) (k : Nat) (v : (Option (BitVec 36 × Nat))) : (s.setBank k v).rung = s.rung := rfl
@[simp] theorem State.setBank_wake (s : State) (k : Nat) (v : (Option (BitVec 36 × Nat))) : (s.setBank k v).wake = s.wake := rfl
@[simp] theorem State.setBank_core (s : State) (k : Nat) (v : (Option (BitVec 36 × Nat))) : (s.setBank k v).core = s.core := rfl
@[simp] theorem State.setBank_lock (s : State) (k : Nat) (v : (Option (BitVec 36 × Nat))) : (s.setBank k v).lock = s.lock := rfl
@[simp] theorem State.setBank_tide (s : State) (k : Nat) (v : (Option (BitVec 36 × Nat))) : (s.setBank k v).tide = s.tide := rfl
@[simp] theorem State.setBank_snap (s : State) (k : Nat) (v : (Option (BitVec 36 × Nat))) : (s.setBank k v).snap = s.snap := rfl
@[simp] theorem State.setBank_vsrc (s : State) (k : Nat) (v : (Option (BitVec 36 × Nat))) : (s.setBank k v).vsrc = s.vsrc := rfl
@[simp] theorem State.setBank_doze (s : State) (k : Nat) (v : (Option (BitVec 36 × Nat))) : (s.setBank k v).doze = s.doze := rfl
@[simp] theorem State.setBank_devRst (s : State) (k : Nat) (v : (Option (BitVec 36 × Nat))) : (s.setBank k v).devRst = s.devRst := rfl
@[simp] theorem State.setBank_scrub (s : State) (k : Nat) (v : (Option (BitVec 36 × Nat))) : (s.setBank k v).scrub = s.scrub := rfl
@[simp] theorem State.setBank_pps (s : State) (k : Nat) (v : (Option (BitVec 36 × Nat))) : (s.setBank k v).pps = s.pps := rfl
@[simp] theorem State.setBank_pwr (s : State) (k : Nat) (v : (Option (BitVec 36 × Nat))) : (s.setBank k v).pwr = s.pwr := rfl
@[simp] theorem State.setBank_link (s : State) (k : Nat) (v : (Option (BitVec 36 × Nat))) : (s.setBank k v).link = s.link := rfl
@[simp] theorem State.setBank_txs (s : State) (k : Nat) (v : (Option (BitVec 36 × Nat))) : (s.setBank k v).txs = s.txs := rfl
@[simp] theorem State.setBank_win (s : State) (k : Nat) (v : (Option (BitVec 36 × Nat))) : (s.setBank k v).win = s.win := rfl
@[simp] theorem State.setBank_lku (s : State) (k : Nat) (v : (Option (BitVec 36 × Nat))) : (s.setBank k v).lku = s.lku := rfl
@[simp] theorem State.setBank_gt (s : State) (k : Nat) (v : (Option (BitVec 36 × Nat))) : (s.setBank k v).gt = s.gt := rfl
@[simp] theorem State.setBank_boot (s : State) (k : Nat) (v : (Option (BitVec 36 × Nat))) : (s.setBank k v).boot = s.boot := rfl
@[simp] theorem State.setBank_graft (s : State) (k : Nat) (v : (Option (BitVec 36 × Nat))) : (s.setBank k v).graft = s.graft := rfl
@[simp] theorem State.setBank_ku (s : State) (k : Nat) (v : (Option (BitVec 36 × Nat))) : (s.setBank k v).ku = s.ku := rfl
@[simp] theorem State.setBank_dbg (s : State) (k : Nat) (v : (Option (BitVec 36 × Nat))) : (s.setBank k v).dbg = s.dbg := rfl
@[simp] theorem State.setBank_smb (s : State) (k : Nat) (v : (Option (BitVec 36 × Nat))) : (s.setBank k v).smb = s.smb := rfl
@[simp] theorem State.setBank_spi (s : State) (k : Nat) (v : (Option (BitVec 36 × Nat))) : (s.setBank k v).spi = s.spi := rfl
@[simp] theorem State.setBank_pending (s : State) (k : Nat) (v : (Option (BitVec 36 × Nat))) : (s.setBank k v).pending = s.pending := rfl
@[simp] theorem State.setBank_out (s : State) (k : Nat) (v : (Option (BitVec 36 × Nat))) : (s.setBank k v).out = s.out := rfl
@[simp] theorem State.setBank_free (s : State) (k : Nat) (v : (Option (BitVec 36 × Nat))) : (s.setBank k v).free = s.free := rfl
@[simp] theorem State.setLock_lockOf (s : State) (k : Nat) (v : LockS) : (s.setLock k v).lockOf k = v := Store.get_set_same _ _ _ _
theorem State.setLock_lockOf_ne (s : State) {j k : Nat} (v : LockS) (h : k ≠ j) : (s.setLock j v).lockOf k = s.lockOf k := Store.get_set_ne _ _ _ h
@[simp] theorem State.setLock_now (s : State) (k : Nat) (v : LockS) : (s.setLock k v).now = s.now := rfl
@[simp] theorem State.setLock_regs (s : State) (k : Nat) (v : LockS) : (s.setLock k v).regs = s.regs := rfl
@[simp] theorem State.setLock_written (s : State) (k : Nat) (v : LockS) : (s.setLock k v).written = s.written := rfl
@[simp] theorem State.setLock_hw (s : State) (k : Nat) (v : LockS) : (s.setLock k v).hw = s.hw := rfl
@[simp] theorem State.setLock_ich (s : State) (k : Nat) (v : LockS) : (s.setLock k v).ich = s.ich := rfl
@[simp] theorem State.setLock_wc (s : State) (k : Nat) (v : LockS) : (s.setLock k v).wc = s.wc := rfl
@[simp] theorem State.setLock_calDue (s : State) (k : Nat) (v : LockS) : (s.setLock k v).calDue = s.calDue := rfl
@[simp] theorem State.setLock_berth (s : State) (k : Nat) (v : LockS) : (s.setLock k v).berth = s.berth := rfl
@[simp] theorem State.setLock_armed (s : State) (k : Nat) (v : LockS) : (s.setLock k v).armed = s.armed := rfl
@[simp] theorem State.setLock_admq (s : State) (k : Nat) (v : LockS) : (s.setLock k v).admq = s.admq := rfl
@[simp] theorem State.setLock_crane (s : State) (k : Nat) (v : LockS) : (s.setLock k v).crane = s.crane := rfl
@[simp] theorem State.setLock_rounds (s : State) (k : Nat) (v : LockS) : (s.setLock k v).rounds = s.rounds := rfl
@[simp] theorem State.setLock_bstore (s : State) (k : Nat) (v : LockS) : (s.setLock k v).bstore = s.bstore := rfl
@[simp] theorem State.setLock_bstoreAt (s : State) (k : Nat) (v : LockS) : (s.setLock k v).bstoreAt = s.bstoreAt := rfl
@[simp] theorem State.setLock_bram (s : State) (k : Nat) (v : LockS) : (s.setLock k v).bram = s.bram := rfl
@[simp] theorem State.setLock_engW (s : State) (k : Nat) (v : LockS) : (s.setLock k v).engW = s.engW := rfl
@[simp] theorem State.setLock_cu (s : State) (k : Nat) (v : LockS) : (s.setLock k v).cu = s.cu := rfl
@[simp] theorem State.setLock_sram (s : State) (k : Nat) (v : LockS) : (s.setLock k v).sram = s.sram := rfl
@[simp] theorem State.setLock_logAt (s : State) (k : Nat) (v : LockS) : (s.setLock k v).logAt = s.logAt := rfl
@[simp] theorem State.setLock_tz (s : State) (k : Nat) (v : LockS) : (s.setLock k v).tz = s.tz := rfl
@[simp] theorem State.setLock_tripPin (s : State) (k : Nat) (v : LockS) : (s.setLock k v).tripPin = s.tripPin := rfl
@[simp] theorem State.setLock_tb (s : State) (k : Nat) (v : LockS) : (s.setLock k v).tb = s.tb := rfl
@[simp] theorem State.setLock_tbLatch (s : State) (k : Nat) (v : LockS) : (s.setLock k v).tbLatch = s.tbLatch := rfl
@[simp] theorem State.setLock_srcAt (s : State) (k : Nat) (v : LockS) : (s.setLock k v).srcAt = s.srcAt := rfl
@[simp] theorem State.setLock_ev (s : State) (k : Nat) (v : LockS) : (s.setLock k v).ev = s.ev := rfl
@[simp] theorem State.setLock_lc (s : State) (k : Nat) (v : LockS) : (s.setLock k v).lc = s.lc := rfl
@[simp] theorem State.setLock_divAt (s : State) (k : Nat) (v : LockS) : (s.setLock k v).divAt = s.divAt := rfl
@[simp] theorem State.setLock_sc (s : State) (k : Nat) (v : LockS) : (s.setLock k v).sc = s.sc := rfl
@[simp] theorem State.setLock_mt (s : State) (k : Nat) (v : LockS) : (s.setLock k v).mt = s.mt := rfl
@[simp] theorem State.setLock_mf (s : State) (k : Nat) (v : LockS) : (s.setLock k v).mf = s.mf := rfl
@[simp] theorem State.setLock_mfu (s : State) (k : Nat) (v : LockS) : (s.setLock k v).mfu = s.mfu := rfl
@[simp] theorem State.setLock_journal (s : State) (k : Nat) (v : LockS) : (s.setLock k v).journal = s.journal := rfl
@[simp] theorem State.setLock_fl (s : State) (k : Nat) (v : LockS) : (s.setLock k v).fl = s.fl := rfl
@[simp] theorem State.setLock_flash (s : State) (k : Nat) (v : LockS) : (s.setLock k v).flash = s.flash := rfl
@[simp] theorem State.setLock_flBlk (s : State) (k : Nat) (v : LockS) : (s.setLock k v).flBlk = s.flBlk := rfl
@[simp] theorem State.setLock_flWear (s : State) (k : Nat) (v : LockS) : (s.setLock k v).flWear = s.flWear := rfl
@[simp] theorem State.setLock_otp (s : State) (k : Nat) (v : LockS) : (s.setLock k v).otp = s.otp := rfl
@[simp] theorem State.setLock_gpioPad (s : State) (k : Nat) (v : LockS) : (s.setLock k v).gpioPad = s.gpioPad := rfl
@[simp] theorem State.setLock_lkWake (s : State) (k : Nat) (v : LockS) : (s.setLock k v).lkWake = s.lkWake := rfl
@[simp] theorem State.setLock_lkDrive (s : State) (k : Nat) (v : LockS) : (s.setLock k v).lkDrive = s.lkDrive := rfl
@[simp] theorem State.setLock_rung (s : State) (k : Nat) (v : LockS) : (s.setLock k v).rung = s.rung := rfl
@[simp] theorem State.setLock_wake (s : State) (k : Nat) (v : LockS) : (s.setLock k v).wake = s.wake := rfl
@[simp] theorem State.setLock_core (s : State) (k : Nat) (v : LockS) : (s.setLock k v).core = s.core := rfl
@[simp] theorem State.setLock_bank (s : State) (k : Nat) (v : LockS) : (s.setLock k v).bank = s.bank := rfl
@[simp] theorem State.setLock_tide (s : State) (k : Nat) (v : LockS) : (s.setLock k v).tide = s.tide := rfl
@[simp] theorem State.setLock_snap (s : State) (k : Nat) (v : LockS) : (s.setLock k v).snap = s.snap := rfl
@[simp] theorem State.setLock_vsrc (s : State) (k : Nat) (v : LockS) : (s.setLock k v).vsrc = s.vsrc := rfl
@[simp] theorem State.setLock_doze (s : State) (k : Nat) (v : LockS) : (s.setLock k v).doze = s.doze := rfl
@[simp] theorem State.setLock_devRst (s : State) (k : Nat) (v : LockS) : (s.setLock k v).devRst = s.devRst := rfl
@[simp] theorem State.setLock_scrub (s : State) (k : Nat) (v : LockS) : (s.setLock k v).scrub = s.scrub := rfl
@[simp] theorem State.setLock_pps (s : State) (k : Nat) (v : LockS) : (s.setLock k v).pps = s.pps := rfl
@[simp] theorem State.setLock_pwr (s : State) (k : Nat) (v : LockS) : (s.setLock k v).pwr = s.pwr := rfl
@[simp] theorem State.setLock_link (s : State) (k : Nat) (v : LockS) : (s.setLock k v).link = s.link := rfl
@[simp] theorem State.setLock_txs (s : State) (k : Nat) (v : LockS) : (s.setLock k v).txs = s.txs := rfl
@[simp] theorem State.setLock_win (s : State) (k : Nat) (v : LockS) : (s.setLock k v).win = s.win := rfl
@[simp] theorem State.setLock_lku (s : State) (k : Nat) (v : LockS) : (s.setLock k v).lku = s.lku := rfl
@[simp] theorem State.setLock_gt (s : State) (k : Nat) (v : LockS) : (s.setLock k v).gt = s.gt := rfl
@[simp] theorem State.setLock_boot (s : State) (k : Nat) (v : LockS) : (s.setLock k v).boot = s.boot := rfl
@[simp] theorem State.setLock_graft (s : State) (k : Nat) (v : LockS) : (s.setLock k v).graft = s.graft := rfl
@[simp] theorem State.setLock_ku (s : State) (k : Nat) (v : LockS) : (s.setLock k v).ku = s.ku := rfl
@[simp] theorem State.setLock_dbg (s : State) (k : Nat) (v : LockS) : (s.setLock k v).dbg = s.dbg := rfl
@[simp] theorem State.setLock_smb (s : State) (k : Nat) (v : LockS) : (s.setLock k v).smb = s.smb := rfl
@[simp] theorem State.setLock_spi (s : State) (k : Nat) (v : LockS) : (s.setLock k v).spi = s.spi := rfl
@[simp] theorem State.setLock_pending (s : State) (k : Nat) (v : LockS) : (s.setLock k v).pending = s.pending := rfl
@[simp] theorem State.setLock_out (s : State) (k : Nat) (v : LockS) : (s.setLock k v).out = s.out := rfl
@[simp] theorem State.setLock_free (s : State) (k : Nat) (v : LockS) : (s.setLock k v).free = s.free := rfl
@[simp] theorem State.setTide_tideOf (s : State) (k : Nat) (v : TideS) : (s.setTide k v).tideOf k = v := Store.get_set_same _ _ _ _
theorem State.setTide_tideOf_ne (s : State) {j k : Nat} (v : TideS) (h : k ≠ j) : (s.setTide j v).tideOf k = s.tideOf k := Store.get_set_ne _ _ _ h
@[simp] theorem State.setTide_now (s : State) (k : Nat) (v : TideS) : (s.setTide k v).now = s.now := rfl
@[simp] theorem State.setTide_regs (s : State) (k : Nat) (v : TideS) : (s.setTide k v).regs = s.regs := rfl
@[simp] theorem State.setTide_written (s : State) (k : Nat) (v : TideS) : (s.setTide k v).written = s.written := rfl
@[simp] theorem State.setTide_hw (s : State) (k : Nat) (v : TideS) : (s.setTide k v).hw = s.hw := rfl
@[simp] theorem State.setTide_ich (s : State) (k : Nat) (v : TideS) : (s.setTide k v).ich = s.ich := rfl
@[simp] theorem State.setTide_wc (s : State) (k : Nat) (v : TideS) : (s.setTide k v).wc = s.wc := rfl
@[simp] theorem State.setTide_calDue (s : State) (k : Nat) (v : TideS) : (s.setTide k v).calDue = s.calDue := rfl
@[simp] theorem State.setTide_berth (s : State) (k : Nat) (v : TideS) : (s.setTide k v).berth = s.berth := rfl
@[simp] theorem State.setTide_armed (s : State) (k : Nat) (v : TideS) : (s.setTide k v).armed = s.armed := rfl
@[simp] theorem State.setTide_admq (s : State) (k : Nat) (v : TideS) : (s.setTide k v).admq = s.admq := rfl
@[simp] theorem State.setTide_crane (s : State) (k : Nat) (v : TideS) : (s.setTide k v).crane = s.crane := rfl
@[simp] theorem State.setTide_rounds (s : State) (k : Nat) (v : TideS) : (s.setTide k v).rounds = s.rounds := rfl
@[simp] theorem State.setTide_bstore (s : State) (k : Nat) (v : TideS) : (s.setTide k v).bstore = s.bstore := rfl
@[simp] theorem State.setTide_bstoreAt (s : State) (k : Nat) (v : TideS) : (s.setTide k v).bstoreAt = s.bstoreAt := rfl
@[simp] theorem State.setTide_bram (s : State) (k : Nat) (v : TideS) : (s.setTide k v).bram = s.bram := rfl
@[simp] theorem State.setTide_engW (s : State) (k : Nat) (v : TideS) : (s.setTide k v).engW = s.engW := rfl
@[simp] theorem State.setTide_cu (s : State) (k : Nat) (v : TideS) : (s.setTide k v).cu = s.cu := rfl
@[simp] theorem State.setTide_sram (s : State) (k : Nat) (v : TideS) : (s.setTide k v).sram = s.sram := rfl
@[simp] theorem State.setTide_logAt (s : State) (k : Nat) (v : TideS) : (s.setTide k v).logAt = s.logAt := rfl
@[simp] theorem State.setTide_tz (s : State) (k : Nat) (v : TideS) : (s.setTide k v).tz = s.tz := rfl
@[simp] theorem State.setTide_tripPin (s : State) (k : Nat) (v : TideS) : (s.setTide k v).tripPin = s.tripPin := rfl
@[simp] theorem State.setTide_tb (s : State) (k : Nat) (v : TideS) : (s.setTide k v).tb = s.tb := rfl
@[simp] theorem State.setTide_tbLatch (s : State) (k : Nat) (v : TideS) : (s.setTide k v).tbLatch = s.tbLatch := rfl
@[simp] theorem State.setTide_srcAt (s : State) (k : Nat) (v : TideS) : (s.setTide k v).srcAt = s.srcAt := rfl
@[simp] theorem State.setTide_ev (s : State) (k : Nat) (v : TideS) : (s.setTide k v).ev = s.ev := rfl
@[simp] theorem State.setTide_lc (s : State) (k : Nat) (v : TideS) : (s.setTide k v).lc = s.lc := rfl
@[simp] theorem State.setTide_divAt (s : State) (k : Nat) (v : TideS) : (s.setTide k v).divAt = s.divAt := rfl
@[simp] theorem State.setTide_sc (s : State) (k : Nat) (v : TideS) : (s.setTide k v).sc = s.sc := rfl
@[simp] theorem State.setTide_mt (s : State) (k : Nat) (v : TideS) : (s.setTide k v).mt = s.mt := rfl
@[simp] theorem State.setTide_mf (s : State) (k : Nat) (v : TideS) : (s.setTide k v).mf = s.mf := rfl
@[simp] theorem State.setTide_mfu (s : State) (k : Nat) (v : TideS) : (s.setTide k v).mfu = s.mfu := rfl
@[simp] theorem State.setTide_journal (s : State) (k : Nat) (v : TideS) : (s.setTide k v).journal = s.journal := rfl
@[simp] theorem State.setTide_fl (s : State) (k : Nat) (v : TideS) : (s.setTide k v).fl = s.fl := rfl
@[simp] theorem State.setTide_flash (s : State) (k : Nat) (v : TideS) : (s.setTide k v).flash = s.flash := rfl
@[simp] theorem State.setTide_flBlk (s : State) (k : Nat) (v : TideS) : (s.setTide k v).flBlk = s.flBlk := rfl
@[simp] theorem State.setTide_flWear (s : State) (k : Nat) (v : TideS) : (s.setTide k v).flWear = s.flWear := rfl
@[simp] theorem State.setTide_otp (s : State) (k : Nat) (v : TideS) : (s.setTide k v).otp = s.otp := rfl
@[simp] theorem State.setTide_gpioPad (s : State) (k : Nat) (v : TideS) : (s.setTide k v).gpioPad = s.gpioPad := rfl
@[simp] theorem State.setTide_lkWake (s : State) (k : Nat) (v : TideS) : (s.setTide k v).lkWake = s.lkWake := rfl
@[simp] theorem State.setTide_lkDrive (s : State) (k : Nat) (v : TideS) : (s.setTide k v).lkDrive = s.lkDrive := rfl
@[simp] theorem State.setTide_rung (s : State) (k : Nat) (v : TideS) : (s.setTide k v).rung = s.rung := rfl
@[simp] theorem State.setTide_wake (s : State) (k : Nat) (v : TideS) : (s.setTide k v).wake = s.wake := rfl
@[simp] theorem State.setTide_core (s : State) (k : Nat) (v : TideS) : (s.setTide k v).core = s.core := rfl
@[simp] theorem State.setTide_bank (s : State) (k : Nat) (v : TideS) : (s.setTide k v).bank = s.bank := rfl
@[simp] theorem State.setTide_lock (s : State) (k : Nat) (v : TideS) : (s.setTide k v).lock = s.lock := rfl
@[simp] theorem State.setTide_snap (s : State) (k : Nat) (v : TideS) : (s.setTide k v).snap = s.snap := rfl
@[simp] theorem State.setTide_vsrc (s : State) (k : Nat) (v : TideS) : (s.setTide k v).vsrc = s.vsrc := rfl
@[simp] theorem State.setTide_doze (s : State) (k : Nat) (v : TideS) : (s.setTide k v).doze = s.doze := rfl
@[simp] theorem State.setTide_devRst (s : State) (k : Nat) (v : TideS) : (s.setTide k v).devRst = s.devRst := rfl
@[simp] theorem State.setTide_scrub (s : State) (k : Nat) (v : TideS) : (s.setTide k v).scrub = s.scrub := rfl
@[simp] theorem State.setTide_pps (s : State) (k : Nat) (v : TideS) : (s.setTide k v).pps = s.pps := rfl
@[simp] theorem State.setTide_pwr (s : State) (k : Nat) (v : TideS) : (s.setTide k v).pwr = s.pwr := rfl
@[simp] theorem State.setTide_link (s : State) (k : Nat) (v : TideS) : (s.setTide k v).link = s.link := rfl
@[simp] theorem State.setTide_txs (s : State) (k : Nat) (v : TideS) : (s.setTide k v).txs = s.txs := rfl
@[simp] theorem State.setTide_win (s : State) (k : Nat) (v : TideS) : (s.setTide k v).win = s.win := rfl
@[simp] theorem State.setTide_lku (s : State) (k : Nat) (v : TideS) : (s.setTide k v).lku = s.lku := rfl
@[simp] theorem State.setTide_gt (s : State) (k : Nat) (v : TideS) : (s.setTide k v).gt = s.gt := rfl
@[simp] theorem State.setTide_boot (s : State) (k : Nat) (v : TideS) : (s.setTide k v).boot = s.boot := rfl
@[simp] theorem State.setTide_graft (s : State) (k : Nat) (v : TideS) : (s.setTide k v).graft = s.graft := rfl
@[simp] theorem State.setTide_ku (s : State) (k : Nat) (v : TideS) : (s.setTide k v).ku = s.ku := rfl
@[simp] theorem State.setTide_dbg (s : State) (k : Nat) (v : TideS) : (s.setTide k v).dbg = s.dbg := rfl
@[simp] theorem State.setTide_smb (s : State) (k : Nat) (v : TideS) : (s.setTide k v).smb = s.smb := rfl
@[simp] theorem State.setTide_spi (s : State) (k : Nat) (v : TideS) : (s.setTide k v).spi = s.spi := rfl
@[simp] theorem State.setTide_pending (s : State) (k : Nat) (v : TideS) : (s.setTide k v).pending = s.pending := rfl
@[simp] theorem State.setTide_out (s : State) (k : Nat) (v : TideS) : (s.setTide k v).out = s.out := rfl
@[simp] theorem State.setTide_free (s : State) (k : Nat) (v : TideS) : (s.setTide k v).free = s.free := rfl
@[simp] theorem State.setSnap_snapOf (s : State) (k : Nat) (v : SnapS) : (s.setSnap k v).snapOf k = v := Store.get_set_same _ _ _ _
theorem State.setSnap_snapOf_ne (s : State) {j k : Nat} (v : SnapS) (h : k ≠ j) : (s.setSnap j v).snapOf k = s.snapOf k := Store.get_set_ne _ _ _ h
@[simp] theorem State.setSnap_now (s : State) (k : Nat) (v : SnapS) : (s.setSnap k v).now = s.now := rfl
@[simp] theorem State.setSnap_regs (s : State) (k : Nat) (v : SnapS) : (s.setSnap k v).regs = s.regs := rfl
@[simp] theorem State.setSnap_written (s : State) (k : Nat) (v : SnapS) : (s.setSnap k v).written = s.written := rfl
@[simp] theorem State.setSnap_hw (s : State) (k : Nat) (v : SnapS) : (s.setSnap k v).hw = s.hw := rfl
@[simp] theorem State.setSnap_ich (s : State) (k : Nat) (v : SnapS) : (s.setSnap k v).ich = s.ich := rfl
@[simp] theorem State.setSnap_wc (s : State) (k : Nat) (v : SnapS) : (s.setSnap k v).wc = s.wc := rfl
@[simp] theorem State.setSnap_calDue (s : State) (k : Nat) (v : SnapS) : (s.setSnap k v).calDue = s.calDue := rfl
@[simp] theorem State.setSnap_berth (s : State) (k : Nat) (v : SnapS) : (s.setSnap k v).berth = s.berth := rfl
@[simp] theorem State.setSnap_armed (s : State) (k : Nat) (v : SnapS) : (s.setSnap k v).armed = s.armed := rfl
@[simp] theorem State.setSnap_admq (s : State) (k : Nat) (v : SnapS) : (s.setSnap k v).admq = s.admq := rfl
@[simp] theorem State.setSnap_crane (s : State) (k : Nat) (v : SnapS) : (s.setSnap k v).crane = s.crane := rfl
@[simp] theorem State.setSnap_rounds (s : State) (k : Nat) (v : SnapS) : (s.setSnap k v).rounds = s.rounds := rfl
@[simp] theorem State.setSnap_bstore (s : State) (k : Nat) (v : SnapS) : (s.setSnap k v).bstore = s.bstore := rfl
@[simp] theorem State.setSnap_bstoreAt (s : State) (k : Nat) (v : SnapS) : (s.setSnap k v).bstoreAt = s.bstoreAt := rfl
@[simp] theorem State.setSnap_bram (s : State) (k : Nat) (v : SnapS) : (s.setSnap k v).bram = s.bram := rfl
@[simp] theorem State.setSnap_engW (s : State) (k : Nat) (v : SnapS) : (s.setSnap k v).engW = s.engW := rfl
@[simp] theorem State.setSnap_cu (s : State) (k : Nat) (v : SnapS) : (s.setSnap k v).cu = s.cu := rfl
@[simp] theorem State.setSnap_sram (s : State) (k : Nat) (v : SnapS) : (s.setSnap k v).sram = s.sram := rfl
@[simp] theorem State.setSnap_logAt (s : State) (k : Nat) (v : SnapS) : (s.setSnap k v).logAt = s.logAt := rfl
@[simp] theorem State.setSnap_tz (s : State) (k : Nat) (v : SnapS) : (s.setSnap k v).tz = s.tz := rfl
@[simp] theorem State.setSnap_tripPin (s : State) (k : Nat) (v : SnapS) : (s.setSnap k v).tripPin = s.tripPin := rfl
@[simp] theorem State.setSnap_tb (s : State) (k : Nat) (v : SnapS) : (s.setSnap k v).tb = s.tb := rfl
@[simp] theorem State.setSnap_tbLatch (s : State) (k : Nat) (v : SnapS) : (s.setSnap k v).tbLatch = s.tbLatch := rfl
@[simp] theorem State.setSnap_srcAt (s : State) (k : Nat) (v : SnapS) : (s.setSnap k v).srcAt = s.srcAt := rfl
@[simp] theorem State.setSnap_ev (s : State) (k : Nat) (v : SnapS) : (s.setSnap k v).ev = s.ev := rfl
@[simp] theorem State.setSnap_lc (s : State) (k : Nat) (v : SnapS) : (s.setSnap k v).lc = s.lc := rfl
@[simp] theorem State.setSnap_divAt (s : State) (k : Nat) (v : SnapS) : (s.setSnap k v).divAt = s.divAt := rfl
@[simp] theorem State.setSnap_sc (s : State) (k : Nat) (v : SnapS) : (s.setSnap k v).sc = s.sc := rfl
@[simp] theorem State.setSnap_mt (s : State) (k : Nat) (v : SnapS) : (s.setSnap k v).mt = s.mt := rfl
@[simp] theorem State.setSnap_mf (s : State) (k : Nat) (v : SnapS) : (s.setSnap k v).mf = s.mf := rfl
@[simp] theorem State.setSnap_mfu (s : State) (k : Nat) (v : SnapS) : (s.setSnap k v).mfu = s.mfu := rfl
@[simp] theorem State.setSnap_journal (s : State) (k : Nat) (v : SnapS) : (s.setSnap k v).journal = s.journal := rfl
@[simp] theorem State.setSnap_fl (s : State) (k : Nat) (v : SnapS) : (s.setSnap k v).fl = s.fl := rfl
@[simp] theorem State.setSnap_flash (s : State) (k : Nat) (v : SnapS) : (s.setSnap k v).flash = s.flash := rfl
@[simp] theorem State.setSnap_flBlk (s : State) (k : Nat) (v : SnapS) : (s.setSnap k v).flBlk = s.flBlk := rfl
@[simp] theorem State.setSnap_flWear (s : State) (k : Nat) (v : SnapS) : (s.setSnap k v).flWear = s.flWear := rfl
@[simp] theorem State.setSnap_otp (s : State) (k : Nat) (v : SnapS) : (s.setSnap k v).otp = s.otp := rfl
@[simp] theorem State.setSnap_gpioPad (s : State) (k : Nat) (v : SnapS) : (s.setSnap k v).gpioPad = s.gpioPad := rfl
@[simp] theorem State.setSnap_lkWake (s : State) (k : Nat) (v : SnapS) : (s.setSnap k v).lkWake = s.lkWake := rfl
@[simp] theorem State.setSnap_lkDrive (s : State) (k : Nat) (v : SnapS) : (s.setSnap k v).lkDrive = s.lkDrive := rfl
@[simp] theorem State.setSnap_rung (s : State) (k : Nat) (v : SnapS) : (s.setSnap k v).rung = s.rung := rfl
@[simp] theorem State.setSnap_wake (s : State) (k : Nat) (v : SnapS) : (s.setSnap k v).wake = s.wake := rfl
@[simp] theorem State.setSnap_core (s : State) (k : Nat) (v : SnapS) : (s.setSnap k v).core = s.core := rfl
@[simp] theorem State.setSnap_bank (s : State) (k : Nat) (v : SnapS) : (s.setSnap k v).bank = s.bank := rfl
@[simp] theorem State.setSnap_lock (s : State) (k : Nat) (v : SnapS) : (s.setSnap k v).lock = s.lock := rfl
@[simp] theorem State.setSnap_tide (s : State) (k : Nat) (v : SnapS) : (s.setSnap k v).tide = s.tide := rfl
@[simp] theorem State.setSnap_vsrc (s : State) (k : Nat) (v : SnapS) : (s.setSnap k v).vsrc = s.vsrc := rfl
@[simp] theorem State.setSnap_doze (s : State) (k : Nat) (v : SnapS) : (s.setSnap k v).doze = s.doze := rfl
@[simp] theorem State.setSnap_devRst (s : State) (k : Nat) (v : SnapS) : (s.setSnap k v).devRst = s.devRst := rfl
@[simp] theorem State.setSnap_scrub (s : State) (k : Nat) (v : SnapS) : (s.setSnap k v).scrub = s.scrub := rfl
@[simp] theorem State.setSnap_pps (s : State) (k : Nat) (v : SnapS) : (s.setSnap k v).pps = s.pps := rfl
@[simp] theorem State.setSnap_pwr (s : State) (k : Nat) (v : SnapS) : (s.setSnap k v).pwr = s.pwr := rfl
@[simp] theorem State.setSnap_link (s : State) (k : Nat) (v : SnapS) : (s.setSnap k v).link = s.link := rfl
@[simp] theorem State.setSnap_txs (s : State) (k : Nat) (v : SnapS) : (s.setSnap k v).txs = s.txs := rfl
@[simp] theorem State.setSnap_win (s : State) (k : Nat) (v : SnapS) : (s.setSnap k v).win = s.win := rfl
@[simp] theorem State.setSnap_lku (s : State) (k : Nat) (v : SnapS) : (s.setSnap k v).lku = s.lku := rfl
@[simp] theorem State.setSnap_gt (s : State) (k : Nat) (v : SnapS) : (s.setSnap k v).gt = s.gt := rfl
@[simp] theorem State.setSnap_boot (s : State) (k : Nat) (v : SnapS) : (s.setSnap k v).boot = s.boot := rfl
@[simp] theorem State.setSnap_graft (s : State) (k : Nat) (v : SnapS) : (s.setSnap k v).graft = s.graft := rfl
@[simp] theorem State.setSnap_ku (s : State) (k : Nat) (v : SnapS) : (s.setSnap k v).ku = s.ku := rfl
@[simp] theorem State.setSnap_dbg (s : State) (k : Nat) (v : SnapS) : (s.setSnap k v).dbg = s.dbg := rfl
@[simp] theorem State.setSnap_smb (s : State) (k : Nat) (v : SnapS) : (s.setSnap k v).smb = s.smb := rfl
@[simp] theorem State.setSnap_spi (s : State) (k : Nat) (v : SnapS) : (s.setSnap k v).spi = s.spi := rfl
@[simp] theorem State.setSnap_pending (s : State) (k : Nat) (v : SnapS) : (s.setSnap k v).pending = s.pending := rfl
@[simp] theorem State.setSnap_out (s : State) (k : Nat) (v : SnapS) : (s.setSnap k v).out = s.out := rfl
@[simp] theorem State.setSnap_free (s : State) (k : Nat) (v : SnapS) : (s.setSnap k v).free = s.free := rfl
@[simp] theorem State.setVsrc_vsrcOf (s : State) (k : Nat) (v : Nat) : (s.setVsrc k v).vsrcOf k = v := Store.get_set_same _ _ _ _
theorem State.setVsrc_vsrcOf_ne (s : State) {j k : Nat} (v : Nat) (h : k ≠ j) : (s.setVsrc j v).vsrcOf k = s.vsrcOf k := Store.get_set_ne _ _ _ h
@[simp] theorem State.setVsrc_now (s : State) (k : Nat) (v : Nat) : (s.setVsrc k v).now = s.now := rfl
@[simp] theorem State.setVsrc_regs (s : State) (k : Nat) (v : Nat) : (s.setVsrc k v).regs = s.regs := rfl
@[simp] theorem State.setVsrc_written (s : State) (k : Nat) (v : Nat) : (s.setVsrc k v).written = s.written := rfl
@[simp] theorem State.setVsrc_hw (s : State) (k : Nat) (v : Nat) : (s.setVsrc k v).hw = s.hw := rfl
@[simp] theorem State.setVsrc_ich (s : State) (k : Nat) (v : Nat) : (s.setVsrc k v).ich = s.ich := rfl
@[simp] theorem State.setVsrc_wc (s : State) (k : Nat) (v : Nat) : (s.setVsrc k v).wc = s.wc := rfl
@[simp] theorem State.setVsrc_calDue (s : State) (k : Nat) (v : Nat) : (s.setVsrc k v).calDue = s.calDue := rfl
@[simp] theorem State.setVsrc_berth (s : State) (k : Nat) (v : Nat) : (s.setVsrc k v).berth = s.berth := rfl
@[simp] theorem State.setVsrc_armed (s : State) (k : Nat) (v : Nat) : (s.setVsrc k v).armed = s.armed := rfl
@[simp] theorem State.setVsrc_admq (s : State) (k : Nat) (v : Nat) : (s.setVsrc k v).admq = s.admq := rfl
@[simp] theorem State.setVsrc_crane (s : State) (k : Nat) (v : Nat) : (s.setVsrc k v).crane = s.crane := rfl
@[simp] theorem State.setVsrc_rounds (s : State) (k : Nat) (v : Nat) : (s.setVsrc k v).rounds = s.rounds := rfl
@[simp] theorem State.setVsrc_bstore (s : State) (k : Nat) (v : Nat) : (s.setVsrc k v).bstore = s.bstore := rfl
@[simp] theorem State.setVsrc_bstoreAt (s : State) (k : Nat) (v : Nat) : (s.setVsrc k v).bstoreAt = s.bstoreAt := rfl
@[simp] theorem State.setVsrc_bram (s : State) (k : Nat) (v : Nat) : (s.setVsrc k v).bram = s.bram := rfl
@[simp] theorem State.setVsrc_engW (s : State) (k : Nat) (v : Nat) : (s.setVsrc k v).engW = s.engW := rfl
@[simp] theorem State.setVsrc_cu (s : State) (k : Nat) (v : Nat) : (s.setVsrc k v).cu = s.cu := rfl
@[simp] theorem State.setVsrc_sram (s : State) (k : Nat) (v : Nat) : (s.setVsrc k v).sram = s.sram := rfl
@[simp] theorem State.setVsrc_logAt (s : State) (k : Nat) (v : Nat) : (s.setVsrc k v).logAt = s.logAt := rfl
@[simp] theorem State.setVsrc_tz (s : State) (k : Nat) (v : Nat) : (s.setVsrc k v).tz = s.tz := rfl
@[simp] theorem State.setVsrc_tripPin (s : State) (k : Nat) (v : Nat) : (s.setVsrc k v).tripPin = s.tripPin := rfl
@[simp] theorem State.setVsrc_tb (s : State) (k : Nat) (v : Nat) : (s.setVsrc k v).tb = s.tb := rfl
@[simp] theorem State.setVsrc_tbLatch (s : State) (k : Nat) (v : Nat) : (s.setVsrc k v).tbLatch = s.tbLatch := rfl
@[simp] theorem State.setVsrc_srcAt (s : State) (k : Nat) (v : Nat) : (s.setVsrc k v).srcAt = s.srcAt := rfl
@[simp] theorem State.setVsrc_ev (s : State) (k : Nat) (v : Nat) : (s.setVsrc k v).ev = s.ev := rfl
@[simp] theorem State.setVsrc_lc (s : State) (k : Nat) (v : Nat) : (s.setVsrc k v).lc = s.lc := rfl
@[simp] theorem State.setVsrc_divAt (s : State) (k : Nat) (v : Nat) : (s.setVsrc k v).divAt = s.divAt := rfl
@[simp] theorem State.setVsrc_sc (s : State) (k : Nat) (v : Nat) : (s.setVsrc k v).sc = s.sc := rfl
@[simp] theorem State.setVsrc_mt (s : State) (k : Nat) (v : Nat) : (s.setVsrc k v).mt = s.mt := rfl
@[simp] theorem State.setVsrc_mf (s : State) (k : Nat) (v : Nat) : (s.setVsrc k v).mf = s.mf := rfl
@[simp] theorem State.setVsrc_mfu (s : State) (k : Nat) (v : Nat) : (s.setVsrc k v).mfu = s.mfu := rfl
@[simp] theorem State.setVsrc_journal (s : State) (k : Nat) (v : Nat) : (s.setVsrc k v).journal = s.journal := rfl
@[simp] theorem State.setVsrc_fl (s : State) (k : Nat) (v : Nat) : (s.setVsrc k v).fl = s.fl := rfl
@[simp] theorem State.setVsrc_flash (s : State) (k : Nat) (v : Nat) : (s.setVsrc k v).flash = s.flash := rfl
@[simp] theorem State.setVsrc_flBlk (s : State) (k : Nat) (v : Nat) : (s.setVsrc k v).flBlk = s.flBlk := rfl
@[simp] theorem State.setVsrc_flWear (s : State) (k : Nat) (v : Nat) : (s.setVsrc k v).flWear = s.flWear := rfl
@[simp] theorem State.setVsrc_otp (s : State) (k : Nat) (v : Nat) : (s.setVsrc k v).otp = s.otp := rfl
@[simp] theorem State.setVsrc_gpioPad (s : State) (k : Nat) (v : Nat) : (s.setVsrc k v).gpioPad = s.gpioPad := rfl
@[simp] theorem State.setVsrc_lkWake (s : State) (k : Nat) (v : Nat) : (s.setVsrc k v).lkWake = s.lkWake := rfl
@[simp] theorem State.setVsrc_lkDrive (s : State) (k : Nat) (v : Nat) : (s.setVsrc k v).lkDrive = s.lkDrive := rfl
@[simp] theorem State.setVsrc_rung (s : State) (k : Nat) (v : Nat) : (s.setVsrc k v).rung = s.rung := rfl
@[simp] theorem State.setVsrc_wake (s : State) (k : Nat) (v : Nat) : (s.setVsrc k v).wake = s.wake := rfl
@[simp] theorem State.setVsrc_core (s : State) (k : Nat) (v : Nat) : (s.setVsrc k v).core = s.core := rfl
@[simp] theorem State.setVsrc_bank (s : State) (k : Nat) (v : Nat) : (s.setVsrc k v).bank = s.bank := rfl
@[simp] theorem State.setVsrc_lock (s : State) (k : Nat) (v : Nat) : (s.setVsrc k v).lock = s.lock := rfl
@[simp] theorem State.setVsrc_tide (s : State) (k : Nat) (v : Nat) : (s.setVsrc k v).tide = s.tide := rfl
@[simp] theorem State.setVsrc_snap (s : State) (k : Nat) (v : Nat) : (s.setVsrc k v).snap = s.snap := rfl
@[simp] theorem State.setVsrc_doze (s : State) (k : Nat) (v : Nat) : (s.setVsrc k v).doze = s.doze := rfl
@[simp] theorem State.setVsrc_devRst (s : State) (k : Nat) (v : Nat) : (s.setVsrc k v).devRst = s.devRst := rfl
@[simp] theorem State.setVsrc_scrub (s : State) (k : Nat) (v : Nat) : (s.setVsrc k v).scrub = s.scrub := rfl
@[simp] theorem State.setVsrc_pps (s : State) (k : Nat) (v : Nat) : (s.setVsrc k v).pps = s.pps := rfl
@[simp] theorem State.setVsrc_pwr (s : State) (k : Nat) (v : Nat) : (s.setVsrc k v).pwr = s.pwr := rfl
@[simp] theorem State.setVsrc_link (s : State) (k : Nat) (v : Nat) : (s.setVsrc k v).link = s.link := rfl
@[simp] theorem State.setVsrc_txs (s : State) (k : Nat) (v : Nat) : (s.setVsrc k v).txs = s.txs := rfl
@[simp] theorem State.setVsrc_win (s : State) (k : Nat) (v : Nat) : (s.setVsrc k v).win = s.win := rfl
@[simp] theorem State.setVsrc_lku (s : State) (k : Nat) (v : Nat) : (s.setVsrc k v).lku = s.lku := rfl
@[simp] theorem State.setVsrc_gt (s : State) (k : Nat) (v : Nat) : (s.setVsrc k v).gt = s.gt := rfl
@[simp] theorem State.setVsrc_boot (s : State) (k : Nat) (v : Nat) : (s.setVsrc k v).boot = s.boot := rfl
@[simp] theorem State.setVsrc_graft (s : State) (k : Nat) (v : Nat) : (s.setVsrc k v).graft = s.graft := rfl
@[simp] theorem State.setVsrc_ku (s : State) (k : Nat) (v : Nat) : (s.setVsrc k v).ku = s.ku := rfl
@[simp] theorem State.setVsrc_dbg (s : State) (k : Nat) (v : Nat) : (s.setVsrc k v).dbg = s.dbg := rfl
@[simp] theorem State.setVsrc_smb (s : State) (k : Nat) (v : Nat) : (s.setVsrc k v).smb = s.smb := rfl
@[simp] theorem State.setVsrc_spi (s : State) (k : Nat) (v : Nat) : (s.setVsrc k v).spi = s.spi := rfl
@[simp] theorem State.setVsrc_pending (s : State) (k : Nat) (v : Nat) : (s.setVsrc k v).pending = s.pending := rfl
@[simp] theorem State.setVsrc_out (s : State) (k : Nat) (v : Nat) : (s.setVsrc k v).out = s.out := rfl
@[simp] theorem State.setVsrc_free (s : State) (k : Nat) (v : Nat) : (s.setVsrc k v).free = s.free := rfl
@[simp] theorem State.setDoze_dozeOf (s : State) (k : Nat) (v : Bool) : (s.setDoze k v).dozeOf k = v := Store.get_set_same _ _ _ _
theorem State.setDoze_dozeOf_ne (s : State) {j k : Nat} (v : Bool) (h : k ≠ j) : (s.setDoze j v).dozeOf k = s.dozeOf k := Store.get_set_ne _ _ _ h
@[simp] theorem State.setDoze_now (s : State) (k : Nat) (v : Bool) : (s.setDoze k v).now = s.now := rfl
@[simp] theorem State.setDoze_regs (s : State) (k : Nat) (v : Bool) : (s.setDoze k v).regs = s.regs := rfl
@[simp] theorem State.setDoze_written (s : State) (k : Nat) (v : Bool) : (s.setDoze k v).written = s.written := rfl
@[simp] theorem State.setDoze_hw (s : State) (k : Nat) (v : Bool) : (s.setDoze k v).hw = s.hw := rfl
@[simp] theorem State.setDoze_ich (s : State) (k : Nat) (v : Bool) : (s.setDoze k v).ich = s.ich := rfl
@[simp] theorem State.setDoze_wc (s : State) (k : Nat) (v : Bool) : (s.setDoze k v).wc = s.wc := rfl
@[simp] theorem State.setDoze_calDue (s : State) (k : Nat) (v : Bool) : (s.setDoze k v).calDue = s.calDue := rfl
@[simp] theorem State.setDoze_berth (s : State) (k : Nat) (v : Bool) : (s.setDoze k v).berth = s.berth := rfl
@[simp] theorem State.setDoze_armed (s : State) (k : Nat) (v : Bool) : (s.setDoze k v).armed = s.armed := rfl
@[simp] theorem State.setDoze_admq (s : State) (k : Nat) (v : Bool) : (s.setDoze k v).admq = s.admq := rfl
@[simp] theorem State.setDoze_crane (s : State) (k : Nat) (v : Bool) : (s.setDoze k v).crane = s.crane := rfl
@[simp] theorem State.setDoze_rounds (s : State) (k : Nat) (v : Bool) : (s.setDoze k v).rounds = s.rounds := rfl
@[simp] theorem State.setDoze_bstore (s : State) (k : Nat) (v : Bool) : (s.setDoze k v).bstore = s.bstore := rfl
@[simp] theorem State.setDoze_bstoreAt (s : State) (k : Nat) (v : Bool) : (s.setDoze k v).bstoreAt = s.bstoreAt := rfl
@[simp] theorem State.setDoze_bram (s : State) (k : Nat) (v : Bool) : (s.setDoze k v).bram = s.bram := rfl
@[simp] theorem State.setDoze_engW (s : State) (k : Nat) (v : Bool) : (s.setDoze k v).engW = s.engW := rfl
@[simp] theorem State.setDoze_cu (s : State) (k : Nat) (v : Bool) : (s.setDoze k v).cu = s.cu := rfl
@[simp] theorem State.setDoze_sram (s : State) (k : Nat) (v : Bool) : (s.setDoze k v).sram = s.sram := rfl
@[simp] theorem State.setDoze_logAt (s : State) (k : Nat) (v : Bool) : (s.setDoze k v).logAt = s.logAt := rfl
@[simp] theorem State.setDoze_tz (s : State) (k : Nat) (v : Bool) : (s.setDoze k v).tz = s.tz := rfl
@[simp] theorem State.setDoze_tripPin (s : State) (k : Nat) (v : Bool) : (s.setDoze k v).tripPin = s.tripPin := rfl
@[simp] theorem State.setDoze_tb (s : State) (k : Nat) (v : Bool) : (s.setDoze k v).tb = s.tb := rfl
@[simp] theorem State.setDoze_tbLatch (s : State) (k : Nat) (v : Bool) : (s.setDoze k v).tbLatch = s.tbLatch := rfl
@[simp] theorem State.setDoze_srcAt (s : State) (k : Nat) (v : Bool) : (s.setDoze k v).srcAt = s.srcAt := rfl
@[simp] theorem State.setDoze_ev (s : State) (k : Nat) (v : Bool) : (s.setDoze k v).ev = s.ev := rfl
@[simp] theorem State.setDoze_lc (s : State) (k : Nat) (v : Bool) : (s.setDoze k v).lc = s.lc := rfl
@[simp] theorem State.setDoze_divAt (s : State) (k : Nat) (v : Bool) : (s.setDoze k v).divAt = s.divAt := rfl
@[simp] theorem State.setDoze_sc (s : State) (k : Nat) (v : Bool) : (s.setDoze k v).sc = s.sc := rfl
@[simp] theorem State.setDoze_mt (s : State) (k : Nat) (v : Bool) : (s.setDoze k v).mt = s.mt := rfl
@[simp] theorem State.setDoze_mf (s : State) (k : Nat) (v : Bool) : (s.setDoze k v).mf = s.mf := rfl
@[simp] theorem State.setDoze_mfu (s : State) (k : Nat) (v : Bool) : (s.setDoze k v).mfu = s.mfu := rfl
@[simp] theorem State.setDoze_journal (s : State) (k : Nat) (v : Bool) : (s.setDoze k v).journal = s.journal := rfl
@[simp] theorem State.setDoze_fl (s : State) (k : Nat) (v : Bool) : (s.setDoze k v).fl = s.fl := rfl
@[simp] theorem State.setDoze_flash (s : State) (k : Nat) (v : Bool) : (s.setDoze k v).flash = s.flash := rfl
@[simp] theorem State.setDoze_flBlk (s : State) (k : Nat) (v : Bool) : (s.setDoze k v).flBlk = s.flBlk := rfl
@[simp] theorem State.setDoze_flWear (s : State) (k : Nat) (v : Bool) : (s.setDoze k v).flWear = s.flWear := rfl
@[simp] theorem State.setDoze_otp (s : State) (k : Nat) (v : Bool) : (s.setDoze k v).otp = s.otp := rfl
@[simp] theorem State.setDoze_gpioPad (s : State) (k : Nat) (v : Bool) : (s.setDoze k v).gpioPad = s.gpioPad := rfl
@[simp] theorem State.setDoze_lkWake (s : State) (k : Nat) (v : Bool) : (s.setDoze k v).lkWake = s.lkWake := rfl
@[simp] theorem State.setDoze_lkDrive (s : State) (k : Nat) (v : Bool) : (s.setDoze k v).lkDrive = s.lkDrive := rfl
@[simp] theorem State.setDoze_rung (s : State) (k : Nat) (v : Bool) : (s.setDoze k v).rung = s.rung := rfl
@[simp] theorem State.setDoze_wake (s : State) (k : Nat) (v : Bool) : (s.setDoze k v).wake = s.wake := rfl
@[simp] theorem State.setDoze_core (s : State) (k : Nat) (v : Bool) : (s.setDoze k v).core = s.core := rfl
@[simp] theorem State.setDoze_bank (s : State) (k : Nat) (v : Bool) : (s.setDoze k v).bank = s.bank := rfl
@[simp] theorem State.setDoze_lock (s : State) (k : Nat) (v : Bool) : (s.setDoze k v).lock = s.lock := rfl
@[simp] theorem State.setDoze_tide (s : State) (k : Nat) (v : Bool) : (s.setDoze k v).tide = s.tide := rfl
@[simp] theorem State.setDoze_snap (s : State) (k : Nat) (v : Bool) : (s.setDoze k v).snap = s.snap := rfl
@[simp] theorem State.setDoze_vsrc (s : State) (k : Nat) (v : Bool) : (s.setDoze k v).vsrc = s.vsrc := rfl
@[simp] theorem State.setDoze_devRst (s : State) (k : Nat) (v : Bool) : (s.setDoze k v).devRst = s.devRst := rfl
@[simp] theorem State.setDoze_scrub (s : State) (k : Nat) (v : Bool) : (s.setDoze k v).scrub = s.scrub := rfl
@[simp] theorem State.setDoze_pps (s : State) (k : Nat) (v : Bool) : (s.setDoze k v).pps = s.pps := rfl
@[simp] theorem State.setDoze_pwr (s : State) (k : Nat) (v : Bool) : (s.setDoze k v).pwr = s.pwr := rfl
@[simp] theorem State.setDoze_link (s : State) (k : Nat) (v : Bool) : (s.setDoze k v).link = s.link := rfl
@[simp] theorem State.setDoze_txs (s : State) (k : Nat) (v : Bool) : (s.setDoze k v).txs = s.txs := rfl
@[simp] theorem State.setDoze_win (s : State) (k : Nat) (v : Bool) : (s.setDoze k v).win = s.win := rfl
@[simp] theorem State.setDoze_lku (s : State) (k : Nat) (v : Bool) : (s.setDoze k v).lku = s.lku := rfl
@[simp] theorem State.setDoze_gt (s : State) (k : Nat) (v : Bool) : (s.setDoze k v).gt = s.gt := rfl
@[simp] theorem State.setDoze_boot (s : State) (k : Nat) (v : Bool) : (s.setDoze k v).boot = s.boot := rfl
@[simp] theorem State.setDoze_graft (s : State) (k : Nat) (v : Bool) : (s.setDoze k v).graft = s.graft := rfl
@[simp] theorem State.setDoze_ku (s : State) (k : Nat) (v : Bool) : (s.setDoze k v).ku = s.ku := rfl
@[simp] theorem State.setDoze_dbg (s : State) (k : Nat) (v : Bool) : (s.setDoze k v).dbg = s.dbg := rfl
@[simp] theorem State.setDoze_smb (s : State) (k : Nat) (v : Bool) : (s.setDoze k v).smb = s.smb := rfl
@[simp] theorem State.setDoze_spi (s : State) (k : Nat) (v : Bool) : (s.setDoze k v).spi = s.spi := rfl
@[simp] theorem State.setDoze_pending (s : State) (k : Nat) (v : Bool) : (s.setDoze k v).pending = s.pending := rfl
@[simp] theorem State.setDoze_out (s : State) (k : Nat) (v : Bool) : (s.setDoze k v).out = s.out := rfl
@[simp] theorem State.setDoze_free (s : State) (k : Nat) (v : Bool) : (s.setDoze k v).free = s.free := rfl
@[simp] theorem State.setScrub_scrubOf (s : State) (k : Nat) (v : (Nat × Nat)) : (s.setScrub k v).scrubOf k = v := Store.get_set_same _ _ _ _
theorem State.setScrub_scrubOf_ne (s : State) {j k : Nat} (v : (Nat × Nat)) (h : k ≠ j) : (s.setScrub j v).scrubOf k = s.scrubOf k := Store.get_set_ne _ _ _ h
@[simp] theorem State.setScrub_now (s : State) (k : Nat) (v : (Nat × Nat)) : (s.setScrub k v).now = s.now := rfl
@[simp] theorem State.setScrub_regs (s : State) (k : Nat) (v : (Nat × Nat)) : (s.setScrub k v).regs = s.regs := rfl
@[simp] theorem State.setScrub_written (s : State) (k : Nat) (v : (Nat × Nat)) : (s.setScrub k v).written = s.written := rfl
@[simp] theorem State.setScrub_hw (s : State) (k : Nat) (v : (Nat × Nat)) : (s.setScrub k v).hw = s.hw := rfl
@[simp] theorem State.setScrub_ich (s : State) (k : Nat) (v : (Nat × Nat)) : (s.setScrub k v).ich = s.ich := rfl
@[simp] theorem State.setScrub_wc (s : State) (k : Nat) (v : (Nat × Nat)) : (s.setScrub k v).wc = s.wc := rfl
@[simp] theorem State.setScrub_calDue (s : State) (k : Nat) (v : (Nat × Nat)) : (s.setScrub k v).calDue = s.calDue := rfl
@[simp] theorem State.setScrub_berth (s : State) (k : Nat) (v : (Nat × Nat)) : (s.setScrub k v).berth = s.berth := rfl
@[simp] theorem State.setScrub_armed (s : State) (k : Nat) (v : (Nat × Nat)) : (s.setScrub k v).armed = s.armed := rfl
@[simp] theorem State.setScrub_admq (s : State) (k : Nat) (v : (Nat × Nat)) : (s.setScrub k v).admq = s.admq := rfl
@[simp] theorem State.setScrub_crane (s : State) (k : Nat) (v : (Nat × Nat)) : (s.setScrub k v).crane = s.crane := rfl
@[simp] theorem State.setScrub_rounds (s : State) (k : Nat) (v : (Nat × Nat)) : (s.setScrub k v).rounds = s.rounds := rfl
@[simp] theorem State.setScrub_bstore (s : State) (k : Nat) (v : (Nat × Nat)) : (s.setScrub k v).bstore = s.bstore := rfl
@[simp] theorem State.setScrub_bstoreAt (s : State) (k : Nat) (v : (Nat × Nat)) : (s.setScrub k v).bstoreAt = s.bstoreAt := rfl
@[simp] theorem State.setScrub_bram (s : State) (k : Nat) (v : (Nat × Nat)) : (s.setScrub k v).bram = s.bram := rfl
@[simp] theorem State.setScrub_engW (s : State) (k : Nat) (v : (Nat × Nat)) : (s.setScrub k v).engW = s.engW := rfl
@[simp] theorem State.setScrub_cu (s : State) (k : Nat) (v : (Nat × Nat)) : (s.setScrub k v).cu = s.cu := rfl
@[simp] theorem State.setScrub_sram (s : State) (k : Nat) (v : (Nat × Nat)) : (s.setScrub k v).sram = s.sram := rfl
@[simp] theorem State.setScrub_logAt (s : State) (k : Nat) (v : (Nat × Nat)) : (s.setScrub k v).logAt = s.logAt := rfl
@[simp] theorem State.setScrub_tz (s : State) (k : Nat) (v : (Nat × Nat)) : (s.setScrub k v).tz = s.tz := rfl
@[simp] theorem State.setScrub_tripPin (s : State) (k : Nat) (v : (Nat × Nat)) : (s.setScrub k v).tripPin = s.tripPin := rfl
@[simp] theorem State.setScrub_tb (s : State) (k : Nat) (v : (Nat × Nat)) : (s.setScrub k v).tb = s.tb := rfl
@[simp] theorem State.setScrub_tbLatch (s : State) (k : Nat) (v : (Nat × Nat)) : (s.setScrub k v).tbLatch = s.tbLatch := rfl
@[simp] theorem State.setScrub_srcAt (s : State) (k : Nat) (v : (Nat × Nat)) : (s.setScrub k v).srcAt = s.srcAt := rfl
@[simp] theorem State.setScrub_ev (s : State) (k : Nat) (v : (Nat × Nat)) : (s.setScrub k v).ev = s.ev := rfl
@[simp] theorem State.setScrub_lc (s : State) (k : Nat) (v : (Nat × Nat)) : (s.setScrub k v).lc = s.lc := rfl
@[simp] theorem State.setScrub_divAt (s : State) (k : Nat) (v : (Nat × Nat)) : (s.setScrub k v).divAt = s.divAt := rfl
@[simp] theorem State.setScrub_sc (s : State) (k : Nat) (v : (Nat × Nat)) : (s.setScrub k v).sc = s.sc := rfl
@[simp] theorem State.setScrub_mt (s : State) (k : Nat) (v : (Nat × Nat)) : (s.setScrub k v).mt = s.mt := rfl
@[simp] theorem State.setScrub_mf (s : State) (k : Nat) (v : (Nat × Nat)) : (s.setScrub k v).mf = s.mf := rfl
@[simp] theorem State.setScrub_mfu (s : State) (k : Nat) (v : (Nat × Nat)) : (s.setScrub k v).mfu = s.mfu := rfl
@[simp] theorem State.setScrub_journal (s : State) (k : Nat) (v : (Nat × Nat)) : (s.setScrub k v).journal = s.journal := rfl
@[simp] theorem State.setScrub_fl (s : State) (k : Nat) (v : (Nat × Nat)) : (s.setScrub k v).fl = s.fl := rfl
@[simp] theorem State.setScrub_flash (s : State) (k : Nat) (v : (Nat × Nat)) : (s.setScrub k v).flash = s.flash := rfl
@[simp] theorem State.setScrub_flBlk (s : State) (k : Nat) (v : (Nat × Nat)) : (s.setScrub k v).flBlk = s.flBlk := rfl
@[simp] theorem State.setScrub_flWear (s : State) (k : Nat) (v : (Nat × Nat)) : (s.setScrub k v).flWear = s.flWear := rfl
@[simp] theorem State.setScrub_otp (s : State) (k : Nat) (v : (Nat × Nat)) : (s.setScrub k v).otp = s.otp := rfl
@[simp] theorem State.setScrub_gpioPad (s : State) (k : Nat) (v : (Nat × Nat)) : (s.setScrub k v).gpioPad = s.gpioPad := rfl
@[simp] theorem State.setScrub_lkWake (s : State) (k : Nat) (v : (Nat × Nat)) : (s.setScrub k v).lkWake = s.lkWake := rfl
@[simp] theorem State.setScrub_lkDrive (s : State) (k : Nat) (v : (Nat × Nat)) : (s.setScrub k v).lkDrive = s.lkDrive := rfl
@[simp] theorem State.setScrub_rung (s : State) (k : Nat) (v : (Nat × Nat)) : (s.setScrub k v).rung = s.rung := rfl
@[simp] theorem State.setScrub_wake (s : State) (k : Nat) (v : (Nat × Nat)) : (s.setScrub k v).wake = s.wake := rfl
@[simp] theorem State.setScrub_core (s : State) (k : Nat) (v : (Nat × Nat)) : (s.setScrub k v).core = s.core := rfl
@[simp] theorem State.setScrub_bank (s : State) (k : Nat) (v : (Nat × Nat)) : (s.setScrub k v).bank = s.bank := rfl
@[simp] theorem State.setScrub_lock (s : State) (k : Nat) (v : (Nat × Nat)) : (s.setScrub k v).lock = s.lock := rfl
@[simp] theorem State.setScrub_tide (s : State) (k : Nat) (v : (Nat × Nat)) : (s.setScrub k v).tide = s.tide := rfl
@[simp] theorem State.setScrub_snap (s : State) (k : Nat) (v : (Nat × Nat)) : (s.setScrub k v).snap = s.snap := rfl
@[simp] theorem State.setScrub_vsrc (s : State) (k : Nat) (v : (Nat × Nat)) : (s.setScrub k v).vsrc = s.vsrc := rfl
@[simp] theorem State.setScrub_doze (s : State) (k : Nat) (v : (Nat × Nat)) : (s.setScrub k v).doze = s.doze := rfl
@[simp] theorem State.setScrub_devRst (s : State) (k : Nat) (v : (Nat × Nat)) : (s.setScrub k v).devRst = s.devRst := rfl
@[simp] theorem State.setScrub_pps (s : State) (k : Nat) (v : (Nat × Nat)) : (s.setScrub k v).pps = s.pps := rfl
@[simp] theorem State.setScrub_pwr (s : State) (k : Nat) (v : (Nat × Nat)) : (s.setScrub k v).pwr = s.pwr := rfl
@[simp] theorem State.setScrub_link (s : State) (k : Nat) (v : (Nat × Nat)) : (s.setScrub k v).link = s.link := rfl
@[simp] theorem State.setScrub_txs (s : State) (k : Nat) (v : (Nat × Nat)) : (s.setScrub k v).txs = s.txs := rfl
@[simp] theorem State.setScrub_win (s : State) (k : Nat) (v : (Nat × Nat)) : (s.setScrub k v).win = s.win := rfl
@[simp] theorem State.setScrub_lku (s : State) (k : Nat) (v : (Nat × Nat)) : (s.setScrub k v).lku = s.lku := rfl
@[simp] theorem State.setScrub_gt (s : State) (k : Nat) (v : (Nat × Nat)) : (s.setScrub k v).gt = s.gt := rfl
@[simp] theorem State.setScrub_boot (s : State) (k : Nat) (v : (Nat × Nat)) : (s.setScrub k v).boot = s.boot := rfl
@[simp] theorem State.setScrub_graft (s : State) (k : Nat) (v : (Nat × Nat)) : (s.setScrub k v).graft = s.graft := rfl
@[simp] theorem State.setScrub_ku (s : State) (k : Nat) (v : (Nat × Nat)) : (s.setScrub k v).ku = s.ku := rfl
@[simp] theorem State.setScrub_dbg (s : State) (k : Nat) (v : (Nat × Nat)) : (s.setScrub k v).dbg = s.dbg := rfl
@[simp] theorem State.setScrub_smb (s : State) (k : Nat) (v : (Nat × Nat)) : (s.setScrub k v).smb = s.smb := rfl
@[simp] theorem State.setScrub_spi (s : State) (k : Nat) (v : (Nat × Nat)) : (s.setScrub k v).spi = s.spi := rfl
@[simp] theorem State.setScrub_pending (s : State) (k : Nat) (v : (Nat × Nat)) : (s.setScrub k v).pending = s.pending := rfl
@[simp] theorem State.setScrub_out (s : State) (k : Nat) (v : (Nat × Nat)) : (s.setScrub k v).out = s.out := rfl
@[simp] theorem State.setScrub_free (s : State) (k : Nat) (v : (Nat × Nat)) : (s.setScrub k v).free = s.free := rfl
@[simp] theorem State.setLink_linkOf (s : State) (k : Nat) (v : LinkS) : (s.setLink k v).linkOf k = v := Store.get_set_same _ _ _ _
theorem State.setLink_linkOf_ne (s : State) {j k : Nat} (v : LinkS) (h : k ≠ j) : (s.setLink j v).linkOf k = s.linkOf k := Store.get_set_ne _ _ _ h
@[simp] theorem State.setLink_now (s : State) (k : Nat) (v : LinkS) : (s.setLink k v).now = s.now := rfl
@[simp] theorem State.setLink_regs (s : State) (k : Nat) (v : LinkS) : (s.setLink k v).regs = s.regs := rfl
@[simp] theorem State.setLink_written (s : State) (k : Nat) (v : LinkS) : (s.setLink k v).written = s.written := rfl
@[simp] theorem State.setLink_hw (s : State) (k : Nat) (v : LinkS) : (s.setLink k v).hw = s.hw := rfl
@[simp] theorem State.setLink_ich (s : State) (k : Nat) (v : LinkS) : (s.setLink k v).ich = s.ich := rfl
@[simp] theorem State.setLink_wc (s : State) (k : Nat) (v : LinkS) : (s.setLink k v).wc = s.wc := rfl
@[simp] theorem State.setLink_calDue (s : State) (k : Nat) (v : LinkS) : (s.setLink k v).calDue = s.calDue := rfl
@[simp] theorem State.setLink_berth (s : State) (k : Nat) (v : LinkS) : (s.setLink k v).berth = s.berth := rfl
@[simp] theorem State.setLink_armed (s : State) (k : Nat) (v : LinkS) : (s.setLink k v).armed = s.armed := rfl
@[simp] theorem State.setLink_admq (s : State) (k : Nat) (v : LinkS) : (s.setLink k v).admq = s.admq := rfl
@[simp] theorem State.setLink_crane (s : State) (k : Nat) (v : LinkS) : (s.setLink k v).crane = s.crane := rfl
@[simp] theorem State.setLink_rounds (s : State) (k : Nat) (v : LinkS) : (s.setLink k v).rounds = s.rounds := rfl
@[simp] theorem State.setLink_bstore (s : State) (k : Nat) (v : LinkS) : (s.setLink k v).bstore = s.bstore := rfl
@[simp] theorem State.setLink_bstoreAt (s : State) (k : Nat) (v : LinkS) : (s.setLink k v).bstoreAt = s.bstoreAt := rfl
@[simp] theorem State.setLink_bram (s : State) (k : Nat) (v : LinkS) : (s.setLink k v).bram = s.bram := rfl
@[simp] theorem State.setLink_engW (s : State) (k : Nat) (v : LinkS) : (s.setLink k v).engW = s.engW := rfl
@[simp] theorem State.setLink_cu (s : State) (k : Nat) (v : LinkS) : (s.setLink k v).cu = s.cu := rfl
@[simp] theorem State.setLink_sram (s : State) (k : Nat) (v : LinkS) : (s.setLink k v).sram = s.sram := rfl
@[simp] theorem State.setLink_logAt (s : State) (k : Nat) (v : LinkS) : (s.setLink k v).logAt = s.logAt := rfl
@[simp] theorem State.setLink_tz (s : State) (k : Nat) (v : LinkS) : (s.setLink k v).tz = s.tz := rfl
@[simp] theorem State.setLink_tripPin (s : State) (k : Nat) (v : LinkS) : (s.setLink k v).tripPin = s.tripPin := rfl
@[simp] theorem State.setLink_tb (s : State) (k : Nat) (v : LinkS) : (s.setLink k v).tb = s.tb := rfl
@[simp] theorem State.setLink_tbLatch (s : State) (k : Nat) (v : LinkS) : (s.setLink k v).tbLatch = s.tbLatch := rfl
@[simp] theorem State.setLink_srcAt (s : State) (k : Nat) (v : LinkS) : (s.setLink k v).srcAt = s.srcAt := rfl
@[simp] theorem State.setLink_ev (s : State) (k : Nat) (v : LinkS) : (s.setLink k v).ev = s.ev := rfl
@[simp] theorem State.setLink_lc (s : State) (k : Nat) (v : LinkS) : (s.setLink k v).lc = s.lc := rfl
@[simp] theorem State.setLink_divAt (s : State) (k : Nat) (v : LinkS) : (s.setLink k v).divAt = s.divAt := rfl
@[simp] theorem State.setLink_sc (s : State) (k : Nat) (v : LinkS) : (s.setLink k v).sc = s.sc := rfl
@[simp] theorem State.setLink_mt (s : State) (k : Nat) (v : LinkS) : (s.setLink k v).mt = s.mt := rfl
@[simp] theorem State.setLink_mf (s : State) (k : Nat) (v : LinkS) : (s.setLink k v).mf = s.mf := rfl
@[simp] theorem State.setLink_mfu (s : State) (k : Nat) (v : LinkS) : (s.setLink k v).mfu = s.mfu := rfl
@[simp] theorem State.setLink_journal (s : State) (k : Nat) (v : LinkS) : (s.setLink k v).journal = s.journal := rfl
@[simp] theorem State.setLink_fl (s : State) (k : Nat) (v : LinkS) : (s.setLink k v).fl = s.fl := rfl
@[simp] theorem State.setLink_flash (s : State) (k : Nat) (v : LinkS) : (s.setLink k v).flash = s.flash := rfl
@[simp] theorem State.setLink_flBlk (s : State) (k : Nat) (v : LinkS) : (s.setLink k v).flBlk = s.flBlk := rfl
@[simp] theorem State.setLink_flWear (s : State) (k : Nat) (v : LinkS) : (s.setLink k v).flWear = s.flWear := rfl
@[simp] theorem State.setLink_otp (s : State) (k : Nat) (v : LinkS) : (s.setLink k v).otp = s.otp := rfl
@[simp] theorem State.setLink_gpioPad (s : State) (k : Nat) (v : LinkS) : (s.setLink k v).gpioPad = s.gpioPad := rfl
@[simp] theorem State.setLink_lkWake (s : State) (k : Nat) (v : LinkS) : (s.setLink k v).lkWake = s.lkWake := rfl
@[simp] theorem State.setLink_lkDrive (s : State) (k : Nat) (v : LinkS) : (s.setLink k v).lkDrive = s.lkDrive := rfl
@[simp] theorem State.setLink_rung (s : State) (k : Nat) (v : LinkS) : (s.setLink k v).rung = s.rung := rfl
@[simp] theorem State.setLink_wake (s : State) (k : Nat) (v : LinkS) : (s.setLink k v).wake = s.wake := rfl
@[simp] theorem State.setLink_core (s : State) (k : Nat) (v : LinkS) : (s.setLink k v).core = s.core := rfl
@[simp] theorem State.setLink_bank (s : State) (k : Nat) (v : LinkS) : (s.setLink k v).bank = s.bank := rfl
@[simp] theorem State.setLink_lock (s : State) (k : Nat) (v : LinkS) : (s.setLink k v).lock = s.lock := rfl
@[simp] theorem State.setLink_tide (s : State) (k : Nat) (v : LinkS) : (s.setLink k v).tide = s.tide := rfl
@[simp] theorem State.setLink_snap (s : State) (k : Nat) (v : LinkS) : (s.setLink k v).snap = s.snap := rfl
@[simp] theorem State.setLink_vsrc (s : State) (k : Nat) (v : LinkS) : (s.setLink k v).vsrc = s.vsrc := rfl
@[simp] theorem State.setLink_doze (s : State) (k : Nat) (v : LinkS) : (s.setLink k v).doze = s.doze := rfl
@[simp] theorem State.setLink_devRst (s : State) (k : Nat) (v : LinkS) : (s.setLink k v).devRst = s.devRst := rfl
@[simp] theorem State.setLink_scrub (s : State) (k : Nat) (v : LinkS) : (s.setLink k v).scrub = s.scrub := rfl
@[simp] theorem State.setLink_pps (s : State) (k : Nat) (v : LinkS) : (s.setLink k v).pps = s.pps := rfl
@[simp] theorem State.setLink_pwr (s : State) (k : Nat) (v : LinkS) : (s.setLink k v).pwr = s.pwr := rfl
@[simp] theorem State.setLink_txs (s : State) (k : Nat) (v : LinkS) : (s.setLink k v).txs = s.txs := rfl
@[simp] theorem State.setLink_win (s : State) (k : Nat) (v : LinkS) : (s.setLink k v).win = s.win := rfl
@[simp] theorem State.setLink_lku (s : State) (k : Nat) (v : LinkS) : (s.setLink k v).lku = s.lku := rfl
@[simp] theorem State.setLink_gt (s : State) (k : Nat) (v : LinkS) : (s.setLink k v).gt = s.gt := rfl
@[simp] theorem State.setLink_boot (s : State) (k : Nat) (v : LinkS) : (s.setLink k v).boot = s.boot := rfl
@[simp] theorem State.setLink_graft (s : State) (k : Nat) (v : LinkS) : (s.setLink k v).graft = s.graft := rfl
@[simp] theorem State.setLink_ku (s : State) (k : Nat) (v : LinkS) : (s.setLink k v).ku = s.ku := rfl
@[simp] theorem State.setLink_dbg (s : State) (k : Nat) (v : LinkS) : (s.setLink k v).dbg = s.dbg := rfl
@[simp] theorem State.setLink_smb (s : State) (k : Nat) (v : LinkS) : (s.setLink k v).smb = s.smb := rfl
@[simp] theorem State.setLink_spi (s : State) (k : Nat) (v : LinkS) : (s.setLink k v).spi = s.spi := rfl
@[simp] theorem State.setLink_pending (s : State) (k : Nat) (v : LinkS) : (s.setLink k v).pending = s.pending := rfl
@[simp] theorem State.setLink_out (s : State) (k : Nat) (v : LinkS) : (s.setLink k v).out = s.out := rfl
@[simp] theorem State.setLink_free (s : State) (k : Nat) (v : LinkS) : (s.setLink k v).free = s.free := rfl
@[simp] theorem State.setTxs_txsOf (s : State) (k : Nat) (v : TxS) : (s.setTxs k v).txsOf k = v := Store.get_set_same _ _ _ _
theorem State.setTxs_txsOf_ne (s : State) {j k : Nat} (v : TxS) (h : k ≠ j) : (s.setTxs j v).txsOf k = s.txsOf k := Store.get_set_ne _ _ _ h
@[simp] theorem State.setTxs_now (s : State) (k : Nat) (v : TxS) : (s.setTxs k v).now = s.now := rfl
@[simp] theorem State.setTxs_regs (s : State) (k : Nat) (v : TxS) : (s.setTxs k v).regs = s.regs := rfl
@[simp] theorem State.setTxs_written (s : State) (k : Nat) (v : TxS) : (s.setTxs k v).written = s.written := rfl
@[simp] theorem State.setTxs_hw (s : State) (k : Nat) (v : TxS) : (s.setTxs k v).hw = s.hw := rfl
@[simp] theorem State.setTxs_ich (s : State) (k : Nat) (v : TxS) : (s.setTxs k v).ich = s.ich := rfl
@[simp] theorem State.setTxs_wc (s : State) (k : Nat) (v : TxS) : (s.setTxs k v).wc = s.wc := rfl
@[simp] theorem State.setTxs_calDue (s : State) (k : Nat) (v : TxS) : (s.setTxs k v).calDue = s.calDue := rfl
@[simp] theorem State.setTxs_berth (s : State) (k : Nat) (v : TxS) : (s.setTxs k v).berth = s.berth := rfl
@[simp] theorem State.setTxs_armed (s : State) (k : Nat) (v : TxS) : (s.setTxs k v).armed = s.armed := rfl
@[simp] theorem State.setTxs_admq (s : State) (k : Nat) (v : TxS) : (s.setTxs k v).admq = s.admq := rfl
@[simp] theorem State.setTxs_crane (s : State) (k : Nat) (v : TxS) : (s.setTxs k v).crane = s.crane := rfl
@[simp] theorem State.setTxs_rounds (s : State) (k : Nat) (v : TxS) : (s.setTxs k v).rounds = s.rounds := rfl
@[simp] theorem State.setTxs_bstore (s : State) (k : Nat) (v : TxS) : (s.setTxs k v).bstore = s.bstore := rfl
@[simp] theorem State.setTxs_bstoreAt (s : State) (k : Nat) (v : TxS) : (s.setTxs k v).bstoreAt = s.bstoreAt := rfl
@[simp] theorem State.setTxs_bram (s : State) (k : Nat) (v : TxS) : (s.setTxs k v).bram = s.bram := rfl
@[simp] theorem State.setTxs_engW (s : State) (k : Nat) (v : TxS) : (s.setTxs k v).engW = s.engW := rfl
@[simp] theorem State.setTxs_cu (s : State) (k : Nat) (v : TxS) : (s.setTxs k v).cu = s.cu := rfl
@[simp] theorem State.setTxs_sram (s : State) (k : Nat) (v : TxS) : (s.setTxs k v).sram = s.sram := rfl
@[simp] theorem State.setTxs_logAt (s : State) (k : Nat) (v : TxS) : (s.setTxs k v).logAt = s.logAt := rfl
@[simp] theorem State.setTxs_tz (s : State) (k : Nat) (v : TxS) : (s.setTxs k v).tz = s.tz := rfl
@[simp] theorem State.setTxs_tripPin (s : State) (k : Nat) (v : TxS) : (s.setTxs k v).tripPin = s.tripPin := rfl
@[simp] theorem State.setTxs_tb (s : State) (k : Nat) (v : TxS) : (s.setTxs k v).tb = s.tb := rfl
@[simp] theorem State.setTxs_tbLatch (s : State) (k : Nat) (v : TxS) : (s.setTxs k v).tbLatch = s.tbLatch := rfl
@[simp] theorem State.setTxs_srcAt (s : State) (k : Nat) (v : TxS) : (s.setTxs k v).srcAt = s.srcAt := rfl
@[simp] theorem State.setTxs_ev (s : State) (k : Nat) (v : TxS) : (s.setTxs k v).ev = s.ev := rfl
@[simp] theorem State.setTxs_lc (s : State) (k : Nat) (v : TxS) : (s.setTxs k v).lc = s.lc := rfl
@[simp] theorem State.setTxs_divAt (s : State) (k : Nat) (v : TxS) : (s.setTxs k v).divAt = s.divAt := rfl
@[simp] theorem State.setTxs_sc (s : State) (k : Nat) (v : TxS) : (s.setTxs k v).sc = s.sc := rfl
@[simp] theorem State.setTxs_mt (s : State) (k : Nat) (v : TxS) : (s.setTxs k v).mt = s.mt := rfl
@[simp] theorem State.setTxs_mf (s : State) (k : Nat) (v : TxS) : (s.setTxs k v).mf = s.mf := rfl
@[simp] theorem State.setTxs_mfu (s : State) (k : Nat) (v : TxS) : (s.setTxs k v).mfu = s.mfu := rfl
@[simp] theorem State.setTxs_journal (s : State) (k : Nat) (v : TxS) : (s.setTxs k v).journal = s.journal := rfl
@[simp] theorem State.setTxs_fl (s : State) (k : Nat) (v : TxS) : (s.setTxs k v).fl = s.fl := rfl
@[simp] theorem State.setTxs_flash (s : State) (k : Nat) (v : TxS) : (s.setTxs k v).flash = s.flash := rfl
@[simp] theorem State.setTxs_flBlk (s : State) (k : Nat) (v : TxS) : (s.setTxs k v).flBlk = s.flBlk := rfl
@[simp] theorem State.setTxs_flWear (s : State) (k : Nat) (v : TxS) : (s.setTxs k v).flWear = s.flWear := rfl
@[simp] theorem State.setTxs_otp (s : State) (k : Nat) (v : TxS) : (s.setTxs k v).otp = s.otp := rfl
@[simp] theorem State.setTxs_gpioPad (s : State) (k : Nat) (v : TxS) : (s.setTxs k v).gpioPad = s.gpioPad := rfl
@[simp] theorem State.setTxs_lkWake (s : State) (k : Nat) (v : TxS) : (s.setTxs k v).lkWake = s.lkWake := rfl
@[simp] theorem State.setTxs_lkDrive (s : State) (k : Nat) (v : TxS) : (s.setTxs k v).lkDrive = s.lkDrive := rfl
@[simp] theorem State.setTxs_rung (s : State) (k : Nat) (v : TxS) : (s.setTxs k v).rung = s.rung := rfl
@[simp] theorem State.setTxs_wake (s : State) (k : Nat) (v : TxS) : (s.setTxs k v).wake = s.wake := rfl
@[simp] theorem State.setTxs_core (s : State) (k : Nat) (v : TxS) : (s.setTxs k v).core = s.core := rfl
@[simp] theorem State.setTxs_bank (s : State) (k : Nat) (v : TxS) : (s.setTxs k v).bank = s.bank := rfl
@[simp] theorem State.setTxs_lock (s : State) (k : Nat) (v : TxS) : (s.setTxs k v).lock = s.lock := rfl
@[simp] theorem State.setTxs_tide (s : State) (k : Nat) (v : TxS) : (s.setTxs k v).tide = s.tide := rfl
@[simp] theorem State.setTxs_snap (s : State) (k : Nat) (v : TxS) : (s.setTxs k v).snap = s.snap := rfl
@[simp] theorem State.setTxs_vsrc (s : State) (k : Nat) (v : TxS) : (s.setTxs k v).vsrc = s.vsrc := rfl
@[simp] theorem State.setTxs_doze (s : State) (k : Nat) (v : TxS) : (s.setTxs k v).doze = s.doze := rfl
@[simp] theorem State.setTxs_devRst (s : State) (k : Nat) (v : TxS) : (s.setTxs k v).devRst = s.devRst := rfl
@[simp] theorem State.setTxs_scrub (s : State) (k : Nat) (v : TxS) : (s.setTxs k v).scrub = s.scrub := rfl
@[simp] theorem State.setTxs_pps (s : State) (k : Nat) (v : TxS) : (s.setTxs k v).pps = s.pps := rfl
@[simp] theorem State.setTxs_pwr (s : State) (k : Nat) (v : TxS) : (s.setTxs k v).pwr = s.pwr := rfl
@[simp] theorem State.setTxs_link (s : State) (k : Nat) (v : TxS) : (s.setTxs k v).link = s.link := rfl
@[simp] theorem State.setTxs_win (s : State) (k : Nat) (v : TxS) : (s.setTxs k v).win = s.win := rfl
@[simp] theorem State.setTxs_lku (s : State) (k : Nat) (v : TxS) : (s.setTxs k v).lku = s.lku := rfl
@[simp] theorem State.setTxs_gt (s : State) (k : Nat) (v : TxS) : (s.setTxs k v).gt = s.gt := rfl
@[simp] theorem State.setTxs_boot (s : State) (k : Nat) (v : TxS) : (s.setTxs k v).boot = s.boot := rfl
@[simp] theorem State.setTxs_graft (s : State) (k : Nat) (v : TxS) : (s.setTxs k v).graft = s.graft := rfl
@[simp] theorem State.setTxs_ku (s : State) (k : Nat) (v : TxS) : (s.setTxs k v).ku = s.ku := rfl
@[simp] theorem State.setTxs_dbg (s : State) (k : Nat) (v : TxS) : (s.setTxs k v).dbg = s.dbg := rfl
@[simp] theorem State.setTxs_smb (s : State) (k : Nat) (v : TxS) : (s.setTxs k v).smb = s.smb := rfl
@[simp] theorem State.setTxs_spi (s : State) (k : Nat) (v : TxS) : (s.setTxs k v).spi = s.spi := rfl
@[simp] theorem State.setTxs_pending (s : State) (k : Nat) (v : TxS) : (s.setTxs k v).pending = s.pending := rfl
@[simp] theorem State.setTxs_out (s : State) (k : Nat) (v : TxS) : (s.setTxs k v).out = s.out := rfl
@[simp] theorem State.setTxs_free (s : State) (k : Nat) (v : TxS) : (s.setTxs k v).free = s.free := rfl
@[simp] theorem State.setWin_winOf (s : State) (k : Nat) (v : WinS) : (s.setWin k v).winOf k = v := Store.get_set_same _ _ _ _
theorem State.setWin_winOf_ne (s : State) {j k : Nat} (v : WinS) (h : k ≠ j) : (s.setWin j v).winOf k = s.winOf k := Store.get_set_ne _ _ _ h
@[simp] theorem State.setWin_now (s : State) (k : Nat) (v : WinS) : (s.setWin k v).now = s.now := rfl
@[simp] theorem State.setWin_regs (s : State) (k : Nat) (v : WinS) : (s.setWin k v).regs = s.regs := rfl
@[simp] theorem State.setWin_written (s : State) (k : Nat) (v : WinS) : (s.setWin k v).written = s.written := rfl
@[simp] theorem State.setWin_hw (s : State) (k : Nat) (v : WinS) : (s.setWin k v).hw = s.hw := rfl
@[simp] theorem State.setWin_ich (s : State) (k : Nat) (v : WinS) : (s.setWin k v).ich = s.ich := rfl
@[simp] theorem State.setWin_wc (s : State) (k : Nat) (v : WinS) : (s.setWin k v).wc = s.wc := rfl
@[simp] theorem State.setWin_calDue (s : State) (k : Nat) (v : WinS) : (s.setWin k v).calDue = s.calDue := rfl
@[simp] theorem State.setWin_berth (s : State) (k : Nat) (v : WinS) : (s.setWin k v).berth = s.berth := rfl
@[simp] theorem State.setWin_armed (s : State) (k : Nat) (v : WinS) : (s.setWin k v).armed = s.armed := rfl
@[simp] theorem State.setWin_admq (s : State) (k : Nat) (v : WinS) : (s.setWin k v).admq = s.admq := rfl
@[simp] theorem State.setWin_crane (s : State) (k : Nat) (v : WinS) : (s.setWin k v).crane = s.crane := rfl
@[simp] theorem State.setWin_rounds (s : State) (k : Nat) (v : WinS) : (s.setWin k v).rounds = s.rounds := rfl
@[simp] theorem State.setWin_bstore (s : State) (k : Nat) (v : WinS) : (s.setWin k v).bstore = s.bstore := rfl
@[simp] theorem State.setWin_bstoreAt (s : State) (k : Nat) (v : WinS) : (s.setWin k v).bstoreAt = s.bstoreAt := rfl
@[simp] theorem State.setWin_bram (s : State) (k : Nat) (v : WinS) : (s.setWin k v).bram = s.bram := rfl
@[simp] theorem State.setWin_engW (s : State) (k : Nat) (v : WinS) : (s.setWin k v).engW = s.engW := rfl
@[simp] theorem State.setWin_cu (s : State) (k : Nat) (v : WinS) : (s.setWin k v).cu = s.cu := rfl
@[simp] theorem State.setWin_sram (s : State) (k : Nat) (v : WinS) : (s.setWin k v).sram = s.sram := rfl
@[simp] theorem State.setWin_logAt (s : State) (k : Nat) (v : WinS) : (s.setWin k v).logAt = s.logAt := rfl
@[simp] theorem State.setWin_tz (s : State) (k : Nat) (v : WinS) : (s.setWin k v).tz = s.tz := rfl
@[simp] theorem State.setWin_tripPin (s : State) (k : Nat) (v : WinS) : (s.setWin k v).tripPin = s.tripPin := rfl
@[simp] theorem State.setWin_tb (s : State) (k : Nat) (v : WinS) : (s.setWin k v).tb = s.tb := rfl
@[simp] theorem State.setWin_tbLatch (s : State) (k : Nat) (v : WinS) : (s.setWin k v).tbLatch = s.tbLatch := rfl
@[simp] theorem State.setWin_srcAt (s : State) (k : Nat) (v : WinS) : (s.setWin k v).srcAt = s.srcAt := rfl
@[simp] theorem State.setWin_ev (s : State) (k : Nat) (v : WinS) : (s.setWin k v).ev = s.ev := rfl
@[simp] theorem State.setWin_lc (s : State) (k : Nat) (v : WinS) : (s.setWin k v).lc = s.lc := rfl
@[simp] theorem State.setWin_divAt (s : State) (k : Nat) (v : WinS) : (s.setWin k v).divAt = s.divAt := rfl
@[simp] theorem State.setWin_sc (s : State) (k : Nat) (v : WinS) : (s.setWin k v).sc = s.sc := rfl
@[simp] theorem State.setWin_mt (s : State) (k : Nat) (v : WinS) : (s.setWin k v).mt = s.mt := rfl
@[simp] theorem State.setWin_mf (s : State) (k : Nat) (v : WinS) : (s.setWin k v).mf = s.mf := rfl
@[simp] theorem State.setWin_mfu (s : State) (k : Nat) (v : WinS) : (s.setWin k v).mfu = s.mfu := rfl
@[simp] theorem State.setWin_journal (s : State) (k : Nat) (v : WinS) : (s.setWin k v).journal = s.journal := rfl
@[simp] theorem State.setWin_fl (s : State) (k : Nat) (v : WinS) : (s.setWin k v).fl = s.fl := rfl
@[simp] theorem State.setWin_flash (s : State) (k : Nat) (v : WinS) : (s.setWin k v).flash = s.flash := rfl
@[simp] theorem State.setWin_flBlk (s : State) (k : Nat) (v : WinS) : (s.setWin k v).flBlk = s.flBlk := rfl
@[simp] theorem State.setWin_flWear (s : State) (k : Nat) (v : WinS) : (s.setWin k v).flWear = s.flWear := rfl
@[simp] theorem State.setWin_otp (s : State) (k : Nat) (v : WinS) : (s.setWin k v).otp = s.otp := rfl
@[simp] theorem State.setWin_gpioPad (s : State) (k : Nat) (v : WinS) : (s.setWin k v).gpioPad = s.gpioPad := rfl
@[simp] theorem State.setWin_lkWake (s : State) (k : Nat) (v : WinS) : (s.setWin k v).lkWake = s.lkWake := rfl
@[simp] theorem State.setWin_lkDrive (s : State) (k : Nat) (v : WinS) : (s.setWin k v).lkDrive = s.lkDrive := rfl
@[simp] theorem State.setWin_rung (s : State) (k : Nat) (v : WinS) : (s.setWin k v).rung = s.rung := rfl
@[simp] theorem State.setWin_wake (s : State) (k : Nat) (v : WinS) : (s.setWin k v).wake = s.wake := rfl
@[simp] theorem State.setWin_core (s : State) (k : Nat) (v : WinS) : (s.setWin k v).core = s.core := rfl
@[simp] theorem State.setWin_bank (s : State) (k : Nat) (v : WinS) : (s.setWin k v).bank = s.bank := rfl
@[simp] theorem State.setWin_lock (s : State) (k : Nat) (v : WinS) : (s.setWin k v).lock = s.lock := rfl
@[simp] theorem State.setWin_tide (s : State) (k : Nat) (v : WinS) : (s.setWin k v).tide = s.tide := rfl
@[simp] theorem State.setWin_snap (s : State) (k : Nat) (v : WinS) : (s.setWin k v).snap = s.snap := rfl
@[simp] theorem State.setWin_vsrc (s : State) (k : Nat) (v : WinS) : (s.setWin k v).vsrc = s.vsrc := rfl
@[simp] theorem State.setWin_doze (s : State) (k : Nat) (v : WinS) : (s.setWin k v).doze = s.doze := rfl
@[simp] theorem State.setWin_devRst (s : State) (k : Nat) (v : WinS) : (s.setWin k v).devRst = s.devRst := rfl
@[simp] theorem State.setWin_scrub (s : State) (k : Nat) (v : WinS) : (s.setWin k v).scrub = s.scrub := rfl
@[simp] theorem State.setWin_pps (s : State) (k : Nat) (v : WinS) : (s.setWin k v).pps = s.pps := rfl
@[simp] theorem State.setWin_pwr (s : State) (k : Nat) (v : WinS) : (s.setWin k v).pwr = s.pwr := rfl
@[simp] theorem State.setWin_link (s : State) (k : Nat) (v : WinS) : (s.setWin k v).link = s.link := rfl
@[simp] theorem State.setWin_txs (s : State) (k : Nat) (v : WinS) : (s.setWin k v).txs = s.txs := rfl
@[simp] theorem State.setWin_lku (s : State) (k : Nat) (v : WinS) : (s.setWin k v).lku = s.lku := rfl
@[simp] theorem State.setWin_gt (s : State) (k : Nat) (v : WinS) : (s.setWin k v).gt = s.gt := rfl
@[simp] theorem State.setWin_boot (s : State) (k : Nat) (v : WinS) : (s.setWin k v).boot = s.boot := rfl
@[simp] theorem State.setWin_graft (s : State) (k : Nat) (v : WinS) : (s.setWin k v).graft = s.graft := rfl
@[simp] theorem State.setWin_ku (s : State) (k : Nat) (v : WinS) : (s.setWin k v).ku = s.ku := rfl
@[simp] theorem State.setWin_dbg (s : State) (k : Nat) (v : WinS) : (s.setWin k v).dbg = s.dbg := rfl
@[simp] theorem State.setWin_smb (s : State) (k : Nat) (v : WinS) : (s.setWin k v).smb = s.smb := rfl
@[simp] theorem State.setWin_spi (s : State) (k : Nat) (v : WinS) : (s.setWin k v).spi = s.spi := rfl
@[simp] theorem State.setWin_pending (s : State) (k : Nat) (v : WinS) : (s.setWin k v).pending = s.pending := rfl
@[simp] theorem State.setWin_out (s : State) (k : Nat) (v : WinS) : (s.setWin k v).out = s.out := rfl
@[simp] theorem State.setWin_free (s : State) (k : Nat) (v : WinS) : (s.setWin k v).free = s.free := rfl
@[simp] theorem State.setGraft_graftOf (s : State) (k : Nat) (v : (BitVec 36)) : (s.setGraft k v).graftOf k = v := Store.get_set_same _ _ _ _
theorem State.setGraft_graftOf_ne (s : State) {j k : Nat} (v : (BitVec 36)) (h : k ≠ j) : (s.setGraft j v).graftOf k = s.graftOf k := Store.get_set_ne _ _ _ h
@[simp] theorem State.setGraft_now (s : State) (k : Nat) (v : (BitVec 36)) : (s.setGraft k v).now = s.now := rfl
@[simp] theorem State.setGraft_regs (s : State) (k : Nat) (v : (BitVec 36)) : (s.setGraft k v).regs = s.regs := rfl
@[simp] theorem State.setGraft_written (s : State) (k : Nat) (v : (BitVec 36)) : (s.setGraft k v).written = s.written := rfl
@[simp] theorem State.setGraft_hw (s : State) (k : Nat) (v : (BitVec 36)) : (s.setGraft k v).hw = s.hw := rfl
@[simp] theorem State.setGraft_ich (s : State) (k : Nat) (v : (BitVec 36)) : (s.setGraft k v).ich = s.ich := rfl
@[simp] theorem State.setGraft_wc (s : State) (k : Nat) (v : (BitVec 36)) : (s.setGraft k v).wc = s.wc := rfl
@[simp] theorem State.setGraft_calDue (s : State) (k : Nat) (v : (BitVec 36)) : (s.setGraft k v).calDue = s.calDue := rfl
@[simp] theorem State.setGraft_berth (s : State) (k : Nat) (v : (BitVec 36)) : (s.setGraft k v).berth = s.berth := rfl
@[simp] theorem State.setGraft_armed (s : State) (k : Nat) (v : (BitVec 36)) : (s.setGraft k v).armed = s.armed := rfl
@[simp] theorem State.setGraft_admq (s : State) (k : Nat) (v : (BitVec 36)) : (s.setGraft k v).admq = s.admq := rfl
@[simp] theorem State.setGraft_crane (s : State) (k : Nat) (v : (BitVec 36)) : (s.setGraft k v).crane = s.crane := rfl
@[simp] theorem State.setGraft_rounds (s : State) (k : Nat) (v : (BitVec 36)) : (s.setGraft k v).rounds = s.rounds := rfl
@[simp] theorem State.setGraft_bstore (s : State) (k : Nat) (v : (BitVec 36)) : (s.setGraft k v).bstore = s.bstore := rfl
@[simp] theorem State.setGraft_bstoreAt (s : State) (k : Nat) (v : (BitVec 36)) : (s.setGraft k v).bstoreAt = s.bstoreAt := rfl
@[simp] theorem State.setGraft_bram (s : State) (k : Nat) (v : (BitVec 36)) : (s.setGraft k v).bram = s.bram := rfl
@[simp] theorem State.setGraft_engW (s : State) (k : Nat) (v : (BitVec 36)) : (s.setGraft k v).engW = s.engW := rfl
@[simp] theorem State.setGraft_cu (s : State) (k : Nat) (v : (BitVec 36)) : (s.setGraft k v).cu = s.cu := rfl
@[simp] theorem State.setGraft_sram (s : State) (k : Nat) (v : (BitVec 36)) : (s.setGraft k v).sram = s.sram := rfl
@[simp] theorem State.setGraft_logAt (s : State) (k : Nat) (v : (BitVec 36)) : (s.setGraft k v).logAt = s.logAt := rfl
@[simp] theorem State.setGraft_tz (s : State) (k : Nat) (v : (BitVec 36)) : (s.setGraft k v).tz = s.tz := rfl
@[simp] theorem State.setGraft_tripPin (s : State) (k : Nat) (v : (BitVec 36)) : (s.setGraft k v).tripPin = s.tripPin := rfl
@[simp] theorem State.setGraft_tb (s : State) (k : Nat) (v : (BitVec 36)) : (s.setGraft k v).tb = s.tb := rfl
@[simp] theorem State.setGraft_tbLatch (s : State) (k : Nat) (v : (BitVec 36)) : (s.setGraft k v).tbLatch = s.tbLatch := rfl
@[simp] theorem State.setGraft_srcAt (s : State) (k : Nat) (v : (BitVec 36)) : (s.setGraft k v).srcAt = s.srcAt := rfl
@[simp] theorem State.setGraft_ev (s : State) (k : Nat) (v : (BitVec 36)) : (s.setGraft k v).ev = s.ev := rfl
@[simp] theorem State.setGraft_lc (s : State) (k : Nat) (v : (BitVec 36)) : (s.setGraft k v).lc = s.lc := rfl
@[simp] theorem State.setGraft_divAt (s : State) (k : Nat) (v : (BitVec 36)) : (s.setGraft k v).divAt = s.divAt := rfl
@[simp] theorem State.setGraft_sc (s : State) (k : Nat) (v : (BitVec 36)) : (s.setGraft k v).sc = s.sc := rfl
@[simp] theorem State.setGraft_mt (s : State) (k : Nat) (v : (BitVec 36)) : (s.setGraft k v).mt = s.mt := rfl
@[simp] theorem State.setGraft_mf (s : State) (k : Nat) (v : (BitVec 36)) : (s.setGraft k v).mf = s.mf := rfl
@[simp] theorem State.setGraft_mfu (s : State) (k : Nat) (v : (BitVec 36)) : (s.setGraft k v).mfu = s.mfu := rfl
@[simp] theorem State.setGraft_journal (s : State) (k : Nat) (v : (BitVec 36)) : (s.setGraft k v).journal = s.journal := rfl
@[simp] theorem State.setGraft_fl (s : State) (k : Nat) (v : (BitVec 36)) : (s.setGraft k v).fl = s.fl := rfl
@[simp] theorem State.setGraft_flash (s : State) (k : Nat) (v : (BitVec 36)) : (s.setGraft k v).flash = s.flash := rfl
@[simp] theorem State.setGraft_flBlk (s : State) (k : Nat) (v : (BitVec 36)) : (s.setGraft k v).flBlk = s.flBlk := rfl
@[simp] theorem State.setGraft_flWear (s : State) (k : Nat) (v : (BitVec 36)) : (s.setGraft k v).flWear = s.flWear := rfl
@[simp] theorem State.setGraft_otp (s : State) (k : Nat) (v : (BitVec 36)) : (s.setGraft k v).otp = s.otp := rfl
@[simp] theorem State.setGraft_gpioPad (s : State) (k : Nat) (v : (BitVec 36)) : (s.setGraft k v).gpioPad = s.gpioPad := rfl
@[simp] theorem State.setGraft_lkWake (s : State) (k : Nat) (v : (BitVec 36)) : (s.setGraft k v).lkWake = s.lkWake := rfl
@[simp] theorem State.setGraft_lkDrive (s : State) (k : Nat) (v : (BitVec 36)) : (s.setGraft k v).lkDrive = s.lkDrive := rfl
@[simp] theorem State.setGraft_rung (s : State) (k : Nat) (v : (BitVec 36)) : (s.setGraft k v).rung = s.rung := rfl
@[simp] theorem State.setGraft_wake (s : State) (k : Nat) (v : (BitVec 36)) : (s.setGraft k v).wake = s.wake := rfl
@[simp] theorem State.setGraft_core (s : State) (k : Nat) (v : (BitVec 36)) : (s.setGraft k v).core = s.core := rfl
@[simp] theorem State.setGraft_bank (s : State) (k : Nat) (v : (BitVec 36)) : (s.setGraft k v).bank = s.bank := rfl
@[simp] theorem State.setGraft_lock (s : State) (k : Nat) (v : (BitVec 36)) : (s.setGraft k v).lock = s.lock := rfl
@[simp] theorem State.setGraft_tide (s : State) (k : Nat) (v : (BitVec 36)) : (s.setGraft k v).tide = s.tide := rfl
@[simp] theorem State.setGraft_snap (s : State) (k : Nat) (v : (BitVec 36)) : (s.setGraft k v).snap = s.snap := rfl
@[simp] theorem State.setGraft_vsrc (s : State) (k : Nat) (v : (BitVec 36)) : (s.setGraft k v).vsrc = s.vsrc := rfl
@[simp] theorem State.setGraft_doze (s : State) (k : Nat) (v : (BitVec 36)) : (s.setGraft k v).doze = s.doze := rfl
@[simp] theorem State.setGraft_devRst (s : State) (k : Nat) (v : (BitVec 36)) : (s.setGraft k v).devRst = s.devRst := rfl
@[simp] theorem State.setGraft_scrub (s : State) (k : Nat) (v : (BitVec 36)) : (s.setGraft k v).scrub = s.scrub := rfl
@[simp] theorem State.setGraft_pps (s : State) (k : Nat) (v : (BitVec 36)) : (s.setGraft k v).pps = s.pps := rfl
@[simp] theorem State.setGraft_pwr (s : State) (k : Nat) (v : (BitVec 36)) : (s.setGraft k v).pwr = s.pwr := rfl
@[simp] theorem State.setGraft_link (s : State) (k : Nat) (v : (BitVec 36)) : (s.setGraft k v).link = s.link := rfl
@[simp] theorem State.setGraft_txs (s : State) (k : Nat) (v : (BitVec 36)) : (s.setGraft k v).txs = s.txs := rfl
@[simp] theorem State.setGraft_win (s : State) (k : Nat) (v : (BitVec 36)) : (s.setGraft k v).win = s.win := rfl
@[simp] theorem State.setGraft_lku (s : State) (k : Nat) (v : (BitVec 36)) : (s.setGraft k v).lku = s.lku := rfl
@[simp] theorem State.setGraft_gt (s : State) (k : Nat) (v : (BitVec 36)) : (s.setGraft k v).gt = s.gt := rfl
@[simp] theorem State.setGraft_boot (s : State) (k : Nat) (v : (BitVec 36)) : (s.setGraft k v).boot = s.boot := rfl
@[simp] theorem State.setGraft_ku (s : State) (k : Nat) (v : (BitVec 36)) : (s.setGraft k v).ku = s.ku := rfl
@[simp] theorem State.setGraft_dbg (s : State) (k : Nat) (v : (BitVec 36)) : (s.setGraft k v).dbg = s.dbg := rfl
@[simp] theorem State.setGraft_smb (s : State) (k : Nat) (v : (BitVec 36)) : (s.setGraft k v).smb = s.smb := rfl
@[simp] theorem State.setGraft_spi (s : State) (k : Nat) (v : (BitVec 36)) : (s.setGraft k v).spi = s.spi := rfl
@[simp] theorem State.setGraft_pending (s : State) (k : Nat) (v : (BitVec 36)) : (s.setGraft k v).pending = s.pending := rfl
@[simp] theorem State.setGraft_out (s : State) (k : Nat) (v : (BitVec 36)) : (s.setGraft k v).out = s.out := rfl
@[simp] theorem State.setGraft_free (s : State) (k : Nat) (v : (BitVec 36)) : (s.setGraft k v).free = s.free := rfl
@[simp] theorem State.setSmb_smbOf (s : State) (k : Nat) (v : SmbS) : (s.setSmb k v).smbOf k = v := Store.get_set_same _ _ _ _
theorem State.setSmb_smbOf_ne (s : State) {j k : Nat} (v : SmbS) (h : k ≠ j) : (s.setSmb j v).smbOf k = s.smbOf k := Store.get_set_ne _ _ _ h
@[simp] theorem State.setSmb_now (s : State) (k : Nat) (v : SmbS) : (s.setSmb k v).now = s.now := rfl
@[simp] theorem State.setSmb_regs (s : State) (k : Nat) (v : SmbS) : (s.setSmb k v).regs = s.regs := rfl
@[simp] theorem State.setSmb_written (s : State) (k : Nat) (v : SmbS) : (s.setSmb k v).written = s.written := rfl
@[simp] theorem State.setSmb_hw (s : State) (k : Nat) (v : SmbS) : (s.setSmb k v).hw = s.hw := rfl
@[simp] theorem State.setSmb_ich (s : State) (k : Nat) (v : SmbS) : (s.setSmb k v).ich = s.ich := rfl
@[simp] theorem State.setSmb_wc (s : State) (k : Nat) (v : SmbS) : (s.setSmb k v).wc = s.wc := rfl
@[simp] theorem State.setSmb_calDue (s : State) (k : Nat) (v : SmbS) : (s.setSmb k v).calDue = s.calDue := rfl
@[simp] theorem State.setSmb_berth (s : State) (k : Nat) (v : SmbS) : (s.setSmb k v).berth = s.berth := rfl
@[simp] theorem State.setSmb_armed (s : State) (k : Nat) (v : SmbS) : (s.setSmb k v).armed = s.armed := rfl
@[simp] theorem State.setSmb_admq (s : State) (k : Nat) (v : SmbS) : (s.setSmb k v).admq = s.admq := rfl
@[simp] theorem State.setSmb_crane (s : State) (k : Nat) (v : SmbS) : (s.setSmb k v).crane = s.crane := rfl
@[simp] theorem State.setSmb_rounds (s : State) (k : Nat) (v : SmbS) : (s.setSmb k v).rounds = s.rounds := rfl
@[simp] theorem State.setSmb_bstore (s : State) (k : Nat) (v : SmbS) : (s.setSmb k v).bstore = s.bstore := rfl
@[simp] theorem State.setSmb_bstoreAt (s : State) (k : Nat) (v : SmbS) : (s.setSmb k v).bstoreAt = s.bstoreAt := rfl
@[simp] theorem State.setSmb_bram (s : State) (k : Nat) (v : SmbS) : (s.setSmb k v).bram = s.bram := rfl
@[simp] theorem State.setSmb_engW (s : State) (k : Nat) (v : SmbS) : (s.setSmb k v).engW = s.engW := rfl
@[simp] theorem State.setSmb_cu (s : State) (k : Nat) (v : SmbS) : (s.setSmb k v).cu = s.cu := rfl
@[simp] theorem State.setSmb_sram (s : State) (k : Nat) (v : SmbS) : (s.setSmb k v).sram = s.sram := rfl
@[simp] theorem State.setSmb_logAt (s : State) (k : Nat) (v : SmbS) : (s.setSmb k v).logAt = s.logAt := rfl
@[simp] theorem State.setSmb_tz (s : State) (k : Nat) (v : SmbS) : (s.setSmb k v).tz = s.tz := rfl
@[simp] theorem State.setSmb_tripPin (s : State) (k : Nat) (v : SmbS) : (s.setSmb k v).tripPin = s.tripPin := rfl
@[simp] theorem State.setSmb_tb (s : State) (k : Nat) (v : SmbS) : (s.setSmb k v).tb = s.tb := rfl
@[simp] theorem State.setSmb_tbLatch (s : State) (k : Nat) (v : SmbS) : (s.setSmb k v).tbLatch = s.tbLatch := rfl
@[simp] theorem State.setSmb_srcAt (s : State) (k : Nat) (v : SmbS) : (s.setSmb k v).srcAt = s.srcAt := rfl
@[simp] theorem State.setSmb_ev (s : State) (k : Nat) (v : SmbS) : (s.setSmb k v).ev = s.ev := rfl
@[simp] theorem State.setSmb_lc (s : State) (k : Nat) (v : SmbS) : (s.setSmb k v).lc = s.lc := rfl
@[simp] theorem State.setSmb_divAt (s : State) (k : Nat) (v : SmbS) : (s.setSmb k v).divAt = s.divAt := rfl
@[simp] theorem State.setSmb_sc (s : State) (k : Nat) (v : SmbS) : (s.setSmb k v).sc = s.sc := rfl
@[simp] theorem State.setSmb_mt (s : State) (k : Nat) (v : SmbS) : (s.setSmb k v).mt = s.mt := rfl
@[simp] theorem State.setSmb_mf (s : State) (k : Nat) (v : SmbS) : (s.setSmb k v).mf = s.mf := rfl
@[simp] theorem State.setSmb_mfu (s : State) (k : Nat) (v : SmbS) : (s.setSmb k v).mfu = s.mfu := rfl
@[simp] theorem State.setSmb_journal (s : State) (k : Nat) (v : SmbS) : (s.setSmb k v).journal = s.journal := rfl
@[simp] theorem State.setSmb_fl (s : State) (k : Nat) (v : SmbS) : (s.setSmb k v).fl = s.fl := rfl
@[simp] theorem State.setSmb_flash (s : State) (k : Nat) (v : SmbS) : (s.setSmb k v).flash = s.flash := rfl
@[simp] theorem State.setSmb_flBlk (s : State) (k : Nat) (v : SmbS) : (s.setSmb k v).flBlk = s.flBlk := rfl
@[simp] theorem State.setSmb_flWear (s : State) (k : Nat) (v : SmbS) : (s.setSmb k v).flWear = s.flWear := rfl
@[simp] theorem State.setSmb_otp (s : State) (k : Nat) (v : SmbS) : (s.setSmb k v).otp = s.otp := rfl
@[simp] theorem State.setSmb_gpioPad (s : State) (k : Nat) (v : SmbS) : (s.setSmb k v).gpioPad = s.gpioPad := rfl
@[simp] theorem State.setSmb_lkWake (s : State) (k : Nat) (v : SmbS) : (s.setSmb k v).lkWake = s.lkWake := rfl
@[simp] theorem State.setSmb_lkDrive (s : State) (k : Nat) (v : SmbS) : (s.setSmb k v).lkDrive = s.lkDrive := rfl
@[simp] theorem State.setSmb_rung (s : State) (k : Nat) (v : SmbS) : (s.setSmb k v).rung = s.rung := rfl
@[simp] theorem State.setSmb_wake (s : State) (k : Nat) (v : SmbS) : (s.setSmb k v).wake = s.wake := rfl
@[simp] theorem State.setSmb_core (s : State) (k : Nat) (v : SmbS) : (s.setSmb k v).core = s.core := rfl
@[simp] theorem State.setSmb_bank (s : State) (k : Nat) (v : SmbS) : (s.setSmb k v).bank = s.bank := rfl
@[simp] theorem State.setSmb_lock (s : State) (k : Nat) (v : SmbS) : (s.setSmb k v).lock = s.lock := rfl
@[simp] theorem State.setSmb_tide (s : State) (k : Nat) (v : SmbS) : (s.setSmb k v).tide = s.tide := rfl
@[simp] theorem State.setSmb_snap (s : State) (k : Nat) (v : SmbS) : (s.setSmb k v).snap = s.snap := rfl
@[simp] theorem State.setSmb_vsrc (s : State) (k : Nat) (v : SmbS) : (s.setSmb k v).vsrc = s.vsrc := rfl
@[simp] theorem State.setSmb_doze (s : State) (k : Nat) (v : SmbS) : (s.setSmb k v).doze = s.doze := rfl
@[simp] theorem State.setSmb_devRst (s : State) (k : Nat) (v : SmbS) : (s.setSmb k v).devRst = s.devRst := rfl
@[simp] theorem State.setSmb_scrub (s : State) (k : Nat) (v : SmbS) : (s.setSmb k v).scrub = s.scrub := rfl
@[simp] theorem State.setSmb_pps (s : State) (k : Nat) (v : SmbS) : (s.setSmb k v).pps = s.pps := rfl
@[simp] theorem State.setSmb_pwr (s : State) (k : Nat) (v : SmbS) : (s.setSmb k v).pwr = s.pwr := rfl
@[simp] theorem State.setSmb_link (s : State) (k : Nat) (v : SmbS) : (s.setSmb k v).link = s.link := rfl
@[simp] theorem State.setSmb_txs (s : State) (k : Nat) (v : SmbS) : (s.setSmb k v).txs = s.txs := rfl
@[simp] theorem State.setSmb_win (s : State) (k : Nat) (v : SmbS) : (s.setSmb k v).win = s.win := rfl
@[simp] theorem State.setSmb_lku (s : State) (k : Nat) (v : SmbS) : (s.setSmb k v).lku = s.lku := rfl
@[simp] theorem State.setSmb_gt (s : State) (k : Nat) (v : SmbS) : (s.setSmb k v).gt = s.gt := rfl
@[simp] theorem State.setSmb_boot (s : State) (k : Nat) (v : SmbS) : (s.setSmb k v).boot = s.boot := rfl
@[simp] theorem State.setSmb_graft (s : State) (k : Nat) (v : SmbS) : (s.setSmb k v).graft = s.graft := rfl
@[simp] theorem State.setSmb_ku (s : State) (k : Nat) (v : SmbS) : (s.setSmb k v).ku = s.ku := rfl
@[simp] theorem State.setSmb_dbg (s : State) (k : Nat) (v : SmbS) : (s.setSmb k v).dbg = s.dbg := rfl
@[simp] theorem State.setSmb_spi (s : State) (k : Nat) (v : SmbS) : (s.setSmb k v).spi = s.spi := rfl
@[simp] theorem State.setSmb_pending (s : State) (k : Nat) (v : SmbS) : (s.setSmb k v).pending = s.pending := rfl
@[simp] theorem State.setSmb_out (s : State) (k : Nat) (v : SmbS) : (s.setSmb k v).out = s.out := rfl
@[simp] theorem State.setSmb_free (s : State) (k : Nat) (v : SmbS) : (s.setSmb k v).free = s.free := rfl
@[simp] theorem State.setSpi_spiOf (s : State) (k : Nat) (v : SpiS) : (s.setSpi k v).spiOf k = v := Store.get_set_same _ _ _ _
theorem State.setSpi_spiOf_ne (s : State) {j k : Nat} (v : SpiS) (h : k ≠ j) : (s.setSpi j v).spiOf k = s.spiOf k := Store.get_set_ne _ _ _ h
@[simp] theorem State.setSpi_now (s : State) (k : Nat) (v : SpiS) : (s.setSpi k v).now = s.now := rfl
@[simp] theorem State.setSpi_regs (s : State) (k : Nat) (v : SpiS) : (s.setSpi k v).regs = s.regs := rfl
@[simp] theorem State.setSpi_written (s : State) (k : Nat) (v : SpiS) : (s.setSpi k v).written = s.written := rfl
@[simp] theorem State.setSpi_hw (s : State) (k : Nat) (v : SpiS) : (s.setSpi k v).hw = s.hw := rfl
@[simp] theorem State.setSpi_ich (s : State) (k : Nat) (v : SpiS) : (s.setSpi k v).ich = s.ich := rfl
@[simp] theorem State.setSpi_wc (s : State) (k : Nat) (v : SpiS) : (s.setSpi k v).wc = s.wc := rfl
@[simp] theorem State.setSpi_calDue (s : State) (k : Nat) (v : SpiS) : (s.setSpi k v).calDue = s.calDue := rfl
@[simp] theorem State.setSpi_berth (s : State) (k : Nat) (v : SpiS) : (s.setSpi k v).berth = s.berth := rfl
@[simp] theorem State.setSpi_armed (s : State) (k : Nat) (v : SpiS) : (s.setSpi k v).armed = s.armed := rfl
@[simp] theorem State.setSpi_admq (s : State) (k : Nat) (v : SpiS) : (s.setSpi k v).admq = s.admq := rfl
@[simp] theorem State.setSpi_crane (s : State) (k : Nat) (v : SpiS) : (s.setSpi k v).crane = s.crane := rfl
@[simp] theorem State.setSpi_rounds (s : State) (k : Nat) (v : SpiS) : (s.setSpi k v).rounds = s.rounds := rfl
@[simp] theorem State.setSpi_bstore (s : State) (k : Nat) (v : SpiS) : (s.setSpi k v).bstore = s.bstore := rfl
@[simp] theorem State.setSpi_bstoreAt (s : State) (k : Nat) (v : SpiS) : (s.setSpi k v).bstoreAt = s.bstoreAt := rfl
@[simp] theorem State.setSpi_bram (s : State) (k : Nat) (v : SpiS) : (s.setSpi k v).bram = s.bram := rfl
@[simp] theorem State.setSpi_engW (s : State) (k : Nat) (v : SpiS) : (s.setSpi k v).engW = s.engW := rfl
@[simp] theorem State.setSpi_cu (s : State) (k : Nat) (v : SpiS) : (s.setSpi k v).cu = s.cu := rfl
@[simp] theorem State.setSpi_sram (s : State) (k : Nat) (v : SpiS) : (s.setSpi k v).sram = s.sram := rfl
@[simp] theorem State.setSpi_logAt (s : State) (k : Nat) (v : SpiS) : (s.setSpi k v).logAt = s.logAt := rfl
@[simp] theorem State.setSpi_tz (s : State) (k : Nat) (v : SpiS) : (s.setSpi k v).tz = s.tz := rfl
@[simp] theorem State.setSpi_tripPin (s : State) (k : Nat) (v : SpiS) : (s.setSpi k v).tripPin = s.tripPin := rfl
@[simp] theorem State.setSpi_tb (s : State) (k : Nat) (v : SpiS) : (s.setSpi k v).tb = s.tb := rfl
@[simp] theorem State.setSpi_tbLatch (s : State) (k : Nat) (v : SpiS) : (s.setSpi k v).tbLatch = s.tbLatch := rfl
@[simp] theorem State.setSpi_srcAt (s : State) (k : Nat) (v : SpiS) : (s.setSpi k v).srcAt = s.srcAt := rfl
@[simp] theorem State.setSpi_ev (s : State) (k : Nat) (v : SpiS) : (s.setSpi k v).ev = s.ev := rfl
@[simp] theorem State.setSpi_lc (s : State) (k : Nat) (v : SpiS) : (s.setSpi k v).lc = s.lc := rfl
@[simp] theorem State.setSpi_divAt (s : State) (k : Nat) (v : SpiS) : (s.setSpi k v).divAt = s.divAt := rfl
@[simp] theorem State.setSpi_sc (s : State) (k : Nat) (v : SpiS) : (s.setSpi k v).sc = s.sc := rfl
@[simp] theorem State.setSpi_mt (s : State) (k : Nat) (v : SpiS) : (s.setSpi k v).mt = s.mt := rfl
@[simp] theorem State.setSpi_mf (s : State) (k : Nat) (v : SpiS) : (s.setSpi k v).mf = s.mf := rfl
@[simp] theorem State.setSpi_mfu (s : State) (k : Nat) (v : SpiS) : (s.setSpi k v).mfu = s.mfu := rfl
@[simp] theorem State.setSpi_journal (s : State) (k : Nat) (v : SpiS) : (s.setSpi k v).journal = s.journal := rfl
@[simp] theorem State.setSpi_fl (s : State) (k : Nat) (v : SpiS) : (s.setSpi k v).fl = s.fl := rfl
@[simp] theorem State.setSpi_flash (s : State) (k : Nat) (v : SpiS) : (s.setSpi k v).flash = s.flash := rfl
@[simp] theorem State.setSpi_flBlk (s : State) (k : Nat) (v : SpiS) : (s.setSpi k v).flBlk = s.flBlk := rfl
@[simp] theorem State.setSpi_flWear (s : State) (k : Nat) (v : SpiS) : (s.setSpi k v).flWear = s.flWear := rfl
@[simp] theorem State.setSpi_otp (s : State) (k : Nat) (v : SpiS) : (s.setSpi k v).otp = s.otp := rfl
@[simp] theorem State.setSpi_gpioPad (s : State) (k : Nat) (v : SpiS) : (s.setSpi k v).gpioPad = s.gpioPad := rfl
@[simp] theorem State.setSpi_lkWake (s : State) (k : Nat) (v : SpiS) : (s.setSpi k v).lkWake = s.lkWake := rfl
@[simp] theorem State.setSpi_lkDrive (s : State) (k : Nat) (v : SpiS) : (s.setSpi k v).lkDrive = s.lkDrive := rfl
@[simp] theorem State.setSpi_rung (s : State) (k : Nat) (v : SpiS) : (s.setSpi k v).rung = s.rung := rfl
@[simp] theorem State.setSpi_wake (s : State) (k : Nat) (v : SpiS) : (s.setSpi k v).wake = s.wake := rfl
@[simp] theorem State.setSpi_core (s : State) (k : Nat) (v : SpiS) : (s.setSpi k v).core = s.core := rfl
@[simp] theorem State.setSpi_bank (s : State) (k : Nat) (v : SpiS) : (s.setSpi k v).bank = s.bank := rfl
@[simp] theorem State.setSpi_lock (s : State) (k : Nat) (v : SpiS) : (s.setSpi k v).lock = s.lock := rfl
@[simp] theorem State.setSpi_tide (s : State) (k : Nat) (v : SpiS) : (s.setSpi k v).tide = s.tide := rfl
@[simp] theorem State.setSpi_snap (s : State) (k : Nat) (v : SpiS) : (s.setSpi k v).snap = s.snap := rfl
@[simp] theorem State.setSpi_vsrc (s : State) (k : Nat) (v : SpiS) : (s.setSpi k v).vsrc = s.vsrc := rfl
@[simp] theorem State.setSpi_doze (s : State) (k : Nat) (v : SpiS) : (s.setSpi k v).doze = s.doze := rfl
@[simp] theorem State.setSpi_devRst (s : State) (k : Nat) (v : SpiS) : (s.setSpi k v).devRst = s.devRst := rfl
@[simp] theorem State.setSpi_scrub (s : State) (k : Nat) (v : SpiS) : (s.setSpi k v).scrub = s.scrub := rfl
@[simp] theorem State.setSpi_pps (s : State) (k : Nat) (v : SpiS) : (s.setSpi k v).pps = s.pps := rfl
@[simp] theorem State.setSpi_pwr (s : State) (k : Nat) (v : SpiS) : (s.setSpi k v).pwr = s.pwr := rfl
@[simp] theorem State.setSpi_link (s : State) (k : Nat) (v : SpiS) : (s.setSpi k v).link = s.link := rfl
@[simp] theorem State.setSpi_txs (s : State) (k : Nat) (v : SpiS) : (s.setSpi k v).txs = s.txs := rfl
@[simp] theorem State.setSpi_win (s : State) (k : Nat) (v : SpiS) : (s.setSpi k v).win = s.win := rfl
@[simp] theorem State.setSpi_lku (s : State) (k : Nat) (v : SpiS) : (s.setSpi k v).lku = s.lku := rfl
@[simp] theorem State.setSpi_gt (s : State) (k : Nat) (v : SpiS) : (s.setSpi k v).gt = s.gt := rfl
@[simp] theorem State.setSpi_boot (s : State) (k : Nat) (v : SpiS) : (s.setSpi k v).boot = s.boot := rfl
@[simp] theorem State.setSpi_graft (s : State) (k : Nat) (v : SpiS) : (s.setSpi k v).graft = s.graft := rfl
@[simp] theorem State.setSpi_ku (s : State) (k : Nat) (v : SpiS) : (s.setSpi k v).ku = s.ku := rfl
@[simp] theorem State.setSpi_dbg (s : State) (k : Nat) (v : SpiS) : (s.setSpi k v).dbg = s.dbg := rfl
@[simp] theorem State.setSpi_smb (s : State) (k : Nat) (v : SpiS) : (s.setSpi k v).smb = s.smb := rfl
@[simp] theorem State.setSpi_pending (s : State) (k : Nat) (v : SpiS) : (s.setSpi k v).pending = s.pending := rfl
@[simp] theorem State.setSpi_out (s : State) (k : Nat) (v : SpiS) : (s.setSpi k v).out = s.out := rfl
@[simp] theorem State.setSpi_free (s : State) (k : Nat) (v : SpiS) : (s.setSpi k v).free = s.free := rfl

end Sys2Proof.Machine
end

