-- ==== Sys2Proof/Machine/Microcode.lean ====
section
/-! DEFINITION. The sequencer that every core runs its instructions on: microwords, nanowords, grafts and match registers
(10_pipeline_and_microcode.md, R240 to R244). The contents of the ROMs are not published, so which microwords an instruction runs is not
known, and by R244 no graft changes what an instruction does. -/

namespace Sys2Proof.Machine

/-- R240: where a microword stands: at an address of the ROM, or in the graft RAM. -/
inductive MicroAt where
  | rom (a : Nat)
  | graft (w : Nat)
  deriving DecidableEq, Repr

/-- R242: the match register that redirects ROM address `a`: the lowest-numbered enabled one that holds it. -/
def graftHit (s : State) (a : Nat) : Option Nat :=
  (List.range 32).find? (fun i => s.is F.GRF_MATCH_en i && s.get F.GRF_MATCH_rom i == a)

/-- R242: the word that the sequencer reads where it is about to read the one at `x`. -/
def microRead (s : State) (x : MicroAt) : MicroAt :=
  match x with
  | .rom a => (graftHit s a).elim x (fun i => .graft (s.get F.GRF_MATCH_word i))
  | .graft _ => x

/-- R240: the microword at `x`. -/
def microWord (s : State) (x : MicroAt) : BitVec 28 :=
  match x with
  | .rom a => Config.microRom a
  | .graft w => (s.graftOf w).extractLsb' 0 28

/-- R241: the nano field of a microword. -/
def microNano (m : BitVec 28) : Nat := (m.extractLsb' 18 10).toNat
/-- R241: the next field of a microword. -/
def microNext (m : BitVec 28) : Nat := (m.extractLsb' 5 13).toNat
/-- R241: the cond field of a microword. -/
def microCond (m : BitVec 28) : Nat := (m.extractLsb' 0 5).toNat

/-- R240, R245: nanoword `n` of the graft RAM, from its four parts. -/
def graftNano (s : State) (n : Nat) : BitVec 112 :=
  let part (p : Nat) : BitVec 28 := (s.graftOf (256 + 4 * n + p)).extractLsb' 0 28
  part 3 ++ part 2 ++ part 1 ++ part 0

/-- R241: the nanoword that the microword at `x` names. -/
def nanoWord (s : State) (x : MicroAt) : BitVec 112 :=
  let n := microNano (microWord s x)
  match x with
  | .graft _ => if 0o1700 ≤ n then graftNano s (n - 0o1700) else Config.nanoRom n
  | .rom _ => Config.nanoRom n

/-- The word after `x` in the same store. DESIGN CHOICE (log 119): the last word is followed by the first. -/
def MicroAt.following : MicroAt → MicroAt
  | .rom a => .rom ((a + 1) % 8192)
  | .graft w => .graft ((w + 1) % 256)

/-- R241: what follows a microword: another one, or the first microword of the next instruction; the code 0o36 is reserved. -/
inductive MicroNext where
  | go (x : MicroAt)
  | done
  | reserved
  deriving DecidableEq, Repr

/-- R241: the successor of the microword at `x`, where `hc` gives the hardware conditions 0o01 to 0o34, which are not published. -/
def microSuccessor (s : State) (hc : Nat → Bool) (x : MicroAt) : MicroNext :=
  let m := microWord s x
  let c := microCond m
  if c = 0 then .go (.rom (microNext m))
  else if c ≤ 0o34 then .go (if hc c then .rom (microNext m) else x.following)
  else if c = 0o35 then .done
  else if c = 0o36 then .reserved
  else .go (.graft (microNext m % 256))

/-- R240 to R242: one cycle of the sequencer, about to read the microword at `x`: the nanoword that drives the datapath, and what follows. -/
def microStep (s : State) (hc : Nat → Bool) (x : MicroAt) : BitVec 112 × MicroNext :=
  (nanoWord s (microRead s x), microSuccessor s hc (microRead s x))

end Sys2Proof.Machine
end

