-- ==== Sys2Proof/Machine/Wire.lean ====
section
/-! DEFINITION. A frame on the lanes of a port: its octets, its frame check sequence, its columns and their code groups (15_velub_link.md, R346 to
R349). -/

namespace Sys2Proof.Machine

/-! ### Octets (R348, R349) -/

/-- R349: one octet enters the frame check sequence of IEEE 802.3, least significant bit first. -/
def fcsOctet (c : BitVec 32) (o : Octet) : BitVec 32 :=
  (List.range 8).foldl (fun c _ => if c.getLsbD 0 then (c >>> 1) ^^^ 0xedb88320#32 else c >>> 1) (c ^^^ o.setWidth 32)

/-- R349: the frame check sequence of IEEE 802.3 over octets: its 4 octets as sent. -/
def fcs (l : List Octet) : List Octet :=
  let c := ~~~(l.foldl fcsOctet (BitVec.allOnes 32))
  [c.extractLsb' 0 8, c.extractLsb' 8 8, c.extractLsb' 16 8, c.extractLsb' 24 8]

/-- R349: the octets of a frame that its frame check sequence covers: header, payload lines and tag. -/
def wireBody (f : Frame) : List Octet := octets 9 (frameHdr f).toNat ++ frameOctets f ++ octets 8 f.mac.toNat

/-- R349: the octets of a frame on the wire. -/
def wireOctets (f : Frame) : List Octet := wireBody f ++ fcs (wireBody f)

/-- R349: the frame check sequence at the end of received octets fits. -/
def fcsGood (l : List Octet) : Bool := decide (4 ≤ l.length) && fcs (l.take (l.length - 4)) == l.drop (l.length - 4)

/-! ### Columns (R347, R348) -/

/-- R347: what a lane carries in one column: a data octet, or one of the control groups; the idle group /I/ takes two columns. -/
inductive Group where
  | data (o : Octet)
  | i | s | t | r | v
  deriving DecidableEq, Repr

/-- R347, R348: the columns of octets, lane 0 first: octet k on lane k mod 2, and /R/ on lane 1 after an odd number. -/
def dataColumns : List Octet → List (Group × Group)
  | [] => []
  | [a] => [(.data a, .r)]
  | a :: b :: l => (.data a, .data b) :: dataColumns l

/-- R347: the columns of a frame between /S/ and /T/. -/
def frameColumns (f : Frame) : List (Group × Group) := (.s, .s) :: dataColumns (wireOctets f) ++ [(.t, .t)]

/-- R347, R348: the octets of received columns of a frame after /S/; none where they end with /V/, hold a group that has no place in a frame, or do
not end. -/
def columnOctets : List (Group × Group) → Option (List Octet)
  | [(.t, .t)] => some []
  | [(.data a, .r), (.t, .t)] => some [a]
  | (.data a, .data b) :: l => (columnOctets l).map (fun r => a :: b :: r)
  | _ => none

/-- R347, R349: a received frame is good in its groups and its frame check sequence. -/
def columnsGood (l : List (Group × Group)) : Bool :=
  match l with
  | (.s, .s) :: l => (match columnOctets l with | some o => fcsGood o | none => false)
  | _ => false

/-! ### Code groups (R346): the tables of 8b/10b and the running disparity. PRESUMED (log 142): they stand in IEEE 802.3, clause 36, which the
manual names. -/

/-- The groups of 6 bits of an octet's low 5 bits at negative running disparity, first bit highest. -/
def sixB : List Nat :=
  [0b100111, 0b011101, 0b101101, 0b110001, 0b110101, 0b101001, 0b011001, 0b111000, 0b111001, 0b100101, 0b010101, 0b110100, 0b001101,
   0b101100, 0b011100, 0b010111] ++
  [0b011011, 0b100011, 0b010011, 0b110010, 0b001011, 0b101010, 0b011010, 0b111010, 0b110011, 0b100110, 0b010110, 0b110110, 0b001110,
   0b101110, 0b011110, 0b101011]

/-- The groups of 4 bits of an octet's high 3 bits at negative running disparity. -/
def fourB : List Nat := [0b1011, 0b1001, 0b0101, 0b1100, 0b1101, 0b1010, 0b0110, 0b1110]

/-- The ones among the low `n` bits. -/
def ones (n v : Nat) : Nat := ((List.range n).filter (fun i => v.testBit i)).length

/-- A group of `n` bits at running disparity `rd` (true: positive), from its form at negative disparity: the complement where it is unbalanced, or
one of the two balanced groups that alternate (`alt`). -/
def atRd (n v : Nat) (alt rd : Bool) : Nat := if rd && (2 * ones n v != n || alt) then 2 ^ n - 1 - v else v

/-- The running disparity after a group of `n` bits: an unbalanced group turns it. -/
def rdAfter (n v : Nat) (rd : Bool) : Bool := if 2 * ones n v = n then rd else !rd

/-- The code group of data octet `o`, with the running disparity after it. -/
def codeData (o : Octet) (rd : Bool) : Nat × Bool :=
  let x := o.toNat % 32
  let y := o.toNat / 32
  let a := atRd 6 (sixB.getD x 0) (x == 7) rd
  let rd := rdAfter 6 a rd
  let a7 := y == 7 && (if rd then x == 11 || x == 13 || x == 14 else x == 17 || x == 18 || x == 20)
  let b := if a7 then (if rd then 0b1000 else 0b0111) else atRd 4 (fourB.getD y 0) (y == 3) rd
  (16 * a + b, rdAfter 4 b rd)

/-- The code groups of a lane's group, with the running disparity after them: K28.5 D16.2, K27.7, K29.7, K23.7 and K30.7. -/
def codeGroup (g : Group) (rd : Bool) : List Nat × Bool :=
  let k (v : Nat) : Nat := if rd then 1023 - v else v
  match g with
  | .data o => ([(codeData o rd).1], (codeData o rd).2)
  | .i => let d := codeData 0x50 (!rd); ([k 0b0011111010, d.1], d.2)
  | .s => ([k 0b1101101000], rd)
  | .t => ([k 0b1011101000], rd)
  | .r => ([k 0b1110101000], rd)
  | .v => ([k 0b0111101000], rd)

/-- The code groups of a lane. -/
def codeLane (rd : Bool) : List Group → List Nat
  | [] => []
  | g :: l => (codeGroup g rd).1 ++ codeLane (codeGroup g rd).2 l

/-- R346, R347, R359: what an output puts on the lanes of its port: a frame its columns, an abort the /V/ that stands in place of /T/. -/
def Out.columns (o : Out) : List (Group × Group) :=
  match o with
  | .frame _ f => frameColumns f
  | .abort _ => [(.v, .v)]
  | _ => []

end Sys2Proof.Machine
end

