-- ==== Sys2Proof/Tests/Slice0.lean ====
section
/-! SUPPORT. The author's own tests: one ill-formed command for each check of `Instr.illFormed`, commands at the bounds of the checks, and
the witnesses that the hypotheses of the statements can be met. -/

namespace Sys2Proof.Tests

open Sys2Proof Sys2Proof.Machine

/-! ### Well-formedness: each check refuses an ill-formed command -/

/-- A frame with `n` payload words and a header that says `w`. -/
def frameOf (n : Nat) (w : BitVec 6) : Frame :=
  { ty := 0, nw := w, dst := 0, src := 0, hops := 0, seq := 0, core := 0, tag := 0, cls := 0, res := 0, pay := List.replicate n 0, mac := 0 }

/-- R350: one payload word more than the header says. -/
theorem test_illformed_payload : (Instr.hello 0 0 (frameOf 13 12)).illFormed = some .payload := by decide
/-- R350: 33 payload words. -/
theorem test_illformed_payload_long : (Instr.rdata 0 0 (frameOf 33 33)).illFormed = some .payload := by decide
/-- R350: 32 payload words fit. -/
theorem test_wellformed_payload : (Instr.rdata 0 0 (frameOf 32 32)).wellFormed = true := by decide
/-- R365: accesses of more than 1 us. -/
theorem test_illformed_duration : (Instr.requestAdmit 0 0 64001).illFormed = some .duration := by decide
/-- R365: accesses of 1 us. -/
theorem test_wellformed_duration : (Instr.requestAdmit 0 0 64000).wellFormed = true := by decide
/-- R65: a threshold past the end of its way. -/
theorem test_illformed_position : (Instr.thresholdCrossing 0 0 0 1001 0).illFormed = some .position := by decide
/-- R65: a threshold at the end of its way. -/
theorem test_wellformed_position : (Instr.thresholdCrossing 0 0 0 1000 1000).wellFormed = true := by decide
/-- R179: a charge of channel 128. -/
theorem test_illformed_channel : (Instr.meteringTick 0 [(128, 5)]).illFormed = some .channel := by decide
/-- R419: a block of more than 255 octets. -/
theorem test_illformed_octets (l : List (BitVec 8)) (h : 255 < l.length) :
    (Instr.blockWrite 0 0 0 0 l none).illFormed = some .octets := if_pos h
/-- R419: a block of 256 octets is one. -/
theorem test_octets_256 : 255 < (List.replicate 256 (0 : BitVec 8)).length := Nat.lt_of_lt_of_eq (by decide : 255 < 256) List.length_replicate.symm
/-- R337: 2 V. -/
theorem test_illformed_supply : (Instr.modeSpring 0 0 2000).illFormed = some .supply := by decide
/-- R391: an address in the middle of a line. -/
theorem test_illformed_line : (Instr.spiRecoveryWrite 0 12 []).illFormed = some .line := rfl

/-! ### Witnesses: for each statement with hypotheses, concrete states and operands that meet those of its clauses -/

/-- Any run of berth 0. -/
def aRun : Run :=
  { berth := 0, start := 0, ready := 0, pos := 0, prog := [0], x := [0, 0, 0, 0], acc := 0, region := 0, offered := false, selDone := false, voided := false, ch := 0, cu := 0, pri := 3, base := 0, step := 0, nreg := 0, bnd := [], hys := 0, mem := false, close := false, grp := 0, intw := 0, prov := none, view := false, old := [], tide := [], reg0 := 0, at0 := [] }
def aFrame : Frame := { ty := 0, nw := 0, dst := 0, src := 0, hops := 0, seq := 0, core := 0, tag := 0, cls := 0, res := 0, pay := [], mac := 0 }
def aRound : Round := { id := 1, inst := 100000, p := 0, guard := 2000, raise := false, lvl := 1, hm := 0, slot := some 0, own := { yes := true, reason := 0, minlvl := 1, count := 1, refuser := none }, kids := [], sent := false }
def aNorm : NormWin := { start := 0, raw := 0, len := 512, merged := false, forced := false, ovld := false, neg := false, cal := false, leg := none, c := 0, o := 0, thr := 0, wdone := false, openIen := false, armNo := 0 }
def aJob : TxJob := { kind := 0, node := 0, port := 0, tag := 0, due := 0, buf := 0, out := 0, want := 0, got := 0 }
/-- Core 0 runs at address 4 with an owner's capabilities over the whole address space. -/
def aCap : Cap := { base := 0, len := 134217727, perm := 4095, tag := true }
def core0 : CoreS := { ({} : CoreS) with pcc := aCap, k := (List.range 8).map (fun i => (i, aCap)), pc := 4 }
/-- The state with core 0 running as `h`. -/
def running (h : CoreS) : State := (State.reset.put F.CORE_STAT_state 0 1).setCore 0 h
def aDesc : Desc := { code := { aCap with otype := 63 }, stack := aCap, auth := aCap, sr := 0 }
def sramCap : Cap := { base := 8388608, len := 65536, perm := 4095, tag := true }
def core1 : CoreS := { core0 with k := [(0, aCap), (1, sramCap), (2, { sramCap with perm := 0 })] }
/-- The line `d` at SRAM address `a`, with tag `g`. -/
def putLine (s : State) (a : Nat) (d : BitVec 72) (g : Bool) : State :=
  (List.range 4).foldl (fun s i => s.setSram (sramIx a + i) { w := lineW d i, tag := g }) s
/-- A descriptor's capabilities at SRAM address `a`, with policy `p`. -/
def withDesc (s : State) (a : Nat) (d : Desc) (p : Nat) : State :=
  putLine (putLine (putLine (putLine s a d.code.line d.code.tag) (a + 8) d.stack.line d.stack.tag) (a + 16) d.auth.line d.auth.tag) (a + 24)
    (BitVec.ofNat 72 (p * 2 ^ 70)) false
theorem good_range (s : State) (a n : Nat) (h : ∀ i < sramIx (a + n - 1) + 1 - sramIx a, (s.sramOf (sramIx a + i)).ecc = .good) : wordsGood s a n := by
  intro k h1 h2
  have := h (k - sramIx a) (by omega)
  rwa [Nat.add_sub_cancel' h1] at this
/-- Core 0 has frames for 4 entries from SRAM address 8,388,608 + 4,096 on. -/
def withFrames (s : State) : State := (s.put F.CORE_FRM_base 0 8392704).put F.CORE_FRM_size 0 4
/-- Vector 5 of core 0 is pending, valid, and of priority 3. -/
def withVector (s : State) : State := ((s.setReg .VU_PEND 0 32).put F.VU_VCTL_valid 5 1).put F.VU_VCTL_pri 5 3
/-- An event of channel `ch` that tap `x` can take at instant 6,400,000,000,000. -/
def coming (s : State) (ch : Nat) (x : Tap) : State :=
  s.setEv ch { s.evOf ch with sent := [{ at_ := 6399999999920, direct := [x], relayed := [], arr := none, woke := false }] }
/-- A frame of type `ty` from `src` to `dst` with the payload `pay`, which may make 5 hops. -/
def frm (ty dst src : Nat) (pay : List Word) : Frame :=
  { aFrame with ty := BitVec.ofNat 5 ty, nw := BitVec.ofNat 6 pay.length, dst := BitVec.ofNat 12 dst, src := BitVec.ofNat 12 src, hops := 5, pay := pay }
theorem frameMac_mac (k : BitVec 128) (n : Nat) (f : Frame) (m : BitVec 64) : frameMac k n { f with mac := m } = frameMac k n f := by
  have h1 : frameHdr { f with mac := m } = frameHdr f := by cases f; rfl
  have h2 : frameOctets { f with mac := m } = frameOctets f := by cases f; rfl
  unfold frameMac
  rw [h1, h2]
/-- `f` with its tag under the key `k` and the counter `n`. -/
def signed (k : BitVec 128) (n : Nat) (f : Frame) : Frame := { f with mac := frameMac k n f }
theorem signed_mac (k : BitVec 128) (n : Nat) (f : Frame) : (signed k n f).mac = frameMac k n (signed k n f) :=
  (frameMac_mac k n f _).symm
/-- `f` with a tag that is wrong in every bit. -/
def forged (k : BitVec 128) (n : Nat) (f : Frame) : Frame := { f with mac := ~~~ frameMac k n f }
theorem forged_mac (k : BitVec 128) (n : Nat) (f : Frame) : (forged k n f).mac ≠ frameMac k n (forged k n f) := by
  have h : frameMac k n (forged k n f) = frameMac k n f := frameMac_mac k n f _
  rw [h]
  show ~~~ frameMac k n f ≠ frameMac k n f
  generalize frameMac k n f = x
  intro h
  simpa using congrArg (·.getLsbD 0) h
/-- Port `p` is UP and stands as `h`. -/
def up (s : State) (p : Nat) (h : LinkS) : State := (s.put F.LK_PSTAT_state p 3).setLink p h
/-- Node 7 is reached through port 1, which is UP; 8 requests may be admitted; window 0 opens SRAM to every node. -/
def netted : State :=
  ((up (up State.reset 0 {}) 1 {}).put F.LK_ROUTE_port 7 1 |>.put F.LK_CAP_n 0 8).setWin 0 { valid := true, any := true, cap := sramCap }
theorem forged_ty (k : BitVec 128) (n : Nat) (f : Frame) : (forged k n f).ty = f.ty := by unfold forged; rfl
theorem forged_tag (s : State) (p : Nat) (f : Frame) (hk : (s.linkOf p).rxKey = 0) (h : f.ty ≠ 1) (hs : frameSeq f = false) :
    (forged 0 0 f).mac ≠ lkTag s p (forged 0 0 f) := by
  have h2 : frameSeq (forged 0 0 f) = false := by unfold frameSeq at *; rwa [forged_ty]
  unfold lkTag
  rw [if_neg (by rwa [forged_ty]), h2]
  simp only [hk]
  exact forged_mac _ _ _
theorem in_order_mac (s : State) (p : Nat) (f : Frame) (hk : (s.linkOf p).rxKey = 0) (hn : (s.linkOf p).rx % 2 ^ 40 = 0) :
    (signed 0 0 f).mac = frameMac (s.linkOf p).rxKey ((s.linkOf p).rx % 2 ^ 40) (signed 0 0 f) := by
  rw [hk, hn]
  exact signed_mac 0 0 f
theorem plain_mac (s : State) (p : Nat) (f : Frame) (hk : (s.linkOf p).rxKey = 0) :
    (signed 0 0 f).mac = frameMac (s.linkOf p).rxKey 0 (signed 0 0 f) := by
  rw [hk]
  exact signed_mac 0 0 f

set_option maxRecDepth 100000

/-- The hypotheses of clauses of `Obligations.BankHandovers` are met. -/
theorem wit_BankHandovers :
    (∃ (k : Fin 64) (v : Word) (s : State), s.is F.BANK_STAT_hpend (↑k : ℕ) = false ∧
      ((↑k : ℕ) = 63 → F.BANK_OWN_kind.of (BitVec.toNat v) = 0)) ∧
    (∃ (k : Fin 64) (v : Word) (s : State), (s.is F.BANK_STAT_hpend (↑k : ℕ) = true ∨ (↑k : ℕ) = 63 ∧ F.BANK_OWN_kind.of (BitVec.toNat v) ≠ 0) ∧
      (¬(F.BANK_OWN_kind.of (BitVec.toNat v) = s.get F.BANK_OWN_kind (↑k : ℕ) ∧ F.BANK_OWN_gs.of (BitVec.toNat v) = s.get F.BANK_OWN_gs (↑k : ℕ) ∧ F.BANK_OWN_gl.of (BitVec.toNat v) = s.get F.BANK_OWN_gl (↑k : ℕ) ∧ F.BANK_OWN_id.of (BitVec.toNat v) = s.get F.BANK_OWN_id (↑k : ℕ)))) ∧
    (∃ (k : Fin 64) (v : Word) (s : State), (s.is F.BANK_STAT_hpend (↑k : ℕ) = true ∨ (↑k : ℕ) = 63 ∧ F.BANK_OWN_kind.of (BitVec.toNat v) ≠ 0) ∧
      (F.BANK_OWN_kind.of (BitVec.toNat v) = s.get F.BANK_OWN_kind (↑k : ℕ) ∧ F.BANK_OWN_gs.of (BitVec.toNat v) = s.get F.BANK_OWN_gs (↑k : ℕ) ∧ F.BANK_OWN_gl.of (BitVec.toNat v) = s.get F.BANK_OWN_gl (↑k : ℕ) ∧ F.BANK_OWN_id.of (BitVec.toNat v) = s.get F.BANK_OWN_id (↑k : ℕ))) ∧
    (∃ (t : ℕ) (k : Fin 64) (s : State) (x : BitVec 36) (y : ℕ), s.bankOf (↑k : ℕ) = some (x, y) ∧
      s.is F.BANK_STAT_hpend (↑k : ℕ) = true ∧
      bankBusy (State.tick t s) (↑k : ℕ) = false) :=
  ⟨⟨0, (0 : Word), (State.reset.put F.BANK_STAT_hpend 0 0), by decide, by decide⟩,
    ⟨63, (65536 : Word), State.reset, by decide, by decide⟩,
    ⟨0, (5 : Word), ((((((State.reset.put F.BANK_STAT_hpend 0 1).put F.BANK_OWN_kind 0 0).put F.BANK_OWN_gs 0 0).put F.BANK_OWN_gl 0 0).put F.BANK_OWN_id 0 5)), by decide, by decide⟩,
    ⟨6400000000000, 0, (((State.reset.setBank 0 (some (5, 0))).put F.BANK_STAT_hpend 0 1).put F.BANK_STAT_hpend 0 1), 5, 0, by decide, by decide, by decide⟩⟩

/-- The hypotheses of clauses of `Obligations.BootSources` are met. -/
theorem wit_BootSources :
    (∃ (s : State) (k : ℕ), ¬(s.get F.BOOT_RSTC_cause 0 = 6 ∧ 63 * 32768 ≤ k)) ∧
    (∃ (s : State) (src : ℕ) (i : ℕ), src < 4 ∧
      src < 2 ∧
      i < List.length (verify s src).1.2 ∧
      (s.flBlkOf ((524288 * src + i) / 1024)).ecomp = true ∧
      (s.flashOf (524288 * src + i)).undef = false) ∧
    (∃ (s : State) (src : ℕ) (i : ℕ) (j : ℕ), src < 4 ∧
      2 ≤ src ∧
      i < 32 ∧
      (∀ j < 4, (s.sramOf (4 * i + j)).ecc = Ecc.good) ∧
      j < 4) ∧
    (∃ (s : State), s.boot.phase = BootPhase.due ∧
      s.boot.held = false ∧
      (¬∀ b < 4, (s.flOf b).run = none)) ∧
    (∃ (s : State) (r : Resume), s.boot.phase = BootPhase.due ∧
      s.boot.held = false ∧
      (∀ b < 4, (s.flOf b).run = none) ∧
      s.boot.resume = some r ∧
      s.get F.BOOT_RSTC_cause 0 = 6 ∧
      ringSum s r.slot r.len = r.ring ∧
      otpFloor s ≤ r.lvl) ∧
    (∃ (s : State), s.boot.phase = BootPhase.due ∧
      s.boot.held = false ∧
      (∀ b < 4, (s.flOf b).run = none) ∧
      (∀ (r : Resume), s.boot.resume = some r → s.get F.BOOT_RSTC_cause 0 = 6 → ringSum s r.slot r.len ≠ r.ring ∨ r.lvl < otpFloor s)) ∧
    (∃ (t : ℕ) (s : State) (x : ℕ), s.boot.phase = BootPhase.spi (some x) ∧
      x ≤ max s.now t) ∧
    (∃ (t : ℕ) (s : State) (x : ℕ), s.boot.phase = BootPhase.net (some x) ∧
      x ≤ max s.now t) ∧
    (∃ (s : State) (x : Option ℕ) (a : Addr) (ls : List (BitVec 72)), s.boot.phase = BootPhase.spi x ∧
      BitVec.toNat a % 8 = 0 ∧
      8388608 ≤ BitVec.toNat a ∧
      BitVec.toNat a + 8 * ls.length ≤ 8388608 + 32 * 65536 ∧
      (∀ j < 4 * ls.length, (s.sramOf ((BitVec.toNat a - 8388608) / 2 + j)).ecc ≠ Ecc.bad)) :=
  ⟨⟨State.reset, 0, by decide⟩,
    ⟨State.reset, 0, 0, by decide, by decide, by decide, by decide, by decide⟩,
    ⟨State.reset, 3, 31, 3, by decide, by decide, by decide, by decide, by decide⟩,
    ⟨({ State.reset.setFl 3 { run := some ⟨.erase 0, 0, false⟩ } with boot := { State.reset.boot with phase := .due, held := false } }), by decide, by decide, by decide⟩,
    ⟨(({ State.reset.put F.BOOT_RSTC_cause 0 6 with boot := { State.reset.boot with phase := .due, held := false, resume := some ⟨0, 1024, 1, 3, 0⟩ } }).put F.BOOT_RSTC_cause 0 6), ⟨0, 1024, 1, 3, 0⟩, by decide, by decide, by decide, by decide, by decide, by decide, by decide⟩,
    ⟨{ State.reset with boot := { (State.reset).boot with phase := BootPhase.due, held := false } }, by decide, by decide, by decide, (fun _ h => nomatch h)⟩,
    ⟨6400000000000, ({ State.reset with boot := { State.reset.boot with phase := .spi (some 0), held := false } }), 0, by decide, by decide⟩,
    ⟨6400000000000, ({ State.reset with boot := { State.reset.boot with phase := .net (some 0), held := false } }), 0, by decide, by decide⟩,
    ⟨({ State.reset with boot := { State.reset.boot with phase := .spi none, held := false } }), none, (10485752 : Addr), [0], by decide, by decide, by decide, by decide, by decide⟩⟩

/-- The hypotheses of clauses of `Obligations.CanonicalFormKept` are met. -/
theorem wit_CanonicalFormKept :
    ∃ (s : State) (s' : State), s.canonical = true ∧
      step s = Host.Outcome.next s' :=
  ⟨State.reset, State.reset, by decide, (rfl)⟩

/-- The hypotheses of clauses of `Obligations.CapabilitiesComeFromTaggedLines` are met. -/
theorem wit_CapabilitiesComeFromTaggedLines :
    ∃ (t : ℕ) (c : Fin 16) (mx : Bool) (x : Fields) (f : FetchFault) (s : State) (i : Instr), (∀ v < 128, s.is F.VU_VCTL_valid ((↑c : ℕ) * 128 + v) = true → have d := Store.get (fun x ↦ { }) (s.coreOf (↑c : ℕ)).desc v; d.code.tag = true ∧ d.stack.tag = true ∧ d.auth.tag = true) ∧
      (∀ e ∈ (s.coreOf (↑c : ℕ)).sb, e.size ≤ 8) ∧
      i ∈ [Instr.ldK t c mx x, Instr.kgo t c x, Instr.rett t c x, Instr.wfi t c x, Instr.trapEntry t c f, Instr.interruptEntry t c, Instr.vectorPresent t c, Instr.coreResetComplete t c] :=
  ⟨6400000000000, 0, false, (0 : Fields), FetchFault.none, (running core0), Instr.kgo 6400000000000 0 (0 : Fields), (fun v hv h => absurd h (by revert v; decide)), (fun e h => nomatch h), (.tail _ (.head _))⟩

/-- The hypotheses of clauses of `Obligations.CoreResetAndWatchdog` are met. -/
theorem wit_CoreResetAndWatchdog :
    (∃ (v : Word), BitVec.toNat v % 4 = 1) ∧
    (∃ (v : Word), BitVec.toNat v % 4 = 2) ∧
    (∃ (c : Fin 16) (s : State), (s.coreOf (↑c : ℕ)).rst = some 2 ∧
      (s.coreOf (↑c : ℕ)).sb = [] ∧
      (s.coreOf (↑c : ℕ)).tq = [] ∧
      (s.coreOf (↑c : ℕ)).fq = []) ∧
    (∃ (c : Fin 16) (s : State) (d : Desc), (s.coreOf (↑c : ℕ)).rst = some 1 ∧
      (s.coreOf (↑c : ℕ)).sb = [] ∧
      (s.coreOf (↑c : ℕ)).tq = [] ∧
      (s.coreOf (↑c : ℕ)).fq = [] ∧
      (inOneBank (s.get F.CORE_TDT_base (↑c : ℕ) + 32 * 63) 32 = true → awaitsBank s (↑c : ℕ) (bankAt (s.get F.CORE_TDT_base (↑c : ℕ) + 32 * 63)) = false) ∧
      s.is F.CORE_TDT_en (↑c : ℕ) = true ∧
      inOwnBank s (↑c : ℕ) (s.get F.CORE_TDT_base (↑c : ℕ) + 32 * 63) 32 = true ∧
      DescAt s (s.get F.CORE_TDT_base (↑c : ℕ) + 32 * 63) d) ∧
    (∃ (c : Fin 16) (s : State), (s.coreOf (↑c : ℕ)).rst = some 1 ∧
      (s.coreOf (↑c : ℕ)).sb = [] ∧
      (s.coreOf (↑c : ℕ)).tq = [] ∧
      (s.coreOf (↑c : ℕ)).fq = [] ∧
      (inOneBank (s.get F.CORE_TDT_base (↑c : ℕ) + 32 * 63) 32 = true → awaitsBank s (↑c : ℕ) (bankAt (s.get F.CORE_TDT_base (↑c : ℕ) + 32 * 63)) = false) ∧
      (s.is F.CORE_TDT_en (↑c : ℕ) = false ∨ inOwnBank s (↑c : ℕ) (s.get F.CORE_TDT_base (↑c : ℕ) + 32 * 63) 32 = false)) ∧
    (∃ (c : Fin 16) (s : State), (s.coreOf (↑c : ℕ)).rst = some 1 ∧
      (s.coreOf (↑c : ℕ)).sb = [] ∧
      (s.coreOf (↑c : ℕ)).tq = [] ∧
      (s.coreOf (↑c : ℕ)).fq = [] ∧
      (inOneBank (s.get F.CORE_TDT_base (↑c : ℕ) + 32 * 63) 32 = true → awaitsBank s (↑c : ℕ) (bankAt (s.get F.CORE_TDT_base (↑c : ℕ) + 32 * 63)) = false) ∧
      s.is F.CORE_TDT_en (↑c : ℕ) = true ∧
      inOwnBank s (↑c : ℕ) (s.get F.CORE_TDT_base (↑c : ℕ) + 32 * 63) 32 = true ∧
      (s.get F.CORE_TDT_base (↑c : ℕ) + 32 * 63) % 8 = 0 ∧
      wordsGood s (s.get F.CORE_TDT_base (↑c : ℕ) + 32 * 63 + 24) 8 ∧
      BitVec.extractLsb' 16 2 (lineW (lineAt s (s.get F.CORE_TDT_base (↑c : ℕ) + 32 * 63 + 24)) 0) = 1) ∧
    (∃ (c : Fin 16) (s : State) (v : Word), s.is F.CORE_WDT_en (↑c : ℕ) = true ∧
      s.is F.CORE_WDT_act (↑c : ℕ) = false ∧
      v ≠ 87381#18) ∧
    (∃ (t : ℕ) (c : Fin 16) (s : State) (d : ℕ), s.is F.CORE_WDT_en (↑c : ℕ) = true ∧
      s.rung < 3 ∧
      (s.coreOf (↑c : ℕ)).wdAt = some d ∧
      d ≤ max s.now t) :=
  ⟨⟨(1 : Word), by decide⟩,
    ⟨(2 : Word), by decide⟩,
    ⟨0, (State.reset).setCore 0 { (State.reset).coreOf 0 with rst := some 2, sb := [], tq := [], fq := [] }, by decide, by decide, by decide, by decide⟩,
    ⟨0, ((withDesc (((State.reset.setCore 0 { ({} : CoreS) with rst := some 1 }).put F.CORE_TDT_base 0 8388608).put F.CORE_TDT_en 0 1) (8388608 + 2016) aDesc 0).put F.CORE_TDT_en 0 1), aDesc, by decide, by decide, by decide, by decide, by decide, by decide, by decide, ⟨by decide, good_range _ _ _ (by decide), by decide, by decide, by decide, by decide, by decide, by decide, by decide, by decide⟩⟩,
    ⟨0, (State.reset).setCore 0 { (State.reset).coreOf 0 with rst := some 1, sb := [], tq := [], fq := [] }, by decide, by decide, by decide, by decide, by decide, by decide⟩,
    ⟨0, ((withDesc (((State.reset.setCore 0 { ({} : CoreS) with rst := some 1 }).put F.CORE_TDT_base 0 8388608).put F.CORE_TDT_en 0 1) (8388608 + 2016) aDesc 1).put F.CORE_TDT_en 0 1), by decide, by decide, by decide, by decide, by decide, by decide, by decide, by decide, (good_range _ _ _ (by decide)), by decide⟩,
    ⟨0, ((State.reset.put F.CORE_WDT_en 0 1).put F.CORE_WDT_act 0 0), (0 : Word), by decide, by decide, by decide⟩,
    ⟨6400000000000, 0, ((State.reset.put F.CORE_WDT_en 0 1)).setCore 0 { ((State.reset.put F.CORE_WDT_en 0 1)).coreOf 0 with wdAt := some 0 }, 0, by decide, by decide, by decide, by decide⟩⟩

/-- The hypotheses of clauses of `Obligations.CounterRun` are met. -/
theorem wit_CounterRun :
    (∃ (t : ℕ) (u : Fin 128) (v : Word) (s : State), CuAlone s (↑u : ℕ) ∧
      s.is F.CU_SYNC_clk (↑u : ℕ) = false ∧
      HwIdle t RegName.CU_CTL (↑u : ℕ) s ∧
      (s.cuOf (↑u : ℕ)).held = [] ∧
      s.rung < 3 ∧
      s.is F.CU_CTL_run (↑u : ℕ) = false ∧
      F.CU_CTL_run.of (BitVec.toNat v) = 1 ∧
      F.CU_CTL_spp.of (BitVec.toNat v) ≠ 3 ∧
      (¬(F.CU_CTL_spp.of (BitVec.toNat v) = 2 ∧ F.CU_CTL_bmode.of (BitVec.toNat v) = 1)) ∧
      (¬(F.CU_CTL_mode.of (BitVec.toNat v) = 3 ∨ s.get F.CU_CNT_count (↑u : ℕ) < if F.CU_CTL_mode.of (BitVec.toNat v) = 1 then 2 * s.get F.CU_PER_p (↑u : ℕ) else s.get F.CU_PER_p (↑u : ℕ)))) ∧
    (∃ (t : ℕ) (u : Fin 128) (v : Word) (s : State), CuAlone s (↑u : ℕ) ∧
      s.is F.CU_SYNC_clk (↑u : ℕ) = false ∧
      HwIdle t RegName.CU_CTL (↑u : ℕ) s ∧
      (s.cuOf (↑u : ℕ)).held = [] ∧
      s.rung < 3 ∧
      s.is F.CU_CTL_run (↑u : ℕ) = false ∧
      F.CU_CTL_run.of (BitVec.toNat v) = 1 ∧
      F.CU_CTL_spp.of (BitVec.toNat v) ≠ 3 ∧
      (¬(F.CU_CTL_spp.of (BitVec.toNat v) = 2 ∧ F.CU_CTL_bmode.of (BitVec.toNat v) = 1)) ∧
      (F.CU_CTL_mode.of (BitVec.toNat v) = 3 ∨ s.get F.CU_CNT_count (↑u : ℕ) < if F.CU_CTL_mode.of (BitVec.toNat v) = 1 then 2 * s.get F.CU_PER_p (↑u : ℕ) else s.get F.CU_PER_p (↑u : ℕ)) ∧
      (s.cuOf (↑u : ℕ)).on = false ∧
      s.is F.CU_SYNC_gate (↑u : ℕ) = false) ∧
    (∃ (t : ℕ) (u : Fin 128) (v : Word) (s : State), CuAlone s (↑u : ℕ) ∧
      s.is F.CU_SYNC_clk (↑u : ℕ) = false ∧
      HwIdle t RegName.CU_CTL (↑u : ℕ) s ∧
      (s.cuOf (↑u : ℕ)).held = [] ∧
      s.rung < 3 ∧
      s.is F.CU_CTL_run (↑u : ℕ) = true ∧
      F.CU_CTL_run.of (BitVec.toNat v) = 0 ∧
      F.CU_CTL_mode.of (BitVec.toNat v) = s.get F.CU_CTL_mode (↑u : ℕ) ∧
      F.CU_CTL_spp.of (BitVec.toNat v) = s.get F.CU_CTL_spp (↑u : ℕ) ∧
      F.CU_CTL_bmode.of (BitVec.toNat v) = s.get F.CU_CTL_bmode (↑u : ℕ) ∧
      F.CU_CTL_pola.of (BitVec.toNat v) = s.get F.CU_CTL_pola (↑u : ℕ) ∧
      F.CU_CTL_polb.of (BitVec.toNat v) = s.get F.CU_CTL_polb (↑u : ℕ) ∧
      F.CU_CTL_oen.of (BitVec.toNat v) = s.get F.CU_CTL_oen (↑u : ℕ) ∧
      s.get F.CU_CTL_mode (↑u : ℕ) ≠ 3 ∧
      F.CU_CTL_spp.of (BitVec.toNat v) ≠ 3 ∧
      (¬(F.CU_CTL_spp.of (BitVec.toNat v) = 2 ∧ F.CU_CTL_bmode.of (BitVec.toNat v) = 1)) ∧
      (s.cuOf (↑u : ℕ)).counting = true ∧
      (s.cuOf (↑u : ℕ)).gov.clk = false ∧
      (s.cuOf (↑u : ℕ)).gov.mode ≠ 3 ∧
      (s.cuOf (↑u : ℕ)).pstart ≤ (↑((max s.now t / 64 + 1) * 64) : ℤ) ∧
      ((↑((max s.now t / 64 + 1) * 64) : ℤ) ≤ (s.cuOf (↑u : ℕ)).pstart + if (s.cuOf (↑u : ℕ)).gov.mode = 1 then 128 * (↑(s.cuOf (↑u : ℕ)).gov.p : ℤ) else 64 * (↑(s.cuOf (↑u : ℕ)).gov.p : ℤ)) ∧
      0 < (s.cuOf (↑u : ℕ)).gov.p) ∧
    (∃ (t : ℕ) (u : Fin 128) (v : Word) (s : State), CuAlone s (↑u : ℕ) ∧
      s.is F.CU_SYNC_clk (↑u : ℕ) = false ∧
      HwIdle t RegName.CU_CTL (↑u : ℕ) s ∧
      (s.cuOf (↑u : ℕ)).held = [] ∧
      s.rung < 3 ∧
      F.CU_CTL_run.of (BitVec.toNat v) = s.get F.CU_CTL_run (↑u : ℕ) ∧
      F.CU_CTL_mode.of (BitVec.toNat v) = s.get F.CU_CTL_mode (↑u : ℕ) ∧
      F.CU_CTL_spp.of (BitVec.toNat v) = s.get F.CU_CTL_spp (↑u : ℕ) ∧
      F.CU_CTL_bmode.of (BitVec.toNat v) = s.get F.CU_CTL_bmode (↑u : ℕ) ∧
      F.CU_CTL_pola.of (BitVec.toNat v) = s.get F.CU_CTL_pola (↑u : ℕ) ∧
      F.CU_CTL_polb.of (BitVec.toNat v) = s.get F.CU_CTL_polb (↑u : ℕ) ∧
      (¬F.CU_CTL_oen.of (BitVec.toNat v) = s.get F.CU_CTL_oen (↑u : ℕ)) ∧
      F.CU_CTL_spp.of (BitVec.toNat v) ≠ 3 ∧
      (¬(F.CU_CTL_spp.of (BitVec.toNat v) = 2 ∧ F.CU_CTL_bmode.of (BitVec.toNat v) = 1)) ∧
      s.is F.PWR_PFSTAT_act 0 = false) ∧
    (∃ (t : ℕ) (u : Fin 128) (s : State), CuAlone s (↑u : ℕ) ∧
      s.is F.CU_SYNC_clk (↑u : ℕ) = false ∧
      HwIdle t RegName.CU_CTL (↑u : ℕ) s ∧
      (s.cuOf (↑u : ℕ)).held = [] ∧
      s.rung < 3 ∧
      arrives s (s.get F.CU_SYNCEV_ch (↑u : ℕ)) { rank := 3, inst := (↑u : ℕ) } t = true ∧
      s.is F.CU_SYNC_xev (↑u : ℕ) = true ∧
      s.is F.CU_SYNC_gate (↑u : ℕ) = true ∧
      s.is F.CU_SYNC_rst (↑u : ℕ) = false ∧
      (s.get F.CU_CTL_mode (↑u : ℕ) = 3 ∨ s.get F.CU_CNT_count (↑u : ℕ) < if s.get F.CU_CTL_mode (↑u : ℕ) = 1 then 2 * s.get F.CU_PER_p (↑u : ℕ) else s.get F.CU_PER_p (↑u : ℕ)) ∧
      (s.cuOf (↑u : ℕ)).on = true ∧
      (s.cuOf (↑u : ℕ)).fresh = true ∧
      (s.cuOf (↑u : ℕ)).counting = false) ∧
    (∃ (t : ℕ) (u : Fin 128) (s : State), CuAlone s (↑u : ℕ) ∧
      s.is F.CU_SYNC_clk (↑u : ℕ) = false ∧
      HwIdle t RegName.CU_CTL (↑u : ℕ) s ∧
      (s.cuOf (↑u : ℕ)).held = [] ∧
      s.rung < 3 ∧
      arrives s (s.get F.CU_SYNCEV_ch (↑u : ℕ)) { rank := 3, inst := (↑u : ℕ) } t = true ∧
      s.is F.CU_SYNC_xev (↑u : ℕ) = true ∧
      s.is F.CU_SYNC_gate (↑u : ℕ) = false ∧
      s.is F.CU_SYNC_rst (↑u : ℕ) = true ∧
      (s.cuOf (↑u : ℕ)).on = true ∧
      (s.cuOf (↑u : ℕ)).counting = true ∧
      (s.cuOf (↑u : ℕ)).gov.clk = false ∧
      s.get F.CU_CTL_mode (↑u : ℕ) ≠ 3 ∧
      ((if s.get F.CU_CTL_mode (↑u : ℕ) = 1 then 2 * (s.cuOf (↑u : ℕ)).gov.p else (s.cuOf (↑u : ℕ)).gov.p) ≤ s.get F.CU_PHASE_v (↑u : ℕ))) ∧
    (∃ (t : ℕ) (u : Fin 128) (s : State), CuAlone s (↑u : ℕ) ∧
      s.is F.CU_SYNC_clk (↑u : ℕ) = false ∧
      HwIdle t RegName.CU_CTL (↑u : ℕ) s ∧
      (s.cuOf (↑u : ℕ)).held = [] ∧
      s.rung < 3 ∧
      arrives s (s.get F.CU_SYNCEV_ch (↑u : ℕ)) { rank := 3, inst := (↑u : ℕ) } t = true ∧
      s.is F.CU_SYNC_xev (↑u : ℕ) = true ∧
      s.is F.CU_SYNC_gate (↑u : ℕ) = false ∧
      s.is F.CU_SYNC_rst (↑u : ℕ) = true ∧
      (s.cuOf (↑u : ℕ)).on = true ∧
      (s.cuOf (↑u : ℕ)).counting = true ∧
      (s.cuOf (↑u : ℕ)).gov.clk = false ∧
      s.get F.CU_CTL_mode (↑u : ℕ) ≠ 3 ∧
      (s.get F.CU_PHASE_v (↑u : ℕ) < if s.get F.CU_CTL_mode (↑u : ℕ) = 1 then 2 * (s.cuOf (↑u : ℕ)).gov.p else (s.cuOf (↑u : ℕ)).gov.p) ∧
      cuCount s (↑u : ℕ) (↑((t + 63) / 64 * 64) : ℤ) = s.get F.CU_PHASE_v (↑u : ℕ)) ∧
    (∃ (t : ℕ) (u : Fin 128) (s : State), CuAlone s (↑u : ℕ) ∧
      s.is F.CU_SYNC_clk (↑u : ℕ) = false ∧
      HwIdle t RegName.CU_CTL (↑u : ℕ) s ∧
      (s.cuOf (↑u : ℕ)).held = [] ∧
      s.rung < 3 ∧
      arrives s (s.get F.CU_SYNCEV_ch (↑u : ℕ)) { rank := 3, inst := (↑u : ℕ) } t = true ∧
      s.is F.CU_SYNC_xev (↑u : ℕ) = true ∧
      s.is F.CU_SYNC_gate (↑u : ℕ) = false ∧
      s.is F.CU_SYNC_rst (↑u : ℕ) = true ∧
      (s.cuOf (↑u : ℕ)).on = true ∧
      (s.cuOf (↑u : ℕ)).counting = true ∧
      (s.cuOf (↑u : ℕ)).gov.clk = false ∧
      s.get F.CU_CTL_mode (↑u : ℕ) ≠ 3 ∧
      (s.get F.CU_PHASE_v (↑u : ℕ) < if s.get F.CU_CTL_mode (↑u : ℕ) = 1 then 2 * (s.cuOf (↑u : ℕ)).gov.p else (s.cuOf (↑u : ℕ)).gov.p) ∧
      cuCount s (↑u : ℕ) (↑((t + 63) / 64 * 64) : ℤ) ≠ s.get F.CU_PHASE_v (↑u : ℕ)) :=
  ⟨⟨6400000000000, 0, (131072 : Word), ((((State.reset.put F.CU_CNT_count 0 1000).put F.CU_SYNC_clk 0 0).put F.CU_CTL_run 0 0)).setCu 0 { ((((State.reset.put F.CU_CNT_count 0 1000).put F.CU_SYNC_clk 0 0).put F.CU_CTL_run 0 0)).cuOf 0 with held := [] }, (by unfold CuAlone; decide), by decide, (by unfold HwIdle; decide), by decide, by decide, by decide, by decide, by decide, by decide, by decide⟩,
    ⟨6400000000000, 0, (131072 : Word), ((((State.reset.put F.CU_SYNC_clk 0 0).put F.CU_CTL_run 0 0).put F.CU_SYNC_gate 0 0)).setCu 0 { ((((State.reset.put F.CU_SYNC_clk 0 0).put F.CU_CTL_run 0 0).put F.CU_SYNC_gate 0 0)).cuOf 0 with held := [], on := false }, (by unfold CuAlone; decide), by decide, (by unfold HwIdle; decide), by decide, by decide, by decide, by decide, by decide, by decide, by decide, by decide, by decide⟩,
    ⟨0, 0, (0 : Word), (((((State.reset.put F.CU_CTL_run 0 1).setCu 0 { ({} : CuS) with on := true, counting := true, gov := { ({} : Gov) with p := 16 } }).put F.CU_SYNC_clk 0 0).put F.CU_CTL_run 0 1)).setCu 0 { (((((State.reset.put F.CU_CTL_run 0 1).setCu 0 { ({} : CuS) with on := true, counting := true, gov := { ({} : Gov) with p := 16 } }).put F.CU_SYNC_clk 0 0).put F.CU_CTL_run 0 1)).cuOf 0 with held := [] }, (by unfold CuAlone; decide), by decide, (by unfold HwIdle; decide), by decide, by decide, by decide, by decide, by decide, by decide, by decide, by decide, by decide, by decide, by decide, by decide, by decide, by decide, by decide, by decide, by decide, by decide, by decide⟩,
    ⟨6400000000000, 0, (2048 : Word), (((State.reset.put F.CU_SYNC_clk 0 0).put F.PWR_PFSTAT_act 0 0)).setCu 0 { (((State.reset.put F.CU_SYNC_clk 0 0).put F.PWR_PFSTAT_act 0 0)).cuOf 0 with held := [] }, (by unfold CuAlone; decide), by decide, (by unfold HwIdle; decide), by decide, by decide, by decide, by decide, by decide, by decide, by decide, by decide, by decide, by decide, by decide, by decide⟩,
    ⟨6400000000000, 0, ((((((coming ((State.reset.put F.CU_SYNC_xev 0 1).put F.CU_PER_p 0 16) 0 { rank := 3, inst := 0 }).put F.CU_SYNC_clk 0 0).put F.CU_SYNC_xev 0 1).put F.CU_SYNC_gate 0 1).put F.CU_SYNC_rst 0 0)).setCu 0 { ((((((coming ((State.reset.put F.CU_SYNC_xev 0 1).put F.CU_PER_p 0 16) 0 { rank := 3, inst := 0 }).put F.CU_SYNC_clk 0 0).put F.CU_SYNC_xev 0 1).put F.CU_SYNC_gate 0 1).put F.CU_SYNC_rst 0 0)).cuOf 0 with held := [], on := true, fresh := true, counting := false }, (by unfold CuAlone; decide), by decide, (by unfold HwIdle; decide), by decide, by decide, by decide, by decide, by decide, by decide, by decide, by decide, by decide, by decide⟩,
    ⟨6400000000000, 0, (((((((coming ((State.reset.put F.CU_SYNC_xev 0 1).setCu 0 { ({} : CuS) with on := true, counting := true, pstart := 6399999999936, gov := { ({} : Gov) with p := 16 } }) 0 { rank := 3, inst := 0 }).put F.CU_PHASE_v 0 16).put F.CU_SYNC_clk 0 0).put F.CU_SYNC_xev 0 1).put F.CU_SYNC_gate 0 0).put F.CU_SYNC_rst 0 1)).setCu 0 { (((((((coming ((State.reset.put F.CU_SYNC_xev 0 1).setCu 0 { ({} : CuS) with on := true, counting := true, pstart := 6399999999936, gov := { ({} : Gov) with p := 16 } }) 0 { rank := 3, inst := 0 }).put F.CU_PHASE_v 0 16).put F.CU_SYNC_clk 0 0).put F.CU_SYNC_xev 0 1).put F.CU_SYNC_gate 0 0).put F.CU_SYNC_rst 0 1)).cuOf 0 with held := [] }, (by unfold CuAlone; decide), by decide, (by unfold HwIdle; decide), by decide, by decide, by decide, by decide, by decide, by decide, by decide, by decide, by decide, by decide, by decide⟩,
    ⟨6400000000000, 0, (((((((coming ((State.reset.put F.CU_SYNC_xev 0 1).setCu 0 { ({} : CuS) with on := true, counting := true, pstart := 6399999999936, gov := { ({} : Gov) with p := 16 } }) 0 { rank := 3, inst := 0 }).put F.CU_PHASE_v 0 1).put F.CU_SYNC_clk 0 0).put F.CU_SYNC_xev 0 1).put F.CU_SYNC_gate 0 0).put F.CU_SYNC_rst 0 1)).setCu 0 { (((((((coming ((State.reset.put F.CU_SYNC_xev 0 1).setCu 0 { ({} : CuS) with on := true, counting := true, pstart := 6399999999936, gov := { ({} : Gov) with p := 16 } }) 0 { rank := 3, inst := 0 }).put F.CU_PHASE_v 0 1).put F.CU_SYNC_clk 0 0).put F.CU_SYNC_xev 0 1).put F.CU_SYNC_gate 0 0).put F.CU_SYNC_rst 0 1)).cuOf 0 with held := [] }, (by unfold CuAlone; decide), by decide, (by unfold HwIdle; decide), by decide, by decide, by decide, by decide, by decide, by decide, by decide, by decide, by decide, by decide, by decide, by decide⟩,
    ⟨6400000000000, 0, (((((((coming ((State.reset.put F.CU_SYNC_xev 0 1).setCu 0 { ({} : CuS) with on := true, counting := true, pstart := 6399999999936, gov := { ({} : Gov) with p := 16 } }) 0 { rank := 3, inst := 0 }).put F.CU_PHASE_v 0 15).put F.CU_SYNC_clk 0 0).put F.CU_SYNC_xev 0 1).put F.CU_SYNC_gate 0 0).put F.CU_SYNC_rst 0 1)).setCu 0 { (((((((coming ((State.reset.put F.CU_SYNC_xev 0 1).setCu 0 { ({} : CuS) with on := true, counting := true, pstart := 6399999999936, gov := { ({} : Gov) with p := 16 } }) 0 { rank := 3, inst := 0 }).put F.CU_PHASE_v 0 15).put F.CU_SYNC_clk 0 0).put F.CU_SYNC_xev 0 1).put F.CU_SYNC_gate 0 0).put F.CU_SYNC_rst 0 1)).cuOf 0 with held := [] }, (by unfold CuAlone; decide), by decide, (by unfold HwIdle; decide), by decide, by decide, by decide, by decide, by decide, by decide, by decide, by decide, by decide, by decide, by decide, by decide⟩⟩

/-- The hypotheses of clauses of `Obligations.DeviceReset` are met. -/
theorem wit_DeviceReset :
    (∃ (s : State) (c : ℕ) (k : ℕ), s.canonical = true ∧
      s.boot.held = false ∧
      s.devRst = some (c, k)) ∧
    (∃ (s : State), s.canonical = true ∧
      s.boot.held = false ∧
      s.devRst = none) ∧
    (∃ (s : State), s.canonical = true ∧
      s.boot.held = true) :=
  ⟨⟨{ { State.reset with devRst := some (2, 5) } with boot := { ({ State.reset with devRst := some (2, 5) }).boot with held := false } }, 2, 5, by decide, by decide, by decide⟩,
    ⟨{ { State.reset with devRst := none } with boot := { ({ State.reset with devRst := none }).boot with held := false } }, by decide, by decide, by decide⟩,
    ⟨{ State.reset with boot := { (State.reset).boot with held := true } }, by decide, by decide⟩⟩

/-- The hypotheses of clauses of `Obligations.FabricOwnership` are met. -/
theorem wit_FabricOwnership :
    (∃ (t : ℕ) (c : Fin 16) (v : Word) (s : State) (n : Fin 64), BitVec.getLsbD v 8 = true ∧
      BitVec.getLsbD v 17 = true ∧
      s.is F.LC_CTL_en (↑n : ℕ) = true ∧
      (s.get F.LC_OWN_core (↑n : ℕ) = 31 ∨ s.get F.LC_OWN_core (↑n : ℕ) = (↑c : ℕ)) ∧
      (F.LC_CTL_ff.of (BitVec.toNat v) = s.get F.LC_CTL_ff (↑n : ℕ) ∧ F.LC_CTL_filt.of (BitVec.toNat v) = s.get F.LC_CTL_filt (↑n : ℕ) ∧ F.LC_CTL_mclk.of (BitVec.toNat v) = s.get F.LC_CTL_mclk (↑n : ℕ)) ∧
      s.get F.LC_CTL_ff (↑n : ℕ) = 1 ∧
      (∀ (x : ℕ), (s.lcOf (↑n : ℕ)).setAt = some x → x / 64 * 64 ≠ max s.now t / 64 * 64) ∧
      (∀ x ∈ (s.lcOf (↑n : ℕ)).outAt, x ≤ max s.now t)) ∧
    (∃ (c : Fin 16) (v : Word) (s : State) (n : Fin 64), s.is F.LC_CTL_en (↑n : ℕ) = false ∧
      BitVec.getLsbD v 17 = true ∧
      BitVec.getLsbD v 8 = false ∧
      ((s.get F.LC_OWN_core (↑n : ℕ) = 31 ∨ s.get F.LC_OWN_core (↑n : ℕ) = (↑c : ℕ)) ∧ s.is F.LC_OWN_seal (↑n : ℕ) = false ∧ F.LC_CTL_ff.of (BitVec.toNat v) ≠ 3 ∧ ¬(F.LC_CTL_filt.of (BitVec.toNat v) = 2 ∧ 6 ≤ F.LC_CTL_mclk.of (BitVec.toNat v)) ∧ ¬(F.LC_CTL_filt.of (BitVec.toNat v) = 1 ∧ (s.get F.LC_FILT_n (↑n : ℕ) = 0 ∨ 255 < s.get F.LC_FILT_n (↑n : ℕ))) ∧ ¬(F.LC_CTL_filt.of (BitVec.toNat v) = 3 ∧ s.get F.LC_FILT_n (↑n : ℕ) = 0))) ∧
    (∃ (c : Fin 16) (v : Word) (s : State) (n : Fin 64), s.is F.LC_CTL_en (↑n : ℕ) = false ∧
      BitVec.getLsbD v 17 = true ∧
      BitVec.getLsbD v 8 = false ∧
      (¬((s.get F.LC_OWN_core (↑n : ℕ) = 31 ∨ s.get F.LC_OWN_core (↑n : ℕ) = (↑c : ℕ)) ∧ s.is F.LC_OWN_seal (↑n : ℕ) = false ∧ F.LC_CTL_ff.of (BitVec.toNat v) ≠ 3 ∧ ¬(F.LC_CTL_filt.of (BitVec.toNat v) = 2 ∧ 6 ≤ F.LC_CTL_mclk.of (BitVec.toNat v)) ∧ ¬(F.LC_CTL_filt.of (BitVec.toNat v) = 1 ∧ (s.get F.LC_FILT_n (↑n : ℕ) = 0 ∨ 255 < s.get F.LC_FILT_n (↑n : ℕ))) ∧ ¬(F.LC_CTL_filt.of (BitVec.toNat v) = 3 ∧ s.get F.LC_FILT_n (↑n : ℕ) = 0)))) ∧
    (∃ (c : Fin 16) (v : Word) (s : State) (cell : Bool) (n : Fin 512), (cell = true → (↑n : ℕ) < 64) ∧
      (BitVec.toNat v % 32 ≠ s.get { reg := if cell = true then RegName.LC_OWN else RegName.EV_OWN, lo := 0, w := 5 } (↑n : ℕ)) ∧
      (BitVec.toNat v % 32 < 16 ∨ BitVec.toNat v % 32 = 31) ∧
      (s.is { reg := if cell = true then RegName.LC_OWN else RegName.EV_OWN, lo := 17, w := 1 } (↑n : ℕ) = false ∧ (s.get { reg := if cell = true then RegName.LC_OWN else RegName.EV_OWN, lo := 0, w := 5 } (↑n : ℕ) = 31 ∧ BitVec.toNat v % 32 = (↑c : ℕ) ∨ s.get { reg := if cell = true then RegName.LC_OWN else RegName.EV_OWN, lo := 0, w := 5 } (↑n : ℕ) = (↑c : ℕ)))) ∧
    (∃ (c : Fin 16) (v : Word) (s : State) (cell : Bool) (n : Fin 512), (cell = true → (↑n : ℕ) < 64) ∧
      (BitVec.toNat v % 32 ≠ s.get { reg := if cell = true then RegName.LC_OWN else RegName.EV_OWN, lo := 0, w := 5 } (↑n : ℕ)) ∧
      (BitVec.toNat v % 32 < 16 ∨ BitVec.toNat v % 32 = 31) ∧
      (¬(s.is { reg := if cell = true then RegName.LC_OWN else RegName.EV_OWN, lo := 17, w := 1 } (↑n : ℕ) = false ∧ (s.get { reg := if cell = true then RegName.LC_OWN else RegName.EV_OWN, lo := 0, w := 5 } (↑n : ℕ) = 31 ∧ BitVec.toNat v % 32 = (↑c : ℕ) ∨ s.get { reg := if cell = true then RegName.LC_OWN else RegName.EV_OWN, lo := 0, w := 5 } (↑n : ℕ) = (↑c : ℕ))))) ∧
    (∃ (c : Fin 16) (v : Word) (s : State) (cell : Bool) (n : Fin 512), (cell = true → (↑n : ℕ) < 64) ∧
      BitVec.getLsbD v 17 = true ∧
      (s.is { reg := if cell = true then RegName.LC_OWN else RegName.EV_OWN, lo := 17, w := 1 } (↑n : ℕ) = false) ∧
      (s.get { reg := if cell = true then RegName.LC_OWN else RegName.EV_OWN, lo := 0, w := 5 } (↑n : ℕ) = (↑c : ℕ))) ∧
    (∃ (c : Fin 16) (v : Word) (s : State) (cell : Bool) (n : Fin 512), (cell = true → (↑n : ℕ) < 64) ∧
      BitVec.getLsbD v 17 = true ∧
      (s.is { reg := if cell = true then RegName.LC_OWN else RegName.EV_OWN, lo := 17, w := 1 } (↑n : ℕ) = false) ∧
      (s.get { reg := if cell = true then RegName.LC_OWN else RegName.EV_OWN, lo := 0, w := 5 } (↑n : ℕ) ≠ (↑c : ℕ))) :=
  ⟨⟨6400000000000, 0, (164096 : Word), (((State.reset.put F.LC_CTL_ff 0 1).put F.LC_CTL_en 0 1).put F.LC_CTL_ff 0 1), 0, by decide, by decide, by decide, by decide, by decide, by decide, (fun _ h => nomatch h), by decide⟩,
    ⟨0, (131072 : Word), ((State.reset.put F.LC_CTL_en 0 0).put F.LC_OWN_seal 0 0), 0, by decide, by decide, by decide, by decide⟩,
    ⟨0, (229376 : Word), (State.reset.put F.LC_CTL_en 0 0), 0, by decide, by decide, by decide, by decide⟩,
    ⟨0, (0 : Word), State.reset, false, 0, by decide, by decide, by decide, by decide⟩,
    ⟨1, (5 : Word), (State.reset.put F.EV_OWN_core 0 0), false, 0, by decide, by decide, by decide, by decide⟩,
    ⟨0, (131072 : Word), (State.reset.put F.EV_OWN_core 0 0), false, 0, by decide, by decide, by decide, by decide⟩,
    ⟨0, (131072 : Word), State.reset, false, 0, by decide, by decide, by decide, by decide⟩⟩

/-- The hypotheses of clauses of `Obligations.HarbourLocks` are met. -/
theorem wit_HarbourLocks :
    (∃ (q : Req) (n : Fin 256) (s : State), q ≠ Req.debug ∧
      (s.get F.LOCK_OWN_state (↑n : ℕ) = 0 ∨ s.get F.LOCK_OWN_state (↑n : ℕ) = 2)) ∧
    (∃ (q : Req) (n : Fin 256) (s : State), q = Req.debug ∨ s.get F.LOCK_OWN_state (↑n : ℕ) = 1 ∨ s.get F.LOCK_OWN_state (↑n : ℕ) = 3) ∧
    (∃ (v : Word), F.LOCK_CMD_rel.of (BitVec.toNat v) = 1) ∧
    (∃ (v : Word), F.LOCK_CMD_rep.of (BitVec.toNat v) = 1) ∧
    (∃ (v : Word), F.LOCK_CMD_renew.of (BitVec.toNat v) = 1) ∧
    (∃ (t : ℕ) (n : Fin 256) (s : State) (d : ℕ), (s.lockOf (↑n : ℕ)).due = some d ∧
      (s.get F.LOCK_OWN_state (↑n : ℕ) = 1 ∨ s.get F.LOCK_OWN_state (↑n : ℕ) = 3) ∧
      s.rung < 3 ∧
      d ≤ max s.now t) :=
  ⟨⟨(.core 0 : Req), 0, State.reset, by decide, by decide⟩,
    ⟨.debug, 0, State.reset, by decide⟩,
    ⟨(131072 : Word), by decide⟩,
    ⟨(65536 : Word), by decide⟩,
    ⟨(32768 : Word), by decide⟩,
    ⟨6400000000000, 0, ((State.reset.put F.LOCK_OWN_state 0 3)).setLock 0 { ((State.reset.put F.LOCK_OWN_state 0 3)).lockOf 0 with due := some 0 }, 0, by decide, by decide, by decide, by decide⟩⟩

/-- The hypotheses of clauses of `Obligations.InstructionFetch` are met. -/
theorem wit_InstructionFetch :
    (∃ (m : CoreCmd) (c : Fin 16) (s : State), m ∈ registerCmds ∧
      canRun s (↑c : ℕ) = false) ∧
    (∃ (m : CoreCmd) (c : Fin 16) (s : State), m ∈ registerCmds ∧
      canRun s (↑c : ℕ) = true ∧
      (¬MayFetch (s.coreOf (↑c : ℕ)))) ∧
    (∃ (m : CoreCmd) (c : Fin 16) (x : Fields) (s : State), m ∈ registerCmds ∧
      canRun s (↑c : ℕ) = true ∧
      MayFetch (s.coreOf (↑c : ℕ)) ∧
      (slack s = false ∧ Store.get (fun x ↦ false) (s.coreOf (↑c : ℕ)).ic ((s.coreOf (↑c : ℕ)).pc.toNat / 32) = true)) ∧
    (∃ (m : CoreCmd) (c : Fin 16) (x : Fields) (s : State), m ∈ registerCmds ∧
      canRun s (↑c : ℕ) = true ∧
      MayFetch (s.coreOf (↑c : ℕ)) ∧
      (¬(slack s = false ∧ Store.get (fun x ↦ false) (s.coreOf (↑c : ℕ)).ic ((s.coreOf (↑c : ℕ)).pc.toNat / 32) = true)) ∧
      regionOf (s.coreOf (↑c : ℕ)).pc.toNat = Region.sram ∧
      awaitsBank s (↑c : ℕ) (bankAt (s.coreOf (↑c : ℕ)).pc.toNat) = true) ∧
    (∃ (m : CoreCmd) (c : Fin 16) (x : Fields) (s : State), m ∈ registerCmds ∧
      canRun s (↑c : ℕ) = true ∧
      MayFetch (s.coreOf (↑c : ℕ)) ∧
      (¬(slack s = false ∧ Store.get (fun x ↦ false) (s.coreOf (↑c : ℕ)).ic ((s.coreOf (↑c : ℕ)).pc.toNat / 32) = true)) ∧
      regionOf (s.coreOf (↑c : ℕ)).pc.toNat = Region.sram ∧
      awaitsBank s (↑c : ℕ) (bankAt (s.coreOf (↑c : ℕ)).pc.toNat) = false ∧
      ownsBank s (↑c : ℕ) (bankAt (s.coreOf (↑c : ℕ)).pc.toNat) = false) ∧
    (∃ (m : CoreCmd) (c : Fin 16) (x : Fields) (s : State), m ∈ registerCmds ∧
      canRun s (↑c : ℕ) = true ∧
      MayFetch (s.coreOf (↑c : ℕ)) ∧
      (¬(slack s = false ∧ Store.get (fun x ↦ false) (s.coreOf (↑c : ℕ)).ic ((s.coreOf (↑c : ℕ)).pc.toNat / 32) = true)) ∧
      regionOf (s.coreOf (↑c : ℕ)).pc.toNat = Region.flash ∧
      (s.flOf ((s.coreOf (↑c : ℕ)).pc.toNat / 2097152)).run.isSome = true) ∧
    (∃ (m : CoreCmd) (c : Fin 16) (x : Fields) (s : State), m ∈ registerCmds ∧
      canRun s (↑c : ℕ) = true ∧
      MayFetch (s.coreOf (↑c : ℕ)) ∧
      (¬(slack s = false ∧ Store.get (fun x ↦ false) (s.coreOf (↑c : ℕ)).ic ((s.coreOf (↑c : ℕ)).pc.toNat / 32) = true)) ∧
      (regionOf (s.coreOf (↑c : ℕ)).pc.toNat = Region.sram ∧ awaitsBank s (↑c : ℕ) (bankAt (s.coreOf (↑c : ℕ)).pc.toNat) = false ∧ ownsBank s (↑c : ℕ) (bankAt (s.coreOf (↑c : ℕ)).pc.toNat) = true ∧ ((s.sramOf (sramIx (s.coreOf (↑c : ℕ)).pc.toNat)).ecc = Ecc.bad ∨ (s.sramOf (sramIx (s.coreOf (↑c : ℕ)).pc.toNat + 1)).ecc = Ecc.bad) ∨ regionOf (s.coreOf (↑c : ℕ)).pc.toNat = Region.flash ∧ (s.flOf ((s.coreOf (↑c : ℕ)).pc.toNat / 2097152)).run.isSome = false ∧ (s.flBlkOf ((s.coreOf (↑c : ℕ)).pc.toNat / 8192)).ecomp = true ∧ (s.flashOf ((s.coreOf (↑c : ℕ)).pc.toNat / 8)).undef = false ∧ (s.flashOf ((s.coreOf (↑c : ℕ)).pc.toNat / 8)).ecc = Ecc.bad)) ∧
    (∃ (m : CoreCmd) (c : Fin 16) (x : Fields) (s : State), m ∈ registerCmds ∧
      canRun s (↑c : ℕ) = true ∧
      MayFetch (s.coreOf (↑c : ℕ)) ∧
      (¬(slack s = false ∧ Store.get (fun x ↦ false) (s.coreOf (↑c : ℕ)).ic ((s.coreOf (↑c : ℕ)).pc.toNat / 32) = true)) ∧
      (regionOf (s.coreOf (↑c : ℕ)).pc.toNat = Region.rom ∨ (regionOf (s.coreOf (↑c : ℕ)).pc.toNat = Region.flash ∧ (s.flOf ((s.coreOf (↑c : ℕ)).pc.toNat / 2097152)).run.isSome = false ∧ ∀ i < 4, (s.flBlkOf (((s.coreOf (↑c : ℕ)).pc.toNat / 32 * 4 + i) / 1024)).ecomp = true ∧ (s.flashOf ((s.coreOf (↑c : ℕ)).pc.toNat / 32 * 4 + i)).undef = false ∧ (s.flashOf ((s.coreOf (↑c : ℕ)).pc.toNat / 32 * 4 + i)).ecc = Ecc.good) ∨ regionOf (s.coreOf (↑c : ℕ)).pc.toNat = Region.sram ∧ awaitsBank s (↑c : ℕ) (bankAt (s.coreOf (↑c : ℕ)).pc.toNat) = false ∧ ownsBank s (↑c : ℕ) (bankAt (s.coreOf (↑c : ℕ)).pc.toNat) = true ∧ ∀ i < 16, (s.sramOf (sramIx ((s.coreOf (↑c : ℕ)).pc.toNat / 32 * 32) + i)).ecc = Ecc.good) ∧
      slack s = true) :=
  ⟨⟨registerCmds[3], 0, State.reset, (List.getElem_mem (by decide)), by decide⟩,
    ⟨registerCmds[3], 0, (running { core0 with pcc := { aCap with tag := false } }), (List.getElem_mem (by decide)), by decide, (by unfold MayFetch; decide)⟩,
    ⟨registerCmds[3], 0, (0 : Fields), (running { core0 with ic := [(0, true)] }), (List.getElem_mem (by decide)), by decide, (by unfold MayFetch; decide), by decide⟩,
    ⟨registerCmds[3], 0, (0 : Fields), (((running { core0 with pc := 8388608 }).put F.BANK_STAT_hpend 0 1).setBank 0 (some (0, 0))), (List.getElem_mem (by decide)), by decide, (by unfold MayFetch; decide), by decide, by decide, by decide⟩,
    ⟨registerCmds[3], 0, (0 : Fields), ((running { core0 with pc := 8388608 }).put F.BANK_OWN_id 0 7), (List.getElem_mem (by decide)), by decide, (by unfold MayFetch; decide), by decide, by decide, by decide, by decide⟩,
    ⟨registerCmds[3], 0, (0 : Fields), ((running core0).setFl 0 { run := some ⟨.erase 0, 0, false⟩ }), (List.getElem_mem (by decide)), by decide, (by unfold MayFetch; decide), by decide, by decide, by decide⟩,
    ⟨registerCmds[3], 0, (0 : Fields), ((running { core0 with pc := 8388608 }).setSram 0 { w := 0, tag := false, ecc := .bad }), (List.getElem_mem (by decide)), by decide, (by unfold MayFetch; decide), by decide, by decide⟩,
    ⟨registerCmds[3], 0, (0 : Fields), ((running core0).put F.MODE_STAT_cur 0 2), (List.getElem_mem (by decide)), by decide, (by unfold MayFetch; decide), by decide, by decide, by decide⟩⟩

/-- The hypotheses of clauses of `Obligations.LinkControl` are met. -/
theorem wit_LinkControl_1 :
    (∃ (p : Fin 4) (f : Frame) (s : State) (k : ℕ), Unsequenced s (↑p : ℕ) f 2 (framePair f 4) ∧
      (s.linkOf (↑p : ℕ)).txq = [] ∧
      (∀ e ∈ (s.linkOf (↑p : ℕ)).retry, e.slot = none) ∧
      (s.linkOf (↑p : ℕ)).retry.length < 256 ∧
      k ≤ (s.linkOf (↑p : ℕ)).retry.length ∧
      ((s.linkOf (↑p : ℕ)).tx - (s.linkOf (↑p : ℕ)).retry.length + k) % 256 = (frameW f 0 + 1) % 256 ∧
      frameBit f 0 17 = false) ∧
    (∃ (p : Fin 4) (f : Frame) (s : State) (k : ℕ), Unsequenced s (↑p : ℕ) f 2 (framePair f 4) ∧
      (s.linkOf (↑p : ℕ)).txq = [] ∧
      (∀ e ∈ (s.linkOf (↑p : ℕ)).retry, e.slot = none) ∧
      (s.linkOf (↑p : ℕ)).retry.length < 256 ∧
      k ≤ (s.linkOf (↑p : ℕ)).retry.length ∧
      ((s.linkOf (↑p : ℕ)).tx - (s.linkOf (↑p : ℕ)).retry.length + k) % 256 = (frameW f 0 + 1) % 256 ∧
      frameBit f 0 17 = true ∧
      (¬∃ e ∈ (s.linkOf (↑p : ℕ)).retry, (if s.get F.MODE_STAT_cur 0 = 1 then s.get F.LK_RETRY_rbs 0 else s.get F.LK_RETRY_rbn 0) + 1 ≤ e.n)) ∧
    (∃ (p : Fin 4) (f : Frame) (s : State) (e : RtEnt) (k : ℕ) (j : TxJob), (s.linkOf (↑p : ℕ)).retry = [e] ∧
      e.slot = some k ∧
      (s.txsOf k).job = some j ∧
      Unsequenced s (↑p : ℕ) f 2 (framePair f 4) ∧
      (s.linkOf (↑p : ℕ)).txq = [] ∧
      j.kind = 1 ∧
      e.f.tag = BitVec.ofNat 8 j.tag ∧
      frameBit f 0 17 = false ∧
      ((s.linkOf (↑p : ℕ)).tx - 1 + 1) % 256 = (frameW f 0 + 1) % 256) ∧
    (∃ (t : ℕ) (p : Fin 4) (s : State), s.get F.LK_PSTAT_state (↑p : ℕ) = 3 ∧
      ((s.linkOf (↑p : ℕ)).chg = true ∨ (s.linkOf (↑p : ℕ)).lstatDue ≤ max s.now t)) ∧
    (∃ (p : Fin 4) (f : Frame) (s : State), Unsequenced s (↑p : ℕ) f 3 (framePair f 0) ∧
      frameBit f 2 17 = false) ∧
    (∃ (p : Fin 4) (f : Frame) (s : State), Unsequenced s (↑p : ℕ) f 3 (framePair f 0) ∧
      frameBit f 2 17 = true) ∧
    (∃ (t : ℕ) (p : Fin 4) (s : State), s.get F.LK_PSTAT_state (↑p : ℕ) = 3 ∧
      (s.linkOf (↑p : ℕ)).beatDue ≤ max s.now t) ∧
    (∃ (t : ℕ) (p : Fin 4) (s : State), s.get F.LK_PSTAT_state (↑p : ℕ) = 3 ∧
      (s.linkOf (↑p : ℕ)).beatAt + 1984000 ≤ max s.now t) ∧
    (∃ (t : ℕ) (p : Fin 4) (s : State), s.get F.LK_PSTAT_state (↑p : ℕ) = 3 ∧
      (s.linkOf (↑p : ℕ)).retry ≠ [] ∧
      (s.linkOf (↑p : ℕ)).ackAt + 16000 * s.get F.LK_RETRY_rtmo 0 ≤ max s.now t ∧
      (¬∃ e ∈ (s.linkOf (↑p : ℕ)).retry, (if s.get F.MODE_STAT_cur 0 = 1 then s.get F.LK_RETRY_rbs 0 else s.get F.LK_RETRY_rbn 0) + 1 ≤ e.n)) :=
  ⟨⟨0, signed 0 0 (frm 2 0 0 [0, 0, 0, 0, 0, 1]), (up State.reset 0 { retry := [⟨aFrame, 0, none⟩], tx := 1 }), 1, ⟨by decide, by decide, by decide, plain_mac _ _ _ (by decide +kernel), by decide⟩, by decide, by decide, by decide, by decide, by decide, by decide⟩,
    ⟨0, signed 0 0 (frm 2 0 0 [131072, 0, 0, 0, 0, 1]), (up State.reset 0 { retry := [⟨aFrame, 0, none⟩], tx := 1 }), 1, ⟨by decide, by decide, by decide, plain_mac _ _ _ (by decide +kernel), by decide⟩, by decide, by decide, by decide, by decide, by decide, by decide, by decide⟩,
    ⟨0, signed 0 0 (frm 2 0 0 [0, 0, 0, 0, 0, 1]), ((up State.reset 0 { retry := [⟨aFrame, 0, some 0⟩], tx := 1 }).setTxs 0 { job := some { aJob with kind := 1 } }), ⟨aFrame, 0, some 0⟩, 0, { aJob with kind := 1 }, by decide, by decide, by decide, ⟨by decide, by decide, by decide, plain_mac _ _ _ (by decide +kernel), by decide⟩, by decide, by decide, by decide, by decide, by decide⟩,
    ⟨6400000000000, 0, ((up State.reset 0 { chg := true }).put F.LK_PSTAT_state 0 3), by decide, by decide⟩,
    ⟨0, signed 0 0 (frm 3 0 0 [0, 1, 0]), (up State.reset 0 {}), ⟨by decide, by decide, by decide, plain_mac _ _ _ (by decide +kernel), by decide⟩, by decide⟩,
    ⟨0, signed 0 0 (frm 3 0 0 [0, 1, 131072]), (up State.reset 0 {}), ⟨by decide, by decide, by decide, plain_mac _ _ _ (by decide +kernel), by decide⟩, by decide⟩,
    ⟨6400000000000, 0, (State.reset.put F.LK_PSTAT_state 0 3), by decide, by decide⟩,
    ⟨6400000000000, 0, (State.reset.put F.LK_PSTAT_state 0 3), by decide, by decide⟩,
    ⟨6400000000000, 0, ((up State.reset 0 { retry := [⟨aFrame, 0, none⟩] }).put F.LK_PSTAT_state 0 3), by decide, by decide, by decide, by decide⟩⟩

/-- The hypotheses of clauses of `Obligations.LinkControl` are met. -/
theorem wit_LinkControl_2 :
    (∃ (t : ℕ) (p : Fin 4) (s : State), s.get F.LK_PSTAT_state (↑p : ℕ) = 3 ∧
      (s.linkOf (↑p : ℕ)).retry ≠ [] ∧
      (s.linkOf (↑p : ℕ)).ackAt + 16000 * s.get F.LK_RETRY_rtmo 0 ≤ max s.now t ∧
      (∃ e ∈ (s.linkOf (↑p : ℕ)).retry, (if s.get F.MODE_STAT_cur 0 = 1 then s.get F.LK_RETRY_rbs 0 else s.get F.LK_RETRY_rbn 0) + 1 ≤ e.n)) ∧
    (∃ (p : Fin 4) (s : State), s.get F.LK_PSTAT_state (↑p : ℕ) = 3 ∨ s.get F.LK_PSTAT_state (↑p : ℕ) = 2) ∧
    (∃ (p : Fin 4) (f : Frame) (s : State), s.get F.LK_PSTAT_state (↑p : ℕ) = 3 ∧
      frameLegal f = true ∧
      f.ty ≠ 1 ∧
      f.mac ≠ lkTag s (↑p : ℕ) f ∧
      f.dst = BitVec.ofNat 12 (lkOwn s) ∧
      s.get F.LK_QUAR_n (↑p : ℕ) = 0 ∧
      (s.linkOf (↑p : ℕ)).nakd = true) :=
  ⟨⟨6400000000000, 0, ((up State.reset 0 { retry := [⟨aFrame, 300, none⟩] }).put F.LK_PSTAT_state 0 3), by decide, by decide, by decide, by decide⟩,
    ⟨0, (State.reset.put F.LK_PSTAT_state 0 2), by decide⟩,
    ⟨0, forged 0 0 (frm 2 0 0 [0]), (((up State.reset 0 { nakd := true }).put F.LK_PSTAT_state 0 3).put F.LK_QUAR_n 0 0), by decide, by decide, by decide, (forged_tag _ _ _ (by decide +kernel) (by decide) (by decide)), by decide, by decide, by decide⟩⟩

/-- The hypotheses of clauses of `Obligations.LinkPorts` are met. -/
theorem wit_LinkPorts_1 :
    (∃ (t : ℕ) (p : Fin 4) (v : Word) (s : State), F.LK_CTL_en.of (BitVec.toNat v) = 1 ∧
      (¬s.is F.LK_CTL_en (↑p : ℕ) = true) ∧
      HwIdle t RegName.LK_CTL (↑p : ℕ) s ∧
      (s.get F.LK_PSTAT_state (↑p : ℕ) = 0 ∨ s.get F.LK_PSTAT_state (↑p : ℕ) = 4) ∧
      s.is F.LK_GSTAT_nodeset 0 = true ∧
      otpRevoked s (F.LK_CTL_slot.of (BitVec.toNat v)) = false) ∧
    (∃ (t : ℕ) (p : Fin 4) (v : Word) (s : State), F.LK_CTL_en.of (BitVec.toNat v) = 1 ∧
      (¬s.is F.LK_CTL_en (↑p : ℕ) = true) ∧
      HwIdle t RegName.LK_CTL (↑p : ℕ) s ∧
      (s.get F.LK_PSTAT_state (↑p : ℕ) = 0 ∨ s.get F.LK_PSTAT_state (↑p : ℕ) = 4) ∧
      s.is F.LK_GSTAT_nodeset 0 = false) ∧
    (∃ (t : ℕ) (p : Fin 4) (v : Word) (s : State), F.LK_CTL_en.of (BitVec.toNat v) = 1 ∧
      (¬s.is F.LK_CTL_en (↑p : ℕ) = true) ∧
      HwIdle t RegName.LK_CTL (↑p : ℕ) s ∧
      (s.get F.LK_PSTAT_state (↑p : ℕ) = 0 ∨ s.get F.LK_PSTAT_state (↑p : ℕ) = 4) ∧
      s.is F.LK_GSTAT_nodeset 0 = true ∧
      otpRevoked s (F.LK_CTL_slot.of (BitVec.toNat v)) = true) ∧
    (∃ (p : Fin 4) (v : Word) (s : State), s.is F.LK_CTL_en (↑p : ℕ) = true ∧
      F.LK_CTL_slot.of (BitVec.toNat v) ≠ s.get F.LK_CTL_slot (↑p : ℕ) ∧
      F.LK_CTL_en.of (BitVec.toNat v) = 1) ∧
    (∃ (p : Fin 4) (v : Word) (s : State), s.is F.LK_CTL_en (↑p : ℕ) = true ∧
      F.LK_CTL_slot.of (BitVec.toNat v) ≠ s.get F.LK_CTL_slot (↑p : ℕ) ∧
      F.LK_CTL_en.of (BitVec.toNat v) = 0) ∧
    (∃ (p : Fin 4) (v : Word) (s : State), F.LK_CTL_en.of (BitVec.toNat v) = 0 ∧
      (s.get F.LK_PSTAT_state (↑p : ℕ) = 0 ∨ s.get F.LK_PSTAT_state (↑p : ℕ) = 4) ∧
      (s.is F.LK_CTL_en (↑p : ℕ) = true → F.LK_CTL_slot.of (BitVec.toNat v) = s.get F.LK_CTL_slot (↑p : ℕ))) ∧
    (∃ (p : Fin 4) (v : Word) (s : State), F.LK_CTL_en.of (BitVec.toNat v) = 0 ∧
      s.get F.LK_PSTAT_state (↑p : ℕ) ≠ 0 ∧
      s.get F.LK_PSTAT_state (↑p : ℕ) ≠ 4 ∧
      (s.is F.LK_CTL_en (↑p : ℕ) = true → F.LK_CTL_slot.of (BitVec.toNat v) = s.get F.LK_CTL_slot (↑p : ℕ))) ∧
    (∃ (p : Fin 4) (s : State), s.get F.LK_PSTAT_state (↑p : ℕ) = 1) ∧
    (∃ (t : ℕ) (p : Fin 4) (s : State), s.get F.LK_PSTAT_state (↑p : ℕ) = 2 ∧
      (s.linkOf (↑p : ℕ)).waits = false ∧
      (s.linkOf (↑p : ℕ)).helloDue ≤ max s.now t) :=
  ⟨⟨6400000000000, 0, (131072 : Word), (State.reset.put F.LK_GSTAT_nodeset 0 1), by decide, by decide, (by unfold HwIdle; decide), by decide, by decide, by decide⟩,
    ⟨6400000000000, 0, (131072 : Word), (State.reset.put F.LK_GSTAT_nodeset 0 0), by decide, by decide, (by unfold HwIdle; decide), by decide, by decide⟩,
    ⟨6400000000000, 0, (131072 : Word), (({ State.reset.put F.LK_GSTAT_nodeset 0 1 with otp := [(16, some 5)] }).put F.LK_GSTAT_nodeset 0 1), by decide, by decide, (by unfold HwIdle; decide), by decide, by decide, by decide⟩,
    ⟨0, (147456 : Word), ((State.reset.put F.LK_CTL_en 0 1).put F.LK_CTL_en 0 1), by decide, by decide, by decide⟩,
    ⟨0, (16384 : Word), ((State.reset.put F.LK_CTL_en 0 1).put F.LK_CTL_en 0 1), by decide, by decide, by decide⟩,
    ⟨0, (0 : Word), State.reset, by decide, by decide, by decide⟩,
    ⟨0, (0 : Word), (State.reset.put F.LK_PSTAT_state 0 3), by decide, by decide, by decide, by decide⟩,
    ⟨0, (State.reset.put F.LK_PSTAT_state 0 1), by decide⟩,
    ⟨6400000000000, 0, ((State.reset.put F.LK_PSTAT_state 0 2)).setLink 0 { ((State.reset.put F.LK_PSTAT_state 0 2)).linkOf 0 with waits := false }, by decide, by decide, by decide⟩⟩

/-- The hypotheses of clauses of `Obligations.LinkPorts` are met. -/
theorem wit_LinkPorts_2 :
    (∃ (p : Fin 4) (f : Frame) (s : State), s.get F.LK_PSTAT_state (↑p : ℕ) = 2 ∧
      (s.linkOf (↑p : ℕ)).waits = false ∧
      f.ty = 1 ∧
      frameLegal f = true ∧
      f.mac = frameMac (lkHelloKey s (↑p : ℕ)) 0 f ∧
      helloNonce f 8 ≠ (s.linkOf (↑p : ℕ)).nonce) ∧
    (∃ (p : Fin 4) (f : Frame) (s : State), s.get F.LK_PSTAT_state (↑p : ℕ) = 2 ∧
      (s.linkOf (↑p : ℕ)).waits = false ∧
      f.ty = 1 ∧
      frameLegal f = true ∧
      f.mac = frameMac (lkHelloKey s (↑p : ℕ)) 0 f ∧
      helloNonce f 8 = (s.linkOf (↑p : ℕ)).nonce) ∧
    (∃ (t : ℕ) (p : Fin 4) (s : State) (x : ℕ), s.lkDriveOf (↑p : ℕ) = some x ∧
      x ≤ max s.now t) :=
  ⟨⟨0, signed (lkHelloKey (State.reset.put F.LK_PSTAT_state 0 2) 0) 0 (frm 1 0 0 [0, 0, 0, 0, 0, 0, 0, 0, 0, 1, 0, 1]), ((State.reset.put F.LK_PSTAT_state 0 2).put F.LK_PSTAT_state 0 2), by decide, by decide, by decide, by decide, (signed_mac _ _ _), by decide⟩,
    ⟨0, signed (lkHelloKey (State.reset.put F.LK_PSTAT_state 0 2) 0) 0 (frm 1 0 0 [0, 0, 0, 0, 0, 0, 0, 0, 0, 0, 0, 0]), ((State.reset.put F.LK_PSTAT_state 0 2).put F.LK_PSTAT_state 0 2), by decide, by decide, by decide, by decide, (signed_mac _ _ _), by decide⟩,
    ⟨6400000000000, 0, (State.reset.setLkDrive 0 (some 0)), 0, by decide, by decide⟩⟩

/-- The hypotheses of clauses of `Obligations.LinkRequests` are met. -/
theorem wit_LinkRequests_1 :
    (∃ (t : ℕ) (p : Fin 4) (f : Frame) (s : State), (InOrder s (↑p : ℕ) f ∧ f.dst = BitVec.ofNat 12 (lkOwn s)) ∧
      f.ty = 9 ∧
      inNetBoot s = false ∧
      (s.linkOf (↑p : ℕ)).wait = [] ∧
      ((List.filter (fun x ↦ decide (max s.now t < x.1)) (s.linkOf (↑p : ℕ)).adm).length < s.get F.LK_CAP_n 0) ∧
      s.get F.LK_ROUTE_port f.src.toNat < 4 ∧
      Quiet s (s.get F.LK_ROUTE_port f.src.toNat) 1 ∧
      ((if ¬((s.winOf (frameW f 0 / 2 ^ 12)).valid = true ∧ ((s.winOf (frameW f 0 / 2 ^ 12)).any = true ∨ (s.winOf (frameW f 0 / 2 ^ 12)).node = f.src)) then 1 else if (s.winOf (frameW f 0 / 2 ^ 12)).cap.has (if f.ty = 8 then permST else permLD) = false then 2 else if ¬(framePair f 1 % 2 ^ 27 % 2 = 0 ∧ ((s.winOf (frameW f 0 / 2 ^ 12)).cap.base.toNat + framePair f 1 % 2 ^ 27) % 2 = 0 ∧ 1 ≤ frameW f 3 % 32 ∧ (frameW f 3 % 32 ≤ if f.ty = 8 then 28 else 31) ∧ framePair f 1 % 2 ^ 27 + 2 * (frameW f 3 % 32) ≤ (s.winOf (frameW f 0 / 2 ^ 12)).cap.len.toNat ∧ f.pay.length = if f.ty = 8 then 4 + frameW f 3 % 32 else 4) then 3 else if regionOf ((s.winOf (frameW f 0 / 2 ^ 12)).cap.base.toNat + framePair f 1 % 2 ^ 27) = Region.sram then if (¬(s.is F.BANK_OWN_gl (bankAt ((s.winOf (frameW f 0 / 2 ^ 12)).cap.base.toNat + framePair f 1 % 2 ^ 27)) = true ∨ s.get F.BANK_OWN_kind (bankAt ((s.winOf (frameW f 0 / 2 ^ 12)).cap.base.toNat + framePair f 1 % 2 ^ 27)) = 2) ∨ s.is F.BANK_STAT_hpend (bankAt ((s.winOf (frameW f 0 / 2 ^ 12)).cap.base.toNat + framePair f 1 % 2 ^ 27)) = true) ∨ (¬(s.is F.BANK_OWN_gl (bankAt ((s.winOf (frameW f 0 / 2 ^ 12)).cap.base.toNat + framePair f 1 % 2 ^ 27 + 2 * (frameW f 3 % 32) - 1)) = true ∨ s.get F.BANK_OWN_kind (bankAt ((s.winOf (frameW f 0 / 2 ^ 12)).cap.base.toNat + framePair f 1 % 2 ^ 27 + 2 * (frameW f 3 % 32) - 1)) = 2) ∨ s.is F.BANK_STAT_hpend (bankAt ((s.winOf (frameW f 0 / 2 ^ 12)).cap.base.toNat + framePair f 1 % 2 ^ 27 + 2 * (frameW f 3 % 32) - 1)) = true) ∨ 63 * 32768 + 28672 ≤ sramIx ((s.winOf (frameW f 0 / 2 ^ 12)).cap.base.toNat + framePair f 1 % 2 ^ 27 + 2 * (frameW f 3 % 32) - 1) then 4 else 0 else if periphUnits ((s.winOf (frameW f 0 / 2 ^ 12)).cap.base.toNat + framePair f 1 % 2 ^ 27) (frameW f 3 % 32) = none then 3 else 0) = 0) ∧
      regionOf ((s.winOf (frameW f 0 / 2 ^ 12)).cap.base.toNat + framePair f 1 % 2 ^ 27) = Region.sram ∧
      (∀ i < frameW f 3 % 32, (s.sramOf (sramIx ((s.winOf (frameW f 0 / 2 ^ 12)).cap.base.toNat + framePair f 1 % 2 ^ 27) + i)).ecc = Ecc.good)) ∧
    (∃ (t : ℕ) (p : Fin 4) (f : Frame) (s : State), (InOrder s (↑p : ℕ) f ∧ f.dst = BitVec.ofNat 12 (lkOwn s)) ∧
      f.ty = 9 ∧
      inNetBoot s = false ∧
      (s.linkOf (↑p : ℕ)).wait = [] ∧
      ((List.filter (fun x ↦ decide (max s.now t < x.1)) (s.linkOf (↑p : ℕ)).adm).length < s.get F.LK_CAP_n 0) ∧
      s.get F.LK_ROUTE_port f.src.toNat < 4 ∧
      Quiet s (s.get F.LK_ROUTE_port f.src.toNat) 1 ∧
      ((if ¬((s.winOf (frameW f 0 / 2 ^ 12)).valid = true ∧ ((s.winOf (frameW f 0 / 2 ^ 12)).any = true ∨ (s.winOf (frameW f 0 / 2 ^ 12)).node = f.src)) then 1 else if (s.winOf (frameW f 0 / 2 ^ 12)).cap.has (if f.ty = 8 then permST else permLD) = false then 2 else if ¬(framePair f 1 % 2 ^ 27 % 2 = 0 ∧ ((s.winOf (frameW f 0 / 2 ^ 12)).cap.base.toNat + framePair f 1 % 2 ^ 27) % 2 = 0 ∧ 1 ≤ frameW f 3 % 32 ∧ (frameW f 3 % 32 ≤ if f.ty = 8 then 28 else 31) ∧ framePair f 1 % 2 ^ 27 + 2 * (frameW f 3 % 32) ≤ (s.winOf (frameW f 0 / 2 ^ 12)).cap.len.toNat ∧ f.pay.length = if f.ty = 8 then 4 + frameW f 3 % 32 else 4) then 3 else if regionOf ((s.winOf (frameW f 0 / 2 ^ 12)).cap.base.toNat + framePair f 1 % 2 ^ 27) = Region.sram then if (¬(s.is F.BANK_OWN_gl (bankAt ((s.winOf (frameW f 0 / 2 ^ 12)).cap.base.toNat + framePair f 1 % 2 ^ 27)) = true ∨ s.get F.BANK_OWN_kind (bankAt ((s.winOf (frameW f 0 / 2 ^ 12)).cap.base.toNat + framePair f 1 % 2 ^ 27)) = 2) ∨ s.is F.BANK_STAT_hpend (bankAt ((s.winOf (frameW f 0 / 2 ^ 12)).cap.base.toNat + framePair f 1 % 2 ^ 27)) = true) ∨ (¬(s.is F.BANK_OWN_gl (bankAt ((s.winOf (frameW f 0 / 2 ^ 12)).cap.base.toNat + framePair f 1 % 2 ^ 27 + 2 * (frameW f 3 % 32) - 1)) = true ∨ s.get F.BANK_OWN_kind (bankAt ((s.winOf (frameW f 0 / 2 ^ 12)).cap.base.toNat + framePair f 1 % 2 ^ 27 + 2 * (frameW f 3 % 32) - 1)) = 2) ∨ s.is F.BANK_STAT_hpend (bankAt ((s.winOf (frameW f 0 / 2 ^ 12)).cap.base.toNat + framePair f 1 % 2 ^ 27 + 2 * (frameW f 3 % 32) - 1)) = true) ∨ 63 * 32768 + 28672 ≤ sramIx ((s.winOf (frameW f 0 / 2 ^ 12)).cap.base.toNat + framePair f 1 % 2 ^ 27 + 2 * (frameW f 3 % 32) - 1) then 4 else 0 else if periphUnits ((s.winOf (frameW f 0 / 2 ^ 12)).cap.base.toNat + framePair f 1 % 2 ^ 27) (frameW f 3 % 32) = none then 3 else 0) ≠ 0)) ∧
    (∃ (t : ℕ) (p : Fin 4) (f : Frame) (s : State), (InOrder s (↑p : ℕ) f ∧ f.dst = BitVec.ofNat 12 (lkOwn s)) ∧
      f.ty = 8 ∧
      inNetBoot s = false ∧
      (s.linkOf (↑p : ℕ)).wait = [] ∧
      ((List.filter (fun x ↦ decide (max s.now t < x.1)) (s.linkOf (↑p : ℕ)).adm).length < s.get F.LK_CAP_n 0) ∧
      ((if ¬((s.winOf (frameW f 0 / 2 ^ 12)).valid = true ∧ ((s.winOf (frameW f 0 / 2 ^ 12)).any = true ∨ (s.winOf (frameW f 0 / 2 ^ 12)).node = f.src)) then 1 else if (s.winOf (frameW f 0 / 2 ^ 12)).cap.has (if f.ty = 8 then permST else permLD) = false then 2 else if ¬(framePair f 1 % 2 ^ 27 % 2 = 0 ∧ ((s.winOf (frameW f 0 / 2 ^ 12)).cap.base.toNat + framePair f 1 % 2 ^ 27) % 2 = 0 ∧ 1 ≤ frameW f 3 % 32 ∧ (frameW f 3 % 32 ≤ if f.ty = 8 then 28 else 31) ∧ framePair f 1 % 2 ^ 27 + 2 * (frameW f 3 % 32) ≤ (s.winOf (frameW f 0 / 2 ^ 12)).cap.len.toNat ∧ f.pay.length = if f.ty = 8 then 4 + frameW f 3 % 32 else 4) then 3 else if regionOf ((s.winOf (frameW f 0 / 2 ^ 12)).cap.base.toNat + framePair f 1 % 2 ^ 27) = Region.sram then if (¬(s.is F.BANK_OWN_gl (bankAt ((s.winOf (frameW f 0 / 2 ^ 12)).cap.base.toNat + framePair f 1 % 2 ^ 27)) = true ∨ s.get F.BANK_OWN_kind (bankAt ((s.winOf (frameW f 0 / 2 ^ 12)).cap.base.toNat + framePair f 1 % 2 ^ 27)) = 2) ∨ s.is F.BANK_STAT_hpend (bankAt ((s.winOf (frameW f 0 / 2 ^ 12)).cap.base.toNat + framePair f 1 % 2 ^ 27)) = true) ∨ (¬(s.is F.BANK_OWN_gl (bankAt ((s.winOf (frameW f 0 / 2 ^ 12)).cap.base.toNat + framePair f 1 % 2 ^ 27 + 2 * (frameW f 3 % 32) - 1)) = true ∨ s.get F.BANK_OWN_kind (bankAt ((s.winOf (frameW f 0 / 2 ^ 12)).cap.base.toNat + framePair f 1 % 2 ^ 27 + 2 * (frameW f 3 % 32) - 1)) = 2) ∨ s.is F.BANK_STAT_hpend (bankAt ((s.winOf (frameW f 0 / 2 ^ 12)).cap.base.toNat + framePair f 1 % 2 ^ 27 + 2 * (frameW f 3 % 32) - 1)) = true) ∨ 63 * 32768 + 28672 ≤ sramIx ((s.winOf (frameW f 0 / 2 ^ 12)).cap.base.toNat + framePair f 1 % 2 ^ 27 + 2 * (frameW f 3 % 32) - 1) then 4 else 0 else if periphUnits ((s.winOf (frameW f 0 / 2 ^ 12)).cap.base.toNat + framePair f 1 % 2 ^ 27) (frameW f 3 % 32) = none then 3 else 0) = 0) ∧
      regionOf ((s.winOf (frameW f 0 / 2 ^ 12)).cap.base.toNat + framePair f 1 % 2 ^ 27) = Region.sram ∧
      (∀ i < frameW f 3 % 32, (s.sramOf (sramIx ((s.winOf (frameW f 0 / 2 ^ 12)).cap.base.toNat + framePair f 1 % 2 ^ 27) + i)).ecc ≠ Ecc.bad)) ∧
    (∃ (t : ℕ) (p : Fin 4) (f : Frame) (s : State), (InOrder s (↑p : ℕ) f ∧ f.dst = BitVec.ofNat 12 (lkOwn s)) ∧
      f.ty = 8 ∧
      inNetBoot s = false ∧
      (s.linkOf (↑p : ℕ)).wait = [] ∧
      ((List.filter (fun x ↦ decide (max s.now t < x.1)) (s.linkOf (↑p : ℕ)).adm).length < s.get F.LK_CAP_n 0) ∧
      ((if ¬((s.winOf (frameW f 0 / 2 ^ 12)).valid = true ∧ ((s.winOf (frameW f 0 / 2 ^ 12)).any = true ∨ (s.winOf (frameW f 0 / 2 ^ 12)).node = f.src)) then 1 else if (s.winOf (frameW f 0 / 2 ^ 12)).cap.has (if f.ty = 8 then permST else permLD) = false then 2 else if ¬(framePair f 1 % 2 ^ 27 % 2 = 0 ∧ ((s.winOf (frameW f 0 / 2 ^ 12)).cap.base.toNat + framePair f 1 % 2 ^ 27) % 2 = 0 ∧ 1 ≤ frameW f 3 % 32 ∧ (frameW f 3 % 32 ≤ if f.ty = 8 then 28 else 31) ∧ framePair f 1 % 2 ^ 27 + 2 * (frameW f 3 % 32) ≤ (s.winOf (frameW f 0 / 2 ^ 12)).cap.len.toNat ∧ f.pay.length = if f.ty = 8 then 4 + frameW f 3 % 32 else 4) then 3 else if regionOf ((s.winOf (frameW f 0 / 2 ^ 12)).cap.base.toNat + framePair f 1 % 2 ^ 27) = Region.sram then if (¬(s.is F.BANK_OWN_gl (bankAt ((s.winOf (frameW f 0 / 2 ^ 12)).cap.base.toNat + framePair f 1 % 2 ^ 27)) = true ∨ s.get F.BANK_OWN_kind (bankAt ((s.winOf (frameW f 0 / 2 ^ 12)).cap.base.toNat + framePair f 1 % 2 ^ 27)) = 2) ∨ s.is F.BANK_STAT_hpend (bankAt ((s.winOf (frameW f 0 / 2 ^ 12)).cap.base.toNat + framePair f 1 % 2 ^ 27)) = true) ∨ (¬(s.is F.BANK_OWN_gl (bankAt ((s.winOf (frameW f 0 / 2 ^ 12)).cap.base.toNat + framePair f 1 % 2 ^ 27 + 2 * (frameW f 3 % 32) - 1)) = true ∨ s.get F.BANK_OWN_kind (bankAt ((s.winOf (frameW f 0 / 2 ^ 12)).cap.base.toNat + framePair f 1 % 2 ^ 27 + 2 * (frameW f 3 % 32) - 1)) = 2) ∨ s.is F.BANK_STAT_hpend (bankAt ((s.winOf (frameW f 0 / 2 ^ 12)).cap.base.toNat + framePair f 1 % 2 ^ 27 + 2 * (frameW f 3 % 32) - 1)) = true) ∨ 63 * 32768 + 28672 ≤ sramIx ((s.winOf (frameW f 0 / 2 ^ 12)).cap.base.toNat + framePair f 1 % 2 ^ 27 + 2 * (frameW f 3 % 32) - 1) then 4 else 0 else if periphUnits ((s.winOf (frameW f 0 / 2 ^ 12)).cap.base.toNat + framePair f 1 % 2 ^ 27) (frameW f 3 % 32) = none then 3 else 0) ≠ 0)) ∧
    (∃ (t : ℕ) (p : Fin 4) (f : Frame) (s : State), (InOrder s (↑p : ℕ) f ∧ f.dst = BitVec.ofNat 12 (lkOwn s)) ∧
      f.ty = 10 ∧
      inNetBoot s = false ∧
      (s.linkOf (↑p : ℕ)).wait = [] ∧
      ((List.filter (fun x ↦ decide (max s.now t < x.1)) (s.linkOf (↑p : ℕ)).adm).length < s.get F.LK_CAP_n 0) ∧
      List.drop 5 f.pay ≠ [] ∧
      (List.drop 5 f.pay).length ≤ 27 ∧
      (s.lku.snap = none ∧ s.is F.LK_SNAPB_en 0 = true ∧ s.get F.BANK_OWN_kind (s.get F.LK_SNAPB_bank 0) = 3 ∧ s.is F.BANK_STAT_hpend (s.get F.LK_SNAPB_bank 0) = false ∧ (∀ w ∈ List.drop 5 f.pay, itemReserved w = false) ∧ ¬(frameBit f 0 17 = true ∧ tbPast (s.tbAt (max s.now t)) (framePair f 1 * 64000000000 + framePair f 3) = true))) ∧
    (∃ (t : ℕ) (p : Fin 4) (f : Frame) (s : State), (InOrder s (↑p : ℕ) f ∧ f.dst = BitVec.ofNat 12 (lkOwn s)) ∧
      f.ty = 10 ∧
      inNetBoot s = false ∧
      (s.linkOf (↑p : ℕ)).wait = [] ∧
      ((List.filter (fun x ↦ decide (max s.now t < x.1)) (s.linkOf (↑p : ℕ)).adm).length < s.get F.LK_CAP_n 0) ∧
      (List.drop 5 f.pay = [] ∨ 27 < (List.drop 5 f.pay).length ∨ ¬(s.lku.snap = none ∧ s.is F.LK_SNAPB_en 0 = true ∧ s.get F.BANK_OWN_kind (s.get F.LK_SNAPB_bank 0) = 3 ∧ s.is F.BANK_STAT_hpend (s.get F.LK_SNAPB_bank 0) = false ∧ (∀ w ∈ List.drop 5 f.pay, itemReserved w = false) ∧ ¬(frameBit f 0 17 = true ∧ tbPast (s.tbAt (max s.now t)) (framePair f 1 * 64000000000 + framePair f 3) = true))) ∧
      s.get F.LK_ROUTE_port f.src.toNat < 4 ∧
      Quiet s (s.get F.LK_ROUTE_port f.src.toNat) 1) ∧
    (∃ (t : ℕ) (p : Fin 4) (f : Frame) (s : State), (InOrder s (↑p : ℕ) f ∧ f.dst = BitVec.ofNat 12 (lkOwn s)) ∧
      (f.ty = 8 ∨ f.ty = 9 ∨ f.ty = 10) ∧
      inNetBoot s = false ∧
      ((s.linkOf (↑p : ℕ)).wait ≠ [] ∨ ¬(List.filter (fun x ↦ decide (max s.now t < x.1)) (s.linkOf (↑p : ℕ)).adm).length < s.get F.LK_CAP_n 0) ∧
      f.ty = 8) ∧
    (∃ (t : ℕ) (p : Fin 4) (f : Frame) (s : State), (InOrder s (↑p : ℕ) f ∧ f.dst = BitVec.ofNat 12 (lkOwn s)) ∧
      (f.ty = 8 ∨ f.ty = 9 ∨ f.ty = 10) ∧
      inNetBoot s = false ∧
      ((s.linkOf (↑p : ℕ)).wait ≠ [] ∨ ¬(List.filter (fun x ↦ decide (max s.now t < x.1)) (s.linkOf (↑p : ℕ)).adm).length < s.get F.LK_CAP_n 0) ∧
      f.ty = 9) ∧
    (∃ (t : ℕ) (p : Fin 4) (f : Frame) (s : State), (InOrder s (↑p : ℕ) f ∧ f.dst = BitVec.ofNat 12 (lkOwn s)) ∧
      (f.ty = 8 ∨ f.ty = 9 ∨ f.ty = 10) ∧
      inNetBoot s = false ∧
      ((s.linkOf (↑p : ℕ)).wait ≠ [] ∨ ¬(List.filter (fun x ↦ decide (max s.now t < x.1)) (s.linkOf (↑p : ℕ)).adm).length < s.get F.LK_CAP_n 0) ∧
      f.ty = 10) :=
  ⟨⟨6400000000000, 0, signed 0 0 (frm 9 0 7 [0, 0, 0, 1]), ((netted.put F.BANK_OWN_gl 0 1)), ⟨⟨by decide, by decide, by decide, by decide, in_order_mac _ _ _ (by decide +kernel) (by decide +kernel)⟩, by decide⟩, by decide, by decide, by decide, by decide, by decide, (by unfold Quiet; decide), by decide, by decide, by decide⟩,
    ⟨6400000000000, 0, signed 0 0 (frm 9 0 7 [4096, 0, 0, 1]), netted, ⟨⟨by decide, by decide, by decide, by decide, in_order_mac _ _ _ (by decide +kernel) (by decide +kernel)⟩, by decide⟩, by decide, by decide, by decide, by decide, by decide, (by unfold Quiet; decide), by decide⟩,
    ⟨6400000000000, 0, signed 0 0 (frm 8 0 7 [0, 0, 0, 1, 5]), ((netted.put F.BANK_OWN_gl 0 1)), ⟨⟨by decide, by decide, by decide, by decide, in_order_mac _ _ _ (by decide +kernel) (by decide +kernel)⟩, by decide⟩, by decide, by decide, by decide, by decide, by decide, by decide, by decide⟩,
    ⟨6400000000000, 0, signed 0 0 (frm 8 0 7 [4096, 0, 0, 1, 5]), netted, ⟨⟨by decide, by decide, by decide, by decide, in_order_mac _ _ _ (by decide +kernel) (by decide +kernel)⟩, by decide⟩, by decide, by decide, by decide, by decide, by decide⟩,
    ⟨6400000000000, 0, signed 0 0 (frm 10 0 7 [0, 0, 0, 0, 0, 0]), (((netted.put F.LK_SNAPB_en 0 1).put F.BANK_OWN_kind 0 3).put F.LK_SNAPB_en 0 1), ⟨⟨by decide, by decide, by decide, by decide, in_order_mac _ _ _ (by decide +kernel) (by decide +kernel)⟩, by decide⟩, by decide, by decide, by decide, by decide, by decide, by decide, ⟨by decide, by decide, by decide, by decide, by intro w h; have h1 : w = 0 := List.mem_singleton.mp h; subst h1; decide, by decide⟩⟩,
    ⟨6400000000000, 0, signed 0 0 (frm 10 0 7 [0, 0, 0, 0, 0]), netted, ⟨⟨by decide, by decide, by decide, by decide, in_order_mac _ _ _ (by decide +kernel) (by decide +kernel)⟩, by decide⟩, by decide, by decide, by decide, by decide, by decide, by decide, (by unfold Quiet; decide)⟩,
    ⟨6400000000000, 0, signed 0 0 (frm 8 0 7 [0, 0, 0, 1, 5]), (netted.setLink 0 { wait := [aFrame] }), ⟨⟨by decide, by decide, by decide, by decide, in_order_mac _ _ _ (by decide +kernel) (by decide +kernel)⟩, by decide⟩, by decide, by decide, by decide, by decide⟩,
    ⟨6400000000000, 0, signed 0 0 (frm 9 0 7 [0, 0, 0, 1, 5]), (netted.setLink 0 { wait := [aFrame] }), ⟨⟨by decide, by decide, by decide, by decide, in_order_mac _ _ _ (by decide +kernel) (by decide +kernel)⟩, by decide⟩, by decide, by decide, by decide, by decide⟩,
    ⟨6400000000000, 0, signed 0 0 (frm 10 0 7 [0, 0, 0, 1, 5]), (netted.setLink 0 { wait := [aFrame] }), ⟨⟨by decide, by decide, by decide, by decide, in_order_mac _ _ _ (by decide +kernel) (by decide +kernel)⟩, by decide⟩, by decide, by decide, by decide, by decide⟩⟩

/-- The hypotheses of clauses of `Obligations.LinkRequests` are met. -/
theorem wit_LinkRequests_2 :
    (∃ (t : ℕ) (p : Fin 4) (f : Frame) (s : State) (l : List Frame), (s.linkOf (↑p : ℕ)).wait = f :: l ∧
      ((List.filter (fun x ↦ decide (max s.now t < x.1)) (s.linkOf (↑p : ℕ)).adm).length < s.get F.LK_CAP_n 0) ∧
      f.ty = 9 ∧
      ((if ¬((s.winOf (frameW f 0 / 2 ^ 12)).valid = true ∧ ((s.winOf (frameW f 0 / 2 ^ 12)).any = true ∨ (s.winOf (frameW f 0 / 2 ^ 12)).node = f.src)) then 1 else if (s.winOf (frameW f 0 / 2 ^ 12)).cap.has (if f.ty = 8 then permST else permLD) = false then 2 else if ¬(framePair f 1 % 2 ^ 27 % 2 = 0 ∧ ((s.winOf (frameW f 0 / 2 ^ 12)).cap.base.toNat + framePair f 1 % 2 ^ 27) % 2 = 0 ∧ 1 ≤ frameW f 3 % 32 ∧ (frameW f 3 % 32 ≤ if f.ty = 8 then 28 else 31) ∧ framePair f 1 % 2 ^ 27 + 2 * (frameW f 3 % 32) ≤ (s.winOf (frameW f 0 / 2 ^ 12)).cap.len.toNat ∧ f.pay.length = if f.ty = 8 then 4 + frameW f 3 % 32 else 4) then 3 else if regionOf ((s.winOf (frameW f 0 / 2 ^ 12)).cap.base.toNat + framePair f 1 % 2 ^ 27) = Region.sram then if (¬(s.is F.BANK_OWN_gl (bankAt ((s.winOf (frameW f 0 / 2 ^ 12)).cap.base.toNat + framePair f 1 % 2 ^ 27)) = true ∨ s.get F.BANK_OWN_kind (bankAt ((s.winOf (frameW f 0 / 2 ^ 12)).cap.base.toNat + framePair f 1 % 2 ^ 27)) = 2) ∨ s.is F.BANK_STAT_hpend (bankAt ((s.winOf (frameW f 0 / 2 ^ 12)).cap.base.toNat + framePair f 1 % 2 ^ 27)) = true) ∨ (¬(s.is F.BANK_OWN_gl (bankAt ((s.winOf (frameW f 0 / 2 ^ 12)).cap.base.toNat + framePair f 1 % 2 ^ 27 + 2 * (frameW f 3 % 32) - 1)) = true ∨ s.get F.BANK_OWN_kind (bankAt ((s.winOf (frameW f 0 / 2 ^ 12)).cap.base.toNat + framePair f 1 % 2 ^ 27 + 2 * (frameW f 3 % 32) - 1)) = 2) ∨ s.is F.BANK_STAT_hpend (bankAt ((s.winOf (frameW f 0 / 2 ^ 12)).cap.base.toNat + framePair f 1 % 2 ^ 27 + 2 * (frameW f 3 % 32) - 1)) = true) ∨ 63 * 32768 + 28672 ≤ sramIx ((s.winOf (frameW f 0 / 2 ^ 12)).cap.base.toNat + framePair f 1 % 2 ^ 27 + 2 * (frameW f 3 % 32) - 1) then 4 else 0 else if periphUnits ((s.winOf (frameW f 0 / 2 ^ 12)).cap.base.toNat + framePair f 1 % 2 ^ 27) (frameW f 3 % 32) = none then 3 else 0) = 0) ∧
      regionOf ((s.winOf (frameW f 0 / 2 ^ 12)).cap.base.toNat + framePair f 1 % 2 ^ 27) = Region.sram ∧
      (∀ i < frameW f 3 % 32, (s.sramOf (sramIx ((s.winOf (frameW f 0 / 2 ^ 12)).cap.base.toNat + framePair f 1 % 2 ^ 27) + i)).ecc = Ecc.good) ∧
      s.get F.LK_ROUTE_port f.src.toNat < 4 ∧
      Quiet s (s.get F.LK_ROUTE_port f.src.toNat) 1) ∧
    (∃ (p : Fin 4) (f : Frame) (s : State), (InOrder s (↑p : ℕ) f ∧ f.dst = BitVec.ofNat 12 (lkOwn s)) ∧
      f.ty = 8 ∧
      inNetBoot s = true ∧
      f.src = BitVec.ofNat 12 (s.get F.LK_PNODE_node (↑p : ℕ)) ∧
      framePair f 1 % 2 ^ 27 % 2 = 0 ∧
      framePair f 1 % 2 ^ 27 / 2 + (List.take (frameW f 3 % 32) (List.drop 4 f.pay)).length ≤ 1048576 ∧
      (∀ i < (List.take (frameW f 3 % 32) (List.drop 4 f.pay)).length, (s.sramOf (framePair f 1 % 2 ^ 27 / 2 + i)).ecc ≠ Ecc.bad)) ∧
    (∃ (p : Fin 4) (f : Frame) (s : State), (InOrder s (↑p : ℕ) f ∧ f.dst = BitVec.ofNat 12 (lkOwn s)) ∧
      f.ty = 8 ∧
      (∃ x, s.boot.phase = BootPhase.net x) ∧
      f.src = BitVec.ofNat 12 (s.get F.LK_PNODE_node (↑p : ℕ)) ∧
      framePair f 1 % 2 ^ 27 = 32 * 65536 ∧
      frameW f 3 % 32 = 1 ∧
      List.drop 4 f.pay = [1]) :=
  ⟨⟨6400000000000, 0, frm 9 0 7 [0, 0, 0, 1], ((netted.put F.BANK_OWN_gl 0 1).setLink 0 { wait := [frm 9 0 7 [0, 0, 0, 1]] }), [], by decide, by decide, by decide, by decide, by decide, by decide, by decide, (by unfold Quiet; decide)⟩,
    ⟨0, signed 0 0 (frm 8 4095 0 [0, 0, 0, 1, 5]), ({ netted with boot := { netted.boot with phase := .net none } }), ⟨⟨by decide, by decide, by decide, by decide, in_order_mac _ _ _ (by decide +kernel) (by decide +kernel)⟩, by decide⟩, by decide, by decide, by decide, by decide, by decide, by decide⟩,
    ⟨0, signed 0 0 (frm 8 4095 0 [0, 8, 0, 1, 1]), ({ netted with boot := { netted.boot with phase := .net none } }), ⟨⟨by decide, by decide, by decide, by decide, in_order_mac _ _ _ (by decide +kernel) (by decide +kernel)⟩, by decide⟩, by decide, ⟨none, rfl⟩, by decide, by decide, by decide, by decide⟩⟩

/-- The hypotheses of clauses of `Obligations.LinkTransactions` are met. -/
theorem wit_LinkTransactions :
    (∃ (c : Fin 16) (k : Fin 4) (v : Word) (s : State), F.LK_TXD_go.of (BitVec.toNat v) = 1 ∧
      F.LK_TXD_kind.of (BitVec.toNat v) < 3 ∧
      s.is F.LK_TXS_busy ((↑c : ℕ) * 4 + (↑k : ℕ)) = false ∧
      ((if ¬(inOwnBank s (↑c : ℕ) (s.get F.LK_TXL_a ((↑c : ℕ) * 4 + (↑k : ℕ))) (max (if F.LK_TXD_kind.of (BitVec.toNat v) = 2 then 8 + 2 * s.get F.LK_TXW_cnt ((↑c : ℕ) * 4 + (↑k : ℕ)) else 2 * s.get F.LK_TXW_cnt ((↑c : ℕ) * 4 + (↑k : ℕ))) 2) = true ∧ s.is F.BANK_OWN_gl (bankAt (s.get F.LK_TXL_a ((↑c : ℕ) * 4 + (↑k : ℕ)))) = true) then 4 else if ¬(s.get F.LK_ROUTE_port (F.LK_TXD_node.of (BitVec.toNat v)) < 4 ∧ s.get F.LK_PSTAT_state (s.get F.LK_ROUTE_port (F.LK_TXD_node.of (BitVec.toNat v))) = 3 ∧ s.is F.LK_ROUTE_absent (F.LK_TXD_node.of (BitVec.toNat v)) = false) then 7 else if ¬(s.get F.LK_TXL_a ((↑c : ℕ) * 4 + (↑k : ℕ)) % 2 = 0 ∧ 1 ≤ s.get F.LK_TXW_cnt ((↑c : ℕ) * 4 + (↑k : ℕ)) ∧ (s.get F.LK_TXW_cnt ((↑c : ℕ) * 4 + (↑k : ℕ)) ≤ if F.LK_TXD_kind.of (BitVec.toNat v) = 0 then 31 else if F.LK_TXD_kind.of (BitVec.toNat v) = 1 then 28 else 27) ∧ (F.LK_TXD_kind.of (BitVec.toNat v) = 2 ∨ s.get F.LK_TXO_a ((↑c : ℕ) * 4 + (↑k : ℕ)) % 2 = 0)) then 3 else 0) = 0) ∧
      (F.LK_TXD_kind.of (BitVec.toNat v) ≠ 0 → ∀ j < (if F.LK_TXD_kind.of (BitVec.toNat v) = 2 then 8 + 2 * s.get F.LK_TXW_cnt ((↑c : ℕ) * 4 + (↑k : ℕ)) else 2 * s.get F.LK_TXW_cnt ((↑c : ℕ) * 4 + (↑k : ℕ))) / 2, (s.sramOf (sramIx (s.get F.LK_TXL_a ((↑c : ℕ) * 4 + (↑k : ℕ))) + j)).ecc = Ecc.good) ∧
      Quiet s (s.get F.LK_ROUTE_port (F.LK_TXD_node.of (BitVec.toNat v))) 0) ∧
    (∃ (c : Fin 16) (k : Fin 4) (v : Word) (s : State), F.LK_TXD_go.of (BitVec.toNat v) = 1 ∧
      F.LK_TXD_kind.of (BitVec.toNat v) < 3 ∧
      s.is F.LK_TXS_busy ((↑c : ℕ) * 4 + (↑k : ℕ)) = false ∧
      ((if ¬(inOwnBank s (↑c : ℕ) (s.get F.LK_TXL_a ((↑c : ℕ) * 4 + (↑k : ℕ))) (max (if F.LK_TXD_kind.of (BitVec.toNat v) = 2 then 8 + 2 * s.get F.LK_TXW_cnt ((↑c : ℕ) * 4 + (↑k : ℕ)) else 2 * s.get F.LK_TXW_cnt ((↑c : ℕ) * 4 + (↑k : ℕ))) 2) = true ∧ s.is F.BANK_OWN_gl (bankAt (s.get F.LK_TXL_a ((↑c : ℕ) * 4 + (↑k : ℕ)))) = true) then 4 else if ¬(s.get F.LK_ROUTE_port (F.LK_TXD_node.of (BitVec.toNat v)) < 4 ∧ s.get F.LK_PSTAT_state (s.get F.LK_ROUTE_port (F.LK_TXD_node.of (BitVec.toNat v))) = 3 ∧ s.is F.LK_ROUTE_absent (F.LK_TXD_node.of (BitVec.toNat v)) = false) then 7 else if ¬(s.get F.LK_TXL_a ((↑c : ℕ) * 4 + (↑k : ℕ)) % 2 = 0 ∧ 1 ≤ s.get F.LK_TXW_cnt ((↑c : ℕ) * 4 + (↑k : ℕ)) ∧ (s.get F.LK_TXW_cnt ((↑c : ℕ) * 4 + (↑k : ℕ)) ≤ if F.LK_TXD_kind.of (BitVec.toNat v) = 0 then 31 else if F.LK_TXD_kind.of (BitVec.toNat v) = 1 then 28 else 27) ∧ (F.LK_TXD_kind.of (BitVec.toNat v) = 2 ∨ s.get F.LK_TXO_a ((↑c : ℕ) * 4 + (↑k : ℕ)) % 2 = 0)) then 3 else 0) ≠ 0)) ∧
    (∃ (c : Fin 16) (k : Fin 4) (v : Word) (s : State) (q : Req), F.LK_TXD_go.of (BitVec.toNat v) = 1 ∧
      F.LK_TXD_kind.of (BitVec.toNat v) < 3 ∧
      (q ≠ Req.core c ∨ s.is F.LK_TXS_busy ((↑c : ℕ) * 4 + (↑k : ℕ)) = true)) ∧
    (∃ (t : ℕ) (c : Fin 16) (k : Fin 4) (s : State) (j : TxJob), (s.txsOf ((↑c : ℕ) * 4 + (↑k : ℕ))).job = some j ∧
      j.kind ≠ 1 ∧
      j.due ≤ max s.now t) ∧
    (∃ (c : Fin 16) (k : Fin 4) (s : State) (p : Fin 4) (f : Frame) (j : TxJob), (s.txsOf ((↑c : ℕ) * 4 + (↑k : ℕ))).job = some j ∧
      InOrder s (↑p : ℕ) f ∧
      f.ty = 11 ∧
      f.dst = BitVec.ofNat 12 (lkOwn s) ∧
      f.core = BitVec.ofNat 4 (↑c : ℕ) ∧
      f.tag.toNat % 4 = (↑k : ℕ) ∧
      (f.tag = BitVec.ofNat 8 j.tag ∧ f.src = BitVec.ofNat 12 j.node ∧ j.kind ≠ 1) ∧
      frameW f 0 / 2 ^ 14 ≠ 0 ∧
      frameW f 0 / 2 ^ 14 < 16) ∧
    (∃ (c : Fin 16) (k : Fin 4) (s : State) (p : Fin 4) (f : Frame) (j : TxJob), (s.txsOf ((↑c : ℕ) * 4 + (↑k : ℕ))).job = some j ∧
      InOrder s (↑p : ℕ) f ∧
      f.ty = 11 ∧
      f.dst = BitVec.ofNat 12 (lkOwn s) ∧
      f.core = BitVec.ofNat 4 (↑c : ℕ) ∧
      f.tag.toNat % 4 = (↑k : ℕ) ∧
      (f.tag = BitVec.ofNat 8 j.tag ∧ f.src = BitVec.ofNat 12 j.node ∧ j.kind ≠ 1) ∧
      frameW f 0 / 2 ^ 14 = 0 ∧
      (inOneBank (if j.kind = 2 then j.out + 62 * (frameW f 0 % 256) else j.buf) (2 * (List.drop 1 f.pay).length) = true) ∧
      (s.is F.BANK_OWN_gl (bankAt (if j.kind = 2 then j.out + 62 * (frameW f 0 % 256) else j.buf)) = true ∨ s.get F.BANK_OWN_kind (bankAt (if j.kind = 2 then j.out + 62 * (frameW f 0 % 256) else j.buf)) = 2) ∧
      ((if j.kind = 2 then j.out + 62 * (frameW f 0 % 256) else j.buf) % 2 = 0) ∧
      (∀ i < (List.drop 1 f.pay).length, (s.sramOf (sramIx (if j.kind = 2 then j.out + 62 * (frameW f 0 % 256) else j.buf) + i)).ecc ≠ Ecc.bad)) ∧
    (∃ (c : Fin 16) (k : Fin 4) (s : State) (p : Fin 4) (f : Frame) (j : TxJob), (s.txsOf ((↑c : ℕ) * 4 + (↑k : ℕ))).job = some j ∧
      InOrder s (↑p : ℕ) f ∧
      f.ty = 11 ∧
      f.dst = BitVec.ofNat 12 (lkOwn s) ∧
      f.core = BitVec.ofNat 4 (↑c : ℕ) ∧
      f.tag.toNat % 4 = (↑k : ℕ) ∧
      (¬(f.tag = BitVec.ofNat 8 j.tag ∧ f.src = BitVec.ofNat 12 j.node ∧ j.kind ≠ 1))) :=
  ⟨⟨0, 0, (131079 : Word), (((netted.put F.LK_TXL_a 0 8388608).put F.LK_TXW_cnt 0 1).put F.BANK_OWN_gl 0 1), by decide, by decide, by decide, by decide, by decide, (by unfold Quiet; decide)⟩,
    ⟨0, 0, (131072 : Word), State.reset, by decide, by decide, by decide, by decide⟩,
    ⟨0, 0, (131079 : Word), netted, .debug, by decide, by decide, by decide⟩,
    ⟨6400000000000, 0, 0, (State.reset.setTxs 0 { job := some aJob }), aJob, by decide, by decide, by decide⟩,
    ⟨0, 0, (netted.setTxs 0 { job := some aJob }), 0, signed 0 0 (frm 11 0 0 [16384]), aJob, by decide, ⟨by decide, by decide, by decide, by decide, in_order_mac _ _ _ (by decide +kernel) (by decide +kernel)⟩, by decide, by decide, by decide, by decide, by decide, by decide, by decide⟩,
    ⟨0, 0, ((netted.setTxs 0 { job := some { aJob with buf := 8388608 } }).put F.BANK_OWN_gl 0 1), 0, signed 0 0 (frm 11 0 0 [0, 5]), { aJob with buf := 8388608 }, by decide, ⟨by decide, by decide, by decide, by decide, in_order_mac _ _ _ (by decide +kernel) (by decide +kernel)⟩, by decide, by decide, by decide, by decide, by decide, by decide, by decide, by decide, by decide, by decide⟩,
    ⟨0, 0, (netted.setTxs 0 { job := some { aJob with tag := 4 } }), 0, signed 0 0 (frm 11 0 0 [0, 5]), { aJob with tag := 4 }, by decide, ⟨by decide, by decide, by decide, by decide, in_order_mac _ _ _ (by decide +kernel) (by decide +kernel)⟩, by decide, by decide, by decide, by decide, by decide⟩⟩

/-- The hypotheses of clauses of `Obligations.RegisterAccess` are met. -/
theorem wit_RegisterAccess :
    (∃ (t : ℕ) (q : Req) (k : Fin 8) (a : Addr) (s : State) (r : RegName) (i : ℕ) (al : Alias), Reaches (BitVec.toNat a) r i al ∧
      (∀ (u : ℕ), cuOfReg r i = some u → (s.cuOf u).held = []) ∧
      (∀ (c : Fin 16), q = Req.core c → capCheck ((s.coreOf (↑c : ℕ)).cap (↑k : ℕ)) [permST] (↑(BitVec.toNat a) : ℤ) r.size = none) ∧
      HwIdle t r i s ∧
      r ∈ plainRegs) ∧
    (∃ (t : ℕ) (q : Req) (k : Fin 8) (a : Addr) (s : State) (r : RegName) (i : ℕ) (al : Alias), Reaches (BitVec.toNat a) r i al ∧
      (∀ (u : ℕ), cuOfReg r i = some u → (s.cuOf u).held = []) ∧
      (∀ (c : Fin 16), q = Req.core c → capCheck ((s.coreOf (↑c : ℕ)).cap (↑k : ℕ)) [permST] (↑(BitVec.toNat a) : ℤ) r.size = none) ∧
      HwIdle t r i s ∧
      r ∈ readOnlyRegs) ∧
    (∃ (t : ℕ) (q : Req) (k : Fin 8) (a : Addr) (s : State) (r : RegName) (i : ℕ) (al : Alias), Reaches (BitVec.toNat a) r i al ∧
      (∀ (u : ℕ), cuOfReg r i = some u → (s.cuOf u).held = []) ∧
      (∀ (c : Fin 16), q = Req.core c → capCheck ((s.coreOf (↑c : ℕ)).cap (↑k : ℕ)) [permLD] (↑(BitVec.toNat a) : ℤ) r.size = none) ∧
      r ∈ rcRegs ∧
      ((State.tick t s).hwAt r i).rc = none) ∧
    (∃ (t : ℕ) (q : Req) (k : Fin 8) (a : Addr) (s : State) (r : RegName) (i : ℕ) (al : Alias) (y : ℕ × ℕ), Reaches (BitVec.toNat a) r i al ∧
      (∀ (u : ℕ), cuOfReg r i = some u → (s.cuOf u).held = []) ∧
      (∀ (c : Fin 16), q = Req.core c → capCheck ((s.coreOf (↑c : ℕ)).cap (↑k : ℕ)) [permLD] (↑(BitVec.toNat a) : ℤ) r.size = none) ∧
      r ∈ rcRegs ∧
      ((State.tick t s).hwAt r i).rc = some y) ∧
    (∃ (q : Req) (k : Fin 8) (a : Addr) (s : State) (dbl : Bool), regionOf (BitVec.toNat a) = Region.periph ∧
      (periphAcc (BitVec.toNat a) (if dbl = true then 4 else 2) = PAcc.free) ∧
      (∀ (c : Fin 16), q = Req.core c → capCheck ((s.coreOf (↑c : ℕ)).cap (↑k : ℕ)) [permST] (↑(BitVec.toNat a) : ℤ) (if dbl = true then 4 else 2) = none)) ∧
    (∃ (q : Req) (a : Addr) (dbl : Bool), regionOf (BitVec.toNat a) = Region.periph ∧
      ((match periphAcc (BitVec.toNat a) (if dbl = true then 4 else 2) with | PAcc.half r i hi => true | PAcc.align => true | PAcc.gone => true | x => false) = true) ∧
      (∀ (c : Fin 16), q ≠ Req.core c)) ∧
    (∃ (q : Req) (a : Addr) (s : State) (dbl : Bool) (c : Fin 16), regionOf (BitVec.toNat a) = Region.periph ∧
      q = Req.core c ∧
      canRun s (↑c : ℕ) = true ∧
      ((match periphAcc (BitVec.toNat a) (if dbl = true then 4 else 2) with | PAcc.reg r i => r.hasRc | PAcc.align => true | PAcc.gone => true | x => false) = true)) :=
  ⟨⟨6400000000000, .debug, 0, (0o121000024 : Addr), State.reset, .ICH_STAT, 0, .set, ⟨by decide, by decide, by decide, by decide, by decide⟩, (by intro u h; exact nomatch (show (none : Option ℕ) = some u from h)), (fun c h => nomatch h), (by unfold HwIdle; decide), by decide⟩,
    ⟨6400000000000, .debug, 0, (0o101000030 : Addr), State.reset, .ICH_RSTAT, 0, Alias.base, ⟨by decide, by decide, by decide, by decide, by decide⟩, (by intro u h; exact nomatch (show (none : Option ℕ) = some u from h)), (fun c h => nomatch h), (by unfold HwIdle; decide), by decide⟩,
    ⟨6400000000000, .debug, 0, (0o101000026 : Addr), State.reset, .ICH_MISSCNT, 0, Alias.base, ⟨by decide, by decide, by decide, by decide, by decide⟩, (by intro u h; exact nomatch (show (none : Option ℕ) = some u from h)), (fun c h => nomatch h), by decide, by decide⟩,
    ⟨6400000000000, .debug, 0, (0o101000026 : Addr), (State.reset.setHw (regKey .ICH_MISSCNT 0) { cyc := 100000000000, rc := some (3, 1) }), .ICH_MISSCNT, 0, Alias.base, (3, 1), ⟨by decide, by decide, by decide, by decide, by decide⟩, (by intro u h; exact nomatch (show (none : Option ℕ) = some u from h)), (fun c h => nomatch h), by decide, by decide⟩,
    ⟨.debug, 0, (0o113777776 : Addr), State.reset, false, by decide, by decide, (fun c h => nomatch h)⟩,
    ⟨.debug, (0o101000001 : Addr), false, by decide, by decide, (fun c h => nomatch h)⟩,
    ⟨(.core 0), (0o101000001 : Addr), (running core0), false, 0, by decide, by decide, by decide, by decide⟩⟩

/-- The hypotheses of clauses of `Obligations.RegisterCommandsKeepAuthority` are met. -/
theorem wit_RegisterCommandsKeepAuthority :
    ∃ (m : CoreCmd), m ∈ registerCmds :=
  ⟨registerCmds[3], (List.getElem_mem (by decide))⟩

/-- The hypotheses of clauses of `Obligations.ResetValues` are met. -/
theorem wit_ResetValues :
    (∃ (n : ℕ) (e : Fld × ℕ), n < 128 ∧
      e ∈ [(F.ICH_WLEN_len, 512), (F.ICH_PROBETHR_thr, 1280), (F.WC_THH_code, 2047), (F.WC_THL_code, 2048), (F.BERTH_CTL_pri, 3), (F.BERTH_CTL_crane, n % 8), (F.BERTH_TRG_src, 2), (F.BERTH_GBASE_base, 16 * n), (F.BERTH_IO_ch, n), (F.BERTH_IO_cu, n), (F.CU_PER_p, 1000), (F.CU_PERS_p, 1000), (F.CU_CAP_t, 2 ^ 36 - 1), (F.LC_FILT_n, 1), (F.LC_OWN_core, 31), (F.EV_OWN_core, 31), (F.ICH_CTL_en, 0), (F.WC_CTL_en, 0), (F.BERTH_CTL_arm, 0), (F.CU_CTL_run, 0), (F.CU_CTL_oen, 0), (F.LC_CTL_en, 0), (F.EV_CTL_en, 0)]) ∧
    (∃ (n : ℕ) (e : Fld × ℕ), n < 16 ∧
      e ∈ [(F.CORE_WDT_tmo, 1000), (F.VU_STAT_cpri, 15), (F.VU_VCTL_pri, 15), (F.SC_BOTHR_th, 1450), (F.MF_CTL_dmin, 15)]) ∧
    (∃ (n : ℕ) (e : Fld × ℕ), n < 64 ∧
      e ∈ [(F.BANK_STAT_hpend, 0), (F.BANK_STAT_cfgerr, 0), (F.LK_TXW_cnt, 1), (F.LK_TXS_busy, 0), (F.GPIO_CFG_dir, 0), (F.TZ_STAT_lat, 0)]) ∧
    (∃ (n : ℕ), n < 4096) ∧
    (∃ (e : Fld × ℕ), e ∈ [(F.MT_LIM_pmin, 15000), (F.MT_LIM_pmax, 23000), (F.MFU_JPER_per, 1), (F.MEM_SCRUB_en, 1), (F.TB_PPSWIN_w, 1000), (F.TB_UNCERT_ns, 2 ^ 36 - 1), (F.TB_XRATIO_q, 8000000000), (F.PWR_QCTL_q, 15), (F.TJ_SPRING_LIMIT_t, 100), (F.SPRING_MAX_S_s, 60), (F.MODE_DROOP_th, 154), (F.LK_QUAR_n, 16), (F.LK_NET_hops, 32), (F.LK_RETRY_rbn, 4), (F.LK_RETRY_rbs, 16), (F.LK_RETRY_rtmo, 8), (F.LK_CAP_n, 8), (F.LK_TMO_us, 100), (F.GT_TREE_parent, 7), (F.GT_PLEAD_v, 20000), (F.GT_PGUARD_g, 2000), (F.GT_PCTL_lvl, 1), (F.BEHAVIOUR_LEVEL_impl, 3), (F.SMB_TMO_us, 1000), (F.SPI_CTL_div, 9), (F.LK_PSTAT_state, 0), (F.GT_LAST_v, 0), (F.GT_STAT_open, 0), (F.TIDE_EPOCH_n, 0)]) :=
  ⟨⟨0, ((F.ICH_CTL_en, 0) : Fld × ℕ), by decide, by decide⟩,
    ⟨15, (F.VU_STAT_cpri, 15), by decide, by decide⟩,
    ⟨63, (F.LK_TXW_cnt, 1), by decide, by decide⟩,
    ⟨0, by decide⟩,
    ⟨(F.LK_NET_hops, 32), by decide⟩⟩

/-- The hypotheses of clauses of `Obligations.SmbusPorts` are met. -/
theorem wit_SmbusPorts_1 :
    (∃ (m : Fin 2) (a : BitVec 7) (s : State), ¬(s.is F.SMB_CTL_en (↑m : ℕ) = true ∧ s.get F.SMB_CTL_addr (↑m : ℕ) = a.toNat ∧ s.rung < 3 ∧ s.is F.SMB_STAT_rdw (↑m : ℕ) = false)) ∧
    (∃ (m : Fin 2) (a : BitVec 7) (c : BitVec 8) (pec : Option (BitVec 8)) (s : State), (s.is F.SMB_CTL_en (↑m : ℕ) = true ∧ s.get F.SMB_CTL_addr (↑m : ℕ) = a.toNat ∧ s.rung < 3 ∧ s.is F.SMB_STAT_rdw (↑m : ℕ) = false) ∧
      (s.smbOf (↑m : ℕ)).q.length < 8 ∧
      ((c = 0 ∧ (if s.is F.SMB_CTL_pec (↑m : ℕ) = true then [] else [] ++ pec.toList) ≠ []) ∧ 32 ≤ ((if s.is F.SMB_CTL_pec (↑m : ℕ) = true then [] else [] ++ pec.toList).getD 0 0).toNat ∧ (if s.is F.SMB_CTL_pec (↑m : ℕ) = true then [] else [] ++ pec.toList).getD 0 0 ≠ 255 ∨ 32 < (if s.is F.SMB_CTL_pec (↑m : ℕ) = true then [] else [] ++ pec.toList).length)) ∧
    (∃ (m : Fin 2) (a : BitVec 7) (c : BitVec 8) (pec : Option (BitVec 8)) (s : State), (s.is F.SMB_CTL_en (↑m : ℕ) = true ∧ s.get F.SMB_CTL_addr (↑m : ℕ) = a.toNat ∧ s.rung < 3 ∧ s.is F.SMB_STAT_rdw (↑m : ℕ) = false) ∧
      (s.smbOf (↑m : ℕ)).q.length < 8 ∧
      (¬((c = 0 ∧ (if s.is F.SMB_CTL_pec (↑m : ℕ) = true then [] else [] ++ pec.toList) ≠ []) ∧ 32 ≤ ((if s.is F.SMB_CTL_pec (↑m : ℕ) = true then [] else [] ++ pec.toList).getD 0 0).toNat ∧ (if s.is F.SMB_CTL_pec (↑m : ℕ) = true then [] else [] ++ pec.toList).getD 0 0 ≠ 255 ∨ 32 < (if s.is F.SMB_CTL_pec (↑m : ℕ) = true then [] else [] ++ pec.toList).length)) ∧
      (¬(s.is F.SMB_CTL_pec (↑m : ℕ) = true → pec = some (crc8 ([BitVec.ofNat 8 (2 * a.toNat), c] ++ [] ++ []))))) ∧
    (∃ (m : Fin 2) (a : BitVec 7) (c : BitVec 8) (pec : Option (BitVec 8)) (s : State), (s.is F.SMB_CTL_en (↑m : ℕ) = true ∧ s.get F.SMB_CTL_addr (↑m : ℕ) = a.toNat ∧ s.rung < 3 ∧ s.is F.SMB_STAT_rdw (↑m : ℕ) = false) ∧
      (s.smbOf (↑m : ℕ)).q.length < 8 ∧
      (¬((c = 0 ∧ (if s.is F.SMB_CTL_pec (↑m : ℕ) = true then [] else [] ++ pec.toList) ≠ []) ∧ 32 ≤ ((if s.is F.SMB_CTL_pec (↑m : ℕ) = true then [] else [] ++ pec.toList).getD 0 0).toNat ∧ (if s.is F.SMB_CTL_pec (↑m : ℕ) = true then [] else [] ++ pec.toList).getD 0 0 ≠ 255 ∨ 32 < (if s.is F.SMB_CTL_pec (↑m : ℕ) = true then [] else [] ++ pec.toList).length)) ∧
      (s.is F.SMB_CTL_pec (↑m : ℕ) = true → pec = some (crc8 ([BitVec.ofNat 8 (2 * a.toNat), c] ++ [] ++ [])))) ∧
    (∃ (m : Fin 2) (a : BitVec 7) (c : BitVec 8) (x : BitVec 8) (pec : Option (BitVec 8)) (s : State), (s.is F.SMB_CTL_en (↑m : ℕ) = true ∧ s.get F.SMB_CTL_addr (↑m : ℕ) = a.toNat ∧ s.rung < 3 ∧ s.is F.SMB_STAT_rdw (↑m : ℕ) = false) ∧
      (s.smbOf (↑m : ℕ)).q.length < 8 ∧
      ((c = 0 ∧ (if s.is F.SMB_CTL_pec (↑m : ℕ) = true then [x] else [x] ++ pec.toList) ≠ []) ∧ 32 ≤ ((if s.is F.SMB_CTL_pec (↑m : ℕ) = true then [x] else [x] ++ pec.toList).getD 0 0).toNat ∧ (if s.is F.SMB_CTL_pec (↑m : ℕ) = true then [x] else [x] ++ pec.toList).getD 0 0 ≠ 255 ∨ 32 < (if s.is F.SMB_CTL_pec (↑m : ℕ) = true then [x] else [x] ++ pec.toList).length)) ∧
    (∃ (m : Fin 2) (a : BitVec 7) (c : BitVec 8) (x : BitVec 8) (pec : Option (BitVec 8)) (s : State), (s.is F.SMB_CTL_en (↑m : ℕ) = true ∧ s.get F.SMB_CTL_addr (↑m : ℕ) = a.toNat ∧ s.rung < 3 ∧ s.is F.SMB_STAT_rdw (↑m : ℕ) = false) ∧
      (s.smbOf (↑m : ℕ)).q.length < 8 ∧
      (¬((c = 0 ∧ (if s.is F.SMB_CTL_pec (↑m : ℕ) = true then [x] else [x] ++ pec.toList) ≠ []) ∧ 32 ≤ ((if s.is F.SMB_CTL_pec (↑m : ℕ) = true then [x] else [x] ++ pec.toList).getD 0 0).toNat ∧ (if s.is F.SMB_CTL_pec (↑m : ℕ) = true then [x] else [x] ++ pec.toList).getD 0 0 ≠ 255 ∨ 32 < (if s.is F.SMB_CTL_pec (↑m : ℕ) = true then [x] else [x] ++ pec.toList).length)) ∧
      (¬(s.is F.SMB_CTL_pec (↑m : ℕ) = true → pec = some (crc8 ([BitVec.ofNat 8 (2 * a.toNat), c] ++ [] ++ [x]))))) ∧
    (∃ (m : Fin 2) (a : BitVec 7) (c : BitVec 8) (x : BitVec 8) (pec : Option (BitVec 8)) (s : State), (s.is F.SMB_CTL_en (↑m : ℕ) = true ∧ s.get F.SMB_CTL_addr (↑m : ℕ) = a.toNat ∧ s.rung < 3 ∧ s.is F.SMB_STAT_rdw (↑m : ℕ) = false) ∧
      (s.smbOf (↑m : ℕ)).q.length < 8 ∧
      (¬((c = 0 ∧ (if s.is F.SMB_CTL_pec (↑m : ℕ) = true then [x] else [x] ++ pec.toList) ≠ []) ∧ 32 ≤ ((if s.is F.SMB_CTL_pec (↑m : ℕ) = true then [x] else [x] ++ pec.toList).getD 0 0).toNat ∧ (if s.is F.SMB_CTL_pec (↑m : ℕ) = true then [x] else [x] ++ pec.toList).getD 0 0 ≠ 255 ∨ 32 < (if s.is F.SMB_CTL_pec (↑m : ℕ) = true then [x] else [x] ++ pec.toList).length)) ∧
      (s.is F.SMB_CTL_pec (↑m : ℕ) = true → pec = some (crc8 ([BitVec.ofNat 8 (2 * a.toNat), c] ++ [] ++ [x])))) ∧
    (∃ (m : Fin 2) (a : BitVec 7) (c : BitVec 8) (x : BitVec 8) (y : BitVec 8) (pec : Option (BitVec 8)) (s : State), (s.is F.SMB_CTL_en (↑m : ℕ) = true ∧ s.get F.SMB_CTL_addr (↑m : ℕ) = a.toNat ∧ s.rung < 3 ∧ s.is F.SMB_STAT_rdw (↑m : ℕ) = false) ∧
      (s.smbOf (↑m : ℕ)).q.length < 8 ∧
      ((c = 0 ∧ (if s.is F.SMB_CTL_pec (↑m : ℕ) = true then [x, y] else [x, y] ++ pec.toList) ≠ []) ∧ 32 ≤ ((if s.is F.SMB_CTL_pec (↑m : ℕ) = true then [x, y] else [x, y] ++ pec.toList).getD 0 0).toNat ∧ (if s.is F.SMB_CTL_pec (↑m : ℕ) = true then [x, y] else [x, y] ++ pec.toList).getD 0 0 ≠ 255 ∨ 32 < (if s.is F.SMB_CTL_pec (↑m : ℕ) = true then [x, y] else [x, y] ++ pec.toList).length)) ∧
    (∃ (m : Fin 2) (a : BitVec 7) (c : BitVec 8) (x : BitVec 8) (y : BitVec 8) (pec : Option (BitVec 8)) (s : State), (s.is F.SMB_CTL_en (↑m : ℕ) = true ∧ s.get F.SMB_CTL_addr (↑m : ℕ) = a.toNat ∧ s.rung < 3 ∧ s.is F.SMB_STAT_rdw (↑m : ℕ) = false) ∧
      (s.smbOf (↑m : ℕ)).q.length < 8 ∧
      (¬((c = 0 ∧ (if s.is F.SMB_CTL_pec (↑m : ℕ) = true then [x, y] else [x, y] ++ pec.toList) ≠ []) ∧ 32 ≤ ((if s.is F.SMB_CTL_pec (↑m : ℕ) = true then [x, y] else [x, y] ++ pec.toList).getD 0 0).toNat ∧ (if s.is F.SMB_CTL_pec (↑m : ℕ) = true then [x, y] else [x, y] ++ pec.toList).getD 0 0 ≠ 255 ∨ 32 < (if s.is F.SMB_CTL_pec (↑m : ℕ) = true then [x, y] else [x, y] ++ pec.toList).length)) ∧
      (¬(s.is F.SMB_CTL_pec (↑m : ℕ) = true → pec = some (crc8 ([BitVec.ofNat 8 (2 * a.toNat), c] ++ [] ++ [x, y]))))) :=
  ⟨⟨0, (0 : BitVec 7), State.reset, by decide⟩,
    ⟨0, (0 : BitVec 7), 0, some 40, ((((State.reset.put F.SMB_CTL_en 0 1)).put F.SMB_CTL_en 0 1).put F.SMB_STAT_rdw 0 0), by decide, by decide, by decide⟩,
    ⟨0, (0 : BitVec 7), 1, none, (((((State.reset.put F.SMB_CTL_en 0 1).put F.SMB_CTL_pec 0 1)).put F.SMB_CTL_en 0 1).put F.SMB_STAT_rdw 0 0), by decide, by decide, by decide, by decide⟩,
    ⟨0, (0 : BitVec 7), (0 : BitVec 8), none, ((State.reset.put F.SMB_CTL_en 0 1).put F.SMB_STAT_rdw 0 0), by decide, by decide, by decide, by decide⟩,
    ⟨0, (0 : BitVec 7), 0, 40, some 40, ((((State.reset.put F.SMB_CTL_en 0 1)).put F.SMB_CTL_en 0 1).put F.SMB_STAT_rdw 0 0), by decide, by decide, by decide⟩,
    ⟨0, (0 : BitVec 7), 1, 10, none, (((((State.reset.put F.SMB_CTL_en 0 1).put F.SMB_CTL_pec 0 1)).put F.SMB_CTL_en 0 1).put F.SMB_STAT_rdw 0 0), by decide, by decide, by decide, by decide⟩,
    ⟨0, (0 : BitVec 7), (0 : BitVec 8), (0 : BitVec 8), none, ((State.reset.put F.SMB_CTL_en 0 1).put F.SMB_STAT_rdw 0 0), by decide, by decide, by decide, by decide⟩,
    ⟨0, (0 : BitVec 7), 0, 40, 0, some 40, ((((State.reset.put F.SMB_CTL_en 0 1)).put F.SMB_CTL_en 0 1).put F.SMB_STAT_rdw 0 0), by decide, by decide, by decide⟩,
    ⟨0, (0 : BitVec 7), 1, 10, 0, none, (((((State.reset.put F.SMB_CTL_en 0 1).put F.SMB_CTL_pec 0 1)).put F.SMB_CTL_en 0 1).put F.SMB_STAT_rdw 0 0), by decide, by decide, by decide, by decide⟩⟩

/-- The hypotheses of clauses of `Obligations.SmbusPorts` are met. -/
theorem wit_SmbusPorts_2 :
    (∃ (m : Fin 2) (a : BitVec 7) (c : BitVec 8) (x : BitVec 8) (y : BitVec 8) (pec : Option (BitVec 8)) (s : State), (s.is F.SMB_CTL_en (↑m : ℕ) = true ∧ s.get F.SMB_CTL_addr (↑m : ℕ) = a.toNat ∧ s.rung < 3 ∧ s.is F.SMB_STAT_rdw (↑m : ℕ) = false) ∧
      (s.smbOf (↑m : ℕ)).q.length < 8 ∧
      (¬((c = 0 ∧ (if s.is F.SMB_CTL_pec (↑m : ℕ) = true then [x, y] else [x, y] ++ pec.toList) ≠ []) ∧ 32 ≤ ((if s.is F.SMB_CTL_pec (↑m : ℕ) = true then [x, y] else [x, y] ++ pec.toList).getD 0 0).toNat ∧ (if s.is F.SMB_CTL_pec (↑m : ℕ) = true then [x, y] else [x, y] ++ pec.toList).getD 0 0 ≠ 255 ∨ 32 < (if s.is F.SMB_CTL_pec (↑m : ℕ) = true then [x, y] else [x, y] ++ pec.toList).length)) ∧
      (s.is F.SMB_CTL_pec (↑m : ℕ) = true → pec = some (crc8 ([BitVec.ofNat 8 (2 * a.toNat), c] ++ [] ++ [x, y])))) ∧
    (∃ (m : Fin 2) (a : BitVec 7) (c : BitVec 8) (l : List (BitVec 8)) (pec : Option (BitVec 8)) (s : State), (s.is F.SMB_CTL_en (↑m : ℕ) = true ∧ s.get F.SMB_CTL_addr (↑m : ℕ) = a.toNat ∧ s.rung < 3 ∧ s.is F.SMB_STAT_rdw (↑m : ℕ) = false) ∧
      (s.smbOf (↑m : ℕ)).q.length < 8 ∧
      ((c = 0 ∧ (if s.is F.SMB_CTL_pec (↑m : ℕ) = true then l else l ++ pec.toList) ≠ []) ∧ 32 ≤ ((if s.is F.SMB_CTL_pec (↑m : ℕ) = true then l else l ++ pec.toList).getD 0 0).toNat ∧ (if s.is F.SMB_CTL_pec (↑m : ℕ) = true then l else l ++ pec.toList).getD 0 0 ≠ 255 ∨ 32 < (if s.is F.SMB_CTL_pec (↑m : ℕ) = true then l else l ++ pec.toList).length)) ∧
    (∃ (m : Fin 2) (a : BitVec 7) (c : BitVec 8) (l : List (BitVec 8)) (pec : Option (BitVec 8)) (s : State), (s.is F.SMB_CTL_en (↑m : ℕ) = true ∧ s.get F.SMB_CTL_addr (↑m : ℕ) = a.toNat ∧ s.rung < 3 ∧ s.is F.SMB_STAT_rdw (↑m : ℕ) = false) ∧
      (s.smbOf (↑m : ℕ)).q.length < 8 ∧
      (¬((c = 0 ∧ (if s.is F.SMB_CTL_pec (↑m : ℕ) = true then l else l ++ pec.toList) ≠ []) ∧ 32 ≤ ((if s.is F.SMB_CTL_pec (↑m : ℕ) = true then l else l ++ pec.toList).getD 0 0).toNat ∧ (if s.is F.SMB_CTL_pec (↑m : ℕ) = true then l else l ++ pec.toList).getD 0 0 ≠ 255 ∨ 32 < (if s.is F.SMB_CTL_pec (↑m : ℕ) = true then l else l ++ pec.toList).length)) ∧
      (¬(s.is F.SMB_CTL_pec (↑m : ℕ) = true → pec = some (crc8 ([BitVec.ofNat 8 (2 * a.toNat), c] ++ [BitVec.ofNat 8 l.length] ++ l))))) ∧
    (∃ (m : Fin 2) (a : BitVec 7) (c : BitVec 8) (l : List (BitVec 8)) (pec : Option (BitVec 8)) (s : State), (s.is F.SMB_CTL_en (↑m : ℕ) = true ∧ s.get F.SMB_CTL_addr (↑m : ℕ) = a.toNat ∧ s.rung < 3 ∧ s.is F.SMB_STAT_rdw (↑m : ℕ) = false) ∧
      (s.smbOf (↑m : ℕ)).q.length < 8 ∧
      (¬((c = 0 ∧ (if s.is F.SMB_CTL_pec (↑m : ℕ) = true then l else l ++ pec.toList) ≠ []) ∧ 32 ≤ ((if s.is F.SMB_CTL_pec (↑m : ℕ) = true then l else l ++ pec.toList).getD 0 0).toNat ∧ (if s.is F.SMB_CTL_pec (↑m : ℕ) = true then l else l ++ pec.toList).getD 0 0 ≠ 255 ∨ 32 < (if s.is F.SMB_CTL_pec (↑m : ℕ) = true then l else l ++ pec.toList).length)) ∧
      (s.is F.SMB_CTL_pec (↑m : ℕ) = true → pec = some (crc8 ([BitVec.ofNat 8 (2 * a.toNat), c] ++ [BitVec.ofNat 8 l.length] ++ l)))) ∧
    (∃ (m : Fin 2) (a : BitVec 7) (x : BitVec 8) (pec : Option (BitVec 8)) (s : State), (s.is F.SMB_CTL_en (↑m : ℕ) = true ∧ s.get F.SMB_CTL_addr (↑m : ℕ) = a.toNat ∧ s.rung < 3 ∧ s.is F.SMB_STAT_rdw (↑m : ℕ) = false) ∧
      (s.smbOf (↑m : ℕ)).q.length < 8 ∧
      ((0 = 0 ∧ (if s.is F.SMB_CTL_pec (↑m : ℕ) = true then [x] else [x] ++ pec.toList) ≠ []) ∧ 32 ≤ ((if s.is F.SMB_CTL_pec (↑m : ℕ) = true then [x] else [x] ++ pec.toList).getD 0 0).toNat ∧ (if s.is F.SMB_CTL_pec (↑m : ℕ) = true then [x] else [x] ++ pec.toList).getD 0 0 ≠ 255 ∨ 32 < (if s.is F.SMB_CTL_pec (↑m : ℕ) = true then [x] else [x] ++ pec.toList).length)) ∧
    (∃ (m : Fin 2) (a : BitVec 7) (x : BitVec 8) (pec : Option (BitVec 8)) (s : State), (s.is F.SMB_CTL_en (↑m : ℕ) = true ∧ s.get F.SMB_CTL_addr (↑m : ℕ) = a.toNat ∧ s.rung < 3 ∧ s.is F.SMB_STAT_rdw (↑m : ℕ) = false) ∧
      (s.smbOf (↑m : ℕ)).q.length < 8 ∧
      (¬((0 = 0 ∧ (if s.is F.SMB_CTL_pec (↑m : ℕ) = true then [x] else [x] ++ pec.toList) ≠ []) ∧ 32 ≤ ((if s.is F.SMB_CTL_pec (↑m : ℕ) = true then [x] else [x] ++ pec.toList).getD 0 0).toNat ∧ (if s.is F.SMB_CTL_pec (↑m : ℕ) = true then [x] else [x] ++ pec.toList).getD 0 0 ≠ 255 ∨ 32 < (if s.is F.SMB_CTL_pec (↑m : ℕ) = true then [x] else [x] ++ pec.toList).length)) ∧
      (¬(s.is F.SMB_CTL_pec (↑m : ℕ) = true → pec = some (crc8 ([BitVec.ofNat 8 (2 * a.toNat), 0] ++ [] ++ [x]))))) ∧
    (∃ (m : Fin 2) (a : BitVec 7) (x : BitVec 8) (pec : Option (BitVec 8)) (s : State), (s.is F.SMB_CTL_en (↑m : ℕ) = true ∧ s.get F.SMB_CTL_addr (↑m : ℕ) = a.toNat ∧ s.rung < 3 ∧ s.is F.SMB_STAT_rdw (↑m : ℕ) = false) ∧
      (s.smbOf (↑m : ℕ)).q.length < 8 ∧
      (¬((0 = 0 ∧ (if s.is F.SMB_CTL_pec (↑m : ℕ) = true then [x] else [x] ++ pec.toList) ≠ []) ∧ 32 ≤ ((if s.is F.SMB_CTL_pec (↑m : ℕ) = true then [x] else [x] ++ pec.toList).getD 0 0).toNat ∧ (if s.is F.SMB_CTL_pec (↑m : ℕ) = true then [x] else [x] ++ pec.toList).getD 0 0 ≠ 255 ∨ 32 < (if s.is F.SMB_CTL_pec (↑m : ℕ) = true then [x] else [x] ++ pec.toList).length)) ∧
      (s.is F.SMB_CTL_pec (↑m : ℕ) = true → pec = some (crc8 ([BitVec.ofNat 8 (2 * a.toNat), 0] ++ [] ++ [x])))) ∧
    (∃ (m : Fin 2) (a : BitVec 7) (c : BitVec 8) (s : State), (s.is F.SMB_CTL_en (↑m : ℕ) = true ∧ s.get F.SMB_CTL_addr (↑m : ℕ) = a.toNat ∧ s.rung < 3 ∧ s.is F.SMB_STAT_rdw (↑m : ℕ) = false) ∧
      c = 0) ∧
    (∃ (t : ℕ) (m : Fin 2) (a : BitVec 7) (c : BitVec 8) (s : State) (r : ℕ × ℕ × ℕ), (s.is F.SMB_CTL_en (↑m : ℕ) = true ∧ s.get F.SMB_CTL_addr (↑m : ℕ) = a.toNat ∧ s.rung < 3 ∧ s.is F.SMB_STAT_rdw (↑m : ℕ) = false) ∧
      r ∈ [(0, 25, 1), (1, 32, 1), (2, 120, 1), (3, 121, 2), (4, 136, 2), (5, 137, 2), (6, 139, 2), (7, 140, 2), (8, 141, 2), (9, 150, 2), (10, 151, 2), (11, 152, 1)] ∧
      c.toNat = r.2.1 ∧
      F.SMB_IMG_hw.of (smbLatched s (max s.now t) (((↑m : ℕ) * 32 + s.get F.SMB_STAT_page (↑m : ℕ)) * 12 + r.1)).toNat = 1) :=
  ⟨⟨0, (0 : BitVec 7), (0 : BitVec 8), (0 : BitVec 8), (0 : BitVec 8), none, ((State.reset.put F.SMB_CTL_en 0 1).put F.SMB_STAT_rdw 0 0), by decide, by decide, by decide, by decide⟩,
    ⟨0, (0 : BitVec 7), 0, [40], some 40, ((((State.reset.put F.SMB_CTL_en 0 1)).put F.SMB_CTL_en 0 1).put F.SMB_STAT_rdw 0 0), by decide, by decide, by decide⟩,
    ⟨0, (0 : BitVec 7), 1, [10], none, (((((State.reset.put F.SMB_CTL_en 0 1).put F.SMB_CTL_pec 0 1)).put F.SMB_CTL_en 0 1).put F.SMB_STAT_rdw 0 0), by decide, by decide, by decide, by decide⟩,
    ⟨0, (0 : BitVec 7), (0 : BitVec 8), [], none, ((State.reset.put F.SMB_CTL_en 0 1).put F.SMB_STAT_rdw 0 0), by decide, by decide, by decide, by decide⟩,
    ⟨0, (0 : BitVec 7), 40, some 40, ((((State.reset.put F.SMB_CTL_en 0 1)).put F.SMB_CTL_en 0 1).put F.SMB_STAT_rdw 0 0), by decide, by decide, by decide⟩,
    ⟨0, (0 : BitVec 7), 10, none, (((((State.reset.put F.SMB_CTL_en 0 1).put F.SMB_CTL_pec 0 1)).put F.SMB_CTL_en 0 1).put F.SMB_STAT_rdw 0 0), by decide, by decide, by decide, by decide⟩,
    ⟨0, (0 : BitVec 7), (0 : BitVec 8), none, ((State.reset.put F.SMB_CTL_en 0 1).put F.SMB_STAT_rdw 0 0), by decide, by decide, by decide, by decide⟩,
    ⟨0, (0 : BitVec 7), (0 : BitVec 8), ((State.reset.put F.SMB_CTL_en 0 1).put F.SMB_STAT_rdw 0 0), by decide, by decide⟩,
    ⟨6400000000000, 0, (0 : BitVec 7), 25, (((((State.reset.put F.SMB_CTL_en 0 1).put F.SMB_IMG_hw 0 1)).put F.SMB_CTL_en 0 1).put F.SMB_STAT_rdw 0 0), ((0, 25, 1) : ℕ × ℕ × ℕ), by decide, by decide, by decide, by decide⟩⟩

/-- The hypotheses of clauses of `Obligations.SmbusPorts` are met. -/
theorem wit_SmbusPorts_3 :
    (∃ (t : ℕ) (m : Fin 2) (a : BitVec 7) (c : BitVec 8) (s : State), (s.is F.SMB_CTL_en (↑m : ℕ) = true ∧ s.get F.SMB_CTL_addr (↑m : ℕ) = a.toNat ∧ s.rung < 3 ∧ s.is F.SMB_STAT_rdw (↑m : ℕ) = false) ∧
      c ≠ 0 ∧
      (¬∃ r ∈ [(0, 25, 1), (1, 32, 1), (2, 120, 1), (3, 121, 2), (4, 136, 2), (5, 137, 2), (6, 139, 2), (7, 140, 2), (8, 141, 2), (9, 150, 2), (10, 151, 2), (11, 152, 1)], c.toNat = r.2.1 ∧ F.SMB_IMG_hw.of (smbLatched s (max s.now t) (((↑m : ℕ) * 32 + s.get F.SMB_STAT_page (↑m : ℕ)) * 12 + r.1)).toNat = 1) ∧
      (s.smbOf (↑m : ℕ)).q.length < 8) ∧
    (∃ (t : ℕ) (m : Fin 2) (a : BitVec 7) (c : BitVec 8) (s : State), (s.is F.SMB_CTL_en (↑m : ℕ) = true ∧ s.get F.SMB_CTL_addr (↑m : ℕ) = a.toNat ∧ s.rung < 3 ∧ s.is F.SMB_STAT_rdw (↑m : ℕ) = false) ∧
      c ≠ 0 ∧
      (¬∃ r ∈ [(0, 25, 1), (1, 32, 1), (2, 120, 1), (3, 121, 2), (4, 136, 2), (5, 137, 2), (6, 139, 2), (7, 140, 2), (8, 141, 2), (9, 150, 2), (10, 151, 2), (11, 152, 1)], c.toNat = r.2.1 ∧ F.SMB_IMG_hw.of (smbLatched s (max s.now t) (((↑m : ℕ) * 32 + s.get F.SMB_STAT_page (↑m : ℕ)) * 12 + r.1)).toNat = 1) ∧
      8 ≤ (s.smbOf (↑m : ℕ)).q.length) ∧
    (∃ (m : Fin 2) (a : BitVec 7) (s : State), (s.is F.SMB_CTL_en (↑m : ℕ) = true ∧ s.get F.SMB_CTL_addr (↑m : ℕ) = a.toNat ∧ s.rung < 3 ∧ s.is F.SMB_STAT_rdw (↑m : ℕ) = false) ∧
      0 = 0) ∧
    (∃ (m : Fin 2) (c : BitVec 8) (s : State) (q : Req) (k : Fin 8) (b : Addr) (e : ℕ), Reaches (BitVec.toNat b) RegName.SMB_IMG e Alias.base ∧
      e / 384 = (↑m : ℕ) ∧
      (∀ (c : Fin 16), q = Req.core c → capCheck ((s.coreOf (↑c : ℕ)).cap (↑k : ℕ)) [permST] (↑(BitVec.toNat b) : ℤ) 2 = none)) ∧
    (∃ (m : Fin 2) (s : State), s.is F.SMB_CTL_en (↑m : ℕ) = true ∧
      s.rung < 3 ∧
      s.is F.SMB_CTL_alert (↑m : ℕ) = true) ∧
    (∃ (m : Fin 2) (v : Word) (s : State), F.SMB_RSP_go.of (BitVec.toNat v) = 1 ∧
      F.SMB_RSP_n.of (BitVec.toNat v) ≤ 32 ∧
      s.is F.SMB_STAT_rdw (↑m : ℕ) = true) ∧
    (∃ (m : Fin 2) (v : Word) (s : State), F.SMB_RSP_go.of (BitVec.toNat v) = 1 ∧
      F.SMB_RSP_n.of (BitVec.toNat v) ≤ 32 ∧
      s.is F.SMB_STAT_rdw (↑m : ℕ) = false) ∧
    (∃ (t : ℕ) (m : Fin 2) (s : State) (d : ℕ), (s.smbOf (↑m : ℕ)).due = some d ∧
      s.is F.SMB_STAT_rdw (↑m : ℕ) = true ∧
      d ≤ max s.now t) ∧
    (∃ (v : Word), F.SMB_POP_pop.of (BitVec.toNat v) = 1) :=
  ⟨⟨6400000000000, 0, (0 : BitVec 7), 1, ((((State.reset.put F.SMB_CTL_en 0 1)).put F.SMB_CTL_en 0 1).put F.SMB_STAT_rdw 0 0), by decide, by decide, by decide, by decide⟩,
    ⟨6400000000000, 0, (0 : BitVec 7), 1, (((((State.reset.put F.SMB_CTL_en 0 1)).setSmb 0 { ((State.reset.put F.SMB_CTL_en 0 1)).smbOf 0 with q := List.replicate 8 ⟨false, false, 0, 0, []⟩ }).put F.SMB_CTL_en 0 1).put F.SMB_STAT_rdw 0 0), by decide, by decide, by decide, by decide⟩,
    ⟨0, (0 : BitVec 7), ((State.reset.put F.SMB_CTL_en 0 1).put F.SMB_STAT_rdw 0 0), by decide, by decide⟩,
    ⟨0, (0 : BitVec 8), State.reset, .debug, 0, (0o114001000 : Addr), 0, ⟨by decide, by decide, by decide, by decide, by decide⟩, by decide, (fun c h => nomatch h)⟩,
    ⟨0, ((State.reset.put F.SMB_CTL_en 0 1).put F.SMB_CTL_alert 0 1), by decide, by decide, by decide⟩,
    ⟨0, (131072 : Word), (State.reset.put F.SMB_STAT_rdw 0 1), by decide, by decide, by decide⟩,
    ⟨0, (131072 : Word), (State.reset.put F.SMB_STAT_rdw 0 0), by decide, by decide, by decide⟩,
    ⟨6400000000000, 0, ((State.reset.put F.SMB_STAT_rdw 0 1)).setSmb 0 { ((State.reset.put F.SMB_STAT_rdw 0 1)).smbOf 0 with due := some 0 }, 0, by decide, by decide, by decide⟩,
    ⟨(131072 : Word), by decide⟩⟩

/-- The hypotheses of clauses of `Obligations.Snapshots` are met. -/
theorem wit_Snapshots :
    (∃ (c : Fin 16) (v : Word) (q : Req), F.SNAP_GO_go.of (BitVec.toNat v) = 1 ∧
      q ≠ Req.core c) ∧
    (∃ (c : Fin 16) (v : Word) (s : State), F.SNAP_GO_go.of (BitVec.toNat v) = 1 ∧
      s.is F.SNAP_STAT_busy (↑c : ℕ) = true) ∧
    (∃ (t : ℕ) (c : Fin 16) (v : Word) (s : State), F.SNAP_GO_go.of (BitVec.toNat v) = 1 ∧
      s.is F.SNAP_STAT_busy (↑c : ℕ) = false ∧
      (regionOf (s.get F.SNAP_LIST_addr (↑c : ℕ)) = Region.sram ∧ ownsBank s (↑c : ℕ) (bankAt (s.get F.SNAP_LIST_addr (↑c : ℕ))) = true ∧ s.is F.BANK_OWN_gs (bankAt (s.get F.SNAP_LIST_addr (↑c : ℕ))) = true → inOneBank (s.get F.SNAP_LIST_addr (↑c : ℕ)) (2 * (s.get F.SNAP_LIST_cnt (↑c : ℕ) + 1)) = true → ∀ i < s.get F.SNAP_LIST_cnt (↑c : ℕ) + 1, (s.sramOf (sramIx (s.get F.SNAP_LIST_addr (↑c : ℕ)) + i)).ecc = Ecc.good) ∧
      ((if ¬((regionOf (s.get F.SNAP_LIST_addr (↑c : ℕ)) = Region.sram ∧ ownsBank s (↑c : ℕ) (bankAt (s.get F.SNAP_LIST_addr (↑c : ℕ))) = true ∧ s.is F.BANK_OWN_gs (bankAt (s.get F.SNAP_LIST_addr (↑c : ℕ))) = true) ∧ regionOf (s.get F.SNAP_DST_addr (↑c : ℕ)) = Region.sram ∧ ownsBank s (↑c : ℕ) (bankAt (s.get F.SNAP_DST_addr (↑c : ℕ))) = true ∧ s.is F.BANK_OWN_gs (bankAt (s.get F.SNAP_DST_addr (↑c : ℕ))) = true) then 1 else if ¬(inOneBank (s.get F.SNAP_LIST_addr (↑c : ℕ)) (2 * (s.get F.SNAP_LIST_cnt (↑c : ℕ) + 1)) = true ∧ inOneBank (s.get F.SNAP_DST_addr (↑c : ℕ)) (8 * snapLines (List.map (fun i ↦ (s.sramOf (sramIx (s.get F.SNAP_LIST_addr (↑c : ℕ)) + i)).w) (List.range (s.get F.SNAP_LIST_cnt (↑c : ℕ) + 1)))) = true ∧ s.get F.SNAP_DST_addr (↑c : ℕ) % 8 = 0 ∧ (s.get F.SNAP_DST_addr (↑c : ℕ) + 8 * snapLines (List.map (fun i ↦ (s.sramOf (sramIx (s.get F.SNAP_LIST_addr (↑c : ℕ)) + i)).w) (List.range (s.get F.SNAP_LIST_cnt (↑c : ℕ) + 1))) ≤ s.get F.SNAP_LIST_addr (↑c : ℕ) ∨ s.get F.SNAP_LIST_addr (↑c : ℕ) + 2 * (s.get F.SNAP_LIST_cnt (↑c : ℕ) + 1) ≤ s.get F.SNAP_DST_addr (↑c : ℕ))) then 2 else if (∃ w ∈ List.map (fun i ↦ (s.sramOf (sramIx (s.get F.SNAP_LIST_addr (↑c : ℕ)) + i)).w) (List.range (s.get F.SNAP_LIST_cnt (↑c : ℕ) + 1)), itemReserved w = true) ∨ 256 < (List.filter (fun w ↦ itemKind w == 0) (List.map (fun i ↦ (s.sramOf (sramIx (s.get F.SNAP_LIST_addr (↑c : ℕ)) + i)).w) (List.range (s.get F.SNAP_LIST_cnt (↑c : ℕ) + 1)))).length then 3 else if F.SNAP_GO_at.of (BitVec.toNat v) = 1 ∧ tbPast (s.tbAt (max s.now t)) (s.get F.SNAP_ATH_v (↑c : ℕ) * 64000000000 + s.get F.SNAP_ATL_v (↑c : ℕ)) = true then 4 else 0) = 0)) ∧
    (∃ (t : ℕ) (c : Fin 16) (v : Word) (s : State), F.SNAP_GO_go.of (BitVec.toNat v) = 1 ∧
      s.is F.SNAP_STAT_busy (↑c : ℕ) = false ∧
      (regionOf (s.get F.SNAP_LIST_addr (↑c : ℕ)) = Region.sram ∧ ownsBank s (↑c : ℕ) (bankAt (s.get F.SNAP_LIST_addr (↑c : ℕ))) = true ∧ s.is F.BANK_OWN_gs (bankAt (s.get F.SNAP_LIST_addr (↑c : ℕ))) = true → inOneBank (s.get F.SNAP_LIST_addr (↑c : ℕ)) (2 * (s.get F.SNAP_LIST_cnt (↑c : ℕ) + 1)) = true → ∀ i < s.get F.SNAP_LIST_cnt (↑c : ℕ) + 1, (s.sramOf (sramIx (s.get F.SNAP_LIST_addr (↑c : ℕ)) + i)).ecc = Ecc.good) ∧
      ((if ¬((regionOf (s.get F.SNAP_LIST_addr (↑c : ℕ)) = Region.sram ∧ ownsBank s (↑c : ℕ) (bankAt (s.get F.SNAP_LIST_addr (↑c : ℕ))) = true ∧ s.is F.BANK_OWN_gs (bankAt (s.get F.SNAP_LIST_addr (↑c : ℕ))) = true) ∧ regionOf (s.get F.SNAP_DST_addr (↑c : ℕ)) = Region.sram ∧ ownsBank s (↑c : ℕ) (bankAt (s.get F.SNAP_DST_addr (↑c : ℕ))) = true ∧ s.is F.BANK_OWN_gs (bankAt (s.get F.SNAP_DST_addr (↑c : ℕ))) = true) then 1 else if ¬(inOneBank (s.get F.SNAP_LIST_addr (↑c : ℕ)) (2 * (s.get F.SNAP_LIST_cnt (↑c : ℕ) + 1)) = true ∧ inOneBank (s.get F.SNAP_DST_addr (↑c : ℕ)) (8 * snapLines (List.map (fun i ↦ (s.sramOf (sramIx (s.get F.SNAP_LIST_addr (↑c : ℕ)) + i)).w) (List.range (s.get F.SNAP_LIST_cnt (↑c : ℕ) + 1)))) = true ∧ s.get F.SNAP_DST_addr (↑c : ℕ) % 8 = 0 ∧ (s.get F.SNAP_DST_addr (↑c : ℕ) + 8 * snapLines (List.map (fun i ↦ (s.sramOf (sramIx (s.get F.SNAP_LIST_addr (↑c : ℕ)) + i)).w) (List.range (s.get F.SNAP_LIST_cnt (↑c : ℕ) + 1))) ≤ s.get F.SNAP_LIST_addr (↑c : ℕ) ∨ s.get F.SNAP_LIST_addr (↑c : ℕ) + 2 * (s.get F.SNAP_LIST_cnt (↑c : ℕ) + 1) ≤ s.get F.SNAP_DST_addr (↑c : ℕ))) then 2 else if (∃ w ∈ List.map (fun i ↦ (s.sramOf (sramIx (s.get F.SNAP_LIST_addr (↑c : ℕ)) + i)).w) (List.range (s.get F.SNAP_LIST_cnt (↑c : ℕ) + 1)), itemReserved w = true) ∨ 256 < (List.filter (fun w ↦ itemKind w == 0) (List.map (fun i ↦ (s.sramOf (sramIx (s.get F.SNAP_LIST_addr (↑c : ℕ)) + i)).w) (List.range (s.get F.SNAP_LIST_cnt (↑c : ℕ) + 1)))).length then 3 else if F.SNAP_GO_at.of (BitVec.toNat v) = 1 ∧ tbPast (s.tbAt (max s.now t)) (s.get F.SNAP_ATH_v (↑c : ℕ) * 64000000000 + s.get F.SNAP_ATL_v (↑c : ℕ)) = true then 4 else 0) ≠ 0)) ∧
    (∃ (t : ℕ) (c : Fin 17) (reads : List (ℤ × BitVec 7)) (s : State), (s.snapOf (↑c : ℕ)).lines = [] ∧
      ((match (s.snapOf (↑c : ℕ)).due with | some (Sum.inl y) => decide (y ≤ max s.now t ∧ max s.now t % 64 = 0) | some (Sum.inr y) => tbPast (s.tbAt (max s.now t)) y | none => false) = true) ∧
      (∀ k < 4, tideComes (State.tick t s) k = false) ∧
      (∀ r ∈ s.gt.apply, tbPast (s.tbAt (max s.now t)) r.inst = false) ∧
      ichReadsOk (State.tick t s) (s.snapOf (↑c : ℕ)).items reads = true ∧
      (∀ w ∈ (s.snapOf (↑c : ℕ)).items, itemKind w = 1 → (s.cuOf (itemNo w)).held = [])) ∧
    (∃ (c : Fin 17) (s : State), (↑c : ℕ) < 16 ∧
      (s.snapOf (↑c : ℕ)).lines ≠ []) :=
  ⟨⟨0, (131072 : Word), (.debug : Req), by decide, by decide⟩,
    ⟨0, (131072 : Word), ((((((((State.reset.put F.SNAP_LIST_addr 0 8388608).put F.SNAP_DST_addr 0 8454144).put F.BANK_OWN_gs 0 1).put F.BANK_OWN_gs 1 1)))).put F.SNAP_STAT_busy 0 1), by decide, by decide⟩,
    ⟨6400000000000, 0, (131072 : Word), ((((((((State.reset.put F.SNAP_LIST_addr 0 8388608).put F.SNAP_DST_addr 0 8454144).put F.BANK_OWN_gs 0 1).put F.BANK_OWN_gs 1 1)))).put F.SNAP_STAT_busy 0 0), by decide, by decide, by decide, (by rw [if_neg (by decide), if_neg (by decide), if_neg, if_neg (by decide)]; rintro (⟨w, hw, h⟩ | h); have h1 : w = 0 := List.mem_singleton.mp hw; subst h1; exact absurd h (by decide); exact absurd h (by decide))⟩,
    ⟨6400000000000, 0, (131072 : Word), (State.reset.put F.SNAP_STAT_busy 0 0), by decide, by decide, by decide, by decide⟩,
    ⟨6400000000000, 0, [], (State.reset.setSnap 0 { due := some (.inl 64) }), by decide, by decide, by decide, by decide, by decide, (fun w h => nomatch h)⟩,
    ⟨15, (State.reset.setSnap 15 { lines := [0] }), by decide, by decide⟩⟩

/-- The hypotheses of clauses of `Obligations.SpecialMoves` are met. -/
theorem wit_SpecialMoves :
    (∃ (t : ℕ) (c : Fin 16) (x : Fields) (s : State) (e : ℕ × Word), CoreReady t s (↑c : ℕ) ∧
      x.resS = 0 ∧
      e ∈ [(0, (atIssue t (↑c : ℕ) s).ph), (1, (atIssue t (↑c : ℕ) s).pl), (2, BitVec.extractLsb' 0 18 (atIssue t (↑c : ℕ) s).pa), (3, BitVec.extractLsb' 18 18 (atIssue t (↑c : ℕ) s).pa), (4, BitVec.extractLsb' 36 18 (atIssue t (↑c : ℕ) s).pa), (5, BitVec.ofNat 18 (b2n (atIssue t (↑c : ℕ) s).cx)), (6, BitVec.ofNat 18 (atIssue t (↑c : ℕ) s).ln), (7, BitVec.setWidth 18 (atIssue t (↑c : ℕ) s).tb), (8, (atIssue t (↑c : ℕ) s).lcOf 0), (9, (atIssue t (↑c : ℕ) s).lcOf 1), (10, (atIssue t (↑c : ℕ) s).lcOf 2), (11, (atIssue t (↑c : ℕ) s).lcOf 3), (20, BitVec.ofNat 18 (↑c : ℕ)), (21, BitVec.setWidth 18 (atIssue t (↑c : ℕ) s).sr)] ∧
      x.spec = e.1) ∧
    (∃ (t : ℕ) (c : Fin 16) (x : Fields) (s : State) (e : ℕ × CoreS), CoreReady t s (↑c : ℕ) ∧
      x.resS = 0 ∧
      e ∈ [(0, { w := (atIssue t (↑c : ℕ) s).w, k := (atIssue t (↑c : ℕ) s).k, pcc := (atIssue t (↑c : ℕ) s).pcc, pc := (atIssue t (↑c : ℕ) s).pc, ph := (atIssue t (↑c : ℕ) s).rd x.f27, pl := (atIssue t (↑c : ℕ) s).pl, pa := (atIssue t (↑c : ℕ) s).pa, cx := (atIssue t (↑c : ℕ) s).cx, ls := (atIssue t (↑c : ℕ) s).ls, le := (atIssue t (↑c : ℕ) s).le, lc := (atIssue t (↑c : ℕ) s).lc, ln := (atIssue t (↑c : ℕ) s).ln, tb := (atIssue t (↑c : ℕ) s).tb, sr := (atIssue t (↑c : ℕ) s).sr, mul := (atIssue t (↑c : ℕ) s).mul, trap := (atIssue t (↑c : ℕ) s).trap, sb := (atIssue t (↑c : ℕ) s).sb, tq := (atIssue t (↑c : ℕ) s).tq, fq := (atIssue t (↑c : ℕ) s).fq, drain := (atIssue t (↑c : ℕ) s).drain, pred := (atIssue t (↑c : ℕ) s).pred, brStall := (atIssue t (↑c : ℕ) s).brStall, ic := (atIssue t (↑c : ℕ) s).ic, dc := (atIssue t (↑c : ℕ) s).dc, rst := (atIssue t (↑c : ℕ) s).rst, wdAt := (atIssue t (↑c : ℕ) s).wdAt, pres := (atIssue t (↑c : ℕ) s).pres, presRan := (atIssue t (↑c : ℕ) s).presRan, stalled := (atIssue t (↑c : ℕ) s).stalled, desc := (atIssue t (↑c : ℕ) s).desc, load := (atIssue t (↑c : ℕ) s).load }), (1, { w := (atIssue t (↑c : ℕ) s).w, k := (atIssue t (↑c : ℕ) s).k, pcc := (atIssue t (↑c : ℕ) s).pcc, pc := (atIssue t (↑c : ℕ) s).pc, ph := (atIssue t (↑c : ℕ) s).ph, pl := (atIssue t (↑c : ℕ) s).rd x.f27, pa := (atIssue t (↑c : ℕ) s).pa, cx := (atIssue t (↑c : ℕ) s).cx, ls := (atIssue t (↑c : ℕ) s).ls, le := (atIssue t (↑c : ℕ) s).le, lc := (atIssue t (↑c : ℕ) s).lc, ln := (atIssue t (↑c : ℕ) s).ln, tb := (atIssue t (↑c : ℕ) s).tb, sr := (atIssue t (↑c : ℕ) s).sr, mul := (atIssue t (↑c : ℕ) s).mul, trap := (atIssue t (↑c : ℕ) s).trap, sb := (atIssue t (↑c : ℕ) s).sb, tq := (atIssue t (↑c : ℕ) s).tq, fq := (atIssue t (↑c : ℕ) s).fq, drain := (atIssue t (↑c : ℕ) s).drain, pred := (atIssue t (↑c : ℕ) s).pred, brStall := (atIssue t (↑c : ℕ) s).brStall, ic := (atIssue t (↑c : ℕ) s).ic, dc := (atIssue t (↑c : ℕ) s).dc, rst := (atIssue t (↑c : ℕ) s).rst, wdAt := (atIssue t (↑c : ℕ) s).wdAt, pres := (atIssue t (↑c : ℕ) s).pres, presRan := (atIssue t (↑c : ℕ) s).presRan, stalled := (atIssue t (↑c : ℕ) s).stalled, desc := (atIssue t (↑c : ℕ) s).desc, load := (atIssue t (↑c : ℕ) s).load }), (2, { w := (atIssue t (↑c : ℕ) s).w, k := (atIssue t (↑c : ℕ) s).k, pcc := (atIssue t (↑c : ℕ) s).pcc, pc := (atIssue t (↑c : ℕ) s).pc, ph := (atIssue t (↑c : ℕ) s).ph, pl := (atIssue t (↑c : ℕ) s).pl, pa := BitVec.extractLsb' 18 36 (atIssue t (↑c : ℕ) s).pa ++ (atIssue t (↑c : ℕ) s).rd x.f27, cx := (atIssue t (↑c : ℕ) s).cx, ls := (atIssue t (↑c : ℕ) s).ls, le := (atIssue t (↑c : ℕ) s).le, lc := (atIssue t (↑c : ℕ) s).lc, ln := (atIssue t (↑c : ℕ) s).ln, tb := (atIssue t (↑c : ℕ) s).tb, sr := (atIssue t (↑c : ℕ) s).sr, mul := (atIssue t (↑c : ℕ) s).mul, trap := (atIssue t (↑c : ℕ) s).trap, sb := (atIssue t (↑c : ℕ) s).sb, tq := (atIssue t (↑c : ℕ) s).tq, fq := (atIssue t (↑c : ℕ) s).fq, drain := (atIssue t (↑c : ℕ) s).drain, pred := (atIssue t (↑c : ℕ) s).pred, brStall := (atIssue t (↑c : ℕ) s).brStall, ic := (atIssue t (↑c : ℕ) s).ic, dc := (atIssue t (↑c : ℕ) s).dc, rst := (atIssue t (↑c : ℕ) s).rst, wdAt := (atIssue t (↑c : ℕ) s).wdAt, pres := (atIssue t (↑c : ℕ) s).pres, presRan := (atIssue t (↑c : ℕ) s).presRan, stalled := (atIssue t (↑c : ℕ) s).stalled, desc := (atIssue t (↑c : ℕ) s).desc, load := (atIssue t (↑c : ℕ) s).load }), (3, { w := (atIssue t (↑c : ℕ) s).w, k := (atIssue t (↑c : ℕ) s).k, pcc := (atIssue t (↑c : ℕ) s).pcc, pc := (atIssue t (↑c : ℕ) s).pc, ph := (atIssue t (↑c : ℕ) s).ph, pl := (atIssue t (↑c : ℕ) s).pl, pa := BitVec.extractLsb' 36 18 (atIssue t (↑c : ℕ) s).pa ++ (atIssue t (↑c : ℕ) s).rd x.f27 ++ BitVec.extractLsb' 0 18 (atIssue t (↑c : ℕ) s).pa, cx := (atIssue t (↑c : ℕ) s).cx, ls := (atIssue t (↑c : ℕ) s).ls, le := (atIssue t (↑c : ℕ) s).le, lc := (atIssue t (↑c : ℕ) s).lc, ln := (atIssue t (↑c : ℕ) s).ln, tb := (atIssue t (↑c : ℕ) s).tb, sr := (atIssue t (↑c : ℕ) s).sr, mul := (atIssue t (↑c : ℕ) s).mul, trap := (atIssue t (↑c : ℕ) s).trap, sb := (atIssue t (↑c : ℕ) s).sb, tq := (atIssue t (↑c : ℕ) s).tq, fq := (atIssue t (↑c : ℕ) s).fq, drain := (atIssue t (↑c : ℕ) s).drain, pred := (atIssue t (↑c : ℕ) s).pred, brStall := (atIssue t (↑c : ℕ) s).brStall, ic := (atIssue t (↑c : ℕ) s).ic, dc := (atIssue t (↑c : ℕ) s).dc, rst := (atIssue t (↑c : ℕ) s).rst, wdAt := (atIssue t (↑c : ℕ) s).wdAt, pres := (atIssue t (↑c : ℕ) s).pres, presRan := (atIssue t (↑c : ℕ) s).presRan, stalled := (atIssue t (↑c : ℕ) s).stalled, desc := (atIssue t (↑c : ℕ) s).desc, load := (atIssue t (↑c : ℕ) s).load }), (4, { w := (atIssue t (↑c : ℕ) s).w, k := (atIssue t (↑c : ℕ) s).k, pcc := (atIssue t (↑c : ℕ) s).pcc, pc := (atIssue t (↑c : ℕ) s).pc, ph := (atIssue t (↑c : ℕ) s).ph, pl := (atIssue t (↑c : ℕ) s).pl, pa := (atIssue t (↑c : ℕ) s).rd x.f27 ++ BitVec.extractLsb' 0 36 (atIssue t (↑c : ℕ) s).pa, cx := (atIssue t (↑c : ℕ) s).cx, ls := (atIssue t (↑c : ℕ) s).ls, le := (atIssue t (↑c : ℕ) s).le, lc := (atIssue t (↑c : ℕ) s).lc, ln := (atIssue t (↑c : ℕ) s).ln, tb := (atIssue t (↑c : ℕ) s).tb, sr := (atIssue t (↑c : ℕ) s).sr, mul := (atIssue t (↑c : ℕ) s).mul, trap := (atIssue t (↑c : ℕ) s).trap, sb := (atIssue t (↑c : ℕ) s).sb, tq := (atIssue t (↑c : ℕ) s).tq, fq := (atIssue t (↑c : ℕ) s).fq, drain := (atIssue t (↑c : ℕ) s).drain, pred := (atIssue t (↑c : ℕ) s).pred, brStall := (atIssue t (↑c : ℕ) s).brStall, ic := (atIssue t (↑c : ℕ) s).ic, dc := (atIssue t (↑c : ℕ) s).dc, rst := (atIssue t (↑c : ℕ) s).rst, wdAt := (atIssue t (↑c : ℕ) s).wdAt, pres := (atIssue t (↑c : ℕ) s).pres, presRan := (atIssue t (↑c : ℕ) s).presRan, stalled := (atIssue t (↑c : ℕ) s).stalled, desc := (atIssue t (↑c : ℕ) s).desc, load := (atIssue t (↑c : ℕ) s).load }), (7, { w := (atIssue t (↑c : ℕ) s).w, k := (atIssue t (↑c : ℕ) s).k, pcc := (atIssue t (↑c : ℕ) s).pcc, pc := (atIssue t (↑c : ℕ) s).pc, ph := (atIssue t (↑c : ℕ) s).ph, pl := (atIssue t (↑c : ℕ) s).pl, pa := (atIssue t (↑c : ℕ) s).pa, cx := (atIssue t (↑c : ℕ) s).cx, ls := (atIssue t (↑c : ℕ) s).ls, le := (atIssue t (↑c : ℕ) s).le, lc := (atIssue t (↑c : ℕ) s).lc, ln := (atIssue t (↑c : ℕ) s).ln, tb := BitVec.setWidth 14 ((atIssue t (↑c : ℕ) s).rd x.f27), sr := (atIssue t (↑c : ℕ) s).sr, mul := (atIssue t (↑c : ℕ) s).mul, trap := (atIssue t (↑c : ℕ) s).trap, sb := (atIssue t (↑c : ℕ) s).sb, tq := (atIssue t (↑c : ℕ) s).tq, fq := (atIssue t (↑c : ℕ) s).fq, drain := (atIssue t (↑c : ℕ) s).drain, pred := (atIssue t (↑c : ℕ) s).pred, brStall := (atIssue t (↑c : ℕ) s).brStall, ic := (atIssue t (↑c : ℕ) s).ic, dc := (atIssue t (↑c : ℕ) s).dc, rst := (atIssue t (↑c : ℕ) s).rst, wdAt := (atIssue t (↑c : ℕ) s).wdAt, pres := (atIssue t (↑c : ℕ) s).pres, presRan := (atIssue t (↑c : ℕ) s).presRan, stalled := (atIssue t (↑c : ℕ) s).stalled, desc := (atIssue t (↑c : ℕ) s).desc, load := (atIssue t (↑c : ℕ) s).load }), (8, (atIssue t (↑c : ℕ) s).setLc 0 ((atIssue t (↑c : ℕ) s).rd x.f27)), (9, (atIssue t (↑c : ℕ) s).setLc 1 ((atIssue t (↑c : ℕ) s).rd x.f27)), (10, (atIssue t (↑c : ℕ) s).setLc 2 ((atIssue t (↑c : ℕ) s).rd x.f27)), (11, (atIssue t (↑c : ℕ) s).setLc 3 ((atIssue t (↑c : ℕ) s).rd x.f27))] ∧
      x.spec = e.1) ∧
    (∃ (t : ℕ) (c : Fin 16) (x : Fields) (s : State), CoreReady t s (↑c : ℕ) ∧
      x.resS = 0 ∧
      x.spec = 6 ∧
      BitVec.toNat ((atIssue t (↑c : ℕ) s).rd x.f27) ≤ 4) ∧
    (∃ (t : ℕ) (c : Fin 16) (x : Fields) (s : State) (i : ℕ), CoreReady t s (↑c : ℕ) ∧
      x.resS = 0 ∧
      x.f27 % 2 = 0 ∧
      i < 4 ∧
      x.spec = 12 + i) ∧
    (∃ (t : ℕ) (c : Fin 16) (x : Fields) (s : State) (i : ℕ), CoreReady t s (↑c : ℕ) ∧
      x.resS = 0 ∧
      x.f27 % 2 = 0 ∧
      i < 4 ∧
      x.spec = 16 + i) ∧
    (∃ (t : ℕ) (c : Fin 16) (s : State), CoreReady t s (↑c : ℕ) ∧
      (atIssue t (↑c : ℕ) s).sb = [] ∧
      (atIssue t (↑c : ℕ) s).tq = []) ∧
    (∃ (t : ℕ) (c : Fin 16) (s : State), CoreReady t s (↑c : ℕ) ∧
      ((atIssue t (↑c : ℕ) s).sb ≠ [] ∨ (atIssue t (↑c : ℕ) s).tq ≠ [])) ∧
    (∃ (t : ℕ) (c : Fin 16) (s : State), CoreReady t s (↑c : ℕ) ∧
      (winner (issued t (↑c : ℕ) s) (↑c : ℕ)).isSome = true) ∧
    (∃ (t : ℕ) (c : Fin 16) (s : State), CoreReady t s (↑c : ℕ) ∧
      winner (issued t (↑c : ℕ) s) (↑c : ℕ) = none) :=
  ⟨⟨6400000000000, 0, (7 : Fields), (running core0), (7, ((running core0).coreOf 0).tb.setWidth 18), (by unfold CoreReady; decide), by decide, by decide, by decide⟩,
    ⟨6400000000000, 0, (0 : Fields), (running core0), (0, _), (by unfold CoreReady; decide), by decide, (.head _), by decide⟩,
    ⟨6400000000000, 0, (6 : Fields), (running core0), (by unfold CoreReady; decide), by decide, by decide, by decide⟩,
    ⟨6400000000000, 0, (15 : Fields), (running core0), 3, (by unfold CoreReady; decide), by decide, by decide, by decide, by decide⟩,
    ⟨6400000000000, 0, (16 : Fields), (running core0), 0, (by unfold CoreReady; decide), by decide, by decide, by decide, by decide⟩,
    ⟨6400000000000, 0, (running core0), (by unfold CoreReady; decide), by decide, by decide⟩,
    ⟨6400000000000, 0, (running { core0 with tq := [(0, 1)] }), (by unfold CoreReady; decide), by decide⟩,
    ⟨6400000000000, 0, (withVector (running core0)), (by unfold CoreReady; decide), by decide⟩,
    ⟨6400000000000, 0, (running core0), (by unfold CoreReady; decide), by decide⟩⟩

/-- The hypotheses of clauses of `Obligations.SpiAndGpio` are met. -/
theorem wit_SpiAndGpio_1 :
    (∃ (m : Fin 2) (s : State), (s.spiOf (↑m : ℕ)).tx.length < 16) ∧
    (∃ (m : Fin 2) (s : State), 16 ≤ (s.spiOf (↑m : ℕ)).tx.length) ∧
    (∃ (m : Fin 2) (s : State), (s.spiOf (↑m : ℕ)).rx = []) ∧
    (∃ (m : Fin 2) (s : State) (y : BitVec 18) (l : List (BitVec 18)), (s.spiOf (↑m : ℕ)).rx = y :: l) ∧
    (∃ (m : Fin 2) (s : State), s.is F.SPI_CTL_en (↑m : ℕ) = true ∧
      s.rung < 3 ∧
      (s.is F.SPI_CTL_tgt (↑m : ℕ) = true ∨ (s.spiOf (↑m : ℕ)).tx ≠ [] ∧ (s.spiOf (↑m : ℕ)).rx.length < 16) ∧
      (s.spiOf (↑m : ℕ)).rx.length < 16) ∧
    (∃ (m : Fin 2) (s : State), s.is F.SPI_CTL_en (↑m : ℕ) = true ∧
      s.rung < 3 ∧
      s.is F.SPI_CTL_tgt (↑m : ℕ) = true ∧
      16 ≤ (s.spiOf (↑m : ℕ)).rx.length) ∧
    (∃ (m : Fin 2) (s : State), s.is F.SPI_CTL_en (↑m : ℕ) = true ∧
      s.rung < 3 ∧
      (¬(s.is F.SPI_CTL_tgt (↑m : ℕ) = true ∨ (s.spiOf (↑m : ℕ)).tx ≠ [] ∧ (s.spiOf (↑m : ℕ)).rx.length < 16))) ∧
    (∃ (s : State), s.dbg.scan = Scan.normal) ∧
    (∃ (n : Fin 64) (lvl : Bool) (s : State), s.dbg.scan = Scan.normal ∧
      (((have b := (s.gpioPadOf (↑n : ℕ)).drv.getD (s.get F.GPIO_CFG_pull (↑n : ℕ) == 1); match if 5 ≤ s.rung ∨ s.is F.GPIO_CFG_dir (↑n : ℕ) = false ∨ ((s.get F.GPIO_OUT_v ((↑n : ℕ) / 16)).testBit ((↑n : ℕ) % 16) != s.is F.GPIO_CFG_pol (↑n : ℕ)) = true ∧ s.is F.GPIO_CFG_od (↑n : ℕ) = true then none else some ((s.get F.GPIO_OUT_v ((↑n : ℕ) / 16)).testBit ((↑n : ℕ) % 16) != s.is F.GPIO_CFG_pol (↑n : ℕ)) with | none => b | some d => if (s.gpioPadOf (↑n : ℕ)).wins = true then b else d) != s.is F.GPIO_CFG_pol (↑n : ℕ)) = ((have b := ({ drv := some lvl, wins := match if 5 ≤ s.rung ∨ s.is F.GPIO_CFG_dir (↑n : ℕ) = false ∨ ((s.get F.GPIO_OUT_v ((↑n : ℕ) / 16)).testBit ((↑n : ℕ) % 16) != s.is F.GPIO_CFG_pol (↑n : ℕ)) = true ∧ s.is F.GPIO_CFG_od (↑n : ℕ) = true then none else some ((s.get F.GPIO_OUT_v ((↑n : ℕ) / 16)).testBit ((↑n : ℕ) % 16) != s.is F.GPIO_CFG_pol (↑n : ℕ)) with | none => false | some d => d != lvl } : GpioPad).drv.getD (s.get F.GPIO_CFG_pull (↑n : ℕ) == 1); match if 5 ≤ s.rung ∨ s.is F.GPIO_CFG_dir (↑n : ℕ) = false ∨ ((s.get F.GPIO_OUT_v ((↑n : ℕ) / 16)).testBit ((↑n : ℕ) % 16) != s.is F.GPIO_CFG_pol (↑n : ℕ)) = true ∧ s.is F.GPIO_CFG_od (↑n : ℕ) = true then none else some ((s.get F.GPIO_OUT_v ((↑n : ℕ) / 16)).testBit ((↑n : ℕ) % 16) != s.is F.GPIO_CFG_pol (↑n : ℕ)) with | none => b | some d => if ({ drv := some lvl, wins := match if 5 ≤ s.rung ∨ s.is F.GPIO_CFG_dir (↑n : ℕ) = false ∨ ((s.get F.GPIO_OUT_v ((↑n : ℕ) / 16)).testBit ((↑n : ℕ) % 16) != s.is F.GPIO_CFG_pol (↑n : ℕ)) = true ∧ s.is F.GPIO_CFG_od (↑n : ℕ) = true then none else some ((s.get F.GPIO_OUT_v ((↑n : ℕ) / 16)).testBit ((↑n : ℕ) % 16) != s.is F.GPIO_CFG_pol (↑n : ℕ)) with | none => false | some d => d != lvl } : GpioPad).wins = true then b else d) != s.is F.GPIO_CFG_pol (↑n : ℕ)) ∨ ¬(s.rung < 5 ∨ (↑n : ℕ) < 8 ∧ s.is F.GPIO_CFG_dir (↑n : ℕ) = false))) :=
  ⟨⟨0, State.reset, by decide⟩,
    ⟨0, (State.reset.setSpi 0 { tx := List.replicate 16 0 }), by decide⟩,
    ⟨0, (State.reset).setSpi 0 { (State.reset).spiOf 0 with rx := [] }, by decide⟩,
    ⟨0, (State.reset).setSpi 0 { (State.reset).spiOf 0 with rx := (0 : BitVec 18) :: [] }, (0 : BitVec 18), [], by decide⟩,
    ⟨0, (((State.reset.put F.SPI_CTL_en 0 1).put F.SPI_CTL_tgt 0 1).put F.SPI_CTL_en 0 1), by decide, by decide, by decide, by decide⟩,
    ⟨0, (((((State.reset.put F.SPI_CTL_en 0 1).put F.SPI_CTL_tgt 0 1).setSpi 0 { rx := List.replicate 16 0 }).put F.SPI_CTL_en 0 1).put F.SPI_CTL_tgt 0 1), by decide, by decide, by decide, by decide⟩,
    ⟨0, (State.reset.put F.SPI_CTL_en 0 1), by decide, by decide, by decide⟩,
    ⟨State.reset, by decide⟩,
    ⟨0, false, State.reset, by decide, by decide⟩⟩

/-- The hypotheses of clauses of `Obligations.SpiAndGpio` are met. -/
theorem wit_SpiAndGpio_2 :
    ∃ (n : Fin 64) (lvl : Bool) (s : State), s.dbg.scan = Scan.normal ∧
      (((have b := (s.gpioPadOf (↑n : ℕ)).drv.getD (s.get F.GPIO_CFG_pull (↑n : ℕ) == 1); match if 5 ≤ s.rung ∨ s.is F.GPIO_CFG_dir (↑n : ℕ) = false ∨ ((s.get F.GPIO_OUT_v ((↑n : ℕ) / 16)).testBit ((↑n : ℕ) % 16) != s.is F.GPIO_CFG_pol (↑n : ℕ)) = true ∧ s.is F.GPIO_CFG_od (↑n : ℕ) = true then none else some ((s.get F.GPIO_OUT_v ((↑n : ℕ) / 16)).testBit ((↑n : ℕ) % 16) != s.is F.GPIO_CFG_pol (↑n : ℕ)) with | none => b | some d => if (s.gpioPadOf (↑n : ℕ)).wins = true then b else d) != s.is F.GPIO_CFG_pol (↑n : ℕ)) ≠ ((have b := ({ drv := some lvl, wins := match if 5 ≤ s.rung ∨ s.is F.GPIO_CFG_dir (↑n : ℕ) = false ∨ ((s.get F.GPIO_OUT_v ((↑n : ℕ) / 16)).testBit ((↑n : ℕ) % 16) != s.is F.GPIO_CFG_pol (↑n : ℕ)) = true ∧ s.is F.GPIO_CFG_od (↑n : ℕ) = true then none else some ((s.get F.GPIO_OUT_v ((↑n : ℕ) / 16)).testBit ((↑n : ℕ) % 16) != s.is F.GPIO_CFG_pol (↑n : ℕ)) with | none => false | some d => d != lvl } : GpioPad).drv.getD (s.get F.GPIO_CFG_pull (↑n : ℕ) == 1); match if 5 ≤ s.rung ∨ s.is F.GPIO_CFG_dir (↑n : ℕ) = false ∨ ((s.get F.GPIO_OUT_v ((↑n : ℕ) / 16)).testBit ((↑n : ℕ) % 16) != s.is F.GPIO_CFG_pol (↑n : ℕ)) = true ∧ s.is F.GPIO_CFG_od (↑n : ℕ) = true then none else some ((s.get F.GPIO_OUT_v ((↑n : ℕ) / 16)).testBit ((↑n : ℕ) % 16) != s.is F.GPIO_CFG_pol (↑n : ℕ)) with | none => b | some d => if ({ drv := some lvl, wins := match if 5 ≤ s.rung ∨ s.is F.GPIO_CFG_dir (↑n : ℕ) = false ∨ ((s.get F.GPIO_OUT_v ((↑n : ℕ) / 16)).testBit ((↑n : ℕ) % 16) != s.is F.GPIO_CFG_pol (↑n : ℕ)) = true ∧ s.is F.GPIO_CFG_od (↑n : ℕ) = true then none else some ((s.get F.GPIO_OUT_v ((↑n : ℕ) / 16)).testBit ((↑n : ℕ) % 16) != s.is F.GPIO_CFG_pol (↑n : ℕ)) with | none => false | some d => d != lvl } : GpioPad).wins = true then b else d) != s.is F.GPIO_CFG_pol (↑n : ℕ))) ∧
      (s.rung < 5 ∨ (↑n : ℕ) < 8 ∧ s.is F.GPIO_CFG_dir (↑n : ℕ) = false) :=
  ⟨0, true, State.reset, by decide, by decide, by decide⟩

/-- The hypotheses of clauses of `Obligations.StepTakesFront` are met. -/
theorem wit_StepTakesFront :
    ∃ (s : State), s.pending = [] :=
  ⟨{ State.reset with pending := [] }, by decide⟩

/-- The hypotheses of clauses of `Obligations.TideDecisions` are met. -/
theorem wit_TideDecisions_1 :
    (∃ (p : Fin 4) (f : Frame) (s : State), (InOrder s (↑p : ℕ) f ∧ f.dst = BitVec.ofNat 12 (lkOwn s)) ∧
      f.ty = 17 ∧
      frameBit f 2 16 = false ∧
      (Child s (↑p : ℕ) = false ∨ s.gt.round = none ∨ s.is F.GT_STAT_doubt 0 = true)) ∧
    (∃ (p : Fin 4) (f : Frame) (s : State) (r : Round), (InOrder s (↑p : ℕ) f ∧ f.dst = BitVec.ofNat 12 (lkOwn s)) ∧
      f.ty = 17 ∧
      frameBit f 2 16 = false ∧
      s.gt.round = some r ∧
      (r.id ≠ framePair f 0 ∨ ∀ k ∈ r.kids, k ≠ ((↑p : ℕ), none))) ∧
    (∃ (p : Fin 4) (f : Frame) (s : State) (r : Round) (l : List (ℕ × Option Vote)) (m : List (ℕ × Option Vote)), s.gt.round = some r ∧
      r.kids = l ++ ((↑p : ℕ), none) :: m ∧
      (InOrder s (↑p : ℕ) f ∧ f.dst = BitVec.ofNat 12 (lkOwn s)) ∧
      f.ty = 17 ∧
      frameBit f 2 16 = false ∧
      Child s (↑p : ℕ) = true ∧
      s.is F.GT_STAT_doubt 0 = false ∧
      r.id = framePair f 0 ∧
      (∀ k ∈ l, k.1 ≠ (↑p : ℕ)) ∧
      (∀ k ∈ m, k.1 ≠ (↑p : ℕ)) ∧
      (∀ q < 4, UpChild s q = true → Quiet s q 2) ∧
      s.is F.GT_TREE_root 0 = true ∧
      s.get F.GT_STAT_dec 0 = 0 ∧
      (({ r with kids := l ++ ((↑p : ℕ), some { yes := frameBit f 2 17, reason := frameW f 2 / 2 ^ 12 % 16, minlvl := frameW f 2 % 64, count := frameW f 3 % 2 ^ 13, refuser := if frameBit f 4 17 = true then some (frameW f 4 % 4096) else none }) :: m } : Round).combined.yes = false)) ∧
    (∃ (p : Fin 4) (f : Frame) (s : State) (r : Round) (l : List (ℕ × Option Vote)) (m : List (ℕ × Option Vote)), s.gt.round = some r ∧
      r.kids = l ++ ((↑p : ℕ), none) :: m ∧
      (InOrder s (↑p : ℕ) f ∧ f.dst = BitVec.ofNat 12 (lkOwn s)) ∧
      f.ty = 17 ∧
      frameBit f 2 16 = false ∧
      Child s (↑p : ℕ) = true ∧
      s.is F.GT_STAT_doubt 0 = false ∧
      r.id = framePair f 0 ∧
      (∀ k ∈ l, k.1 ≠ (↑p : ℕ)) ∧
      (∀ k ∈ m, k.1 ≠ (↑p : ℕ)) ∧
      (∀ q < 4, UpChild s q = true → Quiet s q 2) ∧
      s.is F.GT_TREE_root 0 = true ∧
      s.get F.GT_STAT_dec 0 = 0 ∧
      (({ r with kids := l ++ ((↑p : ℕ), some { yes := frameBit f 2 17, reason := frameW f 2 / 2 ^ 12 % 16, minlvl := frameW f 2 % 64, count := frameW f 3 % 2 ^ 13, refuser := if frameBit f 4 17 = true then some (frameW f 4 % 4096) else none }) :: m } : Round).combined.yes = true) ∧
      (({ r with kids := l ++ ((↑p : ℕ), some { yes := frameBit f 2 17, reason := frameW f 2 / 2 ^ 12 % 16, minlvl := frameW f 2 % 64, count := frameW f 3 % 2 ^ 13, refuser := if frameBit f 4 17 = true then some (frameW f 4 % 4096) else none }) :: m } : Round).complete = true)) ∧
    (∃ (t : ℕ) (p : Fin 4) (f : Frame) (s : State) (r : Round) (l : List (ℕ × Option Vote)) (m : List (ℕ × Option Vote)), s.gt.round = some r ∧
      r.kids = l ++ ((↑p : ℕ), none) :: m ∧
      (InOrder s (↑p : ℕ) f ∧ f.dst = BitVec.ofNat 12 (lkOwn s)) ∧
      f.ty = 17 ∧
      frameBit f 2 16 = false ∧
      Child s (↑p : ℕ) = true ∧
      s.is F.GT_STAT_doubt 0 = false ∧
      r.id = framePair f 0 ∧
      (∀ k ∈ l, k.1 ≠ (↑p : ℕ)) ∧
      (∀ k ∈ m, k.1 ≠ (↑p : ℕ)) ∧
      (∀ q < 4, UpChild s q = true → Quiet s q 2) ∧
      (s.is F.GT_TREE_root 0 = true ∧ s.get F.GT_STAT_dec 0 = 0 ∧ ({ r with kids := l ++ ((↑p : ℕ), some { yes := frameBit f 2 17, reason := frameW f 2 / 2 ^ 12 % 16, minlvl := frameW f 2 % 64, count := frameW f 3 % 2 ^ 13, refuser := if frameBit f 4 17 = true then some (frameW f 4 % 4096) else none }) :: m } : Round).combined.yes = true ∧ ({ r with kids := l ++ ((↑p : ℕ), some { yes := frameBit f 2 17, reason := frameW f 2 / 2 ^ 12 % 16, minlvl := frameW f 2 % 64, count := frameW f 3 % 2 ^ 13, refuser := if frameBit f 4 17 = true then some (frameW f 4 % 4096) else none }) :: m } : Round).complete = false ∨ ¬s.is F.GT_TREE_root 0 = true ∧ (({ r with kids := l ++ ((↑p : ℕ), some { yes := frameBit f 2 17, reason := frameW f 2 / 2 ^ 12 % 16, minlvl := frameW f 2 % 64, count := frameW f 3 % 2 ^ 13, refuser := if frameBit f 4 17 = true then some (frameW f 4 % 4096) else none }) :: m } : Round).complete = false ∨ tbPast (s.tbAt (max s.now t)) r.p = false))) ∧
    (∃ (t : ℕ) (p : Fin 4) (f : Frame) (s : State) (r : Round) (l : List (ℕ × Option Vote)) (m : List (ℕ × Option Vote)), s.gt.round = some r ∧
      r.kids = l ++ ((↑p : ℕ), none) :: m ∧
      (InOrder s (↑p : ℕ) f ∧ f.dst = BitVec.ofNat 12 (lkOwn s)) ∧
      f.ty = 17 ∧
      frameBit f 2 16 = false ∧
      Child s (↑p : ℕ) = true ∧
      s.is F.GT_STAT_doubt 0 = false ∧
      r.id = framePair f 0 ∧
      (∀ k ∈ l, k.1 ≠ (↑p : ℕ)) ∧
      (∀ k ∈ m, k.1 ≠ (↑p : ℕ)) ∧
      (∀ q < 4, UpChild s q = true → Quiet s q 2) ∧
      (¬s.is F.GT_TREE_root 0 = true) ∧
      (({ r with kids := l ++ ((↑p : ℕ), some { yes := frameBit f 2 17, reason := frameW f 2 / 2 ^ 12 % 16, minlvl := frameW f 2 % 64, count := frameW f 3 % 2 ^ 13, refuser := if frameBit f 4 17 = true then some (frameW f 4 % 4096) else none }) :: m } : Round).complete = true) ∧
      tbPast (s.tbAt (max s.now t)) r.p = true ∧
      r.sent = false ∧
      s.get F.GT_TREE_parent 0 < 4 ∧
      s.get F.GT_TREE_parent 0 ≠ (↑p : ℕ) ∧
      Quiet s (s.get F.GT_TREE_parent 0) 2) ∧
    (∃ (p : Fin 4) (f : Frame) (s : State), (InOrder s (↑p : ℕ) f ∧ f.dst = BitVec.ofNat 12 (lkOwn s)) ∧
      f.ty = 17 ∧
      frameBit f 2 16 = true ∧
      s.is F.GT_TREE_root 0 = true ∧
      s.gt.reps.length < 16) ∧
    (∃ (p : Fin 4) (f : Frame) (s : State), (InOrder s (↑p : ℕ) f ∧ f.dst = BitVec.ofNat 12 (lkOwn s)) ∧
      f.ty = 17 ∧
      frameBit f 2 16 = true ∧
      s.is F.GT_TREE_root 0 = true ∧
      16 ≤ s.gt.reps.length) ∧
    (∃ (p : Fin 4) (f : Frame) (s : State), (InOrder s (↑p : ℕ) f ∧ f.dst = BitVec.ofNat 12 (lkOwn s)) ∧
      f.ty = 17 ∧
      frameBit f 2 16 = true ∧
      (¬s.is F.GT_TREE_root 0 = true)) :=
  ⟨⟨0, signed 0 0 (frm 17 0 7 [0, 1, 0, 1, 0, 0]), ({ netted with gt := { netted.gt with round := some (aRound) } }), ⟨⟨by decide, by decide, by decide, by decide, in_order_mac _ _ _ (by decide +kernel) (by decide +kernel)⟩, by decide⟩, by decide, by decide, by decide⟩,
    ⟨0, signed 0 0 (frm 17 0 7 [0, 2, 0, 1, 0, 0]), ({ netted with gt := { netted.gt with round := some (aRound) } }), aRound, ⟨⟨by decide, by decide, by decide, by decide, in_order_mac _ _ _ (by decide +kernel) (by decide +kernel)⟩, by decide⟩, by decide, by decide, by decide, by decide⟩,
    ⟨0, signed 0 0 (frm 17 0 7 [0, 1, 0, 1, 0, 0]), (((({ ((netted.put F.GT_TREE_child 0 8).put F.GT_TREE_root 0 1) with gt := { ((netted.put F.GT_TREE_child 0 8).put F.GT_TREE_root 0 1).gt with round := some ({ aRound with kids := [(0, none)] }) } }).put F.GT_STAT_doubt 0 0).put F.GT_TREE_root 0 1).put F.GT_STAT_dec 0 0), { aRound with kids := [(0, none)] }, [], [], by decide, by decide, ⟨⟨by decide, by decide, by decide, by decide, in_order_mac _ _ _ (by decide +kernel) (by decide +kernel)⟩, by decide⟩, by decide, by decide, by decide, by decide, by decide, by decide, by decide, (by unfold Quiet; decide), by decide, by decide, by decide⟩,
    ⟨0, signed 0 0 (frm 17 0 7 [0, 1, 131072, 1, 0, 0]), (((({ ((netted.put F.GT_TREE_child 0 8).put F.GT_TREE_root 0 1) with gt := { ((netted.put F.GT_TREE_child 0 8).put F.GT_TREE_root 0 1).gt with round := some ({ aRound with kids := [(0, none)] }) } }).put F.GT_STAT_doubt 0 0).put F.GT_TREE_root 0 1).put F.GT_STAT_dec 0 0), { aRound with kids := [(0, none)] }, [], [], by decide, by decide, ⟨⟨by decide, by decide, by decide, by decide, in_order_mac _ _ _ (by decide +kernel) (by decide +kernel)⟩, by decide⟩, by decide, by decide, by decide, by decide, by decide, by decide, by decide, (by unfold Quiet; decide), by decide, by decide, by decide, by decide⟩,
    ⟨6400000000000, 0, signed 0 0 (frm 17 0 7 [0, 1, 131072, 1, 0, 0]), (({ ((netted.put F.GT_TREE_child 0 8).put F.GT_TREE_root 0 1) with gt := { ((netted.put F.GT_TREE_child 0 8).put F.GT_TREE_root 0 1).gt with round := some ({ aRound with kids := [(0, none), (1, none)] }) } }).put F.GT_STAT_doubt 0 0), { aRound with kids := [(0, none), (1, none)] }, [], [(1, none)], by decide, by decide, ⟨⟨by decide, by decide, by decide, by decide, in_order_mac _ _ _ (by decide +kernel) (by decide +kernel)⟩, by decide⟩, by decide, by decide, by decide, by decide, by decide, by decide, by decide, (by unfold Quiet; decide), by decide⟩,
    ⟨6400000000000, 0, signed 0 0 (frm 17 0 7 [0, 1, 131072, 1, 0, 0]), (({ ((netted.put F.GT_TREE_child 0 8).put F.GT_TREE_parent 0 1) with gt := { ((netted.put F.GT_TREE_child 0 8).put F.GT_TREE_parent 0 1).gt with round := some ({ aRound with kids := [(0, none)] }) } }).put F.GT_STAT_doubt 0 0), { aRound with kids := [(0, none)] }, [], [], by decide, by decide, ⟨⟨by decide, by decide, by decide, by decide, in_order_mac _ _ _ (by decide +kernel) (by decide +kernel)⟩, by decide⟩, by decide, by decide, by decide, by decide, by decide, by decide, by decide, (by unfold Quiet; decide), by decide, by decide, by decide, by decide, by decide, by decide, (by unfold Quiet; decide)⟩,
    ⟨0, signed 0 0 (frm 17 0 7 [0, 1, 65536, 1, 0, 0]), (((netted.put F.GT_TREE_root 0 1)).put F.GT_TREE_root 0 1), ⟨⟨by decide, by decide, by decide, by decide, in_order_mac _ _ _ (by decide +kernel) (by decide +kernel)⟩, by decide⟩, by decide, by decide, by decide, by decide⟩,
    ⟨0, signed 0 0 (frm 17 0 7 [0, 1, 65536, 1, 0, 0]), (({ (netted.put F.GT_TREE_root 0 1) with gt := { (netted.put F.GT_TREE_root 0 1).gt with round := none, reps := List.replicate 16 (0, 0) } }).put F.GT_TREE_root 0 1), ⟨⟨by decide, by decide, by decide, by decide, in_order_mac _ _ _ (by decide +kernel) (by decide +kernel)⟩, by decide⟩, by decide, by decide, by decide, by decide⟩,
    ⟨0, signed 0 0 (frm 17 0 7 [0, 1, 65536, 1, 0, 0]), netted, ⟨⟨by decide, by decide, by decide, by decide, in_order_mac _ _ _ (by decide +kernel) (by decide +kernel)⟩, by decide⟩, by decide, by decide, by decide⟩⟩

/-- The hypotheses of clauses of `Obligations.TideDecisions` are met. -/
theorem wit_TideDecisions_2 :
    (∃ (t : ℕ) (s : State) (r : Round), s.gt.round = some r ∧
      s.is F.GT_TREE_root 0 = true ∧
      s.get F.GT_STAT_dec 0 = 0 ∧
      (∀ q < 4, UpChild s q = true → Quiet s q 2) ∧
      tbPast (s.tbAt (max s.now t)) ((r.p + (r.inst + 2 * tbWrap - 64 * r.guard % tbWrap - r.p) % tbWrap / 2) % tbWrap) = true) ∧
    (∃ (v : Word) (s : State) (r : Round), s.gt.round = some r ∧
      s.is F.GT_TREE_root 0 = true ∧
      s.get F.GT_STAT_dec 0 = 0 ∧
      (∀ q < 4, UpChild s q = true → Quiet s q 2) ∧
      F.GT_PCTL_abort.of (BitVec.toNat v) = 1 ∧
      F.GT_PCTL_go.of (BitVec.toNat v) = 0 ∧
      F.GT_PCTL_rcm.of (BitVec.toNat v) = 0 ∧
      F.GT_PCTL_rab.of (BitVec.toNat v) = 0) ∧
    (∃ (p : Fin 4) (f : Frame) (s : State), (InOrder s (↑p : ℕ) f ∧ f.dst = BitVec.ofNat 12 (lkOwn s)) ∧
      (f.ty = 18 ∨ f.ty = 19) ∧
      s.is F.GT_STAT_doubt 0 = false ∧
      s.gt.round = none ∧
      (¬((¬s.is F.GT_TREE_root 0 = true ∧ s.get F.GT_TREE_parent 0 = (↑p : ℕ)) ∧ s.get F.GT_RID_v 0 = framePair f 0))) ∧
    (∃ (p : Fin 4) (f : Frame) (s : State), (InOrder s (↑p : ℕ) f ∧ f.dst = BitVec.ofNat 12 (lkOwn s)) ∧
      (f.ty = 18 ∨ f.ty = 19) ∧
      s.is F.GT_STAT_doubt 0 = false ∧
      s.gt.round = none ∧
      (¬s.is F.GT_TREE_root 0 = true ∧ s.get F.GT_TREE_parent 0 = (↑p : ℕ)) ∧
      s.get F.GT_RID_v 0 = framePair f 0 ∧
      Child s (↑p : ℕ) = false ∧
      (∀ q < 4, UpChild s q = true → Quiet s q 2)) ∧
    (∃ (t : ℕ) (p : Fin 4) (f : Frame) (s : State) (r : Round), (InOrder s (↑p : ℕ) f ∧ f.dst = BitVec.ofNat 12 (lkOwn s)) ∧
      (f.ty = 18 ∨ f.ty = 19) ∧
      s.is F.GT_STAT_doubt 0 = false ∧
      s.gt.round = some r ∧
      tbPast (s.tbAt (max s.now t) + 64 * r.guard) r.inst = false ∧
      (r.id ≠ framePair f 0 ∨ ¬(¬s.is F.GT_TREE_root 0 = true ∧ s.get F.GT_TREE_parent 0 = (↑p : ℕ)))) ∧
    (∃ (t : ℕ) (p : Fin 4) (f : Frame) (s : State) (r : Round), (InOrder s (↑p : ℕ) f ∧ f.dst = BitVec.ofNat 12 (lkOwn s)) ∧
      (f.ty = 18 ∨ f.ty = 19) ∧
      s.is F.GT_STAT_doubt 0 = false ∧
      s.gt.round = some r ∧
      tbPast (s.tbAt (max s.now t) + 64 * r.guard) r.inst = false ∧
      r.id = framePair f 0 ∧
      (¬s.is F.GT_TREE_root 0 = true ∧ s.get F.GT_TREE_parent 0 = (↑p : ℕ)) ∧
      Child s (↑p : ℕ) = false ∧
      s.get F.GT_STAT_dec 0 = 0 ∧
      (∀ q < 4, UpChild s q = true → Quiet s q 2)) :=
  ⟨⟨6400000000000, ((({ (netted.put F.GT_TREE_root 0 1) with gt := { (netted.put F.GT_TREE_root 0 1).gt with round := some ({ aRound with inst := 1000000000 }) } }).put F.GT_TREE_root 0 1).put F.GT_STAT_dec 0 0), { aRound with inst := 1000000000 }, by decide, by decide, by decide, (by unfold Quiet; decide), by decide⟩,
    ⟨(65536 : Word), { ((State.reset.put F.GT_TREE_root 0 1).put F.GT_STAT_dec 0 0) with gt := { (((State.reset.put F.GT_TREE_root 0 1).put F.GT_STAT_dec 0 0)).gt with round := some aRound } }, aRound, by decide, by decide, by decide, (by unfold Quiet; decide), by decide, by decide, by decide, by decide⟩,
    ⟨0, signed 0 0 (frm 18 0 7 [0, 1, 0, 200, 0, 0]), (netted.put F.GT_STAT_doubt 0 0), ⟨⟨by decide, by decide, by decide, by decide, in_order_mac _ _ _ (by decide +kernel) (by decide +kernel)⟩, by decide⟩, by decide, by decide, by decide, by decide⟩,
    ⟨0, signed 0 0 (frm 18 0 7 [0, 1, 0, 200, 0, 0]), ((((netted.put F.GT_TREE_parent 0 0).put F.GT_RID_v 0 1)).put F.GT_STAT_doubt 0 0), ⟨⟨by decide, by decide, by decide, by decide, in_order_mac _ _ _ (by decide +kernel) (by decide +kernel)⟩, by decide⟩, by decide, by decide, by decide, by decide, by decide, by decide, (by unfold Quiet; decide)⟩,
    ⟨6400000000000, 0, signed 0 0 (frm 19 0 7 [0, 2, 0, 200, 0, 0]), (({ netted with gt := { netted.gt with round := some ({ aRound with inst := 6500000000000 }) } }).put F.GT_STAT_doubt 0 0), { aRound with inst := 6500000000000 }, ⟨⟨by decide, by decide, by decide, by decide, in_order_mac _ _ _ (by decide +kernel) (by decide +kernel)⟩, by decide⟩, by decide, by decide, by decide, by decide, by decide⟩,
    ⟨6400000000000, 0, signed 0 0 (frm 19 0 7 [0, 1, 0, 200, 0, 0]), ((({ (netted.put F.GT_TREE_parent 0 0) with gt := { (netted.put F.GT_TREE_parent 0 0).gt with round := some ({ aRound with inst := 6500000000000 }) } }).put F.GT_STAT_doubt 0 0).put F.GT_STAT_dec 0 0), { aRound with inst := 6500000000000 }, ⟨⟨by decide, by decide, by decide, by decide, in_order_mac _ _ _ (by decide +kernel) (by decide +kernel)⟩, by decide⟩, by decide, by decide, by decide, by decide, by decide, by decide, by decide, by decide, (by unfold Quiet; decide)⟩⟩

/-- The hypotheses of clauses of `Obligations.TideOutcomes` are met. -/
theorem wit_TideOutcomes_1 :
    (∃ (t : ℕ) (s : State) (r : Round), s.gt.round = some r ∧
      s.is F.GT_STAT_doubt 0 = false ∧
      tbPast (s.tbAt (max s.now t)) ((r.inst + tbWrap - 64 * r.guard % tbWrap) % tbWrap) = true ∧
      r.own.yes = true ∧
      s.get F.GT_STAT_dec 0 = 1) ∧
    (∃ (t : ℕ) (s : State) (r : Round), s.gt.round = some r ∧
      s.is F.GT_STAT_doubt 0 = false ∧
      tbPast (s.tbAt (max s.now t)) ((r.inst + tbWrap - 64 * r.guard % tbWrap) % tbWrap) = true ∧
      r.own.yes = true ∧
      s.get F.GT_STAT_dec 0 = 0) ∧
    (∃ (t : ℕ) (s : State) (r : Round), s.gt.round = some r ∧
      s.is F.GT_STAT_doubt 0 = false ∧
      tbPast (s.tbAt (max s.now t)) ((r.inst + tbWrap - 64 * r.guard % tbWrap) % tbWrap) = true ∧
      (r.own.yes = false ∨ s.get F.GT_STAT_dec 0 = 2)) ∧
    (∃ (t : ℕ) (s : State) (r : Round), r ∈ s.gt.apply ∧
      tbPast (s.tbAt (max s.now t)) r.inst = true ∧
      (∀ q ∈ s.gt.apply, q ≠ r → tbPast (s.tbAt (max s.now t)) q.inst = true → r.slot.getD 0 < q.slot.getD 0) ∧
      r.slot = none) ∧
    (∃ (t : ℕ) (s : State) (r : Round) (k : ℕ), r ∈ s.gt.apply ∧
      tbPast (s.tbAt (max s.now t)) r.inst = true ∧
      (∀ q ∈ s.gt.apply, q ≠ r → tbPast (s.tbAt (max s.now t)) q.inst = true → r.slot.getD 0 < q.slot.getD 0) ∧
      k < 4 ∧
      r.slot = some k ∧
      (∀ j < k, tideDue { now := max s.now t, regs := s.regs, written := s.written, hw := s.hw, ich := s.ich, wc := s.wc, calDue := s.calDue, berth := s.berth, armed := s.armed, admq := s.admq, crane := s.crane, rounds := s.rounds, bstore := s.bstore, bstoreAt := s.bstoreAt, bram := s.bram, engW := s.engW, cu := s.cu, sram := s.sram, logAt := s.logAt, tz := s.tz, tripPin := s.tripPin, tb := s.tb, tbLatch := s.tbLatch, srcAt := s.srcAt, ev := s.ev, lc := s.lc, divAt := s.divAt, sc := s.sc, mt := s.mt, mf := s.mf, mfu := s.mfu, journal := s.journal, fl := s.fl, flash := s.flash, flBlk := s.flBlk, flWear := s.flWear, otp := s.otp, gpioPad := s.gpioPad, lkWake := s.lkWake, lkDrive := s.lkDrive, rung := s.rung, wake := s.wake, core := s.core, bank := s.bank, lock := s.lock, tide := s.tide, snap := s.snap, vsrc := s.vsrc, doze := s.doze, devRst := s.devRst, scrub := s.scrub, pps := s.pps, pwr := s.pwr, link := s.link, txs := s.txs, win := s.win, lku := s.lku, gt := s.gt, boot := s.boot, graft := s.graft, ku := s.ku, dbg := s.dbg, smb := s.smb, spi := s.spi, pending := s.pending, out := s.out, free := s.free } j = false)) ∧
    (∃ (t : ℕ) (s : State) (r : Round), s.gt.round = some r ∧
      s.is F.GT_STAT_doubt 0 = true ∧
      s.gt.reportAt ≤ max s.now t ∧
      r.hm < 4096 ∧
      s.get F.LK_ROUTE_port r.hm < 4 ∧
      Quiet s (s.get F.LK_ROUTE_port r.hm) 2) ∧
    (∃ (t : ℕ) (p : Fin 4) (f : Frame) (s : State) (r : Round), s.gt.round = some r ∧
      s.is F.GT_STAT_doubt 0 = true ∧
      InOrder s (↑p : ℕ) f ∧
      f.dst = BitVec.ofNat 12 (lkOwn s) ∧
      f.ty = 18 ∧
      framePair f 0 = r.id ∧
      (¬(tbPast (s.tbAt (max s.now t) + 64 * r.guard) (framePair f 2 * subUnits + framePair f 4) = true ∧ (s.tbAt (max s.now t) + 64 * r.guard) % tbWrap ≠ framePair f 2 * subUnits + framePair f 4))) ∧
    (∃ (p : Fin 4) (f : Frame) (s : State) (r : Round), s.gt.round = some r ∧
      s.is F.GT_STAT_doubt 0 = true ∧
      InOrder s (↑p : ℕ) f ∧
      f.dst = BitVec.ofNat 12 (lkOwn s) ∧
      f.ty = 19 ∧
      framePair f 0 = r.id) ∧
    (∃ (t : ℕ) (p : Fin 4) (f : Frame) (s : State) (r : Round), s.gt.round = some r ∧
      s.is F.GT_STAT_doubt 0 = true ∧
      InOrder s (↑p : ℕ) f ∧
      f.dst = BitVec.ofNat 12 (lkOwn s) ∧
      f.ty = 18 ∧
      framePair f 0 = r.id ∧
      (tbPast (s.tbAt (max s.now t) + 64 * r.guard) (framePair f 2 * subUnits + framePair f 4) = true ∧ (s.tbAt (max s.now t) + 64 * r.guard) % tbWrap ≠ framePair f 2 * subUnits + framePair f 4)) :=
  ⟨⟨6400000000000, { ((State.reset.put F.GT_STAT_doubt 0 0).put F.GT_STAT_dec 0 1) with gt := { (((State.reset.put F.GT_STAT_doubt 0 0).put F.GT_STAT_dec 0 1)).gt with round := some aRound } }, aRound, by decide, by decide, by decide, by decide, by decide⟩,
    ⟨6400000000000, { ((State.reset.put F.GT_STAT_doubt 0 0).put F.GT_STAT_dec 0 0) with gt := { (((State.reset.put F.GT_STAT_doubt 0 0).put F.GT_STAT_dec 0 0)).gt with round := some aRound } }, aRound, by decide, by decide, by decide, by decide, by decide⟩,
    ⟨6400000000000, (({ (netted.put F.GT_STAT_dec 0 2) with gt := { (netted.put F.GT_STAT_dec 0 2).gt with round := some (aRound) } }).put F.GT_STAT_doubt 0 0), aRound, by decide, by decide, by decide, by decide⟩,
    ⟨6400000000000, ({ netted with gt := { netted.gt with round := none, apply := [{ aRound with slot := none }] } }), { aRound with slot := none }, by decide, by decide, by decide, by decide⟩,
    ⟨6400000000000, ({ netted with gt := { netted.gt with round := none, apply := [aRound] } }), aRound, 0, by decide, by decide, by decide, by decide, by decide, by decide⟩,
    ⟨6400000000000, (({ (netted.put F.GT_STAT_doubt 0 1) with gt := { (netted.put F.GT_STAT_doubt 0 1).gt with round := some ({ aRound with hm := 7 }) } }).put F.GT_STAT_doubt 0 1), { aRound with hm := 7 }, by decide, by decide, by decide, by decide, by decide, (by unfold Quiet; decide)⟩,
    ⟨6400000000000, 0, signed 0 0 (frm 18 0 7 [0, 1, 0, 200, 0, 0]), (({ (netted.put F.GT_STAT_doubt 0 1) with gt := { (netted.put F.GT_STAT_doubt 0 1).gt with round := some (aRound) } }).put F.GT_STAT_doubt 0 1), aRound, by decide, by decide, ⟨by decide, by decide, by decide, by decide, in_order_mac _ _ _ (by decide +kernel) (by decide +kernel)⟩, by decide, by decide, by decide, by decide⟩,
    ⟨0, signed 0 0 (frm 19 0 7 [0, 1, 0, 200, 0, 0]), (({ (netted.put F.GT_STAT_doubt 0 1) with gt := { (netted.put F.GT_STAT_doubt 0 1).gt with round := some (aRound) } }).put F.GT_STAT_doubt 0 1), aRound, by decide, by decide, ⟨by decide, by decide, by decide, by decide, in_order_mac _ _ _ (by decide +kernel) (by decide +kernel)⟩, by decide, by decide, by decide⟩,
    ⟨6400000000000, 0, signed 0 0 (frm 18 0 7 [0, 1, 0, 0, 0, 0]), (({ (netted.put F.GT_STAT_doubt 0 1) with gt := { (netted.put F.GT_STAT_doubt 0 1).gt with round := some (aRound) } }).put F.GT_STAT_doubt 0 1), aRound, by decide, by decide, ⟨by decide, by decide, by decide, by decide, in_order_mac _ _ _ (by decide +kernel) (by decide +kernel)⟩, by decide, by decide, by decide, by decide⟩⟩

/-- The hypotheses of clauses of `Obligations.TideOutcomes` are met. -/
theorem wit_TideOutcomes_2 :
    (∃ (p : Fin 4) (f : Frame) (s : State) (r : Round), s.gt.round = some r ∧
      s.is F.GT_STAT_doubt 0 = true ∧
      InOrder s (↑p : ℕ) f ∧
      f.dst = BitVec.ofNat 12 (lkOwn s) ∧
      f.ty = 18 ∧
      framePair f 0 ≠ r.id) ∧
    (∃ (p : Fin 4) (f : Frame) (s : State) (r : Round), s.gt.round = some r ∧
      s.is F.GT_STAT_doubt 0 = true ∧
      InOrder s (↑p : ℕ) f ∧
      f.dst = BitVec.ofNat 12 (lkOwn s) ∧
      f.ty = 19 ∧
      framePair f 0 ≠ r.id) ∧
    (∃ (v : Word) (s : State), F.GT_PCTL_go.of (BitVec.toNat v) = 0 ∧
      F.GT_PCTL_abort.of (BitVec.toNat v) = 0 ∧
      (F.GT_PCTL_rcm.of (BitVec.toNat v) = 1 ∧ F.GT_PCTL_rab.of (BitVec.toNat v) = 0) ∧
      s.is F.GT_TREE_root 0 = true ∧
      s.get F.LK_ROUTE_port (s.get F.GT_PDST_node 0) < 4 ∧
      Quiet s (s.get F.LK_ROUTE_port (s.get F.GT_PDST_node 0)) 2) ∧
    (∃ (v : Word) (s : State), F.GT_PCTL_go.of (BitVec.toNat v) = 0 ∧
      F.GT_PCTL_abort.of (BitVec.toNat v) = 0 ∧
      (F.GT_PCTL_rcm.of (BitVec.toNat v) = 0 ∧ F.GT_PCTL_rab.of (BitVec.toNat v) = 1) ∧
      s.is F.GT_TREE_root 0 = true ∧
      s.get F.LK_ROUTE_port (s.get F.GT_PDST_node 0) < 4 ∧
      Quiet s (s.get F.LK_ROUTE_port (s.get F.GT_PDST_node 0)) 2) ∧
    (∃ (v : Word) (s : State), F.GT_PCTL_go.of (BitVec.toNat v) = 0 ∧
      F.GT_PCTL_abort.of (BitVec.toNat v) = 0 ∧
      (F.GT_PCTL_rcm.of (BitVec.toNat v) = 1 ∧ F.GT_PCTL_rab.of (BitVec.toNat v) = 0) ∧
      s.is F.GT_TREE_root 0 = false) ∧
    (∃ (v : Word) (s : State), F.GT_PCTL_go.of (BitVec.toNat v) = 0 ∧
      F.GT_PCTL_abort.of (BitVec.toNat v) = 0 ∧
      (F.GT_PCTL_rcm.of (BitVec.toNat v) = 0 ∧ F.GT_PCTL_rab.of (BitVec.toNat v) = 1) ∧
      s.is F.GT_TREE_root 0 = false) :=
  ⟨⟨0, signed 0 0 (frm 18 0 7 [0, 2, 0, 200, 0, 0]), (({ (netted.put F.GT_STAT_doubt 0 1) with gt := { (netted.put F.GT_STAT_doubt 0 1).gt with round := some (aRound) } }).put F.GT_STAT_doubt 0 1), aRound, by decide, by decide, ⟨by decide, by decide, by decide, by decide, in_order_mac _ _ _ (by decide +kernel) (by decide +kernel)⟩, by decide, by decide, by decide⟩,
    ⟨0, signed 0 0 (frm 19 0 7 [0, 2, 0, 200, 0, 0]), (({ (netted.put F.GT_STAT_doubt 0 1) with gt := { (netted.put F.GT_STAT_doubt 0 1).gt with round := some (aRound) } }).put F.GT_STAT_doubt 0 1), aRound, by decide, by decide, ⟨by decide, by decide, by decide, by decide, in_order_mac _ _ _ (by decide +kernel) (by decide +kernel)⟩, by decide, by decide, by decide⟩,
    ⟨(32768 : Word), ((((netted.put F.GT_TREE_root 0 1).put F.GT_PDST_node 0 7)).put F.GT_TREE_root 0 1), by decide, by decide, by decide, by decide, by decide, (by unfold Quiet; decide)⟩,
    ⟨(16384 : Word), ((((netted.put F.GT_TREE_root 0 1).put F.GT_PDST_node 0 7)).put F.GT_TREE_root 0 1), by decide, by decide, by decide, by decide, by decide, (by unfold Quiet; decide)⟩,
    ⟨(32768 : Word), (State.reset.put F.GT_TREE_root 0 0), by decide, by decide, by decide, by decide⟩,
    ⟨(16384 : Word), (State.reset.put F.GT_TREE_root 0 0), by decide, by decide, by decide, by decide⟩⟩

/-- The hypotheses of clauses of `Obligations.TideVotes` are met. -/
theorem wit_TideVotes :
    (∃ (t : ℕ) (v : Word) (s : State), F.GT_PCTL_go.of (BitVec.toNat v) = 1 ∧
      F.GT_PCTL_abort.of (BitVec.toNat v) = 0 ∧
      F.GT_PCTL_rcm.of (BitVec.toNat v) = 0 ∧
      F.GT_PCTL_rab.of (BitVec.toNat v) = 0 ∧
      (s.is F.GT_TREE_root 0 = false ∨ s.is F.GT_STAT_open 0 = true ∨ s.get F.GT_PID_v 0 ≤ s.get F.GT_LAST_v 0 ∨ s.get F.GT_PGUARD_g 0 < 1000 ∨ s.get F.GT_PLEAD_v 0 < 2 * s.get F.GT_PGUARD_g 0 + 2000 ∨ tbPast (s.tbAt (max s.now t) + 256000) ((s.get F.GT_PINH_v 0 * subUnits + s.get F.GT_PINL_v 0 + tbWrap - 64 * s.get F.GT_PLEAD_v 0 % tbWrap) % tbWrap) = true ∧ (s.tbAt (max s.now t) + 256000) % tbWrap ≠ (s.get F.GT_PINH_v 0 * subUnits + s.get F.GT_PINL_v 0 + tbWrap - 64 * s.get F.GT_PLEAD_v 0 % tbWrap) % tbWrap)) ∧
    (∃ (t : ℕ) (v : Word) (s : State), F.GT_PCTL_go.of (BitVec.toNat v) = 1 ∧
      F.GT_PCTL_abort.of (BitVec.toNat v) = 0 ∧
      F.GT_PCTL_rcm.of (BitVec.toNat v) = 0 ∧
      F.GT_PCTL_rab.of (BitVec.toNat v) = 0 ∧
      (¬(s.is F.GT_TREE_root 0 = false ∨ s.is F.GT_STAT_open 0 = true ∨ s.get F.GT_PID_v 0 ≤ s.get F.GT_LAST_v 0 ∨ s.get F.GT_PGUARD_g 0 < 1000 ∨ s.get F.GT_PLEAD_v 0 < 2 * s.get F.GT_PGUARD_g 0 + 2000 ∨ tbPast (s.tbAt (max s.now t) + 256000) ((s.get F.GT_PINH_v 0 * subUnits + s.get F.GT_PINL_v 0 + tbWrap - 64 * s.get F.GT_PLEAD_v 0 % tbWrap) % tbWrap) = true ∧ (s.tbAt (max s.now t) + 256000) % tbWrap ≠ (s.get F.GT_PINH_v 0 * subUnits + s.get F.GT_PINL_v 0 + tbWrap - 64 * s.get F.GT_PLEAD_v 0 % tbWrap) % tbWrap)) ∧
      firstReason { now := max s.now t, regs := s.regs, written := s.written, hw := s.hw, ich := s.ich, wc := s.wc, calDue := s.calDue, berth := s.berth, armed := s.armed, admq := s.admq, crane := s.crane, rounds := s.rounds, bstore := s.bstore, bstoreAt := s.bstoreAt, bram := s.bram, engW := s.engW, cu := s.cu, sram := s.sram, logAt := s.logAt, tz := s.tz, tripPin := s.tripPin, tb := s.tb, tbLatch := s.tbLatch, srcAt := s.srcAt, ev := s.ev, lc := s.lc, divAt := s.divAt, sc := s.sc, mt := s.mt, mf := s.mf, mfu := s.mfu, journal := s.journal, fl := s.fl, flash := s.flash, flBlk := s.flBlk, flWear := s.flWear, otp := s.otp, gpioPad := s.gpioPad, lkWake := s.lkWake, lkDrive := s.lkDrive, rung := s.rung, wake := s.wake, core := s.core, bank := s.bank, lock := s.lock, tide := s.tide, snap := s.snap, vsrc := s.vsrc, doze := s.doze, devRst := s.devRst, scrub := s.scrub, pps := s.pps, pwr := s.pwr, link := s.link, txs := s.txs, win := s.win, lku := s.lku, gt := s.gt, boot := s.boot, graft := s.graft, ku := s.ku, dbg := s.dbg, smb := s.smb, spi := s.spi, pending := s.pending, out := s.out, free := s.free } (s.get F.GT_PID_v 0) (s.get F.GT_PINH_v 0 * subUnits + s.get F.GT_PINL_v 0) (decide (F.GT_PCTL_raise.of (BitVec.toNat v) = 1)) (F.GT_PCTL_lvl.of (BitVec.toNat v)) False = 0 ∧
      (∀ q < 4, Child s q = true → UpChild s q = true ∧ Quiet s q 2 ∧ F.GT_PCTL_lvl.of (BitVec.toNat v) ≤ s.get F.LK_PSTAT_bl q) ∧
      (∃ q < 4, Child s q = true)) ∧
    (∃ (t : ℕ) (v : Word) (s : State), F.GT_PCTL_go.of (BitVec.toNat v) = 1 ∧
      F.GT_PCTL_abort.of (BitVec.toNat v) = 0 ∧
      F.GT_PCTL_rcm.of (BitVec.toNat v) = 0 ∧
      F.GT_PCTL_rab.of (BitVec.toNat v) = 0 ∧
      (¬(s.is F.GT_TREE_root 0 = false ∨ s.is F.GT_STAT_open 0 = true ∨ s.get F.GT_PID_v 0 ≤ s.get F.GT_LAST_v 0 ∨ s.get F.GT_PGUARD_g 0 < 1000 ∨ s.get F.GT_PLEAD_v 0 < 2 * s.get F.GT_PGUARD_g 0 + 2000 ∨ tbPast (s.tbAt (max s.now t) + 256000) ((s.get F.GT_PINH_v 0 * subUnits + s.get F.GT_PINL_v 0 + tbWrap - 64 * s.get F.GT_PLEAD_v 0 % tbWrap) % tbWrap) = true ∧ (s.tbAt (max s.now t) + 256000) % tbWrap ≠ (s.get F.GT_PINH_v 0 * subUnits + s.get F.GT_PINL_v 0 + tbWrap - 64 * s.get F.GT_PLEAD_v 0 % tbWrap) % tbWrap)) ∧
      (∀ q < 4, Child s q = false)) ∧
    (∃ (p : Fin 4) (f : Frame) (s : State), InOrder s (↑p : ℕ) f ∧
      f.ty = 16 ∧
      f.dst = BitVec.ofNat 12 (lkOwn s) ∧
      (¬(s.is F.GT_TREE_root 0 = false ∧ s.get F.GT_TREE_parent 0 = (↑p : ℕ)))) ∧
    (∃ (p : Fin 4) (f : Frame) (s : State), InOrder s (↑p : ℕ) f ∧
      f.ty = 16 ∧
      f.dst = BitVec.ofNat 12 (lkOwn s) ∧
      (s.is F.GT_TREE_root 0 = false ∧ s.get F.GT_TREE_parent 0 = (↑p : ℕ)) ∧
      s.gt.round ≠ none) ∧
    (∃ (t : ℕ) (p : Fin 4) (f : Frame) (s : State), InOrder s (↑p : ℕ) f ∧
      f.ty = 16 ∧
      f.dst = BitVec.ofNat 12 (lkOwn s) ∧
      (s.is F.GT_TREE_root 0 = false ∧ s.get F.GT_TREE_parent 0 = (↑p : ℕ)) ∧
      s.gt.round = none ∧
      s.is F.GT_STAT_doubt 0 = false ∧
      Child s (↑p : ℕ) = false ∧
      tbPast (s.tbAt (max s.now t)) ((framePair f 2 * subUnits + framePair f 4 + tbWrap - 64 * framePair f 6 % tbWrap) % tbWrap) = false ∧
      (∀ q < 4, UpChild s q = true → Quiet s q 2)) ∧
    (∃ (t : ℕ) (s : State) (r : Round), s.gt.round = some r ∧
      r.sent = false ∧
      tbPast (s.tbAt (max s.now t)) r.p = true ∧
      s.gt.nos = [] ∧
      s.is F.GT_TREE_root 0 = false ∧
      s.is F.GT_STAT_doubt 0 = false ∧
      r.complete = false) ∧
    (∃ (t : ℕ) (s : State) (r : Round), s.gt.round = some r ∧
      r.sent = false ∧
      tbPast (s.tbAt (max s.now t)) r.p = true ∧
      s.gt.nos = [] ∧
      s.is F.GT_TREE_root 0 = false ∧
      s.is F.GT_STAT_doubt 0 = false ∧
      r.complete = true ∧
      s.get F.GT_TREE_parent 0 < 4 ∧
      Quiet s (s.get F.GT_TREE_parent 0) 2) :=
  ⟨⟨6400000000000, (131072 : Word), State.reset, by decide, by decide, by decide, by decide, by decide⟩,
    ⟨6400000000000, (131072 : Word), (((((((netted.put F.GT_TREE_root 0 1).put F.GT_PID_v 0 1).put F.GT_PGUARD_g 0 2000).put F.GT_PLEAD_v 0 6000).put F.GT_PINH_v 0 200).put F.GT_TREE_child 0 8)), by decide, by decide, by decide, by decide, by decide, by decide, (by unfold Quiet; decide), by decide⟩,
    ⟨6400000000000, (131072 : Word), ((((((netted.put F.GT_TREE_root 0 1).put F.GT_PID_v 0 1).put F.GT_PGUARD_g 0 2000).put F.GT_PLEAD_v 0 6000).put F.GT_PINH_v 0 200)), by decide, by decide, by decide, by decide, by decide, by decide⟩,
    ⟨0, signed 0 0 (frm 16 0 7 [0, 1, 0, 200, 0, 0, 0, 2000, 0, 0, 0]), ((netted.put F.GT_TREE_root 0 1)), ⟨by decide, by decide, by decide, by decide, in_order_mac _ _ _ (by decide +kernel) (by decide +kernel)⟩, by decide, by decide, by decide⟩,
    ⟨0, signed 0 0 (frm 16 0 7 [0, 1, 0, 200, 0, 0, 0, 2000, 0, 0, 0]), (({ (netted.put F.GT_TREE_parent 0 0) with gt := { (netted.put F.GT_TREE_parent 0 0).gt with round := some (aRound) } }).put F.GT_TREE_root 0 0), ⟨by decide, by decide, by decide, by decide, in_order_mac _ _ _ (by decide +kernel) (by decide +kernel)⟩, by decide, by decide, by decide, by decide⟩,
    ⟨6400000000000, 0, signed 0 0 (frm 16 0 7 [0, 1, 0, 200, 0, 0, 0, 2000, 0, 0, 0]), ((((netted.put F.GT_TREE_parent 0 0)).put F.GT_TREE_root 0 0).put F.GT_STAT_doubt 0 0), ⟨by decide, by decide, by decide, by decide, in_order_mac _ _ _ (by decide +kernel) (by decide +kernel)⟩, by decide, by decide, by decide, by decide, by decide, by decide, by decide, (by unfold Quiet; decide)⟩,
    ⟨6400000000000, ((({ netted with gt := { netted.gt with round := some ({ aRound with kids := [(0, none)] }) } }).put F.GT_TREE_root 0 0).put F.GT_STAT_doubt 0 0), { aRound with kids := [(0, none)] }, by decide, by decide, by decide, by decide, by decide, by decide, by decide⟩,
    ⟨6400000000000, ((({ (netted.put F.GT_TREE_parent 0 1) with gt := { (netted.put F.GT_TREE_parent 0 1).gt with round := some (aRound) } }).put F.GT_TREE_root 0 0).put F.GT_STAT_doubt 0 0), aRound, by decide, by decide, by decide, by decide, by decide, by decide, by decide, by decide, (by unfold Quiet; decide)⟩⟩

/-- The hypotheses of clauses of `Obligations.TripZones` are met. -/
theorem wit_TripZones :
    (∃ (z : Fin 16) (s : State) (code : BitVec 8), (∀ u < 128, s.is F.CU_STAT_tripped u = true → cuTripReason s u = true ∨ (s.cuOf u).resume ≠ none) ∧
      s.rung < 5 ∧
      (code.toNat < 128 ∧ (wcReq s code.toNat).testBit (↑z : ℕ) = true ∨ 128 ≤ code.toNat ∧ code.toNat < 144 ∧ (s.get F.TZ_PIN_pin (↑z : ℕ)).testBit (code.toNat - 128) = true ∧ (s.tripPinOf (code.toNat - 128)).lvl = (s.get F.TRIP_POL_pol 0).testBit (code.toNat - 128) ∨ 144 ≤ code.toNat ∧ code.toNat < 160 ∧ (s.get F.TZ_CORE_core (↑z : ℕ)).testBit (code.toNat - 144) = true ∧ s.get F.CORE_STAT_state (code.toNat - 144) = 4 ∨ 160 ≤ code.toNat ∧ code.toNat < 164 ∧ (s.get F.TZ_LINK_port (↑z : ℕ)).testBit (code.toNat - 160) = true ∧ (s.get F.LK_PSTAT_state (code.toNat - 160) = 4 ∨ s.is F.LK_PSTAT_absent (code.toNat - 160) = true ∧ s.get F.LK_PSTAT_state (code.toNat - 160) ≠ 3)) ∧
      s.is F.TZ_STAT_lat (↑z : ℕ) = false) ∧
    (∃ (t : ℕ) (z : Fin 16) (s : State) (code : BitVec 8), (∀ u < 128, s.is F.CU_STAT_tripped u = true → cuTripReason s u = true ∨ (s.cuOf u).resume ≠ none) ∧
      s.rung < 5 ∧
      (code.toNat < 128 ∧ (wcReq s code.toNat).testBit (↑z : ℕ) = true ∨ 128 ≤ code.toNat ∧ code.toNat < 144 ∧ (s.get F.TZ_PIN_pin (↑z : ℕ)).testBit (code.toNat - 128) = true ∧ (s.tripPinOf (code.toNat - 128)).lvl = (s.get F.TRIP_POL_pol 0).testBit (code.toNat - 128) ∨ 144 ≤ code.toNat ∧ code.toNat < 160 ∧ (s.get F.TZ_CORE_core (↑z : ℕ)).testBit (code.toNat - 144) = true ∧ s.get F.CORE_STAT_state (code.toNat - 144) = 4 ∨ 160 ≤ code.toNat ∧ code.toNat < 164 ∧ (s.get F.TZ_LINK_port (↑z : ℕ)).testBit (code.toNat - 160) = true ∧ (s.get F.LK_PSTAT_state (code.toNat - 160) = 4 ∨ s.is F.LK_PSTAT_absent (code.toNat - 160) = true ∧ s.get F.LK_PSTAT_state (code.toNat - 160) ≠ 3)) ∧
      s.is F.TZ_STAT_lat (↑z : ℕ) = true ∧
      (s.tzOf (↑z : ℕ)).latAt = max s.now t ∧
      code.toNat < s.get F.TZ_STAT_first (↑z : ℕ)) ∧
    (∃ (s : State), (∀ u < 128, s.is F.CU_STAT_tripped u = true → cuTripReason s u = true ∨ (s.cuOf u).resume ≠ none) ∧
      5 ≤ s.rung) ∧
    (∃ (z : Fin 16) (s : State) (v : Word), (∀ u < 128, s.is F.CU_STAT_tripped u = true → cuTripReason s u = true ∨ (s.cuOf u).resume ≠ none) ∧
      BitVec.getLsbD v 17 = true ∧
      s.is F.TZ_STAT_lat (↑z : ℕ) = false) ∧
    (∃ (t : ℕ) (z : Fin 16) (s : State), (∀ u < 128, s.is F.CU_STAT_tripped u = true → cuTripReason s u = true ∨ (s.cuOf u).resume ≠ none) ∧
      s.is F.TZ_STAT_lat (↑z : ℕ) = true ∧
      (s.hwOf (regKey RegName.TZ_STAT (↑z : ℕ))).cyc = max s.now t / 64 ∧
      (s.hwOf (regKey RegName.TZ_STAT (↑z : ℕ))).bits.getLsbD F.TZ_STAT_lat.lo = true) ∧
    (∃ (t : ℕ) (z : Fin 16) (s : State), (∀ u < 128, s.is F.CU_STAT_tripped u = true → cuTripReason s u = true ∨ (s.cuOf u).resume ≠ none) ∧
      s.is F.TZ_STAT_lat (↑z : ℕ) = true ∧
      HwIdle t RegName.TZ_STAT (↑z : ℕ) s ∧
      (∀ u < 128, cuTripReason s u = true → s.is F.CU_STAT_tripped u = true) ∧
      (∀ u < 128, (s.get F.CU_TZM_zone u).testBit (↑z : ℕ) = true → (s.cuOf u).counting = true ∧ (s.cuOf u).gov.mode < 2 ∧ (s.cuOf u).resume = none) ∧
      (∀ code < 164, tzAsserted s (↑z : ℕ) code = false)) ∧
    (∃ (t : ℕ) (z : Fin 16) (s : State) (code : ℕ), (∀ u < 128, s.is F.CU_STAT_tripped u = true → cuTripReason s u = true ∨ (s.cuOf u).resume ≠ none) ∧
      s.is F.TZ_STAT_lat (↑z : ℕ) = true ∧
      HwIdle t RegName.TZ_STAT (↑z : ℕ) s ∧
      (∀ u < 128, cuTripReason s u = true → s.is F.CU_STAT_tripped u = true) ∧
      (∀ u < 128, (s.get F.CU_TZM_zone u).testBit (↑z : ℕ) = true → (s.cuOf u).counting = true ∧ (s.cuOf u).gov.mode < 2 ∧ (s.cuOf u).resume = none) ∧
      code < 164 ∧
      tzAsserted s (↑z : ℕ) code = true ∧
      (∀ c < code, tzAsserted s (↑z : ℕ) c = false)) ∧
    (∃ (z : Fin 16) (s : State) (lvl : Bool), (∀ u < 128, s.is F.CU_STAT_tripped u = true → cuTripReason s u = true ∨ (s.cuOf u).resume ≠ none) ∧
      (s.tripPinOf (↑z : ℕ)).lvl ≠ lvl) :=
  ⟨⟨0, (((State.reset.put F.TZ_CORE_core 0 0o100000).put F.CORE_STAT_state 15 4).put F.TZ_STAT_lat 0 0), (0o220 + 15 : BitVec 8), by decide, by decide, by decide, by decide⟩,
    ⟨6400000000000, 0, ((((((State.reset.put F.TZ_CORE_core 0 1).put F.CORE_STAT_state 0 4).put F.TZ_STAT_lat 0 1).put F.TZ_STAT_first 0 145).setTz 0 { latAt := 6400000000000 }).put F.TZ_STAT_lat 0 1), (0o220 : BitVec 8), by decide, by decide, by decide, by decide, by decide, by decide⟩,
    ⟨({ State.reset with rung := 5 }), by decide, by decide⟩,
    ⟨0, (State.reset.put F.TZ_STAT_lat 0 0), (131072 : Word), by decide, by decide, by decide⟩,
    ⟨6400000000000, 0, (((State.reset.put F.TZ_STAT_lat 0 1).setHw (regKey .TZ_STAT 0) { cyc := 100000000000, bits := 131072 }).put F.TZ_STAT_lat 0 1), by decide, by decide, by decide, by decide⟩,
    ⟨6400000000000, 0, (State.reset.put F.TZ_STAT_lat 0 1), by decide, by decide, (by unfold HwIdle; decide), by decide, by decide, by decide⟩,
    ⟨6400000000000, 0, ((((State.reset.put F.TZ_STAT_lat 0 1).put F.TZ_CORE_core 0 1).put F.CORE_STAT_state 0 4).put F.TZ_STAT_lat 0 1), 144, by decide, by decide, (by unfold HwIdle; decide), by decide, by decide, by decide, by decide, by decide⟩,
    ⟨0, State.reset, false, by decide, by decide⟩⟩

/-- The hypotheses of clauses of `Obligations.LoadsAndStores` are met. -/
theorem wit_LoadsAndStores_AccessTraps :
    (∃ (t : ℕ) (c : Fin 16) (mx : Bool) (x : Fields) (s : State) (e : (ℕ → Fin 16 → Bool → Fields → Instr) × ℕ × (Fields → Prop) × (CoreS → Fields → ℕ → Bool → CoreS)) (cause : ℕ), CoreReady t s (↑c : ℕ) ∧
      (mx = true → x.b20 = 0) ∧
      e ∈ loadTable ∧
      e.2.2.1 x ∧
      capCheck ((atIssue t (↑c : ℕ) s).cap x.kc) [permLD] ((atIssue t (↑c : ℕ) s).ea mx x) e.2.1 = some cause) ∧
    (∃ (t : ℕ) (c : Fin 16) (mx : Bool) (x : Fields) (s : State) (e : (ℕ → Fin 16 → Bool → Fields → Instr) × ℕ × (Fields → Prop) × (CoreS → Fields → ℕ → Bool → CoreS)), CoreReady t s (↑c : ℕ) ∧
      (mx = true → x.b20 = 0) ∧
      e ∈ loadTable ∧
      e.2.2.1 x ∧
      capCheck ((atIssue t (↑c : ℕ) s).cap x.kc) [permLD] ((atIssue t (↑c : ℕ) s).ea mx x) e.2.1 = none ∧
      accessOk ((atIssue t (↑c : ℕ) s).ea mx x).toNat e.2.1 false = false) ∧
    (∃ (t : ℕ) (c : Fin 16) (mx : Bool) (x : Fields) (s : State) (e : (ℕ → Fin 16 → Bool → Fields → Instr) × ℕ × (Fields → Prop) × (CoreS → Fields → ℕ → Bool → CoreS)), CoreReady t s (↑c : ℕ) ∧
      (mx = true → x.b20 = 0) ∧
      e ∈ loadTable ∧
      e.2.2.1 x ∧
      capCheck ((atIssue t (↑c : ℕ) s).cap x.kc) [permLD] ((atIssue t (↑c : ℕ) s).ea mx x) e.2.1 = none ∧
      accessOk ((atIssue t (↑c : ℕ) s).ea mx x).toNat e.2.1 false = true ∧
      regionOf ((atIssue t (↑c : ℕ) s).ea mx x).toNat = Region.sram ∧
      ownsBank (issued t (↑c : ℕ) s) (↑c : ℕ) (bankAt ((atIssue t (↑c : ℕ) s).ea mx x).toNat) = false ∧
      awaitsBank (issued t (↑c : ℕ) s) (↑c : ℕ) (bankAt ((atIssue t (↑c : ℕ) s).ea mx x).toNat) = false) ∧
    (∃ (t : ℕ) (c : Fin 16) (mx : Bool) (x : Fields) (s : State) (e : (ℕ → Fin 16 → Bool → Fields → Instr) × ℕ × (Fields → Prop) × (CoreS → Fields → ℕ) × (CoreS → Fields → Bool)) (cause : ℕ), CoreReady t s (↑c : ℕ) ∧
      (mx = true → x.b20 = 0) ∧
      e ∈ storeTable ∧
      e.2.2.1 x ∧
      (capCheck ((atIssue t (↑c : ℕ) s).cap x.kc) (if e.2.2.2.2 (atIssue t (↑c : ℕ) s) x = true then [permST, permSK] else [permST]) ((atIssue t (↑c : ℕ) s).ea mx x) e.2.1 = some cause)) ∧
    (∃ (t : ℕ) (c : Fin 16) (mx : Bool) (x : Fields) (s : State) (e : (ℕ → Fin 16 → Bool → Fields → Instr) × ℕ × (Fields → Prop) × (CoreS → Fields → ℕ) × (CoreS → Fields → Bool)), CoreReady t s (↑c : ℕ) ∧
      (mx = true → x.b20 = 0) ∧
      e ∈ storeTable ∧
      e.2.2.1 x ∧
      (capCheck ((atIssue t (↑c : ℕ) s).cap x.kc) (if e.2.2.2.2 (atIssue t (↑c : ℕ) s) x = true then [permST, permSK] else [permST]) ((atIssue t (↑c : ℕ) s).ea mx x) e.2.1 = none) ∧
      accessOk ((atIssue t (↑c : ℕ) s).ea mx x).toNat e.2.1 true = false) ∧
    (∃ (t : ℕ) (c : Fin 16) (mx : Bool) (x : Fields) (s : State) (e : (ℕ → Fin 16 → Bool → Fields → Instr) × ℕ × (Fields → Prop) × (CoreS → Fields → ℕ) × (CoreS → Fields → Bool)), CoreReady t s (↑c : ℕ) ∧
      (mx = true → x.b20 = 0) ∧
      e ∈ storeTable ∧
      e.2.2.1 x ∧
      (capCheck ((atIssue t (↑c : ℕ) s).cap x.kc) (if e.2.2.2.2 (atIssue t (↑c : ℕ) s) x = true then [permST, permSK] else [permST]) ((atIssue t (↑c : ℕ) s).ea mx x) e.2.1 = none) ∧
      accessOk ((atIssue t (↑c : ℕ) s).ea mx x).toNat e.2.1 true = true ∧
      regionOf ((atIssue t (↑c : ℕ) s).ea mx x).toNat = Region.sram ∧
      awaitsBank (issued t (↑c : ℕ) s) (↑c : ℕ) (bankAt ((atIssue t (↑c : ℕ) s).ea mx x).toNat) = false ∧
      (ownsBank (issued t (↑c : ℕ) s) (↑c : ℕ) (bankAt ((atIssue t (↑c : ℕ) s).ea mx x).toNat) = false ∨ inSlice (sramIx (((atIssue t (↑c : ℕ) s).ea mx x).toNat + e.2.1 - 1)) = true)) ∧
    (∃ (t : ℕ) (c : Fin 16) (mx : Bool) (x : Fields) (s : State) (n : ℕ), CoreReady t s (↑c : ℕ) ∧
      (mx = true → x.b20 = 0) ∧
      n ∈ [1, 2, 4, 8] ∧
      0 ≤ (atIssue t (↑c : ℕ) s).ea mx x ∧
      regionOf ((atIssue t (↑c : ℕ) s).ea mx x).toNat ≠ Region.periph) :=
  ⟨⟨6400000000000, 0, false, (393216 : Fields), (running core1), loadTable[2], 1, (by unfold CoreReady; decide), by decide, (List.getElem_mem (by decide)), (trivial), by decide⟩,
    ⟨6400000000000, 0, false, (131073 : Fields), (running core1), loadTable[4], (by unfold CoreReady; decide), by decide, (List.getElem_mem (by decide)), (by show Fields.f27 _ < 8; decide), by decide, by decide⟩,
    ⟨6400000000000, 0, false, (131072 : Fields), ((running core1).put F.BANK_OWN_id 0 7), loadTable[2], (by unfold CoreReady; decide), by decide, (List.getElem_mem (by decide)), (trivial), by decide, by decide, by decide, by decide, by decide⟩,
    ⟨6400000000000, 0, false, (262144 : Fields), (running core1), storeTable[1], 3, (by unfold CoreReady; decide), by decide, (List.getElem_mem (by decide)), (trivial), by decide⟩,
    ⟨6400000000000, 0, false, (131076 : Fields), (running core1), storeTable[3], (by unfold CoreReady; decide), by decide, (List.getElem_mem (by decide)), (by show Fields.f27 _ < 8; decide), by decide, by decide⟩,
    ⟨6400000000000, 0, false, (131072 : Fields), ((running core1).put F.BANK_OWN_id 0 7), storeTable[1], (by unfold CoreReady; decide), by decide, (List.getElem_mem (by decide)), (trivial), by decide, by decide, by decide, by decide, by decide⟩,
    ⟨6400000000000, 0, false, (131072 : Fields), (running core0), 8, (by unfold CoreReady; decide), by decide, by decide, by decide, by decide⟩⟩

/-- The hypotheses of clauses of `Obligations.BerthArmingAndEngineControl` are met. -/
theorem wit_BerthArmingAndEngineControl_BerthArming :
    (∃ (t : ℕ) (b : Fin 1024) (v : Word) (s : State), BitVec.getLsbD v 17 = true ∧
      HwIdle t RegName.BERTH_CTL (↑b : ℕ) s ∧
      s.is F.BERTH_CTL_arm (↑b : ℕ) = false ∧
      s.is F.BERTH_STAT_admpend (↑b : ℕ) = false ∧
      (↑b : ℕ) ∉ s.armed) ∧
    (∃ (b : ℕ) (q : List ℕ) (s : State), s.admq = b :: q ∧
      s.rung < 3 ∧
      ((if s.is F.ENG_CTL_en 0 = false then (1 : ℕ) else if s.get F.BERTH_TRG_src b = 3 ∨ s.get F.BERTH_TRG_src b = 0 ∧ 511 < s.get F.BERTH_TRG_num b then 2 else if 16384 < s.get F.BERTH_PROG_base b + (s.get F.BERTH_PROG_lenm1 b + 1) then 3 else if 128 ≤ (armedOn s (s.get F.BERTH_CTL_crane b)).length then 4 else if 2 ≤ s.get F.BERTH_GAIN_nregm1 b ∧ s.getS F.BERTH_BND_b (3 * b + 1) ≤ s.getS F.BERTH_BND_b (3 * b + 0) ∨ 3 ≤ s.get F.BERTH_GAIN_nregm1 b ∧ s.getS F.BERTH_BND_b (3 * b + 2) ≤ s.getS F.BERTH_BND_b (3 * b + 1) then 5 else if 16384 ≤ s.get F.BERTH_GBASE_base b + s.get F.BERTH_GAIN_nregm1 b * s.get F.BERTH_GAIN_step b + 15 then 6 else if ∃ m ∈ s.armed, (m : ℕ) ≠ b ∧ (s.get F.BERTH_GBASE_base b ≤ 16 * m + 15 ∧ 16 * m ≤ s.get F.BERTH_GBASE_base b + s.get F.BERTH_GAIN_nregm1 b * s.get F.BERTH_GAIN_step b + 15 ∨ s.get F.BERTH_GBASE_base m ≤ 16 * b + 15 ∧ 16 * b ≤ s.get F.BERTH_GBASE_base m + s.get F.BERTH_GAIN_nregm1 m * s.get F.BERTH_GAIN_step m + 15) then 7 else if s.is F.BERTH_GRP_mem b = true ∧ (8 ≤ (List.filter (fun m ↦ s.is F.BERTH_GRP_mem m && s.get F.BERTH_GRP_grp m == s.get F.BERTH_GRP_grp b && m != b) s.armed).length ∨ (∃ m ∈ List.filter (fun m ↦ s.is F.BERTH_GRP_mem m && s.get F.BERTH_GRP_grp m == s.get F.BERTH_GRP_grp b && m != b) s.armed, ∃ f ∈ [F.BERTH_CTL_crane, F.BERTH_CTL_cset, F.BERTH_CTL_pri, F.BERTH_TRG_src, F.BERTH_TRG_num], s.get f m ≠ s.get f b) ∨ (s.is F.BERTH_GRP_close b = true ∧ ∃ m ∈ List.filter (fun m ↦ s.is F.BERTH_GRP_mem m && s.get F.BERTH_GRP_grp m == s.get F.BERTH_GRP_grp b && m != b) s.armed, s.is F.BERTH_GRP_close m = true ∨ b < m) ∨ ¬s.is F.BERTH_GRP_close b = true ∧ ∃ m ∈ List.filter (fun m ↦ s.is F.BERTH_GRP_mem m && s.get F.BERTH_GRP_grp m == s.get F.BERTH_GRP_grp b && m != b) s.armed, s.is F.BERTH_GRP_close m = true ∧ m < b) then 8 else 0) ≠ 0)) ∧
    (∃ (b : ℕ) (q : List ℕ) (s : State), s.admq = b :: q ∧
      s.rung < 3 ∧
      ((if s.is F.ENG_CTL_en 0 = false then (1 : ℕ) else if s.get F.BERTH_TRG_src b = 3 ∨ s.get F.BERTH_TRG_src b = 0 ∧ 511 < s.get F.BERTH_TRG_num b then 2 else if 16384 < s.get F.BERTH_PROG_base b + (s.get F.BERTH_PROG_lenm1 b + 1) then 3 else if 128 ≤ (armedOn s (s.get F.BERTH_CTL_crane b)).length then 4 else if 2 ≤ s.get F.BERTH_GAIN_nregm1 b ∧ s.getS F.BERTH_BND_b (3 * b + 1) ≤ s.getS F.BERTH_BND_b (3 * b + 0) ∨ 3 ≤ s.get F.BERTH_GAIN_nregm1 b ∧ s.getS F.BERTH_BND_b (3 * b + 2) ≤ s.getS F.BERTH_BND_b (3 * b + 1) then 5 else if 16384 ≤ s.get F.BERTH_GBASE_base b + s.get F.BERTH_GAIN_nregm1 b * s.get F.BERTH_GAIN_step b + 15 then 6 else if ∃ m ∈ s.armed, (m : ℕ) ≠ b ∧ (s.get F.BERTH_GBASE_base b ≤ 16 * m + 15 ∧ 16 * m ≤ s.get F.BERTH_GBASE_base b + s.get F.BERTH_GAIN_nregm1 b * s.get F.BERTH_GAIN_step b + 15 ∨ s.get F.BERTH_GBASE_base m ≤ 16 * b + 15 ∧ 16 * b ≤ s.get F.BERTH_GBASE_base m + s.get F.BERTH_GAIN_nregm1 m * s.get F.BERTH_GAIN_step m + 15) then 7 else if s.is F.BERTH_GRP_mem b = true ∧ (8 ≤ (List.filter (fun m ↦ s.is F.BERTH_GRP_mem m && s.get F.BERTH_GRP_grp m == s.get F.BERTH_GRP_grp b && m != b) s.armed).length ∨ (∃ m ∈ List.filter (fun m ↦ s.is F.BERTH_GRP_mem m && s.get F.BERTH_GRP_grp m == s.get F.BERTH_GRP_grp b && m != b) s.armed, ∃ f ∈ [F.BERTH_CTL_crane, F.BERTH_CTL_cset, F.BERTH_CTL_pri, F.BERTH_TRG_src, F.BERTH_TRG_num], s.get f m ≠ s.get f b) ∨ (s.is F.BERTH_GRP_close b = true ∧ ∃ m ∈ List.filter (fun m ↦ s.is F.BERTH_GRP_mem m && s.get F.BERTH_GRP_grp m == s.get F.BERTH_GRP_grp b && m != b) s.armed, s.is F.BERTH_GRP_close m = true ∨ b < m) ∨ ¬s.is F.BERTH_GRP_close b = true ∧ ∃ m ∈ List.filter (fun m ↦ s.is F.BERTH_GRP_mem m && s.get F.BERTH_GRP_grp m == s.get F.BERTH_GRP_grp b && m != b) s.armed, s.is F.BERTH_GRP_close m = true ∧ m < b) then 8 else 0) = 0) ∧
      (¬BudgetRule s (s.get F.BERTH_CTL_crane b) b)) ∧
    (∃ (b : ℕ) (q : List ℕ) (s : State), s.admq = b :: q ∧
      s.rung < 3 ∧
      ((if s.is F.ENG_CTL_en 0 = false then (1 : ℕ) else if s.get F.BERTH_TRG_src b = 3 ∨ s.get F.BERTH_TRG_src b = 0 ∧ 511 < s.get F.BERTH_TRG_num b then 2 else if 16384 < s.get F.BERTH_PROG_base b + (s.get F.BERTH_PROG_lenm1 b + 1) then 3 else if 128 ≤ (armedOn s (s.get F.BERTH_CTL_crane b)).length then 4 else if 2 ≤ s.get F.BERTH_GAIN_nregm1 b ∧ s.getS F.BERTH_BND_b (3 * b + 1) ≤ s.getS F.BERTH_BND_b (3 * b + 0) ∨ 3 ≤ s.get F.BERTH_GAIN_nregm1 b ∧ s.getS F.BERTH_BND_b (3 * b + 2) ≤ s.getS F.BERTH_BND_b (3 * b + 1) then 5 else if 16384 ≤ s.get F.BERTH_GBASE_base b + s.get F.BERTH_GAIN_nregm1 b * s.get F.BERTH_GAIN_step b + 15 then 6 else if ∃ m ∈ s.armed, (m : ℕ) ≠ b ∧ (s.get F.BERTH_GBASE_base b ≤ 16 * m + 15 ∧ 16 * m ≤ s.get F.BERTH_GBASE_base b + s.get F.BERTH_GAIN_nregm1 b * s.get F.BERTH_GAIN_step b + 15 ∨ s.get F.BERTH_GBASE_base m ≤ 16 * b + 15 ∧ 16 * b ≤ s.get F.BERTH_GBASE_base m + s.get F.BERTH_GAIN_nregm1 m * s.get F.BERTH_GAIN_step m + 15) then 7 else if s.is F.BERTH_GRP_mem b = true ∧ (8 ≤ (List.filter (fun m ↦ s.is F.BERTH_GRP_mem m && s.get F.BERTH_GRP_grp m == s.get F.BERTH_GRP_grp b && m != b) s.armed).length ∨ (∃ m ∈ List.filter (fun m ↦ s.is F.BERTH_GRP_mem m && s.get F.BERTH_GRP_grp m == s.get F.BERTH_GRP_grp b && m != b) s.armed, ∃ f ∈ [F.BERTH_CTL_crane, F.BERTH_CTL_cset, F.BERTH_CTL_pri, F.BERTH_TRG_src, F.BERTH_TRG_num], s.get f m ≠ s.get f b) ∨ (s.is F.BERTH_GRP_close b = true ∧ ∃ m ∈ List.filter (fun m ↦ s.is F.BERTH_GRP_mem m && s.get F.BERTH_GRP_grp m == s.get F.BERTH_GRP_grp b && m != b) s.armed, s.is F.BERTH_GRP_close m = true ∨ b < m) ∨ ¬s.is F.BERTH_GRP_close b = true ∧ ∃ m ∈ List.filter (fun m ↦ s.is F.BERTH_GRP_mem m && s.get F.BERTH_GRP_grp m == s.get F.BERTH_GRP_grp b && m != b) s.armed, s.is F.BERTH_GRP_close m = true ∧ m < b) then 8 else 0) = 0) ∧
      BudgetRule s (s.get F.BERTH_CTL_crane b) b) ∧
    (∃ (t : ℕ) (b : Fin 1024) (v : Word) (s : State), BitVec.getLsbD v 17 = false ∧
      HwIdle t RegName.BERTH_CTL (↑b : ℕ) s ∧
      s.is F.BERTH_CTL_arm (↑b : ℕ) = true ∧
      (↑b : ℕ) ∈ s.armed ∧
      (∀ (r : Run), (s.craneOf (s.get F.BERTH_CTL_crane (↑b : ℕ))).run = some r → r.berth ≠ (↑b : ℕ))) ∧
    (∃ (t : ℕ) (b : Fin 1024) (v : Word) (s : State) (r : Run), BitVec.getLsbD v 17 = false ∧
      HwIdle t RegName.BERTH_CTL (↑b : ℕ) s ∧
      s.is F.BERTH_CTL_arm (↑b : ℕ) = true ∧
      (↑b : ℕ) ∈ s.armed ∧
      (s.craneOf (s.get F.BERTH_CTL_crane (↑b : ℕ))).run = some r ∧
      r.berth = (↑b : ℕ)) :=
  ⟨⟨6400000000000, 0, (131072 : Word), ((State.reset.put F.BERTH_CTL_arm 0 0).put F.BERTH_STAT_admpend 0 0), by decide, (by unfold HwIdle; decide), by decide, by decide, by decide⟩,
    ⟨0, [], { State.reset with admq := 0 :: [] }, by decide, by decide, by decide⟩,
    ⟨0, [], { ({ State.reset.put F.ENG_CTL_en 0 1 |>.put F.BERTH_PROG_lenm1 0 6 |>.put F.BERTH_CTL_pri 0 0 |>.put F.BERTH_PROG_lenm1 1 15 |>.put F.BERTH_CTL_crane 1 0 with armed := [1] }) with admq := 0 :: [] }, by decide, by decide, by decide, (by rintro ⟨e, _, _, h⟩; have h0 : 23 ≤ 22 := h 0 (by decide) (by decide); exact absurd h0 (by decide))⟩,
    ⟨0, [], { ({ State.reset.put F.ENG_CTL_en 0 1 |>.put F.BERTH_PROG_lenm1 0 5 |>.put F.BERTH_CTL_pri 0 0 |>.put F.BERTH_PROG_lenm1 1 15 |>.put F.BERTH_CTL_crane 1 0 with armed := [1] }) with admq := 0 :: [] }, by decide, by decide, by decide, ⟨[], by decide, by intro e h p hp ho hz; have h1 : p = 0 ∨ p = 1 := (by simpa using (show p ∈ [0, 1] from ho)); rcases h1 with h1 | h1; subst h1; have h2 : 22 ≤ 0 := h 0 hp ho hz; exact absurd h2 (by decide); subst h1; exact absurd hz (by decide), by decide⟩⟩,
    ⟨6400000000000, 0, (0 : Word), (({ State.reset with armed := [0] }).put F.BERTH_CTL_arm 0 1), by decide, (by unfold HwIdle; decide), by decide, by decide, (by intro r h; exact nomatch (show (none : Option Run) = some r from h))⟩,
    ⟨6400000000000, 0, (0 : Word), (({ State.reset.setCrane 0 { run := some aRun } with armed := [0] }).put F.BERTH_CTL_arm 0 1), aRun, by decide, (by unfold HwIdle; decide), by decide, by decide, by decide, by decide⟩⟩

/-- The hypotheses of clauses of `Obligations.BerthRuns` are met. -/
theorem wit_BerthRuns_BerthTriggers :
    (∃ (t : ℕ) (b : Fin 1024) (s : State), (↑b : ℕ) ∈ s.armed ∧
      s.is F.ENG_CTL_en 0 = true ∧
      s.rung < 3 ∧
      s.is F.BERTH_CTL_arm (↑b : ℕ) = true ∧
      s.get F.BERTH_TRG_src (↑b : ℕ) = 0 ∧
      arrives s (s.get F.BERTH_TRG_num (↑b : ℕ)) { rank := 1, inst := (↑b : ℕ) } t = true) ∧
    (∃ (b : Fin 1024) (s : State), (↑b : ℕ) ∉ s.armed ∨ 3 ≤ s.rung) :=
  ⟨⟨6400000000000, 0, ((((coming { State.reset with armed := [0] } 0 { rank := 1, inst := 0 }).put F.ENG_CTL_en 0 1).put F.BERTH_CTL_arm 0 1).put F.BERTH_TRG_src 0 0), by decide, by decide, by decide, by decide, by decide, by decide⟩,
    ⟨0, State.reset, by decide⟩⟩

/-- The hypotheses of clauses of `Obligations.Comparators` are met. -/
theorem wit_Comparators_BlankingLifts :
    ∃ (t : ℕ) (n : Fin 128) (s : State) (b : ℕ) (e : ℕ), (s.wcOf (↑n : ℕ)).blk = some (b, e) ∧
      e ≤ max s.now t :=
  ⟨6400000000000, 0, (State.reset).setWc 0 { (State.reset).wcOf 0 with blk := some (0, 0) }, 0, 0, by decide, by decide⟩

/-- The hypotheses of clauses of `Obligations.BranchesAndJumps` are met. -/
theorem wit_BranchesAndJumps_Branches :
    (∃ (t : ℕ) (c : Fin 16) (x : Fields) (s : State) (e : CoreCmd × (CoreS → Fields → Bool) × (Fields → ℤ)), CoreReady t s (↑c : ℕ) ∧
      e ∈ branchTable ∧
      e.2.1 (atIssue t (↑c : ℕ) s) x = false) ∧
    (∃ (t : ℕ) (c : Fin 16) (x : Fields) (s : State) (e : CoreCmd × (CoreS → Fields → Bool) × (Fields → ℤ)), CoreReady t s (↑c : ℕ) ∧
      e ∈ branchTable ∧
      e.2.1 (atIssue t (↑c : ℕ) s) x = true ∧
      TargetOk (atIssue t (↑c : ℕ) s) ((↑(atIssue t (↑c : ℕ) s).pc.toNat : ℤ) + 4 * e.2.2 x)) ∧
    (∃ (t : ℕ) (c : Fin 16) (x : Fields) (s : State) (e : CoreCmd × (CoreS → Fields → Bool) × (Fields → ℤ)), CoreReady t s (↑c : ℕ) ∧
      e ∈ branchTable ∧
      e.2.1 (atIssue t (↑c : ℕ) s) x = true ∧
      (¬TargetOk (atIssue t (↑c : ℕ) s) ((↑(atIssue t (↑c : ℕ) s).pc.toNat : ℤ) + 4 * e.2.2 x))) ∧
    (∃ (t : ℕ) (c : Fin 16) (x : Fields) (s : State) (e : CoreCmd × (DWord → DWord → Bool)), CoreReady t s (↑c : ℕ) ∧
      x.f27 % 2 = 0 ∧
      x.f23 % 2 = 0 ∧
      e ∈ pairBranchTable ∧
      e.2 ((atIssue t (↑c : ℕ) s).rdP x.f27) ((atIssue t (↑c : ℕ) s).rdP x.f23) = false) ∧
    (∃ (t : ℕ) (c : Fin 16) (x : Fields) (s : State) (e : CoreCmd × (DWord → DWord → Bool)), CoreReady t s (↑c : ℕ) ∧
      x.f27 % 2 = 0 ∧
      x.f23 % 2 = 0 ∧
      e ∈ pairBranchTable ∧
      e.2 ((atIssue t (↑c : ℕ) s).rdP x.f27) ((atIssue t (↑c : ℕ) s).rdP x.f23) = true ∧
      TargetOk (atIssue t (↑c : ℕ) s) ((↑(atIssue t (↑c : ℕ) s).pc.toNat : ℤ) + 4 * x.offB)) ∧
    (∃ (t : ℕ) (c : Fin 16) (x : Fields) (s : State) (e : CoreCmd × (DWord → DWord → Bool)), CoreReady t s (↑c : ℕ) ∧
      x.f27 % 2 = 0 ∧
      x.f23 % 2 = 0 ∧
      e ∈ pairBranchTable ∧
      e.2 ((atIssue t (↑c : ℕ) s).rdP x.f27) ((atIssue t (↑c : ℕ) s).rdP x.f23) = true ∧
      (¬TargetOk (atIssue t (↑c : ℕ) s) ((↑(atIssue t (↑c : ℕ) s).pc.toNat : ℤ) + 4 * x.offB))) :=
  ⟨⟨6400000000000, 0, (3 : Fields), (running core0), branchTable[1], (by unfold CoreReady; decide), (List.getElem_mem (by decide)), by decide⟩,
    ⟨6400000000000, 0, (1048575 : Fields), (running core0), branchTable[0], (by unfold CoreReady; decide), (List.getElem_mem (by decide)), by decide, (by unfold TargetOk; decide)⟩,
    ⟨6400000000000, 0, (15 : Fields), (running { core0 with pcc := { aCap with len := 64 } }), branchTable[0], (by unfold CoreReady; decide), (List.getElem_mem (by decide)), by decide, (by unfold TargetOk; decide)⟩,
    ⟨6400000000000, 0, (3 : Fields), (running core0), pairBranchTable[1], (by unfold CoreReady; decide), by decide, by decide, (List.getElem_mem (by decide)), by decide⟩,
    ⟨6400000000000, 0, (14 : Fields), (running { core0 with pcc := { aCap with len := 64 } }), pairBranchTable[0], (by unfold CoreReady; decide), by decide, by decide, (List.getElem_mem (by decide)), by decide, (by unfold TargetOk; decide)⟩,
    ⟨6400000000000, 0, (15 : Fields), (running { core0 with pcc := { aCap with len := 64 } }), pairBranchTable[0], (by unfold CoreReady; decide), by decide, by decide, (List.getElem_mem (by decide)), by decide, (by unfold TargetOk; decide)⟩⟩

/-- The hypotheses of clauses of `Obligations.CapabilityInstructions` are met. -/
theorem wit_CapabilityInstructions_CapabilityResults :
    (∃ (t : ℕ) (c : Fin 16) (x : Fields) (s : State), CoreReady t s (↑c : ℕ) ∧
      x.kt = 0 ∧
      x.resK = 0 ∧
      x.rK % 2 = 0) ∧
    (∃ (t : ℕ) (c : Fin 16) (x : Fields) (s : State), CoreReady t s (↑c : ℕ) ∧
      x.kt = 0 ∧
      x.resK = 0 ∧
      ((atIssue t (↑c : ℕ) s).cap x.ks).tag = true ∧
      ((atIssue t (↑c : ℕ) s).cap x.ks).otype = 0 ∧
      x.rK % 4 = 0 ∧
      ((atIssue t (↑c : ℕ) s).cap x.ks).base.toNat ≤ BitVec.toNat ((atIssue t (↑c : ℕ) s).rdP x.rK) % 2 ^ 27 ∧
      BitVec.toNat ((atIssue t (↑c : ℕ) s).rdP x.rK) % 2 ^ 27 ≤ BitVec.toNat ((atIssue t (↑c : ℕ) s).rdP (x.rK + 2)) % 2 ^ 27 ∧
      BitVec.toNat ((atIssue t (↑c : ℕ) s).rdP (x.rK + 2)) % 2 ^ 27 ≤ ((atIssue t (↑c : ℕ) s).cap x.ks).base.toNat + ((atIssue t (↑c : ℕ) s).cap x.ks).len.toNat) ∧
    (∃ (t : ℕ) (c : Fin 16) (x : Fields) (s : State), CoreReady t s (↑c : ℕ) ∧
      x.kt = 0 ∧
      x.resK = 0 ∧
      ((atIssue t (↑c : ℕ) s).cap x.ks).tag = true ∧
      ((atIssue t (↑c : ℕ) s).cap x.ks).otype = 0 ∧
      ((atIssue t (↑c : ℕ) s).cap x.ks).has permSE = true ∧
      srCovers (atIssue t (↑c : ℕ) s).sr (BitVec.toNat ((atIssue t (↑c : ℕ) s).rd x.rK) % 64) = true ∧
      (BitVec.toNat ((atIssue t (↑c : ℕ) s).rd x.rK) % 64 = 63 → ((atIssue t (↑c : ℕ) s).cap x.ks).has permEX = true ∨ ((atIssue t (↑c : ℕ) s).cap x.ks).has permGT = true)) ∧
    (∃ (t : ℕ) (c : Fin 16) (x : Fields) (s : State), CoreReady t s (↑c : ℕ) ∧
      x.kt = 0 ∧
      x.resK = 0 ∧
      ((atIssue t (↑c : ℕ) s).cap x.ks).tag = true ∧
      1 ≤ ((atIssue t (↑c : ℕ) s).cap x.ks).otype.toNat ∧
      ((atIssue t (↑c : ℕ) s).cap x.ks).otype.toNat ≤ 62 ∧
      srCovers (atIssue t (↑c : ℕ) s).sr ((atIssue t (↑c : ℕ) s).cap x.ks).otype.toNat = true) :=
  ⟨⟨6400000000000, 0, (0 : Fields), (running core0), (by unfold CoreReady; decide), by decide, by decide, by decide⟩,
    ⟨6400000000000, 0, (0 : Fields), (running core0), (by unfold CoreReady; decide), by decide, by decide, by decide, by decide, by decide, by decide, by decide, by decide⟩,
    ⟨6400000000000, 0, (32768 : Fields), (running { core0 with sr := 63, w := [(1, 63)] }), (by unfold CoreReady; decide), by decide, by decide, by decide, by decide, by decide, by decide, by decide⟩,
    ⟨6400000000000, 0, (0 : Fields), (running { core0 with sr := 62, k := [(0, { aCap with otype := 62 })] }), (by unfold CoreReady; decide), by decide, by decide, by decide, by decide, by decide, by decide⟩⟩

/-- The hypotheses of clauses of `Obligations.CounterWritesAndCapture` are met. -/
theorem wit_CounterWritesAndCapture_Capture :
    (∃ (t : ℕ) (u : Fin 128) (k : Fin 2) (s : State), CuAlone s (↑u : ℕ) ∧
      s.rung < 3 ∧
      s.is F.CU_CAPSRC_en (2 * (↑u : ℕ) + (↑k : ℕ)) = true ∧
      arrives s (s.get F.CU_CAPSRC_ch (2 * (↑u : ℕ) + (↑k : ℕ))) { rank := 4, inst := 2 * (↑u : ℕ) + (↑k : ℕ) } t = true) ∧
    (∃ (u : Fin 128) (s : State), CuAlone s (↑u : ℕ) ∧
      3 ≤ s.rung) ∧
    (∃ (u : Fin 128) (k : Fin 2) (s : State) (v : Word), CuAlone s (↑u : ℕ) ∧
      s.rung < 3 ∧
      F.CU_CAPSRC_swcap.of (BitVec.toNat v) = 1 ∧
      (F.CU_CAPSRC_en.of (BitVec.toNat v) = 1 ∨ s.is F.CU_CAPSRC_en (2 * (↑u : ℕ) + (↑k : ℕ)) = false)) ∧
    (∃ (t : ℕ) (u : Fin 128) (k : Fin 2) (s : State) (e : Capture) (l : List Capture), CuAlone s (↑u : ℕ) ∧
      (s.cuOf (↑u : ℕ)).caps (↑k : ℕ) = e :: l ∧
      (∀ o ∈ (s.cuOf (↑u : ℕ)).lost, max s.now t < o.edge → o.queue ≠ (↑k : ℕ))) ∧
    (∃ (t : ℕ) (u : Fin 128) (k : Fin 2) (s : State) (e : Capture) (l : List Capture) (o : CapOver), CuAlone s (↑u : ℕ) ∧
      (s.cuOf (↑u : ℕ)).caps (↑k : ℕ) = e :: l ∧
      (s.cuOf (↑u : ℕ)).lost = [o] ∧
      max s.now t < o.edge ∧
      o.queue = (↑k : ℕ)) ∧
    (∃ (u : Fin 128) (k : Fin 2) (s : State), CuAlone s (↑u : ℕ) ∧
      (s.cuOf (↑u : ℕ)).caps (↑k : ℕ) = []) ∧
    (∃ (u : Fin 128) (s : State), CuAlone s (↑u : ℕ) ∧
      s.is F.CU_CTL_run (↑u : ℕ) = true) ∧
    (∃ (u : Fin 128) (s : State), CuAlone s (↑u : ℕ) ∧
      s.is F.CU_CTL_run (↑u : ℕ) = false) :=
  ⟨⟨6400000000000, 0, 0, (coming (State.reset.put F.CU_CAPSRC_en 0 1) 0 { rank := 4, inst := 0 }), (by unfold CuAlone; decide), by decide, by decide, by decide⟩,
    ⟨0, ({ State.reset with rung := 3 }), (by unfold CuAlone; decide), by decide⟩,
    ⟨0, 0, (State.reset.setCu 0 { cap0 := [⟨0, none⟩] }), (32768 : Word), (by unfold CuAlone; decide), by decide, by decide, by decide⟩,
    ⟨6400000000000, 0, 0, (State.reset.setCu 0 { ({} : CuS) with cap0 := [⟨0, none⟩] }), (⟨0, none⟩ : Capture), [], (by unfold CuAlone; decide), by decide, by decide⟩,
    ⟨6400000000000, 0, 0, (State.reset.setCu 0 { ({} : CuS) with cap0 := [⟨0, none⟩], lost := [⟨0, 6400000000064, ⟨0, none⟩, true, false, none⟩] }), (⟨0, none⟩ : Capture), [], ⟨0, 6400000000064, ⟨0, none⟩, true, false, none⟩, (by unfold CuAlone; decide), by decide, by decide, by decide, by decide⟩,
    ⟨0, 0, State.reset, (by unfold CuAlone; decide), by decide⟩,
    ⟨0, (State.reset.put F.CU_CTL_run 0 1), (by unfold CuAlone; decide), by decide⟩,
    ⟨0, (State.reset.put F.CU_CTL_run 0 0), (by unfold CuAlone; decide), by decide⟩⟩

/-- The hypotheses of clauses of `Obligations.WordInstructions` are met. -/
theorem wit_WordInstructions_CarryResults :
    ∃ (e : CoreCmd × (Word → Word → Bool → ℤ)) (t : ℕ) (c : Fin 16) (x : Fields) (s : State), e ∈ carryTable ∧
      CoreReady t s (↑c : ℕ) ∧
      TandemOk (s.coreOf (↑c : ℕ)) x :=
  ⟨carryTable[2], 6400000000000, 0, (88318207 : Fields), (running core0), (List.getElem_mem (by decide)), (by unfold CoreReady; decide), (by unfold TandemOk; decide)⟩

/-- The hypotheses of clauses of `Obligations.IntegratorPowerAndArming` are met. -/
theorem wit_IntegratorPowerAndArming_ChannelArming :
    (∃ (t : ℕ) (n : Fin 128) (v : Word) (s : State), HwIdle t RegName.ICH_CTL (↑n : ℕ) s ∧
      s.is F.ICH_CTL_arm (↑n : ℕ) = false ∧
      BitVec.getLsbD v 17 = true ∧
      (s.is F.ICH_CTL_en (↑n : ℕ) = false ∨ BitVec.getLsbD v 16 = true) ∧
      (s.is F.ICH_STAT_ready (↑n : ℕ) = false ∨ 4 < s.get F.ICH_TRGCU_cuev (↑n : ℕ) ∨ BitVec.getLsbD v 13 = true ∧ (s.get F.ICH_WLEN_len (↑n : ℕ) < 512 ∨ s.get F.ICH_DELAY_d (↑n : ℕ) < s.get F.ICH_WLEN_len (↑n : ℕ)))) ∧
    (∃ (t : ℕ) (n : Fin 128) (v : Word) (s : State), HwIdle t RegName.ICH_CTL (↑n : ℕ) s ∧
      s.is F.ICH_CTL_arm (↑n : ℕ) = false ∧
      BitVec.getLsbD v 17 = true ∧
      (s.is F.ICH_CTL_en (↑n : ℕ) = false ∨ BitVec.getLsbD v 16 = true) ∧
      (¬(s.is F.ICH_STAT_ready (↑n : ℕ) = false ∨ 4 < s.get F.ICH_TRGCU_cuev (↑n : ℕ) ∨ BitVec.getLsbD v 13 = true ∧ (s.get F.ICH_WLEN_len (↑n : ℕ) < 512 ∨ s.get F.ICH_DELAY_d (↑n : ℕ) < s.get F.ICH_WLEN_len (↑n : ℕ))))) ∧
    (∃ (t : ℕ) (n : Fin 128) (v : Word) (s : State), HwIdle t RegName.ICH_CTL (↑n : ℕ) s ∧
      s.is F.ICH_CTL_arm (↑n : ℕ) = true ∧
      BitVec.getLsbD v 17 = false ∧
      (s.is F.ICH_CTL_en (↑n : ℕ) = false ∨ BitVec.getLsbD v 16 = true)) :=
  ⟨⟨6400000000000, 0, (131072 : Word), (State.reset.put F.ICH_CTL_arm 0 0), (by unfold HwIdle; decide), by decide, by decide, by decide, by decide⟩,
    ⟨6400000000000, 0, (0o600000 : Word), ((State.reset.put F.ICH_STAT_ready 0 1).put F.ICH_CTL_arm 0 0), (by unfold HwIdle; decide), by decide, by decide, by decide, by decide⟩,
    ⟨6400000000000, 0, (0 : Word), (State.reset.put F.ICH_CTL_arm 0 1), (by unfold HwIdle; decide), by decide, by decide, by decide⟩⟩

/-- The hypotheses of clauses of `Obligations.IntegratorPowerAndArming` are met. -/
theorem wit_IntegratorPowerAndArming_ChannelPower :
    (∃ (t : ℕ) (n : Fin 128) (v : Word) (s : State), s.is F.ICH_CTL_en (↑n : ℕ) = false ∧
      s.is F.ICH_CTL_arm (↑n : ℕ) = false ∧
      HwIdle t RegName.ICH_CTL (↑n : ℕ) s ∧
      BitVec.getLsbD v 16 = true ∧
      BitVec.getLsbD v 17 = false) ∧
    (∃ (t : ℕ) (n : Fin 128) (s : State) (d : ℕ), s.rung < 3 ∧
      s.is F.ICH_CTL_en (↑n : ℕ) = true ∧
      (s.ichOf (↑n : ℕ)).readyDue = some d ∧
      d ≤ max s.now t) ∧
    (∃ (t : ℕ) (n : Fin 128) (v : Word) (s : State), s.is F.ICH_CTL_en (↑n : ℕ) = true ∧
      HwIdle t RegName.ICH_CTL (↑n : ℕ) s ∧
      BitVec.getLsbD v 16 = false) ∧
    (∃ (t : ℕ) (s : State) (d : ℕ), s.is F.ICH_CALCTL_refen 0 = true ∧
      s.calDue = some d ∧
      d ≤ max s.now t) :=
  ⟨⟨6400000000000, 0, (65536 : Word), ((State.reset.put F.ICH_CTL_en 0 0).put F.ICH_CTL_arm 0 0), by decide, by decide, (by unfold HwIdle; decide), by decide, by decide⟩,
    ⟨6400000000000, 0, ((State.reset.put F.ICH_CTL_en 0 1)).setIch 0 { ((State.reset.put F.ICH_CTL_en 0 1)).ichOf 0 with readyDue := some 0 }, 0, by decide, by decide, by decide, by decide⟩,
    ⟨6400000000000, 0, (0 : Word), (State.reset.put F.ICH_CTL_en 0 1), by decide, (by unfold HwIdle; decide), by decide⟩,
    ⟨6400000000000, { (State.reset.put F.ICH_CALCTL_refen 0 1) with calDue := some 0 }, 0, by decide, by decide, by decide⟩⟩

/-- The hypotheses of clauses of `Obligations.ClocksAndPowerFailure` are met. -/
theorem wit_ClocksAndPowerFailure_ClockSources :
    (∃ (s : State), s.is F.CLK_STAT_rc 0 = false) ∧
    (∃ (s : State), s.is F.CLK_STAT_rc 0 = true) ∧
    (∃ (s : State), s.rung < 4 ∧
      s.pwr.refLost = none) ∧
    (∃ (t : ℕ) (s : State) (x : ℕ), s.pwr.refLost = some x ∧
      x ≤ max s.now t ∧
      max s.now t < x + 1280000) ∧
    (∃ (t : ℕ) (s : State) (x : ℕ), s.pwr.refLost = some x ∧
      x + 1280000 ≤ max s.now t ∧
      s.devRst = none) ∧
    (∃ (t : ℕ) (s : State) (n : ℕ), s.pwr.alarm = true ∧
      s.get F.PWR_ALARM_s 0 * 64000000000 ≠ 0 ∧
      (s.tb.stopped = true → coarseFits (State.tick t s) n false = true) ∧
      (tbPast (if s.tb.stopped = true then tbCoarse s n / 2 ^ 32 % tbWrap else s.tbAt (max s.now t)) (s.get F.PWR_ALARM_s 0 * 64000000000) = true) ∧
      s.rung < 3) ∧
    (∃ (t : ℕ) (s : State) (n : ℕ), s.pwr.alarm = true ∧
      s.get F.PWR_ALARM_s 0 * 64000000000 ≠ 0 ∧
      (s.tb.stopped = true → coarseFits (State.tick t s) n false = true) ∧
      (tbPast (if s.tb.stopped = true then tbCoarse s n / 2 ^ 32 % tbWrap else s.tbAt (max s.now t)) (s.get F.PWR_ALARM_s 0 * 64000000000) = true) ∧
      3 ≤ s.rung ∧
      s.wake = none) :=
  ⟨⟨(State.reset.put F.CLK_STAT_rc 0 0), by decide⟩,
    ⟨(State.reset.put F.CLK_STAT_rc 0 1), by decide⟩,
    ⟨{ State.reset with pwr := { (State.reset).pwr with refLost := none } }, by decide, by decide⟩,
    ⟨6400000000000, { State.reset with pwr := { (State.reset).pwr with refLost := some 6400000000000 } }, 6400000000000, by decide, by decide, by decide⟩,
    ⟨6400000000000, { { State.reset with devRst := none } with pwr := { ({ State.reset with devRst := none }).pwr with refLost := some 0 } }, 0, by decide, by decide, by decide⟩,
    ⟨6400000000000, ({ (State.reset.put F.PWR_ALARM_s 0 1) with pwr := { alarm := true } }), 0, by decide, by decide, by decide, by decide, by decide⟩,
    ⟨6400000000000, { ({ (State.reset.put F.PWR_ALARM_s 0 1) with pwr := { alarm := true }, rung := 3 }) with wake := none }, 0, by decide, by decide, by decide, by decide, by decide, by decide⟩⟩

/-- The hypotheses of clauses of `Obligations.Comparators` are met. -/
theorem wit_Comparators_ComparatorControl :
    (∃ (n : Fin 128) (v : Word) (s : State), s.is F.WC_CTL_en (↑n : ℕ) = false ∧
      F.WC_CTL_en.of (BitVec.toNat v) = 1 ∧
      F.WC_CTL_chk.of (BitVec.toNat v) ≤ 4 ∧
      s.is F.WC_GUARD_frz (↑n : ℕ) = false) ∧
    (∃ (n : Fin 128) (v : Word) (s : State), s.is F.WC_CTL_en (↑n : ℕ) = true ∧
      F.WC_CTL_en.of (BitVec.toNat v) = 0 ∧
      F.WC_CTL_chk.of (BitVec.toNat v) ≤ 4 ∧
      s.is F.WC_GUARD_frz (↑n : ℕ) = false) ∧
    (∃ (n : Fin 128) (v : Word) (s : State), s.is F.WC_GUARD_frz (↑n : ℕ) = true ∧
      (s.is F.WC_CTL_en (↑n : ℕ) = true ∧ F.WC_CTL_en.of (BitVec.toNat v) = 0)) ∧
    (∃ (n : Fin 128) (v : Word) (s : State), s.is F.WC_GUARD_frz (↑n : ℕ) = true ∧
      (s.is F.WC_CTL_en (↑n : ℕ) = false ∧ F.WC_CTL_en.of (BitVec.toNat v) = 1)) ∧
    (∃ (n : Fin 128) (v : Word) (s : State) (high : Bool), BitVec.toNat v % 4096 ≠ s.get (if high = true then F.WC_THH_code else F.WC_THL_code) (↑n : ℕ)) ∧
    (∃ (n : Fin 128) (v : Word) (s : State), s.locked RegName.WC_GUARD (↑n : ℕ) = false ∧
      F.WC_GUARD_frz.of (BitVec.toNat v) = 1) ∧
    (∃ (n : Fin 128) (v : Word) (s : State), F.WC_CTL_chk.of (BitVec.toNat v) ≠ s.get F.WC_CTL_chk (↑n : ℕ) ∧
      F.WC_CTL_chk.of (BitVec.toNat v) ≤ 4 ∧
      (s.is F.WC_GUARD_frz (↑n : ℕ) = false ∨ F.WC_CTL_en.of (BitVec.toNat v) = s.get F.WC_CTL_en (↑n : ℕ))) ∧
    (∃ (t : ℕ) (n : Fin 128) (s : State), s.is F.WC_STAT_chkbusy (↑n : ℕ) = true ∧
      s.get F.WC_CTL_chk (↑n : ℕ) = 0 ∧
      (s.wcOf (↑n : ℕ)).chkAt + 1280 ≤ max s.now t) :=
  ⟨⟨0, (131072 : Word), ((State.reset.put F.WC_CTL_en 0 0).put F.WC_GUARD_frz 0 0), by decide, by decide, by decide, by decide⟩,
    ⟨0, (0 : Word), ((State.reset.put F.WC_CTL_en 0 1).put F.WC_GUARD_frz 0 0), by decide, by decide, by decide, by decide⟩,
    ⟨0, (0 : Word), ((State.reset.put F.WC_GUARD_frz 0 1).put F.WC_CTL_en 0 1), by decide, by decide⟩,
    ⟨0, (131072 : Word), ((State.reset.put F.WC_GUARD_frz 0 1).put F.WC_CTL_en 0 0), by decide, by decide⟩,
    ⟨0, (0 : Word), State.reset, false, by decide⟩,
    ⟨0, (131072 : Word), State.reset, by decide, by decide⟩,
    ⟨0, (65536 : Word), State.reset, by decide, by decide, by decide⟩,
    ⟨6400000000000, 0, ((State.reset.put F.WC_STAT_chkbusy 0 1).put F.WC_CTL_chk 0 0), by decide, by decide, by decide⟩⟩

/-- The hypotheses of clauses of `Obligations.Comparators` are met. -/
theorem wit_Comparators_ComparatorOutputs :
    (∃ (t : ℕ) (n : Fin 128) (s : State), s.get F.WC_CTL_chk (↑n : ℕ) = 0 ∧
      s.is F.WC_STAT_ready (↑n : ℕ) = true ∧
      (s.wcOf (↑n : ℕ)).hiMove.due ≤ max s.now t ∧
      (s.wcOf (↑n : ℕ)).loMove.due ≤ max s.now t) ∧
    (∃ (t : ℕ) (n : Fin 128) (s : State) (d : ℕ), s.get F.WC_CTL_chk (↑n : ℕ) = 0 ∧
      s.is F.WC_CTL_en (↑n : ℕ) = true ∧
      (s.wcOf (↑n : ℕ)).readyDue = some d ∧
      d ≤ max s.now t ∧
      (s.wcOf (↑n : ℕ)).hiMove.due ≤ max s.now t ∧
      (s.wcOf (↑n : ℕ)).loMove.due ≤ max s.now t) :=
  ⟨⟨6400000000000, 0, ((State.reset.put F.WC_CTL_chk 0 0).put F.WC_STAT_ready 0 1), by decide, by decide, by decide, by decide⟩,
    ⟨6400000000000, 0, (((State.reset.put F.WC_CTL_chk 0 0).put F.WC_CTL_en 0 1)).setWc 0 { (((State.reset.put F.WC_CTL_chk 0 0).put F.WC_CTL_en 0 1)).wcOf 0 with readyDue := some 0 }, 0, by decide, by decide, by decide, by decide, by decide, by decide⟩⟩

/-- The hypotheses of clauses of `Obligations.CounterPeriodsAndEdges` are met. -/
theorem wit_CounterPeriodsAndEdges_CounterEdges_1 :
    (∃ (t : ℕ) (u : Fin 128) (s : State) (c : ℤ), (s.cuOf (↑u : ℕ)).held = [] ∧
      (s.cuOf (↑u : ℕ)).ref0.place = some c ∧
      c ≤ (↑(max s.now t) : ℤ) ∧
      c ≤ (s.cuOf (↑u : ℕ)).inst 0 ∧
      (s.cuOf (↑u : ℕ)).inst 0 < (s.cuOf (↑u : ℕ)).inst 1 ∧
      (s.cuOf (↑u : ℕ)).gov.indep = false ∧
      (s.cuOf (↑u : ℕ)).gov.mode = 0 ∧
      (s.cuOf (↑u : ℕ)).ref0.edges = [] ∧
      (s.cuOf (↑u : ℕ)).gov.spp = 0 ∧
      (s.cuOf (↑u : ℕ)).inst 1 - (s.cuOf (↑u : ℕ)).inst 0 - (↑(s.cuOf (↑u : ℕ)).gov.dtr : ℤ) < (↑(s.cuOf (↑u : ℕ)).gov.minp : ℤ)) ∧
    (∃ (t : ℕ) (u : Fin 128) (s : State) (c : ℤ), (s.cuOf (↑u : ℕ)).held = [] ∧
      (s.cuOf (↑u : ℕ)).ref0.place = some c ∧
      c ≤ (↑(max s.now t) : ℤ) ∧
      c ≤ (s.cuOf (↑u : ℕ)).inst 0 ∧
      (s.cuOf (↑u : ℕ)).inst 0 < (s.cuOf (↑u : ℕ)).inst 1 ∧
      (s.cuOf (↑u : ℕ)).gov.indep = false ∧
      (s.cuOf (↑u : ℕ)).gov.mode = 0 ∧
      (s.cuOf (↑u : ℕ)).ref0.edges = [] ∧
      (s.cuOf (↑u : ℕ)).gov.spp = 1 ∧
      (s.cuOf (↑u : ℕ)).inst 1 - (s.cuOf (↑u : ℕ)).inst 0 - (↑(s.cuOf (↑u : ℕ)).gov.dtr : ℤ) < (↑(s.cuOf (↑u : ℕ)).gov.minp : ℤ)) ∧
    (∃ (t : ℕ) (u : Fin 128) (s : State) (c : ℤ), (s.cuOf (↑u : ℕ)).held = [] ∧
      (s.cuOf (↑u : ℕ)).ref0.place = some c ∧
      c ≤ (↑(max s.now t) : ℤ) ∧
      c ≤ (s.cuOf (↑u : ℕ)).inst 0 ∧
      (s.cuOf (↑u : ℕ)).inst 0 < (s.cuOf (↑u : ℕ)).inst 1 ∧
      (s.cuOf (↑u : ℕ)).gov.indep = false ∧
      (s.cuOf (↑u : ℕ)).gov.mode = 0 ∧
      (s.cuOf (↑u : ℕ)).ref0.edges = [] ∧
      (s.cuOf (↑u : ℕ)).gov.spp = 0 ∧
      (↑(s.cuOf (↑u : ℕ)).gov.minp : ℤ) ≤ (s.cuOf (↑u : ℕ)).inst 1 - (s.cuOf (↑u : ℕ)).inst 0 - (↑(s.cuOf (↑u : ℕ)).gov.dtr : ℤ) ∧
      (s.cuOf (↑u : ℕ)).pstart + 64 * (↑(s.cuOf (↑u : ℕ)).gov.p : ℤ) + (↑((s.cuOf (↑u : ℕ)).gov.e 0) : ℤ) - (s.cuOf (↑u : ℕ)).inst 1 - (↑(s.cuOf (↑u : ℕ)).gov.dtf : ℤ) < (↑(s.cuOf (↑u : ℕ)).gov.minp : ℤ)) ∧
    (∃ (t : ℕ) (u : Fin 128) (s : State) (c : ℤ), (s.cuOf (↑u : ℕ)).held = [] ∧
      (s.cuOf (↑u : ℕ)).ref0.place = some c ∧
      c ≤ (↑(max s.now t) : ℤ) ∧
      c ≤ (s.cuOf (↑u : ℕ)).inst 0 ∧
      (s.cuOf (↑u : ℕ)).inst 0 < (s.cuOf (↑u : ℕ)).inst 1 ∧
      (s.cuOf (↑u : ℕ)).gov.indep = false ∧
      (s.cuOf (↑u : ℕ)).gov.mode = 0 ∧
      (s.cuOf (↑u : ℕ)).ref0.edges = [] ∧
      (s.cuOf (↑u : ℕ)).gov.spp = 1 ∧
      (↑(s.cuOf (↑u : ℕ)).gov.minp : ℤ) ≤ (s.cuOf (↑u : ℕ)).inst 1 - (s.cuOf (↑u : ℕ)).inst 0 - (↑(s.cuOf (↑u : ℕ)).gov.dtr : ℤ) ∧
      (s.cuOf (↑u : ℕ)).pstart + 64 * (↑(s.cuOf (↑u : ℕ)).gov.p : ℤ) + (↑((s.cuOf (↑u : ℕ)).gov.e 0) : ℤ) - (s.cuOf (↑u : ℕ)).inst 1 - (↑(s.cuOf (↑u : ℕ)).gov.dtf : ℤ) < (↑(s.cuOf (↑u : ℕ)).gov.minp : ℤ)) ∧
    (∃ (t : ℕ) (u : Fin 128) (s : State) (c : ℤ), (s.cuOf (↑u : ℕ)).held = [] ∧
      (s.cuOf (↑u : ℕ)).ref0.place = some c ∧
      c ≤ (↑(max s.now t) : ℤ) ∧
      c ≤ (s.cuOf (↑u : ℕ)).inst 0 ∧
      (s.cuOf (↑u : ℕ)).inst 0 < (s.cuOf (↑u : ℕ)).inst 1 ∧
      (s.cuOf (↑u : ℕ)).gov.indep = false ∧
      (s.cuOf (↑u : ℕ)).gov.mode = 0 ∧
      (s.cuOf (↑u : ℕ)).ref0.edges = [] ∧
      (s.cuOf (↑u : ℕ)).gov.spp < 2 ∧
      (↑(s.cuOf (↑u : ℕ)).gov.minp : ℤ) ≤ (s.cuOf (↑u : ℕ)).inst 1 - (s.cuOf (↑u : ℕ)).inst 0 - (↑(s.cuOf (↑u : ℕ)).gov.dtr : ℤ) ∧
      (↑(s.cuOf (↑u : ℕ)).gov.minp : ℤ) ≤ (s.cuOf (↑u : ℕ)).pstart + 64 * (↑(s.cuOf (↑u : ℕ)).gov.p : ℤ) + (↑((s.cuOf (↑u : ℕ)).gov.e 0) : ℤ) - (s.cuOf (↑u : ℕ)).inst 1 - (↑(s.cuOf (↑u : ℕ)).gov.dtf : ℤ)) ∧
    (∃ (t : ℕ) (u : Fin 128) (s : State) (e : ℤ) (f : Bool) (c : ℤ), (s.cuOf (↑u : ℕ)).held = [] ∧
      (s.cuOf (↑u : ℕ)).gov.indep = false ∧
      CuAlone s (↑u : ℕ) ∧
      (s.cuOf (↑u : ℕ)).ref1.edges = [] ∧
      (s.cuOf (↑u : ℕ)).ref0.edges = [{ at_ := e, set := true, fixed := f }] ∧
      e ≤ (↑(max s.now t) : ℤ) ∧
      (s.cuOf (↑u : ℕ)).riseA = none ∧
      (s.cuOf (↑u : ℕ)).riseB = none ∧
      (s.cuOf (↑u : ℕ)).ref0.r = false ∧
      (s.cuOf (↑u : ℕ)).ref0.clrAt = some c ∧
      e < c + (↑(s.cuOf (↑u : ℕ)).gov.dtf : ℤ) + (↑(s.cuOf (↑u : ℕ)).gov.minp : ℤ)) ∧
    (∃ (t : ℕ) (u : Fin 128) (s : State) (e : ℤ) (f : Bool), (s.cuOf (↑u : ℕ)).held = [] ∧
      (s.cuOf (↑u : ℕ)).gov.indep = false ∧
      CuAlone s (↑u : ℕ) ∧
      (s.cuOf (↑u : ℕ)).ref1.edges = [] ∧
      (s.cuOf (↑u : ℕ)).ref0.edges = [{ at_ := e, set := true, fixed := f }] ∧
      e ≤ (↑(max s.now t) : ℤ) ∧
      (s.cuOf (↑u : ℕ)).riseA = none ∧
      (s.cuOf (↑u : ℕ)).riseB = none ∧
      (s.cuOf (↑u : ℕ)).ref0.r = false ∧
      0 < (s.cuOf (↑u : ℕ)).gov.dtr ∧
      (∀ (c : ℤ), (s.cuOf (↑u : ℕ)).ref0.clrAt = some c → c + (↑(s.cuOf (↑u : ℕ)).gov.dtf : ℤ) + (↑(s.cuOf (↑u : ℕ)).gov.minp : ℤ) ≤ e)) ∧
    (∃ (t : ℕ) (u : Fin 128) (s : State) (e : ℤ) (f : Bool), (s.cuOf (↑u : ℕ)).held = [] ∧
      (s.cuOf (↑u : ℕ)).gov.indep = false ∧
      CuAlone s (↑u : ℕ) ∧
      (s.cuOf (↑u : ℕ)).ref1.edges = [] ∧
      (s.cuOf (↑u : ℕ)).ref0.edges = [{ at_ := e, set := false, fixed := f }] ∧
      e ≤ (↑(max s.now t) : ℤ) ∧
      (s.cuOf (↑u : ℕ)).riseA = none ∧
      (s.cuOf (↑u : ℕ)).riseB = none ∧
      (s.cuOf (↑u : ℕ)).ref0.r = true ∧
      0 < (s.cuOf (↑u : ℕ)).gov.dtf ∧
      (∀ (c : ℤ), (s.cuOf (↑u : ℕ)).ref0.setAt = some c → c + (↑(s.cuOf (↑u : ℕ)).gov.dtr : ℤ) + (↑(s.cuOf (↑u : ℕ)).gov.minp : ℤ) ≤ e)) ∧
    (∃ (t : ℕ) (u : Fin 128) (s : State) (e : ℤ), (s.cuOf (↑u : ℕ)).held = [] ∧
      (s.cuOf (↑u : ℕ)).gov.indep = false ∧
      CuAlone s (↑u : ℕ) ∧
      (s.cuOf (↑u : ℕ)).ref1.edges = [] ∧
      (s.cuOf (↑u : ℕ)).riseB = some e ∧
      e ≤ (↑(max s.now t) : ℤ) ∧
      (s.cuOf (↑u : ℕ)).ref0.edges = [] ∧
      (s.cuOf (↑u : ℕ)).riseA = none ∧
      (s.cuOf (↑u : ℕ)).ref0.r = false) :=
  ⟨⟨6400000000000, 0, ((State.reset.setCu 0 { ref0 := { place := some 0 }, gov := { p := 1000, cmp := [100, 101, 0, 0], dtr := 10, minp := 100 } })).setCu 0 { ((State.reset.setCu 0 { ref0 := { place := some 0 }, gov := { p := 1000, cmp := [100, 101, 0, 0], dtr := 10, minp := 100 } })).cuOf 0 with held := [] }, 0, by decide, by decide, by decide, by decide, by decide, by decide, by decide, by decide, by decide, by decide⟩,
    ⟨6400000000000, 0, ((State.reset.setCu 0 { ref0 := { place := some 0 }, gov := { p := 1000, cmp := [100, 101, 0, 0], dtr := 10, minp := 100, spp := 1 } })).setCu 0 { ((State.reset.setCu 0 { ref0 := { place := some 0 }, gov := { p := 1000, cmp := [100, 101, 0, 0], dtr := 10, minp := 100, spp := 1 } })).cuOf 0 with held := [] }, 0, by decide, by decide, by decide, by decide, by decide, by decide, by decide, by decide, by decide, by decide⟩,
    ⟨6400000000000, 0, ((State.reset.setCu 0 { ref0 := { place := some 0 }, gov := { p := 1000, cmp := [0, 63990, 0, 0], dtr := 10, minp := 100 } })).setCu 0 { ((State.reset.setCu 0 { ref0 := { place := some 0 }, gov := { p := 1000, cmp := [0, 63990, 0, 0], dtr := 10, minp := 100 } })).cuOf 0 with held := [] }, 0, by decide, by decide, by decide, by decide, by decide, by decide, by decide, by decide, by decide, by decide, by decide⟩,
    ⟨6400000000000, 0, ((State.reset.setCu 0 { ref0 := { place := some 0 }, gov := { p := 1000, cmp := [0, 63990, 0, 0], dtr := 10, minp := 100, spp := 1 } })).setCu 0 { ((State.reset.setCu 0 { ref0 := { place := some 0 }, gov := { p := 1000, cmp := [0, 63990, 0, 0], dtr := 10, minp := 100, spp := 1 } })).cuOf 0 with held := [] }, 0, by decide, by decide, by decide, by decide, by decide, by decide, by decide, by decide, by decide, by decide, by decide⟩,
    ⟨6400000000000, 0, ((State.reset.setCu 0 { ref0 := { place := some 0 }, gov := { p := 1000, cmp := [0, 32000, 0, 0], dtr := 10, minp := 100, spp := 1 } })).setCu 0 { ((State.reset.setCu 0 { ref0 := { place := some 0 }, gov := { p := 1000, cmp := [0, 32000, 0, 0], dtr := 10, minp := 100, spp := 1 } })).cuOf 0 with held := [] }, 0, by decide, by decide, by decide, by decide, by decide, by decide, by decide, by decide, by decide, by decide, by decide⟩,
    ⟨6400000000000, 0, (State.reset.setCu 0 { ({} : CuS) with gov := { ({} : Gov) with dtf := 64, minp := 64 }, ref0 := { ({} : RefS) with r := false, edges := [⟨0, true, false⟩], clrAt := some (-127) } }), 0, false, -127, by decide, by decide, (by unfold CuAlone; decide), by decide, by decide, by decide, by decide, by decide, by decide, by decide, by decide⟩,
    ⟨6400000000000, 0, (State.reset.setCu 0 { ({} : CuS) with gov := { ({} : Gov) with dtr := 64, dtf := 64, minp := 64 }, ref0 := { ({} : RefS) with r := false, edges := [⟨0, true, false⟩], clrAt := some (-128) } }), 0, false, by decide, by decide, (by unfold CuAlone; decide), by decide, by decide, by decide, by decide, by decide, by decide, by decide, (fun c h => Option.some.inj (show some (-128 : ℤ) = some c from h) ▸ (by decide))⟩,
    ⟨6400000000000, 0, (State.reset.setCu 0 { ({} : CuS) with gov := { ({} : Gov) with dtr := 64, dtf := 64, minp := 64 }, ref0 := { ({} : RefS) with r := true, edges := [⟨0, false, false⟩], setAt := some (-128) } }), 0, false, by decide, by decide, (by unfold CuAlone; decide), by decide, by decide, by decide, by decide, by decide, by decide, by decide, (fun c h => Option.some.inj (show some (-128 : ℤ) = some c from h) ▸ (by decide))⟩,
    ⟨6400000000000, 0, (State.reset).setCu 0 { (State.reset).cuOf 0 with held := [], riseB := some 0, riseA := none }, 0, by decide, by decide, (by unfold CuAlone; decide), by decide, by decide, by decide, by decide, by decide, by decide⟩⟩

/-- The hypotheses of clauses of `Obligations.CounterPeriodsAndEdges` are met. -/
theorem wit_CounterPeriodsAndEdges_CounterEdges_2 :
    ∃ (t : ℕ) (u : Fin 128) (s : State) (e : ℤ), (s.cuOf (↑u : ℕ)).held = [] ∧
      (s.cuOf (↑u : ℕ)).gov.indep = false ∧
      CuAlone s (↑u : ℕ) ∧
      (s.cuOf (↑u : ℕ)).ref1.edges = [] ∧
      (s.cuOf (↑u : ℕ)).riseA = some e ∧
      e ≤ (↑(max s.now t) : ℤ) ∧
      (s.cuOf (↑u : ℕ)).ref0.edges = [] ∧
      (s.cuOf (↑u : ℕ)).riseB = none ∧
      (s.cuOf (↑u : ℕ)).ref0.r = true :=
  ⟨6400000000000, 0, (State.reset.setCu 0 { ({} : CuS) with gov := { ({} : Gov) with dtr := 64 }, riseA := some 0, ref0 := { ({} : RefS) with r := true } }), 0, by decide, by decide, (by unfold CuAlone; decide), by decide, by decide, by decide, by decide, by decide, by decide⟩

/-- The hypotheses of clauses of `Obligations.CounterPeriodsAndEdges` are met. -/
theorem wit_CounterPeriodsAndEdges_CounterPeriods :
    (∃ (t : ℕ) (u : Fin 128) (s : State), CuAlone s (↑u : ℕ) ∧
      s.is F.CU_SYNC_clk (↑u : ℕ) = false ∧
      (s.cuOf (↑u : ℕ)).gov.clk = false ∧
      (s.cuOf (↑u : ℕ)).counting = true ∧
      (s.cuOf (↑u : ℕ)).held = [] ∧
      ((s.cuOf (↑u : ℕ)).gov.mode = 0 ∨ (s.cuOf (↑u : ℕ)).gov.mode = 1) ∧
      (((s.cuOf (↑u : ℕ)).pstart + if (s.cuOf (↑u : ℕ)).gov.mode = 1 then 128 * (↑(s.cuOf (↑u : ℕ)).gov.p : ℤ) else 64 * (↑(s.cuOf (↑u : ℕ)).gov.p : ℤ)) ≤ (↑(max s.now t) : ℤ)) ∧
      (∀ x ∈ (s.cuOf (↑u : ℕ)).shadow, x.reg < 8)) ∧
    (∃ (t : ℕ) (u : Fin 128) (s : State), CuAlone s (↑u : ℕ) ∧
      s.is F.CU_SYNC_clk (↑u : ℕ) = false ∧
      (s.cuOf (↑u : ℕ)).gov.clk = false ∧
      (s.cuOf (↑u : ℕ)).counting = true ∧
      (s.cuOf (↑u : ℕ)).held = [] ∧
      (s.cuOf (↑u : ℕ)).gov.mode = 2 ∧
      (((s.cuOf (↑u : ℕ)).pstart + if (s.cuOf (↑u : ℕ)).gov.mode = 1 then 128 * (↑(s.cuOf (↑u : ℕ)).gov.p : ℤ) else 64 * (↑(s.cuOf (↑u : ℕ)).gov.p : ℤ)) ≤ (↑(max s.now t) : ℤ))) ∧
    (∃ (t : ℕ) (u : Fin 128) (s : State), CuAlone s (↑u : ℕ) ∧
      s.is F.CU_SYNC_clk (↑u : ℕ) = false ∧
      (s.cuOf (↑u : ℕ)).gov.clk = false ∧
      (s.cuOf (↑u : ℕ)).counting = true ∧
      (s.cuOf (↑u : ℕ)).held = [] ∧
      (s.cuOf (↑u : ℕ)).gov.mode = 3 ∧
      (s.cuOf (↑u : ℕ)).wrapDue ≤ (↑(max s.now t) : ℤ)) ∧
    (∃ (t : ℕ) (u : Fin 128) (s : State) (c : Fin 4) (up : Bool) (m : Match), CuAlone s (↑u : ℕ) ∧
      s.is F.CU_SYNC_clk (↑u : ℕ) = false ∧
      (s.cuOf (↑u : ℕ)).gov.clk = false ∧
      (s.cuOf (↑u : ℕ)).counting = true ∧
      (s.cuOf (↑u : ℕ)).held = [] ∧
      (s.cuOf (↑u : ℕ)).plan = [m] ∧
      m.cmp = (↑c : ℕ) ∧
      m.up = up ∧
      m.at_ ≤ (↑(max s.now t) : ℤ)) :=
  ⟨⟨6400000000000, 0, (((State.reset.setCu 0 { gov := { p := 1000, mode := 1 }, shadow := [⟨0, 5, 0⟩, ⟨7, 5, 0⟩] }).put F.CU_SYNC_clk 0 0)).setCu 0 { (((State.reset.setCu 0 { gov := { p := 1000, mode := 1 }, shadow := [⟨0, 5, 0⟩, ⟨7, 5, 0⟩] }).put F.CU_SYNC_clk 0 0)).cuOf 0 with counting := true, held := [] }, (by unfold CuAlone; decide), by decide, by decide, by decide, by decide, by decide, by decide, by decide⟩,
    ⟨6400000000000, 0, (((State.reset.setCu 0 { gov := { p := 1000, mode := 2 } }).put F.CU_SYNC_clk 0 0)).setCu 0 { (((State.reset.setCu 0 { gov := { p := 1000, mode := 2 } }).put F.CU_SYNC_clk 0 0)).cuOf 0 with counting := true, held := [] }, (by unfold CuAlone; decide), by decide, by decide, by decide, by decide, by decide, by decide⟩,
    ⟨6400000000000, 0, (((State.reset.setCu 0 { gov := { mode := 3 } }).put F.CU_SYNC_clk 0 0)).setCu 0 { (((State.reset.setCu 0 { gov := { mode := 3 } }).put F.CU_SYNC_clk 0 0)).cuOf 0 with counting := true, held := [] }, (by unfold CuAlone; decide), by decide, by decide, by decide, by decide, by decide, by decide⟩,
    ⟨6400000000000, 0, ((State.reset.put F.CU_SYNC_clk 0 0)).setCu 0 { ((State.reset.put F.CU_SYNC_clk 0 0)).cuOf 0 with counting := true, held := [], plan := [⟨0, true, 0⟩] }, 0, true, ⟨0, true, 0⟩, (by unfold CuAlone; decide), by decide, by decide, by decide, by decide, by decide, by decide, by decide, by decide⟩⟩

/-- The hypotheses of clauses of `Obligations.CounterWritesAndCapture` are met. -/
theorem wit_CounterWritesAndCapture_CounterWrites_1 :
    (∃ (t : ℕ) (u : Fin 128) (s : State) (r : Fin 8), s.get F.CU_CTL_mode (↑u : ℕ) ≠ 3 ∧
      (s.cuOf (↑u : ℕ)).held = [] ∧
      (max s.now t % 64 ≠ 0 ∨ ¬((s.cuOf (↑u : ℕ)).counting = true → (s.cuOf (↑u : ℕ)).gov.clk = false → (s.cuOf (↑u : ℕ)).gov.mode < 3 → (↑((max s.now t + 63) / 64 * 64) : ℤ) < (s.cuOf (↑u : ℕ)).pstart + (↑(if (s.cuOf (↑u : ℕ)).gov.mode = 1 then 128 * (s.cuOf (↑u : ℕ)).gov.p else 64 * (s.cuOf (↑u : ℕ)).gov.p) : ℤ))) ∧
      cuRule s (↑u : ℕ) (↑r : ℕ) = 0) ∧
    (∃ (t : ℕ) (u : Fin 128) (s : State) (j : Fin 4), s.get F.CU_CTL_mode (↑u : ℕ) ≠ 3 ∧
      (s.cuOf (↑u : ℕ)).held = [] ∧
      (max s.now t % 64 ≠ 0 ∨ ¬((s.cuOf (↑u : ℕ)).counting = true → (s.cuOf (↑u : ℕ)).gov.clk = false → (s.cuOf (↑u : ℕ)).gov.mode < 3 → (↑((max s.now t + 63) / 64 * 64) : ℤ) < (s.cuOf (↑u : ℕ)).pstart + (↑(if (s.cuOf (↑u : ℕ)).gov.mode = 1 then 128 * (s.cuOf (↑u : ℕ)).gov.p else 64 * (s.cuOf (↑u : ℕ)).gov.p) : ℤ))) ∧
      cuRule s (↑u : ℕ) ((↑j : ℕ) + 1) = 1) ∧
    (∃ (t : ℕ) (u : Fin 128) (s : State) (r : Fin 8) (v : DWord), s.get F.CU_CTL_mode (↑u : ℕ) ≠ 3 ∧
      (s.cuOf (↑u : ℕ)).held = [] ∧
      max s.now t % 64 = 0 ∧
      ((s.cuOf (↑u : ℕ)).counting = true → (s.cuOf (↑u : ℕ)).gov.clk = false → (s.cuOf (↑u : ℕ)).gov.mode < 3 → (↑((max s.now t + 63) / 64 * 64) : ℤ) < (s.cuOf (↑u : ℕ)).pstart + (↑(if (s.cuOf (↑u : ℕ)).gov.mode = 1 then 128 * (s.cuOf (↑u : ℕ)).gov.p else 64 * (s.cuOf (↑u : ℕ)).gov.p) : ℤ)) ∧
      CuQuiet (s.cuOf (↑u : ℕ)) (↑((max s.now t + 63) / 64 * 64) : ℤ) ∧
      CuAlone s (↑u : ℕ) ∧
      (∀ q ∈ (s.cuOf (↑u : ℕ)).acted, q.held ≠ (↑((max s.now t + 63) / 64 * 64) : ℤ)) ∧
      cuRule s (↑u : ℕ) (↑r : ℕ) = 0 ∧
      ((↑r : ℕ) = 0 ∧ BitVec.toNat v % 2 ^ (cuFld (↑r : ℕ)).w < 16 ∨ s.is F.CU_CTL_bmode (↑u : ℕ) = false ∧ ((↑r : ℕ) = 0 ∨ 5 ≤ (↑r : ℕ)) ∧ have sh := fun q ↦ if q = (↑r : ℕ) then BitVec.toNat v % 2 ^ (cuFld (↑r : ℕ)).w else cuShadow s (↑u : ℕ) q; 64 * sh 0 < sh 5 + sh 6 + 2 * sh 7)) ∧
    (∃ (t : ℕ) (u : Fin 128) (s : State) (r : Fin 8) (v : DWord), s.get F.CU_CTL_mode (↑u : ℕ) ≠ 3 ∧
      (s.cuOf (↑u : ℕ)).held = [] ∧
      max s.now t % 64 = 0 ∧
      ((s.cuOf (↑u : ℕ)).counting = true → (s.cuOf (↑u : ℕ)).gov.clk = false → (s.cuOf (↑u : ℕ)).gov.mode < 3 → (↑((max s.now t + 63) / 64 * 64) : ℤ) < (s.cuOf (↑u : ℕ)).pstart + (↑(if (s.cuOf (↑u : ℕ)).gov.mode = 1 then 128 * (s.cuOf (↑u : ℕ)).gov.p else 64 * (s.cuOf (↑u : ℕ)).gov.p) : ℤ)) ∧
      CuQuiet (s.cuOf (↑u : ℕ)) (↑((max s.now t + 63) / 64 * 64) : ℤ) ∧
      CuAlone s (↑u : ℕ) ∧
      (∀ q ∈ (s.cuOf (↑u : ℕ)).acted, q.held ≠ (↑((max s.now t + 63) / 64 * 64) : ℤ)) ∧
      cuRule s (↑u : ℕ) (↑r : ℕ) = 0 ∧
      (¬((↑r : ℕ) = 0 ∧ BitVec.toNat v % 2 ^ (cuFld (↑r : ℕ)).w < 16 ∨ s.is F.CU_CTL_bmode (↑u : ℕ) = false ∧ ((↑r : ℕ) = 0 ∨ 5 ≤ (↑r : ℕ)) ∧ have sh := fun q ↦ if q = (↑r : ℕ) then BitVec.toNat v % 2 ^ (cuFld (↑r : ℕ)).w else cuShadow s (↑u : ℕ) q; 64 * sh 0 < sh 5 + sh 6 + 2 * sh 7))) ∧
    (∃ (t : ℕ) (u : Fin 128) (s : State) (j : Fin 4), s.get F.CU_CTL_mode (↑u : ℕ) ≠ 3 ∧
      (s.cuOf (↑u : ℕ)).held = [] ∧
      max s.now t % 64 = 0 ∧
      ((s.cuOf (↑u : ℕ)).counting = true → (s.cuOf (↑u : ℕ)).gov.clk = false → (s.cuOf (↑u : ℕ)).gov.mode < 3 → (↑((max s.now t + 63) / 64 * 64) : ℤ) < (s.cuOf (↑u : ℕ)).pstart + (↑(if (s.cuOf (↑u : ℕ)).gov.mode = 1 then 128 * (s.cuOf (↑u : ℕ)).gov.p else 64 * (s.cuOf (↑u : ℕ)).gov.p) : ℤ)) ∧
      CuQuiet (s.cuOf (↑u : ℕ)) (↑((max s.now t + 63) / 64 * 64) : ℤ) ∧
      CuAlone s (↑u : ℕ) ∧
      (∀ q ∈ (s.cuOf (↑u : ℕ)).acted, q.held ≠ (↑((max s.now t + 63) / 64 * 64) : ℤ)) ∧
      cuRule s (↑u : ℕ) ((↑j : ℕ) + 1) = 1 ∧
      (s.cuOf (↑u : ℕ)).counting = false) ∧
    (∃ (t : ℕ) (u : Fin 128) (s : State) (j : Fin 4), s.get F.CU_CTL_mode (↑u : ℕ) ≠ 3 ∧
      (s.cuOf (↑u : ℕ)).held = [] ∧
      max s.now t % 64 = 0 ∧
      ((s.cuOf (↑u : ℕ)).counting = true → (s.cuOf (↑u : ℕ)).gov.clk = false → (s.cuOf (↑u : ℕ)).gov.mode < 3 → (↑((max s.now t + 63) / 64 * 64) : ℤ) < (s.cuOf (↑u : ℕ)).pstart + (↑(if (s.cuOf (↑u : ℕ)).gov.mode = 1 then 128 * (s.cuOf (↑u : ℕ)).gov.p else 64 * (s.cuOf (↑u : ℕ)).gov.p) : ℤ)) ∧
      CuQuiet (s.cuOf (↑u : ℕ)) (↑((max s.now t + 63) / 64 * 64) : ℤ) ∧
      CuAlone s (↑u : ℕ) ∧
      (∀ q ∈ (s.cuOf (↑u : ℕ)).acted, q.held ≠ (↑((max s.now t + 63) / 64 * 64) : ℤ)) ∧
      cuRule s (↑u : ℕ) ((↑j : ℕ) + 1) = 1 ∧
      (s.cuOf (↑u : ℕ)).counting = true ∧
      (s.cuOf (↑u : ℕ)).gov.clk = false ∧
      (↑((max s.now t + 63) / 64 * 64) : ℤ) ≤ (s.cuOf (↑u : ℕ)).oldInst (↑j : ℕ) / 64 * 64 - 128) ∧
    (∃ (t : ℕ) (u : Fin 128) (s : State) (j : Fin 4), s.get F.CU_CTL_mode (↑u : ℕ) ≠ 3 ∧
      (s.cuOf (↑u : ℕ)).held = [] ∧
      max s.now t % 64 = 0 ∧
      ((s.cuOf (↑u : ℕ)).counting = true → (s.cuOf (↑u : ℕ)).gov.clk = false → (s.cuOf (↑u : ℕ)).gov.mode < 3 → (↑((max s.now t + 63) / 64 * 64) : ℤ) < (s.cuOf (↑u : ℕ)).pstart + (↑(if (s.cuOf (↑u : ℕ)).gov.mode = 1 then 128 * (s.cuOf (↑u : ℕ)).gov.p else 64 * (s.cuOf (↑u : ℕ)).gov.p) : ℤ)) ∧
      CuQuiet (s.cuOf (↑u : ℕ)) (↑((max s.now t + 63) / 64 * 64) : ℤ) ∧
      CuAlone s (↑u : ℕ) ∧
      (∀ q ∈ (s.cuOf (↑u : ℕ)).acted, q.held ≠ (↑((max s.now t + 63) / 64 * 64) : ℤ)) ∧
      cuRule s (↑u : ℕ) ((↑j : ℕ) + 1) = 1 ∧
      (s.cuOf (↑u : ℕ)).counting = true ∧
      (s.cuOf (↑u : ℕ)).gov.clk = false ∧
      (¬(↑((max s.now t + 63) / 64 * 64) : ℤ) ≤ (s.cuOf (↑u : ℕ)).oldInst (↑j : ℕ) / 64 * 64 - 128)) ∧
    (∃ (t : ℕ) (u : Fin 128) (s : State) (w : HeldWrite), s.get F.CU_CTL_mode (↑u : ℕ) ≠ 3 ∧
      CuQuiet (s.cuOf (↑u : ℕ)) ((↑(max s.now t) : ℤ) + 1) ∧
      CuAlone s (↑u : ℕ) ∧
      (s.cuOf (↑u : ℕ)).held = [w] ∧
      (∀ q ∈ (s.cuOf (↑u : ℕ)).acted, q.held ≠ w.held) ∧
      w.held ≤ (↑(max s.now t) : ℤ) ∧
      ((s.cuOf (↑u : ℕ)).counting = true → (s.cuOf (↑u : ℕ)).gov.clk = false → (s.cuOf (↑u : ℕ)).gov.mode < 3 → w.held < (s.cuOf (↑u : ℕ)).pstart + (↑(if (s.cuOf (↑u : ℕ)).gov.mode = 1 then 128 * (s.cuOf (↑u : ℕ)).gov.p else 64 * (s.cuOf (↑u : ℕ)).gov.p) : ℤ)) ∧
      w.reg < 8 ∧
      cuRule s (↑u : ℕ) w.reg = 0 ∧
      (¬(w.reg = 0 ∧ w.v < 16 ∨ s.is F.CU_CTL_bmode (↑u : ℕ) = false ∧ (w.reg = 0 ∨ 5 ≤ w.reg) ∧ have sh := fun q ↦ if q = w.reg then w.v else cuShadow s (↑u : ℕ) q; 64 * sh 0 < sh 5 + sh 6 + 2 * sh 7))) ∧
    (∃ (t : ℕ) (u : Fin 128) (s : State) (r : ℕ) (v : ℕ) (x : ℕ) (e : ℤ) (p : ℕ) (b : ℕ) (q : ℕ) (c : ℕ), s.get F.CU_CTL_mode (↑u : ℕ) ≠ 3 ∧
      CuQuiet (s.cuOf (↑u : ℕ)) ((↑(max s.now t) : ℤ) + 1) ∧
      CuAlone s (↑u : ℕ) ∧
      (s.cuOf (↑u : ℕ)).held = [{ reg := r, v := v, held := e, by_ := Writer.duty p b }, { reg := r, v := x, held := e, by_ := Writer.duty q c }] ∧
      (q < p ∨ q = p ∧ c < b) ∧
      (∀ a ∈ (s.cuOf (↑u : ℕ)).acted, a.held ≠ e) ∧
      e ≤ (↑(max s.now t) : ℤ) ∧
      ((s.cuOf (↑u : ℕ)).counting = true → (s.cuOf (↑u : ℕ)).gov.clk = false → (s.cuOf (↑u : ℕ)).gov.mode < 3 → e < (s.cuOf (↑u : ℕ)).pstart + (↑(if (s.cuOf (↑u : ℕ)).gov.mode = 1 then 128 * (s.cuOf (↑u : ℕ)).gov.p else 64 * (s.cuOf (↑u : ℕ)).gov.p) : ℤ)) ∧
      r < 8 ∧
      cuRule s (↑u : ℕ) r = 0 ∧
      (¬(r = 0 ∧ x < 16 ∨ s.is F.CU_CTL_bmode (↑u : ℕ) = false ∧ (r = 0 ∨ 5 ≤ r) ∧ have sh := fun q ↦ if q = r then x else cuShadow s (↑u : ℕ) q; 64 * sh 0 < sh 5 + sh 6 + 2 * sh 7))) :=
  ⟨⟨1, 0, (State.reset).setCu 0 { (State.reset).cuOf 0 with held := [] }, 0, by decide, by decide, by decide, by decide⟩,
    ⟨1, 0, ((State.reset.put F.CU_LDM_c0 0 1)).setCu 0 { ((State.reset.put F.CU_LDM_c0 0 1)).cuOf 0 with held := [] }, 0, by decide, by decide, by decide, by decide⟩,
    ⟨64, 0, State.reset, 0, (15 : DWord), by decide, by decide, by decide, by decide, (by unfold CuQuiet; decide), (by unfold CuAlone; decide), by decide, by decide, by decide⟩,
    ⟨64, 0, State.reset, 0, (16 : DWord), by decide, by decide, by decide, by decide, (by unfold CuQuiet; decide), (by unfold CuAlone; decide), by decide, by decide, by decide⟩,
    ⟨64, 0, (State.reset.put F.CU_LDM_c0 0 1), 0, by decide, by decide, by decide, by decide, (by unfold CuQuiet; decide), (by unfold CuAlone; decide), by decide, by decide, by decide⟩,
    ⟨64, 0, ((State.reset.put F.CU_LDM_c0 0 1).setCu 0 { ({} : CuS) with counting := true, gov := { ({} : Gov) with p := 100, cmp := [192, 0, 0, 0] } }), 0, by decide, by decide, by decide, by decide, (by unfold CuQuiet; decide), (by unfold CuAlone; decide), by decide, by decide, by decide, by decide, by decide⟩,
    ⟨64, 0, ((State.reset.put F.CU_LDM_c0 0 1).setCu 0 { ({} : CuS) with counting := true, gov := { ({} : Gov) with p := 100, cmp := [191, 0, 0, 0] } }), 0, by decide, by decide, by decide, by decide, (by unfold CuQuiet; decide), (by unfold CuAlone; decide), by decide, by decide, by decide, by decide, by decide⟩,
    ⟨64, 0, (State.reset.setCu 0 { ({} : CuS) with held := [⟨0, 16, 64, .core⟩] }), (⟨0, 16, 64, .core⟩ : HeldWrite), by decide, (by unfold CuQuiet; decide), (by unfold CuAlone; decide), by decide, by decide, by decide, by decide, by decide, by decide, by decide⟩,
    ⟨64, 0, (State.reset.setCu 0 { ({} : CuS) with held := [⟨0, 17, 64, .duty 1 0⟩, ⟨0, 16, 64, .duty 0 0⟩] }), 0, 17, 16, 64, 1, 0, 0, 0, by decide, (by unfold CuQuiet; decide), (by unfold CuAlone; decide), by decide, by decide, by decide, by decide, by decide, by decide, by decide, by decide⟩⟩

/-- The hypotheses of clauses of `Obligations.CounterWritesAndCapture` are met. -/
theorem wit_CounterWritesAndCapture_CounterWrites_2 :
    ∃ (t : ℕ) (u : Fin 128) (s : State) (w : HeldWrite) (a : HeldWrite), s.get F.CU_CTL_mode (↑u : ℕ) ≠ 3 ∧
      CuQuiet (s.cuOf (↑u : ℕ)) ((↑(max s.now t) : ℤ) + 1) ∧
      CuAlone s (↑u : ℕ) ∧
      (s.cuOf (↑u : ℕ)).held = [w] ∧
      (s.cuOf (↑u : ℕ)).acted = [a] ∧
      a.reg = w.reg ∧
      a.held = w.held ∧
      w.held ≤ (↑(max s.now t) : ℤ) ∧
      ((s.cuOf (↑u : ℕ)).counting = true → (s.cuOf (↑u : ℕ)).gov.clk = false → (s.cuOf (↑u : ℕ)).gov.mode < 3 → w.held < (s.cuOf (↑u : ℕ)).pstart + (↑(if (s.cuOf (↑u : ℕ)).gov.mode = 1 then 128 * (s.cuOf (↑u : ℕ)).gov.p else 64 * (s.cuOf (↑u : ℕ)).gov.p) : ℤ)) ∧
      a.by_ ≠ Writer.core ∧
      w.by_ = Writer.core :=
  ⟨64, 0, (State.reset.setCu 0 { ({} : CuS) with held := [⟨0, 16, 64, .core⟩], acted := [⟨0, 17, 64, .duty 1 0⟩] }), (⟨0, 16, 64, .core⟩ : HeldWrite), (⟨0, 17, 64, .duty 1 0⟩ : HeldWrite), by decide, (by unfold CuQuiet; decide), (by unfold CuAlone; decide), by decide, by decide, by decide, by decide, by decide, by decide, by decide, by decide⟩

/-- The hypotheses of clauses of `Obligations.KeysTamperAndDebug` are met. -/
theorem wit_KeysTamperAndDebug_DebugPort_1 :
    (∃ (s : State), s.rung < 5 ∧
      (s.is F.BOOT_STAT_dbg 0 = true ∧ (s.get F.DBG_SCOPE_scope 0).testBit (14 - 13) = true)) ∧
    (∃ (s : State), s.rung < 5 ∧
      (¬(s.is F.BOOT_STAT_dbg 0 = true ∧ (s.get F.DBG_SCOPE_scope 0).testBit (14 - 13) = true))) ∧
    (∃ (s : State), s.rung < 5 ∧
      (s.is F.DBG_CTL_deny 0 = false ∧ s.get F.DBG_SCOPE_nref 0 ≠ 3) ∧
      s.dbg.tok = none) ∧
    (∃ (s : State) (code : BitVec 8), s.rung < 5 ∧
      code.toNat ∉ [0, 1, 2, 4, 5, 32, 33, 34]) ∧
    (∃ (s : State), s.rung < 5 ∧
      (¬s.is F.BOOT_STAT_dbg 0 = true)) ∧
    (∃ (s : State) (x : BitVec 74), s.rung < 5 ∧
      s.is F.BOOT_STAT_dbg 0 = true ∧
      x.getLsbD 73 = false ∧
      (¬(s.is F.BOOT_STAT_dbg 0 = true ∧ (s.get F.DBG_SCOPE_scope 0).testBit (16 - 13) = true))) ∧
    (∃ (s : State) (x : BitVec 74), s.rung < 5 ∧
      s.is F.BOOT_STAT_dbg 0 = true ∧
      x.getLsbD 73 = true ∧
      (¬(s.is F.BOOT_STAT_dbg 0 = true ∧ (s.get F.DBG_SCOPE_scope 0).testBit (15 - 13) = true))) ∧
    (∃ (s : State) (x : BitVec 74) (i : ℕ), s.rung < 5 ∧
      s.is F.BOOT_STAT_dbg 0 = true ∧
      x.getLsbD 73 = true ∧
      x.getLsbD 72 = false ∧
      (¬(s.is F.BOOT_STAT_dbg 0 = true ∧ (s.get F.DBG_SCOPE_scope 0).testBit (17 - 13) = true)) ∧
      regAt (BitVec.extractLsb' 45 27 x).toNat = some (RegName.CORE_RST, i, 0)) ∧
    (∃ (s : State) (x : BitVec 74) (j : Fin 16384), s.rung < 5 ∧
      (BitVec.extractLsb' 45 27 x).toNat = 13369344 + 2 * (↑j : ℕ) ∧
      x.getLsbD 72 = false ∧
      x.getLsbD 73 = false ∧
      (s.is F.BOOT_STAT_dbg 0 = true ∧ (s.get F.DBG_SCOPE_scope 0).testBit (16 - 13) = true)) :=
  ⟨⟨(((State.reset.put F.BOOT_STAT_dbg 0 1).put F.DBG_SCOPE_scope 0 2).put F.BOOT_STAT_dbg 0 1), by decide, by decide⟩,
    ⟨State.reset, by decide, by decide⟩,
    ⟨{ (State.reset.put F.DBG_CTL_deny 0 0) with dbg := { ((State.reset.put F.DBG_CTL_deny 0 0)).dbg with tok := none } }, by decide, by decide, by decide⟩,
    ⟨State.reset, 255, by decide, by decide⟩,
    ⟨State.reset, by decide, by decide⟩,
    ⟨(State.reset.put F.BOOT_STAT_dbg 0 1), (0 : BitVec 74), by decide, by decide, by decide, by decide⟩,
    ⟨(((State.reset.put F.BOOT_STAT_dbg 0 1).put F.DBG_SCOPE_scope 0 0).put F.BOOT_STAT_dbg 0 1), (10044252148134850854912 : BitVec 74), by decide, by decide, by decide, by decide⟩,
    ⟨(((State.reset.put F.BOOT_STAT_dbg 0 1).put F.DBG_SCOPE_scope 0 4).put F.BOOT_STAT_dbg 0 1), (10092530806509006749696 : BitVec 74), 15, by decide, by decide, by decide, by decide, by decide, by decide⟩,
    ⟨(((State.reset.put F.BOOT_STAT_dbg 0 1).put F.DBG_SCOPE_scope 0 8).put F.BOOT_STAT_dbg 0 1), (471544825015456235520 : BitVec 74), 16383, by decide, by decide, by decide, by decide, by decide⟩⟩

/-- The hypotheses of clauses of `Obligations.KeysTamperAndDebug` are met. -/
theorem wit_KeysTamperAndDebug_DebugPort_2 :
    (∃ (s : State) (x : BitVec 74) (k : Fin 2097152), s.rung < 5 ∧
      (BitVec.extractLsb' 45 27 x).toNat = 8388608 + 2 * (↑k : ℕ) ∧
      x.getLsbD 72 = false ∧
      x.getLsbD 73 = false ∧
      (s.is F.BOOT_STAT_dbg 0 = true ∧ (s.get F.DBG_SCOPE_scope 0).testBit (16 - 13) = true) ∧
      (s.sramOf (↑k : ℕ)).ecc = Ecc.good) ∧
    (∃ (s : State) (x : BitVec 74) (k : Fin 2097152), s.rung < 5 ∧
      (BitVec.extractLsb' 45 27 x).toNat = 8388608 + 2 * (↑k : ℕ) ∧
      x.getLsbD 72 = false ∧
      x.getLsbD 73 = false ∧
      (s.is F.BOOT_STAT_dbg 0 = true ∧ (s.get F.DBG_SCOPE_scope 0).testBit (16 - 13) = true) ∧
      (s.sramOf (↑k : ℕ)).ecc = Ecc.single) ∧
    (∃ (s : State) (x : BitVec 74) (k : Fin 2097152), s.rung < 5 ∧
      (BitVec.extractLsb' 45 27 x).toNat = 8388608 + 2 * (↑k : ℕ) ∧
      x.getLsbD 72 = false ∧
      x.getLsbD 73 = false ∧
      (s.is F.BOOT_STAT_dbg 0 = true ∧ (s.get F.DBG_SCOPE_scope 0).testBit (16 - 13) = true) ∧
      (s.sramOf (↑k : ℕ)).ecc = Ecc.bad) ∧
    (∃ (s : State) (v : Word), s.rung < 5 ∧
      F.DBG_CTL_deny.of (BitVec.toNat v) = 1) ∧
    (∃ (s : State) (x : BitVec 1242), s.rung < 5 ∧
      s.dbg.tok = some x ∧
      s.dbg.scan = Scan.normal ∧
      (s.is F.DBG_CTL_deny 0 = false ∧ s.get F.DBG_SCOPE_nref 0 ≠ 3)) :=
  ⟨⟨(((((State.reset.put F.BOOT_STAT_dbg 0 1).put F.DBG_SCOPE_scope 0 8).setSram 2097151 { w := 5, tag := false, ecc := .good }).put F.BOOT_STAT_dbg 0 1)).setSram 2097151 { (((((State.reset.put F.BOOT_STAT_dbg 0 1).put F.DBG_SCOPE_scope 0 8).setSram 2097151 { w := 5, tag := false, ecc := .good }).put F.BOOT_STAT_dbg 0 1)).sramOf 2097151 with ecc := Ecc.good }, (442721787400285061120 : BitVec 74), 2097151, by decide, by decide, by decide, by decide, by decide, by decide⟩,
    ⟨(((((State.reset.put F.BOOT_STAT_dbg 0 1).put F.DBG_SCOPE_scope 0 8).setSram 2097151 { w := 5, tag := false, ecc := .single }).put F.BOOT_STAT_dbg 0 1)).setSram 2097151 { (((((State.reset.put F.BOOT_STAT_dbg 0 1).put F.DBG_SCOPE_scope 0 8).setSram 2097151 { w := 5, tag := false, ecc := .single }).put F.BOOT_STAT_dbg 0 1)).sramOf 2097151 with ecc := Ecc.single }, (442721787400285061120 : BitVec 74), 2097151, by decide, by decide, by decide, by decide, by decide, by decide⟩,
    ⟨(((((State.reset.put F.BOOT_STAT_dbg 0 1).put F.DBG_SCOPE_scope 0 8).setSram 2097151 { w := 5, tag := false, ecc := .bad }).put F.BOOT_STAT_dbg 0 1)).setSram 2097151 { (((((State.reset.put F.BOOT_STAT_dbg 0 1).put F.DBG_SCOPE_scope 0 8).setSram 2097151 { w := 5, tag := false, ecc := .bad }).put F.BOOT_STAT_dbg 0 1)).sramOf 2097151 with ecc := Ecc.bad }, (442721787400285061120 : BitVec 74), 2097151, by decide, by decide, by decide, by decide, by decide, by decide⟩,
    ⟨State.reset, (131072 : Word), by decide, by decide⟩,
    ⟨{ (State.reset.put F.DBG_CTL_deny 0 0) with dbg := { ((State.reset.put F.DBG_CTL_deny 0 0)).dbg with tok := some (0 : BitVec 1242), scan := Scan.normal } }, (0 : BitVec 1242), by decide, by decide, by decide, by decide⟩⟩

/-- The hypotheses of clauses of `Obligations.CapabilityInstructions` are met. -/
theorem wit_CapabilityInstructions_DerivationTraps :
    (∃ (t : ℕ) (c : Fin 16) (x : Fields) (s : State) (m : CoreCmd), CoreReady t s (↑c : ℕ) ∧
      x.kt = 0 ∧
      x.resK = 0 ∧
      x.rK % 4 = 0 ∧
      ((atIssue t (↑c : ℕ) s).cap x.ks).tag = false ∧
      m ∈ [Instr.knar, Instr.kprm, Instr.kseal, Instr.kopen]) ∧
    (∃ (t : ℕ) (c : Fin 16) (x : Fields) (s : State) (m : CoreCmd), CoreReady t s (↑c : ℕ) ∧
      x.kt = 0 ∧
      x.resK = 0 ∧
      x.rK % 4 = 0 ∧
      ((atIssue t (↑c : ℕ) s).cap x.ks).tag = true ∧
      ((atIssue t (↑c : ℕ) s).cap x.ks).otype ≠ 0 ∧
      m ∈ [Instr.knar, Instr.kprm, Instr.kseal]) ∧
    (∃ (t : ℕ) (c : Fin 16) (x : Fields) (s : State), CoreReady t s (↑c : ℕ) ∧
      x.kt = 0 ∧
      x.resK = 0 ∧
      x.rK % 4 = 0 ∧
      ((atIssue t (↑c : ℕ) s).cap x.ks).tag = true ∧
      ((atIssue t (↑c : ℕ) s).cap x.ks).otype = 0 ∧
      (¬(((atIssue t (↑c : ℕ) s).cap x.ks).base.toNat ≤ BitVec.toNat ((atIssue t (↑c : ℕ) s).rdP x.rK) % 2 ^ 27 ∧ BitVec.toNat ((atIssue t (↑c : ℕ) s).rdP x.rK) % 2 ^ 27 ≤ BitVec.toNat ((atIssue t (↑c : ℕ) s).rdP (x.rK + 2)) % 2 ^ 27 ∧ BitVec.toNat ((atIssue t (↑c : ℕ) s).rdP (x.rK + 2)) % 2 ^ 27 ≤ ((atIssue t (↑c : ℕ) s).cap x.ks).base.toNat + ((atIssue t (↑c : ℕ) s).cap x.ks).len.toNat))) ∧
    (∃ (t : ℕ) (c : Fin 16) (x : Fields) (s : State), CoreReady t s (↑c : ℕ) ∧
      x.kt = 0 ∧
      x.resK = 0 ∧
      x.rK % 4 = 0 ∧
      ((atIssue t (↑c : ℕ) s).cap x.ks).tag = true ∧
      ((atIssue t (↑c : ℕ) s).cap x.ks).otype = 0 ∧
      ((atIssue t (↑c : ℕ) s).cap x.ks).has permSE = false) ∧
    (∃ (t : ℕ) (c : Fin 16) (x : Fields) (s : State), CoreReady t s (↑c : ℕ) ∧
      x.kt = 0 ∧
      x.resK = 0 ∧
      x.rK % 4 = 0 ∧
      ((atIssue t (↑c : ℕ) s).cap x.ks).tag = true ∧
      ((atIssue t (↑c : ℕ) s).cap x.ks).otype = 0 ∧
      ((atIssue t (↑c : ℕ) s).cap x.ks).has permSE = true ∧
      (srCovers (atIssue t (↑c : ℕ) s).sr (BitVec.toNat ((atIssue t (↑c : ℕ) s).rd x.rK) % 64) = false ∨ BitVec.toNat ((atIssue t (↑c : ℕ) s).rd x.rK) % 64 = 63 ∧ ((atIssue t (↑c : ℕ) s).cap x.ks).has permEX = false ∧ ((atIssue t (↑c : ℕ) s).cap x.ks).has permGT = false)) ∧
    (∃ (t : ℕ) (c : Fin 16) (x : Fields) (s : State), CoreReady t s (↑c : ℕ) ∧
      x.kt = 0 ∧
      x.resK = 0 ∧
      x.rK % 4 = 0 ∧
      ((atIssue t (↑c : ℕ) s).cap x.ks).tag = true ∧
      (((atIssue t (↑c : ℕ) s).cap x.ks).otype.toNat = 0 ∨ ((atIssue t (↑c : ℕ) s).cap x.ks).otype.toNat = 63 ∨ srCovers (atIssue t (↑c : ℕ) s).sr ((atIssue t (↑c : ℕ) s).cap x.ks).otype.toNat = false)) :=
  ⟨⟨6400000000000, 0, (12582912 : Fields), (running core1), Instr.kseal, (by unfold CoreReady; decide), by decide, by decide, by decide, by decide, (by simp)⟩,
    ⟨6400000000000, 0, (0 : Fields), (running { core0 with k := [(0, { aCap with otype := 1 })] }), Instr.knar, (by unfold CoreReady; decide), by decide, by decide, by decide, by decide, by decide, (.head _)⟩,
    ⟨6400000000000, 0, (4194304 : Fields), (running core1), (by unfold CoreReady; decide), by decide, by decide, by decide, by decide, by decide, by decide⟩,
    ⟨6400000000000, 0, (8388608 : Fields), (running core1), (by unfold CoreReady; decide), by decide, by decide, by decide, by decide, by decide, by decide⟩,
    ⟨6400000000000, 0, (0 : Fields), (running core0), (by unfold CoreReady; decide), by decide, by decide, by decide, by decide, by decide, by decide, by decide⟩,
    ⟨6400000000000, 0, (0 : Fields), (running core0), (by unfold CoreReady; decide), by decide, by decide, by decide, by decide, by decide⟩⟩

/-- The hypotheses of clauses of `Obligations.MultiplyAndDivide` are met. -/
theorem wit_MultiplyAndDivide_DivisionResults :
    ∃ (t : ℕ) (c : Fin 16) (x : Fields) (s : State), CoreReady t s (↑c : ℕ) ∧
      x.f27 % 2 = 0 ∧
      x.tan = 0 ∧
      x.f23 % 2 = 0 :=
  ⟨6400000000000, 0, (0 : Fields), (running core0), (by unfold CoreReady; decide), by decide, by decide, by decide⟩

/-- The hypotheses of clauses of `Obligations.EngineStateAndDuty` are met. -/
theorem wit_EngineStateAndDuty_DutyStore :
    ∃ (c : Fin 8) (s : State) (r : Run) (w : BitVec 36), (s.craneOf (↑c : ℕ)).run = some r ∧
      r.prog[r.pos]? = some w ∧
      w.toNat / 2 ^ 30 = 15 ∧
      (BitVec.extractLsb' 22 6 w).toNat < 39 ∧
      (BitVec.extractLsb' 16 6 w).toNat < 39 ∧
      (BitVec.extractLsb' 10 6 w).toNat < 39 ∧
      (BitVec.extractLsb' 4 6 w).toNat < 39 ∧
      s.now ≤ r.start + 64 * (r.pos + 1) ∧
      (∀ x ∈ (s.cuOf ((r.cu + w.toNat % 8) % 128)).held, (↑(r.start + 64 * (r.pos + 1)) : ℤ) < x.held) :=
  ⟨0, (State.reset).setCrane 0 { (State.reset).craneOf 0 with run := some { aRun with prog := [16106127360] } }, { aRun with prog := [16106127360] }, (16106127360 : BitVec 36), by decide, by decide, by decide, by decide, by decide, by decide, by decide, by decide, by decide⟩

/-- The hypotheses of clauses of `Obligations.BerthArmingAndEngineControl` are met. -/
theorem wit_BerthArmingAndEngineControl_EngineControl :
    (∃ (v : Word), BitVec.getLsbD v 17 = true) ∧
    (∃ (v : Word), BitVec.getLsbD v 17 = false) ∧
    (∃ (t : ℕ) (c : Fin 8) (s : State), s.rung < 3 ∧
      (s.craneOf (↑c : ℕ)).pub < (max s.now t - (s.craneOf (↑c : ℕ)).winOff) / 640000 ∧
      ((if (max s.now t - (s.craneOf (↑c : ℕ)).winOff) / 640000 - 1 = (s.craneOf (↑c : ℕ)).win then (s.craneOf (↑c : ℕ)).busy else if (max s.now t - (s.craneOf (↑c : ℕ)).winOff) / 640000 - 1 = (s.craneOf (↑c : ℕ)).win + 1 then (s.craneOf (↑c : ℕ)).busyNext else 0) ≤ 10000)) :=
  ⟨⟨(131072 : Word), by decide⟩,
    ⟨(0 : Word), by decide⟩,
    ⟨6400000000000, 0, State.reset, by decide, by decide, by decide⟩⟩

/-- The hypotheses of clauses of `Obligations.EngineInstructions` are met. -/
theorem wit_EngineInstructions_EngineResults_1 :
    (∃ (c : Fin 8) (s : State) (r : Run) (w : BitVec 36), (s.craneOf (↑c : ℕ)).run = some r ∧
      r.prog[r.pos]? = some w ∧
      (w.toNat / 2 ^ 30 = 0 ∨ 17 ≤ w.toNat / 2 ^ 30 ∨ w.toNat / 2 ^ 30 ∈ [2, 5, 6, 9, 10, 11, 12, 13, 14, 15, 16] ∧ 39 ≤ (BitVec.extractLsb' 22 6 w).toNat ∨ w.toNat / 2 ^ 30 ∈ [5, 7, 9, 10, 11, 12, 15] ∧ 39 ≤ (BitVec.extractLsb' 16 6 w).toNat ∨ w.toNat / 2 ^ 30 = 6 ∧ BitVec.extractLsb' 28 2 w ≠ 3 ∧ 39 ≤ (BitVec.extractLsb' 16 6 w).toNat ∨ w.toNat / 2 ^ 30 ∈ [10, 11, 15] ∧ 39 ≤ (BitVec.extractLsb' 10 6 w).toNat ∨ w.toNat / 2 ^ 30 = 15 ∧ 39 ≤ (BitVec.extractLsb' 4 6 w).toNat ∨ w.toNat / 2 ^ 30 = 7 ∧ (BitVec.extractLsb' 28 2 w = 3 ∨ 15 ≤ (BitVec.extractLsb' 22 6 w).toNat))) ∧
    (∃ (c : Fin 8) (s : State) (r : Run) (w : BitVec 36), (s.craneOf (↑c : ℕ)).run = some r ∧
      r.prog[r.pos]? = some w ∧
      w.toNat / 2 ^ 30 = 1) ∧
    (∃ (c : Fin 8) (s : State) (r : Run) (w : BitVec 36), (s.craneOf (↑c : ℕ)).run = some r ∧
      r.prog[r.pos]? = some w ∧
      w.toNat / 2 ^ 30 = 2 ∧
      (BitVec.extractLsb' 22 6 w).toNat < 39 ∧
      (BitVec.extractLsb' 22 6 w).toNat < 16 ∧
      r.old = [] ∧
      r.view = false ∧
      s.engWOf (16 * r.berth + (BitVec.extractLsb' 22 6 w).toNat) = none) ∧
    (∃ (c : Fin 8) (s : State) (r : Run) (w : BitVec 36), (s.craneOf (↑c : ℕ)).run = some r ∧
      r.prog[r.pos]? = some w ∧
      w.toNat / 2 ^ 30 = 2 ∧
      (BitVec.extractLsb' 22 6 w).toNat < 39 ∧
      16 ≤ (BitVec.extractLsb' 22 6 w).toNat ∧
      (BitVec.extractLsb' 22 6 w).toNat < 32 ∧
      r.old = [] ∧
      r.view = false ∧
      s.engWOf ((r.base + r.region * r.step + ((BitVec.extractLsb' 22 6 w).toNat - 16)) % 16384) = none) ∧
    (∃ (c : Fin 8) (s : State) (r : Run) (w : BitVec 36), (s.craneOf (↑c : ℕ)).run = some r ∧
      r.prog[r.pos]? = some w ∧
      w.toNat / 2 ^ 30 = 2 ∧
      (BitVec.extractLsb' 22 6 w).toNat < 39 ∧
      32 ≤ (BitVec.extractLsb' 22 6 w).toNat ∧
      (BitVec.extractLsb' 22 6 w).toNat < 36) ∧
    (∃ (c : Fin 8) (s : State) (r : Run) (w : BitVec 36), (s.craneOf (↑c : ℕ)).run = some r ∧
      r.prog[r.pos]? = some w ∧
      w.toNat / 2 ^ 30 = 2 ∧
      (BitVec.extractLsb' 22 6 w).toNat < 39 ∧
      (BitVec.extractLsb' 22 6 w).toNat = 36) ∧
    (∃ (c : Fin 8) (s : State) (r : Run) (w : BitVec 36), (s.craneOf (↑c : ℕ)).run = some r ∧
      r.prog[r.pos]? = some w ∧
      w.toNat / 2 ^ 30 = 2 ∧
      (BitVec.extractLsb' 22 6 w).toNat < 39 ∧
      (BitVec.extractLsb' 22 6 w).toNat = 37) ∧
    (∃ (c : Fin 8) (s : State) (r : Run) (w : BitVec 36), (s.craneOf (↑c : ℕ)).run = some r ∧
      r.prog[r.pos]? = some w ∧
      w.toNat / 2 ^ 30 = 2 ∧
      (BitVec.extractLsb' 22 6 w).toNat < 39 ∧
      (BitVec.extractLsb' 22 6 w).toNat = 38) ∧
    (∃ (c : Fin 8) (s : State) (r : Run) (w : BitVec 36), (s.craneOf (↑c : ℕ)).run = some r ∧
      r.prog[r.pos]? = some w ∧
      w.toNat / 2 ^ 30 = 3) :=
  ⟨⟨0, (State.reset).setCrane 0 { (State.reset).craneOf 0 with run := some { aRun with prog := [0] } }, { aRun with prog := [0] }, (0 : BitVec 36), by decide, by decide, by decide⟩,
    ⟨0, (State.reset).setCrane 0 { (State.reset).craneOf 0 with run := some { aRun with prog := [1073741824] } }, { aRun with prog := [1073741824] }, (1073741824 : BitVec 36), by decide, by decide, by decide⟩,
    ⟨0, (State.reset).setCrane 0 { (State.reset).craneOf 0 with run := some { aRun with prog := [2147483648], view := false } }, { aRun with prog := [2147483648], view := false }, (2147483648 : BitVec 36), by decide, by decide, by decide, by decide, by decide, by decide, by decide, by decide⟩,
    ⟨0, (State.reset.setCrane 0 { State.reset.craneOf 0 with run := some { aRun with prog := [2214592512] } }), { aRun with prog := [2214592512] }, (2214592512 : BitVec 36), by decide, by decide, by decide, by decide, by decide, by decide, by decide, by decide, by decide⟩,
    ⟨0, (State.reset).setCrane 0 { (State.reset).craneOf 0 with run := some { aRun with prog := [2294284288] } }, { aRun with prog := [2294284288] }, (2294284288 : BitVec 36), by decide, by decide, by decide, by decide, by decide, by decide⟩,
    ⟨0, (State.reset).setCrane 0 { (State.reset).craneOf 0 with run := some { aRun with prog := [2298478592] } }, { aRun with prog := [2298478592] }, (2298478592 : BitVec 36), by decide, by decide, by decide, by decide, by decide⟩,
    ⟨0, (State.reset).setCrane 0 { (State.reset).craneOf 0 with run := some { aRun with prog := [2302672896] } }, { aRun with prog := [2302672896] }, (2302672896 : BitVec 36), by decide, by decide, by decide, by decide, by decide⟩,
    ⟨0, (State.reset).setCrane 0 { (State.reset).craneOf 0 with run := some { aRun with prog := [2306867200] } }, { aRun with prog := [2306867200] }, (2306867200 : BitVec 36), by decide, by decide, by decide, by decide, by decide⟩,
    ⟨0, (State.reset).setCrane 0 { (State.reset).craneOf 0 with run := some { aRun with prog := [3221225472] } }, { aRun with prog := [3221225472] }, (3221225472 : BitVec 36), by decide, by decide, by decide⟩⟩

/-- The hypotheses of clauses of `Obligations.EngineInstructions` are met. -/
theorem wit_EngineInstructions_EngineResults_2 :
    (∃ (c : Fin 8) (s : State) (r : Run) (w : BitVec 36), (s.craneOf (↑c : ℕ)).run = some r ∧
      r.prog[r.pos]? = some w ∧
      w.toNat / 2 ^ 30 = 4) ∧
    (∃ (c : Fin 8) (s : State) (r : Run) (w : BitVec 36), (s.craneOf (↑c : ℕ)).run = some r ∧
      r.prog[r.pos]? = some w ∧
      w.toNat / 2 ^ 30 = 5 ∧
      (BitVec.extractLsb' 22 6 w).toNat < 39 ∧
      (BitVec.extractLsb' 16 6 w).toNat < 39 ∧
      w.getLsbD 15 = false) ∧
    (∃ (c : Fin 8) (s : State) (r : Run) (w : BitVec 36), (s.craneOf (↑c : ℕ)).run = some r ∧
      r.prog[r.pos]? = some w ∧
      w.toNat / 2 ^ 30 = 5 ∧
      (BitVec.extractLsb' 22 6 w).toNat < 39 ∧
      (BitVec.extractLsb' 16 6 w).toNat < 39 ∧
      w.getLsbD 15 = true) ∧
    (∃ (c : Fin 8) (s : State) (r : Run) (w : BitVec 36), (s.craneOf (↑c : ℕ)).run = some r ∧
      r.prog[r.pos]? = some w ∧
      w.toNat / 2 ^ 30 = 6 ∧
      (BitVec.extractLsb' 22 6 w).toNat < 39 ∧
      ((BitVec.extractLsb' 16 6 w).toNat < 39 ∨ BitVec.extractLsb' 28 2 w = 3) ∧
      BitVec.extractLsb' 28 2 w = 0) ∧
    (∃ (c : Fin 8) (s : State) (r : Run) (w : BitVec 36), (s.craneOf (↑c : ℕ)).run = some r ∧
      r.prog[r.pos]? = some w ∧
      w.toNat / 2 ^ 30 = 6 ∧
      (BitVec.extractLsb' 22 6 w).toNat < 39 ∧
      ((BitVec.extractLsb' 16 6 w).toNat < 39 ∨ BitVec.extractLsb' 28 2 w = 3) ∧
      BitVec.extractLsb' 28 2 w = 1) ∧
    (∃ (c : Fin 8) (s : State) (r : Run) (w : BitVec 36), (s.craneOf (↑c : ℕ)).run = some r ∧
      r.prog[r.pos]? = some w ∧
      w.toNat / 2 ^ 30 = 6 ∧
      (BitVec.extractLsb' 22 6 w).toNat < 39 ∧
      ((BitVec.extractLsb' 16 6 w).toNat < 39 ∨ BitVec.extractLsb' 28 2 w = 3) ∧
      BitVec.extractLsb' 28 2 w = 2) ∧
    (∃ (c : Fin 8) (s : State) (r : Run) (w : BitVec 36), (s.craneOf (↑c : ℕ)).run = some r ∧
      r.prog[r.pos]? = some w ∧
      w.toNat / 2 ^ 30 = 6 ∧
      (BitVec.extractLsb' 22 6 w).toNat < 39 ∧
      ((BitVec.extractLsb' 16 6 w).toNat < 39 ∨ BitVec.extractLsb' 28 2 w = 3) ∧
      BitVec.extractLsb' 28 2 w = 3) ∧
    (∃ (c : Fin 8) (s : State) (r : Run) (w : BitVec 36), (s.craneOf (↑c : ℕ)).run = some r ∧
      r.prog[r.pos]? = some w ∧
      w.toNat / 2 ^ 30 = 8) ∧
    (∃ (c : Fin 8) (s : State) (r : Run) (w : BitVec 36), (s.craneOf (↑c : ℕ)).run = some r ∧
      r.prog[r.pos]? = some w ∧
      w.toNat / 2 ^ 30 = 9 ∧
      (BitVec.extractLsb' 22 6 w).toNat < 39 ∧
      (BitVec.extractLsb' 16 6 w).toNat < 39) :=
  ⟨⟨0, (State.reset).setCrane 0 { (State.reset).craneOf 0 with run := some { aRun with prog := [4294967296] } }, { aRun with prog := [4294967296] }, (4294967296 : BitVec 36), by decide, by decide, by decide⟩,
    ⟨0, (State.reset).setCrane 0 { (State.reset).craneOf 0 with run := some { aRun with prog := [5368709120] } }, { aRun with prog := [5368709120] }, (5368709120 : BitVec 36), by decide, by decide, by decide, by decide, by decide, by decide⟩,
    ⟨0, (State.reset).setCrane 0 { (State.reset).craneOf 0 with run := some { aRun with prog := [5368741888] } }, { aRun with prog := [5368741888] }, (5368741888 : BitVec 36), by decide, by decide, by decide, by decide, by decide, by decide⟩,
    ⟨0, (State.reset).setCrane 0 { (State.reset).craneOf 0 with run := some { aRun with prog := [6442450944] } }, { aRun with prog := [6442450944] }, (6442450944 : BitVec 36), by decide, by decide, by decide, by decide, by decide, by decide⟩,
    ⟨0, (State.reset).setCrane 0 { (State.reset).craneOf 0 with run := some { aRun with prog := [6710886400] } }, { aRun with prog := [6710886400] }, (6710886400 : BitVec 36), by decide, by decide, by decide, by decide, by decide, by decide⟩,
    ⟨0, (State.reset).setCrane 0 { (State.reset).craneOf 0 with run := some { aRun with prog := [6979321856] } }, { aRun with prog := [6979321856] }, (6979321856 : BitVec 36), by decide, by decide, by decide, by decide, by decide, by decide⟩,
    ⟨0, (State.reset).setCrane 0 { (State.reset).craneOf 0 with run := some { aRun with prog := [7247757312] } }, { aRun with prog := [7247757312] }, (7247757312 : BitVec 36), by decide, by decide, by decide, by decide, by decide, by decide⟩,
    ⟨0, (State.reset).setCrane 0 { (State.reset).craneOf 0 with run := some { aRun with prog := [8589934592] } }, { aRun with prog := [8589934592] }, (8589934592 : BitVec 36), by decide, by decide, by decide⟩,
    ⟨0, (State.reset).setCrane 0 { (State.reset).craneOf 0 with run := some { aRun with prog := [9663676416] } }, { aRun with prog := [9663676416] }, (9663676416 : BitVec 36), by decide, by decide, by decide, by decide, by decide⟩⟩

/-- The hypotheses of clauses of `Obligations.EngineInstructions` are met. -/
theorem wit_EngineInstructions_EngineResults_3 :
    (∃ (c : Fin 8) (s : State) (r : Run) (w : BitVec 36), (s.craneOf (↑c : ℕ)).run = some r ∧
      r.prog[r.pos]? = some w ∧
      w.toNat / 2 ^ 30 = 11 ∧
      (BitVec.extractLsb' 22 6 w).toNat < 39 ∧
      (BitVec.extractLsb' 16 6 w).toNat < 39 ∧
      (BitVec.extractLsb' 10 6 w).toNat < 39) ∧
    (∃ (c : Fin 8) (s : State) (r : Run) (w : BitVec 36), (s.craneOf (↑c : ℕ)).run = some r ∧
      r.prog[r.pos]? = some w ∧
      w.toNat / 2 ^ 30 = 12 ∧
      (BitVec.extractLsb' 22 6 w).toNat < 39 ∧
      (BitVec.extractLsb' 16 6 w).toNat < 39 ∧
      w.getLsbD 15 = false) ∧
    (∃ (c : Fin 8) (s : State) (r : Run) (w : BitVec 36), (s.craneOf (↑c : ℕ)).run = some r ∧
      r.prog[r.pos]? = some w ∧
      w.toNat / 2 ^ 30 = 12 ∧
      (BitVec.extractLsb' 22 6 w).toNat < 39 ∧
      (BitVec.extractLsb' 16 6 w).toNat < 39 ∧
      w.getLsbD 15 = true) :=
  ⟨⟨0, (State.reset).setCrane 0 { (State.reset).craneOf 0 with run := some { aRun with prog := [11811160064] } }, { aRun with prog := [11811160064] }, (11811160064 : BitVec 36), by decide, by decide, by decide, by decide, by decide, by decide⟩,
    ⟨0, (State.reset).setCrane 0 { (State.reset).craneOf 0 with run := some { aRun with prog := [12884901888] } }, { aRun with prog := [12884901888] }, (12884901888 : BitVec 36), by decide, by decide, by decide, by decide, by decide, by decide⟩,
    ⟨0, (State.reset).setCrane 0 { (State.reset).craneOf 0 with run := some { aRun with prog := [12884934656] } }, { aRun with prog := [12884934656] }, (12884934656 : BitVec 36), by decide, by decide, by decide, by decide, by decide, by decide⟩⟩

/-- The hypotheses of clauses of `Obligations.EngineInstructions` are met. -/
theorem wit_EngineInstructions_EngineSelection :
    (∃ (c : Fin 8) (s : State) (r : Run) (w : BitVec 36), (s.craneOf (↑c : ℕ)).run = some r ∧
      r.prog[r.pos]? = some w ∧
      w.toNat / 2 ^ 30 = 13 ∧
      w.getLsbD 15 = false ∧
      (BitVec.extractLsb' 22 6 w).toNat < 39) ∧
    (∃ (c : Fin 8) (s : State) (r : Run) (w : BitVec 36), (s.craneOf (↑c : ℕ)).run = some r ∧
      r.prog[r.pos]? = some w ∧
      w.toNat / 2 ^ 30 = 13 ∧
      w.getLsbD 15 = true ∧
      (BitVec.extractLsb' 22 6 w).toNat < 39) ∧
    (∃ (c : Fin 8) (s : State) (r : Run) (w : BitVec 36), (s.craneOf (↑c : ℕ)).run = some r ∧
      r.prog[r.pos]? = some w ∧
      w.toNat / 2 ^ 30 = 14 ∧
      (BitVec.extractLsb' 22 6 w).toNat < 39 ∧
      (¬(r.offered = false ∧ r.mem = true ∧ groupLive s r.grp = true) ∨ r.voided = true)) ∧
    (∃ (c : Fin 8) (s : State) (r : Run) (w : BitVec 36), (s.craneOf (↑c : ℕ)).run = some r ∧
      r.prog[r.pos]? = some w ∧
      w.toNat / 2 ^ 30 = 14 ∧
      (BitVec.extractLsb' 22 6 w).toNat < 39 ∧
      (r.offered = false ∧ r.mem = true ∧ groupLive s r.grp = true) ∧
      r.voided = false ∧
      r.close = false) ∧
    (∃ (c : Fin 8) (s : State) (r : Run) (w : BitVec 36), (s.craneOf (↑c : ℕ)).run = some r ∧
      r.prog[r.pos]? = some w ∧
      w.toNat / 2 ^ 30 = 14 ∧
      (BitVec.extractLsb' 22 6 w).toNat < 39 ∧
      (r.offered = false ∧ r.mem = true ∧ groupLive s r.grp = true) ∧
      r.voided = false ∧
      r.close = true) :=
  ⟨⟨0, (State.reset).setCrane 0 { (State.reset).craneOf 0 with run := some { aRun with prog := [13958643712] } }, { aRun with prog := [13958643712] }, (13958643712 : BitVec 36), by decide, by decide, by decide, by decide, by decide⟩,
    ⟨0, (State.reset).setCrane 0 { (State.reset).craneOf 0 with run := some { aRun with prog := [13958676480] } }, { aRun with prog := [13958676480] }, (13958676480 : BitVec 36), by decide, by decide, by decide, by decide, by decide⟩,
    ⟨0, (State.reset).setCrane 0 { (State.reset).craneOf 0 with run := some { aRun with prog := [15032385536] } }, { aRun with prog := [15032385536] }, (15032385536 : BitVec 36), by decide, by decide, by decide, by decide, by decide⟩,
    ⟨0, (({ (((State.reset.put F.CG_CTL_en 0 1).put F.BERTH_GRP_mem 0 1).put F.BERTH_GRP_close 0 1).put F.BERTH_CTL_arm 0 1 with armed := [0] })).setCrane 0 { (({ (((State.reset.put F.CG_CTL_en 0 1).put F.BERTH_GRP_mem 0 1).put F.BERTH_GRP_close 0 1).put F.BERTH_CTL_arm 0 1 with armed := [0] })).craneOf 0 with run := some { aRun with prog := [15032385536], offered := false, mem := true, voided := false, close := false } }, { aRun with prog := [15032385536], offered := false, mem := true, voided := false, close := false }, (15032385536 : BitVec 36), by decide, by decide, by decide, by decide, by decide, by decide, by decide⟩,
    ⟨0, (({ (((State.reset.put F.CG_CTL_en 0 1).put F.BERTH_GRP_mem 0 1).put F.BERTH_GRP_close 0 1).put F.BERTH_CTL_arm 0 1 with armed := [0] })).setCrane 0 { (({ (((State.reset.put F.CG_CTL_en 0 1).put F.BERTH_GRP_mem 0 1).put F.BERTH_GRP_close 0 1).put F.BERTH_CTL_arm 0 1 with armed := [0] })).craneOf 0 with run := some { aRun with prog := [15032385536], offered := false, mem := true, voided := false, close := true } }, { aRun with prog := [15032385536], offered := false, mem := true, voided := false, close := true }, (15032385536 : BitVec 36), by decide, by decide, by decide, by decide, by decide, by decide, by decide⟩⟩

/-- The hypotheses of clauses of `Obligations.EngineStateAndDuty` are met. -/
theorem wit_EngineStateAndDuty_EngineStateWords :
    (∃ (c : Fin 8) (s : State) (r : Run) (w : BitVec 36), (s.craneOf (↑c : ℕ)).run = some r ∧
      r.prog[r.pos]? = some w ∧
      w.toNat / 2 ^ 30 = 7 ∧
      (BitVec.extractLsb' 22 6 w).toNat < 15 ∧
      (BitVec.extractLsb' 16 6 w).toNat < 39 ∧
      BitVec.extractLsb' 28 2 w = 0) ∧
    (∃ (c : Fin 8) (s : State) (r : Run) (w : BitVec 36), (s.craneOf (↑c : ℕ)).run = some r ∧
      r.prog[r.pos]? = some w ∧
      w.toNat / 2 ^ 30 = 7 ∧
      (BitVec.extractLsb' 22 6 w).toNat < 15 ∧
      (BitVec.extractLsb' 16 6 w).toNat < 39 ∧
      BitVec.extractLsb' 28 2 w = 1) ∧
    (∃ (c : Fin 8) (s : State) (r : Run) (w : BitVec 36), (s.craneOf (↑c : ℕ)).run = some r ∧
      r.prog[r.pos]? = some w ∧
      w.toNat / 2 ^ 30 = 7 ∧
      (BitVec.extractLsb' 22 6 w).toNat < 15 ∧
      (BitVec.extractLsb' 16 6 w).toNat < 39 ∧
      BitVec.extractLsb' 28 2 w = 2) ∧
    (∃ (c : Fin 8) (s : State) (r : Run) (w : BitVec 36), (s.craneOf (↑c : ℕ)).run = some r ∧
      r.prog[r.pos]? = some w ∧
      w.toNat / 2 ^ 30 = 10 ∧
      (BitVec.extractLsb' 22 6 w).toNat < 39 ∧
      (BitVec.extractLsb' 16 6 w).toNat < 39 ∧
      (BitVec.extractLsb' 10 6 w).toNat < 39) ∧
    (∃ (c : Fin 8) (s : State) (r : Run) (w : BitVec 36), (s.craneOf (↑c : ℕ)).run = some r ∧
      r.prog[r.pos]? = some w ∧
      w.toNat / 2 ^ 30 = 16 ∧
      (BitVec.extractLsb' 22 6 w).toNat < 39) :=
  ⟨⟨0, (State.reset).setCrane 0 { (State.reset).craneOf 0 with run := some { aRun with prog := [7516192768] } }, { aRun with prog := [7516192768] }, (7516192768 : BitVec 36), by decide, by decide, by decide, by decide, by decide, by decide⟩,
    ⟨0, (State.reset).setCrane 0 { (State.reset).craneOf 0 with run := some { aRun with prog := [7784628224] } }, { aRun with prog := [7784628224] }, (7784628224 : BitVec 36), by decide, by decide, by decide, by decide, by decide, by decide⟩,
    ⟨0, (State.reset).setCrane 0 { (State.reset).craneOf 0 with run := some { aRun with prog := [8053063680] } }, { aRun with prog := [8053063680] }, (8053063680 : BitVec 36), by decide, by decide, by decide, by decide, by decide, by decide⟩,
    ⟨0, (State.reset).setCrane 0 { (State.reset).craneOf 0 with run := some { aRun with prog := [10737418240] } }, { aRun with prog := [10737418240] }, (10737418240 : BitVec 36), by decide, by decide, by decide, by decide, by decide, by decide⟩,
    ⟨0, (State.reset).setCrane 0 { (State.reset).craneOf 0 with run := some { aRun with prog := [17179869184] } }, { aRun with prog := [17179869184] }, (17179869184 : BitVec 36), by decide, by decide, by decide, by decide⟩⟩

/-- The hypotheses of clauses of `Obligations.EventChannelsAndCells` are met. -/
theorem wit_EventChannelsAndCells_EventChannels :
    (∃ (t : ℕ) (ch : Fin 512) (s : State), s.is F.EV_CTL_en (↑ch : ℕ) = true ∧
      srcSilent s (s.get F.EV_SRC_cls (↑ch : ℕ)) (s.get F.EV_SRC_inst (↑ch : ℕ)) (s.get F.EV_SRC_ev (↑ch : ℕ)) = false ∧
      s.get F.EV_SRC_cls (↑ch : ℕ) ≠ 0 ∧
      srcIsLevel (s.get F.EV_SRC_cls (↑ch : ℕ)) (s.get F.EV_SRC_ev (↑ch : ℕ)) = false ∧
      s.srcAtOf (srcKey (s.get F.EV_SRC_cls (↑ch : ℕ)) (s.get F.EV_SRC_inst (↑ch : ℕ)) (s.get F.EV_SRC_ev (↑ch : ℕ))) = some (↑t : ℤ) ∧
      (s.evOf (↑ch : ℕ)).occAt ≠ some (↑t : ℤ)) ∧
    (∃ (ch : Fin 512) (c : Fin 16) (v : Word) (s : State), s.is F.EV_CTL_en (↑ch : ℕ) = true ∧
      BitVec.getLsbD v 17 = true ∧
      (s.get F.EV_OWN_core (↑ch : ℕ) = 31 ∨ s.get F.EV_OWN_core (↑ch : ℕ) = (↑c : ℕ)) ∧
      s.is F.EV_OWN_seal (↑ch : ℕ) = false) ∧
    (∃ (ch : Fin 512) (c : Fin 16) (v : Word) (s : State), BitVec.getLsbD v 17 = true ∧
      (¬(s.get F.EV_OWN_core (↑ch : ℕ) = 31 ∨ s.get F.EV_OWN_core (↑ch : ℕ) = (↑c : ℕ)) ∨ s.is F.EV_OWN_seal (↑ch : ℕ) = true)) ∧
    (∃ (ch : Fin 512) (s : State), s.is F.EV_CTL_en (↑ch : ℕ) = true ∧
      srcSilent s (s.get F.EV_SRC_cls (↑ch : ℕ)) (s.get F.EV_SRC_inst (↑ch : ℕ)) (s.get F.EV_SRC_ev (↑ch : ℕ)) = false ∧
      s.get F.EV_SRC_cls (↑ch : ℕ) ≠ 0 ∧
      srcIsLevel (s.get F.EV_SRC_cls (↑ch : ℕ)) (s.get F.EV_SRC_ev (↑ch : ℕ)) = true ∧
      (s.evOf (↑ch : ℕ)).pulse = false ∧
      ((s.evOf (↑ch : ℕ)).later = [] ∧ (s.evOf (↑ch : ℕ)).order = evTaps s (↑ch : ℕ))) ∧
    (∃ (ch : Fin 512) (s : State), 3 ≤ s.rung ∧
      (s.get F.EV_SRC_cls (↑ch : ℕ) = 1 ∨ s.get F.EV_SRC_cls (↑ch : ℕ) = 3 ∨ 5 ≤ s.get F.EV_SRC_cls (↑ch : ℕ) ∧ s.get F.EV_SRC_cls (↑ch : ℕ) ≤ 13 ∨ s.get F.EV_SRC_cls (↑ch : ℕ) = 18 ∨ 5 ≤ s.rung)) ∧
    (∃ (t : ℕ) (ch : Fin 512) (s : State), (s.evOf (↑ch : ℕ)).pulse = true ∧
      (∀ (x : ℕ), (s.evOf (↑ch : ℕ)).raisedAt = some x → x + 109 ≤ max s.now t) ∧
      (s.evOf (↑ch : ℕ)).raisedAt ≠ none ∧
      s.rung < 5 ∧
      s.is F.EV_CTL_inv (↑ch : ℕ) = false ∧
      srcLevel (State.tick t s) (s.get F.EV_SRC_cls (↑ch : ℕ)) (s.get F.EV_SRC_inst (↑ch : ℕ)) (s.get F.EV_SRC_ev (↑ch : ℕ)) = false) ∧
    (∃ (ch : Fin 512) (c : Fin 16) (v : Word) (s : State), s.is F.EV_CTL_en (↑ch : ℕ) = false ∧
      BitVec.getLsbD v 17 = true ∧
      ((s.get F.EV_OWN_core (↑ch : ℕ) = 31 ∨ s.get F.EV_OWN_core (↑ch : ℕ) = (↑c : ℕ)) ∧ s.is F.EV_OWN_seal (↑ch : ℕ) = false ∧ srcValid (s.get F.EV_SRC_cls (↑ch : ℕ)) (s.get F.EV_SRC_inst (↑ch : ℕ)) (s.get F.EV_SRC_ev (↑ch : ℕ)) = true) ∧
      s.is F.EV_STAT_lvl (↑ch : ℕ) = false) ∧
    (∃ (ch : Fin 512) (c : Fin 16) (v : Word) (s : State), s.is F.EV_CTL_en (↑ch : ℕ) = false ∧
      BitVec.getLsbD v 17 = true ∧
      (¬((s.get F.EV_OWN_core (↑ch : ℕ) = 31 ∨ s.get F.EV_OWN_core (↑ch : ℕ) = (↑c : ℕ)) ∧ s.is F.EV_OWN_seal (↑ch : ℕ) = false ∧ srcValid (s.get F.EV_SRC_cls (↑ch : ℕ)) (s.get F.EV_SRC_inst (↑ch : ℕ)) (s.get F.EV_SRC_ev (↑ch : ℕ)) = true))) ∧
    (∃ (t : ℕ) (ch : Fin 512) (s : State) (x : ℕ) (l : List Tap), (s.evOf (↑ch : ℕ)).later = [(x, l)] ∧
      x ≤ max s.now t) :=
  ⟨⟨6400000000000, 0, ((((State.reset.put F.EV_CTL_en 0 1).put F.EV_SRC_cls 0 3).setSrcAt (srcKey 3 0 0) (some 6400000000000)).put F.EV_CTL_en 0 1), by decide, by decide, by decide, by decide, by decide, by decide⟩,
    ⟨0, 0, (131072 : Word), ((State.reset.put F.EV_CTL_en 0 1).put F.EV_OWN_seal 0 0), by decide, by decide, by decide, by decide⟩,
    ⟨0, 0, (131072 : Word), (State.reset.put F.EV_OWN_core 0 5), by decide, by decide⟩,
    ⟨0, (((State.reset.put F.EV_SRC_cls 0 14).put F.EV_CTL_en 0 1)).setEv 0 { (((State.reset.put F.EV_SRC_cls 0 14).put F.EV_CTL_en 0 1)).evOf 0 with pulse := false, later := [] }, by decide, by decide, by decide, by decide, by decide, by decide⟩,
    ⟨0, (({ State.reset with rung := 3 }).put F.EV_SRC_cls 0 1), by decide, by decide⟩,
    ⟨6400000000000, 0, ((State.reset.setEv 0 { State.reset.evOf 0 with pulse := true, raisedAt := some 6399999999891 }).put F.EV_CTL_inv 0 0), by decide, (fun x h => Option.some.inj (show some 6399999999891 = some x from h) ▸ (by decide)), by decide, by decide, by decide, by decide⟩,
    ⟨0, 0, (131072 : Word), (((State.reset.put F.EV_CTL_en 0 0).put F.EV_OWN_seal 0 0).put F.EV_STAT_lvl 0 0), by decide, by decide, by decide, by decide⟩,
    ⟨0, 0, (131072 : Word), (((State.reset.put F.EV_OWN_core 0 31).put F.EV_OWN_seal 0 1).put F.EV_CTL_en 0 0), by decide, by decide, by decide⟩,
    ⟨6400000000000, 0, (State.reset).setEv 0 { (State.reset).evOf 0 with later := [(0, [])] }, 0, [], by decide, by decide⟩⟩

/-- The hypotheses of clauses of `Obligations.FlashAndJournal` are met. -/
theorem wit_FlashAndJournal_Flash :
    (∃ (b : Fin 4) (off : BitVec 21) (s : State) (l : ℕ) (ws : List (BitVec 18)), (s.flOf (↑b : ℕ)).seq = FlSeq.line (some l) ws false ∧
      ws.length = 3 ∧
      off.toNat = 8 * l + 6) ∧
    (∃ (b : Fin 4) (off : BitVec 21) (s : State) (l : ℕ) (ws : List (BitVec 18)), (s.flOf (↑b : ℕ)).seq = FlSeq.line (some l) ws true ∧
      ws.length = 2 ∧
      off.toNat = 8 * l + 4) ∧
    (∃ (b : Fin 4) (off : BitVec 21) (v : Word) (s : State), (s.flOf (↑b : ℕ)).seq = FlSeq.eraseU2 ∧
      v = 48 ∧
      off.toNat % 2 = 0) ∧
    (∃ (b : Fin 4) (off : BitVec 21) (s : State), b = 0 ∧
      (s.flOf (↑b : ℕ)).seq = FlSeq.otp ∧
      off.toNat % 2 = 0 ∧
      off.toNat < 1024) ∧
    (∃ (b : Fin 4) (off : BitVec 21) (v : Word) (s : State), (s.flOf (↑b : ℕ)).seq = FlSeq.u2 ∧
      off.toNat = 5460 ∧
      72 ≤ BitVec.toNat v ∧
      BitVec.toNat v ≤ 76) ∧
    (∃ (b : Fin 4) (off : BitVec 21) (v : Word) (s : State), (s.flOf (↑b : ℕ)).seq = FlSeq.start ∧
      off.toNat % 2 = 0 ∧
      v = 240) ∧
    (∃ (b : Fin 4) (s : State) (l : ℕ) (d : BitVec 72) (c : Bool) (st : ℕ) (j : Bool), (s.flOf (↑b : ℕ)).run = some { op := FlOp.program l d c, start := st, jrn := j }) ∧
    (∃ (b : Fin 4) (s : State) (blk : ℕ) (st : ℕ) (j : Bool), (s.flOf (↑b : ℕ)).run = some { op := FlOp.erase blk, start := st, jrn := j }) ∧
    (∃ (b : Fin 4) (s : State) (k : ℕ) (x : Word) (st : ℕ), b = 0 ∧
      (s.flOf (↑b : ℕ)).run = some { op := FlOp.otp k x, start := st, jrn := false }) :=
  ⟨⟨0, (6 : BitVec 21), (State.reset).setFl 0 { (State.reset).flOf 0 with seq := FlSeq.line (some 0) [1, 2, 3] false }, 0, [1, 2, 3], by decide, by decide, by decide⟩,
    ⟨0, (4 : BitVec 21), (State.reset).setFl 0 { (State.reset).flOf 0 with seq := FlSeq.line (some 0) [1, 2] true }, 0, [1, 2], by decide, by decide, by decide⟩,
    ⟨0, (0 : BitVec 21), (48 : Word), (State.reset).setFl 0 { (State.reset).flOf 0 with seq := FlSeq.eraseU2 }, by decide, by decide, by decide⟩,
    ⟨0, (0 : BitVec 21), (State.reset).setFl 0 { (State.reset).flOf 0 with seq := FlSeq.otp }, by decide, by decide, by decide, by decide⟩,
    ⟨0, (5460 : BitVec 21), (76 : Word), (State.reset).setFl 0 { (State.reset).flOf 0 with seq := FlSeq.u2 }, by decide, by decide, by decide, by decide⟩,
    ⟨0, (0 : BitVec 21), (240 : Word), (State.reset).setFl 0 { (State.reset).flOf 0 with seq := FlSeq.start }, by decide, by decide, by decide⟩,
    ⟨0, (State.reset).setFl 0 { (State.reset).flOf 0 with run := some { op := FlOp.program 0 (0 : BitVec 72) false, start := 0, jrn := false } }, 0, (0 : BitVec 72), false, 0, false, by decide⟩,
    ⟨0, (State.reset).setFl 0 { (State.reset).flOf 0 with run := some { op := FlOp.erase 0, start := 0, jrn := false } }, 0, 0, false, by decide⟩,
    ⟨0, (State.reset).setFl 0 { (State.reset).flOf 0 with run := some { op := FlOp.otp 0 (0 : Word), start := 0, jrn := false } }, 0, (0 : Word), 0, by decide, by decide⟩⟩

/-- The hypotheses of clauses of `Obligations.GateCallAndReturn` are met. -/
theorem wit_GateCallAndReturn_GateCall :
    (∃ (t : ℕ) (c : Fin 16) (x : Fields) (s : State) (d : Desc), CoreReady t s (↑c : ℕ) ∧
      x.kt = 0 ∧
      x.resK = 0 ∧
      ((atIssue t (↑c : ℕ) s).cap x.ks).tag = true ∧
      ((atIssue t (↑c : ℕ) s).cap x.ks).otype = 63 ∧
      ((atIssue t (↑c : ℕ) s).cap x.ks).has permGT = true ∧
      ((atIssue t (↑c : ℕ) s).cap x.ks).has permEX = false ∧
      32 ≤ ((atIssue t (↑c : ℕ) s).cap x.ks).len.toNat ∧
      (∀ i ∈ [0, 8, 16, 24], regionOf (((atIssue t (↑c : ℕ) s).cap x.ks).base.toNat + i) = Region.sram ∧ ownsBank (issued t (↑c : ℕ) s) (↑c : ℕ) (bankAt (((atIssue t (↑c : ℕ) s).cap x.ks).base.toNat + i)) = true ∧ awaitsBank (issued t (↑c : ℕ) s) (↑c : ℕ) (bankAt (((atIssue t (↑c : ℕ) s).cap x.ks).base.toNat + i)) = false) ∧
      DescAt (issued t (↑c : ℕ) s) ((atIssue t (↑c : ℕ) s).cap x.ks).base.toNat d ∧
      frameStep (issued t (↑c : ℕ) s) (↑c : ℕ) = 0 ∧
      (atIssue t (↑c : ℕ) s).fq.length ≤ 11) ∧
    (∃ (t : ℕ) (c : Fin 16) (x : Fields) (s : State), CoreReady t s (↑c : ℕ) ∧
      x.kt = 0 ∧
      x.resK = 0 ∧
      (((atIssue t (↑c : ℕ) s).cap x.ks).tag = true ∧ ((atIssue t (↑c : ℕ) s).cap x.ks).otype = 63 ∧ ((atIssue t (↑c : ℕ) s).cap x.ks).has permGT = true ∧ ((atIssue t (↑c : ℕ) s).cap x.ks).has permEX = false ∧ 32 ≤ ((atIssue t (↑c : ℕ) s).cap x.ks).len.toNat ∧ ((atIssue t (↑c : ℕ) s).cap x.ks).base.toNat % 8 = 0) ∧
      (∃ i ∈ [24, 0, 8, 16], regionOf (((atIssue t (↑c : ℕ) s).cap x.ks).base.toNat + i) ≠ Region.sram)) ∧
    (∃ (t : ℕ) (c : Fin 16) (x : Fields) (s : State) (i : ℕ), CoreReady t s (↑c : ℕ) ∧
      x.kt = 0 ∧
      x.resK = 0 ∧
      (((atIssue t (↑c : ℕ) s).cap x.ks).tag = true ∧ ((atIssue t (↑c : ℕ) s).cap x.ks).otype = 63 ∧ ((atIssue t (↑c : ℕ) s).cap x.ks).has permGT = true ∧ ((atIssue t (↑c : ℕ) s).cap x.ks).has permEX = false ∧ 32 ≤ ((atIssue t (↑c : ℕ) s).cap x.ks).len.toNat ∧ ((atIssue t (↑c : ℕ) s).cap x.ks).base.toNat % 8 = 0) ∧
      (∀ i ∈ [24, 0, 8, 16], regionOf (((atIssue t (↑c : ℕ) s).cap x.ks).base.toNat + i) = Region.sram ∧ awaitsBank (issued t (↑c : ℕ) s) (↑c : ℕ) (bankAt (((atIssue t (↑c : ℕ) s).cap x.ks).base.toNat + i)) = false) ∧
      (List.find? (fun i ↦ !ownsBank (issued t (↑c : ℕ) s) (↑c : ℕ) (bankAt (((atIssue t (↑c : ℕ) s).cap x.ks).base.toNat + i))) [24, 0, 8, 16] = some i)) ∧
    (∃ (t : ℕ) (c : Fin 16) (x : Fields) (s : State), CoreReady t s (↑c : ℕ) ∧
      x.kt = 0 ∧
      x.resK = 0 ∧
      (((atIssue t (↑c : ℕ) s).cap x.ks).tag = true ∧ ((atIssue t (↑c : ℕ) s).cap x.ks).otype = 63 ∧ ((atIssue t (↑c : ℕ) s).cap x.ks).has permGT = true ∧ ((atIssue t (↑c : ℕ) s).cap x.ks).has permEX = false ∧ 32 ≤ ((atIssue t (↑c : ℕ) s).cap x.ks).len.toNat ∧ ((atIssue t (↑c : ℕ) s).cap x.ks).base.toNat % 8 = 0) ∧
      (∀ i ∈ [24, 0, 8, 16], regionOf (((atIssue t (↑c : ℕ) s).cap x.ks).base.toNat + i) = Region.sram ∧ awaitsBank (issued t (↑c : ℕ) s) (↑c : ℕ) (bankAt (((atIssue t (↑c : ℕ) s).cap x.ks).base.toNat + i)) = false) ∧
      (∀ i ∈ [24, 0, 8, 16], ownsBank (issued t (↑c : ℕ) s) (↑c : ℕ) (bankAt (((atIssue t (↑c : ℕ) s).cap x.ks).base.toNat + i)) = true) ∧
      (∃ i < 4, ((issued t (↑c : ℕ) s).sramOf (sramIx (((atIssue t (↑c : ℕ) s).cap x.ks).base.toNat + 24) + i)).ecc = Ecc.bad)) ∧
    (∃ (t : ℕ) (c : Fin 16) (x : Fields) (s : State), CoreReady t s (↑c : ℕ) ∧
      x.kt = 0 ∧
      x.resK = 0 ∧
      (((atIssue t (↑c : ℕ) s).cap x.ks).tag = true ∧ ((atIssue t (↑c : ℕ) s).cap x.ks).otype = 63 ∧ ((atIssue t (↑c : ℕ) s).cap x.ks).has permGT = true ∧ ((atIssue t (↑c : ℕ) s).cap x.ks).has permEX = false ∧ 32 ≤ ((atIssue t (↑c : ℕ) s).cap x.ks).len.toNat ∧ ((atIssue t (↑c : ℕ) s).cap x.ks).base.toNat % 8 = 0) ∧
      (∀ i ∈ [24, 0, 8, 16], regionOf (((atIssue t (↑c : ℕ) s).cap x.ks).base.toNat + i) = Region.sram ∧ awaitsBank (issued t (↑c : ℕ) s) (↑c : ℕ) (bankAt (((atIssue t (↑c : ℕ) s).cap x.ks).base.toNat + i)) = false) ∧
      (∀ i ∈ [24, 0, 8, 16], ownsBank (issued t (↑c : ℕ) s) (↑c : ℕ) (bankAt (((atIssue t (↑c : ℕ) s).cap x.ks).base.toNat + i)) = true) ∧
      wordsGood (issued t (↑c : ℕ) s) ((atIssue t (↑c : ℕ) s).cap x.ks).base.toNat 32 ∧
      (¬(BitVec.extractLsb' 16 2 (lineW (lineAt (issued t (↑c : ℕ) s) (((atIssue t (↑c : ℕ) s).cap x.ks).base.toNat + 24)) 0) = 0 ∧ GoodCode (Cap.ofLine (lineAt (issued t (↑c : ℕ) s) (((atIssue t (↑c : ℕ) s).cap x.ks).base.toNat + 8 * 0)) (lineTag (issued t (↑c : ℕ) s) (((atIssue t (↑c : ℕ) s).cap x.ks).base.toNat + 8 * 0))) ∧ GoodStack (Cap.ofLine (lineAt (issued t (↑c : ℕ) s) (((atIssue t (↑c : ℕ) s).cap x.ks).base.toNat + 8 * 1)) (lineTag (issued t (↑c : ℕ) s) (((atIssue t (↑c : ℕ) s).cap x.ks).base.toNat + 8 * 1))) ∧ (Cap.ofLine (lineAt (issued t (↑c : ℕ) s) (((atIssue t (↑c : ℕ) s).cap x.ks).base.toNat + 8 * 2)) (lineTag (issued t (↑c : ℕ) s) (((atIssue t (↑c : ℕ) s).cap x.ks).base.toNat + 8 * 2))).tag = true))) ∧
    (∃ (t : ℕ) (c : Fin 16) (x : Fields) (s : State), CoreReady t s (↑c : ℕ) ∧
      x.kt = 0 ∧
      x.resK = 0 ∧
      (((atIssue t (↑c : ℕ) s).cap x.ks).tag = true ∧ ((atIssue t (↑c : ℕ) s).cap x.ks).otype = 63 ∧ ((atIssue t (↑c : ℕ) s).cap x.ks).has permGT = true ∧ ((atIssue t (↑c : ℕ) s).cap x.ks).has permEX = false ∧ 32 ≤ ((atIssue t (↑c : ℕ) s).cap x.ks).len.toNat ∧ ((atIssue t (↑c : ℕ) s).cap x.ks).base.toNat % 8 = 0) ∧
      (∀ i ∈ [24, 0, 8, 16], regionOf (((atIssue t (↑c : ℕ) s).cap x.ks).base.toNat + i) = Region.sram ∧ awaitsBank (issued t (↑c : ℕ) s) (↑c : ℕ) (bankAt (((atIssue t (↑c : ℕ) s).cap x.ks).base.toNat + i)) = false) ∧
      (∀ i ∈ [24, 0, 8, 16], ownsBank (issued t (↑c : ℕ) s) (↑c : ℕ) (bankAt (((atIssue t (↑c : ℕ) s).cap x.ks).base.toNat + i)) = true) ∧
      wordsGood (issued t (↑c : ℕ) s) ((atIssue t (↑c : ℕ) s).cap x.ks).base.toNat 32 ∧
      (BitVec.extractLsb' 16 2 (lineW (lineAt (issued t (↑c : ℕ) s) (((atIssue t (↑c : ℕ) s).cap x.ks).base.toNat + 24)) 0) = 0 ∧ GoodCode (Cap.ofLine (lineAt (issued t (↑c : ℕ) s) (((atIssue t (↑c : ℕ) s).cap x.ks).base.toNat + 8 * 0)) (lineTag (issued t (↑c : ℕ) s) (((atIssue t (↑c : ℕ) s).cap x.ks).base.toNat + 8 * 0))) ∧ GoodStack (Cap.ofLine (lineAt (issued t (↑c : ℕ) s) (((atIssue t (↑c : ℕ) s).cap x.ks).base.toNat + 8 * 1)) (lineTag (issued t (↑c : ℕ) s) (((atIssue t (↑c : ℕ) s).cap x.ks).base.toNat + 8 * 1))) ∧ (Cap.ofLine (lineAt (issued t (↑c : ℕ) s) (((atIssue t (↑c : ℕ) s).cap x.ks).base.toNat + 8 * 2)) (lineTag (issued t (↑c : ℕ) s) (((atIssue t (↑c : ℕ) s).cap x.ks).base.toNat + 8 * 2))).tag = true) ∧
      frameWaits (issued t (↑c : ℕ) s) (↑c : ℕ) = false ∧
      (atIssue t (↑c : ℕ) s).fq.length ≤ 11 ∧
      (NoFrameArea (issued t (↑c : ℕ) s) (↑c : ℕ) ∨ (issued t (↑c : ℕ) s).get F.CORE_FSP_depth (↑c : ℕ) = (issued t (↑c : ℕ) s).get F.CORE_FRM_size (↑c : ℕ))) ∧
    (∃ (t : ℕ) (c : Fin 16) (x : Fields) (s : State), CoreReady t s (↑c : ℕ) ∧
      x.kt = 0 ∧
      x.resK = 0 ∧
      ((atIssue t (↑c : ℕ) s).cap x.ks).tag = false) ∧
    (∃ (t : ℕ) (c : Fin 16) (x : Fields) (s : State), CoreReady t s (↑c : ℕ) ∧
      x.kt = 0 ∧
      x.resK = 0 ∧
      ((atIssue t (↑c : ℕ) s).cap x.ks).tag = true ∧
      (((atIssue t (↑c : ℕ) s).cap x.ks).otype ≠ 63 ∨ ((atIssue t (↑c : ℕ) s).cap x.ks).has permGT = false ∨ ((atIssue t (↑c : ℕ) s).cap x.ks).has permEX = true ∨ ((atIssue t (↑c : ℕ) s).cap x.ks).base.toNat % 8 ≠ 0 ∨ ((atIssue t (↑c : ℕ) s).cap x.ks).len.toNat < 32)) :=
  ⟨⟨6400000000000, 0, (0 : Fields), (withFrames (withDesc (running { core0 with k := [(0, { base := 8388608, len := 32, perm := 64, otype := 63, tag := true })] }) 8388608 aDesc 0)), aDesc, (by unfold CoreReady; decide), by decide, by decide, by decide, by decide, by decide, by decide, by decide, by decide, ⟨by decide, good_range _ _ _ (by decide), by decide, by decide, by decide, by decide, by decide, by decide, by decide, by decide⟩, by decide, by decide⟩,
    ⟨6400000000000, 0, (0 : Fields), (running { core0 with k := [(0, { base := 0, len := 32, perm := 64, otype := 63, tag := true })] }), (by unfold CoreReady; decide), by decide, by decide, by decide, by decide⟩,
    ⟨6400000000000, 0, (0 : Fields), ((running { core0 with k := [(0, { base := 8388608, len := 32, perm := 64, otype := 63, tag := true })] }).put F.BANK_OWN_id 0 7), 24, (by unfold CoreReady; decide), by decide, by decide, by decide, by decide, by decide⟩,
    ⟨6400000000000, 0, (0 : Fields), ((running { core0 with k := [(0, { base := 8388608, len := 32, perm := 64, otype := 63, tag := true })] }).setSram 12 { w := 0, tag := false, ecc := .bad }), (by unfold CoreReady; decide), by decide, by decide, by decide, by decide, by decide, by decide⟩,
    ⟨6400000000000, 0, (0 : Fields), (withDesc (running { core0 with k := [(0, { base := 8388608, len := 32, perm := 64, otype := 63, tag := true })] }) 8388608 aDesc 1), (by unfold CoreReady; decide), by decide, by decide, by decide, by decide, by decide, (good_range _ _ _ (by decide)), (by unfold GoodCode GoodStack; decide)⟩,
    ⟨6400000000000, 0, (0 : Fields), (withDesc (running { core0 with k := [(0, { base := 8388608, len := 32, perm := 64, otype := 63, tag := true })] }) 8388608 aDesc 0), (by unfold CoreReady; decide), by decide, by decide, by decide, by decide, by decide, (good_range _ _ _ (by decide)), (by unfold GoodCode GoodStack; decide), by decide, by decide, (by unfold NoFrameArea; decide)⟩,
    ⟨6400000000000, 0, (0 : Fields), (running { core0 with k := [] }), (by unfold CoreReady; decide), by decide, by decide, by decide⟩,
    ⟨6400000000000, 0, (0 : Fields), (running core0), (by unfold CoreReady; decide), by decide, by decide, by decide, by decide⟩⟩

/-- The hypotheses of clauses of `Obligations.InstructionsStopped` are met. -/
theorem wit_InstructionsStopped_IllegalEncodings_1 :
    (∃ (t : ℕ) (c : Fin 16) (x : Fields) (s : State) (m : CoreCmd), CoreReady t s (↑c : ℕ) ∧
      (m ∈ List.map (fun x ↦ x.1) pairTable ++ List.map (fun x ↦ x.1) pairShifts ++ [Instr.movD]) ∧
      (x.f27 % 2 = 1 ∨ x.f23 % 2 = 1 ∨ x.f19 % 2 = 1 ∨ x.tan ≠ 0)) ∧
    (∃ (t : ℕ) (c : Fin 16) (x : Fields) (s : State) (m : CoreCmd), CoreReady t s (↑c : ℕ) ∧
      (m ∈ List.map (fun x ↦ x.1) immTable ++ List.map (fun x ↦ x.1) immShifts ++ [Instr.addiD]) ∧
      x.res19 ≠ 0) ∧
    (∃ (t : ℕ) (c : Fin 16) (x : Fields) (s : State) (m : CoreCmd), CoreReady t s (↑c : ℕ) ∧
      (m ∈ List.map (fun x ↦ x.1) immShifts) ∧
      32 ≤ x.imm.toNat) ∧
    (∃ (t : ℕ) (c : Fin 16) (x : Fields) (s : State) (m : CoreCmd), CoreReady t s (↑c : ℕ) ∧
      m ∈ [Instr.mulS, Instr.mulU, Instr.macS, Instr.macU, Instr.mscS, Instr.mscU] ∧
      (x.f27 ≠ 0 ∨ x.tan ≠ 0)) ∧
    (∃ (t : ℕ) (c : Fin 16) (x : Fields) (s : State) (m : CoreCmd), CoreReady t s (↑c : ℕ) ∧
      m ∈ [Instr.nop, Instr.fence, Instr.wfi, Instr.syncI, Instr.lbrk, Instr.paz] ∧
      x ≠ 0) ∧
    (∃ (t : ℕ) (c : Fin 16) (x : Fields) (s : State) (m : CoreCmd), CoreReady t s (↑c : ℕ) ∧
      m ∈ [Instr.divS, Instr.divU, Instr.divDs, Instr.divDu] ∧
      (x.f27 % 2 = 1 ∨ x.tan ≠ 0)) ∧
    (∃ (t : ℕ) (c : Fin 16) (x : Fields) (s : State) (m : CoreCmd), CoreReady t s (↑c : ℕ) ∧
      m ∈ [Instr.divDs, Instr.divDu] ∧
      x.f23 % 2 = 1) ∧
    (∃ (t : ℕ) (c : Fin 16) (x : Fields) (s : State), CoreReady t s (↑c : ℕ) ∧
      x.f19 ≠ 0) ∧
    (∃ (t : ℕ) (c : Fin 16) (x : Fields) (s : State), CoreReady t s (↑c : ℕ) ∧
      (x.f23 ≠ 0 ∨ x.tan ≠ 0)) :=
  ⟨⟨6400000000000, 0, (1 : Fields), (running core0), pairTable[0].1, (by unfold CoreReady; decide), (.head _), by decide⟩,
    ⟨6400000000000, 0, (262144 : Fields), (running core0), immTable[0].1, (by unfold CoreReady; decide), (.head _), by decide⟩,
    ⟨6400000000000, 0, (32 : Fields), (running core0), immShifts[0].1, (by unfold CoreReady; decide), (.head _), by decide⟩,
    ⟨6400000000000, 0, (1 : Fields), (running core0), Instr.mulS, (by unfold CoreReady; decide), (.head _), by decide⟩,
    ⟨6400000000000, 0, (1 : Fields), (running core0), Instr.nop, (by unfold CoreReady; decide), (.head _), by decide⟩,
    ⟨6400000000000, 0, (1 : Fields), (running core0), Instr.divS, (by unfold CoreReady; decide), (.head _), by decide⟩,
    ⟨6400000000000, 0, (1048576 : Fields), (running core0), Instr.divDs, (by unfold CoreReady; decide), (.head _), by decide⟩,
    ⟨6400000000000, 0, (65536 : Fields), (running core0), (by unfold CoreReady; decide), by decide⟩,
    ⟨6400000000000, 0, (1 : Fields), (running core0), (by unfold CoreReady; decide), by decide⟩⟩

/-- The hypotheses of clauses of `Obligations.InstructionsStopped` are met. -/
theorem wit_InstructionsStopped_IllegalEncodings_2 :
    (∃ (t : ℕ) (c : Fin 16) (x : Fields) (s : State), CoreReady t s (↑c : ℕ) ∧
      x.b24 ≠ 0) ∧
    (∃ (t : ℕ) (c : Fin 16) (x : Fields) (s : State), CoreReady t s (↑c : ℕ) ∧
      (x.b24 ≠ 0 ∨ x.resJR ≠ 0)) ∧
    (∃ (t : ℕ) (c : Fin 16) (x : Fields) (s : State), CoreReady t s (↑c : ℕ) ∧
      x.resT ≠ 0) ∧
    (∃ (t : ℕ) (c : Fin 16) (x : Fields) (s : State), CoreReady t s (↑c : ℕ) ∧
      x.resLP ≠ 0) ∧
    (∃ (t : ℕ) (c : Fin 16) (x : Fields) (s : State), CoreReady t s (↑c : ℕ) ∧
      x.b20 = 1) ∧
    (∃ (t : ℕ) (c : Fin 16) (x : Fields) (s : State), CoreReady t s (↑c : ℕ) ∧
      x.f27 % 2 = 1) ∧
    (∃ (t : ℕ) (c : Fin 16) (x : Fields) (s : State), CoreReady t s (↑c : ℕ) ∧
      8 ≤ x.f27) ∧
    (∃ (t : ℕ) (c : Fin 16) (x : Fields) (s : State) (m : CoreCmd), CoreReady t s (↑c : ℕ) ∧
      m ∈ [Instr.lp, Instr.lpi] ∧
      x.offL = 0) ∧
    (∃ (t : ℕ) (c : Fin 16) (x : Fields) (s : State) (m : CoreCmd), CoreReady t s (↑c : ℕ) ∧
      m ∈ [Instr.kmov, Instr.kclr, Instr.kbase, Instr.klen, Instr.kperm, Instr.ktype, Instr.knar, Instr.ksr, Instr.kprm, Instr.kseal, Instr.kopen, Instr.kpc, Instr.kgo, Instr.rett] ∧
      (x.kt ≠ 0 ∨ x.resK ≠ 0)) :=
  ⟨⟨6400000000000, 0, (16777216 : Fields), (running core0), (by unfold CoreReady; decide), by decide⟩,
    ⟨6400000000000, 0, (1 : Fields), (running core0), (by unfold CoreReady; decide), by decide⟩,
    ⟨6400000000000, 0, (512 : Fields), (running core0), (by unfold CoreReady; decide), by decide⟩,
    ⟨6400000000000, 0, (32768 : Fields), (running core0), (by unfold CoreReady; decide), by decide⟩,
    ⟨6400000000000, 0, (1048576 : Fields), (running core0), (by unfold CoreReady; decide), by decide⟩,
    ⟨6400000000000, 0, (16777216 : Fields), (running core0), (by unfold CoreReady; decide), by decide⟩,
    ⟨6400000000000, 0, (134217728 : Fields), (running core0), (by unfold CoreReady; decide), by decide⟩,
    ⟨6400000000000, 0, (0 : Fields), (running core0), Instr.lp, (by unfold CoreReady; decide), (.head _), by decide⟩,
    ⟨6400000000000, 0, (1 : Fields), (running core0), Instr.kmov, (by unfold CoreReady; decide), (.head _), by decide⟩⟩

/-- The hypotheses of clauses of `Obligations.InstructionsStopped` are met. -/
theorem wit_InstructionsStopped_IllegalEncodings_3 :
    (∃ (t : ℕ) (c : Fin 16) (x : Fields) (s : State), CoreReady t s (↑c : ℕ) ∧
      x.rK % 4 ≠ 0) ∧
    (∃ (t : ℕ) (c : Fin 16) (x : Fields) (s : State) (m : CoreCmd), CoreReady t s (↑c : ℕ) ∧
      m ∈ [Instr.mfs, Instr.mts] ∧
      (12 ≤ x.spec ∧ x.spec ≤ 19 ∨ 22 ≤ x.spec)) ∧
    (∃ (t : ℕ) (c : Fin 16) (x : Fields) (s : State), CoreReady t s (↑c : ℕ) ∧
      (x.spec = 5 ∨ x.spec = 20 ∨ x.spec = 21)) ∧
    (∃ (t : ℕ) (c : Fin 16) (x : Fields) (s : State), CoreReady t s (↑c : ℕ) ∧
      x.spec = 6 ∧
      4 < BitVec.toNat ((s.coreOf (↑c : ℕ)).rd x.f27)) ∧
    (∃ (t : ℕ) (c : Fin 16) (x : Fields) (s : State) (m : CoreCmd), CoreReady t s (↑c : ℕ) ∧
      m ∈ [Instr.mfsD, Instr.mtsD] ∧
      (x.f27 % 2 = 1 ∨ x.spec < 12 ∨ 20 ≤ x.spec)) ∧
    (∃ (t : ℕ) (c : Fin 16) (x : Fields) (s : State) (m : CoreCmd), CoreReady t s (↑c : ℕ) ∧
      m ∈ [Instr.mfs, Instr.mts, Instr.mfsD, Instr.mtsD] ∧
      x.resS ≠ 0) ∧
    (∃ (t : ℕ) (c : Fin 16) (x : Fields) (s : State) (m : CoreCmd), CoreReady t s (↑c : ℕ) ∧
      m ∈ [Instr.addiD, Instr.beqD, Instr.bneD, Instr.bltD, Instr.bgeD, Instr.bltuD, Instr.bgeuD] ∧
      (x.f27 % 2 = 1 ∨ x.f23 % 2 = 1)) ∧
    (∃ (t : ℕ) (c : Fin 16) (x : Fields) (s : State) (m : CoreCmd), CoreReady t s (↑c : ℕ) ∧
      m ∈ [Instr.kbase, Instr.klen] ∧
      x.rK % 2 = 1) :=
  ⟨⟨6400000000000, 0, (32768 : Fields), (running core0), (by unfold CoreReady; decide), by decide⟩,
    ⟨6400000000000, 0, (22 : Fields), (running core0), Instr.mfs, (by unfold CoreReady; decide), (.head _), by decide⟩,
    ⟨6400000000000, 0, (21 : Fields), (running core0), (by unfold CoreReady; decide), by decide⟩,
    ⟨6400000000000, 0, (16777222 : Fields), (running { core0 with w := [(1, 5)] }), (by unfold CoreReady; decide), by decide, by decide⟩,
    ⟨6400000000000, 0, (20 : Fields), (running core0), Instr.mfsD, (by unfold CoreReady; decide), (.head _), by decide⟩,
    ⟨6400000000000, 0, (64 : Fields), (running core0), Instr.mfs, (by unfold CoreReady; decide), (.head _), by decide⟩,
    ⟨6400000000000, 0, (1048576 : Fields), (running core0), Instr.addiD, (by unfold CoreReady; decide), (.head _), by decide⟩,
    ⟨6400000000000, 0, (32768 : Fields), (running core0), Instr.kbase, (by unfold CoreReady; decide), (.head _), by decide⟩⟩

/-- The hypotheses of clauses of `Obligations.PairAndImmediateInstructions` are met. -/
theorem wit_PairAndImmediateInstructions_ImmediateResults :
    (∃ (t : ℕ) (c : Fin 16) (x : Fields) (s : State) (e : CoreCmd × (Word → Word → Word)), CoreReady t s (↑c : ℕ) ∧
      x.res19 = 0 ∧
      e ∈ immTable) ∧
    (∃ (t : ℕ) (c : Fin 16) (x : Fields) (s : State) (e : CoreCmd × (Word → ℕ → Word)), CoreReady t s (↑c : ℕ) ∧
      x.res19 = 0 ∧
      x.imm.toNat < 32 ∧
      e ∈ immShifts) ∧
    (∃ (t : ℕ) (c : Fin 16) (x : Fields) (s : State), CoreReady t s (↑c : ℕ) ∧
      x.res19 = 0 ∧
      x.f27 % 2 = 0 ∧
      x.f23 % 2 = 0) :=
  ⟨⟨6400000000000, 0, (54788095 : Fields), (running core0), immTable[0], (by unfold CoreReady; decide), by decide, (List.getElem_mem (by decide))⟩,
    ⟨6400000000000, 0, (54525983 : Fields), (running core0), immShifts[2], (by unfold CoreReady; decide), by decide, by decide, (List.getElem_mem (by decide))⟩,
    ⟨6400000000000, 0, (0 : Fields), (running core0), (by unfold CoreReady; decide), by decide, by decide, by decide⟩⟩

/-- The hypotheses of clauses of `Obligations.InterruptsAndWinner` are met. -/
theorem wit_InterruptsAndWinner_Interrupts :
    (∃ (c : Fin 16) (s : State), s.is F.VU_STAT_ldbusy (↑c : ℕ) = false) ∧
    (∃ (c : Fin 16) (s : State), s.is F.VU_STAT_ldbusy (↑c : ℕ) = true) ∧
    (∃ (c : Fin 16) (s : State) (at_ : ℕ) (u : ℕ) (d : Desc), (s.coreOf (↑c : ℕ)).load = some (at_, [u]) ∧
      u < 128 ∧
      inOneBank (s.get F.VU_VTAB_base (↑c : ℕ) + 32 * u) 32 = true ∧
      s.get F.BANK_OWN_kind (bankAt (s.get F.VU_VTAB_base (↑c : ℕ) + 32 * u)) = 0 ∧
      s.get F.BANK_OWN_id (bankAt (s.get F.VU_VTAB_base (↑c : ℕ) + 32 * u)) = (↑c : ℕ) ∧
      s.bankOf (bankAt (s.get F.VU_VTAB_base (↑c : ℕ) + 32 * u)) = none ∧
      DescAt s (s.get F.VU_VTAB_base (↑c : ℕ) + 32 * u) d) ∧
    (∃ (c : Fin 16) (s : State) (u : ℕ), s.rung = 0 ∧
      s.dozeOf ((↑c : ℕ) / 4) = false ∧
      s.get F.CORE_STAT_state (↑c : ℕ) = 1 ∧
      winner s (↑c : ℕ) = some u ∧
      (slack s = true ∨ icHit s (↑c : ℕ) (Store.get (fun x ↦ { }) (s.coreOf (↑c : ℕ)).desc u).code.base.toNat = true)) ∧
    (∃ (c : Fin 16) (s : State) (u : ℕ), s.rung = 0 ∧
      s.dozeOf ((↑c : ℕ) / 4) = false ∧
      s.get F.CORE_STAT_state (↑c : ℕ) = 1 ∧
      winner s (↑c : ℕ) = some u ∧
      slack s = false ∧
      (regionOf (Store.get (fun x ↦ { }) (s.coreOf (↑c : ℕ)).desc u).code.base.toNat = Region.rom)) ∧
    (∃ (c : Fin 16) (s : State) (u : ℕ), s.rung < 3 ∧
      s.get F.CORE_STAT_state (↑c : ℕ) = 2 ∧
      winner s (↑c : ℕ) = some u ∧
      (slack s = true ∨ icHit s (↑c : ℕ) (Store.get (fun x ↦ { }) (s.coreOf (↑c : ℕ)).desc u).code.base.toNat = true)) ∧
    (∃ (c : Fin 16) (s : State) (u : ℕ), winner s (↑c : ℕ) = some u ∧
      canTake s (↑c : ℕ) = true ∧
      (s.coreOf (↑c : ℕ)).mul = none ∧
      (s.coreOf (↑c : ℕ)).pres.isSome = true ∧
      (s.coreOf (↑c : ℕ)).fq.length < 12 ∧
      frameStep s (↑c : ℕ) = 0) :=
  ⟨⟨0, (State.reset.put F.VU_STAT_ldbusy 0 0), by decide⟩,
    ⟨0, (State.reset.put F.VU_STAT_ldbusy 0 1), by decide⟩,
    ⟨0, (withDesc ((running { core0 with load := some (0, [127]) }).put F.VU_VTAB_base 0 8388608) (8388608 + 32 * 127) aDesc 0), 0, 127, aDesc, by decide, by decide, by decide, by decide, by decide, by decide, ⟨by decide, good_range _ _ _ (by decide), by decide, by decide, by decide, by decide, by decide, by decide, by decide, by decide⟩⟩,
    ⟨0, ({ (withVector (running { core0 with ic := [(0, true)] })) with rung := 0 }.put F.CORE_STAT_state 0 1), 5, by decide, by decide, by decide, by decide, by decide⟩,
    ⟨0, ({ (withVector (running { core0 with desc := [(5, { code := { base := 12582912 } })] })) with rung := 0 }.put F.CORE_STAT_state 0 1), 5, by decide, by decide, by decide, by decide, by decide, by decide⟩,
    ⟨0, (((withVector (running { core0 with ic := [(0, true)] })).put F.CORE_STAT_state 0 2).put F.CORE_STAT_state 0 2), 5, by decide, by decide, by decide, by decide⟩,
    ⟨0, (withFrames (withVector (running { core0 with pres := some 5 }))), 5, by decide, by decide, by decide, by decide, by decide, by decide⟩⟩

/-- The hypotheses of clauses of `Obligations.FlashAndJournal` are met. -/
theorem wit_FlashAndJournal_Journal :
    (∃ (s : State), s.is F.MFU_JCTL_en 0 = true ∧
      (sliceSections s).isEmpty = false ∧
      s.is F.PWR_PFSTAT_act 0 = false ∧
      s.journal.forceDue = false ∧
      tbPast (s.mfu.sliceUs * 64000) (s.journal.perUs * 64000) = true ∧
      (s.journal.pos + (record s s.journal.fresh false 0).length + fullLines s ≤ 1024 ∨ s.journal.pos + (record s s.journal.fresh false 0).length ≤ 1024 ∧ blkErased s (jrnBlk s (s.journal.cur + 1)) = true) ∧
      ((s.flOf (jrnBlk s s.journal.cur / 256)).run = none ∧ (s.flOf (jrnBlk s s.journal.cur / 256)).jq = [])) ∧
    (∃ (s : State), s.is F.MFU_JCTL_en 0 = true ∧
      (sliceSections s).isEmpty = false ∧
      s.is F.PWR_PFSTAT_act 0 = false ∧
      s.journal.forceDue = false ∧
      tbPast (s.mfu.sliceUs * 64000) (s.journal.perUs * 64000) = true ∧
      1024 < s.journal.pos + (record s s.journal.fresh false 0).length + fullLines s ∧
      blkErased s (jrnBlk s (s.journal.cur + 1)) = false) ∧
    (∃ (s : State), s.is F.MFU_JCTL_en 0 = true ∧
      (sliceSections s).isEmpty = false ∧
      s.is F.PWR_PFSTAT_act 0 = false ∧
      s.journal.forceDue = false ∧
      tbPast (s.mfu.sliceUs * 64000) (s.journal.perUs * 64000) = true ∧
      1024 < s.journal.pos + (record s s.journal.fresh false 0).length ∧
      blkErased s (jrnBlk s (s.journal.cur + 1)) = true ∧
      ((s.flOf (jrnBlk s s.journal.cur / 256)).run = none ∧ (s.flOf (jrnBlk s s.journal.cur / 256)).jq = []) ∧
      jrnBlk s (s.journal.cur + 2) / 256 = jrnBlk s s.journal.cur / 256) ∧
    (∃ (s : State), s.is F.MFU_JCTL_en 0 = true ∧
      (sliceSections s).isEmpty = false ∧
      s.is F.PWR_PFSTAT_act 0 = false ∧
      s.journal.forceDue = true ∧
      1024 < s.journal.pos + (record s true false 0).length + fullLines s ∧
      blkErased s (jrnBlk s (s.journal.cur + 1)) = false ∧
      tbPast (s.mfu.sliceUs * 64000) (s.journal.perUs * 64000) = true) ∧
    (∃ (s : State), s.is F.MFU_JCTL_en 0 = true ∧
      (sliceSections s).isEmpty = false ∧
      s.is F.PWR_PFSTAT_act 0 = false ∧
      s.journal.forceDue = true ∧
      (s.journal.pos + (record s true false 0).length + fullLines s ≤ 1024 ∨ s.journal.pos + (record s true false 0).length ≤ 1024 ∧ blkErased s (jrnBlk s (s.journal.cur + 1)) = true) ∧
      ((s.flOf (jrnBlk s s.journal.cur / 256)).run = none ∧ (s.flOf (jrnBlk s s.journal.cur / 256)).jq = [])) ∧
    (∃ (s : State), s.is F.MFU_JCTL_en 0 = true ∧
      (sliceSections s).isEmpty = false ∧
      s.is F.PWR_PFSTAT_act 0 = false ∧
      s.journal.forceDue = true ∧
      1024 < s.journal.pos + (record s true false 0).length ∧
      blkErased s (jrnBlk s (s.journal.cur + 1)) = true ∧
      ((s.flOf (jrnBlk s s.journal.cur / 256)).run = none ∧ (s.flOf (jrnBlk s s.journal.cur / 256)).jq = []) ∧
      jrnBlk s (s.journal.cur + 2) / 256 = jrnBlk s s.journal.cur / 256) ∧
    (∃ (s : State), s.is F.MFU_JCTL_en 0 = true ∧
      (sliceSections s).isEmpty = false ∧
      s.is F.PWR_PFSTAT_act 0 = true ∧
      s.journal.pf = false ∧
      s.mfu.frozenUs.isSome = true ∧
      ((s.flOf (jrnBlk s s.journal.cur / 256)).run = none ∧ (s.flOf (jrnBlk s s.journal.cur / 256)).jq = []) ∧
      s.journal.pos + (record s s.journal.full.isNone true s.mfu.ticks).length ≤ 1024) ∧
    (∃ (s : State), s.is F.MFU_JCTL_en 0 = true ∧
      (sliceSections s).isEmpty = false ∧
      s.is F.PWR_PFSTAT_act 0 = true ∧
      s.journal.pf = false ∧
      s.mfu.frozenUs.isSome = true ∧
      ((s.flOf (jrnBlk s s.journal.cur / 256)).run = none ∧ (s.flOf (jrnBlk s s.journal.cur / 256)).jq = []) ∧
      1024 < s.journal.pos + (record s s.journal.full.isNone true s.mfu.ticks).length) :=
  ⟨⟨{ ((({ State.reset with mfu := { slice := [(0, some {})] } }).put F.MFU_JCTL_en 0 1).put F.PWR_PFSTAT_act 0 0) with journal := { (((({ State.reset with mfu := { slice := [(0, some {})] } }).put F.MFU_JCTL_en 0 1).put F.PWR_PFSTAT_act 0 0)).journal with forceDue := false } }, by decide, by decide, by decide, by decide, by decide, by decide, by decide⟩,
    ⟨((({ (((State.reset.put F.MFU_JCTL_en 0 1).put F.PWR_PFSTAT_act 0 0)).setFlBlk 1 { ecomp := false } with mfu := { slice := [(0, some {})], frozenUs := some 0, sliceUs := 100000000 }, journal := { pos := 1024, forceDue := false } }).put F.MFU_JCTL_en 0 1).put F.PWR_PFSTAT_act 0 0), by decide, by decide, by decide, by decide, by decide, by decide, by decide⟩,
    ⟨((({ ((State.reset.put F.MFU_JCTL_en 0 1).put F.PWR_PFSTAT_act 0 0) with mfu := { slice := [(0, some {})], frozenUs := some 0, sliceUs := 100000000 }, journal := { pos := 1024, forceDue := false } }).put F.MFU_JCTL_en 0 1).put F.PWR_PFSTAT_act 0 0), by decide, by decide, by decide, by decide, by decide, by decide, by decide, by decide, by decide⟩,
    ⟨((({ (((State.reset.put F.MFU_JCTL_en 0 1).put F.PWR_PFSTAT_act 0 0)).setFlBlk 1 { ecomp := false } with mfu := { slice := [(0, some {})], frozenUs := some 0, sliceUs := 100000000 }, journal := { pos := 1024, forceDue := true } }).put F.MFU_JCTL_en 0 1).put F.PWR_PFSTAT_act 0 0), by decide, by decide, by decide, by decide, by decide, by decide, by decide⟩,
    ⟨((({ ((State.reset.put F.MFU_JCTL_en 0 1).put F.PWR_PFSTAT_act 0 0) with mfu := { slice := [(0, some {})], frozenUs := some 0, sliceUs := 100000000 }, journal := { pos := 0, forceDue := true } }).put F.MFU_JCTL_en 0 1).put F.PWR_PFSTAT_act 0 0), by decide, by decide, by decide, by decide, by decide, by decide⟩,
    ⟨((({ ((State.reset.put F.MFU_JCTL_en 0 1).put F.PWR_PFSTAT_act 0 0) with mfu := { slice := [(0, some {})], frozenUs := some 0, sliceUs := 100000000 }, journal := { pos := 1024, forceDue := true } }).put F.MFU_JCTL_en 0 1).put F.PWR_PFSTAT_act 0 0), by decide, by decide, by decide, by decide, by decide, by decide, by decide, by decide⟩,
    ⟨((({ ((State.reset.put F.MFU_JCTL_en 0 1).put F.PWR_PFSTAT_act 0 1) with mfu := { slice := [(0, some {})], frozenUs := some 0, sliceUs := 100000000 }, journal := { pos := 0, forceDue := false } }).put F.MFU_JCTL_en 0 1).put F.PWR_PFSTAT_act 0 1), by decide, by decide, by decide, by decide, by decide, by decide, by decide⟩,
    ⟨((({ ((State.reset.put F.MFU_JCTL_en 0 1).put F.PWR_PFSTAT_act 0 1) with mfu := { slice := [(0, some {})], frozenUs := some 0, sliceUs := 100000000 }, journal := { pos := 1024, forceDue := false } }).put F.MFU_JCTL_en 0 1).put F.PWR_PFSTAT_act 0 1), by decide, by decide, by decide, by decide, by decide, by decide, by decide⟩⟩

/-- The hypotheses of clauses of `Obligations.BranchesAndJumps` are met. -/
theorem wit_BranchesAndJumps_Jumps :
    (∃ (t : ℕ) (c : Fin 16) (x : Fields) (s : State), CoreReady t s (↑c : ℕ) ∧
      x.b24 = 0 ∧
      TargetOk (atIssue t (↑c : ℕ) s) ((↑(atIssue t (↑c : ℕ) s).pc.toNat : ℤ) + 4 * x.offJ)) ∧
    (∃ (t : ℕ) (c : Fin 16) (x : Fields) (s : State), CoreReady t s (↑c : ℕ) ∧
      x.b24 = 0 ∧
      (¬TargetOk (atIssue t (↑c : ℕ) s) ((↑(atIssue t (↑c : ℕ) s).pc.toNat : ℤ) + 4 * x.offJ))) ∧
    (∃ (t : ℕ) (c : Fin 16) (x : Fields) (s : State), CoreReady t s (↑c : ℕ) ∧
      x.b24 = 0 ∧
      x.resJR = 0 ∧
      TargetOk (atIssue t (↑c : ℕ) s) (((BitVec.toNat ((atIssue t (↑c : ℕ) s).rdP (2 * x.dn)) % 2 ^ 27 : ℕ) : ℤ) : ℤ)) ∧
    (∃ (t : ℕ) (c : Fin 16) (x : Fields) (s : State), CoreReady t s (↑c : ℕ) ∧
      x.b24 = 0 ∧
      x.resJR = 0 ∧
      (¬TargetOk (atIssue t (↑c : ℕ) s) (((BitVec.toNat ((atIssue t (↑c : ℕ) s).rdP (2 * x.dn)) % 2 ^ 27 : ℕ) : ℤ) : ℤ))) :=
  ⟨⟨6400000000000, 0, (0 : Fields), (running core0), (by unfold CoreReady; decide), by decide, (by unfold TargetOk; decide)⟩,
    ⟨6400000000000, 0, (15 : Fields), (running { core0 with pcc := { aCap with len := 64 } }), (by unfold CoreReady; decide), by decide, (by unfold TargetOk; decide)⟩,
    ⟨6400000000000, 0, (0 : Fields), (running { core0 with w := [(1, 60)], pcc := { aCap with len := 64 } }), (by unfold CoreReady; decide), by decide, by decide, (by unfold TargetOk; decide)⟩,
    ⟨6400000000000, 0, (0 : Fields), (running { core0 with w := [(1, 64)], pcc := { aCap with len := 64 } }), (by unfold CoreReady; decide), by decide, by decide, (by unfold TargetOk; decide)⟩⟩

/-- The hypotheses of clauses of `Obligations.KeysTamperAndDebug` are met. -/
theorem wit_KeysTamperAndDebug_KeyUnitAndTamper_1 :
    (∃ (s : State), s.is F.GRF_LOCK_lk 0 = false) ∧
    (∃ (s : State), s.is F.GRF_LOCK_lk 0 = true) ∧
    (∃ (s : State) (v : Word), F.GRF_LOCK_lk.of (BitVec.toNat v) = 1 ∧
      s.locked RegName.GRF_LOCK 0 = false ∧
      s.is F.GRF_LOCK_lk 0 = false) ∧
    (∃ (t : ℕ) (s : State), s.boot.phase ≠ BootPhase.due ∧
      s.ku.zeroed = false ∧
      s.is F.KU_STAT_hfail 0 = false ∧
      s.ku.rngAt ≤ max s.now t) ∧
    (∃ (t : ℕ) (s : State), s.boot.phase = BootPhase.due ∨ s.ku.zeroed = true ∨ s.is F.KU_STAT_hfail 0 = true ∨ max s.now t < s.ku.rngAt) ∧
    (∃ (s : State), s.is F.KU_STAT_hfail 0 = true) ∧
    (∃ (v : Word), F.KU_CMD_op.of (BitVec.toNat v) = 1) ∧
    (∃ (v : Word), F.KU_CMD_op.of (BitVec.toNat v) = 2) ∧
    (∃ (s : State) (op : ℕ) (slot : ℕ), s.ku.op = some (op, slot) ∧
      op = 1 ∧
      (otpRevoked s slot = false ∧ otpWritten s (32 + 16 * slot) = true)) :=
  ⟨⟨(State.reset.put F.GRF_LOCK_lk 0 0), by decide⟩,
    ⟨(State.reset.put F.GRF_LOCK_lk 0 1), by decide⟩,
    ⟨(State.reset.put F.GRF_LOCK_lk 0 0), (131072 : Word), by decide, by decide, by decide⟩,
    ⟨6400000000000, (({ State.reset with boot := { State.reset.boot with phase := .run } }).put F.KU_STAT_hfail 0 0), by decide, by decide, by decide, by decide⟩,
    ⟨6400000000000, State.reset, by decide⟩,
    ⟨(State.reset.put F.KU_STAT_hfail 0 1), by decide⟩,
    ⟨(65536 : Word), by decide⟩,
    ⟨(131072 : Word), by decide⟩,
    ⟨{ ({ State.reset with otp := (List.range 15).map (fun j => (32 + j, some 5)) }) with ku := { (({ State.reset with otp := (List.range 15).map (fun j => (32 + j, some 5)) })).ku with op := some (1, 0) } }, 1, 0, by decide, by decide, by decide⟩⟩

/-- The hypotheses of clauses of `Obligations.KeysTamperAndDebug` are met. -/
theorem wit_KeysTamperAndDebug_KeyUnitAndTamper_2 :
    (∃ (s : State) (op : ℕ) (slot : ℕ), s.ku.op = some (op, slot) ∧
      op = 1 ∧
      (¬(otpRevoked s slot = false ∧ otpWritten s (32 + 16 * slot) = true))) ∧
    (∃ (s : State) (op : ℕ) (slot : ℕ), s.ku.op = some (op, slot) ∧
      op = 2 ∧
      s.ku.zeroed = false) :=
  ⟨⟨{ State.reset with ku := { (State.reset).ku with op := some (1, 0) } }, 1, 0, by decide, by decide, by decide⟩,
    ⟨{ State.reset with ku := { (State.reset).ku with op := some (2, 0), zeroed := false } }, 2, 0, by decide, by decide, by decide⟩⟩

/-- The hypotheses of clauses of `Obligations.LinkNetworkAndTime` are met. -/
theorem wit_LinkNetworkAndTime_LinkNetwork :
    (∃ (p : Fin 4) (f : Frame) (s : State), InOrder s (↑p : ℕ) f ∧
      f.ty ≠ 6 ∧
      f.dst ≠ BitVec.ofNat 12 (lkOwn s) ∧
      inNetBoot s = false ∧
      f.hops ≠ 0 ∧
      (¬(s.is F.LK_ROUTE_rpf f.src.toNat = true ∧ s.get F.LK_ROUTE_port f.src.toNat ≠ (↑p : ℕ))) ∧
      s.get F.LK_ROUTE_port f.dst.toNat < 4 ∧
      s.get F.LK_ROUTE_port f.dst.toNat ≠ (↑p : ℕ) ∧
      Quiet s (s.get F.LK_ROUTE_port f.dst.toNat) f.cls.toNat ∧
      f.cls.toNat < 3) ∧
    (∃ (p : Fin 4) (f : Frame) (s : State) (j : TxJob), InOrder s (↑p : ℕ) f ∧
      f.ty ≠ 6 ∧
      f.dst ≠ BitVec.ofNat 12 (lkOwn s) ∧
      inNetBoot s = false ∧
      f.hops ≠ 0 ∧
      (¬(s.is F.LK_ROUTE_rpf f.src.toNat = true ∧ s.get F.LK_ROUTE_port f.src.toNat ≠ (↑p : ℕ))) ∧
      (4 ≤ s.get F.LK_ROUTE_port f.dst.toNat ∨ s.get F.LK_PSTAT_state (s.get F.LK_ROUTE_port f.dst.toNat) ≠ 3) ∧
      f.src = BitVec.ofNat 12 (lkOwn s) ∧
      (f.ty = 8 ∨ f.ty = 9 ∨ f.ty = 10) ∧
      (s.txsOf (f.core.toNat * 4 + f.tag.toNat % 4)).job = some j ∧
      f.tag = BitVec.ofNat 8 j.tag) ∧
    (∃ (p : Fin 4) (f : Frame) (s : State), InOrder s (↑p : ℕ) f ∧
      f.ty ≠ 6 ∧
      f.dst ≠ BitVec.ofNat 12 (lkOwn s) ∧
      inNetBoot s = false ∧
      (f.hops = 0 ∨ s.is F.LK_ROUTE_rpf f.src.toNat = true ∧ s.get F.LK_ROUTE_port f.src.toNat ≠ (↑p : ℕ) ∨ (4 ≤ s.get F.LK_ROUTE_port f.dst.toNat ∨ s.get F.LK_PSTAT_state (s.get F.LK_ROUTE_port f.dst.toNat) ≠ 3) ∧ f.src ≠ BitVec.ofNat 12 (lkOwn s)) ∧
      f.cls.toNat < 3 ∧
      s.get F.LK_QUAR_n (↑p : ℕ) = 0) ∧
    (∃ (p : Fin 4) (f : Frame) (s : State), InOrder s (↑p : ℕ) f ∧
      f.ty = 6 ∧
      f.cls.toNat = 2 ∧
      inNetBoot s = false ∧
      s.is F.LK_ROUTE_absent (frameW f 0 % 4096) = false ∧
      (¬(f.hops = 0 ∨ s.is F.LK_ROUTE_rpf f.src.toNat = true ∧ s.get F.LK_ROUTE_port f.src.toNat ≠ (↑p : ℕ)))) ∧
    (∃ (p : Fin 4) (f : Frame) (s : State), InOrder s (↑p : ℕ) f ∧
      f.ty = 6 ∧
      f.cls.toNat = 2 ∧
      inNetBoot s = false ∧
      s.is F.LK_ROUTE_absent (frameW f 0 % 4096) = false ∧
      (f.hops = 0 ∨ s.is F.LK_ROUTE_rpf f.src.toNat = true ∧ s.get F.LK_ROUTE_port f.src.toNat ≠ (↑p : ℕ)) ∧
      s.get F.LK_QUAR_n (↑p : ℕ) = 0) ∧
    (∃ (p : Fin 4) (f : Frame) (s : State), InOrder s (↑p : ℕ) f ∧
      f.ty = 6 ∧
      f.cls.toNat = 2 ∧
      inNetBoot s = false ∧
      s.is F.LK_ROUTE_absent (frameW f 0 % 4096) = true) ∧
    (∃ (t : ℕ) (s : State), max s.now t < s.lku.ldEnd) ∧
    (∃ (t : ℕ) (s : State) (v : Word), s.lku.ldEnd ≤ max s.now t ∧
      F.LK_WLOAD_all.of (BitVec.toNat v) = 0 ∧
      inOneBank (s.get F.LK_WTAB_base 0 + 16 * F.LK_WLOAD_win.of (BitVec.toNat v)) 16 = true ∧
      (∀ i < 8, (s.sramOf (sramIx (s.get F.LK_WTAB_base 0 + 16 * F.LK_WLOAD_win.of (BitVec.toNat v)) + i)).ecc = Ecc.good) ∧
      (s.is F.BANK_STAT_hpend (bankAt (s.get F.LK_WTAB_base 0 + 16 * F.LK_WLOAD_win.of (BitVec.toNat v))) = false ∧ (s.is F.BANK_OWN_gl (bankAt (s.get F.LK_WTAB_base 0 + 16 * F.LK_WLOAD_win.of (BitVec.toNat v))) = true ∨ s.get F.BANK_OWN_kind (bankAt (s.get F.LK_WTAB_base 0 + 16 * F.LK_WLOAD_win.of (BitVec.toNat v))) = 2)) ∧
      ((Cap.ofLine ((s.sramOf (sramIx (s.get F.LK_WTAB_base 0 + 16 * F.LK_WLOAD_win.of (BitVec.toNat v)) + 0)).w ++ (s.sramOf (sramIx (s.get F.LK_WTAB_base 0 + 16 * F.LK_WLOAD_win.of (BitVec.toNat v)) + 1)).w ++ (s.sramOf (sramIx (s.get F.LK_WTAB_base 0 + 16 * F.LK_WLOAD_win.of (BitVec.toNat v)) + 2)).w ++ (s.sramOf (sramIx (s.get F.LK_WTAB_base 0 + 16 * F.LK_WLOAD_win.of (BitVec.toNat v)) + 3)).w) ((s.sramOf (sramIx (s.get F.LK_WTAB_base 0 + 16 * F.LK_WLOAD_win.of (BitVec.toNat v)) + 0)).tag && (s.sramOf (sramIx (s.get F.LK_WTAB_base 0 + 16 * F.LK_WLOAD_win.of (BitVec.toNat v)) + 1)).tag && (s.sramOf (sramIx (s.get F.LK_WTAB_base 0 + 16 * F.LK_WLOAD_win.of (BitVec.toNat v)) + 2)).tag && (s.sramOf (sramIx (s.get F.LK_WTAB_base 0 + 16 * F.LK_WLOAD_win.of (BitVec.toNat v)) + 3)).tag)).tag = true ∧ (Cap.ofLine ((s.sramOf (sramIx (s.get F.LK_WTAB_base 0 + 16 * F.LK_WLOAD_win.of (BitVec.toNat v)) + 0)).w ++ (s.sramOf (sramIx (s.get F.LK_WTAB_base 0 + 16 * F.LK_WLOAD_win.of (BitVec.toNat v)) + 1)).w ++ (s.sramOf (sramIx (s.get F.LK_WTAB_base 0 + 16 * F.LK_WLOAD_win.of (BitVec.toNat v)) + 2)).w ++ (s.sramOf (sramIx (s.get F.LK_WTAB_base 0 + 16 * F.LK_WLOAD_win.of (BitVec.toNat v)) + 3)).w) ((s.sramOf (sramIx (s.get F.LK_WTAB_base 0 + 16 * F.LK_WLOAD_win.of (BitVec.toNat v)) + 0)).tag && (s.sramOf (sramIx (s.get F.LK_WTAB_base 0 + 16 * F.LK_WLOAD_win.of (BitVec.toNat v)) + 1)).tag && (s.sramOf (sramIx (s.get F.LK_WTAB_base 0 + 16 * F.LK_WLOAD_win.of (BitVec.toNat v)) + 2)).tag && (s.sramOf (sramIx (s.get F.LK_WTAB_base 0 + 16 * F.LK_WLOAD_win.of (BitVec.toNat v)) + 3)).tag)).otype = 0 ∧ (8388608 ≤ (Cap.ofLine ((s.sramOf (sramIx (s.get F.LK_WTAB_base 0 + 16 * F.LK_WLOAD_win.of (BitVec.toNat v)) + 0)).w ++ (s.sramOf (sramIx (s.get F.LK_WTAB_base 0 + 16 * F.LK_WLOAD_win.of (BitVec.toNat v)) + 1)).w ++ (s.sramOf (sramIx (s.get F.LK_WTAB_base 0 + 16 * F.LK_WLOAD_win.of (BitVec.toNat v)) + 2)).w ++ (s.sramOf (sramIx (s.get F.LK_WTAB_base 0 + 16 * F.LK_WLOAD_win.of (BitVec.toNat v)) + 3)).w) ((s.sramOf (sramIx (s.get F.LK_WTAB_base 0 + 16 * F.LK_WLOAD_win.of (BitVec.toNat v)) + 0)).tag && (s.sramOf (sramIx (s.get F.LK_WTAB_base 0 + 16 * F.LK_WLOAD_win.of (BitVec.toNat v)) + 1)).tag && (s.sramOf (sramIx (s.get F.LK_WTAB_base 0 + 16 * F.LK_WLOAD_win.of (BitVec.toNat v)) + 2)).tag && (s.sramOf (sramIx (s.get F.LK_WTAB_base 0 + 16 * F.LK_WLOAD_win.of (BitVec.toNat v)) + 3)).tag)).base.toNat ∧ (Cap.ofLine ((s.sramOf (sramIx (s.get F.LK_WTAB_base 0 + 16 * F.LK_WLOAD_win.of (BitVec.toNat v)) + 0)).w ++ (s.sramOf (sramIx (s.get F.LK_WTAB_base 0 + 16 * F.LK_WLOAD_win.of (BitVec.toNat v)) + 1)).w ++ (s.sramOf (sramIx (s.get F.LK_WTAB_base 0 + 16 * F.LK_WLOAD_win.of (BitVec.toNat v)) + 2)).w ++ (s.sramOf (sramIx (s.get F.LK_WTAB_base 0 + 16 * F.LK_WLOAD_win.of (BitVec.toNat v)) + 3)).w) ((s.sramOf (sramIx (s.get F.LK_WTAB_base 0 + 16 * F.LK_WLOAD_win.of (BitVec.toNat v)) + 0)).tag && (s.sramOf (sramIx (s.get F.LK_WTAB_base 0 + 16 * F.LK_WLOAD_win.of (BitVec.toNat v)) + 1)).tag && (s.sramOf (sramIx (s.get F.LK_WTAB_base 0 + 16 * F.LK_WLOAD_win.of (BitVec.toNat v)) + 2)).tag && (s.sramOf (sramIx (s.get F.LK_WTAB_base 0 + 16 * F.LK_WLOAD_win.of (BitVec.toNat v)) + 3)).tag)).base.toNat + (Cap.ofLine ((s.sramOf (sramIx (s.get F.LK_WTAB_base 0 + 16 * F.LK_WLOAD_win.of (BitVec.toNat v)) + 0)).w ++ (s.sramOf (sramIx (s.get F.LK_WTAB_base 0 + 16 * F.LK_WLOAD_win.of (BitVec.toNat v)) + 1)).w ++ (s.sramOf (sramIx (s.get F.LK_WTAB_base 0 + 16 * F.LK_WLOAD_win.of (BitVec.toNat v)) + 2)).w ++ (s.sramOf (sramIx (s.get F.LK_WTAB_base 0 + 16 * F.LK_WLOAD_win.of (BitVec.toNat v)) + 3)).w) ((s.sramOf (sramIx (s.get F.LK_WTAB_base 0 + 16 * F.LK_WLOAD_win.of (BitVec.toNat v)) + 0)).tag && (s.sramOf (sramIx (s.get F.LK_WTAB_base 0 + 16 * F.LK_WLOAD_win.of (BitVec.toNat v)) + 1)).tag && (s.sramOf (sramIx (s.get F.LK_WTAB_base 0 + 16 * F.LK_WLOAD_win.of (BitVec.toNat v)) + 2)).tag && (s.sramOf (sramIx (s.get F.LK_WTAB_base 0 + 16 * F.LK_WLOAD_win.of (BitVec.toNat v)) + 3)).tag)).len.toNat ≤ 12582912 ∨ 16777216 ≤ (Cap.ofLine ((s.sramOf (sramIx (s.get F.LK_WTAB_base 0 + 16 * F.LK_WLOAD_win.of (BitVec.toNat v)) + 0)).w ++ (s.sramOf (sramIx (s.get F.LK_WTAB_base 0 + 16 * F.LK_WLOAD_win.of (BitVec.toNat v)) + 1)).w ++ (s.sramOf (sramIx (s.get F.LK_WTAB_base 0 + 16 * F.LK_WLOAD_win.of (BitVec.toNat v)) + 2)).w ++ (s.sramOf (sramIx (s.get F.LK_WTAB_base 0 + 16 * F.LK_WLOAD_win.of (BitVec.toNat v)) + 3)).w) ((s.sramOf (sramIx (s.get F.LK_WTAB_base 0 + 16 * F.LK_WLOAD_win.of (BitVec.toNat v)) + 0)).tag && (s.sramOf (sramIx (s.get F.LK_WTAB_base 0 + 16 * F.LK_WLOAD_win.of (BitVec.toNat v)) + 1)).tag && (s.sramOf (sramIx (s.get F.LK_WTAB_base 0 + 16 * F.LK_WLOAD_win.of (BitVec.toNat v)) + 2)).tag && (s.sramOf (sramIx (s.get F.LK_WTAB_base 0 + 16 * F.LK_WLOAD_win.of (BitVec.toNat v)) + 3)).tag)).base.toNat ∧ (Cap.ofLine ((s.sramOf (sramIx (s.get F.LK_WTAB_base 0 + 16 * F.LK_WLOAD_win.of (BitVec.toNat v)) + 0)).w ++ (s.sramOf (sramIx (s.get F.LK_WTAB_base 0 + 16 * F.LK_WLOAD_win.of (BitVec.toNat v)) + 1)).w ++ (s.sramOf (sramIx (s.get F.LK_WTAB_base 0 + 16 * F.LK_WLOAD_win.of (BitVec.toNat v)) + 2)).w ++ (s.sramOf (sramIx (s.get F.LK_WTAB_base 0 + 16 * F.LK_WLOAD_win.of (BitVec.toNat v)) + 3)).w) ((s.sramOf (sramIx (s.get F.LK_WTAB_base 0 + 16 * F.LK_WLOAD_win.of (BitVec.toNat v)) + 0)).tag && (s.sramOf (sramIx (s.get F.LK_WTAB_base 0 + 16 * F.LK_WLOAD_win.of (BitVec.toNat v)) + 1)).tag && (s.sramOf (sramIx (s.get F.LK_WTAB_base 0 + 16 * F.LK_WLOAD_win.of (BitVec.toNat v)) + 2)).tag && (s.sramOf (sramIx (s.get F.LK_WTAB_base 0 + 16 * F.LK_WLOAD_win.of (BitVec.toNat v)) + 3)).tag)).base.toNat + (Cap.ofLine ((s.sramOf (sramIx (s.get F.LK_WTAB_base 0 + 16 * F.LK_WLOAD_win.of (BitVec.toNat v)) + 0)).w ++ (s.sramOf (sramIx (s.get F.LK_WTAB_base 0 + 16 * F.LK_WLOAD_win.of (BitVec.toNat v)) + 1)).w ++ (s.sramOf (sramIx (s.get F.LK_WTAB_base 0 + 16 * F.LK_WLOAD_win.of (BitVec.toNat v)) + 2)).w ++ (s.sramOf (sramIx (s.get F.LK_WTAB_base 0 + 16 * F.LK_WLOAD_win.of (BitVec.toNat v)) + 3)).w) ((s.sramOf (sramIx (s.get F.LK_WTAB_base 0 + 16 * F.LK_WLOAD_win.of (BitVec.toNat v)) + 0)).tag && (s.sramOf (sramIx (s.get F.LK_WTAB_base 0 + 16 * F.LK_WLOAD_win.of (BitVec.toNat v)) + 1)).tag && (s.sramOf (sramIx (s.get F.LK_WTAB_base 0 + 16 * F.LK_WLOAD_win.of (BitVec.toNat v)) + 2)).tag && (s.sramOf (sramIx (s.get F.LK_WTAB_base 0 + 16 * F.LK_WLOAD_win.of (BitVec.toNat v)) + 3)).tag)).len.toNat ≤ 29360128 ∧ ∀ x ∈ [17825792, 22020096, 26214400], ¬((Cap.ofLine ((s.sramOf (sramIx (s.get F.LK_WTAB_base 0 + 16 * F.LK_WLOAD_win.of (BitVec.toNat v)) + 0)).w ++ (s.sramOf (sramIx (s.get F.LK_WTAB_base 0 + 16 * F.LK_WLOAD_win.of (BitVec.toNat v)) + 1)).w ++ (s.sramOf (sramIx (s.get F.LK_WTAB_base 0 + 16 * F.LK_WLOAD_win.of (BitVec.toNat v)) + 2)).w ++ (s.sramOf (sramIx (s.get F.LK_WTAB_base 0 + 16 * F.LK_WLOAD_win.of (BitVec.toNat v)) + 3)).w) ((s.sramOf (sramIx (s.get F.LK_WTAB_base 0 + 16 * F.LK_WLOAD_win.of (BitVec.toNat v)) + 0)).tag && (s.sramOf (sramIx (s.get F.LK_WTAB_base 0 + 16 * F.LK_WLOAD_win.of (BitVec.toNat v)) + 1)).tag && (s.sramOf (sramIx (s.get F.LK_WTAB_base 0 + 16 * F.LK_WLOAD_win.of (BitVec.toNat v)) + 2)).tag && (s.sramOf (sramIx (s.get F.LK_WTAB_base 0 + 16 * F.LK_WLOAD_win.of (BitVec.toNat v)) + 3)).tag)).base.toNat < x + 262144 ∧ x < (Cap.ofLine ((s.sramOf (sramIx (s.get F.LK_WTAB_base 0 + 16 * F.LK_WLOAD_win.of (BitVec.toNat v)) + 0)).w ++ (s.sramOf (sramIx (s.get F.LK_WTAB_base 0 + 16 * F.LK_WLOAD_win.of (BitVec.toNat v)) + 1)).w ++ (s.sramOf (sramIx (s.get F.LK_WTAB_base 0 + 16 * F.LK_WLOAD_win.of (BitVec.toNat v)) + 2)).w ++ (s.sramOf (sramIx (s.get F.LK_WTAB_base 0 + 16 * F.LK_WLOAD_win.of (BitVec.toNat v)) + 3)).w) ((s.sramOf (sramIx (s.get F.LK_WTAB_base 0 + 16 * F.LK_WLOAD_win.of (BitVec.toNat v)) + 0)).tag && (s.sramOf (sramIx (s.get F.LK_WTAB_base 0 + 16 * F.LK_WLOAD_win.of (BitVec.toNat v)) + 1)).tag && (s.sramOf (sramIx (s.get F.LK_WTAB_base 0 + 16 * F.LK_WLOAD_win.of (BitVec.toNat v)) + 2)).tag && (s.sramOf (sramIx (s.get F.LK_WTAB_base 0 + 16 * F.LK_WLOAD_win.of (BitVec.toNat v)) + 3)).tag)).base.toNat + (Cap.ofLine ((s.sramOf (sramIx (s.get F.LK_WTAB_base 0 + 16 * F.LK_WLOAD_win.of (BitVec.toNat v)) + 0)).w ++ (s.sramOf (sramIx (s.get F.LK_WTAB_base 0 + 16 * F.LK_WLOAD_win.of (BitVec.toNat v)) + 1)).w ++ (s.sramOf (sramIx (s.get F.LK_WTAB_base 0 + 16 * F.LK_WLOAD_win.of (BitVec.toNat v)) + 2)).w ++ (s.sramOf (sramIx (s.get F.LK_WTAB_base 0 + 16 * F.LK_WLOAD_win.of (BitVec.toNat v)) + 3)).w) ((s.sramOf (sramIx (s.get F.LK_WTAB_base 0 + 16 * F.LK_WLOAD_win.of (BitVec.toNat v)) + 0)).tag && (s.sramOf (sramIx (s.get F.LK_WTAB_base 0 + 16 * F.LK_WLOAD_win.of (BitVec.toNat v)) + 1)).tag && (s.sramOf (sramIx (s.get F.LK_WTAB_base 0 + 16 * F.LK_WLOAD_win.of (BitVec.toNat v)) + 2)).tag && (s.sramOf (sramIx (s.get F.LK_WTAB_base 0 + 16 * F.LK_WLOAD_win.of (BitVec.toNat v)) + 3)).tag)).len.toNat)))) ∧
    (∃ (t : ℕ) (s : State) (v : Word), s.lku.ldEnd ≤ max s.now t ∧
      F.LK_WLOAD_all.of (BitVec.toNat v) = 0 ∧
      inOneBank (s.get F.LK_WTAB_base 0 + 16 * F.LK_WLOAD_win.of (BitVec.toNat v)) 16 = true ∧
      (∀ i < 8, (s.sramOf (sramIx (s.get F.LK_WTAB_base 0 + 16 * F.LK_WLOAD_win.of (BitVec.toNat v)) + i)).ecc = Ecc.good) ∧
      (¬((s.is F.BANK_STAT_hpend (bankAt (s.get F.LK_WTAB_base 0 + 16 * F.LK_WLOAD_win.of (BitVec.toNat v))) = false ∧ (s.is F.BANK_OWN_gl (bankAt (s.get F.LK_WTAB_base 0 + 16 * F.LK_WLOAD_win.of (BitVec.toNat v))) = true ∨ s.get F.BANK_OWN_kind (bankAt (s.get F.LK_WTAB_base 0 + 16 * F.LK_WLOAD_win.of (BitVec.toNat v))) = 2)) ∧ (Cap.ofLine ((s.sramOf (sramIx (s.get F.LK_WTAB_base 0 + 16 * F.LK_WLOAD_win.of (BitVec.toNat v)) + 0)).w ++ (s.sramOf (sramIx (s.get F.LK_WTAB_base 0 + 16 * F.LK_WLOAD_win.of (BitVec.toNat v)) + 1)).w ++ (s.sramOf (sramIx (s.get F.LK_WTAB_base 0 + 16 * F.LK_WLOAD_win.of (BitVec.toNat v)) + 2)).w ++ (s.sramOf (sramIx (s.get F.LK_WTAB_base 0 + 16 * F.LK_WLOAD_win.of (BitVec.toNat v)) + 3)).w) ((s.sramOf (sramIx (s.get F.LK_WTAB_base 0 + 16 * F.LK_WLOAD_win.of (BitVec.toNat v)) + 0)).tag && (s.sramOf (sramIx (s.get F.LK_WTAB_base 0 + 16 * F.LK_WLOAD_win.of (BitVec.toNat v)) + 1)).tag && (s.sramOf (sramIx (s.get F.LK_WTAB_base 0 + 16 * F.LK_WLOAD_win.of (BitVec.toNat v)) + 2)).tag && (s.sramOf (sramIx (s.get F.LK_WTAB_base 0 + 16 * F.LK_WLOAD_win.of (BitVec.toNat v)) + 3)).tag)).tag = true ∧ (Cap.ofLine ((s.sramOf (sramIx (s.get F.LK_WTAB_base 0 + 16 * F.LK_WLOAD_win.of (BitVec.toNat v)) + 0)).w ++ (s.sramOf (sramIx (s.get F.LK_WTAB_base 0 + 16 * F.LK_WLOAD_win.of (BitVec.toNat v)) + 1)).w ++ (s.sramOf (sramIx (s.get F.LK_WTAB_base 0 + 16 * F.LK_WLOAD_win.of (BitVec.toNat v)) + 2)).w ++ (s.sramOf (sramIx (s.get F.LK_WTAB_base 0 + 16 * F.LK_WLOAD_win.of (BitVec.toNat v)) + 3)).w) ((s.sramOf (sramIx (s.get F.LK_WTAB_base 0 + 16 * F.LK_WLOAD_win.of (BitVec.toNat v)) + 0)).tag && (s.sramOf (sramIx (s.get F.LK_WTAB_base 0 + 16 * F.LK_WLOAD_win.of (BitVec.toNat v)) + 1)).tag && (s.sramOf (sramIx (s.get F.LK_WTAB_base 0 + 16 * F.LK_WLOAD_win.of (BitVec.toNat v)) + 2)).tag && (s.sramOf (sramIx (s.get F.LK_WTAB_base 0 + 16 * F.LK_WLOAD_win.of (BitVec.toNat v)) + 3)).tag)).otype = 0 ∧ (8388608 ≤ (Cap.ofLine ((s.sramOf (sramIx (s.get F.LK_WTAB_base 0 + 16 * F.LK_WLOAD_win.of (BitVec.toNat v)) + 0)).w ++ (s.sramOf (sramIx (s.get F.LK_WTAB_base 0 + 16 * F.LK_WLOAD_win.of (BitVec.toNat v)) + 1)).w ++ (s.sramOf (sramIx (s.get F.LK_WTAB_base 0 + 16 * F.LK_WLOAD_win.of (BitVec.toNat v)) + 2)).w ++ (s.sramOf (sramIx (s.get F.LK_WTAB_base 0 + 16 * F.LK_WLOAD_win.of (BitVec.toNat v)) + 3)).w) ((s.sramOf (sramIx (s.get F.LK_WTAB_base 0 + 16 * F.LK_WLOAD_win.of (BitVec.toNat v)) + 0)).tag && (s.sramOf (sramIx (s.get F.LK_WTAB_base 0 + 16 * F.LK_WLOAD_win.of (BitVec.toNat v)) + 1)).tag && (s.sramOf (sramIx (s.get F.LK_WTAB_base 0 + 16 * F.LK_WLOAD_win.of (BitVec.toNat v)) + 2)).tag && (s.sramOf (sramIx (s.get F.LK_WTAB_base 0 + 16 * F.LK_WLOAD_win.of (BitVec.toNat v)) + 3)).tag)).base.toNat ∧ (Cap.ofLine ((s.sramOf (sramIx (s.get F.LK_WTAB_base 0 + 16 * F.LK_WLOAD_win.of (BitVec.toNat v)) + 0)).w ++ (s.sramOf (sramIx (s.get F.LK_WTAB_base 0 + 16 * F.LK_WLOAD_win.of (BitVec.toNat v)) + 1)).w ++ (s.sramOf (sramIx (s.get F.LK_WTAB_base 0 + 16 * F.LK_WLOAD_win.of (BitVec.toNat v)) + 2)).w ++ (s.sramOf (sramIx (s.get F.LK_WTAB_base 0 + 16 * F.LK_WLOAD_win.of (BitVec.toNat v)) + 3)).w) ((s.sramOf (sramIx (s.get F.LK_WTAB_base 0 + 16 * F.LK_WLOAD_win.of (BitVec.toNat v)) + 0)).tag && (s.sramOf (sramIx (s.get F.LK_WTAB_base 0 + 16 * F.LK_WLOAD_win.of (BitVec.toNat v)) + 1)).tag && (s.sramOf (sramIx (s.get F.LK_WTAB_base 0 + 16 * F.LK_WLOAD_win.of (BitVec.toNat v)) + 2)).tag && (s.sramOf (sramIx (s.get F.LK_WTAB_base 0 + 16 * F.LK_WLOAD_win.of (BitVec.toNat v)) + 3)).tag)).base.toNat + (Cap.ofLine ((s.sramOf (sramIx (s.get F.LK_WTAB_base 0 + 16 * F.LK_WLOAD_win.of (BitVec.toNat v)) + 0)).w ++ (s.sramOf (sramIx (s.get F.LK_WTAB_base 0 + 16 * F.LK_WLOAD_win.of (BitVec.toNat v)) + 1)).w ++ (s.sramOf (sramIx (s.get F.LK_WTAB_base 0 + 16 * F.LK_WLOAD_win.of (BitVec.toNat v)) + 2)).w ++ (s.sramOf (sramIx (s.get F.LK_WTAB_base 0 + 16 * F.LK_WLOAD_win.of (BitVec.toNat v)) + 3)).w) ((s.sramOf (sramIx (s.get F.LK_WTAB_base 0 + 16 * F.LK_WLOAD_win.of (BitVec.toNat v)) + 0)).tag && (s.sramOf (sramIx (s.get F.LK_WTAB_base 0 + 16 * F.LK_WLOAD_win.of (BitVec.toNat v)) + 1)).tag && (s.sramOf (sramIx (s.get F.LK_WTAB_base 0 + 16 * F.LK_WLOAD_win.of (BitVec.toNat v)) + 2)).tag && (s.sramOf (sramIx (s.get F.LK_WTAB_base 0 + 16 * F.LK_WLOAD_win.of (BitVec.toNat v)) + 3)).tag)).len.toNat ≤ 12582912 ∨ 16777216 ≤ (Cap.ofLine ((s.sramOf (sramIx (s.get F.LK_WTAB_base 0 + 16 * F.LK_WLOAD_win.of (BitVec.toNat v)) + 0)).w ++ (s.sramOf (sramIx (s.get F.LK_WTAB_base 0 + 16 * F.LK_WLOAD_win.of (BitVec.toNat v)) + 1)).w ++ (s.sramOf (sramIx (s.get F.LK_WTAB_base 0 + 16 * F.LK_WLOAD_win.of (BitVec.toNat v)) + 2)).w ++ (s.sramOf (sramIx (s.get F.LK_WTAB_base 0 + 16 * F.LK_WLOAD_win.of (BitVec.toNat v)) + 3)).w) ((s.sramOf (sramIx (s.get F.LK_WTAB_base 0 + 16 * F.LK_WLOAD_win.of (BitVec.toNat v)) + 0)).tag && (s.sramOf (sramIx (s.get F.LK_WTAB_base 0 + 16 * F.LK_WLOAD_win.of (BitVec.toNat v)) + 1)).tag && (s.sramOf (sramIx (s.get F.LK_WTAB_base 0 + 16 * F.LK_WLOAD_win.of (BitVec.toNat v)) + 2)).tag && (s.sramOf (sramIx (s.get F.LK_WTAB_base 0 + 16 * F.LK_WLOAD_win.of (BitVec.toNat v)) + 3)).tag)).base.toNat ∧ (Cap.ofLine ((s.sramOf (sramIx (s.get F.LK_WTAB_base 0 + 16 * F.LK_WLOAD_win.of (BitVec.toNat v)) + 0)).w ++ (s.sramOf (sramIx (s.get F.LK_WTAB_base 0 + 16 * F.LK_WLOAD_win.of (BitVec.toNat v)) + 1)).w ++ (s.sramOf (sramIx (s.get F.LK_WTAB_base 0 + 16 * F.LK_WLOAD_win.of (BitVec.toNat v)) + 2)).w ++ (s.sramOf (sramIx (s.get F.LK_WTAB_base 0 + 16 * F.LK_WLOAD_win.of (BitVec.toNat v)) + 3)).w) ((s.sramOf (sramIx (s.get F.LK_WTAB_base 0 + 16 * F.LK_WLOAD_win.of (BitVec.toNat v)) + 0)).tag && (s.sramOf (sramIx (s.get F.LK_WTAB_base 0 + 16 * F.LK_WLOAD_win.of (BitVec.toNat v)) + 1)).tag && (s.sramOf (sramIx (s.get F.LK_WTAB_base 0 + 16 * F.LK_WLOAD_win.of (BitVec.toNat v)) + 2)).tag && (s.sramOf (sramIx (s.get F.LK_WTAB_base 0 + 16 * F.LK_WLOAD_win.of (BitVec.toNat v)) + 3)).tag)).base.toNat + (Cap.ofLine ((s.sramOf (sramIx (s.get F.LK_WTAB_base 0 + 16 * F.LK_WLOAD_win.of (BitVec.toNat v)) + 0)).w ++ (s.sramOf (sramIx (s.get F.LK_WTAB_base 0 + 16 * F.LK_WLOAD_win.of (BitVec.toNat v)) + 1)).w ++ (s.sramOf (sramIx (s.get F.LK_WTAB_base 0 + 16 * F.LK_WLOAD_win.of (BitVec.toNat v)) + 2)).w ++ (s.sramOf (sramIx (s.get F.LK_WTAB_base 0 + 16 * F.LK_WLOAD_win.of (BitVec.toNat v)) + 3)).w) ((s.sramOf (sramIx (s.get F.LK_WTAB_base 0 + 16 * F.LK_WLOAD_win.of (BitVec.toNat v)) + 0)).tag && (s.sramOf (sramIx (s.get F.LK_WTAB_base 0 + 16 * F.LK_WLOAD_win.of (BitVec.toNat v)) + 1)).tag && (s.sramOf (sramIx (s.get F.LK_WTAB_base 0 + 16 * F.LK_WLOAD_win.of (BitVec.toNat v)) + 2)).tag && (s.sramOf (sramIx (s.get F.LK_WTAB_base 0 + 16 * F.LK_WLOAD_win.of (BitVec.toNat v)) + 3)).tag)).len.toNat ≤ 29360128 ∧ ∀ x ∈ [17825792, 22020096, 26214400], ¬((Cap.ofLine ((s.sramOf (sramIx (s.get F.LK_WTAB_base 0 + 16 * F.LK_WLOAD_win.of (BitVec.toNat v)) + 0)).w ++ (s.sramOf (sramIx (s.get F.LK_WTAB_base 0 + 16 * F.LK_WLOAD_win.of (BitVec.toNat v)) + 1)).w ++ (s.sramOf (sramIx (s.get F.LK_WTAB_base 0 + 16 * F.LK_WLOAD_win.of (BitVec.toNat v)) + 2)).w ++ (s.sramOf (sramIx (s.get F.LK_WTAB_base 0 + 16 * F.LK_WLOAD_win.of (BitVec.toNat v)) + 3)).w) ((s.sramOf (sramIx (s.get F.LK_WTAB_base 0 + 16 * F.LK_WLOAD_win.of (BitVec.toNat v)) + 0)).tag && (s.sramOf (sramIx (s.get F.LK_WTAB_base 0 + 16 * F.LK_WLOAD_win.of (BitVec.toNat v)) + 1)).tag && (s.sramOf (sramIx (s.get F.LK_WTAB_base 0 + 16 * F.LK_WLOAD_win.of (BitVec.toNat v)) + 2)).tag && (s.sramOf (sramIx (s.get F.LK_WTAB_base 0 + 16 * F.LK_WLOAD_win.of (BitVec.toNat v)) + 3)).tag)).base.toNat < x + 262144 ∧ x < (Cap.ofLine ((s.sramOf (sramIx (s.get F.LK_WTAB_base 0 + 16 * F.LK_WLOAD_win.of (BitVec.toNat v)) + 0)).w ++ (s.sramOf (sramIx (s.get F.LK_WTAB_base 0 + 16 * F.LK_WLOAD_win.of (BitVec.toNat v)) + 1)).w ++ (s.sramOf (sramIx (s.get F.LK_WTAB_base 0 + 16 * F.LK_WLOAD_win.of (BitVec.toNat v)) + 2)).w ++ (s.sramOf (sramIx (s.get F.LK_WTAB_base 0 + 16 * F.LK_WLOAD_win.of (BitVec.toNat v)) + 3)).w) ((s.sramOf (sramIx (s.get F.LK_WTAB_base 0 + 16 * F.LK_WLOAD_win.of (BitVec.toNat v)) + 0)).tag && (s.sramOf (sramIx (s.get F.LK_WTAB_base 0 + 16 * F.LK_WLOAD_win.of (BitVec.toNat v)) + 1)).tag && (s.sramOf (sramIx (s.get F.LK_WTAB_base 0 + 16 * F.LK_WLOAD_win.of (BitVec.toNat v)) + 2)).tag && (s.sramOf (sramIx (s.get F.LK_WTAB_base 0 + 16 * F.LK_WLOAD_win.of (BitVec.toNat v)) + 3)).tag)).base.toNat + (Cap.ofLine ((s.sramOf (sramIx (s.get F.LK_WTAB_base 0 + 16 * F.LK_WLOAD_win.of (BitVec.toNat v)) + 0)).w ++ (s.sramOf (sramIx (s.get F.LK_WTAB_base 0 + 16 * F.LK_WLOAD_win.of (BitVec.toNat v)) + 1)).w ++ (s.sramOf (sramIx (s.get F.LK_WTAB_base 0 + 16 * F.LK_WLOAD_win.of (BitVec.toNat v)) + 2)).w ++ (s.sramOf (sramIx (s.get F.LK_WTAB_base 0 + 16 * F.LK_WLOAD_win.of (BitVec.toNat v)) + 3)).w) ((s.sramOf (sramIx (s.get F.LK_WTAB_base 0 + 16 * F.LK_WLOAD_win.of (BitVec.toNat v)) + 0)).tag && (s.sramOf (sramIx (s.get F.LK_WTAB_base 0 + 16 * F.LK_WLOAD_win.of (BitVec.toNat v)) + 1)).tag && (s.sramOf (sramIx (s.get F.LK_WTAB_base 0 + 16 * F.LK_WLOAD_win.of (BitVec.toNat v)) + 2)).tag && (s.sramOf (sramIx (s.get F.LK_WTAB_base 0 + 16 * F.LK_WLOAD_win.of (BitVec.toNat v)) + 3)).tag)).len.toNat))))) :=
  ⟨⟨0, signed 0 0 (frm 9 7 8 [0, 0, 0, 1]), ((netted.put F.LK_ROUTE_port 8 0)), ⟨by decide, by decide, by decide, by decide, in_order_mac _ _ _ (by decide +kernel) (by decide +kernel)⟩, by decide, by decide, by decide, by decide, by decide, by decide, by decide, (by unfold Quiet; decide), by decide⟩,
    ⟨0, signed 0 0 (frm 8 9 0 [0, 0, 0, 1, 5]), (((netted.put F.LK_ROUTE_port 9 7).put F.LK_ROUTE_port 0 0).setTxs 0 { job := some aJob }), aJob, ⟨by decide, by decide, by decide, by decide, in_order_mac _ _ _ (by decide +kernel) (by decide +kernel)⟩, by decide, by decide, by decide, by decide, by decide, by decide, by decide, by decide, by decide, by decide⟩,
    ⟨0, signed 0 0 ({ frm 8 9 1 [0, 0, 0, 1, 5] with hops := 0 }), (netted.put F.LK_QUAR_n 0 0), ⟨by decide, by decide, by decide, by decide, in_order_mac _ _ _ (by decide +kernel) (by decide +kernel)⟩, by decide, by decide, by decide, by decide, by decide, by decide⟩,
    ⟨0, signed 0 0 ({ frm 6 7 8 [3] with cls := 2 }), ((netted.put F.LK_ROUTE_port 8 0)), ⟨by decide, by decide, by decide, by decide, in_order_mac _ _ _ (by decide +kernel) (by decide +kernel)⟩, by decide, by decide, by decide, by decide, by decide⟩,
    ⟨0, signed 0 0 ({ frm 6 7 8 [3] with cls := 2, hops := 0 }), (netted.put F.LK_QUAR_n 0 0), ⟨by decide, by decide, by decide, by decide, in_order_mac _ _ _ (by decide +kernel) (by decide +kernel)⟩, by decide, by decide, by decide, by decide, by decide, by decide⟩,
    ⟨0, signed 0 0 ({ frm 6 7 8 [3] with cls := 2 }), (netted.put F.LK_ROUTE_absent 3 1), ⟨by decide, by decide, by decide, by decide, in_order_mac _ _ _ (by decide +kernel) (by decide +kernel)⟩, by decide, by decide, by decide, by decide⟩,
    ⟨6400000000000, ({ State.reset with lku := { State.reset.lku with ldEnd := 9000000000000 } }), by decide⟩,
    ⟨6400000000000, (((putLine State.reset 8388608 sramCap.line true).put F.LK_WTAB_base 0 8388608).put F.BANK_OWN_gl 0 1), (0 : Word), by decide, by decide, by decide, by decide, by decide, by decide⟩,
    ⟨6400000000000, (State.reset.put F.LK_WTAB_base 0 8388608), (0 : Word), by decide, by decide, by decide, by decide, by decide⟩⟩

/-- The hypotheses of clauses of `Obligations.OtherRegions` are met. -/
theorem wit_OtherRegions_LoadsElsewhere_1 :
    (∃ (e : (ℕ → Fin 16 → Bool → Fields → Instr) × ℕ × (Fields → Prop) × (CoreS → Fields → ℕ → Bool → CoreS)) (t : ℕ) (c : Fin 16) (mx : Bool) (x : Fields) (s : State), e ∈ loadTable ∧
      CoreReady t s (↑c : ℕ) ∧
      (mx = true → x.b20 = 0) ∧
      e.2.2.1 x ∧
      capCheck ((atIssue t (↑c : ℕ) s).cap x.kc) [permLD] ((atIssue t (↑c : ℕ) s).ea mx x) e.2.1 = none ∧
      accessOk ((atIssue t (↑c : ℕ) s).ea mx x).toNat e.2.1 false = true ∧
      (regionOf ((atIssue t (↑c : ℕ) s).ea mx x).toNat = Region.rom ∨ regionOf ((atIssue t (↑c : ℕ) s).ea mx x).toNat = Region.otp ∨ regionOf ((atIssue t (↑c : ℕ) s).ea mx x).toNat = Region.flash ∧ (∀ y ∈ (atIssue t (↑c : ℕ) s).sb, regionOf y.ea ≠ Region.flash) ∧ (((atIssue t (↑c : ℕ) s).ea mx x).toNat + e.2.1 - 1) / 2097152 = ((atIssue t (↑c : ℕ) s).ea mx x).toNat / 2097152 ∧ ((issued t (↑c : ℕ) s).flOf (((atIssue t (↑c : ℕ) s).ea mx x).toNat / 2097152)).run = none ∧ (issued t (↑c : ℕ) s).get F.FL_BSTAT_mlvl (((atIssue t (↑c : ℕ) s).ea mx x).toNat / 2097152) = 0 ∧ ∀ (l : ℕ), 4 * (((atIssue t (↑c : ℕ) s).ea mx x).toNat / 32) ≤ l → l < 4 * ((((atIssue t (↑c : ℕ) s).ea mx x).toNat + e.2.1 - 1) / 32 + 1) → LineGood (issued t (↑c : ℕ) s) l) ∧
      (Store.wf (fun x ↦ none) (atIssue t (↑c : ℕ) s).dc = true) ∧
      (slack (issued t (↑c : ℕ) s) = true ∨ Store.get (fun x ↦ none) (atIssue t (↑c : ℕ) s).dc (((atIssue t (↑c : ℕ) s).ea mx x).toNat / 32) = none ∧ Store.get (fun x ↦ none) (atIssue t (↑c : ℕ) s).dc ((((atIssue t (↑c : ℕ) s).ea mx x).toNat + e.2.1 - 1) / 32) = none)) ∧
    (∃ (e : (ℕ → Fin 16 → Bool → Fields → Instr) × ℕ × (Fields → Prop) × (CoreS → Fields → ℕ → Bool → CoreS)) (t : ℕ) (c : Fin 16) (mx : Bool) (x : Fields) (s : State) (v : BitVec 288), e ∈ loadTable ∧
      CoreReady t s (↑c : ℕ) ∧
      (mx = true → x.b20 = 0) ∧
      e.2.2.1 x ∧
      capCheck ((atIssue t (↑c : ℕ) s).cap x.kc) [permLD] ((atIssue t (↑c : ℕ) s).ea mx x) e.2.1 = none ∧
      accessOk ((atIssue t (↑c : ℕ) s).ea mx x).toNat e.2.1 false = true ∧
      (regionOf ((atIssue t (↑c : ℕ) s).ea mx x).toNat = Region.rom ∨ regionOf ((atIssue t (↑c : ℕ) s).ea mx x).toNat = Region.otp ∨ regionOf ((atIssue t (↑c : ℕ) s).ea mx x).toNat = Region.flash ∧ ∀ y ∈ (atIssue t (↑c : ℕ) s).sb, regionOf y.ea ≠ Region.flash) ∧
      (slack (issued t (↑c : ℕ) s) = false ∧ (regionOf ((atIssue t (↑c : ℕ) s).ea mx x).toNat = Region.flash → (issued t (↑c : ℕ) s).get F.FL_BSTAT_mlvl (((atIssue t (↑c : ℕ) s).ea mx x).toNat / 2097152) = 0)) ∧
      (((atIssue t (↑c : ℕ) s).ea mx x).toNat + e.2.1 - 1) / 32 = ((atIssue t (↑c : ℕ) s).ea mx x).toNat / 32 ∧
      (Store.get (fun x ↦ none) (atIssue t (↑c : ℕ) s).dc (((atIssue t (↑c : ℕ) s).ea mx x).toNat / 32) = some v)) ∧
    (∃ (e : (ℕ → Fin 16 → Bool → Fields → Instr) × ℕ × (Fields → Prop) × (CoreS → Fields → ℕ → Bool → CoreS)) (t : ℕ) (c : Fin 16) (mx : Bool) (x : Fields) (s : State), e ∈ loadTable ∧
      CoreReady t s (↑c : ℕ) ∧
      (mx = true → x.b20 = 0) ∧
      e.2.2.1 x ∧
      capCheck ((atIssue t (↑c : ℕ) s).cap x.kc) [permLD] ((atIssue t (↑c : ℕ) s).ea mx x) e.2.1 = none ∧
      accessOk ((atIssue t (↑c : ℕ) s).ea mx x).toNat e.2.1 false = true ∧
      regionOf ((atIssue t (↑c : ℕ) s).ea mx x).toNat = Region.flash ∧
      (∀ y ∈ (atIssue t (↑c : ℕ) s).sb, regionOf y.ea ≠ Region.flash) ∧
      (((atIssue t (↑c : ℕ) s).ea mx x).toNat + e.2.1 - 1) / 8 = ((atIssue t (↑c : ℕ) s).ea mx x).toNat / 8 ∧
      ((issued t (↑c : ℕ) s).flOf (((atIssue t (↑c : ℕ) s).ea mx x).toNat / 2097152)).run.isSome = true ∧
      (slack (issued t (↑c : ℕ) s) = false ∧ (regionOf ((atIssue t (↑c : ℕ) s).ea mx x).toNat = Region.flash → (issued t (↑c : ℕ) s).get F.FL_BSTAT_mlvl (((atIssue t (↑c : ℕ) s).ea mx x).toNat / 2097152) = 0) → Store.get (fun x ↦ none) (atIssue t (↑c : ℕ) s).dc (((atIssue t (↑c : ℕ) s).ea mx x).toNat / 32) = none)) ∧
    (∃ (e : (ℕ → Fin 16 → Bool → Fields → Instr) × ℕ × (Fields → Prop) × (CoreS → Fields → ℕ → Bool → CoreS)) (t : ℕ) (c : Fin 16) (mx : Bool) (x : Fields) (s : State), e ∈ loadTable ∧
      CoreReady t s (↑c : ℕ) ∧
      (mx = true → x.b20 = 0) ∧
      e.2.2.1 x ∧
      capCheck ((atIssue t (↑c : ℕ) s).cap x.kc) [permLD] ((atIssue t (↑c : ℕ) s).ea mx x) e.2.1 = none ∧
      accessOk ((atIssue t (↑c : ℕ) s).ea mx x).toNat e.2.1 false = true ∧
      regionOf ((atIssue t (↑c : ℕ) s).ea mx x).toNat = Region.flash ∧
      (¬∀ y ∈ (atIssue t (↑c : ℕ) s).sb, regionOf y.ea ≠ Region.flash)) ∧
    (∃ (e : (ℕ → Fin 16 → Bool → Fields → Instr) × ℕ × (Fields → Prop) × (CoreS → Fields → ℕ → Bool → CoreS)) (t : ℕ) (c : Fin 16) (mx : Bool) (x : Fields) (s : State), e ∈ loadTable ∧
      CoreReady t s (↑c : ℕ) ∧
      (mx = true → x.b20 = 0) ∧
      e.2.2.1 x ∧
      capCheck ((atIssue t (↑c : ℕ) s).cap x.kc) [permLD] ((atIssue t (↑c : ℕ) s).ea mx x) e.2.1 = none ∧
      accessOk ((atIssue t (↑c : ℕ) s).ea mx x).toNat e.2.1 false = true ∧
      regionOf ((atIssue t (↑c : ℕ) s).ea mx x).toNat = Region.flash ∧
      (∀ y ∈ (atIssue t (↑c : ℕ) s).sb, regionOf y.ea ≠ Region.flash) ∧
      slack (issued t (↑c : ℕ) s) = true ∧
      (((atIssue t (↑c : ℕ) s).ea mx x).toNat + e.2.1 - 1) / 8 = ((atIssue t (↑c : ℕ) s).ea mx x).toNat / 8 ∧
      ((issued t (↑c : ℕ) s).flOf (((atIssue t (↑c : ℕ) s).ea mx x).toNat / 2097152)).run = none ∧
      (issued t (↑c : ℕ) s).get F.FL_BSTAT_mlvl (((atIssue t (↑c : ℕ) s).ea mx x).toNat / 2097152) = 0 ∧
      ((issued t (↑c : ℕ) s).flBlkOf (((atIssue t (↑c : ℕ) s).ea mx x).toNat / 8192)).ecomp = true ∧
      ((issued t (↑c : ℕ) s).flashOf (((atIssue t (↑c : ℕ) s).ea mx x).toNat / 8)).undef = false ∧
      ((issued t (↑c : ℕ) s).flashOf (((atIssue t (↑c : ℕ) s).ea mx x).toNat / 8)).ecc = Ecc.bad) ∧
    (∃ (e : (ℕ → Fin 16 → Bool → Fields → Instr) × ℕ × (Fields → Prop) × (CoreS → Fields → ℕ → Bool → CoreS)) (t : ℕ) (c : Fin 16) (mx : Bool) (x : Fields) (s : State), e ∈ loadTable ∧
      CoreReady t s (↑c : ℕ) ∧
      (mx = true → x.b20 = 0) ∧
      e.2.2.1 x ∧
      capCheck ((atIssue t (↑c : ℕ) s).cap x.kc) [permLD] ((atIssue t (↑c : ℕ) s).ea mx x) e.2.1 = none ∧
      accessOk ((atIssue t (↑c : ℕ) s).ea mx x).toNat e.2.1 false = true ∧
      (regionOf ((atIssue t (↑c : ℕ) s).ea mx x).toNat = Region.bstore ∨ regionOf ((atIssue t (↑c : ℕ) s).ea mx x).toNat = Region.bram ∧ (atIssue t (↑c : ℕ) s).tq = []) ∧
      (atIssue t (↑c : ℕ) s).sb = []) ∧
    (∃ (e : (ℕ → Fin 16 → Bool → Fields → Instr) × ℕ × (Fields → Prop) × (CoreS → Fields → ℕ → Bool → CoreS)) (t : ℕ) (c : Fin 16) (mx : Bool) (x : Fields) (s : State), e ∈ loadTable ∧
      CoreReady t s (↑c : ℕ) ∧
      (mx = true → x.b20 = 0) ∧
      e.2.2.1 x ∧
      capCheck ((atIssue t (↑c : ℕ) s).cap x.kc) [permLD] ((atIssue t (↑c : ℕ) s).ea mx x) e.2.1 = none ∧
      accessOk ((atIssue t (↑c : ℕ) s).ea mx x).toNat e.2.1 false = true ∧
      regionOf ((atIssue t (↑c : ℕ) s).ea mx x).toNat = Region.bram ∧
      (atIssue t (↑c : ℕ) s).tq ≠ []) ∧
    (∃ (e : (ℕ → Fin 16 → Bool → Fields → Instr) × ℕ × (Fields → Prop) × (CoreS → Fields → ℕ → Bool → CoreS)) (t : ℕ) (c : Fin 16) (mx : Bool) (x : Fields) (s : State), e ∈ loadTable ∧
      CoreReady t s (↑c : ℕ) ∧
      (mx = true → x.b20 = 0) ∧
      e.2.2.1 x ∧
      capCheck ((atIssue t (↑c : ℕ) s).cap x.kc) [permLD] ((atIssue t (↑c : ℕ) s).ea mx x) e.2.1 = none ∧
      accessOk ((atIssue t (↑c : ℕ) s).ea mx x).toNat e.2.1 false = true ∧
      regionOf ((atIssue t (↑c : ℕ) s).ea mx x).toNat = Region.tide) ∧
    (∃ (e : (ℕ → Fin 16 → Bool → Fields → Instr) × ℕ × (Fields → Prop) × (CoreS → Fields → ℕ → Bool → CoreS)) (t : ℕ) (c : Fin 16) (mx : Bool) (x : Fields) (s : State), e ∈ loadTable ∧
      CoreReady t s (↑c : ℕ) ∧
      (mx = true → x.b20 = 0) ∧
      e.2.2.1 x ∧
      capCheck ((atIssue t (↑c : ℕ) s).cap x.kc) [permLD] ((atIssue t (↑c : ℕ) s).ea mx x) e.2.1 = none ∧
      accessOk ((atIssue t (↑c : ℕ) s).ea mx x).toNat e.2.1 false = true ∧
      regionOf ((atIssue t (↑c : ℕ) s).ea mx x).toNat = Region.periph ∧
      (∃ y ∈ (atIssue t (↑c : ℕ) s).sb, regionOf y.ea = Region.periph)) :=
  ⟨⟨loadTable[2], 6400000000000, 0, false, (117571584 : Fields), ((running { core0 with k := [(1, { aCap with base := 0 })] }).put F.MODE_STAT_cur 0 2), (List.getElem_mem (by decide)), (by unfold CoreReady; decide), by decide, (trivial), by decide, by decide, (by unfold LineGood; decide), by decide, by decide⟩,
    ⟨loadTable[2], 6400000000000, 0, false, (117571584 : Fields), (running { core0 with k := [(1, aCap)], dc := [(0, some 7)] }), 7, (List.getElem_mem (by decide)), (by unfold CoreReady; decide), by decide, (trivial), by decide, by decide, by decide, by decide, by decide, by decide⟩,
    ⟨loadTable[2], 6400000000000, 0, false, (117571584 : Fields), ((running { core0 with k := [(1, { aCap with base := 2097152 })] }).setFl 1 { run := some ⟨.erase 0, 0, false⟩ }), (List.getElem_mem (by decide)), (by unfold CoreReady; decide), by decide, (trivial), by decide, by decide, by decide, by decide, by decide, by decide, by decide⟩,
    ⟨loadTable[2], 6400000000000, 0, false, (117571584 : Fields), (running { core0 with k := [(1, aCap)], sb := [⟨5460, 2, 5, false, false⟩] }), (List.getElem_mem (by decide)), (by unfold CoreReady; decide), by decide, (trivial), by decide, by decide, by decide, by decide⟩,
    ⟨loadTable[2], 6400000000000, 0, false, (117571584 : Fields), ((((running { core0 with k := [(1, { aCap with base := 2097152 })] }).put F.MODE_STAT_cur 0 2).setFlBlk 256 { ecomp := true }).setFlash 262144 { (running core0).flashOf 0 with undef := false, ecc := .bad }), (List.getElem_mem (by decide)), (by unfold CoreReady; decide), by decide, (trivial), by decide, by decide, by decide, by decide, by decide, by decide, by decide, by decide, by decide, by decide, by decide⟩,
    ⟨loadTable[2], 6400000000000, 0, false, (117571584 : Fields), (running { core0 with k := [(1, { aCap with base := 13107200 })] }), (List.getElem_mem (by decide)), (by unfold CoreReady; decide), by decide, (trivial), by decide, by decide, by decide, by decide⟩,
    ⟨loadTable[2], 6400000000000, 0, false, (117571584 : Fields), (running { core0 with k := [(1, { aCap with base := 13369344 })], tq := [(0, 0)] }), (List.getElem_mem (by decide)), (by unfold CoreReady; decide), by decide, (trivial), by decide, by decide, by decide, by decide⟩,
    ⟨loadTable[2], 6400000000000, 0, false, (117571584 : Fields), (running { core0 with k := [(1, { aCap with base := 33554432 })] }), (List.getElem_mem (by decide)), (by unfold CoreReady; decide), by decide, (trivial), by decide, by decide, by decide⟩,
    ⟨loadTable[2], 6400000000000, 0, false, (117571584 : Fields), (running { core0 with k := [(1, { aCap with base := 17039384 })], sb := [⟨17039384, 2, 5, false, false⟩] }), (List.getElem_mem (by decide)), (by unfold CoreReady; decide), by decide, (trivial), by decide, by decide, by decide, by decide⟩⟩

/-- The hypotheses of clauses of `Obligations.OtherRegions` are met. -/
theorem wit_OtherRegions_LoadsElsewhere_2 :
    ∃ (e : (ℕ → Fin 16 → Bool → Fields → Instr) × ℕ × (Fields → Prop) × (CoreS → Fields → ℕ → Bool → CoreS)) (t : ℕ) (c : Fin 16) (mx : Bool) (x : Fields) (s : State) (m : RegName) (i : ℕ) (al : Alias), e ∈ loadTable ∧
      CoreReady t s (↑c : ℕ) ∧
      (mx = true → x.b20 = 0) ∧
      e.2.2.1 x ∧
      capCheck ((atIssue t (↑c : ℕ) s).cap x.kc) [permLD] ((atIssue t (↑c : ℕ) s).ea mx x) e.2.1 = none ∧
      accessOk ((atIssue t (↑c : ℕ) s).ea mx x).toNat e.2.1 false = true ∧
      regionOf ((atIssue t (↑c : ℕ) s).ea mx x).toNat = Region.periph ∧
      (∀ y ∈ (atIssue t (↑c : ℕ) s).sb, regionOf y.ea ≠ Region.periph) ∧
      Reaches ((atIssue t (↑c : ℕ) s).ea mx x).toNat m i al ∧
      m ∈ plainRegs ∧
      e.2.1 = m.size ∧
      m.hasRc = false ∧
      m ≠ RegName.LK_GSTAT ∧
      m ≠ RegName.GT_DREP ∧
      (∀ f ∈ m.row.fields, f.kind ≠ Kind.wo) ∧
      (∀ (w : ℕ), cuOfReg m i = some w → ((issued t (↑c : ℕ) s).cuOf w).held = []) :=
  ⟨loadTable[2], 6400000000000, 0, false, (117571584 : Fields), (running { core0 with k := [(1, { aCap with base := 17039380 })] }), .ICH_STAT, 0, .base, (List.getElem_mem (by decide)), (by unfold CoreReady; decide), by decide, (trivial), by decide, by decide, by decide, by decide, ⟨by decide, by decide, by decide, by decide, by decide⟩, by decide, by decide, by decide, by decide, by decide, by decide, (fun _ h => nomatch h)⟩

/-- The hypotheses of clauses of `Obligations.LoadsAndStores` are met. -/
theorem wit_LoadsAndStores_LoadsFromSram :
    (∃ (e : (ℕ → Fin 16 → Bool → Fields → Instr) × ℕ × (Fields → Prop) × (CoreS → Fields → ℕ → Bool → CoreS)) (t : ℕ) (c : Fin 16) (mx : Bool) (x : Fields) (s : State), e ∈ loadTable ∧
      CoreReady t s (↑c : ℕ) ∧
      (mx = true → x.b20 = 0) ∧
      e.2.2.1 x ∧
      SramAccess (issued t (↑c : ℕ) s) (↑c : ℕ) ((atIssue t (↑c : ℕ) s).cap x.kc) [permLD] ((atIssue t (↑c : ℕ) s).ea mx x) e.2.1 ∧
      (atIssue t (↑c : ℕ) s).fq = [] ∧
      ((atIssue t (↑c : ℕ) s).drain = false ∨ (atIssue t (↑c : ℕ) s).sb = []) ∧
      sbYoungest (atIssue t (↑c : ℕ) s).sb ((atIssue t (↑c : ℕ) s).ea mx x).toNat e.2.1 = none ∧
      wordsGood (issued t (↑c : ℕ) s) ((atIssue t (↑c : ℕ) s).ea mx x).toNat e.2.1) ∧
    (∃ (e : (ℕ → Fin 16 → Bool → Fields → Instr) × ℕ × (Fields → Prop) × (CoreS → Fields → ℕ → Bool → CoreS)) (t : ℕ) (c : Fin 16) (mx : Bool) (x : Fields) (s : State) (y : SbEntry), e ∈ loadTable ∧
      CoreReady t s (↑c : ℕ) ∧
      (mx = true → x.b20 = 0) ∧
      e.2.2.1 x ∧
      SramAccess (issued t (↑c : ℕ) s) (↑c : ℕ) ((atIssue t (↑c : ℕ) s).cap x.kc) [permLD] ((atIssue t (↑c : ℕ) s).ea mx x) e.2.1 ∧
      (atIssue t (↑c : ℕ) s).fq = [] ∧
      (atIssue t (↑c : ℕ) s).drain = false ∧
      sbYoungest (atIssue t (↑c : ℕ) s).sb ((atIssue t (↑c : ℕ) s).ea mx x).toNat e.2.1 = some y ∧
      y.covers ((atIssue t (↑c : ℕ) s).ea mx x).toNat e.2.1 = true) ∧
    (∃ (e : (ℕ → Fin 16 → Bool → Fields → Instr) × ℕ × (Fields → Prop) × (CoreS → Fields → ℕ → Bool → CoreS)) (t : ℕ) (c : Fin 16) (mx : Bool) (x : Fields) (s : State) (y : SbEntry), e ∈ loadTable ∧
      CoreReady t s (↑c : ℕ) ∧
      (mx = true → x.b20 = 0) ∧
      e.2.2.1 x ∧
      SramAccess (issued t (↑c : ℕ) s) (↑c : ℕ) ((atIssue t (↑c : ℕ) s).cap x.kc) [permLD] ((atIssue t (↑c : ℕ) s).ea mx x) e.2.1 ∧
      (atIssue t (↑c : ℕ) s).fq = [] ∧
      (atIssue t (↑c : ℕ) s).drain = false ∧
      sbYoungest (atIssue t (↑c : ℕ) s).sb ((atIssue t (↑c : ℕ) s).ea mx x).toNat e.2.1 = some y ∧
      y.covers ((atIssue t (↑c : ℕ) s).ea mx x).toNat e.2.1 = false) ∧
    (∃ (e : (ℕ → Fin 16 → Bool → Fields → Instr) × ℕ × (Fields → Prop) × (CoreS → Fields → ℕ → Bool → CoreS)) (t : ℕ) (c : Fin 16) (mx : Bool) (x : Fields) (s : State), e ∈ loadTable ∧
      CoreReady t s (↑c : ℕ) ∧
      (mx = true → x.b20 = 0) ∧
      e.2.2.1 x ∧
      SramAccess (issued t (↑c : ℕ) s) (↑c : ℕ) ((atIssue t (↑c : ℕ) s).cap x.kc) [permLD] ((atIssue t (↑c : ℕ) s).ea mx x) e.2.1 ∧
      (atIssue t (↑c : ℕ) s).fq = [] ∧
      (atIssue t (↑c : ℕ) s).drain = true ∧
      (atIssue t (↑c : ℕ) s).sb ≠ []) :=
  ⟨⟨loadTable[4], 6400000000000, 0, false, (117571584 : Fields), (running core1), (List.getElem_mem (by decide)), (by unfold CoreReady; decide), by decide, (by show Fields.f27 _ < 8; decide), (by unfold SramAccess; decide), by decide, by decide, by decide, (good_range _ _ _ (by decide))⟩,
    ⟨loadTable[2], 6400000000000, 0, false, (117571586 : Fields), (running { core1 with sb := [⟨8388608, 4, 5, false, false⟩] }), ⟨8388608, 4, 5, false, false⟩, (List.getElem_mem (by decide)), (by unfold CoreReady; decide), by decide, (trivial), (by unfold SramAccess; decide), by decide, by decide, by decide, by decide⟩,
    ⟨loadTable[3], 6400000000000, 0, false, (100794368 : Fields), (running { core1 with sb := [⟨8388608, 2, 5, false, false⟩] }), ⟨8388608, 2, 5, false, false⟩, (List.getElem_mem (by decide)), (by unfold CoreReady; decide), by decide, (by show Fields.f27 _ % 2 = 0; decide), (by unfold SramAccess; decide), by decide, by decide, by decide, by decide⟩,
    ⟨loadTable[2], 6400000000000, 0, false, (117571584 : Fields), (running { core1 with drain := true, sb := [⟨8388608, 2, 5, false, false⟩] }), (List.getElem_mem (by decide)), (by unfold CoreReady; decide), by decide, (trivial), (by unfold SramAccess; decide), by decide, by decide, by decide⟩⟩

/-- The hypotheses of clauses of `Obligations.LocalTides` are met. -/
theorem wit_LocalTides_LocalTides :
    (∃ (s : State) (c : Fin 16) (a : Addr) (dbl : Bool) (v : DWord) (l : List TideEntry), regionOf (BitVec.toNat a) = Region.tide ∧
      (tideEntries (BitVec.toNat a - 33554432) (if dbl = true then 4 else 2) (if dbl = true then v else v &&& 262143) = some l) ∧
      s.get F.TSLOT_STAT_state (s.get F.TIDE_CSEL_slot (↑c : ℕ)) ≤ 1 ∧
      tideUsed s + l.length ≤ 1024) ∧
    (∃ (s : State) (c : Fin 16) (a : Addr) (dbl : Bool) (v : DWord), regionOf (BitVec.toNat a) = Region.tide ∧
      s.get F.TSLOT_STAT_state (s.get F.TIDE_CSEL_slot (↑c : ℕ)) ≤ 1 ∧
      (tideEntries (BitVec.toNat a - 33554432) (if dbl = true then 4 else 2) (if dbl = true then v else v &&& 262143) = none ∨ ∃ l, tideEntries (BitVec.toNat a - 33554432) (if dbl = true then 4 else 2) (if dbl = true then v else v &&& 262143) = some l ∧ 1024 < tideUsed s + l.length)) ∧
    (∃ (s : State) (c : Fin 16) (a : Addr), regionOf (BitVec.toNat a) = Region.tide ∧
      s.get F.TSLOT_STAT_state (s.get F.TIDE_CSEL_slot (↑c : ℕ)) = 2) ∧
    (∃ (v : Word), F.TIDE_COMMIT_kind.of (BitVec.toNat v) = 0) ∧
    (∃ (v : Word), F.TIDE_COMMIT_kind.of (BitVec.toNat v) = 1) ∧
    (∃ (s : State) (v : Word), F.TIDE_COMMIT_kind.of (BitVec.toNat v) = 2 ∧
      ((match (s.tideOf (F.TIDE_COMMIT_slot.of (BitVec.toNat v))).armed with | some (TideWhen.round, snd) => true | some (TideWhen.global v, snd) => true | x => false) = true)) ∧
    (∃ (s : State) (v : Word), F.TIDE_COMMIT_kind.of (BitVec.toNat v) = 2 ∧
      ((match (s.tideOf (F.TIDE_COMMIT_slot.of (BitVec.toNat v))).armed with | some (TideWhen.round, snd) => true | some (TideWhen.global v, snd) => true | x => false) = false)) ∧
    (∃ (t : ℕ) (s : State) (k : Fin 4) (w : TideWhen), (s.tideOf (↑k : ℕ)).commit = some w ∧
      ((if s.get F.TSLOT_STAT_state (↑k : ℕ) = 2 then 1 else if s.get F.TSLOT_STAT_state (↑k : ℕ) = 3 then 2 else if ∃ e ∈ (s.tideOf (↑k : ℕ)).entries, entryWhy s e = 3 then 3 else if ∃ b ∈ s.armed, blockCode (berthPreview s (s.tideOf (↑k : ℕ)).entries) b ≠ 0 then 4 else if ∃ e ∈ (s.tideOf (↑k : ℕ)).entries, entryWhy s e = 5 then 5 else match w with | TideWhen.instant v => if tbPast (s.tbAt (max s.now t)) (s.get F.TSLOT_ATH_v (↑k : ℕ) * 64000000000 + s.get F.TSLOT_ATL_v (↑k : ℕ)) = true ∧ (s.get F.TSLOT_ATH_v (↑k : ℕ) * 64000000000 + s.get F.TSLOT_ATL_v (↑k : ℕ)) % tbWrap ≠ s.tbAt (max s.now t) then 6 else 0 | TideWhen.boundary u => if s.is F.CU_STAT_running u = false ∨ s.get F.CU_CTL_mode u = 3 then 7 else 0 | x => 0) ≠ 0)) ∧
    (∃ (t : ℕ) (s : State) (k : Fin 4) (w : TideWhen), (s.tideOf (↑k : ℕ)).commit = some w ∧
      ((if s.get F.TSLOT_STAT_state (↑k : ℕ) = 2 then 1 else if s.get F.TSLOT_STAT_state (↑k : ℕ) = 3 then 2 else if ∃ e ∈ (s.tideOf (↑k : ℕ)).entries, entryWhy s e = 3 then 3 else if ∃ b ∈ s.armed, blockCode (berthPreview s (s.tideOf (↑k : ℕ)).entries) b ≠ 0 then 4 else if ∃ e ∈ (s.tideOf (↑k : ℕ)).entries, entryWhy s e = 5 then 5 else match w with | TideWhen.instant v => if tbPast (s.tbAt (max s.now t)) (s.get F.TSLOT_ATH_v (↑k : ℕ) * 64000000000 + s.get F.TSLOT_ATL_v (↑k : ℕ)) = true ∧ (s.get F.TSLOT_ATH_v (↑k : ℕ) * 64000000000 + s.get F.TSLOT_ATL_v (↑k : ℕ)) % tbWrap ≠ s.tbAt (max s.now t) then 6 else 0 | TideWhen.boundary u => if s.is F.CU_STAT_running u = false ∨ s.get F.CU_CTL_mode u = 3 then 7 else 0 | x => 0) = 0)) :=
  ⟨⟨State.reset, 0, (33554432 + 0o063000000 : Addr), false, (0 : DWord), [⟨0o063000000, false, 0⟩], by decide, by decide, by decide, by decide⟩,
    ⟨State.reset, 0, (33554432 + 8388608 : Addr), false, (0 : DWord), by decide, by decide, by decide⟩,
    ⟨(State.reset.put F.TSLOT_STAT_state 0 2), 0, (33554432 + 8388608 : Addr), by decide, by decide⟩,
    ⟨(0 : Word), by decide⟩,
    ⟨(16384 : Word), by decide⟩,
    ⟨(State.reset.setTide 0 { armed := some (.round, 0) }), (32768 : Word), by decide, by decide⟩,
    ⟨State.reset, (32768 : Word), by decide, by decide⟩,
    ⟨6400000000000, (State.reset).setTide 0 { (State.reset).tideOf 0 with commit := some (TideWhen.instant 0) }, 0, (TideWhen.instant 0), by decide, by decide⟩,
    ⟨0, (State.reset).setTide 0 { (State.reset).tideOf 0 with commit := some (TideWhen.instant 0) }, 0, (TideWhen.instant 0), by decide, by decide⟩⟩

/-- The hypotheses of clauses of `Obligations.TrapEntry` are met. -/
theorem wit_TrapEntry_LockupAndHalt :
    (∃ (c : Fin 16) (s : State) (tr : TrapReq), s.get F.CORE_STAT_state (↑c : ℕ) = 1 ∧
      (s.coreOf (↑c : ℕ)).rst = none ∧
      (s.coreOf (↑c : ℕ)).trap = some tr ∧
      (s.coreOf (↑c : ℕ)).fq.length ≤ 11 ∧
      frameWaits s (↑c : ℕ) = false ∧
      (inOneBank (s.get F.CORE_TDT_base (↑c : ℕ) + 32 * tr.cause) 32 = true → awaitsBank s (↑c : ℕ) (bankAt (s.get F.CORE_TDT_base (↑c : ℕ) + 32 * tr.cause)) = false) ∧
      (s.is F.CORE_TDT_en (↑c : ℕ) = false ∨ inOwnBank s (↑c : ℕ) (s.get F.CORE_TDT_base (↑c : ℕ) + 32 * tr.cause) 32 = false)) ∧
    (∃ (c : Fin 16) (s : State) (tr : TrapReq), s.get F.CORE_STAT_state (↑c : ℕ) = 1 ∧
      (s.coreOf (↑c : ℕ)).rst = none ∧
      (s.coreOf (↑c : ℕ)).trap = some tr ∧
      (s.coreOf (↑c : ℕ)).fq.length ≤ 11 ∧
      frameWaits s (↑c : ℕ) = false ∧
      s.is F.CORE_TDT_en (↑c : ℕ) = true ∧
      inOwnBank s (↑c : ℕ) (s.get F.CORE_TDT_base (↑c : ℕ) + 32 * tr.cause) 32 = true ∧
      (s.get F.CORE_TDT_base (↑c : ℕ) + 32 * tr.cause) % 8 = 0 ∧
      (∃ i < 4, (s.sramOf (sramIx (s.get F.CORE_TDT_base (↑c : ℕ) + 32 * tr.cause + 24) + i)).ecc = Ecc.bad)) ∧
    (∃ (c : Fin 16) (s : State) (tr : TrapReq), s.get F.CORE_STAT_state (↑c : ℕ) = 1 ∧
      (s.coreOf (↑c : ℕ)).rst = none ∧
      (s.coreOf (↑c : ℕ)).trap = some tr ∧
      (s.coreOf (↑c : ℕ)).fq.length ≤ 11 ∧
      frameWaits s (↑c : ℕ) = false ∧
      s.is F.CORE_TDT_en (↑c : ℕ) = true ∧
      inOwnBank s (↑c : ℕ) (s.get F.CORE_TDT_base (↑c : ℕ) + 32 * tr.cause) 32 = true ∧
      (s.get F.CORE_TDT_base (↑c : ℕ) + 32 * tr.cause) % 8 = 0 ∧
      wordsGood s (s.get F.CORE_TDT_base (↑c : ℕ) + 32 * tr.cause) 32 ∧
      2 ≤ (BitVec.extractLsb' 16 2 (lineW (lineAt s (s.get F.CORE_TDT_base (↑c : ℕ) + 32 * tr.cause + 24)) 0)).toNat) ∧
    (∃ (c : Fin 16) (s : State) (tr : TrapReq), s.get F.CORE_STAT_state (↑c : ℕ) = 1 ∧
      (s.coreOf (↑c : ℕ)).rst = none ∧
      (s.coreOf (↑c : ℕ)).trap = some tr ∧
      (s.coreOf (↑c : ℕ)).fq.length ≤ 11 ∧
      frameWaits s (↑c : ℕ) = false ∧
      s.is F.CORE_TDT_en (↑c : ℕ) = true ∧
      inOwnBank s (↑c : ℕ) (s.get F.CORE_TDT_base (↑c : ℕ) + 32 * tr.cause) 32 = true ∧
      (s.get F.CORE_TDT_base (↑c : ℕ) + 32 * tr.cause) % 8 = 0 ∧
      wordsGood s (s.get F.CORE_TDT_base (↑c : ℕ) + 32 * tr.cause) 32 ∧
      (BitVec.extractLsb' 16 2 (lineW (lineAt s (s.get F.CORE_TDT_base (↑c : ℕ) + 32 * tr.cause + 24)) 0)).toNat = 1) ∧
    (∃ (c : Fin 16) (s : State) (tr : TrapReq), s.get F.CORE_STAT_state (↑c : ℕ) = 1 ∧
      (s.coreOf (↑c : ℕ)).rst = none ∧
      (s.coreOf (↑c : ℕ)).trap = some tr ∧
      (s.coreOf (↑c : ℕ)).fq.length ≤ 11 ∧
      frameWaits s (↑c : ℕ) = false ∧
      s.is F.CORE_TDT_en (↑c : ℕ) = true ∧
      inOwnBank s (↑c : ℕ) (s.get F.CORE_TDT_base (↑c : ℕ) + 32 * tr.cause) 32 = true ∧
      (s.get F.CORE_TDT_base (↑c : ℕ) + 32 * tr.cause) % 8 = 0 ∧
      wordsGood s (s.get F.CORE_TDT_base (↑c : ℕ) + 32 * tr.cause) 32 ∧
      (BitVec.extractLsb' 16 2 (lineW (lineAt s (s.get F.CORE_TDT_base (↑c : ℕ) + 32 * tr.cause + 24)) 0)).toNat = 0 ∧
      (¬GoodCode (Cap.ofLine (lineAt s (s.get F.CORE_TDT_base (↑c : ℕ) + 32 * tr.cause + 8 * 0)) (lineTag s (s.get F.CORE_TDT_base (↑c : ℕ) + 32 * tr.cause + 8 * 0))))) ∧
    (∃ (c : Fin 16) (s : State) (tr : TrapReq), s.get F.CORE_STAT_state (↑c : ℕ) = 1 ∧
      (s.coreOf (↑c : ℕ)).rst = none ∧
      (s.coreOf (↑c : ℕ)).trap = some tr ∧
      (s.coreOf (↑c : ℕ)).fq.length ≤ 11 ∧
      frameWaits s (↑c : ℕ) = false ∧
      s.is F.CORE_TDT_en (↑c : ℕ) = true ∧
      inOwnBank s (↑c : ℕ) (s.get F.CORE_TDT_base (↑c : ℕ) + 32 * tr.cause) 32 = true ∧
      (s.get F.CORE_TDT_base (↑c : ℕ) + 32 * tr.cause) % 8 = 0 ∧
      wordsGood s (s.get F.CORE_TDT_base (↑c : ℕ) + 32 * tr.cause) 32 ∧
      (BitVec.extractLsb' 16 2 (lineW (lineAt s (s.get F.CORE_TDT_base (↑c : ℕ) + 32 * tr.cause + 24)) 0)).toNat = 0 ∧
      GoodCode (Cap.ofLine (lineAt s (s.get F.CORE_TDT_base (↑c : ℕ) + 32 * tr.cause + 8 * 0)) (lineTag s (s.get F.CORE_TDT_base (↑c : ℕ) + 32 * tr.cause + 8 * 0))) ∧
      (¬GoodStack (Cap.ofLine (lineAt s (s.get F.CORE_TDT_base (↑c : ℕ) + 32 * tr.cause + 8 * 1)) (lineTag s (s.get F.CORE_TDT_base (↑c : ℕ) + 32 * tr.cause + 8 * 1))))) ∧
    (∃ (c : Fin 16) (s : State) (tr : TrapReq), s.get F.CORE_STAT_state (↑c : ℕ) = 1 ∧
      (s.coreOf (↑c : ℕ)).rst = none ∧
      (s.coreOf (↑c : ℕ)).trap = some tr ∧
      (s.coreOf (↑c : ℕ)).fq.length ≤ 11 ∧
      frameWaits s (↑c : ℕ) = false ∧
      s.is F.CORE_TDT_en (↑c : ℕ) = true ∧
      inOwnBank s (↑c : ℕ) (s.get F.CORE_TDT_base (↑c : ℕ) + 32 * tr.cause) 32 = true ∧
      (s.get F.CORE_TDT_base (↑c : ℕ) + 32 * tr.cause) % 8 = 0 ∧
      wordsGood s (s.get F.CORE_TDT_base (↑c : ℕ) + 32 * tr.cause) 32 ∧
      (BitVec.extractLsb' 16 2 (lineW (lineAt s (s.get F.CORE_TDT_base (↑c : ℕ) + 32 * tr.cause + 24)) 0)).toNat = 0 ∧
      GoodCode (Cap.ofLine (lineAt s (s.get F.CORE_TDT_base (↑c : ℕ) + 32 * tr.cause + 8 * 0)) (lineTag s (s.get F.CORE_TDT_base (↑c : ℕ) + 32 * tr.cause + 8 * 0))) ∧
      GoodStack (Cap.ofLine (lineAt s (s.get F.CORE_TDT_base (↑c : ℕ) + 32 * tr.cause + 8 * 1)) (lineTag s (s.get F.CORE_TDT_base (↑c : ℕ) + 32 * tr.cause + 8 * 1))) ∧
      (Cap.ofLine (lineAt s (s.get F.CORE_TDT_base (↑c : ℕ) + 32 * tr.cause + 8 * 2)) (lineTag s (s.get F.CORE_TDT_base (↑c : ℕ) + 32 * tr.cause + 8 * 2))).tag = false) ∧
    (∃ (c : Fin 16) (s : State) (tr : TrapReq), s.get F.CORE_STAT_state (↑c : ℕ) = 1 ∧
      (s.coreOf (↑c : ℕ)).rst = none ∧
      (s.coreOf (↑c : ℕ)).trap = some tr ∧
      (s.coreOf (↑c : ℕ)).fq.length ≤ 11 ∧
      frameWaits s (↑c : ℕ) = false ∧
      s.is F.CORE_TDT_en (↑c : ℕ) = true ∧
      inOwnBank s (↑c : ℕ) (s.get F.CORE_TDT_base (↑c : ℕ) + 32 * tr.cause) 32 = true ∧
      (s.get F.CORE_TDT_base (↑c : ℕ) + 32 * tr.cause) % 8 = 0 ∧
      wordsGood s (s.get F.CORE_TDT_base (↑c : ℕ) + 32 * tr.cause) 32 ∧
      (BitVec.extractLsb' 16 2 (lineW (lineAt s (s.get F.CORE_TDT_base (↑c : ℕ) + 32 * tr.cause + 24)) 0)).toNat = 0 ∧
      GoodCode (Cap.ofLine (lineAt s (s.get F.CORE_TDT_base (↑c : ℕ) + 32 * tr.cause + 8 * 0)) (lineTag s (s.get F.CORE_TDT_base (↑c : ℕ) + 32 * tr.cause + 8 * 0))) ∧
      GoodStack (Cap.ofLine (lineAt s (s.get F.CORE_TDT_base (↑c : ℕ) + 32 * tr.cause + 8 * 1)) (lineTag s (s.get F.CORE_TDT_base (↑c : ℕ) + 32 * tr.cause + 8 * 1))) ∧
      (Cap.ofLine (lineAt s (s.get F.CORE_TDT_base (↑c : ℕ) + 32 * tr.cause + 8 * 2)) (lineTag s (s.get F.CORE_TDT_base (↑c : ℕ) + 32 * tr.cause + 8 * 2))).tag = true ∧
      NoFrameArea s (↑c : ℕ)) ∧
    (∃ (c : Fin 16) (s : State) (tr : TrapReq), s.get F.CORE_STAT_state (↑c : ℕ) = 1 ∧
      (s.coreOf (↑c : ℕ)).rst = none ∧
      (s.coreOf (↑c : ℕ)).trap = some tr ∧
      (s.coreOf (↑c : ℕ)).fq.length ≤ 11 ∧
      frameWaits s (↑c : ℕ) = false ∧
      s.is F.CORE_TDT_en (↑c : ℕ) = true ∧
      inOwnBank s (↑c : ℕ) (s.get F.CORE_TDT_base (↑c : ℕ) + 32 * tr.cause) 32 = true ∧
      (s.get F.CORE_TDT_base (↑c : ℕ) + 32 * tr.cause) % 8 = 0 ∧
      wordsGood s (s.get F.CORE_TDT_base (↑c : ℕ) + 32 * tr.cause) 32 ∧
      (BitVec.extractLsb' 16 2 (lineW (lineAt s (s.get F.CORE_TDT_base (↑c : ℕ) + 32 * tr.cause + 24)) 0)).toNat = 0 ∧
      GoodCode (Cap.ofLine (lineAt s (s.get F.CORE_TDT_base (↑c : ℕ) + 32 * tr.cause + 8 * 0)) (lineTag s (s.get F.CORE_TDT_base (↑c : ℕ) + 32 * tr.cause + 8 * 0))) ∧
      GoodStack (Cap.ofLine (lineAt s (s.get F.CORE_TDT_base (↑c : ℕ) + 32 * tr.cause + 8 * 1)) (lineTag s (s.get F.CORE_TDT_base (↑c : ℕ) + 32 * tr.cause + 8 * 1))) ∧
      (Cap.ofLine (lineAt s (s.get F.CORE_TDT_base (↑c : ℕ) + 32 * tr.cause + 8 * 2)) (lineTag s (s.get F.CORE_TDT_base (↑c : ℕ) + 32 * tr.cause + 8 * 2))).tag = true ∧
      (¬NoFrameArea s (↑c : ℕ)) ∧
      s.get F.CORE_FSP_depth (↑c : ℕ) = s.get F.CORE_FRM_size (↑c : ℕ)) :=
  ⟨⟨0, (((running { core0 with trap := some ⟨5, 0, 4, 0⟩ }).put F.CORE_STAT_state 0 1)).setCore 0 { (((running { core0 with trap := some ⟨5, 0, 4, 0⟩ }).put F.CORE_STAT_state 0 1)).coreOf 0 with rst := none, trap := some (⟨5, 0, 4, 0⟩ : TrapReq) }, (⟨5, 0, 4, 0⟩ : TrapReq), by decide, by decide, by decide, by decide, by decide, by decide, by decide⟩,
    ⟨0, ((((withFrames (withDesc (((running { core0 with trap := some ⟨5, 0, 4, 0⟩ }).put F.CORE_TDT_base 0 8388608).put F.CORE_TDT_en 0 1) 8388768 (aDesc) 0)).setSram 92 { w := 0, tag := false, ecc := .bad }).put F.CORE_STAT_state 0 1).put F.CORE_TDT_en 0 1), ⟨5, 0, 4, 0⟩, by decide, by decide, by decide, by decide, by decide, by decide, by decide, by decide, by decide⟩,
    ⟨0, (((withFrames (withDesc (((running { core0 with trap := some ⟨5, 0, 4, 0⟩ }).put F.CORE_TDT_base 0 8388608).put F.CORE_TDT_en 0 1) 8388768 (aDesc) 3)).put F.CORE_STAT_state 0 1).put F.CORE_TDT_en 0 1), ⟨5, 0, 4, 0⟩, by decide, by decide, by decide, by decide, by decide, by decide, by decide, by decide, (good_range _ _ _ (by decide)), by decide⟩,
    ⟨0, (((withFrames (withDesc (((running { core0 with trap := some ⟨5, 0, 4, 0⟩ }).put F.CORE_TDT_base 0 8388608).put F.CORE_TDT_en 0 1) 8388768 (aDesc) 1)).put F.CORE_STAT_state 0 1).put F.CORE_TDT_en 0 1), ⟨5, 0, 4, 0⟩, by decide, by decide, by decide, by decide, by decide, by decide, by decide, by decide, (good_range _ _ _ (by decide)), by decide⟩,
    ⟨0, (((withFrames (withDesc (((running { core0 with trap := some ⟨5, 0, 4, 0⟩ }).put F.CORE_TDT_base 0 8388608).put F.CORE_TDT_en 0 1) 8388768 ({ aDesc with code := {} }) 0)).put F.CORE_STAT_state 0 1).put F.CORE_TDT_en 0 1), ⟨5, 0, 4, 0⟩, by decide, by decide, by decide, by decide, by decide, by decide, by decide, by decide, (good_range _ _ _ (by decide)), by decide, (by unfold GoodCode; decide)⟩,
    ⟨0, (((withFrames (withDesc (((running { core0 with trap := some ⟨5, 0, 4, 0⟩ }).put F.CORE_TDT_base 0 8388608).put F.CORE_TDT_en 0 1) 8388768 ({ aDesc with stack := {} }) 0)).put F.CORE_STAT_state 0 1).put F.CORE_TDT_en 0 1), ⟨5, 0, 4, 0⟩, by decide, by decide, by decide, by decide, by decide, by decide, by decide, by decide, (good_range _ _ _ (by decide)), by decide, (by unfold GoodCode; decide), (by unfold GoodStack; decide)⟩,
    ⟨0, (((withFrames (withDesc (((running { core0 with trap := some ⟨5, 0, 4, 0⟩ }).put F.CORE_TDT_base 0 8388608).put F.CORE_TDT_en 0 1) 8388768 ({ aDesc with auth := {} }) 0)).put F.CORE_STAT_state 0 1).put F.CORE_TDT_en 0 1), ⟨5, 0, 4, 0⟩, by decide, by decide, by decide, by decide, by decide, by decide, by decide, by decide, (good_range _ _ _ (by decide)), by decide, (by unfold GoodCode; decide), (by unfold GoodStack; decide), by decide⟩,
    ⟨0, ((( (withDesc (((running { core0 with trap := some ⟨5, 0, 4, 0⟩ }).put F.CORE_TDT_base 0 8388608).put F.CORE_TDT_en 0 1) 8388768 (aDesc) 0)).put F.CORE_STAT_state 0 1).put F.CORE_TDT_en 0 1), ⟨5, 0, 4, 0⟩, by decide, by decide, by decide, by decide, by decide, by decide, by decide, by decide, (good_range _ _ _ (by decide)), by decide, (by unfold GoodCode; decide), (by unfold GoodStack; decide), by decide, (by unfold NoFrameArea; decide)⟩,
    ⟨0, ((((withFrames (withDesc (((running { core0 with trap := some ⟨5, 0, 4, 0⟩ }).put F.CORE_TDT_base 0 8388608).put F.CORE_TDT_en 0 1) 8388768 (aDesc) 0)).put F.CORE_FSP_depth 0 4).put F.CORE_STAT_state 0 1).put F.CORE_TDT_en 0 1), ⟨5, 0, 4, 0⟩, by decide, by decide, by decide, by decide, by decide, by decide, by decide, by decide, (good_range _ _ _ (by decide)), by decide, (by unfold GoodCode; decide), (by unfold GoodStack; decide), by decide, (by unfold NoFrameArea; decide), by decide⟩⟩

/-- The hypotheses of clauses of `Obligations.EventChannelsAndCells` are met. -/
theorem wit_EventChannelsAndCells_LogicCells :
    (∃ (t : ℕ) (n : Fin 64) (s : State) (i : Fin 4) (lvl : Bool), s.is F.LC_CTL_en (↑n : ℕ) = true ∧
      s.rung < 5 ∧
      s.is F.LC_IN_en (4 * (↑n : ℕ) + (↑i : ℕ)) = true ∧
      levelReaches (State.tick t s) (s.get F.LC_IN_ch (4 * (↑n : ℕ) + (↑i : ℕ))) { rank := 5, inst := 4 * (↑n : ℕ) + (↑i : ℕ) } lvl = true ∧
      (s.lcOf (↑n : ℕ)).inp.getD (↑i : ℕ) false ≠ lvl ∧
      (s.lcOf (↑n : ℕ)).inp.length = 4) ∧
    (∃ (t : ℕ) (n : Fin 64) (s : State) (x : ℕ), s.is F.LC_CTL_en (↑n : ℕ) = true ∧
      s.rung < 5 ∧
      (s.lcOf (↑n : ℕ)).since = some x ∧
      s.get F.LC_CTL_filt (↑n : ℕ) = 1 ∧
      100 * x + 6080 * s.get F.LC_FILT_n (↑n : ℕ) ≤ 100 * max s.now t + 3200) ∧
    (∃ (t : ℕ) (n : Fin 64) (s : State), s.is F.LC_CTL_en (↑n : ℕ) = true ∧
      s.rung < 5 ∧
      s.get F.LC_CTL_filt (↑n : ℕ) = 2 ∧
      s.get F.LC_CTL_mclk (↑n : ℕ) ≤ 4 ∧
      (s.get F.LC_CTL_mclk (↑n : ℕ) < 4 → s.rung < 3 ∧ max s.now t % 64 = 0) ∧
      (∀ (x : ℕ), s.divAtOf (s.get F.LC_CTL_mclk (↑n : ℕ)) = some x → ((max s.now t - x) % if s.get F.LC_CTL_mclk (↑n : ℕ) = 4 then 1953125 else 64 * 16 ^ if s.get F.LC_CTL_mclk (↑n : ℕ) = 0 then 0 else if s.get F.LC_CTL_mclk (↑n : ℕ) = 1 then 1 else if s.get F.LC_CTL_mclk (↑n : ℕ) = 2 then 2 else 3) = 0) ∧
      (s.lcOf (↑n : ℕ)).samples.length = 3) ∧
    (∃ (t : ℕ) (n : Fin 64) (s : State), s.is F.LC_CTL_en (↑n : ℕ) = true ∧
      s.rung < 5 ∧
      (s.lcOf (↑n : ℕ)).holdWait = true ∧
      (∀ (x : ℕ), s.divAtOf 4 = some x → (max s.now t - x) % 1953125 = 0)) ∧
    (∃ (t : ℕ) (n : Fin 64) (s : State) (x : ℕ), s.is F.LC_CTL_en (↑n : ℕ) = true ∧
      s.rung < 5 ∧
      (s.lcOf (↑n : ℕ)).holdEnd = some x ∧
      x ≤ max s.now t ∧
      s.is F.LC_STAT_lut (↑n : ℕ) = s.is F.LC_STAT_filt (↑n : ℕ)) ∧
    (∃ (t : ℕ) (n : Fin 64) (s : State) (x : ℕ), s.is F.LC_CTL_en (↑n : ℕ) = true ∧
      s.rung < 5 ∧
      (s.lcOf (↑n : ℕ)).holdEnd = some x ∧
      x ≤ max s.now t ∧
      s.is F.LC_STAT_lut (↑n : ℕ) ≠ s.is F.LC_STAT_filt (↑n : ℕ)) :=
  ⟨⟨6400000000000, 0, (((State.reset.put F.EV_STAT_lvl 0 1).put F.LC_IN_en 0 1).put F.LC_CTL_en 0 1), 0, true, by decide, by decide, by decide, by decide, by decide, by decide⟩,
    ⟨6400000000000, 0, (((State.reset.put F.LC_CTL_en 0 1).put F.LC_CTL_filt 0 1)).setLc 0 { (((State.reset.put F.LC_CTL_en 0 1).put F.LC_CTL_filt 0 1)).lcOf 0 with since := some 0 }, 0, by decide, by decide, by decide, by decide, by decide⟩,
    ⟨6400000000000, 0, ((State.reset.put F.LC_CTL_en 0 1).put F.LC_CTL_filt 0 2), by decide, by decide, by decide, by decide, by decide, (fun _ h => nomatch h), by decide⟩,
    ⟨6400000000000, 0, ((State.reset.put F.LC_CTL_en 0 1)).setLc 0 { ((State.reset.put F.LC_CTL_en 0 1)).lcOf 0 with holdWait := true }, by decide, by decide, by decide, (fun _ h => nomatch h)⟩,
    ⟨6400000000000, 0, ((State.reset.put F.LC_CTL_en 0 1)).setLc 0 { ((State.reset.put F.LC_CTL_en 0 1)).lcOf 0 with holdEnd := some 0 }, 0, by decide, by decide, by decide, by decide, by decide⟩,
    ⟨6400000000000, 0, (((State.reset.put F.LC_STAT_lut 0 1).put F.LC_CTL_en 0 1)).setLc 0 { (((State.reset.put F.LC_STAT_lut 0 1).put F.LC_CTL_en 0 1)).lcOf 0 with holdEnd := some 0 }, 0, by decide, by decide, by decide, by decide, by decide⟩⟩

/-- The hypotheses of clauses of `Obligations.HardwareLoops` are met. -/
theorem wit_HardwareLoops_LoopOpen :
    (∃ (t : ℕ) (c : Fin 16) (x : Fields) (s : State) (e : CoreCmd × Word), CoreReady t s (↑c : ℕ) ∧
      x.offL ≠ 0 ∧
      e ∈ [(Instr.lp, (s.coreOf (↑c : ℕ)).rd x.f27), (Instr.lpi, BitVec.ofNat 18 x.cnt)] ∧
      (x.resLP = 0 ∨ e.1 t c x = Instr.lpi t c x) ∧
      (atIssue t (↑c : ℕ) s).ln = 4) ∧
    (∃ (t : ℕ) (c : Fin 16) (x : Fields) (s : State) (e : CoreCmd × Word), CoreReady t s (↑c : ℕ) ∧
      x.offL ≠ 0 ∧
      e ∈ [(Instr.lp, (s.coreOf (↑c : ℕ)).rd x.f27), (Instr.lpi, BitVec.ofNat 18 x.cnt)] ∧
      (x.resLP = 0 ∨ e.1 t c x = Instr.lpi t c x) ∧
      (atIssue t (↑c : ℕ) s).ln ≠ 4 ∧
      e.2 = 0) ∧
    (∃ (t : ℕ) (c : Fin 16) (x : Fields) (s : State) (e : CoreCmd × Word), CoreReady t s (↑c : ℕ) ∧
      x.offL ≠ 0 ∧
      e ∈ [(Instr.lp, (s.coreOf (↑c : ℕ)).rd x.f27), (Instr.lpi, BitVec.ofNat 18 x.cnt)] ∧
      (x.resLP = 0 ∨ e.1 t c x = Instr.lpi t c x) ∧
      (atIssue t (↑c : ℕ) s).ln ≠ 4 ∧
      e.2 ≠ 0) :=
  ⟨⟨6400000000000, 0, (1 : Fields), (running { core0 with ln := 4 }), (Instr.lp, 0), (by unfold CoreReady; decide), by decide, (.head _), by decide, by decide⟩,
    ⟨6400000000000, 0, (32767 : Fields), (running core0), (Instr.lp, 0), (by unfold CoreReady; decide), by decide, (.head _), by decide, by decide, by decide⟩,
    ⟨6400000000000, 0, (32769 : Fields), (running { core0 with ln := 3 }), (Instr.lpi, 1), (by unfold CoreReady; decide), by decide, (.tail _ (.head _)), (.inr rfl), by decide, by decide⟩⟩

/-- The hypotheses of clauses of `Obligations.HardwareLoops` are met. -/
theorem wit_HardwareLoops_LoopRule :
    (∃ (t : ℕ) (c : Fin 16) (s : State), CoreReady t s (↑c : ℕ)) ∧
    (∃ (h : CoreS), h.ln = 0 ∨ h.pc ≠ h.leOf (h.ln - 1)) ∧
    (∃ (h : CoreS), 0 < h.ln ∧
      h.pc = h.leOf (h.ln - 1) ∧
      1 < BitVec.toNat (h.lcOf (h.ln - 1))) ∧
    (∃ (h : CoreS), 0 < h.ln ∧
      h.pc = h.leOf (h.ln - 1) ∧
      BitVec.toNat (h.lcOf (h.ln - 1)) ≤ 1) :=
  ⟨⟨6400000000000, 0, (running core0), (by unfold CoreReady; decide)⟩,
    ⟨core0, by decide⟩,
    ⟨{ core0 with ln := 1, le := [(0, 4)], lc := [(0, 2)] }, by decide, by decide, by decide⟩,
    ⟨{ core0 with ln := 1, le := [(0, 4)], lc := [(0, 1)] }, by decide, by decide, by decide⟩⟩

/-- The hypotheses of clauses of `Obligations.SurveyAndMetering` are met. -/
theorem wit_SurveyAndMetering_Metering :
    (∃ (t : ℕ) (s : State), s.rung < 3 ∧
      s.mfu.tickAt < max s.now t ∧
      tbPast (s.tbAt (max s.now t)) ((s.mfu.tickUs + 1) * 64000 % tbWrap) = true) ∧
    (∃ (t : ℕ) (k : Fin 32) (v : Word) (s : State), HwIdle t RegName.MF_CTL (↑k : ℕ) s ∧
      BitVec.getLsbD v 15 = false ∧
      (s.is F.MF_CTL_en (↑k : ℕ) = false ∨ F.MF_CTL_dmin.of (BitVec.toNat v) = s.get F.MF_CTL_dmin (↑k : ℕ)) ∧
      BitVec.getLsbD v 16 = true) ∧
    (∃ (t : ℕ) (k : Fin 32) (v : Word) (s : State), HwIdle t RegName.MF_CTL (↑k : ℕ) s ∧
      BitVec.getLsbD v 15 = false ∧
      (s.is F.MF_CTL_en (↑k : ℕ) = false ∨ F.MF_CTL_dmin.of (BitVec.toNat v) = s.get F.MF_CTL_dmin (↑k : ℕ)) ∧
      BitVec.getLsbD v 14 = true ∧
      s.is F.MF_CTL_tarm (↑k : ℕ) = false) ∧
    (∃ (t : ℕ) (k : Fin 32) (v : Word) (s : State), HwIdle t RegName.MF_CTL (↑k : ℕ) s ∧
      BitVec.getLsbD v 15 = true ∧
      s.is F.MF_CTL_en (↑k : ℕ) = false) ∧
    (∃ (t : ℕ) (k : Fin 32) (v : Word) (s : State), HwIdle t RegName.MF_CTL (↑k : ℕ) s ∧
      BitVec.getLsbD v 15 = true ∧
      s.is F.MF_CTL_en (↑k : ℕ) = true) :=
  ⟨⟨6400000000000, State.reset, by decide, by decide, by decide⟩,
    ⟨6400000000000, 0, (65536 : Word), State.reset, (by unfold HwIdle; decide), by decide, by decide, by decide⟩,
    ⟨6400000000000, 0, (16384 : Word), (State.reset.put F.MF_CTL_tarm 0 0), (by unfold HwIdle; decide), by decide, by decide, by decide, by decide⟩,
    ⟨6400000000000, 0, (32768 : Word), (State.reset.put F.MF_CTL_en 0 0), (by unfold HwIdle; decide), by decide, by decide⟩,
    ⟨6400000000000, 0, (32768 : Word), (State.reset.put F.MF_CTL_en 0 1), (by unfold HwIdle; decide), by decide, by decide⟩⟩

/-- The hypotheses of clauses of `Obligations.ModesAndSleep` are met. -/
theorem wit_ModesAndSleep_Modes_1 :
    (∃ (t : ℕ) (s : State) (v : Word), HwIdle t RegName.MODE_CTL 0 s ∧
      F.MODE_CTL_req.of (BitVec.toNat v) = 0 ∧
      s.is F.MODE_STAT_busy 0 = false ∧
      s.get F.MODE_STAT_cur 0 = 2) ∧
    (∃ (t : ℕ) (s : State) (v : Word), HwIdle t RegName.MODE_CTL 0 s ∧
      F.MODE_CTL_req.of (BitVec.toNat v) = 0 ∧
      s.is F.MODE_STAT_busy 0 = false ∧
      s.get F.MODE_STAT_cur 0 = 1) ∧
    (∃ (t : ℕ) (s : State) (v : Word), HwIdle t RegName.MODE_CTL 0 s ∧
      F.MODE_CTL_req.of (BitVec.toNat v) = 2 ∧
      s.is F.MODE_STAT_busy 0 = false ∧
      s.get F.MODE_STAT_cur 0 = 0) ∧
    (∃ (t : ℕ) (s : State) (v : Word), HwIdle t RegName.MODE_CTL 0 s ∧
      F.MODE_CTL_req.of (BitVec.toNat v) = 2 ∧
      s.is F.MODE_STAT_busy 0 = false ∧
      s.get F.MODE_STAT_cur 0 = 1) ∧
    (∃ (t : ℕ) (s : State) (v : Word) (vdd : ℕ), HwIdle t RegName.MODE_CTL 0 s ∧
      F.MODE_CTL_req.of (BitVec.toNat v) = 1 ∧
      s.is F.MODE_STAT_busy 0 = false ∧
      s.get F.MODE_STAT_cur 0 ≠ 1 ∧
      (¬(↑(s.getS F.TJ_EST_t 0) : ℚ) / 4 > (↑(s.get F.TJ_SPRING_LIMIT_t 0) : ℚ) - 5) ∧
      780 ≤ vdd ∧
      s.is F.PWR_PFSTAT_act 0 = false) ∧
    (∃ (t : ℕ) (s : State) (v : Word) (vdd : ℕ), HwIdle t RegName.MODE_CTL 0 s ∧
      F.MODE_CTL_req.of (BitVec.toNat v) = 1 ∧
      s.is F.MODE_STAT_busy 0 = false ∧
      s.get F.MODE_STAT_cur 0 ≠ 1 ∧
      ((if (↑(s.getS F.TJ_EST_t 0) : ℚ) / 4 > (↑(s.get F.TJ_SPRING_LIMIT_t 0) : ℚ) - 5 then 1 else if vdd < 780 then 2 else if s.is F.PWR_PFSTAT_act 0 = true then 3 else 0) ≠ 0)) ∧
    (∃ (s : State) (m : ℕ), s.is F.MODE_STAT_busy 0 = true ∧
      s.pwr.modeTo = some m ∧
      m < 3 ∧
      s.get F.MODE_CTL_req 0 = m ∧
      (s.get F.MODE_STAT_cur 0 = 2 ∨ m = 2 → ∀ c < 16, (s.coreOf c).sb = [] ∧ (slackHolds s c = true ∨ s.get F.CORE_STAT_state c ≠ 1))) ∧
    (∃ (s : State) (v : BitVec 14), s.rung < 3 ∧
      (¬((↑v.toInt : ℚ) / 4 ≥ (↑(s.get F.TJ_SPRING_LIMIT_t 0) : ℚ) ∧ (s.get F.MODE_STAT_cur 0 = 1 ∧ s.pwr.modeTo = none ∨ s.pwr.modeTo = some 1)))) ∧
    (∃ (s : State) (v : BitVec 14), s.rung < 3 ∧
      (↑v.toInt : ℚ) / 4 ≥ (↑(s.get F.TJ_SPRING_LIMIT_t 0) : ℚ) ∧
      (s.get F.MODE_STAT_cur 0 = 1 ∧ s.pwr.modeTo = none ∨ s.pwr.modeTo = some 1)) :=
  ⟨⟨6400000000000, ((State.reset.put F.MODE_STAT_busy 0 0).put F.MODE_STAT_cur 0 2), (0 : Word), (by unfold HwIdle; decide), by decide, by decide, by decide⟩,
    ⟨6400000000000, ((State.reset.put F.MODE_STAT_busy 0 0).put F.MODE_STAT_cur 0 1), (0 : Word), (by unfold HwIdle; decide), by decide, by decide, by decide⟩,
    ⟨6400000000000, ((State.reset.put F.MODE_STAT_busy 0 0).put F.MODE_STAT_cur 0 0), (131072 : Word), (by unfold HwIdle; decide), by decide, by decide, by decide⟩,
    ⟨6400000000000, ((State.reset.put F.MODE_STAT_busy 0 0).put F.MODE_STAT_cur 0 1), (131072 : Word), (by unfold HwIdle; decide), by decide, by decide, by decide⟩,
    ⟨6400000000000, ((State.reset.put F.MODE_STAT_busy 0 0).put F.PWR_PFSTAT_act 0 0), (65536 : Word), 780, (by unfold HwIdle; decide), by decide, by decide, by decide, (by show ¬((0 : ℤ) : ℚ) / 4 > ((100 : ℕ) : ℚ) - 5; norm_num), by decide, by decide⟩,
    ⟨6400000000000, (State.reset.put F.MODE_STAT_busy 0 0), (65536 : Word), 779, (by unfold HwIdle; decide), by decide, by decide, by decide, (by show (if ((0 : ℤ) : ℚ) / 4 > ((100 : ℕ) : ℚ) - 5 then 1 else 2) ≠ 0; norm_num)⟩,
    ⟨{ (((State.reset.put F.MODE_CTL_req 0 2)).put F.MODE_STAT_busy 0 1) with pwr := { ((((State.reset.put F.MODE_CTL_req 0 2)).put F.MODE_STAT_busy 0 1)).pwr with modeTo := some 2 } }, 2, by decide, by decide, by decide, by decide, by decide⟩,
    ⟨State.reset, (400 : BitVec 14), by decide, (by intro h; exact absurd h.2 (by decide))⟩,
    ⟨(State.reset.put F.MODE_STAT_cur 0 1), (400 : BitVec 14), by decide, (by show ((400 : ℤ) : ℚ) / 4 ≥ ((100 : ℕ) : ℚ); norm_num), by decide⟩⟩

/-- The hypotheses of clauses of `Obligations.ModesAndSleep` are met. -/
theorem wit_ModesAndSleep_Modes_2 :
    ∃ (t : ℕ) (s : State) (x : ℕ), s.pwr.springAt = some x ∧
      s.get F.MODE_STAT_cur 0 = 1 ∧
      (s.get F.MODE_STAT_cur 0 = 1 ∧ s.pwr.modeTo = none ∨ s.pwr.modeTo = some 1) ∧
      (x + (if s.get F.SPRING_MAX_S_s 0 = 0 then 600 else s.get F.SPRING_MAX_S_s 0) * 64000000000 ≤ max s.now t) :=
  ⟨6400000000000, { (State.reset.put F.MODE_STAT_cur 0 1) with pwr := { ((State.reset.put F.MODE_STAT_cur 0 1)).pwr with springAt := some 0 } }, 0, by decide, by decide, by decide, by decide⟩

/-- The hypotheses of clauses of `Obligations.MultiplyAndDivide` are met. -/
theorem wit_MultiplyAndDivide_MultiplyResults :
    (∃ (t : ℕ) (c : Fin 16) (x : Fields) (s : State) (e : CoreCmd × (Word → Word → ℤ) × Option (ℤ → ℤ → ℤ)), CoreReady t s (↑c : ℕ) ∧
      e ∈ mulTable ∧
      x.f27 = 0 ∧
      x.tan = 0) ∧
    (∃ (t : ℕ) (c : Fin 16) (x : Fields) (s : State), CoreReady t s (↑c : ℕ) ∧
      x.f23 = 0 ∧
      x.tan = 0) ∧
    (∃ (t : ℕ) (c : Fin 16) (x : Fields) (s : State), CoreReady t s (↑c : ℕ) ∧
      x = 0) :=
  ⟨⟨6400000000000, 0, (1179648 : Fields), (running core0), mulTable[2], (by unfold CoreReady; decide), (List.getElem_mem (by decide)), by decide, by decide⟩,
    ⟨6400000000000, 0, (0 : Fields), (running core0), (by unfold CoreReady; decide), by decide, by decide⟩,
    ⟨6400000000000, 0, (0 : Fields), (running core0), (by unfold CoreReady; decide), by decide⟩⟩

/-- The hypotheses of clauses of `Obligations.PairAndImmediateInstructions` are met. -/
theorem wit_PairAndImmediateInstructions_PairResults :
    (∃ (t : ℕ) (c : Fin 16) (x : Fields) (s : State) (e : CoreCmd × (DWord → DWord → DWord)), CoreReady t s (↑c : ℕ) ∧
      x.f27 % 2 = 0 ∧
      x.f23 % 2 = 0 ∧
      x.f19 % 2 = 0 ∧
      x.tan = 0 ∧
      e ∈ pairTable) ∧
    (∃ (t : ℕ) (c : Fin 16) (x : Fields) (s : State) (e : CoreCmd × (DWord → ℕ → DWord)), CoreReady t s (↑c : ℕ) ∧
      x.f27 % 2 = 0 ∧
      x.f23 % 2 = 0 ∧
      x.f19 % 2 = 0 ∧
      x.tan = 0 ∧
      e ∈ pairShifts) ∧
    (∃ (t : ℕ) (c : Fin 16) (x : Fields) (s : State), CoreReady t s (↑c : ℕ) ∧
      x.f27 % 2 = 0 ∧
      x.f23 % 2 = 0 ∧
      x.f19 % 2 = 0 ∧
      x.tan = 0 ∧
      x.f19 = 0) :=
  ⟨⟨6400000000000, 0, (237240320 : Fields), (running core0), pairTable[1], (by unfold CoreReady; decide), by decide, by decide, by decide, by decide, (List.getElem_mem (by decide))⟩,
    ⟨6400000000000, 0, (237240320 : Fields), (running core0), pairShifts[2], (by unfold CoreReady; decide), by decide, by decide, by decide, by decide, (List.getElem_mem (by decide))⟩,
    ⟨6400000000000, 0, (0 : Fields), (running core0), (by unfold CoreReady; decide), by decide, by decide, by decide, by decide, by decide⟩⟩

/-- The hypotheses of clauses of `Obligations.ClocksAndPowerFailure` are met. -/
theorem wit_ClocksAndPowerFailure_PowerFailure :
    (∃ (s : State), s.boot.held = true) ∧
    (∃ (s : State), s.is F.PWR_PFSTAT_act 0 = false ∧
      s.boot.held = false ∧
      s.rung < 5) ∧
    (∃ (t : ℕ) (s : State) (i : ℕ) (v : BitVec 18) (x : ℕ) (j : Bool), s.is F.PWR_PFSTAT_act 0 = true ∧
      s.is F.MFU_JCTL_en 0 = false ∧
      (∀ b < 4, b ≠ 0 → (s.flOf b).run = none) ∧
      (∀ b < 4, (s.flOf b).jq = []) ∧
      (s.flOf 0).run = some { op := FlOp.otp i v, start := x, jrn := j } ∧
      x + 1280000 ≤ max s.now t) ∧
    (∃ (s : State), s.is F.PWR_PFSTAT_act 0 = true ∧
      s.is F.PWR_PFSTAT_rcv 0 = false) :=
  ⟨⟨{ State.reset with boot := { (State.reset).boot with held := true } }, by decide⟩,
    ⟨{ (State.reset.put F.PWR_PFSTAT_act 0 0) with boot := { ((State.reset.put F.PWR_PFSTAT_act 0 0)).boot with held := false } }, by decide, by decide, by decide⟩,
    ⟨6400000000000, (((State.reset.put F.PWR_PFSTAT_act 0 1).put F.MFU_JCTL_en 0 0)).setFl 0 { (((State.reset.put F.PWR_PFSTAT_act 0 1).put F.MFU_JCTL_en 0 0)).flOf 0 with run := some { op := FlOp.otp 0 (0 : BitVec 18), start := 0, jrn := false } }, 0, (0 : BitVec 18), 0, false, by decide, by decide, by decide, by decide, by decide, by decide⟩,
    ⟨((State.reset.put F.PWR_PFSTAT_act 0 1).put F.PWR_PFSTAT_rcv 0 0), by decide, by decide⟩⟩

/-- The hypotheses of clauses of `Obligations.TimebaseAndPps` are met. -/
theorem wit_TimebaseAndPps_Pps :
    (∃ (t : ℕ) (s : State) (rising : Bool), rising ≠ s.is F.TB_CTL_pol 0 ∧
      s.get F.TB_CTL_mode 0 ≠ 0 ∧
      s.is F.LK_TCTL_en 0 = false ∧
      s.tb.stopped = false ∧
      s.get F.TB_PPSDLY_d 0 < 32000000000 ∧
      (if s.is F.TB_STAT_lock 0 = true then (((↑(s.tbAt (max s.now t)) : ℤ) % 64000000000 - (↑(s.get F.TB_PPSDLY_d 0) : ℤ) + 32000000000) % 64000000000 - 32000000000).natAbs ≤ 64 * s.get F.TB_PPSWIN_w 0 else ∀ (x : ℕ), s.pps.prev = some x → x + 32000000000 ≤ max s.now t)) ∧
    (∃ (t : ℕ) (s : State) (rising : Bool), rising ≠ s.is F.TB_CTL_pol 0 ∧
      s.get F.TB_CTL_mode 0 ≠ 0 ∧
      s.is F.LK_TCTL_en 0 = false ∧
      s.tb.stopped = false ∧
      s.get F.TB_PPSDLY_d 0 < 32000000000 ∧
      (¬if s.is F.TB_STAT_lock 0 = true then (((↑(s.tbAt (max s.now t)) : ℤ) % 64000000000 - (↑(s.get F.TB_PPSDLY_d 0) : ℤ) + 32000000000) % 64000000000 - 32000000000).natAbs ≤ 64 * s.get F.TB_PPSWIN_w 0 else ∀ (x : ℕ), s.pps.prev = some x → x + 32000000000 ≤ max s.now t)) ∧
    (∃ (t : ℕ) (s : State) (a : ℕ), s.pps.acc = some a ∧
      s.is F.TB_STAT_hold 0 = false ∧
      a + 64000000000 + 64 * s.get F.TB_PPSWIN_w 0 ≤ max s.now t ∧
      2 ≤ s.get F.TB_CTL_mode 0 ∧
      s.is F.TB_STAT_lock 0 = true) ∧
    (∃ (t : ℕ) (s : State) (a : ℕ), s.pps.acc = some a ∧
      s.is F.TB_STAT_hold 0 = false ∧
      a + 64000000000 + 64 * s.get F.TB_PPSWIN_w 0 ≤ max s.now t ∧
      s.get F.TB_CTL_mode 0 = 1) :=
  ⟨⟨6400000000000, { (((State.reset.put F.TB_CTL_mode 0 1).put F.TB_STAT_lock 0 1).put F.LK_TCTL_en 0 0) with tb := { ((((State.reset.put F.TB_CTL_mode 0 1).put F.TB_STAT_lock 0 1).put F.LK_TCTL_en 0 0)).tb with stopped := false } }, true, by decide, by decide, by decide, by decide, by decide, by decide⟩,
    ⟨6400000000000, { ((((State.reset.put F.TB_CTL_mode 0 1).put F.TB_STAT_lock 0 1).put F.TB_PPSDLY_d 0 6400000).put F.LK_TCTL_en 0 0) with tb := { (((((State.reset.put F.TB_CTL_mode 0 1).put F.TB_STAT_lock 0 1).put F.TB_PPSDLY_d 0 6400000).put F.LK_TCTL_en 0 0)).tb with stopped := false } }, true, by decide, by decide, by decide, by decide, by decide, by decide⟩,
    ⟨6400000000000, { (((State.reset.put F.TB_CTL_mode 0 2).put F.TB_STAT_hold 0 0).put F.TB_STAT_lock 0 1) with pps := { ((((State.reset.put F.TB_CTL_mode 0 2).put F.TB_STAT_hold 0 0).put F.TB_STAT_lock 0 1)).pps with acc := some 0 } }, 0, by decide, by decide, by decide, by decide, by decide⟩,
    ⟨6400000000000, { ((State.reset.put F.TB_STAT_hold 0 0).put F.TB_CTL_mode 0 1) with pps := { (((State.reset.put F.TB_STAT_hold 0 0).put F.TB_CTL_mode 0 1)).pps with acc := some 0 } }, 0, by decide, by decide, by decide, by decide⟩⟩

/-- The hypotheses of clauses of `Obligations.BerthRuns` are met. -/
theorem wit_BerthRuns_Runs :
    (∃ (t : ℕ) (c : Fin 8) (b : ℕ) (p : PendRun) (s : State), s.is F.ENG_CTL_en 0 = true ∧
      s.rung < 3 ∧
      t % 64 = 0 ∧
      (s.craneOf (↑c : ℕ)).run = none ∧
      (s.craneOf (↑c : ℕ)).freeAt ≤ t ∧
      s.now ≤ t ∧
      b ∈ armedOn s (↑c : ℕ) ∧
      (s.berthOf b).pend = some p ∧
      p.ready ≤ t ∧
      (∀ (d : ℕ), p.deadline = some d → t < d) ∧
      (∀ m ∈ armedOn s (↑c : ℕ), m ≠ b → ∀ (q : PendRun), (s.berthOf m).pend = some q → q.ready ≤ t → s.get F.BERTH_CTL_pri b < s.get F.BERTH_CTL_pri m ∨ s.get F.BERTH_CTL_pri b = s.get F.BERTH_CTL_pri m ∧ b < m)) ∧
    (∃ (c : Fin 8) (r : Run) (s : State), (s.craneOf (↑c : ℕ)).run = some r ∧
      r.prog.length ≤ r.pos ∧
      r.mem = false ∧
      (s.berthOf r.berth).endOff = false ∧
      (∀ m ∈ s.armed, s.get F.BERTH_TRG_src m ≠ 1 ∨ s.get F.BERTH_TRG_num m ≠ r.berth) ∧
      (∀ k < 64, s.get F.BANK_OWN_kind k ≠ 1 ∨ (s.get F.BANK_OWN_id k).testBit (↑c : ℕ) = false)) ∧
    (∃ (t : ℕ) (b : Fin 1024) (p : PendRun) (d : ℕ) (s : State), (s.berthOf (↑b : ℕ)).pend = some p ∧
      p.deadline = some d ∧
      d ≤ max s.now t ∧
      s.is F.BERTH_GRP_mem (↑b : ℕ) = false ∧
      (∀ k < 64, s.get F.BANK_OWN_kind k ≠ 1 ∨ (s.get F.BANK_OWN_id k).testBit (s.get F.BERTH_CTL_crane (↑b : ℕ)) = false)) :=
  ⟨⟨6400000000000, 0, 0, (⟨0, none, false⟩ : PendRun), ((({ (State.reset.setBerth 0 { State.reset.berthOf 0 with pend := some ⟨0, none, false⟩ }) with armed := [0] }).put F.ENG_CTL_en 0 1)).setCrane 0 { ((({ (State.reset.setBerth 0 { State.reset.berthOf 0 with pend := some ⟨0, none, false⟩ }) with armed := [0] }).put F.ENG_CTL_en 0 1)).craneOf 0 with run := none }, by decide, by decide, by decide, by decide, by decide, by decide, by decide, by decide, by decide, (fun d h => nomatch h), by decide⟩,
    ⟨0, { aRun with pos := 1 }, (State.reset).setCrane 0 { (State.reset).craneOf 0 with run := some { aRun with pos := 1 } }, by decide, by decide, by decide, by decide, by decide, by decide⟩,
    ⟨6400000000000, 0, (⟨0, some 0, false⟩ : PendRun), 0, ((State.reset.setBerth 0 { State.reset.berthOf 0 with pend := some ⟨0, some 0, false⟩ }).put F.BERTH_GRP_mem 0 0), by decide, by decide, by decide, by decide, by decide⟩⟩

/-- The hypotheses of clauses of `Obligations.ModesAndSleep` are met. -/
theorem wit_ModesAndSleep_SleepLadder :
    (∃ (s : State) (q : Fin 4), s.is { reg := RegName.PWR_QCTL, lo := 17 - (↑q : ℕ), w := 1 } 0 = true ∧
      s.dozeOf (↑q : ℕ) = false ∧
      (∀ c < 16, c / 4 = (↑q : ℕ) → s.get F.CORE_STAT_state c ≠ 1 ∧ (s.coreOf c).pres = none)) ∧
    (∃ (s : State) (q : Fin 4), s.dozeOf (↑q : ℕ) = true ∧
      (∃ c < 16, c / 4 = (↑q : ℕ) ∧ (s.coreOf c).pres ≠ none)) ∧
    (∃ (s : State), (∀ c < 16, s.get F.CORE_STAT_state c ≠ 1 ∧ (s.coreOf c).pres = none) ∧
      s.rung = 0 ∧
      (s.get F.PWR_SLEEP_rung 0 = 0 ∨ 6 ≤ s.get F.PWR_SLEEP_rung 0)) ∧
    (∃ (s : State), (∀ c < 16, s.get F.CORE_STAT_state c ≠ 1 ∧ (s.coreOf c).pres = none) ∧
      s.rung = 0 ∧
      s.get F.MODE_STAT_cur 0 ≠ 1 ∧
      s.pwr.modeTo ≠ some 1 ∧
      (s.get F.PWR_SLEEP_rung 0 = 1 ∨ 2 ≤ s.get F.PWR_SLEEP_rung 0 ∧ s.get F.PWR_SLEEP_rung 0 < 6 ∧ sleepWhy s (s.get F.PWR_SLEEP_rung 0 + 1) ≠ 0)) ∧
    (∃ (s : State), (∀ c < 16, s.get F.CORE_STAT_state c ≠ 1 ∧ (s.coreOf c).pres = none) ∧
      (s.rung = 0 ∨ s.rung = 2) ∧
      2 ≤ s.get F.PWR_SLEEP_rung 0 ∧
      s.get F.PWR_SLEEP_rung 0 < 6 ∧
      sleepWhy s (s.get F.PWR_SLEEP_rung 0 + 1) = 0) ∧
    (∃ (s : State) (c : ℕ) (w : ℕ), c < 16 ∧
      s.rung = 2 ∧
      (s.coreOf c).pres = some w) ∧
    (∃ (s : State) (w : ℕ), 3 ≤ s.rung ∧
      s.wake = some w ∧
      w < 16 ∧
      s.rung ≤ 4) ∧
    (∃ (s : State) (w : ℕ), 3 ≤ s.rung ∧
      s.wake = some w ∧
      w < 16 ∧
      5 ≤ s.rung ∧
      s.devRst = none) :=
  ⟨⟨(State.reset.put ⟨.PWR_QCTL, 17, 1⟩ 0 1), 0, by decide, by decide, by decide⟩,
    ⟨((State.reset.setCore 3 { pres := some 1 }).setDoze 0 true), 0, by decide, by decide⟩,
    ⟨{ State.reset with rung := 0 }, by decide, by decide, by decide⟩,
    ⟨{ (State.reset.put F.PWR_SLEEP_rung 0 1) with rung := 0 }, by decide, by decide, by decide, by decide, by decide⟩,
    ⟨((State.reset.put F.PWR_SLEEP_rung 0 2).put F.PWR_ALARM_s 0 1), by decide, by decide, by decide, by decide, by decide⟩,
    ⟨({ State.reset with rung := 2 }).setCore 0 { ({ State.reset with rung := 2 }).coreOf 0 with pres := some 0 }, 0, 0, by decide, by decide, by decide⟩,
    ⟨{ ({ State.reset with rung := 4, wake := some 15 }) with wake := some 15 }, 15, by decide, by decide, by decide, by decide⟩,
    ⟨{ { ({ State.reset with rung := 5, wake := some 15 }) with wake := some 15 } with devRst := none }, 15, by decide, by decide, by decide, by decide, by decide⟩⟩

/-- The hypotheses of clauses of `Obligations.OtherRegions` are met. -/
theorem wit_OtherRegions_StoresElsewhere_1 :
    (∃ (e : (ℕ → Fin 16 → Bool → Fields → Instr) × ℕ × (Fields → Prop) × (CoreS → Fields → ℕ) × (CoreS → Fields → Bool)) (t : ℕ) (c : Fin 16) (mx : Bool) (x : Fields) (s : State), e ∈ storeTable ∧
      CoreReady t s (↑c : ℕ) ∧
      (mx = true → x.b20 = 0) ∧
      e.2.2.1 x ∧
      (capCheck ((atIssue t (↑c : ℕ) s).cap x.kc) (if e.2.2.2.2 (atIssue t (↑c : ℕ) s) x = true then [permST, permSK] else [permST]) ((atIssue t (↑c : ℕ) s).ea mx x) e.2.1 = none) ∧
      accessOk ((atIssue t (↑c : ℕ) s).ea mx x).toNat e.2.1 true = true ∧
      regionOf ((atIssue t (↑c : ℕ) s).ea mx x).toNat ≠ Region.sram ∧
      (atIssue t (↑c : ℕ) s).sb.length < 8) ∧
    (∃ (e : (ℕ → Fin 16 → Bool → Fields → Instr) × ℕ × (Fields → Prop) × (CoreS → Fields → ℕ) × (CoreS → Fields → Bool)) (t : ℕ) (c : Fin 16) (mx : Bool) (x : Fields) (s : State), e ∈ storeTable ∧
      CoreReady t s (↑c : ℕ) ∧
      (mx = true → x.b20 = 0) ∧
      e.2.2.1 x ∧
      (capCheck ((atIssue t (↑c : ℕ) s).cap x.kc) (if e.2.2.2.2 (atIssue t (↑c : ℕ) s) x = true then [permST, permSK] else [permST]) ((atIssue t (↑c : ℕ) s).ea mx x) e.2.1 = none) ∧
      accessOk ((atIssue t (↑c : ℕ) s).ea mx x).toNat e.2.1 true = true ∧
      regionOf ((atIssue t (↑c : ℕ) s).ea mx x).toNat ≠ Region.sram ∧
      8 ≤ (atIssue t (↑c : ℕ) s).sb.length) ∧
    (∃ (c : Fin 16) (s : State) (e : SbEntry) (l : List SbEntry), (s.coreOf (↑c : ℕ)).sb = e :: l ∧
      (e.size = 2 ∨ e.size = 4) ∧
      regionOf e.ea = Region.bstore ∧
      e.ea % 2 = 0 ∧
      (∃ i < e.size / 2, ∃ b ∈ s.armed, s.get F.BERTH_PROG_base b ≤ (e.ea / 2 - 6553600 + i) / 2 ∧ (e.ea / 2 - 6553600 + i) / 2 ≤ s.get F.BERTH_PROG_base b + s.get F.BERTH_PROG_lenm1 b)) ∧
    (∃ (c : Fin 16) (s : State) (e : SbEntry) (l : List SbEntry), (s.coreOf (↑c : ℕ)).sb = e :: l ∧
      (e.size = 2 ∨ e.size = 4) ∧
      regionOf e.ea = Region.bstore ∧
      e.ea % 2 = 0 ∧
      (¬∃ i < e.size / 2, ∃ b ∈ s.armed, s.get F.BERTH_PROG_base b ≤ (e.ea / 2 - 6553600 + i) / 2 ∧ (e.ea / 2 - 6553600 + i) / 2 ≤ s.get F.BERTH_PROG_base b + s.get F.BERTH_PROG_lenm1 b)) ∧
    (∃ (c : Fin 16) (s : State) (e : SbEntry) (l : List SbEntry), (s.coreOf (↑c : ℕ)).sb = e :: l ∧
      (e.size = 2 ∨ e.size = 4) ∧
      regionOf e.ea = Region.bram ∧
      e.ea % 2 = 0) ∧
    (∃ (c : Fin 16) (s : State) (e : SbEntry) (l : List SbEntry), (s.coreOf (↑c : ℕ)).sb = e :: l ∧
      (e.size = 2 ∨ e.size = 4) ∧
      regionOf e.ea = Region.tide) ∧
    (∃ (c : Fin 16) (s : State) (e : SbEntry) (l : List SbEntry) (r : Fin 8), (s.coreOf (↑c : ℕ)).sb = e :: l ∧
      (e.size = 2 ∨ e.size = 4) ∧
      regionOf e.ea = Region.periph ∧
      capCheck ((s.coreOf (↑c : ℕ)).cap (↑r : ℕ)) [permST] (↑e.ea : ℤ) e.size = none ∧
      periphStorable e.ea e.size = true) ∧
    (∃ (c : Fin 16) (s : State) (e : SbEntry) (l : List SbEntry) (b : Fin 4) (line : ℕ) (data : BitVec 72), (s.coreOf (↑c : ℕ)).sb = e :: l ∧
      (e.size = 2 ∨ e.size = 4) ∧
      regionOf e.ea = Region.flash ∧
      e.ea / 2097152 = (↑b : ℕ) ∧
      (e.ea + e.size - 1) / 2097152 = (↑b : ℕ) ∧
      flStep (s.flOf (↑b : ℕ)).seq (↑b : ℕ) (BitVec.ofNat 21 (e.ea % 2097152)).toNat (e.size == 4) (BitVec.ofNat 36 (e.data.toNat % 2 ^ (9 * e.size))).toNat = FlStep.done (FlOp.program line data false)) ∧
    (∃ (c : Fin 16) (s : State) (e : SbEntry) (l : List SbEntry) (b : Fin 4) (q : FlSeq), (s.coreOf (↑c : ℕ)).sb = e :: l ∧
      (e.size = 2 ∨ e.size = 4) ∧
      regionOf e.ea = Region.flash ∧
      e.ea / 2097152 = (↑b : ℕ) ∧
      (e.ea + e.size - 1) / 2097152 = (↑b : ℕ) ∧
      flStep (s.flOf (↑b : ℕ)).seq (↑b : ℕ) (BitVec.ofNat 21 (e.ea % 2097152)).toNat (e.size == 4) (BitVec.ofNat 36 (e.data.toNat % 2 ^ (9 * e.size))).toNat = FlStep.go q) :=
  ⟨⟨storeTable[1], 6400000000000, 0, false, (117571584 : Fields), (running { core0 with k := [(1, { aCap with base := 0 })] }), (List.getElem_mem (by decide)), (by unfold CoreReady; decide), by decide, (trivial), by decide, by decide, by decide, by decide⟩,
    ⟨storeTable[1], 6400000000000, 0, false, (117571584 : Fields), (running { core0 with k := [(1, aCap)], sb := List.replicate 8 ⟨5460, 2, 5, false, false⟩ }), (List.getElem_mem (by decide)), (by unfold CoreReady; decide), by decide, (trivial), by decide, by decide, by decide, by decide⟩,
    ⟨0, ({ (running { core0 with sb := [⟨13107200, 2, 5, false, false⟩] }) with armed := [0] }), ⟨13107200, 2, 5, false, false⟩, [], by decide, by decide, by decide, by decide, by decide⟩,
    ⟨0, (running { core0 with sb := [⟨13107200, 4, 5, false, false⟩] }), ⟨13107200, 4, 5, false, false⟩, [], by decide, by decide, by decide, by decide, by decide⟩,
    ⟨0, (running { core0 with sb := [⟨13369344, 4, 5, false, false⟩] }), ⟨13369344, 4, 5, false, false⟩, [], by decide, by decide, by decide, by decide⟩,
    ⟨0, (running { core0 with sb := [⟨33554432, 2, 5, false, false⟩] }), ⟨33554432, 2, 5, false, false⟩, [], by decide, by decide, by decide⟩,
    ⟨0, (running { core0 with sb := [⟨17039380, 2, 5, false, false⟩] }), ⟨17039380, 2, 5, false, false⟩, [], 1, by decide, by decide, by decide, by decide, by decide⟩,
    ⟨0, ((running { core0 with sb := [⟨6, 2, 4, false, false⟩] }).setFl 0 { seq := .line (some 0) [1, 2, 3] false }), ⟨6, 2, 4, false, false⟩, [], 0, 0, (18014535949221892 : BitVec 72), by decide, by decide, by decide, by decide, by decide, by decide⟩,
    ⟨0, (running { core0 with sb := [⟨5460, 2, 87381, false, false⟩] }), ⟨5460, 2, 87381, false, false⟩, [], 0, .u1, by decide, by decide, by decide, by decide, by decide, by decide⟩⟩

/-- The hypotheses of clauses of `Obligations.OtherRegions` are met. -/
theorem wit_OtherRegions_StoresElsewhere_2 :
    (∃ (c : Fin 16) (s : State) (e : SbEntry) (l : List SbEntry) (b : Fin 4), (s.coreOf (↑c : ℕ)).sb = e :: l ∧
      (e.size = 2 ∨ e.size = 4) ∧
      regionOf e.ea = Region.flash ∧
      e.ea / 2097152 = (↑b : ℕ) ∧
      (e.ea + e.size - 1) / 2097152 = (↑b : ℕ) ∧
      flStep (s.flOf (↑b : ℕ)).seq (↑b : ℕ) (BitVec.ofNat 21 (e.ea % 2097152)).toNat (e.size == 4) (BitVec.ofNat 36 (e.data.toNat % 2 ^ (9 * e.size))).toNat = FlStep.brk) ∧
    (∃ (c : Fin 16) (s : State) (e : SbEntry) (l : List SbEntry) (b : Fin 4) (v : Word), (s.coreOf (↑c : ℕ)).sb = e :: l ∧
      (e.size = 2 ∨ e.size = 4) ∧
      regionOf e.ea = Region.flash ∧
      e.ea / 2097152 = (↑b : ℕ) ∧
      (e.ea + e.size - 1) / 2097152 = (↑b : ℕ) ∧
      (e.size == 4) = false ∧
      BitVec.ofNat 36 (e.data.toNat % 2 ^ (9 * e.size)) = BitVec.setWidth 36 v ∧
      (s.flOf (↑b : ℕ)).seq = FlSeq.start ∧
      (BitVec.ofNat 21 (e.ea % 2097152)).toNat = 5460 ∧
      v = 87381#18) ∧
    (∃ (c : Fin 16) (s : State) (e : SbEntry) (l : List SbEntry) (b : Fin 4) (v : Word), (s.coreOf (↑c : ℕ)).sb = e :: l ∧
      (e.size = 2 ∨ e.size = 4) ∧
      regionOf e.ea = Region.flash ∧
      e.ea / 2097152 = (↑b : ℕ) ∧
      (e.ea + e.size - 1) / 2097152 = (↑b : ℕ) ∧
      (e.size == 4) = false ∧
      BitVec.ofNat 36 (e.data.toNat % 2 ^ (9 * e.size)) = BitVec.setWidth 36 v ∧
      (s.flOf (↑b : ℕ)).seq = FlSeq.u1 ∧
      (BitVec.ofNat 21 (e.ea % 2097152)).toNat = 2730 ∧
      v = 174762#18) :=
  ⟨⟨0, (running { core0 with sb := [⟨5460, 2, 5, false, false⟩] }), ⟨5460, 2, 5, false, false⟩, [], 0, by decide, by decide, by decide, by decide, by decide, by decide⟩,
    ⟨0, ((running { core0 with sb := [⟨5460, 2, 87381, false, false⟩] })).setFl 0 { ((running { core0 with sb := [⟨5460, 2, 87381, false, false⟩] })).flOf 0 with seq := FlSeq.start }, ⟨5460, 2, 87381, false, false⟩, [], 0, 87381, by decide, by decide, by decide, by decide, by decide, by decide, by decide, by decide, by decide, by decide⟩,
    ⟨0, (((running { core0 with sb := [⟨2730, 2, 174762, false, false⟩] }).setFl 0 { seq := .u1 })).setFl 0 { (((running { core0 with sb := [⟨2730, 2, 174762, false, false⟩] }).setFl 0 { seq := .u1 })).flOf 0 with seq := FlSeq.u1 }, ⟨2730, 2, 174762, false, false⟩, [], 0, 174762, by decide, by decide, by decide, by decide, by decide, by decide, by decide, by decide, by decide, by decide⟩⟩

/-- The hypotheses of clauses of `Obligations.QueuesDrain` are met. -/
theorem wit_QueuesDrain_StoresReachSram :
    (∃ (c : Fin 16) (s : State) (e : SbEntry) (l : List SbEntry), (s.coreOf (↑c : ℕ)).sb = e :: l ∧
      regionOf e.ea = Region.sram ∧
      regionOf (e.ea + e.size - 1) = Region.sram ∧
      wordsGood s e.ea e.size ∧
      (e.size = 1 ∨ e.size = 2 ∨ e.size = 4 ∧ e.ea % 2 = 0 ∨ e.size = 8 ∧ e.ea % 8 = 0)) ∧
    (∃ (c : Fin 16) (s : State) (e : FrameLine) (l : List FrameLine), (s.coreOf (↑c : ℕ)).fq = e :: l ∧
      e.ea % 2 = 0 ∧
      8388608 ≤ e.ea ∧
      wordsGood s e.ea 8) :=
  ⟨⟨0, ((running { core1 with sb := [⟨8388608, 2, 5, false, false⟩] })).setCore 0 { ((running { core1 with sb := [⟨8388608, 2, 5, false, false⟩] })).coreOf 0 with sb := ⟨8388608, 2, 5, false, false⟩ :: [] }, ⟨8388608, 2, 5, false, false⟩, [], by decide, by decide, by decide, (good_range _ _ _ (by decide)), by decide⟩,
    ⟨0, (running { core1 with fq := [⟨8388608, 5, true⟩] }), ⟨8388608, 5, true⟩, [], by decide, by decide, by decide, (good_range _ _ _ (by decide))⟩⟩

/-- The hypotheses of clauses of `Obligations.LoadsAndStores` are met. -/
theorem wit_LoadsAndStores_StoresToSram :
    (∃ (e : (ℕ → Fin 16 → Bool → Fields → Instr) × ℕ × (Fields → Prop) × (CoreS → Fields → ℕ) × (CoreS → Fields → Bool)) (t : ℕ) (c : Fin 16) (mx : Bool) (x : Fields) (s : State), e ∈ storeTable ∧
      CoreReady t s (↑c : ℕ) ∧
      (mx = true → x.b20 = 0) ∧
      e.2.2.1 x ∧
      (SramAccess (issued t (↑c : ℕ) s) (↑c : ℕ) ((atIssue t (↑c : ℕ) s).cap x.kc) (if e.2.2.2.2 (atIssue t (↑c : ℕ) s) x = true then [permST, permSK] else [permST]) ((atIssue t (↑c : ℕ) s).ea mx x) e.2.1) ∧
      inSlice (sramIx (((atIssue t (↑c : ℕ) s).ea mx x).toNat + e.2.1 - 1)) = false ∧
      slack (issued t (↑c : ℕ) s) = false ∧
      (atIssue t (↑c : ℕ) s).sb.length < 8) ∧
    (∃ (e : (ℕ → Fin 16 → Bool → Fields → Instr) × ℕ × (Fields → Prop) × (CoreS → Fields → ℕ) × (CoreS → Fields → Bool)) (t : ℕ) (c : Fin 16) (mx : Bool) (x : Fields) (s : State), e ∈ storeTable ∧
      CoreReady t s (↑c : ℕ) ∧
      (mx = true → x.b20 = 0) ∧
      e.2.2.1 x ∧
      (SramAccess (issued t (↑c : ℕ) s) (↑c : ℕ) ((atIssue t (↑c : ℕ) s).cap x.kc) (if e.2.2.2.2 (atIssue t (↑c : ℕ) s) x = true then [permST, permSK] else [permST]) ((atIssue t (↑c : ℕ) s).ea mx x) e.2.1) ∧
      inSlice (sramIx (((atIssue t (↑c : ℕ) s).ea mx x).toNat + e.2.1 - 1)) = false ∧
      slack (issued t (↑c : ℕ) s) = false ∧
      8 ≤ (atIssue t (↑c : ℕ) s).sb.length) ∧
    (∃ (e : (ℕ → Fin 16 → Bool → Fields → Instr) × ℕ × (Fields → Prop) × (CoreS → Fields → ℕ) × (CoreS → Fields → Bool)) (t : ℕ) (c : Fin 16) (mx : Bool) (x : Fields) (s : State), e ∈ storeTable ∧
      CoreReady t s (↑c : ℕ) ∧
      (mx = true → x.b20 = 0) ∧
      e.2.2.1 x ∧
      (SramAccess (issued t (↑c : ℕ) s) (↑c : ℕ) ((atIssue t (↑c : ℕ) s).cap x.kc) (if e.2.2.2.2 (atIssue t (↑c : ℕ) s) x = true then [permST, permSK] else [permST]) ((atIssue t (↑c : ℕ) s).ea mx x) e.2.1) ∧
      inSlice (sramIx (((atIssue t (↑c : ℕ) s).ea mx x).toNat + e.2.1 - 1)) = false ∧
      slack (issued t (↑c : ℕ) s) = true ∧
      (atIssue t (↑c : ℕ) s).sb ≠ []) ∧
    (∃ (e : (ℕ → Fin 16 → Bool → Fields → Instr) × ℕ × (Fields → Prop) × (CoreS → Fields → ℕ) × (CoreS → Fields → Bool)) (t : ℕ) (c : Fin 16) (mx : Bool) (x : Fields) (s : State), e ∈ storeTable ∧
      CoreReady t s (↑c : ℕ) ∧
      (mx = true → x.b20 = 0) ∧
      e.2.2.1 x ∧
      (SramAccess (issued t (↑c : ℕ) s) (↑c : ℕ) ((atIssue t (↑c : ℕ) s).cap x.kc) (if e.2.2.2.2 (atIssue t (↑c : ℕ) s) x = true then [permST, permSK] else [permST]) ((atIssue t (↑c : ℕ) s).ea mx x) e.2.1) ∧
      inSlice (sramIx (((atIssue t (↑c : ℕ) s).ea mx x).toNat + e.2.1 - 1)) = false ∧
      slack (issued t (↑c : ℕ) s) = true ∧
      (atIssue t (↑c : ℕ) s).sb = [] ∧
      wordsGood (issued t (↑c : ℕ) s) ((atIssue t (↑c : ℕ) s).ea mx x).toNat e.2.1) :=
  ⟨⟨storeTable[1], 6400000000000, 0, false, (117571584 : Fields), (running core1), (List.getElem_mem (by decide)), (by unfold CoreReady; decide), by decide, (trivial), (by unfold SramAccess; decide), by decide, by decide, by decide⟩,
    ⟨storeTable[1], 6400000000000, 0, false, (117571584 : Fields), (running { core1 with sb := List.replicate 8 ⟨8388608, 2, 5, false, false⟩ }), (List.getElem_mem (by decide)), (by unfold CoreReady; decide), by decide, (trivial), (by unfold SramAccess; decide), by decide, by decide, by decide⟩,
    ⟨storeTable[1], 6400000000000, 0, false, (117571584 : Fields), ((running { core1 with sb := [⟨8388608, 2, 5, false, false⟩] }).put F.MODE_STAT_cur 0 2), (List.getElem_mem (by decide)), (by unfold CoreReady; decide), by decide, (trivial), (by unfold SramAccess; decide), by decide, by decide, by decide⟩,
    ⟨storeTable[1], 6400000000000, 0, false, (117571584 : Fields), ((running core1).put F.MODE_STAT_cur 0 2), (List.getElem_mem (by decide)), (by unfold CoreReady; decide), by decide, (trivial), (by unfold SramAccess; decide), by decide, by decide, by decide, (good_range _ _ _ (by decide))⟩⟩

/-- The hypotheses of clauses of `Obligations.SurveyAndMetering` are met. -/
theorem wit_SurveyAndMetering_Survey_1 :
    (∃ (t : ℕ) (c : Fin 4) (v : Word) (s : State), s.is F.SC_CTL_en (↑c : ℕ) = false ∧
      HwIdle t RegName.SC_CTL (↑c : ℕ) s ∧
      BitVec.getLsbD v 17 = true ∧
      (∃ e ≤ F.SC_CTL_lenm1.of (BitVec.toNat v), have j := 64 * (↑c : ℕ) + e; 65 < s.get F.SC_SEQA_ch j ∨ s.get F.SC_SEQA_wk j = 3 ∨ s.get F.SC_SEQA_wk j = 2 ∧ s.get F.SC_SEQB_wp j = 0 ∨ s.get F.SC_SEQA_wk j = 1 ∧ 255 < s.get F.SC_SEQB_wp j)) ∧
    (∃ (t : ℕ) (c : Fin 4) (v : Word) (s : State), s.is F.SC_CTL_en (↑c : ℕ) = false ∧
      HwIdle t RegName.SC_CTL (↑c : ℕ) s ∧
      BitVec.getLsbD v 17 = true ∧
      (∀ e ≤ F.SC_CTL_lenm1.of (BitVec.toNat v), ¬have j := 64 * (↑c : ℕ) + e; 65 < s.get F.SC_SEQA_ch j ∨ s.get F.SC_SEQA_wk j = 3 ∨ s.get F.SC_SEQA_wk j = 2 ∧ s.get F.SC_SEQB_wp j = 0 ∨ s.get F.SC_SEQA_wk j = 1 ∧ 255 < s.get F.SC_SEQB_wp j)) ∧
    (∃ (t : ℕ) (c : Fin 4) (v : Word) (s : State), s.is F.SC_CTL_en (↑c : ℕ) = true ∧
      HwIdle t RegName.SC_CTL (↑c : ℕ) s ∧
      BitVec.getLsbD v 17 = false ∧
      F.SC_CTL_lenm1.of (BitVec.toNat v) = s.get F.SC_CTL_lenm1 (↑c : ℕ)) ∧
    (∃ (t : ℕ) (c : Fin 4) (s : State), s.is F.SC_CTL_en (↑c : ℕ) = true ∧
      (s.scOf (↑c : ℕ)).win = none ∧
      s.get F.SC_SEQA_wk (64 * (↑c : ℕ) + s.get F.SC_STAT_entry (↑c : ℕ)) = 2 ∧
      (s.scOf (↑c : ℕ)).from_ ≤ max s.now t) ∧
    (∃ (t : ℕ) (c : Fin 4) (s : State) (w : SvWin) (x : ℕ), (s.scOf (↑c : ℕ)).win = some w ∧
      w.closeAt = some x ∧
      x ≤ max s.now t ∧
      w.openAt < x) ∧
    (∃ (t : ℕ) (c : Fin 4) (s : State) (p : SvPend) (l : List SvPend), (s.scOf (↑c : ℕ)).res = p :: l ∧
      p.due ≤ max s.now t) ∧
    (∃ (t : ℕ) (s : State) (l : ℕ), s.mt.last = some l ∧
      s.is F.MT_CTL_en 0 = true ∧
      s.is F.MT_STAT_fb 0 = false ∧
      (¬(s.srcAtOf (srcKey 4 (s.get F.MT_CTL_wc 0) 0) = some (↑(max s.now t) : ℤ) ∧ s.mt.took ≠ some (max s.now t)))) ∧
    (∃ (t : ℕ) (s : State) (l : ℕ), s.mt.last = some l ∧
      s.is F.MT_CTL_en 0 = true ∧
      s.is F.MT_STAT_fb 0 = false ∧
      (s.srcAtOf (srcKey 4 (s.get F.MT_CTL_wc 0) 0) = some (↑(max s.now t) : ℤ) ∧ s.mt.took ≠ some (max s.now t)) ∧
      max s.now t < l + 64000 * s.get F.MT_LIM_pmin 0 ∧
      max s.now t ≤ l + 64000 * s.get F.MT_LIM_pmax 0) ∧
    (∃ (t : ℕ) (s : State) (l : ℕ), s.mt.last = some l ∧
      s.is F.MT_CTL_en 0 = true ∧
      s.is F.MT_STAT_fb 0 = false ∧
      (s.srcAtOf (srcKey 4 (s.get F.MT_CTL_wc 0) 0) = some (↑(max s.now t) : ℤ) ∧ s.mt.took ≠ some (max s.now t)) ∧
      l + 64000 * s.get F.MT_LIM_pmin 0 ≤ max s.now t ∧
      max s.now t ≤ l + 64000 * s.get F.MT_LIM_pmax 0 ∧
      l ≤ max s.now t) :=
  ⟨⟨6400000000000, 0, (131072 : Word), ((State.reset.put F.SC_SEQA_ch 0 66).put F.SC_CTL_en 0 0), by decide, (by unfold HwIdle; decide), by decide, by decide⟩,
    ⟨6400000000000, 0, (131072 : Word), (State.reset.put F.SC_CTL_en 0 0), by decide, (by unfold HwIdle; decide), by decide, by decide⟩,
    ⟨6400000000000, 0, (0 : Word), (State.reset.put F.SC_CTL_en 0 1), by decide, (by unfold HwIdle; decide), by decide, by decide⟩,
    ⟨6400000000000, 0, ((State.reset.put F.SC_SEQA_wk 0 2).put F.SC_CTL_en 0 1), by decide, by decide, by decide, by decide⟩,
    ⟨6400000000000, 0, (State.reset).setSc 0 { (State.reset).scOf 0 with win := some ⟨0, 0, some 64, false, false, false⟩ }, ⟨0, 0, some 64, false, false, false⟩, 64, by decide, by decide, by decide, by decide⟩,
    ⟨6400000000000, 0, (State.reset).setSc 0 { (State.reset).scOf 0 with res := (⟨0, 0, 0, false, false, false, false⟩ : SvPend) :: [] }, (⟨0, 0, 0, false, false, false, false⟩ : SvPend), [], by decide, by decide⟩,
    ⟨6400000000000, { ((State.reset.put F.MT_CTL_en 0 1).put F.MT_STAT_fb 0 0) with mt := { (((State.reset.put F.MT_CTL_en 0 1).put F.MT_STAT_fb 0 0)).mt with last := some 6400000000000 } }, 6400000000000, by decide, by decide, by decide, by decide⟩,
    ⟨6400000000000, ((({ ((((State.reset.put F.MT_CTL_en 0 1).put F.MT_LIM_pmin 0 15000).put F.MT_LIM_pmax 0 25000).setSrcAt (srcKey 4 0 0) (some 6400000000000)) with mt := { last := some 6399040000001 } }).put F.MT_CTL_en 0 1).put F.MT_STAT_fb 0 0), 6399040000001, by decide, by decide, by decide, by decide, by decide, by decide⟩,
    ⟨6400000000000, ((({ ((((State.reset.put F.MT_CTL_en 0 1).put F.MT_LIM_pmin 0 15000).put F.MT_LIM_pmax 0 25000).setSrcAt (srcKey 4 0 0) (some 6400000000000)) with mt := { last := some 6399040000000 } }).put F.MT_CTL_en 0 1).put F.MT_STAT_fb 0 0), 6399040000000, by decide, by decide, by decide, by decide, by decide, by decide, by decide⟩⟩

/-- The hypotheses of clauses of `Obligations.SurveyAndMetering` are met. -/
theorem wit_SurveyAndMetering_Survey_2 :
    (∃ (t : ℕ) (s : State) (l : ℕ), s.mt.last = some l ∧
      s.is F.MT_CTL_en 0 = true ∧
      s.is F.MT_STAT_fb 0 = false ∧
      l + 64000 * s.get F.MT_LIM_pmax 0 ≤ max s.now t) ∧
    (∃ (t : ℕ) (s : State) (x : ℕ), s.mt.next = some x ∧
      (s.is F.MT_STAT_fb 0 = true ∨ s.is F.MT_CTL_en 0 = false) ∧
      x ≤ max s.now t) :=
  ⟨⟨6400000000000, { ((State.reset.put F.MT_CTL_en 0 1).put F.MT_STAT_fb 0 0) with mt := { (((State.reset.put F.MT_CTL_en 0 1).put F.MT_STAT_fb 0 0)).mt with last := some 0 } }, 0, by decide, by decide, by decide, by decide⟩,
    ⟨6400000000000, { State.reset with mt := { (State.reset).mt with next := some 0 } }, 0, by decide, by decide, by decide⟩⟩

/-- The hypotheses of clauses of `Obligations.InstructionsStopped` are met. -/
theorem wit_InstructionsStopped_TandemMoveStops :
    (∃ (m : CoreCmd) (t : ℕ) (c : Fin 16) (x : Fields) (s : State) (cause : ℕ), m ∈ wordCmds ∧
      CoreReady t s (↑c : ℕ) ∧
      x.te = true ∧
      (x.f19 = 0 ∨ m t c x ≠ Instr.cls t c x) ∧
      capCheck ((atIssue t (↑c : ℕ) s).cap x.tkc) [permST] (↑(13369344 + 2 * (((atIssue t (↑c : ℕ) s).tb.toNat + x.slot) % 16384)) : ℤ) 2 = some cause) ∧
    (∃ (m : CoreCmd) (t : ℕ) (c : Fin 16) (x : Fields) (s : State), m ∈ wordCmds ∧
      CoreReady t s (↑c : ℕ) ∧
      x.te = true ∧
      (x.f19 = 0 ∨ m t c x ≠ Instr.cls t c x) ∧
      capCheck ((atIssue t (↑c : ℕ) s).cap x.tkc) [permST] (↑(13369344 + 2 * (((atIssue t (↑c : ℕ) s).tb.toNat + x.slot) % 16384)) : ℤ) 2 = none ∧
      4 ≤ (atIssue t (↑c : ℕ) s).tq.length) :=
  ⟨⟨wordCmds[0], 6400000000000, 0, (18907904 : Fields), (running core1), 1, (List.getElem_mem (by decide)), (by unfold CoreReady; decide), by decide, by decide, by decide⟩,
    ⟨wordCmds[0], 6400000000000, 0, (18907136 : Fields), (running { core0 with tq := List.replicate 4 (0, 0) }), (List.getElem_mem (by decide)), (by unfold CoreReady; decide), by decide, by decide, by decide, by decide⟩⟩

/-- The hypotheses of clauses of `Obligations.QueuesDrain` are met. -/
theorem wit_QueuesDrain_TandemMovesEnter :
    ∃ (c : Fin 16) (s : State) (j : ℕ) (v : Word) (l : List (ℕ × BitVec 18)), (s.coreOf (↑c : ℕ)).tq = (j, v) :: l :=
  ⟨0, (State.reset).setCore 0 { (State.reset).coreOf 0 with tq := (0, (0 : Word)) :: [] }, 0, (0 : Word), [], by decide⟩

/-- The hypotheses of clauses of `Obligations.LocalTides` are met. -/
theorem wit_LocalTides_TideApplies :
    ∃ (t : ℕ) (k : Fin 4) (s : State), (∃ v a, (s.tideOf (↑k : ℕ)).armed = some (TideWhen.instant v, a) ∧ tbPast (s.tbAt (max s.now t)) v = true) ∧
      (∀ j < (↑k : ℕ), (s.tideOf j).armed = none) :=
  ⟨6400000000000, 0, (State.reset.setTide 0 { armed := some (.instant 0, 0) }), ⟨0, 0, rfl, by decide⟩, by decide⟩

/-- The hypotheses of clauses of `Obligations.LinkNetworkAndTime` are met. -/
theorem wit_LinkNetworkAndTime_TimeTransfer :
    (∃ (t : ℕ) (p : Fin 4) (s : State) (k : ℕ), secondTurns { now := max s.now t, regs := s.regs, written := s.written, hw := s.hw, ich := s.ich, wc := s.wc, calDue := s.calDue, berth := s.berth, armed := s.armed, admq := s.admq, crane := s.crane, rounds := s.rounds, bstore := s.bstore, bstoreAt := s.bstoreAt, bram := s.bram, engW := s.engW, cu := s.cu, sram := s.sram, logAt := s.logAt, tz := s.tz, tripPin := s.tripPin, tb := s.tb, tbLatch := s.tbLatch, srcAt := s.srcAt, ev := s.ev, lc := s.lc, divAt := s.divAt, sc := s.sc, mt := s.mt, mf := s.mf, mfu := s.mfu, journal := s.journal, fl := s.fl, flash := s.flash, flBlk := s.flBlk, flWear := s.flWear, otp := s.otp, gpioPad := s.gpioPad, lkWake := s.lkWake, lkDrive := s.lkDrive, rung := s.rung, wake := s.wake, core := s.core, bank := s.bank, lock := s.lock, tide := s.tide, snap := s.snap, vsrc := s.vsrc, doze := s.doze, devRst := s.devRst, scrub := s.scrub, pps := s.pps, pwr := s.pwr, link := s.link, txs := s.txs, win := s.win, lku := s.lku, gt := s.gt, boot := s.boot, graft := s.graft, ku := s.ku, dbg := s.dbg, smb := s.smb, spi := s.spi, pending := s.pending, out := s.out, free := s.free } k = true ∧
      s.get F.LK_TCTL_port 0 = (↑p : ℕ) ∧
      s.is F.LK_TCTL_en 0 = false) ∧
    (∃ (t : ℕ) (p : Fin 4) (s : State) (k : ℕ), secondTurns { now := max s.now t, regs := s.regs, written := s.written, hw := s.hw, ich := s.ich, wc := s.wc, calDue := s.calDue, berth := s.berth, armed := s.armed, admq := s.admq, crane := s.crane, rounds := s.rounds, bstore := s.bstore, bstoreAt := s.bstoreAt, bram := s.bram, engW := s.engW, cu := s.cu, sram := s.sram, logAt := s.logAt, tz := s.tz, tripPin := s.tripPin, tb := s.tb, tbLatch := s.tbLatch, srcAt := s.srcAt, ev := s.ev, lc := s.lc, divAt := s.divAt, sc := s.sc, mt := s.mt, mf := s.mf, mfu := s.mfu, journal := s.journal, fl := s.fl, flash := s.flash, flBlk := s.flBlk, flWear := s.flWear, otp := s.otp, gpioPad := s.gpioPad, lkWake := s.lkWake, lkDrive := s.lkDrive, rung := s.rung, wake := s.wake, core := s.core, bank := s.bank, lock := s.lock, tide := s.tide, snap := s.snap, vsrc := s.vsrc, doze := s.doze, devRst := s.devRst, scrub := s.scrub, pps := s.pps, pwr := s.pwr, link := s.link, txs := s.txs, win := s.win, lku := s.lku, gt := s.gt, boot := s.boot, graft := s.graft, ku := s.ku, dbg := s.dbg, smb := s.smb, spi := s.spi, pending := s.pending, out := s.out, free := s.free } k = true ∧
      s.get F.LK_TCTL_port 0 = (↑p : ℕ) ∧
      s.is F.LK_TCTL_en 0 = true ∧
      s.get F.LK_PSTAT_state (↑p : ℕ) = 3) ∧
    (∃ (p : Fin 4) (f : Frame) (d : ℕ) (s : State), Unsequenced s (↑p : ℕ) f 4 (framePair f 0) ∧
      d ≤ 128000) ∧
    (∃ (t : ℕ) (p : Fin 4) (f : Frame) (s : State) (t1 : ℕ) (x : ℕ), s.lku.exch = some (t1, x) ∧
      max s.now t ≤ x + 64000000 ∧
      s.get F.LK_PSTAT_state (↑p : ℕ) = 3 ∧
      f.ty = 5 ∧
      frameLegal f = true ∧
      f.mac = frameMac (s.linkOf (↑p : ℕ)).rxKey 0 f ∧
      s.is F.LK_TCTL_en 0 = true ∧
      s.get F.LK_TCTL_port 0 = (↑p : ℕ) ∧
      (tbDiff (framePair f 0 * 64000000000 + framePair f 2) t1 + tbDiff (framePair f 4 * 64000000000 + framePair f 6) (s.tbAt (max s.now t))) % 2 = 0 ∧
      (tbDiff (s.tbAt (max s.now t)) t1 - tbDiff (framePair f 4 * 64000000000 + framePair f 6) (framePair f 0 * 64000000000 + framePair f 2)) % 2 = 0 ∧
      -2 ^ 35 < (tbDiff (framePair f 0 * 64000000000 + framePair f 2) t1 + tbDiff (framePair f 4 * 64000000000 + framePair f 6) (s.tbAt (max s.now t))) / 2 ∧
      (tbDiff (framePair f 0 * 64000000000 + framePair f 2) t1 + tbDiff (framePair f 4 * 64000000000 + framePair f 6) (s.tbAt (max s.now t))) / 2 < 2 ^ 35 ∧
      -2 ^ 35 ≤ (tbDiff (s.tbAt (max s.now t)) t1 - tbDiff (framePair f 4 * 64000000000 + framePair f 6) (framePair f 0 * 64000000000 + framePair f 2)) / 2 ∧
      (tbDiff (s.tbAt (max s.now t)) t1 - tbDiff (framePair f 4 * 64000000000 + framePair f 6) (framePair f 0 * 64000000000 + framePair f 2)) / 2 < 2 ^ 35 ∧
      frameBit f 8 17 = false) ∧
    (∃ (t : ℕ) (p : Fin 4) (f : Frame) (s : State) (t1 : ℕ) (x : ℕ), s.lku.exch = some (t1, x) ∧
      max s.now t ≤ x + 64000000 ∧
      s.get F.LK_PSTAT_state (↑p : ℕ) = 3 ∧
      f.ty = 5 ∧
      frameLegal f = true ∧
      f.mac = frameMac (s.linkOf (↑p : ℕ)).rxKey 0 f ∧
      s.is F.LK_TCTL_en 0 = true ∧
      s.get F.LK_TCTL_port 0 = (↑p : ℕ) ∧
      (tbDiff (framePair f 0 * 64000000000 + framePair f 2) t1 + tbDiff (framePair f 4 * 64000000000 + framePair f 6) (s.tbAt (max s.now t))) % 2 = 0 ∧
      (tbDiff (s.tbAt (max s.now t)) t1 - tbDiff (framePair f 4 * 64000000000 + framePair f 6) (framePair f 0 * 64000000000 + framePair f 2)) % 2 = 0 ∧
      -2 ^ 35 < (tbDiff (framePair f 0 * 64000000000 + framePair f 2) t1 + tbDiff (framePair f 4 * 64000000000 + framePair f 6) (s.tbAt (max s.now t))) / 2 ∧
      (tbDiff (framePair f 0 * 64000000000 + framePair f 2) t1 + tbDiff (framePair f 4 * 64000000000 + framePair f 6) (s.tbAt (max s.now t))) / 2 < 2 ^ 35 ∧
      -2 ^ 35 ≤ (tbDiff (s.tbAt (max s.now t)) t1 - tbDiff (framePair f 4 * 64000000000 + framePair f 6) (framePair f 0 * 64000000000 + framePair f 2)) / 2 ∧
      (tbDiff (s.tbAt (max s.now t)) t1 - tbDiff (framePair f 4 * 64000000000 + framePair f 6) (framePair f 0 * 64000000000 + framePair f 2)) / 2 < 2 ^ 35 ∧
      frameBit f 8 17 = true ∧
      s.get F.TB_CTL_mode 0 = 0) ∧
    (∃ (t : ℕ) (p : Fin 4) (f : Frame) (s : State) (t1 : ℕ) (x : ℕ), s.lku.exch = some (t1, x) ∧
      max s.now t ≤ x + 64000000 ∧
      s.get F.LK_PSTAT_state (↑p : ℕ) = 3 ∧
      f.ty = 5 ∧
      frameLegal f = true ∧
      f.mac = frameMac (s.linkOf (↑p : ℕ)).rxKey 0 f ∧
      s.is F.LK_TCTL_en 0 = true ∧
      s.get F.LK_TCTL_port 0 = (↑p : ℕ) ∧
      (tbDiff (framePair f 0 * 64000000000 + framePair f 2) t1 + tbDiff (framePair f 4 * 64000000000 + framePair f 6) (s.tbAt (max s.now t))) % 2 = 0 ∧
      (tbDiff (s.tbAt (max s.now t)) t1 - tbDiff (framePair f 4 * 64000000000 + framePair f 6) (framePair f 0 * 64000000000 + framePair f 2)) % 2 = 0 ∧
      -2 ^ 35 < (tbDiff (framePair f 0 * 64000000000 + framePair f 2) t1 + tbDiff (framePair f 4 * 64000000000 + framePair f 6) (s.tbAt (max s.now t))) / 2 ∧
      (tbDiff (framePair f 0 * 64000000000 + framePair f 2) t1 + tbDiff (framePair f 4 * 64000000000 + framePair f 6) (s.tbAt (max s.now t))) / 2 < 2 ^ 35 ∧
      -2 ^ 35 ≤ (tbDiff (s.tbAt (max s.now t)) t1 - tbDiff (framePair f 4 * 64000000000 + framePair f 6) (framePair f 0 * 64000000000 + framePair f 2)) / 2 ∧
      (tbDiff (s.tbAt (max s.now t)) t1 - tbDiff (framePair f 4 * 64000000000 + framePair f 6) (framePair f 0 * 64000000000 + framePair f 2)) / 2 < 2 ^ 35 ∧
      frameBit f 8 17 = true ∧
      s.get F.TB_CTL_mode 0 = 2 ∧
      s.tb.stopped = false ∧
      s.is F.TB_STAT_lock 0 = true ∧
      ((tbDiff (framePair f 0 * 64000000000 + framePair f 2) t1 + tbDiff (framePair f 4 * 64000000000 + framePair f 6) (s.tbAt (max s.now t))) / 2).natAbs ≤ 64 * s.get F.TB_PPSWIN_w 0) ∧
    (∃ (t : ℕ) (s : State) (v : ℕ) (x : ℕ), s.lku.exch = some (v, x) ∧
      x + 64000000 ≤ max s.now t) :=
  ⟨⟨6400000000000, 0, (State.reset.put F.LK_TCTL_en 0 0), 0, by decide, by decide, by decide⟩,
    ⟨6400000000000, 0, ((State.reset.put F.LK_TCTL_en 0 1).put F.LK_PSTAT_state 0 3), 0, by decide, by decide, by decide, by decide⟩,
    ⟨0, signed 0 0 (frm 4 0 0 [0, 1]), 128000, (up State.reset 0 {}), ⟨by decide, by decide, by decide, plain_mac _ _ _ (by decide +kernel), by decide⟩, by decide⟩,
    ⟨6400000000000, 0, signed 0 0 (frm 5 0 0 [0, 100, 0, 0, 0, 100, 0, 0, 0]), ((({ up (State.reset.put F.LK_TCTL_en 0 1) 0 {} with lku := { exch := some (6400000000000, 6400000000000) } }).put F.LK_PSTAT_state 0 3).put F.LK_TCTL_en 0 1), 6400000000000, 6400000000000, by decide, by decide, by decide, by decide, by decide, (plain_mac _ _ _ (by decide +kernel)), by decide, by decide, by decide, by decide, by decide, by decide, by decide, by decide, by decide⟩,
    ⟨6400000000000, 0, signed 0 0 (frm 5 0 0 [0, 100, 0, 0, 0, 100, 0, 0, 131072]), (((({ up (State.reset.put F.LK_TCTL_en 0 1) 0 {} with lku := { exch := some (6400000000000, 6400000000000) } }).put F.LK_PSTAT_state 0 3).put F.LK_TCTL_en 0 1).put F.TB_CTL_mode 0 0), 6400000000000, 6400000000000, by decide, by decide, by decide, by decide, by decide, (plain_mac _ _ _ (by decide +kernel)), by decide, by decide, by decide, by decide, by decide, by decide, by decide, by decide, by decide, by decide⟩,
    ⟨6400000000000, 0, signed 0 0 (frm 5 0 0 [0, 100, 0, 0, 0, 100, 0, 0, 131072]), ((((({ up (((State.reset.put F.LK_TCTL_en 0 1).put F.TB_CTL_mode 0 2).put F.TB_STAT_lock 0 1) 0 {} with lku := { exch := some (6400000000000, 6400000000000) } }).put F.LK_PSTAT_state 0 3).put F.LK_TCTL_en 0 1).put F.TB_CTL_mode 0 2).put F.TB_STAT_lock 0 1), 6400000000000, 6400000000000, by decide, by decide, by decide, by decide, by decide, (plain_mac _ _ _ (by decide +kernel)), by decide, by decide, by decide, by decide, by decide, by decide, by decide, by decide, by decide, by decide, by decide, by decide, by decide⟩,
    ⟨6400000000000, { State.reset with lku := { (State.reset).lku with exch := some (0, 0) } }, 0, 0, by decide, by decide⟩⟩

/-- The hypotheses of clauses of `Obligations.TimebaseAndPps` are met. -/
theorem wit_TimebaseAndPps_Timebase :
    (∃ (t : ℕ) (s : State) (w : Word), F.TB_CTL_set.of (BitVec.toNat w) = 1 ∧
      s.get F.TB_SETL_v 0 < subUnits ∧
      HwIdle t RegName.TB_CTL 0 s) ∧
    (∃ (s : State) (x : ℕ × ℤ), s.is F.TB_STAT_lock 0 = true ∧
      s.is F.TB_STAT_hold 0 = false ∧
      2 ≤ s.get F.TB_CTL_mode 0 ∧
      s.is F.CLK_STAT_rc 0 = false ∧
      s.tb.stopped = false ∧
      s.pps.span = some x ∧
      s.pps.spanFrom = none) ∧
    (∃ (t : ℕ) (s : State) (e : ℕ), s.is F.TB_STAT_lock 0 = true ∧
      s.is F.TB_STAT_hold 0 = false ∧
      2 ≤ s.get F.TB_CTL_mode 0 ∧
      s.is F.CLK_STAT_rc 0 = false ∧
      s.tb.stopped = false ∧
      s.pps.spanFrom = some e ∧
      e ≤ max s.now t) ∧
    (∃ (t : ℕ) (s : State), s.is F.TB_STAT_cal 0 = true ∧
      s.pps.calAt + 86400 * 64000000000 ≤ max s.now t) ∧
    (∃ (t : ℕ) (s : State) (n : ℕ), s.tb.stopped = true ∧
      s.rung < 4 ∧
      coarseFits (State.tick t s) n true = true) :=
  ⟨⟨6400000000000, State.reset, (16384 : Word), by decide, by decide, (by unfold HwIdle; decide)⟩,
    ⟨(((({ ((State.reset.put F.TB_STAT_lock 0 1).put F.TB_CTL_mode 0 2) with pps := { span := some (0, 0) } }).put F.TB_STAT_lock 0 1).put F.TB_STAT_hold 0 0).put F.CLK_STAT_rc 0 0), (0, 0), by decide, by decide, by decide, by decide, by decide, by decide, by decide⟩,
    ⟨6400000000000, (((({ ((State.reset.put F.TB_STAT_lock 0 1).put F.TB_CTL_mode 0 2) with pps := { spanFrom := some 0 } }).put F.TB_STAT_lock 0 1).put F.TB_STAT_hold 0 0).put F.CLK_STAT_rc 0 0), 0, by decide, by decide, by decide, by decide, by decide, by decide, by decide⟩,
    ⟨5529600000000000, (State.reset.put F.TB_STAT_cal 0 1), by decide, by decide⟩,
    ⟨6400000000000, ({ State.reset with tb := { stopped := true } }), 3276800, by decide, by decide, by decide⟩⟩

/-- The hypotheses of clauses of `Obligations.TrapEntry` are met. -/
theorem wit_TrapEntry_TrapEntry :
    ∃ (c : Fin 16) (s : State) (tr : TrapReq) (d : Desc), s.get F.CORE_STAT_state (↑c : ℕ) = 1 ∧
      (s.coreOf (↑c : ℕ)).rst = none ∧
      (s.coreOf (↑c : ℕ)).trap = some tr ∧
      (s.coreOf (↑c : ℕ)).fq.length ≤ 11 ∧
      s.is F.CORE_TDT_en (↑c : ℕ) = true ∧
      inOwnBank s (↑c : ℕ) (s.get F.CORE_TDT_base (↑c : ℕ) + 32 * tr.cause) 32 = true ∧
      DescAt s (s.get F.CORE_TDT_base (↑c : ℕ) + 32 * tr.cause) d ∧
      frameStep s (↑c : ℕ) = 0 :=
  ⟨0, ((((withFrames (withDesc ((running { core0 with trap := some ⟨5, 0, 4, 0⟩ }).put F.CORE_TDT_base 0 8388608 |>.put F.CORE_TDT_en 0 1) 8388768 aDesc 0)).put F.CORE_STAT_state 0 1).put F.CORE_TDT_en 0 1)).setCore 0 { ((((withFrames (withDesc ((running { core0 with trap := some ⟨5, 0, 4, 0⟩ }).put F.CORE_TDT_base 0 8388608 |>.put F.CORE_TDT_en 0 1) 8388768 aDesc 0)).put F.CORE_STAT_state 0 1).put F.CORE_TDT_en 0 1)).coreOf 0 with rst := none, trap := some (⟨5, 0, 4, 0⟩ : TrapReq) }, (⟨5, 0, 4, 0⟩ : TrapReq), aDesc, by decide, by decide, by decide, by decide, by decide, by decide, ⟨by decide, good_range _ _ _ (by decide), by decide, by decide, by decide, by decide, by decide, by decide, by decide, by decide⟩, by decide⟩

/-- The hypotheses of clauses of `Obligations.TrapEntry` are met. -/
theorem wit_TrapEntry_TrapRaises :
    ∃ (t : ℕ) (c : Fin 16) (x : Fields) (s : State), CoreReady t s (↑c : ℕ) ∧
      x.resT = 0 :=
  ⟨6400000000000, 0, (0 : Fields), (running core0), (by unfold CoreReady; decide), by decide⟩

/-- The hypotheses of clauses of `Obligations.GateCallAndReturn` are met. -/
theorem wit_GateCallAndReturn_TrapReturn :
    (∃ (t : ℕ) (c : Fin 16) (x : Fields) (s : State), CoreReady t s (↑c : ℕ) ∧
      x.kt = 0 ∧
      x.resK = 0 ∧
      (atIssue t (↑c : ℕ) s).fq ≠ []) ∧
    (∃ (t : ℕ) (c : Fin 16) (x : Fields) (s : State), CoreReady t s (↑c : ℕ) ∧
      x.kt = 0 ∧
      x.resK = 0 ∧
      (atIssue t (↑c : ℕ) s).fq = [] ∧
      (issued t (↑c : ℕ) s).get F.CORE_FSP_depth (↑c : ℕ) = 0) ∧
    (∃ (t : ℕ) (c : Fin 16) (x : Fields) (s : State), CoreReady t s (↑c : ℕ) ∧
      x.kt = 0 ∧
      x.resK = 0 ∧
      (atIssue t (↑c : ℕ) s).fq = [] ∧
      (issued t (↑c : ℕ) s).get F.CORE_FSP_depth (↑c : ℕ) ≠ 0 ∧
      (inOneBank (frameAt (issued t (↑c : ℕ) s) (↑c : ℕ) ((issued t (↑c : ℕ) s).get F.CORE_FSP_depth (↑c : ℕ) - 1)) 40 = true → awaitsBank (issued t (↑c : ℕ) s) (↑c : ℕ) (bankAt (frameAt (issued t (↑c : ℕ) s) (↑c : ℕ) ((issued t (↑c : ℕ) s).get F.CORE_FSP_depth (↑c : ℕ) - 1))) = false) ∧
      inOwnBank (issued t (↑c : ℕ) s) (↑c : ℕ) (frameAt (issued t (↑c : ℕ) s) (↑c : ℕ) ((issued t (↑c : ℕ) s).get F.CORE_FSP_depth (↑c : ℕ) - 1)) 40 = false) ∧
    (∃ (t : ℕ) (c : Fin 16) (x : Fields) (s : State), CoreReady t s (↑c : ℕ) ∧
      x.kt = 0 ∧
      x.resK = 0 ∧
      (atIssue t (↑c : ℕ) s).fq = [] ∧
      (issued t (↑c : ℕ) s).get F.CORE_FSP_depth (↑c : ℕ) ≠ 0 ∧
      inOwnBank (issued t (↑c : ℕ) s) (↑c : ℕ) (frameAt (issued t (↑c : ℕ) s) (↑c : ℕ) ((issued t (↑c : ℕ) s).get F.CORE_FSP_depth (↑c : ℕ) - 1)) 40 = true ∧
      frameAt (issued t (↑c : ℕ) s) (↑c : ℕ) ((issued t (↑c : ℕ) s).get F.CORE_FSP_depth (↑c : ℕ) - 1) % 2 = 0 ∧
      (∃ i < 4, ((issued t (↑c : ℕ) s).sramOf (sramIx (frameAt (issued t (↑c : ℕ) s) (↑c : ℕ) ((issued t (↑c : ℕ) s).get F.CORE_FSP_depth (↑c : ℕ) - 1)) + i)).ecc = Ecc.bad)) ∧
    (∃ (t : ℕ) (c : Fin 16) (x : Fields) (s : State), CoreReady t s (↑c : ℕ) ∧
      x.kt = 0 ∧
      x.resK = 0 ∧
      (atIssue t (↑c : ℕ) s).fq = [] ∧
      (issued t (↑c : ℕ) s).get F.CORE_FSP_depth (↑c : ℕ) ≠ 0 ∧
      inOwnBank (issued t (↑c : ℕ) s) (↑c : ℕ) (frameAt (issued t (↑c : ℕ) s) (↑c : ℕ) ((issued t (↑c : ℕ) s).get F.CORE_FSP_depth (↑c : ℕ) - 1)) 40 = true ∧
      frameAt (issued t (↑c : ℕ) s) (↑c : ℕ) ((issued t (↑c : ℕ) s).get F.CORE_FSP_depth (↑c : ℕ) - 1) % 2 = 0 ∧
      wordsGood (issued t (↑c : ℕ) s) (frameAt (issued t (↑c : ℕ) s) (↑c : ℕ) ((issued t (↑c : ℕ) s).get F.CORE_FSP_depth (↑c : ℕ) - 1)) 40 ∧
      (lineW (lineAt (issued t (↑c : ℕ) s) (frameAt (issued t (↑c : ℕ) s) (↑c : ℕ) ((issued t (↑c : ℕ) s).get F.CORE_FSP_depth (↑c : ℕ) - 1) + 24)) 2).toNat / 2 ^ 16 = 3) ∧
    (∃ (t : ℕ) (c : Fin 16) (x : Fields) (s : State), CoreReady t s (↑c : ℕ) ∧
      x.kt = 0 ∧
      x.resK = 0 ∧
      (atIssue t (↑c : ℕ) s).fq = [] ∧
      (issued t (↑c : ℕ) s).get F.CORE_FSP_depth (↑c : ℕ) ≠ 0 ∧
      inOwnBank (issued t (↑c : ℕ) s) (↑c : ℕ) (frameAt (issued t (↑c : ℕ) s) (↑c : ℕ) ((issued t (↑c : ℕ) s).get F.CORE_FSP_depth (↑c : ℕ) - 1)) 40 = true ∧
      frameAt (issued t (↑c : ℕ) s) (↑c : ℕ) ((issued t (↑c : ℕ) s).get F.CORE_FSP_depth (↑c : ℕ) - 1) % 2 = 0 ∧
      wordsGood (issued t (↑c : ℕ) s) (frameAt (issued t (↑c : ℕ) s) (↑c : ℕ) ((issued t (↑c : ℕ) s).get F.CORE_FSP_depth (↑c : ℕ) - 1)) 40 ∧
      (lineW (lineAt (issued t (↑c : ℕ) s) (frameAt (issued t (↑c : ℕ) s) (↑c : ℕ) ((issued t (↑c : ℕ) s).get F.CORE_FSP_depth (↑c : ℕ) - 1) + 24)) 2).toNat / 2 ^ 16 ≠ 3) :=
  ⟨⟨6400000000000, 0, (0 : Fields), (running { core0 with fq := [⟨8388608, 0, false⟩] }), (by unfold CoreReady; decide), by decide, by decide, by decide⟩,
    ⟨6400000000000, 0, (0 : Fields), (running core0), (by unfold CoreReady; decide), by decide, by decide, by decide, by decide⟩,
    ⟨6400000000000, 0, (0 : Fields), ((withFrames ((running core0).put F.CORE_FSP_depth 0 1)).put F.BANK_OWN_id 0 7), (by unfold CoreReady; decide), by decide, by decide, by decide, by decide, by decide, by decide⟩,
    ⟨6400000000000, 0, (0 : Fields), ((withFrames ((running core0).put F.CORE_FSP_depth 0 1)).setSram 2048 { w := 0, tag := false, ecc := .bad }), (by unfold CoreReady; decide), by decide, by decide, by decide, by decide, by decide, by decide, by decide⟩,
    ⟨6400000000000, 0, (0 : Fields), (putLine (withFrames ((running core0).put F.CORE_FSP_depth 0 1)) (8392704 + 24) (BitVec.ofNat 72 (3 * 2 ^ 34)) false), (by unfold CoreReady; decide), by decide, by decide, by decide, by decide, by decide, by decide, (good_range _ _ _ (by decide)), by decide⟩,
    ⟨6400000000000, 0, (0 : Fields), (withFrames ((running core0).put F.CORE_FSP_depth 0 1)), (by unfold CoreReady; decide), by decide, by decide, by decide, by decide, by decide, by decide, (good_range _ _ _ (by decide)), by decide⟩⟩

/-- The hypotheses of clauses of `Obligations.IntegratorWindows` are met. -/
theorem wit_IntegratorWindows_WindowResults :
    (∃ (t : ℕ) (n : Fin 128) (s : State) (w : NormWin) (l : List NormWin), (s.ichOf (↑n : ℕ)).norms = w :: l ∧
      w.start + 384 ≤ max s.now t ∧
      0 < w.len) ∧
    (∃ (t : ℕ) (n : Fin 128) (s : State) (neg : Bool), s.rung < 3 ∧
      s.is F.ICH_CTL_en (↑n : ℕ) = true ∧
      s.is F.ICH_STAT_ovldnow (↑n : ℕ) = false ∧
      max s.now t % 64 = 0 ∧
      ((s.ichOf (↑n : ℕ)).powAt + 63) / 64 * 64 + 4160 ≤ max s.now t ∧
      (∀ (c : ℕ), (s.ichOf (↑n : ℕ)).ovClr = some c → (if neg = (s.ichOf (↑n : ℕ)).ovNeg then c + 64 else c) ≤ max s.now t)) ∧
    (∃ (t : ℕ) (n : Fin 128) (s : State), s.is F.ICH_STAT_ovldnow (↑n : ℕ) = true ∧
      max s.now t % 64 = 0 ∧
      (s.ichOf (↑n : ℕ)).ovSet + 4096 ≤ max s.now t) :=
  ⟨⟨6400000000000, 0, (State.reset).setIch 0 { (State.reset).ichOf 0 with norms := aNorm :: [] }, aNorm, [], by decide, by decide, by decide⟩,
    ⟨6400000000000, 0, ((State.reset.put F.ICH_CTL_en 0 1).put F.ICH_STAT_ovldnow 0 0), false, by decide, by decide, by decide, by decide, by decide, (fun _ h => nomatch h)⟩,
    ⟨6400000000000, 0, (State.reset.put F.ICH_STAT_ovldnow 0 1), by decide, by decide, by decide⟩⟩

/-- The hypotheses of clauses of `Obligations.IntegratorWindows` are met. -/
theorem wit_IntegratorWindows_Windows :
    (∃ (t : ℕ) (n : Fin 128) (s : State), s.is F.ICH_CTL_arm (↑n : ℕ) = true ∧
      s.is F.ICH_STAT_ready (↑n : ℕ) = true ∧
      TriggerComes t (↑n : ℕ) s ∧
      (¬(4 ≤ (s.ichOf (↑n : ℕ)).edges.length ∨ s.is F.ICH_CTL_mode (↑n : ℕ) = true ∧ ∃ last ∈ (s.ichOf (↑n : ℕ)).edges.getLast?, t + s.get F.ICH_DELAY_d (↑n : ℕ) < last + s.get F.ICH_WLEN_len (↑n : ℕ)))) ∧
    (∃ (t : ℕ) (n : Fin 128) (s : State), s.is F.ICH_CTL_arm (↑n : ℕ) = true ∧
      s.is F.ICH_STAT_ready (↑n : ℕ) = true ∧
      TriggerComes t (↑n : ℕ) s ∧
      (4 ≤ (s.ichOf (↑n : ℕ)).edges.length ∨ s.is F.ICH_CTL_mode (↑n : ℕ) = true ∧ ∃ last ∈ (s.ichOf (↑n : ℕ)).edges.getLast?, t + s.get F.ICH_DELAY_d (↑n : ℕ) < last + s.get F.ICH_WLEN_len (↑n : ℕ))) ∧
    (∃ (t : ℕ) (n : Fin 128) (s : State) (e : ℕ) (l : List ℕ), (s.ichOf (↑n : ℕ)).edges = e :: l ∧
      e ≤ max s.now t ∧
      (s.ichOf (↑n : ℕ)).win = none ∧
      s.is F.ICH_CTL_mode (↑n : ℕ) = false) ∧
    (∃ (t : ℕ) (n : Fin 128) (s : State) (e : ℕ) (l : List ℕ) (d : ℤ) (w : OpenWin), (s.ichOf (↑n : ℕ)).edges = e :: l ∧
      e ≤ max s.now t ∧
      (s.ichOf (↑n : ℕ)).win = some w ∧
      decisionsOk w.openAt e d = true ∧
      w.openAt + 512 ≤ e ∧
      e ≤ w.openAt + 17179869120 ∧
      s.is F.ICH_CTL_mode (↑n : ℕ) = false) ∧
    (∃ (t : ℕ) (n : Fin 128) (s : State) (e : ℕ) (l : List ℕ) (d : ℤ) (w : OpenWin), (s.ichOf (↑n : ℕ)).edges = e :: l ∧
      e ≤ max s.now t ∧
      (s.ichOf (↑n : ℕ)).win = some w ∧
      decisionsOk w.openAt e d = true ∧
      e < w.openAt + 512 ∧
      s.is F.ICH_CTL_mode (↑n : ℕ) = false) ∧
    (∃ (t : ℕ) (n : Fin 128) (s : State) (e : ℕ) (l : List ℕ) (d : ℤ) (w : OpenWin), (s.ichOf (↑n : ℕ)).edges = e :: l ∧
      e ≤ max s.now t ∧
      (s.ichOf (↑n : ℕ)).win = some w ∧
      decisionsOk w.openAt e d = true ∧
      s.is F.ICH_CTL_mode (↑n : ℕ) = true) ∧
    (∃ (t : ℕ) (n : Fin 128) (s : State) (e : ℕ) (l : List ℕ), (s.ichOf (↑n : ℕ)).edges = e :: l ∧
      e ≤ max s.now t + s.get F.ICH_WLEN_len (↑n : ℕ) ∧
      (s.ichOf (↑n : ℕ)).win = none ∧
      s.is F.ICH_CTL_mode (↑n : ℕ) = true) ∧
    (∃ (t : ℕ) (n : Fin 128) (s : State) (w : OpenWin) (d : ℤ), (s.ichOf (↑n : ℕ)).win = some w ∧
      s.is F.ICH_CTL_mode (↑n : ℕ) = false ∧
      w.openAt + 17179869120 ≤ max s.now t ∧
      (∀ e ∈ (s.ichOf (↑n : ℕ)).edges, w.openAt + 17179869120 < e) ∧
      decisionsOk w.openAt (w.openAt + 17179869120) d = true) :=
  ⟨⟨6400000000000, 0, (((coming (State.reset.put F.ICH_CTL_trgsrc 0 1) 0 ⟨2, 0⟩).put F.ICH_CTL_arm 0 1).put F.ICH_STAT_ready 0 1), by decide, by decide, (by unfold TriggerComes; decide), by decide⟩,
    ⟨6400000000000, 0, ((((coming (State.reset.put F.ICH_CTL_trgsrc 0 1) 0 ⟨2, 0⟩).setIch 0 { State.reset.ichOf 0 with edges := [6400000000100, 6400000000900, 6400000001700, 6400000002500] }).put F.ICH_CTL_arm 0 1).put F.ICH_STAT_ready 0 1), by decide, by decide, (by unfold TriggerComes; decide), (.inl (by decide))⟩,
    ⟨6400000000000, 0, ((State.reset.put F.ICH_CTL_mode 0 0)).setIch 0 { ((State.reset.put F.ICH_CTL_mode 0 0)).ichOf 0 with edges := 0 :: [], win := none }, 0, [], by decide, by decide, by decide, by decide⟩,
    ⟨6400000000000, 0, ((State.reset.put F.ICH_CTL_mode 0 0)).setIch 0 { ((State.reset.put F.ICH_CTL_mode 0 0)).ichOf 0 with edges := 512 :: [600], win := some (⟨0, 0, false, none⟩ : OpenWin) }, 512, [600], 8, (⟨0, 0, false, none⟩ : OpenWin), by decide, by decide, by decide, by decide, by decide, by decide, by decide⟩,
    ⟨6400000000000, 0, ((State.reset.put F.ICH_CTL_mode 0 0)).setIch 0 { ((State.reset.put F.ICH_CTL_mode 0 0)).ichOf 0 with edges := 0 :: [], win := some (⟨0, 0, false, none⟩ : OpenWin) }, 0, [], 0, (⟨0, 0, false, none⟩ : OpenWin), by decide, by decide, by decide, by decide, by decide, by decide⟩,
    ⟨6400000000000, 0, ((State.reset.put F.ICH_CTL_mode 0 1)).setIch 0 { ((State.reset.put F.ICH_CTL_mode 0 1)).ichOf 0 with edges := 0 :: [], win := some (⟨0, 0, false, none⟩ : OpenWin) }, 0, [], 0, (⟨0, 0, false, none⟩ : OpenWin), by decide, by decide, by decide, by decide, by decide⟩,
    ⟨6400000000000, 0, ((State.reset.put F.ICH_CTL_mode 0 1)).setIch 0 { ((State.reset.put F.ICH_CTL_mode 0 1)).ichOf 0 with edges := 0 :: [], win := none }, 0, [], by decide, by decide, by decide, by decide⟩,
    ⟨6400000000000, 0, ((State.reset.put F.ICH_CTL_mode 0 0)).setIch 0 { ((State.reset.put F.ICH_CTL_mode 0 0)).ichOf 0 with win := some (⟨0, 0, false, none⟩ : OpenWin) }, (⟨0, 0, false, none⟩ : OpenWin), 268435455, by decide, by decide, by decide, by decide, by decide⟩⟩

/-- The hypotheses of clauses of `Obligations.InterruptsAndWinner` are met. -/
theorem wit_InterruptsAndWinner_WinnerIsBest :
    ∃ (s : State) (c : ℕ) (u : ℕ) (v : ℕ), winner s c = some u ∧
      v < 128 ∧
      (s.vec RegName.VU_PEND c v = true ∧ s.vec RegName.VU_MASK c v = false ∧ s.is F.VU_VCTL_valid (c * 128 + v) = true ∧ s.get F.VU_VCTL_pri (c * 128 + v) < s.get F.VU_STAT_cpri c) :=
  ⟨(withVector State.reset), 0, 5, 5, by decide, by decide, by decide⟩

/-- The hypotheses of clauses of `Obligations.WordInstructions` are met. -/
theorem wit_WordInstructions_WordResults :
    (∃ (e : CoreCmd × (Word → Word → Word)) (t : ℕ) (c : Fin 16) (x : Fields) (s : State), e ∈ wordTable ∧
      CoreReady t s (↑c : ℕ) ∧
      TandemOk (s.coreOf (↑c : ℕ)) x) ∧
    (∃ (t : ℕ) (c : Fin 16) (x : Fields) (s : State), CoreReady t s (↑c : ℕ) ∧
      TandemOk (s.coreOf (↑c : ℕ)) x ∧
      x.f19 = 0) :=
  ⟨⟨wordTable[12], 6400000000000, 0, (88318207 : Fields), (running core0), (List.getElem_mem (by decide)), (by unfold CoreReady; decide), (by unfold TandemOk; decide)⟩,
    ⟨6400000000000, 0, (0 : Fields), (running core0), (by unfold CoreReady; decide), (by unfold TandemOk; decide), by decide⟩⟩

end Sys2Proof.Tests
end

section
/-! PROOFS. The laws of registers: what a field of a register value reads after a write, what a register reads after a write, and what an
update of every field of a register makes of each (R11, R16, R433). -/

namespace Sys2Proof.Machine

/-! ### Fields of a register value -/

theorem fget_eq (x : BitVec 36) (lo w : Nat) : fget x lo w = x.toNat >>> lo % 2 ^ w := BitVec.extractLsb'_toNat ..

theorem fget_lt (x : BitVec 36) (lo w : Nat) : fget x lo w < 2 ^ w := (x.extractLsb' lo w).isLt

theorem fget_testBit (x : BitVec 36) (lo w j : Nat) : (fget x lo w).testBit j = (decide (j < w) && x.getLsbD (lo + j)) := by
  rw [fget, BitVec.testBit_toNat, BitVec.getLsbD_extractLsb']

theorem fput_getLsbD (x : BitVec 36) (lo w v : Nat) {j : Nat} (hj : j < 36) :
    (fput x lo w v).getLsbD j = if lo ≤ j ∧ j < lo + w then v.testBit (j - lo) else x.getLsbD j := by
  simp only [fput, BitVec.getLsbD_or, BitVec.getLsbD_and, BitVec.getLsbD_not, BitVec.getLsbD_shiftLeft, BitVec.getLsbD_setWidth,
    BitVec.getLsbD_allOnes, BitVec.getLsbD_ofNat, hj]
  by_cases h1 : lo ≤ j
  · by_cases h2 : j < lo + w
    · simp [h1, h2, show j - lo < w by omega, show ¬ j < lo by omega, show j - lo < 36 by omega]
    · simp [h1, h2, show ¬ j - lo < w by omega]
  · simp [h1, show j < lo by omega]

/-- A field reads what was written into it. -/
theorem fget_fput_same (x : BitVec 36) {lo w : Nat} (v : Nat) (h : lo + w ≤ 36) : fget (fput x lo w v) lo w = v % 2 ^ w := by
  refine Nat.eq_of_testBit_eq fun j => ?_
  rw [fget_testBit, Nat.testBit_mod_two_pow]
  by_cases hj : j < w
  · rw [fput_getLsbD x lo w v (by omega), if_pos (by omega), Nat.add_sub_cancel_left]
  · simp [hj]

/-- A field keeps what it reads when another one is written. -/
theorem fget_fput_apart (x : BitVec 36) {lo w lo' w' : Nat} (v : Nat) (h : lo + w ≤ lo' ∨ lo' + w' ≤ lo) :
    fget (fput x lo w v) lo' w' = fget x lo' w' := by
  refine Nat.eq_of_testBit_eq fun j => ?_
  rw [fget_testBit, fget_testBit]
  by_cases hj : j < w'
  · by_cases hb : lo' + j < 36
    · rw [fput_getLsbD x lo w v hb, if_neg (by omega)]
    · rw [BitVec.getLsbD_of_ge _ _ (by omega), BitVec.getLsbD_of_ge _ _ (by omega)]
  · simp [hj]

/-- Writing into a field what it holds changes nothing. -/
theorem fput_fget (x : BitVec 36) (lo w : Nat) : fput x lo w (fget x lo w) = x := by
  refine BitVec.eq_of_getLsbD_eq fun j hj => ?_
  rw [fput_getLsbD x lo w _ hj]
  by_cases h : lo ≤ j ∧ j < lo + w
  · rw [if_pos h, fget_testBit, Nat.add_sub_cancel' h.1]
    simp [show j - lo < w by omega]
  · rw [if_neg h]

/-! ### The fields of a register's row -/

/-- The field lies in the 36 bits of a register value. -/
def FieldRow.Fits (f : FieldRow) : Prop := f.lo + f.w ≤ 36

/-- Two fields share no bit. -/
def FieldRow.Apart (f g : FieldRow) : Prop := f.lo + f.w ≤ g.lo ∨ g.lo + g.w ≤ f.lo

theorem FieldRow.Apart.symm {f g : FieldRow} (h : f.Apart g) : g.Apart f := Or.symm h

theorem row_fields_fit (r : RegName) : ∀ f ∈ r.row.fields, f.Fits := by
  unfold FieldRow.Fits
  cases r <;> decide

theorem row_fields_apart (r : RegName) : r.row.fields.Pairwise FieldRow.Apart := by
  unfold FieldRow.Apart
  cases r <;> decide

/-- An update of register values that takes each field of a row by itself: it makes `val f c` of the value `c` of field `f`, and leaves the bits
outside the field alone. -/
def FieldwiseBy (upd : BitVec 36 → FieldRow → BitVec 36) (val : FieldRow → Nat → Nat) : Prop :=
  ∀ f, f.Fits → ∀ x, fget (upd x f) f.lo f.w = val f (fget x f.lo f.w) ∧
    ∀ g : FieldRow, f.Apart g → fget (upd x f) g.lo g.w = fget x g.lo g.w

/-- A field that shares no bit with the fields of `l` is left alone by their updates. -/
theorem fget_foldl_apart {upd : BitVec 36 → FieldRow → BitVec 36} {val : FieldRow → Nat → Nat} (hu : FieldwiseBy upd val) (g : FieldRow)
    (l : List FieldRow) (x : BitVec 36) (hfit : ∀ f ∈ l, f.Fits) (hap : ∀ f ∈ l, f.Apart g) :
    fget (l.foldl upd x) g.lo g.w = fget x g.lo g.w := by
  induction l generalizing x with
  | nil => rfl
  | cons f l ih =>
    rw [List.foldl_cons, ih _ (fun a ha => hfit a (.tail _ ha)) (fun a ha => hap a (.tail _ ha))]
    exact (hu f (hfit f (.head _)) x).2 g (hap f (.head _))

/-- After the updates of fields that are apart, each field holds what its own update made of it. -/
theorem fget_foldl_fields {upd : BitVec 36 → FieldRow → BitVec 36} {val : FieldRow → Nat → Nat} (hu : FieldwiseBy upd val)
    (l : List FieldRow) (x : BitVec 36) (hfit : ∀ f ∈ l, f.Fits) (hap : l.Pairwise FieldRow.Apart) :
    ∀ f ∈ l, fget (l.foldl upd x) f.lo f.w = val f (fget x f.lo f.w) := by
  induction l generalizing x with
  | nil => simp
  | cons g l ih =>
    obtain ⟨hg, hl⟩ := List.pairwise_cons.1 hap
    have hfit' : ∀ f ∈ l, f.Fits := fun a ha => hfit a (.tail _ ha)
    intro f hf
    rw [List.foldl_cons]
    rcases List.mem_cons.1 hf with rfl | hf
    · rw [fget_foldl_apart hu f l _ hfit' (fun a ha => (hg a ha).symm)]
      exact (hu f (hfit f (.head _)) x).1
    · rw [ih _ hfit' hl f hf, (hu g (hfit g (.head _)) x).2 f (hg f hf)]

/-- The same for the row of a register. -/
theorem fget_foldl_row {upd : BitVec 36 → FieldRow → BitVec 36} {val : FieldRow → Nat → Nat} (hu : FieldwiseBy upd val) (r : RegName)
    (x : BitVec 36) : ∀ f ∈ r.row.fields, fget (r.row.fields.foldl upd x) f.lo f.w = val f (fget x f.lo f.w) :=
  fget_foldl_fields hu _ x (row_fields_fit r) (row_fields_apart r)

/-- An update that writes `new f c` into the fields that meet `p`, and leaves the others, is fieldwise. -/
theorem fieldwiseBy_fput (p : FieldRow → Bool) (new : FieldRow → Nat → Nat) :
    FieldwiseBy (fun x f => if p f then fput x f.lo f.w (new f (fget x f.lo f.w)) else x)
      (fun f c => if p f then new f c % 2 ^ f.w else c) := by
  intro f hf x
  by_cases h : p f
  · simp only [h, if_true]
    exact ⟨fget_fput_same x _ hf, fun g hg => fget_fput_apart x _ hg⟩
  · simp [h]

/-- An update that leaves a value as it is at every field leaves it. -/
theorem foldl_fixed {α β : Type} {upd : β → α → β} {x : β} (l : List α) (h : ∀ a ∈ l, upd x a = x) : l.foldl upd x = x := by
  induction l with
  | nil => rfl
  | cons a l ih => rw [List.foldl_cons, h a (.head _), ih (fun b hb => h b (.tail _ hb))]

/-! ### Registers of the state -/

theorem ctorIdx_lt (r : RegName) : r.ctorIdx < 512 := by cases r <;> decide

@[simp] theorem regKey_mod (r : RegName) (i : Nat) : regKey r i % 512 = r.ctorIdx := by
  have := ctorIdx_lt r
  simp only [regKey]; omega

@[simp] theorem regKey_div (r : RegName) (i : Nat) : regKey r i / 512 = i := by
  have := ctorIdx_lt r
  simp only [regKey]; omega

/-- Registers and their numbers have keys of their own. -/
theorem regKey_inj {r r' : RegName} {i i' : Nat} : regKey r i = regKey r' i' ↔ r = r' ∧ i = i' := by
  refine ⟨fun h => ?_, by rintro ⟨rfl, rfl⟩; rfl⟩
  have hr : r.ctorIdx = r'.ctorIdx := by rw [← regKey_mod r i, h, regKey_mod]
  have hi : i = i' := by rw [← regKey_div r i, h, regKey_div]
  exact ⟨by rw [← RegName.ofNat_ctorIdx r, hr, RegName.ofNat_ctorIdx], hi⟩

@[simp] theorem regDefault_regKey (r : RegName) (i : Nat) : regDefault (regKey r i) = BitVec.ofNat 36 (resetVal r i) := by
  rw [regDefault, regKey_mod, regKey_div, RegName.ofNat_ctorIdx]

@[simp] theorem State.setReg_reg_same (s : State) (r : RegName) (i : Nat) (v : BitVec 36) : (s.setReg r i v).reg r i = v :=
  Store.get_set_same ..

theorem State.setReg_reg_ne (s : State) {r r' : RegName} {i i' : Nat} (v : BitVec 36) (h : ¬ (r' = r ∧ i' = i)) :
    (s.setReg r i v).reg r' i' = s.reg r' i' := Store.get_set_ne _ _ _ (fun e => h (regKey_inj.1 e))

/-- A write of a register touches the registers alone. -/
theorem State.setReg_frame (s : State) (r : RegName) (i : Nat) (v : BitVec 36) :
    s.setReg r i v = { s with regs := (s.setReg r i v).regs } := rfl

@[simp] theorem State.put_reg_same (s : State) (f : Fld) (i v : Nat) :
    (s.put f i v).reg f.reg i = fput (s.reg f.reg i) f.lo f.w v := State.setReg_reg_same ..

theorem State.put_reg_ne (s : State) {f : Fld} {r : RegName} {i j : Nat} (v : Nat) (h : ¬ (r = f.reg ∧ j = i)) :
    (s.put f i v).reg r j = s.reg r j := State.setReg_reg_ne s _ h

theorem State.put_reg_of_ne (s : State) {f : Fld} {r : RegName} (i j v : Nat) (h : r ≠ f.reg) : (s.put f i v).reg r j = s.reg r j :=
  s.put_reg_ne v (fun e => h e.1)

/-- A write of a field touches the registers alone. -/
theorem State.put_frame (s : State) (f : Fld) (i v : Nat) : s.put f i v = { s with regs := (s.put f i v).regs } := rfl

/-- A field reads what was put into it. -/
theorem State.put_get_same (s : State) (f : Fld) (i v : Nat) (h : f.lo + f.w ≤ 36) : (s.put f i v).get f i = v % 2 ^ f.w := by
  rw [State.get, State.put_reg_same, fget_fput_same _ _ h]

/-- A field of another register, or one that shares no bit with the field written, keeps what it reads. -/
theorem State.put_get_apart (s : State) {f g : Fld} {i j : Nat} (v : Nat)
    (h : g.reg = f.reg → f.lo + f.w ≤ g.lo ∨ g.lo + g.w ≤ f.lo) : (s.put f i v).get g j = s.get g j := by
  by_cases e : g.reg = f.reg ∧ j = i
  · obtain ⟨e1, rfl⟩ := e
    rw [State.get, State.get, e1, State.put_reg_same, fget_fput_apart _ _ (h e1)]
  · rw [State.get, State.get, State.put_reg_ne s v e]

/-! ### Sparse storage -/

/-- A key that the storage does not list reads as its default. -/
theorem Store.get_eq_default {α : Type} {d : Nat → α} {m : Store α} {k : Nat} (h : ∀ p ∈ m, p.1 ≠ k) : Store.get d m k = d k := by
  induction m with
  | nil => rfl
  | cons p m ih =>
    rw [Store.get, if_neg (h p (.head _)), ih (fun q hq => h q (.tail _ hq))]

/-- The keys of a storage in canonical form rise from its bound. -/
theorem Store.le_of_wfFrom {α : Type} [DecidableEq α] {d : Nat → α} {m : Store α} {a : Nat} (hm : Store.wfFrom d a m = true) :
    ∀ p ∈ m, a ≤ p.1 := by
  induction m generalizing a with
  | nil => simp
  | cons q m ih =>
    simp only [Store.wfFrom, Bool.and_eq_true, decide_eq_true_eq] at hm
    obtain ⟨⟨ha, -⟩, hm⟩ := hm
    intro p hp
    rcases List.mem_cons.1 hp with rfl | hp
    · exact ha
    · have := ih hm p hp; omega

/-- Each entry of a storage changed by `f`, and the entries that come to be equal to the default dropped: where `f` keeps the default, every
key reads as `f` makes of what it read. -/
theorem Store.get_mapFilter {α : Type} [DecidableEq α] {d : Nat → α} (f : Nat → α → α) (hf : ∀ k, f k (d k) = d k) (p : Nat × α → Bool)
    (hp : ∀ x, p x = (x.2 != d x.1)) {m : Store α} (hm : Store.wf d m = true) (k : Nat) :
    Store.get d ((m.map (fun x => (x.1, f x.1 x.2))).filter p) k = f k (Store.get d m k) := by
  have main : ∀ a, Store.wfFrom d a m = true →
      Store.get d ((m.map (fun x => (x.1, f x.1 x.2))).filter p) k = f k (Store.get d m k) := by
    induction m with
    | nil => intro a _; exact (hf k).symm
    | cons q m ih =>
      intro a ha
      simp only [Store.wfFrom, Bool.and_eq_true, decide_eq_true_eq] at ha
      have ih := ih (Store.wfFrom_mono d m (Nat.zero_le _) ha.2) _ ha.2
      by_cases hk : q.1 = k
      · have rest : Store.get d ((m.map (fun x => (x.1, f x.1 x.2))).filter p) k = d k := by
          refine Store.get_eq_default fun x hx => ?_
          obtain ⟨y, hy, rfl⟩ := List.mem_map.1 (List.mem_of_mem_filter hx)
          have := Store.le_of_wfFrom ha.2 y hy
          simp only; omega
        simp only [List.map_cons, List.filter_cons, hp, Store.get, hk, if_true]
        by_cases he : f k q.2 = d k
        · simp only [he, bne_self_eq_false, Bool.false_eq_true, if_false]
          exact rest
        · simp [he, Store.get]
      · simp only [List.map_cons, List.filter_cons, hp, Store.get, hk, if_false]
        split
        · simp only [Store.get, hk, if_false]; exact ih
        · exact ih
  exact main 0 hm

/-! ### Regions (R429) -/

/-- R429: the addresses of a region. -/
def Region.Spans (r : Region) (a : Nat) : Prop :=
  match r with
  | .flash => a < 0o040000000
  | .sram => 0o040000000 ≤ a ∧ a < 0o060000000
  | .rom => 0o060000000 ≤ a ∧ a < 0o060400000
  | .otp => 0o061000000 ≤ a ∧ a < 0o061002000
  | .bstore => 0o062000000 ≤ a ∧ a < 0o062200000
  | .bram => 0o063000000 ≤ a ∧ a < 0o063100000
  | .periph => 0o100000000 ≤ a ∧ a < 0o160000000
  | .tide => (0o200000000 ≤ a ∧ a < 0o315000000) ∨ (0o320000000 ≤ a ∧ a < 0o400000000)
  | .unmapped => (0o060400000 ≤ a ∧ a < 0o061000000) ∨ (0o061002000 ≤ a ∧ a < 0o062000000) ∨ (0o062200000 ≤ a ∧ a < 0o063000000) ∨
      (0o063100000 ≤ a ∧ a < 0o100000000) ∨ (0o160000000 ≤ a ∧ a < 0o200000000) ∨ (0o315000000 ≤ a ∧ a < 0o320000000) ∨ 0o400000000 ≤ a

/-- The step of an inversion of a chain of bounds. -/
theorem spans_ite {a b : Nat} {r r' : Region} (h1 : a < b → r.Spans a) (h2 : b ≤ a → r'.Spans a) :
    (if a < b then r else r').Spans a := by
  split
  · next h => exact h1 h
  · next h => exact h2 (Nat.le_of_not_lt h)

theorem spans_regionOf (a : Nat) : (regionOf a).Spans a := by
  unfold regionOf
  refine spans_ite id fun h1 => spans_ite (And.intro h1) fun h2 => spans_ite (And.intro h2) fun h3 => spans_ite (fun h => .inl ⟨h3, h⟩) fun h4 =>
    spans_ite (And.intro h4) fun h5 => spans_ite (fun h => .inr (.inl ⟨h5, h⟩)) fun h6 => spans_ite (And.intro h6) fun h7 =>
    spans_ite (fun h => .inr (.inr (.inl ⟨h7, h⟩))) fun h8 => spans_ite (And.intro h8) fun h9 =>
    spans_ite (fun h => .inr (.inr (.inr (.inl ⟨h9, h⟩)))) fun h10 => spans_ite (And.intro h10) fun h11 =>
    spans_ite (fun h => .inr (.inr (.inr (.inr (.inl ⟨h11, h⟩))))) fun h12 => spans_ite (fun h => .inl ⟨h12, h⟩) fun h13 =>
    spans_ite (fun h => .inr (.inr (.inr (.inr (.inr (.inl ⟨h13, h⟩)))))) fun h14 => spans_ite (fun h => .inr ⟨h14, h⟩) fun h15 =>
    .inr (.inr (.inr (.inr (.inr (.inr h15)))))

/-- R429: the regions do not overlap. -/
theorem spans_unique {r r' : Region} {a : Nat} (h : r.Spans a) (h' : r'.Spans a) : r = r' := by
  cases r <;> cases r' <;> simp only [Region.Spans, reduceCtorEq] at h h' ⊢ <;> omega

theorem regionOf_eq_iff {a : Nat} {r : Region} : regionOf a = r ↔ r.Spans a :=
  ⟨fun h => h ▸ spans_regionOf a, fun h => spans_unique (spans_regionOf a) h⟩

end Sys2Proof.Machine
end

section
/-! PROOFS. Device reset, the main rails, and power-on of the always-on domain (17_boot_and_security.md, R386; R17, R313, R344, R414). -/

namespace Sys2Proof.Machine

/-! ### The timer PLL stops (R334) -/

/-- The latest edge of the coarse clock lies within one coarse tick, and finding it touches its phase and the free values alone. -/
theorem coarseEdge_spec (s : State) : ∃ e dv fr, coarseEdge s = (e, { s with divAt := dv, free := fr }) ∧
    e ≤ s.now ∧ s.now < e + coarseTick := by
  unfold coarseEdge
  split
  · next e _ =>
    refine ⟨_, s.divAt, s.free, rfl, Nat.sub_le _ _, ?_⟩
    have := Nat.mod_lt (s.now + coarseTick - e % coarseTick) (show 0 < coarseTick by decide)
    omega
  · refine ⟨_, _, _, rfl, Nat.sub_le _ _, ?_⟩
    have := Nat.mod_lt (Config.free s.free) (show 0 < coarseTick by decide)
    change s.now < s.now - Config.free s.free % coarseTick + coarseTick
    omega

/-- The timebase stops at the latest edge of the coarse clock, with the value it has there; a stopped one stands. -/
theorem tbStop_spec (s : State) : ∃ tb rc dv fr, tbStop s =
      { s with tb := tb, pps := if s.tb.stopped then s.pps else { s.pps with span := none, spanFrom := none },
               pwr := { s.pwr with rcRan := rc }, divAt := dv, free := fr } ∧
    tb.stopped = true ∧ (s.tb.stopped = true → tb.v0 = s.tb.v0 ∧ tb.t0 = s.tb.t0 ∧ fr = s.free) ∧
    (s.tb.stopped = false → tb.t0 ≤ s.now ∧ s.now < tb.t0 + 1953125 ∧ tb.v0 = (s.tb.fine tb.t0).toNat) := by
  by_cases h : s.tb.stopped = true
  · refine ⟨s.tb, s.pwr.rcRan, s.divAt, s.free, by simp [tbStop, h], h, fun _ => ⟨rfl, rfl, rfl⟩, by simp [h]⟩
  · obtain ⟨e, dv, fr, he, hle, hlt⟩ := coarseEdge_spec s
    refine ⟨{ s.tb with t0 := e, v0 := (s.tb.fine e).toNat, u0 := s.tb.fine e, stopped := true, jump := false }, s.is F.CLK_STAT_rc 0, dv, fr,
      ?_, rfl, fun h' => absurd h' h, fun _ => ⟨hle, hlt, rfl⟩⟩
    have hoff : ∀ x : State, x.tb.stopped = true → spanFollow x = { x with pps := { x.pps with span := none, spanFrom := none } } := by
      intro x hx
      rw [spanFollow, if_pos (by simp [spanOn, hx])]
    simp only [tbStop, h, he]
    rw [hoff _ rfl]
    rfl

/-! ### The registers (R17, R344) -/

/-- R17: what a device reset makes of each field of a register. -/
theorem fget_keptReg (r : RegName) (i : Nat) (v : BitVec 36) : ∀ f ∈ r.row.fields, fget (keptReg r i v) f.lo f.w =
    if fieldKept f i = true then fget v f.lo f.w else fget (BitVec.ofNat 36 (resetVal r i)) f.lo f.w := by
  intro f hf
  have hu := fieldwiseBy_fput (fun f => decide (f.keep = .all ∨ (f.keep = .low8 ∧ i < 8))) (fun f _ => fget v f.lo f.w)
  have := fget_foldl_row hu r (BitVec.ofNat 36 (resetVal r i)) f hf
  simp only [decide_eq_true_eq, Nat.mod_eq_of_lt (fget_lt v f.lo f.w)] at this
  simp only [keptReg, fieldKept, Bool.or_eq_true, Bool.and_eq_true, beq_iff_eq, decide_eq_true_eq]
  exact this

/-- A register at its reset value stays there. -/
theorem keptReg_default (k : Nat) : keptReg (RegName.ofNat (k % 512)) (k / 512) (regDefault k) = regDefault k := by
  refine foldl_fixed _ fun f _ => ?_
  rw [regDefault, fput_fget, ite_self]

/-- R344: what power-on of the always-on domain makes of each field of a register. -/
theorem fget_aonReg (r : RegName) (i : Nat) (v : BitVec 36) : ∀ f ∈ r.row.fields, fget (aonReg r i v) f.lo f.w =
    if fieldKept f i = true ∨ r ∈ aonWhole then fget (BitVec.ofNat 36 (resetVal r i)) f.lo f.w else fget v f.lo f.w := by
  intro f hf
  by_cases hr : r ∈ aonWhole
  · rw [aonReg, if_pos (by simpa using hr), if_pos (.inr hr)]
  · have hu := fieldwiseBy_fput (fun f => decide (f.keep = .all ∨ (f.keep = .low8 ∧ i < 8)))
      (fun f _ => fget (BitVec.ofNat 36 (resetVal r i)) f.lo f.w)
    have := fget_foldl_row hu r v f hf
    simp only [decide_eq_true_eq, Nat.mod_eq_of_lt (fget_lt _ f.lo f.w)] at this
    rw [aonReg, if_neg (by simpa using hr)]
    simp only [hr, or_false, fieldKept, Bool.or_eq_true, Bool.and_eq_true, beq_iff_eq, decide_eq_true_eq]
    exact this

theorem aonReg_default (k : Nat) : aonReg (RegName.ofNat (k % 512)) (k / 512) (regDefault k) = regDefault k := by
  unfold aonReg
  split
  · rfl
  · refine foldl_fixed _ fun f _ => ?_
    rw [show BitVec.ofNat 36 (resetVal (RegName.ofNat (k % 512)) (k / 512)) = regDefault k from rfl, fput_fget, ite_self]

/-- A register read from storage that `f` has passed over. -/
theorem get_mapRegs {f : RegName → Nat → BitVec 36 → BitVec 36}
    (hf : ∀ k, f (RegName.ofNat (k % 512)) (k / 512) (regDefault k) = regDefault k) {regs : Store (BitVec 36)}
    (hm : Store.wf regDefault regs = true) (r : RegName) (i : Nat) :
    Store.get regDefault (mapRegs f regs) (regKey r i) = f r i (Store.get regDefault regs (regKey r i)) := by
  have := Store.get_mapFilter (fun k v => f (RegName.ofNat (k % 512)) (k / 512) v) hf (fun p => p.2 != regDefault p.1) (fun _ => rfl) hm
    (regKey r i)
  rw [regKey_mod, regKey_div, RegName.ofNat_ctorIdx] at this
  exact this

/-! ### A flash operation cut short (R313) -/

/-- What cutting the operation of a bank short can touch: the lines, the one-time row, FL_RECOV, and the free values. -/
structure CutFrame (s s' : State) : Prop where
  frame : s' = { s with regs := s'.regs, flash := s'.flash, otp := s'.otp, free := s'.free }
  regs : ∀ r i, r ≠ .FL_RECOV → s'.reg r i = s.reg r i

theorem CutFrame.refl (s : State) : CutFrame s s := ⟨rfl, fun _ _ _ => rfl⟩

theorem CutFrame.trans {s u v : State} (h : CutFrame s u) (g : CutFrame u v) : CutFrame s v :=
  ⟨by rw [g.frame, h.frame], fun r i hr => (g.regs r i hr).trans (h.regs r i hr)⟩

theorem CutFrame.flOf {s u : State} (h : CutFrame s u) (b : Nat) : u.flOf b = s.flOf b := by rw [h.frame]

/-- A bank without an operation has none cut short. -/
theorem flCut_idle {s : State} {b : Nat} (h : (s.flOf b).run = none) : flCut s b = s := by simp [flCut, h]

/-- An erase cut short leaves its block as it is. -/
theorem flCut_erase {s : State} {b k st : Nat} {j : Bool} (h : (s.flOf b).run = some ⟨.erase k, st, j⟩) : flCut s b = s := by
  simp [flCut, h]

/-- A one-time word whose program is cut short takes a free value. -/
theorem flCut_otp {s : State} {b i st : Nat} {v : BitVec 18} {j : Bool} (h : (s.flOf b).run = some ⟨.otp i v, st, j⟩) :
    ∃ x fr, flCut s b = { s with free := fr }.setOtp i (some x) := by
  simp only [flCut, h]
  exact ⟨_, _, rfl⟩

/-- A line program replayed by bank `b`, with its record in FL_RECOV. -/
def flReplay (s : State) (b l : Nat) (d : BitVec 72) : State :=
  ((flPut s l d true).put ⟨.FL_RECOV, 35 - b, 1⟩ 0 1).put F.FL_RECOV_addr 0 (8 * l)

/-- A line program cut short is replayed, or has left its line as it was; past its first phase it is replayed (R308). -/
theorem flCut_program {s : State} {b l st : Nat} {d : BitVec 72} {x j : Bool} (h : (s.flOf b).run = some ⟨.program l d x, st, j⟩) :
    (∃ fr, flCut s b = flReplay { s with free := fr } b l d) ∨ (s.now < st + 51200 ∧ ∃ fr, flCut s b = { s with free := fr }) := by
  simp only [flCut, h]
  by_cases hd : st + ns 800 ≤ s.now
  · exact .inl ⟨s.free, by rw [if_pos hd]; rfl⟩
  · rw [if_neg hd]
    by_cases hx : (s.draw 2).1 = 1
    · exact .inl ⟨s.free + 1, by simp only [hx, if_true]; rfl⟩
    · exact .inr ⟨by simp only [ns] at hd; omega, s.free + 1, by simp only [hx, if_false]; rfl⟩

theorem cutFrame_replay (s : State) (b l fr : Nat) (d : BitVec 72) : CutFrame s (flReplay { s with free := fr } b l d) :=
  ⟨rfl, fun r i hr => by rw [flReplay, State.put_reg_of_ne _ _ _ _ hr, State.put_reg_of_ne _ _ _ _ hr]; rfl⟩

theorem flCut_frame (s : State) (b : Nat) : CutFrame s (flCut s b) := by
  rcases h : (s.flOf b).run with _ | ⟨op, st, j⟩
  · rw [flCut_idle h]; exact .refl s
  · cases op with
    | program l d x =>
      obtain ⟨fr, e⟩ | ⟨-, fr, e⟩ := flCut_program h <;> rw [e]
      · exact cutFrame_replay s b l fr d
      · exact ⟨rfl, fun _ _ _ => rfl⟩
    | erase k => rw [flCut_erase h]; exact .refl s
    | otp i v =>
      obtain ⟨x, fr, e⟩ := flCut_otp h
      rw [e]; exact ⟨rfl, fun _ _ _ => rfl⟩

theorem flCuts_frame (s : State) (l : List Nat) : CutFrame s (l.foldl flCut s) := by
  induction l generalizing s with
  | nil => exact .refl s
  | cons b l ih => exact (flCut_frame s b).trans (ih _)

/-- Where no bank but `b` has an operation, the cuts of all banks are that of bank `b`. -/
theorem flCuts_single {s : State} {b : Nat} (l : List Nat) (hb : b ∈ l) (hn : l.Nodup) (h : ∀ m ∈ l, m ≠ b → (s.flOf m).run = none) :
    l.foldl flCut s = flCut s b := by
  induction l generalizing s with
  | nil => cases hb
  | cons a l ih =>
    obtain ⟨ha, hn⟩ := List.nodup_cons.1 hn
    rw [List.foldl_cons]
    by_cases hab : a = b
    · subst hab
      refine foldl_fixed l fun m hm => flCut_idle ?_
      rw [(flCut_frame s a).flOf]
      exact h m (.tail _ hm) (fun e => ha (e ▸ hm))
    · rw [flCut_idle (h a (.head _) hab)]
      exact ih ((List.mem_cons.1 hb).resolve_left (Ne.symm hab)) hn fun m hm => h m (.tail _ hm)


/-! ### The device reset (R386) -/

/-- The state of a device reset before the flash operations are cut short. -/
def resetBase (s : State) : State := { State.reset with
  now := s.now, regs := mapRegs keptReg s.regs, tb := s.tb, pps := s.pps, tbLatch := s.tbLatch
  wc := (s.wc.map (fun p => (p.1, ({ vin := p.2.vin } : WcS)))).filter (fun p => p.2 != {})
  crane := ((List.range 8).map (fun c => (c, ({ winOff := s.now } : CraneS)))).filter (fun p => p.2 != {})
  divAt := s.divAt.filter (fun p => p.1 == 4)
  pwr := { rcRan := s.pwr.rcRan, alarm := s.pwr.alarm }
  sram := s.sram, fl := s.fl, flash := s.flash, flBlk := s.flBlk, otp := s.otp
  journal := { s.journal with full := none, next := [], force := false, forceDue := false, pf := false }
  gpioPad := s.gpioPad, lkWake := s.lkWake, tripPin := s.tripPin
  boot := { held := s.boot.held, resume := s.boot.resume }
  ku := { rng := s.ku.rng, gen := s.ku.gen }, dbg := { chal := s.dbg.chal + 1 }
  pending := s.pending, out := s.out, free := s.free }

/-- The end of a device reset: the banks are idle, the rate terms stand anew, and the cause is recorded. -/
def resetEnd (r : State) (cause core : Nat) : State :=
  (({ r with fl := [], tb := { r.tb with rho := tbRho r, rhoOld := tbRho r } } : State).put F.BOOT_RSTC_cause 0 cause).put
    F.BOOT_RSTC_core 0 core

theorem deviceReset_eq (s : State) (cause core : Nat) :
    deviceReset s cause core = resetEnd ([0, 1, 2, 3].foldl flCut (resetBase (tbStop s))) cause core := rfl

theorem resetEnd_reg (r : State) (cause core : Nat) {n : RegName} (i : Nat) (hn : n ≠ .BOOT_RSTC) :
    (resetEnd r cause core).reg n i = r.reg n i := by
  rw [resetEnd, State.put_reg_of_ne _ _ _ _ hn, State.put_reg_of_ne _ _ _ _ hn]; rfl

theorem resetEnd_cause (r : State) (cause core : Nat) : (resetEnd r cause core).get F.BOOT_RSTC_cause 0 = cause % 8 := by
  rw [resetEnd, State.put_get_apart _ _ (fun _ => by decide), State.put_get_same _ _ _ _ (by decide)]; rfl

theorem resetEnd_core (r : State) (cause core : Nat) : (resetEnd r cause core).get F.BOOT_RSTC_core 0 = core % 16 := by
  rw [resetEnd, State.put_get_same _ _ _ _ (by decide)]; rfl

/-- A comparator keeps its input alone. -/
theorem resetBase_wcOf {s : State} (hwc : Store.wf (fun _ => ({} : WcS)) s.wc = true) (n : Nat) :
    (resetBase s).wcOf n = { vin := (s.wcOf n).vin } :=
  Store.get_mapFilter (d := fun _ => ({} : WcS)) (fun _ v => { vin := v.vin }) (fun _ => rfl) _ (fun _ => rfl) hwc n

/-- The utilisation windows of the eight cranes start anew. -/
theorem resetBase_craneOf (s : State) {c : Nat} (hc : c < 8) : (resetBase s).craneOf c = { winOff := s.now } := by
  by_cases h0 : s.now = 0
  · have : ({ winOff := s.now } : CraneS) = {} := by rw [h0]
    simp [resetBase, State.craneOf, this, Store.get_eq_default]
  · have : ({ winOff := s.now } : CraneS) ≠ {} := fun e => h0 (congrArg CraneS.winOff e)
    simp only [resetBase, State.craneOf]
    rw [List.filter_eq_self.2 (by simp [this])]
    interval_cases c <;> rfl

/-- Of the divided clocks the coarse one keeps its phase. -/
theorem resetBase_divAtOf (s : State) {m : Nat} (hm : m ≠ 4) : (resetBase s).divAtOf m = none :=
  Store.get_eq_default fun p hp e => hm (by simpa [e] using (List.mem_filter.1 hp).2)

theorem resetBase_reg {s : State} (hm : Store.wf regDefault s.regs = true) (r : RegName) (i : Nat) :
    (resetBase s).reg r i = keptReg r i (s.reg r i) := get_mapRegs keptReg_default hm r i

/-- FL_RECOV, which no reset keeps, is clear before the banks are looked at. -/
theorem resetBase_recov {s : State} (hm : Store.wf regDefault s.regs = true) : (resetBase s).reg .FL_RECOV 0 = 0 := by
  rw [resetBase_reg hm]; rfl

/-- A device reset of a state `s` that a command at `t` has reached from `s0`, with PWR_STAT and the due reset alone changed. -/
structure AtReset (t : Nat) (s0 s : State) : Prop where
  frame : s = { s0 with now := max s0.now t, out := [], regs := s.regs, devRst := s.devRst }
  wfRegs : Store.wf regDefault s.regs = true
  wfWc : Store.wf (fun _ => ({} : WcS)) s0.wc = true
  regs : ∀ r i, r ≠ .PWR_STAT → s.reg r i = s0.reg r i


/-- R313: what the cuts leave of the flash where bank `b` alone has an operation. -/
theorem flCuts_leave {r : State} {b : Nat} (hb : b < 4) (hone : ∀ m < 4, m ≠ b → (r.flOf m).run = none) (h0 : r.reg .FL_RECOV 0 = 0) :
    let s' := [0, 1, 2, 3].foldl flCut r
    let Replayed (l : Nat) (d : BitVec 72) : Prop := s'.flashOf l = { d := d, prog := true, undef := false, ecc := .good } ∧
      s'.get F.FL_RECOV_bank 0 = 2 ^ (3 - b) ∧ s'.get F.FL_RECOV_addr 0 = 8 * l % 2 ^ 27
    (∀ l d x st j, (r.flOf b).run = some ⟨.program l d x, st, j⟩ → (∀ m, m ≠ l → s'.flashOf m = r.flashOf m) ∧ s'.otp = r.otp ∧
      (st + 51200 ≤ r.now → Replayed l d) ∧ (Replayed l d ∨ (s'.flashOf l = r.flashOf l ∧ s'.get F.FL_RECOV_bank 0 = 0))) ∧
    (∀ i v st j, (r.flOf b).run = some ⟨.otp i v, st, j⟩ → s'.flash = r.flash ∧ (s'.otpOf i).isSome = true ∧
      ∀ m, m ≠ i → s'.otpOf m = r.otpOf m) ∧
    ∀ k st j, (r.flOf b).run = some ⟨.erase k, st, j⟩ → s'.flash = r.flash ∧ s'.otp = r.otp := by
  intro s' Replayed
  have hs' : s' = flCut r b := flCuts_single _ (by simp; omega) (by decide) (fun m hm => hone m (by simp at hm; omega))
  refine ⟨fun l d x st j h => ?_, fun i v st j h => ?_, fun k st j h => ?_⟩
  · have hreplay : ∀ fr, s' = flReplay { r with free := fr } b l d →
        (∀ m, m ≠ l → s'.flashOf m = r.flashOf m) ∧ s'.otp = r.otp ∧ Replayed l d := by
      intro fr e
      refine ⟨fun m hm => ?_, by rw [e]; rfl, ?_, ?_, ?_⟩
      · rw [e]; exact State.setFlash_flashOf_ne _ _ hm
      · rw [e]; exact State.setFlash_flashOf _ _ _
      · have : s'.reg .FL_RECOV 0 = fput (fput 0 (35 - b) 1 1) 0 27 (8 * l) := by
          rw [e, flReplay, State.put_reg_same _ F.FL_RECOV_addr, State.put_reg_same _ ⟨.FL_RECOV, 35 - b, 1⟩]
          exact congrArg (fun x => fput (fput x (35 - b) 1 1) 0 27 (8 * l)) h0
        rw [State.get, show F.FL_RECOV_bank.reg = .FL_RECOV from rfl, this, fget_fput_apart _ _ (.inl (by decide))]
        interval_cases b <;> rfl
      · rw [e, flReplay, State.put_get_same _ _ _ _ (by decide)]
    obtain ⟨fr, e⟩ | ⟨hlt, fr, e⟩ := flCut_program h
    · obtain ⟨h1, h2, h3⟩ := hreplay fr (hs'.trans e)
      exact ⟨h1, h2, fun _ => h3, .inl h3⟩
    · rw [← hs'] at e
      refine ⟨fun m _ => by rw [e], by rw [e], fun hle => absurd hlt (by omega), .inr ⟨by rw [e], ?_⟩⟩
      rw [e, State.get]
      exact (congrArg (fun x => fget x 32 4) h0).trans rfl
  · obtain ⟨x, fr, e⟩ := flCut_otp h
    rw [← hs'] at e
    rw [e]
    exact ⟨rfl, by rw [State.setOtp_otpOf]; rfl, fun m hm => State.setOtp_otpOf_ne _ _ hm⟩
  · rw [hs', flCut_erase h]
    exact ⟨rfl, rfl⟩

/-- A device reset leaves what R17 and R386 say. -/
theorem deviceReset_leaves {t : Nat} {s0 s : State} (h : AtReset t s0 s) (cause core : Nat) :
    ResetLeaves t [.BOOT_RSTC, .FL_RECOV, .PWR_STAT] s0 (deviceReset s cause core) := by
  obtain ⟨rg0, dr, rfl⟩ : ∃ rg dr, s = { s0 with now := max s0.now t, out := [], regs := rg, devRst := dr } := ⟨_, _, h.frame⟩
  obtain ⟨-, hwf, hwc, hreg⟩ := h
  obtain ⟨tb, rc, dv, fr, hst, hstop, hstood, hran⟩ := tbStop_spec { s0 with now := max s0.now t, out := [], regs := rg0, devRst := dr }
  rw [deviceReset_eq, hst]
  set u : State := { s0 with now := max s0.now t, out := [], regs := rg0, devRst := dr, tb := tb, pps := _, pwr := _, divAt := dv, free := fr }
    with hu
  have hwfu : Store.wf regDefault u.regs = true := hwf
  have hcut := flCuts_frame (resetBase u) [0, 1, 2, 3]
  have hrec := resetBase_recov hwfu
  have hidle : (∀ b < 4, (s0.flOf b).run = none) → [0, 1, 2, 3].foldl flCut (resetBase u) = resetBase u := fun hn =>
    foldl_fixed _ fun b hb => flCut_idle (hn b (by simp at hb; omega))
  have hbusy := fun b hb (hone : ∀ m < 4, m ≠ b → (s0.flOf m).run = none) => flCuts_leave (r := resetBase u) (b := b) hb hone hrec
  generalize hq : [0, 1, 2, 3].foldl flCut (resetBase u) = q at hcut hidle hbusy ⊢
  obtain ⟨hframe, hqreg⟩ := hcut
  have hqtb : q.tb = tb := by rw [hframe]; rfl
  refine ⟨?_, fun n => ?_, fun c hc => ?_, fun m hm => ?_, fun r i hr f hf => ?_, ?_, ?_, ?_, ?_, ?_, ?_, fun hn => ?_, fun b hb hone => ?_⟩
  · obtain ⟨rg, fl, ot, fr', rfl⟩ : ∃ rg fl ot fr', q = { resetBase u with regs := rg, flash := fl, otp := ot, free := fr' } :=
      ⟨_, _, _, _, hframe⟩
    rfl
  · rw [show (resetEnd q cause core).wcOf n = q.wcOf n from rfl, hframe]
    exact resetBase_wcOf (s := u) hwc n
  · rw [show (resetEnd q cause core).craneOf c = q.craneOf c from rfl, hframe]
    exact resetBase_craneOf u hc
  · rw [show (resetEnd q cause core).divAtOf m = q.divAtOf m from rfl, hframe]
    exact resetBase_divAtOf u hm
  · simp only [List.mem_cons, List.not_mem_nil, or_false, not_or] at hr
    obtain ⟨h1, h2, h3⟩ := hr
    rw [resetEnd_reg q cause core i h1, hqreg r i h2, resetBase_reg hwfu, fget_keptReg r i _ f hf]
    rw [show u.reg r i = s0.reg r i from hreg r i h3]
  · exact (congrArg TbS.stopped hqtb).trans hstop
  · intro hs
    obtain ⟨hv, ht, -⟩ := hstood hs
    exact ⟨(congrArg TbS.v0 hqtb).trans hv, (congrArg TbS.t0 hqtb).trans ht⟩
  · intro hs
    have := hran hs
    rw [show (resetEnd q cause core).tb.t0 = q.tb.t0 from rfl, show (resetEnd q cause core).tb.v0 = q.tb.v0 from rfl, hqtb]
    exact this
  · have hrate : ∀ f : Fld, f.reg ≠ .BOOT_RSTC → (resetEnd q cause core).getS f 0 = q.getS f 0 := fun f hf => by
      rw [State.getS, State.get, resetEnd_reg q cause core 0 hf]; rfl
    rw [hrate _ (by decide), hrate _ (by decide)]
    rfl
  · rw [show (resetEnd q cause core).boot = q.boot from rfl, hframe]; rfl
  · rw [show (resetEnd q cause core).dbg = q.dbg from rfl, hframe]; rfl
  · have hrecov : (resetEnd q cause core).get F.FL_RECOV_bank 0 = 0 := by
      rw [State.get, resetEnd_reg q cause core 0 (by decide), hidle hn, hrec]; rfl
    have hflash : q.flash = s0.flash := by rw [hidle hn]; rfl
    have hotp : q.otp = s0.otp := by rw [hidle hn]; rfl
    refine ⟨hflash, hotp, ?_, hrecov⟩
    split
    · next hs =>
      have hfree : q.free = fr := by rw [hidle hn]; rfl
      exact hfree.trans (hstood hs).2.2
    · rfl
  · have hget : ∀ f : Fld, f.reg = .FL_RECOV → (resetEnd q cause core).get f 0 = q.get f 0 := fun f hf => by
      rw [State.get, resetEnd_reg q cause core 0 (by rw [hf]; decide)]; rfl
    rw [hget _ rfl, hget _ rfl]
    exact hbusy b hb hone


/-! ### The commands -/

/-- What a canonical state says of the storage that a device reset passes over. -/
theorem wf_of_canonical {s : State} (h : s.canonical = true) :
    Store.wf regDefault s.regs = true ∧ Store.wf (fun _ => ({} : WcS)) s.wc = true := by
  simp only [State.canonical, Bool.and_eq_true] at h
  simp only [h, and_self]

/-- R386: the state that a device reset meets, with the wake cause recorded or not. -/
theorem atReset_of_canonical {s : State} (hc : s.canonical = true) (t : Nat) (dr : Option (Nat × Nat)) (woken : Prop) [Decidable woken] :
    AtReset t s (if woken then { s.tick t with devRst := dr }.put F.PWR_STAT_wake 0 4 else { s.tick t with devRst := dr }) := by
  obtain ⟨hr, hw⟩ := wf_of_canonical hc
  split
  · exact ⟨rfl, Store.wf_set regDefault s.regs _ _ hr, hw, fun r i hne => State.put_reg_of_ne _ _ _ _ hne⟩
  · exact ⟨rfl, hr, hw, fun _ _ _ => rfl⟩

/-- A device reset lets go of no held reset, and begins none. -/
theorem deviceReset_held (s : State) (cause core : Nat) : (deviceReset s cause core).boot.held = s.boot.held := by
  obtain ⟨tb, rc, dv, fr, hst, -⟩ := tbStop_spec s
  rw [deviceReset_eq, hst]
  generalize hu : ({ s with tb := tb, pps := _, pwr := _, divAt := dv, free := fr } : State) = u
  rw [show (resetEnd ([0, 1, 2, 3].foldl flCut (resetBase u)) cause core).boot = ([0, 1, 2, 3].foldl flCut (resetBase u)).boot from rfl,
    (flCuts_frame (resetBase u) [0, 1, 2, 3]).frame, ← hu]
  rfl

/-- A reset that is held with the SRAM lost leaves the rest as a device reset does. -/
theorem ResetLeaves.collapse {t : Nat} {l : List RegName} {s s' : State} (h : ResetLeaves t l s s') :
    ResetLeaves t l { s with sram := [] } { s' with sram := [], boot := { s'.boot with held := true } } := by
  obtain ⟨hframe, hwc, hcr, hdiv, hregs, hstop, hstood, hran, hrho, hboot, hdbg, hidle, hbusy⟩ := h
  refine ⟨?_, hwc, hcr, hdiv, hregs, hstop, hstood, hran, hrho, ?_, hdbg, hidle, hbusy⟩
  · exact congrArg (fun x : State => { x with sram := [], boot := { s'.boot with held := true } }) hframe
  · exact congrArg (fun b : BootS => { b with held := true }) hboot

/-- A device reset that a command brings about. -/
theorem deviceReset_does {t : Nat} {pin : Bool} {s : State} (hc : s.canonical = true) (hh : s.boot.held = false) {c k : Nat}
    (hd : (if pin then (s.tick t).resetBy 1 0 else s.tick t) = { s.tick t with devRst := some (c, k) })
    (hp : (s.devRst.isSome || pin) = true) :
    Does (.deviceReset t pin) s (fun s' => ResetLeaves t [.BOOT_RSTC, .FL_RECOV, .PWR_STAT] s s' ∧
      s'.get F.BOOT_RSTC_cause 0 = c % 8 ∧ s'.get F.BOOT_RSTC_core 0 = k % 16 ∧ s'.boot.held = false) := by
  have hat := atReset_of_canonical hc t (some (c, k)) (c = 1 ∧ 3 ≤ s.rung)
  refine ⟨_, ?_, deviceReset_leaves hat c k, ?_, ?_, ?_⟩
  · change execDeviceReset t pin s = _
    have hcond : (!(s.tick t).boot.held && ((s.tick t).devRst.isSome || pin)) = true := by
      rw [show (s.tick t).boot = s.boot from rfl, show (s.tick t).devRst = s.devRst from rfl, hh, hp]; rfl
    simp only [execDeviceReset, event, hcond, if_true, hd]
    rfl
  · exact resetEnd_cause ..
  · exact resetEnd_core ..
  · rw [deviceReset_held]
    split <;> exact hh

/-- R414: what a collapse of the main rails leaves. -/
theorem railCollapse_does {t : Nat} {s : State} (hc : s.canonical = true) (hh : s.boot.held = false) :
    Does (.railCollapse t) s (fun s' => ResetLeaves t [.BOOT_RSTC, .FL_RECOV, .PWR_STAT] { s with sram := [] } s' ∧ s'.boot.held = true) := by
  have hat : AtReset t s (s.tick t) := atReset_of_canonical hc t s.devRst False
  refine ⟨_, ?_, (deviceReset_leaves hat 0 0).collapse, rfl⟩
  change execRailCollapse t s = _
  simp only [execRailCollapse, event, show (s.tick t).boot = s.boot from rfl, hh]
  rfl

/-- R344: what power-on of the always-on domain leaves. -/
theorem alwaysOnPowerOn_does {t : Nat} {s : State} (hc : s.canonical = true) :
    Does (.alwaysOnPowerOn t) s (fun s' =>
      s' = { s with now := max s.now t, out := [], regs := s'.regs, tb := s'.tb, pps := {}, pwr := { s.pwr with alarm := false, rcRan := false },
                    tbLatch := [], boot := { s.boot with resume := none } } ∧
      s'.tbAt (max s.now t) = 0 ∧ ∀ (r : RegName) (i : Nat), ∀ f ∈ r.row.fields, fget (s'.reg r i) f.lo f.w =
        if fieldKept f i = true ∨ r ∈ aonWhole then fget (BitVec.ofNat 36 (resetVal r i)) f.lo f.w else fget (s.reg r i) f.lo f.w) := by
  refine ⟨_, rfl, rfl, ?_, fun r i f hf => ?_⟩
  · simp [State.tbAt, TbS.fine]
  · refine (congrArg (fun x => fget x f.lo f.w) (get_mapRegs aonReg_default (wf_of_canonical hc).1 r i)).trans ?_
    exact fget_aonReg r i _ f hf

/-- R414: the held reset ends, with cause 0. -/
theorem powerOn_does {t : Nat} {s : State} (hh : s.boot.held = true) :
    Does (.powerOn t) s (fun s' => s' = { s with now := max s.now t, out := [], regs := s'.regs, boot := { s.boot with held := false } } ∧
      RegsKept [.BOOT_RSTC] s s' ∧ s'.get F.BOOT_RSTC_cause 0 = 0) := by
  refine ⟨({ s.tick t with boot := { s.boot with held := false } }.put F.BOOT_RSTC_cause 0 0).put F.BOOT_RSTC_core 0 0, ?_, rfl,
    fun r n hr => ⟨?_, rfl⟩, ?_⟩
  · change execPowerOn t s = _
    simp only [execPowerOn, event, show (s.tick t).boot = s.boot from rfl, hh]
    rfl
  · have hr : r ≠ .BOOT_RSTC := by simpa using hr
    rw [State.put_reg_of_ne _ _ _ _ hr, State.put_reg_of_ne _ _ _ _ hr]
    rfl
  · rw [State.put_get_apart _ _ (fun _ => by decide), State.put_get_same _ _ _ _ (by decide)]; rfl

end Sys2Proof.Machine

namespace Sys2Proof.Settled

open Sys2Proof.Machine

/-- Settles O46: a device reset in three stages (the timer PLL stops, the state of R17 is built, the flash operations are cut short), each with a
law of what it leaves; a collapse is such a reset with the SRAM lost, and power-on of the always-on domain takes the registers field by field. -/
theorem deviceReset : Obligations.DeviceReset := by
  intro t s now l hc
  refine ⟨fun hh c k hd => deviceReset_does hc hh ?_ (by simp [hd]), fun hh hd => ?_, powerOn_does, railCollapse_does hc, alwaysOnPowerOn_does hc⟩
  · rw [if_neg (by decide), ← hd]; rfl
  · obtain ⟨s', he, hleaves, hcause, -, hheld⟩ := deviceReset_does (pin := true) (c := 1) (k := 0) hc hh
      (by simp [State.resetBy, State.tick, hd]) (by simp)
    exact ⟨s', he, hleaves, hcause, hheld⟩

end Sys2Proof.Settled
end

section
/-! PROOFS. Stores and reads of registers by the kinds of their fields (00_scope.md, R8, R11 to R13, R18; 19_address_map.md, R430). -/

namespace Sys2Proof.Machine

/-! ### What a write makes of each field (R11, R12) -/

/-- Clearing the bits `w` of a value takes them off it. -/
theorem and_compl_eq_sub (n c w : Nat) (hc : c < 2 ^ n) (hw : w < 2 ^ n) : c &&& (2 ^ n - 1 - w) = c - (c &&& w) := by
  induction n generalizing c w with
  | zero => simp at hc; simp [hc]
  | succ n ih =>
    have ih := ih (c / 2) (w / 2) (by omega) (by omega)
    have hdiv : (2 ^ (n + 1) - 1 - w) / 2 = 2 ^ n - 1 - w / 2 := by omega
    have d1 := Nat.and_div_two (a := c) (b := 2 ^ (n + 1) - 1 - w)
    have d2 := Nat.and_div_two (a := c) (b := w)
    have m1 := Nat.and_mod_two_eq_one (a := c) (b := 2 ^ (n + 1) - 1 - w)
    have m2 := Nat.and_mod_two_eq_one (a := c) (b := w)
    have hle : (c / 2 &&& w / 2) ≤ c / 2 := Nat.and_le_left
    rw [hdiv] at d1
    omega

/-- A write puts into each field what its kind says, for the way it is reached by. -/
theorem next_eq_fput (f : FieldRow) (a : Alias) (locked : Bool) (v : Nat) (x : BitVec 36) : f.next a locked v x =
    fput x f.lo f.w (fieldNext f.kind a (fget x f.lo f.w) (v >>> f.lo % 2 ^ f.w) locked) := by
  have hclr := and_compl_eq_sub f.w _ _ (fget_lt x f.lo f.w) (Nat.mod_lt (v >>> f.lo) (Nat.two_pow_pos f.w))
  rcases hk : f.kind <;> cases a <;> simp only [FieldRow.next, fieldNext, hk, hclr, fput_fget]
  cases locked
  · rfl
  · exact (fput_fget x f.lo f.w).symm

/-- The value that a write gives a field fits into it. -/
theorem fieldNext_lt (kind : Kind) (a : Alias) {w cur v : Nat} (locked : Bool) (hc : cur < 2 ^ w) (hv : v < 2 ^ w) :
    fieldNext kind a cur v locked < 2 ^ w := by
  have hor := Nat.or_lt_two_pow hc hv
  have hclr : cur - (cur &&& v) < 2 ^ w := Nat.lt_of_le_of_lt (Nat.sub_le _ _) hc
  have hlock : (if locked then cur else v) < 2 ^ w := by split <;> assumption
  cases kind <;> cases a <;> assumption

/-- A write takes each field by itself. -/
theorem fieldwiseBy_next (a : Alias) (locked : Bool) (v : Nat) : FieldwiseBy (fun x f => f.next a locked v x)
    (fun f c => fieldNext f.kind a c (v >>> f.lo % 2 ^ f.w) locked) := by
  intro f hf x
  simp only [next_eq_fput]
  have hlt := fieldNext_lt f.kind a locked (fget_lt x f.lo f.w) (Nat.mod_lt (v >>> f.lo) (Nat.two_pow_pos f.w))
  exact ⟨by rw [fget_fput_same x _ hf, Nat.mod_eq_of_lt hlt], fun g hg => fget_fput_apart x _ hg⟩

/-- R11, R12: what a write of `v` makes of each field of a register. -/
theorem fget_written (s : State) (r : RegName) (i : Nat) (a : Alias) (v : Nat) : ∀ f ∈ r.row.fields, fget (s.written_ r i a v) f.lo f.w =
    fieldNext f.kind a (fget (s.reg r i) f.lo f.w) (v >>> f.lo % 2 ^ f.w) (s.locked r i) :=
  fget_foldl_row (fieldwiseBy_next a (s.locked r i) v) r (s.reg r i)

/-- A register whose fields are all RO keeps what it held. -/
theorem written_readOnly (s : State) {r : RegName} (i : Nat) (a : Alias) (v : Nat) (h : ∀ f ∈ r.row.fields, f.kind = .ro) :
    s.written_ r i a v = s.reg r i :=
  foldl_fixed _ fun f hf => by cases a <;> simp [FieldRow.next, h f hf]


/-! ### The stores that a counter unit holds -/

/-- A unit that holds no store has none to take. -/
theorem cuFlush_of_none {s : State} {u : Nat} (x : Int) (h : (s.cuOf u).held = []) : cuFlush s u x = s := by
  simp [cuFlush, h]

/-- Nothing follows where a command has raised no event. -/
theorem cuChain_end (n : Nat) (s : State) : cuChain n s.out.length s = s := by
  cases n <;> simp [cuChain]

/-- An access to a register meets no store that its counter unit holds. -/
def NoneHeld (s : State) (r : RegName) (i : Nat) : Prop := ∀ u, cuOfReg r i = some u → (s.cuOf u).held = []

theorem regSync_of_none {s : State} {r : RegName} {i : Nat} (h : NoneHeld s r i) : regSync s r i = s := by
  rcases hu : cuOfReg r i with _ | u
  · simp [regSync, hu]
  · rw [regSync, hu, Option.elim_some, cuSync, cuFlush_of_none _ (h u hu)]
    exact cuChain_end 512 s

/-! ### What an address reaches (R8, R12) -/

variable {s : State} {r : RegName} {i : Nat} {al : Alias}

/-- A register has a word or a double word. -/
theorem two_le_size (r : RegName) : 2 ≤ r.size := by
  rcases hd : r.row.dword with _ | _ <;> simp [RegName.size, hd]

/-- R12: the base address that an address of a register stands for. -/
theorem aliasOf_of_reaches {a : Nat} (h : Reaches a r i al) : ∃ b, aliasOf a = (al, b) ∧ 0o100000000 ≤ b ∧ b + r.size ≤ 0o115000000 ∧
    regAt b = some (r, i, 0) := by
  have hsize := two_le_size r
  cases al
  · obtain ⟨hlo, hhi, -, hat, -⟩ := h
    change 0o100000000 ≤ a at hlo
    change a + r.size ≤ 0o115000000 at hhi
    exact ⟨a, by rw [aliasOf, if_pos (by omega)], hlo, hhi, hat⟩
  · obtain ⟨hlo, hhi, -, hat, -⟩ := h
    change 0o100000000 ≤ a - 0o020000000 at hlo
    change a - 0o020000000 + r.size ≤ 0o115000000 at hhi
    exact ⟨a - 0o020000000, by rw [aliasOf, if_neg (by omega), if_pos (by omega)], hlo, hhi, hat⟩
  · obtain ⟨hlo, hhi, -, hat, -⟩ := h
    change 0o100000000 ≤ a - 0o040000000 at hlo
    change a - 0o040000000 + r.size ≤ 0o115000000 at hhi
    exact ⟨a - 0o040000000, by rw [aliasOf, if_neg (by omega), if_neg (by omega)], hlo, hhi, hat⟩

theorem aliasOf_reaches {a : Nat} (h : Reaches a r i al) : (aliasOf a).1 = al := by
  obtain ⟨b, hb, -⟩ := aliasOf_of_reaches h
  rw [hb]

/-- R429: such an address lies in peripheral space. -/
theorem regionOf_reaches {a : Nat} (h : Reaches a r i al) : regionOf a = .periph := by
  obtain ⟨b, hb, hlo, hhi, -⟩ := aliasOf_of_reaches h
  have hsize := two_le_size r
  refine regionOf_eq_iff.2 ?_
  simp only [Region.Spans]
  unfold aliasOf at hb
  split_ifs at hb <;> obtain ⟨-, rfl⟩ := Prod.mk.inj hb <;> omega

/-- R8: an access of a register's size at its address reaches the whole register. -/
theorem periphAcc_reaches {a : Nat} (h : Reaches a r i al) : periphAcc a r.size = .reg r i := by
  obtain ⟨b, hb, hlo, hhi, hat⟩ := aliasOf_of_reaches h
  have heven : a % 2 = 0 := h.2.2.1
  have hsize := two_le_size r
  have h1 : assigned b = true := by simp only [assigned, Bool.and_eq_true, decide_eq_true_eq]; omega
  have h2 : assigned (b + r.size - 1) = true := by simp only [assigned, Bool.and_eq_true, decide_eq_true_eq]; omega
  rcases hd : r.row.dword with _ | _
  · have hs : r.size = 2 := by simp [RegName.size, hd]
    rw [hs] at h2 ⊢
    simp [periphAcc, hb, h1, (show assigned (b + 1) = true from h2), heven, hat, hd]
  · have hs : r.size = 4 := by simp [RegName.size, hd]
    rw [hs] at h2 ⊢
    simp [periphAcc, hb, h1, (show assigned (b + 3) = true from h2), heven, hat, hd]

theorem periphStorable_reaches {a : Nat} (h : Reaches a r i al) : periphStorable a r.size = true := by
  rw [periphStorable, periphAcc_reaches h]

/-! ### A store to a register that R11 alone governs -/

/-- Where hardware has touched no bit of the register in this timer cycle, a write takes effect whole. -/
theorem yielded_idle (a : Alias) {v : Nat} (hv : v < 2 ^ 36) (h : (s.hwAt r i).bits = 0) : s.yielded r i a v = v := by
  have hall : v &&& (2 ^ 36 - 1) = v := by rw [Nat.and_two_pow_sub_one_eq_mod, Nat.mod_eq_of_lt hv]
  cases a <;> simp [State.yielded, h]
  · exact hall
  · exact hall

/-- R11: a store to a register that R11 alone governs writes its fields by their kinds; of the image of an SMBus port the unit remembers the
entry before. -/
theorem regStore_plain (hr : r ∈ plainRegs) (s : State) (q : Req) (i : Nat) (a : Alias) (v : Nat) :
    ∃ smb, regStore s q r i a v = { s.setReg r i (s.written_ r i a v) with smb := smb } ∧ (r ≠ .SMB_IMG → smb = s.smb) := by
  have plain : r ≠ .SMB_IMG → regStore s q r i a v = s.setReg r i (s.written_ r i a v) := by
    intro hne
    simp only [plainRegs, List.mem_cons, List.not_mem_nil, or_false, hne, false_or] at hr
    cases a
    all_goals
      repeat' (rcases hr with rfl | hr)
      all_goals rfl
  by_cases hne : r = .SMB_IMG
  · subst hne; exact ⟨_, rfl, fun h => absurd rfl h⟩
  · exact ⟨s.smb, plain hne, fun _ => rfl⟩

/-- R11: a store to a register whose fields are all RO writes what it held. -/
theorem regStore_readOnly (hr : r ∈ readOnlyRegs) (s : State) (q : Req) (i : Nat) (a : Alias) (v : Nat) :
    regStore s q r i a v = s.setReg r i (s.reg r i) := by
  rw [← written_readOnly s i a v]
  · simp only [readOnlyRegs, List.mem_cons, List.not_mem_nil, or_false] at hr
    cases a
    all_goals
      repeat' (rcases hr with rfl | hr)
      all_goals rfl
  · revert r; decide

/-! ### Frames of registers -/

/-- A state with the registers and their records of another one keeps every register. -/
theorem regKept_of_eq {s s' : State} {r : RegName} {n : Nat} (hregs : s'.regs = s.regs) (hhw : s'.hw = s.hw) : RegKept r n s s' := by
  simp only [RegKept, State.reg, State.hwOf, hregs, hhw, and_self]

/-- A register that is written with what it holds is as it was, and so is every other one. -/
theorem regsKept_setReg_self (s : State) (r : RegName) (i : Nat) : RegsKept [] s (s.setReg r i (s.reg r i)) := by
  refine fun r' i' _ => ⟨?_, rfl⟩
  by_cases h : r' = r ∧ i' = i
  · obtain ⟨rfl, rfl⟩ := h; exact State.setReg_reg_same ..
  · exact State.setReg_reg_ne _ _ h

theorem hwOf_mark_ne (s : State) {r r' : RegName} {i i' : Nat} (m : BitVec 36) (h : ¬ (r' = r ∧ i' = i)) :
    (s.mark r i m).hwOf (regKey r' i') = s.hwOf (regKey r' i') := Store.get_set_ne _ _ _ (fun e => h (regKey_inj.1 e))

/-- What a write holds for the rest of its timer cycle (R431) are bits of its own register alone. -/
theorem setHolds_spec (s : State) (r : RegName) (i : Nat) (a : Alias) (v : Nat) :
    ∃ hw, setHolds s r i a v = { s with hw := hw } ∧ ∀ r' i', ¬ (r' = r ∧ i' = i) → (setHolds s r i a v).hwOf (regKey r' i') = s.hwOf (regKey r' i') := by
  unfold setHolds
  split
  · exact ⟨_, rfl, fun _ _ h => hwOf_mark_ne s _ h⟩
  · exact ⟨_, rfl, fun _ _ _ => rfl⟩

/-- A register without a field that both aliases write holds nothing. -/
theorem setHolds_readOnly (hr : r ∈ readOnlyRegs) (s : State) (i : Nat) (a : Alias) (v : Nat) : setHolds s r i a v = s := by
  have hset : setBits r v = 0 := foldl_fixed _ fun f hf => if_neg (by revert f; revert r; decide)
  rw [setHolds, if_neg (fun h => h.2 hset)]

/-! ### The whole write (R11 to R14, R18) -/

/-- A store to a register whose counter unit holds no store is the store alone, where it raises no event. -/
theorem regWrite_of_none {q : Req} {v : Nat} (hn : NoneHeld s r i) (hs : s.out = [])
    (hout : (setHolds (regStore s q r i al (s.yielded r i al v)) r i al v).out = []) :
    regWrite s q r i al v = setHolds (regStore s q r i al (s.yielded r i al v)) r i al v := by
  have hflush : (cuOfReg r i).elim s (fun u => cuFlush s u s.now) = s := by
    rcases hu : cuOfReg r i with _ | u
    · rfl
    · exact cuFlush_of_none _ (hn u hu)
  have hend := cuChain_end 512 (setHolds (regStore s q r i al (s.yielded r i al v)) r i al v)
  rw [hout] at hend
  simp only [regWrite, hflush, hs, cuSettleFrom]
  split
  · exact hend
  · rfl

/-- R11 to R13: a store to a register that R11 alone governs gives each field its value by its kind, and changes nothing else. -/
theorem regWrite_plain (hr : r ∈ plainRegs) {q : Req} {v : Nat} (hv : v < 2 ^ 36) (hn : NoneHeld s r i) (hs : s.out = [])
    (hw : (s.hwAt r i).bits = 0) : let s' := regWrite s q r i al v
      s' = { s with regs := s'.regs, hw := s'.hw, smb := s'.smb } ∧ (r ≠ .SMB_IMG → s'.smb = s.smb) ∧ RegsKept [r] s s' ∧ OthersKept r i s s' ∧
      s'.reg r i = s.written_ r i al v := by
  obtain ⟨smb, hst, hsmb⟩ := regStore_plain hr s q i al v
  obtain ⟨hw', hh, hkeep⟩ := setHolds_spec { s.setReg r i (s.written_ r i al v) with smb := smb } r i al v
  have he : regWrite s q r i al v = setHolds { s.setReg r i (s.written_ r i al v) with smb := smb } r i al v := by
    rw [regWrite_of_none hn hs, yielded_idle al hv hw, hst]
    rw [yielded_idle al hv hw, hst, hh]; exact hs
  have hregs : (regWrite s q r i al v).regs = (s.setReg r i (s.written_ r i al v)).regs := by rw [he, hh]
  have other : ∀ r' i', ¬ (r' = r ∧ i' = i) → RegKept r' i' s (regWrite s q r i al v) := by
    intro r' i' h
    refine ⟨?_, ?_⟩
    · rw [State.reg, hregs]; exact State.setReg_reg_ne s _ h
    · rw [he]; exact hkeep r' i' h
  refine ⟨?_, ?_, ?_, ?_, ?_⟩
  · rw [he, hh]; rfl
  · rw [he, hh]; exact hsmb
  · exact fun r' i' h => other r' i' (fun e => h (by simp [e.1]))
  · exact fun i' h => other r i' (fun e => h e.2)
  · rw [State.reg, hregs]; exact State.setReg_reg_same s r i _

/-- R11: a store to a register whose fields are all RO changes nothing. -/
theorem regWrite_readOnly (hr : r ∈ readOnlyRegs) {q : Req} {v : Nat} (hn : NoneHeld s r i) (hs : s.out = []) :
    regWrite s q r i al v = s.setReg r i (s.reg r i) := by
  rw [regWrite_of_none hn hs] <;> rw [regStore_readOnly hr, setHolds_readOnly hr]
  exact hs

/-- R18: an access of a core with the capability that it needs, or of another requester, raises no trap. -/
theorem accessCause_of_allowed {q : Req} {k : Fin 8} {a size perm : Nat}
    (h : ∀ c, q = .core c → capCheck ((s.coreOf c).cap k) [perm] a size = none) : accessCause s q k perm a size = none := by
  cases q with
  | core c => exact h c rfl
  | _ => rfl

/-- R430, R433: the size of an access of a register's width. -/
theorem size_dword (r : RegName) : (if r.row.dword = true then 4 else 2) = r.size := rfl

/-- R11, R18: a store that is allowed reaches the register. -/
theorem exec_registerWrite_reaches {t : Nat} {q : Req} {k : Fin 8} {a : Addr} {v : DWord} (h : Reaches a.toNat r i al)
    (hok : ∀ c, q = .core c → capCheck ((s.coreOf c).cap k) [permST] a.toNat r.size = none) :
    exec (.registerWrite t q k a r.row.dword v) s =
      .next (regWrite (s.tick t) q r i al (if r.row.dword then v.toNat else v.toNat % 2 ^ 18)) := by
  change execRegisterWrite t q k a r.row.dword v s = _
  have hc : accessCause (s.tick t) q k permST a.toNat r.size = none := accessCause_of_allowed hok
  simp only [execRegisterWrite, event, size_dword, regionOf_reaches h, hc, periphStorable_reaches h, periphWrite, periphAcc_reaches h,
    aliasOf_reaches h]
  rfl

/-! ### Reads of registers with RC fields (R11, R13) -/

/-- No register with an RC field has WO fields, belongs to a counter unit, or has a rule of its own for its reads. -/
theorem shown_rc (hr : r ∈ rcRegs) : s.shown r i = (s.reg r i).toNat := by
  have hno : ∀ f ∈ r.row.fields, f.kind ≠ .wo := by revert r; decide
  rw [State.shown, foldl_fixed _ fun f hf => if_neg (hno f hf)]

theorem regRead_rc (hr : r ∈ rcRegs) (q : Req) : regRead s q r i = rcRead s r i := by
  simp only [rcRegs, List.mem_cons, List.not_mem_nil, or_false] at hr
  repeat' (rcases hr with rfl | hr)
  all_goals rfl

/-- What a register holds with `n` in its RC field. -/
theorem fget_rcSet (r : RegName) (x : BitVec 36) (n : Nat) : ∀ f ∈ r.row.fields,
    fget (rcSet r x n) f.lo f.w = if f.kind = .rc then n % 2 ^ f.w else fget x f.lo f.w := by
  have h := fget_foldl_row (fieldwiseBy_fput (fun f => f.kind = .rc) (fun _ _ => n)) r x
  simpa [rcSet] using h

/-- R11, R13: what a read of a register with RC fields answers, and what it leaves there: in the RC fields the count before the events of this
timer cycle, and these events. -/
theorem rcRead_fields (hr : r ∈ rcRegs) : let p := rcRead s r i
    p.2 = { s with regs := p.2.regs, hw := p.2.hw } ∧ RegsKept [r] s p.2 ∧ OthersKept r i s p.2 ∧ ∃ y : BitVec 36, p.1 = y.toNat ∧
      ∀ f ∈ r.row.fields,
        fget y f.lo f.w = (if f.kind = .rc then ((s.hwAt r i).rc.elim (fget (s.reg r i) f.lo f.w) (·.1)) % 2 ^ f.w else fget (s.reg r i) f.lo f.w) ∧
        fget (p.2.reg r i) f.lo f.w = if f.kind = .rc then ((s.hwAt r i).rc.elim 0 (·.2)) % 2 ^ f.w else fget (s.reg r i) f.lo f.w := by
  rcases hrc : (s.hwAt r i).rc with _ | ⟨old, more⟩
  · simp only [rcRead, hrc]
    have other : ∀ r' i', ¬ (r' = r ∧ i' = i) → RegKept r' i' s (s.setReg r i (rcSet r (s.reg r i) 0)) :=
      fun r' i' hne => ⟨State.setReg_reg_ne s _ hne, rfl⟩
    refine ⟨rfl, fun r' i' h => other r' i' (fun e => h (by simp [e.1])), fun i' h => other r i' (fun e => h e.2), s.reg r i, shown_rc hr,
      fun f hf => ⟨?_, ?_⟩⟩
    · rw [Option.elim_none, Nat.mod_eq_of_lt (fget_lt _ _ _), ite_self]
    · rw [State.setReg_reg_same]; exact fget_rcSet r _ 0 f hf
  · simp only [rcRead, hrc]
    have other : ∀ r' i', ¬ (r' = r ∧ i' = i) → RegKept r' i' s { s.setReg r i (rcSet r (s.reg r i) more) with
        hw := Store.set (fun _ => {}) s.hw (regKey r i) { s.hwAt r i with rc := some (0, more) } } :=
      fun r' i' hne => ⟨State.setReg_reg_ne s _ hne, Store.get_set_ne _ _ _ (fun e => hne (regKey_inj.1 e))⟩
    refine ⟨rfl, fun r' i' h => other r' i' (fun e => h (by simp [e.1])), fun i' h => other r i' (fun e => h e.2), _, rfl,
      fun f hf => ⟨fget_rcSet r _ old f hf, ?_⟩⟩
    exact (congrArg (fget · f.lo f.w) (State.setReg_reg_same s r i _)).trans (fget_rcSet r _ more f hf)

theorem hasRc_of_mem : ∀ r ∈ rcRegs, r.hasRc = true := by decide

/-- R11, R18: a read that is allowed reaches the register. -/
theorem exec_rcFieldRead_reaches {t : Nat} {q : Req} {k : Fin 8} {a : Addr} (hr : r ∈ rcRegs) (h : Reaches a.toNat r i al)
    (hok : ∀ c, q = .core c → capCheck ((s.coreOf c).cap k) [permLD] a.toNat r.size = none) :
    exec (.rcFieldRead t q k a r.row.dword) s = .next ((rcRead (s.tick t) r i).2.emit (.data (rcRead (s.tick t) r i).1)) := by
  change execRcFieldRead t q k a r.row.dword s = _
  have hc : accessCause (s.tick t) q k permLD a.toNat r.size = none := accessCause_of_allowed hok
  have hrc := hasRc_of_mem r hr
  simp only [execRcFieldRead, size_dword, regionOf_reaches h, hc, periphAcc_reaches h, hrc, regRead_rc hr]
  rfl

/-! ### The traps of an access (R8, R18, R430) -/

variable {t : Nat} {q : Req} {k : Fin 8} {a : Addr} {dbl : Bool} {v : DWord}

/-- Requesters but the cores have no trap to raise. -/
theorem accessTrap_other (s : State) (cause a : Nat) (h : ∀ c, q ≠ .core c) : accessTrap s q cause a = s := by
  cases q with
  | core c => exact absurd rfl (h c)
  | _ => rfl

/-- R18: the access of a core that runs raises its trap there, and touches nothing else. -/
theorem accessTrap_core {c : Fin 16} (t cause a : Nat) (h : canRun s c = true) :
    OnlyCore t c s (accessTrap (s.tick t) (.core c) cause a) ∧
    ((accessTrap (s.tick t) (.core c) cause a).coreOf c).trap = some ⟨cause, 0, (s.coreOf c).pc, a⟩ := by
  have he : accessTrap (s.tick t) (.core c) cause a =
      (s.tick t).setCore c (((s.tick t).coreOf c).raise cause 0 ((s.tick t).coreOf c).pc a) := if_pos h
  rw [he]
  exact ⟨onlyCore_setCore t c s _, by rw [setCore_same]; rfl⟩

/-- R8, R430: the address reaches no register that it may store to. -/
def PAcc.bad : PAcc → Bool
  | .half .. => true
  | .align => true
  | .gone => true
  | _ => false

theorem periphStorable_of_bad {n a : Nat} (h : (periphAcc a n).bad = true) : periphStorable a n = false := by
  rw [periphStorable]
  cases e : periphAcc a n <;> simp_all [PAcc.bad]

/-- R8, R430: a store of a core without the capability that it needs, or with it to an address that it may not store to, is its trap. -/
theorem exec_registerWrite_traps {c : Fin 16} {n cause : Nat} (hn : n = if dbl then 4 else 2) (hp : regionOf a.toNat = .periph)
    (h : capCheck ((s.coreOf c).cap k) [permST] a.toNat n = some cause ∨
      ((periphAcc a.toNat n).bad = true ∧ capCheck ((s.coreOf c).cap k) [permST] a.toNat n = none ∧ cause = 5)) :
    exec (.registerWrite t (.core c) k a dbl v) s = .next (accessTrap (s.tick t) (.core c) cause a.toNat) := by
  change execRegisterWrite t (.core c) k a dbl v s = _
  subst hn
  rcases h with h | ⟨hb, h, rfl⟩
  · simp only [execRegisterWrite, event, hp, show accessCause (s.tick t) (.core c) k permST a.toNat _ = _ from h]
    rfl
  · simp only [execRegisterWrite, event, hp, show accessCause (s.tick t) (.core c) k permST a.toNat _ = _ from h, periphStorable_of_bad hb]
    rfl

/-- The read of an RC field meets a register with one, or an address that the read may not use. -/
def PAcc.meetsRc : PAcc → Bool
  | .reg r _ => r.hasRc
  | .align => true
  | .gone => true
  | _ => false

/-- R8, R430: a read of a core without the capability that it needs, or with it of an address that it may not read, is its trap. -/
theorem exec_rcFieldRead_traps {c : Fin 16} {n cause : Nat} (hn : n = if dbl then 4 else 2) (hp : regionOf a.toNat = .periph)
    (hm : (periphAcc a.toNat n).meetsRc = true)
    (h : capCheck ((s.coreOf c).cap k) [permLD] a.toNat n = some cause ∨
      ((periphAcc a.toNat n).bad = true ∧ capCheck ((s.coreOf c).cap k) [permLD] a.toNat n = none ∧ cause = 5)) :
    exec (.rcFieldRead t (.core c) k a dbl) s = .next (accessTrap (s.tick t) (.core c) cause a.toNat) := by
  change execRcFieldRead t (.core c) k a dbl s = _
  subst hn
  rcases h with h | ⟨hb, h, rfl⟩
  all_goals
    have hc := (show accessCause (s.tick t) (.core c) k permLD a.toNat _ = _ from h)
    simp only [execRcFieldRead, hp, hc]
    rcases e : periphAcc a.toNat (if dbl = true then 4 else 2) with ⟨r, i⟩ | ⟨r, i, hi⟩ | _ | _ | _ <;> simp_all [PAcc.bad, PAcc.meetsRc, ok]

/-- R8, R430: a store of another requester to an address that it may not store to, or a store to unoccupied offsets, changes nothing. -/
theorem exec_registerWrite_same {n : Nat} (hn : n = if dbl then 4 else 2) (hp : regionOf a.toNat = .periph)
    (h : (periphAcc a.toNat n = .free ∧ ∀ c, q = .core c → capCheck ((s.coreOf c).cap k) [permST] a.toNat n = none) ∨
      ((periphAcc a.toNat n).bad = true ∧ ∀ c, q ≠ .core c)) :
    exec (.registerWrite t q k a dbl v) s = .next (s.tick t) := by
  change execRegisterWrite t q k a dbl v s = _
  subst hn
  have hc : accessCause (s.tick t) q k permST a.toNat (if dbl then 4 else 2) = none :=
    accessCause_of_allowed fun c hq => h.elim (fun h => h.2 c hq) (fun h => absurd hq (h.2 c))
  rcases h with ⟨hf, -⟩ | ⟨hb, hq⟩
  · simp only [execRegisterWrite, event, hp, hc, periphStorable, periphWrite, hf]
    rfl
  · simp only [execRegisterWrite, event, hp, hc, periphStorable_of_bad hb, accessTrap_other _ _ _ hq]
    rfl

end Sys2Proof.Machine

namespace Sys2Proof.Settled
open Sys2Proof.Machine

/-- Settles O40: an access that is allowed is the write of each field by its kind, or the read and clear of the RC fields; another one is the
first trap of R18 and R8, or nothing. -/
theorem registerAccess : Obligations.RegisterAccess := by
  intro t q k a v s now allowed
  refine ⟨?_, ?_⟩
  · intro r i al hreach hnone x
    refine ⟨fun hok hidle => ⟨fun hr => ?_, fun hr => ?_⟩, ?_⟩
    · have hx : x < 2 ^ 36 := by
        have := v.isLt
        unfold x; split <;> omega
      obtain ⟨hframe, hsmb, hkept, hothers, hreg⟩ := regWrite_plain (s := s.tick t) (al := al) (q := q) hr hx hnone rfl hidle
      exact ⟨_, exec_registerWrite_reaches hreach hok, hframe, hsmb, hkept, hothers, hreg ▸ fget_written (s.tick t) r i al x⟩
    · refine ⟨_, exec_registerWrite_reaches hreach hok, ?_⟩
      rw [regWrite_readOnly (s := s.tick t) hr hnone rfl]
      exact ⟨rfl, regsKept_setReg_self (s.tick t) r i⟩
    · intro hok hr Reads
      obtain ⟨hframe, hkept, hothers, y, hy, hfields⟩ := rcRead_fields (s := s.tick t) (i := i) hr
      have reads : ∀ o : Option (Nat × Nat), ((s.tick t).hwAt r i).rc = o →
          Reads (fun f => o.elim (fget (s.reg r i) f.lo f.w) (·.1)) (fun _ => o.elim 0 (·.2)) := by
        rintro o rfl
        refine ⟨_, exec_rcFieldRead_reaches hr hreach hok, ?_, hkept, hothers, y, by rw [hframe, hy]; rfl, hfields⟩
        rw [hframe]; rfl
      exact ⟨fun h => reads none h, fun y h => reads (some y) h⟩
  · intro dbl hp n bad rc Same
    refine ⟨fun hf hok => ⟨_, exec_registerWrite_same rfl hp (.inl ⟨hf, hok⟩), rfl⟩,
      fun hb hq => ⟨_, exec_registerWrite_same rfl hp (.inr ⟨hb, hq⟩), rfl⟩, ?_⟩
    rintro c rfl hrun Traps First
    have trapped := fun cause => accessTrap_core t cause a.toNat hrun
    exact ⟨⟨fun cause h => ⟨_, exec_registerWrite_traps rfl hp (.inl h), trapped cause⟩,
        fun hb h => ⟨_, exec_registerWrite_traps rfl hp (.inr ⟨hb, h, rfl⟩), trapped 5⟩⟩,
      fun hm => ⟨fun cause h => ⟨_, exec_rcFieldRead_traps rfl hp hm (.inl h), trapped cause⟩,
        fun hb h => ⟨_, exec_rcFieldRead_traps rfl hp hm (.inr ⟨hb, h, rfl⟩), trapped 5⟩⟩⟩

end Sys2Proof.Settled
end

section
/-! PROOFS. Values in memory (R7, R200): the nonets and words of a value, and the words of a block of 16 words. -/

namespace Sys2Proof.Machine

/-- R7: nonet `j` of the words `w`. -/
def nonet (w : Nat → Word) (j : Nat) : Nat := if j % 2 = 0 then (w (j / 2)).toNat / 512 else (w (j / 2)).toNat % 512

@[simp] theorem nonetsOf_zero (w : Nat → Word) (a : Nat) : nonetsOf w a 0 = 0 := rfl

theorem nonetsOf_succ (w : Nat → Word) (a n : Nat) : nonetsOf w a (n + 1) = nonetsOf w a n * 512 + nonet w (a + n) := by
  simp only [nonetsOf, List.range_succ, List.foldl_append, List.foldl_cons, List.foldl_nil, nonet]

theorem nonet_lt (w : Nat → Word) (j : Nat) : nonet w j < 512 := by
  have := (w (j / 2)).isLt
  unfold nonet
  split <;> omega

/-- The value of `n` nonets takes 9 bits for each. -/
theorem nonetsOf_lt (w : Nat → Word) (a n : Nat) : nonetsOf w a n < 512 ^ n := by
  induction n with
  | zero => simp
  | succ n ih =>
    have := nonet_lt w (a + n)
    rw [nonetsOf_succ, pow_succ]
    omega

/-- The value of nonets is that of the words that they stand in. -/
theorem nonetsOf_congr {w w' : Nat → Word} {a n : Nat} (h : ∀ k, a / 2 ≤ k → k ≤ (a + n - 1) / 2 → w k = w' k) :
    nonetsOf w a n = nonetsOf w' a n := by
  induction n with
  | zero => rfl
  | succ n ih =>
    have hlast : w ((a + n) / 2) = w' ((a + n) / 2) := h _ (by omega) (by omega)
    rw [nonetsOf_succ, nonetsOf_succ, ih fun k h1 h2 => h k h1 (by omega), nonet, nonet, hlast]

/-- Addresses may be counted from any word. -/
theorem nonetsOf_shift (w : Nat → Word) (b a n : Nat) : nonetsOf (fun k => w (b + k)) a n = nonetsOf w (2 * b + a) n := by
  induction n with
  | zero => rfl
  | succ n ih =>
    have h1 : (2 * b + a + n) / 2 = b + (a + n) / 2 := by omega
    have h2 : (2 * b + a + n) % 2 = (a + n) % 2 := by omega
    rw [nonetsOf_succ, nonetsOf_succ, ih, nonet, nonet, h1, h2]

/-- R234: the words of an access counted from its block. -/
theorem nonetsOf_block (w : Nat → Word) (a n : Nat) : nonetsOf w a n = nonetsOf (fun k => w (a / 32 * 16 + k)) (a % 32) n := by
  rw [nonetsOf_shift, show 2 * (a / 32 * 16) + a % 32 = a by omega]

/-! ### The words of a value -/

/-- The value of the first `m` of the words `f`. -/
theorem gather_succ (f : Nat → Word) (m : Nat) :
    gather ((List.range (m + 1)).map f) = gather ((List.range m).map f) * 2 ^ 18 + (f m).toNat := by
  simp only [gather, List.range_succ, List.map_append, List.foldl_append, List.map_cons, List.map_nil, List.foldl_cons, List.foldl_nil]

theorem gather_lt (f : Nat → Word) (m : Nat) : gather ((List.range m).map f) < 2 ^ (18 * m) := by
  induction m with
  | zero => simp [gather]
  | succ m ih =>
    have := (f m).isLt
    rw [gather_succ, Nat.mul_succ, pow_add]
    omega

/-- The value of words fits into their bits. -/
theorem gather_toNat (f : Nat → Word) (m : Nat) :
    (BitVec.ofNat (18 * m) (gather ((List.range m).map f))).toNat = gather ((List.range m).map f) := by
  rw [BitVec.toNat_ofNat, Nat.mod_eq_of_lt (gather_lt f m)]

/-- Word `i` of the value of `m` words. -/
theorem gather_word (f : Nat → Word) {m i : Nat} (hi : i < m) :
    gather ((List.range m).map f) / 2 ^ (18 * (m - 1 - i)) % 2 ^ 18 = (f i).toNat := by
  induction m with
  | zero => omega
  | succ m ih =>
    have hm := (f m).isLt
    rw [gather_succ]
    rcases Nat.lt_or_ge i m with h | h
    · have he : 18 * (m + 1 - 1 - i) = 18 + 18 * (m - 1 - i) := by omega
      have hdiv : (gather ((List.range m).map f) * 2 ^ 18 + (f m).toNat) / 2 ^ 18 = gather ((List.range m).map f) := by omega
      rw [he, pow_add, ← Nat.div_div_eq_div_mul, hdiv, ih h]
    · obtain rfl : i = m := by omega
      rw [show i + 1 - 1 - i = 0 by omega, Nat.mul_zero, pow_zero, Nat.div_one]
      omega

/-- Nonet `j` of the value of `m` words. -/
theorem gather_nonet (f : Nat → Word) {m j : Nat} (hj : j < 2 * m) :
    gather ((List.range m).map f) / 512 ^ (2 * m - 1 - j) % 512 = nonet f j := by
  have hw := gather_word f (m := m) (i := j / 2) (by omega)
  have hpow : ∀ e, (512 : Nat) ^ e = 2 ^ (9 * e) := fun e => by rw [pow_mul]; norm_num
  unfold nonet
  split
  · next h =>
    have he : 9 * (2 * m - 1 - j) = 18 * (m - 1 - j / 2) + 9 := by omega
    rw [hpow, he, pow_add, ← Nat.div_div_eq_div_mul, ← hw]
    omega
  · next h =>
    have he : 9 * (2 * m - 1 - j) = 18 * (m - 1 - j / 2) := by omega
    rw [hpow, he, ← hw]
    omega

theorem cutNonets_succ {v N off n : Nat} (h : off + n < N) :
    cutNonets v N off (n + 1) = cutNonets v N off n * 512 + v / 512 ^ (N - 1 - (off + n)) % 512 := by
  have hpow : (512 : Nat) ^ (N - 1 - (off + n)) = 2 ^ (9 * (N - off - (n + 1))) := by
    rw [show N - 1 - (off + n) = N - off - (n + 1) by omega, pow_mul]; norm_num
  have he : 9 * (N - off - n) = 9 * (N - off - (n + 1)) + 9 := by omega
  rw [cutNonets, cutNonets, hpow, he, pow_add, ← Nat.div_div_eq_div_mul, Nat.mul_succ, Nat.add_comm (9 * n) 9, pow_add, Nat.mod_mul]
  omega

/-- R7, R200: an access takes the nonets of the words that it touches. -/
theorem cutNonets_gather (f : Nat → Word) {m off n : Nat} (h : off + n ≤ 2 * m) :
    cutNonets (gather ((List.range m).map f)) (2 * m) off n = nonetsOf f off n := by
  induction n with
  | zero => simp [cutNonets, Nat.mod_one]
  | succ n ih => rw [cutNonets_succ (by omega), gather_nonet f (by omega), ih (by omega), nonetsOf_succ]

/-- R200: the value of an access of `n` nonets at `a`, by the words of memory. -/
theorem ofWords_eq (w : Nat → Word) (a : Nat) {n : Nat} (hn : 0 < n) :
    ofWords a n ((List.range (wordSpan a n)).map fun i => w (a / 2 + i)) = nonetsOf w a n := by
  have hspan : a % 2 + n ≤ 2 * wordSpan a n := by unfold wordSpan; omega
  rw [ofWords, List.length_map, List.length_range, cutNonets_gather _ hspan, nonetsOf_shift, Nat.div_add_mod]

/-! ### Blocks of 16 words -/

/-- The block of the words `f`. -/
def blockOf (f : Nat → Word) : BitVec 288 := BitVec.ofNat 288 (gather ((List.range 16).map f))

theorem blockOf_toNat (f : Nat → Word) : (blockOf f).toNat = gather ((List.range 16).map f) :=
  gather_toNat f 16

theorem blockWord_toNat (v : BitVec 288) (i : Nat) : (blockWord v i).toNat = v.toNat / 2 ^ (270 - 18 * i) % 2 ^ 18 := by
  rw [blockWord, BitVec.extractLsb'_toNat, Nat.shiftRight_eq_div_pow]

/-- A block holds the words that it was made of. -/
theorem blockWord_blockOf (f : Nat → Word) {i : Nat} (hi : i < 16) : blockWord (blockOf f) i = f i := by
  apply BitVec.eq_of_toNat_eq
  rw [blockWord_toNat, blockOf_toNat, ← gather_word f hi, show 270 - 18 * i = 18 * (16 - 1 - i) by omega]

/-- A block is the value of its words. -/
theorem gather_blockWord (v : BitVec 288) {m : Nat} (hm : m ≤ 16) : gather ((List.range m).map (blockWord v)) = v.toNat / 2 ^ (288 - 18 * m) := by
  induction m with
  | zero =>
    have := v.isLt
    rw [Nat.mul_zero, Nat.sub_zero, Nat.div_eq_of_lt this]; rfl
  | succ m ih =>
    have he : 288 - 18 * m = 270 - 18 * m + 18 := by omega
    rw [gather_succ, ih (by omega), blockWord_toNat, he, pow_add, ← Nat.div_div_eq_div_mul, show 288 - 18 * (m + 1) = 270 - 18 * m by omega]
    omega

/-- Two runs of words joined. -/
theorem gather_append (f : Nat → Word) (m k : Nat) : gather ((List.range (m + k)).map f) =
    gather ((List.range m).map f) * 2 ^ (18 * k) + gather ((List.range k).map fun i => f (m + i)) := by
  induction k with
  | zero => simp [gather]
  | succ k ih => rw [← Nat.add_assoc, gather_succ, ih, gather_succ, Nat.mul_succ, pow_add]; ring

/-- R7, R234: an access inside a block takes its nonets from the block's words. -/
theorem cutNonets_block (v : BitVec 288) {a n : Nat} (hn : 0 < n) (h : (a + n - 1) / 32 = a / 32) :
    cutNonets v.toNat 32 (a % 32) n = nonetsOf (fun k => blockWord v (k % 16)) a n := by
  have hv := gather_blockWord v (m := 16) (le_refl 16)
  simp only [Nat.reduceMul, Nat.sub_self, pow_zero, Nat.div_one] at hv
  have hcut := cutNonets_gather (blockWord v) (m := 16) (off := a % 32) (n := n) (by omega)
  rw [← hv, hcut, nonetsOf_block _ a]
  refine nonetsOf_congr fun k h1 h2 => ?_
  have hk : (a / 32 * 16 + k) % 16 = k := by omega
  rw [hk]

/-- The words of two blocks, one after the other. -/
def twoBlocks (v w : BitVec 288) (i : Nat) : Word := if i < 16 then blockWord v i else blockWord w (i - 16)

/-- R7, R234: an access that crosses into the next block takes its nonets from both. -/
theorem cutNonets_blocks (v w : BitVec 288) {a n : Nat} (hn : n ≤ 32) :
    cutNonets (v.toNat * 2 ^ 288 + w.toNat) 64 (a % 32) n = nonetsOf (fun k => twoBlocks v w (k - a / 32 * 16)) a n := by
  have hv := gather_blockWord v (m := 16) (le_refl 16)
  have hw := gather_blockWord w (m := 16) (le_refl 16)
  simp only [Nat.reduceMul, Nat.sub_self, pow_zero, Nat.div_one] at hv hw
  have h1 : (List.range 16).map (twoBlocks v w) = (List.range 16).map (blockWord v) :=
    List.map_congr_left fun i hi => if_pos (List.mem_range.1 hi)
  have h2 : (List.range 16).map (fun i => twoBlocks v w (16 + i)) = (List.range 16).map (blockWord w) :=
    List.map_congr_left fun i _ => by rw [twoBlocks, if_neg (by omega), Nat.add_sub_cancel_left]
  have hcat := gather_append (twoBlocks v w) 16 16
  rw [h1, h2, hv, hw] at hcat
  have hcut := cutNonets_gather (twoBlocks v w) (m := 32) (off := a % 32) (n := n) (by omega)
  rw [← hcat, hcut, nonetsOf_block _ a]
  exact nonetsOf_congr fun k _ _ => by rw [Nat.add_sub_cancel_left]

end Sys2Proof.Machine
end

section
/-! PROOFS. Loads of the P18 outside SRAM, by region (R9, R199, R229 to R235, R301, R307, R315, R316). -/

namespace Sys2Proof.Machine

/-! ### How a load ends (R197 to R199, R220) -/

/-- A row of the table of loads: the command, its size, its encoding, and what it makes of the core's registers. -/
abbrev LoadRow := (Nat → Fin 16 → Bool → Fields → Instr) × Nat × (Fields → Prop) × (CoreS → Fields → Nat → Bool → CoreS)

/-- The state after a load by core `c`, with the registers `h` before it, that had the outcome `p` at its address `ea`. -/
def loadEnd (e : LoadRow) (c : Nat) (x : Fields) (h : CoreS) (ea : Int) (p : (LoadRes × CoreS) × State) : State :=
  match p with
  | ((.val v tag, h1), u) => u.setCore c ((CoreRes.done (e.2.2.2 h1 x v tag)).end h).ranOn
  | ((.trap cause, _), u) => u.setCore c ((CoreRes.trap cause ea).end h).ranOn
  | ((.wait, h1), u) => (u.setCore c h1).setCore c ((u.setCore c h1).coreOf c).stallOn

/-- A load of one nonet brings a value of one. -/
def LoadRes.Fits (n : Nat) : LoadRes → Prop
  | .val v _ => n = 1 → v < 512
  | _ => True

/-- R220: the sign extension of a nonet. -/
theorem signExtend_nonet {v : Nat} (hv : v < 512) :
    (BitVec.ofNat 9 v).signExtend 18 = BitVec.ofInt 18 (if v < 256 then (v : Int) else v - 512) := by
  have hcode : (BitVec.ofNat 9 v).toInt = if v < 256 then (v : Int) else v - 512 := by
    have hmod : v % 2 ^ 9 = v := Nat.mod_eq_of_lt hv
    rw [BitVec.toInt_eq_toNat_cond, BitVec.toNat_ofNat, hmod]
    by_cases h : v < 256
    · rw [if_pos h, if_pos (by omega)]
    · rw [if_neg h, if_neg (by omega)]; rfl
  rw [BitVec.signExtend, hcode]

/-- R197 to R199, R220: a load of a right encoding acts by its row of the table. -/
theorem exec_load {e : LoadRow} (he : e ∈ loadTable) {x : Fields} (hx : e.2.2.1 x) : ∃ fin : CoreS → Nat → Bool → CoreS,
    (∀ t c mx s, exec (e.1 t c mx x) s = loadIns t c mx x e.2.1 true fin s) ∧
    ∀ h v tag, (e.2.1 = 1 → v < 512) → fin h v tag = e.2.2.2 h x v tag := by
  simp only [loadTable, List.mem_cons, List.not_mem_nil, or_false] at he
  rcases he with rfl | rfl | rfl | rfl | rfl
  case inl => exact ⟨_, fun _ _ _ _ => rfl, fun _ _ _ _ => rfl⟩
  case inr.inl => exact ⟨_, fun _ _ _ _ => rfl, fun h v tag hv => congrArg (h.wr x.f27) (signExtend_nonet (hv rfl))⟩
  case inr.inr.inl => exact ⟨_, fun _ _ _ _ => rfl, fun _ _ _ _ => rfl⟩
  case inr.inr.inr.inl =>
    have henc : (x.f27 % 2 == 0) = true := beq_iff_eq.2 hx
    exact ⟨_, fun t c mx s => by rw [← henc]; rfl, fun _ _ _ _ => rfl⟩
  case inr.inr.inr.inr =>
    have henc : decide (x.f27 < 8) = true := decide_eq_true hx
    exact ⟨_, fun t c mx s => by rw [← henc]; rfl, fun _ _ _ _ => rfl⟩

/-- A write of a word register leaves the pending product and the data cache alone. -/
theorem CoreS.wr_keeps (h : CoreS) (r : Nat) (v : Word) : (h.wr r v).mul = h.mul ∧ (h.wr r v).dc = h.dc := by
  unfold CoreS.wr
  split <;> exact ⟨rfl, rfl⟩

/-- What a load makes of its core's registers leaves the pending product and the data cache alone. -/
theorem loadRow_keeps {e : LoadRow} (he : e ∈ loadTable) (h : CoreS) (x : Fields) (v : Nat) (tag : Bool) :
    (e.2.2.2 h x v tag).mul = h.mul ∧ (e.2.2.2 h x v tag).dc = h.dc := by
  simp only [loadTable, List.mem_cons, List.not_mem_nil, or_false] at he
  rcases he with rfl | rfl | rfl | rfl | rfl
  case inr.inr.inr.inl => exact ⟨((h.wr _ _).wr_keeps _ _).1.trans (h.wr_keeps _ _).1, ((h.wr _ _).wr_keeps _ _).2.trans (h.wr_keeps _ _).2⟩
  case inr.inr.inr.inr => exact ⟨rfl, rfl⟩
  all_goals exact h.wr_keeps _ _

variable {t : Nat} {c : Fin 16} {s : State} {e : LoadRow} {mx : Bool} {x : Fields}

/-- R197 to R199: a load that meets its checks has the outcome that memory gives it. -/
theorem exec_load_ready (he : e ∈ loadTable) (hr : CoreReady t s c) (hmx : mx = true → x.b20 = 0) (hx : e.2.2.1 x)
    (hcap : capCheck ((atIssue t c s).cap x.kc) [permLD] ((atIssue t c s).ea mx x) e.2.1 = none)
    (hok : accessOk ((atIssue t c s).ea mx x).toNat e.2.1 false = true) {p : (LoadRes × CoreS) × State}
    (hp : memLoad (issued t c s) c (atIssue t c s) ((atIssue t c s).ea mx x).toNat e.2.1 = p) (hfit : p.1.1.Fits e.2.1) :
    exec (e.1 t c mx x) s = .next (loadEnd e c x (atIssue t c s) ((atIssue t c s).ea mx x) p) := by
  obtain ⟨fin, hexec, hfin⟩ := exec_load he hx
  have hlegal : mxLegal mx x = true := by cases mx <;> simp_all [mxLegal]
  rw [hexec, loadIns, coreRun_ready _ hr]
  obtain ⟨⟨res, h1⟩, u⟩ := p
  simp only [hlegal, hcap, hok, hp, Bool.and_self, Bool.not_true, Bool.false_eq_true, if_false, ok]
  cases res with
  | val v tag => simp only [loadEnd, hfin h1 v tag hfit]
  | trap cause => rfl
  | wait => rfl

variable {h h1 : CoreS} {ea : Int} {v cause : Nat} {tag : Bool} {u : State}

/-- The registers of a core whose load ends with a value. -/
theorem settled_loadEnd (he : e ∈ loadTable) (hm : h1.mul = h.mul) :
    Settled none (e.2.2.2 h1 x v tag).advance ((loadEnd e c x h ea ((.val v tag, h1), u)).coreOf c) := by
  rw [loadEnd, setCore_same]
  exact settled_end _ _ none ((loadRow_keeps he h1 x v tag).1.trans hm)

/-- The data cache of a core whose load ends with a value. -/
theorem dc_loadEnd (he : e ∈ loadTable) (hm : h1.mul = h.mul) :
    ((loadEnd e c x h ea ((.val v tag, h1), u)).coreOf c).dc = h1.dc := by
  obtain ⟨hframe, -⟩ := settled_loadEnd (x := x) (v := v) (tag := tag) (ea := ea) (u := u) (c := c) he hm
  rw [hframe]
  exact (congrArg CoreS.dc (loopRule_frame _ _ _)).trans (loadRow_keeps he h1 x v tag).2

/-- A load that ends with a value and leaves the device as its fetch left it completes. -/
theorem completes_loadEnd {i : Instr} (he : e ∈ loadTable) (hm : h1.mul = h.mul)
    (hi : exec i s = .next (loadEnd e c x h ea ((.val v tag, h1), issued t c s))) : Completes i t c s (e.2.2.2 h1 x v tag) :=
  ⟨_, hi, onlyIssuer_setCore t c s _, settled_loadEnd he hm⟩

/-- A load that has to wait. -/
theorem stalls_loadEnd {i : Instr} (hi : exec i s = .next (loadEnd e c x h ea ((.wait, h1), issued t c s))) : Stalls i t c s h1 := by
  refine ⟨_, hi, ⟨rfl, fun d hd => ?_⟩, ?_⟩
  · rw [loadEnd, setCore_ne _ c d _ hd, setCore_ne _ c d _ hd, issued_others t c s d hd]
  · rw [loadEnd, setCore_same, setCore_same]; rfl

/-- A load that meets an error. -/
theorem traps_loadEnd {i : Instr} (hi : exec i s = .next (loadEnd e c x (atIssue t c s) ea ((.trap cause, h1), issued t c s))) :
    Traps i t c s cause ea :=
  ⟨_, hi, onlyIssuer_setCore t c s _, setCore_same ..⟩

end Sys2Proof.Machine
end

section
/-! PROOFS. Blocks of flash, of the rootstock ROM and of the one-time row, and the data cache (R234, R235, R301, R307, R315, R316). -/

namespace Sys2Proof.Machine

/-! ### Sparse storage -/

/-- An entry that leaves a storage in canonical form takes its key with it, and no other. -/
theorem Store.get_eraseIdx {α : Type} [DecidableEq α] {d : Nat → α} {m : Store α} (hm : Store.wf d m = true) (x k : Nat) :
    Store.get d (m.eraseIdx x) k = Store.get d m k ∨ Store.get d (m.eraseIdx x) k = d k := by
  have main : ∀ b, Store.wfFrom d b m = true → ∀ x, Store.get d (m.eraseIdx x) k = Store.get d m k ∨ Store.get d (m.eraseIdx x) k = d k := by
    clear hm
    induction m with
    | nil => exact fun _ _ _ => .inl rfl
    | cons p m ih =>
      intro b hb x
      simp only [Store.wfFrom, Bool.and_eq_true, decide_eq_true_eq] at hb
      by_cases hp : p.1 = k
      · cases x with
        | zero =>
          refine .inr (Store.get_eq_default fun q hq => ?_)
          have := Store.le_of_wfFrom hb.2 q hq
          omega
        | succ x => exact .inl (by simp [Store.get, hp])
      · cases x with
        | zero => exact .inl (by simp [Store.get, hp])
        | succ x => simpa [Store.get, hp] using ih _ hb.2 x
  exact main 0 hm x

/-- A storage that lists the keys `l`, each with its value, reads their values. -/
theorem Store.get_map_mem {α : Type} {d : Nat → α} (g : Nat → α) {l : List Nat} {k : Nat} (h : k ∈ l) :
    Store.get d (l.map fun i => (i, g i)) k = g k := by
  induction l with
  | nil => cases h
  | cons i l ih =>
    by_cases hi : i = k
    · simp [Store.get, hi]
    · have hk : k ∈ l := by simpa [Ne.symm hi] using h
      simp [Store.get, hi, ih hk]

/-- A fold whose steps only add to a record of what they took ends with the record of the whole list. -/
theorem foldl_trace {α β : Type} (f : β → α → β) (g : List α → β) (l : List α) (h : ∀ x ∈ l, ∀ acc, f (g acc) x = g (acc ++ [x]))
    (acc : List α) : l.foldl f (g acc) = g (acc ++ l) := by
  induction l generalizing acc with
  | nil => rw [List.append_nil]; rfl
  | cons x l ih => rw [List.foldl_cons, h x (.head _), ih fun y hy => h y (.tail _ hy), List.append_assoc]; rfl

/-! ### Lines of flash (R301, R307) -/

variable {u : State} {h : CoreS}

/-- R301: lines without an error, of an idle bank outside the margin levels, are read as they stand, and nothing changes. -/
theorem flashLines_good {b : Nat} (hrun : (u.flOf b).run = none) (hlvl : u.get F.FL_BSTAT_mlvl b = 0) {ls : List Nat}
    (hls : ∀ l ∈ ls, l / bankLines = b ∧ LineGood u l) : flashLines u b ls = ((ls.map fun l => (l, (u.flashOf l).d), []), u) := by
  have read : ∀ l ∈ ls, flashRead u l = (some (u.flashOf l).d, u) := by
    intro l hl
    obtain ⟨hb, hcomp, hundef, hecc⟩ := hls l hl
    simp [flashRead, flashLine, hb, hrun, hcomp, hundef, hecc]
  refine foldl_trace _ (fun acc => ((acc.map fun l => (l, (u.flashOf l).d), []), u)) ls (fun l hl acc => ?_) []
  simp [hlvl, read l hl]

/-! ### Blocks (R234, R235) -/

/-- Block `k` of memory can be read where no cache has it: of the ROM or the one-time row, or of an idle bank of flash with good lines. -/
def BlockReadable (u : State) (k : Nat) : Prop :=
  regionOf (32 * k) = .rom ∨ regionOf (32 * k) = .otp ∨ (regionOf (32 * k) = .flash ∧ (u.flOf (flBankAt (32 * k))).run = none ∧
    u.get F.FL_BSTAT_mlvl (flBankAt (32 * k)) = 0 ∧ ∀ l, 4 * k ≤ l → l < 4 * k + 4 → LineGood u l)

/-- The regions that the data cache serves consist of whole blocks. -/
theorem regionOf_block {k j : Nat} {r : Region} (hr : r = .flash ∨ r = .rom ∨ r = .otp) (h : regionOf (32 * k) = r) (hj : j < 32) :
    regionOf (32 * k + j) = r := by
  rw [regionOf_eq_iff] at h ⊢
  rcases hr with rfl | rfl | rfl <;> simp only [Region.Spans] at h ⊢ <;> omega

/-- R234: outside SLACK a block that was read from memory enters the data cache. -/
def blockKept (u : State) (h : CoreS) (k : Nat) (v : BitVec 288) : CoreS × State := if slack u then (h, u) else dcFill u h k v

/-- R234: what a block that enters the data cache leaves: itself, and no block that was not there. -/
theorem dcFill_spec (u : State) (h : CoreS) (k : Nat) (v : BitVec 288) : ∃ dc f, dcFill u h k v = ({ h with dc := dc }, { u with free := f }) ∧
    Store.get (fun _ => none) dc k = some v ∧ (Store.wf (fun _ => none) h.dc = true →
      ∀ j, j ≠ k → Store.get (fun _ => none) h.dc j = none → Store.get (fun _ => none) dc j = none) := by
  refine ⟨_, _, rfl, Store.get_set_same .., fun hwf j hj hnone => ?_⟩
  rw [Store.get_set_ne _ _ _ hj]
  rcases Store.get_eraseIdx hwf _ j with e | e
  · rw [e, hnone]
  · exact e

/-- R234: a block that the data cache has comes from it. -/
theorem blockRead_hit {k lo hi : Nat} {v : BitVec 288} (hs : slack u = false)
    (hlvl : regionOf (32 * k) = .flash → u.get F.FL_BSTAT_mlvl (flBankAt (32 * k)) = 0)
    (hv : Store.get (fun _ => none) h.dc k = some v) : blockRead u h k lo hi = (((v, false), h), u) := by
  by_cases hf : regionOf (32 * k) = .flash
  · simp [blockRead, hs, hf, hlvl hf, hv]
  · simp [blockRead, hs, hf, hv]

/-- Word `i` of block `k` of the ROM or of the one-time row, as a load reads it. -/
def rowWord (u : State) (k i : Nat) : Word :=
  if regionOf (32 * k) = .rom then Config.romWord ((32 * k - 0o060000000) / 2 + i) else otpLoad u ((32 * k - 0o061000000) / 2 + i)

theorem rowWord_eq {k i : Nat} (hi : i < 16) (hk : regionOf (32 * k) = .rom ∨ regionOf (32 * k) = .otp) :
    rowWord u k i = wordAt u (16 * k + i) := by
  have hword : regionOf (2 * (16 * k + i)) = regionOf (32 * k) := by
    rw [show 2 * (16 * k + i) = 32 * k + 2 * i by omega]
    exact regionOf_block (hk.elim (fun h => .inr (.inl h)) (fun h => .inr (.inr h))) rfl (by omega)
  have hspan := spans_regionOf (32 * k)
  rcases hk with hk | hk
  · rw [hk] at hspan hword
    simp only [Region.Spans] at hspan
    have hix : (32 * k - 0o060000000) / 2 + i = 16 * k + i - 0o030000000 := by omega
    rw [rowWord, if_pos hk, hix, wordAt, hword]
  · rw [hk] at hspan hword
    simp only [Region.Spans] at hspan
    have hix : (32 * k - 0o061000000) / 2 + i = 16 * k + i - 0o030400000 := by omega
    rw [rowWord, if_neg (by rw [hk]; decide), hix, wordAt, hword, otpLoad]

/-- R234, R315, R316: a block of the ROM or of the one-time row that the data cache has not, or that SLACK takes from it. -/
theorem blockRead_row {k lo hi : Nat} (hf : regionOf (32 * k) ≠ .flash)
    (hnone : slack u = true ∨ Store.get (fun _ => none) h.dc k = none) : blockRead u h k lo hi =
      (((blockOf (rowWord u k), false), (blockKept u h k (blockOf (rowWord u k))).1), (blockKept u h k (blockOf (rowWord u k))).2) := by
  have hrow : blockOf (rowWord u k) = BitVec.ofNat 288 (gather ((List.range 16).map fun i =>
    if regionOf (32 * k) = .rom then Config.romWord ((32 * k - 0o060000000) / 2 + i) else otpLoad u ((32 * k - 0o061000000) / 2 + i))) := rfl
  rcases hs : slack u
  · have hd := hnone.resolve_left (by simp [hs])
    simp [blockRead, hf, hs, hd, blockKept, hrow]
  · simp [blockRead, hf, hs, blockKept, hrow]

/-- The lines of block `k` that a read of lines `lo` to `hi` takes: all of them outside SLACK, for the cache. -/
def blockLines (u : State) (k lo hi : Nat) : List Nat :=
  ((List.range 4).map (fun i => 4 * k + i)).filter (fun l => !slack u || (decide (lo ≤ l) && decide (l ≤ hi)))

theorem mem_blockLines {k lo hi l : Nat} :
    l ∈ blockLines u k lo hi ↔ (4 * k ≤ l ∧ l < 4 * k + 4) ∧ (slack u = true → lo ≤ l ∧ l ≤ hi) := by
  simp only [blockLines, List.mem_filter, List.mem_map, List.mem_range]
  refine and_congr ⟨?_, fun h => ⟨l - 4 * k, by omega, by omega⟩⟩ ?_
  · rintro ⟨i, hi, rfl⟩; omega
  · cases slack u <;> simp

/-- Word `i` of block `k` of flash, from the lines `ds` that were read. -/
def readLineWord (ds : Store (BitVec 72)) (k i : Nat) : Word := (Store.get (fun _ => 0) ds (4 * k + i / 4)).extractLsb' (54 - 18 * (i % 4)) 18

/-- R234, R301: a block of an idle bank of flash that the data cache has not, or that SLACK takes from it. -/
theorem blockRead_flash {k lo hi : Nat} (hf : regionOf (32 * k) = .flash) (hrun : (u.flOf (flBankAt (32 * k))).run = none)
    (hlvl : u.get F.FL_BSTAT_mlvl (flBankAt (32 * k)) = 0) (hgood : ∀ l, 4 * k ≤ l → l < 4 * k + 4 → LineGood u l)
    (hnone : slack u = true ∨ Store.get (fun _ => none) h.dc k = none) :
    let v := blockOf (readLineWord ((blockLines u k lo hi).map fun l => (l, (u.flashOf l).d)) k)
    blockRead u h k lo hi = (((v, false), (blockKept u h k v).1), (blockKept u h k v).2) := by
  have hbank : ∀ l, 4 * k ≤ l → l < 4 * k + 4 → l / bankLines = flBankAt (32 * k) := by
    intro l h1 h2
    simp only [bankLines, flBankAt]
    omega
  have hread := flashLines_good hrun hlvl (ls := blockLines u k lo hi) fun l hl =>
    have hl := (mem_blockLines.1 hl).1
    ⟨hbank l hl.1 hl.2, hgood l hl.1 hl.2⟩
  intro v
  have hwords : v = BitVec.ofNat 288 (gather ((List.range 16).map fun i => (Store.get (fun _ => 0)
    ((blockLines u k lo hi).map fun l => (l, (u.flashOf l).d)) (4 * k + i / 4)).extractLsb' (54 - 18 * (i % 4)) 18)) := rfl
  rcases hs : slack u
  · have hd := hnone.resolve_left (by simp [hs])
    have hls : blockLines u k lo hi = (List.range 4).map (fun i => 4 * k + i) := by simp [blockLines, hs]
    rw [hls] at hread hwords
    simp [blockRead, hf, hs, hd, hlvl, hrun, hread, blockKept, hwords]
  · have hls : blockLines u k lo hi = ((List.range 4).map (fun i => 4 * k + i)).filter (fun l => decide (lo ≤ l) && decide (l ≤ hi)) := by
      simp [blockLines, hs]
    rw [hls] at hread hwords
    simp [blockRead, hf, hs, hread, blockKept, hwords]

/-- R234, R301, R315, R316: a block that the data cache has not, or that SLACK takes from it, comes from memory: in SLACK its touched lines
alone are read. -/
theorem blockRead_miss {k lo hi : Nat} (hmem : BlockReadable u k)
    (hnone : slack u = true ∨ Store.get (fun _ => none) h.dc k = none) : ∃ v, blockRead u h k lo hi =
      (((v, false), (blockKept u h k v).1), (blockKept u h k v).2) ∧
      ∀ i < 16, (slack u = true → lo ≤ 4 * k + i / 4 ∧ 4 * k + i / 4 ≤ hi) → blockWord v i = wordAt u (16 * k + i) := by
  rcases or_assoc.2 hmem with hk | ⟨hf, hrun, hlvl, hgood⟩
  · refine ⟨_, blockRead_row (by rcases hk with hk | hk <;> rw [hk] <;> decide) hnone, fun i hi _ => ?_⟩
    rw [blockWord_blockOf _ hi, rowWord_eq hi hk]
  · refine ⟨_, blockRead_flash hf hrun hlvl hgood hnone, fun i h16 ht => ?_⟩
    have hmem : 4 * k + i / 4 ∈ blockLines u k lo hi := mem_blockLines.2 ⟨by omega, ht⟩
    have hword : regionOf (2 * (16 * k + i)) = .flash := by
      rw [show 2 * (16 * k + i) = 32 * k + 2 * i by omega]
      exact regionOf_block (.inl rfl) hf (by omega)
    have h1 : (16 * k + i) / 4 = 4 * k + i / 4 := by omega
    have h2 : (16 * k + i) % 4 = i % 4 := by omega
    rw [blockWord_blockOf _ h16, readLineWord, Store.get_map_mem _ hmem, wordAt, hword]
    simp only [h1, h2]

/-! ### Loads from blocks (R234, R301) -/

/-- What a load of memory's own words leaves: the registers with the data cache, which outside SLACK has the block of the last nonet. -/
def BlockLoaded (u : State) (h : CoreS) (a n : Nat) (dc : Store (Option (BitVec 288))) : Prop :=
  (slack u = true → dc = h.dc) ∧ (slack u = false →
    ∃ v, Store.get (fun _ => none) dc ((a + n - 1) / 32) = some v ∧ ∀ i < 16, blockWord v i = wordAt u ((a + n - 1) / 32 * 16 + i))

/-- A block that was read is kept outside SLACK, and there it takes the place of none that was not there. -/
theorem blockKept_spec (u : State) (h : CoreS) (k : Nat) (v : BitVec 288) : ∃ dc f, blockKept u h k v = ({ h with dc := dc }, { u with free := f }) ∧
    (slack u = true → dc = h.dc) ∧ (slack u = false → Store.get (fun _ => none) dc k = some v ∧ (Store.wf (fun _ => none) h.dc = true →
      ∀ j, j ≠ k → Store.get (fun _ => none) h.dc j = none → Store.get (fun _ => none) dc j = none)) := by
  rcases hs : slack u
  · obtain ⟨dc, f, he, hin, hkeep⟩ := dcFill_spec u h k v
    exact ⟨dc, f, by simp [blockKept, hs, he], by simp, fun _ => ⟨hin, hkeep⟩⟩
  · exact ⟨h.dc, u.free, by simp [blockKept, hs], fun _ => rfl, by simp⟩

variable {a n : Nat}

/-- R234, R301, R315, R316: a load of blocks that can be read and that the data cache has not brings the value that stands in memory. -/
theorem blockLoad_miss (hn : 0 < n) (hn8 : n ≤ 8) (h1 : BlockReadable u (a / 32)) (h2 : BlockReadable u ((a + n - 1) / 32))
    (hwf : Store.wf (fun _ => none) h.dc = true) (hnone : slack u = true ∨
      (Store.get (fun _ => none) h.dc (a / 32) = none ∧ Store.get (fun _ => none) h.dc ((a + n - 1) / 32) = none)) :
    ∃ dc f, blockLoad u h a n = ((.val (nonetsOf (wordAt u) a n) false, { h with dc := dc }), { u with free := f }) ∧ BlockLoaded u h a n dc := by
  obtain ⟨v, hv, hvw⟩ := blockRead_miss (h := h) (lo := a / 8) (hi := (a + n - 1) / 8) h1 (hnone.imp_right And.left)
  obtain ⟨dc, f, hk, hslack, hin⟩ := blockKept_spec u h (a / 32) v
  rw [hk] at hv
  by_cases hz : (a + n - 1) / 32 = a / 32
  · have hval : cutNonets v.toNat 32 (a % 32) n = nonetsOf (wordAt u) a n := by
      rw [cutNonets_block v hn hz]
      refine nonetsOf_congr fun k hk1 hk2 => ?_
      have hw := hvw (k % 16) (by omega) (fun _ => by omega)
      rwa [show 16 * (a / 32) + k % 16 = k by omega] at hw
    refine ⟨dc, f, ?_, hslack, fun hs => ⟨v, ?_, ?_⟩⟩
    · simp only [blockLoad, hv, hz, if_true, hval, Bool.false_eq_true, if_false]
    · rw [hz]; exact (hin hs).1
    · intro i hi
      rw [hz, Nat.mul_comm]
      exact hvw i hi (by simp [hs])
  · have hnext : (a + n - 1) / 32 = a / 32 + 1 := by omega
    have hnone2 : slack u = true ∨ Store.get (fun _ => none) dc ((a + n - 1) / 32) = none := by
      rcases hs : slack u
      · have hd := hnone.resolve_left (by simp [hs])
        exact .inr ((hin hs).2 hwf _ hz hd.2)
      · exact .inl rfl
    obtain ⟨w, hw, hww⟩ := blockRead_miss (u := { u with free := f }) (h := { h with dc := dc }) (lo := a / 8) (hi := (a + n - 1) / 8) h2 hnone2
    obtain ⟨dc', f', hk', hslack', hin'⟩ := blockKept_spec { u with free := f } { h with dc := dc } ((a + n - 1) / 32) w
    rw [hk'] at hw
    have hval : cutNonets (v.toNat * 2 ^ 288 + w.toNat) 64 (a % 32) n = nonetsOf (wordAt u) a n := by
      rw [cutNonets_blocks v w (by omega)]
      refine nonetsOf_congr fun k hk1 hk2 => ?_
      unfold twoBlocks
      split
      · next hlt =>
        have hw1 := hvw (k - a / 32 * 16) hlt (fun _ => by omega)
        rwa [show 16 * (a / 32) + (k - a / 32 * 16) = k by omega] at hw1
      · next hge =>
        have hw2 := hww (k - a / 32 * 16 - 16) (by omega) (fun _ => by omega)
        rwa [show 16 * ((a + n - 1) / 32) + (k - a / 32 * 16 - 16) = k by omega] at hw2
    refine ⟨dc', f', ?_, fun hs => (hslack' hs).trans (hslack hs), fun hs => ⟨w, (hin' hs).1, fun i hi => ?_⟩⟩
    · simp only [blockLoad, hv, hz, if_false, hw, hval, Bool.or_self, Bool.false_eq_true]
    · rw [Nat.mul_comm]
      exact hww i hi (fun hs' => absurd (hs.symm.trans hs') (by decide))

/-- R234: a load inside a block that the data cache has takes its value from there. -/
theorem blockLoad_hit {v : BitVec 288} (hn : 0 < n) (hz : (a + n - 1) / 32 = a / 32) (hs : slack u = false)
    (hlvl : regionOf (32 * (a / 32)) = .flash → u.get F.FL_BSTAT_mlvl (flBankAt (32 * (a / 32))) = 0)
    (hv : Store.get (fun _ => none) h.dc (a / 32) = some v) :
    blockLoad u h a n = ((.val (nonetsOf (fun k => blockWord v (k % 16)) a n) false, h), u) := by
  simp only [blockLoad, blockRead_hit hs hlvl hv, hz, if_true, cutNonets_block v hn hz, Bool.false_eq_true, if_false]

end Sys2Proof.Machine
end

section
/-! PROOFS. Loads from a busy bank of flash and from a line with an uncorrectable error (R301, R307, R311). -/

namespace Sys2Proof.Machine

variable {u : State} {h : CoreS} {a n : Nat}

/-- A load inside one line touches that line of its block alone. -/
theorem touchedLine (a : Nat) :
    ((List.range 4).map (fun i => 4 * (a / 32) + i)).filter (fun l => decide (a / 8 ≤ l) && decide (l ≤ a / 8)) = [a / 8] := by
  have hj : a / 8 = 4 * (a / 32) + a / 8 % 4 := by omega
  have hlt : a / 8 % 4 < 4 := Nat.mod_lt _ (by decide)
  rw [hj]
  generalize a / 8 % 4 = j at hlt
  interval_cases j <;> simp [List.range_succ]

/-- R307: the status word that a busy bank gives in every word. -/
def statusWord (u : State) (b : Nat) : Word := if (u.flOf b).toggle then 0o200000#18 else 0

/-- R307: the bank after a read of its status: the next read finds bit 16 the other way. -/
def statusRead (u : State) (b : Nat) : State := u.setFl b { u.flOf b with toggle := !(u.flOf b).toggle }

/-- The words of a line of status words. -/
theorem statusLine_word (w : Word) {j : Nat} (hj : j < 4) : (w ++ w ++ w ++ w : BitVec 72).extractLsb' (54 - 18 * j) 18 = w := by
  refine BitVec.eq_of_getLsbD_eq fun i hi => ?_
  simp only [BitVec.getLsbD_extractLsb', BitVec.getLsbD_append, hi, decide_true, Bool.true_and]
  interval_cases j
  · simp [show ¬ 54 + i < 18 by omega, show ¬ 54 + i - 18 < 18 by omega, show ¬ 54 + i - 18 - 18 < 18 by omega, show 54 + i - 18 - 18 - 18 = i by omega]
  · simp [show ¬ 36 + i < 18 by omega, show ¬ 36 + i - 18 < 18 by omega, show 36 + i - 18 - 18 = i by omega, hi]
  · simp [show ¬ 18 + i < 18 by omega, hi]
  · simp [hi]

/-- R307: the lines of a busy bank that a load inside one line reads. -/
theorem flashLines_busy {b l : Nat} (hb : l / bankLines = b) (hrun : (u.flOf b).run.isSome = true) :
    flashLines u b [l] = (([(l, statusWord u b ++ statusWord u b ++ statusWord u b ++ statusWord u b)], []), statusRead u b) := by
  have hread : flashRead u l = (some (statusWord u b ++ statusWord u b ++ statusWord u b ++ statusWord u b), statusRead u b) := by
    simp only [flashRead, hb, hrun, if_true]; rfl
  simp only [flashLines, List.foldl_cons, List.foldl_nil, hrun, Bool.not_true, Bool.false_eq_true, and_false, if_false, hread,
    List.nil_append]

/-- R301: an uncorrectable line is not read. -/
theorem flashLines_bad {b l : Nat} (hb : l / bankLines = b) (hrun : (u.flOf b).run = none) (hlvl : u.get F.FL_BSTAT_mlvl b = 0)
    (hcomp : (u.flBlkOf (l / 1024)).ecomp = true) (hundef : (u.flashOf l).undef = false) (hecc : (u.flashOf l).ecc = .bad) :
    flashLines u b [l] = (([], [l]), u) := by
  have hread : flashRead u l = (none, u) := by simp [flashRead, flashLine, hb, hrun, hcomp, hundef, hecc]
  simp [flashLines, hlvl, hread]

theorem bankLines_of_line (a : Nat) : a / 8 / bankLines = flBankAt (32 * (a / 32)) := by
  simp only [bankLines, flBankAt]; omega

/-- R307: a load from one line of a busy bank gives its status word in every word. -/
theorem blockLoad_busy (hn : 0 < n) (hz : (a + n - 1) / 8 = a / 8) (hf : regionOf (32 * (a / 32)) = .flash)
    (hrun : (u.flOf (flBankAt (32 * (a / 32)))).run.isSome = true)
    (hnone : slack u = false → u.get F.FL_BSTAT_mlvl (flBankAt (32 * (a / 32))) = 0 → Store.get (fun _ => none) h.dc (a / 32) = none) :
    blockLoad u h a n = ((.val (nonetsOf (fun _ => statusWord u (flBankAt (32 * (a / 32)))) a n) false, h),
      statusRead u (flBankAt (32 * (a / 32)))) := by
  set b := flBankAt (32 * (a / 32)) with hb
  set l := statusWord u b ++ statusWord u b ++ statusWord u b ++ statusWord u b with hl
  have hz32 : (a + n - 1) / 32 = a / 32 := by omega
  have hlines : flashLines u b [a / 8] = (([(a / 8, l)], []), statusRead u b) := flashLines_busy (bankLines_of_line a) hrun
  have hmiss : (if !slack u && !(true && u.get F.FL_BSTAT_mlvl b != 0) then Store.get (fun _ => none) h.dc (a / 32) else none) = none := by
    split
    · next hon =>
      simp only [Bool.true_and, Bool.and_eq_true, Bool.not_eq_true', bne_eq_false_iff_eq] at hon
      exact hnone hon.1 hon.2
    · rfl
  have hread : blockRead u h (a / 32) (a / 8) (a / 8) = (((blockOf (readLineWord [(a / 8, l)] (a / 32)), false), h), statusRead u b) := by
    simp only [blockRead, hf, beq_self_eq_true, ← hb, hmiss, hrun, Bool.not_true, Bool.and_false, Bool.false_or, if_true, touchedLine, hlines,
      Bool.false_and, Bool.false_eq_true, if_false]
    rfl
  have hval : cutNonets (blockOf (readLineWord [(a / 8, l)] (a / 32))).toNat 32 (a % 32) n = nonetsOf (fun _ => statusWord u b) a n := by
    rw [cutNonets_block _ hn hz32]
    refine nonetsOf_congr fun k hk1 hk2 => ?_
    have hline : 4 * (a / 32) + k % 16 / 4 = a / 8 := by omega
    rw [blockWord_blockOf _ (by omega), readLineWord, hline, Store.get, if_pos rfl]
    exact statusLine_word _ (Nat.mod_lt _ (by decide))
  simp only [blockLoad, hz, hread, hz32, if_true, hval, Bool.false_eq_true, if_false]

/-- R301, R307: in SLACK a load from a line with an uncorrectable error traps. -/
theorem blockLoad_bad (hz : (a + n - 1) / 8 = a / 8) (hs : slack u = true) (hf : regionOf (32 * (a / 32)) = .flash)
    (hrun : (u.flOf (flBankAt (32 * (a / 32)))).run = none) (hlvl : u.get F.FL_BSTAT_mlvl (flBankAt (32 * (a / 32))) = 0)
    (hcomp : (u.flBlkOf (a / 8192)).ecomp = true) (hundef : (u.flashOf (a / 8)).undef = false) (hecc : (u.flashOf (a / 8)).ecc = .bad) :
    blockLoad u h a n = ((.trap 10, h), u) := by
  have hblk : a / 8 / 1024 = a / 8192 := by omega
  have hlines := flashLines_bad (bankLines_of_line a) hrun hlvl (hblk ▸ hcomp) hundef hecc
  have hz32 : (a + n - 1) / 32 = a / 32 := by omega
  simp [blockLoad, blockRead, hf, hs, hz, touchedLine, hlines, hz32]

end Sys2Proof.Machine
end

section
/-! PROOFS. The outcome of a load by region (R9, R199, R229, R230, R232), and the loads of O16. -/

namespace Sys2Proof.Machine

variable {u : State} {h : CoreS} {a n : Nat}

/-- R230: no store to the region is buffered. -/
theorem sbHolds_eq_false {sb : List SbEntry} {r : Region} : sbHolds sb r = false ↔ ∀ y ∈ sb, regionOf y.ea ≠ r := by
  simp [sbHolds]

theorem sbHolds_of_mem {sb : List SbEntry} {r : Region} (h : ∃ y ∈ sb, regionOf y.ea = r) : sbHolds sb r = true := by
  simpa [sbHolds] using h

/-- R229: with an empty store buffer a load takes its value from memory. -/
theorem forwarded_empty (hsb : h.sb = []) (m : LoadRes × State) : forwarded u h a n m = ((m.1, { h with drain := false }), m.2) := by
  simp [forwarded, hsb, sbYoungest]

/-- An access that R199 allows stays in one region. -/
theorem regionOf_last {st : Bool} (hok : accessOk a n st = true) : regionOf (a + n - 1) = regionOf a := by
  simp only [accessOk, Bool.and_eq_true, beq_iff_eq] at hok
  exact hok.1

/-- R199: an access of the berth store or of the state RAM stands at an even address, and every word that it touches lies there too. -/
theorem regionOf_word {st : Bool} {k : Nat} (hr : regionOf a = .bstore ∨ regionOf a = .bram) (hok : accessOk a n st = true)
    (h1 : a / 2 ≤ k) (h2 : k ≤ (a + n - 1) / 2) : regionOf (2 * k) = regionOf a := by
  have heven : a % 2 = 0 := by
    rcases hr with hr | hr <;> simp only [accessOk, hr, Bool.and_eq_true, beq_iff_eq] at hok <;> exact hok.2.2
  have hlo := spans_regionOf a
  have hhi := spans_regionOf (a + n - 1)
  rw [regionOf_last hok] at hhi
  rcases hr with hr | hr <;> rw [hr] at hlo hhi ⊢ <;> rw [regionOf_eq_iff] <;> simp only [Region.Spans] at hlo hhi ⊢ <;> omega

/-- R94: a word of the berth store, by its place in the address space. -/
theorem wordAt_bstore {k : Nat} (hk : regionOf (2 * k) = .bstore) : wordAt u k =
    if (k - 0o031000000) % 2 = 0 then (u.bstoreOf ((k - 0o031000000) / 2)).extractLsb' 18 18
    else (u.bstoreOf ((k - 0o031000000) / 2)).extractLsb' 0 18 := by
  simp only [wordAt, hk]
  split <;> rfl

/-- R98: a word of the state RAM, by its place in the address space. -/
theorem wordAt_bram {k : Nat} (hk : regionOf (2 * k) = .bram) : wordAt u k = wordOf (u.bramOf (k - 0o031400000)) := by
  simp only [wordAt, hk]; rfl

/-- The value of an access whose words are those of memory. -/
theorem ofWords_wordAt {f : Nat → Word} (hn : 0 < n) (hf : ∀ k, a / 2 ≤ k → k ≤ (a + n - 1) / 2 → f (k - a / 2) = wordAt u k) :
    ofWords a n ((List.range (wordSpan a n)).map f) = nonetsOf (wordAt u) a n := by
  rw [← ofWords_eq _ _ hn]
  congr 1
  refine List.map_congr_left fun i hi => ?_
  have hi := List.mem_range.1 hi
  unfold wordSpan at hi
  rw [← hf (a / 2 + i) (by omega) (by omega), Nat.add_sub_cancel_left]

/-- R9, R229: a load from the berth store or, behind the tandem queue, from the state RAM brings the words that stand there. -/
theorem memLoad_berths {c : Nat} (hr : regionOf a = .bstore ∨ (regionOf a = .bram ∧ h.tq = [])) (hn : 0 < n) (hok : accessOk a n false = true)
    (hsb : h.sb = []) : memLoad u c h a n = ((.val (nonetsOf (wordAt u) a n) false, { h with drain := false }), u) := by
  have hspan := spans_regionOf a
  rcases hr with hr | ⟨hr, htq⟩
  · rw [hr] at hspan
    simp only [Region.Spans] at hspan
    rw [memLoad, hr]
    simp only [forwarded_empty hsb]
    rw [ofWords_wordAt (u := u) hn]
    intro k h1 h2
    have hk := regionOf_word (.inl hr) hok h1 h2
    have hix : (a - 0o062000000) / 2 + (k - a / 2) = k - 0o031000000 := by omega
    rw [wordAt_bstore (hk.trans hr)]
    simp only [hix]
  · rw [hr] at hspan
    simp only [Region.Spans] at hspan
    rw [memLoad, hr]
    simp only [htq, List.isEmpty_nil, Bool.not_true, Bool.false_eq_true, if_false, forwarded_empty hsb]
    rw [ofWords_wordAt (u := u) hn]
    intro k h1 h2
    have hk := regionOf_word (.inr hr) hok h1 h2
    have hix : (a - 0o063000000) / 2 + (k - a / 2) = k - 0o031400000 := by omega
    rw [wordAt_bram (hk.trans hr), hix]

/-- R230: a load from the regions that the data cache serves, where no store to flash is buffered before one from flash. -/
theorem memLoad_blocks {c : Nat} (hr : regionOf a = .rom ∨ regionOf a = .otp ∨ (regionOf a = .flash ∧ ∀ y ∈ h.sb, regionOf y.ea ≠ .flash)) :
    memLoad u c h a n = blockLoad u h a n := by
  rcases hr with hr | hr | ⟨hr, hcalm⟩
  · rw [memLoad, hr]
  · rw [memLoad, hr]
  · rw [memLoad, hr]
    simp only [sbHolds_eq_false.2 hcalm, Bool.false_eq_true, if_false]

/-- R230, R232: what holds a load: a buffered store to its region, of flash or of peripheral space, or a queued move into the state RAM. -/
theorem memLoad_wait {c : Nat} (hr : ((regionOf a = .flash ∨ regionOf a = .periph) ∧ ∃ y ∈ h.sb, regionOf y.ea = regionOf a) ∨
    (regionOf a = .bram ∧ h.tq ≠ [])) : memLoad u c h a n = ((.wait, h), u) := by
  rcases hr with ⟨hr | hr, hy⟩ | ⟨hr, htq⟩
  · rw [memLoad, hr]
    simp only [sbHolds_of_mem (hr ▸ hy), if_true]
  · rw [memLoad, hr]
    simp only [sbHolds_of_mem (hr ▸ hy), if_true]
  · rw [memLoad, hr]
    simp [htq]

/-- R9, R11: the value of a register that R11 alone governs, where no read of it has an effect. -/
theorem regRead_plain {m : RegName} {i : Nat} {q : Req} (hm : m ∈ plainRegs) (hnone : NoneHeld u m i) (hrc : m.hasRc = false)
    (h1 : m ≠ .LK_GSTAT) (h2 : m ≠ .GT_DREP) (hwo : ∀ f ∈ m.row.fields, f.kind ≠ .wo) : regRead u q m i = ((u.reg m i).toNat, u) := by
  have hshown : u.shown m i = (u.reg m i).toNat := by
    rw [State.shown, foldl_fixed _ fun f hf => if_neg (hwo f hf)]
  have hread : regRead u q m i = if m.hasRc then rcRead (regSync u m i) m i else (State.shown (regSync u m i) m i, regSync u m i) := by
    clear hnone hrc hwo hshown
    simp only [plainRegs, List.mem_cons, List.not_mem_nil, or_false, h1, h2, false_or] at hm
    repeat' (rcases hm with rfl | hm)
    all_goals rfl
  rw [hread, hrc, regSync_of_none hnone, hshown]
  rfl

/-- A load has at least one nonet and at most a line. -/
theorem loadRow_size {e : LoadRow} (he : e ∈ loadTable) : 0 < e.2.1 ∧ e.2.1 ≤ 8 := by
  simp only [loadTable, List.mem_cons, List.not_mem_nil, or_false] at he
  rcases he with rfl | rfl | rfl | rfl | rfl <;> decide

/-- The value of nonets is one of a load. -/
theorem fits_nonetsOf (w : Nat → Word) (a n : Nat) (tag : Bool) : (LoadRes.val (nonetsOf w a n) tag).Fits n := by
  rintro rfl
  have := nonetsOf_lt w a 1
  omega

/-- The blocks of an access that the first clause of the loads outside SRAM speaks of can be read. -/
theorem blockReadable_of {k a : Nat} (hk : regionOf (32 * k) = regionOf a) (hb : regionOf a = .flash → 32 * k / 0o010000000 = a / 0o010000000)
    (hr : regionOf a = .rom ∨ regionOf a = .otp ∨ (regionOf a = .flash ∧ (u.flOf (a / 0o010000000)).run = none ∧
      u.get F.FL_BSTAT_mlvl (a / 0o010000000) = 0 ∧ ∀ l, 4 * k ≤ l → l < 4 * k + 4 → LineGood u l)) : BlockReadable u k := by
  unfold BlockReadable flBankAt
  rw [hk]
  rcases hr with hr | hr | ⟨hr, hgood⟩
  · exact .inl hr
  · exact .inr (.inl hr)
  · rw [hb hr]
    exact .inr (.inr ⟨hr, hgood⟩)

/-- The block of an address of a region that the data cache serves lies in the region. -/
theorem regionOf_blockOf {a : Nat} (hr : regionOf a = .flash ∨ regionOf a = .rom ∨ regionOf a = .otp) : regionOf (32 * (a / 32)) = regionOf a := by
  have hspan := spans_regionOf a
  rcases hr with hr | hr | hr <;> rw [hr] at hspan ⊢ <;> rw [regionOf_eq_iff] <;> simp only [Region.Spans] at hspan ⊢ <;> omega

/-- R234: the regions that the data cache serves. -/
theorem cached_region {r : Region} {p : Prop} (h : r = .rom ∨ r = .otp ∨ (r = .flash ∧ p)) : r = .flash ∨ r = .rom ∨ r = .otp := by
  rcases h with h | h | ⟨h, -⟩ <;> simp [h]

/-- R234: both blocks that an access of memory's own words touches can be read. -/
theorem blocksReadable {a n : Nat} (hok : accessOk a n false = true)
    (hr : regionOf a = .rom ∨ regionOf a = .otp ∨ (regionOf a = .flash ∧ (a + n - 1) / 0o010000000 = a / 0o010000000 ∧
      (u.flOf (a / 0o010000000)).run = none ∧ u.get F.FL_BSTAT_mlvl (a / 0o010000000) = 0 ∧
      ∀ l, 4 * (a / 32) ≤ l → l < 4 * ((a + n - 1) / 32 + 1) → LineGood u l)) (hn : 0 < n) :
    BlockReadable u (a / 32) ∧ BlockReadable u ((a + n - 1) / 32) := by
  have hlast := regionOf_last hok
  have hserved := cached_region hr
  refine ⟨blockReadable_of (regionOf_blockOf hserved) (fun _ => by omega) ?_,
    blockReadable_of ((regionOf_blockOf (by rwa [hlast])).trans hlast) (fun hf => ?_) ?_⟩
  · exact hr.imp_right (Or.imp_right fun ⟨hf, _, hrun, hlvl, hgood⟩ => ⟨hf, hrun, hlvl, fun l h1 h2 => hgood l h1 (by omega)⟩)
  · rw [hf] at hr
    obtain ⟨-, hbank, -⟩ := (hr.resolve_left (by decide)).resolve_left (by decide)
    omega
  · exact hr.imp_right (Or.imp_right fun ⟨hf, _, hrun, hlvl, hgood⟩ => ⟨hf, hrun, hlvl, fun l h1 h2 => hgood l (by omega) (by omega)⟩)

/-- The other cores after a load whose outcome leaves them as the fetch left them. -/
theorem others_loadEnd {e : LoadRow} {t : Nat} {c : Fin 16} {s u' : State} {x : Fields} {h h1 : CoreS} {ea : Int} {v : Nat} {tag : Bool}
    (hcore : u'.core = (issued t c s).core) : SameCoreBut c s (loadEnd e c x h ea ((.val v tag, h1), u')) := by
  intro d hd
  rw [loadEnd, setCore_ne _ c d _ hd, ← issued_others t c s d hd, State.coreOf, hcore]

/-- R9, R199, R229, R230, R232, R234, R235, R301, R307, R315, R316: the loads outside SRAM. -/
theorem loadsElsewhere : LoadsElsewhereRules := by
  intro e he t c mx x s hr u h ea a n z r bank calm served hmx hx hcap hok
  obtain ⟨hn, hn8⟩ := loadRow_size he
  have load : ∀ p, memLoad u c h a n = p → p.1.1.Fits n → exec (e.1 t c mx x) s = .next (loadEnd e c x h ea p) :=
    fun p hp hfit => exec_load_ready he hr hmx hx hcap hok hp hfit
  have hbank : r = .flash → flBankAt (32 * (a / 32)) = bank := fun _ => by unfold bank flBankAt; omega
  refine ⟨?_, ?_, ?_, ?_, ?_, ?_, ?_, ?_, ?_, ?_⟩
  · intro hmem hwf hnone
    obtain ⟨h1, h2⟩ := blocksReadable hok (hmem.imp_right (Or.imp_right fun ⟨hf, _, hrest⟩ => ⟨hf, hrest⟩)) hn
    obtain ⟨dc, f, hload, hslack, hkept⟩ := blockLoad_miss hn hn8 h1 h2 hwf hnone
    have hblock := memLoad_blocks (u := u) (n := n) (c := c) (hmem.imp_right (Or.imp_right fun ⟨hf, hcalm, _⟩ => ⟨hf, hcalm⟩))
    have hdc := dc_loadEnd (e := e) (c := c) (x := x) (h := h) (h1 := { h with dc := dc }) (ea := ea) (v := nonetsOf (wordAt u) a n)
      (tag := false) (u := { u with free := f }) he rfl
    refine ⟨_, load _ (hblock.trans hload) (fits_nonetsOf _ _ _ _), rfl, others_loadEnd rfl, ?_, ?_, ?_⟩
    · rw [hdc]; exact settled_loadEnd he rfl
    · rw [hdc]; exact hslack
    · rw [hdc]; exact hkept
  · intro v hmem ⟨hs, hlvl⟩ hz hv
    have hblock := memLoad_blocks (u := u) (n := n) (c := c) hmem
    have hhit := blockLoad_hit (u := u) (h := h) (a := a) (n := n) hn hz hs (fun hf => ?_) hv
    · exact completes_loadEnd (h := h) (ea := ea) he rfl (load _ (hblock.trans hhit) (fits_nonetsOf _ _ _ _))
    · have hr' : r = .flash := (regionOf_blockOf (cached_region hmem)).symm.trans hf
      rw [hbank hr']; exact hlvl hr'
  · intro hf hcalm hz hrun hnone f
    have hblock := memLoad_blocks (u := u) (n := n) (c := c) (.inr (.inr ⟨hf, hcalm⟩))
    have hbusy := blockLoad_busy (u := u) (h := h) hn hz ((regionOf_blockOf (.inl hf)).trans hf) (by rwa [hbank hf])
      (fun hs hl => hnone ⟨hs, fun hf => by rwa [hbank hf] at hl⟩)
    rw [hbank hf] at hbusy
    refine ⟨_, load _ (hblock.trans hbusy) (fits_nonetsOf _ _ _ _), rfl, others_loadEnd rfl, ?_, fun b hb => ?_, settled_loadEnd he rfl⟩
    · exact State.setFl_flOf _ _ _
    · exact State.setFl_flOf_ne _ _ hb
  · intro hf hcalm
    have hbusy : ∃ y ∈ h.sb, regionOf y.ea = regionOf a := by
      rw [show regionOf a = .flash from hf]; simpa [calm] using hcalm
    exact stalls_loadEnd (load _ (memLoad_wait (.inl ⟨.inl hf, hbusy⟩)) trivial)
  · intro hf hcalm hs hz hrun hlvl hcomp hundef hecc
    have hblock := memLoad_blocks (u := u) (n := n) (c := c) (.inr (.inr ⟨hf, hcalm⟩))
    have hbad := blockLoad_bad (u := u) (h := h) hz hs ((regionOf_blockOf (.inl hf)).trans hf) (by rwa [hbank hf]) (by rwa [hbank hf]) hcomp hundef hecc
    exact traps_loadEnd (load _ (hblock.trans hbad) trivial)
  · intro hmem hsb
    exact completes_loadEnd (h := h) (ea := ea) he rfl (load _ (memLoad_berths hmem hn hok hsb) (fits_nonetsOf _ _ _ _))
  · intro hf htq
    exact stalls_loadEnd (load _ (memLoad_wait (.inr ⟨hf, htq⟩)) trivial)
  · intro hf
    have hval : memLoad u c h a n = ((.val 0 false, h), u) := by rw [memLoad, show regionOf a = .tide from hf]
    exact completes_loadEnd (h := h) (ea := ea) he rfl (load _ hval (fun _ => by decide))
  · intro hf hbusy
    rw [← show regionOf a = .periph from hf] at hbusy
    exact stalls_loadEnd (load _ (memLoad_wait (.inl ⟨.inr hf, hbusy⟩)) trivial)
  · intro m i al hf hcalm hreach hm hsize hrc h1 h2 hwo hnone
    have hval : memLoad u c h a n = ((.val (u.reg m i).toNat false, h), u) := by
      rw [memLoad, show regionOf a = .periph from hf]
      simp only [sbHolds_eq_false.2 hcalm, Bool.false_eq_true, if_false, periphRead, hsize, periphAcc_reaches hreach,
        regRead_plain hm hnone hrc h1 h2 hwo]
    refine completes_loadEnd (h := h) (ea := ea) he rfl (load _ hval fun h1 => ?_)
    have := two_le_size m
    omega

end Sys2Proof.Machine
end

section
/-! PROOFS. Stores of the P18 outside SRAM, and what the oldest entry of a store buffer does there (R94, R98, R228, R291, R294, R303,
R304). -/

namespace Sys2Proof.Machine

/-! ### Stores enter the buffer (R197 to R199, R228) -/

/-- A row of the table of stores: the command, its size, its encoding, its value and its tag. -/
abbrev StoreRow := (Nat → Fin 16 → Bool → Fields → Instr) × Nat × (Fields → Prop) × (CoreS → Fields → Nat) × (CoreS → Fields → Bool)

/-- R201: only ST.K has a tag to store. -/
theorem storeRow_tag {e : StoreRow} (he : e ∈ storeTable) (h : CoreS) (x : Fields) : (e.2.1 == 8 && e.2.2.2.2 h x) = e.2.2.2.2 h x := by
  simp only [storeTable, List.mem_cons, List.not_mem_nil, or_false] at he
  rcases he with rfl | rfl | rfl | rfl <;> rfl

/-- R197 to R199, R220: a store of a right encoding acts by its row of the table. -/
theorem exec_store {e : StoreRow} (he : e ∈ storeTable) {x : Fields} (hx : e.2.2.1 x) (t : Nat) (c : Fin 16) (mx : Bool) (s : State) :
    exec (e.1 t c mx x) s = storeIns t c mx x e.2.1 true (e.2.1 == 8) (fun h => (BitVec.ofNat 72 (e.2.2.2.1 h x), e.2.2.2.2 h x)) s := by
  have wide : ∀ {w} (v : BitVec w), v.setWidth 72 = BitVec.ofNat 72 v.toNat := fun v => BitVec.eq_of_toNat_eq (by simp)
  simp only [storeTable, List.mem_cons, List.not_mem_nil, or_false] at he
  rcases he with rfl | rfl | rfl | rfl
  case inl =>
    change storeIns t c mx x 1 true false (fun h => (((h.rd x.f27).extractLsb' 0 9).setWidth 72, false)) s =
      storeIns t c mx x 1 true false (fun h => (BitVec.ofNat 72 ((h.rd x.f27).toNat % 512), false)) s
    simp only [wide, BitVec.extractLsb'_toNat, Nat.shiftRight_zero, Nat.reducePow]
  case inr.inl =>
    change storeIns t c mx x 2 true false (fun h => ((h.rd x.f27).setWidth 72, false)) s =
      storeIns t c mx x 2 true false (fun h => (BitVec.ofNat 72 (h.rd x.f27).toNat, false)) s
    simp only [wide]
  case inr.inr.inl =>
    have henc : (x.f27 % 2 == 0) = true := beq_iff_eq.2 hx
    change storeIns t c mx x 4 (x.f27 % 2 == 0) false (fun h => ((h.rdP x.f27).setWidth 72, false)) s =
      storeIns t c mx x 4 true false (fun h => (BitVec.ofNat 72 (h.rdP x.f27).toNat, false)) s
    simp only [henc, wide]
  case inr.inr.inr =>
    have henc : decide (x.f27 < 8) = true := decide_eq_true hx
    change storeIns t c mx x 8 (decide (x.f27 < 8)) true (fun h => ((h.cap x.f27).line, (h.cap x.f27).tag)) s =
      storeIns t c mx x 8 true true (fun h => (BitVec.ofNat 72 (h.cap x.f27).line.toNat, (h.cap x.f27).tag)) s
    simp only [henc, BitVec.ofNat_toNat, BitVec.setWidth_eq]

/-- R228: a store outside SRAM that meets its checks enters the store buffer, or waits for a full one. -/
theorem storesEnter {e : StoreRow} (he : e ∈ storeTable) {t : Nat} {c : Fin 16} {mx : Bool} {x : Fields} {s : State} (hr : CoreReady t s c)
    (hmx : mx = true → x.b20 = 0) (hx : e.2.2.1 x) {h : CoreS} (hh : h = atIssue t c s)
    (hcap : capCheck (h.cap x.kc) (if e.2.2.2.2 h x then [permST, permSK] else [permST]) (h.ea mx x) e.2.1 = none)
    (hok : accessOk (h.ea mx x).toNat e.2.1 true = true) (hsram : regionOf (h.ea mx x).toNat ≠ .sram) :
    (h.sb.length < 8 → Completes (e.1 t c mx x) t c s
      { h with sb := h.sb ++ [⟨(h.ea mx x).toNat, e.2.1, BitVec.ofNat 72 (e.2.2.2.1 h x), e.2.1 == 8, e.2.2.2.2 h x⟩] }) ∧
    (8 ≤ h.sb.length → Waits (e.1 t c mx x) t c s) := by
  have hlegal : mxLegal mx x = true := by cases mx <;> simp_all [mxLegal]
  have hram : (regionOf (h.ea mx x).toNat == .sram) = false := by simpa using hsram
  have hexec := exec_store he hx t c mx s
  rw [storeIns, coreRun_ready _ hr, ← hh] at hexec
  simp only [hlegal, storeRow_tag he, hcap, hok, hram, Bool.and_self, Bool.not_true, Bool.false_and, Bool.false_eq_true, if_false, ok] at hexec
  refine ⟨fun hlen => ?_, fun hlen => ?_⟩
  · rw [if_pos hlen] at hexec
    refine ⟨_, hexec, onlyIssuer_setCore t c s _, ?_⟩
    rw [setCore_same]
    exact settled_end _ _ none rfl
  · rw [if_neg (by omega)] at hexec
    exact ⟨_, hexec, congrArg (fun g => (issued t c s).setCore c (CoreS.stallOn g)) (issued_core t c s)⟩

/-! ### The oldest entry of a store buffer (R228) -/

variable {t : Nat} {c : Fin 16} {s : State} {y : SbEntry} {l : List SbEntry}

/-- The state in which the oldest entry of a core's store buffer acts, where `l` is left of the buffer. -/
abbrev unbuffered (s : State) (c : Nat) (l : List SbEntry) : State := s.setCore c { s.coreOf c with sb := l }

/-- The value of an entry of one or two words. -/
def SbEntry.value (y : SbEntry) : DWord := BitVec.ofNat 36 (y.data.toNat % 2 ^ (9 * y.size))

/-- An entry of one or two words has a value of that size. -/
theorem SbEntry.value_toNat (hsize : y.size = 2 ∨ y.size = 4) :
    y.value.toNat = y.data.toNat % 2 ^ (9 * y.size) ∧ y.value.toNat < 2 ^ (9 * y.size) := by
  have hlt := Nat.mod_lt y.data.toNat (Nat.two_pow_pos (9 * y.size))
  have hval : y.value.toNat = y.data.toNat % 2 ^ (9 * y.size) := by
    rw [SbEntry.value, BitVec.toNat_ofNat, Nat.mod_eq_of_lt]
    rcases hsize with h | h <;> rw [h] at hlt ⊢ <;> omega
  exact ⟨hval, hval ▸ hlt⟩

/-- R228: the oldest entry of a core's store buffer, of one or two words, is performed. -/
theorem exec_storePerform (hsb : (s.coreOf c).sb = y :: l) (hsize : y.size = 2 ∨ y.size = 4) : exec (.storePerform t c) s =
    .next (storeTo ((unbuffered s c l).tick t) (.core c) c y.ea y.size y.value.toNat (y.cap && y.tag)) := by
  change execStorePerform t c s = _
  have hc : Fin.ofNat 16 c.val = c := Fin.ext (Nat.mod_eq_of_lt c.isLt)
  have hsb' : ((s.tick t).coreOf c).sb = y :: l := hsb
  simp only [execStorePerform, hsb', storePerform, hc, ok, (SbEntry.value_toNat hsize).1]
  rfl

/-! ### Runs of words (R94, R98, R294) -/

/-- A run of `n` writes from place `w` on, each of which keeps `P` and takes effect where `eff` says: the places of the run read their new
values where they took effect, and every other place reads what it did. -/
theorem foldl_writes {σ β : Type} {P : σ → Prop} {read : σ → Nat → β} {step : σ → Nat → σ} {w : Nat} {new : Nat → β} {eff : Nat → Prop}
    [DecidablePred eff] (hkeep : ∀ s i, P s → P (step s i))
    (hread : ∀ s i, P s → ∀ j, read (step s i) j = if j = w + i ∧ eff j then new i else read s j) {s : σ} (hs : P s) (n : Nat) :
    P ((List.range n).foldl step s) ∧
      ∀ j, read ((List.range n).foldl step s) j = if w ≤ j ∧ j < w + n ∧ eff j then new (j - w) else read s j := by
  induction n with
  | zero => exact ⟨hs, fun j => (if_neg (by omega)).symm⟩
  | succ n ih =>
    obtain ⟨hP, hj⟩ := ih
    rw [List.range_succ, List.foldl_append]
    refine ⟨hkeep _ _ hP, fun j => ?_⟩
    rw [List.foldl_cons, List.foldl_nil, hread _ _ hP, hj]
    by_cases hlast : j = w + n
    · subst hlast
      rw [Nat.add_sub_cancel_left]
      by_cases he : eff (w + n)
      · rw [if_pos ⟨rfl, he⟩, if_pos ⟨by omega, by omega, he⟩]
      · rw [if_neg (fun h => he h.2), if_neg (fun h => he h.2.2), if_neg (fun h => he h.2.2)]
    · rw [if_neg (fun h => hlast h.1)]
      have hiff : (w ≤ j ∧ j < w + n ∧ eff j) ↔ (w ≤ j ∧ j < w + (n + 1) ∧ eff j) := by
        constructor <;> rintro ⟨h1, h2, h3⟩ <;> exact ⟨h1, by omega, h3⟩
      simp only [hiff]

/-- R94: word `j` of the berth store, two to an instruction. -/
def bstoreWordOf (s : State) (j : Nat) : Word :=
  if j % 2 = 0 then (s.bstoreOf (j / 2)).extractLsb' 18 18 else (s.bstoreOf (j / 2)).extractLsb' 0 18

/-- The two words of an instruction of the berth store. -/
theorem extractLsb_append (x y : Word) : (x ++ y : BitVec 36).extractLsb' 18 18 = x ∧ (x ++ y : BitVec 36).extractLsb' 0 18 = y := by
  constructor <;> refine BitVec.eq_of_getLsbD_eq fun i hi => ?_ <;> rw [BitVec.getLsbD_extractLsb', BitVec.getLsbD_append]
  · simp [hi]
  · simp [hi]

/-- Word `w` of an instruction written with `v`, and its other word kept: what word `j` of the instruction reads. -/
theorem instruction_write (x : BitVec 36) (v : Word) {w j : Nat} (hins : j / 2 = w / 2) :
    let x' := if w % 2 = 0 then v ++ x.extractLsb' 0 18 else x.extractLsb' 18 18 ++ v
    (if j % 2 = 0 then x'.extractLsb' 18 18 else x'.extractLsb' 0 18) =
      if j = w then v else if j % 2 = 0 then x.extractLsb' 18 18 else x.extractLsb' 0 18 := by
  obtain ⟨hhi, hlo⟩ := extractLsb_append v (x.extractLsb' 0 18)
  obtain ⟨hhi', hlo'⟩ := extractLsb_append (x.extractLsb' 18 18) v
  have hsame : j = w ↔ j % 2 = w % 2 := by omega
  rcases Nat.mod_two_eq_zero_or_one j with h0 | h0 <;> rcases Nat.mod_two_eq_zero_or_one w with h1 | h1 <;>
    simp only [hsame, h0, h1, if_true, if_false, one_ne_zero, zero_ne_one, hhi, hlo, hhi', hlo']

/-- R94, R294: a store of one word of the berth store, which gives way to a tide's of this timer cycle. -/
theorem bstoreWordOf_bstoreWord (s : State) (w v j : Nat) : bstoreWordOf (bstoreWord s w v) j =
    if j = w ∧ s.bstoreAtOf (j / 2) ≠ s.now / 64 + 1 then BitVec.ofNat 18 v else bstoreWordOf s j := by
  by_cases htide : s.bstoreAtOf (w / 2) = s.now / 64 + 1
  · rw [bstoreWord, if_pos htide, if_neg (by rintro ⟨rfl, h⟩; exact h htide)]
  · rw [bstoreWord, if_neg htide]
    by_cases hins : j / 2 = w / 2
    · have hword := instruction_write (s.bstoreOf (w / 2)) (BitVec.ofNat 18 v) hins
      simp only [bstoreWordOf, hins, State.setBstore_bstoreOf, ne_eq, htide, not_false_eq_true, and_true]
      exact hword
    · have hj : ¬ (j = w ∧ s.bstoreAtOf (j / 2) ≠ s.now / 64 + 1) := fun h => hins (by rw [h.1])
      rw [if_neg hj, bstoreWordOf, bstoreWordOf, State.setBstore_bstoreOf_ne _ _ hins]

/-- A store of one word touches the berth store alone. -/
theorem bstoreWord_frame (s : State) (w v : Nat) : ∃ b, bstoreWord s w v = { s with bstore := b } := by
  unfold bstoreWord
  split
  · exact ⟨_, rfl⟩
  · exact ⟨_, rfl⟩

/-- R94, R294: a run of words stored to the berth store from word `w` on. -/
theorem bstoreWords (s : State) (w n : Nat) (v : Nat → Nat) : ∃ b, let s' := { s with bstore := b }
    (List.range n).foldl (fun s i => bstoreWord s (w + i) (v i)) s = s' ∧ ∀ j, bstoreWordOf s' j =
      if w ≤ j ∧ j < w + n ∧ s.bstoreAtOf (j / 2) ≠ s.now / 64 + 1 then BitVec.ofNat 18 (v (j - w)) else bstoreWordOf s j := by
  obtain ⟨⟨b, hb⟩, hread⟩ := foldl_writes (P := fun s' => ∃ b, s' = { s with bstore := b }) (read := bstoreWordOf)
    (step := fun s i => bstoreWord s (w + i) (v i)) (w := w) (new := fun i => BitVec.ofNat 18 (v i))
    (eff := fun j => s.bstoreAtOf (j / 2) ≠ s.now / 64 + 1)
    (by rintro _ i ⟨b, rfl⟩
        obtain ⟨b', hb'⟩ := bstoreWord_frame { s with bstore := b } (w + i) (v i)
        exact ⟨b', hb'⟩)
    (by rintro _ i ⟨b, rfl⟩ j
        exact bstoreWordOf_bstoreWord { s with bstore := b } (w + i) (v i) j) ⟨s.bstore, rfl⟩ n
  exact ⟨b, hb, hb ▸ hread⟩

/-- R98, R294: a store of one state word, which gives way to an engine write or a tide of the same cycle. -/
theorem bramOf_bramStore (s : State) (w v j : Nat) : (bramStore s w v).bramOf j =
    if j = w ∧ (s.engWOf j).map (·.at_) ≠ some (edgeCeil s.now) then sx 18 v else s.bramOf j := by
  have stored : (s.setBram w (sx 18 v)).bramOf j = if j = w then sx 18 v else s.bramOf j := Store.get_set ..
  unfold bramStore
  rcases hw : s.engWOf w with _ | e
  · rw [stored]
    by_cases hj : j = w
    · subst hj; simp [hw]
    · simp [hj]
  · by_cases he : e.at_ = edgeCeil s.now
    · simp only [he, if_true]
      rw [if_neg (by rintro ⟨rfl, h⟩; exact h (by simp [hw, he]))]
    · simp only [he, if_false, stored]
      by_cases hj : j = w
      · subst hj; simp [hw, he]
      · simp [hj]

/-- A store of one state word touches the state RAM alone. -/
theorem bramStore_frame (s : State) (w v : Nat) : ∃ b, bramStore s w v = { s with bram := b } := by
  unfold bramStore
  repeat' split
  all_goals exact ⟨_, rfl⟩

/-- R98, R294: a run of state words stored from word `w` on. -/
theorem bramWords (s : State) (w n : Nat) (v : Nat → Nat) : ∃ b, let s' := { s with bram := b }
    (List.range n).foldl (fun s i => bramStore s (w + i) (v i)) s = s' ∧ ∀ j, s'.bramOf j =
      if w ≤ j ∧ j < w + n ∧ (s.engWOf j).map (·.at_) ≠ some (edgeCeil s.now) then sx 18 (v (j - w)) else s.bramOf j := by
  obtain ⟨⟨b, hb⟩, hread⟩ := foldl_writes (P := fun s' => ∃ b, s' = { s with bram := b }) (read := State.bramOf)
    (step := fun s i => bramStore s (w + i) (v i)) (w := w) (new := fun i => sx 18 (v i))
    (eff := fun j => (s.engWOf j).map (·.at_) ≠ some (edgeCeil s.now))
    (by rintro _ i ⟨b, rfl⟩
        obtain ⟨b', hb'⟩ := bramStore_frame { s with bram := b } (w + i) (v i)
        exact ⟨b', hb'⟩)
    (by rintro _ i ⟨b, rfl⟩ j
        exact bramOf_bramStore { s with bram := b } (w + i) (v i) j) ⟨s.bram, rfl⟩ n
  exact ⟨b, hb, hb ▸ hread⟩

end Sys2Proof.Machine
end

section
/-! PROOFS. What the oldest entry of a store buffer does outside SRAM, and O16. -/

namespace Sys2Proof.Machine

variable {t : Nat} {c : Fin 16} {s : State} {y : SbEntry} {l : List SbEntry}

/-- R94: a run of words of the berth store meets the program of an armed berth. -/
theorem armedRun_iff (s : State) (w m : Nat) : (List.range m).any (fun i => inArmedProgram s ((w + i) / 2)) = true ↔
    ∃ i < m, ∃ b ∈ s.armed, s.get F.BERTH_PROG_base b ≤ (w + i) / 2 ∧ (w + i) / 2 ≤ s.get F.BERTH_PROG_base b + s.get F.BERTH_PROG_lenm1 b := by
  simp only [inArmedProgram, List.any_eq_true, List.mem_range, Bool.and_eq_true, decide_eq_true_eq]

/-- R94: the flag of a store that an armed berth's program refuses. -/
theorem is_flag (s : State) (f : Fld) (i : Nat) (hw : f.w = 1) (hf : f.lo + f.w ≤ 36) : (s.flag f i).is f i = true := by
  have h : (s.put f i 1).get f i = 1 := by rw [State.put_get_same s f i 1 hf, hw]; rfl
  exact beq_iff_eq.2 h

/-- R94: a store to the berth store that an armed berth's program holds. -/
theorem bstoreStore_armed {w m v : Nat} (h : (List.range m).any (fun i => inArmedProgram s ((w + i) / 2)) = true) :
    bstoreStore s w m v = s.flag F.ENG_STAT_stwerr 0 := if_pos h

/-- R94: a store to the berth store of `m` words, most significant first. -/
theorem bstoreStore_free {w m v : Nat} (h : (List.range m).any (fun i => inArmedProgram s ((w + i) / 2)) = false) :
    bstoreStore s w m v = (List.range m).foldl (fun s i => bstoreWord s (w + i) (v / 2 ^ (18 * (m - 1 - i)))) s :=
  if_neg (by rw [h]; decide)

/-- A value of one word keeps its bits below bit 18. -/
theorem mask_word {d : DWord} (h : d.toNat < 2 ^ 18) : d &&& 0o777777 = d := by
  apply BitVec.eq_of_toNat_eq
  rw [BitVec.toNat_and, show (0o777777 : DWord).toNat = 2 ^ 18 - 1 from rfl, Nat.and_two_pow_sub_one_eq_mod, Nat.mod_eq_of_lt h]

/-- An address outside the unmapped space fits into 27 bits. -/
theorem addr_toNat {a : Nat} {r : Region} (hr : regionOf a = r) (hne : r ≠ .unmapped) : (BitVec.ofNat 27 a).toNat = a := by
  have hspan := spans_regionOf a
  rw [hr] at hspan
  refine Nat.mod_eq_of_lt ?_
  cases r with
  | unmapped => exact absurd rfl hne
  | _ => simp only [Region.Spans] at hspan; omega

/-- R228, R291: the oldest entry in the tides' space is the command that stages it. -/
theorem storePerform_tide (hsb : (s.coreOf c).sb = y :: l) (hsize : y.size = 2 ∨ y.size = 4) (hr : regionOf y.ea = .tide) :
    exec (.storePerform t c) s = exec (.tideStage t c (BitVec.ofNat 27 y.ea) (y.size == 4) y.value) (unbuffered s c l) := by
  obtain ⟨-, hlt⟩ := SbEntry.value_toNat hsize
  have hval : (if (y.size == 4) = true then y.value else y.value &&& 0o777777) = y.value := by
    rcases hsize with h | h
    · rw [h] at hlt
      rw [h, if_neg (by decide), mask_word hlt]
    · rw [h, if_pos (by decide)]
  have hbytes : (if (y.size == 4) = true then 4 else 2) = y.size := by rcases hsize with h | h <;> rw [h] <;> rfl
  rw [exec_storePerform hsb hsize]
  change _ = execTideStage t c (BitVec.ofNat 27 y.ea) (y.size == 4) y.value (unbuffered s c l)
  simp only [execTideStage, event, addr_toNat hr (by decide), hr, beq_self_eq_true, if_true, storeTo, BitVec.ofNat_toNat,
    BitVec.setWidth_eq, hval, hbytes]

/-- R228: the oldest entry in peripheral space is the command that writes the register. -/
theorem storePerform_periph (hsb : (s.coreOf c).sb = y :: l) (hsize : y.size = 2 ∨ y.size = 4) (hr : regionOf y.ea = .periph) {k : Fin 8}
    (hcap : capCheck ((s.coreOf c).cap k) [permST] y.ea y.size = none) (hok : periphStorable y.ea y.size = true) :
    exec (.storePerform t c) s =
      exec (.registerWrite t (.core c) k (BitVec.ofNat 27 y.ea) (y.size == 4) y.value) (unbuffered s c l) := by
  obtain ⟨-, hlt⟩ := SbEntry.value_toNat hsize
  have hval : (if (y.size == 4) = true then y.value.toNat else y.value.toNat % 2 ^ 18) = y.value.toNat := by
    rcases hsize with h | h
    · rw [h] at hlt
      rw [h, if_neg (by decide), Nat.mod_eq_of_lt hlt]
    · rw [h, if_pos (by decide)]
  have hbytes : (if (y.size == 4) = true then 4 else 2) = y.size := by rcases hsize with h | h <;> rw [h] <;> rfl
  have hcause : accessCause ((unbuffered s c l).tick t) (.core c) k permST y.ea y.size = none := by
    have hcore : ((unbuffered s c l).tick t).coreOf c = { s.coreOf c with sb := l } := setCore_same s c _
    rw [accessCause, hcore]; exact hcap
  rw [exec_storePerform hsb hsize]
  change _ = execRegisterWrite t (.core c) k (BitVec.ofNat 27 y.ea) (y.size == 4) y.value (unbuffered s c l)
  simp only [execRegisterWrite, event, addr_toNat hr (by decide), hr, beq_self_eq_true, if_true, storeTo, hbytes, hcause, hok, hval,
    Bool.not_true, Bool.false_eq_true, if_false]

/-- R94, R294: the oldest entry on the berth store. -/
theorem storePerform_bstore (hsb : (s.coreOf c).sb = y :: l) (hsize : y.size = 2 ∨ y.size = 4) (hr : regionOf y.ea = .bstore) :
    exec (.storePerform t c) s =
      .next (bstoreStore ((unbuffered s c l).tick t) (y.ea / 2 - 0o031000000) (y.size / 2) y.value.toNat) := by
  have hix : (y.ea - 0o062000000) / 2 = y.ea / 2 - 0o031000000 := by omega
  rw [exec_storePerform hsb hsize, storeTo, hr, ← hix]

/-- R98, R294: the oldest entry on the state RAM. -/
theorem storePerform_bram (hsb : (s.coreOf c).sb = y :: l) (hsize : y.size = 2 ∨ y.size = 4) (hr : regionOf y.ea = .bram) :
    exec (.storePerform t c) s =
      .next (bramStores ((unbuffered s c l).tick t) (y.ea / 2 - 0o031400000) (y.size / 2) y.value.toNat) := by
  have hix : (y.ea - 0o063000000) / 2 = y.ea / 2 - 0o031400000 := by omega
  rw [exec_storePerform hsb hsize, storeTo, hr, ← hix]

/-- R303, R304: the oldest entry inside one bank of flash. -/
theorem storePerform_flash (hsb : (s.coreOf c).sb = y :: l) (hsize : y.size = 2 ∨ y.size = 4) {b : Fin 4} (hr : regionOf y.ea = .flash)
    (h1 : y.ea / 0o010000000 = b) (h2 : (y.ea + y.size - 1) / 0o010000000 = b) :
    exec (.storePerform t c) s =
      .next (flStore ((unbuffered s c l).tick t) b (BitVec.ofNat 21 (y.ea % 0o010000000)).toNat (y.size == 4) false y.value.toNat) := by
  have hoff : (BitVec.ofNat 21 (y.ea % 0o010000000)).toNat = y.ea % 0o010000000 := Nat.mod_eq_of_lt (Nat.mod_lt _ (by decide))
  have hword : (y.size == 1) = false := by rcases hsize with h | h <;> rw [h] <;> rfl
  rw [exec_storePerform hsb hsize, storeTo, hr]
  simp only [flBankAt, h1, h2, if_true, hoff, hword]

/-- R304: the first two stores of every sequence. -/
theorem flStep_unlock (b : Nat) : flStep .start b 0o12524 false 0o252525 = .go .u1 ∧ flStep .u1 b 0o5252 false 0o525252 = .go .u2 :=
  ⟨rfl, rfl⟩

/-- R303: a store that breaks the sequence of a bank. -/
theorem flBreak_spec (s : State) (b : Nat) : (flBreak s b).get F.FL_BSTAT_err b = 1 ∧ (flBreak s b).flOf b = { s.flOf b with seq := .start } ∧
    (flBreak s b).flash = s.flash := by
  refine ⟨?_, State.setFl_flOf s b _, rfl⟩
  exact State.put_get_same _ _ _ _ (by decide)

/-- R303, R304: a store that goes on with the sequence of a bank. -/
theorem flStore_go {b off v : Nat} {dbl : Bool} {q : FlSeq} (h : flStep (s.flOf b).seq b off dbl v = .go q) :
    flStore s b off dbl false v = s.setFl b { s.flOf b with seq := q } := by simp [flStore, h]

theorem flStore_brk {b off v : Nat} {dbl : Bool} (h : flStep (s.flOf b).seq b off dbl v = .brk) :
    flStore s b off dbl false v = flBreak s b := by simp [flStore, h]

/-- R304: the store that completes a line is the command that programs it. -/
theorem exec_lineProgram {b : Fin 4} {off : BitVec 21} {dbl : Bool} {v : DWord} {line : Nat} {data : BitVec 72} {jrn : Bool}
    (h : flStep (s.flOf b).seq b off.toNat dbl v.toNat = .done (.program line data jrn)) :
    exec (.lineProgram t b off dbl v) s = .next (flStore (s.tick t) b off.toNat dbl false v.toNat) := by
  change execLineProgram t b off dbl v s = _
  have h' : flStep ((s.tick t).flOf b).seq b off.toNat dbl v.toNat = .done (.program line data jrn) := h
  simp only [execLineProgram, event, h', if_true]

/-- R94, R294: what a run of words stored to the berth store makes of its words, by their places in the address space. -/
theorem wordAt_bstoreWords (s : State) {k m : Nat} (hk : 0o031000000 ≤ k) (v : Nat) : ∃ b, let s' := { s with bstore := b }
    (List.range m).foldl (fun s i => bstoreWord s (k - 0o031000000 + i) (v / 2 ^ (18 * (m - 1 - i)))) s = s' ∧
    ∀ j, 0o031000000 ≤ j → j < 0o031100000 → wordAt s' j =
      if k ≤ j ∧ j < k + m ∧ s.bstoreAtOf ((j - 0o031000000) / 2) ≠ s.now / 64 + 1 then BitVec.ofNat 18 (v / 2 ^ (18 * (m - 1 - (j - k))))
      else wordAt s j := by
  obtain ⟨b, hfold, hread⟩ := bstoreWords s (k - 0o031000000) m (fun i => v / 2 ^ (18 * (m - 1 - i)))
  refine ⟨b, hfold, fun j h1 h2 => ?_⟩
  have hj : regionOf (2 * j) = .bstore := by
    rw [regionOf_eq_iff]; simp only [Region.Spans]; omega
  have word : ∀ s', wordAt s' j = bstoreWordOf s' (j - 0o031000000) := fun s' => wordAt_bstore hj
  have hle : k - 0o031000000 ≤ j - 0o031000000 ↔ k ≤ j := by omega
  have hlt : j - 0o031000000 < k - 0o031000000 + m ↔ j < k + m := by omega
  have hsub : j - 0o031000000 - (k - 0o031000000) = j - k := by omega
  rw [word, word, hread]
  simp only [hle, hlt, hsub]

/-- R98, R294: what a run of words stored to the state RAM makes of the state words. -/
theorem bramOf_bramStores (s : State) {k m : Nat} (hk : 0o031400000 ≤ k) (v : Nat) : ∃ b, let s' := { s with bram := b }
    bramStores s (k - 0o031400000) m v = s' ∧ ∀ j, s'.bramOf j =
      if k ≤ 0o031400000 + j ∧ 0o031400000 + j < k + m ∧ (s.engWOf j).map (·.at_) ≠ some (edgeCeil s.now) then
        (BitVec.ofNat 18 (v / 2 ^ (18 * (m - 1 - (0o031400000 + j - k))))).toInt
      else s.bramOf j := by
  obtain ⟨b, hfold, hread⟩ := bramWords s (k - 0o031400000) m (fun i => v / 2 ^ (18 * (m - 1 - i)) % 2 ^ 18)
  refine ⟨b, hfold, fun j => ?_⟩
  have hle : k - 0o031400000 ≤ j ↔ k ≤ 0o031400000 + j := by omega
  have hlt : j < k - 0o031400000 + m ↔ 0o031400000 + j < k + m := by omega
  have hsub : j - (k - 0o031400000) = 0o031400000 + j - k := by omega
  have hword : ∀ x, sx 18 (x % 2 ^ 18) = (BitVec.ofNat 18 x).toInt := fun x =>
    congrArg BitVec.toInt (BitVec.eq_of_toNat_eq (by simp))
  rw [hread]
  simp only [hle, hlt, hsub, hword]

/-- R94, R98, R228, R291, R294, R303, R304: the stores outside SRAM. -/
theorem storesElsewhere : StoresElsewhereRules := by
  refine ⟨?_, ?_⟩
  · intro e he t c mx x s hr h ea n tag hmx hx hcap hok hsram
    exact storesEnter he hr hmx hx rfl hcap hok hsram
  intro t c s y l hsb now k m dbl d u word armed hsize
  refine ⟨?_, ?_, storePerform_tide hsb hsize, fun hr k hcap hok => storePerform_periph hsb hsize hr hcap hok, ?_⟩
  · intro hr heven
    have hspan := spans_regionOf y.ea
    rw [hr] at hspan
    have hk : 0o031000000 ≤ k := by
      simp only [Region.Spans] at hspan
      unfold k; omega
    have hexec := storePerform_bstore (t := t) hsb hsize hr
    have harmed := armedRun_iff (u.tick t) (k - 0o031000000) m
    refine ⟨fun ha => ?_, fun ha => ?_⟩
    · rw [bstoreStore_armed (harmed.2 ha)] at hexec
      exact ⟨_, hexec, is_flag _ _ _ rfl (by decide), rfl, rfl⟩
    · rw [bstoreStore_free (Bool.eq_false_iff.2 (fun h => ha (harmed.1 h)))] at hexec
      obtain ⟨b, hfold, hread⟩ := wordAt_bstoreWords (u.tick t) (m := m) hk d.toNat
      exact ⟨_, hexec.trans (congrArg Host.Outcome.next hfold), rfl, hread⟩
  · intro hr heven
    have hspan := spans_regionOf y.ea
    rw [hr] at hspan
    have hk : 0o031400000 ≤ k := by
      simp only [Region.Spans] at hspan
      unfold k; omega
    obtain ⟨b, hfold, hread⟩ := bramOf_bramStores (u.tick t) (m := m) hk d.toNat
    exact ⟨_, (storePerform_bram hsb hsize hr).trans (congrArg Host.Outcome.next hfold), rfl, hread⟩
  · intro b hr h1 h2 off f
    have hexec := storePerform_flash (t := t) hsb hsize hr h1 h2
    refine ⟨fun line data hstep => hexec.trans (exec_lineProgram (s := u) hstep).symm, fun q hstep => ?_, fun hstep => ?_, ?_⟩
    · have hgo := hexec.trans (congrArg Host.Outcome.next (flStore_go (s := u.tick t) hstep))
      exact ⟨_, hgo, rfl, State.setFl_flOf _ _ _, fun b' hb' => State.setFl_flOf_ne _ _ hb'⟩
    · have hbrk := hexec.trans (congrArg Host.Outcome.next (flStore_brk (s := u.tick t) hstep))
      exact ⟨_, hbrk, flBreak_spec (u.tick t) b⟩
    · intro v hdbl hd
      refine ⟨fun hseq hoff hv => ?_, fun hseq hoff hv => ?_⟩
      · rw [hdbl, hseq, hoff, hd, hv]; exact (flStep_unlock b).1
      · rw [hdbl, hseq, hoff, hd, hv]; exact (flStep_unlock b).2

end Sys2Proof.Machine

namespace Sys2Proof.Settled
open Sys2Proof.Machine

/-- Settles O16: a load takes the outcome that its region's memory gives it, and a store enters the buffer, whose oldest entry acts by its
region. -/
theorem otherRegions : Obligations.OtherRegions := ⟨loadsElsewhere, storesElsewhere⟩

end Sys2Proof.Settled
end

section
/-! PROOFS. Counter units: the statement on writes of loaded registers, count reads and capture is refuted (06_counter_units.md, R144). -/

namespace Sys2Proof.Machine

/-- A unit that counts one period of 64 fine ticks under a mode above TIMER, which no value of CU_CTL.mode gives: the state's type allows it. -/
def strayMode : State :=
  { State.reset with boot := {} }.setCu 0 { counting := true, gov := { mode := 4, p := 1 } }

/-- A write of CU_CAPSRC with en, ts and swcap. -/
def swcapWord : Word := 0o700000#18

/-- Nothing follows the unit's events in that state. -/
theorem cuAlone_strayMode : CuAlone strayMode 0 := by
  unfold CuAlone
  decide

/-- The model captures the period time of a mode above TIMER modulo 2^36 fine ticks, as in TIMER. -/
theorem softwareCapture_strayMode {s' : State} (h : exec (.softwareCapture 64 0 0 swcapWord) strayMode = .next s') :
    (s'.cuOf 0).cap0.map (·.tau) = [64] := by
  have hs : exec (.softwareCapture 64 0 0 swcapWord) strayMode = .next (cuSettle (cuCapSrcWrite (strayMode.tick 64) 0 0 swcapWord.toNat)) := rfl
  obtain rfl := Host.Outcome.next.inj (hs.symm.trans h)
  decide

end Sys2Proof.Machine

namespace Sys2Proof.Settled

open Sys2Proof.Machine

/-- Refutes O32: the statement takes the period length of a unit whose governing mode is neither UP-DOWN nor TIMER as 64 P, for every mode
number; where it is above 3, `Gov.len` has no length and the model counts modulo 2^36. At 64 fine ticks into a period with P = 1 the
capture records 64, and the statement asks for 0. (CU_CTL.mode has two bits, so no run brings a unit there.) -/
theorem not_counterWritesAndCapture : ¬ Obligations.CounterWritesAndCapture := by
  unfold Obligations.CounterWritesAndCapture
  rintro ⟨-, h⟩
  obtain ⟨-, -, hsw, -⟩ := h 64 0 0 strayMode cuAlone_strayMode
  obtain ⟨s', hs', hcaps, -⟩ := (hsw swcapWord (by decide) (by decide) (by decide)).1 (by decide)
  have hmodel := softwareCapture_strayMode hs'
  have hclaim : (s'.cuOf 0).cap0.map (·.tau) = [0] := by
    rw [show (s'.cuOf 0).cap0 = _ from hcaps]
    decide
  rw [hmodel] at hclaim
  exact absurd hclaim (by decide)

end Sys2Proof.Settled
end

section
/-! PROOFS. The state after a device reset (R17): what a field of a register reads, by the reset value of the register's row. -/

namespace Sys2Proof.Machine

/-- After a reset each register holds its reset value. -/
theorem reset_get (f : Fld) (i : Nat) : State.reset.get f i = resetVal f.reg i % 2 ^ 36 / 2 ^ f.lo % 2 ^ f.w := by
  have hreg : State.reset.reg f.reg i = BitVec.ofNat 36 (resetVal f.reg i) := regDefault_regKey ..
  rw [State.get, hreg, fget_eq, BitVec.toNat_ofNat, Nat.shiftRight_eq_div_pow]

/-- R106: the registers whose reset value depends on the berth. -/
def berthResets : List RegName := [.BERTH_CTL, .BERTH_GBASE, .BERTH_IO]

theorem resetVal_row {r : RegName} (i : Nat) (h : r ∉ berthResets) : resetVal r i = r.row.reset := by
  simp only [berthResets, List.mem_cons, List.not_mem_nil, or_false, not_or] at h
  obtain ⟨hctl, hbase, hio⟩ := h
  unfold resetVal
  split
  · exact absurd rfl hctl
  · exact absurd rfl hbase
  · exact absurd rfl hio
  · rfl

/-- The value that the row of the field's register gives the field at a reset. -/
def Fld.rowReset (f : Fld) : Nat := f.reg.row.reset % 2 ^ 36 / 2 ^ f.lo % 2 ^ f.w

/-- Where the reset value does not depend on the berth, a field resets to what the row gives it. -/
theorem reset_get_row {l : List (Fld × Nat)} (hl : ∀ e ∈ l, e.1.reg ∉ berthResets ∧ e.1.rowReset = e.2) (i : Nat) :
    ∀ e ∈ l, State.reset.get e.1 i = e.2 := by
  intro e he
  obtain ⟨hr, hv⟩ := hl e he
  rw [reset_get, resetVal_row i hr, ← hv, Fld.rowReset]

/-- R106: berth `n` resets to priority 3, crane `n` mod 8, gain base 16 `n`, channel `n` and counter unit `n`. -/
theorem reset_get_berth {n : Nat} (hn : n < 128) : ∀ e ∈ [(F.BERTH_CTL_pri, 3), (F.BERTH_CTL_crane, n % 8), (F.BERTH_CTL_arm, 0),
    (F.BERTH_GBASE_base, 16 * n), (F.BERTH_IO_ch, n), (F.BERTH_IO_cu, n)], State.reset.get e.1 n = e.2 := by
  have hctl : resetVal .BERTH_CTL n = 98304 + n % 8 * 4096 := rfl
  have hbase : resetVal .BERTH_GBASE n = 16 * n := rfl
  have hio : resetVal .BERTH_IO n = n * 128 + n := by rw [resetVal, Nat.mod_eq_of_lt hn]
  have hch : (n * 128 + n) / 128 = n := by omega
  simp only [List.forall_mem_cons, reset_get, hctl, hbase, hio, Nat.reducePow]
  rw [Nat.mod_eq_of_lt (show n * 128 + n < 68719476736 by omega), hch]
  refine ⟨?_, ?_, ?_, ?_, ?_, ?_, by simp⟩
  all_goals omega

end Sys2Proof.Machine

namespace Sys2Proof.Settled

open Sys2Proof.Machine

/-- Settles O4: a field resets to what its register's row gives it; the berth's control, gain base and routing depend on the berth. -/
theorem resetValues : Obligations.ResetValues := by
  refine ⟨by decide, rfl, fun n hn => ?_, fun n _ => reset_get_row (by decide) n, fun n _ => reset_get_row (by decide) n,
    fun n _ => ?_, reset_get_row (by decide) 0⟩
  · have hrow := reset_get_row (l := [(F.ICH_WLEN_len, 512), (F.ICH_PROBETHR_thr, 1280), (F.WC_THH_code, 2047), (F.WC_THL_code, 2048),
      (F.BERTH_TRG_src, 2), (F.CU_PER_p, 1000), (F.CU_PERS_p, 1000), (F.CU_CAP_t, 2 ^ 36 - 1), (F.LC_FILT_n, 1), (F.LC_OWN_core, 31),
      (F.EV_OWN_core, 31), (F.ICH_CTL_en, 0), (F.WC_CTL_en, 0), (F.CU_CTL_run, 0), (F.CU_CTL_oen, 0), (F.LC_CTL_en, 0), (F.EV_CTL_en, 0)])
      (by decide) n
    have hberth := reset_get_berth hn
    simp only [List.forall_mem_cons] at hrow hberth ⊢
    simp only [hrow, hberth, List.not_mem_nil, false_imp_iff, implies_true, and_self]
  · have h := reset_get_row (l := [(F.LK_ROUTE_rpf, 1), (F.LK_ROUTE_port, 5)]) (by decide) n
    exact ⟨h (F.LK_ROUTE_rpf, 1) (by simp), h (F.LK_ROUTE_port, 5) (by simp)⟩

end Sys2Proof.Settled
end

section
/-! PROOFS. The laws of the operations that the commands of the integrator channels share: what a field and a channel's hidden state read after
each, and what a command keeps of the device (02_integrator_channels.md, R32 to R61). -/

namespace Sys2Proof.Machine

/-! ### Events of the device -/

/-- An event whose condition holds takes place, in the state that its command finds at its instant. -/
theorem does_of_event {i : Instr} {t : Nat} {s : State} {cond : State → Bool} {eff : State → State} {P : State → Prop}
    (hi : exec i s = event t s cond eff) (hc : cond (s.tick t) = true) (hP : P (eff (s.tick t))) : Does i s P :=
  ⟨_, by rw [hi, event, if_pos hc], hP⟩

/-! ### One-bit fields -/

/-- A one-bit field of a value is the bit at its place. -/
theorem Fld.of_bit {f : Fld} (hf : f.w = 1) {m : Nat} (v : BitVec m) : f.of v.toNat = (v.getLsbD f.lo).toNat := by
  rw [Fld.of, hf, ← BitVec.testBit_toNat, Nat.toNat_testBit, Nat.shiftRight_eq_div_pow, Nat.pow_one]

/-- A one-bit field reads the flag that was put into it. -/
theorem State.put_is_same (s : State) (f : Fld) (i v : Nat) (h : f.lo + f.w ≤ 36) : (s.put f i v).is f i = (v % 2 ^ f.w == 1) := by
  rw [State.is, s.put_get_same f i v h]

theorem State.put_is_apart (s : State) {f g : Fld} {i j : Nat} (v : Nat)
    (h : g.reg = f.reg → f.lo + f.w ≤ g.lo ∨ g.lo + g.w ≤ f.lo) : (s.put f i v).is g j = s.is g j := by
  rw [State.is, s.put_get_apart v h, State.is]

theorem State.flag_get_apart (s : State) {f g : Fld} {i j : Nat} (h : g.reg = f.reg → f.lo + f.w ≤ g.lo ∨ g.lo + g.w ≤ f.lo) :
    (s.flag f i).get g j = s.get g j := s.put_get_apart 1 h

theorem State.flag_is_apart (s : State) {f g : Fld} {i j : Nat} (h : g.reg = f.reg → f.lo + f.w ≤ g.lo ∨ g.lo + g.w ≤ f.lo) :
    (s.flag f i).is g j = s.is g j := congrArg (· == 1) (s.flag_get_apart h)

/-- R13: a count saturates at the top of its field. -/
theorem State.incSat_get_same (s : State) (f : Fld) (i : Nat) (h : f.lo + f.w ≤ 36) :
    (s.incSat f i).get f i = min (s.get f i + 1) (2 ^ f.w - 1) := by
  have hput : (s.incSat f i).get f i = min (s.get f i + 1) (2 ^ f.w - 1) % 2 ^ f.w := s.put_get_same f i _ h
  have hpos := Nat.two_pow_pos f.w
  rw [hput, Nat.mod_eq_of_lt (by omega)]

@[simp] theorem raise_get (s : State) (cls inst ev : Nat) (f : Fld) (i : Nat) : (s.raise cls inst ev).get f i = s.get f i := rfl
@[simp] theorem raise_is (s : State) (cls inst ev : Nat) (f : Fld) (i : Nat) : (s.raise cls inst ev).is f i = s.is f i := rfl

@[simp] theorem put_now (s : State) (f : Fld) (i x : Nat) : (s.put f i x).now = s.now := rfl
@[simp] theorem put_out (s : State) (f : Fld) (i x : Nat) : (s.put f i x).out = s.out := rfl
@[simp] theorem setIch_get (s : State) (k : Nat) (h : IchS) (f : Fld) (i : Nat) : (s.setIch k h).get f i = s.get f i := rfl
@[simp] theorem setIch_is (s : State) (k : Nat) (h : IchS) (f : Fld) (i : Nat) : (s.setIch k h).is f i = s.is f i := rfl

@[simp] theorem b2n_mod_two (b : Bool) : (b2n b % 2 ^ 1 == 1) = b := by cases b <;> rfl

/-! ### What a command keeps -/

/-- From `s` to `s'` a command of integrator channel `n` has written no registers but those that `may` allows, no hidden state of another channel,
no event channel but `ch`, and none but its own event sources; outputs have been added. -/
structure IchKeeps (n ch : Nat) (may : RegName → Nat → Prop) (s s' : State) : Prop where
  frame : s' = { s with out := s'.out, regs := s'.regs, hw := s'.hw, ich := s'.ich, ev := s'.ev, srcAt := s'.srcAt, vsrc := s'.vsrc }
  ich : ∀ m, m ≠ n → s'.ichOf m = s.ichOf m
  ev : ∀ m, m ≠ ch → s'.evOf m = s.evOf m
  src : SourcesKept 3 n s s'
  reg : ∀ r i, ¬ may r i → RegKept r i s s'
  out : s.out <+: s'.out

/-- The registers that a command of channel `n` may write: its own of those in `l`, EV_STAT of the event channel of its trigger, and the
vector registers that an interrupt source sets. -/
inductive IchMay (n ch : Nat) (l : List RegName) : RegName → Nat → Prop where
  | own {r : RegName} (h : r ∈ l) : IchMay n ch l r n
  | taps : IchMay n ch l .EV_STAT ch
  | pend (i : Nat) : IchMay n ch l .VU_PEND i
  | lost (i : Nat) : IchMay n ch l .VU_LOST i

/-- A command that keeps so much of the state at its instant has the frame of a command on the channel. -/
theorem IchKeeps.ichFrame {t n : Nat} {l : List RegName} {s s' : State}
    (h : IchKeeps n (s.get F.ICH_TRGEV_ch n) (IchMay n (s.get F.ICH_TRGEV_ch n) l) (s.tick t) s')
    (hl : .EV_STAT ∉ l ∧ .VU_PEND ∉ l ∧ .VU_LOST ∉ l := by decide) : IchFrame t n l s s' := by
  obtain ⟨hev, hpend, hlost⟩ := hl
  refine ⟨h.frame, h.ich, h.ev, h.src, fun r i hr => h.reg r i ?_, fun m hm => h.reg _ m ?_, fun r hr m hm => h.reg r m ?_⟩
  · simp only [List.mem_cons, not_or] at hr
    obtain ⟨hr1, hr2, hr3, hr4⟩ := hr
    rintro (_ | _ | _ | _)
    · exact hr4 ‹_›
    · exact hr1 rfl
    · exact hr2 rfl
    · exact hr3 rfl
  · rintro (_ | _ | _ | _)
    · exact hev ‹_›
    · exact hm rfl
  · rintro (_ | _ | _ | _)
    · exact hm rfl
    · exact hev hr
    · exact hpend hr
    · exact hlost hr

section
variable {n ch : Nat} {may : RegName → Nat → Prop} {s u v : State}

theorem IchKeeps.refl (s : State) : IchKeeps n ch may s s :=
  ⟨rfl, fun _ _ => rfl, fun _ _ => rfl, fun _ _ => rfl, fun _ _ _ => ⟨rfl, rfl⟩, List.prefix_rfl⟩

theorem IchKeeps.trans (h : IchKeeps n ch may s u) (g : IchKeeps n ch may u v) : IchKeeps n ch may s v where
  frame := g.frame.trans (by rw [h.frame])
  ich m hm := (g.ich m hm).trans (h.ich m hm)
  ev m hm := (g.ev m hm).trans (h.ev m hm)
  src k hk := (g.src k hk).trans (h.src k hk)
  reg r i hr := ⟨(g.reg r i hr).1.trans (h.reg r i hr).1, (g.reg r i hr).2.trans (h.reg r i hr).2⟩
  out := h.out.trans g.out

theorem IchKeeps.armed (h : IchKeeps n ch may s u) : u.armed = s.armed := by rw [h.frame]

/-- A field of a register that the command may not write reads what it read. -/
theorem IchKeeps.get (h : IchKeeps n ch may s u) {f : Fld} {i : Nat} (hf : ¬ may f.reg i) : u.get f i = s.get f i := by
  rw [State.get, (h.reg f.reg i hf).1, State.get]

theorem IchKeeps.put {f : Fld} {i : Nat} (h : IchKeeps n ch may s u) (x : Nat) (hf : may f.reg i) : IchKeeps n ch may s (u.put f i x) :=
  h.trans ⟨rfl, fun _ _ => rfl, fun _ _ => rfl, fun _ _ => rfl,
    fun _ _ hr => ⟨u.put_reg_ne x (fun e => hr (e.1 ▸ e.2 ▸ hf)), rfl⟩, List.prefix_rfl⟩

theorem IchKeeps.setHw {r : RegName} {i : Nat} (h : IchKeeps n ch may s u) (x : HwRec) (hf : may r i) :
    IchKeeps n ch may s (u.setHw (regKey r i) x) :=
  h.trans ⟨rfl, fun _ _ => rfl, fun _ _ => rfl, fun _ _ => rfl,
    fun _ _ hr => ⟨rfl, u.setHw_hwOf_ne x (fun e => hr ((regKey_inj.1 e).1 ▸ (regKey_inj.1 e).2 ▸ hf))⟩, List.prefix_rfl⟩

theorem IchKeeps.flag {f : Fld} {i : Nat} (h : IchKeeps n ch may s u) (hf : may f.reg i) : IchKeeps n ch may s (u.flag f i) :=
  (h.put 1 hf).setHw _ hf

theorem IchKeeps.incSat {f : Fld} {i : Nat} (h : IchKeeps n ch may s u) (hf : may f.reg i) : IchKeeps n ch may s (u.incSat f i) :=
  (h.put _ hf).setHw _ hf

theorem IchKeeps.setIch (h : IchKeeps n ch may s u) (x : IchS) : IchKeeps n ch may s (u.setIch n x) :=
  h.trans ⟨rfl, fun _ hm => u.setIch_ichOf_ne x hm, fun _ _ => rfl, fun _ _ => rfl, fun _ _ _ => ⟨rfl, rfl⟩, List.prefix_rfl⟩

theorem IchKeeps.setEv (h : IchKeeps n ch may s u) (x : EvS) : IchKeeps n ch may s (u.setEv ch x) :=
  h.trans ⟨rfl, fun _ _ => rfl, fun _ hm => u.setEv_evOf_ne x hm, fun _ _ => rfl, fun _ _ _ => ⟨rfl, rfl⟩, List.prefix_rfl⟩

/-- An interrupt source writes the vector registers alone. -/
theorem IchKeeps.fire (h : IchKeeps n ch may s u) (hpend : ∀ i, may .VU_PEND i) (hlost : ∀ i, may .VU_LOST i) (k : Nat) :
    IchKeeps n ch may s (u.fire k) := by
  have hemit : IchKeeps n ch may s (u.emit (.irq k)) := h.trans
    ⟨rfl, fun _ _ => rfl, fun _ _ => rfl, fun _ _ => rfl, fun _ _ _ => ⟨rfl, rfl⟩, List.prefix_append ..⟩
  have hvsrc : ∀ {w : State} (j : Nat), IchKeeps n ch may s w → IchKeeps n ch may s (w.setVsrc j k) := fun j hw =>
    hw.trans ⟨rfl, fun _ _ => rfl, fun _ _ => rfl, fun _ _ => rfl, fun _ _ _ => ⟨rfl, rfl⟩, List.prefix_rfl⟩
  unfold State.fire
  dsimp only
  split
  · split
    · exact (hemit.flag (hlost _)).flag (hpend _)
    · split
      · exact hemit.flag (hlost _)
      · exact hvsrc _ (hemit.flag (hpend _))
  · exact hemit

theorem IchKeeps.fireIf (h : IchKeeps n ch may s u) (hpend : ∀ i, may .VU_PEND i) (hlost : ∀ i, may .VU_LOST i) (b : Bool) (k : Nat) :
    IchKeeps n ch may s (u.fireIf b k) := by
  cases b
  · exact h
  · exact h.fire hpend hlost k

/-- An event of the channel leaves the sources of every other unit. -/
theorem IchKeeps.raise (h : IchKeeps n ch may s u) {ev : Nat} (hev : ev < 16) : IchKeeps n ch may s (u.raise 3 n ev) := by
  refine h.trans ⟨rfl, fun _ _ => rfl, fun _ _ => rfl, fun k hk => ?_, fun _ _ _ => ⟨rfl, rfl⟩, List.prefix_append ..⟩
  exact State.setSrcAt_srcAtOf_ne _ _ (fun e => hk (by rw [e, srcKey]; omega))

/-- R159: a change of the taps of the event channel writes its EV_STAT and its own state. -/
theorem IchKeeps.retap (h : IchKeeps n ch may s u) (hev : may .EV_STAT ch) (s0 : State) : IchKeeps n ch may s (retap s0 u ch) := by
  unfold Machine.retap
  dsimp only
  split
  · exact h
  · have hput := (h.put (f := F.EV_STAT_taps) (min (evTaps u ch).length 127) hev).put (f := F.EV_STAT_relay)
      (b2n (decide (8 < (evTaps u ch).length))) hev
    split
    · exact (hput.flag hev).setEv _
    · exact hput.setEv _

end

/-! ### What the shared operations leave of a channel -/

@[simp] theorem tick_ichOf (t : Nat) (s : State) (m : Nat) : (s.tick t).ichOf m = s.ichOf m := rfl
@[simp] theorem put_ichOf (s : State) (f : Fld) (i x m : Nat) : (s.put f i x).ichOf m = s.ichOf m := rfl
@[simp] theorem flag_ichOf (s : State) (f : Fld) (i m : Nat) : (s.flag f i).ichOf m = s.ichOf m := rfl
@[simp] theorem incSat_ichOf (s : State) (f : Fld) (i m : Nat) : (s.incSat f i).ichOf m = s.ichOf m := rfl
@[simp] theorem raise_ichOf (s : State) (cls inst ev m : Nat) : (s.raise cls inst ev).ichOf m = s.ichOf m := rfl

@[simp] theorem fire_ichOf (s : State) (k m : Nat) : (s.fire k).ichOf m = s.ichOf m := by
  unfold State.fire
  dsimp only
  repeat' split
  all_goals rfl

@[simp] theorem fireIf_ichOf (s : State) (b : Bool) (k m : Nat) : (s.fireIf b k).ichOf m = s.ichOf m := by
  cases b
  · rfl
  · exact fire_ichOf s k m

/-- An interrupt source leaves every field but those of the vector registers. -/
theorem fireIf_get (s : State) (b : Bool) (k : Nat) {f : Fld} (i : Nat) (hp : f.reg ≠ .VU_PEND) (hl : f.reg ≠ .VU_LOST) :
    (s.fireIf b k).get f i = s.get f i :=
  ((IchKeeps.refl (n := 0) (ch := 0) (may := fun r _ => r = .VU_PEND ∨ r = .VU_LOST) s).fireIf (fun _ => .inl rfl) (fun _ => .inr rfl) b k).get
    (not_or.2 ⟨hp, hl⟩)

theorem fireIf_is (s : State) (b : Bool) (k : Nat) {f : Fld} (i : Nat) (hp : f.reg ≠ .VU_PEND) (hl : f.reg ≠ .VU_LOST) :
    (s.fireIf b k).is f i = s.is f i := congrArg (· == 1) (fireIf_get s b k i hp hl)

@[simp] theorem retap_ich (s0 s : State) (ch : Nat) : (retap s0 s ch).ich = s.ich := by
  unfold retap
  dsimp only
  repeat' split
  all_goals rfl

/-- R159: a change of the taps leaves every field but those of EV_STAT. -/
theorem retap_get (s0 s : State) (ch : Nat) {f : Fld} (i : Nat) (hf : f.reg ≠ .EV_STAT) : (retap s0 s ch).get f i = s.get f i :=
  ((IchKeeps.refl (n := 0) (may := fun r _ => r = .EV_STAT) s).retap rfl s0).get hf

end Sys2Proof.Machine
end

section
/-! PROOFS. The power and the arming of an integrator channel (02_integrator_channels.md, R43, R44, R59). -/

namespace Sys2Proof.Machine

/-! ### A write of ICH_CTL -/

section
variable {s : State} {n : Nat} {x : Nat}

/-- R43: a write that clears en disarms, powers down, and then stores the configuration. -/
theorem ichCtlStore_disable (hen : s.is F.ICH_CTL_en n = true) (hx : F.ICH_CTL_en.of x = 0) : ichCtlStore s n x =
    ichStoreCfg (((ichPowerDown (ichDisarm s n) n).put F.ICH_CTL_arm n 0).put F.ICH_CTL_en n 0) n x := by
  simp [ichCtlStore, hen, hx]

/-- R43: a write that sets en of a channel without arm. -/
theorem ichCtlStore_enable (hen : s.is F.ICH_CTL_en n = false) (harm : s.is F.ICH_CTL_arm n = false) (hx : F.ICH_CTL_en.of x = 1)
    (hxa : F.ICH_CTL_arm.of x = 0) : ichCtlStore s n x = ichStoreCfg ((ichPowerUp s n).put F.ICH_CTL_en n 1) n x := by
  simp [ichCtlStore, hen, harm, hx, hxa]

/-- The write does not clear en: the channel has no power, or the write carries en = 1. -/
def KeepsPower (s : State) (n x : Nat) : Prop := s.is F.ICH_CTL_en n = false ∨ F.ICH_CTL_en.of x = 1

theorem KeepsPower.no_disable (h : KeepsPower s n x) : (s.is F.ICH_CTL_en n && F.ICH_CTL_en.of x == 0) = false := by
  rcases h with h | h <;> simp [h]

/-- R44: a write that clears arm alone. -/
theorem ichCtlStore_disarm (hp : KeepsPower s n x) (harm : s.is F.ICH_CTL_arm n = true) (hx : F.ICH_CTL_arm.of x = 0) :
    ichCtlStore s n x = ichStoreCfg ((ichDisarm s n).put F.ICH_CTL_arm n 0) n x := by
  simp [ichCtlStore, hp.no_disable, harm, hx]

/-- R44: a refused arming sets cfgerr and nothing else. -/
theorem ichCtlStore_refused (hp : KeepsPower s n x) (harm : s.is F.ICH_CTL_arm n = false) (hx : F.ICH_CTL_arm.of x = 1)
    (hr : ichArmRefused s n x = true) : ichCtlStore s n x = s.flag F.ICH_STAT_cfgerr n := by
  simp [ichCtlStore, hp.no_disable, harm, hx, hr]

theorem ichCtlStore_armed (hp : KeepsPower s n x) (harm : s.is F.ICH_CTL_arm n = false) (hx : F.ICH_CTL_arm.of x = 1)
    (hr : ichArmRefused s n x = false) : ichCtlStore s n x = ichStoreCfg ((ichNewArming s n).put F.ICH_CTL_arm n 1) n x := by
  simp [ichCtlStore, hp.no_disable, harm, hx, hr]

/-- R44: the reasons for which an arming is refused. -/
theorem ichArmRefused_iff : ichArmRefused s n x = true ↔ s.is F.ICH_STAT_ready n = false ∨ 4 < s.get F.ICH_TRGCU_cuev n ∨
    (F.ICH_CTL_mode.of x = 1 ∧ (s.get F.ICH_WLEN_len n < 512 ∨ s.get F.ICH_DELAY_d n < s.get F.ICH_WLEN_len n)) := by
  unfold ichArmRefused ichMin
  simp only [Bool.or_eq_true, Bool.and_eq_true, Bool.not_eq_true', beq_iff_eq, decide_eq_true_eq]
  tauto

/-! ### What the steps of a write keep, and what they leave -/

variable {ch : Nat} {may : RegName → Nat → Prop} {u : State}

theorem IchKeeps.storeCfg (h : IchKeeps n ch may s u) (hm : may .ICH_CTL n) (x : Nat) : IchKeeps n ch may s (ichStoreCfg u n x) :=
  ((h.put _ hm).put _ hm).put _ hm

@[simp] theorem ichStoreCfg_ichOf (m : Nat) : (ichStoreCfg s n x).ichOf m = s.ichOf m := rfl

@[simp] theorem ichStoreCfg_mode : (ichStoreCfg s n x).get F.ICH_CTL_mode n = F.ICH_CTL_mode.of x := by
  rw [ichStoreCfg, State.put_get_apart _ _ (by decide), State.put_get_same _ _ _ _ (by decide)]
  exact Nat.mod_mod _ _

@[simp] theorem ichStoreCfg_calsel : (ichStoreCfg s n x).get F.ICH_CTL_calsel n = F.ICH_CTL_calsel.of x := by
  rw [ichStoreCfg, State.put_get_apart _ _ (by decide), State.put_get_apart _ _ (by decide), State.put_get_same _ _ _ _ (by decide)]
  exact Nat.mod_mod _ _

/-- The configuration lies below bit 16 of ICH_CTL. -/
theorem ichStoreCfg_is {f : Fld} (i : Nat) (hf : f.reg = .ICH_CTL → 16 ≤ f.lo) : (ichStoreCfg s n x).is f i = s.is f i := by
  have apart : ∀ {g : Fld} (u : State) (y : Nat), g.reg = .ICH_CTL → g.lo + g.w ≤ 16 → (u.put g n y).is f i = u.is f i :=
    fun u y hg h16 => u.put_is_apart y (fun e => .inl (h16.trans (hf (e.trans hg))))
  rw [ichStoreCfg, apart _ _ rfl (by decide), apart _ _ rfl (by decide), apart _ _ rfl (by decide)]

theorem IchKeeps.disarm (h : IchKeeps n ch may s u) : IchKeeps n ch may s (ichDisarm u n) := h.setIch _

theorem IchKeeps.powerDown (h : IchKeeps n ch may s u) (hm : may .ICH_STAT n) : IchKeeps n ch may s (ichPowerDown u n) :=
  ((h.put _ hm).put _ hm).setIch _

theorem ichPowerDown_disarm_ichOf : (ichPowerDown (ichDisarm s n) n).ichOf n =
    { s.ichOf n with edges := [], win := none, readyDue := none, ovClr := none } := by
  have hdown : (ichPowerDown (ichDisarm s n) n).ichOf n = { (ichDisarm s n).ichOf n with readyDue := none, ovClr := none } :=
    State.setIch_ichOf ..
  rw [hdown, ichDisarm, State.setIch_ichOf]

/-- R43: after a power-down the modulator is neither ready nor in overload. -/
theorem ichPowerDown_stat : (ichPowerDown s n).is F.ICH_STAT_ready n = false ∧ (ichPowerDown s n).is F.ICH_STAT_ovldnow n = false := by
  have hdown : ∀ f, (ichPowerDown s n).is f n = ((s.put F.ICH_STAT_ready n 0).put F.ICH_STAT_ovldnow n 0).is f n := fun _ => rfl
  rw [hdown, hdown, State.put_is_apart _ _ (by decide), State.put_is_same _ _ _ _ (by decide), State.put_is_same _ _ _ _ (by decide)]
  exact ⟨rfl, rfl⟩

end

/-! ### The whole write, with the taps -/

section
variable {t : Nat} {n : Fin 128} {s : State} {x : Nat}

/-- The taps leave the channel and every register but EV_STAT as the store made them. -/
theorem ichCtlWrite_is {f : Fld} (i : Nat) (hf : f.reg ≠ .EV_STAT) : (ichCtlWrite s n x).is f i = (ichCtlStore s n x).is f i :=
  congrArg (· == 1) (retap_get _ _ _ i hf)

theorem ichCtlWrite_get {f : Fld} (i : Nat) (hf : f.reg ≠ .EV_STAT) : (ichCtlWrite s n x).get f i = (ichCtlStore s n x).get f i :=
  retap_get _ _ _ i hf

@[simp] theorem ichCtlWrite_ich : (ichCtlWrite s n x).ich = (ichCtlStore s n x).ich := retap_ich ..

theorem ichCtlWrite_ichOf (m : Nat) : (ichCtlWrite s n x).ichOf m = (ichCtlStore s n x).ichOf m :=
  congrArg (Store.get _ · m) ichCtlWrite_ich

/-- A write has the frame of a command on the channel where its store keeps so much. -/
theorem ichCtlWrite_frame {l : List RegName}
    (h : IchKeeps n (s.get F.ICH_TRGEV_ch n) (IchMay n (s.get F.ICH_TRGEV_ch n) l) (s.tick t) (ichCtlStore (s.tick t) n x))
    (hl : .EV_STAT ∉ l ∧ .VU_PEND ∉ l ∧ .VU_LOST ∉ l := by decide) : IchFrame t n l s (ichCtlWrite (s.tick t) n x) :=
  (h.retap .taps _).ichFrame hl

/-- A command that writes ICH_CTL in a cycle in which hardware touched none of its bits writes the whole value. -/
theorem does_of_ctlWrite {i : Instr} {v : Word} {cond : State → Bool} {P : State → Prop}
    (hi : exec i s = event t s cond (fun s => ichCtlWrite s n (s.yielded .ICH_CTL n .base v.toNat))) (hidle : HwIdle t .ICH_CTL n s)
    (hc : cond (s.tick t) = true) (hP : P (ichCtlWrite (s.tick t) n v.toNat)) : Does i s P :=
  does_of_event hi hc (by rwa [yielded_idle _ (by omega) hidle])

end

/-! ### The taps of a channel without arm -/

/-- R159: a channel that holds no arm before and after a write of its own ICH_CTL takes and releases no tap. -/
theorem evTaps_unarmed {s u : State} {n : Nat} (ha : u.armed = s.armed) (hk : RegsKept [.ICH_CTL] s u) (ho : OthersKept .ICH_CTL n s u)
    (hs : s.is F.ICH_CTL_arm n = false) (hu : u.is F.ICH_CTL_arm n = false) (ch : Nat) : evTaps u ch = evTaps s ch := by
  have hget : ∀ (f : Fld) (i : Nat), f.reg ∉ [RegName.ICH_CTL] → u.get f i = s.get f i := fun f i hf => by
    rw [State.get, (hk f.reg i hf).1, State.get]
  have hich : ∀ m, (u.is F.ICH_CTL_trgsrc m && u.is F.ICH_CTL_arm m && u.get F.ICH_TRGEV_ch m == ch) =
      (s.is F.ICH_CTL_trgsrc m && s.is F.ICH_CTL_arm m && s.get F.ICH_TRGEV_ch m == ch) := fun m => by
    by_cases hm : m = n
    · rw [hm, hs, hu, Bool.and_false, Bool.and_false, Bool.false_and, Bool.false_and]
    · have hreg := (ho m hm).1
      rw [hget _ _ (by decide)]
      simp only [State.is, State.get, hreg]
  simp only [evTaps, ha, hich]
  simp (disch := decide) only [State.is, hget]

/-- R159: a write that changes no tap is the store alone. -/
theorem ichCtlWrite_of_taps {s : State} {n x : Nat}
    (h : evTaps (ichCtlStore s n x) (s.get F.ICH_TRGEV_ch n) = evTaps s (s.get F.ICH_TRGEV_ch n)) :
    ichCtlWrite s n x = ichCtlStore s n x := if_pos h

/-! ### The commands -/

section
variable {t : Nat} {n : Fin 128} {v : Word} {s : State}

theorem ichEnable_does (hen : s.is F.ICH_CTL_en n = false) (harm : s.is F.ICH_CTL_arm n = false) (hidle : HwIdle t .ICH_CTL n s)
    (hv : v.getLsbD 16 = true) (hva : v.getLsbD 17 = false) :
    Does (.ichEnable t n v) s (fun s' => IchFrame t n [.ICH_CTL] s s' ∧ s'.is F.ICH_CTL_en n = true ∧ s'.is F.ICH_CTL_arm n = false ∧
      s'.get F.ICH_CTL_mode n = F.ICH_CTL_mode.of v.toNat ∧ s'.get F.ICH_CTL_calsel n = F.ICH_CTL_calsel.of v.toNat ∧
      s'.ev = s.ev ∧ s'.ichOf n = { s.ichOf n with readyDue := some (max s.now t + 128000), powAt := max s.now t }) := by
  have hx : F.ICH_CTL_en.of v.toNat = 1 := by rw [Fld.of_bit rfl, hv]; rfl
  have hxa : F.ICH_CTL_arm.of v.toNat = 0 := by rw [Fld.of_bit rfl, hva]; rfl
  have hstore := ichCtlStore_enable (s := s.tick t) hen harm hx hxa
  have hen' : (ichCtlStore (s.tick t) n v.toNat).is F.ICH_CTL_en n = true := by
    rw [hstore, ichStoreCfg_is n (by decide), State.put_is_same _ _ _ _ (by decide)]; rfl
  have harm' : (ichCtlStore (s.tick t) n v.toNat).is F.ICH_CTL_arm n = false := by
    rw [hstore, ichStoreCfg_is n (by decide), State.put_is_apart _ _ (by decide)]; exact harm
  have hkeeps : ∀ {ch may}, may .ICH_CTL n → IchKeeps n ch may (s.tick t) (ichCtlStore (s.tick t) n v.toNat) := fun hm => by
    rw [hstore]; exact (((IchKeeps.refl _).setIch _).put _ hm).storeCfg hm _
  have hown := hkeeps (ch := 0) (may := fun r i => r = .ICH_CTL ∧ i = n) ⟨rfl, rfl⟩
  have htaps := evTaps_unarmed hown.armed
    (fun r i hr => hown.reg r i fun e => hr (List.mem_singleton.2 e.1)) (fun m hm => hown.reg _ m fun e => hm e.2) harm harm'
  refine does_of_ctlWrite (show execIchEnable t n v s = _ from rfl) hidle (by simp [hen, hx]) ⟨ichCtlWrite_frame (hkeeps (.own (.head _))), ?_⟩
  rw [ichCtlWrite_of_taps (htaps _)]
  refine ⟨hen', harm', ?_⟩
  rw [hstore]
  exact ⟨ichStoreCfg_mode, ichStoreCfg_calsel, rfl, by rw [ichStoreCfg_ichOf, put_ichOf]; exact State.setIch_ichOf ..⟩

theorem ichDisable_does (hen : s.is F.ICH_CTL_en n = true) (hidle : HwIdle t .ICH_CTL n s) (hv : v.getLsbD 16 = false) :
    Does (.ichDisable t n v) s (fun s' => IchFrame t n [.ICH_CTL, .ICH_STAT] s s' ∧ s'.is F.ICH_CTL_en n = false ∧
      s'.is F.ICH_CTL_arm n = false ∧ s'.is F.ICH_STAT_ready n = false ∧ s'.is F.ICH_STAT_ovldnow n = false ∧
      s'.get F.ICH_CTL_mode n = F.ICH_CTL_mode.of v.toNat ∧
      s'.ichOf n = { s.ichOf n with edges := [], win := none, readyDue := none, ovClr := none }) := by
  have hx : F.ICH_CTL_en.of v.toNat = 0 := by rw [Fld.of_bit rfl, hv]; rfl
  have hstore := ichCtlStore_disable (s := s.tick t) hen hx
  have hstat : ∀ f : Fld, f.reg = .ICH_STAT → (ichCtlStore (s.tick t) n v.toNat).is f n =
      (ichPowerDown (ichDisarm (s.tick t) n) n).is f n := fun f hf => by
    rw [hstore, ichStoreCfg_is n (by simp [hf]), State.put_is_apart _ _ (by simp [hf]), State.put_is_apart _ _ (by simp [hf])]
  obtain ⟨hready, hnow⟩ := ichPowerDown_stat (s := ichDisarm (s.tick t) n) (n := n)
  refine does_of_ctlWrite (show execIchDisable t n v s = _ from rfl) hidle (by simp [hen, hx]) ⟨ichCtlWrite_frame ?_, ?_, ?_, ?_, ?_, ?_, ?_⟩
  · rw [hstore]
    have hctl : IchMay n (s.get F.ICH_TRGEV_ch n) [.ICH_CTL, .ICH_STAT] .ICH_CTL n := .own (.head _)
    exact ((((IchKeeps.refl _).disarm.powerDown (.own (.tail _ (.head _)))).put 0 hctl).put 0 hctl).storeCfg hctl _
  · rw [ichCtlWrite_is n (by decide), hstore, ichStoreCfg_is n (by decide), State.put_is_same _ _ _ _ (by decide)]; rfl
  · rw [ichCtlWrite_is n (by decide), hstore, ichStoreCfg_is n (by decide), State.put_is_apart _ _ (by decide),
      State.put_is_same _ _ _ _ (by decide)]; rfl
  · rw [ichCtlWrite_is n (by decide), hstat _ rfl, hready]
  · rw [ichCtlWrite_is n (by decide), hstat _ rfl, hnow]
  · rw [ichCtlWrite_get n (by decide), hstore, ichStoreCfg_mode]
  · rw [ichCtlWrite_ichOf, hstore, ichStoreCfg_ichOf, put_ichOf, put_ichOf, ichPowerDown_disarm_ichOf, tick_ichOf]

theorem ichReady_does {d : Nat} (hr : s.rung < 3) (hen : s.is F.ICH_CTL_en n = true) (hd : (s.ichOf n).readyDue = some d)
    (hle : d ≤ max s.now t) :
    Does (.ichReady t n) s (fun s' => IchFrame t n [.ICH_STAT] s s' ∧ s'.is F.ICH_STAT_ready n = true ∧
      s'.ichOf n = { s.ichOf n with readyDue := none, readyAt := max s.now t }) := by
  have hdue : ((s.tick t).ichOf n).readyDue = some d := hd
  refine does_of_event (show execIchReady t n s = _ from rfl) ?_
    ⟨(((IchKeeps.refl _).setIch _).put 1 (.own (.head _))).ichFrame, ?_, State.setIch_ichOf ..⟩
  · simp only [State.tick_is, hen, hdue, State.tick_now, hle, decide_true, Bool.and_true, timerOn]
    exact decide_eq_true hr
  · rw [State.put_is_same _ _ _ _ (by decide)]; rfl

theorem calrefReady_does {d : Nat} (hen : s.is F.ICH_CALCTL_refen 0 = true) (hd : s.calDue = some d) (hle : d ≤ max s.now t) :
    Does (.calrefReady t) s (fun s' => s'.is F.ICH_CALCTL_refready 0 = true ∧ RegsKept [.ICH_CALCTL] s s' ∧
      s' = { s with now := max s.now t, out := [], regs := s'.regs, calDue := none }) := by
  have hdue : (s.tick t).calDue = some d := hd
  refine does_of_event (show execCalrefReady t s = _ from rfl) (by simp [hen, hdue, hle]) ⟨?_, fun r i hr => ⟨?_, rfl⟩, rfl⟩
  · exact (State.put_is_same (s.tick t) F.ICH_CALCTL_refready 0 1 (by decide)).trans rfl
  · exact (s.tick t).put_reg_of_ne (f := F.ICH_CALCTL_refready) 0 i 1 (fun e => hr (List.mem_singleton.2 e))

/-- A write to a channel without power, or with bit 16 set, does not clear en. -/
theorem keepsPower_of_bit (h : s.is F.ICH_CTL_en n = false ∨ v.getLsbD 16 = true) : KeepsPower (s.tick t) n v.toNat :=
  h.imp_right fun hv => by rw [Fld.of_bit rfl, hv]; rfl

theorem ichArm_refused_does (hidle : HwIdle t .ICH_CTL n s) (harm : s.is F.ICH_CTL_arm n = false) (hv : v.getLsbD 17 = true)
    (hp : KeepsPower (s.tick t) n v.toNat) (hbad : ichArmRefused (s.tick t) n v.toNat = true) :
    Does (.ichArm t n v) s (fun s' => IchFrame t n [.ICH_STAT] s s' ∧ s'.is F.ICH_STAT_cfgerr n = true ∧ s'.ich = s.ich) := by
  have hx : F.ICH_CTL_arm.of v.toNat = 1 := by rw [Fld.of_bit rfl, hv]; rfl
  have hstore := ichCtlStore_refused hp harm hx hbad
  refine does_of_ctlWrite (show execIchArm t n v s = _ from rfl) hidle (by simp [harm, hx]) ⟨ichCtlWrite_frame ?_, ?_, ?_⟩
  · rw [hstore]; exact (IchKeeps.refl _).flag (.own (.head _))
  · rw [ichCtlWrite_is n (by decide), hstore, is_flag _ _ _ rfl (by decide)]
  · rw [ichCtlWrite_ich, hstore]; rfl

theorem ichArm_does (hidle : HwIdle t .ICH_CTL n s) (harm : s.is F.ICH_CTL_arm n = false) (hv : v.getLsbD 17 = true)
    (hp : KeepsPower (s.tick t) n v.toNat) (hok : ichArmRefused (s.tick t) n v.toNat = false) :
    Does (.ichArm t n v) s (fun s' => IchFrame t n [.ICH_CTL] s s' ∧ s'.is F.ICH_CTL_arm n = true ∧
      s'.is F.ICH_CTL_en n = s.is F.ICH_CTL_en n ∧ s'.get F.ICH_CTL_mode n = F.ICH_CTL_mode.of v.toNat ∧
      s'.ichOf n = { s.ichOf n with winNo := 0, armNo := (s.ichOf n).armNo + 1, edges := [], win := none }) := by
  have hx : F.ICH_CTL_arm.of v.toNat = 1 := by rw [Fld.of_bit rfl, hv]; rfl
  have hstore := ichCtlStore_armed hp harm hx hok
  refine does_of_ctlWrite (show execIchArm t n v s = _ from rfl) hidle (by simp [harm, hx]) ⟨ichCtlWrite_frame ?_, ?_, ?_, ?_, ?_⟩
  · rw [hstore]
    exact (((IchKeeps.refl _).setIch _).put 1 (.own (.head _))).storeCfg (.own (.head _)) _
  · rw [ichCtlWrite_is n (by decide), hstore, ichStoreCfg_is n (by decide), State.put_is_same _ _ _ _ (by decide)]; rfl
  · rw [ichCtlWrite_is n (by decide), hstore, ichStoreCfg_is n (by decide), State.put_is_apart _ _ (by decide)]; rfl
  · rw [ichCtlWrite_get n (by decide), hstore, ichStoreCfg_mode]
  · rw [ichCtlWrite_ichOf, hstore, ichStoreCfg_ichOf, put_ichOf]
    exact State.setIch_ichOf ..

theorem ichDisarm_does (hidle : HwIdle t .ICH_CTL n s) (harm : s.is F.ICH_CTL_arm n = true) (hv : v.getLsbD 17 = false)
    (hp : KeepsPower (s.tick t) n v.toNat) :
    Does (.ichDisarm t n v) s (fun s' => IchFrame t n [.ICH_CTL] s s' ∧ s'.is F.ICH_CTL_arm n = false ∧
      s'.is F.ICH_CTL_en n = s.is F.ICH_CTL_en n ∧ s'.ichOf n = { s.ichOf n with edges := [], win := none }) := by
  have hx : F.ICH_CTL_arm.of v.toNat = 0 := by rw [Fld.of_bit rfl, hv]; rfl
  have hstore := ichCtlStore_disarm hp harm hx
  refine does_of_ctlWrite (show execIchDisarm t n v s = _ from rfl) hidle (by simp [harm, hx]) ⟨ichCtlWrite_frame ?_, ?_, ?_, ?_⟩
  · rw [hstore]
    exact ((IchKeeps.refl _).disarm.put 0 (.own (.head _))).storeCfg (.own (.head _)) _
  · rw [ichCtlWrite_is n (by decide), hstore, ichStoreCfg_is n (by decide), State.put_is_same _ _ _ _ (by decide)]; rfl
  · rw [ichCtlWrite_is n (by decide), hstore, ichStoreCfg_is n (by decide), State.put_is_apart _ _ (by decide)]; rfl
  · rw [ichCtlWrite_ichOf, hstore, ichStoreCfg_ichOf, put_ichOf]
    exact State.setIch_ichOf ..

end

end Sys2Proof.Machine

namespace Sys2Proof.Settled

open Sys2Proof.Machine

/-- Settles O23: a write of ICH_CTL stores the whole value in a cycle without a hardware update, and each case of its store has the frame of a
command on the channel. -/
theorem integratorPowerAndArming : Obligations.IntegratorPowerAndArming := by
  refine ⟨fun t n v s => ⟨ichEnable_does, fun d => ichReady_does, ichDisable_does, fun d => calrefReady_does⟩, ?_⟩
  intro t n v s h bad hidle
  have hbad_iff : ichArmRefused (s.tick t) n v.toNat = true ↔ bad := by
    have hmode : F.ICH_CTL_mode.of v.toNat = 1 ↔ v.getLsbD 13 = true := by rw [Fld.of_bit rfl]; exact Bool.toNat_eq_one
    rw [ichArmRefused_iff, hmode]; rfl
  refine ⟨fun harm hv hp => ⟨fun hbad => ?_, fun hok => ?_⟩, fun harm hv hp => ?_⟩
  · exact ichArm_refused_does hidle harm hv (keepsPower_of_bit hp) (hbad_iff.2 hbad)
  · exact ichArm_does hidle harm hv (keepsPower_of_bit hp) (Bool.eq_false_iff.2 fun hr => hok (hbad_iff.1 hr))
  · exact ichDisarm_does hidle harm hv (keepsPower_of_bit hp)

end Sys2Proof.Settled
end

section
/-! PROOFS. The windows of an integrator channel: triggers, edge instants, and the windows that they open, close and merge
(02_integrator_channels.md, R36 to R42). -/

namespace Sys2Proof.Machine

section
variable {s u : State} {n ch : Nat} {l : List RegName}

/-! ### A missed trigger -/

theorem IchKeeps.miss (h : IchKeeps n ch (IchMay n ch l) s u) (hstat : .ICH_STAT ∈ l) (hcnt : .ICH_MISSCNT ∈ l) :
    IchKeeps n ch (IchMay n ch l) s (ichMiss u n) := ((h.incSat (.own hcnt)).flag (.own hstat)).fireIf .pend .lost _ _

@[simp] theorem ichMiss_ichOf (m : Nat) : (ichMiss s n).ichOf m = s.ichOf m := by
  rw [ichMiss, fireIf_ichOf, flag_ichOf, incSat_ichOf]

theorem ichMiss_miss : (ichMiss s n).is F.ICH_STAT_miss n = true := by
  rw [ichMiss, fireIf_is _ _ _ _ (by decide) (by decide), is_flag _ _ _ rfl (by decide)]

/-- R41: the count of missed triggers saturates. -/
theorem ichMiss_count : (ichMiss s n).get F.ICH_MISSCNT_count n = min (s.get F.ICH_MISSCNT_count n + 1) 262143 := by
  rw [ichMiss, fireIf_get _ _ _ _ (by decide) (by decide), State.flag_get_apart _ (by decide), State.incSat_get_same _ _ _ (by decide)]; rfl

/-! ### Triggers -/

/-- R37: the condition of a trigger's command is that a trigger can come. -/
theorem ichTriggerAt_iff {t : Nat} : ichTriggerAt s n t = true ↔ TriggerComes t n s := by
  unfold ichTriggerAt TriggerComes
  rw [Bool.and_eq_true, Option.all_eq_true]
  refine and_congr (by simp) ?_
  split
  · exact Iff.rfl
  · exact beq_iff_eq

/-- The state in which a trigger that has come at `t` acts: its event has reached the channel's tap. -/
def triggerTaken (s : State) (n t : Nat) : State :=
  (if s.is F.ICH_CTL_trgsrc n then arrive s (s.get F.ICH_TRGEV_ch n) ⟨2, n⟩ t else s).setIch n { s.ichOf n with trgAt := some t }

@[simp] theorem triggerTaken_ichOf (t : Nat) : (triggerTaken s n t).ichOf n = { s.ichOf n with trgAt := some t } := State.setIch_ichOf ..

@[simp] theorem triggerTaken_get (t : Nat) (f : Fld) (i : Nat) : (triggerTaken s n t).get f i = s.get f i := by
  unfold triggerTaken; split <;> rfl

theorem IchKeeps.triggerTaken (t : Nat) {may : RegName → Nat → Prop} (hch : s.get F.ICH_TRGEV_ch n = ch) :
    IchKeeps n ch may s (triggerTaken s n t) := by
  subst hch
  unfold Machine.triggerTaken
  split
  · exact ((IchKeeps.refl s).setEv _).setIch _
  · exact (IchKeeps.refl s).setIch _

theorem exec_ichTrigger {t : Nat} {n : Fin 128} {s : State} : exec (.ichTrigger t n) s =
    event t s (fun s => s.is F.ICH_CTL_arm n && s.is F.ICH_STAT_ready n && ichTriggerAt s n t) (fun s => ichTrigger (triggerTaken s n t) n t) := by
  have heff : ∀ u : State, (let u' := if u.is F.ICH_CTL_trgsrc n then arrive u (u.get F.ICH_TRGEV_ch n) ⟨2, n⟩ t else u
      ichTrigger (u'.setIch n { u'.ichOf n with trgAt := some t }) n t) = ichTrigger (triggerTaken u n t) n t := fun u => by
    unfold triggerTaken; dsimp only; split <;> rfl
  show execIchTrigger t n s = _
  rw [execIchTrigger]
  exact congrArg (event t s _) (funext heff)

/-- R41: the trigger at `t` is dropped. -/
def DropsTrigger (s : State) (n t : Nat) : Prop := 4 ≤ (s.ichOf n).edges.length ∨
  (s.is F.ICH_CTL_mode n = true ∧ ∃ last ∈ (s.ichOf n).edges.getLast?, t + s.get F.ICH_DELAY_d n < last + s.get F.ICH_WLEN_len n)

theorem ichTrigger_dropped {t : Nat} (h : DropsTrigger s n t) : ichTrigger s n t = ichMiss s n := by
  refine if_pos ?_
  rw [Bool.or_eq_true, decide_eq_true_eq]
  refine h.imp_right ?_
  rintro ⟨hmode, last, hlast, hlt⟩
  rw [Option.mem_def] at hlast
  simp only [hlast, hmode, hlt, decide_true, Bool.and_self]

theorem ichTrigger_queued {t : Nat} (h : ¬ DropsTrigger s n t) : ichTrigger s n t =
    s.setIch n { s.ichOf n with edges := (s.ichOf n).edges ++ [t + s.get F.ICH_DELAY_d n] } := by
  refine if_neg fun hc => h ?_
  rw [Bool.or_eq_true, decide_eq_true_eq] at hc
  refine hc.imp_right fun hover => ?_
  split at hover
  · next last hlast =>
    rw [Bool.and_eq_true, decide_eq_true_eq] at hover
    exact ⟨hover.1, last, hlast, hover.2⟩
  · exact absurd hover (by decide)

/-! ### Windows -/

/-- The oldest pending edge instant has been taken. -/
def edgeTaken (s : State) (n : Nat) : State := s.setIch n { s.ichOf n with edges := (s.ichOf n).edges.drop 1 }

@[simp] theorem edgeTaken_ichOf : (edgeTaken s n).ichOf n = { s.ichOf n with edges := (s.ichOf n).edges.drop 1 } := State.setIch_ichOf ..

section
variable {e : Nat} {d r : Int} {w : OpenWin}

theorem ichEdge_eq (s : State) (n e : Nat) (d r : Int) : ichEdge s n e d r = match (s.ichOf n).win with
    | none => ichOpen (edgeTaken s n) n e r
    | some w =>
      if s.is F.ICH_CTL_mode n then ichClose (edgeTaken s n) n e w d r false
      else if e < w.openAt + 512 then
        (ichMiss (edgeTaken s n) n).setIch n { (ichMiss (edgeTaken s n) n).ichOf n with win := some { w with merged := true } }
      else ichOpen (ichClose (edgeTaken s n) n e w d r false) n e r := rfl

/-- R39: the first edge instant of an arming opens a window. -/
theorem ichEdge_first (hw : (s.ichOf n).win = none) : ichEdge s n e d r = ichOpen (edgeTaken s n) n e r := by
  rw [ichEdge_eq, hw]

/-- R40: an edge instant closes the FIXED window. -/
theorem ichEdge_fixed (hw : (s.ichOf n).win = some w) (hm : s.is F.ICH_CTL_mode n = true) :
    ichEdge s n e d r = ichClose (edgeTaken s n) n e w d r false := by
  rw [ichEdge_eq, hw]; exact if_pos hm

/-- R42: an edge instant too close to the open instant merges. -/
theorem ichEdge_merged (hw : (s.ichOf n).win = some w) (hm : s.is F.ICH_CTL_mode n = false) (he : e < w.openAt + 512) :
    ichEdge s n e d r = (ichMiss (edgeTaken s n) n).setIch n { (edgeTaken s n).ichOf n with win := some { w with merged := true } } := by
  rw [ichEdge_eq, hw, ichMiss_ichOf]; exact (if_neg (Bool.not_eq_true _ ▸ hm)).trans (if_pos he)

/-- R39: an edge instant closes the window and opens the next. -/
theorem ichEdge_next (hw : (s.ichOf n).win = some w) (hm : s.is F.ICH_CTL_mode n = false) (he : w.openAt + 512 ≤ e) :
    ichEdge s n e d r = ichOpen (ichClose (edgeTaken s n) n e w d r false) n e r := by
  rw [ichEdge_eq, hw]; exact (if_neg (Bool.not_eq_true _ ▸ hm)).trans (if_neg (Nat.not_lt.2 he))

/-- R54: a window that opens is the next of its arming. -/
theorem ichOpen_ichOf : (ichOpen s n e r).ichOf n = { s.ichOf n with
    winNo := (s.ichOf n).winNo + 1, win := some ⟨e, r, false, probeLeg (s.get F.ICH_PROBE_n n) ((s.ichOf n).winNo + 1)⟩ } := State.setIch_ichOf ..

/-- R35, R48: a window that closes joins the windows in normalization. -/
theorem ichClose_ichOf (s : State) (n e : Nat) (w : OpenWin) (d r : Int) (forced : Bool) : ∃ nw : NormWin,
    (ichClose s n e w d r forced).ichOf n = { s.ichOf n with win := none, norms := (s.ichOf n).norms ++ [nw] } ∧
    nw.raw = 128 * d + r - w.res ∧ nw.len = e - w.openAt ∧ nw.start = (e + 63) / 64 * 64 ∧ nw.merged = w.merged ∧ nw.forced = forced :=
  ⟨_, State.setIch_ichOf .., rfl, rfl, rfl, rfl, rfl⟩

variable {may : RegName → Nat → Prop}

theorem IchKeeps.edge (h : IchKeeps n ch may s u) : IchKeeps n ch may s (edgeTaken u n) := h.setIch _

theorem IchKeeps.opens (h : IchKeeps n ch may s u) : IchKeeps n ch may s (ichOpen u n e r) := h.setIch _

theorem IchKeeps.closes (h : IchKeeps n ch may s u) {forced : Bool} : IchKeeps n ch may s (ichClose u n e w d r forced) := h.setIch _

end

end

/-! ### The commands -/

section
variable {t : Nat} {n : Fin 128} {s : State}

theorem ichTrigger_queued_does (harm : s.is F.ICH_CTL_arm n = true) (hready : s.is F.ICH_STAT_ready n = true) (hcomes : TriggerComes t n s)
    (hq : ¬ DropsTrigger s n t) : Does (.ichTrigger t n) s (fun s' => IchFrame t n [] s s' ∧
      s'.ichOf n = { s.ichOf n with edges := (s.ichOf n).edges ++ [t + s.get F.ICH_DELAY_d n], trgAt := some t }) := by
  have hq' : ¬ DropsTrigger (triggerTaken (s.tick t) n t) n t := by
    simpa only [DropsTrigger, triggerTaken_ichOf, State.is, triggerTaken_get, tick_ichOf, State.tick_get] using hq
  have hcomes' : ichTriggerAt (s.tick t) n t = true := ichTriggerAt_iff.2 hcomes
  refine does_of_event exec_ichTrigger (by simp [harm, hready, hcomes']) ?_
  rw [ichTrigger_queued hq']
  refine ⟨((IchKeeps.triggerTaken (s := s.tick t) t rfl).setIch _).ichFrame, ?_⟩
  simp only [State.setIch_ichOf, triggerTaken_ichOf, triggerTaken_get]
  rfl

theorem ichTrigger_dropped_does (harm : s.is F.ICH_CTL_arm n = true) (hready : s.is F.ICH_STAT_ready n = true) (hcomes : TriggerComes t n s)
    (hd : DropsTrigger s n t) : Does (.ichTrigger t n) s (fun s' => IchFrame t n [.ICH_STAT, .ICH_MISSCNT] s s' ∧
      s'.is F.ICH_STAT_miss n = true ∧ s'.get F.ICH_MISSCNT_count n = min (s.get F.ICH_MISSCNT_count n + 1) 262143 ∧
      s'.ichOf n = { s.ichOf n with trgAt := some t }) := by
  have hd' : DropsTrigger (triggerTaken (s.tick t) n t) n t := by
    simpa only [DropsTrigger, triggerTaken_ichOf, State.is, triggerTaken_get, tick_ichOf, State.tick_get] using hd
  have hcomes' : ichTriggerAt (s.tick t) n t = true := ichTriggerAt_iff.2 hcomes
  refine does_of_event exec_ichTrigger (by simp [harm, hready, hcomes']) ?_
  rw [ichTrigger_dropped hd']
  refine ⟨((IchKeeps.triggerTaken (s := s.tick t) t rfl).miss (by simp) (by simp)).ichFrame, ichMiss_miss, ?_, ?_⟩
  · rw [ichMiss_count, triggerTaken_get, State.tick_get]
  · rw [ichMiss_ichOf, triggerTaken_ichOf, tick_ichOf]

variable {e : Nat} {l : List Nat} {d : Int} {r : BitVec 7} {w : OpenWin} {P : State → Prop}

/-- The command of an edge instant where no window is open takes place in CONTIGUOUS mode. -/
theorem windowEdge_first_does (hedges : (s.ichOf n).edges = e :: l) (he : e ≤ max s.now t) (hw : (s.ichOf n).win = none)
    (hm : s.is F.ICH_CTL_mode n = false) : Does (.windowEdge t n d r) s (fun s' => IchFrame t n [] s s' ∧ (s'.ichOf n).edges = l ∧
      (s'.ichOf n).norms = (s.ichOf n).norms ∧ ∃ leg, (s'.ichOf n).win = some ⟨e, r.toInt, false, leg⟩) := by
  refine does_of_event (show execWindowEdge t n d r s = _ from rfl) (by simp [hedges, he, hw, hm]) ?_
  rw [tick_ichOf, hedges, List.headD_cons, ichEdge_first (s := s.tick t) hw]
  refine ⟨(IchKeeps.refl _).edge.opens.ichFrame, ?_⟩
  simp only [ichOpen_ichOf, edgeTaken_ichOf, tick_ichOf, hedges]
  exact ⟨rfl, trivial, _, rfl⟩

/-- The command of an edge instant while a window is open takes place in FIXED mode, and up to the maximum length in CONTIGUOUS mode. -/
theorem windowEdge_open_does (hedges : (s.ichOf n).edges = e :: l) (he : e ≤ max s.now t) (hw : (s.ichOf n).win = some w)
    (hd : decisionsOk w.openAt e d = true) (hm : s.is F.ICH_CTL_mode n = true ∨ e ≤ w.openAt + 17179869120)
    (hP : P (ichEdge (s.tick t) n e d r.toInt)) : Does (.windowEdge t n d r) s P := by
  refine does_of_event (show execWindowEdge t n d r s = _ from rfl) ?_ ?_
  · have hm' : s.is F.ICH_CTL_mode n = true ∨ e ≤ w.openAt + ichMax := hm
    simpa [hedges, he, hw, hd] using hm'
  · rwa [tick_ichOf, hedges, List.headD_cons]

theorem windowEdge_next_does (hedges : (s.ichOf n).edges = e :: l) (he : e ≤ max s.now t) (hw : (s.ichOf n).win = some w)
    (hd : decisionsOk w.openAt e d = true) (hmin : w.openAt + 512 ≤ e) (hmax : e ≤ w.openAt + 17179869120)
    (hm : s.is F.ICH_CTL_mode n = false) : Does (.windowEdge t n d r) s (fun s' => IchFrame t n [] s s' ∧ (s'.ichOf n).edges = l ∧
      (∃ leg, (s'.ichOf n).win = some ⟨e, r.toInt, false, leg⟩) ∧
      ∃ nw, (s'.ichOf n).norms = (s.ichOf n).norms ++ [nw] ∧ nw.raw = 128 * d + r.toInt - w.res ∧ nw.len = e - w.openAt ∧
        nw.start = (e + 63) / 64 * 64 ∧ nw.merged = w.merged ∧ nw.forced = false) := by
  refine windowEdge_open_does hedges he hw hd (.inr hmax) ?_
  obtain ⟨nw, hclose, hnw⟩ := ichClose_ichOf (edgeTaken (s.tick t) n) n e w d r.toInt false
  rw [ichEdge_next (s := s.tick t) hw hm hmin]
  refine ⟨(IchKeeps.refl _).edge.closes.opens.ichFrame, ?_⟩
  simp only [ichOpen_ichOf, hclose, edgeTaken_ichOf, tick_ichOf, hedges]
  exact ⟨rfl, ⟨_, rfl⟩, nw, rfl, hnw⟩

theorem windowEdge_merged_does (hedges : (s.ichOf n).edges = e :: l) (he : e ≤ max s.now t) (hw : (s.ichOf n).win = some w)
    (hd : decisionsOk w.openAt e d = true) (hmin : e < w.openAt + 512) (hm : s.is F.ICH_CTL_mode n = false) :
    Does (.windowEdge t n d r) s (fun s' => IchFrame t n [.ICH_STAT, .ICH_MISSCNT] s s' ∧ s'.is F.ICH_STAT_miss n = true ∧
      (s'.ichOf n).win = some { w with merged := true } ∧ (s'.ichOf n).norms = (s.ichOf n).norms) := by
  refine windowEdge_open_does hedges he hw hd (.inr (by omega)) ?_
  rw [ichEdge_merged (s := s.tick t) hw hm hmin]
  refine ⟨(((IchKeeps.refl _).edge.miss (by simp) (by simp)).setIch _).ichFrame, ichMiss_miss, ?_⟩
  simp only [State.setIch_ichOf, edgeTaken_ichOf, tick_ichOf]
  trivial

theorem windowEdge_fixed_does (hedges : (s.ichOf n).edges = e :: l) (he : e ≤ max s.now t) (hw : (s.ichOf n).win = some w)
    (hd : decisionsOk w.openAt e d = true) (hm : s.is F.ICH_CTL_mode n = true) :
    Does (.windowEdge t n d r) s (fun s' => IchFrame t n [] s s' ∧ (s'.ichOf n).edges = l ∧ (s'.ichOf n).win = none ∧
      (s'.ichOf n).norms.length = (s.ichOf n).norms.length + 1) := by
  refine windowEdge_open_does hedges he hw hd (.inl hm) ?_
  obtain ⟨nw, hclose, -⟩ := ichClose_ichOf (edgeTaken (s.tick t) n) n e w d r.toInt false
  rw [ichEdge_fixed (s := s.tick t) hw hm]
  refine ⟨(IchKeeps.refl _).edge.closes.ichFrame, ?_⟩
  simp only [hclose, edgeTaken_ichOf, tick_ichOf, hedges, List.length_append, List.length_singleton]
  exact ⟨rfl, trivial, trivial⟩

theorem fixedWindowOpen_does (hedges : (s.ichOf n).edges = e :: l) (he : e ≤ max s.now t + s.get F.ICH_WLEN_len n)
    (hw : (s.ichOf n).win = none) (hm : s.is F.ICH_CTL_mode n = true) : Does (.fixedWindowOpen t n r) s (fun s' => IchFrame t n [] s s' ∧
      (s'.ichOf n).edges = (s.ichOf n).edges ∧ ∃ leg, (s'.ichOf n).win = some ⟨e - s.get F.ICH_WLEN_len n, r.toInt, false, leg⟩) := by
  refine does_of_event (show execFixedWindowOpen t n r s = _ from rfl) (by simp [hedges, he, hw, hm]) ?_
  rw [tick_ichOf, hedges, List.headD_cons]
  refine ⟨(IchKeeps.refl _).opens.ichFrame, ?_⟩
  simp only [ichOpen_ichOf, tick_ichOf, hedges]
  exact ⟨trivial, _, rfl⟩

theorem forcedClose_does (hw : (s.ichOf n).win = some w) (hm : s.is F.ICH_CTL_mode n = false) (hnow : w.openAt + 17179869120 ≤ max s.now t)
    (hedges : ∀ e ∈ (s.ichOf n).edges, w.openAt + 17179869120 < e) (hd : decisionsOk w.openAt (w.openAt + 17179869120) d = true) :
    Does (.forcedClose t n d r) s (fun s' => IchFrame t n [] s s' ∧
      (∃ leg, (s'.ichOf n).win = some ⟨w.openAt + 17179869120, r.toInt, false, leg⟩) ∧
      ∃ nw, (s'.ichOf n).norms = (s.ichOf n).norms ++ [nw] ∧ nw.forced = true ∧ nw.len = 17179869120) := by
  refine does_of_event (show execForcedClose t n d r s = _ from rfl) ?_ ?_
  · have hnow' : w.openAt + ichMax ≤ max s.now t := hnow
    have hd' : decisionsOk w.openAt (w.openAt + ichMax) d = true := hd
    have hedges' : ∀ e ∈ (s.ichOf n).edges, w.openAt + ichMax < e := hedges
    simpa [hw, hm, hnow', hd'] using hedges'
  obtain ⟨nw, hclose, -, hlen, -, -, hforced⟩ := ichClose_ichOf (s.tick t) n (w.openAt + ichMax) w d r.toInt true
  have hlen' : nw.len = 17179869120 := hlen.trans (Nat.add_sub_cancel_left ..)
  simp only [tick_ichOf, hw]
  refine ⟨(IchKeeps.refl _).closes.opens.ichFrame, ?_⟩
  simp only [ichOpen_ichOf, hclose, tick_ichOf]
  exact ⟨⟨_, rfl⟩, nw, rfl, hforced, hlen'⟩

end

/-- R36 to R42: what triggers and edge instants do. -/
theorem windowsRules : WindowsRules := by
  intro t n s h edge dropped
  refine ⟨fun harm hready hcomes => ⟨ichTrigger_queued_does harm hready hcomes, ichTrigger_dropped_does harm hready hcomes⟩,
    fun e l d r hedges he => ⟨windowEdge_first_does hedges he, fun w hw hd => ⟨windowEdge_next_does hedges he hw hd,
      windowEdge_merged_does hedges he hw hd, windowEdge_fixed_does hedges he hw hd⟩⟩,
    fun e l r => fixedWindowOpen_does, fun w d r => forcedClose_does⟩

end Sys2Proof.Machine
end

section
/-! PROOFS. The results of an integrator channel: the normalized sample, the flags, the probe test and the overload flags
(02_integrator_channels.md, R46 to R55). -/

namespace Sys2Proof.Machine

/-! ### The normalized sample (R47) -/

/-- R109: the rounded quotient is the nearest integer, ties away from zero. -/
theorem roundDiv_eq (num : Int) {den : Nat} (hden : 0 < den) :
    roundDiv num den = if 0 ≤ (num / den : ℚ) then ⌊(num / den : ℚ) + 1 / 2⌋ else ⌈(num / den : ℚ) - 1 / 2⌉ := by
  have hq : (0 : ℚ) < den := by exact_mod_cast hden
  have half : ∀ m : Int, (m / den : ℚ) + 1 / 2 = ((2 * m + den : Int) : ℚ) / ((2 * den : Nat) : ℚ) := fun m => by
    push_cast; field_simp
  have hfloor : ∀ m : Int, ⌊(m / den : ℚ) + 1 / 2⌋ = (2 * m + den) / (2 * den) := fun m => by
    rw [half, Rat.floor_intCast_div_natCast]; push_cast; rfl
  have hneg : (num / den : ℚ) - 1 / 2 = -(((-num : Int) / den : ℚ) + 1 / 2) := by push_cast; ring
  have hsign : 0 ≤ (num / den : ℚ) ↔ 0 ≤ num := by rw [le_div_iff₀ hq, zero_mul, Int.cast_nonneg_iff]
  rw [hneg, Int.ceil_neg, hfloor, hfloor, roundDiv]
  exact ite_congr (propext hsign.symm) (fun _ => rfl) (fun _ => rfl)

/-- R47: the exact value of a sample. -/
def exactSample (raw : Int) (len : Nat) (c o : Int) : ℚ := (raw * 65536 / len) * (1 + c / 2097152) + o / 16

theorem ichNorm_eq {raw : Int} {len : Nat} {c o : Int} (hlen : 0 < len) : ichNorm raw len c o =
    if 0 ≤ exactSample raw len c o then ⌊exactSample raw len c o + 1 / 2⌋ else ⌈exactSample raw len c o - 1 / 2⌉ := by
  have hq : (len : ℚ) ≠ 0 := by exact_mod_cast hlen.ne'
  have hexact : exactSample raw len c o =
      ((raw * 65536 * (2097152 + c) * 16 + o * len * 2097152 : Int) : ℚ) / ((len * 2097152 * 16 : Nat) : ℚ) := by
    rw [exactSample]; push_cast; field_simp
  rw [hexact, ichNorm, roundDiv_eq _ (by omega)]

theorem sat18_bne (x : Int) : (sat18 x != x) = decide (x < -131072 ∨ 131071 < x) := by
  rw [Bool.eq_iff_iff, bne_iff_ne, decide_eq_true_eq, sat18]
  omega

theorem ux_mod (w : Nat) (y : Int) : ux w y % 2 ^ w = ux w y := Nat.mod_eq_of_lt (BitVec.isLt _)

/-- A signed value in the range of its code reads back. -/
theorem sx_ux {w : Nat} {y : Int} (hw : 0 < w) (hlo : -2 ^ (w - 1) ≤ y) (hhi : y < 2 ^ (w - 1)) : sx w (ux w y) = y := by
  rw [sx, ux, BitVec.ofNat_toNat, BitVec.setWidth_eq, BitVec.toInt_ofInt_eq_self hw hlo hhi]

/-! ### The result registers (R46, R48, R49, R53, R54) -/

section
variable {s u : State} {n ch : Nat} {l : List RegName} {w : NormWin} {y : Int} {sat : Bool}

theorem IchKeeps.publish {may : RegName → Nat → Prop} (h : IchKeeps n ch may s u)
    (hm : ∀ r ∈ [RegName.ICH_RAW, .ICH_NORM, .ICH_TLEN, .ICH_RSTAT], may r n) : IchKeeps n ch may s (ichPublish u n w y sat) := by
  simp only [List.forall_mem_cons] at hm
  obtain ⟨hraw, hnorm, hlen, hstat, -⟩ := hm
  exact ((((((((((h.put _ hraw).put _ hnorm).put _ hlen).put _ hstat).put _ hstat).put _ hstat).put _ hstat).put _ hstat).put _
    hstat).put _ hstat).put _ hstat

theorem ichPublish_raw : (ichPublish s n w y sat).get F.ICH_RAW_qu n = ux 36 w.raw := by
  simp (disch := decide) only [ichPublish, State.put_get_same, State.put_get_apart, ux_mod]

theorem ichPublish_norm : (ichPublish s n w y sat).get F.ICH_NORM_value n = ux 18 y := by
  simp (disch := decide) only [ichPublish, State.put_get_same, State.put_get_apart, ux_mod]

theorem ichPublish_tlen : (ichPublish s n w y sat).get F.ICH_TLEN_t n = w.len % 2 ^ 36 := by
  simp (disch := decide) only [ichPublish, State.put_get_same, State.put_get_apart]

theorem ichPublish_seq : (ichPublish s n w y sat).get F.ICH_RSTAT_seq n = (s.get F.ICH_RSTAT_seq n + 1) % 2 ^ 8 := by
  simp (disch := decide) only [ichPublish, State.put_get_same, State.put_get_apart]

theorem ichPublish_flags : (ichPublish s n w y sat).is F.ICH_RSTAT_ovld n = w.ovld ∧ (ichPublish s n w y sat).is F.ICH_RSTAT_merged n = w.merged ∧
    (ichPublish s n w y sat).is F.ICH_RSTAT_forced n = w.forced ∧ (ichPublish s n w y sat).is F.ICH_RSTAT_sat n = sat ∧
    (ichPublish s n w y sat).is F.ICH_RSTAT_cal n = w.cal ∧ (ichPublish s n w y sat).is F.ICH_RSTAT_probe n = w.leg.isSome ∧
    (ichPublish s n w y sat).is F.ICH_RSTAT_leg n = (w.leg == some true) := by
  simp (disch := decide) only [ichPublish, State.put_is_same, State.put_is_apart, b2n_mod_two, and_self]

@[simp] theorem ichPublish_ichOf (m : Nat) : (ichPublish s n w y sat).ichOf m = s.ichOf m := by
  simp only [ichPublish, put_ichOf]

/-- The result registers are not ICH_STAT. -/
theorem ichPublish_stat {f : Fld} (i : Nat) (hf : f.reg = .ICH_STAT) : (ichPublish s n w y sat).is f i = s.is f i := by
  have apart : ∀ {g : Fld} (u : State) (x : Nat), g.reg ≠ .ICH_STAT → (u.put g n x).is f i = u.is f i :=
    fun u x hg => u.put_is_apart x (fun e => absurd (e.symm.trans hf) hg)
  simp (disch := decide) only [ichPublish, apart]

/-! ### The probe test (R55) -/

/-- The leg that the probe test finds open at a result `y`, if it finds one (true: AIN). -/
def openLeg (h : IchS) (w : NormWin) (y : Int) : Option Bool :=
  match h.hist with
  | [q, p] => if q.armNo == w.armNo && p.armNo == w.armNo && probeHit q p ⟨y, w.ovld || w.merged, w.leg, w.armNo⟩ w.thr then p.leg else none
  | _ => none

/-- The test's memory after a result: the last two samples. -/
def histAfter (h : IchS) (w : NormWin) (y : Int) : List Sample :=
  (h.hist ++ [(⟨y, w.ovld || w.merged, w.leg, w.armNo⟩ : Sample)]).drop (h.hist.length - 1)

/-- R55: the flag that tells that a leg is open (true: AIN). -/
def legFlag (ain : Bool) : Fld := if ain then F.ICH_STAT_openn else F.ICH_STAT_openp

/-- R55: the flag and the event of an open leg. -/
def openWireFlagged (s : State) (n : Nat) (w : NormWin) (ain : Bool) : State :=
  ((s.flag (legFlag ain) n).raise 3 n 2).fireIf w.openIen (144 + n)

theorem leg_of_probeHit {q p r : Sample} {thr : Nat} (h : probeHit q p r thr = true) : ∃ ain, p.leg = some ain := by
  unfold probeHit at h
  split at h
  · exact absurd h (by decide)
  · next ain hleg => exact ⟨ain, hleg⟩

theorem ichProbeTest_eq (s : State) (n : Nat) (w : NormWin) (y : Int) : ichProbeTest s n w y =
    (openLeg (s.ichOf n) w y).elim (s.setIch n { s.ichOf n with hist := histAfter (s.ichOf n) w y })
      (openWireFlagged (s.setIch n { s.ichOf n with hist := histAfter (s.ichOf n) w y }) n w) := by
  unfold ichProbeTest openLeg histAfter
  rcases hist : (s.ichOf n).hist with _ | ⟨q, _ | ⟨p, _ | ⟨_, _⟩⟩⟩
  all_goals simp only [hist]
  · rfl
  · rfl
  · split
    · next hhit =>
      obtain ⟨ain, hleg⟩ := leg_of_probeHit (Bool.and_eq_true_iff.1 hhit).2
      rw [hleg]
      cases ain <;> rfl
    · rfl
  · rfl

/-- R55: the test finds leg `ain` open where the sample of its probe window differs from both neighbours of one arming by more than the
threshold, against the drive's direction. -/
theorem openLeg_beq (h : IchS) (w : NormWin) (y : Int) (ain : Bool) : (openLeg h w y == some ain) = match h.hist with
    | [q, p] => p.leg == some ain && q.armNo == w.armNo && p.armNo == w.armNo && !(q.bad || p.bad || w.ovld || w.merged) &&
        (if ain then decide (q.y - p.y > w.thr) && decide (y - p.y > w.thr) else decide (p.y - q.y > w.thr) && decide (p.y - y > w.thr))
    | _ => false := by
  unfold openLeg
  rcases h.hist with _ | ⟨q, _ | ⟨p, _ | ⟨_, _⟩⟩⟩
  · rfl
  · rfl
  · rcases hleg : p.leg with _ | leg
    · simp [probeHit, hleg]
    · by_cases hain : leg = ain
      · subst hain
        have hite : ∀ b : Bool, ((if b then some leg else none) == some leg) = b := by intro b; cases b <;> simp
        simp only [probeHit, hleg, hite, BEq.rfl, Bool.true_and, Bool.or_assoc, Bool.and_assoc]
      · have hne : (some leg == some ain) = false := by simpa using hain
        simp only [hleg, hne, Bool.false_and]
        split
        · exact hne
        · rfl
  · rfl

theorem legFlag_reg (ain : Bool) : (legFlag ain).reg = .ICH_STAT := by cases ain <;> rfl

theorem openWireFlagged_is (s : State) (w : NormWin) (ain : Bool) {f : Fld} (hf : f.reg = .ICH_STAT) :
    (openWireFlagged s n w ain).is f n = (s.flag (legFlag ain) n).is f n := by
  rw [openWireFlagged, fireIf_is _ _ _ _ (by simp [hf]) (by simp [hf]), raise_is]

theorem IchKeeps.openWire (h : IchKeeps n ch (IchMay n ch l) s u) (hstat : .ICH_STAT ∈ l) (w : NormWin) (ain : Bool) :
    IchKeeps n ch (IchMay n ch l) s (openWireFlagged u n w ain) :=
  ((h.flag (legFlag_reg ain ▸ .own hstat)).raise (by decide)).fireIf .pend .lost _ _

theorem IchKeeps.probeTest (h : IchKeeps n ch (IchMay n ch l) s u) (hstat : .ICH_STAT ∈ l) (w : NormWin) (y : Int) :
    IchKeeps n ch (IchMay n ch l) s (ichProbeTest u n w y) := by
  rw [ichProbeTest_eq]
  cases openLeg (u.ichOf n) w y with
  | none => exact h.setIch _
  | some ain => exact (h.setIch _).openWire hstat w ain

theorem ichProbeTest_ichOf : (ichProbeTest s n w y).ichOf n = { s.ichOf n with hist := histAfter (s.ichOf n) w y } := by
  rw [ichProbeTest_eq]
  cases openLeg (s.ichOf n) w y with
  | none => exact State.setIch_ichOf ..
  | some ain => exact (fireIf_ichOf ..).trans (State.setIch_ichOf ..)

/-- The probe test writes no register but ICH_STAT and the vector registers. -/
theorem ichProbeTest_get {f : Fld} (i : Nat) (hf : f.reg ∉ [RegName.ICH_STAT, .EV_STAT, .VU_PEND, .VU_LOST]) :
    (ichProbeTest s n w y).get f i = s.get f i := by
  refine ((IchKeeps.refl (n := n) (ch := 0) (may := IchMay n 0 [.ICH_STAT]) s).probeTest (.head _) w y).get fun hmay => hf ?_
  generalize f.reg = r at hmay
  cases hmay <;> simp_all

/-- R55: the flag of a leg is set where the test finds that leg open, and kept else. -/
theorem ichProbeTest_legFlag (ain : Bool) : (ichProbeTest s n w y).is (legFlag ain) n =
    (s.is (legFlag ain) n || openLeg (s.ichOf n) w y == some ain) := by
  have hsame : ∀ u : State, (openWireFlagged u n w ain).is (legFlag ain) n = true := fun u => by
    rw [openWireFlagged_is _ _ _ (legFlag_reg _), is_flag]
    all_goals cases ain <;> decide
  have hother : ∀ u : State, (openWireFlagged u n w !ain).is (legFlag ain) n = u.is (legFlag ain) n := fun u => by
    rw [openWireFlagged_is _ _ _ (legFlag_reg _), State.flag_is_apart]
    cases ain <;> decide
  rw [ichProbeTest_eq]
  cases openLeg (s.ichOf n) w y with
  | none => exact (Bool.or_false _).symm
  | some leg =>
    by_cases hleg : leg = ain
    · subst hleg
      rw [BEq.rfl, Bool.or_true]; exact hsame _
    · obtain rfl : leg = !ain := Bool.eq_not_of_ne hleg
      rw [show (some (!ain) == some ain) = false by cases ain <;> rfl, Bool.or_false]; exact hother _

end

/-! ### A result (R48) -/

/-- R47, R53: the sample of a result, saturated, or by the sign of its overload. -/
def resultSample (w : NormWin) : Int :=
  if w.ovld then (if w.neg then -131072 else 131071) else sat18 (ichNorm w.raw w.len w.c w.o)

theorem sx_resultSample (w : NormWin) : sx 18 (ux 18 (resultSample w)) = resultSample w := by
  have hrange : -131072 ≤ resultSample w ∧ resultSample w ≤ 131071 := by
    unfold resultSample sat18
    split
    · split <;> decide
    · omega
  exact sx_ux (by decide) hrange.1 (Int.lt_of_le_sub_one hrange.2)

/-- The result registers of the oldest closed window are written, and it leaves normalization. -/
def resultWritten (s : State) (n : Nat) (w : NormWin) : State :=
  ichPublish (s.setIch n { s.ichOf n with norms := (s.ichOf n).norms.drop 1 }) n w (resultSample w)
    (sat18 (ichNorm w.raw w.len w.c w.o) != ichNorm w.raw w.len w.c w.o)

theorem ichResult_eq (s : State) (n : Nat) (w : NormWin) : ichResult s n w =
    ichProbeTest (((resultWritten s n w).raise 3 n 0).fireIf w.wdone (144 + n)) n w (resultSample w) := rfl

section
variable {s u : State} {n ch : Nat} {w : NormWin}

theorem resultWritten_ichOf : (resultWritten s n w).ichOf n = { s.ichOf n with norms := (s.ichOf n).norms.drop 1 } := by
  rw [resultWritten, ichPublish_ichOf, State.setIch_ichOf]

theorem resultWritten_out : (resultWritten s n w).out = s.out := by
  simp only [resultWritten, ichPublish, put_out, State.setIch_out]

theorem resultWritten_now : (resultWritten s n w).now = s.now := by
  simp only [resultWritten, ichPublish, put_now, State.setIch_now]

/-- The registers that a result writes. -/
abbrev resultRegs : List RegName := [.ICH_RAW, .ICH_NORM, .ICH_TLEN, .ICH_RSTAT, .ICH_STAT]

theorem IchKeeps.written (h : IchKeeps n ch (IchMay n ch resultRegs) s u) :
    IchKeeps n ch (IchMay n ch resultRegs) s ((resultWritten u n w).raise 3 n 0) :=
  ((h.setIch _).publish (fun _ hr => .own (List.mem_append_left [RegName.ICH_STAT] hr))).raise (by decide)

theorem IchKeeps.announced (h : IchKeeps n ch (IchMay n ch resultRegs) s u) :
    IchKeeps n ch (IchMay n ch resultRegs) s (ichProbeTest (u.fireIf w.wdone (144 + n)) n w (resultSample w)) :=
  (h.fireIf .pend .lost _ _).probeTest (by simp) _ _

/-- The first output of a command that begins with an event is that event. -/
theorem IchKeeps.out_raise {may : RegName → Nat → Prop} {ev : Nat} (h : IchKeeps n ch may (s.raise 3 n ev) u) (hs : s.out = []) :
    ∃ o, u.out = .fabric 3 n ev s.now :: o := by
  obtain ⟨o, ho⟩ := h.out
  have hraise : (s.raise 3 n ev).out = s.out ++ [.fabric 3 n ev s.now] := rfl
  exact ⟨o, by rw [← ho, hraise, hs]; rfl⟩

theorem ichResult_get {f : Fld} (hf : f.reg ∉ [RegName.ICH_STAT, .EV_STAT, .VU_PEND, .VU_LOST]) :
    (ichResult s n w).get f n = (resultWritten s n w).get f n := by
  rw [ichResult_eq, ichProbeTest_get n hf, fireIf_get _ _ _ _ (by simp_all) (by simp_all), raise_get]

theorem ichResult_is {f : Fld} (hf : f.reg ∉ [RegName.ICH_STAT, .EV_STAT, .VU_PEND, .VU_LOST]) :
    (ichResult s n w).is f n = (resultWritten s n w).is f n := congrArg (· == 1) (ichResult_get hf)

theorem ichResult_ichOf : (ichResult s n w).ichOf n =
    { s.ichOf n with norms := (s.ichOf n).norms.drop 1, hist := histAfter (s.ichOf n) w (resultSample w) } := by
  rw [ichResult_eq, ichProbeTest_ichOf, fireIf_ichOf, raise_ichOf, resultWritten_ichOf]
  rfl

theorem ichResult_legFlag (ain : Bool) : (ichResult s n w).is (legFlag ain) n =
    (s.is (legFlag ain) n || openLeg (s.ichOf n) w (resultSample w) == some ain) := by
  have hkept : (((resultWritten s n w).raise 3 n 0).fireIf w.wdone (144 + n)).is (legFlag ain) n = s.is (legFlag ain) n := by
    rw [fireIf_is _ _ _ _ (by simp [legFlag_reg]) (by simp [legFlag_reg]), raise_is, resultWritten, ichPublish_stat n (legFlag_reg ain), setIch_is]
  rw [ichResult_eq, ichProbeTest_legFlag, hkept, fireIf_ichOf, raise_ichOf, resultWritten_ichOf]
  rfl

end

/-! ### The commands -/

section
variable {t : Nat} {n : Fin 128} {s : State}

/-- R48: the result of the oldest closed window appears 6 ns after normalization began. -/
theorem does_of_windowResult {w : NormWin} {l : List NormWin} {P : State → Prop} (hnorms : (s.ichOf n).norms = w :: l)
    (hdue : w.start + 384 ≤ max s.now t) (hP : P (ichResult (s.tick t) n w)) : Does (.windowResult t n) s P := by
  refine does_of_event (show execWindowResult t n s = _ from rfl) ?_ ?_
  · simp only [tick_ichOf, hnorms]
    exact decide_eq_true hdue
  · simpa only [tick_ichOf, hnorms] using hP

theorem ichResult_frame (w : NormWin) : IchFrame t n resultRegs s (ichResult (s.tick t) n w) :=
  ((IchKeeps.refl _).written (w := w)).announced.ichFrame

theorem ichResult_values (s : State) (n : Nat) (w : NormWin) : (ichResult s n w).get F.ICH_RAW_qu n = (w.raw % 2 ^ 36).toNat ∧
    (ichResult s n w).getS F.ICH_NORM_value n = resultSample w ∧ (ichResult s n w).get F.ICH_TLEN_t n = w.len % 2 ^ 36 ∧
    (ichResult s n w).get F.ICH_RSTAT_seq n = (s.get F.ICH_RSTAT_seq n + 1) % 256 := by
  simp (disch := decide) only [State.getS, ichResult_get, resultWritten, ichPublish_raw, ichPublish_norm, ichPublish_tlen, ichPublish_seq,
    setIch_get, sx_resultSample, true_and]
  exact ⟨BitVec.toNat_ofInt _, rfl⟩

theorem ichResult_flags (s : State) (n : Nat) (w : NormWin) : (ichResult s n w).is F.ICH_RSTAT_ovld n = w.ovld ∧
    (ichResult s n w).is F.ICH_RSTAT_merged n = w.merged ∧ (ichResult s n w).is F.ICH_RSTAT_forced n = w.forced ∧
    (ichResult s n w).is F.ICH_RSTAT_sat n = (sat18 (ichNorm w.raw w.len w.c w.o) != ichNorm w.raw w.len w.c w.o) ∧
    (ichResult s n w).is F.ICH_RSTAT_cal n = w.cal ∧ (ichResult s n w).is F.ICH_RSTAT_probe n = w.leg.isSome ∧
    (ichResult s n w).is F.ICH_RSTAT_leg n = (w.leg == some true) := by
  simp (disch := decide) only [ichResult_is]
  exact ichPublish_flags

/-- R48: the window-complete event leaves the channel first. -/
theorem ichResult_out (w : NormWin) : ∃ o, (ichResult (s.tick t) n w).out = .fabric 3 n 0 (max s.now t : Nat) :: o := by
  have hkeeps : IchKeeps n 0 (IchMay n 0 resultRegs) ((resultWritten (s.tick t) n w).raise 3 n 0) (ichResult (s.tick t) n w) :=
    (IchKeeps.refl _).announced
  obtain ⟨o, ho⟩ := hkeeps.out_raise resultWritten_out
  exact ⟨o, by rw [ho, resultWritten_now, State.tick_now]⟩

theorem overloadSet_does {neg : Bool} (hr : s.rung < 3) (hen : s.is F.ICH_CTL_en n = true) (hnow : s.is F.ICH_STAT_ovldnow n = false)
    (hedge : max s.now t % 64 = 0) (hpow : ((s.ichOf n).powAt + 63) / 64 * 64 + 4160 ≤ max s.now t)
    (hclr : ∀ c, (s.ichOf n).ovClr = some c → (if neg = (s.ichOf n).ovNeg then c + 64 else c) ≤ max s.now t) :
    Does (.overloadSet t n neg) s (fun s' => IchFrame t n [.ICH_STAT] s s' ∧ s'.is F.ICH_STAT_ovldnow n = true ∧
      s'.is F.ICH_STAT_ovld n = true ∧ s'.ichOf n = { s.ichOf n with ovNeg := neg, ovSet := max s.now t } ∧
      ∃ o, s'.out = .fabric 3 n 1 (max s.now t : Nat) :: o) := by
  have hrun : overloadRun (s.tick t) n neg = true := by
    refine Bool.and_eq_true_iff.2 ⟨decide_eq_true hpow, (Option.all_eq_true _ _).2 fun c hc => ?_⟩
    have hle := hclr c hc
    split at hle
    · next heq => exact (if_pos heq).trans (decide_eq_true hle)
    · next hne => exact (if_neg hne).trans (decide_eq_true hle)
  have hkeeps : ∀ {s0 u : State} {ch : Nat} (b : Bool), IchKeeps n ch (IchMay n ch [.ICH_STAT]) s0 u →
      IchKeeps n ch (IchMay n ch [.ICH_STAT]) s0 (u.fireIf b (144 + n)) := fun b h => h.fireIf .pend .lost _ _
  refine does_of_event (show execOverloadSet t n neg s = _ from rfl) ?_ ⟨?_, ?_, ?_, ?_, ?_⟩
  · have htimer : timerOn (s.tick t) = true := decide_eq_true hr
    simp [htimer, hen, hnow, hedge, hrun]
  · exact (hkeeps _ (((((IchKeeps.refl _).setIch _).put 1 (.own (.head _))).flag (.own (.head _))).raise (by decide))).ichFrame
  · dsimp only
    rw [fireIf_is _ _ _ _ (by decide) (by decide), raise_is, State.flag_is_apart _ (by decide), State.put_is_same _ _ _ _ (by decide)]
    rfl
  · dsimp only
    rw [fireIf_is _ _ _ _ (by decide) (by decide), raise_is, is_flag _ _ _ rfl (by decide)]
  · dsimp only
    rw [fireIf_ichOf, raise_ichOf, flag_ichOf, put_ichOf]
    exact State.setIch_ichOf ..
  · exact (hkeeps (ch := 0) _ (IchKeeps.refl _)).out_raise rfl

theorem overloadClear_does (hnow : s.is F.ICH_STAT_ovldnow n = true) (hedge : max s.now t % 64 = 0)
    (hset : (s.ichOf n).ovSet + 4096 ≤ max s.now t) : Does (.overloadClear t n) s (fun s' => IchFrame t n [.ICH_STAT] s s' ∧
      s'.is F.ICH_STAT_ovldnow n = false ∧ s'.is F.ICH_STAT_ovld n = s.is F.ICH_STAT_ovld n ∧
      s'.ichOf n = { s.ichOf n with ovClr := some (max s.now t) }) := by
  refine does_of_event (show execOverloadClear t n s = _ from rfl) ?_
    ⟨(((IchKeeps.refl _).setIch _).put 0 (.own (.head _))).ichFrame, ?_, ?_, State.setIch_ichOf ..⟩
  · have hset' : (s.ichOf n).ovSet + ns 64 ≤ max s.now t := hset
    simp [hnow, hedge, hset']
  · rw [State.put_is_same _ _ _ _ (by decide)]; rfl
  · rw [State.put_is_apart _ _ (by decide)]; rfl

end

/-- R46 to R55: what a result and the overload flags hold. -/
theorem windowResultsRules : WindowResultsRules := by
  intro t n s h
  refine ⟨?_, fun neg => overloadSet_does, overloadClear_does⟩
  intro w l hnorms hdue hlen q x y hit
  have hx : ichNorm w.raw w.len w.c w.o = x := ichNorm_eq hlen
  have hy : resultSample w = y := by unfold resultSample sat18; rw [hx]
  have hhit : ∀ ain, (ichResult (s.tick t) n w).is (legFlag ain) n = (s.is (legFlag ain) n || hit ain) := fun ain => by
    rw [ichResult_legFlag, openLeg_beq, hy]; rfl
  obtain ⟨hraw, hnorm, htlen, hseq⟩ := ichResult_values (s.tick t) n w
  obtain ⟨hovld, hmerged, hforced, hsat, hcal, hprobe, hleg⟩ := ichResult_flags (s.tick t) n w
  refine does_of_windowResult hnorms hdue ⟨ichResult_frame w, hraw, hnorm.trans hy, htlen, hseq, hovld, hmerged, hforced, ?_, hcal, hprobe,
    hleg, hhit true, hhit false, ?_, ichResult_out w⟩
  · rw [hsat, sat18_bne, hx]
  · rw [ichResult_ichOf, tick_ichOf, hnorms, hy]; rfl

end Sys2Proof.Machine

namespace Sys2Proof.Settled

open Sys2Proof.Machine

/-- Settles O24: each command of a window or a result is one equation of the model, whose steps have the frame of a command on the channel; the
sample is the rational of R47 rounded, and the probe test finds at most one leg open. -/
theorem integratorWindows : Obligations.IntegratorWindows := ⟨windowsRules, windowResultsRules⟩

end Sys2Proof.Settled
end

section
/-! PROOFS. What a command of one unit keeps of the device, for units of every class: the registers that it may not write, the event sources of
the other units, and the hidden state that it does not work on. -/

namespace Sys2Proof.Machine

/-! ### Views of the state -/

/-- The view does not show the registers, what hardware did to them, the event sources, the sources of pending vectors, or the outputs. -/
def Blind {α : Type} (view : State → α) : Prop := ∀ (s : State) (out : List Out) (regs : Store (BitVec 36)) (hw : Store HwRec)
  (srcAt : Store (Option Int)) (vsrc : Store Nat),
  view { s with out := out, regs := regs, hw := hw, srcAt := srcAt, vsrc := vsrc } = view s

/-- From `s` to `s'` the part of the state in `view` is as it was, no event source but those of unit `inst` of class `cls` has occurred, and no
registers but those that `may` allows have been written. -/
structure Keeps {α : Type} (view : State → α) (cls inst : Nat) (may : RegName → Nat → Prop) (s s' : State) : Prop where
  blind : Blind view
  view : view s' = view s
  src : SourcesKept cls inst s s'
  reg : ∀ r i, ¬ may r i → RegKept r i s s'

/-- The registers that a command of unit `n` may write: its own of those in `own`, and every one of those in `any`. -/
def UnitMay (n : Nat) (own any : List RegName) (r : RegName) (i : Nat) : Prop := r ∈ any ∨ (r ∈ own ∧ i = n)

theorem UnitMay.own {n : Nat} {own any : List RegName} {r : RegName} (h : r ∈ own) : UnitMay n own any r n := .inr ⟨h, rfl⟩

section
variable {α : Type} {view : State → α} {cls inst : Nat} {may : RegName → Nat → Prop} {s u v : State}

theorem Keeps.refl (hv : Blind view) (s : State) : Keeps view cls inst may s s :=
  ⟨hv, rfl, fun _ _ => rfl, fun _ _ _ => ⟨rfl, rfl⟩⟩

theorem Keeps.trans (h : Keeps view cls inst may s u) (g : Keeps view cls inst may u v) : Keeps view cls inst may s v where
  blind := h.blind
  view := g.view.trans h.view
  src k hk := (g.src k hk).trans (h.src k hk)
  reg r i hr := ⟨(g.reg r i hr).1.trans (h.reg r i hr).1, (g.reg r i hr).2.trans (h.reg r i hr).2⟩

/-- A change of what the view does not show, the registers and the event sources aside. -/
theorem Keeps.hidden (h : Keeps view cls inst may s u) (hview : view v = view u) (hregs : v.regs = u.regs) (hhw : v.hw = u.hw)
    (hsrc : v.srcAt = u.srcAt) : Keeps view cls inst may s v :=
  h.trans ⟨h.blind, hview, fun k _ => congrArg (Store.get _ · k) hsrc, fun _ _ _ => regKept_of_eq hregs hhw⟩

theorem Keeps.put {f : Fld} {i : Nat} (h : Keeps view cls inst may s u) (x : Nat) (hf : may f.reg i) :
    Keeps view cls inst may s (u.put f i x) :=
  h.trans ⟨h.blind, h.blind u u.out _ u.hw u.srcAt u.vsrc, fun _ _ => rfl,
    fun _ _ hr => ⟨u.put_reg_ne x (fun e => hr (e.1 ▸ e.2 ▸ hf)), rfl⟩⟩

theorem Keeps.flag {f : Fld} {i : Nat} (h : Keeps view cls inst may s u) (hf : may f.reg i) : Keeps view cls inst may s (u.flag f i) :=
  (h.put 1 hf).trans ⟨h.blind, h.blind (u.put f i 1) u.out _ _ u.srcAt u.vsrc, fun _ _ => rfl, fun _ _ hr =>
    ⟨rfl, State.setHw_hwOf_ne _ _ (fun e => hr ((regKey_inj.1 e).1 ▸ (regKey_inj.1 e).2 ▸ hf))⟩⟩

/-- An interrupt source writes the vector registers alone. -/
theorem Keeps.fire (h : Keeps view cls inst may s u) (hpend : ∀ i, may .VU_PEND i) (hlost : ∀ i, may .VU_LOST i) (k : Nat) :
    Keeps view cls inst may s (u.fire k) := by
  have hemit : Keeps view cls inst may s (u.emit (.irq k)) :=
    h.hidden (h.blind u _ u.regs u.hw u.srcAt u.vsrc) rfl rfl rfl
  have hvsrc : ∀ {w : State} (j : Nat), Keeps view cls inst may s w → Keeps view cls inst may s (w.setVsrc j k) := fun {w} _ hw =>
    hw.hidden (h.blind w w.out w.regs w.hw w.srcAt _) rfl rfl rfl
  unfold State.fire
  dsimp only
  split
  · split
    · exact (hemit.flag (hlost _)).flag (hpend _)
    · split
      · exact hemit.flag (hlost _)
      · exact hvsrc _ (hemit.flag (hpend _))
  · exact hemit

theorem Keeps.fireIf (h : Keeps view cls inst may s u) (hpend : ∀ i, may .VU_PEND i) (hlost : ∀ i, may .VU_LOST i) (b : Bool) (k : Nat) :
    Keeps view cls inst may s (u.fireIf b k) := by
  cases b
  · exact h
  · exact h.fire hpend hlost k

/-- A wider allowance. -/
theorem Keeps.mono {may' : RegName → Nat → Prop} (h : Keeps view cls inst may s u) (hm : ∀ r i, may r i → may' r i) :
    Keeps view cls inst may' s u :=
  ⟨h.blind, h.view, h.src, fun r i hr => h.reg r i (mt (hm r i) hr)⟩

/-- An interrupt source changes nothing that a view shows. -/
theorem fireIf_view (hv : Blind view) (s : State) (b : Bool) (k : Nat) : view (s.fireIf b k) = view s :=
  (Keeps.fireIf (cls := 0) (inst := 0) (may := fun _ _ => True) (.refl hv s) (fun _ => trivial) (fun _ => trivial) b k).view

/-- An event of the unit leaves the sources of every other unit. -/
theorem Keeps.raise (h : Keeps view cls inst may s u) {ev : Nat} (hev : ev < 16) : Keeps view cls inst may s (u.raise cls inst ev) :=
  h.trans ⟨h.blind, h.blind u _ u.regs u.hw _ u.vsrc,
    fun _ hk => State.setSrcAt_srcAtOf_ne _ _ (fun e => hk (by rw [e, srcKey]; omega)), fun _ _ _ => ⟨rfl, rfl⟩⟩

/-- A field of a register that the command may not write reads what it read. -/
theorem Keeps.get (h : Keeps view cls inst may s u) {f : Fld} {i : Nat} (hf : ¬ may f.reg i) : u.get f i = s.get f i := by
  rw [State.get, (h.reg f.reg i hf).1, State.get]

theorem Keeps.is (h : Keeps view cls inst may s u) {f : Fld} {i : Nat} (hf : ¬ may f.reg i) : u.is f i = s.is f i :=
  congrArg (· == 1) (h.get hf)

end

section
variable {α : Type} {view : State → α} {cls inst n : Nat} {own any : List RegName} {s u : State}

theorem Keeps.regsKept (h : Keeps view cls inst (UnitMay n own any) s u) : RegsKept (any ++ own) s u :=
  fun r i hr => h.reg r i fun hmay => hr (List.mem_append.2 (hmay.imp_right And.left))

theorem Keeps.othersKept (h : Keeps view cls inst (UnitMay n own any) s u) {r : RegName} (hr : r ∉ any) : OthersKept r n s u :=
  fun m hm => h.reg r m (not_or.2 ⟨hr, fun e => hm e.2⟩)

end

/-! ### Outputs -/

/-- An interrupt source adds its own output. -/
@[simp] theorem fire_out (s : State) (k : Nat) : (s.fire k).out = s.out ++ [.irq k] := by
  unfold State.fire
  dsimp only
  repeat' split
  all_goals rfl

theorem fireIf_out (s : State) (b : Bool) (k : Nat) : (s.fireIf b k).out = s.out ++ (if b then [.irq k] else []) := by
  cases b
  · exact (List.append_nil _).symm
  · exact fire_out s k

@[simp] theorem raise_out (s : State) (cls inst ev : Nat) : (s.raise cls inst ev).out = s.out ++ [.fabric cls inst ev s.now] := rfl

end Sys2Proof.Machine
end

section
/-! PROOFS. The laws of the operations that the commands of the window comparators share: what each leaves of the fields of WC_STAT and of the
hidden state (03_window_comparators.md, R62 to R78). -/

namespace Sys2Proof.Machine

/-! ### The frame of a comparator's command -/

/-- What a command of comparator `n` does not touch beside registers and event sources: the rest of the device, and the other comparators. -/
def wcView (n : Nat) (s : State) : State × (Nat → WcS) :=
  ({ s with out := [], regs := [], hw := [], wc := [], srcAt := [], vsrc := [], free := 0 }, fun m => if m = n then {} else s.wcOf m)

theorem wcView_blind (n : Nat) : Blind (wcView n) := fun _ _ _ _ _ _ => rfl

/-- From `s` to `s'` a command of comparator `n` has written no registers but its own of those in `l` and the vector registers. -/
abbrev WcKeeps (n : Nat) (l : List RegName) (s s' : State) : Prop :=
  Keeps (wcView n) 4 n (UnitMay n l [.VU_PEND, .VU_LOST]) s s'

section
variable {n : Nat} {l : List RegName} {s u : State}

theorem WcKeeps.refl (s : State) : WcKeeps n l s s := Keeps.refl (wcView_blind n) s

theorem Keeps.wcFrame {t : Nat} (h : WcKeeps n l (s.tick t) u) (hl : .VU_PEND ∉ l ∧ .VU_LOST ∉ l := by decide) : WcFrame t n l s u := by
  have hrest : (wcView n u).1 = (wcView n (s.tick t)).1 := congrArg Prod.fst h.view
  have hframe : u = { (wcView n u).1 with
    out := u.out, regs := u.regs, hw := u.hw, wc := u.wc, srcAt := u.srcAt, vsrc := u.vsrc, free := u.free } := rfl
  refine ⟨hframe.trans (by rw [hrest]; rfl), fun m hm => ?_, h.src, h.regsKept, fun r hr => h.othersKept ?_⟩
  · have hm' := congrFun (congrArg Prod.snd h.view) m
    exact (if_neg hm).symm.trans (hm'.trans (if_neg hm))
  · simp only [List.mem_cons, List.not_mem_nil, or_false, not_or]
    exact ⟨fun e => hl.1 (e ▸ hr), fun e => hl.2 (e ▸ hr)⟩

theorem Keeps.setWc (h : WcKeeps n l s u) (x : WcS) : WcKeeps n l s (u.setWc n x) := by
  refine h.hidden (Prod.ext rfl (funext fun m => ?_)) rfl rfl rfl
  by_cases hm : m = n
  · simp only [wcView, if_pos hm]
  · simp only [wcView, if_neg hm, State.setWc_wcOf_ne _ _ hm]

theorem Keeps.wcDrawn (h : WcKeeps n l s u) (k : Nat) : WcKeeps n l s { u with free := k } := h.hidden rfl rfl rfl rfl

theorem Keeps.wcFireIf (h : WcKeeps n l s u) (b : Bool) (k : Nat) : WcKeeps n l s (u.fireIf b k) :=
  Keeps.fireIf h (fun _ => .inl (.head _)) (fun _ => .inl (.tail _ (.head _))) b k

end

/-! ### Fields and hidden state -/

@[simp] theorem setWc_get (s : State) (k : Nat) (h : WcS) (f : Fld) (i : Nat) : (s.setWc k h).get f i = s.get f i := rfl
@[simp] theorem setWc_is (s : State) (k : Nat) (h : WcS) (f : Fld) (i : Nat) : (s.setWc k h).is f i = s.is f i := rfl
@[simp] theorem tick_wcOf (t : Nat) (s : State) (m : Nat) : (s.tick t).wcOf m = s.wcOf m := rfl
@[simp] theorem put_wcOf (s : State) (f : Fld) (i x m : Nat) : (s.put f i x).wcOf m = s.wcOf m := rfl
@[simp] theorem flag_wcOf (s : State) (f : Fld) (i m : Nat) : (s.flag f i).wcOf m = s.wcOf m := rfl
@[simp] theorem raise_wcOf (s : State) (cls inst ev m : Nat) : (s.raise cls inst ev).wcOf m = s.wcOf m := rfl

@[simp] theorem fireIf_wcOf (s : State) (b : Bool) (k m : Nat) : (s.fireIf b k).wcOf m = s.wcOf m :=
  fireIf_view (view := (State.wcOf · m)) (fun _ _ _ _ _ _ => rfl) s b k

/-- The hidden state of a comparator without what its outputs move: what asserted within blanking, the events held, and the instants of the trip
request. -/
def WcS.lasting (h : WcS) : WcS :=
  { h with inHi := false, inLo := false, heldHi := false, heldLo := false, heldIn := false, reqOn := 0, reqOff := none, race := none }

/-- R72, R147: the record of the trip request writes the hidden state alone. -/
theorem wcTrack_eq (s0 s : State) (n : Nat) : ∃ h : WcS, h.lasting = (s.wcOf n).lasting ∧ wcTrack s0 s n = s.setWc n h := by
  refine ⟨_, ?_, rfl⟩
  repeat' split
  all_goals rfl

section
variable {s0 s u : State} {n : Nat} {l : List RegName}

theorem Keeps.track (h : WcKeeps n l s u) : WcKeeps n l s (wcTrack s0 u n) := h.setWc _

@[simp] theorem wcTrack_get (f : Fld) (i : Nat) : (wcTrack s0 s n).get f i = s.get f i := rfl
@[simp] theorem wcTrack_is (f : Fld) (i : Nat) : (wcTrack s0 s n).is f i = s.is f i := rfl
@[simp] theorem wcTrack_out : (wcTrack s0 s n).out = s.out := rfl

@[simp] theorem wcTrack_lasting : ((wcTrack s0 s n).wcOf n).lasting = (s.wcOf n).lasting := by
  obtain ⟨h, hh, he⟩ := wcTrack_eq s0 s n
  rw [he, State.setWc_wcOf, hh]

/-! ### A sticky flag and its interrupt source -/

variable {f g ien : Fld}

theorem Keeps.wcFlag (h : WcKeeps n l s u) (hf : f.reg ∈ l) : WcKeeps n l s (wcFlag u f ien n) := Keeps.wcFireIf (h.flag (.own hf)) _ _

theorem wcFlag_is_self (hf : f.reg = .WC_STAT) (hw : f.w = 1) (hfit : f.lo + f.w ≤ 36) : (wcFlag s f ien n).is f n = true := by
  rw [Machine.wcFlag, fireIf_is _ _ _ _ (by simp [hf]) (by simp [hf]), is_flag _ _ _ hw hfit]

theorem wcFlag_is_apart (hg : g.reg = .WC_STAT) (h : f.lo + f.w ≤ g.lo ∨ g.lo + g.w ≤ f.lo) : (wcFlag s f ien n).is g n = s.is g n := by
  rw [Machine.wcFlag, fireIf_is _ _ _ _ (by simp [hg]) (by simp [hg]), State.flag_is_apart _ (fun _ => h)]

@[simp] theorem wcFlag_wcOf (m : Nat) : (wcFlag s f ien n).wcOf m = s.wcOf m := by
  rw [Machine.wcFlag, fireIf_wcOf, flag_wcOf]

theorem wcFlag_fabric (c i e : Nat) (x : Int) : Out.fabric c i e x ∈ (wcFlag s f ien n).out ↔ Out.fabric c i e x ∈ s.out := by
  rw [Machine.wcFlag, fireIf_out, List.mem_append]
  refine or_iff_left ?_
  split <;> simp

/-- The sticky flag is set where the condition holds. -/
def wcFlagIf (b : Bool) (s : State) (f ien : Fld) (n : Nat) : State := if b then wcFlag s f ien n else s

theorem Keeps.wcFlagIf {b : Bool} (h : WcKeeps n l s u) (hf : f.reg ∈ l) : WcKeeps n l s (wcFlagIf b u f ien n) := by
  cases b
  · exact h
  · exact h.wcFlag hf

theorem wcFlagIf_is_self (b : Bool) (hf : f.reg = .WC_STAT) (hw : f.w = 1) (hfit : f.lo + f.w ≤ 36) :
    (wcFlagIf b s f ien n).is f n = (s.is f n || b) := by
  cases b
  · exact (Bool.or_false _).symm
  · exact (wcFlag_is_self hf hw hfit).trans (Bool.or_true _).symm

theorem wcFlagIf_is_apart {b : Bool} (hg : g.reg = .WC_STAT) (h : f.lo + f.w ≤ g.lo ∨ g.lo + g.w ≤ f.lo) :
    (wcFlagIf b s f ien n).is g n = s.is g n := by
  cases b
  · rfl
  · exact wcFlag_is_apart hg h

@[simp] theorem wcFlagIf_wcOf {b : Bool} (m : Nat) : (wcFlagIf b s f ien n).wcOf m = s.wcOf m := by
  cases b
  · rfl
  · exact wcFlag_wcOf m

theorem wcFlagIf_fabric {b : Bool} (c i e : Nat) (x : Int) :
    Out.fabric c i e x ∈ (wcFlagIf b s f ien n).out ↔ Out.fabric c i e x ∈ s.out := by
  cases b
  · rfl
  · exact wcFlag_fabric c i e x

/-! ### Events (R74) -/

theorem Keeps.event (h : WcKeeps n l s u) {ev : Nat} (hev : ev < 16) : WcKeeps n l s (wcEvent u n ev) := by
  unfold wcEvent
  split
  · exact h
  · split
    · exact h.setWc _
    · exact h.raise hev

theorem wcEvent_is (ev : Nat) (i : Nat) : (wcEvent s n ev).is f i = s.is f i := by
  unfold wcEvent
  repeat' split
  all_goals rfl

theorem wcEvent_lasting (ev : Nat) : ((wcEvent s n ev).wcOf n).lasting = (s.wcOf n).lasting := by
  unfold wcEvent
  split
  · rfl
  · split
    · rw [State.setWc_wcOf]
      split <;> rfl
    · rfl

end

/-! ### The two outputs (R64, R73) -/

/-- The output of the high side, or of the low side. -/
def nowFld (high : Bool) : Fld := bif high then F.WC_STAT_hinow else F.WC_STAT_lonow

/-- The sticky flag of a side. -/
def stickyFld (high : Bool) : Fld := bif high then F.WC_STAT_hi else F.WC_STAT_lo

/-- The enable of a side's interrupt. -/
def sideIen (high : Bool) : Fld := bif high then F.WC_IEN_hi else F.WC_IEN_lo

/-- Whether the output of a side asserted inside blanking. -/
def WcS.inside (h : WcS) (high : Bool) : Bool := bif high then h.inHi else h.inLo

/-- The hidden state that remembers so. -/
def WcS.setInside (h : WcS) (high b : Bool) : WcS := bif high then { h with inHi := b } else { h with inLo := b }

theorem WcS.setInside_lasting (h : WcS) (high b : Bool) : (h.setInside high b).lasting = h.lasting := by cases high <;> rfl

/-- R73, R74: the output of a side asserts. -/
def wcAssert (high : Bool) (s : State) (n : Nat) : State :=
  let s' := s.put (nowFld high) n 1
  wcEvent (if s.is F.WC_STAT_chkbusy n then s'
    else if s'.is F.WC_STAT_blknow n then s'.setWc n ((s'.wcOf n).setInside high true)
    else wcFlag s' (stickyFld high) (sideIen high) n) n (bif high then 0 else 1)

/-- R73: the output of a side falls; where it asserted inside blanking, that is a hit. -/
def wcFallen (high : Bool) (s : State) (n : Nat) : State :=
  let s' := s.put (nowFld high) n 0
  let s' := wcFlagIf (!s.is F.WC_STAT_chkbusy n && s'.is F.WC_STAT_blknow n && (s'.wcOf n).inside high) s' F.WC_STAT_blkhit F.WC_IEN_blk n
  s'.setWc n ((s'.wcOf n).setInside high false)

/-- R73, R74: the output of a side deasserts. -/
def wcDeassert (high : Bool) (s : State) (n : Nat) : State :=
  if (wcFallen high s n).is (nowFld !high) n then wcFallen high s n else wcEvent (wcFallen high s n) n 2

/-- R64: the output of a side takes the value `v`. -/
def wcSetOutput (high : Bool) (s : State) (n : Nat) (v : Bool) : State :=
  if v == s.is (nowFld high) n then s else if v then wcAssert high s n else wcDeassert high s n

theorem wcSetHi_eq (s : State) (n : Nat) (v : Bool) : wcSetHi s n v = wcSetOutput true s n v := by
  cases v
  · simp only [wcSetHi, wcSetOutput, wcDeassert, wcFallen, wcFlagIf, nowFld, WcS.inside, WcS.setInside, b2n, cond_true, cond_false,
      Bool.not_true, Bool.false_eq_true, if_false]
    rfl
  · simp only [wcSetHi, wcSetOutput, wcAssert, nowFld, stickyFld, sideIen, WcS.setInside, b2n, cond_true, if_true]
    rfl

theorem wcSetLo_eq (s : State) (n : Nat) (v : Bool) : wcSetLo s n v = wcSetOutput false s n v := by
  cases v
  · simp only [wcSetLo, wcSetOutput, wcDeassert, wcFallen, wcFlagIf, nowFld, WcS.inside, WcS.setInside, b2n, cond_true, cond_false,
      Bool.not_false, Bool.false_eq_true, if_false]
    rfl
  · simp only [wcSetLo, wcSetOutput, wcAssert, nowFld, stickyFld, sideIen, WcS.setInside, b2n, cond_false, if_true]
    rfl

section
variable {s u : State} {n : Nat} {l : List RegName} {high v : Bool} {g : Fld}

theorem nowFld_reg (high : Bool) : (nowFld high).reg = .WC_STAT := by cases high <;> rfl
theorem stickyFld_reg (high : Bool) : (stickyFld high).reg = .WC_STAT := by cases high <;> rfl

/-- The two fields share no bit. -/
abbrev Fld.Apart (f g : Fld) : Prop := f.lo + f.w ≤ g.lo ∨ g.lo + g.w ≤ f.lo

theorem Keeps.wcAssert (h : WcKeeps n l s u) (hl : .WC_STAT ∈ l) : WcKeeps n l s (wcAssert high u n) := by
  have hnow : WcKeeps n l s (u.put (nowFld high) n 1) := h.put 1 (.own (nowFld_reg high ▸ hl))
  have hev : (bif high then 0 else 1) < 16 := by cases high <;> decide
  refine Keeps.event ?_ hev
  split
  · exact hnow
  split
  · exact hnow.setWc _
  · exact hnow.wcFlag (stickyFld_reg high ▸ hl)

theorem Keeps.wcFallen (h : WcKeeps n l s u) (hl : .WC_STAT ∈ l) : WcKeeps n l s (wcFallen high u n) :=
  Keeps.setWc (Keeps.wcFlagIf (h.put 0 (.own (nowFld_reg high ▸ hl))) hl) _

theorem Keeps.wcDeassert (h : WcKeeps n l s u) (hl : .WC_STAT ∈ l) : WcKeeps n l s (wcDeassert high u n) := by
  unfold Machine.wcDeassert
  split
  · exact h.wcFallen hl
  · exact (h.wcFallen hl).event (by decide)

theorem Keeps.setOutput (h : WcKeeps n l s u) (hl : .WC_STAT ∈ l) : WcKeeps n l s (wcSetOutput high u n v) := by
  unfold wcSetOutput
  split
  · exact h
  split
  · exact h.wcAssert hl
  · exact h.wcDeassert hl

theorem wcAssert_is (hg : g.reg = .WC_STAT) (h : (stickyFld high).Apart g) :
    (wcAssert high s n).is g n = (s.put (nowFld high) n 1).is g n := by
  unfold wcAssert
  rw [wcEvent_is]
  split
  · rfl
  split
  · rfl
  · exact wcFlag_is_apart hg h

theorem wcDeassert_is (hg : g.reg = .WC_STAT) (h : F.WC_STAT_blkhit.Apart g) :
    (wcDeassert high s n).is g n = (s.put (nowFld high) n 0).is g n := by
  have hfallen : (wcFallen high s n).is g n = (s.put (nowFld high) n 0).is g n := wcFlagIf_is_apart hg h
  unfold wcDeassert
  split
  · exact hfallen
  · exact (wcEvent_is ..).trans hfallen

/-- Where the comparator acts on its outputs: outside blanking and self-check. -/
def wcClear (s : State) (n : Nat) : Bool := !s.is F.WC_STAT_blknow n && !s.is F.WC_STAT_chkbusy n

/-- R73: an output that asserts outside blanking sets its sticky flag. -/
theorem wcAssert_sticky : (wcAssert high s n).is (stickyFld high) n = (s.is (stickyFld high) n || wcClear s n) := by
  have hapart : (s.put (nowFld high) n 1).is (stickyFld high) n = s.is (stickyFld high) n :=
    s.put_is_apart 1 fun _ => by cases high <;> decide
  have hblk : (s.put (nowFld high) n 1).is F.WC_STAT_blknow n = s.is F.WC_STAT_blknow n :=
    s.put_is_apart 1 fun _ => by cases high <;> decide
  unfold wcAssert wcClear
  rw [wcEvent_is, hblk]
  split
  · next hbusy => rw [hapart, hbusy, Bool.not_true, Bool.and_false, Bool.or_false]
  split
  · next hin => rw [setWc_is, hapart, hin, Bool.not_true, Bool.false_and, Bool.or_false]
  · next hbusy hin =>
    rw [Bool.not_eq_true] at hbusy hin
    rw [wcFlag_is_self (stickyFld_reg high) (by cases high <;> rfl) (by cases high <;> decide), hbusy, hin]
    simp

theorem wcSetOutput_now : (wcSetOutput high s n v).is (nowFld high) n = v := by
  have hput : ∀ x, (s.put (nowFld high) n x).is (nowFld high) n = (x % 2 ^ 1 == 1) := fun x => by
    rw [State.put_is_same _ _ _ _ (by cases high <;> decide)]; cases high <;> rfl
  unfold wcSetOutput
  split
  · next hv => exact (beq_iff_eq.1 hv).symm
  cases v
  · exact (wcDeassert_is (nowFld_reg high) (by cases high <;> decide)).trans (hput 0)
  · exact (wcAssert_is (nowFld_reg high) (by cases high <;> decide)).trans (hput 1)

theorem wcSetOutput_sticky : (wcSetOutput high s n v).is (stickyFld high) n =
    (s.is (stickyFld high) n || (wcClear s n && !s.is (nowFld high) n && v)) := by
  unfold wcSetOutput
  split
  · next hv => rw [← beq_iff_eq.1 hv]; simp
  next hv =>
  cases v
  · rw [Bool.and_false, Bool.or_false]
    refine (wcDeassert_is (stickyFld_reg high) ?_).trans (s.put_is_apart 0 fun _ => ?_)
    all_goals cases high <;> decide
  · rw [← Bool.eq_not_of_ne (fun e => hv (beq_iff_eq.2 e)), Bool.and_true, Bool.and_true]
    exact wcAssert_sticky

/-- The other fields of WC_STAT, but blkhit. -/
theorem wcSetOutput_is (hg : g.reg = .WC_STAT) (hnow : (nowFld high).Apart g) (hsticky : (stickyFld high).Apart g)
    (hhit : F.WC_STAT_blkhit.Apart g) : (wcSetOutput high s n v).is g n = s.is g n := by
  have hput : ∀ x, (s.put (nowFld high) n x).is g n = s.is g n := fun x => s.put_is_apart x fun _ => hnow
  unfold wcSetOutput
  split
  · rfl
  split
  · exact (wcAssert_is hg hsticky).trans (hput 1)
  · exact (wcDeassert_is hg hhit).trans (hput 0)

theorem wcSetOutput_lasting : ((wcSetOutput high s n v).wcOf n).lasting = (s.wcOf n).lasting := by
  unfold wcSetOutput
  split
  · rfl
  split
  · unfold wcAssert
    rw [wcEvent_lasting]
    split
    · rfl
    split
    · rw [State.setWc_wcOf, WcS.setInside_lasting, put_wcOf]
    · rw [wcFlag_wcOf, put_wcOf]
  · have hfallen : ((wcFallen high s n).wcOf n).lasting = (s.wcOf n).lasting := by
      rw [wcFallen, State.setWc_wcOf, WcS.setInside_lasting, wcFlagIf_wcOf, put_wcOf]
    unfold wcDeassert
    split
    · exact hfallen
    · exact (wcEvent_lasting 2).trans hfallen

end

end Sys2Proof.Machine
end

section
/-! PROOFS. The outputs of a window comparator: a decision lies within the tolerances of R66 of the ideal hysteresis band, and both outputs take
what it decides (03_window_comparators.md, R63 to R67, R73). -/

namespace Sys2Proof.Machine

/-! ### A hysteresis band (R64, R66) -/

/-- R64: a voltage above a threshold, both exact: one code is 1,000,000 / 2,048 microvolts. -/
theorem above_iff {v th : Int} : above v th = true ↔ (th : ℚ) * (125 / 256) < v := by
  have hint : v * 32000 > th * 15625 ↔ (th : ℚ) * 15625 < v * 32000 := by exact_mod_cast Iff.rfl
  rw [above, decide_eq_true_eq, hint]
  constructor <;> intro h <;> linarith

/-- R64: what an output that stands at `hold` becomes: it asserts above the threshold, and deasserts where the voltage and the hysteresis
together lie below it. -/
def hystDecide (x th h : Int) (hold : Bool) : Bool := if above x th then true else if above (-(x + h)) (-th) then false else hold

/-- R66: the offset and the nonlinearity together, in microvolts. -/
def bandTol : ℚ := 3000 + 2 * 1000000 / 2048

/-- R64, R66: an output `out` that stood at `was` follows the band of threshold `a` and hysteresis `b`, with the tolerance `d` of `b`: it is the ideal
one wherever the voltage is not within the tolerances of an edge of the band. -/
def InBand (v a b d : ℚ) (was out : Bool) : Prop :=
  (v > a + bandTol → out = true) ∧ (v < a - b - d - bandTol → out = false) ∧
    (was = true → v > a - b + d + bandTol → out = true) ∧ (was = false → v < a - bandTol → out = false)

/-- The band of the low side, with every sign turned back. -/
theorem InBand.mirrored {v a b d : ℚ} {was out : Bool} (h : InBand (-v) (-a) b d was out) :
    (v < a - bandTol → out = true) ∧ (v > a + b + d + bandTol → out = false) ∧
    (was = true → v < a + b - d - bandTol → out = true) ∧ (was = false → v > a + bandTol → out = false) := by
  obtain ⟨hup, hdown, hholdUp, hholdDown⟩ := h
  exact ⟨fun hv => hup (by linarith), fun hv => hdown (by linarith), fun hwas hv => hholdUp hwas (by linarith),
    fun hwas hv => hholdDown hwas (by linarith)⟩

/-- R66: a voltage within 3 mV of `v`, a threshold within 2 codes of `a` and a hysteresis within `d` of `b` decide in the band. -/
theorem hystDecide_inBand {x th h : Int} {was : Bool} {v a b d : ℚ} (hx : |(x : ℚ) - v| ≤ 3000)
    (hth : |(th : ℚ) * (125 / 256) - a| ≤ 2 * 1000000 / 2048) (hh : |(h : ℚ) - b| ≤ d) (hd : 0 ≤ b + d) :
    InBand v a b d was (hystDecide x th h was) := by
  rw [abs_le] at hx hth hh
  obtain ⟨hx1, hx2⟩ := hx
  obtain ⟨ht1, ht2⟩ := hth
  obtain ⟨hh1, hh2⟩ := hh
  have hup : above x th = true ↔ (th : ℚ) * (125 / 256) < x := above_iff
  have hdown : above (-(x + h)) (-th) = true ↔ (x : ℚ) + h < th * (125 / 256) := by
    rw [above_iff]; push_cast; constructor <;> intro hlt <;> linarith
  unfold hystDecide InBand bandTol
  refine ⟨fun hv => if_pos (hup.2 (by linarith)), fun hv => ?_, fun hwas hv => ?_, fun hwas hv => ?_⟩
  · rw [if_neg (fun hc => by have := hup.1 hc; linarith), if_pos (hdown.2 (by linarith))]
  · rw [if_neg (c := above (-(x + h)) (-th) = true) (fun hc => by have := hdown.1 hc; linarith), hwas, ite_self]
  · rw [if_neg (fun hc => by have := hup.1 hc; linarith), hwas, ite_self]

/-- R66: a decision is off by no more than the limits. -/
structure WcTol.Within (e : WcTol) (hyTol : Nat) : Prop where
  off : |e.off| ≤ 3000
  nlH : |e.nlH| ≤ 2000
  nlL : |e.nlL| ≤ 2000
  hyH : |e.hyH| ≤ hyTol
  hyL : |e.hyL| ≤ hyTol

theorem drawWithin_abs (s : State) (m : Nat) : |(drawWithin s m).1| ≤ m := by
  have hlt : Config.free s.free % (2 * m + 1) < 2 * m + 1 := Nat.mod_lt _ (Nat.succ_pos _)
  have hval : (drawWithin s m).1 = ((Config.free s.free % (2 * m + 1) : Nat) : Int) - m := rfl
  rw [hval, abs_le]
  omega

theorem wcTol_within (s : State) (n : Nat) : (wcTol s n).1.Within (hystTol (s.get F.WC_CTL_hyst n)) :=
  ⟨drawWithin_abs _ 3000, drawWithin_abs _ 2000, drawWithin_abs _ 2000, drawWithin_abs _ _, drawWithin_abs _ _⟩

/-- R65: a threshold that has settled stands at its code. -/
theorem Move.at_settled {m : Move} (c : Int) (h : m.pos = 1000) : m.at_ c = c * 1000 := by
  have hscale : (c * 1000 - m.src) * ((min 1000 1000 : Nat) : Int) / 1000 = c * 1000 - m.src :=
    Int.mul_ediv_cancel _ (by decide)
  rw [Move.at_, h, hscale]
  omega

section
variable {s : State} {n : Nat}

/-- R64: both outputs decide by a hysteresis band, the low side with every sign turned. -/
theorem wcDecide_eq (v : Int) (e : WcTol) (hH : (s.wcOf n).hiMove.pos = 1000) (hL : (s.wcOf n).loMove.pos = 1000) :
    wcDecide s n v e =
      (hystDecide (v + e.off) (s.getS F.WC_THH_code n * 1000 + e.nlH) (2000 * s.get F.WC_CTL_hyst n + e.hyH) (s.is F.WC_STAT_hinow n),
       hystDecide (-(v + e.off)) (-(s.getS F.WC_THL_code n * 1000 + e.nlL)) (2000 * s.get F.WC_CTL_hyst n + e.hyL) (s.is F.WC_STAT_lonow n)) := by
  have hneg : ∀ a b : Int, -(-a + b) = a - b := by intros; omega
  simp only [wcDecide, hystDecide, Move.at_settled _ hH, Move.at_settled _ hL, hneg, neg_neg]

/-- The hysteresis of comparator `n`, in microvolts. -/
def wcHyst (s : State) (n : Nat) : ℚ := 2000 * s.get F.WC_CTL_hyst n

/-- R66: how far the hysteresis may be off. -/
def wcHystTol (s : State) (n : Nat) : ℚ := if s.get F.WC_CTL_hyst n = 0 then 0 else wcHyst s n / 5 + 1000

theorem hystTol_cast : (hystTol (s.get F.WC_CTL_hyst n) : ℚ) = wcHystTol s n := by
  unfold hystTol wcHystTol wcHyst
  split
  · rfl
  · push_cast; ring

/-- R66: every decision with settled thresholds lies in the bands of both outputs. -/
theorem wcDecide_inBand (v : Int) {e : WcTol} (he : e.Within (hystTol (s.get F.WC_CTL_hyst n))) (hH : (s.wcOf n).hiMove.pos = 1000)
    (hL : (s.wcOf n).loMove.pos = 1000) :
    InBand v (s.getS F.WC_THH_code n * 1000000 / 2048) (wcHyst s n) (wcHystTol s n) (s.is F.WC_STAT_hinow n) (wcDecide s n v e).1 ∧
    InBand (-v) (-(s.getS F.WC_THL_code n * 1000000 / 2048)) (wcHyst s n) (wcHystTol s n) (s.is F.WC_STAT_lonow n) (wcDecide s n v e).2 := by
  have cast : ∀ {x : Int} {m : Nat}, |x| ≤ m → |(x : ℚ)| ≤ m := fun h => by exact_mod_cast h
  have hoff := cast (m := 3000) he.off
  have hnlH := cast (m := 2000) he.nlH
  have hnlL := cast (m := 2000) he.nlL
  have hyH := cast he.hyH
  have hyL := cast he.hyL
  have hpos : 0 ≤ wcHyst s n + wcHystTol s n := by rw [← hystTol_cast]; unfold wcHyst; positivity
  rw [hystTol_cast] at hyH hyL
  rw [abs_le] at hoff hnlH hnlL
  rw [wcDecide_eq v e hH hL]
  refine ⟨hystDecide_inBand ?_ ?_ ?_ hpos, hystDecide_inBand ?_ ?_ ?_ hpos⟩
  · rw [abs_le]; push_cast at hoff ⊢; constructor <;> linarith
  · rw [abs_le]; push_cast at hnlH ⊢; constructor <;> linarith
  · unfold wcHyst; push_cast; rwa [add_sub_cancel_left]
  · rw [abs_le]; push_cast at hoff ⊢; constructor <;> linarith
  · rw [abs_le]; push_cast at hnlL ⊢; constructor <;> linarith
  · unfold wcHyst; push_cast; rwa [add_sub_cancel_left]

end

/-! ### Both outputs take a decision (R64, R73) -/

/-- The two outputs of comparator `n` have taken the values `hi` and `lo`. -/
structure OutputsTaken (n : Nat) (hi lo : Bool) (s s' : State) : Prop where
  hinow : s'.is F.WC_STAT_hinow n = hi
  lonow : s'.is F.WC_STAT_lonow n = lo
  hi : s'.is F.WC_STAT_hi n = (s.is F.WC_STAT_hi n || (wcClear s n && !s.is F.WC_STAT_hinow n && hi))
  lo : s'.is F.WC_STAT_lo n = (s.is F.WC_STAT_lo n || (wcClear s n && !s.is F.WC_STAT_lonow n && lo))
  ready : s'.is F.WC_STAT_ready n = s.is F.WC_STAT_ready n
  lasting : (s'.wcOf n).lasting = (s.wcOf n).lasting

/-- Both outputs, the side `first` before the other. -/
def wcSetBoth (first : Bool) (s : State) (n : Nat) (v : Bool → Bool) : State :=
  wcSetOutput (!first) (wcSetOutput first s n (v first)) n (v !first)

section
variable {s u : State} {n : Nat} {l : List RegName} {first : Bool} {v : Bool → Bool}

theorem wcSetBoth_ready : (wcSetBoth first s n v).is F.WC_STAT_ready n = s.is F.WC_STAT_ready n := by
  have hstep : ∀ (high b : Bool) (w : State), (wcSetOutput high w n b).is F.WC_STAT_ready n = w.is F.WC_STAT_ready n := fun high b w => by
    cases high <;> exact wcSetOutput_is rfl (by decide) (by decide) (by decide)
  rw [wcSetBoth, hstep, hstep]

theorem wcSetBoth_now (high : Bool) : (wcSetBoth first s n v).is (nowFld high) n = v high := by
  by_cases hside : high = first
  · subst hside
    refine (wcSetOutput_is (nowFld_reg _) ?_ ?_ ?_).trans wcSetOutput_now
    all_goals cases high <;> decide
  · rw [Bool.eq_not_of_ne hside]
    exact wcSetOutput_now

theorem wcSetBoth_sticky (high : Bool) : (wcSetBoth first s n v).is (stickyFld high) n =
    (s.is (stickyFld high) n || (wcClear s n && !s.is (nowFld high) n && v high)) := by
  by_cases hside : high = first
  · subst hside
    refine (wcSetOutput_is (stickyFld_reg _) ?_ ?_ ?_).trans wcSetOutput_sticky
    all_goals cases high <;> decide
  · rw [Bool.eq_not_of_ne hside, wcSetBoth, wcSetOutput_sticky]
    have hkept : ∀ g : Fld, g ∈ [F.WC_STAT_blknow, F.WC_STAT_chkbusy, stickyFld !first, nowFld !first] →
        (wcSetOutput first s n (v first)).is g n = s.is g n := fun g hg => by
      fin_cases hg <;> cases first <;> exact wcSetOutput_is rfl (by decide) (by decide) (by decide)
    rw [wcClear, hkept _ (by simp), hkept _ (by simp), hkept _ (by simp), hkept _ (by simp), wcClear]

theorem wcSetBoth_lasting : ((wcSetBoth first s n v).wcOf n).lasting = (s.wcOf n).lasting :=
  wcSetOutput_lasting.trans wcSetOutput_lasting

theorem Keeps.setBoth (h : WcKeeps n l s u) (hl : .WC_STAT ∈ l) : WcKeeps n l s (wcSetBoth first u n v) :=
  Keeps.setOutput (Keeps.setOutput h hl) hl

theorem wcSetBoth_taken : OutputsTaken n (v true) (v false) s (wcSetBoth first s n v) where
  hinow := wcSetBoth_now true
  lonow := wcSetBoth_now false
  hi := wcSetBoth_sticky true
  lo := wcSetBoth_sticky false
  ready := wcSetBoth_ready
  lasting := wcSetBoth_lasting

/-- The values of the two sides. -/
def bySide (p : Bool × Bool) (high : Bool) : Bool := if high then p.1 else p.2

/-- R64: without a self-check the comparator decides on its input pair, off by free values within the limits. -/
theorem wcEvaluate_eq (hchk : s.get F.WC_CTL_chk n = 0) : ∃ (k : Nat) (e : WcTol) (first : Bool),
    e.Within (hystTol (s.get F.WC_CTL_hyst n)) ∧
    wcEvaluate s n = wcSetBoth first { s with free := k } n (bySide (wcDecide s n (s.wcOf n).vin e)) := by
  have hin : wcInput s n = ((s.wcOf n).vin, s) := by simp only [wcInput, hchk]
  have htol : wcTol s n = ((wcTol s n).1, { s with free := (wcTol s n).2.free }) := rfl
  refine ⟨(wcTol s n).2.free, (wcTol s n).1, (wcDecide s n (s.wcOf n).vin (wcTol s n).1).1, wcTol_within s n, ?_⟩
  generalize (wcTol s n).1 = e at htol ⊢
  generalize (wcTol s n).2.free = k at htol ⊢
  have hdec : wcDecide { s with free := k } n (s.wcOf n).vin e = wcDecide s n (s.wcOf n).vin e := rfl
  rw [wcEvaluate, hin]
  dsimp only
  rw [htol]
  dsimp only
  rw [hdec]
  obtain ⟨hi, lo⟩ := wcDecide s n (s.wcOf n).vin e
  cases hi
  · exact (wcSetHi_eq ..).trans (congrArg (wcSetOutput true · n false) (wcSetLo_eq ..))
  · exact (wcSetLo_eq ..).trans (congrArg (wcSetOutput false · n lo) (wcSetHi_eq ..))

theorem Keeps.evaluate (h : WcKeeps n l s u) (hl : .WC_STAT ∈ l) (hchk : u.get F.WC_CTL_chk n = 0) : WcKeeps n l s (wcEvaluate u n) := by
  obtain ⟨k, e, first, -, heq⟩ := wcEvaluate_eq hchk
  rw [heq]
  exact (h.wcDrawn k).setBoth hl

/-- The input pair of comparator `n` stands at `x`, and its thresholds have come so far on their moves. -/
def wcAt (s : State) (n : Nat) (x : Int) (posH posL : Nat) : State :=
  s.setWc n { s.wcOf n with vin := x, hiMove := (s.wcOf n).hiMove.step s.now posH, loMove := (s.wcOf n).loMove.step s.now posL }

/-- R65: a decision without a crossing takes free values for the moves, and for what it is off. -/
theorem wcDecideNow_eq (s : State) (n : Nat) : ∃ k x y, wcDecideNow s n = wcEvaluate (wcAt { s with free := k } n (s.wcOf n).vin x y) n := by
  refine ⟨s.free + 1 + 1, Config.free s.free % 1001, Config.free (s.free + 1) % 1001, ?_⟩
  rw [wcDecideNow]
  rfl

theorem Keeps.decideNow (h : WcKeeps n l s u) (hl : .WC_STAT ∈ l) (hchk : u.get F.WC_CTL_chk n = 0) : WcKeeps n l s (wcDecideNow u n) := by
  obtain ⟨k, x, y, heq⟩ := wcDecideNow_eq u n
  rw [heq]
  exact ((h.wcDrawn k).setWc _).evaluate hl hchk

/-- R63, R64, R66, R73: from `s` to `s'` both outputs of comparator `n` have followed the input voltage `x`. -/
def FollowsInput (s : State) (n : Nat) (x : Int) (s' : State) : Prop :=
  InBand x (s.getS F.WC_THH_code n * 1000000 / 2048) (wcHyst s n) (wcHystTol s n) (s.is F.WC_STAT_hinow n) (s'.is F.WC_STAT_hinow n) ∧
  InBand (-x) (-(s.getS F.WC_THL_code n * 1000000 / 2048)) (wcHyst s n) (wcHystTol s n) (s.is F.WC_STAT_lonow n) (s'.is F.WC_STAT_lonow n) ∧
  s'.is F.WC_STAT_hi n = (s.is F.WC_STAT_hi n || (wcClear s n && !s.is F.WC_STAT_hinow n && s'.is F.WC_STAT_hinow n)) ∧
  s'.is F.WC_STAT_lo n = (s.is F.WC_STAT_lo n || (wcClear s n && !s.is F.WC_STAT_lonow n && s'.is F.WC_STAT_lonow n))

theorem Move.step_pos {m : Move} {t : Nat} (pos : Nat) (h : m.due ≤ t) : (m.step t pos).pos = 1000 := if_pos h

/-- A comparator whose moves are over follows its input when it decides. -/
theorem wcEvaluate_follows {x : Int} {posH posL : Nat} (hchk : s.get F.WC_CTL_chk n = 0) (hH : (s.wcOf n).hiMove.due ≤ s.now)
    (hL : (s.wcOf n).loMove.due ≤ s.now) : FollowsInput s n x (wcEvaluate (wcAt s n x posH posL) n) ∧
      (wcEvaluate (wcAt s n x posH posL) n).is F.WC_STAT_ready n = s.is F.WC_STAT_ready n ∧
      ((wcEvaluate (wcAt s n x posH posL) n).wcOf n).vin = x ∧
      ((wcEvaluate (wcAt s n x posH posL) n).wcOf n).readyDue = (s.wcOf n).readyDue := by
  obtain ⟨k, e, first, he, heq⟩ := wcEvaluate_eq (s := wcAt s n x posH posL) hchk
  have hat : (wcAt s n x posH posL).wcOf n = _ := State.setWc_wcOf ..
  obtain ⟨hbandH, hbandL⟩ := wcDecide_inBand (s := wcAt s n x posH posL) (n := n) x he
    (by rw [hat]; exact Move.step_pos _ hH) (by rw [hat]; exact Move.step_pos _ hL)
  have htaken := wcSetBoth_taken (n := n) (first := first) (s := { wcAt s n x posH posL with free := k })
    (v := bySide (wcDecide (wcAt s n x posH posL) n x e))
  have hvin : ((wcAt s n x posH posL).wcOf n).vin = x := by rw [hat]
  rw [hvin] at heq
  rw [← heq] at htaken
  have hlasting := htaken.lasting.trans (congrArg WcS.lasting hat)
  refine ⟨⟨?_, ?_, ?_, ?_⟩, htaken.ready, (congrArg WcS.vin hlasting :), (congrArg WcS.readyDue hlasting :)⟩
  · rw [htaken.hinow]; exact hbandH
  · rw [htaken.lonow]; exact hbandL
  · rw [htaken.hinow]; exact htaken.hi
  · rw [htaken.lonow]; exact htaken.lo

/-- Without a crossing it follows the input pair as it stood. -/
theorem wcDecideNow_follows (hchk : s.get F.WC_CTL_chk n = 0) (hH : (s.wcOf n).hiMove.due ≤ s.now) (hL : (s.wcOf n).loMove.due ≤ s.now) :
    FollowsInput s n (s.wcOf n).vin (wcDecideNow s n) ∧ (wcDecideNow s n).is F.WC_STAT_ready n = s.is F.WC_STAT_ready n ∧
      ((wcDecideNow s n).wcOf n).readyDue = (s.wcOf n).readyDue := by
  obtain ⟨k, x, y, heq⟩ := wcDecideNow_eq s n
  obtain ⟨hfollows, hready, -, hdue⟩ := wcEvaluate_follows (s := { s with free := k }) (n := n) (x := (s.wcOf n).vin) (posH := x) (posL := y)
    hchk hH hL
  rw [← heq] at hfollows hready hdue
  exact ⟨hfollows, hready, hdue⟩

end

end Sys2Proof.Machine
end

section
/-! PROOFS. The commands of the window comparators (03_window_comparators.md, R62 to R78). -/

namespace Sys2Proof.Machine

/-! ### A write of WC_CTL (R67, R69, R76) -/

/-- The hysteresis and the event rule of a write. -/
def wcStoreCfg (s : State) (n x : Nat) : State := (s.put F.WC_CTL_hyst n (F.WC_CTL_hyst.of x)).put F.WC_CTL_blkev n (F.WC_CTL_blkev.of x)

/-- R76: a new self-check selection holds the comparator. -/
def wcStoreChk (s : State) (n chk : Nat) : State :=
  if chk == s.get F.WC_CTL_chk n then s
  else ((s.put F.WC_CTL_chk n chk).put F.WC_STAT_chkbusy n 1).setWc n { s.wcOf n with chkAt := s.now }

/-- R67: a new en powers the comparator, or stops it. -/
def wcStoreEn (s : State) (n en : Nat) : State :=
  if en == s.get F.WC_CTL_en n then s
  else if en == 1 then wcPowerUp (s.put F.WC_CTL_en n en) n else wcPowerDown (s.put F.WC_CTL_en n en) n

/-- A write that the comparator takes. -/
def wcCtlStore (s : State) (n x : Nat) : State :=
  wcStoreEn (wcStoreChk (wcStoreCfg s n x) n (F.WC_CTL_chk.of x)) n (F.WC_CTL_en.of x)

section
variable {s u : State} {n x : Nat} {l : List RegName}

/-- R69: under frz a write that changes en sets cfgerr and nothing else. -/
theorem wcCtlWrite_refused (hfrz : s.is F.WC_GUARD_frz n = true) (hen : F.WC_CTL_en.of x ≠ s.get F.WC_CTL_en n) :
    wcCtlWrite s n x = s.flag F.WC_STAT_cfgerr n := by
  simp [wcCtlWrite, hfrz, hen]

theorem wcCtlWrite_taken (hfrz : s.is F.WC_GUARD_frz n = false ∨ F.WC_CTL_en.of x = s.get F.WC_CTL_en n) (hchk : F.WC_CTL_chk.of x ≤ 4) :
    wcCtlWrite s n x = wcTrack s (wcCtlStore s n x) n := by
  refine if_neg ?_
  have hfrozen : (s.is F.WC_GUARD_frz n && F.WC_CTL_en.of x != s.get F.WC_CTL_en n) = false := by
    rcases hfrz with h | h <;> simp [h]
  simpa [hfrozen] using hchk

variable {f : Fld} {chk en : Nat}

theorem Keeps.storeCfg (h : WcKeeps n l s u) (hl : .WC_CTL ∈ l) : WcKeeps n l s (wcStoreCfg u n x) :=
  Keeps.put (Keeps.put h _ (.own hl)) _ (.own hl)

theorem Keeps.storeChk (h : WcKeeps n l s u) (hl : .WC_CTL ∈ l) (hs : .WC_STAT ∈ l) : WcKeeps n l s (wcStoreChk u n chk) := by
  unfold wcStoreChk
  split
  · exact h
  · exact Keeps.setWc (Keeps.put (Keeps.put h _ (.own hl)) _ (.own hs)) _

theorem Keeps.wcPowerDown (h : WcKeeps n l s u) (hs : .WC_STAT ∈ l) : WcKeeps n l s (wcPowerDown u n) :=
  Keeps.setWc (Keeps.put (Keeps.put (Keeps.put h _ (.own hs)) _ (.own hs)) _ (.own hs)) _

theorem Keeps.storeEn (h : WcKeeps n l s u) (hl : .WC_CTL ∈ l) (hs : .WC_STAT ∈ l) : WcKeeps n l s (wcStoreEn u n en) := by
  have hput : WcKeeps n l s (u.put F.WC_CTL_en n en) := h.put en (.own hl)
  unfold wcStoreEn
  split
  · exact h
  split
  · exact hput.setWc _
  · exact hput.wcPowerDown hs

theorem Keeps.ctlStore (h : WcKeeps n l s u) (hl : .WC_CTL ∈ l) (hs : .WC_STAT ∈ l) : WcKeeps n l s (wcCtlStore u n x) :=
  ((h.storeCfg hl).storeChk hl hs).storeEn hl hs

/-- R67: a comparator that stops drops its outputs. -/
theorem wcPowerDown_stat : (wcPowerDown s n).is F.WC_STAT_ready n = false ∧ (wcPowerDown s n).is F.WC_STAT_hinow n = false ∧
    (wcPowerDown s n).is F.WC_STAT_lonow n = false := by
  simp (disch := decide) [wcPowerDown, State.put_is_same, State.put_is_apart]

theorem wcStoreCfg_get (hf : f.reg = .WC_CTL → 14 ≤ f.lo) : (wcStoreCfg s n x).get f n = s.get f n := by
  have hput : ∀ {g : Fld} (w : State) (y : Nat), g.reg = .WC_CTL → g.lo + g.w ≤ 14 → (w.put g n y).get f n = w.get f n :=
    fun w y hg h14 => w.put_get_apart y (fun e => .inl (h14.trans (hf (e.trans hg))))
  rw [wcStoreCfg, hput _ _ rfl (by decide), hput _ _ rfl (by decide)]

theorem wcStoreChk_get (hchk : f.reg = .WC_CTL → F.WC_CTL_chk.Apart f) (hbusy : f.reg = .WC_STAT → F.WC_STAT_chkbusy.Apart f) :
    (wcStoreChk s n chk).get f n = s.get f n := by
  unfold wcStoreChk
  split
  · rfl
  · rw [setWc_get, State.put_get_apart _ _ hbusy, State.put_get_apart _ _ hchk]

/-- A change of en leaves every other field of WC_CTL, and the fields of WC_STAT below lonow. -/
theorem wcStoreEn_get (hctl : f.reg = .WC_CTL → F.WC_CTL_en.Apart f) (hstat : f.reg = .WC_STAT → f.lo + f.w ≤ 15) :
    (wcStoreEn s n en).get f n = s.get f n := by
  have hput : ∀ {g : Fld} (w : State) (y : Nat), g.reg = .WC_STAT → 15 ≤ g.lo → (w.put g n y).get f n = w.get f n :=
    fun w y hg h15 => w.put_get_apart y (fun e => .inr ((hstat (e.trans hg)).trans h15))
  have hen : (s.put F.WC_CTL_en n en).get f n = s.get f n := s.put_get_apart en hctl
  unfold wcStoreEn
  split
  · rfl
  split
  · exact hen
  · rw [wcPowerDown, setWc_get, hput _ _ rfl (by decide), hput _ _ rfl (by decide), hput _ _ rfl (by decide), hen]

theorem wcStoreEn_on (h : s.is F.WC_CTL_en n = false) : wcStoreEn s n 1 = wcPowerUp (s.put F.WC_CTL_en n 1) n := by
  have hne : ¬ (1 == s.get F.WC_CTL_en n) = true := fun e => by simp [State.is, ← beq_iff_eq.1 e] at h
  exact (if_neg hne).trans (if_pos rfl)

theorem wcStoreEn_off (h : s.is F.WC_CTL_en n = true) : wcStoreEn s n 0 = wcPowerDown (s.put F.WC_CTL_en n 0) n := by
  have hne : ¬ (0 == s.get F.WC_CTL_en n) = true := fun e => by simp [State.is, ← beq_iff_eq.1 e] at h
  exact (if_neg hne).trans (if_neg (by decide))

/-- R76: a new selection is in force, and the comparator is held from now on. -/
theorem wcStoreChk_new (h : chk ≠ s.get F.WC_CTL_chk n) (h4 : chk ≤ 4) : (wcStoreChk s n chk).get F.WC_CTL_chk n = chk ∧
    (wcStoreChk s n chk).is F.WC_STAT_chkbusy n = true ∧ ((wcStoreChk s n chk).wcOf n).chkAt = s.now := by
  have heq : wcStoreChk s n chk = _ := if_neg (fun e => h (beq_iff_eq.1 e))
  have hget : ((s.put F.WC_CTL_chk n chk).put F.WC_STAT_chkbusy n 1).get F.WC_CTL_chk n = chk := by
    rw [State.put_get_apart _ _ (by decide), State.put_get_same _ _ _ _ (by decide)]
    exact Nat.mod_eq_of_lt (Nat.lt_of_le_of_lt h4 (by decide))
  rw [heq]
  refine ⟨hget, ?_, congrArg WcS.chkAt (State.setWc_wcOf ..)⟩
  rw [setWc_is, State.put_is_same _ _ _ _ (by decide)]; rfl

theorem wcStoreEn_chkAt : ((wcStoreEn s n en).wcOf n).chkAt = (s.wcOf n).chkAt := by
  unfold wcStoreEn
  split
  · rfl
  split
  · rw [wcPowerUp, State.setWc_wcOf, put_wcOf]
  · rw [wcPowerDown, State.setWc_wcOf, put_wcOf, put_wcOf, put_wcOf, put_wcOf]

theorem wcStoreChk_now : (wcStoreChk s n chk).now = s.now := by
  unfold wcStoreChk
  split <;> rfl

/-- A write leaves en as the comparator had it until en is stored. -/
theorem wcStoreChk_en : (wcStoreChk (wcStoreCfg s n x) n chk).is F.WC_CTL_en n = s.is F.WC_CTL_en n := by
  rw [State.is, wcStoreChk_get (by decide) (by decide), wcStoreCfg_get (by decide), State.is]

/-- R76: no trip request leaves a comparator in self-check. -/
theorem wcRaw_of_chkbusy (h : s.is F.WC_STAT_chkbusy n = true) : wcRaw s n = 0 := by simp [wcRaw, h]

theorem wcReq_of_not_ready (h : s.is F.WC_STAT_ready n = false) : wcReq s n = 0 := by simp [wcReq, wcRaw, h]

end

@[simp] theorem State.lockReg_locked (s : State) (r : RegName) (i : Nat) : (s.lockReg r i).locked r i = true :=
  Store.get_set_same (fun _ => false) s.written _ true

/-! ### The commands of R65 to R69 and R76 -/

section
variable {t : Nat} {n : Fin 128} {v : Word} {s : State}

theorem wcEnable_does (hen : s.is F.WC_CTL_en n = false) (hv : F.WC_CTL_en.of v.toNat = 1) (hchk : F.WC_CTL_chk.of v.toNat ≤ 4)
    (hfrz : s.is F.WC_GUARD_frz n = false) : Does (.wcEnable t n v) s (fun s' => WcFrame t n [.WC_CTL, .WC_STAT] s s' ∧
      s'.is F.WC_CTL_en n = true ∧ s'.get F.WC_CTL_hyst n = F.WC_CTL_hyst.of v.toNat ∧
      (s'.wcOf n).readyDue = some (max s.now t + 64000)) := by
  refine does_of_event (show execWcEnable t n v s = _ from rfl) (by simp [hen, hv]) ?_
  have hon : wcCtlStore (s.tick t) n v.toNat = _ :=
    (congrArg (wcStoreEn _ n.val) hv).trans (wcStoreEn_on (wcStoreChk_en.trans hen))
  rw [wcCtlWrite_taken (s := s.tick t) (.inl hfrz) hchk]
  refine ⟨((WcKeeps.refl _).ctlStore (.head _) (.tail _ (.head _))).track.wcFrame, ?_, ?_, ?_⟩
  · rw [wcTrack_is, hon, wcPowerUp, setWc_is, State.put_is_same _ _ _ _ (by decide)]; rfl
  · rw [wcTrack_get, wcCtlStore, wcStoreEn_get (by decide) (by decide), wcStoreChk_get (by decide) (by decide), wcStoreCfg,
      State.put_get_apart _ _ (by decide), State.put_get_same _ _ _ _ (by decide)]
    exact Nat.mod_mod _ _
  · refine (congrArg WcS.readyDue wcTrack_lasting :).trans ?_
    rw [hon]
    refine (congrArg WcS.readyDue (State.setWc_wcOf ..) :).trans ?_
    rw [put_now, wcStoreChk_now]
    rfl

theorem wcDisable_does (hen : s.is F.WC_CTL_en n = true) (hv : F.WC_CTL_en.of v.toNat = 0) (hchk : F.WC_CTL_chk.of v.toNat ≤ 4)
    (hfrz : s.is F.WC_GUARD_frz n = false) : Does (.wcDisable t n v) s (fun s' => WcFrame t n [.WC_CTL, .WC_STAT] s s' ∧
      s'.is F.WC_CTL_en n = false ∧ s'.is F.WC_STAT_ready n = false ∧ s'.is F.WC_STAT_hinow n = false ∧
      s'.is F.WC_STAT_lonow n = false ∧ wcReq s' n = 0) := by
  refine does_of_event (show execWcDisable t n v s = _ from rfl) (by simp [hen, hv]) ?_
  have hoff : wcCtlStore (s.tick t) n v.toNat = _ :=
    (congrArg (wcStoreEn _ n.val) hv).trans (wcStoreEn_off (wcStoreChk_en.trans hen))
  have hframe := ((WcKeeps.refl (s.tick t)).ctlStore (n := n) (x := v.toNat) (.head [.WC_STAT]) (.tail _ (.head _))).track (s0 := s.tick t)
  rw [wcCtlWrite_taken (s := s.tick t) (.inl hfrz) hchk]
  rw [hoff] at hframe ⊢
  obtain ⟨hready, hhi, hlo⟩ := wcPowerDown_stat (n := n)
    (s := (wcStoreChk (wcStoreCfg (s.tick t) n v.toNat) n (F.WC_CTL_chk.of v.toNat)).put F.WC_CTL_en n 0)
  refine ⟨hframe.wcFrame, ?_, (wcTrack_is ..).trans hready, (wcTrack_is ..).trans hhi, (wcTrack_is ..).trans hlo,
    wcReq_of_not_ready ((wcTrack_is ..).trans hready)⟩
  rw [wcTrack_is, wcPowerDown, setWc_is, State.put_is_apart _ _ (by decide), State.put_is_apart _ _ (by decide),
    State.put_is_apart _ _ (by decide), State.put_is_same _ _ _ _ (by decide)]
  rfl

/-- R69: what a refused write of WC_CTL leaves. -/
theorem wcCtl_refused_leaves (hfrz : s.is F.WC_GUARD_frz n = true) (hen : F.WC_CTL_en.of v.toNat ≠ s.get F.WC_CTL_en n) :
    WcFrame t n [.WC_STAT] s (wcCtlWrite (s.tick t) n v.toNat) ∧ (wcCtlWrite (s.tick t) n v.toNat).is F.WC_STAT_cfgerr n = true ∧
      (wcCtlWrite (s.tick t) n v.toNat).wc = s.wc := by
  rw [wcCtlWrite_refused (s := s.tick t) hfrz hen]
  exact ⟨Keeps.wcFrame (Keeps.flag (WcKeeps.refl _) (.own (.head _))), is_flag _ _ _ rfl (by decide), rfl⟩

theorem thresholdWrite_does (high : Bool) (hv : v.toNat % 4096 ≠ s.get (if high then F.WC_THH_code else F.WC_THL_code) n) :
    Does (.thresholdWrite t n high v) s (fun s' => WcFrame t n [if high then .WC_THH else .WC_THL] s s' ∧
      s'.get (if high then F.WC_THH_code else F.WC_THL_code) n = v.toNat % 4096 ∧
      (if high then (s'.wcOf n).hiMove.due else (s'.wcOf n).loMove.due) = max s.now t + 6400) := by
  refine ⟨_, rfl, ?_⟩
  have hof : (if high then F.WC_THH_code else F.WC_THL_code).of v.toNat = v.toNat % 4096 := by cases high <;> rfl
  have hne : ¬ ((if high then F.WC_THH_code else F.WC_THL_code).of v.toNat ==
      (s.tick t).get (if high then F.WC_THH_code else F.WC_THL_code) n) = true := fun e => hv (hof ▸ beq_iff_eq.1 e)
  rw [wcThrWrite, if_neg hne]
  refine ⟨Keeps.wcFrame (Keeps.put (Keeps.setWc (WcKeeps.refl _) _) _ (.own ?_)) ?_, ?_, ?_⟩
  · cases high <;> exact .head _
  · cases high <;> decide
  · rw [State.put_get_same _ _ _ _ (by cases high <;> decide), hof]
    cases high <;> exact Nat.mod_mod _ _
  · rw [put_wcOf, State.setWc_wcOf]
    cases high <;> rfl

theorem routingFreeze_does (hlock : s.locked .WC_GUARD n = false) (hv : F.WC_GUARD_frz.of v.toNat = 1) :
    Does (.routingFreeze t n v) s (fun s' => s'.is F.WC_GUARD_frz n = true ∧ s'.locked .WC_GUARD n = true ∧ RegsKept [.WC_GUARD] s s' ∧
      OthersKept .WC_GUARD n s s' ∧ s'.wc = s.wc) := by
  have hlock' : (s.tick t).locked .WC_GUARD n = false := hlock
  refine does_of_event (show execRoutingFreeze t n v s = _ from rfl) (by simp [hlock', hv]) ?_
  rw [wcGuardWrite, hlock', if_neg Bool.false_ne_true, hv]
  refine ⟨?_, State.lockReg_locked .., fun r i hr => ⟨?_, rfl⟩, fun m hm => ⟨?_, rfl⟩, rfl⟩
  · exact (State.put_is_same (s.tick t) F.WC_GUARD_frz n 1 (by decide)).trans rfl
  · exact (s.tick t).put_reg_of_ne (f := F.WC_GUARD_frz) n i 1 (fun e => hr (List.mem_singleton.2 e))
  · exact (s.tick t).put_reg_ne (f := F.WC_GUARD_frz) 1 (fun e => hm e.2)

theorem selfCheck_does (hchk : F.WC_CTL_chk.of v.toNat ≠ s.get F.WC_CTL_chk n) (h4 : F.WC_CTL_chk.of v.toNat ≤ 4)
    (hfrz : s.is F.WC_GUARD_frz n = false ∨ F.WC_CTL_en.of v.toNat = s.get F.WC_CTL_en n) :
    Does (.selfCheck t n v) s (fun s' => WcFrame t n [.WC_CTL, .WC_STAT] s s' ∧ s'.get F.WC_CTL_chk n = F.WC_CTL_chk.of v.toNat ∧
      s'.is F.WC_STAT_chkbusy n = true ∧ (s'.wcOf n).chkAt = max s.now t ∧ wcRaw s' n = 0) := by
  refine does_of_event (show execSelfCheck t n v s = _ from rfl) (by simp [hchk]) ?_
  rw [wcCtlWrite_taken (s := s.tick t) hfrz h4]
  have hcfg : (wcStoreCfg (s.tick t) n v.toNat).get F.WC_CTL_chk n = s.get F.WC_CTL_chk n := wcStoreCfg_get (by decide)
  obtain ⟨hnew, hbusy, hat⟩ := wcStoreChk_new (hcfg ▸ hchk) h4
  have hbusy' : (wcTrack (s.tick t) (wcCtlStore (s.tick t) n v.toNat) n).is F.WC_STAT_chkbusy n = true := by
    rw [wcTrack_is, wcCtlStore, State.is, wcStoreEn_get (by decide) (by decide)]
    exact hbusy
  refine ⟨((WcKeeps.refl _).ctlStore (.head _) (.tail _ (.head _))).track.wcFrame, ?_, hbusy', ?_, wcRaw_of_chkbusy hbusy'⟩
  · rw [wcTrack_get, wcCtlStore, wcStoreEn_get (by decide) (by decide), hnew]
  · exact (congrArg WcS.chkAt wcTrack_lasting :).trans (wcStoreEn_chkAt.trans hat)

end

end Sys2Proof.Machine
end

section
/-! PROOFS. The commands of the window comparators at which it decides, and the end of blanking (03_window_comparators.md, R64, R70 to R76). -/

namespace Sys2Proof.Machine

section
variable {t : Nat} {n : Fin 128} {s : State}

/-! ### Decisions (R64, R67, R76) -/

theorem FollowsInput.track {u s' : State} {m : Nat} {x : Int} (h : FollowsInput s m x s') : FollowsInput s m x (wcTrack u s' m) := by
  simpa only [FollowsInput, wcTrack_is] using h

theorem thresholdCrossing_does {x : Int} {posH posL : Nat} (hchk : s.get F.WC_CTL_chk n = 0) (hready : s.is F.WC_STAT_ready n = true)
    (hH : (s.wcOf n).hiMove.due ≤ max s.now t) (hL : (s.wcOf n).loMove.due ≤ max s.now t) :
    Does (.thresholdCrossing t n x posH posL) s (fun s' => WcFrame t n [.WC_STAT] s s' ∧ FollowsInput s n x s' ∧ (s'.wcOf n).vin = x) := by
  have hexec : exec (.thresholdCrossing t n x posH posL) s = .next (if (wcAt (s.tick t) n x posH posL).is F.WC_STAT_ready n then
      wcTrack (wcAt (s.tick t) n x posH posL) (wcEvaluate (wcAt (s.tick t) n x posH posL) n) n else wcAt (s.tick t) n x posH posL) := rfl
  obtain ⟨hfollows, -, hvin, -⟩ := wcEvaluate_follows (s := s.tick t) (n := n) (x := x) (posH := posH) (posL := posL) hchk hH hL
  refine ⟨_, hexec, ?_⟩
  rw [if_pos (show (wcAt (s.tick t) n x posH posL).is F.WC_STAT_ready n = true from hready)]
  exact ⟨(((WcKeeps.refl (s.tick t)).setWc _).evaluate (.head _) hchk).track.wcFrame, hfollows.track,
    (congrArg WcS.vin wcTrack_lasting :).trans hvin⟩

/-- R67: the comparator has settled. -/
def wcSettled (s : State) (n : Nat) : State := (s.setWc n { s.wcOf n with readyDue := none }).put F.WC_STAT_ready n 1

theorem wcSettled_wcOf (s : State) (n : Nat) : (wcSettled s n).wcOf n = { s.wcOf n with readyDue := none } := State.setWc_wcOf ..

theorem wcSettled_is (s : State) (n : Nat) {f : Fld} (hf : f.reg = .WC_STAT → F.WC_STAT_ready.Apart f) : (wcSettled s n).is f n = s.is f n :=
  State.put_is_apart _ _ hf

theorem FollowsInput.of_settled {s' : State} {m : Nat} {x : Int} (h : FollowsInput (wcSettled s m) m x s') : FollowsInput s m x s' := by
  have hget : ∀ {f : Fld}, f.reg ≠ .WC_STAT → (wcSettled s m).get f m = s.get f m := fun hf => State.put_get_apart _ _ fun e => absurd e hf
  simpa (disch := decide) only [FollowsInput, wcClear, wcHyst, wcHystTol, State.getS, hget, wcSettled_is] using h

theorem wcReady_does {d : Nat} (hchk : s.get F.WC_CTL_chk n = 0) (hen : s.is F.WC_CTL_en n = true) (hd : (s.wcOf n).readyDue = some d)
    (hle : d ≤ max s.now t) (hH : (s.wcOf n).hiMove.due ≤ max s.now t) (hL : (s.wcOf n).loMove.due ≤ max s.now t) :
    Does (.wcReady t n) s (fun s' => WcFrame t n [.WC_STAT] s s' ∧ FollowsInput s n (s.wcOf n).vin s' ∧ s'.is F.WC_STAT_ready n = true ∧
      (s'.wcOf n).readyDue = none) := by
  have hset : (wcSettled (s.tick t) n).wcOf n = { s.wcOf n with readyDue := none } := wcSettled_wcOf _ _
  have hchk' : (wcSettled (s.tick t) n).get F.WC_CTL_chk n = 0 := (State.put_get_apart _ _ (by decide)).trans hchk
  refine does_of_event (eff := fun s => wcTrack s (wcDecideNow (wcSettled s n) n) n) (show execWcReady t n s = _ from rfl)
    (by simp [hen, hd, hle]) ?_
  obtain ⟨hfollows, hready, hrd⟩ := wcDecideNow_follows (s := wcSettled (s.tick t) n) hchk'
    ((congrArg (·.hiMove.due) hset).trans_le hH) ((congrArg (·.loMove.due) hset).trans_le hL)
  have hvin : ((wcSettled (s.tick t) n).wcOf n).vin = (s.wcOf n).vin := (congrArg WcS.vin hset :)
  rw [hvin] at hfollows
  refine ⟨?_, ?_, ?_, ?_⟩
  · exact (Keeps.decideNow (Keeps.put ((WcKeeps.refl _).setWc _) 1 (.own (.head _))) (.head _) hchk').track.wcFrame
  · exact FollowsInput.of_settled (s := s.tick t) hfollows.track
  · exact hready.trans (State.put_is_same _ _ _ _ (by decide))
  · exact (congrArg WcS.readyDue wcTrack_lasting :).trans (hrd.trans (congrArg WcS.readyDue hset :))

/-- R76: the comparator acts on its outputs again: one still asserted outside blanking sets its sticky flag. -/
def wcActAgain (s : State) (n : Nat) : State :=
  let s := s.put F.WC_STAT_chkbusy n 0
  let clear := s.is F.WC_STAT_ready n && !s.is F.WC_STAT_blknow n
  let s := wcFlagIf (clear && s.is F.WC_STAT_hinow n) s F.WC_STAT_hi F.WC_IEN_hi n
  wcFlagIf (clear && s.is F.WC_STAT_lonow n) s F.WC_STAT_lo F.WC_IEN_lo n

theorem exec_selfCheckEnd : exec (.selfCheckEnd t n) s = event t s
    (fun s => s.is F.WC_STAT_chkbusy n && s.get F.WC_CTL_chk n == 0 && decide ((s.wcOf n).chkAt + ns 20 ≤ s.now))
    (fun s => wcTrack s (wcActAgain (if s.is F.WC_STAT_ready n then wcDecideNow s n else s) n) n) := rfl

theorem selfCheckEnd_does (hbusy : s.is F.WC_STAT_chkbusy n = true) (hchk : s.get F.WC_CTL_chk n = 0)
    (hat : (s.wcOf n).chkAt + 1280 ≤ max s.now t) :
    Does (.selfCheckEnd t n) s (fun s' => WcFrame t n [.WC_STAT] s s' ∧ s'.is F.WC_STAT_chkbusy n = false) := by
  have hat' : ((s.tick t).wcOf n).chkAt + ns 20 ≤ (s.tick t).now := hat
  refine does_of_event exec_selfCheckEnd ?_ ⟨Keeps.wcFrame (Keeps.track ?_), ?_⟩
  · simp only [State.tick_is, State.tick_get, hbusy, hchk, hat', decide_true, BEq.rfl, Bool.and_self]
  · refine Keeps.wcFlagIf (Keeps.wcFlagIf (Keeps.put ?_ 0 (.own (.head _))) (.head _)) (.head _)
    split
    · exact (WcKeeps.refl _).decideNow (.head _) hchk
    · exact WcKeeps.refl _
  · rw [wcTrack_is, wcActAgain, wcFlagIf_is_apart rfl (by decide), wcFlagIf_is_apart rfl (by decide), State.put_is_same _ _ _ _ (by decide)]
    rfl

/-! ### The end of blanking (R72 to R74) -/

/-- R70: blanking is over. -/
def wcLifted (s : State) (n : Nat) : State :=
  (s.setWc n { s.wcOf n with blk := none, inHi := false, inLo := false, heldHi := false, heldLo := false, heldIn := false }).put
    F.WC_STAT_blknow n 0

/-- R73: where `act`, each output that still stands sets its sticky flag. -/
def wcFlagStanding (act hi lo : Bool) (s : State) (n : Nat) : State :=
  wcFlagIf (act && lo) (wcFlagIf (act && hi) s F.WC_STAT_hi F.WC_IEN_hi n) F.WC_STAT_lo F.WC_IEN_lo n

/-- The source is raised where the condition holds. -/
def wcRaiseIf (b : Bool) (s : State) (n ev : Nat) : State := if b then s.raise 4 n ev else s

/-- R74: where `act`, each event that `h` holds is raised, if its output still stands. -/
def wcRaiseHeld (act hi lo : Bool) (h : WcS) (s : State) (n : Nat) : State :=
  wcRaiseIf (act && (h.heldIn && !hi && !lo)) (wcRaiseIf (act && (h.heldLo && lo)) (wcRaiseIf (act && (h.heldHi && hi)) s n 0) n 1) n 2

theorem wcBlankEnd_eq (s : State) (n : Nat) : wcBlankEnd s n =
    let u := wcLifted s n
    let act := u.is F.WC_STAT_ready n && !u.is F.WC_STAT_chkbusy n
    let hi := u.is F.WC_STAT_hinow n
    let lo := u.is F.WC_STAT_lonow n
    wcTrack s (wcRaiseHeld act hi lo (s.wcOf n) (wcFlagStanding act hi lo u n) n) n := by
  rw [wcBlankEnd]
  unfold wcLifted
  dsimp only
  congr 1
  cases (_ && _ : Bool)
  · rfl
  · rfl

section
variable {u : State} {m ev : Nat} {l : List RegName} {b act hi lo : Bool} {h : WcS}

theorem Keeps.wcRaiseIf (hk : WcKeeps m l s u) (hev : ev < 16) : WcKeeps m l s (wcRaiseIf b u m ev) := by
  cases b
  · exact hk
  · exact hk.raise hev

theorem Keeps.wcRaiseHeld (hk : WcKeeps m l s u) : WcKeeps m l s (wcRaiseHeld act hi lo h u m) :=
  Keeps.wcRaiseIf (Keeps.wcRaiseIf (Keeps.wcRaiseIf hk (by decide)) (by decide)) (by decide)

theorem Keeps.wcFlagStanding (hk : WcKeeps m l s u) (hl : .WC_STAT ∈ l) : WcKeeps m l s (wcFlagStanding act hi lo u m) :=
  Keeps.wcFlagIf (Keeps.wcFlagIf hk hl) hl

theorem Keeps.wcLifted (hk : WcKeeps m l s u) (hl : .WC_STAT ∈ l) : WcKeeps m l s (wcLifted u m) :=
  Keeps.put (Keeps.setWc hk _) 0 (.own hl)

@[simp] theorem wcRaiseIf_is (f : Fld) (i : Nat) : (Machine.wcRaiseIf b s m ev).is f i = s.is f i := by cases b <;> rfl
@[simp] theorem wcRaiseIf_wcOf (i : Nat) : (Machine.wcRaiseIf b s m ev).wcOf i = s.wcOf i := by cases b <;> rfl
@[simp] theorem wcRaiseIf_now : (Machine.wcRaiseIf b s m ev).now = s.now := by cases b <;> rfl

theorem mem_wcRaiseIf_out (o : Out) : o ∈ (Machine.wcRaiseIf b s m ev).out ↔ o ∈ s.out ∨ (b = true ∧ o = .fabric 4 m ev s.now) := by
  cases b <;> simp [Machine.wcRaiseIf]

@[simp] theorem wcRaiseHeld_is (f : Fld) (i : Nat) : (Machine.wcRaiseHeld act hi lo h s m).is f i = s.is f i := by
  simp only [Machine.wcRaiseHeld, wcRaiseIf_is]

@[simp] theorem wcRaiseHeld_wcOf (i : Nat) : (Machine.wcRaiseHeld act hi lo h s m).wcOf i = s.wcOf i := by
  simp only [Machine.wcRaiseHeld, wcRaiseIf_wcOf]

theorem mem_wcRaiseHeld_out (hs : ∀ e x, Out.fabric 4 m e x ∉ s.out) :
    (Out.fabric 4 m 0 s.now ∈ (Machine.wcRaiseHeld act hi lo h s m).out ↔ (act && (h.heldHi && hi)) = true) ∧
    (Out.fabric 4 m 1 s.now ∈ (Machine.wcRaiseHeld act hi lo h s m).out ↔ (act && (h.heldLo && lo)) = true) := by
  simp only [Machine.wcRaiseHeld, mem_wcRaiseIf_out, wcRaiseIf_now, hs]
  simp

theorem wcFlagStanding_is {g : Fld} (hg : g.reg = .WC_STAT) (h13 : 13 ≤ g.lo) : (Machine.wcFlagStanding act hi lo s m).is g m = s.is g m := by
  have happart : ∀ {f : Fld}, f.lo + f.w ≤ 13 → f.lo + f.w ≤ g.lo ∨ g.lo + g.w ≤ f.lo := fun hf => .inl (hf.trans h13)
  rw [Machine.wcFlagStanding, wcFlagIf_is_apart hg (happart (by decide)), wcFlagIf_is_apart hg (happart (by decide))]

theorem wcFlagStanding_hi : (Machine.wcFlagStanding act hi lo s m).is F.WC_STAT_hi m = (s.is F.WC_STAT_hi m || (act && hi)) := by
  rw [Machine.wcFlagStanding, wcFlagIf_is_apart rfl (by decide), wcFlagIf_is_self _ rfl rfl (by decide)]

theorem wcFlagStanding_lo : (Machine.wcFlagStanding act hi lo s m).is F.WC_STAT_lo m = (s.is F.WC_STAT_lo m || (act && lo)) := by
  rw [Machine.wcFlagStanding, wcFlagIf_is_self _ rfl rfl (by decide), wcFlagIf_is_apart rfl (by decide)]

theorem wcFlagStanding_fabric (c i e : Nat) (x : Int) :
    Out.fabric c i e x ∈ (Machine.wcFlagStanding act hi lo s m).out ↔ Out.fabric c i e x ∈ s.out := by
  rw [Machine.wcFlagStanding, wcFlagIf_fabric, wcFlagIf_fabric]

theorem Keeps.wc_now (hk : WcKeeps m l s u) : u.now = s.now := congrArg (fun p => p.1.now) hk.view

theorem wcLifted_is {g : Fld} (hg : g.reg = .WC_STAT → F.WC_STAT_blknow.Apart g) : (Machine.wcLifted s m).is g m = s.is g m :=
  State.put_is_apart _ _ hg

end

theorem blankingEnd_does {b e : Nat} (hblk : (s.wcOf n).blk = some (b, e)) (he : e ≤ max s.now t) :
    Does (.blankingEnd t n) s (fun s' => WcFrame t n [.WC_STAT] s s' ∧ s'.is F.WC_STAT_blknow n = false ∧ (s'.wcOf n).blk = none ∧
      s'.is F.WC_STAT_hinow n = s.is F.WC_STAT_hinow n ∧ s'.is F.WC_STAT_lonow n = s.is F.WC_STAT_lonow n ∧
      s'.is F.WC_STAT_hi n = (s.is F.WC_STAT_hi n || (s.is F.WC_STAT_ready n && !s.is F.WC_STAT_chkbusy n && s.is F.WC_STAT_hinow n)) ∧
      s'.is F.WC_STAT_lo n = (s.is F.WC_STAT_lo n || (s.is F.WC_STAT_ready n && !s.is F.WC_STAT_chkbusy n && s.is F.WC_STAT_lonow n)) ∧
      (s.is F.WC_STAT_ready n = true → s.is F.WC_STAT_chkbusy n = false →
        (Out.fabric 4 n 0 (max s.now t : Nat) ∈ s'.out ↔ (s.wcOf n).heldHi = true ∧ s.is F.WC_STAT_hinow n = true) ∧
        (Out.fabric 4 n 1 (max s.now t : Nat) ∈ s'.out ↔ (s.wcOf n).heldLo = true ∧ s.is F.WC_STAT_lonow n = true))) := by
  refine does_of_event (show execBlankingEnd t n s = _ from rfl) (by simp [hblk, he]) ?_
  have hlift : WcKeeps n [.WC_STAT] (s.tick t) (wcLifted (s.tick t) n) := (WcKeeps.refl _).wcLifted (.head _)
  have hwc : (wcLifted (s.tick t) n).wcOf n = { s.wcOf n with
    blk := none, inHi := false, inLo := false, heldHi := false, heldLo := false, heldIn := false } := State.setWc_wcOf ..
  have hready : (wcLifted (s.tick t) n).is F.WC_STAT_ready n = s.is F.WC_STAT_ready n := wcLifted_is (by decide)
  have hbusy : (wcLifted (s.tick t) n).is F.WC_STAT_chkbusy n = s.is F.WC_STAT_chkbusy n := wcLifted_is (by decide)
  have hhi : (wcLifted (s.tick t) n).is F.WC_STAT_hinow n = s.is F.WC_STAT_hinow n := wcLifted_is (by decide)
  have hlo : (wcLifted (s.tick t) n).is F.WC_STAT_lonow n = s.is F.WC_STAT_lonow n := wcLifted_is (by decide)
  rw [wcBlankEnd_eq]
  dsimp only
  rw [hready, hbusy, hhi, hlo, tick_wcOf]
  generalize hact : (s.is F.WC_STAT_ready n && !s.is F.WC_STAT_chkbusy n) = act
  have hflag := hlift.wcFlagStanding (act := act) (hi := s.is F.WC_STAT_hinow n) (lo := s.is F.WC_STAT_lonow n) (.head _)
  have hraised := hflag.wcRaiseHeld (act := act) (hi := s.is F.WC_STAT_hinow n) (lo := s.is F.WC_STAT_lonow n) (h := s.wcOf n)
  refine ⟨hraised.track.wcFrame, ?_, ?_, ?_, ?_, ?_, ?_, fun hr hb => ?_⟩
  · rw [wcTrack_is, wcRaiseHeld_is, wcFlagStanding_is rfl (by decide), wcLifted, State.put_is_same _ _ _ _ (by decide)]; rfl
  · refine (congrArg WcS.blk wcTrack_lasting :).trans ?_
    rw [wcRaiseHeld_wcOf, wcFlagStanding, wcFlagIf_wcOf, wcFlagIf_wcOf]
    exact (congrArg WcS.blk hwc :)
  · rw [wcTrack_is, wcRaiseHeld_is, wcFlagStanding_is rfl (by decide), hhi]
  · rw [wcTrack_is, wcRaiseHeld_is, wcFlagStanding_is rfl (by decide), hlo]
  · rw [wcTrack_is, wcRaiseHeld_is, wcFlagStanding_hi, wcLifted_is (by decide)]; rfl
  · rw [wcTrack_is, wcRaiseHeld_is, wcFlagStanding_lo, wcLifted_is (by decide)]; rfl
  · have hnone : ∀ (c : Nat) (x : Int), Out.fabric 4 n c x ∉
        (wcFlagStanding act (s.is F.WC_STAT_hinow n) (s.is F.WC_STAT_lonow n) (wcLifted (s.tick t) n) n).out := fun c x hc =>
      List.not_mem_nil (wcFlagStanding_fabric .. |>.1 hc)
    have htrue : act = true := by rw [← hact, hr, hb]; rfl
    have hout := mem_wcRaiseHeld_out (act := act) (hi := s.is F.WC_STAT_hinow n) (lo := s.is F.WC_STAT_lonow n) (h := s.wcOf n) hnone
    rw [hflag.wc_now, State.tick_now] at hout
    simpa only [wcTrack_out, htrue, Bool.true_and, Bool.and_eq_true] using hout

end

/-- R65, R67, R69, R76: what control, thresholds, routing and self-check do. -/
theorem comparatorControlRules : ComparatorControlRules := by
  intro t n v s h en chk
  refine ⟨wcEnable_does, wcDisable_does, fun hfrz => ⟨fun ⟨hen, hv⟩ => ?_, fun ⟨hen, hv⟩ => ?_⟩, fun high hv => thresholdWrite_does high hv,
    routingFreeze_does, selfCheck_does, selfCheckEnd_does⟩
  · have hv' : F.WC_CTL_en.of v.toNat = 0 := hv
    refine does_of_event (show execWcDisable t n v s = _ from rfl) (by simp [hen, hv']) (wcCtl_refused_leaves hfrz fun e => ?_)
    simp [State.is, ← e, hv'] at hen
  · have hv' : F.WC_CTL_en.of v.toNat = 1 := hv
    refine does_of_event (show execWcEnable t n v s = _ from rfl) (by simp [hen, hv']) (wcCtl_refused_leaves hfrz fun e => ?_)
    simp [State.is, ← e, hv'] at hen

/-- R63, R64, R66, R67, R73: what a decision does to both outputs. -/
theorem comparatorOutputsRules : ComparatorOutputsRules := by
  intro t n s h thh thl hy tol hyTol clear Follows hchk
  have hfollows : ∀ {x : Int} {s' : State}, FollowsInput s n x s' → Follows x s' := by
    rintro x s' ⟨⟨hup, hdown, hholdUp, hholdDown⟩, hlow, hstickyHi, hstickyLo⟩
    obtain ⟨lup, ldown, lholdUp, lholdDown⟩ := hlow.mirrored
    exact ⟨hup, hdown, hholdUp, hholdDown, lup, ldown, lholdUp, lholdDown, hstickyHi, hstickyLo⟩
  refine ⟨fun v posH posL hready hH hL => ?_, fun d hen hd hle hH hL => ?_⟩
  · obtain ⟨s', hs, hframe, hf, hvin⟩ := thresholdCrossing_does (x := v) (posH := posH) (posL := posL) hchk hready hH hL
    exact ⟨s', hs, hframe, hfollows hf, hvin⟩
  · obtain ⟨s', hs, hframe, hf, hrest⟩ := wcReady_does hchk hen hd hle hH hL
    exact ⟨s', hs, hframe, hfollows hf, hrest⟩

/-- R70, R72 to R74: what the end of blanking does. -/
theorem blankingLiftsRules : BlankingLiftsRules := fun _ _ _ _ _ => blankingEnd_does

end Sys2Proof.Machine

namespace Sys2Proof.Settled

open Sys2Proof.Machine

/-- Settles O25: each command of a comparator is one equation of the model with the frame of a command on the comparator; a decision lies in the
hysteresis bands of both outputs, within the tolerances of R66. -/
theorem comparators : Obligations.Comparators := ⟨comparatorControlRules, comparatorOutputsRules, blankingLiftsRules⟩

end Sys2Proof.Settled
end

section
/-! PROOFS. The trip response of the counter units: what it makes of each unit, one by one, and what a command of a trip zone keeps
(06_counter_units.md, R147 to R152). -/

namespace Sys2Proof.Machine

/-! ### The frame of a zone's command -/

/-- What a command of trip zone `z` does not touch beside registers and event sources: the rest of the device but the counter units, and the
other zones. -/
def tzView (z : Nat) (s : State) : State × (Nat → TzS) :=
  ({ s with out := [], regs := [], hw := [], tz := [], cu := [], srcAt := [], vsrc := [] }, fun m => if m = z then {} else s.tzOf m)

theorem tzView_blind (z : Nat) : Blind (tzView z) := fun _ _ _ _ _ _ => rfl

/-- From `s` to `s'` a command of trip zone `z` has written no registers but the zone's TZ_STAT and TZ_LINK, CU_STAT and the vector registers. -/
abbrev TzKeeps (z : Nat) (s s' : State) : Prop :=
  Keeps (tzView z) 2 z (UnitMay z [.TZ_STAT, .TZ_LINK] [.CU_STAT, .VU_PEND, .VU_LOST]) s s'

section
variable {z : Nat} {s u : State}

theorem TzKeeps.refl (s : State) : TzKeeps z s s := Keeps.refl (tzView_blind z) s

theorem Keeps.tripFrame {t : Nat} (h : TzKeeps z (s.tick t) u) : TripFrame t z s u := by
  have hrest : (tzView z u).1 = (tzView z (s.tick t)).1 := congrArg Prod.fst h.view
  have hframe : u = { (tzView z u).1 with
    out := u.out, regs := u.regs, hw := u.hw, tz := u.tz, cu := u.cu, srcAt := u.srcAt, vsrc := u.vsrc } := rfl
  refine ⟨hframe.trans (by rw [hrest]; rfl), h.src, fun r i hr => h.regsKept r i (fun hm => hr ?_), h.othersKept (by decide),
    h.othersKept (by decide), fun m hm => ?_⟩
  · revert hm; simp only [List.mem_append, List.mem_cons, List.not_mem_nil, or_false]; tauto
  · have hm' := congrFun (congrArg Prod.snd h.view) m
    exact (if_neg hm).symm.trans (hm'.trans (if_neg hm))

theorem Keeps.setTz {may : RegName → Nat → Prop} (h : Keeps (tzView z) 2 z may s u) (x : TzS) :
    Keeps (tzView z) 2 z may s (u.setTz z x) := by
  refine h.hidden (Prod.ext rfl (funext fun m => ?_)) rfl rfl rfl
  by_cases hm : m = z
  · simp only [tzView, if_pos hm]
  · simp only [tzView, if_neg hm, State.setTz_tzOf_ne _ _ hm]

theorem Keeps.tzSetCu (h : TzKeeps z s u) (k : Nat) (x : CuS) : TzKeeps z s (u.setCu k x) := h.hidden rfl rfl rfl rfl

theorem Keeps.putStat (h : TzKeeps z s u) {f : Fld} (hf : f.reg = .CU_STAT) (i x : Nat) : TzKeeps z s (u.put f i x) :=
  h.put x (.inl (hf ▸ .head _))

end

/-! ### The reasons of a trip (R149) -/

theorem cuTripReason_iff {s : State} {u : Nat} : cuTripReason s u = true ↔
    s.is F.CU_STAT_olkt u = true ∨ ∃ z < 16, (s.get F.CU_TZM_zone u).testBit z = true ∧ s.is F.TZ_STAT_lat z = true := by
  simp only [cuTripReason, Bool.or_eq_true, List.any_eq_true, List.mem_range, Bool.and_eq_true]

/-- The reasons of a unit come from its own registers and the zones' latches. -/
theorem cuTripReason_congr {s s' : State} {u : Nat} (holkt : s'.is F.CU_STAT_olkt u = s.is F.CU_STAT_olkt u)
    (hzone : s'.get F.CU_TZM_zone u = s.get F.CU_TZM_zone u)
    (hlat : ∀ z < 16, (s.get F.CU_TZM_zone u).testBit z = true → s'.is F.TZ_STAT_lat z = s.is F.TZ_STAT_lat z) :
    cuTripReason s' u = cuTripReason s u := by
  have hz : ∀ z, (z < 16 ∧ (s'.get F.CU_TZM_zone u).testBit z = true ∧ s'.is F.TZ_STAT_lat z = true) ↔
      (z < 16 ∧ (s.get F.CU_TZM_zone u).testBit z = true ∧ s.is F.TZ_STAT_lat z = true) := fun z => by
    rw [hzone]
    exact and_congr_right fun h16 => and_congr_right fun hb => by rw [hlat z h16 hb]
  rw [Bool.eq_iff_iff, cuTripReason_iff, cuTripReason_iff, holkt]
  simp only [hz]

/-! ### One unit (R149, R152) -/

/-- The trip response depends on the same of unit `u` in both states. -/
structure SameUnit (u : Nat) (s s' : State) : Prop where
  now : s'.now = s.now
  cu : s'.cuOf u = s.cuOf u
  tripped : s'.is F.CU_STAT_tripped u = s.is F.CU_STAT_tripped u
  reason : cuTripReason s' u = cuTripReason s u

theorem SameUnit.refl (u : Nat) (s : State) : SameUnit u s s := ⟨rfl, rfl, rfl, rfl⟩

/-- R152: a tripped unit without a reason that does not wait for a boundary resumes at once where it has none to wait for. -/
def ResumesAtOnce (s : State) (u : Nat) : Prop := (s.cuOf u).counting = false ∨ (s.cuOf u).gov.mode = 2 ∨ (s.cuOf u).gov.mode = 3

/-- R149, R152: what the trip response makes of unit `u`. -/
structure TripOutcome (u : Nat) (s s' : State) : Prop where
  trips : cuTripReason s u = true → s'.is F.CU_STAT_tripped u = true ∧ (s'.cuOf u).resume = none
  stays : cuTripReason s u = false → (s.is F.CU_STAT_tripped u = true → (s.cuOf u).resume ≠ none) →
    s'.is F.CU_STAT_tripped u = s.is F.CU_STAT_tripped u
  waits : cuTripReason s u = false → s.is F.CU_STAT_tripped u = true → (s.cuOf u).resume = none → ¬ ResumesAtOnce s u →
    s'.is F.CU_STAT_tripped u = true ∧ (s'.cuOf u).resume = some ((s.now : Int) + 128)
  resumes : cuTripReason s u = false → s.is F.CU_STAT_tripped u = true → (s.cuOf u).resume = none → ResumesAtOnce s u →
    s'.is F.CU_STAT_tripped u = false ∧ (s'.cuOf u).ioA = false ∧ (s'.cuOf u).ioB = false

/-! The cases of the response. -/

section
variable {s : State} {u : Nat}

/-- R149: a unit with a reason that is not tripped yet trips, and holds its pins' levels. -/
def cuTripNow (s : State) (u : Nat) : State :=
  (s.put F.CU_STAT_tripped u 1).setCu u { s.cuOf u with
    resume := none, holdA := pinLevel (s.cuOf u).ioA (s.is F.CU_CTL_pola u), holdB := pinLevel (s.cuOf u).ioB (s.is F.CU_CTL_polb u) }

/-- R152: the unit resumes at once, both outputs inactive. -/
def cuResumeNow (s : State) (u : Nat) : State :=
  cuSetIo (cuSetIo ((s.put F.CU_STAT_tripped u 0).setCu u { s.cuOf u with riseA := none, riseB := none }) u 0 false (edgeAfter s.now : Nat)) u 1 false
    (edgeAfter s.now : Nat)

theorem cuTripEval_tripped (hr : cuTripReason s u = true) (ht : s.is F.CU_STAT_tripped u = true) :
    cuTripEval s u = s.setCu u { s.cuOf u with resume := none } := by
  rw [cuTripEval, if_pos hr, if_pos ht]

theorem cuTripEval_trips (hr : cuTripReason s u = true) (ht : s.is F.CU_STAT_tripped u = false) : cuTripEval s u = cuTripNow s u := by
  rw [cuTripEval, if_pos hr, if_neg (by simp [ht])]; rfl

theorem cuTripEval_stays (hr : cuTripReason s u = false) (hw : s.is F.CU_STAT_tripped u = true → (s.cuOf u).resume ≠ none) :
    cuTripEval s u = s := by
  have hcond : ¬ (s.is F.CU_STAT_tripped u && (s.cuOf u).resume.isNone) = true := fun hc => by
    rw [Bool.and_eq_true, Option.isNone_iff_eq_none] at hc
    exact hw hc.1 hc.2
  rw [cuTripEval, if_neg (by simp [hr]), if_neg hcond]

theorem resumesAtOnce_iff : (!(s.cuOf u).counting || (s.cuOf u).gov.mode == 2 || (s.cuOf u).gov.mode == 3) = true ↔ ResumesAtOnce s u := by
  simp [ResumesAtOnce, or_assoc]

theorem cuTripEval_resumes (hr : cuTripReason s u = false) (ht : s.is F.CU_STAT_tripped u = true) (hw : (s.cuOf u).resume = none)
    (hnow : ResumesAtOnce s u) : cuTripEval s u = cuResumeNow s u := by
  rw [cuTripEval, if_neg (by simp [hr]), if_pos (by simp [ht, hw]), if_pos (resumesAtOnce_iff.2 hnow)]; rfl

theorem cuTripEval_waits (hr : cuTripReason s u = false) (ht : s.is F.CU_STAT_tripped u = true) (hw : (s.cuOf u).resume = none)
    (hnow : ¬ ResumesAtOnce s u) : cuTripEval s u = s.setCu u { s.cuOf u with resume := some ((s.now : Int) + 128) } := by
  rw [cuTripEval, if_neg (by simp [hr]), if_pos (by simp [ht, hw]), if_neg (fun hc => hnow (resumesAtOnce_iff.1 hc))]

end

/-! ### What the response touches -/

/-- From `s` to `s'` nothing has changed but CU_STAT.tripped and the hidden state of the units of `own`, and edge events of A and B have been
raised. -/
structure TripLocal (own : Nat → Prop) (s s' : State) : Prop where
  frame : s' = { s with regs := s'.regs, cu := s'.cu, srcAt := s'.srcAt, out := s'.out }
  get : ∀ f i, (f.reg = .CU_STAT → own i → F.CU_STAT_tripped.Apart f) → s'.get f i = s.get f i
  cu : ∀ m, ¬ own m → s'.cuOf m = s.cuOf m
  out : ∀ o ∈ s'.out, o ∈ s.out ∨ ∃ m ev x, o = .fabric 1 m ev x ∧ 4 < ev

section
variable {own : Nat → Prop} {s s1 s2 : State} {u : Nat}

theorem TripLocal.refl (s : State) : TripLocal own s s := ⟨rfl, fun _ _ _ => rfl, fun _ _ => rfl, fun _ => .inl⟩

theorem TripLocal.trans (h : TripLocal own s s1) (g : TripLocal own s1 s2) : TripLocal own s s2 where
  frame := g.frame.trans (by rw [h.frame])
  get f i hf := (g.get f i hf).trans (h.get f i hf)
  cu m hm := (g.cu m hm).trans (h.cu m hm)
  out o ho := (g.out o ho).elim (h.out o) .inr

theorem TripLocal.mono {own' : Nat → Prop} (h : TripLocal own s s1) (hown : ∀ m, own m → own' m) : TripLocal own' s s1 :=
  ⟨h.frame, fun f i hf => h.get f i fun hr ho => hf hr (hown i ho), fun m hm => h.cu m fun ho => hm (hown m ho), h.out⟩

theorem TripLocal.put (hu : own u) (x : Nat) : TripLocal own s (s.put F.CU_STAT_tripped u x) where
  frame := rfl
  get f i hf := by
    by_cases hi : i = u
    · exact s.put_get_apart x fun hr => hf hr (hi ▸ hu)
    · rw [State.get, s.put_reg_ne x (fun e => hi e.2), State.get]
  cu _ _ := rfl
  out _ := .inl

theorem TripLocal.setCu (hu : own u) (x : CuS) : TripLocal own s (s.setCu u x) :=
  ⟨rfl, fun _ _ _ => rfl, fun _ hm => State.setCu_cuOf_ne _ _ fun e => hm (e ▸ hu), fun _ => .inl⟩

theorem TripLocal.raise {ev : Nat} (hev : 4 < ev) (x : Int) : TripLocal own s (cuRaise s u ev x) := by
  refine ⟨rfl, fun _ _ _ => rfl, fun _ _ => rfl, fun o ho => (List.mem_append.1 ho).imp_right fun h => ?_⟩
  exact ⟨u, ev, x, List.mem_singleton.1 h, hev⟩

theorem TripLocal.setIo (hu : own u) (w : Nat) (v : Bool) (x : Int) : TripLocal own s (cuSetIo s u w v x) := by
  unfold cuSetIo
  dsimp only
  split
  · split
    · exact .refl s
    · exact (TripLocal.setCu hu _).trans (.raise (by decide) x)
  · split
    · exact .refl s
    · exact (TripLocal.setCu hu _).trans (.raise (by decide) x)

theorem TripLocal.resumeNow (hu : own u) : TripLocal own s (cuResumeNow s u) :=
  (((TripLocal.put hu 0).trans (.setCu hu _)).trans (.setIo hu 0 false _)).trans (.setIo hu 1 false _)

/-- R149, R152: every case of the response. -/
theorem cuTripEval_cases (s : State) (u : Nat) : cuTripEval s u = s ∨ cuTripEval s u = cuTripNow s u ∨ cuTripEval s u = cuResumeNow s u ∨
    ∃ h, cuTripEval s u = s.setCu u h := by
  cases hr : cuTripReason s u <;> cases ht : s.is F.CU_STAT_tripped u
  · exact .inl (cuTripEval_stays hr fun h => absurd (ht.symm.trans h) (by decide))
  · by_cases hw : (s.cuOf u).resume = none
    · by_cases hnow : ResumesAtOnce s u
      · exact .inr (.inr (.inl (cuTripEval_resumes hr ht hw hnow)))
      · exact .inr (.inr (.inr ⟨_, cuTripEval_waits hr ht hw hnow⟩))
    · exact .inl (cuTripEval_stays hr fun _ => hw)
  · exact .inr (.inl (cuTripEval_trips hr ht))
  · exact .inr (.inr (.inr ⟨_, cuTripEval_tripped hr ht⟩))

theorem cuTripEval_local (s : State) (u : Nat) : TripLocal (· = u) s (cuTripEval s u) := by
  rcases cuTripEval_cases s u with h | h | h | ⟨x, h⟩
  · rw [h]; exact .refl s
  · rw [h]; exact (TripLocal.put (own := (· = u)) rfl 1).trans (.setCu (own := (· = u)) rfl _)
  · rw [h]; exact .resumeNow (own := (· = u)) rfl
  · rw [h]; exact .setCu (own := (· = u)) rfl x

theorem foldl_tripEval_local (l : List Nat) (s : State) : TripLocal (· ∈ l) s (l.foldl cuTripEval s) := by
  induction l generalizing s with
  | nil => exact .refl s
  | cons u l ih =>
    exact ((cuTripEval_local s u).mono fun m hm => hm ▸ .head _).trans ((ih _).mono fun m hm => .tail _ hm)

/-- The response changes no reason. -/
theorem TripLocal.reason (h : TripLocal own s s1) (m : Nat) : cuTripReason s1 m = cuTripReason s m :=
  cuTripReason_congr (congrArg (· == 1) (h.get F.CU_STAT_olkt m fun _ _ => by decide)) (h.get F.CU_TZM_zone m fun hr => absurd hr (by decide))
    fun z _ _ => congrArg (· == 1) (h.get F.TZ_STAT_lat z fun hr => absurd hr (by decide))

theorem TripLocal.sameUnit (h : TripLocal own s s1) {m : Nat} (hm : ¬ own m) : SameUnit m s s1 where
  now := by rw [h.frame]
  cu := h.cu m hm
  tripped := congrArg (· == 1) (h.get F.CU_STAT_tripped m fun _ ho => absurd ho hm)
  reason := h.reason m

/-! ### The outcome of one unit -/

theorem cuSetIo_ioA (s : State) (u : Nat) (v : Bool) (x : Int) : ((cuSetIo s u 0 v x).cuOf u).ioA = v := by
  unfold cuSetIo
  rw [if_pos rfl]
  split
  · next h => exact beq_iff_eq.1 h
  · exact congrArg (·.ioA) (State.setCu_cuOf ..)

theorem cuSetIo_ioB (s : State) (u : Nat) (v : Bool) (x : Int) :
    ((cuSetIo s u 1 v x).cuOf u).ioB = v ∧ ((cuSetIo s u 1 v x).cuOf u).ioA = (s.cuOf u).ioA := by
  unfold cuSetIo
  rw [if_neg (by decide)]
  split
  · next h => exact ⟨beq_iff_eq.1 h, rfl⟩
  · exact ⟨congrArg (·.ioB) (State.setCu_cuOf ..), congrArg (·.ioA) (State.setCu_cuOf ..)⟩

theorem cuResumeNow_outcome (s : State) (u : Nat) : (cuResumeNow s u).is F.CU_STAT_tripped u = false ∧
    ((cuResumeNow s u).cuOf u).ioA = false ∧ ((cuResumeNow s u).cuOf u).ioB = false := by
  obtain ⟨hB, hA⟩ := cuSetIo_ioB (cuSetIo ((s.put F.CU_STAT_tripped u 0).setCu u { s.cuOf u with riseA := none, riseB := none }) u 0 false
    (edgeAfter s.now : Nat)) u false (edgeAfter s.now : Nat)
  have hset : ∀ (w : State) (k : Nat) (x : Int), (cuSetIo w u k false x).is F.CU_STAT_tripped u = w.is F.CU_STAT_tripped u := fun w k x => by
    unfold cuSetIo
    dsimp only
    repeat' split
    all_goals rfl
  refine ⟨?_, hA.trans (cuSetIo_ioA ..), hB⟩
  rw [cuResumeNow, hset, hset]
  exact (State.put_is_same s F.CU_STAT_tripped u 0 (by decide)).trans rfl

/-- R149, R152: what the response makes of its unit. -/
theorem cuTripEval_outcome (s : State) (u : Nat) : TripOutcome u s (cuTripEval s u) where
  trips hr := by
    cases ht : s.is F.CU_STAT_tripped u
    · rw [cuTripEval_trips hr ht]
      exact ⟨(State.put_is_same s F.CU_STAT_tripped u 1 (by decide)).trans rfl, congrArg (·.resume) (State.setCu_cuOf ..)⟩
    · rw [cuTripEval_tripped hr ht]
      exact ⟨ht, congrArg (·.resume) (State.setCu_cuOf ..)⟩
  stays hr hw := by rw [cuTripEval_stays hr hw]
  waits hr ht hw hnow := by
    rw [cuTripEval_waits hr ht hw hnow]
    exact ⟨ht, congrArg (·.resume) (State.setCu_cuOf ..)⟩
  resumes hr ht hw hnow := by
    rw [cuTripEval_resumes hr ht hw hnow]
    exact cuResumeNow_outcome s u

theorem TripOutcome.congr (h : TripOutcome u s1 s2) {s3 : State} (h1 : SameUnit u s s1) (h2 : SameUnit u s2 s3) : TripOutcome u s s3 := by
  have hnow : ResumesAtOnce s1 u ↔ ResumesAtOnce s u := by rw [ResumesAtOnce, h1.cu, ResumesAtOnce]
  constructor
  · intro hr
    rw [h2.tripped, h2.cu]
    exact h.trips (h1.reason.trans hr)
  · intro hr hw
    rw [h2.tripped, ← h1.tripped]
    exact h.stays (h1.reason.trans hr) (by rw [h1.tripped, h1.cu]; exact hw)
  · intro hr ht hw hn
    rw [h2.tripped, h2.cu, ← h1.now]
    exact h.waits (h1.reason.trans hr) (h1.tripped.trans ht) (h1.cu ▸ hw) (mt hnow.1 hn)
  · intro hr ht hw hn
    rw [h2.tripped, h2.cu]
    exact h.resumes (h1.reason.trans hr) (h1.tripped.trans ht) (h1.cu ▸ hw) (hnow.2 hn)

/-! ### All units -/

theorem cuTripAll_local (s : State) : TripLocal (· < 128) s (cuTripAll s) :=
  (foldl_tripEval_local (List.range 128) s).mono fun _ hm => List.mem_range.1 hm

/-- Every unit takes its own response, whatever the others do. -/
theorem cuTripAll_outcome (s : State) (hu : u < 128) : TripOutcome u s (cuTripAll s) := by
  obtain ⟨l1, l2, hl⟩ := List.append_of_mem (List.mem_range.2 hu)
  have hnodup : (l1 ++ u :: l2).Nodup := hl ▸ List.nodup_range
  rw [List.nodup_append, List.nodup_cons] at hnodup
  obtain ⟨-, ⟨h2, -⟩, h12⟩ := hnodup
  have h1 : u ∉ l1 := fun hm => h12 u hm u (.head _) rfl
  rw [cuTripAll, hl, List.foldl_append, List.foldl_cons]
  exact (cuTripEval_outcome _ u).congr ((foldl_tripEval_local l1 s).sameUnit h1) ((foldl_tripEval_local l2 _).sameUnit h2)

/-! ### Responses without an edge event -/

/-- The response of unit `u` moves no output: it does not resume at once. -/
def TripQuiet (s : State) (u : Nat) : Prop :=
  cuTripReason s u = false → s.is F.CU_STAT_tripped u = true → (s.cuOf u).resume = none → ¬ ResumesAtOnce s u

theorem TripQuiet.congr (h : TripQuiet s u) (hs : SameUnit u s s1) : TripQuiet s1 u := by
  unfold TripQuiet ResumesAtOnce
  rw [hs.reason, hs.tripped, hs.cu]
  exact h

theorem Keeps.tripEval {z : Nat} (h : TzKeeps z s s1) (hq : TripQuiet s1 u) :
    TzKeeps z s (cuTripEval s1 u) ∧ (cuTripEval s1 u).out = s1.out := by
  cases hr : cuTripReason s1 u <;> cases ht : s1.is F.CU_STAT_tripped u
  · rw [cuTripEval_stays hr fun h => absurd (ht.symm.trans h) (by decide)]; exact ⟨h, rfl⟩
  · by_cases hw : (s1.cuOf u).resume = none
    · rw [cuTripEval_waits hr ht hw (hq hr ht hw)]; exact ⟨h.tzSetCu _ _, rfl⟩
    · rw [cuTripEval_stays hr fun _ => hw]; exact ⟨h, rfl⟩
  · rw [cuTripEval_trips hr ht]; exact ⟨(h.putStat rfl _ _).tzSetCu _ _, rfl⟩
  · rw [cuTripEval_tripped hr ht]; exact ⟨h.tzSetCu _ _, rfl⟩

theorem Keeps.foldl_tripEval {z : Nat} (l : List Nat) (hl : l.Nodup) (h : TzKeeps z s s1) (hq : ∀ m ∈ l, TripQuiet s1 m) :
    TzKeeps z s (l.foldl cuTripEval s1) ∧ (l.foldl cuTripEval s1).out = s1.out := by
  induction l generalizing s1 with
  | nil => exact ⟨h, rfl⟩
  | cons m l ih =>
    rw [List.nodup_cons] at hl
    obtain ⟨hkeep, hout⟩ := h.tripEval (hq m (.head _))
    obtain ⟨hkeep', hout'⟩ := ih hl.2 hkeep fun k hk =>
      (hq k (.tail _ hk)).congr ((cuTripEval_local s1 m).sameUnit fun e => hl.1 (e ▸ hk))
    exact ⟨hkeep', hout'.trans hout⟩

theorem Keeps.tripAll {z : Nat} (h : TzKeeps z s s1) (hq : ∀ m < 128, TripQuiet s1 m) :
    TzKeeps z s (cuTripAll s1) ∧ (cuTripAll s1).out = s1.out :=
  h.foldl_tripEval (List.range 128) List.nodup_range fun m hm => hq m (List.mem_range.1 hm)

end

end Sys2Proof.Machine
end

section
/-! PROOFS. What follows the events of the counter units at the end of a command: nothing where none of them is a period boundary or a match but
blanking (03_window_comparators.md, R70; 06_counter_units.md, R142, R157). -/

namespace Sys2Proof.Machine

/-! ### Blanking alone -/

/-- From `s` to `s'` nothing has changed but WC_STAT and the hidden state of the comparators. -/
structure BlankLocal (s s' : State) : Prop where
  frame : s' = { s with regs := s'.regs, wc := s'.wc }
  get : ∀ f i, f.reg ≠ .WC_STAT → s'.get f i = s.get f i

theorem BlankLocal.refl (s : State) : BlankLocal s s := ⟨rfl, fun _ _ _ => rfl⟩

theorem BlankLocal.trans {s u v : State} (h : BlankLocal s u) (g : BlankLocal u v) : BlankLocal s v :=
  ⟨g.frame.trans (by rw [h.frame]), fun f i hf => (g.get f i hf).trans (h.get f i hf)⟩

theorem foldl_blankLocal {α : Type} {f : State → α → State} (hf : ∀ s a, BlankLocal s (f s a)) (l : List α) (s : State) :
    BlankLocal s (l.foldl f s) := by
  induction l generalizing s with
  | nil => exact .refl s
  | cons a l ih => exact (hf s a).trans (ih _)

theorem BlankLocal.setWc (s : State) (n : Nat) (h : WcS) : BlankLocal s (s.setWc n h) := ⟨rfl, fun _ _ _ => rfl⟩

theorem BlankLocal.put (s : State) {f : Fld} (hf : f.reg = .WC_STAT) (i x : Nat) : BlankLocal s (s.put f i x) :=
  ⟨rfl, fun _ _ hg => State.put_get_apart _ _ fun e => absurd (e.trans hf) hg⟩

/-- R70, R71: blanking that opens, or starts again. -/
theorem wcBlankOpen_local (s : State) (n t0 : Nat) : BlankLocal s (wcBlankOpen s n t0) := by
  unfold wcBlankOpen
  dsimp only
  split
  · exact .setWc ..
  · exact ((BlankLocal.setWc s n _).trans (.put _ (f := F.WC_STAT_blknow) rfl n 1)).trans (.setWc ..)

theorem blankAll_local (s : State) (u ev t0 : Nat) : BlankLocal s (blankAll s u ev t0) :=
  foldl_blankLocal (fun s n => by
    split
    · exact wcBlankOpen_local s n t0
    · exact .refl s) _ s

/-- R70: an edge event of A or B, a carry overflow or a capture overflow drives no slave. -/
theorem cuFollow_local (s : State) (m : Nat) {ev : Nat} (x : Int) (hev : 4 < ev) : BlankLocal s (cuFollow s m ev x) := by
  unfold cuFollow
  rw [if_pos hev]
  split
  · exact blankAll_local s m ev x.toNat
  · exact .refl s

/-- Of the events of counter units that the state sends out, all are of `p`. -/
def CuEvents (p : Nat → Prop) (s : State) : Prop := ∀ m ev x, Out.fabric 1 m ev x ∈ s.out → p ev

theorem BlankLocal.events {p : Nat → Prop} {s u : State} (h : BlankLocal s u) (hs : CuEvents p s) : CuEvents p u := by
  have hout : u.out = s.out := by rw [h.frame]
  intro m ev x hm
  exact hs m ev x (hout ▸ hm)

theorem cuChain_local {s : State} (hs : CuEvents (4 < ·) s) (n k : Nat) : BlankLocal s (cuChain n k s) := by
  induction n generalizing k s with
  | zero => exact .refl s
  | succ n ih =>
    unfold cuChain
    split
    · next m ev x he =>
      have hstep := cuFollow_local s m x (hs m ev x (List.mem_of_getElem? he))
      exact hstep.trans (ih (hstep.events hs) _)
    · exact ih hs _
    · exact .refl s

/-- A command that has raised no event of a counter unit is complete. -/
theorem cuSettle_of_no_event {s : State} (hs : CuEvents (fun _ => False) s) : cuSettle s = s := by
  have hchain : ∀ n k, cuChain n k s = s := fun n => by
    induction n with
    | zero => exact fun _ => rfl
    | succ n ih =>
      intro k
      unfold cuChain
      split
      · next m ev x he => exact (hs m ev x (List.mem_of_getElem? he)).elim
      · exact ih _
      · rfl
  exact hchain 512 0

theorem cuSettle_local {s : State} (hs : CuEvents (4 < ·) s) : BlankLocal s (cuSettle s) := cuChain_local hs 512 0

/-- Blanking leaves the trip response of a unit. -/
theorem BlankLocal.sameUnit {s u : State} (h : BlankLocal s u) (m : Nat) : SameUnit m s u where
  now := by rw [h.frame]
  cu := by rw [h.frame]
  tripped := congrArg (· == 1) (h.get F.CU_STAT_tripped m (by decide))
  reason := cuTripReason_congr (congrArg (· == 1) (h.get F.CU_STAT_olkt m (by decide))) (h.get F.CU_TZM_zone m (by decide))
    fun z _ _ => congrArg (· == 1) (h.get F.TZ_STAT_lat z (by decide))

end Sys2Proof.Machine
end

section
/-! PROOFS. The trip zones: latching, force, unlatching, and the TRIP pins (06_counter_units.md, R147 to R153; 03_window_comparators.md, R68). -/

namespace Sys2Proof.Machine

/-! ### A zone that latches (R147, R153) -/

/-- The zone has latched, with its first cause. -/
def tzMarked (s : State) (z code : Nat) : State :=
  let s := (s.flag F.TZ_STAT_lat z).put F.TZ_STAT_first z code
  s.setTz z { s.tzOf z with latAt := s.now }

/-- The zone has raised its event and its interrupt too; no unit has tripped yet. -/
def tzLatched (s : State) (z code : Nat) : State :=
  ((tzMarked s z code).raise 2 z 0).fireIf ((tzMarked s z code).is F.TZ_IEN_lat z) (128 + z)

theorem tzLatch_eq {s : State} {z code : Nat} (h : s.is F.TZ_STAT_lat z = false) : tzLatch s z code = cuTripAll (tzLatched s z code) :=
  if_neg (by simp [h])

/-- R147: of the sources of one instant, the one of the lowest code is the first cause. -/
theorem tzLatch_earlier {s : State} {z code : Nat} (h : s.is F.TZ_STAT_lat z = true) (hat : (s.tzOf z).latAt = s.now)
    (hcode : code < s.get F.TZ_STAT_first z) : tzLatch s z code = s.put F.TZ_STAT_first z code :=
  (if_pos h).trans (if_pos ⟨hat, hcode⟩)

section
variable {s : State} {z code : Nat}

theorem tzMarked_get (f : Fld) (i : Nat) :
    (tzMarked s z code).get f i = ((s.flag F.TZ_STAT_lat z).put F.TZ_STAT_first z code).get f i := rfl

theorem tzMarked_is (f : Fld) (i : Nat) :
    (tzMarked s z code).is f i = ((s.flag F.TZ_STAT_lat z).put F.TZ_STAT_first z code).is f i := rfl

/-- The registers that a latch writes before any unit trips. -/
theorem tzLatched_keeps (s : State) (z code : Nat) :
    Keeps (tzView z) 2 z (UnitMay z [.TZ_STAT] [.VU_PEND, .VU_LOST]) s (tzLatched s z code) := by
  have hstat : UnitMay z [RegName.TZ_STAT] [.VU_PEND, .VU_LOST] .TZ_STAT z := .own (.head _)
  have hmarked : Keeps (tzView z) 2 z (UnitMay z [.TZ_STAT] [.VU_PEND, .VU_LOST]) s (tzMarked s z code) :=
    Keeps.setTz (((Keeps.refl (tzView_blind z) s).flag hstat).put code hstat) _
  exact Keeps.fireIf (hmarked.raise (by decide)) (fun _ => .inl (.head _)) (fun _ => .inl (.tail _ (.head _))) _ _

theorem tzLatched_get {f : Fld} (i : Nat) (hf : f.reg ∉ [RegName.TZ_STAT, .VU_PEND, .VU_LOST]) : (tzLatched s z code).get f i = s.get f i := by
  refine (tzLatched_keeps s z code).get ?_
  simp only [List.mem_cons, List.not_mem_nil, or_false, not_or] at hf
  simp [UnitMay, hf]

theorem tzLatched_is {f : Fld} (i : Nat) (hf : f.reg ∉ [RegName.TZ_STAT, .VU_PEND, .VU_LOST]) : (tzLatched s z code).is f i = s.is f i :=
  congrArg (· == 1) (tzLatched_get i hf)

theorem tzLatched_lat : (tzLatched s z code).is F.TZ_STAT_lat z = true := by
  rw [tzLatched, fireIf_is _ _ _ _ (by decide) (by decide), raise_is, tzMarked_is, State.put_is_apart _ _ (by decide),
    is_flag _ _ _ rfl (by decide)]

theorem tzLatched_first (hcode : code < 256) : (tzLatched s z code).get F.TZ_STAT_first z = code := by
  rw [tzLatched, fireIf_get _ _ _ _ (by decide) (by decide), raise_get, tzMarked_get, State.put_get_same _ _ _ _ (by decide)]
  exact Nat.mod_eq_of_lt hcode

theorem tzLatched_other {y : Nat} (hy : y ≠ z) : (tzLatched s z code).is F.TZ_STAT_lat y = s.is F.TZ_STAT_lat y :=
  (tzLatched_keeps s z code).is (by simp [UnitMay, hy])

theorem tzLatched_latAt : ((tzLatched s z code).tzOf z).latAt = s.now := by
  rw [tzLatched, fireIf_view (view := (State.tzOf · z)) (fun _ _ _ _ _ _ => rfl)]
  exact congrArg TzS.latAt (State.setTz_tzOf ..)

theorem tzLatched_cuOf (m : Nat) : (tzLatched s z code).cuOf m = s.cuOf m :=
  fireIf_view (view := (State.cuOf · m)) (fun _ _ _ _ _ _ => rfl) _ _ _

theorem tzLatched_now : (tzLatched s z code).now = s.now :=
  fireIf_view (view := State.now) (fun _ _ _ _ _ _ => rfl) _ _ _

theorem tzLatched_out : (tzLatched s z code).out =
    s.out ++ .fabric 2 z 0 s.now :: if s.is F.TZ_IEN_lat z then [.irq (128 + z)] else [] := by
  have hien : (tzMarked s z code).is F.TZ_IEN_lat z = s.is F.TZ_IEN_lat z := by
    rw [tzMarked_is, State.put_is_apart _ _ (by decide), State.flag_is_apart _ (by decide)]
  rw [tzLatched, fireIf_out, raise_out, hien]
  exact List.append_assoc ..

/-- R149: the latch is a reason for the units that list the zone, and none for another. -/
theorem tzLatched_reason (hz : z < 16) {u : Nat} (hu : (s.get F.CU_TZM_zone u).testBit z = true) : cuTripReason (tzLatched s z code) u = true :=
  cuTripReason_iff.2 (.inr ⟨z, hz, by rw [tzLatched_get u (by decide)]; exact hu, tzLatched_lat⟩)

theorem tzLatched_sameUnit {u : Nat} (hu : (s.get F.CU_TZM_zone u).testBit z = false) : SameUnit u s (tzLatched s z code) where
  now := tzLatched_now
  cu := tzLatched_cuOf u
  tripped := tzLatched_is u (by decide)
  reason := cuTripReason_congr (tzLatched_is u (by decide)) (tzLatched_get u (by decide)) fun y _ hy =>
    tzLatched_other fun e => by rw [e, hu] at hy; exact absurd hy (by decide)

/-- R149: a tripped unit shows its response codes. -/
theorem tripShown_of_tripped {u : Nat} (h : s.is F.CU_STAT_tripped u = true) : TripShown s u := by
  refine ⟨h, fun hoen hpfr w _ => ?_⟩
  have hpin : unitPin s u w = respLevel (s.get (if w = 0 then F.CU_RESP_trA else F.CU_RESP_trB) u)
      (if w = 0 then (s.cuOf u).holdA else (s.cuOf u).holdB) := by
    simp [unitPin, hoen, hpfr, h]
  refine ⟨⟨fun hc => ?_, fun hc => ?_, fun hc => ?_⟩, fun hr hscan => ?_⟩
  · rw [hpin, hc]; rfl
  · rw [hpin, hc]; rfl
  · rw [hpin, hc]; rfl
  · rw [outPin, scanPin, hscan, awakePin, if_neg (Nat.not_le.2 hr)]

/-- What zone `z` that latches from `s` on the source of code `code` leaves. -/
structure Latched (z code : Nat) (s s' : State) : Prop where
  keeps : TzKeeps z s s'
  lat : s'.is F.TZ_STAT_lat z = true
  first : s'.get F.TZ_STAT_first z = code
  latAt : (s'.tzOf z).latAt = s.now
  out : s'.out = s.out ++ .fabric 2 z 0 s.now :: if s.is F.TZ_IEN_lat z then [.irq (128 + z)] else []
  listed : ∀ u < 128, (s.get F.CU_TZM_zone u).testBit z = true → TripShown s' u
  other : ∀ u < 128, (s.get F.CU_TZM_zone u).testBit z = false → TripOutcome u s s'

/-- R147, R149, R153: where no other unit resumes at once, a latch trips the units that list the zone, and nothing follows. -/
theorem tzLatch_latched (hz : z < 16) (hcode : code < 256) (hlat : s.is F.TZ_STAT_lat z = false) (hout : s.out = [])
    (hq : ∀ u < 128, (s.get F.CU_TZM_zone u).testBit z = false → TripQuiet s u) : Latched z code s (cuSettle (tzLatch s z code)) := by
  have hkeep : TzKeeps z s (tzLatched s z code) := (tzLatched_keeps s z code).mono fun r i hm => by
    rcases hm with hm | ⟨hm, hi⟩
    · exact .inl (.tail _ hm)
    · exact .inr ⟨List.mem_singleton.1 hm ▸ .head _, hi⟩
  have hquiet : ∀ u < 128, TripQuiet (tzLatched s z code) u := fun u hu => by
    cases hb : (s.get F.CU_TZM_zone u).testBit z
    · exact (hq u hu hb).congr (tzLatched_sameUnit hb)
    · exact fun hr => absurd (hr.symm.trans (tzLatched_reason hz hb)) (by decide)
  obtain ⟨hall, hallout⟩ := hkeep.tripAll hquiet
  have hlocal := cuTripAll_local (tzLatched s z code)
  have hnone : CuEvents (fun _ => False) (cuTripAll (tzLatched s z code)) := fun m ev x hm => by
    rw [hallout, tzLatched_out, hout, List.nil_append, List.mem_cons] at hm
    rcases hm with hm | hm
    · exact absurd (Out.fabric.inj hm).1 (by decide)
    · split at hm <;> simp at hm
  rw [tzLatch_eq hlat, cuSettle_of_no_event hnone]
  refine ⟨hall, ?_, ?_, ?_, hallout.trans tzLatched_out, fun u hu hb => tripShown_of_tripped ?_, fun u hu hb => ?_⟩
  · exact (congrArg (· == 1) (hlocal.get F.TZ_STAT_lat z fun hr => absurd hr (by decide))).trans tzLatched_lat
  · exact (hlocal.get F.TZ_STAT_first z fun hr => absurd hr (by decide)).trans (tzLatched_first hcode)
  · have htz : (cuTripAll (tzLatched s z code)).tzOf z = (tzLatched s z code).tzOf z := by rw [hlocal.frame]
    rw [htz, tzLatched_latAt]
  · exact ((cuTripAll_outcome _ hu).trips (tzLatched_reason hz hb)).1
  · exact (cuTripAll_outcome _ hu).congr (tzLatched_sameUnit hb) (.refl u _)

end

end Sys2Proof.Machine
end

section
/-! PROOFS. The commands of the trip zones: a source or a force write that latches a zone, an unlatching, and a change at a TRIP pin
(06_counter_units.md, R147 to R153; 07_event_fabric.md, R157). -/

namespace Sys2Proof.Machine

/-! ### A latch that a command asks for (R147, R153) -/

/-- Every unit that is tripped has a reason, or waits for its boundary. -/
def TripSettled (s : State) : Prop := ∀ u < 128, s.is F.CU_STAT_tripped u = true → cuTripReason s u = true ∨ (s.cuOf u).resume ≠ none

/-- What a command at `t` that latches zone `z` with the first cause `code` leaves. -/
def ZoneLatches (t z code : Nat) (s s' : State) : Prop :=
  TripFrame t z s s' ∧ s'.is F.TZ_STAT_lat z = true ∧ s'.get F.TZ_STAT_first z = code ∧ (s'.tzOf z).latAt = max s.now t ∧
    Out.fabric 2 z 0 (max s.now t : Nat) ∈ s'.out ∧ (Out.irq (128 + z) ∈ s'.out ↔ s.is F.TZ_IEN_lat z = true) ∧
    (∀ u < 128, (s.get F.CU_TZM_zone u).testBit z = true → TripShown s' u) ∧
    ∀ u < 128, (s.get F.CU_TZM_zone u).testBit z = false → (cuTripReason s u = true → s.is F.CU_STAT_tripped u = true) →
      s'.is F.CU_STAT_tripped u = s.is F.CU_STAT_tripped u

section
variable {s u : State} {t z : Nat}

theorem TripSettled.quiet (h : TripSettled s) {m : Nat} (hm : m < 128) : TripQuiet s m := fun hr ht hw _ =>
  (h m hm ht).elim (fun e => absurd (e.symm.trans hr) (by decide)) fun e => e hw

/-- R147: the four kinds of sources of a zone, each by its code. -/
theorem tzAsserted_of_source {n : Nat} (h : (n < 128 ∧ (wcReq s n).testBit z = true) ∨
    (128 ≤ n ∧ n < 144 ∧ (s.get F.TZ_PIN_pin z).testBit (n - 128) = true ∧ (s.tripPinOf (n - 128)).lvl = (s.get F.TRIP_POL_pol 0).testBit (n - 128)) ∨
    (144 ≤ n ∧ n < 160 ∧ (s.get F.TZ_CORE_core z).testBit (n - 144) = true ∧ s.get F.CORE_STAT_state (n - 144) = 4) ∨
    (160 ≤ n ∧ n < 164 ∧ (s.get F.TZ_LINK_port z).testBit (n - 160) = true ∧
      (s.get F.LK_PSTAT_state (n - 160) = 4 ∨ (s.is F.LK_PSTAT_absent (n - 160) = true ∧ s.get F.LK_PSTAT_state (n - 160) ≠ 3)))) :
    tzAsserted s z n = true := by
  obtain ⟨hn, hreq⟩ | ⟨hlo, hhi, hsel, hon⟩ | ⟨hlo, hhi, hsel, hon⟩ | ⟨hlo, hhi, hsel, hon⟩ := h
  · rw [tzAsserted, if_pos hn, hreq]
  · have h128 : ¬ n < 128 := by omega
    simp [tzAsserted, tzSelects, tripPinOn, h128, hhi, hsel, hon]
  · have h128 : ¬ n < 128 := by omega
    have h144 : ¬ n < 144 := by omega
    simp [tzAsserted, tzSelects, coreLocked, h128, h144, hhi, hsel, hon]
  · have h128 : ¬ n < 128 := by omega
    have h144 : ¬ n < 144 := by omega
    have h160 : ¬ n < 160 := by omega
    simp [tzAsserted, tzSelects, portFault, h128, h144, h160, hhi, hsel, hon]

/-- A command that has first written registers of the zone alone, and then latches it. -/
theorem ZoneLatches.intro {code : Nat} (hz : z < 16) (hcode : code < 256) (hs : TripSettled s) (hlat : s.is F.TZ_STAT_lat z = false)
    (hkeep : TzKeeps z (s.tick t) u) (hunit : ∀ m, SameUnit m (s.tick t) u) (hulat : u.is F.TZ_STAT_lat z = s.is F.TZ_STAT_lat z)
    (hout : u.out = []) : ZoneLatches t z code s (cuSettle (tzLatch u z code)) := by
  have hzone : ∀ m, u.get F.CU_TZM_zone m = s.get F.CU_TZM_zone m := fun m => hkeep.get (by simp [UnitMay])
  have hien : u.is F.TZ_IEN_lat z = s.is F.TZ_IEN_lat z := hkeep.is (by simp [UnitMay])
  have hnow : u.now = max s.now t := (hunit 0).now
  have hl := tzLatch_latched hz hcode (hulat.trans hlat) hout fun m hm _ => TripQuiet.congr (s := s.tick t) (hs.quiet hm) (hunit m)
  have hl' := hl.out
  rw [hout, hnow, hien, List.nil_append] at hl'
  refine ⟨(hkeep.trans hl.keeps).tripFrame, hl.lat, hl.first, hl.latAt.trans hnow, hl' ▸ .head _, ?_,
    fun m hm hb => hl.listed m hm ((hzone m).symm ▸ hb), fun m hm hb hr => ?_⟩
  · rw [hl', List.mem_cons]
    split <;> simp [*]
  · have ho : TripOutcome m (s.tick t) _ := (hl.other m hm ((hzone m).symm ▸ hb)).congr (hunit m) (.refl m _)
    cases hreason : cuTripReason s m
    · refine ho.stays hreason fun ht => ?_
      exact (hs m hm ht).resolve_left (by simp [hreason])
    · exact (ho.trips hreason).1.trans (hr hreason).symm

/-- R147: an asserted source of a zone, outside Dormant and Vigil. -/
theorem does_tripLatch {z : Fin 16} {code : BitVec 8} {P : State → Prop} (hrung : s.rung < 5) (ha : tzAsserted s z code.toNat = true)
    (hP : P (cuSettle (tzLatch (s.tick t) z code.toNat))) : Does (.tripLatch t z code) s P := by
  refine does_of_event (show execTripLatch t z code s = _ from rfl) ?_ hP
  have hr : (s.tick t).rung < 5 := hrung
  have ha' : tzAsserted (s.tick t) z code.toNat = true := ha
  rw [ha', decide_eq_true hr]; rfl

theorem tripLatch_latches {z : Fin 16} {code : BitVec 8} (hs : TripSettled s) (hrung : s.rung < 5) (ha : tzAsserted s z code.toNat = true)
    (hlat : s.is F.TZ_STAT_lat z = false) : Does (.tripLatch t z code) s (ZoneLatches t z code.toNat s) :=
  does_tripLatch hrung ha (.intro z.2 code.isLt hs hlat (.refl _) (.refl · _) rfl rfl)

/-- R147: of two sources that assert at one instant the lower code is the first cause. -/
theorem tripLatch_earlier {z : Fin 16} {code : BitVec 8} (hrung : s.rung < 5) (ha : tzAsserted s z code.toNat = true)
    (hlat : s.is F.TZ_STAT_lat z = true) (hat : (s.tzOf z).latAt = max s.now t) (hcode : code.toNat < s.get F.TZ_STAT_first z) :
    Does (.tripLatch t z code) s (fun s' => TripFrame t z s s' ∧ s'.is F.TZ_STAT_lat z = true ∧ s'.get F.TZ_STAT_first z = code.toNat ∧
      s'.cu = s.cu) := by
  refine does_tripLatch hrung ha ?_
  rw [tzLatch_earlier (s := s.tick t) hlat hat hcode, cuSettle_of_no_event (fun _ _ _ hm => List.not_mem_nil hm)]
  refine ⟨((TzKeeps.refl _).put _ (.own (.head _))).tripFrame, ?_, ?_, rfl⟩
  · exact (State.put_is_apart _ _ (by decide)).trans hlat
  · exact (State.put_get_same _ _ _ _ (by decide)).trans (Nat.mod_eq_of_lt code.isLt)

/-- R411: in Dormant and Vigil no source latches. -/
theorem tripLatch_asleep {z : Fin 16} {code : BitVec 8} (hrung : 5 ≤ s.rung) :
    Does (.tripLatch t z code) s (fun s' => s' = { s with now := max s.now t, out := [] }) := by
  have hr : ¬ (s.tick t).rung < 5 := Nat.not_lt.2 hrung
  exact ⟨s.tick t, by rw [show exec (.tripLatch t z code) s = execTripLatch t z code s from rfl, execTripLatch, event, decide_eq_false hr]; rfl, rfl⟩

/-- R147: a write of TZ_LINK with force latches the zone with the code 0o244. -/
theorem tripForce_latches {z : Fin 16} {v : Word} (hs : TripSettled s) (hv : v.getLsbD 17 = true) (hlat : s.is F.TZ_STAT_lat z = false) :
    Does (.tripForce t z v) s (ZoneLatches t z 0o244 s) := by
  have hforce : F.TZ_LINK_force.of v.toNat = 1 := by rw [Fld.of_bit rfl, hv]; rfl
  refine does_of_event (show execTripForce t z v s = _ from rfl) (by simp [hforce]) ?_
  rw [tzLinkWrite, if_pos hforce]
  refine .intro z.2 (by decide) hs hlat ((TzKeeps.refl _).put _ (.own (.tail _ (.head _)))) (fun m => ⟨rfl, rfl, ?_, ?_⟩) ?_ rfl
  · exact State.put_is_apart _ _ (by decide)
  · exact cuTripReason_congr (State.put_is_apart _ _ (by decide)) (State.put_get_apart _ _ (by decide))
      fun _ _ _ => State.put_is_apart _ _ (by decide)
  · exact State.put_is_apart _ _ (by decide)

end

/-! ### Unlatching (R13, R152) -/

/-- The latch of the zone is gone; no unit has lost its response yet. -/
def tzCleared (s : State) (z : Nat) : State := (s.put F.TZ_STAT_lat z 0).setTz z { s.tzOf z with unlatAt := s.now }

section
variable {s : State} {t z : Nat}

theorem tzCleared_get (f : Fld) (i : Nat) : (tzCleared s z).get f i = (s.put F.TZ_STAT_lat z 0).get f i := rfl

theorem tzCleared_get_apart {f : Fld} (i : Nat) (hf : f.reg ≠ .TZ_STAT) : (tzCleared s z).get f i = s.get f i :=
  (tzCleared_get f i).trans (s.put_get_apart 0 fun e => absurd e hf)

theorem tzCleared_is_apart {f : Fld} (i : Nat) (hf : f.reg ≠ .TZ_STAT) : (tzCleared s z).is f i = s.is f i :=
  congrArg (· == 1) (tzCleared_get_apart i hf)

theorem tzCleared_lat : (tzCleared s z).is F.TZ_STAT_lat z = false :=
  (congrArg (· == 1) (tzCleared_get ..)).trans (s.put_is_same F.TZ_STAT_lat z 0 (by decide))

theorem tzCleared_keeps (s : State) (z : Nat) : TzKeeps z s (tzCleared s z) :=
  Keeps.setTz ((TzKeeps.refl s).put 0 (.own (.head _))) _

/-- R147: whether a source is asserted does not depend on the latch. -/
theorem tzCleared_asserted (code : Nat) : tzAsserted (tzCleared s z) z code = tzAsserted s z code := by
  have hraw : wcRaw (tzCleared s z) code = wcRaw s code := by
    simp (disch := decide) only [wcRaw, tzCleared_is_apart, tzCleared_get_apart]
  have hreq : wcReq (tzCleared s z) code = wcReq s code := by
    rw [wcReq, hraw, tzCleared_is_apart _ (by decide), wcReq]
  have hsel : tzSelects (tzCleared s z) z code = tzSelects s z code := by
    simp (disch := decide) only [tzSelects, tzCleared_get_apart]
  have hpin : tripPinOn (tzCleared s z) (code - 128) = tripPinOn s (code - 128) := by
    rw [tripPinOn, tzCleared_get_apart _ (by decide)]; rfl
  have hcore : coreLocked (tzCleared s z) (code - 144) = coreLocked s (code - 144) := by
    rw [coreLocked, tzCleared_get_apart _ (by decide), coreLocked]
  have hport : portFault (tzCleared s z) (code - 160) = portFault s (code - 160) := by
    simp (disch := decide) only [portFault, tzCleared_is_apart, tzCleared_get_apart]
  rw [tzAsserted, hreq, hsel, hpin, hcore, hport, tzAsserted]

/-- R149: a unit that does not list the zone does not see it unlatch. -/
theorem tzCleared_sameUnit {u : Nat} (hu : (s.get F.CU_TZM_zone u).testBit z = false) : SameUnit u s (tzCleared s z) where
  now := rfl
  cu := rfl
  tripped := tzCleared_is_apart u (by decide)
  reason := cuTripReason_congr (tzCleared_is_apart u (by decide)) (tzCleared_get_apart u (by decide)) fun y _ hy => by
    have hne : y ≠ z := fun e => by rw [e, hu] at hy; exact absurd hy (by decide)
    exact (tzCleared_keeps s z).is (by simp [UnitMay, hne])

/-- R147, R152: an asserted source of the lowest code latches the zone again; without one, the units take what is left of their reasons. -/
theorem tzUnlatch_eq (hlat : s.is F.TZ_STAT_lat z = true) :
    tzUnlatch s z = ((List.range 164).find? (tzAsserted s z)).elim (cuTripAll (tzCleared s z)) (tzLatch (tzCleared s z) z) := by
  have hasserted : tzAsserted (tzCleared s z) z = tzAsserted s z := funext tzCleared_asserted
  rw [← hasserted, tzUnlatch, if_pos hlat, tzCleared]
  dsimp only
  split
  · next c hfind => rw [hfind, Option.elim_some]
  · next hfind => rw [hfind, Option.elim_none]

theorem tzUnlatch_gone (hlat : s.is F.TZ_STAT_lat z = true) (h : ∀ code < 164, tzAsserted s z code = false) :
    tzUnlatch s z = cuTripAll (tzCleared s z) := by
  have hfind : (List.range 164).find? (tzAsserted s z) = none :=
    List.find?_eq_none.2 fun c hc => by simp [h c (List.mem_range.1 hc)]
  rw [tzUnlatch_eq hlat, hfind, Option.elim_none]

theorem tzUnlatch_again {code : Nat} (hlat : s.is F.TZ_STAT_lat z = true) (hcode : code < 164) (ha : tzAsserted s z code = true)
    (hmin : ∀ c < code, tzAsserted s z c = false) : tzUnlatch s z = tzLatch (tzCleared s z) z code := by
  have hfind : (List.range 164).find? (tzAsserted s z) = some code :=
    List.find?_range_eq_some.2 ⟨ha, List.mem_range.2 hcode, fun c hc => by simp [hmin c hc]⟩
  rw [tzUnlatch_eq hlat, hfind, Option.elim_some]

/-- R152: what an unlatching without an asserted source leaves of the zone, and makes of each unit. -/
theorem tzUnlatch_outcome (hlat : s.is F.TZ_STAT_lat z = true) (h : ∀ code < 164, tzAsserted s z code = false) (hout : s.out = []) :
    (cuSettle (tzUnlatch s z)).is F.TZ_STAT_lat z = false ∧
    (∀ u, cuTripReason (cuSettle (tzUnlatch s z)) u = cuTripReason (tzCleared s z) u) ∧
    ∀ u < 128, TripOutcome u (tzCleared s z) (cuSettle (tzUnlatch s z)) := by
  rw [tzUnlatch_gone hlat h]
  have hall := cuTripAll_local (tzCleared s z)
  have hblank : BlankLocal (cuTripAll (tzCleared s z)) (cuSettle (cuTripAll (tzCleared s z))) := by
    refine cuSettle_local fun m ev x hm => ?_
    rcases hall.out _ hm with hm | ⟨m', ev', x', he, hev⟩
    · exact (List.not_mem_nil (hout ▸ (hm : _ ∈ s.out))).elim
    · exact (Out.fabric.inj he).2.2.1 ▸ hev
  refine ⟨?_, fun u => (hblank.sameUnit u).reason.trans (hall.reason u), fun u hu => (cuTripAll_outcome _ hu).congr (.refl u _) (hblank.sameUnit u)⟩
  have hlat' := (hblank.get F.TZ_STAT_lat z (by decide)).trans (hall.get F.TZ_STAT_lat z fun hr => absurd hr (by decide))
  exact (congrArg (· == 1) hlat').trans tzCleared_lat

/-- R152: where no unit resumes at once, an unlatching has the frame of a command of the zone. -/
theorem tzUnlatch_quiet (hlat : s.is F.TZ_STAT_lat z = true) (h : ∀ code < 164, tzAsserted s z code = false) (hout : s.out = [])
    (hq : ∀ u < 128, TripQuiet (tzCleared s z) u) : TzKeeps z s (cuSettle (tzUnlatch s z)) := by
  obtain ⟨hkeep, hkout⟩ := (tzCleared_keeps s z).tripAll hq
  rw [tzUnlatch_gone hlat h, cuSettle_of_no_event fun m ev x hm => ?_]
  · exact hkeep
  · exact List.not_mem_nil (hout ▸ (hkout ▸ hm : _ ∈ (tzCleared s z).out) :)

/-! ### The command -/

theorem does_tripUnlatch {z : Fin 16} {P : State → Prop} (hlat : s.is F.TZ_STAT_lat z = true) (hidle : HwIdle t .TZ_STAT z s)
    (hP : P (cuSettle (tzUnlatch (s.tick t) z))) : Does (.tripUnlatch t z) s P := by
  refine does_of_event (show execTripUnlatch t z s = _ from rfl) ?_ hP
  rw [yielded_idle _ (by decide) hidle, State.tick_is, hlat]
  decide

/-- R13: the clear alias does not clear a bit that hardware set in the same timer cycle. -/
theorem yielded_clr_lat {z : Nat} (hcyc : (s.hwOf (regKey .TZ_STAT z)).cyc = s.now / 64)
    (hbit : (s.hwOf (regKey .TZ_STAT z)).bits.getLsbD F.TZ_STAT_lat.lo = true) (v : Nat) :
    F.TZ_STAT_lat.of (s.yielded .TZ_STAT z .clr v) = 0 := by
  have hrec : s.hwAt .TZ_STAT z = s.hwOf (regKey .TZ_STAT z) := if_pos hcyc
  have hb : (s.hwOf (regKey .TZ_STAT z)).bits.toNat.testBit 17 = true := (BitVec.testBit_toNat _).trans hbit
  have hlt := (s.hwOf (regKey .TZ_STAT z)).bits.isLt
  have hsub : 2 ^ 36 - 1 - (s.hwOf (regKey .TZ_STAT z)).bits.toNat = 2 ^ 36 - ((s.hwOf (regKey .TZ_STAT z)).bits.toNat + 1) := by omega
  have hclear : (s.yielded .TZ_STAT z .clr v).testBit 17 = false := by
    rw [State.yielded, hrec, Nat.testBit_and, hsub, Nat.testBit_two_pow_sub_succ hlt, hb]
    simp
  rw [Fld.of, Nat.shiftRight_eq_div_pow, Nat.pow_one, ← Nat.toNat_testBit, hclear]
  rfl

theorem tripUnlatch_yields {z : Fin 16} (hcyc : (s.hwOf (regKey .TZ_STAT z)).cyc = max s.now t / 64)
    (hbit : (s.hwOf (regKey .TZ_STAT z)).bits.getLsbD F.TZ_STAT_lat.lo = true) :
    Does (.tripUnlatch t z) s (fun s' => s' = { s with now := max s.now t, out := [] }) := by
  have hof := yielded_clr_lat (s := s.tick t) hcyc hbit F.TZ_STAT_lat.mask.toNat
  refine ⟨s.tick t, ?_, rfl⟩
  rw [show exec (.tripUnlatch t z) s = execTripUnlatch t z s from rfl, execTripUnlatch, event, hof, if_neg (by simp)]

/-- R152: the units that list the zone wait for their boundary, those that keep a reason stay tripped. -/
theorem tripUnlatch_waits {z : Fin 16} (hlat : s.is F.TZ_STAT_lat z = true) (hidle : HwIdle t .TZ_STAT z s) (hs : TripSettled s)
    (htrip : ∀ u < 128, cuTripReason s u = true → s.is F.CU_STAT_tripped u = true)
    (hrun : ∀ u < 128, (s.get F.CU_TZM_zone u).testBit z = true →
      (s.cuOf u).counting = true ∧ (s.cuOf u).gov.mode < 2 ∧ (s.cuOf u).resume = none)
    (hnone : ∀ code < 164, tzAsserted s z code = false) :
    Does (.tripUnlatch t z) s (fun s' => TripFrame t z s s' ∧ s'.is F.TZ_STAT_lat z = false ∧
      ∀ u < 128, (s.get F.CU_TZM_zone u).testBit z = true →
        (cuTripReason s' u = false → s'.is F.CU_STAT_tripped u = true ∧ (s'.cuOf u).resume = some (max s.now t + 128 : Nat)) ∧
        (cuTripReason s' u = true → s'.is F.CU_STAT_tripped u = true ∧ (s'.cuOf u).resume = none)) := by
  have hslow : ∀ u < 128, (s.get F.CU_TZM_zone u).testBit z = true → ¬ ResumesAtOnce (tzCleared (s.tick t) z) u := fun u hu hb => by
    obtain ⟨hcount, hmode, -⟩ := hrun u hu hb
    rintro (h | h | h)
    · exact absurd (h.symm.trans hcount) (by decide)
    · exact absurd (h ▸ hmode) (by decide)
    · exact absurd (h ▸ hmode) (by decide)
  have hquiet : ∀ u < 128, TripQuiet (tzCleared (s.tick t) z) u := fun u hu => by
    cases hb : (s.get F.CU_TZM_zone u).testBit z
    · exact TripQuiet.congr (s := s.tick t) (hs.quiet hu) (tzCleared_sameUnit hb)
    · exact fun _ _ _ => hslow u hu hb
  obtain ⟨hclear, hreason, hunits⟩ := tzUnlatch_outcome (s := s.tick t) hlat hnone rfl
  refine does_tripUnlatch hlat hidle ⟨(tzUnlatch_quiet (s := s.tick t) hlat hnone rfl hquiet).tripFrame, hclear, fun u hu hb => ⟨?_, ?_⟩⟩
  · intro hr
    have htrip' : s.is F.CU_STAT_tripped u = true := htrip u hu (cuTripReason_iff.2 (.inr ⟨z, z.2, hb, hlat⟩))
    exact (hunits u hu).waits ((hreason u).symm.trans hr) ((tzCleared_is_apart u (by decide)).trans htrip') (hrun u hu hb).2.2 (hslow u hu hb)
  · exact fun hr => (hunits u hu).trips ((hreason u).symm.trans hr)

/-- R152: a source that is still asserted latches the zone again. -/
theorem tripUnlatch_latches {z : Fin 16} {code : Nat} (hlat : s.is F.TZ_STAT_lat z = true) (hidle : HwIdle t .TZ_STAT z s)
    (hs : TripSettled s) (hcode : code < 164) (ha : tzAsserted s z code = true) (hmin : ∀ c < code, tzAsserted s z c = false) :
    Does (.tripUnlatch t z) s (fun s' => TripFrame t z s s' ∧ s'.is F.TZ_STAT_lat z = true ∧ s'.get F.TZ_STAT_first z = code) := by
  refine does_tripUnlatch hlat hidle ?_
  have hl := tzLatch_latched (s := tzCleared (s.tick t) z) (code := code) z.2 (by omega) tzCleared_lat rfl fun u hu hb => by
    rw [tzCleared_get_apart _ (by decide)] at hb
    exact TripQuiet.congr (s := s.tick t) (hs.quiet hu) (tzCleared_sameUnit hb)
  rw [tzUnlatch_again (s := s.tick t) hlat hcode ha hmin]
  exact ⟨((tzCleared_keeps (s.tick t) z).trans hl.keeps).tripFrame, hl.lat, hl.first⟩

/-- R152: a unit that does not count, or has no boundary to wait for, resumes at once. -/
theorem tripUnlatch_resumes {z : Fin 16} (hlat : s.is F.TZ_STAT_lat z = true) (hidle : HwIdle t .TZ_STAT z s)
    (hnone : ∀ code < 164, tzAsserted s z code = false) :
    Does (.tripUnlatch t z) s (fun s' => s'.is F.TZ_STAT_lat z = false ∧
      ∀ u < 128, (s.get F.CU_TZM_zone u).testBit z = true → cuTripReason s' u = false → s.is F.CU_STAT_tripped u = true →
        (s.cuOf u).resume = none → (s.cuOf u).counting = false ∨ (s.cuOf u).gov.mode ∈ [2, 3] →
        s'.is F.CU_STAT_tripped u = false ∧ (s'.cuOf u).ioA = false ∧ (s'.cuOf u).ioB = false) := by
  obtain ⟨hclear, hreason, hunits⟩ := tzUnlatch_outcome (s := s.tick t) hlat hnone rfl
  refine does_tripUnlatch hlat hidle ⟨hclear, fun u hu _ hr htrip hwait hnow => ?_⟩
  refine (hunits u hu).resumes ((hreason u).symm.trans hr) ((tzCleared_is_apart u (by decide)).trans htrip) hwait (hnow.imp_right fun h => ?_)
  have hmode : (s.cuOf u).gov.mode = 2 ∨ (s.cuOf u).gov.mode = 3 := by simpa using h
  exact hmode

end

/-! ### The TRIP pins (R157) -/

/-- A TRIP pin's change is an event source, and changes nothing else. -/
theorem tripPinChange_does {s : State} {t : Nat} {z : Fin 16} {lvl : Bool} (hlvl : (s.tripPinOf z).lvl ≠ lvl) :
    Does (.tripPinChange t z lvl) s (fun s' =>
      s' = { s with now := max s.now t, out := [.fabric 15 z 0 (max s.now t : Nat)], tripPin := s'.tripPin, srcAt := s'.srcAt } ∧
      s'.srcAtOf (srcKey 15 z 0) = some ((max s.now t : Nat) : Int) ∧ SourcesKept 15 z s s' ∧ (s'.tripPinOf z).lvl = lvl ∧
      (if lvl then (s'.tripPinOf z).rise = max s.now t else (s'.tripPinOf z).fall = max s.now t) ∧
      ∀ m, m ≠ z.val → s'.tripPinOf m = s.tripPinOf m) := by
  refine does_of_event (show execTripPinChange t z lvl s = _ from rfl) (bne_iff_ne.2 hlvl)
    ⟨rfl, State.setSrcAt_srcAtOf .., fun k hk => State.setSrcAt_srcAtOf_ne _ _ fun e => hk (by rw [e, srcKey]; omega), ?_, ?_,
      fun m hm => State.setTripPin_tripPinOf_ne _ _ hm⟩
  · refine (congrArg PinIn.lvl (State.setTripPin_tripPinOf ..) :).trans ?_
    cases lvl <;> rfl
  · cases lvl
    · rw [if_neg Bool.false_ne_true]
      exact congrArg PinIn.fall ((s.tick t).setTripPin_tripPinOf z { s.tripPinOf z with lvl := false, fall := max s.now t })
    · rw [if_pos rfl]
      exact congrArg PinIn.rise ((s.tick t).setTripPin_tripPinOf z { s.tripPinOf z with lvl := true, rise := max s.now t })

end Sys2Proof.Machine

namespace Sys2Proof.Settled

open Sys2Proof.Machine

/-- Settles O33: each command of a trip zone is one equation of the model; where no unit resumes at once its steps have the frame of a command
of the zone, and every unit takes its own trip response. -/
theorem tripZones : Obligations.TripZones := by
  intro t z s now settled hs Latches
  refine ⟨fun code hrung hsrc => ?_, fun _ => tripLatch_asleep, fun v hv hlat => tripForce_latches hs hv hlat,
    fun _ hcyc hbit => tripUnlatch_yields hcyc hbit, fun hlat hidle htrip hrun => ⟨tripUnlatch_waits hlat hidle hs htrip hrun,
      fun code hcode ha hmin => tripUnlatch_latches hlat hidle hs hcode ha hmin⟩, fun hlat hidle hnone => tripUnlatch_resumes hlat hidle hnone,
    fun lvl hlvl => tripPinChange_does hlvl⟩
  have ha : tzAsserted s z code.toNat = true := tzAsserted_of_source hsrc
  exact ⟨fun hlat => tripLatch_latches hs hrung ha hlat, fun hlat hat hfirst => tripLatch_earlier hrung ha hlat hat hfirst⟩

end Sys2Proof.Settled
end

section
/-! PROOFS. How the next instruction of a run acts on its crane, the engine instructions that write state words, and DUTY
(05_engine_instructions.md, R107 to R123). -/

namespace Sys2Proof.Machine

/-! ### The fields of an instruction word (R111) -/

theorem engOpcode_eq (w : BitVec 36) : (w.extractLsb' 30 6).toNat = w.toNat / 2 ^ 30 := by
  rw [BitVec.extractLsb'_toNat, Nat.shiftRight_eq_div_pow, Nat.mod_eq_of_lt]
  have := w.isLt
  omega

theorem extractLsb'_one_eq_getLsbD (w : BitVec 36) (k : Nat) : ((w.extractLsb' k 1).toNat == 1) = w.getLsbD k := by
  rw [BitVec.extractLsb'_toNat, Nat.shiftRight_eq_div_pow, Nat.pow_one, ← Nat.toNat_testBit, BitVec.testBit_toNat]
  cases w.getLsbD k <;> rfl

section
variable {w : BitVec 36}

/-- R115: a MACD of three modes. -/
theorem engDecode_macd (hop : w.toNat / 2 ^ 30 = 7) (hd : (w.extractLsb' 28 2).toNat ≠ 3) (ha : (w.extractLsb' 22 6).toNat < 15)
    (hb : (w.extractLsb' 16 6).toNat < 39) :
    engDecode w = .macd (w.extractLsb' 28 2).toNat (w.extractLsb' 22 6).toNat (w.extractLsb' 16 6).toNat := by
  simp only [engDecode, engOpcode_eq, hop, opOk, hb, decide_true]
  exact if_pos ⟨hd, ha, trivial⟩

theorem engDecode_int (hop : w.toNat / 2 ^ 30 = 10) (ha : (w.extractLsb' 22 6).toNat < 39) (hb : (w.extractLsb' 16 6).toNat < 39)
    (hhi : (w.extractLsb' 10 6).toNat < 39) : engDecode w = .int (w.extractLsb' 28 2).toNat (w.extractLsb' 22 6).toNat
      (w.extractLsb' 16 6).toNat (w.extractLsb' 10 6).toNat (w.extractLsb' 6 4).toNat := by
  simp only [engDecode, engOpcode_eq, hop, opOk, ha, hb, hhi, decide_true, Bool.and_self, if_true]

theorem engDecode_stw (hop : w.toNat / 2 ^ 30 = 16) (ha : (w.extractLsb' 22 6).toNat < 39) :
    engDecode w = .stw (w.extractLsb' 22 6).toNat (w.extractLsb' 6 4).toNat := by
  simp only [engDecode, engOpcode_eq, hop, opOk, ha, decide_true, if_true]

theorem engDecode_duty (hop : w.toNat / 2 ^ 30 = 15) (ha : (w.extractLsb' 22 6).toNat < 39) (hb : (w.extractLsb' 16 6).toNat < 39)
    (hhi : (w.extractLsb' 10 6).toNat < 39) (hbias : (w.extractLsb' 4 6).toNat < 39) :
    engDecode w = .duty (w.extractLsb' 28 2).toNat (w.extractLsb' 22 6).toNat (w.extractLsb' 16 6).toNat (w.extractLsb' 10 6).toNat
      (w.extractLsb' 4 6).toNat (w.getLsbD 3) (w.extractLsb' 0 3).toNat := by
  have hps := extractLsb'_one_eq_getLsbD w 3
  simp only [engDecode, engOpcode_eq, hop, opOk, ha, hb, hhi, hbias, decide_true, Bool.and_self, if_true, hps]

end

/-! ### The step of a run (R107, R108) -/

/-- What an instruction of a run leaves as the crane goes on: `p` the run and the state that it makes. -/
def engAfter (c : Nat) (r : Run) (p : Run × State) : State :=
  p.2.setCrane c { (p.2.craneOf c).count r.done with run := some { p.1 with pos := r.pos + 1 } }

section
variable {c : Fin 8} {s : State} {r : Run} {w : BitVec 36} {i : Instr} {op : EngOp}

theorem engRun_eq (hrun : (s.craneOf c).run = some r) : engRun s c op = engAfter c r (engApply (s.tick r.done) r op) := by
  simp only [engRun, hrun]
  rfl

/-- The next instruction of the run on a crane takes place. -/
theorem does_of_engStep {P : State → Prop} (hi : exec i s = engStep c op s) (hrun : (s.craneOf c).run = some r)
    (hw : r.prog[r.pos]? = some w) (hop : engDecode w = op) (hP : P (engAfter c r (engApply (s.tick r.done) r op))) : Does i s P := by
  have hnext : engNext s c = some op := by simp [engNext, hrun, hw, hop]
  exact ⟨_, by rw [hi, engStep, if_pos hnext, engRun_eq hrun], hP⟩

/-- Where the instruction itself leaves the instant and the cranes alone, the crane's run goes on and every other crane is as it was. -/
theorem engGoes_after {r' : Run} {u : State} (hnow : u.now = (s.tick r.done).now) (hcrane : u.crane = s.crane) :
    EngGoes c r r' s (engAfter c r (r', u)) := by
  refine ⟨hnow, congrArg CraneS.run (State.setCrane_craneOf ..), fun m hm => (State.setCrane_craneOf_ne _ _ hm).trans ?_⟩
  rw [State.craneOf, hcrane]

/-- An instruction that changes the context of its run alone. -/
theorem engSets_of {r' : Run} (hi : exec i s = engStep c op s) (hrun : (s.craneOf c).run = some r) (hw : r.prog[r.pos]? = some w)
    (hop : engDecode w = op) (happly : engApply (s.tick r.done) r op = (r', s.tick r.done)) : EngSets i c s r r' := by
  refine does_of_engStep hi hrun hw hop ?_
  rw [happly]
  exact ⟨engGoes_after rfl rfl, rfl⟩

/-! ### State words (R98, R292) -/

/-- An instruction stores state word `j`, unless a tide has replaced it during the run, and changes the run's context to `r'`. -/
def EngStores (i : Instr) (c : Fin 8) (s : State) (r r' : Run) (j : Nat) (y : Int) : Prop :=
  (j ∈ r.tide → EngSets i c s r r') ∧ (j ∉ r.tide → Does i s (fun s' => EngGoes c r r' s s' ∧
    s' = { s with now := s'.now, out := [], crane := s'.crane, bram := s'.bram, engW := s'.engW } ∧
    s'.bramOf j = (BitVec.ofInt 18 y).toInt ∧ (∃ p, s'.engWOf j = some ⟨p, r.start + 64 * (r.pos + 1)⟩) ∧
    ∀ k, k ≠ j → s'.bramOf k = s.bramOf k ∧ s'.engWOf k = s.engWOf k))

/-- R98: an engine write of a state word writes that word, with its record, and nothing else. -/
theorem stateWrite_spec (s : State) (j : Nat) (y : Int) (x : Nat) : ∃ p,
    stateWrite s j y x = (s.setEngW j (some ⟨p, x⟩)).setBram j (BitVec.ofInt 18 y).toInt :=
  ⟨_, congrArg (State.setBram _ j) (show sx 18 (ux 18 y) = _ by rw [sx, ux, BitVec.ofNat_toNat, BitVec.setWidth_eq])⟩

/-- An instruction whose one effect beside its context is the write of a state word. -/
theorem engStores_of {r' : Run} {j : Nat} {y : Int} (hi : exec i s = engStep c op s) (hrun : (s.craneOf c).run = some r)
    (hw : r.prog[r.pos]? = some w) (hop : engDecode w = op)
    (happly : engApply (s.tick r.done) r op = (r', runWrite (s.tick r.done) r j y)) : EngStores i c s r r' j y := by
  refine ⟨fun hj => engSets_of hi hrun hw hop ?_, fun hj => does_of_engStep hi hrun hw hop ?_⟩
  · rw [happly, runWrite, if_pos (List.contains_iff_mem.2 hj)]
  · obtain ⟨p, hp⟩ := stateWrite_spec (s.tick r.done) j y r.done
    rw [happly, runWrite, if_neg (mt List.contains_iff_mem.1 hj), hp]
    refine ⟨engGoes_after rfl rfl, rfl, State.setBram_bramOf .., ⟨p, (s.tick r.done).setEngW_engWOf j (some ⟨p, r.done⟩)⟩, fun k hk => ?_⟩
    exact ⟨State.setBram_bramOf_ne _ _ hk, (s.tick r.done).setEngW_engWOf_ne (some ⟨p, r.done⟩) hk⟩

end

/-- R117, R118: INT in the terms of the rules. -/
theorem engApply_int {s : State} {r : Run} {d a lo hi own : Nat} (hown : own < 16) : engApply s r (.int d a lo hi own) =
    let j := 16 * r.berth + own
    let y := max (opVal s r lo) (min (stateRead s r j + opVal s r a) (opVal s r hi))
    let r' : Run := { r with x := r.x.set d y }
    if r.mem = true ∧ own = r.intw ∧ r.selDone = false then ({ r' with prov := some ⟨y, opVal s r lo, opVal s r hi⟩, view := true }, s)
    else ({ r' with view := if own = r.intw then false else r.view }, runWrite s r j y) := by
  have hval : opVal s r own = stateRead s r (16 * r.berth + own) := if_pos hown
  simp only [engApply, hval, clampI, Run.setX, Bool.not_eq_true', Nat.add_left_cancel_iff]

/-! ### DUTY (R20, R121, R122) -/

/-- R109: the rounding of the statements. -/
theorem roundDiv_eq_roundQ (num : Int) {den : Nat} (hden : 0 < den) : roundDiv num den = roundQ (num / den) := roundDiv_eq num hden

theorem dutyValue_eq (s : State) (u : Nat) (ps : Bool) (y bias : Int) : dutyValue s u ps y bias =
    let p : Int := 64 * (if ps then s.get F.CU_PERS_p u else s.get F.CU_PER_p u : Nat)
    let e := roundQ (y * p / 131072)
    let e := if s.get F.CU_CTL_mode u = 1 then p - e else e
    max 0 (min (e + bias) p) := by
  simp only [dutyValue, clampI, roundDiv_eq_roundQ _ (show 0 < 131072 by decide)]
  push_cast
  rfl

/-- A unit takes none of the stores that it holds from later edges on. -/
theorem cuFlush_of_later {s : State} {u : Nat} {x : Int} (h : ∀ y ∈ (s.cuOf u).held, x < y.held) : cuFlush s u x = s := by
  have hdue : (s.cuOf u).held.filter (fun w => decide (w.held ≤ x) && (s.cuOf u).nextBnd.all (fun b => decide (w.held < b))) = [] :=
    List.filter_eq_nil_iff.2 fun y hy => by simp [h y hy]
  simp [cuFlush, hdue]

/-- R20: a unit that holds stores of later edges alone takes a duty store into them. -/
theorem cuDuty_of_later {s : State} {u j v t pri b : Nat} (h : ∀ y ∈ (s.cuOf u).held, (s.now : Int) < y.held) (ht : s.now < t) :
    cuDuty s u j v t pri b = s.setCu u { s.cuOf u with held := (s.cuOf u).held ++ [⟨j + 1, v % 2 ^ 36, t, .duty pri b⟩] } := by
  refine cuFlush_of_later fun y hy => ?_
  rw [State.setCu_cuOf, List.mem_append, List.mem_singleton] at hy
  rcases hy with hy | rfl
  · exact h y hy
  · exact Int.ofNat_lt.2 ht

/-- A part of a command that has raised no event is complete. -/
theorem cuSettleFrom_end {s : State} {k : Nat} (h : k = s.out.length) : cuSettleFrom k s = s := h ▸ cuChain_end 512 s

section
variable {s : State} {r : Run} {c a b hi bias uo : Nat} {ps : Bool}

/-- R20, R121: a DUTY to a unit whose stores wait for later edges. -/
theorem engApply_duty (hnow : s.now = r.done) (hlater : ∀ x ∈ (s.cuOf ((r.cu + uo) % 128)).held, (r.done : Int) < x.held) :
    engApply s r (.duty c a b hi bias ps uo) =
      let u := (r.cu + uo) % 128
      let y := max 0 (min (opVal s r a + opVal s r b) (opVal s r hi))
      (r, s.setCu u { s.cuOf u with held := (s.cuOf u).held ++
        [⟨c + 1, (dutyValue s u ps y (opVal s r bias)).toNat % 2 ^ 36, ((r.done + 64 : Nat) : Int), .duty r.pri r.berth⟩] }) := by
  have hflush : cuFlush s ((r.cu + uo) % 128) (r.done - 1) = s := cuFlush_of_later fun x hx => by have := hlater x hx; omega
  simp only [engApply, hflush]
  rw [cuDuty_of_later (by rw [hnow]; exact hlater) (by omega)]
  exact congrArg (r, ·) (cuSettleFrom_end rfl)

end

/-! ### The statements -/

theorem engineStateWordsRules : EngineStateWordsRules := by
  intro c s r w hrun hw op d a b hi own val Stores
  have word : ∀ {i : Instr} {o : EngOp} {j : Nat} {y : Int} {r' : Run}, exec i s = engStep c o s → engDecode w = o →
      engApply (s.tick r.done) r o = (r', runWrite (s.tick r.done) r j y) → Stores i j y r' :=
    fun hexec hdec happly => engStores_of hexec hrun hw hdec happly
  refine ⟨fun hop ha hb => ?_, fun hop ha hb hhi => ?_, fun hop ha => word rfl (engDecode_stw hop ha) rfl⟩
  · have macd : d.toNat ≠ 3 → engDecode w = .macd d.toNat a.toNat b.toNat := fun hd => engDecode_macd hop hd ha hb
    refine ⟨fun hd => ?_, fun hd => ?_, fun hd => ?_⟩ <;> rw [hd] at macd <;> exact word rfl (macd (by decide)) rfl
  · have hdec := engDecode_int hop ha hb hhi
    have happly := engApply_int (s := s.tick r.done) (r := r) (d := d.toNat) (a := a.toNat) (lo := b.toNat) (hi := hi.toNat) own.isLt
    split
    · next h => exact engSets_of rfl hrun hw hdec (happly.trans (if_pos h))
    · next h => exact word rfl hdec (happly.trans (if_neg h))

theorem dutyStoreRules : DutyStoreRules := by
  intro c s r w hrun hw hop a b hi bias cmp val u ha hb hhi hbias hnow hlater y p e e'
  have huo : (w.extractLsb' 0 3).toNat = w.toNat % 8 := BitVec.extractLsb'_toNat ..
  have hdec := engDecode_duty hop ha hb hhi hbias
  rw [huo] at hdec
  refine does_of_engStep (by rw [← huo]; rfl) hrun hw hdec ?_
  rw [engApply_duty (s := s.tick r.done) (Nat.max_eq_right hnow) hlater]
  simp only [dutyValue_eq]
  exact ⟨engGoes_after rfl rfl, rfl, State.setCu_cuOf .., fun m hm => State.setCu_cuOf_ne _ _ hm⟩

end Sys2Proof.Machine

namespace Sys2Proof.Settled

open Sys2Proof.Machine

/-- Settles O27: the next instruction of a run acts by one equation of the model; beside the run's context it makes one change, the write of a
state word, or the store that a counter unit holds. -/
theorem engineStateAndDuty : Obligations.EngineStateAndDuty := ⟨engineStateWordsRules, dutyStoreRules⟩

end Sys2Proof.Settled
end

section
/-! PROOFS. The budget check of a crane: the model's loop finds the greatest exempt set (01_loop_path.md, R24; 04_loop_engine.md, R92, R93). -/

namespace Sys2Proof.Machine

/-! ### The waits of a crane's berths -/

section
variable (s : State) (c b : Nat)

/-- The berths that the check counts as armed on crane `c`: `b` and the armed ones. -/
def budgetOn : List Nat := b :: s.armed.filter (fun m => s.get F.BERTH_CTL_crane m == c && m != b)

/-- R91: those of priority 0. -/
def budgetTop : List Nat := (budgetOn s c b).filter (fun m => s.get F.BERTH_CTL_pri m == 0)

/-- R92: the instructions of a berth's program. -/
def budgetLen (m : Nat) : Nat := s.get F.BERTH_PROG_lenm1 m + 1

/-- R87: the coincidence set of a berth; one set where the separation is 0. -/
def budgetSet (m : Nat) : Nat := if s.get F.CR_SEP_sep c = 0 then 0 else s.get F.BERTH_CTL_cset m

/-- R92: the position of the last duty store of a berth's program, or its length. -/
def budgetK (m : Nat) : Nat :=
  (((List.range (budgetLen s m)).filter
    (fun i => (s.bstoreOf (s.get F.BERTH_PROG_base m + i)).toNat / 2 ^ 30 == 0o17)).getLast?.map (· + 1)).getD (budgetLen s m)

/-- R24, R93: the worst wait of berth `p` where the berths of `e` are exempt. -/
def budgetWait (e : List Nat) (p : Nat) : Nat :=
  (((budgetOn s c b).filter (fun q => s.get F.BERTH_CTL_pri q != 0 || (budgetSet s c q != budgetSet s c p && !e.contains q))).map
      (budgetLen s)).foldl max 0 +
    (((budgetOn s c b).filter (fun q => s.get F.BERTH_CTL_pri q == 0 && budgetSet s c q == budgetSet s c p && q != p)).map
      (budgetLen s)).sum

/-- R93: with `e` exempt, berth `p` of priority 0 meets the test of the loop. -/
def BudgetFits (e : List Nat) (p : Nat) : Prop := budgetWait s c b e p + budgetLen s p ≤ s.get F.CR_SEP_sep c

/-- One pass of the loop of R93. -/
def budgetPass (e : List Nat) : List Nat :=
  (budgetTop s c b).filter (fun p => decide (budgetWait s c b e p + budgetLen s p ≤ s.get F.CR_SEP_sep c))

end

section
variable {s : State} {c b : Nat} {e e' : List Nat} {p : Nat}

theorem budgetRule_iff : BudgetRule s c b ↔ ∃ e : List Nat,
    (∀ p ∈ budgetOn s c b, s.get F.BERTH_CTL_pri p = 0 → (p ∈ e ↔ BudgetFits s c b e p)) ∧
    (∀ e' : List Nat, (∀ p ∈ e', p ∈ budgetOn s c b → s.get F.BERTH_CTL_pri p = 0 → BudgetFits s c b e' p) →
      ∀ p ∈ e', p ∈ budgetOn s c b → s.get F.BERTH_CTL_pri p = 0 → p ∈ e) ∧
    ∀ p ∈ budgetOn s c b, s.get F.BERTH_CTL_pri p = 0 → budgetWait s c b e p + budgetK s p ≤ 22 := Iff.rfl

theorem mem_budgetTop : p ∈ budgetTop s c b ↔ p ∈ budgetOn s c b ∧ s.get F.BERTH_CTL_pri p = 0 := by
  simp [budgetTop, List.mem_filter]

theorem mem_budgetPass : p ∈ budgetPass s c b e ↔ p ∈ budgetTop s c b ∧ BudgetFits s c b e p := by
  simp [budgetPass, List.mem_filter, BudgetFits]

theorem foldl_max_le_iff {l : List Nat} {a n : Nat} : l.foldl max a ≤ n ↔ a ≤ n ∧ ∀ x ∈ l, x ≤ n := by
  induction l generalizing a with
  | nil => simp
  | cons x l ih => simp [ih, and_assoc]

/-- More exempt berths of priority 0 shorten every wait. -/
theorem budgetWait_anti (h : ∀ q ∈ budgetTop s c b, q ∈ e → q ∈ e') (p : Nat) : budgetWait s c b e' p ≤ budgetWait s c b e p := by
  refine Nat.add_le_add_right (foldl_max_le_iff.2 ⟨Nat.zero_le _, fun x hx => ?_⟩) _
  obtain ⟨q, hq, rfl⟩ := List.mem_map.1 hx
  refine (foldl_max_le_iff.1 le_rfl).2 _ (List.mem_map_of_mem (List.mem_filter.2 ?_))
  obtain ⟨hon, hblock⟩ := List.mem_filter.1 hq
  refine ⟨hon, ?_⟩
  by_cases hpri : s.get F.BERTH_CTL_pri q = 0
  · have hmem := h q (mem_budgetTop.2 ⟨hon, hpri⟩)
    simp only [hpri, bne_self_eq_false, Bool.false_or, Bool.and_eq_true, Bool.not_eq_true', List.contains_eq_mem,
      decide_eq_false_iff_not] at hblock ⊢
    exact hblock.imp_right (mt hmem)
  · simp [hpri]

theorem BudgetFits.mono (h : ∀ q ∈ budgetTop s c b, q ∈ e → q ∈ e') (hp : BudgetFits s c b e p) : BudgetFits s c b e' p :=
  (Nat.add_le_add_right (budgetWait_anti h p) _).trans hp

/-! ### The loop (R93) -/

/-- R93: passes from `e` on until one changes nothing, `f` at most. -/
def budgetLoop (s : State) (c b : Nat) : Nat → List Nat → List Nat
  | 0, e => e
  | f + 1, e => if budgetPass s c b e = e then e else budgetLoop s c b f (budgetPass s c b e)

/-- Every berth of `e'` that the check knows meets the test with `e'` exempt. -/
def BudgetClosed (s : State) (c b : Nat) (e' : List Nat) : Prop := ∀ p ∈ e', p ∈ budgetTop s c b → BudgetFits s c b e' p

/-- A set from which the loop descends: a part of the berths of priority 0 that holds every berth that meets the test. -/
structure BudgetAbove (s : State) (c b : Nat) (e : List Nat) : Prop where
  part : ∃ q, e = (budgetTop s c b).filter q
  holds : ∀ p ∈ budgetTop s c b, BudgetFits s c b e p → p ∈ e

theorem BudgetAbove.pass_eq (h : BudgetAbove s c b e) : budgetPass s c b e =
    e.filter (fun p => decide (budgetWait s c b e p + budgetLen s p ≤ s.get F.CR_SEP_sep c)) := by
  obtain ⟨q, hq⟩ := h.part
  have hfilter : e.filter (fun p => decide (budgetWait s c b e p + budgetLen s p ≤ s.get F.CR_SEP_sep c)) =
      (budgetTop s c b).filter (fun p => decide (budgetWait s c b e p + budgetLen s p ≤ s.get F.CR_SEP_sep c) && q p) := by
    conv_lhs => rw [hq, List.filter_filter]
    rw [← hq]
  rw [hfilter]
  refine List.filter_congr fun p hp => ?_
  by_cases hfit : budgetWait s c b e p + budgetLen s p ≤ s.get F.CR_SEP_sep c
  · have hmem := h.holds p hp hfit
    rw [hq] at hmem
    simp [hfit, (List.mem_filter.1 hmem).2]
  · simp [hfit]

theorem BudgetAbove.pass (h : BudgetAbove s c b e) : BudgetAbove s c b (budgetPass s c b e) where
  part := ⟨_, rfl⟩
  holds p hp hfit := by
    have hsub : ∀ q ∈ budgetTop s c b, q ∈ budgetPass s c b e → q ∈ e := fun q _ hq => h.holds q (mem_budgetPass.1 hq).1 (mem_budgetPass.1 hq).2
    exact mem_budgetPass.2 ⟨hp, hfit.mono hsub⟩

/-- The loop ends at a set that a pass leaves as it is, and it keeps every closed set that it started above. -/
theorem budgetLoop_spec {f : Nat} (h : BudgetAbove s c b e) (hf : e.length < f) :
    budgetPass s c b (budgetLoop s c b f e) = budgetLoop s c b f e ∧
    ∀ e', BudgetClosed s c b e' → (∀ p ∈ e', p ∈ budgetTop s c b → p ∈ e) → ∀ p ∈ e', p ∈ budgetTop s c b → p ∈ budgetLoop s c b f e := by
  induction f generalizing e with
  | zero => exact absurd hf (Nat.not_lt_zero _)
  | succ f ih =>
    rw [budgetLoop]
    split
    · next heq => exact ⟨heq, fun _ _ hsub => hsub⟩
    · next hne =>
      have hlen : (budgetPass s c b e).length < e.length := by
        rw [h.pass_eq] at hne ⊢
        exact lt_of_le_of_ne (List.length_filter_le _ _) fun hl => hne (List.filter_eq_self.2 (List.length_filter_eq_length_iff.1 hl))
      obtain ⟨hfix, hmax⟩ := ih h.pass (by omega)
      refine ⟨hfix, fun e' hc hsub => hmax e' hc fun p hp ht => ?_⟩
      exact mem_budgetPass.2 ⟨ht, (hc p hp ht).mono fun q hq hqe => hsub q hqe hq⟩

/-! ### The model's check -/

theorem progK_eq (m : Nat) : progK (progWords s (s.get F.BERTH_PROG_base m) (budgetLen s m)) = budgetK s m := by
  have hlen : (progWords s (s.get F.BERTH_PROG_base m) (budgetLen s m)).length = budgetLen s m := by simp [progWords]
  have hduty : (List.range (budgetLen s m)).filter
        (fun i => (((progWords s (s.get F.BERTH_PROG_base m) (budgetLen s m)).getD i 0).extractLsb' 30 6) == 15#6) =
      (List.range (budgetLen s m)).filter (fun i => (s.bstoreOf (s.get F.BERTH_PROG_base m + i)).toNat / 2 ^ 30 == 0o17) := by
    refine List.filter_congr fun i hi => ?_
    have hword : (progWords s (s.get F.BERTH_PROG_base m) (budgetLen s m)).getD i 0 = s.bstoreOf (s.get F.BERTH_PROG_base m + i) := by
      simp [progWords, List.getD, List.mem_range.1 hi]
    rw [hword, Bool.eq_iff_iff, beq_iff_eq, beq_iff_eq, ← engOpcode_eq, ← BitVec.toNat_inj]
    rfl
  rw [progK, hlen, hduty, budgetK]
  cases ((List.range (budgetLen s m)).filter
    (fun i => (s.bstoreOf (s.get F.BERTH_PROG_base m + i)).toNat / 2 ^ 30 == 0o17)).getLast? <;> rfl

/-- What the model's check knows of a berth. -/
theorem budgetOf_eq (m : Nat) : budgetOf s (s.get F.CR_SEP_sep c) m =
    ⟨m, s.get F.BERTH_CTL_pri m, budgetSet s c m, budgetLen s m, budgetK s m⟩ := by
  rw [← progK_eq]
  rfl

theorem worstWait_eq (p : Nat) : worstWait ((budgetOn s c b).map (budgetOf s (s.get F.CR_SEP_sep c))) e
    (budgetOf s (s.get F.CR_SEP_sep c) p) = budgetWait s c b e p := by
  simp only [worstWait, budgetWait, List.filter_map, List.map_map, Function.comp_def, budgetOf_eq, List.sum_eq_foldl]

theorem exemptPass_eq : (((((budgetOn s c b).map (budgetOf s (s.get F.CR_SEP_sep c))).filter (fun p => p.pri == 0)).filter
    (fun p => decide (worstWait ((budgetOn s c b).map (budgetOf s (s.get F.CR_SEP_sep c))) e p + p.len ≤ s.get F.CR_SEP_sep c))).map
      (fun p => p.berth)) = budgetPass s c b e := by
  simp only [List.filter_map, List.map_map, Function.comp_def, worstWait_eq]
  simp only [budgetOf_eq, List.map_id']
  rfl

theorem exemptLoop_eq (f : Nat) : exemptLoop ((budgetOn s c b).map (budgetOf s (s.get F.CR_SEP_sep c))) (s.get F.CR_SEP_sep c) f e =
    budgetLoop s c b f e := by
  induction f generalizing e with
  | zero => rfl
  | succ f ih =>
    rw [exemptLoop, budgetLoop]
    simp only [exemptPass_eq, ih]

theorem budgetOn_eq : budgetOn s c b = b :: (armedOn s c).filter (fun x => x != b) := by
  rw [budgetOn, armedOn, List.filter_filter]
  simp only [Bool.and_comm]

theorem budgetOk_iff : budgetOk s c b = true ↔ ∀ p ∈ budgetTop s c b,
    budgetWait s c b (budgetLoop s c b 130 (budgetTop s c b)) p + budgetK s p ≤ 22 := by
  have htop : (((budgetOn s c b).map (budgetOf s (s.get F.CR_SEP_sep c))).filter (fun p => p.pri == 0)) =
      (budgetTop s c b).map (budgetOf s (s.get F.CR_SEP_sep c)) := by
    rw [List.filter_map]
    simp only [Function.comp_def, budgetOf_eq]
    rfl
  have hberth : ((budgetTop s c b).map (budgetOf s (s.get F.CR_SEP_sep c))).map (fun p => p.berth) = budgetTop s c b := by
    simp only [List.map_map, Function.comp_def, budgetOf_eq, List.map_id']
  simp only [budgetOk, ← budgetOn_eq, htop, hberth, exemptLoop_eq, List.all_map, List.all_eq_true, Function.comp_def, worstWait_eq,
    decide_eq_true_eq]
  simp only [budgetOf_eq]

/-- R93: the model's check is the rule, where the crane has fewer than 128 armed berths. -/
theorem budgetOk_iff_rule (hlen : (armedOn s c).length < 128) : budgetOk s c b = true ↔ BudgetRule s c b := by
  have hstart : BudgetAbove s c b (budgetTop s c b) := ⟨⟨fun _ => true, (List.filter_eq_self.2 fun _ _ => rfl).symm⟩, fun _ hp _ => hp⟩
  have hshort : (budgetTop s c b).length < 130 := by
    have h1 : (budgetTop s c b).length ≤ (budgetOn s c b).length := List.length_filter_le _ _
    have h2 : ((armedOn s c).filter (fun x => x != b)).length ≤ (armedOn s c).length := List.length_filter_le _ _
    rw [budgetOn_eq, List.length_cons] at h1
    omega
  obtain ⟨hfix, hmax⟩ := budgetLoop_spec hstart hshort
  have hmax := fun e' hc => hmax e' hc fun _ _ ht => ht
  have hmem : ∀ p ∈ budgetTop s c b, p ∈ budgetLoop s c b 130 (budgetTop s c b) ↔
      BudgetFits s c b (budgetLoop s c b 130 (budgetTop s c b)) p := fun p hp => by
    conv_lhs => rw [← hfix]
    rw [mem_budgetPass, and_iff_right hp]
  rw [budgetOk_iff, budgetRule_iff]
  constructor
  · exact fun hwait => ⟨_, fun p hon hpri => hmem p (mem_budgetTop.2 ⟨hon, hpri⟩),
      fun e' hc p hp hon hpri => hmax e' (fun q hq ht => hc q hq (mem_budgetTop.1 ht).1 (mem_budgetTop.1 ht).2) p hp (mem_budgetTop.2 ⟨hon, hpri⟩),
      fun p hon hpri => hwait p (mem_budgetTop.2 ⟨hon, hpri⟩)⟩
  · rintro ⟨e, he, hgreatest, hwait⟩ p hp
    have hclosed : BudgetClosed s c b e := fun q hq ht => (he q (mem_budgetTop.1 ht).1 (mem_budgetTop.1 ht).2).1 hq
    obtain ⟨hon, hpri⟩ := mem_budgetTop.1 hp
    exact (Nat.add_le_add_right (budgetWait_anti (fun q hq hqe => hmax e hclosed q hqe hq) p) _).trans (hwait p hon hpri)

end

end Sys2Proof.Machine
end

section
/-! PROOFS. The laws of the operations that the commands of the berths share: what a command on one berth keeps of the device, and what the loss of a
round, a discarded run and a disarm leave (04_loop_engine.md, R79 to R106). -/

namespace Sys2Proof.Machine

/-! ### Further operations under which the rest of the device is kept -/

section
variable {α : Type} {view : State → α} {cls inst : Nat} {may : RegName → Nat → Prop} {s u : State}

/-- What hardware did to a register that the command may write. -/
theorem Keeps.setHw {r : RegName} {i : Nat} (h : Keeps view cls inst may s u) (x : HwRec) (hf : may r i) :
    Keeps view cls inst may s (u.setHw (regKey r i) x) :=
  h.trans ⟨h.blind, h.blind u u.out u.regs _ u.srcAt u.vsrc, fun _ _ => rfl,
    fun _ _ hr => ⟨rfl, u.setHw_hwOf_ne x (fun e => hr ((regKey_inj.1 e).1 ▸ (regKey_inj.1 e).2 ▸ hf))⟩⟩

theorem Keeps.incSat {f : Fld} {i : Nat} (h : Keeps view cls inst may s u) (hf : may f.reg i) : Keeps view cls inst may s (u.incSat f i) :=
  (h.put _ hf).setHw _ hf

theorem Keeps.hwPut {f : Fld} {i : Nat} (h : Keeps view cls inst may s u) (x : Nat) (hf : may f.reg i) :
    Keeps view cls inst may s (u.hwPut f i x) :=
  (h.put x hf).setHw _ hf

/-- An event of the unit at any instant leaves the sources of every other unit. -/
theorem Keeps.raiseAt (h : Keeps view cls inst may s u) {ev : Nat} (hev : ev < 16) (x : Int) :
    Keeps view cls inst may s (u.raiseAt cls inst ev x) :=
  h.trans ⟨h.blind, h.blind u _ u.regs u.hw _ u.vsrc,
    fun _ hk => State.setSrcAt_srcAtOf_ne _ _ (fun e => hk (by rw [e, srcKey]; omega)), fun _ _ _ => ⟨rfl, rfl⟩⟩

end

/-! ### The frame of a command on a berth -/

/-- What a command on berth `b` does not touch beside registers and event sources: the device without the engine's scheduling and the event
channels, and the other berths. -/
def berthView (b : Nat) (s : State) : State × (Nat → BerthS) :=
  ({ s with out := [], regs := [], hw := [], berth := [], armed := [], admq := [], crane := [], rounds := [], ev := [], srcAt := [], vsrc := [] },
    fun m => if m = b then {} else s.berthOf m)

theorem berthView_blind (b : Nat) : Blind (berthView b) := fun _ _ _ _ _ _ => rfl

/-- The registers of a berth that its commands write, those of its crane, and those that an interrupt source writes. -/
abbrev berthRegs : List RegName := [.BERTH_CTL, .BERTH_STAT, .BERTH_OVR]
abbrev craneRegs : List RegName := [.CR_STAT, .CR_SEPB]
abbrev vecRegs : List RegName := [.VU_PEND, .VU_LOST]

/-- The registers that a command on berth `b` of crane `c` with trigger channel `ch` may write: the berth's own, the crane's and the channel's of
those in `l`, ENG_ADMERR where it is in `l`, and the vector registers. -/
inductive BerthMay (b c ch : Nat) (l : List RegName) : RegName → Nat → Prop where
  | own {r : RegName} (h : r ∈ berthRegs) : BerthMay b c ch l r b
  | vec {r : RegName} (i : Nat) (h : r ∈ vecRegs) : BerthMay b c ch l r i
  | crane {r : RegName} (h : r ∈ craneRegs) (hl : r ∈ l) : BerthMay b c ch l r c
  | taps (hl : .EV_STAT ∈ l) : BerthMay b c ch l .EV_STAT ch
  | adm (i : Nat) (hl : .ENG_ADMERR ∈ l) : BerthMay b c ch l .ENG_ADMERR i

/-- From `s` to `s'` a command on berth `b` has written no registers but those, and raised no events but those of one unit. -/
abbrev BerthKeeps (cls inst b c ch : Nat) (l : List RegName) (s s' : State) : Prop := Keeps (berthView b) cls inst (BerthMay b c ch l) s s'

/-- The unit of the events of berth `b` (R157). -/
abbrev BerthUnit (b cls inst : Nat) : Prop := 128 * cls + inst = 128 * (5 + b / 128) + b % 128

section
variable {cls inst b c ch t : Nat} {l : List RegName} {s u : State}

theorem BerthKeeps.refl (s : State) : BerthKeeps cls inst b c ch l s s := Keeps.refl (berthView_blind b) s

/-- A register that is not among those of the frame is none that the command may write. -/
theorem BerthMay.listed {r : RegName} {i : Nat} (h : BerthMay b c ch l r i) :
    r ∈ [RegName.BERTH_CTL, .BERTH_STAT, .BERTH_OVR, .VU_PEND, .VU_LOST] ++ l := by
  rw [List.mem_append]
  cases h with
  | own h => exact .inl ((by decide : ∀ r ∈ berthRegs, r ∈ berthRegs ++ vecRegs) r h)
  | vec i h => exact .inl ((by decide : ∀ r ∈ vecRegs, r ∈ berthRegs ++ vecRegs) r h)
  | crane h hl => exact .inr hl
  | taps hl => exact .inr hl
  | adm i hl => exact .inr hl

/-- Of a register of a berth a command may write its own instance alone. -/
theorem BerthMay.own_instance {r : RegName} {i : Nat} (h : BerthMay b c ch l r i) (hr : r ∈ berthRegs) : i = b := by
  cases h with
  | own h => rfl
  | vec i h => exact absurd h ((by decide : ∀ r ∈ berthRegs, r ∉ vecRegs) r hr)
  | crane h hl => exact absurd h ((by decide : ∀ r ∈ berthRegs, r ∉ craneRegs) r hr)
  | taps hl => exact absurd hr (by decide)
  | adm i hl => exact absurd hr (by decide)

/-- Of the crane's registers a command may write its own instance alone. -/
theorem BerthMay.crane_instance {r : RegName} {i : Nat} (h : BerthMay b c ch l r i) (hr : r ∈ craneRegs) : i = c := by
  cases h with
  | own h => exact absurd h ((by decide : ∀ r ∈ craneRegs, r ∉ berthRegs) r hr)
  | vec i h => exact absurd h ((by decide : ∀ r ∈ craneRegs, r ∉ vecRegs) r hr)
  | crane h hl => rfl
  | taps hl => exact absurd hr (by decide)
  | adm i hl => exact absurd hr (by decide)

theorem BerthMay.taps_instance {i : Nat} (h : BerthMay b c ch l .EV_STAT i) : i = ch := by
  cases h with
  | own h => exact absurd h (by decide)
  | vec i h => exact absurd h (by decide)
  | crane h hl => exact absurd h (by decide)
  | taps hl => rfl

/-- A command that keeps so much of the state at its instant has the frame of a command on the berth, where its events are those of the berth or of
a crane. -/
theorem Keeps.berthFrame (h : BerthKeeps cls inst b c ch l (s.tick t) u) (hsrc : BerthUnit b cls inst ∨ (cls = 13 ∧ inst < 128)) :
    BerthFrame t b l s u := by
  have hrest : (berthView b u).1 = (berthView b (s.tick t)).1 := congrArg Prod.fst h.view
  have hframe : u = { (berthView b u).1 with
    out := u.out, regs := u.regs, hw := u.hw, berth := u.berth, armed := u.armed, admq := u.admq, crane := u.crane, rounds := u.rounds,
    ev := u.ev, srcAt := u.srcAt, vsrc := u.vsrc } := rfl
  refine ⟨hframe.trans (by rw [hrest]; rfl), fun m hm => ?_, fun k hk h13 => h.src k ?_, fun r i hr => h.reg r i fun hmay => hr hmay.listed,
    fun r hr i hi => h.reg r i fun hmay => hi (hmay.own_instance hr)⟩
  · exact (if_neg hm).symm.trans ((congrFun (congrArg Prod.snd h.view) m).trans (if_neg hm))
  · rcases hsrc with e | ⟨rfl, hinst⟩
    · rwa [e]
    · omega

theorem Keeps.othersCrane (h : BerthKeeps cls inst b c ch l (s.tick t) u) {r : RegName} (hr : r ∈ craneRegs) :
    OthersKept r c s u :=
  fun i hi => h.reg r i fun hmay => hi (hmay.crane_instance hr)

theorem Keeps.othersTaps (h : BerthKeeps cls inst b c ch l (s.tick t) u) : OthersKept .EV_STAT ch s u :=
  fun i hi => h.reg .EV_STAT i fun hmay => hi hmay.taps_instance

theorem Keeps.putBerth {f : Fld} (h : BerthKeeps cls inst b c ch l s u) (x : Nat)
    (hf : f.reg ∈ berthRegs := by decide) : BerthKeeps cls inst b c ch l s (u.put f b x) :=
  h.put x (.own hf)

theorem Keeps.flagBerth {f : Fld} (h : BerthKeeps cls inst b c ch l s u)
    (hf : f.reg ∈ berthRegs := by decide) : BerthKeeps cls inst b c ch l s (u.flag f b) :=
  h.flag (.own hf)

theorem Keeps.setBerth (h : BerthKeeps cls inst b c ch l s u) (x : BerthS) : BerthKeeps cls inst b c ch l s (u.setBerth b x) := by
  refine h.hidden (Prod.ext rfl (funext fun m => ?_)) rfl rfl rfl
  by_cases hm : m = b
  · simp only [berthView, if_pos hm]
  · simp only [berthView, if_neg hm, State.setBerth_berthOf_ne _ _ hm]

theorem Keeps.setCrane (h : BerthKeeps cls inst b c ch l s u) (d : Nat) (x : CraneS) : BerthKeeps cls inst b c ch l s (u.setCrane d x) :=
  h.hidden rfl rfl rfl rfl

theorem Keeps.setRounds (h : BerthKeeps cls inst b c ch l s u) (g : Nat) (x : List Offer) :
    BerthKeeps cls inst b c ch l s (u.setRounds g x) := h.hidden rfl rfl rfl rfl

theorem Keeps.setArmed (h : BerthKeeps cls inst b c ch l s u) (x : List Nat) : BerthKeeps cls inst b c ch l s { u with armed := x } :=
  h.hidden rfl rfl rfl rfl

theorem Keeps.setAdmq (h : BerthKeeps cls inst b c ch l s u) (x : List Nat) : BerthKeeps cls inst b c ch l s { u with admq := x } :=
  h.hidden rfl rfl rfl rfl

theorem Keeps.berthFireIf (h : BerthKeeps cls inst b c ch l s u) (p : Bool) (k : Nat) : BerthKeeps cls inst b c ch l s (u.fireIf p k) :=
  h.fireIf (fun i => .vec i (by decide)) (fun i => .vec i (by decide)) p k

/-- R159: a change of the taps of the berth's channel. -/
theorem Keeps.berthRetap (h : BerthKeeps cls inst b c ch l s u) (hl : .EV_STAT ∈ l) (s0 : State) :
    BerthKeeps cls inst b c ch l s (retap s0 u ch) := by
  unfold retap
  dsimp only
  split
  · exact h
  · have hput := (h.put (f := F.EV_STAT_taps) (i := ch) (min (evTaps u ch).length 127) (.taps hl)).put (f := F.EV_STAT_relay) (i := ch)
      (b2n (decide (8 < (evTaps u ch).length))) (.taps hl)
    split
    · exact (hput.flag (f := F.EV_STAT_tapovf) (.taps hl)).hidden rfl rfl rfl rfl
    · exact hput.hidden rfl rfl rfl rfl

end

/-! ### What the shared operations leave of the engine -/

@[simp] theorem setBerth_get (s : State) (k : Nat) (h : BerthS) (f : Fld) (i : Nat) : (s.setBerth k h).get f i = s.get f i := rfl
@[simp] theorem setBerth_is (s : State) (k : Nat) (h : BerthS) (f : Fld) (i : Nat) : (s.setBerth k h).is f i = s.is f i := rfl
@[simp] theorem setCrane_get (s : State) (k : Nat) (h : CraneS) (f : Fld) (i : Nat) : (s.setCrane k h).get f i = s.get f i := rfl
@[simp] theorem setCrane_is (s : State) (k : Nat) (h : CraneS) (f : Fld) (i : Nat) : (s.setCrane k h).is f i = s.is f i := rfl
@[simp] theorem setRounds_is (s : State) (k : Nat) (h : List Offer) (f : Fld) (i : Nat) : (s.setRounds k h).is f i = s.is f i := rfl

/-- An interrupt source touches nothing of the engine. -/
theorem fireIf_engine (s : State) (p : Bool) (k : Nat) : (s.fireIf p k).armed = s.armed ∧ (s.fireIf p k).berth = s.berth ∧
    (s.fireIf p k).crane = s.crane ∧ (s.fireIf p k).admq = s.admq := by
  have h := fireIf_view (view := fun s : State => (s.armed, s.berth, s.crane, s.admq)) (fun _ _ _ _ _ _ => rfl) s p k
  simp only [Prod.mk.injEq] at h
  exact h

/-- R159: a change of taps touches nothing of the engine. -/
theorem retap_engine (s0 s : State) (ch : Nat) : (retap s0 s ch).armed = s.armed ∧ (retap s0 s ch).berth = s.berth ∧
    (retap s0 s ch).crane = s.crane ∧ (retap s0 s ch).rounds = s.rounds ∧ (retap s0 s ch).admq = s.admq := by
  unfold retap
  dsimp only
  repeat' split
  all_goals exact ⟨rfl, rfl, rfl, rfl, rfl⟩

theorem retap_is (s0 s : State) (ch : Nat) {f : Fld} (i : Nat) (hf : f.reg ≠ .EV_STAT) : (retap s0 s ch).is f i = s.is f i :=
  congrArg (· == 1) (retap_get s0 s ch i hf)

theorem retap_reg (s0 s : State) (ch : Nat) {r : RegName} (i : Nat) (hr : r ≠ .EV_STAT) : (retap s0 s ch).reg r i = s.reg r i :=
  ((IchKeeps.refl (n := 0) (may := fun r _ => r = .EV_STAT) s).retap rfl s0).reg r i hr |>.1

/-! ### Marks of lost rounds (R104) -/

/-- A pending run, a run, a berth and a crane but for the marks of lost rounds. -/
def PendRun.unmarked (p : PendRun) : PendRun := { p with voided := false }
def Run.unmarked (r : Run) : Run := { r with voided := false }
def BerthS.unmarked (h : BerthS) : BerthS := { h with pend := h.pend.map PendRun.unmarked }
def CraneS.unmarked (h : CraneS) : CraneS := { h with run := h.run.map Run.unmarked }

/-- A crane that differs by the mark alone. -/
theorem CraneS.eq_of_unmarked {h h' : CraneS} (e : h'.unmarked = h.unmarked) :
    ∃ vo, h' = { h with run := h.run.map (fun r => { r with voided := vo }) } := by
  obtain ⟨run, _⟩ := h
  obtain ⟨run', _⟩ := h'
  simp only [CraneS.unmarked, CraneS.mk.injEq] at e ⊢
  obtain ⟨hrun, hrest⟩ := e
  cases run with
  | none =>
    cases run' with
    | none => exact ⟨false, rfl, hrest⟩
    | some r' => exact absurd hrun (by simp)
  | some r =>
    cases run' with
    | none => exact absurd hrun (by simp)
    | some r' =>
      refine ⟨r'.voided, ?_, hrest⟩
      simp only [Option.map_some, Option.some.injEq] at hrun ⊢
      calc r' = { r'.unmarked with voided := r'.voided } := rfl
        _ = { r.unmarked with voided := r'.voided } := by rw [hrun]

/-- From `s` to `s'` rounds have been dropped and marks set, on armed berths and on cranes. -/
structure Marks (s s' : State) : Prop where
  frame : s' = { s with berth := s'.berth, crane := s'.crane, rounds := s'.rounds }
  berth : ∀ m, (s'.berthOf m).unmarked = (s.berthOf m).unmarked
  apart : ∀ m, m ∉ s.armed → s'.berthOf m = s.berthOf m
  crane : ∀ c, (s'.craneOf c).unmarked = (s.craneOf c).unmarked

section
variable {s u v : State}

theorem Marks.refl (s : State) : Marks s s := ⟨rfl, fun _ => rfl, fun _ _ => rfl, fun _ => rfl⟩

theorem Marks.armed (h : Marks s u) : u.armed = s.armed := by rw [h.frame]

theorem Marks.trans (h : Marks s u) (g : Marks u v) : Marks s v where
  frame := by rw [g.frame, h.frame]
  berth m := (g.berth m).trans (h.berth m)
  apart m hm := (g.apart m (h.armed ▸ hm)).trans (h.apart m hm)
  crane c := (g.crane c).trans (h.crane c)

theorem Marks.setRounds (s : State) (g : Nat) (l : List Offer) : Marks s (s.setRounds g l) := ⟨rfl, fun _ => rfl, fun _ _ => rfl, fun _ => rfl⟩

/-- The mark on the pending run of berth `m` that became ready at instant `r`. -/
def markPend (s : State) (m r : Nat) : State :=
  match (s.berthOf m).pend with
  | some p => if p.ready = r then s.setBerth m { s.berthOf m with pend := some { p with voided := true } } else s
  | none => s

/-- The mark on the executing run of berth `m` that became ready at instant `r`. -/
def markRun (s : State) (m r : Nat) : State :=
  match (s.craneOf (s.get F.BERTH_CTL_crane m)).run with
  | some x => if x.berth = m ∧ x.ready = r then
      s.setCrane (s.get F.BERTH_CTL_crane m) { s.craneOf (s.get F.BERTH_CTL_crane m) with run := some { x with voided := true } }
    else s
  | none => s

theorem roundLost_eq (s : State) (g b r : Nat) : roundLost s g b r =
    (groupMembers s g).foldl (fun s m => markRun (markPend s m r) m r) (if berthRuns s b then s else s.setRounds g []) := rfl

theorem markPend_marks {m : Nat} (hm : m ∈ s.armed) (r : Nat) : Marks s (markPend s m r) := by
  unfold markPend
  split
  · next p hp =>
    split
    · refine ⟨rfl, fun k => ?_, fun k hk => State.setBerth_berthOf_ne _ _ fun e => hk (e ▸ hm), fun _ => rfl⟩
      by_cases hk : k = m
      · rw [hk, State.setBerth_berthOf]
        simp [BerthS.unmarked, PendRun.unmarked, hp]
      · rw [State.setBerth_berthOf_ne _ _ hk]
    · exact .refl s
  · exact .refl s

theorem markRun_marks (s : State) (m r : Nat) : Marks s (markRun s m r) := by
  unfold markRun
  split
  · next x hx =>
    split
    · refine ⟨rfl, fun _ => rfl, fun _ _ => rfl, fun c => ?_⟩
      by_cases hc : c = s.get F.BERTH_CTL_crane m
      · rw [hc, State.setCrane_craneOf]
        simp [CraneS.unmarked, Run.unmarked, hx]
      · rw [State.setCrane_craneOf_ne _ _ hc]
    · exact .refl s
  · exact .refl s

theorem foldl_marks (l : List Nat) (r : Nat) (hl : ∀ m ∈ l, m ∈ s.armed) (h : Marks s u) :
    Marks s (l.foldl (fun s m => markRun (markPend s m r) m r) u) := by
  induction l generalizing u with
  | nil => exact h
  | cons m l ih =>
    refine ih (fun k hk => hl k (.tail _ hk)) ?_
    exact (h.trans (markPend_marks (h.armed ▸ hl m (.head _)) r)).trans (markRun_marks _ m r)

/-- R104: the loss of a round drops its offers and marks its runs, and changes nothing else. -/
theorem roundLost_marks (s : State) (g b r : Nat) : Marks s (roundLost s g b r) := by
  rw [roundLost_eq]
  refine foldl_marks _ r (fun m hm => (List.mem_filter.1 hm).1) ?_
  split
  · exact .refl s
  · exact .setRounds s g []

end

/-! ### A discarded run (R84, R89) -/

section
variable {s : State} {b : Nat}

/-- The berth closes the rounds of its group. -/
abbrev ClosesGroup (s : State) (b : Nat) : Prop := groupCloser s (s.get F.BERTH_GRP_grp b) = some b

/-- The berth without its pending run. -/
def noPend (s : State) (b : Nat) : State := (s.setBerth b { s.berthOf b with pend := none }).put F.BERTH_STAT_ready b 0

theorem berthDiscard_none (h : (s.berthOf b).pend = none) : berthDiscard s b = s := by simp [berthDiscard, h]

/-- R84, R89, R104: the pending run goes, and the round that it would have closed with it. -/
theorem berthDiscard_marks {p : PendRun} (h : (s.berthOf b).pend = some p) : Marks (noPend s b) (berthDiscard s b) ∧
    (¬ ClosesGroup s b → berthDiscard s b = noPend s b) := by
  simp only [berthDiscard, h]
  split
  · next hc => exact ⟨roundLost_marks .., fun hn => absurd (beq_iff_eq.1 hc) hn⟩
  · exact ⟨.refl _, fun _ => rfl⟩

end

end Sys2Proof.Machine
end

section
/-! PROOFS. Arming and disarming a berth, the admission unit, and ENG_CTL.en (04_loop_engine.md, R79, R84, R88 to R93, R100, R101). -/

namespace Sys2Proof.Machine

/-! ### A write of BERTH_CTL (R89, R90) -/

/-- The configuration that a write of BERTH_CTL carries is stored. -/
def berthCfg (s : State) (b v : Nat) : State :=
  ((s.put F.BERTH_CTL_pri b (F.BERTH_CTL_pri.of v)).put F.BERTH_CTL_crane b (F.BERTH_CTL_crane.of v)).put
    F.BERTH_CTL_cset b (F.BERTH_CTL_cset.of v)

/-- R90: the berth's request joins the queue, with the configuration of the write. -/
def armRequested (s : State) (b v : Nat) : State :=
  { (berthCfg s b v).put F.BERTH_STAT_admpend b 1 with admq := s.admq ++ [b] }

/-- The write carries another configuration than the berth has. -/
def changesCfg (s : State) (b v : Nat) : Bool :=
  F.BERTH_CTL_pri.of v != s.get F.BERTH_CTL_pri b || F.BERTH_CTL_crane.of v != s.get F.BERTH_CTL_crane b ||
    F.BERTH_CTL_cset.of v != s.get F.BERTH_CTL_cset b

section
variable {s : State} {b v : Nat}

theorem berthCtlWrite_request (harmed : b ∉ s.armed) (harm : F.BERTH_CTL_arm.of v = 1) (hpend : s.is F.BERTH_STAT_admpend b = false) :
    berthCtlWrite s b v = armRequested s b v := by
  have hpend' : (berthCfg s b v).is F.BERTH_STAT_admpend b = false := by
    simp (disch := decide) only [berthCfg, State.put_is_apart, hpend]
  simp only [berthCtlWrite, List.contains_eq_mem, harmed, decide_false, Bool.false_eq_true, if_false]
  exact if_pos ⟨harm, by rw [Bool.not_eq_true']; exact hpend'⟩

theorem berthCtlWrite_disarm (harmed : b ∈ s.armed) (harm : F.BERTH_CTL_arm.of v = 0) (hrun : berthRuns s b = false) :
    berthCtlWrite s b v = berthCfg (berthUnarm s b false) b v := by
  simp only [berthCtlWrite, List.contains_eq_mem, harmed, decide_true, harm, hrun, Bool.false_eq_true, if_true, if_false, berthCfg]

theorem berthCtlWrite_disarmLater (harmed : b ∈ s.armed) (harm : F.BERTH_CTL_arm.of v = 0) (hrun : berthRuns s b = true) :
    berthCtlWrite s b v = if changesCfg s b v = true then (s.setBerth b { s.berthOf b with endOff := true }).flag F.BERTH_STAT_cfgerr b
      else s.setBerth b { s.berthOf b with endOff := true } := by
  simp only [berthCtlWrite, List.contains_eq_mem, harmed, decide_true, harm, hrun, if_true, changesCfg]
  rfl

theorem berthCfg_is {f : Fld} (i : Nat) (hf : f.reg = .BERTH_CTL → 17 ≤ f.lo) : (berthCfg s b v).is f i = s.is f i := by
  have apart : ∀ {g : Fld} (u : State) (y : Nat), g.reg = .BERTH_CTL → g.lo + g.w ≤ 17 → (u.put g b y).is f i = u.is f i :=
    fun u y hg h17 => u.put_is_apart y (fun e => .inl (h17.trans (hf (e.trans hg))))
  rw [berthCfg, apart _ _ rfl (by decide), apart _ _ rfl (by decide), apart _ _ rfl (by decide)]

theorem berthCfg_reg {r : RegName} (i : Nat) (hr : r ≠ .BERTH_CTL) : (berthCfg s b v).reg r i = s.reg r i := by
  rw [berthCfg, State.put_reg_of_ne _ _ _ _ hr, State.put_reg_of_ne _ _ _ _ hr, State.put_reg_of_ne _ _ _ _ hr]

/-- The berth takes the configuration of the write. -/
theorem berthCfg_fields : (berthCfg s b v).get F.BERTH_CTL_pri b = F.BERTH_CTL_pri.of v ∧
    (berthCfg s b v).get F.BERTH_CTL_crane b = F.BERTH_CTL_crane.of v ∧ (berthCfg s b v).get F.BERTH_CTL_cset b = F.BERTH_CTL_cset.of v := by
  simp (disch := decide) only [berthCfg, State.put_get_apart, State.put_get_same]
  exact ⟨Nat.mod_mod _ _, Nat.mod_mod _ _, Nat.mod_mod _ _⟩

/-- A configuration touches the registers alone. -/
theorem berthCfg_engine (s : State) (b v : Nat) : (berthCfg s b v).armed = s.armed ∧ (∀ m, (berthCfg s b v).berthOf m = s.berthOf m) ∧
    ∀ g, (berthCfg s b v).roundsOf g = s.roundsOf g := ⟨rfl, fun _ => rfl, fun _ => rfl⟩

theorem Keeps.berthCfg {cls inst c ch : Nat} {l : List RegName} {u : State} (h : BerthKeeps cls inst b c ch l s u) (v : Nat) :
    BerthKeeps cls inst b c ch l s (berthCfg u b v) := ((h.putBerth _).putBerth _).putBerth _

theorem armRequested_keeps (s : State) (b v : Nat) : BerthKeeps (5 + b / 128) (b % 128) b 0 0 [] s (armRequested s b v) :=
  (((BerthKeeps.refl s).berthCfg v).putBerth 1).setAdmq _

theorem armRequested_get (s : State) (b v : Nat) {f : Fld} (i : Nat) (hf : f.reg ≠ .BERTH_STAT) :
    (armRequested s b v).get f i = (berthCfg s b v).get f i :=
  show ((berthCfg s b v).put F.BERTH_STAT_admpend b 1).get f i = (berthCfg s b v).get f i from State.put_get_apart _ _ fun e => absurd e hf

theorem armRequested_admpend (s : State) (b v : Nat) : (armRequested s b v).is F.BERTH_STAT_admpend b = true :=
  show ((berthCfg s b v).put F.BERTH_STAT_admpend b 1).is F.BERTH_STAT_admpend b = true from State.put_is_same _ _ _ _ (by decide)

end

section
variable {t : Nat} {b : Fin 1024} {v : Word} {s : State}

/-- A command that writes BERTH_CTL in a cycle in which hardware touched none of its bits writes the whole value. -/
theorem does_of_berthWrite {i : Instr} {cond : State → Bool} {P : State → Prop}
    (hi : exec i s = event t s cond (fun s => berthCtlWrite s b (s.yielded .BERTH_CTL b .base v.toNat))) (hidle : HwIdle t .BERTH_CTL b s)
    (hc : cond (s.tick t) = true) (hP : P (berthCtlWrite (s.tick t) b v.toNat)) : Does i s P :=
  does_of_event hi hc (by rwa [yielded_idle _ (by omega) hidle])

theorem armOf_true (hv : v.getLsbD 17 = true) : F.BERTH_CTL_arm.of v.toNat = 1 := by rw [Fld.of_bit rfl, show F.BERTH_CTL_arm.lo = 17 from rfl, hv]; rfl
theorem armOf_false (hv : v.getLsbD 17 = false) : F.BERTH_CTL_arm.of v.toNat = 0 := by rw [Fld.of_bit rfl, show F.BERTH_CTL_arm.lo = 17 from rfl, hv]; rfl

/-- R90: the request of a disarmed berth. -/
theorem berthArmRequest_does (hv : v.getLsbD 17 = true) (hidle : HwIdle t .BERTH_CTL b s) (harm : s.is F.BERTH_CTL_arm b = false)
    (hpend : s.is F.BERTH_STAT_admpend b = false) (harmed : b.val ∉ s.armed) :
    Does (.berthArmRequest t b v) s (fun s' => BerthFrame t b [] s s' ∧ s'.admq = s.admq ++ [b.val] ∧ s'.armed = s.armed ∧
      s'.is F.BERTH_STAT_admpend b = true ∧ s'.is F.BERTH_CTL_arm b = false ∧ s'.get F.BERTH_CTL_pri b = F.BERTH_CTL_pri.of v.toNat ∧
      s'.get F.BERTH_CTL_crane b = F.BERTH_CTL_crane.of v.toNat ∧ s'.get F.BERTH_CTL_cset b = F.BERTH_CTL_cset.of v.toNat ∧
      s'.berth = s.berth ∧ s'.crane = s.crane) := by
  have hof := armOf_true hv
  have hnew : berthCtlWrite (s.tick t) b v.toNat = armRequested (s.tick t) b v.toNat := berthCtlWrite_request harmed hof hpend
  have hcond : (F.BERTH_CTL_arm.of v.toNat == 1 && !(s.tick t).is F.BERTH_CTL_arm b && !(s.tick t).is F.BERTH_STAT_admpend b) = true := by
    simp [hof, harm, hpend]
  refine does_of_berthWrite (show execBerthArmRequest t b v s = _ from rfl) hidle hcond ?_
  rw [hnew]
  obtain ⟨hpri, hcrane, hcset⟩ := berthCfg_fields (s := s.tick t) (b := b) (v := v.toNat)
  have hget : ∀ f : Fld, f.reg ≠ .BERTH_STAT → (armRequested (s.tick t) b v.toNat).get f b = (berthCfg (s.tick t) b v.toNat).get f b :=
    fun f => armRequested_get _ _ _ _
  have hkept : (armRequested (s.tick t) b v.toNat).is F.BERTH_CTL_arm b = false :=
    (congrArg (· == 1) (hget F.BERTH_CTL_arm (by decide))).trans ((berthCfg_is _ fun _ => by decide).trans harm)
  exact ⟨(armRequested_keeps _ _ _).berthFrame (.inl rfl), rfl, rfl, armRequested_admpend _ _ _, hkept, (hget _ (by decide)).trans hpri,
    (hget _ (by decide)).trans hcrane, (hget _ (by decide)).trans hcset, rfl, rfl⟩

end

/-! ### A disarm (R89) -/

section
variable {s : State} {b : Nat}

/-- Where no round is lost, a berth without a run is disarmed by these steps. -/
def unarmed (s : State) (b : Nat) (hw : Bool) : State :=
  (if hw then s.hwPut F.BERTH_CTL_arm b 0 else s.put F.BERTH_CTL_arm b 0).setBerth b {}

/-- The round that the berth closes goes. -/
def roundsDropped (s0 s : State) (b : Nat) : State :=
  if groupCloser s0 (s.get F.BERTH_GRP_grp b) == some b then s.setRounds (s.get F.BERTH_GRP_grp b) [] else s

/-! #### A discarded run leaves -/

theorem berthDiscard_regs (s : State) (b : Nat) :
    (berthDiscard s b).regs = if (s.berthOf b).pend.isSome then (s.put F.BERTH_STAT_ready b 0).regs else s.regs := by
  cases h : (s.berthOf b).pend with
  | none => rw [berthDiscard_none h]; rfl
  | some p => rw [(berthDiscard_marks h).1.frame]; rfl

theorem berthDiscard_get (s : State) (b : Nat) {f : Fld} (i : Nat) (hf : f.reg = .BERTH_STAT → 15 ≤ f.lo ∨ f.lo + f.w ≤ 14) :
    (berthDiscard s b).get f i = s.get f i := by
  have hput : (s.put F.BERTH_STAT_ready b 0).get f i = s.get f i := State.put_get_apart _ _ hf
  rw [State.get, State.reg, berthDiscard_regs]
  split
  · exact hput
  · rfl

theorem berthDiscard_reg (s : State) (b : Nat) {r : RegName} (i : Nat) (hr : r ≠ .BERTH_STAT) : (berthDiscard s b).reg r i = s.reg r i := by
  have hput : (s.put F.BERTH_STAT_ready b 0).reg r i = s.reg r i := State.put_reg_of_ne s b i 0 hr
  rw [State.reg, berthDiscard_regs]
  split
  · exact hput
  · rfl

/-- A berth whose status shows its pending run is not ready without it. -/
theorem berthDiscard_ready (h : s.is F.BERTH_STAT_ready b = (s.berthOf b).pend.isSome) : (berthDiscard s b).is F.BERTH_STAT_ready b = false := by
  rw [State.is, State.get, State.reg, berthDiscard_regs]
  split
  · exact State.put_is_same s F.BERTH_STAT_ready b 0 (by decide)
  · next hn => exact h.trans (Bool.not_eq_true _ ▸ hn)

theorem berthDiscard_frame (s : State) (b : Nat) : berthDiscard s b =
    { s with regs := (berthDiscard s b).regs, berth := (berthDiscard s b).berth, crane := (berthDiscard s b).crane, rounds := (berthDiscard s b).rounds } := by
  cases h : (s.berthOf b).pend with
  | none => rw [berthDiscard_none h]
  | some p => rw [(berthDiscard_marks h).1.frame]; rfl

theorem berthDiscard_armed (s : State) (b : Nat) : (berthDiscard s b).armed = s.armed := by rw [berthDiscard_frame]

theorem berthDiscard_keeps {cls inst c ch : Nat} {l : List RegName} {u : State} (h : BerthKeeps cls inst b c ch l s u)
    (hcloses : ClosesGroup u b → (u.berthOf b).pend = none) : BerthKeeps cls inst b c ch l s (berthDiscard u b) := by
  cases hp : (u.berthOf b).pend with
  | none => rwa [berthDiscard_none hp]
  | some p =>
    rw [(berthDiscard_marks hp).2 fun hc => nomatch (hcloses hc).symm.trans hp]
    exact (h.setBerth _).putBerth 0

/-! #### A disarmed berth -/

/-- The disarmed berth, before its crane and its channel show it. -/
def disarmed (s : State) (b : Nat) (hw : Bool) : State :=
  { roundsDropped s (unarmed (berthDiscard s b) b hw) b with
    armed := (roundsDropped s (unarmed (berthDiscard s b) b hw) b).armed.filter (fun x => x != b) }

theorem unarmed_regs (s : State) (b : Nat) (hw : Bool) : (unarmed s b hw).regs = (s.put F.BERTH_CTL_arm b 0).regs := by
  cases hw <;> rfl

theorem roundsDropped_eq (s0 s : State) (b : Nat) : roundsDropped s0 s b = { s with rounds := (roundsDropped s0 s b).rounds } := by
  unfold roundsDropped
  split <;> rfl

theorem disarmed_regs (s : State) (b : Nat) (hw : Bool) : (disarmed s b hw).regs = ((berthDiscard s b).put F.BERTH_CTL_arm b 0).regs := by
  rw [disarmed, roundsDropped_eq]
  exact unarmed_regs ..

theorem disarmed_get (s : State) (b : Nat) (hw : Bool) {f : Fld} (i : Nat) (hc : f.reg = .BERTH_CTL → f.lo + f.w ≤ 17)
    (hs : f.reg = .BERTH_STAT → 15 ≤ f.lo ∨ f.lo + f.w ≤ 14) : (disarmed s b hw).get f i = s.get f i := by
  have hput : ((berthDiscard s b).put F.BERTH_CTL_arm b 0).get f i = s.get f i :=
    (State.put_get_apart _ _ fun e => .inr (hc e)).trans (berthDiscard_get s b i hs)
  rw [State.get, State.reg, disarmed_regs]
  exact hput

theorem disarmed_arm (s : State) (b : Nat) (hw : Bool) : (disarmed s b hw).is F.BERTH_CTL_arm b = false := by
  rw [State.is, State.get, State.reg, disarmed_regs]
  exact State.put_is_same (berthDiscard s b) F.BERTH_CTL_arm b 0 (by decide)

theorem disarmed_ready (hw : Bool) (h : s.is F.BERTH_STAT_ready b = (s.berthOf b).pend.isSome) :
    (disarmed s b hw).is F.BERTH_STAT_ready b = false := by
  rw [State.is, State.get, State.reg, disarmed_regs]
  exact (State.put_is_apart (berthDiscard s b) (f := F.BERTH_CTL_arm) (g := F.BERTH_STAT_ready) _ (by decide)).trans (berthDiscard_ready h)

theorem disarmed_armed (s : State) (b : Nat) (hw : Bool) : (disarmed s b hw).armed = s.armed.filter (fun x => x != b) := by
  have h : (roundsDropped s (unarmed (berthDiscard s b) b hw) b).armed = s.armed := by
    rw [roundsDropped_eq]
    exact (by cases hw <;> rfl : (unarmed (berthDiscard s b) b hw).armed = (berthDiscard s b).armed).trans (berthDiscard_armed s b)
  exact congrArg (List.filter _) h

theorem disarmed_berth (s : State) (b : Nat) (hw : Bool) : (disarmed s b hw).berth = ((berthDiscard s b).setBerth b {}).berth := by
  rw [disarmed, roundsDropped_eq]
  cases hw <;> rfl

theorem disarmed_crane (s : State) (b : Nat) (hw : Bool) : (disarmed s b hw).crane = (berthDiscard s b).crane := by
  rw [disarmed, roundsDropped_eq]
  cases hw <;> rfl

/-- R104: the rounds of the group that the berth closes are gone. -/
theorem disarmed_rounds (hw : Bool) (h : ClosesGroup s b) : (disarmed s b hw).roundsOf (s.get F.BERTH_GRP_grp b) = [] := by
  have hgrp : (unarmed (berthDiscard s b) b hw).get F.BERTH_GRP_grp b = s.get F.BERTH_GRP_grp b := by
    rw [State.get, State.reg, unarmed_regs]
    exact (State.put_get_apart (berthDiscard s b) (f := F.BERTH_CTL_arm) _ (by decide)).trans (berthDiscard_get s b b (by decide))
  have hdrop : roundsDropped s (unarmed (berthDiscard s b) b hw) b =
      (unarmed (berthDiscard s b) b hw).setRounds (s.get F.BERTH_GRP_grp b) [] := by
    rw [roundsDropped, hgrp, if_pos (beq_iff_eq.2 h)]
  exact (congrArg (fun u : State => u.roundsOf (s.get F.BERTH_GRP_grp b)) hdrop).trans (State.setRounds_roundsOf ..)

theorem disarmed_keeps {cls inst c ch : Nat} {l : List RegName} (hw : Bool) (hcloses : ClosesGroup s b → (s.berthOf b).pend = none) :
    BerthKeeps cls inst b c ch l s (disarmed s b hw) := by
  have hunarmed : BerthKeeps cls inst b c ch l s (unarmed (berthDiscard s b) b hw) := by
    have hdiscard : BerthKeeps cls inst b c ch l s (berthDiscard s b) := berthDiscard_keeps (.refl s) hcloses
    cases hw
    · exact (hdiscard.putBerth 0).setBerth _
    · exact (hdiscard.hwPut 0 (.own (by decide))).setBerth _
  refine Keeps.setArmed ?_ _
  unfold roundsDropped
  split
  · exact hunarmed.setRounds _ _
  · exact hunarmed

/-- R89, R159: a disarm leaves the berth disarmed, which its crane and its channel show. -/
theorem berthUnarm_eq (s : State) (b : Nat) (hw : Bool) : berthUnarm s b hw =
    retap s (showArmed (disarmed s b hw) (s.get F.BERTH_CTL_crane b)) (s.get F.BERTH_TRG_num b) := by
  rw [← disarmed_get s b hw (f := F.BERTH_CTL_crane) b (by decide) (by decide), ← disarmed_get s b hw (f := F.BERTH_TRG_num) b (by decide) (by decide)]
  rfl

/-- The registers of a crane and a channel apart, a disarm leaves those of the disarmed berth. -/
theorem berthUnarm_get (s : State) (b : Nat) (hw : Bool) {f : Fld} (i : Nat) (hc : f.reg ≠ .CR_STAT) (he : f.reg ≠ .EV_STAT) :
    (berthUnarm s b hw).get f i = (disarmed s b hw).get f i := by
  rw [berthUnarm_eq, retap_get _ _ _ _ he, showArmed, State.put_get_apart (f := F.CR_STAT_narmed) _ _ (absurd · hc)]

/-- A disarm leaves the scheduling of the disarmed berth. -/
theorem berthUnarm_engine (s : State) (b : Nat) (hw : Bool) : (berthUnarm s b hw).armed = s.armed.filter (fun x => x != b) ∧
    (berthUnarm s b hw).berth = ((berthDiscard s b).setBerth b {}).berth ∧ (berthUnarm s b hw).crane = (berthDiscard s b).crane ∧
    (berthUnarm s b hw).rounds = (disarmed s b hw).rounds := by
  rw [berthUnarm_eq]
  obtain ⟨harmed, hberth, hcrane, hrounds, hadmq⟩ := retap_engine s (showArmed (disarmed s b hw) (s.get F.BERTH_CTL_crane b)) (s.get F.BERTH_TRG_num b)
  exact ⟨harmed.trans (disarmed_armed ..), hberth.trans (disarmed_berth ..), hcrane.trans (disarmed_crane ..), hrounds⟩

theorem berthUnarm_rounds (hw : Bool) (h : ClosesGroup s b) : (berthUnarm s b hw).roundsOf (s.get F.BERTH_GRP_grp b) = [] := by
  obtain ⟨hkept, hberth, hcrane, hrounds⟩ := berthUnarm_engine s b hw
  rw [State.roundsOf, hrounds]
  exact disarmed_rounds hw h

theorem berthUnarm_berthOf (s : State) (b : Nat) (hw : Bool) : (berthUnarm s b hw).berthOf b = {} := by
  obtain ⟨hkept, hberth, hcrane, hrounds⟩ := berthUnarm_engine s b hw
  rw [State.berthOf, hberth]
  exact State.setBerth_berthOf ..

theorem berthUnarm_keeps {cls inst : Nat} {l : List RegName} (hw : Bool) (hcloses : ClosesGroup s b → (s.berthOf b).pend = none)
    (hl : .CR_STAT ∈ l) (hl' : .EV_STAT ∈ l) :
    BerthKeeps cls inst b (s.get F.BERTH_CTL_crane b) (s.get F.BERTH_TRG_num b) l s (berthUnarm s b hw) := by
  rw [berthUnarm_eq]
  exact ((disarmed_keeps hw hcloses).put _ (.crane (by decide) hl)).berthRetap hl' s

theorem berthUnarm_reg (s : State) (b : Nat) (hw : Bool) {r : RegName} (i : Nat)
    (hr : r ∉ [RegName.BERTH_CTL, .BERTH_STAT, .CR_STAT, .EV_STAT]) : (berthUnarm s b hw).reg r i = s.reg r i := by
  simp only [List.mem_cons, List.not_mem_nil, or_false, not_or] at hr
  obtain ⟨hctl, hstat, hcrane, htaps⟩ := hr
  have hput : ((berthDiscard s b).put F.BERTH_CTL_arm b 0).reg r i = s.reg r i :=
    (State.put_reg_of_ne _ _ _ _ hctl).trans (berthDiscard_reg s b i hstat)
  rw [berthUnarm_eq, retap_reg _ _ _ _ htaps, showArmed, State.put_reg_of_ne _ _ _ _ hcrane, State.reg, disarmed_regs]
  exact hput

end

section
variable {t : Nat} {b : Fin 1024} {v : Word} {s : State}

/-- R89, R84: a disarm of a berth without an executing run. -/
theorem berthDisarm_does (hv : v.getLsbD 17 = false) (hidle : HwIdle t .BERTH_CTL b s) (harm : s.is F.BERTH_CTL_arm b = true) (harmed : b.val ∈ s.armed)
    (hrun : berthRuns s b = false) : Does (.berthDisarm t b v) s (fun s' =>
      ((ClosesGroup s b → (s.berthOf b).pend = none) → BerthFrame t b [.CR_STAT, .EV_STAT] s s') ∧
      (ClosesGroup s b → s'.roundsOf (s.get F.BERTH_GRP_grp b) = []) ∧ s'.armed = s.armed.filter (· != b.val) ∧ s'.is F.BERTH_CTL_arm b = false ∧
      s'.berthOf b = {} ∧ (s.is F.BERTH_STAT_ready b = (s.berthOf b).pend.isSome → s'.is F.BERTH_STAT_ready b = false) ∧
      s'.reg .BERTH_OVR b = s.reg .BERTH_OVR b ∧ s'.get F.BERTH_CTL_pri b = F.BERTH_CTL_pri.of v.toNat) := by
  have hof := armOf_false hv
  have hnew : berthCtlWrite (s.tick t) b v.toNat = berthCfg (berthUnarm (s.tick t) b false) b v.toNat := berthCtlWrite_disarm harmed hof hrun
  have hcond : ((s.tick t).is F.BERTH_CTL_arm b && F.BERTH_CTL_arm.of v.toNat == 0) = true := by rw [hof]; exact congrArg (· && true) harm
  refine does_of_berthWrite (show execBerthDisarm t b v s = _ from rfl) hidle hcond ?_
  rw [hnew]
  have hkeeps : (ClosesGroup s b → (s.berthOf b).pend = none) → BerthKeeps (5 + b / 128) (b % 128) b (s.get F.BERTH_CTL_crane b)
      (s.get F.BERTH_TRG_num b) [.CR_STAT, .EV_STAT] (s.tick t) (berthUnarm (s.tick t) b false) :=
    fun hcloses => berthUnarm_keeps (s := s.tick t) false hcloses (.head _) (.tail _ (.head _))
  have hrounds : ClosesGroup s b → (berthUnarm (s.tick t) b false).roundsOf (s.get F.BERTH_GRP_grp b) = [] := berthUnarm_rounds (s := s.tick t) false
  have harmed' : (berthUnarm (s.tick t) b false).armed = s.armed.filter (· != b.val) := (berthUnarm_engine (s.tick t) b false).1
  have his : ∀ f : Fld, f.reg ∈ [RegName.BERTH_CTL, .BERTH_STAT] → (f.reg = .BERTH_CTL → 17 ≤ f.lo) →
      (berthCfg (berthUnarm (s.tick t) b false) b v.toNat).is f b = (disarmed (s.tick t) b false).is f b := fun f hr hf =>
    (berthCfg_is b hf).trans (congrArg (· == 1) (berthUnarm_get _ b false b (fun e => by rw [e] at hr; exact absurd hr (by decide))
      fun e => by rw [e] at hr; exact absurd hr (by decide)))
  obtain ⟨hcfgArmed, hcfgBerth, hcfgRounds⟩ := berthCfg_engine (berthUnarm (s.tick t) b false) b v.toNat
  have hover : (berthUnarm (s.tick t) b false).reg .BERTH_OVR b = s.reg .BERTH_OVR b := berthUnarm_reg _ _ _ _ (by decide)
  refine ⟨fun hcloses => ((hkeeps hcloses).berthCfg _).berthFrame (.inl rfl), fun hcloses => (hcfgRounds _).trans (hrounds hcloses),
    hcfgArmed.trans harmed', (his _ (by decide) fun _ => by decide).trans (disarmed_arm ..), (hcfgBerth _).trans (berthUnarm_berthOf ..),
    fun hready => (his _ (by decide) fun h => absurd h (by decide)).trans (disarmed_ready (s := s.tick t) false hready), (berthCfg_reg _ (by decide)).trans hover, berthCfg_fields.1⟩

/-- R89: a disarm of a berth whose run executes waits for its end. -/
theorem berthDisarm_waits (hv : v.getLsbD 17 = false) (hidle : HwIdle t .BERTH_CTL b s) (harm : s.is F.BERTH_CTL_arm b = true)
    (harmed : b.val ∈ s.armed) (hrun : berthRuns s b = true) : Does (.berthDisarm t b v) s (fun s' => BerthFrame t b [] s s' ∧
      s'.armed = s.armed ∧ s'.is F.BERTH_CTL_arm b = true ∧ s'.berthOf b = { s.berthOf b with endOff := true } ∧
      s'.reg .BERTH_OVR b = s.reg .BERTH_OVR b ∧ s'.reg .BERTH_CTL b = s.reg .BERTH_CTL b ∧ s'.crane = s.crane ∧
      s'.rounds = s.rounds ∧ s'.is F.BERTH_STAT_cfgerr b = (s.is F.BERTH_STAT_cfgerr b || changesCfg s b v.toNat)) := by
  have hof := armOf_false hv
  have hnew := berthCtlWrite_disarmLater (s := s.tick t) harmed hof hrun
  have hcond : ((s.tick t).is F.BERTH_CTL_arm b && F.BERTH_CTL_arm.of v.toNat == 0) = true := by rw [hof]; exact congrArg (· && true) harm
  refine does_of_berthWrite (show execBerthDisarm t b v s = _ from rfl) hidle hcond ?_
  rw [hnew]
  have hkeep : BerthKeeps (5 + b / 128) (b % 128) b 0 0 [] (s.tick t) ((s.tick t).setBerth b { s.berthOf b with endOff := true }) :=
    (BerthKeeps.refl _).setBerth _
  rw [show changesCfg s b v.toNat = changesCfg (s.tick t) b v.toNat from rfl]
  cases changesCfg (s.tick t) b v.toNat
  · rw [if_neg Bool.false_ne_true, Bool.or_false]
    exact ⟨hkeep.berthFrame (.inl rfl), rfl, harm, State.setBerth_berthOf .., rfl, rfl, rfl, rfl, rfl⟩
  · rw [if_pos rfl, Bool.or_true]
    refine ⟨hkeep.flagBerth.berthFrame (.inl rfl), rfl, ?_, State.setBerth_berthOf .., ?_, ?_, rfl, rfl, is_flag _ _ _ rfl (by decide)⟩
    · exact (State.flag_is_apart _ (by decide)).trans harm
    · exact State.put_reg_of_ne _ _ _ _ (by decide)
    · exact State.put_reg_of_ne _ _ _ _ (by decide)

end

end Sys2Proof.Machine
end

section
/-! PROOFS. The admission unit: the first reason of R91 that refuses an arming request, and what a refusal and an arming leave
(04_loop_engine.md, R90 to R93, R100, R101). -/

namespace Sys2Proof.Machine

/-! ### The reasons of R91 -/

section
variable (s : State) (b : Nat)

/-- R91, code 5: boundaries in use that do not ascend. -/
abbrev BndsDisordered : Prop :=
  (2 ≤ s.get F.BERTH_GAIN_nregm1 b ∧ s.getS F.BERTH_BND_b (3 * b + 1) ≤ s.getS F.BERTH_BND_b (3 * b + 0)) ∨
    (3 ≤ s.get F.BERTH_GAIN_nregm1 b ∧ s.getS F.BERTH_BND_b (3 * b + 2) ≤ s.getS F.BERTH_BND_b (3 * b + 1))

/-- R99: the last state word of the coefficient blocks of a berth. -/
abbrev blockEnd (m : Nat) : Nat := s.get F.BERTH_GBASE_base m + s.get F.BERTH_GAIN_nregm1 m * s.get F.BERTH_GAIN_step m + 15

/-- R91: the coefficient blocks of berth `m` meet the own state words of berth `m'`. -/
abbrev BlocksCover (m m' : Nat) : Prop := s.get F.BERTH_GBASE_base m ≤ 16 * m' + 15 ∧ 16 * m' ≤ blockEnd s m

/-- R101: the other armed members of a berth's group. -/
def groupPeers : List Nat :=
  s.armed.filter (fun m => s.is F.BERTH_GRP_mem m && s.get F.BERTH_GRP_grp m == s.get F.BERTH_GRP_grp b && m != b)

/-- R101: a member that differs from the berth in what a group shares. -/
abbrev PeerDiffers (m : Nat) : Prop :=
  ∃ f ∈ [F.BERTH_CTL_crane, F.BERTH_CTL_cset, F.BERTH_CTL_pri, F.BERTH_TRG_src, F.BERTH_TRG_num], s.get f m ≠ s.get f b

/-- R91, code 8: a rule of R101 that the berth's group would break. -/
abbrev GroupRefuses : Prop :=
  s.is F.BERTH_GRP_mem b = true ∧ (8 ≤ (groupPeers s b).length ∨ (∃ m ∈ groupPeers s b, PeerDiffers s b m) ∨
    (s.is F.BERTH_GRP_close b = true ∧ ∃ m ∈ groupPeers s b, s.is F.BERTH_GRP_close m = true ∨ b < m) ∨
    (¬ s.is F.BERTH_GRP_close b = true ∧ ∃ m ∈ groupPeers s b, s.is F.BERTH_GRP_close m = true ∧ m < b))

/-- R91: the first reason before the budget check that applies; 0 where none does. -/
def admFirst : Nat :=
  if s.is F.ENG_CTL_en 0 = false then 1
  else if s.get F.BERTH_TRG_src b = 3 ∨ (s.get F.BERTH_TRG_src b = 0 ∧ 511 < s.get F.BERTH_TRG_num b) then 2
  else if 16384 < s.get F.BERTH_PROG_base b + (s.get F.BERTH_PROG_lenm1 b + 1) then 3
  else if 128 ≤ (armedOn s (s.get F.BERTH_CTL_crane b)).length then 4
  else if BndsDisordered s b then 5 else if 16384 ≤ blockEnd s b then 6
  else if ∃ m ∈ s.armed, m ≠ b ∧ (BlocksCover s b m ∨ BlocksCover s m b) then 7
  else if GroupRefuses s b then 8 else 0

end

section
variable {s : State} {b : Nat}

/-- The model's test of the boundaries in use. -/
theorem disordered_iff (n : Nat) (x y z : Int) : (match [x, y, z].take n with
    | [x, y] => decide (x < y)
    | [x, y, z] => decide (x < y) && decide (y < z)
    | _ => true) = false ↔ (2 ≤ n ∧ y ≤ x) ∨ (3 ≤ n ∧ z ≤ y) := by
  rcases n with _ | _ | _ | n <;> simp [imp_iff_not_or]

theorem blockCode_eq (s : State) (b : Nat) : blockCode s b = if BndsDisordered s b then 5 else if 16384 ≤ blockEnd s b then 6
    else if ∃ m ∈ s.armed, m ≠ b ∧ (BlocksCover s b m ∨ BlocksCover s m b) then 7 else 0 := by
  have hord := disordered_iff (s.get F.BERTH_GAIN_nregm1 b) (s.getS F.BERTH_BND_b (3 * b + 0)) (s.getS F.BERTH_BND_b (3 * b + 1))
    (s.getS F.BERTH_BND_b (3 * b + 2))
  simp only [blockCode, berthBnds, berthNreg, berthBlock, Nat.add_sub_cancel, Nat.mul_comm b 3, BndsDisordered, Nat.add_zero,
    Bool.not_eq_true', List.any_eq_true, Bool.and_eq_true, Bool.or_eq_true, bne_iff_ne, decide_eq_true_eq] at hord ⊢
  simp only [← hord] <;> rfl

theorem groupPeers_eq (s : State) (b : Nat) :
    (groupMembers s (s.get F.BERTH_GRP_grp b)).filter (fun m => m != b) = groupPeers s b := by
  rw [groupMembers, List.filter_filter]
  exact List.filter_congr fun m _ => Bool.and_comm _ _

theorem mem_groupPeers_ne {m : Nat} (h : m ∈ groupPeers s b) : m ≠ b :=
  bne_iff_ne.1 (Bool.and_eq_true_iff.1 (List.mem_filter.1 h).2).2

/-- R101: the model's check of the group rules. -/
theorem groupOk_iff (s : State) (b : Nat) : groupOk s b = false ↔ GroupRefuses s b := by
  have hclose : (∃ m ∈ groupPeers s b, s.is F.BERTH_GRP_close m = true ∨ b ≤ m) ↔
      ∃ m ∈ groupPeers s b, s.is F.BERTH_GRP_close m = true ∨ b < m :=
    exists_congr fun m => and_congr_right fun h => or_congr_right (mem_groupPeers_ne h).symm.le_iff_lt
  have hopen : (∃ m ∈ groupPeers s b, s.is F.BERTH_GRP_close m = true ∧ m ≤ b) ↔
      ∃ m ∈ groupPeers s b, s.is F.BERTH_GRP_close m = true ∧ m < b :=
    exists_congr fun m => and_congr_right fun h => and_congr_right fun _ => (mem_groupPeers_ne h).le_iff_lt
  by_cases hmem : s.is F.BERTH_GRP_mem b = true
  · rw [groupOk, if_pos hmem]
    simp only [groupPeers_eq, GroupRefuses, hmem, true_and, ← hclose, ← hopen, PeerDiffers]
    cases hb : s.is F.BERTH_GRP_close b <;>
      simp [imp_iff_not_or, or_assoc]
  · simp [groupOk, hmem, GroupRefuses]

/-- A reason that comes before those of `y`. -/
theorem ite_first {p q : Prop} [Decidable p] [Decidable q] {n x y z : Nat} (hpq : p ↔ q) (hn : n ≠ 0) (h : x = if y = 0 then z else y) :
    (if p then n else x) = if (if q then n else y) = 0 then z else if q then n else y := by
  by_cases hq : q
  · simp only [if_pos hq, if_pos (hpq.2 hq), if_neg hn]
  · simpa only [if_neg hq, if_neg (mt hpq.1 hq)] using h

/-- R91: the code of the admission unit is the first reason that applies, the budget check last. -/
theorem admCode_eq (s : State) (b : Nat) : admCode s b =
    if admFirst s b = 0 then (if budgetOk s (s.get F.BERTH_CTL_crane b) b = true then 0 else 9) else admFirst s b := by
  unfold admCode admFirst
  refine ite_first (Bool.not_eq_true' _).to_iff (by decide) ?_
  refine ite_first .rfl (by decide) (ite_first .rfl (by decide) (ite_first .rfl (by decide) ?_))
  rw [blockCode_eq]
  by_cases h5 : BndsDisordered s b
  · simp only [if_pos h5]; rfl
  by_cases h6 : 16384 ≤ blockEnd s b
  · simp only [if_neg h5, if_pos h6]; rfl
  by_cases h7 : ∃ m ∈ s.armed, m ≠ b ∧ (BlocksCover s b m ∨ BlocksCover s m b)
  · simp only [if_neg h5, if_neg h6, if_pos h7]; rfl
  · simp only [if_neg h5, if_neg h6, if_neg h7]
    refine (if_neg (not_not.2 rfl)).trans (ite_first ((Bool.not_eq_true' _).to_iff.trans (groupOk_iff s b)) (by decide) ?_)
    cases budgetOk s (s.get F.BERTH_CTL_crane b) b <;> rfl

/-- The admission unit reads configuration, the armed berths and their programs alone. -/
theorem admCode_congr {s u : State} (b : Nat) (hget : ∀ f i, f.reg ≠ .BERTH_STAT → u.get f i = s.get f i) (harmed : u.armed = s.armed)
    (hbstore : ∀ k, u.bstoreOf k = s.bstoreOf k) : admCode u b = admCode s b := by
  have hbudget : ∀ c m, budgetOf u (s.get F.CR_SEP_sep c) m = budgetOf s (s.get F.CR_SEP_sep c) m := fun c m => by
    simp (disch := decide) only [budgetOf, berthProg, progWords, hget, hbstore]
  have hblock : ∀ m, berthBlock u m = berthBlock s m := fun m => by simp (disch := decide) only [berthBlock, berthNreg, hget]
  have hon : ∀ c, armedOn u c = armedOn s c := fun c => by simp (disch := decide) only [armedOn, hget, harmed]
  have hblocks : blockCode u b = blockCode s b := by
    simp (disch := decide) only [blockCode, berthBnds, berthNreg, State.getS, hblock, hget, harmed]
    rfl
  have hgroup : groupOk u b = groupOk s b := by
    simp (disch := decide) only [groupOk, groupMembers, State.is, hget, harmed]
    rfl
  have hfits : ∀ c, budgetOk u c b = budgetOk s c b := fun c => by
    simp (disch := decide) only [budgetOk, hget, hon, funext (hbudget c)]
  simp (disch := decide) only [admCode, berthProg, State.is, hget, hon, hblocks, hgroup, hfits]
  rfl

/-! ### The request that the unit decides (R90) -/

/-- The oldest request has left the queue. -/
def requestTaken (s : State) (b : Nat) (q : List Nat) : State := { s.put F.BERTH_STAT_admpend b 0 with admq := q }

theorem requestTaken_get (s : State) (b : Nat) (q : List Nat) {f : Fld} (i : Nat)
    (hf : f.reg = .BERTH_STAT → f.lo + f.w ≤ 17) : (requestTaken s b q).get f i = s.get f i :=
  show (s.put F.BERTH_STAT_admpend b 0).get f i = s.get f i from State.put_get_apart _ _ fun e => .inr (hf e)

theorem requestTaken_admpend (s : State) (b : Nat) (q : List Nat) : (requestTaken s b q).is F.BERTH_STAT_admpend b = false :=
  show (s.put F.BERTH_STAT_admpend b 0).is F.BERTH_STAT_admpend b = false from State.put_is_same _ _ _ _ (by decide)

theorem requestTaken_admCode (s : State) (b : Nat) (q : List Nat) : admCode (requestTaken s b q) b = admCode s b :=
  admCode_congr b (fun _ i hf => requestTaken_get s b q i (absurd · hf)) rfl fun _ => rfl

theorem requestTaken_keeps {cls inst c ch : Nat} {l : List RegName} (s : State) (b : Nat) (q : List Nat) :
    BerthKeeps cls inst b c ch l s (requestTaken s b q) := ((BerthKeeps.refl s).putBerth 0).setAdmq q

/-! ### A refusal (R90) -/

theorem berthRefuse_keeps {cls inst c ch : Nat} {l : List RegName} {u : State} (h : BerthKeeps cls inst b c ch l s u) (hl : .ENG_ADMERR ∈ l)
    (code : Nat) : BerthKeeps cls inst b c ch l s (berthRefuse u b code) :=
  ((h.flagBerth.put code (.adm 0 hl)).put b (.adm 0 hl)).berthFireIf _ _

theorem berthRefuse_get (code : Nat) {f : Fld} (i : Nat) (hs : f.reg = .BERTH_STAT → 17 ≤ f.lo)
    (he : f.reg ∉ [RegName.ENG_ADMERR, .VU_PEND, .VU_LOST]) : (berthRefuse s b code).get f i = s.get f i := by
  simp only [List.mem_cons, List.not_mem_nil, or_false, not_or] at he
  obtain ⟨hadm, hpend, hlost⟩ := he
  rw [berthRefuse, fireIf_get _ _ _ _ hpend hlost, State.put_get_apart _ _ (absurd · hadm), State.put_get_apart _ _ (absurd · hadm)]
  exact State.flag_get_apart _ fun e => .inl (hs e)

theorem berthRefuse_codes (s : State) (b code : Nat) : (berthRefuse s b code).is F.BERTH_STAT_refused b = true ∧
    (berthRefuse s b code).get F.ENG_ADMERR_code 0 = code % 2 ^ F.ENG_ADMERR_code.w ∧
    (berthRefuse s b code).get F.ENG_ADMERR_berth 0 = b % 1024 := by
  simp (disch := decide) only [berthRefuse, fireIf_get, fireIf_is, State.put_is_apart, State.put_get_apart, State.put_get_same, is_flag]
  exact ⟨trivial, trivial, rfl⟩

theorem berthRefuse_engine (s : State) (b code : Nat) : (berthRefuse s b code).armed = s.armed ∧ (berthRefuse s b code).admq = s.admq := by
  rw [berthRefuse]
  obtain ⟨harmed, hberth, hcrane, hadmq⟩ := fireIf_engine (((s.flag F.BERTH_STAT_refused b).put F.ENG_ADMERR_code 0 code).put F.ENG_ADMERR_berth 0 b)
    ((((s.flag F.BERTH_STAT_refused b).put F.ENG_ADMERR_code 0 code).put F.ENG_ADMERR_berth 0 b).is F.ENG_IEN_adm 0) 408
  exact ⟨harmed, hadmq⟩

/-- R90: the refusal's interrupt. -/
theorem berthRefuse_out (s : State) (b code : Nat) : (berthRefuse s b code).out = s.out ++ (if s.is F.ENG_IEN_adm 0 then [.irq 408] else []) := by
  simp (disch := decide) only [berthRefuse, fireIf_out, State.put_is_apart, State.flag_is_apart]
  rfl

/-! ### An arming (R90, R100) -/

/-- The armed berths, `b` among them, in the order of their numbers. -/
def armedWith (s : State) (b : Nat) : List Nat := s.armed.filter (fun x => decide (x < b)) ++ b :: s.armed.filter (fun x => decide (b < x))

theorem mem_armedWith {m : Nat} : m ∈ armedWith s b ↔ m = b ∨ m ∈ s.armed := by
  simp only [armedWith, List.mem_append, List.mem_cons, List.mem_filter, decide_eq_true_eq]
  constructor
  · rintro (h | h | h)
    exacts [.inr h.1, .inl h, .inr h.1]
  · rintro (h | h)
    · exact .inr (.inl h)
    · rcases lt_trichotomy m b with hm | hm | hm
      exacts [.inl ⟨h, hm⟩, .inr (.inl hm), .inr (.inr ⟨h, hm⟩)]

/-- R100: the region in which the berth begins. -/
def startRegion (s : State) (b : Nat) : Nat :=
  armRegion (berthNreg s b) (berthBnds s b) (s.bramOf (16 * b + s.get F.BERTH_GAIN_svar b))

theorem startRegion_eq (s : State) (b : Nat) : startRegion s b = ((List.range (s.get F.BERTH_GAIN_nregm1 b)).filter
    (fun i => decide (s.getS F.BERTH_BND_b (3 * b + i) ≤ s.bramOf (16 * b + s.get F.BERTH_GAIN_svar b)))).length := by
  have hn : s.get F.BERTH_GAIN_nregm1 b < 4 := Nat.mod_lt _ (by decide)
  have hbnds : berthBnds s b = (List.range 3).map (fun i => s.getS F.BERTH_BND_b (3 * b + i)) := by
    simp [berthBnds, List.range_succ, Nat.mul_comm]
  rw [startRegion, armRegion, hbnds, ← List.map_take, List.take_range, List.filter_map, List.length_map]
  rw [show min (berthNreg s b - 1) 3 = s.get F.BERTH_GAIN_nregm1 b from Nat.min_eq_left (Nat.le_of_lt_succ hn)]
  rfl

/-- R100: three boundaries give four regions. -/
theorem startRegion_lt (s : State) (b : Nat) : startRegion s b < 4 := by
  have hn : s.get F.BERTH_GAIN_nregm1 b < 4 := Nat.mod_lt _ (by decide)
  rw [startRegion_eq]
  exact (List.length_filter_le _ _).trans_lt (by rwa [List.length_range])

/-- The berth armed, before its region, its crane and its channel show it. -/
def armSet (s : State) (b : Nat) : State := State.hwPut { s with armed := armedWith s b } F.BERTH_CTL_arm b 1

theorem armSet_get (s : State) (b : Nat) {f : Fld} (i : Nat) (hf : f.reg = .BERTH_CTL → f.lo + f.w ≤ 17) :
    (armSet s b).get f i = s.get f i :=
  show (s.put F.BERTH_CTL_arm b 1).get f i = s.get f i from State.put_get_apart _ _ fun e => .inr (hf e)

theorem armSet_arm (s : State) (b : Nat) : (armSet s b).is F.BERTH_CTL_arm b = true :=
  show (s.put F.BERTH_CTL_arm b 1).is F.BERTH_CTL_arm b = true from State.put_is_same _ _ _ _ (by decide)

theorem armSet_startRegion (s : State) (b : Nat) : armRegion (berthNreg (armSet s b) b) (berthBnds (armSet s b) b)
    (s.bramOf (16 * b + s.get F.BERTH_GAIN_svar b)) = startRegion s b := by
  simp (disch := decide) only [startRegion, berthNreg, berthBnds, State.getS, armSet_get]

/-- The berth armed, in its region. -/
def regionSet (s : State) (b : Nat) : State := (armSet s b).put F.BERTH_STAT_region b (startRegion s b)

theorem regionSet_get (s : State) (b : Nat) {f : Fld} (i : Nat) (hctl : f.reg = .BERTH_CTL → f.lo + f.w ≤ 17)
    (hstat : f.reg = .BERTH_STAT → 12 ≤ f.lo) : (regionSet s b).get f i = s.get f i := by
  rw [regionSet, State.put_get_apart (f := F.BERTH_STAT_region) _ _ fun e => .inl (hstat e), armSet_get _ _ _ hctl]

theorem regionSet_arm (s : State) (b : Nat) : (regionSet s b).is F.BERTH_CTL_arm b = true := by
  simp (disch := decide) only [regionSet, State.put_is_apart, armSet_arm]

theorem regionSet_region (s : State) (b : Nat) : (regionSet s b).get F.BERTH_STAT_region b = startRegion s b := by
  rw [regionSet, State.put_get_same _ _ _ _ (by decide)]
  exact Nat.mod_eq_of_lt (startRegion_lt s b)

/-- The berth armed, before its crane and its channel show it. -/
def nowArmed (s : State) (b : Nat) : State := (regionSet s b).setBerth b { s.berthOf b with endOff := false }

theorem nowArmed_keeps {cls inst c ch : Nat} {l : List RegName} {u : State} (h : BerthKeeps cls inst b c ch l s u) :
    BerthKeeps cls inst b c ch l s (nowArmed u b) := (((h.setArmed _).hwPut 1 (.own (by decide))).putBerth _).setBerth _

/-- R90, R100, R159: an arming arms the berth, which its crane and its channel show. -/
theorem berthAdmit_eq (s : State) (b : Nat) : berthAdmit s b =
    retap s (showArmed (nowArmed s b) (s.get F.BERTH_CTL_crane b)) (s.get F.BERTH_TRG_num b) := by
  rw [← regionSet_get s b (f := F.BERTH_CTL_crane) b (by decide) (by decide), ← regionSet_get s b (f := F.BERTH_TRG_num) b (by decide) (by decide),
    nowArmed, regionSet, ← armSet_startRegion]
  rfl

theorem berthAdmit_keeps {cls inst c ch : Nat} {l : List RegName} {u : State} (h : BerthKeeps cls inst b c ch l s u)
    (hc : u.get F.BERTH_CTL_crane b = c) (hch : u.get F.BERTH_TRG_num b = ch) (hl : .CR_STAT ∈ l) (hl' : .EV_STAT ∈ l) :
    BerthKeeps cls inst b c ch l s (berthAdmit u b) := by
  rw [berthAdmit_eq, hc, hch]
  exact ((nowArmed_keeps h).put _ (.crane (by decide) hl)).berthRetap hl' u

theorem berthAdmit_get {f : Fld} (i : Nat) (hc : f.reg ≠ .CR_STAT) (he : f.reg ≠ .EV_STAT) :
    (berthAdmit s b).get f i = (regionSet s b).get f i := by
  rw [berthAdmit_eq, retap_get _ _ _ _ he, showArmed, State.put_get_apart (f := F.CR_STAT_narmed) _ _ (absurd · hc)]
  rfl

theorem berthAdmit_engine (s : State) (b : Nat) : (berthAdmit s b).armed = armedWith s b ∧ (berthAdmit s b).admq = s.admq := by
  rw [berthAdmit_eq]
  obtain ⟨harmed, hberth, hcrane, hrounds, hadmq⟩ := retap_engine s (showArmed (nowArmed s b) (s.get F.BERTH_CTL_crane b)) (s.get F.BERTH_TRG_num b)
  exact ⟨harmed, hadmq⟩

end

/-! ### The decision -/

section
variable {t b : Nat} {q : List Nat} {s : State}

/-- The admission unit decides the oldest request. -/
theorem does_of_admission {P : State → Prop} (hq : s.admq = b :: q) (hrung : s.rung < 3)
    (hP : P (if admCode s b = 0 then berthAdmit (requestTaken (s.tick t) b q) b else berthRefuse (requestTaken (s.tick t) b q) b (admCode s b))) :
    Does (.admissionDecision t) s P := by
  have hq' : (s.tick t).admq = b :: q := hq
  have hcond : (timerOn (s.tick t) && !(s.tick t).admq.isEmpty) = true := by
    rw [hq', timerOn, show (s.tick t).rung = s.rung from rfl, decide_eq_true hrung]
    rfl
  refine does_of_event (show execAdmissionDecision t s = _ from rfl) hcond ?_
  have hcode : admCode (requestTaken (s.tick t) b q) b = admCode s b :=
    (requestTaken_admCode _ b q).trans (admCode_congr b (fun _ _ _ => rfl) rfl fun _ => rfl)
  rw [← hcode] at hP
  rw [hq']
  exact hP

/-- R90: a refused request. -/
theorem admission_refused (hq : s.admq = b :: q) (hrung : s.rung < 3) {code : Nat} (hcode : admCode s b = code) (hpos : code ≠ 0)
    (hlt : code < 16) :
    Does (.admissionDecision t) s (fun s' => BerthFrame t b [.ENG_ADMERR] s s' ∧ s'.admq = q ∧ s'.armed = s.armed ∧
      s'.is F.BERTH_STAT_admpend b = false ∧ s'.is F.BERTH_STAT_refused b = true ∧ s'.get F.ENG_ADMERR_code 0 = code ∧
      s'.get F.ENG_ADMERR_berth 0 = b % 1024 ∧ (Out.irq 408 ∈ s'.out ↔ s.is F.ENG_IEN_adm 0 = true) ∧
      s'.get F.BERTH_CTL_arm b = s.get F.BERTH_CTL_arm b) := by
  refine does_of_admission hq hrung ?_
  rw [hcode, if_neg hpos]
  have hkeep : BerthKeeps (5 + b / 128) (b % 128) b 0 0 [.ENG_ADMERR] (s.tick t) (berthRefuse (requestTaken (s.tick t) b q) b code) :=
    berthRefuse_keeps (requestTaken_keeps _ b q) (.head _) code
  obtain ⟨harmed, hadmq⟩ := berthRefuse_engine (requestTaken (s.tick t) b q) b code
  obtain ⟨hrefused, herr, hwho⟩ := berthRefuse_codes (requestTaken (s.tick t) b q) b code
  have hien : (requestTaken (s.tick t) b q).is F.ENG_IEN_adm 0 = s.is F.ENG_IEN_adm 0 :=
    congrArg (· == 1) (requestTaken_get (s.tick t) b q (f := F.ENG_IEN_adm) 0 (by decide))
  refine ⟨hkeep.berthFrame (.inl rfl), hadmq, harmed, ?_, hrefused, herr.trans (Nat.mod_eq_of_lt hlt), hwho, ?_, ?_⟩
  · exact (congrArg (· == 1) (berthRefuse_get code b (by decide) (by decide))).trans (requestTaken_admpend ..)
  · rw [berthRefuse_out, hien, show (requestTaken (s.tick t) b q).out = [] from rfl]
    cases s.is F.ENG_IEN_adm 0 <;> simp
  · exact (berthRefuse_get code b (by decide) (by decide)).trans (requestTaken_get _ b q b (by decide))

/-- R90, R100: an accepted request. -/
theorem admission_accepted (hq : s.admq = b :: q) (hrung : s.rung < 3) (hcode : admCode s b = 0) :
    Does (.admissionDecision t) s (fun s' => BerthFrame t b [.CR_STAT, .EV_STAT] s s' ∧ OthersKept .CR_STAT (s.get F.BERTH_CTL_crane b) s s' ∧
      OthersKept .EV_STAT (s.get F.BERTH_TRG_num b) s s' ∧ s'.admq = q ∧
      (∀ m, m ∈ s'.armed ↔ m = b ∨ m ∈ s.armed) ∧ s'.is F.BERTH_STAT_admpend b = false ∧ s'.is F.BERTH_CTL_arm b = true ∧
      s'.is F.BERTH_STAT_refused b = s.is F.BERTH_STAT_refused b ∧
      s'.get F.BERTH_STAT_region b = (((List.range (s.get F.BERTH_GAIN_nregm1 b)).filter
        (fun i => decide (s.getS F.BERTH_BND_b (3 * b + i) ≤ s.bramOf (16 * b + s.get F.BERTH_GAIN_svar b)))).length)) := by
  refine does_of_admission hq hrung ?_
  rw [if_pos hcode]
  have hget : ∀ f : Fld, f.reg ≠ .BERTH_STAT → ∀ i, (requestTaken (s.tick t) b q).get f i = s.get f i :=
    fun f hf i => requestTaken_get _ b q i (absurd · hf)
  have hkeep : BerthKeeps (5 + b / 128) (b % 128) b (s.get F.BERTH_CTL_crane b) (s.get F.BERTH_TRG_num b) [.CR_STAT, .EV_STAT] (s.tick t)
      (berthAdmit (requestTaken (s.tick t) b q) b) :=
    berthAdmit_keeps (requestTaken_keeps _ b q) (hget _ (by decide) b) (hget _ (by decide) b) (by decide) (by decide)
  obtain ⟨harmed, hadmq⟩ := berthAdmit_engine (requestTaken (s.tick t) b q) b
  have hstat : ∀ f : Fld, f.reg = .BERTH_STAT → 12 ≤ f.lo → (berthAdmit (requestTaken (s.tick t) b q) b).is f b =
      (requestTaken (s.tick t) b q).is f b := fun f hf hlo => congrArg (· == 1)
    ((berthAdmit_get b (by rw [hf]; decide) (by rw [hf]; decide)).trans (regionSet_get _ b b (fun e => absurd (hf.symm.trans e) (by decide)) fun _ => hlo))
  refine ⟨hkeep.berthFrame (.inl rfl), hkeep.othersCrane (by decide), hkeep.othersTaps, hadmq, fun m => ?_, ?_, ?_, ?_, ?_⟩
  · rw [harmed]; exact mem_armedWith
  · exact (hstat _ rfl (by decide)).trans (requestTaken_admpend ..)
  · exact (congrArg (· == 1) (berthAdmit_get b (by decide) (by decide))).trans (regionSet_arm ..)
  · exact (hstat _ rfl (by decide)).trans (congrArg (· == 1) (requestTaken_get (s.tick t) b q (f := F.BERTH_STAT_refused) b (by decide)))
  · rw [berthAdmit_get b (by decide) (by decide), regionSet_region, startRegion_eq]
    simp only [State.getS, hget _ (show F.BERTH_GAIN_nregm1.reg ≠ _ by decide), hget _ (show F.BERTH_BND_b.reg ≠ _ by decide), hget _ (show F.BERTH_GAIN_svar.reg ≠ _ by decide)]
    rfl

/-- R91: every reason before the budget check has a code below 9. -/
theorem admFirst_le (s : State) (b : Nat) : admFirst s b ≤ 8 := by
  unfold admFirst
  split_ifs <;> omega

/-- R93: where no earlier reason applies, the crane has fewer than 128 armed berths. -/
theorem armedOn_lt_of_admFirst (h : admFirst s b = 0) : (armedOn s (s.get F.BERTH_CTL_crane b)).length < 128 := by
  by_contra hlen
  have h4 : 128 ≤ (armedOn s (s.get F.BERTH_CTL_crane b)).length := not_lt.1 hlen
  unfold admFirst at h
  rw [if_pos h4] at h
  split_ifs at h

end

end Sys2Proof.Machine
end

section
/-! PROOFS. ENG_CTL.en, the utilisation windows, and the statement on arming and control (04_loop_engine.md, R79, R84, R88 to R93). -/

namespace Sys2Proof.Machine

/-! ### What a discarded run leaves of the berths and the cranes (R84) -/

section
variable {s : State} {b : Nat}

theorem BerthS.eq_of_unmarked {h h' : BerthS} (e : h'.unmarked = h.unmarked) (hp : h.pend = none) : h' = h := by
  obtain ⟨pend', _⟩ := h'
  obtain ⟨pend, _⟩ := h
  simp only [BerthS.unmarked, BerthS.mk.injEq] at e hp ⊢
  obtain ⟨hpend, hrest⟩ := e
  rw [hp, Option.map_none, Option.map_eq_none_iff] at hpend
  exact ⟨hpend.trans hp.symm, hrest⟩

theorem BerthS.unmarked_pend {h h' : BerthS} (e : h'.unmarked = h.unmarked) : h'.pend.isSome = h.pend.isSome := by
  have hpend := congrArg (fun x => x.pend.isSome) e
  simpa only [BerthS.unmarked, Option.isSome_map] using hpend

/-- Without its pending run a berth shows no mark. -/
theorem BerthS.noPend_eq {h h' : BerthS} (e : h'.unmarked = h.unmarked) : { h' with pend := none } = { h with pend := none } :=
  congrArg (fun x : BerthS => { x with pend := none }) e

theorem berthDiscard_self (s : State) (b : Nat) : (berthDiscard s b).berthOf b = { s.berthOf b with pend := none } := by
  cases h : (s.berthOf b).pend with
  | none => rw [berthDiscard_none h, ← h]
  | some p =>
    have hnone : (noPend s b).berthOf b = { s.berthOf b with pend := none } := State.setBerth_berthOf ..
    rw [← hnone]
    exact BerthS.eq_of_unmarked ((berthDiscard_marks h).1.berth b) (congrArg BerthS.pend hnone)

theorem berthDiscard_other {m : Nat} (hm : m ≠ b) : ((berthDiscard s b).berthOf m).unmarked = (s.berthOf m).unmarked := by
  cases h : (s.berthOf b).pend with
  | none => rw [berthDiscard_none h]
  | some p =>
    have hother : (noPend s b).berthOf m = s.berthOf m := State.setBerth_berthOf_ne _ _ hm
    rw [← hother]
    exact (berthDiscard_marks h).1.berth m

theorem berthDiscard_apart {m : Nat} (hm : m ≠ b) (harmed : m ∉ s.armed) : (berthDiscard s b).berthOf m = s.berthOf m := by
  cases h : (s.berthOf b).pend with
  | none => rw [berthDiscard_none h]
  | some p =>
    have hother : (noPend s b).berthOf m = s.berthOf m := State.setBerth_berthOf_ne _ _ hm
    rw [← hother]
    exact (berthDiscard_marks h).1.apart m harmed

theorem berthDiscard_crane (s : State) (b c : Nat) : ((berthDiscard s b).craneOf c).unmarked = (s.craneOf c).unmarked := by
  cases h : (s.berthOf b).pend with
  | none => rw [berthDiscard_none h]
  | some p => exact (berthDiscard_marks h).1.crane c

end

/-! ### The pending runs of the armed berths are discarded (R84) -/

/-- From `s` to `u` the pending runs of the armed berths in `l` have been discarded, without any other effect but marks of lost rounds. -/
structure Discards (s u : State) (l : List Nat) : Prop where
  frame : u = { s with regs := u.regs, berth := u.berth, crane := u.crane, rounds := u.rounds }
  reg : ∀ r i, r ≠ .BERTH_STAT → u.reg r i = s.reg r i
  ready : ∀ m ∈ l, (s.berthOf m).pend.isSome = true → u.is F.BERTH_STAT_ready m = false
  crane : ∀ c, (u.craneOf c).unmarked = (s.craneOf c).unmarked
  gone : ∀ m ∈ l, u.berthOf m = { s.berthOf m with pend := none }
  kept : ∀ m, m ∉ l → (u.berthOf m).unmarked = (s.berthOf m).unmarked
  apart : ∀ m, m ∉ s.armed → u.berthOf m = s.berthOf m

section
variable {s u : State} {l : List Nat}

theorem Discards.refl (s : State) : Discards s s [] :=
  ⟨rfl, fun _ _ _ => rfl, fun _ h => (nomatch h), fun _ => rfl, fun _ h => (nomatch h), fun _ _ => rfl, fun _ _ => rfl⟩

theorem berthDiscard_ready_other (s : State) (b : Nat) {m : Nat} (hm : m ≠ b) :
    (berthDiscard s b).is F.BERTH_STAT_ready m = s.is F.BERTH_STAT_ready m := by
  have hput : (s.put F.BERTH_STAT_ready b 0).reg .BERTH_STAT m = s.reg .BERTH_STAT m := State.put_reg_ne s 0 fun e => hm e.2
  have hreg : (berthDiscard s b).reg .BERTH_STAT m = s.reg .BERTH_STAT m := by
    rw [State.reg, berthDiscard_regs]
    split
    · exact hput
    · rfl
  rw [State.is, State.get, hreg]
  rfl

theorem berthDiscard_ready_self {b : Nat} (h : (s.berthOf b).pend.isSome = true) : (berthDiscard s b).is F.BERTH_STAT_ready b = false := by
  have hput : (s.put F.BERTH_STAT_ready b 0).is F.BERTH_STAT_ready b = false := State.put_is_same s F.BERTH_STAT_ready b 0 (by decide)
  rw [State.is, State.get, State.reg, berthDiscard_regs, if_pos h]
  exact hput

theorem Discards.step (h : Discards s u l) {b : Nat} (hb : b ∈ s.armed) : Discards s (berthDiscard u b) (l ++ [b]) := by
  have harmed : u.armed = s.armed := by rw [h.frame]
  have hmem : ∀ {m}, m ∈ l ++ [b] → m ≠ b → m ∈ l := fun hm hne => (List.mem_append.1 hm).resolve_right fun e => hne (List.mem_singleton.1 e)
  refine ⟨?_, fun r i hr => (berthDiscard_reg u b i hr).trans (h.reg r i hr), fun m hm hp => ?_, fun c => (berthDiscard_crane u b c).trans (h.crane c),
    fun m hm => ?_, fun m hm => ?_, fun m hm => ?_⟩
  · rw [berthDiscard_frame, h.frame]
  · by_cases hmb : m = b
    · rw [hmb] at hp ⊢
      by_cases hbl : b ∈ l
      · rw [berthDiscard_none (congrArg BerthS.pend (h.gone b hbl))]
        exact h.ready b hbl hp
      · exact berthDiscard_ready_self ((BerthS.unmarked_pend (h.kept b hbl)).trans hp)
    · rw [berthDiscard_ready_other u b hmb]
      exact h.ready m (hmem hm hmb) hp
  · by_cases hmb : m = b
    · rw [hmb, berthDiscard_self]
      by_cases hbl : b ∈ l
      · rw [h.gone b hbl]
      · exact BerthS.noPend_eq (h.kept b hbl)
    · have hml := hmem hm hmb
      have hgone := h.gone m hml
      rw [← hgone]
      exact BerthS.eq_of_unmarked (berthDiscard_other hmb) (congrArg BerthS.pend hgone)
  · rw [List.mem_append, List.mem_singleton, not_or] at hm
    exact (berthDiscard_other hm.2).trans (h.kept m hm.1)
  · have hmb : m ≠ b := fun e => hm (e ▸ hb)
    exact (berthDiscard_apart hmb (harmed ▸ hm)).trans (h.apart m hm)

theorem Discards.foldl {l' : List Nat} (h : Discards s u l) (hl : ∀ m ∈ l', m ∈ s.armed) : Discards s (l'.foldl berthDiscard u) (l ++ l') := by
  induction l' generalizing l u with
  | nil => rwa [List.append_nil]
  | cons m l' ih =>
    have hstep := ih (h.step (hl m (.head _))) fun k hk => hl k (.tail _ hk)
    rwa [List.append_assoc] at hstep

/-- R84: every pending run of an armed berth goes. -/
theorem discards_armed (s : State) : Discards s (s.armed.foldl berthDiscard s) s.armed := (Discards.refl s).foldl fun _ h => h

end

/-! ### ENG_CTL.en (R79, R84) -/

section
variable {t : Nat} {v : Word} {s : State}

/-- R79: the engine enabled. -/
theorem engineEnable_does (hv : v.getLsbD 17 = true) : Does (.engineEnable t v) s (fun s' => s'.is F.ENG_CTL_en 0 = true ∧
    s' = { s with now := max s.now t, out := [], regs := s'.regs } ∧ RegsKept [.ENG_CTL] s s') := by
  have hof : F.ENG_CTL_en.of v.toNat = 1 := by rw [Fld.of_bit rfl, show F.ENG_CTL_en.lo = 17 from rfl, hv]; rfl
  have hnew : engCtlWrite (s.tick t) v.toNat = (s.tick t).put F.ENG_CTL_en 0 1 := by rw [engCtlWrite, hof]; rfl
  refine does_of_event (show execEngineEnable t v s = _ from rfl) (by rw [hof]; rfl) ?_
  rw [hnew]
  exact ⟨State.put_is_same _ _ _ _ (by decide), rfl, fun r i hr => ⟨State.put_reg_of_ne _ _ _ _ fun e => hr (e ▸ .head _), rfl⟩⟩

/-- R84: the engine disabled. -/
theorem engineDisable_does (hv : v.getLsbD 17 = false) : Does (.engineDisable t v) s (fun s' => s'.is F.ENG_CTL_en 0 = false ∧
    s' = { s with now := max s.now t, out := [], regs := s'.regs, berth := s'.berth, crane := s'.crane, rounds := s'.rounds } ∧
    RegsKept [.ENG_CTL, .BERTH_STAT] s s' ∧
    (∀ d, ∃ vo, s'.craneOf d = { s.craneOf d with run := (s.craneOf d).run.map (fun r => { r with voided := vo }) }) ∧
    (∀ b ∈ s.armed, (s.berthOf b).pend.isSome = true → s'.is F.BERTH_STAT_ready b = false) ∧
    ∀ b, (b ∈ s.armed → s'.berthOf b = { s.berthOf b with pend := none }) ∧ (b ∉ s.armed → s'.berthOf b = s.berthOf b) ∧
      s'.is F.BERTH_CTL_arm b = s.is F.BERTH_CTL_arm b) := by
  have hof : F.ENG_CTL_en.of v.toNat = 0 := by rw [Fld.of_bit rfl, show F.ENG_CTL_en.lo = 17 from rfl, hv]; rfl
  have hnew : engCtlWrite (s.tick t) v.toNat = s.armed.foldl berthDiscard ((s.tick t).put F.ENG_CTL_en 0 0) := by rw [engCtlWrite, hof]; rfl
  refine does_of_event (show execEngineDisable t v s = _ from rfl) (by rw [hof]; rfl) ?_
  rw [hnew]
  have h : Discards ((s.tick t).put F.ENG_CTL_en 0 0) (s.armed.foldl berthDiscard ((s.tick t).put F.ENG_CTL_en 0 0)) s.armed := discards_armed _
  have his : ∀ f : Fld, f.reg ≠ .BERTH_STAT → ∀ i, (s.armed.foldl berthDiscard ((s.tick t).put F.ENG_CTL_en 0 0)).is f i =
      ((s.tick t).put F.ENG_CTL_en 0 0).is f i := fun f hf i => by rw [State.is, State.get, h.reg _ _ hf]; rfl
  have hput : ∀ r i, r ≠ RegName.ENG_CTL → ((s.tick t).put F.ENG_CTL_en 0 0).reg r i = s.reg r i := fun r i hr => State.put_reg_of_ne _ _ _ _ hr
  refine ⟨(his _ (by decide) 0).trans (State.put_is_same _ _ _ _ (by decide)), h.frame, fun r i hr => ⟨?_, ?_⟩, fun d => CraneS.eq_of_unmarked (h.crane d),
    h.ready, fun b => ⟨h.gone b, h.apart b, (his _ (by decide) b).trans (State.put_is_apart _ _ (by decide))⟩⟩
  · simp only [List.mem_cons, List.not_mem_nil, or_false, not_or] at hr
    exact (h.reg r i hr.2).trans (hput r i hr.1)
  · rw [State.hwOf, h.frame]
    rfl

end

/-! ### The utilisation windows (R88) -/

/-- R88: CR_UTIL takes the busy cycles of the latest completed window. -/
theorem utilisationWindow_does {t : Nat} {c : Fin 8} {s : State} (hrung : s.rung < 3)
    (hpub : (s.craneOf c).pub < (s.craneOf c).windows (max s.now t))
    (hbusy : (s.craneOf c).busyIn ((s.craneOf c).windows (max s.now t) - 1) ≤ 10000) :
    Does (.utilisationWindow t c) s (fun s' =>
      s'.get F.CR_UTIL_busy c = (s.craneOf c).busyIn ((s.craneOf c).windows (max s.now t) - 1) ∧
      s' = { s with now := max s.now t, out := [], regs := s'.regs, crane := s'.crane } ∧ RegsKept [.CR_UTIL] s s' ∧
      OthersKept .CR_UTIL c s s' ∧ s'.craneOf c = { s.craneOf c with
        pub := (s.craneOf c).windows (max s.now t), win := (s.craneOf c).windows (max s.now t),
        busy := (s.craneOf c).busyIn ((s.craneOf c).windows (max s.now t)), busyNext := (s.craneOf c).busyIn ((s.craneOf c).windows (max s.now t) + 1) } ∧
      ∀ d, d ≠ c.val → s'.craneOf d = s.craneOf d) := by
  have hcond : (timerOn (s.tick t) && decide (((s.tick t).craneOf c).pub < ((s.tick t).craneOf c).windows (s.tick t).now)) = true :=
    Bool.and_eq_true_iff.2 ⟨decide_eq_true hrung, decide_eq_true hpub⟩
  refine does_of_event (show execUtilisationWindow t c s = _ from rfl) hcond ⟨?_, rfl, fun r i hr => ⟨?_, rfl⟩, fun i hi => ⟨?_, rfl⟩,
    State.setCrane_craneOf .., fun d hd => State.setCrane_craneOf_ne _ _ hd⟩
  · have hget := (s.tick t).put_get_same F.CR_UTIL_busy c ((s.craneOf c).busyIn ((s.craneOf c).windows (max s.now t) - 1)) (by decide)
    exact hget.trans (Nat.mod_eq_of_lt (lt_of_le_of_lt hbusy (by decide)))
  · exact State.put_reg_of_ne (f := F.CR_UTIL_busy) _ _ _ _ fun e => hr (e ▸ .head _)
  · exact State.put_reg_ne (f := F.CR_UTIL_busy) _ _ fun e => hi e.2

/-! ### The statements -/

theorem engineControlRules : EngineControlRules :=
  ⟨fun _ _ _ => engineEnable_does, fun _ _ _ => engineDisable_does, fun _ _ _ hrung hpub hbusy => utilisationWindow_does hrung hpub hbusy⟩

theorem berthRuns_false {s : State} {b : Nat} (h : ∀ r, (s.craneOf (s.get F.BERTH_CTL_crane b)).run = some r → r.berth ≠ b) :
    berthRuns s b = false := by
  unfold berthRuns
  split
  · next r hr => exact beq_eq_false_iff_ne.2 (h r hr)
  · rfl

theorem berthRuns_true {s : State} {b : Nat} {r : Run} (hr : (s.craneOf (s.get F.BERTH_CTL_crane b)).run = some r) (hb : r.berth = b) :
    berthRuns s b = true := by
  rw [berthRuns, hr]
  exact beq_iff_eq.2 hb

theorem changesCfg_eq (s : State) (b v : Nat) : changesCfg s b v = decide (¬ (F.BERTH_CTL_pri.of v = s.get F.BERTH_CTL_pri b ∧
    F.BERTH_CTL_crane.of v = s.get F.BERTH_CTL_crane b ∧ F.BERTH_CTL_cset.of v = s.get F.BERTH_CTL_cset b)) := by
  rw [Bool.eq_iff_iff, decide_eq_true_eq, changesCfg]
  simp only [Bool.or_eq_true, bne_iff_ne, not_and_or, or_assoc]

theorem berthArmingRules : BerthArmingRules := by
  refine ⟨fun t b v s => berthArmRequest_does, fun t b q s hq hrung => ?_, fun t b v s hv hidle harm harmed => ?_⟩
  · have hcode := admCode_eq s b
    refine ⟨fun hfirst => ?_, fun hfirst hbudget => ?_, fun hfirst hbudget => ?_⟩
    · exact admission_refused hq hrung (hcode.trans (if_neg hfirst)) hfirst (lt_of_le_of_lt (admFirst_le s b) (by decide))
    · have hno : ¬ budgetOk s (s.get F.BERTH_CTL_crane b) b = true := mt (budgetOk_iff_rule (armedOn_lt_of_admFirst hfirst)).1 hbudget
      exact admission_refused hq hrung (hcode.trans ((if_pos hfirst).trans (if_neg hno))) (by decide) (by decide)
    · have hyes := (budgetOk_iff_rule (armedOn_lt_of_admFirst hfirst)).2 hbudget
      exact admission_accepted hq hrung (hcode.trans ((if_pos hfirst).trans (if_pos hyes)))
  · refine ⟨fun hrun => berthDisarm_does hv hidle harm harmed (berthRuns_false hrun), fun r hr hb => ?_⟩
    have h := berthDisarm_waits hv hidle harm harmed (berthRuns_true hr hb)
    rw [changesCfg_eq] at h
    exact h

end Sys2Proof.Machine

namespace Sys2Proof.Settled

open Sys2Proof.Machine

/-- Settles O28: each write of BERTH_CTL and each decision of the admission unit is one equation of the model; the code of a refusal is the first
reason of R91, and the loop of R93 ends at the greatest exempt set. -/
theorem berthArmingAndEngineControl : Obligations.BerthArmingAndEngineControl := ⟨berthArmingRules, engineControlRules⟩

end Sys2Proof.Settled
end

section
/-! PROOFS. What a record of the run logs and the skip of a pending run leave of the engine (12_memory_locks_tides.md, R280; 04_loop_engine.md,
R31, R81, R83, R104, R105). -/

namespace Sys2Proof.Machine

/-! ### The run logs (R280) -/

/-- What a record of a run log does not touch beside registers. -/
def logView (s : State) : State := { s with out := [], regs := [], hw := [], srcAt := [], vsrc := [], sram := [], logAt := [] }

abbrev logRegs : List RegName := [.BANK_LOG, .MEM_ECCADR, .VU_PEND, .VU_LOST]

/-- From `s` to `s'` the run logs have taken records. -/
abbrev LogKeeps (s s' : State) : Prop := Keeps logView 0 0 (fun r _ => r ∈ logRegs) s s' ∧ s.out ⊆ s'.out

section
variable {s u : State}

theorem LogKeeps.refl (s : State) : LogKeeps s s := ⟨Keeps.refl (fun _ _ _ _ _ _ => rfl) s, fun _ h => h⟩

theorem fireIf_out_subset (s : State) (p : Bool) (k : Nat) : s.out ⊆ (s.fireIf p k).out := by
  rw [fireIf_out]
  exact List.subset_append_left ..

theorem LogKeeps.fireIf (h : LogKeeps s u) (p : Bool) (k : Nat) : LogKeeps s (u.fireIf p k) :=
  ⟨h.1.fireIf (fun _ => by decide) (fun _ => by decide) p k, List.Subset.trans h.2 (fireIf_out_subset u p k)⟩

theorem LogKeeps.put (h : LogKeeps s u) {f : Fld} (i v : Nat) (hf : f.reg ∈ logRegs) : LogKeeps s (u.put f i v) := ⟨h.1.put v hf, h.2⟩

theorem LogKeeps.flag (h : LogKeeps s u) {f : Fld} (i : Nat) (hf : f.reg ∈ logRegs) : LogKeeps s (u.flag f i) := ⟨h.1.flag hf, h.2⟩

theorem LogKeeps.sramOver (h : LogKeeps s u) (k : Nat) (w : BitVec 18) : LogKeeps s (sramOver u 0 0 k w false) := by
  have hcell : ∀ {x : State}, LogKeeps s x → LogKeeps s (sramPut x k w false) := fun hx => ⟨hx.1.hidden rfl rfl rfl rfl, hx.2⟩
  rw [Machine.sramOver]
  split
  · exact hcell ((((h.put 0 _ (by decide)).put 0 _ (by decide)).put 0 _ (by decide)).fireIf _ _)
  · exact hcell h

theorem LogKeeps.ite {p : Prop} [Decidable p] {v : State} (hu : LogKeeps s u) (hv : LogKeeps s v) : LogKeeps s (if p then u else v) := by
  split
  · exact hu
  · exact hv

/-- R280: a record writes the words of its log, and nothing of the engine. -/
theorem LogKeeps.runRecord (h : LogKeeps s u) (k c b : Nat) (skip : Bool) (x : Nat) : LogKeeps s (runRecord u k c b skip x) := by
  have hwrap : ∀ {p : Prop} [Decidable p] {v : State} (n : Nat), LogKeeps s v →
      LogKeeps s (if p then (v.put F.BANK_LOG_next k n).flag F.BANK_LOG_wrap k else v.put F.BANK_LOG_next k n) :=
    fun n hv => .ite ((hv.put k n (by decide)).flag k (by decide)) (hv.put k n (by decide))
  have hqueue : ∀ {v : State} (l : LogCycle), LogKeeps s v → LogKeeps s (v.setLogAt k l) := fun _ hv => ⟨hv.1.hidden rfl rfl rfl rfl, hv.2⟩
  have hlost : ∀ {p : Prop} [Decidable p], LogKeeps s (if p then memCause (u.flag F.BANK_LOG_lost k) 9 else u) :=
    .ite ((h.flag k (by decide)).fireIf _ _) h
  exact hwrap _ (List.foldlRecOn _ _ (hqueue _ hlost) fun _ hv _ _ => (hv.sramOver _ _).sramOver _ _)

theorem LogKeeps.runLog (s : State) (c b : Nat) (skip : Bool) (x : Nat) : LogKeeps s (runLog s c b skip x) :=
  List.foldlRecOn _ _ (.refl s) fun _ hv k _ => .ite (hv.runRecord k c b skip x) hv

/-- R280: no bank logs the runs of the crane. -/
theorem runLog_none {c : Nat} (b : Nat) (skip : Bool) (x : Nat)
    (h : ∀ k < 64, s.get F.BANK_OWN_kind k ≠ 1 ∨ (s.get F.BANK_OWN_id k).testBit c = false) : runLog s c b skip x = s := by
  refine List.foldlRecOn (motive := (· = s)) _ _ rfl fun u hu k hk => ?_
  have hno : ¬ (s.get F.BANK_OWN_kind k == 1 && (s.get F.BANK_OWN_id k).testBit c) = true := by
    rcases h k (List.mem_range.1 hk) with hkind | hbit
    · simp [hkind]
    · simp [hbit]
  rw [hu, if_neg hno]

end

end Sys2Proof.Machine
end

section
/-! PROOFS. What the skip of a pending run leaves of the engine (04_loop_engine.md, R31, R81, R83, R104, R105). -/

namespace Sys2Proof.Machine

theorem Marks.reg {s u : State} (h : Marks s u) (r : RegName) (i : Nat) : u.reg r i = s.reg r i := by
  rw [h.frame]
  rfl

/-! ### What the engine keeps as its berths become ready or are skipped -/

/-- What the steps of runs do not touch beside registers: the device without the engine's berths, cranes and rounds, and without the run logs. -/
def engView (s : State) : State :=
  { s with out := [], regs := [], hw := [], srcAt := [], vsrc := [], sram := [], logAt := [], berth := [], crane := [], rounds := [] }

/-- The registers that a skip or a trigger may write. -/
abbrev engRegs : List RegName := [.BERTH_STAT, .BERTH_OVR, .CR_STAT, .CR_SEPB, .CG_STAT, .BANK_LOG, .MEM_ECCADR, .VU_PEND, .VU_LOST]

/-- The field shares no bit with those of `fs`. -/
abbrev ApartFrom (fs : List Fld) (f : Fld) : Prop := ∀ g ∈ fs, g.reg = f.reg → f.lo + f.w ≤ g.lo ∨ g.lo + g.w ≤ f.lo

/-- From `s` to `s'` registers of `engRegs` have been written, but not the fields `fs`, outputs have been added, and of every crane `v` is as it
was. -/
structure EngKeeps {α : Type} (fs : List Fld) (v : CraneS → α) (s s' : State) : Prop where
  view : engView s' = engView s
  reg : ∀ r i, r ∉ engRegs → s'.reg r i = s.reg r i
  shown : ∀ f ∈ fs, ∀ i, s'.get f i = s.get f i
  out : s.out ⊆ s'.out
  crane : ∀ c, v (s'.craneOf c) = v (s.craneOf c)

section
variable {α : Type} {fs : List Fld} {v : CraneS → α} {s u w : State}

theorem EngKeeps.refl (s : State) : EngKeeps fs v s s := ⟨rfl, fun _ _ _ => rfl, fun _ _ _ => rfl, fun _ h => h, fun _ => rfl⟩

theorem EngKeeps.trans (h : EngKeeps fs v s u) (g : EngKeeps fs v u w) : EngKeeps fs v s w where
  view := g.view.trans h.view
  reg r i hr := (g.reg r i hr).trans (h.reg r i hr)
  shown f hf i := (g.shown f hf i).trans (h.shown f hf i)
  out := List.Subset.trans h.out g.out
  crane c := (g.crane c).trans (h.crane c)

/-- Fewer fields, and less of the cranes. -/
theorem EngKeeps.fields {fs' : List Fld} (h : EngKeeps fs v s u) (hf : fs' ⊆ fs) : EngKeeps fs' v s u :=
  ⟨h.view, h.reg, fun f hm => h.shown f (hf hm), h.out, h.crane⟩

theorem EngKeeps.weaken {β : Type} {v' : CraneS → β} (h : EngKeeps fs v s u) (hv : ∀ x y, v x = v y → v' x = v' y) : EngKeeps fs v' s u :=
  ⟨h.view, h.reg, h.shown, h.out, fun c => hv _ _ (h.crane c)⟩

theorem EngKeeps.armed (h : EngKeeps fs v s u) : u.armed = s.armed :=
  show (engView u).armed = (engView s).armed from congrArg State.armed h.view
theorem EngKeeps.bram (h : EngKeeps fs v s u) : u.bram = s.bram :=
  show (engView u).bram = (engView s).bram from congrArg State.bram h.view
theorem EngKeeps.bstore (h : EngKeeps fs v s u) : u.bstore = s.bstore :=
  show (engView u).bstore = (engView s).bstore from congrArg State.bstore h.view
theorem EngKeeps.rung (h : EngKeeps fs v s u) : u.rung = s.rung :=
  show (engView u).rung = (engView s).rung from congrArg State.rung h.view

theorem EngKeeps.get (h : EngKeeps fs v s u) {f : Fld} (i : Nat) (hf : f.reg ∉ engRegs) : u.get f i = s.get f i := by
  rw [State.get, h.reg _ _ hf, State.get]

theorem EngKeeps.is (h : EngKeeps fs v s u) {f : Fld} (i : Nat) (hf : f.reg ∉ engRegs) : u.is f i = s.is f i := congrArg (· == 1) (h.get i hf)

theorem EngKeeps.shows (h : EngKeeps fs v s u) {f : Fld} (i : Nat) (hf : f ∈ fs) : u.is f i = s.is f i := congrArg (· == 1) (h.shown f hf i)

theorem EngKeeps.put (h : EngKeeps fs v s u) {f : Fld} (i x : Nat) (hr : f.reg ∈ engRegs) (hf : ApartFrom fs f) : EngKeeps fs v s (u.put f i x) :=
  h.trans ⟨rfl, fun _ _ hn => State.put_reg_of_ne _ _ _ _ fun e => hn (e ▸ hr), fun g hg _ => State.put_get_apart _ _ (hf g hg), fun _ ho => ho,
    fun _ => rfl⟩

theorem EngKeeps.flag (h : EngKeeps fs v s u) {f : Fld} (i : Nat) (hr : f.reg ∈ engRegs) (hf : ApartFrom fs f) : EngKeeps fs v s (u.flag f i) :=
  (h.put i 1 hr hf).trans ⟨rfl, fun _ _ _ => rfl, fun _ _ _ => rfl, fun _ ho => ho, fun _ => rfl⟩

theorem EngKeeps.incSat (h : EngKeeps fs v s u) {f : Fld} (i : Nat) (hr : f.reg ∈ engRegs) (hf : ApartFrom fs f) :
    EngKeeps fs v s (u.incSat f i) :=
  (h.put i _ hr hf).trans ⟨rfl, fun _ _ _ => rfl, fun _ _ _ => rfl, fun _ ho => ho, fun _ => rfl⟩

theorem EngKeeps.raiseAt (h : EngKeeps fs v s u) (cls inst ev : Nat) (x : Int) : EngKeeps fs v s (u.raiseAt cls inst ev x) :=
  h.trans ⟨rfl, fun _ _ _ => rfl, fun _ _ _ => rfl, List.subset_append_left .., fun _ => rfl⟩

theorem EngKeeps.setBerth (h : EngKeeps fs v s u) (b : Nat) (x : BerthS) : EngKeeps fs v s (u.setBerth b x) :=
  h.trans ⟨rfl, fun _ _ _ => rfl, fun _ _ _ => rfl, fun _ ho => ho, fun _ => rfl⟩

theorem EngKeeps.setRounds (h : EngKeeps fs v s u) (g : Nat) (x : List Offer) : EngKeeps fs v s (u.setRounds g x) :=
  h.trans ⟨rfl, fun _ _ _ => rfl, fun _ _ _ => rfl, fun _ ho => ho, fun _ => rfl⟩

theorem EngKeeps.setCrane (h : EngKeeps fs v s u) (c : Nat) (x : CraneS) (hx : v x = v (u.craneOf c)) : EngKeeps fs v s (u.setCrane c x) := by
  refine h.trans ⟨rfl, fun _ _ _ => rfl, fun _ _ _ => rfl, fun _ ho => ho, fun d => ?_⟩
  by_cases hd : d = c
  · rw [hd, State.setCrane_craneOf, hx]
  · rw [State.setCrane_craneOf_ne _ _ hd]

theorem EngKeeps.fireIf (h : EngKeeps fs v s u) (p : Bool) (k : Nat) (hf : ∀ f ∈ fs, f.reg ≠ .VU_PEND ∧ f.reg ≠ .VU_LOST) :
    EngKeeps fs v s (u.fireIf p k) := by
  have hkeep : Keeps (fun s => (engView s, s.crane)) 0 0 (fun r _ => r ∈ engRegs) u (u.fireIf p k) :=
    (Keeps.refl (fun _ _ _ _ _ _ => rfl) u).fireIf (fun _ => by decide) (fun _ => by decide) p k
  exact h.trans ⟨congrArg Prod.fst hkeep.view, fun r i hr => (hkeep.reg r i hr).1, fun f hm i => fireIf_get u p k i (hf f hm).1 (hf f hm).2,
    fireIf_out_subset u p k, fun c => congrArg (fun x => v (Store.get _ x c)) (congrArg Prod.snd hkeep.view)⟩

theorem EngKeeps.logs (h : EngKeeps fs v s u) (hl : LogKeeps u w) (hf : ∀ f ∈ fs, f.reg ∉ logRegs) : EngKeeps fs v s w :=
  h.trans ⟨show engView (logView w) = engView (logView u) from congrArg engView hl.1.view, fun r i hr => (hl.1.reg r i fun hm => hr ((by decide : logRegs ⊆ engRegs) hm)).1,
    fun f hm i => hl.1.get (hf f hm), hl.2, fun c => show v ((logView w).craneOf c) = v ((logView u).craneOf c) from congrArg (fun x : State => v (x.craneOf c)) hl.1.view⟩

theorem EngKeeps.marks (h : EngKeeps fs v s u) (hm : Marks u w) (hv : ∀ x y : CraneS, x.unmarked = y.unmarked → v x = v y) : EngKeeps fs v s w :=
  h.trans ⟨by rw [hm.frame]; rfl, fun _ _ _ => by rw [hm.frame]; rfl, fun _ _ _ => by rw [hm.frame]; rfl, by rw [hm.frame]; exact fun _ ho => ho,
    fun c => hv _ _ (hm.crane c)⟩

/-- R105: a flag of a crane, with its interrupt. -/
theorem EngKeeps.craneFlag (h : EngKeeps fs v s u) {f : Fld} (ien : Fld) (c : Nat) (hr : f.reg ∈ engRegs) (hf : ApartFrom fs f)
    (hvec : ∀ f ∈ fs, f.reg ≠ .VU_PEND ∧ f.reg ≠ .VU_LOST) : EngKeeps fs v s (craneFlag u f ien c) :=
  (h.flag c hr hf).fireIf _ _ hvec

end

/-! ### A skip -/

section
variable (s : State) (b : Nat)

/-- R81, R83: the skip counts. -/
def skipCounted : State := ((noPend s b).flag F.BERTH_OVR_ovr b).incSat F.BERTH_OVR_skips b

/-- R83, R105: the crane and the fabric take the overrun at instant `x`. -/
def skipTold (x : Nat) : State :=
  (craneFlag (skipCounted s b) F.CR_STAT_ovr F.CR_IEN_ovr (s.get F.BERTH_CTL_crane b)).raiseAt (5 + b / 128) (b % 128) 1 x

/-- R104: a skipped member misses its round, and a skipped closer, ready at instant `r`, aborts it. -/
def skipRound (r : Nat) : State :=
  if s.is F.BERTH_GRP_mem b then
    if groupLive (s.flag F.BERTH_STAT_grpmiss b) (s.get F.BERTH_GRP_grp b) && (s.flag F.BERTH_STAT_grpmiss b).is F.BERTH_GRP_close b then
      roundAbort (s.flag F.BERTH_STAT_grpmiss b) (s.get F.BERTH_GRP_grp b) b r
    else s.flag F.BERTH_STAT_grpmiss b
  else s

end

section
variable {s : State} {b : Nat} {p : PendRun}

theorem berthSkip_eq (h : (s.berthOf b).pend = some p) (x : Nat) :
    berthSkip s b x = skipRound (runLog (skipTold s b x) (s.get F.BERTH_CTL_crane b) b true x) b p.ready := by
  simp only [berthSkip, h]
  rfl

/-- The fields that a skip leaves. -/
abbrev skipFields : List Fld := [F.BERTH_STAT_running, F.CR_STAT_busy, F.CR_STAT_sepf]

theorem skipTold_keeps (s : State) (b x : Nat) : EngKeeps skipFields CraneS.unmarked s (skipTold s b x) := by
  have hcount : EngKeeps skipFields CraneS.unmarked s (skipCounted s b) :=
    ((((EngKeeps.refl s).setBerth b _).put b 0 (by decide) (by decide)).flag b (by decide) (by decide)).incSat b (by decide) (by decide)
  exact (hcount.craneFlag _ _ (by decide) (by decide) (by decide)).raiseAt _ _ _ _

/-- R104: a skipped run leaves its round by flags and marks. -/
theorem skipRound_keeps (s : State) (b r : Nat) : EngKeeps skipFields CraneS.unmarked s (skipRound s b r) ∧
    (∀ k i, k ∉ [RegName.BERTH_STAT, .CG_STAT] → (skipRound s b r).reg k i = s.reg k i) ∧
    ∀ m, ((skipRound s b r).berthOf m).unmarked = (s.berthOf m).unmarked := by
  have hmiss : EngKeeps skipFields CraneS.unmarked s (s.flag F.BERTH_STAT_grpmiss b) := (EngKeeps.refl s).flag b (by decide) (by decide)
  have hmissReg : ∀ k i, k ∉ [RegName.BERTH_STAT, .CG_STAT] → (s.flag F.BERTH_STAT_grpmiss b).reg k i = s.reg k i :=
    fun k i hk => State.put_reg_of_ne _ _ _ _ fun e => hk (e ▸ .head _)
  unfold skipRound
  split
  · split
    · have hlost := roundLost_marks (s.flag F.BERTH_STAT_grpmiss b) (s.get F.BERTH_GRP_grp b) b r
      refine ⟨(hmiss.marks hlost fun _ _ e => e).flag _ (by decide) (by decide), fun k i hk => ?_, hlost.berth⟩
      have habort := State.put_reg_of_ne (f := F.CG_STAT_abort) (roundLost (s.flag F.BERTH_STAT_grpmiss b) (s.get F.BERTH_GRP_grp b) b r)
        (s.get F.BERTH_GRP_grp b) i 1 (r := k) fun e => hk (e ▸ .tail _ (.head _))
      exact (habort.trans (hlost.reg k i)).trans (hmissReg k i hk)
    · exact ⟨hmiss, hmissReg, fun _ => rfl⟩
  · exact ⟨.refl s, fun _ _ _ => rfl, fun _ => rfl⟩

theorem berthSkip_none (h : (s.berthOf b).pend = none) (x : Nat) : berthSkip s b x = s := by simp [berthSkip, h]

theorem berthSkip_keeps (s : State) (b x : Nat) : EngKeeps skipFields CraneS.unmarked s (berthSkip s b x) := by
  cases h : (s.berthOf b).pend with
  | none =>
    rw [berthSkip_none h]
    exact .refl s
  | some p =>
    rw [berthSkip_eq h]
    have hlog := (skipTold_keeps s b x).logs (LogKeeps.runLog _ (s.get F.BERTH_CTL_crane b) b true x) (by decide)
    exact hlog.trans (skipRound_keeps _ b p.ready).1

/-- What the records and the round of a skip leave of the berths. -/
theorem berthSkip_berth (h : (s.berthOf b).pend = some p) (x m : Nat) :
    ((berthSkip s b x).berthOf m).unmarked = ((noPend s b).berthOf m).unmarked := by
  rw [berthSkip_eq h, (skipRound_keeps _ b p.ready).2.2 m]
  have hlog := (LogKeeps.runLog (skipTold s b x) (s.get F.BERTH_CTL_crane b) b true x).1.view
  have hberth : (runLog (skipTold s b x) (s.get F.BERTH_CTL_crane b) b true x).berth = (skipTold s b x).berth :=
    show (logView _).berth = (logView _).berth from congrArg State.berth hlog
  have htold : (skipTold s b x).berth = (noPend s b).berth := (fireIf_engine ((skipCounted s b).flag F.CR_STAT_ovr (s.get F.BERTH_CTL_crane b)) _ _).2.1
  rw [State.berthOf, hberth, htold]

@[simp] theorem raiseAt_get (s : State) (cls inst ev : Nat) (x : Int) (f : Fld) (i : Nat) : (s.raiseAt cls inst ev x).get f i = s.get f i := rfl
@[simp] theorem raiseAt_is (s : State) (cls inst ev : Nat) (x : Int) (f : Fld) (i : Nat) : (s.raiseAt cls inst ev x).is f i = s.is f i := rfl

theorem incSat_get_apart (s : State) {f g : Fld} {i j : Nat} (h : g.reg = f.reg → f.lo + f.w ≤ g.lo ∨ g.lo + g.w ≤ f.lo) :
    (s.incSat f i).get g j = s.get g j := s.put_get_apart _ h

theorem skipCounted_over (s : State) (b : Nat) : (skipCounted s b).is F.BERTH_OVR_ovr b = true ∧
    (skipCounted s b).get F.BERTH_OVR_skips b = min (s.get F.BERTH_OVR_skips b + 1) 65535 := by
  have hovr : ((noPend s b).flag F.BERTH_OVR_ovr b).is F.BERTH_OVR_ovr b = true := is_flag _ _ _ rfl (by decide)
  have hskips : ((noPend s b).flag F.BERTH_OVR_ovr b).get F.BERTH_OVR_skips b = s.get F.BERTH_OVR_skips b := by
    simp (disch := decide) only [noPend, State.flag_get_apart, State.put_get_apart, setBerth_get]
  refine ⟨(congrArg (· == 1) (incSat_get_apart _ (by decide))).trans hovr, ?_⟩
  rw [skipCounted, State.incSat_get_same _ _ _ (by decide), hskips]
  rfl

/-- R81, R83: BERTH_OVR counts the skip. -/
theorem berthSkip_over (h : (s.berthOf b).pend = some p) (x : Nat) : (berthSkip s b x).is F.BERTH_OVR_ovr b = true ∧
    (berthSkip s b x).get F.BERTH_OVR_skips b = min (s.get F.BERTH_OVR_skips b + 1) 65535 := by
  have hlog := (LogKeeps.runLog (skipTold s b x) (s.get F.BERTH_CTL_crane b) b true x).1.reg .BERTH_OVR b (by decide)
  have hreg : (berthSkip s b x).reg .BERTH_OVR b = (skipTold s b x).reg .BERTH_OVR b := by
    rw [berthSkip_eq h]
    exact ((skipRound_keeps _ b p.ready).2.1 .BERTH_OVR b (by decide)).trans hlog.1
  have htold : ∀ f : Fld, f.reg = .BERTH_OVR → (skipTold s b x).get f b = (skipCounted s b).get f b := fun f hf => by
    rw [skipTold, raiseAt_get, craneFlag, fireIf_get _ _ _ _ (by rw [hf]; decide) (by rw [hf]; decide), State.flag_get_apart _ (by rw [hf]; exact fun e => absurd e (by decide))]
  have hskip : ∀ f : Fld, f.reg = .BERTH_OVR → (berthSkip s b x).get f b = (skipCounted s b).get f b := fun f hf => by
    rw [← htold f hf, State.get, State.get, hf, hreg]
  obtain ⟨hovr, hskips⟩ := skipCounted_over s b
  exact ⟨(congrArg (· == 1) (hskip _ rfl)).trans hovr, (hskip _ rfl).trans hskips⟩

end

end Sys2Proof.Machine
end

section
/-! PROOFS. What a trigger leaves of the engine (04_loop_engine.md, R79 to R82, R85, R87). -/

namespace Sys2Proof.Machine

/-! ### The separation of coincidence sets (R25, R87) -/

section
variable {s : State} {c k b r : Nat}

/-- R87: a separation check changes the state by separation flags of the crane alone. -/
theorem sepCheck_induction {P : State → Prop} (hs : P s) (hstep : ∀ u m x, P u → P (sepFlag u c m x)) : P (sepCheck s c k b r) := by
  unfold sepCheck
  dsimp only
  have hfirst : P (if (otherReady s c k).any (fun p => decide (p.1 ≤ r) && decide (r < p.1 + ns (s.get F.CR_SEP_sep c))) then sepFlag s c b r else s) := by
    split
    · exact hstep _ _ _ hs
    · exact hs
  split
  · exact hstep _ _ _ hfirst
  · exact hfirst

theorem sepFlag_sepf (s : State) (c b r : Nat) : (sepFlag s c b r).is F.CR_STAT_sepf c = true := by
  rw [sepFlag, raiseAt_is, craneFlag, fireIf_is _ _ _ _ (by decide) (by decide)]
  exact is_flag _ _ _ rfl (by decide)

theorem sepFlag_get (s : State) (c b r : Nat) {f : Fld} (i : Nat) (hf : f.reg ∉ [RegName.CR_STAT, .CR_SEPB, .VU_PEND, .VU_LOST]) :
    (sepFlag s c b r).get f i = s.get f i := by
  simp only [List.mem_cons, List.not_mem_nil, or_false, not_or] at hf
  obtain ⟨hstat, hsep, hpend, hlost⟩ := hf
  rw [sepFlag, raiseAt_get, craneFlag, fireIf_get _ _ _ _ hpend hlost, State.flag_get_apart _ (absurd · hstat)]
  exact State.put_get_apart _ _ (absurd · hsep)

theorem sepFlag_keeps {α : Type} {fs : List Fld} {v : CraneS → α} (s : State) (c b r : Nat)
    (hf : ApartFrom fs F.CR_STAT_sepf ∧ ApartFrom fs F.CR_SEPB_berth) (hvec : ∀ f ∈ fs, f.reg ≠ .VU_PEND ∧ f.reg ≠ .VU_LOST) :
    EngKeeps fs v s (sepFlag s c b r) :=
  (((EngKeeps.refl s).put c b (by decide) hf.2).craneFlag _ c (by decide) hf.1 hvec).raiseAt _ _ _ _

theorem sepFlag_berth (s : State) (c b r : Nat) : (sepFlag s c b r).berth = s.berth :=
  (fireIf_engine ((s.put F.CR_SEPB_berth c b).flag F.CR_STAT_sepf c) _ _).2.1

/-- The events of a separation flag are the crane's. -/
theorem Keeps.sepFlag {ch : Nat} {l : List RegName} {u : State} (h : BerthKeeps 13 c b c ch l s u) (hstat : .CR_STAT ∈ l)
    (hsep : .CR_SEPB ∈ l) (m x : Nat) : BerthKeeps 13 c b c ch l s (sepFlag u c m x) :=
  (((h.put m (.crane (by decide) hsep)).flag (.crane (by decide) hstat)).berthFireIf _ _).raiseAt (by decide) x

/-- R25, R87: a berth of another set has its ready instant less than the separation from `r`. -/
def sepNear (s : State) (c k r : Nat) : Bool :=
  ((List.range 16).filter (fun j => j != k)).any (fun j => (Store.get (fun _ => []) (s.craneOf c).lastReady j).any (fun p =>
    (decide (p.1 ≤ r) && decide (r < p.1 + 64 * s.get F.CR_SEP_sep c)) || (decide (r < p.1) && decide (p.1 < r + 64 * s.get F.CR_SEP_sep c))))

theorem sepNear_eq (s : State) (c k r : Nat) : sepNear s c k r =
    ((otherReady s c k).any (fun p => decide (p.1 ≤ r) && decide (r < p.1 + ns (s.get F.CR_SEP_sep c))) ||
      (otherReady s c k).any (fun p => decide (r < p.1) && decide (p.1 < r + ns (s.get F.CR_SEP_sep c)))) := by
  rw [sepNear, otherReady, ns, Bool.eq_iff_iff]
  simp only [List.any_flatMap, Bool.or_eq_true, List.any_eq_true, ← exists_or, ← and_or_left]

theorem sepCheck_sepf (s : State) (c k b r : Nat) : (sepCheck s c k b r).is F.CR_STAT_sepf c = (s.is F.CR_STAT_sepf c || sepNear s c k r) := by
  rw [sepNear_eq]
  unfold sepCheck
  dsimp only
  split
  · next p hp =>
    have hmem : (otherReady s c k).any (fun p => decide (r < p.1) && decide (p.1 < r + ns (s.get F.CR_SEP_sep c))) = true :=
      List.any_eq_true.2 ⟨p, List.mem_of_find?_eq_some hp, by simpa using List.find?_some hp⟩
    rw [sepFlag_sepf, hmem, Bool.or_true, Bool.or_true]
  · next hp =>
    have hmem : (otherReady s c k).any (fun p => decide (r < p.1) && decide (p.1 < r + ns (s.get F.CR_SEP_sep c))) = false :=
      List.any_eq_false.2 fun p hm => List.find?_eq_none.1 hp p hm
    rw [hmem, Bool.or_false]
    split
    · next h => rw [sepFlag_sepf, h, Bool.or_true]
    · next h => rw [eq_false_of_ne_true h, Bool.or_false]

end

/-! ### A run becomes ready (R79 to R82) -/

section
variable (s : State) (b r : Nat)

/-- R82: the late flag where the berth's own run executes. -/
def lateShown : State := if berthRuns s b then s.flag F.BERTH_STAT_late b else s

/-- R31, R80: the run that becomes ready at instant `r`. -/
def readyRun : PendRun := ⟨r, if s.get F.BERTH_DL_dl b = 0 then none else some (r + ns (s.get F.BERTH_DL_dl b)), false⟩

/-- The berth with its pending run. -/
def madeReady : State :=
  ((lateShown s b).setBerth b { (lateShown s b).berthOf b with pend := some (readyRun (lateShown s b) b r) }).put F.BERTH_STAT_ready b 1

/-- R79 to R82, R87: a run of a berth without a pending one becomes ready. -/
def readied : State :=
  sepRemember (sepCheck (madeReady s b r) (s.get F.BERTH_CTL_crane b) ((madeReady s b r).get F.BERTH_CTL_cset b) b r)
    (s.get F.BERTH_CTL_crane b) ((madeReady s b r).get F.BERTH_CTL_cset b) b r

/-- R79, R84, R85: the triggers of the berth are taken. -/
abbrev Takes : Prop := b ∈ s.armed ∧ s.is F.ENG_CTL_en 0 = true ∧ s.rung < 3

end

section
variable {s : State} {b r : Nat}

theorem berthReady_eq (h : Takes s b) : berthReady s b r = readied (if (s.berthOf b).pend.isSome then berthSkip s b r else s) b r := by
  obtain ⟨harmed, hen, hrung⟩ := h
  have hoff : ¬ (!(s.armed.contains b) || !s.is F.ENG_CTL_en 0 || !timerOn s) = true := by
    simp [harmed, hen, timerOn, hrung]
  rw [berthReady, if_neg hoff]
  rfl

theorem berthReady_off (h : ¬ Takes s b) : berthReady s b r = s := by
  refine if_pos ?_
  by_contra hon
  simp only [Bool.or_eq_true, Bool.not_eq_true', not_or, Bool.not_eq_false, List.contains_iff_mem, timerOn, decide_eq_true_eq] at hon
  exact h ⟨hon.1.1, hon.1.2, hon.2⟩

/-! #### The parts of a trigger -/

@[simp] theorem setCrane_berthOf (s : State) (c : Nat) (x : CraneS) (m : Nat) : (s.setCrane c x).berthOf m = s.berthOf m := rfl
@[simp] theorem put_berthOf (s : State) (f : Fld) (i x m : Nat) : (s.put f i x).berthOf m = s.berthOf m := rfl

theorem lateShown_cases (s : State) (b : Nat) : lateShown s b = s ∨ lateShown s b = s.flag F.BERTH_STAT_late b := by
  unfold lateShown
  split
  · exact .inr rfl
  · exact .inl rfl

theorem lateShown_get (s : State) (b : Nat) {f : Fld} (i : Nat) (hf : f.reg ≠ .BERTH_STAT) : (lateShown s b).get f i = s.get f i := by
  rcases lateShown_cases s b with h | h
  · rw [h]
  · rw [h, State.flag_get_apart _ (absurd · hf)]

theorem lateShown_berth (s : State) (b : Nat) : (lateShown s b).berth = s.berth := by
  rcases lateShown_cases s b with h | h <;> rw [h]
  rfl

theorem madeReady_get (s : State) (b r : Nat) {f : Fld} (i : Nat) (hf : f.reg ≠ .BERTH_STAT) : (madeReady s b r).get f i = s.get f i := by
  rw [madeReady, State.put_get_apart _ _ (absurd · hf), setBerth_get, lateShown_get _ _ _ hf]

theorem madeReady_ready (s : State) (b r : Nat) : (madeReady s b r).is F.BERTH_STAT_ready b = true := State.put_is_same _ _ _ _ (by decide)

theorem madeReady_late (r : Nat) (h : berthRuns s b = true) : (madeReady s b r).is F.BERTH_STAT_late b = true := by
  rw [madeReady, State.put_is_apart _ _ (by decide), setBerth_is, lateShown, if_pos h]
  exact is_flag _ _ _ rfl (by decide)

theorem madeReady_pend (s : State) (b r : Nat) : ((madeReady s b r).berthOf b).pend = some (readyRun s b r) := by
  have hrun : readyRun (lateShown s b) b r = readyRun s b r := by rw [readyRun, readyRun, lateShown_get _ _ _ (by decide)]
  rw [← hrun, madeReady, put_berthOf, State.setBerth_berthOf]

theorem madeReady_other (s : State) (b r : Nat) {m : Nat} (hm : m ≠ b) : (madeReady s b r).berthOf m = s.berthOf m := by
  rw [madeReady, put_berthOf, State.setBerth_berthOf_ne _ _ hm, State.berthOf, lateShown_berth]

theorem madeReady_crane (s : State) (b r : Nat) : (madeReady s b r).crane = s.crane := by
  rcases lateShown_cases s b with h | h <;> rw [madeReady, h] <;> rfl

/-- The parts of a trigger keep the engine, but for what they tell. -/
theorem madeReady_keeps {α : Type} {v : CraneS → α} (s : State) (b r : Nat) : EngKeeps skipFields v s (madeReady s b r) := by
  have hlate : EngKeeps skipFields v s (lateShown s b) := by
    rcases lateShown_cases s b with h | h <;> rw [h]
    · exact .refl s
    · exact (EngKeeps.refl s).flag b (by decide) (by decide)
  exact (hlate.setBerth b _).put b 1 (by decide) (by decide)

theorem Keeps.madeReady {cls inst c ch : Nat} {l : List RegName} {u : State} (h : BerthKeeps cls inst b c ch l s u) (r : Nat) :
    BerthKeeps cls inst b c ch l s (madeReady u b r) := by
  have hlate : BerthKeeps cls inst b c ch l s (lateShown u b) := by
    rcases lateShown_cases u b with e | e <;> rw [e]
    · exact h
    · exact h.flagBerth
  exact (hlate.setBerth _).putBerth 1

/-- The state in which the separation of the crane has been checked. -/
def sepChecked (s : State) (b r : Nat) : State :=
  sepCheck (madeReady s b r) (s.get F.BERTH_CTL_crane b) ((madeReady s b r).get F.BERTH_CTL_cset b) b r

theorem readied_eq (s : State) (b r : Nat) : ∃ x : CraneS, readied s b r = (sepChecked s b r).setCrane (s.get F.BERTH_CTL_crane b) x ∧
    x.run = ((sepChecked s b r).craneOf (s.get F.BERTH_CTL_crane b)).run ∧
    x.freeAt = ((sepChecked s b r).craneOf (s.get F.BERTH_CTL_crane b)).freeAt := ⟨_, rfl, rfl, rfl⟩

theorem sepChecked_get (s : State) (b r : Nat) {f : Fld} (i : Nat) (hf : f.reg ∉ [RegName.CR_STAT, .CR_SEPB, .VU_PEND, .VU_LOST]) :
    (sepChecked s b r).get f i = (madeReady s b r).get f i :=
  sepCheck_induction (P := fun u => u.get f i = (madeReady s b r).get f i) rfl fun u m x hu => (sepFlag_get u _ m x i hf).trans hu

theorem sepChecked_berth (s : State) (b r : Nat) : (sepChecked s b r).berth = (madeReady s b r).berth :=
  sepCheck_induction (P := fun u => u.berth = (madeReady s b r).berth) rfl fun u m x hu => (sepFlag_berth u _ m x).trans hu

theorem sepChecked_keeps {α : Type} {v : CraneS → α} (s : State) (b r : Nat) :
    EngKeeps [F.BERTH_STAT_running, F.CR_STAT_busy] v (madeReady s b r) (sepChecked s b r) :=
  sepCheck_induction (P := EngKeeps _ v (madeReady s b r)) (.refl _) fun u m x hu =>
    hu.trans (sepFlag_keeps u _ m x (by decide) (by decide))

end

/-! ### What a trigger leaves -/

section
variable {s : State} {b r : Nat}

/-- The run that a crane executes, but for marks, and when it is free again. -/
def craneBusy (h : CraneS) : Option Run × Nat := (h.run.map Run.unmarked, h.freeAt)

theorem craneBusy_unmarked {x y : CraneS} (e : x.unmarked = y.unmarked) : craneBusy x = craneBusy y :=
  congrArg (fun h : CraneS => (h.run, h.freeAt)) e

/-- The fields of a trigger. -/
abbrev busyFields : List Fld := [F.BERTH_STAT_running, F.CR_STAT_busy]

theorem readied_keeps (s : State) (b r : Nat) : EngKeeps busyFields craneBusy s (readied s b r) := by
  obtain ⟨x, hx, hrun, hfree⟩ := readied_eq s b r
  have hmade : EngKeeps busyFields craneBusy s (madeReady s b r) :=
    (madeReady_keeps s b r).fields (by decide)
  rw [hx]
  exact (hmade.trans (sepChecked_keeps s b r)).setCrane _ x (by rw [craneBusy, craneBusy, hrun, hfree])

theorem berthReady_keeps (s : State) (b r : Nat) : EngKeeps busyFields craneBusy s (berthReady s b r) := by
  by_cases h : Takes s b
  · have hskip : EngKeeps busyFields craneBusy s (if (s.berthOf b).pend.isSome then berthSkip s b r else s) := by
      split
      · exact ((berthSkip_keeps s b r).fields (by decide)).weaken fun _ _ => craneBusy_unmarked
      · exact .refl s
    rw [berthReady_eq h]
    exact hskip.trans (readied_keeps _ b r)
  · rw [berthReady_off h]
    exact .refl s

/-- A trigger of a berth without a pending run keeps the rest of the device: its events are the crane's. -/
theorem readied_berthKeeps (s : State) (b r : Nat) :
    BerthKeeps 13 (s.get F.BERTH_CTL_crane b) b (s.get F.BERTH_CTL_crane b) 0 [.CR_STAT, .CR_SEPB] s (readied s b r) := by
  obtain ⟨x, hx, -, -⟩ := readied_eq s b r
  have hcheck : BerthKeeps 13 (s.get F.BERTH_CTL_crane b) b (s.get F.BERTH_CTL_crane b) 0 [.CR_STAT, .CR_SEPB] s (sepChecked s b r) :=
    sepCheck_induction (P := BerthKeeps 13 (s.get F.BERTH_CTL_crane b) b (s.get F.BERTH_CTL_crane b) 0 [.CR_STAT, .CR_SEPB] s)
      ((BerthKeeps.refl s).madeReady r) fun u m x hu => hu.sepFlag (by decide) (by decide) m x
  rw [hx]
  exact hcheck.setCrane _ x

/-- A trigger of a berth without a pending run is no overrun. -/
theorem readied_over (s : State) (b r i : Nat) : (readied s b r).reg .BERTH_OVR i = s.reg .BERTH_OVR i := by
  obtain ⟨x, hx, -, -⟩ := readied_eq s b r
  have hmade : (madeReady s b r).reg .BERTH_OVR i = s.reg .BERTH_OVR i := by
    have hput := State.put_reg_of_ne ((lateShown s b).setBerth b { (lateShown s b).berthOf b with pend := some (readyRun (lateShown s b) b r) })
      (f := F.BERTH_STAT_ready) b i 1 (r := .BERTH_OVR) (by decide)
    have hlate : (lateShown s b).reg .BERTH_OVR i = s.reg .BERTH_OVR i := by
      rcases lateShown_cases s b with h | h <;> rw [h]
      exact State.put_reg_of_ne _ _ _ _ (by decide)
    exact hput.trans hlate
  have hflag : ∀ (u : State) (m x : Nat), u.reg .BERTH_OVR i = s.reg .BERTH_OVR i →
      (sepFlag u (s.get F.BERTH_CTL_crane b) m x).reg .BERTH_OVR i = s.reg .BERTH_OVR i := fun u m x hu =>
    -- a separation flag leaves the registers of the berths: seen from another berth they are none that it may write
    ((Keeps.sepFlag (b := i + 1) (ch := 0) (l := [.CR_STAT, .CR_SEPB]) (BerthKeeps.refl u) (by decide) (by decide) m x).reg .BERTH_OVR i
      fun hmay => absurd (hmay.own_instance (by decide)) (Nat.succ_ne_self i).symm).1.trans hu
  rw [hx]
  exact sepCheck_induction (P := fun u => u.reg .BERTH_OVR i = s.reg .BERTH_OVR i) hmade hflag

theorem readied_shows (s : State) (b r : Nat) : (readied s b r).is F.BERTH_STAT_ready b = true ∧
    (berthRuns s b = true → (readied s b r).is F.BERTH_STAT_late b = true) ∧
    (readied s b r).is F.CR_STAT_sepf (s.get F.BERTH_CTL_crane b) =
      (s.is F.CR_STAT_sepf (s.get F.BERTH_CTL_crane b) || sepNear s (s.get F.BERTH_CTL_crane b) (s.get F.BERTH_CTL_cset b) r) := by
  obtain ⟨x, hx, -, -⟩ := readied_eq s b r
  have hget : ∀ f : Fld, f.reg = .BERTH_STAT → (sepChecked s b r).is f b = (madeReady s b r).is f b := fun f hf =>
    congrArg (· == 1) (sepChecked_get s b r b (by rw [hf]; decide))
  have hnear : sepNear (madeReady s b r) (s.get F.BERTH_CTL_crane b) ((madeReady s b r).get F.BERTH_CTL_cset b) r =
      sepNear s (s.get F.BERTH_CTL_crane b) (s.get F.BERTH_CTL_cset b) r := by
    rw [sepNear, sepNear, madeReady_get _ _ _ _ (by decide), madeReady_get _ _ _ _ (by decide), State.craneOf, madeReady_crane]
  rw [hx]
  refine ⟨(hget _ rfl).trans (madeReady_ready s b r), fun h => (hget _ rfl).trans (madeReady_late r h), ?_⟩
  exact (sepCheck_sepf ..).trans (congrArg₂ (· || ·) ((madeReady_keeps (v := id) s b r).shows _ (by decide)) hnear)

theorem readied_pend (s : State) (b r : Nat) : ((readied s b r).berthOf b).pend = some (readyRun s b r) := by
  obtain ⟨x, hx, -, -⟩ := readied_eq s b r
  rw [hx, setCrane_berthOf, State.berthOf, sepChecked_berth]
  exact madeReady_pend s b r

theorem readied_other (s : State) (b r : Nat) {m : Nat} (hm : m ≠ b) : (readied s b r).berthOf m = s.berthOf m := by
  obtain ⟨x, hx, -, -⟩ := readied_eq s b r
  rw [hx, setCrane_berthOf, State.berthOf, sepChecked_berth]
  exact madeReady_other s b r hm

end

end Sys2Proof.Machine
end

section
/-! PROOFS. The triggers of berths (04_loop_engine.md, R79 to R82, R85, R87). -/

namespace Sys2Proof.Machine

section
variable {s : State} {b r : Nat}

/-- The state in which a trigger finds the berth: a run still pending has been skipped. -/
def cleared (s : State) (b r : Nat) : State := if (s.berthOf b).pend.isSome then berthSkip s b r else s

theorem cleared_keeps (s : State) (b r : Nat) : EngKeeps skipFields CraneS.unmarked s (cleared s b r) := by
  unfold cleared
  split
  · exact berthSkip_keeps s b r
  · exact .refl s

theorem cleared_other (s : State) (b r : Nat) {m : Nat} (hm : m ≠ b) : ((cleared s b r).berthOf m).unmarked = (s.berthOf m).unmarked := by
  unfold cleared
  split
  · next h =>
    obtain ⟨p, hp⟩ := Option.isSome_iff_exists.1 h
    rw [berthSkip_berth hp r m]
    exact congrArg BerthS.unmarked (State.setBerth_berthOf_ne _ _ hm)
  · rfl

/-- Whether a berth's run executes does not depend on marks. -/
theorem berthRuns_of_keeps {fs : List Fld} {u : State} (h : EngKeeps fs CraneS.unmarked s u) (b : Nat) : berthRuns u b = berthRuns s b := by
  have hrun : ((u.craneOf (s.get F.BERTH_CTL_crane b)).run).map Run.unmarked = ((s.craneOf (s.get F.BERTH_CTL_crane b)).run).map Run.unmarked :=
    congrArg (fun x : CraneS => x.run) (h.crane _)
  have hberth : ∀ x : Option Run, (match x with | some r => r.berth == b | none => false) = ((x.map Run.unmarked).elim false fun r => r.berth == b) := by
    rintro (_ | _) <;> rfl
  calc berthRuns u b = (((u.craneOf (u.get F.BERTH_CTL_crane b)).run.map Run.unmarked).elim false fun r => r.berth == b) := hberth _
    _ = (((s.craneOf (s.get F.BERTH_CTL_crane b)).run.map Run.unmarked).elim false fun r => r.berth == b) := by
      rw [h.get _ (by decide), hrun]
    _ = berthRuns s b := (hberth _).symm

theorem sepNear_of_keeps {fs : List Fld} {u : State} (h : EngKeeps fs CraneS.unmarked s u) (c k r : Nat) : sepNear u c k r = sepNear s c k r := by
  have hlast : (u.craneOf c).lastReady = (s.craneOf c).lastReady :=
    show (u.craneOf c).unmarked.lastReady = (s.craneOf c).unmarked.lastReady from congrArg CraneS.lastReady (h.crane c)
  rw [sepNear, sepNear, h.get _ (by decide), hlast]

theorem readyRun_of_keeps {fs : List Fld} {u : State} (h : EngKeeps fs CraneS.unmarked s u) (b r : Nat) : readyRun u b r = readyRun s b r := by
  rw [readyRun, readyRun, h.get _ (by decide)]

/-- R79 to R82, R87: what a trigger that is taken tells. -/
theorem berthReady_shows (h : Takes s b) : ((berthReady s b r).berthOf b).pend = some (readyRun s b r) ∧
    (berthReady s b r).is F.BERTH_STAT_ready b = true ∧ (berthRuns s b = true → (berthReady s b r).is F.BERTH_STAT_late b = true) ∧
    (berthReady s b r).is F.CR_STAT_sepf (s.get F.BERTH_CTL_crane b) =
      (s.is F.CR_STAT_sepf (s.get F.BERTH_CTL_crane b) || sepNear s (s.get F.BERTH_CTL_crane b) (s.get F.BERTH_CTL_cset b) r) := by
  have hkeeps := cleared_keeps s b r
  obtain ⟨hready, hlate, hsepf⟩ := readied_shows (cleared s b r) b r
  rw [hkeeps.get _ (by decide), hkeeps.get _ (by decide), hkeeps.shows _ (by decide), sepNear_of_keeps hkeeps] at hsepf
  rw [berthRuns_of_keeps hkeeps] at hlate
  rw [berthReady_eq h]
  exact ⟨(readied_pend ..).trans (congrArg some (readyRun_of_keeps hkeeps b r)), hready, hlate, hsepf⟩

/-- R31, R83: a trigger finds a run still pending. -/
theorem berthReady_overrun (h : Takes s b) (hp : (s.berthOf b).pend.isSome = true) : (berthReady s b r).is F.BERTH_OVR_ovr b = true ∧
    (berthReady s b r).get F.BERTH_OVR_skips b = min (s.get F.BERTH_OVR_skips b + 1) 65535 := by
  obtain ⟨p, hpend⟩ := Option.isSome_iff_exists.1 hp
  obtain ⟨hovr, hskips⟩ := berthSkip_over hpend r
  have hget : ∀ f : Fld, f.reg = .BERTH_OVR → (berthReady s b r).get f b = (berthSkip s b r).get f b := fun f hf => by
    rw [berthReady_eq h, if_pos hp, State.get, hf, readied_over, ← hf, State.get]
  exact ⟨(congrArg (· == 1) (hget _ rfl)).trans hovr, (hget _ rfl).trans hskips⟩

/-- R79, R83: a trigger of a berth without a pending run. -/
theorem berthReady_first (h : Takes s b) (hp : (s.berthOf b).pend = none) :
    BerthKeeps 13 (s.get F.BERTH_CTL_crane b) b (s.get F.BERTH_CTL_crane b) 0 [.CR_STAT, .CR_SEPB] s (berthReady s b r) ∧
      (berthReady s b r).reg .BERTH_OVR b = s.reg .BERTH_OVR b := by
  rw [berthReady_eq h, hp]
  exact ⟨readied_berthKeeps s b r, readied_over s b r b⟩

theorem berthReady_other (s : State) (b r : Nat) {m : Nat} (hm : m ≠ b) : ((berthReady s b r).berthOf m).unmarked = (s.berthOf m).unmarked := by
  by_cases h : Takes s b
  · rw [berthReady_eq h, readied_other _ _ _ hm]
    exact cleared_other s b r hm
  · rw [berthReady_off h]

end

/-! ### The triggers -/

/-- What a trigger of berth `b` that is taken, with a run ready at instant `r`, leaves of the state `s` before it. -/
def Triggered (t : Nat) (b : Fin 1024) (s : State) (r : Nat) (s' : State) : Prop :=
  (s'.berthOf b).pend = some (readyRun s b r) ∧ s'.is F.BERTH_STAT_ready b = true ∧
  (∀ x, (s.craneOf (s.get F.BERTH_CTL_crane b)).run = some x → x.berth = b.val → s'.is F.BERTH_STAT_late b = true) ∧ s'.armed = s.armed ∧
  s'.bram = s.bram ∧ s'.bstore = s.bstore ∧ s'.is F.CR_STAT_sepf (s.get F.BERTH_CTL_crane b) =
    (s.is F.CR_STAT_sepf (s.get F.BERTH_CTL_crane b) || sepNear s (s.get F.BERTH_CTL_crane b) (s.get F.BERTH_CTL_cset b) r) ∧
  ((s.berthOf b).pend = none → BerthFrame t b [.CR_STAT, .CR_SEPB] s s' ∧ OthersKept .CR_STAT (s.get F.BERTH_CTL_crane b) s s' ∧
    OthersKept .CR_SEPB (s.get F.BERTH_CTL_crane b) s s' ∧ s'.reg .BERTH_OVR b = s.reg .BERTH_OVR b) ∧
  ((s.berthOf b).pend.isSome = true → s'.is F.BERTH_OVR_ovr b = true ∧ s'.get F.BERTH_OVR_skips b = min (s.get F.BERTH_OVR_skips b + 1) 65535)

section
variable {t : Nat} {b : Fin 1024} {r : Nat} {s : State}

/-- A trigger finds the state of its instant, with the event taken from its channel. -/
theorem triggered {u : State} (h : Takes s b) (hu : u = { s.tick t with ev := u.ev }) : Triggered t b s r (berthReady u b r) := by
  have hget : ∀ f i, u.get f i = s.get f i := fun _ _ => by rw [hu]; rfl
  have hcrane : ∀ c, u.craneOf c = s.craneOf c := fun _ => by rw [hu]; rfl
  have hberth : u.berthOf b = s.berthOf b := by rw [hu]; rfl
  have htakes : Takes u b := by rw [hu]; exact h
  have hruns : berthRuns u b = berthRuns s b := by rw [hu]; rfl
  have hrun : readyRun u b r = readyRun s b r := by rw [readyRun, readyRun, hget]
  have hnear : ∀ c k, sepNear u c k r = sepNear s c k r := fun c k => by rw [sepNear, sepNear, hget, hcrane]
  have hev : BerthKeeps 13 (s.get F.BERTH_CTL_crane b) b (s.get F.BERTH_CTL_crane b) 0 [.CR_STAT, .CR_SEPB] (s.tick t) u := by
    rw [hu]
    exact (BerthKeeps.refl _).hidden rfl rfl rfl rfl
  have hlt : s.get F.BERTH_CTL_crane b < 128 := (fget_lt _ _ _).trans (by decide)
  obtain ⟨hpend, hready, hlate, hsepf⟩ := berthReady_shows (r := r) htakes
  have hkeeps := berthReady_keeps u b r
  rw [hget, hget, hnear, State.is, State.is, hget] at hsepf
  rw [hruns] at hlate
  refine ⟨hpend.trans (congrArg some hrun), hready, fun x hx hb => hlate (berthRuns_true hx hb), hkeeps.armed.trans (by rw [hu]; rfl),
    hkeeps.bram.trans (by rw [hu]; rfl), hkeeps.bstore.trans (by rw [hu]; rfl), hsepf, fun hp => ?_, fun hp => ?_⟩
  · obtain ⟨hframe, hover⟩ := berthReady_first (r := r) htakes (hberth ▸ hp)
    rw [hget] at hframe
    have hall := hev.trans hframe
    exact ⟨hall.berthFrame (.inr ⟨rfl, hlt⟩), hall.othersCrane (by decide), hall.othersCrane (by decide), hover.trans (by rw [hu]; rfl)⟩
  · have hover := berthReady_overrun (r := r) htakes (hberth ▸ hp)
    rwa [hget] at hover

/-- R80, R81: an event of the berth's channel. -/
theorem berthTrigger_does (h : Takes s b) (harm : s.is F.BERTH_CTL_arm b = true) (hsrc : s.get F.BERTH_TRG_src b = 0)
    (harr : arrives s (s.get F.BERTH_TRG_num b) ⟨1, b⟩ t = true) : Does (.berthTrigger t b) s (Triggered t b s ((t + 63) / 64 * 64)) := by
  have hcond : ((s.tick t).is F.BERTH_CTL_arm b && (s.tick t).get F.BERTH_TRG_src b == 0 && arrives (s.tick t) (s.get F.BERTH_TRG_num b) ⟨1, b⟩ t) = true := by
    rw [show (s.tick t).is F.BERTH_CTL_arm b = true from harm, show (s.tick t).get F.BERTH_TRG_src b = 0 from hsrc,
      show arrives (s.tick t) (s.get F.BERTH_TRG_num b) ⟨1, b⟩ t = true from harr]
    rfl
  exact does_of_event (show execBerthTrigger t b s = _ from rfl) hcond (triggered h rfl)

/-- R80: a write of ENG_SWTRG names its berth. -/
theorem execSoftwareTrigger_eq : execSoftwareTrigger t (BitVec.ofNat 18 b.val) s = .next (berthReady (s.tick t) b ((max s.now t / 64 + 1) * 64)) := by
  have hb := b.isLt
  have hof : F.ENG_SWTRG_berth.of (BitVec.ofNat 18 b.val).toNat = b.val := by
    rw [Fld.of, BitVec.toNat_ofNat, Nat.mod_eq_of_lt (b := 2 ^ 18) (by omega), Nat.shiftRight_zero]
    exact Nat.mod_eq_of_lt hb
  rw [execSoftwareTrigger, swTrigger, hof]
  rfl

theorem softwareTrigger_does (h : Takes s b) :
    Does (.softwareTrigger t (BitVec.ofNat 18 b.val)) s (Triggered t b s ((max s.now t / 64 + 1) * 64)) :=
  ⟨_, execSoftwareTrigger_eq, triggered h rfl⟩

theorem softwareTrigger_ignored (h : b.val ∉ s.armed ∨ 3 ≤ s.rung) :
    Does (.softwareTrigger t (BitVec.ofNat 18 b.val)) s (fun s' => s' = { s with now := max s.now t, out := [] }) := by
  have hoff : ¬ Takes (s.tick t) b := fun ⟨harmed, _, hrung⟩ => h.elim (· harmed) fun hstop => absurd hrung (not_lt.2 hstop)
  exact ⟨_, execSoftwareTrigger_eq, berthReady_off hoff⟩

end

theorem berthTriggersRules : BerthTriggersRules := by
  intro t b s c edge after sep near v dl Ready
  refine ⟨fun harmed hen hrung => ⟨fun harm hsrc harr => ?_, ?_⟩, softwareTrigger_ignored⟩
  · exact berthTrigger_does ⟨harmed, hen, hrung⟩ harm hsrc harr
  · exact softwareTrigger_does ⟨harmed, hen, hrung⟩

end Sys2Proof.Machine
end

section
/-! PROOFS. The start of a run and the skip of a pending one (01_loop_path.md, R30; 04_loop_engine.md, R82, R83, R86; 05_engine_instructions.md,
R107). -/

namespace Sys2Proof.Machine

/-! ### The selection of a crane (R30, R86) -/

section
variable {s : State} {b : Nat}

theorem runsBefore_iff {a : Nat} : runsBefore s a b = true ↔ s.get F.BERTH_CTL_pri a < s.get F.BERTH_CTL_pri b ∨
    (s.get F.BERTH_CTL_pri a = s.get F.BERTH_CTL_pri b ∧ a < b) := by
  simp [runsBefore]

/-- Of two berths one at most is selected before the other. -/
theorem runsBefore_asymm {a : Nat} (h : runsBefore s b a = true) : runsBefore s a b = false := by
  by_contra hn
  have h' := runsBefore_iff.1 (eq_true_of_ne_false hn)
  have h := runsBefore_iff.1 h
  omega

/-- A step of the selection: the berth selected so far, or the next one. -/
def selectStep (s : State) (m : Option Nat) (b : Nat) : Option Nat :=
  match m with
  | none => some b
  | some a => if runsBefore s b a then some b else some a

theorem selectStep_eq {m : Option Nat} {k a : Nat} (h : selectStep s m k = some a) : a = k ∨ m = some a := by
  cases m with
  | none => exact .inl (Option.some.inj h).symm
  | some c =>
    rw [selectStep] at h
    split at h
    · exact .inl (Option.some.inj h).symm
    · exact .inr h

/-- A berth that is before the one selected so far takes its place. -/
theorem selectStep_first {m : Option Nat} (hm : ∀ a, m = some a → a ≠ b → runsBefore s b a = true) : selectStep s m b = some b := by
  cases m with
  | none => rfl
  | some a =>
    by_cases hab : a = b
    · rw [hab]
      exact ite_self _
    · exact if_pos (hm a rfl hab)

theorem selectStep_kept {k : Nat} (hk : k ≠ b → runsBefore s b k = true) : selectStep s (some b) k = some b := by
  by_cases hkb : k = b
  · rw [hkb]
    exact ite_self _
  · exact if_neg (by rw [runsBefore_asymm (hk hkb)]; exact Bool.false_ne_true)

/-- A berth that is before every other one is selected. -/
theorem selectStep_foldl {l : List Nat} {m : Option Nat} (hl : ∀ a ∈ l, a ≠ b → runsBefore s b a = true)
    (hm : ∀ a, m = some a → a ≠ b → runsBefore s b a = true) (hb : b ∈ l ∨ m = some b) : l.foldl (selectStep s) m = some b := by
  induction l generalizing m with
  | nil => exact hb.resolve_left fun h => nomatch h
  | cons k l ih =>
    refine ih (fun a ha => hl a (.tail _ ha)) (fun a ha hab => ?_) ?_
    · rcases selectStep_eq ha with rfl | hma
      · exact hl a (.head _) hab
      · exact hm a hma hab
    · rcases hb with hmem | rfl
      · rcases List.mem_cons.1 hmem with rfl | hbl
        · exact .inr (selectStep_first hm)
        · exact .inl hbl
      · exact .inr (selectStep_kept (hl k (.head _)))

/-- R31, R82: the berth has a run that crane `c` can start at instant `x`. -/
def Startable (s : State) (c x b : Nat) : Prop :=
  b ∈ armedOn s c ∧ ∃ p, (s.berthOf b).pend = some p ∧ p.ready ≤ x ∧ ∀ d, p.deadline = some d → x < d

/-- The berths among which the crane selects. -/
def startList (s : State) (c x : Nat) : List Nat :=
  (armedOn s c).filter (fun b => match (s.berthOf b).pend with
    | some p => decide (p.ready ≤ x) && (match p.deadline with | some d => decide (x < d) | none => true)
    | none => false)

theorem mem_startList {c x : Nat} : b ∈ startList s c x ↔ Startable s c x b := by
  rw [startList, List.mem_filter, Startable]
  refine and_congr_right fun _ => ?_
  cases (s.berthOf b).pend with
  | none => simp
  | some p => cases hd : p.deadline with
    | none => simp [hd]
    | some d => simp [hd]

/-- R30, R86: the crane selects the berth of lowest priority number, then of lowest berth number. -/
theorem selectRun_eq {c x : Nat} (h : Startable s c x b) (hfirst : ∀ m, Startable s c x m → m ≠ b → runsBefore s b m = true) :
    selectRun s c x = some b := by
  have hfold : selectRun s c x = (startList s c x).foldl (selectStep s) none := rfl
  rw [hfold]
  exact selectStep_foldl (fun a ha => hfirst a (mem_startList.1 ha)) (fun _ ha => nomatch ha) (.inl (mem_startList.2 h))

end

/-! ### The start of a run (R86, R98, R107) -/

section
variable {s : State} {c b x : Nat} {p : PendRun}

/-- The run that starts. -/
def startedRun (s : State) (b x : Nat) (p : PendRun) : Run := newRun s b x p.ready (s.get F.BERTH_STAT_region b) p.voided

/-- The berth and the crane of the run that starts. -/
def runSet (s : State) (c b x : Nat) (p : PendRun) : State :=
  (s.setBerth b { s.berthOf b with pend := none }).setCrane c { s.craneOf c with run := some (startedRun s b x p) }

theorem startRun_eq (h : (s.berthOf b).pend = some p) : startRun s c b x =
    ((((runSet s c b x p).put F.BERTH_STAT_ready b 0).put F.BERTH_STAT_running b 1).put F.BERTH_STAT_region b (startedRun s b x p).region).put
      F.CR_STAT_busy c 1 := by
  rw [startRun, h]
  rfl

@[simp] theorem put_craneOf (s : State) (f : Fld) (i v m : Nat) : (s.put f i v).craneOf m = s.craneOf m := rfl

theorem startRun_keeps {cls inst ch : Nat} {l : List RegName} {s0 : State} (h : BerthKeeps cls inst b c ch l s0 s) (hp : (s.berthOf b).pend = some p)
    (hl : .CR_STAT ∈ l) : BerthKeeps cls inst b c ch l s0 (startRun s c b x) := by
  rw [startRun_eq hp]
  exact (((((h.setBerth _).setCrane _ _).putBerth 0).putBerth 1).putBerth _).put 1 (.crane (by decide) hl)

theorem startRun_shows (hp : (s.berthOf b).pend = some p) : (startRun s c b x).is F.BERTH_STAT_running b = true ∧
    (startRun s c b x).is F.BERTH_STAT_ready b = false ∧ (startRun s c b x).is F.CR_STAT_busy c = true ∧
    (startRun s c b x).get F.BERTH_STAT_region b = (startedRun s b x p).region % 4 := by
  rw [startRun_eq hp]
  simp (disch := decide) only [State.put_is_apart, State.put_is_same, State.put_get_apart, State.put_get_same]
  exact ⟨rfl, rfl, rfl, rfl⟩

theorem startRun_engine (hp : (s.berthOf b).pend = some p) : ((startRun s c b x).berthOf b).pend = none ∧ (startRun s c b x).armed = s.armed ∧
    ((startRun s c b x).craneOf c).run = some (startedRun s b x p) := by
  rw [startRun_eq hp]
  simp only [put_berthOf, put_craneOf, runSet, setCrane_berthOf, State.setBerth_berthOf, State.setCrane_craneOf]
  exact ⟨trivial, rfl, trivial⟩

end

section
variable {t : Nat} {c : Fin 8} {b : Nat} {p : PendRun} {s : State}

/-- R30, R82, R86, R98, R107: a free crane starts the run that it selects. -/
theorem runStart_does (hen : s.is F.ENG_CTL_en 0 = true) (hrung : s.rung < 3) (ht : t % 64 = 0) (hrun : (s.craneOf c).run = none)
    (hfree : (s.craneOf c).freeAt ≤ t) (hnow : s.now ≤ t) (hb : Startable s c t b) (hp : (s.berthOf b).pend = some p)
    (hfirst : ∀ m, Startable s c t m → m ≠ b → runsBefore s b m = true) :
    Does (.runStart t c) s (fun s' => BerthFrame t b [.CR_STAT] s s' ∧ OthersKept .CR_STAT c s s' ∧ (s'.berthOf b).pend = none ∧
      s'.is F.BERTH_STAT_running b = true ∧ s'.is F.BERTH_STAT_ready b = false ∧ s'.is F.CR_STAT_busy c = true ∧ s'.armed = s.armed ∧
      s'.get F.BERTH_STAT_region b = (startedRun s b t p).region % 4 ∧ (s'.craneOf c).run = some (startedRun s b t p)) := by
  have htick : (s.tick t).now = t := Nat.max_eq_right hnow
  have hsel : selectRun (s.tick t) c (s.tick t).now = some b := by rw [htick]; exact selectRun_eq hb hfirst
  have hcond : ((s.tick t).is F.ENG_CTL_en 0 && timerOn (s.tick t) && (s.tick t).now % 64 == 0 && ((s.tick t).craneOf c).run.isNone &&
      decide (((s.tick t).craneOf c).freeAt ≤ (s.tick t).now) && (selectRun (s.tick t) c (s.tick t).now).isSome) = true := by
    rw [hsel, htick, show (s.tick t).is F.ENG_CTL_en 0 = true from hen, show timerOn (s.tick t) = true from decide_eq_true hrung, ht,
      show (s.tick t).craneOf c = s.craneOf c from rfl, hrun, decide_eq_true hfree]
    rfl
  refine does_of_event (show execRunStart t c s = _ from rfl) hcond ?_
  have hp' : ((s.tick t).berthOf b).pend = some p := hp
  rw [hsel]
  dsimp only
  rw [htick]
  have hkeep : BerthKeeps (5 + b / 128) (b % 128) b c 0 [.CR_STAT] (s.tick t) (startRun (s.tick t) c b t) :=
    startRun_keeps (.refl _) hp' (.head _)
  obtain ⟨hrunning, hready, hbusy, hregion⟩ := startRun_shows (c := c) (x := t) hp'
  obtain ⟨hpend, harmed, hcrane⟩ := startRun_engine (c := c) (x := t) hp'
  exact ⟨hkeep.berthFrame (.inl rfl), hkeep.othersCrane (by decide), hpend, hrunning, hready, hbusy, harmed, hregion, hcrane⟩

/-! ### A skip at the deadline (R31, R82, R83) -/

/-- The skip of a run of a berth outside a competition group, on a crane whose runs no bank logs. -/
theorem berthSkip_plain {x : Nat} (hp : (s.berthOf b).pend = some p) (hmem : s.is F.BERTH_GRP_mem b = false)
    (hlog : ∀ k < 64, s.get F.BANK_OWN_kind k ≠ 1 ∨ (s.get F.BANK_OWN_id k).testBit (s.get F.BERTH_CTL_crane b) = false) :
    berthSkip s b x = skipTold s b x := by
  have hkeep := skipTold_keeps s b x
  have hnolog : runLog (skipTold s b x) (s.get F.BERTH_CTL_crane b) b true x = skipTold s b x := runLog_none b true x fun k hk => by
    rw [hkeep.get _ (by decide), hkeep.get _ (by decide)]
    exact hlog k hk
  rw [berthSkip_eq hp, hnolog, skipRound, hkeep.is _ (by decide), hmem]
  exact if_neg Bool.false_ne_true

theorem skipTold_berthKeeps {l : List RegName} (s : State) (b x : Nat) (hl : .CR_STAT ∈ l) :
    BerthKeeps (5 + b / 128) (b % 128) b (s.get F.BERTH_CTL_crane b) 0 l s (skipTold s b x) := by
  have hcount : BerthKeeps (5 + b / 128) (b % 128) b (s.get F.BERTH_CTL_crane b) 0 l s (skipCounted s b) :=
    (((BerthKeeps.refl s).setBerth _).putBerth 0).flagBerth.incSat (.own (by decide))
  exact ((hcount.flag (.crane (by decide) hl)).berthFireIf _ _).raiseAt (by decide) _

theorem skipTold_get (s : State) (b x : Nat) {f : Fld} (i : Nat) (hf : f.reg ∉ [RegName.CR_STAT, .VU_PEND, .VU_LOST]) :
    (skipTold s b x).get f i = (skipCounted s b).get f i := by
  simp only [List.mem_cons, List.not_mem_nil, or_false, not_or] at hf
  obtain ⟨hstat, hpend, hlost⟩ := hf
  rw [skipTold, raiseAt_get, craneFlag, fireIf_get _ _ _ _ hpend hlost, State.flag_get_apart _ (absurd · hstat)]

theorem skipTold_shows (s : State) (b x : Nat) : (skipTold s b x).is F.BERTH_STAT_ready b = false ∧
    (skipTold s b x).is F.CR_STAT_ovr (s.get F.BERTH_CTL_crane b) = true := by
  refine ⟨(congrArg (· == 1) (skipTold_get s b x b (by decide))).trans ?_, ?_⟩
  · have hover : (skipCounted s b).get F.BERTH_STAT_ready b = (noPend s b).get F.BERTH_STAT_ready b :=
      (incSat_get_apart _ (by decide)).trans (State.flag_get_apart _ (by decide))
    exact (congrArg (· == 1) hover).trans (State.put_is_same _ _ _ _ (by decide))
  · rw [skipTold, raiseAt_is, craneFlag, fireIf_is _ _ _ _ (by decide) (by decide)]
    exact is_flag _ _ _ rfl (by decide)

theorem craneFlag_engine (s : State) (f ien : Fld) (c : Nat) : (craneFlag s f ien c).berth = s.berth ∧ (craneFlag s f ien c).crane = s.crane := by
  obtain ⟨harmed, hberth, hcrane, hadmq⟩ := fireIf_engine (s.flag f c) (s.is ien c) (400 + c)
  exact ⟨hberth, hcrane⟩

theorem skipTold_engine (s : State) (b x : Nat) : (skipTold s b x).berthOf b = { s.berthOf b with pend := none } ∧
    (skipTold s b x).crane = s.crane ∧ Out.fabric (5 + b / 128) (b % 128) 1 x ∈ (skipTold s b x).out := by
  obtain ⟨hberth, hcrane⟩ := craneFlag_engine (skipCounted s b) F.CR_STAT_ovr F.CR_IEN_ovr (s.get F.BERTH_CTL_crane b)
  refine ⟨?_, hcrane, List.mem_append_right _ (List.mem_singleton_self _)⟩
  have hself : (skipCounted s b).berthOf b = { s.berthOf b with pend := none } := State.setBerth_berthOf s b _
  rw [← hself, State.berthOf, State.berthOf, ← hberth]
  rfl

end

/-- R31, R82: a pending run is skipped at its deadline. -/
theorem runSkip_does {t d : Nat} {b : Fin 1024} {p : PendRun} {s : State} (hp : (s.berthOf b).pend = some p) (hd : p.deadline = some d)
    (hdue : d ≤ max s.now t) (hmem : s.is F.BERTH_GRP_mem b = false)
    (hlog : ∀ k < 64, s.get F.BANK_OWN_kind k ≠ 1 ∨ (s.get F.BANK_OWN_id k).testBit (s.get F.BERTH_CTL_crane b) = false) :
    Does (.runSkip t b) s (fun s' => BerthFrame t b [.CR_STAT] s s' ∧ OthersKept .CR_STAT (s.get F.BERTH_CTL_crane b) s s' ∧
      s'.berthOf b = { s.berthOf b with pend := none } ∧ s'.is F.BERTH_STAT_ready b = false ∧ s'.is F.BERTH_OVR_ovr b = true ∧
      s'.get F.BERTH_OVR_skips b = min (s.get F.BERTH_OVR_skips b + 1) 65535 ∧ s'.is F.CR_STAT_ovr (s.get F.BERTH_CTL_crane b) = true ∧
      s'.crane = s.crane ∧ Out.fabric (5 + b / 128) (b % 128) 1 d ∈ s'.out) := by
  have hp' : ((s.tick t).berthOf b).pend = some p := hp
  have hskip : berthSkip (s.tick t) b d = skipTold (s.tick t) b d := berthSkip_plain (s := s.tick t) hp hmem hlog
  refine does_of_event (show execRunSkip t b s = _ from rfl) ?_ ?_
  · simp only [hp', hd]
    exact decide_eq_true hdue
  · simp only [hp', hd, Option.getD_some]
    rw [hskip]
    have hkeep : BerthKeeps (5 + b / 128) (b % 128) b (s.get F.BERTH_CTL_crane b) 0 [.CR_STAT] (s.tick t) (skipTold (s.tick t) b d) :=
      skipTold_berthKeeps (s.tick t) b d (.head _)
    obtain ⟨hready, hcrane⟩ := skipTold_shows (s.tick t) b d
    obtain ⟨hberth, hcranes, hout⟩ := skipTold_engine (s.tick t) b d
    obtain ⟨hovr, hskips⟩ := skipCounted_over (s.tick t) b
    exact ⟨hkeep.berthFrame (.inl rfl), hkeep.othersCrane (by decide), hberth, hready,
      (congrArg (· == 1) (skipTold_get (s.tick t) b d b (by decide))).trans hovr, (skipTold_get (s.tick t) b d b (by decide)).trans hskips, hcrane,
      hcranes, hout⟩

end Sys2Proof.Machine
end

section
/-! PROOFS. The end of a run (04_loop_engine.md, R80, R83, R89, R104; 12_memory_locks_tides.md, R280). -/

namespace Sys2Proof.Machine

/-! ### The parts of the end of a run -/

/-- R83: the instant at which the run ends. -/
def Run.ends (r : Run) : Nat := r.start + ns r.pos

section
variable (s : State) (c : Nat) (r : Run)

/-- R83: the crane is free. -/
def runFreed : State := s.setCrane c { s.craneOf c with run := none, freeAt := r.ends }

/-- R102, R104, R118, R120: what the end of a member's run does to its round or its integrator. -/
def runSettled : State :=
  if r.mem && !r.voided then
    if groupLive s r.grp then
      if r.close then (if r.offered then s else (s.setRounds r.grp []).flag F.CG_STAT_abort r.grp)
      else s.setBerth r.berth { s.berthOf r.berth with pre := some ⟨r.ready, r.intw, r.at0.getD r.intw 0⟩ }
    else match r.prov with
      | some p => if r.tide.contains (16 * r.berth + r.intw) then s else stateWrite s (16 * r.berth + r.intw) p.v r.ends
      | none => s
  else s

/-- R83: the registers and the fabric take the end of the run. -/
def runTold : State :=
  ((s.put F.BERTH_STAT_running r.berth 0).put F.CR_STAT_busy c 0).raiseAt (5 + r.berth / 128) (r.berth % 128) 0 r.ends

/-- R89: a disarm that has waited for the end of the run. -/
def runDisarmed (b : Nat) : State := if (s.berthOf b).endOff then berthUnarm s b true else s

/-- R80: the berths chained to berth `b`. -/
def chainedTo (b : Nat) : List Nat := s.armed.filter (fun m => s.get F.BERTH_TRG_src m == 1 && s.get F.BERTH_TRG_num m == b)

/-- The state in which a run's end has been logged. -/
def runLogged : State := runLog (runTold (runSettled (runFreed s c r) r) c r) c r.berth false r.start

theorem endRun_eq : endRun s c r = (chainedTo (runDisarmed (runLogged s c r) r.berth) r.berth).foldl (fun s m => berthReady s m r.ends)
    (runDisarmed (runLogged s c r) r.berth) := rfl

end

section
variable {s : State} {c : Nat} {r : Run}

/-- What a run's end leaves of the device, its own state words and the rounds apart. -/
structure SettleKeeps (s s' : State) : Prop where
  frame : s' = { s with regs := s'.regs, hw := s'.hw, berth := s'.berth, rounds := s'.rounds, bram := s'.bram, engW := s'.engW }
  reg : ∀ k i, k ≠ .CG_STAT → s'.reg k i = s.reg k i
  berth : ∀ m, (s'.berthOf m).endOff = (s.berthOf m).endOff ∧ (s'.berthOf m).pend = (s.berthOf m).pend

theorem SettleKeeps.crane {s' : State} (h : SettleKeeps s s') : s'.crane = s.crane := by rw [h.frame]
theorem SettleKeeps.bstore {s' : State} (h : SettleKeeps s s') : s'.bstore = s.bstore := by rw [h.frame]
theorem SettleKeeps.armed {s' : State} (h : SettleKeeps s s') : s'.armed = s.armed := by rw [h.frame]
theorem SettleKeeps.rung {s' : State} (h : SettleKeeps s s') : s'.rung = s.rung := by rw [h.frame]

theorem runSettled_keeps (s : State) (r : Run) : SettleKeeps s (runSettled s r) := by
  have hself : SettleKeeps s s := ⟨rfl, fun _ _ _ => rfl, fun _ => ⟨rfl, rfl⟩⟩
  unfold runSettled
  split
  · split
    · split
      · split
        · exact hself
        · exact ⟨rfl, fun k i hk => State.put_reg_of_ne _ _ _ _ hk, fun _ => ⟨rfl, rfl⟩⟩
      · refine ⟨rfl, fun _ _ _ => rfl, fun m => ?_⟩
        by_cases hm : m = r.berth
        · rw [hm, State.setBerth_berthOf]
          exact ⟨rfl, rfl⟩
        · rw [State.setBerth_berthOf_ne _ _ hm]
          exact ⟨rfl, rfl⟩
    · split
      · split
        · exact hself
        · exact ⟨rfl, fun _ _ _ => rfl, fun _ => ⟨rfl, rfl⟩⟩
      · exact hself
  · exact hself

theorem runTold_shows (s : State) (c : Nat) (r : Run) : (runTold s c r).is F.BERTH_STAT_running r.berth = false ∧
    (runTold s c r).is F.CR_STAT_busy c = false ∧ Out.fabric (5 + r.berth / 128) (r.berth % 128) 0 r.ends ∈ (runTold s c r).out := by
  refine ⟨?_, ?_, List.mem_append_right _ (List.mem_singleton_self _)⟩
  · rw [runTold, raiseAt_is, State.put_is_apart _ _ (by decide)]
    exact State.put_is_same _ _ _ _ (by decide)
  · rw [runTold, raiseAt_is]
    exact State.put_is_same _ _ _ _ (by decide)

theorem runTold_get (s : State) (c : Nat) (r : Run) {f : Fld} (i : Nat) (hf : f.reg ∉ [RegName.BERTH_STAT, .CR_STAT]) :
    (runTold s c r).get f i = s.get f i := by
  simp only [List.mem_cons, List.not_mem_nil, or_false, not_or] at hf
  obtain ⟨hberth, hcrane⟩ := hf
  rw [runTold, raiseAt_get, State.put_get_apart _ _ (absurd · hcrane), State.put_get_apart _ _ (absurd · hberth)]

/-- What the end of a run has done when it is logged. -/
structure RunOver (s : State) (c : Nat) (r : Run) (s' : State) : Prop where
  crane : craneBusy (s'.craneOf c) = (none, r.ends)
  running : s'.is F.BERTH_STAT_running r.berth = false
  busy : s'.is F.CR_STAT_busy c = false
  out : Out.fabric (5 + r.berth / 128) (r.berth % 128) 0 r.ends ∈ s'.out
  bstore : s'.bstore = s.bstore

theorem RunOver.keeps {u w : State} (h : RunOver s c r u) (hk : EngKeeps busyFields craneBusy u w) : RunOver s c r w :=
  ⟨(hk.crane c).trans h.crane, (hk.shows _ (by decide)).trans h.running, (hk.shows _ (by decide)).trans h.busy, hk.out h.out,
    hk.bstore.trans h.bstore⟩

theorem runLogged_keeps (s : State) (c : Nat) (r : Run) {α : Type} {fs : List Fld} {v : CraneS → α} (hf : ∀ f ∈ fs, f.reg ∉ logRegs) :
    EngKeeps fs v (runTold (runSettled (runFreed s c r) r) c r) (runLogged s c r) := (EngKeeps.refl _).logs (.runLog ..) hf

theorem runLogged_over (s : State) (c : Nat) (r : Run) : RunOver s c r (runLogged s c r) := by
  obtain ⟨hrunning, hbusy, hout⟩ := runTold_shows (runSettled (runFreed s c r) r) c r
  have hsettle := runSettled_keeps (runFreed s c r) r
  have hcrane : (runSettled (runFreed s c r) r).crane = (runFreed s c r).crane := hsettle.crane
  have hbstore : (runSettled (runFreed s c r) r).bstore = s.bstore := hsettle.bstore
  have htold : RunOver s c r (runTold (runSettled (runFreed s c r) r) c r) := by
    refine ⟨?_, hrunning, hbusy, hout, hbstore⟩
    have hfreed : (runTold (runSettled (runFreed s c r) r) c r).craneOf c = { s.craneOf c with run := none, freeAt := r.ends } :=
      (congrArg (Store.get _ · c) hcrane).trans (State.setCrane_craneOf s c _)
    rw [hfreed]
    rfl
  exact htold.keeps (runLogged_keeps s c r (by decide))

/-- What the end of a run has left, when it is logged, of the berths and of what it does not write. -/
structure RunFrame (s s' : State) : Prop where
  armed : s'.armed = s.armed
  rung : s'.rung = s.rung
  get : ∀ f i, f.reg ∉ .CG_STAT :: engRegs → s'.get f i = s.get f i
  berth : ∀ m, (s'.berthOf m).endOff = (s.berthOf m).endOff ∧ (s'.berthOf m).pend = (s.berthOf m).pend

theorem runLogged_frame (s : State) (c : Nat) (r : Run) : RunFrame s (runLogged s c r) := by
  have hsettle := runSettled_keeps (runFreed s c r) r
  have hlog : EngKeeps [] id (runTold (runSettled (runFreed s c r) r) c r) (runLogged s c r) := runLogged_keeps s c r (by decide)
  have hberth : (runLogged s c r).berth = (runTold (runSettled (runFreed s c r) r) c r).berth :=
    show (logView _).berth = (logView _).berth from
      congrArg State.berth (LogKeeps.runLog (runTold (runSettled (runFreed s c r) r) c r) c r.berth false r.start).1.view
  refine ⟨hlog.armed.trans hsettle.armed, hlog.rung.trans hsettle.rung, fun f i hf => ?_, fun m => ?_⟩
  · rw [List.mem_cons, not_or] at hf
    have hmem : f.reg ∉ [RegName.BERTH_STAT, .CR_STAT] := fun h => hf.2 ((by decide : [RegName.BERTH_STAT, .CR_STAT] ⊆ engRegs) h)
    rw [hlog.get i hf.2, runTold_get _ _ _ _ hmem, State.get, hsettle.reg _ _ hf.1]
    rfl
  · rw [State.berthOf, hberth]
    exact hsettle.berth m

/-! ### A disarm at the end of the run (R89) -/

theorem retap_rest (s0 s : State) (ch : Nat) : (retap s0 s ch).out = s.out ∧ (retap s0 s ch).bstore = s.bstore ∧ (retap s0 s ch).rung = s.rung := by
  unfold retap
  dsimp only
  repeat' split
  all_goals exact ⟨rfl, rfl, rfl⟩

theorem disarmed_rest (s : State) (b : Nat) (hw : Bool) : (disarmed s b hw).out = s.out ∧ (disarmed s b hw).bstore = s.bstore ∧
    (disarmed s b hw).rung = s.rung := by
  rw [disarmed, roundsDropped_eq, berthDiscard_frame]
  cases hw <;> exact ⟨rfl, rfl, rfl⟩

theorem berthUnarm_rest (s : State) (b : Nat) (hw : Bool) : (berthUnarm s b hw).out = s.out ∧ (berthUnarm s b hw).bstore = s.bstore ∧
    (berthUnarm s b hw).rung = s.rung := by
  rw [berthUnarm_eq]
  obtain ⟨hout, hbstore, hrung⟩ := retap_rest s (showArmed (disarmed s b hw) (s.get F.BERTH_CTL_crane b)) (s.get F.BERTH_TRG_num b)
  obtain ⟨hout', hbstore', hrung'⟩ := disarmed_rest s b hw
  exact ⟨hout.trans hout', hbstore.trans hbstore', hrung.trans hrung'⟩

theorem berthUnarm_busy (s : State) (b : Nat) (hw : Bool) (c : Nat) : (berthUnarm s b hw).is F.CR_STAT_busy c = s.is F.CR_STAT_busy c := by
  rw [berthUnarm_eq, retap_is _ _ _ _ (by decide), showArmed, State.put_is_apart _ _ (by decide)]
  exact congrArg (· == 1) (disarmed_get s b hw c (by decide) (by decide))

theorem RunOver.disarmed {u : State} (h : RunOver s c r u) : RunOver s c r (runDisarmed u r.berth) := by
  unfold runDisarmed
  split
  · obtain ⟨hout, hbstore, hrung⟩ := berthUnarm_rest u r.berth true
    obtain ⟨harmed, hberth, hcrane, hrounds⟩ := berthUnarm_engine u r.berth true
    have hbusy : craneBusy ((berthUnarm u r.berth true).craneOf c) = craneBusy (u.craneOf c) := by
      rw [State.craneOf, hcrane]
      exact craneBusy_unmarked (berthDiscard_crane u r.berth c)
    have hrunning : (berthUnarm u r.berth true).is F.BERTH_STAT_running r.berth = u.is F.BERTH_STAT_running r.berth :=
      congrArg (· == 1) ((berthUnarm_get u _ _ _ (by decide) (by decide)).trans (disarmed_get u _ _ _ (by decide) (by decide)))
    exact ⟨hbusy.trans h.crane, hrunning.trans h.running, (berthUnarm_busy ..).trans h.busy, hout ▸ h.out, hbstore.trans h.bstore⟩
  · exact h

/-- R89: the berth is disarmed. -/
theorem runDisarmed_arm {b : Nat} (h : (s.berthOf b).endOff = true) : b ∉ (runDisarmed s b).armed ∧ (runDisarmed s b).is F.BERTH_CTL_arm b = false := by
  rw [runDisarmed, if_pos h]
  refine ⟨?_, (congrArg (· == 1) (berthUnarm_get s b true b (by decide) (by decide))).trans (disarmed_arm ..)⟩
  rw [(berthUnarm_engine s b true).1]
  simp

/-- A disarm leaves the trigger configuration, and the other armed berths. -/
theorem runDisarmed_kept (s : State) (b : Nat) : (runDisarmed s b).rung = s.rung ∧ (∀ m, m ≠ b → m ∈ s.armed → m ∈ (runDisarmed s b).armed) ∧
    ∀ f i, f.reg ∉ [RegName.BERTH_CTL, .BERTH_STAT, .CR_STAT, .EV_STAT] → (runDisarmed s b).get f i = s.get f i := by
  unfold runDisarmed
  split
  · refine ⟨(berthUnarm_rest s b true).2.2, fun m hm harmed => ?_, fun f i hf => ?_⟩
    · rw [(berthUnarm_engine s b true).1]
      simp [hm, harmed]
    · rw [State.get, berthUnarm_reg _ _ _ _ hf, State.get]
  · exact ⟨rfl, fun _ _ h => h, fun _ _ _ => rfl⟩

end

end Sys2Proof.Machine
end

section
/-! PROOFS. The berths chained to a run that ends, and the statements on triggers and runs (04_loop_engine.md, R79 to R87). -/

namespace Sys2Proof.Machine

/-! ### The chained berths (R80) -/

section
variable {s : State} {x : Nat}

/-- Berths become ready at instant `x`, one after another. -/
def chainReady (s : State) (l : List Nat) (x : Nat) : State := l.foldl (fun s m => berthReady s m x) s

theorem chainReady_keeps (s : State) (l : List Nat) (x : Nat) : EngKeeps busyFields craneBusy s (chainReady s l x) :=
  List.foldlRecOn (motive := EngKeeps busyFields craneBusy s) _ _ (.refl s) fun u hu m _ => hu.trans (berthReady_keeps u m x)

theorem Takes.of_keeps {u : State} {m : Nat} (h : Takes s m) (hk : EngKeeps busyFields craneBusy s u) : Takes u m := by
  obtain ⟨harmed, hen, hrung⟩ := h
  exact ⟨hk.armed ▸ harmed, (hk.is 0 (by decide)).trans hen, hk.rung ▸ hrung⟩

/-- The instant at which a berth's pending run became ready. -/
def readyAt (s : State) (m : Nat) : Option Nat := (s.berthOf m).pend.map (·.ready)

theorem readyAt_of_unmarked {u : State} {m : Nat} (h : (u.berthOf m).unmarked = (s.berthOf m).unmarked) : readyAt u m = readyAt s m := by
  have hpend : (u.berthOf m).pend.map PendRun.unmarked = (s.berthOf m).pend.map PendRun.unmarked := congrArg (fun y : BerthS => y.pend) h
  have hready : ∀ p : Option PendRun, p.map (·.ready) = (p.map PendRun.unmarked).map (·.ready) := by rintro (_ | _) <;> rfl
  rw [readyAt, readyAt, hready, hpend, ← hready]

theorem berthReady_readyAt {m : Nat} (h : Takes s m) : readyAt (berthReady s m x) m = some x := by
  rw [readyAt, (berthReady_shows h).1]
  rfl

/-- A berth that takes its triggers stays ready at the instant at which the chained berths become so. -/
theorem chainReady_readyAt_kept {l : List Nat} {m : Nat} (h : Takes s m) (hm : readyAt s m = some x) : readyAt (chainReady s l x) m = some x := by
  induction l generalizing s with
  | nil => exact hm
  | cons k l ih =>
    refine ih (h.of_keeps (berthReady_keeps s k x)) ?_
    by_cases hkm : m = k
    · exact hkm ▸ berthReady_readyAt (hkm ▸ h)
    · rw [readyAt_of_unmarked (berthReady_other s k x hkm), hm]

theorem chainReady_readyAt {l : List Nat} (h : ∀ m ∈ l, Takes s m) : ∀ m ∈ l, readyAt (chainReady s l x) m = some x := by
  induction l generalizing s with
  | nil => exact fun _ hm => nomatch hm
  | cons k l ih =>
    have hkeeps := berthReady_keeps s k x
    intro m hm
    rcases List.mem_cons.1 hm with rfl | hml
    · show readyAt (chainReady (berthReady s m x) l x) m = some x
      exact chainReady_readyAt_kept ((h _ hm).of_keeps hkeeps) (berthReady_readyAt (h _ hm))
    · exact ih (fun j hj => (h j (.tail _ hj)).of_keeps hkeeps) m hml

theorem mem_chainedTo {b m : Nat} : m ∈ chainedTo s b ↔ m ∈ s.armed ∧ s.get F.BERTH_TRG_src m = 1 ∧ s.get F.BERTH_TRG_num m = b := by
  simp [chainedTo]

end

/-! ### The end of a run -/

section
variable {s : State} {c : Nat} {r : Run}

theorem endRun_chain (s : State) (c : Nat) (r : Run) : endRun s c r =
    chainReady (runDisarmed (runLogged s c r) r.berth) (chainedTo (runDisarmed (runLogged s c r) r.berth) r.berth) r.ends := rfl

theorem endRun_over (s : State) (c : Nat) (r : Run) : RunOver s c r (endRun s c r) :=
  endRun_chain s c r ▸ (runLogged_over s c r).disarmed.keeps (chainReady_keeps ..)

theorem endRun_disarms (h : (s.berthOf r.berth).endOff = true) : r.berth ∉ (endRun s c r).armed ∧
    (endRun s c r).is F.BERTH_CTL_arm r.berth = false := by
  have hkeeps := chainReady_keeps (runDisarmed (runLogged s c r) r.berth) (chainedTo (runDisarmed (runLogged s c r) r.berth) r.berth) r.ends
  obtain ⟨harmed, harm⟩ := runDisarmed_arm (((runLogged_frame s c r).berth r.berth).1.trans h)
  rw [endRun_chain]
  exact ⟨hkeeps.armed ▸ harmed, (hkeeps.is _ (by decide)).trans harm⟩

/-- R80: a chained berth becomes ready at the instant of the end. -/
theorem endRun_chained {m : Nat} (h : Takes s m) (hm : m ≠ r.berth) (hsrc : s.get F.BERTH_TRG_src m = 1) (hnum : s.get F.BERTH_TRG_num m = r.berth) :
    readyAt (endRun s c r) m = some r.ends := by
  obtain ⟨harmed, hen, hrung⟩ := h
  have hframe := runLogged_frame s c r
  obtain ⟨hrung', harmed', hget'⟩ := runDisarmed_kept (runLogged s c r) r.berth
  have hget : ∀ f : Fld, f.reg ∈ [RegName.BERTH_TRG, .ENG_CTL] → ∀ i, (runDisarmed (runLogged s c r) r.berth).get f i = s.get f i :=
    fun f hf i => (hget' f i ((by decide : ∀ k ∈ [RegName.BERTH_TRG, .ENG_CTL], k ∉ [RegName.BERTH_CTL, .BERTH_STAT, .CR_STAT, .EV_STAT]) _ hf)).trans
      (hframe.get f i ((by decide : ∀ k ∈ [RegName.BERTH_TRG, .ENG_CTL], k ∉ RegName.CG_STAT :: engRegs) _ hf))
  have htakes : ∀ k ∈ (runDisarmed (runLogged s c r) r.berth).armed, Takes (runDisarmed (runLogged s c r) r.berth) k := fun k hk =>
    ⟨hk, (congrArg (· == 1) (hget F.ENG_CTL_en (by decide) 0)).trans hen, hrung'.trans hframe.rung ▸ hrung⟩
  rw [endRun_chain]
  refine chainReady_readyAt (fun k hk => htakes k (mem_chainedTo.1 hk).1) m (mem_chainedTo.2 ⟨harmed' m hm (hframe.armed ▸ harmed), ?_, ?_⟩)
  · exact (hget F.BERTH_TRG_src (by decide) m).trans hsrc
  · exact (hget F.BERTH_TRG_num (by decide) m).trans hnum

/-- R83: the end of a run of a berth outside a competition group, whose disarm does not wait, to which no berth is chained, and which no bank logs. -/
theorem endRun_plain (hmem : r.mem = false) (hoff : (s.berthOf r.berth).endOff = false)
    (hchain : ∀ m ∈ s.armed, s.get F.BERTH_TRG_src m ≠ 1 ∨ s.get F.BERTH_TRG_num m ≠ r.berth)
    (hlog : ∀ k < 64, s.get F.BANK_OWN_kind k ≠ 1 ∨ (s.get F.BANK_OWN_id k).testBit c = false) :
    endRun s c r = runTold (runFreed s c r) c r := by
  have hsettle : runSettled (runFreed s c r) r = runFreed s c r := by rw [runSettled, hmem]; exact if_neg Bool.false_ne_true
  have hget : ∀ f : Fld, f.reg ∉ [RegName.BERTH_STAT, .CR_STAT] → ∀ i, (runTold (runFreed s c r) c r).get f i = s.get f i :=
    fun f hf i => runTold_get (runFreed s c r) c r i hf
  have hlogged : runLogged s c r = runTold (runFreed s c r) c r := by
    rw [runLogged, hsettle]
    refine runLog_none _ _ _ fun k hk => ?_
    rw [hget _ (by decide), hget _ (by decide)]
    exact hlog k hk
  have hdisarm : runDisarmed (runTold (runFreed s c r) c r) r.berth = runTold (runFreed s c r) c r :=
    if_neg (by rw [show ((runTold (runFreed s c r) c r).berthOf r.berth).endOff = false from hoff]; exact Bool.false_ne_true)
  have hnone : chainedTo (runTold (runFreed s c r) c r) r.berth = [] := by
    refine List.eq_nil_iff_forall_not_mem.2 fun m hm => ?_
    obtain ⟨harmed, hsrc, hnum⟩ := mem_chainedTo.1 hm
    rw [hget _ (by decide)] at hsrc hnum
    exact (hchain m harmed).elim (· hsrc) (· hnum)
  rw [endRun_chain, hlogged, hdisarm, hnone]
  rfl

theorem runTold_berthKeeps (s : State) (c : Nat) (r : Run) :
    BerthKeeps (5 + r.berth / 128) (r.berth % 128) r.berth c 0 [.CR_STAT] s (runTold (runFreed s c r) c r) := by
  have hfreed : BerthKeeps (5 + r.berth / 128) (r.berth % 128) r.berth c 0 [.CR_STAT] s (runFreed s c r) := (BerthKeeps.refl s).setCrane c _
  have hput : BerthKeeps (5 + r.berth / 128) (r.berth % 128) r.berth c 0 [.CR_STAT] s
      (((runFreed s c r).put F.BERTH_STAT_running r.berth 0).put F.CR_STAT_busy c 0) :=
    (hfreed.putBerth 0).put 0 (.crane (by decide) (.head _))
  exact hput.raiseAt (ev := 0) (by decide) _

end

section
variable {c : Fin 8} {s : State} {r : Run}

/-- R83: a run whose last instruction has completed ends. -/
theorem does_of_runEnd {P : State → Prop} (hrun : (s.craneOf c).run = some r) (hpos : r.prog.length ≤ r.pos)
    (hP : P (endRun (s.tick r.ends) c r)) : Does (.runEnd c) s P := by
  refine ⟨_, (?_ : execRunEnd c s = _), hP⟩
  rw [execRunEnd, hrun]
  exact if_pos hpos

theorem runEnd_plain (hrun : (s.craneOf c).run = some r) (hpos : r.prog.length ≤ r.pos) (hmem : r.mem = false)
    (hoff : (s.berthOf r.berth).endOff = false)
    (hchain : ∀ m ∈ s.armed, s.get F.BERTH_TRG_src m ≠ 1 ∨ s.get F.BERTH_TRG_num m ≠ r.berth)
    (hlog : ∀ k < 64, s.get F.BANK_OWN_kind k ≠ 1 ∨ (s.get F.BANK_OWN_id k).testBit c = false) :
    Does (.runEnd c) s (fun s' => BerthFrame r.ends r.berth [.CR_STAT] s s' ∧ OthersKept .CR_STAT c s s' ∧
      s'.craneOf c = { s.craneOf c with run := none, freeAt := r.ends } ∧
      s'.is F.BERTH_STAT_running r.berth = false ∧ s'.is F.CR_STAT_busy c = false ∧ s'.berth = s.berth ∧ s'.armed = s.armed ∧
      Out.fabric (5 + r.berth / 128) (r.berth % 128) 0 r.ends ∈ s'.out) := by
  refine does_of_runEnd hrun hpos ?_
  have hplain : endRun (s.tick r.ends) c r = runTold (runFreed (s.tick r.ends) c r) c r := endRun_plain hmem hoff hchain hlog
  have hkeep : BerthKeeps (5 + r.berth / 128) (r.berth % 128) r.berth c 0 [.CR_STAT] (s.tick r.ends) (endRun (s.tick r.ends) c r) :=
    hplain ▸ runTold_berthKeeps _ c r
  have hover := endRun_over (s.tick r.ends) c r
  refine ⟨hkeep.berthFrame (.inl rfl), hkeep.othersCrane (by decide), ?_, hover.running, hover.busy, ?_, ?_, hover.out⟩
  · rw [hplain]
    exact State.setCrane_craneOf (s.tick r.ends) c _
  · rw [hplain]
    rfl
  · rw [hplain]
    rfl

theorem runEnd_does (hrun : (s.craneOf c).run = some r) (hpos : r.prog.length ≤ r.pos) : Does (.runEnd c) s (fun s' =>
    (s'.craneOf c).run = none ∧ (s'.craneOf c).freeAt = r.ends ∧ s'.is F.BERTH_STAT_running r.berth = false ∧
      s'.is F.CR_STAT_busy c = false ∧ Out.fabric (5 + r.berth / 128) (r.berth % 128) 0 r.ends ∈ s'.out ∧ s'.bstore = s.bstore ∧
      ((s.berthOf r.berth).endOff = true → r.berth ∉ s'.armed ∧ s'.is F.BERTH_CTL_arm r.berth = false) ∧
      (s.is F.ENG_CTL_en 0 = true → s.rung < 3 → ∀ m ∈ s.armed, m ≠ r.berth → s.get F.BERTH_TRG_src m = 1 →
        s.get F.BERTH_TRG_num m = r.berth → (s'.berthOf m).pend.map (·.ready) = some r.ends)) := by
  refine does_of_runEnd hrun hpos ?_
  have hover := endRun_over (s.tick r.ends) c r
  have hnone : ((endRun (s.tick r.ends) c r).craneOf c).run = none := Option.map_eq_none_iff.1 (congrArg Prod.fst hover.crane)
  exact ⟨hnone, congrArg Prod.snd hover.crane, hover.running, hover.busy, hover.out, hover.bstore, fun h => endRun_disarms (s := s.tick r.ends) h,
    fun hen hrung m harmed hm hsrc hnum => endRun_chained (s := s.tick r.ends) ⟨harmed, hen, hrung⟩ hm hsrc hnum⟩

end

/-! ### The statements -/

theorem runsRules : RunsRules := by
  refine ⟨fun t c b p s hen hrung ht hrun hfree hnow hon hp hready hdl hfirst => ?_,
    fun c r s hrun hpos hmem hoff hchain hlog => runEnd_plain hrun hpos hmem hoff hchain hlog,
    fun c r s hrun hpos => runEnd_does hrun hpos, fun t b p d s hp hd hdue hmem hlog => runSkip_does hp hd hdue hmem hlog⟩
  have hbefore : ∀ m, Startable s c t m → m ≠ b → runsBefore s b m = true := by
    rintro m ⟨hmon, q, hq, hqr, -⟩ hmb
    exact runsBefore_iff.2 (hfirst m hmon hmb q hq hqr)
  obtain ⟨s', hexec, hframe, hothers, hpend, hrunning, hnready, hbusy, harmed, hregion, hcrane⟩ :=
    runStart_does hen hrung ht hrun hfree hnow ⟨hon, p, hp, hready, hdl⟩ hp hbefore
  exact ⟨s', hexec, hframe, hothers, hpend, hrunning, hnready, hbusy, harmed,
    startedRun s b t p, hcrane, rfl, rfl, rfl, rfl, rfl, rfl, rfl, rfl, hregion.symm⟩

end Sys2Proof.Machine

namespace Sys2Proof.Settled

open Sys2Proof.Machine

/-- Settles O29: a trigger that is taken skips a run still pending and makes a new one; a crane's selection is the least of its ready berths; the end
of a run goes through its parts, each of which keeps what the next one reads. -/
theorem berthRuns : Obligations.BerthRuns := ⟨berthTriggersRules, runsRules⟩

end Sys2Proof.Settled
end

section
/-! PROOFS. What the rootstock's reads of flash and SRAM and its copies into SRAM leave of the device, and what they read and write (12_memory_locks_tides.md,
R281, R282; 13_flash.md, R301; 17_boot_and_security.md, R388, R390, R392). -/

namespace Sys2Proof.Machine

/-! ### What a verification keeps -/

/-- What the reads and the copies of a verification do not touch beside registers. -/
def bootView (s : State) : State := { s with out := [], regs := [], hw := [], srcAt := [], vsrc := [], sram := [], free := 0 }

abbrev readRegs : List RegName := [.FL_ECCCNT, .MEM_ECCADR, .MEM_ECCCNT, .VU_PEND, .VU_LOST]

/-- From `s` to `s'` lines have been read, or copied to SRAM. -/
abbrev ReadKeeps (s s' : State) : Prop := Keeps bootView 0 0 (fun r _ => r ∈ readRegs) s s'

section
variable {s u : State}

theorem ReadKeeps.refl (s : State) : ReadKeeps s s := Keeps.refl (fun _ _ _ _ _ _ => rfl) s

theorem ReadKeeps.draw (h : ReadKeeps s u) (m : Nat) : ReadKeeps s (u.draw m).2 := h.hidden rfl rfl rfl rfl

theorem ReadKeeps.setSram (h : ReadKeeps s u) (k : Nat) (x : MCell) : ReadKeeps s (u.setSram k x) := h.hidden rfl rfl rfl rfl

theorem ReadKeeps.fireIf (h : ReadKeeps s u) (p : Bool) (k : Nat) : ReadKeeps s (u.fireIf p k) :=
  Keeps.fireIf h (fun _ => by decide) (fun _ => by decide) p k

theorem ReadKeeps.incSat (h : ReadKeeps s u) {f : Fld} (i : Nat) (hf : f.reg ∈ readRegs) : ReadKeeps s (u.incSat f i) := Keeps.incSat h hf

theorem ReadKeeps.memUe (h : ReadKeeps s u) (req c k : Nat) : ReadKeeps s (memUe u req c k) :=
  ReadKeeps.fireIf (((Keeps.put h req (by decide)).put _ (by decide)).put _ (by decide)) _ _

/-- R281, R282: the read of a word. -/
theorem ReadKeeps.sramRead (h : ReadKeeps s u) (req c k : Nat) : ReadKeeps s (sramRead u req c k).2 := by
  unfold Machine.sramRead
  dsimp only
  split
  · exact h
  · exact ((h.setSram _ _).incSat 0 (by decide)).fireIf _ _
  · exact h.memUe _ _ _

theorem ReadKeeps.readLine (h : ReadKeeps s u) (req c a : Nat) : ReadKeeps s (readLine u req c a).2 := by
  have hread := (((h.sramRead req c (sramIx a)).sramRead req c (sramIx a + 1)).sramRead req c (sramIx a + 2)).sramRead req c (sramIx a + 3)
  unfold Machine.readLine
  dsimp only
  split <;> exact hread

/-- R301: the read of a line of flash. -/
theorem ReadKeeps.flashLine (h : ReadKeeps s u) (l : Nat) : ReadKeeps s (flashLine u l).2 := by
  unfold Machine.flashLine
  dsimp only
  split
  · exact h.draw (2 ^ 72)
  · split
    · exact h
    · exact h.incSat 0 (by decide)
    · exact h

theorem ReadKeeps.flashImage (h : ReadKeeps s u) (l n : Nat) : ReadKeeps s (flashImage u l n).2 := by
  induction n generalizing l u with
  | zero => exact h
  | succ n ih => exact ih (h.flashLine l) (l + 1)

theorem ReadKeeps.sramImage (h : ReadKeeps s u) (k n : Nat) : ReadKeeps s (sramImage u k n).2 := by
  induction n generalizing k u with
  | zero => exact h
  | succ n ih => exact ih (h.readLine 0 0 _) (k + 4)

theorem ReadKeeps.srcLines (h : ReadKeeps s u) (src i n : Nat) : ReadKeeps s (srcLines u src i n).2 := by
  unfold Machine.srcLines
  split
  · exact h.flashImage _ n
  · exact h.sramImage _ n

/-- R282: a word that the rootstock stores. -/
theorem ReadKeeps.sramOver (h : ReadKeeps s u) (k : Nat) (w : BitVec 18) : ReadKeeps s (sramOver u 0 0 k w false) := by
  unfold Machine.sramOver
  split
  · exact (h.memUe 0 0 k).setSram _ _
  · exact h.setSram _ _

theorem ReadKeeps.putLines (h : ReadKeeps s u) (k : Nat) (ls : List Line) : ReadKeeps s (putLines u k ls) := by
  unfold Machine.putLines
  induction ls generalizing k u with
  | nil => exact h
  | cons d ls ih => exact ih ((((h.sramOver _ _).sramOver _ _).sramOver _ _).sramOver _ _) (k + 4)

theorem ReadKeeps.loadLine (h : ReadKeeps s u) (hd : Image) (i : Nat) (l : Option Line) : ReadKeeps s (loadLine u hd i l) := by
  unfold Machine.loadLine
  dsimp only
  split
  · split
    · exact h.putLines _ _
    · exact h
  · exact h

theorem ReadKeeps.hashLines (h : ReadKeeps s u) (src : Nat) (hd : Image) (i n : Nat) : ReadKeeps s (hashLines u src hd i n).2 := by
  induction n generalizing i u with
  | zero => exact h
  | succ n ih => exact ih ((h.srcLines src i 1).loadLine hd i _) (i + 1)

/-! ### The lines of flash (R301, R305, R313) -/

/-- What a read of a line of an idle bank gives: its data, or none for an uncorrectable error; anything of an undefined line. -/
def FlashAs (s : State) (l : Nat) (x : Option Line) : Prop :=
  (s.flBlkOf (l / 1024)).ecomp = true → (s.flashOf l).undef = false → x = if (s.flashOf l).ecc = .bad then none else some (s.flashOf l).d

theorem flashLine_as (s : State) (l : Nat) : FlashAs s l (flashLine s l).1 := by
  intro hcomp hdef
  rw [flashLine, hcomp, hdef]
  cases hecc : (s.flashOf l).ecc <;> simp

theorem FlashAs.of_keeps {l : Nat} {x : Option Line} (h : FlashAs u l x) (hk : ReadKeeps s u) : FlashAs s l x := by
  have hflash : u.flash = s.flash := show (bootView u).flash = (bootView s).flash from congrArg State.flash hk.view
  have hblk : u.flBlk = s.flBlk := show (bootView u).flBlk = (bootView s).flBlk from congrArg State.flBlk hk.view
  unfold FlashAs at h ⊢
  rwa [State.flBlkOf, State.flashOf, hflash, hblk] at h

theorem flashImage_as (hk : ReadKeeps s u) (l n : Nat) : (flashImage u l n).1.length = n ∧
    ∀ i < n, FlashAs s (l + i) ((flashImage u l n).1.getD i none) := by
  induction n generalizing l u with
  | zero => exact ⟨rfl, fun _ h => absurd h (Nat.not_lt_zero _)⟩
  | succ n ih =>
    obtain ⟨hlen, has⟩ := ih (hk.flashLine l) (l + 1)
    refine ⟨congrArg (· + 1) hlen, fun i hi => ?_⟩
    cases i with
    | zero => exact (flashLine_as u l).of_keeps hk
    | succ i => exact (Nat.add_right_comm l 1 i) ▸ has i (Nat.lt_of_succ_lt_succ hi)

theorem flashLine_sram (s : State) (l : Nat) : (flashLine s l).2.sram = s.sram := by
  unfold flashLine
  dsimp only
  split
  · rfl
  · split <;> rfl

/-- A read of flash leaves SRAM. -/
theorem flashImage_sram (s : State) (l n : Nat) : (flashImage s l n).2.sram = s.sram := by
  induction n generalizing l s with
  | zero => rfl
  | succ n ih => exact (ih _ (l + 1)).trans (flashLine_sram s l)

/-! ### The lines of SRAM (R281, R282) -/

theorem sramRead_other (s : State) (req c k : Nat) {j : Nat} (hj : j ≠ k) : (sramRead s req c k).2.sramOf j = s.sramOf j := by
  have hfire : ∀ (v : State) (p : Bool) (n : Nat), (v.fireIf p n).sram = v.sram := fun v p n => fireIf_view (fun _ _ _ _ _ _ => rfl) v p n
  unfold sramRead
  dsimp only
  split
  · rfl
  · rw [memCe, memCause, State.sramOf, hfire]
    exact State.setSram_sramOf_ne _ _ hj
  · rw [memUe, memCause, State.sramOf, hfire]
    rfl

theorem sramRead_good {k : Nat} (h : (s.sramOf k).ecc = .good) (req c : Nat) : sramRead s req c k = (some (s.sramOf k), s) := by
  simp [sramRead, h]

theorem readLine_other (s : State) (req c a : Nat) {j : Nat} (hj : j < sramIx a ∨ sramIx a + 4 ≤ j) :
    (readLine s req c a).2.sramOf j = s.sramOf j := by
  have hread : (sramRead (sramRead (sramRead (sramRead s req c (sramIx a)).2 req c (sramIx a + 1)).2 req c (sramIx a + 2)).2 req c
      (sramIx a + 3)).2.sramOf j = s.sramOf j := by
    rw [sramRead_other _ _ _ _ (by omega), sramRead_other _ _ _ _ (by omega), sramRead_other _ _ _ _ (by omega), sramRead_other _ _ _ _ (by omega)]
  unfold readLine
  dsimp only
  split <;> exact hread

/-- The data of the line at SRAM word `k`. -/
def wordsLine (s : State) (k : Nat) : Line := (s.sramOf k).w ++ (s.sramOf (k + 1)).w ++ (s.sramOf (k + 2)).w ++ (s.sramOf (k + 3)).w

theorem readLine_good {a : Nat} (h : ∀ j < 4, (s.sramOf (sramIx a + j)).ecc = .good) (req c : Nat) :
    (readLine s req c a).1.map Prod.fst = some (wordsLine s (sramIx a)) := by
  have h0 := sramRead_good (h 0 (by decide)) req c
  have h1 := sramRead_good (h 1 (by decide)) req c
  have h2 := sramRead_good (h 2 (by decide)) req c
  have h3 := sramRead_good (h 3 (by decide)) req c
  unfold readLine wordsLine
  generalize sramIx a = k at h0 h1 h2 h3
  rw [Nat.add_zero] at h0
  simp only [h0, h1, h2, h3]
  rfl

theorem sramIx_line (k : Nat) : sramIx (0o040000000 + 2 * k) = k := by
  rw [sramIx, Nat.add_sub_cancel_left, Nat.mul_div_cancel_left _ (by decide)]

theorem sramImage_length (s : State) (k n : Nat) : (sramImage s k n).1.length = n := by
  induction n generalizing k s with
  | zero => rfl
  | succ n ih => exact congrArg (· + 1) (ih _ _)

/-- A good line of SRAM reads as it stands. -/
theorem sramImage_good (k n : Nat) (hu : ∀ j, k ≤ j → u.sramOf j = s.sramOf j) {i : Nat} (hi : i < n)
    (h : ∀ j < 4, (s.sramOf (k + 4 * i + j)).ecc = .good) : (sramImage u k n).1.getD i none = some (wordsLine s (k + 4 * i)) := by
  induction n generalizing k i u with
  | zero => exact absurd hi (Nat.not_lt_zero _)
  | succ n ih =>
    cases i with
    | zero =>
      have hgood : ∀ j < 4, (u.sramOf (sramIx (0o040000000 + 2 * k) + j)).ecc = .good := fun j hj => by
        rw [sramIx_line, hu _ (Nat.le_add_right _ _)]
        exact h j hj
      have hline : wordsLine u k = wordsLine s k := by
        rw [wordsLine, wordsLine, hu _ le_rfl, hu _ (Nat.le_add_right _ _), hu _ (Nat.le_add_right _ _), hu _ (Nat.le_add_right _ _)]
      have hread := readLine_good hgood 0 0
      rw [sramIx_line, hline] at hread
      exact hread
    | succ i =>
      have hidx : k + 4 * (i + 1) = k + 4 + 4 * i := by omega
      rw [hidx] at h ⊢
      refine ih (k + 4) (fun j hj => ?_) (Nat.lt_of_succ_lt_succ hi) h
      have hother := readLine_other (s := u) 0 0 (0o040000000 + 2 * k) (.inr (by rwa [sramIx_line]) : j < _ ∨ _)
      exact hother.trans (hu j (by omega))

end

end Sys2Proof.Machine
end

section
/-! PROOFS. The words that the rootstock copies into SRAM, and the lines that a verification reads (12_memory_locks_tides.md, R282;
17_boot_and_security.md, R388, R390, R392). -/

namespace Sys2Proof.Machine

/-! ### Words and lines copied (R282) -/

section
variable {s : State}

theorem memUe_sram (s : State) (req c k : Nat) : (memUe s req c k).sram = s.sram := by
  rw [memUe, memCause]
  exact fireIf_view (view := State.sram) (fun _ _ _ _ _ _ => rfl) _ _ _

theorem sramOver_sramOf (s : State) (k : Nat) (w : BitVec 18) (j : Nat) :
    (sramOver s 0 0 k w false).sramOf j = if j = k then ⟨w, false, .good⟩ else s.sramOf j := by
  have hcell : ∀ v : State, v.sram = s.sram → (sramPut v k w false).sramOf j = if j = k then ⟨w, false, .good⟩ else s.sramOf j := by
    intro v hv
    rw [sramPut]
    split
    · next h => rw [h, State.setSram_sramOf]
    · next h => rw [State.setSram_sramOf_ne _ _ h, State.sramOf, hv]
  unfold sramOver
  split
  · exact hcell _ (memUe_sram s 0 0 k)
  · exact hcell s rfl

/-- A word that was correctable is replaced without any other effect. -/
theorem sramOver_eq {k : Nat} (h : (s.sramOf k).ecc ≠ .bad) (w : BitVec 18) : sramOver s 0 0 k w false = s.setSram k ⟨w, false, .good⟩ := by
  rw [sramOver, if_neg h]
  rfl

/-- The state after the four words of a line. -/
def putLine (s : State) (k : Nat) (d : Line) : State :=
  [0, 1, 2, 3].foldl (fun s i => sramOver s 0 0 (k + i) (d.extractLsb' (54 - 18 * i) 18) false) s

theorem putLines_cons (s : State) (k : Nat) (d : Line) (ls : List Line) : putLines s k (d :: ls) = putLines (putLine s k d) (k + 4) ls := rfl

/-- Word `j` of a line as SRAM holds it. -/
def lineCell (d : Line) (j : Nat) : MCell := ⟨d.extractLsb' (54 - 18 * j) 18, false, .good⟩

theorem putLine_sramOf (s : State) (k : Nat) (d : Line) (j : Nat) :
    (putLine s k d).sramOf j = if k ≤ j ∧ j < k + 4 then lineCell d (j - k) else s.sramOf j := by
  simp only [putLine, List.foldl_cons, List.foldl_nil, sramOver_sramOf, Nat.add_zero]
  by_cases h : k ≤ j ∧ j < k + 4
  · obtain ⟨i, hi, rfl⟩ : ∃ i < 4, j = k + i := ⟨j - k, by omega, by omega⟩
    rw [if_pos h, Nat.add_sub_cancel_left]
    interval_cases i <;> simp [lineCell]
  · rw [if_neg h, if_neg (by omega), if_neg (by omega), if_neg (by omega), if_neg (by omega)]

theorem putLines_sramOf (s : State) (k : Nat) (ls : List Line) (j : Nat) : (putLines s k ls).sramOf j =
    if k ≤ j ∧ j < k + 4 * ls.length then lineCell (ls.getD ((j - k) / 4) 0) ((j - k) % 4) else s.sramOf j := by
  induction ls generalizing s k with
  | nil => 
    rw [if_neg (by rw [List.length_nil]; omega)]
    rfl
  | cons d ls ih =>
    rw [putLines_cons, ih, List.length_cons, putLine_sramOf]
    by_cases hnext : k + 4 ≤ j ∧ j < k + 4 + 4 * ls.length
    · rw [if_pos hnext, if_pos (by omega), show (j - k) / 4 = (j - (k + 4)) / 4 + 1 by omega, show (j - k) % 4 = (j - (k + 4)) % 4 by omega]
      rfl
    · rw [if_neg hnext]
      by_cases hline : k ≤ j ∧ j < k + 4
      · rw [if_pos hline, if_pos (by omega), show (j - k) / 4 = 0 by omega, show (j - k) % 4 = j - k by omega]
        rfl
      · rw [if_neg hline, if_neg (by omega)]

/-- Nothing but SRAM differs. -/
def SramOnly (s u : State) : Prop := u = { s with sram := u.sram }

theorem SramOnly.over {u : State} (h : SramOnly s u) {k : Nat} (hk : (u.sramOf k).ecc ≠ .bad) (w : BitVec 18) :
    SramOnly s (sramOver u 0 0 k w false) := by
  rw [sramOver_eq hk, h]
  rfl

theorem sramOver_ne_bad {j : Nat} (h : (s.sramOf j).ecc ≠ .bad) (k : Nat) (w : BitVec 18) : ((sramOver s 0 0 k w false).sramOf j).ecc ≠ .bad := by
  rw [sramOver_sramOf]
  split
  · exact nofun
  · exact h

/-- A line over words that are correctable changes SRAM alone. -/
theorem SramOnly.line {u : State} (hu : SramOnly s u) {k : Nat} (h : ∀ j < 4, (u.sramOf (k + j)).ecc ≠ .bad) (d : Line) :
    SramOnly s (putLine u k d) := by
  have h1 := sramOver_ne_bad (h 1 (by decide)) (k + 0) (d.extractLsb' (54 - 18 * 0) 18)
  have h2 := sramOver_ne_bad (sramOver_ne_bad (h 2 (by decide)) (k + 0) (d.extractLsb' (54 - 18 * 0) 18)) (k + 1) (d.extractLsb' (54 - 18 * 1) 18)
  have h3 := sramOver_ne_bad (sramOver_ne_bad (sramOver_ne_bad (h 3 (by decide)) (k + 0) (d.extractLsb' (54 - 18 * 0) 18)) (k + 1)
    (d.extractLsb' (54 - 18 * 1) 18)) (k + 2) (d.extractLsb' (54 - 18 * 2) 18)
  exact (((hu.over (h 0 (by decide)) _).over h1 _).over h2 _).over h3 _

/-- Lines over words that are correctable change SRAM alone. -/
theorem SramOnly.lines {u : State} (hu : SramOnly s u) {k : Nat} {ls : List Line} (h : ∀ j < 4 * ls.length, (u.sramOf (k + j)).ecc ≠ .bad) :
    SramOnly s (putLines u k ls) := by
  induction ls generalizing u k with
  | nil => exact hu
  | cons d ls ih =>
    rw [List.length_cons] at h
    refine ih (hu.line (fun j hj => h j (by omega)) d) fun j hj => ?_
    rw [putLine_sramOf, Nat.add_assoc]
    split
    · exact nofun
    · exact h _ (by omega)

/-! ### The load lines (R392) -/

/-- The first word of SRAM that load line `i` of an image with header `hd` takes. -/
def loadAt (hd : Image) (i : Nat) : Nat := sramIx (imgPair hd 5 0) + 4 * (i - imgPair hd 4 0)

/-- Line `i` is a load line of an image with header `hd`. -/
abbrev IsLoad (hd : Image) (i : Nat) : Prop := imgPair hd 4 0 ≤ i ∧ i < imgPair hd 4 0 + imgPair hd 4 2

/-- The load lines below line `n`, of the image whose lines `f` gives, stand in SRAM where they could be read. -/
def LoadedTo (hd : Image) (f : Nat → Option Line) (n : Nat) (s : State) : Prop :=
  ∀ i < n, IsLoad hd i → ∀ d, f i = some d → ∀ j < 4, s.sramOf (loadAt hd i + j) = lineCell d j

section
variable {hd : Image} {f : Nat → Option Line} {n : Nat}

theorem loadLine_off {l : Option Line} (h : ¬ IsLoad hd n ∨ l = none) : loadLine s hd n l = s := by
  unfold loadLine
  cases l with
  | none => rfl
  | some d => exact if_neg (h.resolve_right nofun)

theorem loadLine_on {d : Line} (h : IsLoad hd n) : loadLine s hd n (some d) = putLines s (loadAt hd n) [d] := if_pos h

/-- Line `n` is copied. -/
theorem LoadedTo.step (h : LoadedTo hd f n s) : LoadedTo hd f (n + 1) (loadLine s hd n (f n)) := by
  by_cases hload : IsLoad hd n
  · cases hf : f n with
    | none =>
      rw [loadLine_off (.inr rfl)]
      intro i hi hl d hd'
      exact h i (Nat.lt_of_le_of_ne (Nat.le_of_lt_succ hi) (fun e => nomatch (e ▸ hf).symm.trans hd')) hl d hd'
    | some d =>
      rw [loadLine_on hload]
      intro i hi hl e he j hj
      rw [putLines_cons]
      show (putLine s (loadAt hd n) d).sramOf (loadAt hd i + j) = lineCell e j
      rw [putLine_sramOf]
      by_cases hin : i = n
      · subst hin
        rw [if_pos (by omega), Nat.add_sub_cancel_left, Option.some.inj (hf.symm.trans he)]
      · rw [if_neg (by unfold loadAt; omega)]
        exact h i (by omega) hl e he j hj
  · rw [loadLine_off (.inl hload)]
    intro i hi hl
    exact h i (Nat.lt_of_le_of_ne (Nat.le_of_lt_succ hi) fun e => hload (e ▸ hl)) hl

theorem LoadedTo.of_sram {u : State} (h : LoadedTo hd f n s) (hu : u.sram = s.sram) : LoadedTo hd f n u := by
  intro i hi hl d hd' j hj
  rw [State.sramOf, hu]
  exact h i hi hl d hd' j hj

end

end

end Sys2Proof.Machine
end

section
/-! PROOFS. What a verification of an image reads, copies and answers (17_boot_and_security.md, R388, R390, R392). -/

namespace Sys2Proof.Machine

/-! ### The parts of a verification -/

section
variable {s u : State} {src : Nat}

/-- The header lines of a source, and the state after their reads. -/
def headRead (s : State) (src : Nat) : Image × State := srcLines s src 0 32

/-- The state in which the load lines of the header have been copied. -/
def headLoaded (s : State) (src : Nat) : State :=
  (headRead s src).1.zipIdx.foldl (fun u x => loadLine u (headRead s src).1 x.2 x.1) (headRead s src).2

/-- The lines of the body, and the state after their reads and copies. -/
def bodyRead (s : State) (src : Nat) : Image × State :=
  hashLines (headLoaded s src) src (headRead s src).1 32 (imgPair (headRead s src).1 0 2 - 32)

/-- The code of the first header check that fails. -/
def headCode (s : State) (src : Nat) : Nat := headWhy (headRead s src).2 (headRead s src).1 (srcBase src)

theorem verify_refused (h : headCode s src ≠ 0) : verify s src = ((headCode s src, (headRead s src).1), (headRead s src).2) := if_pos h

theorem verify_read (h : headCode s src = 0) : verify s src =
    ((if imgSigned ((headRead s src).1 ++ (bodyRead s src).1) then 0 else 6, (headRead s src).1 ++ (bodyRead s src).1), (bodyRead s src).2) :=
  if_neg (not_not.2 h)

theorem headLoaded_keeps (h : ReadKeeps s u) (src : Nat) : ReadKeeps s (headLoaded u src) :=
  List.foldlRecOn (motive := ReadKeeps s) _ _ (h.srcLines src 0 32) fun _ hv _ _ => hv.loadLine _ _ _

theorem ReadKeeps.verify (h : ReadKeeps s u) (src : Nat) : ReadKeeps s (verify u src).2 := by
  by_cases hcode : headCode u src = 0
  · rw [verify_read hcode]
    exact (headLoaded_keeps h src).hashLines _ _ _ _
  · rw [verify_refused hcode]
    exact h.srcLines src 0 32

/-! ### The lines read -/

theorem srcLines_length (s : State) (src i n : Nat) : (srcLines s src i n).1.length = n := by
  unfold srcLines
  split
  · exact (flashImage_as (.refl s) _ n).1
  · exact sramImage_length s _ n

theorem hashLines_length (s : State) (src : Nat) (hd : Image) (i n : Nat) : (hashLines s src hd i n).1.length = n := by
  induction n generalizing i s with
  | zero => rfl
  | succ n ih => exact congrArg (· + 1) (ih _ _)

theorem headRead_length (s : State) (src : Nat) : (headRead s src).1.length = 32 := srcLines_length s src 0 32

/-- The image that a verification has read begins with its header. -/
theorem verify_take (s : State) (src : Nat) : (verify s src).1.2.take 32 = (headRead s src).1 := by
  by_cases hcode : headCode s src = 0
  · rw [verify_read hcode]
    exact List.take_left' (headRead_length s src)
  · rw [verify_refused hcode]
    exact List.take_of_length_le (headRead_length s src).le

/-- R301: the lines of a slot are those of flash. -/
theorem srcLines_flash (hk : ReadKeeps s u) (hsrc : src < 2) (i n : Nat) : ∀ j < n, FlashAs s (524288 * src + i + j) ((srcLines u src i n).1.getD j none) := by
  rw [srcLines, if_pos hsrc]
  exact (flashImage_as hk _ n).2

theorem hashLines_flash (hk : ReadKeeps s u) (hsrc : src < 2) (hd : Image) (i n : Nat) :
    ∀ j < n, FlashAs s (524288 * src + i + j) ((hashLines u src hd i n).1.getD j none) := by
  induction n generalizing i u with
  | zero => exact fun _ h => absurd h (Nat.not_lt_zero _)
  | succ n ih =>
    intro j hj
    cases j with
    | zero =>
      have hline := srcLines_flash hk hsrc i 1 0 Nat.one_pos
      rwa [← List.headD_eq_getD] at hline
    | succ j =>
      have hrest := ih ((hk.srcLines src i 1).loadLine hd i ((srcLines u src i 1).1.headD none)) (i + 1) j (Nat.lt_of_succ_lt_succ hj)
      rwa [show 524288 * src + (i + 1) + j = 524288 * src + i + (j + 1) by omega] at hrest

/-- R301, R390: the image of a slot has the lines of flash. -/
theorem verify_flash (s : State) (hsrc : src < 2) : ∀ i < (verify s src).1.2.length, FlashAs s (524288 * src + i) ((verify s src).1.2.getD i none) := by
  have hhead : ∀ i < 32, FlashAs s (524288 * src + i) ((headRead s src).1.getD i none) := srcLines_flash (.refl s) hsrc 0 32
  by_cases hcode : headCode s src = 0
  · rw [verify_read hcode]
    intro i hi
    have hlen := headRead_length s src
    by_cases h32 : i < 32
    · rw [List.getD_append _ _ _ _ (by rwa [hlen])]
      exact hhead i h32
    · rw [List.length_append, hlen] at hi
      have hbody := hashLines_flash (headLoaded_keeps (.refl s) src) hsrc (headRead s src).1 32 (imgPair (headRead s src).1 0 2 - 32) (i - 32)
        (by rw [bodyRead, hashLines_length] at hi; omega)
      rw [List.getD_append_right _ _ _ _ (by omega), hlen]
      rwa [show 524288 * src + 32 + (i - 32) = 524288 * src + i by omega] at hbody
  · rw [verify_refused hcode]
    exact fun i hi => hhead i ((headRead_length s src) ▸ hi)

end

/-! ### The lines copied (R392) -/

section
variable {s : State} {src : Nat} {hd : Image} {f : Nat → Option Line}

theorem zipIdx_loaded {l : Image} {k : Nat} (h : LoadedTo hd f k s) (hl : ∀ i < l.length, f (k + i) = l.getD i none) :
    LoadedTo hd f (k + l.length) ((l.zipIdx k).foldl (fun u x => loadLine u hd x.2 x.1) s) := by
  induction l generalizing k s with
  | nil => exact h
  | cons x l ih =>
    have hx : f k = x := hl 0 (Nat.succ_pos _)
    have hnext := ih (hx ▸ h.step) fun i hi => by
      rw [Nat.add_right_comm, Nat.add_assoc]
      exact hl (i + 1) (Nat.succ_lt_succ hi)
    rwa [Nat.add_right_comm, Nat.add_assoc] at hnext

theorem srcLines_sram (s : State) (hsrc : src < 2) (i n : Nat) : (srcLines s src i n).2.sram = s.sram := by
  rw [srcLines, if_pos hsrc]
  exact flashImage_sram ..

theorem hashLines_loaded {i n : Nat} (hsrc : src < 2) (h : LoadedTo hd f i s) (hl : ∀ j < n, f (i + j) = (hashLines s src hd i n).1.getD j none) :
    LoadedTo hd f (i + n) (hashLines s src hd i n).2 := by
  induction n generalizing i s with
  | zero => exact h
  | succ n ih =>
    have hx : f i = (srcLines s src i 1).1.headD none := hl 0 (Nat.succ_pos _)
    have hread : LoadedTo hd f i (srcLines s src i 1).2 := h.of_sram (srcLines_sram s hsrc i 1)
    have hnext := ih (hx ▸ hread.step) fun j hj => by
      rw [Nat.add_right_comm, Nat.add_assoc]
      exact hl (j + 1) (Nat.succ_lt_succ hj)
    rwa [Nat.add_right_comm, Nat.add_assoc] at hnext

/-- R392: past the header checks of a slot its load lines are copied. -/
theorem verify_loaded (hsrc : src < 2) (hcode : headCode s src = 0) :
    LoadedTo (headRead s src).1 (fun i => (verify s src).1.2.getD i none) (verify s src).1.2.length (verify s src).2 := by
  have hlen := headRead_length s src
  have hlines : ∀ i, (verify s src).1.2.getD i none = ((headRead s src).1 ++ (bodyRead s src).1).getD i none := fun i => by rw [verify_read hcode]
  have hhead : LoadedTo (headRead s src).1 (fun i => (verify s src).1.2.getD i none) 32 (headLoaded s src) := by
    have hnone : LoadedTo (headRead s src).1 (fun i => (verify s src).1.2.getD i none) 0 (headRead s src).2 := fun i hi => absurd hi (Nat.not_lt_zero i)
    have hall := zipIdx_loaded (l := (headRead s src).1) hnone fun i hi => by
      rw [Nat.zero_add, hlines, List.getD_append _ _ _ _ hi]
    rwa [hlen] at hall
  have hbody := hashLines_loaded (n := imgPair (headRead s src).1 0 2 - 32) hsrc hhead fun j hj => by
    rw [hlines, List.getD_append_right _ _ _ _ (by omega), hlen, Nat.add_sub_cancel_left]
    rfl
  have hend : (verify s src).1.2.length = 32 + (imgPair (headRead s src).1 0 2 - 32) := by
    rw [verify_read hcode, List.length_append, hlen, bodyRead, hashLines_length]
  have hstate : (verify s src).2 = (bodyRead s src).2 := by rw [verify_read hcode]
  rw [hend, hstate]
  exact hbody

end

end Sys2Proof.Machine
end

section
/-! PROOFS. The checks of an image (17_boot_and_security.md, R388, R390). -/

namespace Sys2Proof.Machine

/-! ### The checks read the header alone -/

section
variable {s u : State} {im : Image}

theorem getD_take_head {i : Nat} (h : i < 32) : (im.take 32).getD i none = im.getD i none := by
  rw [List.getD_eq_getElem?_getD, List.getD_eq_getElem?_getD, List.getElem?_take_of_lt h]

theorem imgW_take {i : Nat} (h : i < 32) (j : Nat) : imgW (im.take 32) i j = imgW im i j := by rw [imgW, imgW, getD_take_head h]

theorem imgPair_take {i : Nat} (h : i < 32) (j : Nat) : imgPair (im.take 32) i j = imgPair im i j := by
  rw [imgPair, imgPair, imgW_take h, imgW_take h]

theorem imgZero_take {i : Nat} (h : i < 32) : imgZero (im.take 32) i = imgZero im i := by rw [imgZero, imgZero, getD_take_head h]

theorem img288_take {i : Nat} (h : i < 29) : img288 (im.take 32) i = img288 im i := by
  unfold img288
  simp only [List.map_cons, List.map_nil]
  rw [getD_take_head (by omega), getD_take_head (by omega), getD_take_head (by omega), getD_take_head (by omega)]

theorem imgForm_take (im : Image) : imgForm (im.take 32) = imgForm im := by
  have hzero : ([24, 25, 26, 27, 28, 29, 30, 31].all (imgZero (im.take 32))) = [24, 25, 26, 27, 28, 29, 30, 31].all (imgZero im) := by
    simp (disch := decide) only [List.all_cons, List.all_nil, imgZero_take]
  have hnum : ([8, 12, 16, 20].all fun i => decide (img288 (im.take 32) i < 2 ^ 256)) = [8, 12, 16, 20].all fun i => decide (img288 im i < 2 ^ 256) := by
    simp (disch := decide) only [List.all_cons, List.all_nil, img288_take]
  simp (disch := decide) only [imgForm, List.take_take, Nat.min_self, imgW_take, imgPair_take, imgZero_take, hzero, hnum]

/-- R388: the header checks of the lines read are those of the image. -/
theorem headWhy_take (s : State) (im : Image) (base : Nat) : headWhy s (im.take 32) base = headWhy s im base := by
  have hfits : imgFits (im.take 32) = imgFits im := by simp (disch := decide) only [imgFits, imgPair_take]
  have hlevels : imgLevels s (im.take 32) = imgLevels s im := by simp (disch := decide) only [imgLevels, imgW_take]
  have hkey : imgKey s (im.take 32) = imgKey s im := by simp (disch := decide) only [imgKey, imgW_take, img288_take]
  have hentry : imgEntry (im.take 32) base = imgEntry im base := by simp (disch := decide) only [imgEntry, imgPair_take]
  rw [headWhy, headWhy, imgForm_take, hfits, hlevels, hkey, hentry]

/-- The header checks read the one-time row alone. -/
theorem headWhy_of_keeps (h : ReadKeeps s u) (im : Image) (base : Nat) : headWhy u im base = headWhy s im base := by
  have hotp : u.otp = s.otp := show (bootView u).otp = (bootView s).otp from congrArg State.otp h.view
  have hlevels : imgLevels u im = imgLevels s im := by simp only [imgLevels, otpFloor, State.otpOf, hotp]
  have hkey : imgKey u im = imgKey s im := by simp only [imgKey, otpWritten, otpPacked, otpWord, State.otpOf, hotp]
  rw [headWhy, headWhy, hlevels, hkey]

/-! ### The answer of a verification -/

theorem headCode_eq (s : State) (src : Nat) : headCode s src = headWhy s (verify s src).1.2 (srcBase src) := by
  rw [← headWhy_take, verify_take, headCode]
  exact headWhy_of_keeps ((ReadKeeps.refl s).srcLines src 0 32) _ _

/-- R388: the code of the first check that fails, or 0. -/
theorem verify_code (s : State) (src : Nat) : (verify s src).1.1 =
    if headWhy s (verify s src).1.2 (srcBase src) ≠ 0 then headWhy s (verify s src).1.2 (srcBase src)
    else if imgSigned (verify s src).1.2 then 0 else 6 := by
  rw [← headCode_eq]
  by_cases hcode : headCode s src = 0
  · rw [if_neg (not_not.2 hcode), verify_read hcode]
  · rw [if_pos hcode, verify_refused hcode]

theorem headWhy_eq_zero {base : Nat} : headWhy s im base = 0 ↔
    imgForm im = true ∧ imgFits im = true ∧ imgLevels s im = true ∧ imgKey s im = true ∧ imgEntry im base = true := by
  unfold headWhy
  cases imgForm im <;> cases imgFits im <;> cases imgLevels s im <;> cases imgKey s im <;> cases imgEntry im base <;> simp

/-- R390: the image is as long as its header says, where the header checks pass, and its header alone otherwise. -/
theorem verify_length (s : State) (src : Nat) : (verify s src).1.2.length =
    if headWhy s (verify s src).1.2 (srcBase src) = 0 then imgPair (verify s src).1.2 0 2 else 32 := by
  rw [← headCode_eq]
  by_cases hcode : headCode s src = 0
  · have hfits := (headWhy_eq_zero.1 ((headCode_eq s src).symm.trans hcode)).2.1
    have hlong : 32 ≤ imgPair (verify s src).1.2 0 2 := by
      simp only [imgFits, Bool.and_eq_true, decide_eq_true_eq] at hfits
      exact hfits.1.1
    have hpair : imgPair (headRead s src).1 0 2 = imgPair (verify s src).1.2 0 2 := by rw [← verify_take, imgPair_take (by decide)]
    have hlen : (verify s src).1.2.length = 32 + (imgPair (headRead s src).1 0 2 - 32) := by
      rw [verify_read hcode, List.length_append, headRead_length, bodyRead, hashLines_length]
    rw [if_pos hcode, hlen, hpair]
    omega
  · rw [if_neg hcode, verify_refused hcode, headRead_length]

/-! ### The checks in the terms of the rules -/

/-- R388, check 1. -/
def FormRule (im : Image) : Prop :=
  (∀ i < 32, (im.getD i none).isSome = true) ∧ imgW im 0 0 = 0o517055 ∧ imgW im 0 1 = 1 ∧ imgW im 1 0 < 64 ∧ imgW im 1 1 < 64 ∧ imgW im 1 2 < 2 ∧
    imgW im 1 3 % 2 ^ 16 = 0 ∧ imgPair im 2 0 < 2 ^ 27 ∧ imgPair im 2 2 < 2 ^ 27 ∧ imgW im 3 0 < 1024 ∧ imgW im 3 1 < 1024 ∧
    imgPair im 5 0 < 2 ^ 27 ∧ imgPair im 5 2 = 0 ∧ (∀ i ∈ [7, 24, 25, 26, 27, 28, 29, 30, 31], im.getD i none = some 0) ∧
    ∀ i ∈ [8, 12, 16, 20], img288 im i < 2 ^ 256

/-- R388, check 2. -/
def FitsRule (im : Image) : Prop :=
  32 ≤ imgPair im 0 2 ∧ imgPair im 0 2 ≤ 262144 ∧ (imgPair im 4 2 = 0 ∨ (imgPair im 4 0 + imgPair im 4 2 ≤ imgPair im 0 2 ∧ imgPair im 5 0 % 8 = 0 ∧
    0o040000000 ≤ imgPair im 5 0 ∧ imgPair im 5 0 + 8 * imgPair im 4 2 ≤ 0o040000000 + 63 * 0o200000))

/-- R388, check 3. -/
def LevelsRule (s : State) (im : Image) : Prop :=
  1 ≤ otpFloor s ∧ otpFloor s ≤ imgW im 1 0 ∧ imgW im 1 0 ≤ 3 ∧ imgW im 1 0 ≤ imgW im 1 1

/-- R388, check 4. -/
def KeyRule (s : State) (im : Image) : Prop :=
  (∀ j < 15, (s.otpOf (160 + 16 * imgW im 1 2 + j)).isSome = true) ∧
    otpPacked s (160 + 16 * imgW im 1 2) = sha256 (octets 32 (img288 im 8) ++ octets 32 (img288 im 12))

/-- R388, check 5. -/
def EntryRule (im : Image) (base : Nat) : Prop :=
  imgPair im 2 0 % 4 = 0 ∧ ((imgPair im 5 0 ≤ imgPair im 2 0 ∧ imgPair im 2 0 < imgPair im 5 0 + 8 * imgPair im 4 2) ∨
    (base ≤ imgPair im 2 0 ∧ imgPair im 2 0 < base + 8 * imgPair im 0 2))

/-- R388, check 6. -/
def SignedRule (im : Image) : Prop :=
  (∀ l ∈ im.take 16 ++ im.drop 24, l.isSome = true) ∧ ecdsaOk (img288 im 8) (img288 im 12) (img288 im 16) (img288 im 20)
    (sha256 ((im.take 16 ++ im.drop 24).flatMap (fun l => octets 9 (l.getD 0).toNat))).toNat = true

theorem all_isSome_iff (h : 32 ≤ im.length) : (im.take 32).all (·.isSome) = true ↔ ∀ i < 32, (im.getD i none).isSome = true := by
  rw [List.all_eq_true]
  constructor
  · intro hall i hi
    have hlt : i < (im.take 32).length := by rw [List.length_take]; omega
    rw [← getD_take_head hi, List.getD_eq_getElem _ _ hlt]
    exact hall _ (List.getElem_mem hlt)
  · intro hall x hx
    obtain ⟨i, hi, rfl⟩ := List.getElem_of_mem hx
    have h32 : i < 32 := (List.length_take_le _ _).trans_lt' hi |>.trans_le le_rfl
    rw [← List.getD_eq_getElem _ none hi, getD_take_head h32]
    exact hall i h32

theorem imgZero_iff {i : Nat} (h : (im.getD i none).isSome = true) : imgZero im i = true ↔ im.getD i none = some 0 := by
  obtain ⟨d, hd⟩ := Option.isSome_iff_exists.1 h
  rw [imgZero, hd]
  simp

theorem imgForm_iff (h : 32 ≤ im.length) : imgForm im = true ↔ FormRule im := by
  have hlow : ∀ i ∈ [24, 25, 26, 27, 28, 29, 30, 31], i < 32 := by decide
  simp only [imgForm, FormRule, Bool.and_eq_true, beq_iff_eq, decide_eq_true_eq, all_isSome_iff h, List.all_eq_true, and_assoc]
  refine and_congr_right fun hsome => ?_
  have hzeros : (imgZero im 7 = true ∧ ∀ i ∈ [24, 25, 26, 27, 28, 29, 30, 31], imgZero im i = true) ↔
      ∀ i ∈ [7, 24, 25, 26, 27, 28, 29, 30, 31], im.getD i none = some 0 := by
    have hrest := forall₂_congr fun i hi => imgZero_iff (hsome i (hlow i hi))
    exact (and_congr (imgZero_iff (hsome 7 (by decide))) hrest).trans
      (List.forall_mem_cons (p := fun i => im.getD i none = some 0)).symm
  rw [← hzeros]
  constructor
  · rintro ⟨hmagic, hformat, hlvl, hceil, hkey, hbits, hentry, hresume, hlo, hhi, hdst, hpad, hseven, hnum, hlast⟩
    exact ⟨hmagic, hformat, hlvl, hceil, hkey, hbits, hentry, hresume, hlo, hhi, hdst, hpad, ⟨hseven, hlast⟩, hnum⟩
  · rintro ⟨hmagic, hformat, hlvl, hceil, hkey, hbits, hentry, hresume, hlo, hhi, hdst, hpad, ⟨hseven, hlast⟩, hnum⟩
    exact ⟨hmagic, hformat, hlvl, hceil, hkey, hbits, hentry, hresume, hlo, hhi, hdst, hpad, hseven, hnum, hlast⟩

theorem imgFits_iff (im : Image) : imgFits im = true ↔ FitsRule im := by
  simp [imgFits, FitsRule, and_assoc]

theorem imgLevels_iff (s : State) (im : Image) : imgLevels s im = true ↔ LevelsRule s im := by
  simp [imgLevels, LevelsRule, and_assoc]

theorem imgKey_iff (s : State) (im : Image) : imgKey s im = true ↔ KeyRule s im := by
  simp [imgKey, otpWritten, KeyRule]

theorem imgEntry_iff (im : Image) (base : Nat) : imgEntry im base = true ↔ EntryRule im base := by
  simp [imgEntry, EntryRule]

theorem imgSigned_iff (im : Image) : imgSigned im = true ↔ SignedRule im := by
  rw [imgSigned, Bool.and_eq_true, List.all_eq_true]
  rfl

/-- The code of a chain of six checks tells the first that fails. -/
theorem firstFail_iff {b1 b2 b3 b4 b5 b6 : Bool} {c1 c2 c3 c4 c5 c6 : Prop} (h1 : b1 = true ↔ c1) (h2 : b2 = true ↔ c2) (h3 : b3 = true ↔ c3)
    (h4 : b4 = true ↔ c4) (h5 : b5 = true ↔ c5) (h6 : b6 = true ↔ c6) {w n : Nat}
    (hw : w = if !b1 then 1 else if !b2 then 2 else if !b3 then 3 else if !b4 then 4 else if !b5 then 5 else 0)
    (hn : n = if w ≠ 0 then w else if b6 then 0 else 6) :
    (n = 0 ↔ c1 ∧ c2 ∧ c3 ∧ c4 ∧ c5 ∧ c6) ∧ (n = 1 ↔ ¬ c1) ∧ (n = 2 ↔ c1 ∧ ¬ c2) ∧ (n = 3 ↔ c1 ∧ c2 ∧ ¬ c3) ∧ (n = 4 ↔ c1 ∧ c2 ∧ c3 ∧ ¬ c4) ∧
    (n = 5 ↔ c1 ∧ c2 ∧ c3 ∧ c4 ∧ ¬ c5) ∧ (n = 6 ↔ c1 ∧ c2 ∧ c3 ∧ c4 ∧ c5 ∧ ¬ c6) ∧ (w = 0 ↔ c1 ∧ c2 ∧ c3 ∧ c4 ∧ c5) := by
  rw [hn, hw, ← h1, ← h2, ← h3, ← h4, ← h5, ← h6]
  cases b1
  · simp
  cases b2
  · simp
  cases b3
  · simp
  cases b4
  · simp
  cases b5
  · simp
  cases b6 <;> simp

end

/-! ### The lines of an image in SRAM (R390) -/

section
variable {s : State} {src : Nat}

/-- The words of a line, the first of them highest. -/
theorem extractLsb'_words (a b c d : BitVec 18) : (a ++ b ++ c ++ d).extractLsb' 54 18 = a ∧ (a ++ b ++ c ++ d).extractLsb' 36 18 = b ∧
    (a ++ b ++ c ++ d).extractLsb' 18 18 = c ∧ (a ++ b ++ c ++ d).extractLsb' 0 18 = d := by
  refine ⟨?_, ?_, ?_, ?_⟩ <;>
  · apply BitVec.eq_of_getLsbD_eq
    intro i hi
    simp only [BitVec.getLsbD_extractLsb', BitVec.getLsbD_append, hi, decide_true, Bool.true_and]
    grind

theorem lineW_wordsLine (s : State) (k : Nat) {j : Nat} (hj : j < 4) : lineW (wordsLine s k) j = (s.sramOf (k + j)).w := by
  obtain ⟨h0, h1, h2, h3⟩ := extractLsb'_words (s.sramOf k).w (s.sramOf (k + 1)).w (s.sramOf (k + 2)).w (s.sramOf (k + 3)).w
  interval_cases j
  exacts [h0, h1, h2, h3]

/-- R390: the header of an image in SRAM has the words of SRAM, where they are good. -/
theorem verify_sram (s : State) (hsrc : 2 ≤ src) {i : Nat} (hi : i < 32) (hgood : ∀ j < 4, (s.sramOf (4 * i + j)).ecc = .good) {j : Nat} (hj : j < 4) :
    imgW (verify s src).1.2 i j = (s.sramOf (4 * i + j)).w.toNat := by
  have hline : (verify s src).1.2.getD i none = some (wordsLine s (4 * i)) := by
    have hread : (headRead s src).1 = (sramImage s (4 * 0) 32).1 := congrArg Prod.fst (if_neg (not_lt.2 hsrc))
    have hline := sramImage_good (s := s) (4 * 0) 32 (fun _ _ => rfl) hi (by rwa [Nat.mul_zero, Nat.zero_add])
    rw [← getD_take_head hi, verify_take, hread, hline, Nat.mul_zero, Nat.zero_add]
  rw [imgW, hline, Option.getD_some, lineW_wordsLine s _ hj]

end

/-- R388, R390: every verification of a source gives what the rules say. -/
theorem imageRule (s : State) {src : Nat} (hsrc : src < 4) : ImageRule s src := by
  have hbase : srcBase src = if src = 0 then 0 else if src = 1 then 0o20000000 else 0o040000000 := by
    unfold srcBase
    interval_cases src <;> rfl
  have hlong : 32 ≤ (verify s src).1.2.length := by
    have htake := congrArg List.length (verify_take s src)
    rw [List.length_take, headRead_length] at htake
    omega
  obtain ⟨h0, h1, h2, h3, h4, h5, h6, hw⟩ := firstFail_iff (imgForm_iff hlong) (imgFits_iff _) (imgLevels_iff s _) (imgKey_iff s _)
    (imgEntry_iff _ (srcBase src)) (imgSigned_iff (verify s src).1.2) rfl (verify_code s src)
  have hlen := verify_length s src
  rw [hbase] at h0 h5 h6 hw hlen
  exact ⟨h0, h1, h2, h3, h4, h5, h6, hlen.trans (if_congr hw rfl rfl), fun hslot i hi => verify_flash s hslot i hi,
    fun hram i hi hgood j hj => verify_sram s hram hi hgood hj⟩

end Sys2Proof.Machine
end

section
/-! PROOFS. The start of core 0 from an accepted image: grafts, locks and registers (17_boot_and_security.md, R389, R392 to R396). -/

namespace Sys2Proof.Machine

/-! ### Grafts (R243, R389) -/

/-- What the load of grafts does not touch beside registers. -/
def graftView (s : State) : State := { s with out := [], regs := [], hw := [], srcAt := [], vsrc := [], written := [], graft := [], free := 0 }

section
variable {s u : State} {im : Image}

/-- From `s` to `s'` graft registers have been written. -/
abbrev GraftKeeps (s s' : State) : Prop :=
  Keeps graftView 0 0 (fun r _ => r ∈ [RegName.GRF_ID, .GRF_STAT, .GRF_MATCH, .GRF_LOCK]) s s'

theorem GraftKeeps.refl (s : State) : GraftKeeps s s := Keeps.refl (fun _ _ _ _ _ _ => rfl) s

theorem Keeps.setReg {α : Type} {view : State → α} {cls inst : Nat} {may : RegName → Nat → Prop} (h : Keeps view cls inst may s u) {r : RegName}
    {i : Nat} (v : BitVec 36) (hr : may r i) : Keeps view cls inst may s (u.setReg r i v) :=
  h.trans ⟨h.blind, h.blind u u.out _ u.hw u.srcAt u.vsrc, fun _ _ => rfl,
    fun k j hk => ⟨State.setReg_reg_ne u v fun e => hk (e.1 ▸ e.2 ▸ hr), rfl⟩⟩

theorem Keeps.drawn {α : Type} {view : State → α} {cls inst : Nat} {may : RegName → Nat → Prop} (h : Keeps view cls inst may s u) (m : Nat)
    (hview : view (u.draw m).2 = view u) : Keeps view cls inst may s (u.draw m).2 := h.hidden hview rfl rfl rfl

theorem GraftKeeps.put (h : GraftKeeps s u) (f : Fld) (i v : Nat) (hf : f.reg ∈ [RegName.GRF_ID, .GRF_STAT, .GRF_MATCH, .GRF_LOCK]) :
    GraftKeeps s (u.put f i v) := Keeps.put h v hf

/-- R243: the stores take free values, and leave every register. -/
theorem graftFill_spec (s : State) : graftView (graftFill s) = graftView s ∧ (graftFill s).regs = s.regs ∧ (graftFill s).written = s.written ∧
    (graftFill s).hw = s.hw ∧ (graftFill s).srcAt = s.srcAt :=
  List.foldlRecOn (motive := fun u => graftView u = graftView s ∧ u.regs = s.regs ∧ u.written = s.written ∧ u.hw = s.hw ∧ u.srcAt = s.srcAt) _ _
    ⟨rfl, rfl, rfl, rfl, rfl⟩ fun _ hu _ _ => hu

theorem GraftKeeps.fill (h : GraftKeeps s u) : GraftKeeps s (graftFill u) := by
  obtain ⟨hview, hregs, hwritten, hhw, hsrc⟩ := graftFill_spec u
  exact h.hidden hview hregs hhw hsrc

/-- R243: the match registers take free values. -/
def matchFill (s : State) : State :=
  (List.range 32).foldl (fun s i => (s.draw (2 ^ 36)).2.setReg .GRF_MATCH i
    (BitVec.ofNat 36 (s.draw (2 ^ 36)).1 &&& (0o400000000000 + 0o7777400000 + 0o377))) s

theorem graftMatch_eq (s : State) : graftMatch s =
    (matchFill s).put F.GRF_STAT_nmatch 0 ((List.range 32).filter (fun i => (matchFill s).is F.GRF_MATCH_en i)).length := rfl

theorem matchFill_keeps (s : State) : Keeps (fun u => (graftView u, u.graft, u.written)) 0 0 (fun r _ => r = .GRF_MATCH) s (matchFill s) :=
  List.foldlRecOn (motive := Keeps (fun u => (graftView u, u.graft, u.written)) 0 0 (fun r _ => r = .GRF_MATCH) s) _ _
    (.refl (fun _ _ _ _ _ _ => rfl) s) fun _ hu _ _ => (hu.drawn (2 ^ 36) rfl).setReg _ rfl

theorem GraftKeeps.matches (h : GraftKeeps s u) : GraftKeeps s (graftMatch u) := by
  have hfill : GraftKeeps u (matchFill u) :=
    List.foldlRecOn (motive := GraftKeeps u) _ _ (.refl u) fun _ hv _ _ =>
      (hv.drawn (2 ^ 36) rfl).setReg (r := .GRF_MATCH) _ (by decide)
  exact GraftKeeps.put (h.trans hfill) F.GRF_STAT_nmatch 0 _ (by decide)

/-- The stores are filled from a graft set that verifies, and `n` drawn before gives its ID. -/
def graftSet (s : State) (n : Nat) : State := (s.setReg .GRF_ID 0 (BitVec.ofNat 36 (n + 1))).put F.GRF_STAT_loaded 0 1

/-- The grafts of an image before the stores are locked. -/
def grafted (s : State) (im : Image) : State :=
  if imgPair im 6 2 = 0 then s
  else if graftGood im then graftMatch (graftFill (graftSet (s.draw (2 ^ 36 - 1)).2 (s.draw (2 ^ 36 - 1)).1))
  else { s with graft := [] }.put F.GRF_STAT_err 0 1

theorem graftLoad_eq (s : State) (im : Image) :
    graftLoad s im = (((grafted s im).put F.GRF_LOCK_lk 0 1).put F.GRF_STAT_locked 0 1).lockReg .GRF_LOCK 0 := rfl

theorem grafted_keeps (s : State) (im : Image) : GraftKeeps s (grafted s im) := by
  unfold grafted
  split
  · exact .refl s
  · split
    · have hset : GraftKeeps s (graftSet (s.draw (2 ^ 36 - 1)).2 (s.draw (2 ^ 36 - 1)).1) :=
        GraftKeeps.put ((Keeps.drawn (GraftKeeps.refl s) (2 ^ 36 - 1) rfl).setReg (r := .GRF_ID) _ (by decide)) F.GRF_STAT_loaded 0 1 (by decide)
      exact hset.fill.matches
    · have hempty : GraftKeeps s { s with graft := [] } := (GraftKeeps.refl s).hidden rfl rfl rfl rfl
      exact hempty.put F.GRF_STAT_err 0 1 (by decide)

theorem graftLoad_keeps (s : State) (im : Image) : GraftKeeps s (graftLoad s im) :=
  Keeps.hidden (u := ((grafted s im).put F.GRF_LOCK_lk 0 1).put F.GRF_STAT_locked 0 1)
    (((grafted_keeps s im).put F.GRF_LOCK_lk 0 1 (by decide)).put F.GRF_STAT_locked 0 1 (by decide)) rfl rfl rfl rfl

theorem grafted_written (s : State) (im : Image) : (grafted s im).written = s.written := by
  have hmatch : ∀ v : State, (graftMatch v).written = v.written := fun v => congrArg (fun x => x.2.2) (matchFill_keeps v).view
  unfold grafted
  split
  · rfl
  · split
    · rw [hmatch]
      exact (graftFill_spec _).2.2.1
    · rfl

theorem lockReg_locked_ne (s : State) {r k : RegName} (i j : Nat) (h : k ≠ r) : (s.lockReg r i).locked k j = s.locked k j :=
  Store.get_set_ne (fun _ => false) s.written true fun e => h (regKey_inj.1 e).1

theorem graftLoad_locked (s : State) (im : Image) {r : RegName} (i : Nat) (h : r ≠ .GRF_LOCK) : (graftLoad s im).locked r i = s.locked r i := by
  rw [graftLoad_eq, lockReg_locked_ne _ _ _ h, State.locked]
  exact congrArg (Store.get _ · _) (grafted_written s im)

theorem graftLoad_lk (s : State) (im : Image) : (graftLoad s im).is F.GRF_LOCK_lk 0 = true :=
  show (((grafted s im).put F.GRF_LOCK_lk 0 1).put F.GRF_STAT_locked 0 1).is F.GRF_LOCK_lk 0 = true by
    rw [State.put_is_apart _ _ (by decide)]
    exact State.put_is_same _ _ _ _ (by decide)

theorem graftLoad_get (s : State) (im : Image) {f : Fld} (hf : f.reg = .GRF_STAT) (hlo : f.lo + f.w ≤ 16 ∨ 17 ≤ f.lo) :
    (graftLoad s im).get f 0 = (grafted s im).get f 0 :=
  show (((grafted s im).put F.GRF_LOCK_lk 0 1).put F.GRF_STAT_locked 0 1).get f 0 = (grafted s im).get f 0 by
    rw [State.put_get_apart (f := F.GRF_STAT_locked) _ _ fun _ => hlo.symm, State.put_get_apart (f := F.GRF_LOCK_lk) _ _ fun e => absurd (hf.symm.trans e) (by decide)]

theorem graftMatch_reg (s : State) {r : RegName} (i : Nat) (hr : r ∉ [RegName.GRF_MATCH, .GRF_STAT]) : (graftMatch s).reg r i = s.reg r i := by
  simp only [List.mem_cons, List.not_mem_nil, or_false, not_or] at hr
  obtain ⟨hmatch, hstat⟩ := hr
  rw [graftMatch_eq, State.put_reg_of_ne _ _ _ _ hstat]
  exact ((matchFill_keeps s).reg r i hmatch).1

theorem graftFill_reg (s : State) (r : RegName) (i : Nat) : (graftFill s).reg r i = s.reg r i := by
  rw [State.reg, (graftFill_spec s).2.1, State.reg]

/-- The drawn ID of a set is not 0. -/
theorem graftSet_id (s : State) {n : Nat} (hn : n < 2 ^ 36 - 1) : (graftSet s n).reg .GRF_ID 0 ≠ 0 := by
  rw [graftSet, State.put_reg_of_ne _ _ _ _ (by decide), State.setReg_reg_same]
  intro h
  have hzero := congrArg BitVec.toNat h
  rw [BitVec.toNat_ofNat, Nat.mod_eq_of_lt (by omega)] at hzero
  exact absurd hzero (Nat.succ_ne_zero n)

/-- R389: an image without grafts. -/
theorem grafted_none (h : imgPair im 6 2 = 0) : grafted s im = s := if_pos h

/-- R389: a graft set that verifies is loaded. -/
theorem grafted_good (h : imgPair im 6 2 ≠ 0) (hg : graftGood im = true) : (grafted s im).is F.GRF_STAT_loaded 0 = true ∧
    (grafted s im).reg .GRF_ID 0 ≠ 0 := by
  have hn : (s.draw (2 ^ 36 - 1)).1 < 2 ^ 36 - 1 := Nat.mod_lt _ (by decide)
  rw [grafted, if_neg h, if_pos hg]
  constructor
  · have hfill : (matchFill (graftFill (graftSet (s.draw (2 ^ 36 - 1)).2 (s.draw (2 ^ 36 - 1)).1))).reg .GRF_STAT 0 =
        (graftSet (s.draw (2 ^ 36 - 1)).2 (s.draw (2 ^ 36 - 1)).1).reg .GRF_STAT 0 :=
      ((matchFill_keeps _).reg .GRF_STAT 0 (by decide)).1.trans (graftFill_reg _ _ _)
    rw [graftMatch_eq, State.put_is_apart _ _ (by decide), State.is, State.get, hfill]
    exact State.put_is_same ((s.draw (2 ^ 36 - 1)).2.setReg .GRF_ID 0 (BitVec.ofNat 36 ((s.draw (2 ^ 36 - 1)).1 + 1))) F.GRF_STAT_loaded 0 1 (by decide)
  · rw [graftMatch_reg _ _ (by decide), graftFill_reg]
    exact graftSet_id _ hn

/-- R389: a graft set that does not verify leaves the stores empty. -/
theorem grafted_bad (h : imgPair im 6 2 ≠ 0) (hg : ¬ graftGood im = true) : (grafted s im).is F.GRF_STAT_err 0 = true ∧ (grafted s im).graft = [] := by
  rw [grafted, if_neg h, if_neg hg]
  exact ⟨State.put_is_same { s with graft := [] } F.GRF_STAT_err 0 1 (by decide), rfl⟩

/-- R389: the blob verifies. -/
def BlobGood (im : Image) : Prop :=
  let n := imgPair im 6 2
  let os := (((im.drop (imgPair im 6 0)).take ((n + 8) / 9)).flatMap (fun l => octets 9 (l.getD 0).toNat)).take n
  os.length = n ∧ 28 ≤ n ∧ (gcmOpen Config.graftKey (os.take 12) ((os.drop 12).take (n - 28)) (BitVec.ofNat 128 (ofOctets (os.drop (n - 16))))).isSome = true

theorem graftGood_iff (im : Image) : graftGood im = true ↔ BlobGood im := by
  simp only [graftGood, BlobGood, Bool.and_eq_true, beq_iff_eq, decide_eq_true_eq, and_assoc]

theorem graftLoad_reg (s : State) (im : Image) {r : RegName} (i : Nat) (hr : r ∉ [RegName.GRF_ID, .GRF_STAT, .GRF_MATCH, .GRF_LOCK]) :
    (graftLoad s im).reg r i = s.reg r i := ((graftLoad_keeps s im).reg r i hr).1

theorem graftLoad_id (s : State) (im : Image) : (graftLoad s im).reg .GRF_ID 0 = (grafted s im).reg .GRF_ID 0 :=
  show (((grafted s im).put F.GRF_LOCK_lk 0 1).put F.GRF_STAT_locked 0 1).reg .GRF_ID 0 = (grafted s im).reg .GRF_ID 0 by
    rw [State.put_reg_of_ne (f := F.GRF_STAT_locked) _ _ _ _ (by decide), State.put_reg_of_ne (f := F.GRF_LOCK_lk) _ _ _ _ (by decide)]

/-- R389: what the load of an image's grafts leaves. -/
theorem graftsAs_graftLoad (s : State) (im : Image) : GraftsAs s (graftLoad s im) im := by
  have hloaded := graftLoad_get s im (f := F.GRF_STAT_loaded) rfl (.inr le_rfl)
  have herr := graftLoad_get s im (f := F.GRF_STAT_err) rfl (.inl le_rfl)
  refine ⟨fun hn => ?_, fun hn hgood => ?_, fun hn hbad => ?_⟩
  · rw [hloaded, herr, grafted_none hn]
    exact ⟨show (grafted s im).graft = s.graft from congrArg State.graft (grafted_none hn), rfl, rfl⟩
  · obtain ⟨his, hid⟩ := grafted_good (s := s) hn ((graftGood_iff im).2 hgood)
    exact ⟨(congrArg (· == 1) hloaded).trans his, graftLoad_id s im ▸ hid⟩
  · obtain ⟨his, hempty⟩ := grafted_bad (s := s) hn (mt (graftGood_iff im).1 hbad)
    exact ⟨(congrArg (· == 1) herr).trans his, hempty⟩

end

/-! ### Locks (R394) -/

section
variable {s u : State} {im : Image}

/-- FL_PROT as the header asks for it. -/
def protSet (s : State) (im : Image) : State :=
  (((s.put F.FL_PROT_en 0 1).put F.FL_PROT_lo 0 (imgW im 3 0)).put F.FL_PROT_hi 0 (imgW im 3 1)).lockReg .FL_PROT 0

/-- FL_OTPLK as the header asks for it. -/
def otplkSet (s : State) : State := (s.put F.FL_OTPLK_lk 0 1).lockReg .FL_OTPLK 0

theorem bootLocks_eq (s : State) (im : Image) : bootLocks s im =
    if (imgW im 1 3).testBit 16 then otplkSet (if (imgW im 1 3).testBit 17 then protSet s im else s)
    else if (imgW im 1 3).testBit 17 then protSet s im else s := rfl

theorem protSet_shows (s : State) (im : Image) : (protSet s im).is F.FL_PROT_en 0 = true ∧ (protSet s im).get F.FL_PROT_lo 0 = imgW im 3 0 % 1024 ∧
    (protSet s im).get F.FL_PROT_hi 0 = imgW im 3 1 % 1024 ∧ (protSet s im).locked .FL_PROT 0 = true := by
  have hput : ∀ f i, (protSet s im).get f i =
      (((s.put F.FL_PROT_en 0 1).put F.FL_PROT_lo 0 (imgW im 3 0)).put F.FL_PROT_hi 0 (imgW im 3 1)).get f i := fun _ _ => rfl
  rw [State.is, hput, hput, hput]
  simp (disch := decide) only [State.put_get_apart, State.put_get_same]
  exact ⟨rfl, rfl, rfl, State.lockReg_locked ..⟩

theorem protSet_other (s : State) (im : Image) {r : RegName} (i : Nat) (hr : r ≠ .FL_PROT) : (protSet s im).reg r i = s.reg r i ∧
    (protSet s im).locked r i = s.locked r i := by
  refine ⟨?_, lockReg_locked_ne _ _ _ hr⟩
  show (((s.put F.FL_PROT_en 0 1).put F.FL_PROT_lo 0 (imgW im 3 0)).put F.FL_PROT_hi 0 (imgW im 3 1)).reg r i = s.reg r i
  rw [State.put_reg_of_ne (f := F.FL_PROT_hi) _ _ _ _ hr, State.put_reg_of_ne (f := F.FL_PROT_lo) _ _ _ _ hr,
    State.put_reg_of_ne (f := F.FL_PROT_en) _ _ _ _ hr]

theorem otplkSet_other (s : State) {r : RegName} (i : Nat) (hr : r ≠ .FL_OTPLK) : (otplkSet s).reg r i = s.reg r i ∧
    (otplkSet s).locked r i = s.locked r i :=
  ⟨State.put_reg_of_ne s (f := F.FL_OTPLK_lk) 0 i 1 hr, lockReg_locked_ne _ _ _ hr⟩

/-- What a register of a header's lock holds, and whether it is locked. -/
def lockOf (s : State) (r : RegName) : BitVec 36 × Bool := (s.reg r 0, s.locked r 0)

/-- The two registers of R394 tell all that the rule speaks of. -/
theorem LocksAs.of_lockOf {s' u' : State} (h : LocksAs s s' im) (hs : lockOf u .FL_PROT = lockOf s .FL_PROT) (hs' : lockOf u .FL_OTPLK = lockOf s .FL_OTPLK)
    (hu : lockOf u' .FL_PROT = lockOf s' .FL_PROT) (hu' : lockOf u' .FL_OTPLK = lockOf s' .FL_OTPLK) : LocksAs u u' im := by
  simp only [lockOf, Prod.mk.injEq] at hs hs' hu hu'
  unfold LocksAs State.is State.get at h ⊢
  rw [hs.1, hs.2, hs'.1, hs'.2, hu.1, hu.2, hu'.1, hu'.2]
  exact h

theorem bootLocks_prot (s : State) (im : Image) : lockOf (bootLocks s im) .FL_PROT = lockOf (if (imgW im 1 3).testBit 17 then protSet s im else s) .FL_PROT := by
  rw [bootLocks_eq]
  split
  · obtain ⟨hreg, hlocked⟩ := otplkSet_other (if (imgW im 1 3).testBit 17 then protSet s im else s) 0 (r := .FL_PROT) (by decide)
    exact Prod.ext hreg hlocked
  · rfl

theorem otplkSet_shows (s : State) : (otplkSet s).is F.FL_OTPLK_lk 0 = true ∧ (otplkSet s).locked .FL_OTPLK 0 = true :=
  ⟨State.put_is_same s F.FL_OTPLK_lk 0 1 (by decide), State.lockReg_locked ..⟩

/-- FL_PROT as the header asks for it, or as it was. -/
def protAsked (s : State) (im : Image) : State := if (imgW im 1 3).testBit 17 then protSet s im else s

theorem protAsked_otplk (s : State) (im : Image) : (protAsked s im).reg .FL_OTPLK 0 = s.reg .FL_OTPLK 0 ∧
    (protAsked s im).locked .FL_OTPLK 0 = s.locked .FL_OTPLK 0 := by
  unfold protAsked
  split
  · exact protSet_other s im 0 (by decide)
  · exact ⟨rfl, rfl⟩

/-- R394: the locks of the header. -/
theorem locksAs_bootLocks (s : State) (im : Image) : LocksAs s (bootLocks s im) im := by
  have hprot := bootLocks_prot s im
  simp only [lockOf, Prod.mk.injEq] at hprot
  obtain ⟨hreg, hlocked⟩ := hprot
  constructor
  · unfold State.is State.get
    rw [hreg, hlocked]
    by_cases h17 : (imgW im 1 3).testBit 17 = true
    · rw [if_pos h17, if_pos h17]
      exact protSet_shows s im
    · rw [if_neg h17, if_neg h17]
      exact ⟨rfl, rfl⟩
  · rw [bootLocks_eq]
    by_cases h16 : (imgW im 1 3).testBit 16 = true
    · rw [if_pos h16, if_pos h16]
      exact otplkSet_shows _
    · rw [if_neg h16, if_neg h16]
      exact protAsked_otplk s im

end

/-! ### The reset of the link registers (R391) -/

theorem Store.get_filter_key {α : Type} {d : Nat → α} (p : Nat → Bool) {m : Store α} {k : Nat} (hk : p k = true) :
    Store.get d (m.filter (fun x => p x.1)) k = Store.get d m k := by
  induction m with
  | nil => rfl
  | cons x m ih =>
    by_cases hx : p x.1 = true
    · rw [List.filter_cons_of_pos (p := fun (y : Nat × α) => p y.1) hx, Store.get, Store.get, ih]
    · have hne : x.1 ≠ k := fun e => hx (e ▸ hk)
      rw [List.filter_cons_of_neg (p := fun (y : Nat × α) => p y.1) hx, Store.get, if_neg hne, ih]

/-- The register is none of a link port. -/
abbrev OutsideLink (r : RegName) : Prop := r.row.addr < 0o112000000 ∨ 0o113000000 ≤ r.row.addr

theorem linkReset_reg (s : State) {r : RegName} (i : Nat) (hr : OutsideLink r) : (linkReset s).reg r i = s.reg r i := by
  refine Store.get_filter_key (fun k => decide ((RegName.ofNat (k % 512)).row.addr < 0o112000000) ||
    decide (0o113000000 ≤ (RegName.ofNat (k % 512)).row.addr)) ?_
  rw [regKey_mod, RegName.ofNat_ctorIdx, Bool.or_eq_true, decide_eq_true_eq, decide_eq_true_eq]
  exact hr

theorem linkReset_locked (s : State) {r : RegName} (i : Nat) (hr : r ≠ .LK_NET) : (linkReset s).locked r i = s.locked r i := by
  refine Store.get_filter_key (fun k => RegName.ofNat (k % 512) != .LK_NET) ?_
  rw [regKey_mod, RegName.ofNat_ctorIdx]
  exact bne_iff_ne.2 hr

end Sys2Proof.Machine
end

section
/-! PROOFS. The start of core 0, from the grafts and locks of its image to its first instruction (17_boot_and_security.md, R389 to R396). -/

namespace Sys2Proof.Machine

/-! ### The state that an image has prepared (R389, R394) -/

/-- What the grafts and locks of an image, and the reset of the link, leave of the device. -/
def preparedView (s : State) : State :=
  { s with
    out := [], regs := [], hw := [], srcAt := [], vsrc := [], written := [], graft := [], free := 0, link := [], txs := [], win := [], lku := {}
    lkDrive := [] }

/-- The grafts of an image are loaded, its locks written, and the link of a recovery source is reset. -/
def prepared (s : State) (src : Nat) (im : Image) : State :=
  if 2 ≤ src then linkReset (bootLocks (graftLoad s im) im) else bootLocks (graftLoad s im) im

section
variable {s u : State} {im : Image} {src : Nat}

theorem bootLocks_view (s : State) (im : Image) : preparedView (bootLocks s im) = preparedView s := by
  rw [bootLocks_eq]
  split <;> split <;> rfl

theorem bootLocks_reg (s : State) (im : Image) {r : RegName} (i : Nat) (hp : r ≠ .FL_PROT) (ho : r ≠ .FL_OTPLK) : (bootLocks s im).reg r i = s.reg r i := by
  have hprot : (if (imgW im 1 3).testBit 17 then protSet s im else s).reg r i = s.reg r i := by
    split
    · exact (protSet_other s im i hp).1
    · rfl
  rw [bootLocks_eq]
  split
  · exact (otplkSet_other _ i ho).1.trans hprot
  · exact hprot

theorem bootLocks_graft (s : State) (im : Image) : (bootLocks s im).graft = s.graft := by
  rw [bootLocks_eq]
  split <;> split <;> rfl

theorem graftLoad_view (s : State) (im : Image) : preparedView (graftLoad s im) = preparedView s :=
  show preparedView (graftView (graftLoad s im)) = preparedView (graftView s) from congrArg preparedView (graftLoad_keeps s im).view

theorem prepared_view (s : State) (src : Nat) (im : Image) : preparedView (prepared s src im) = preparedView s := by
  have hlocks := (bootLocks_view (graftLoad s im) im).trans (graftLoad_view s im)
  unfold prepared
  split
  · exact hlocks
  · exact hlocks

/-- Outside the link, the reset of a recovery source leaves the registers. -/
theorem prepared_reg (s : State) (src : Nat) (im : Image) {r : RegName} (i : Nat) (hr : OutsideLink r) :
    (prepared s src im).reg r i = (bootLocks (graftLoad s im) im).reg r i := by
  unfold prepared
  split
  · exact linkReset_reg _ i hr
  · rfl

theorem prepared_locked (s : State) (src : Nat) (im : Image) {r : RegName} (i : Nat) (hr : r ≠ .LK_NET) :
    (prepared s src im).locked r i = (bootLocks (graftLoad s im) im).locked r i := by
  unfold prepared
  split
  · exact linkReset_locked _ i hr
  · rfl

theorem prepared_graft (s : State) (src : Nat) (im : Image) : (prepared s src im).graft = (graftLoad s im).graft := by
  unfold prepared
  split
  · exact bootLocks_graft _ im
  · exact bootLocks_graft _ im

theorem lockOf_graftLoad (s : State) (im : Image) {r : RegName} (hr : r ∉ [RegName.GRF_ID, .GRF_STAT, .GRF_MATCH, .GRF_LOCK]) :
    lockOf (graftLoad s im) r = lockOf s r := by
  have hne : r ≠ .GRF_LOCK := by
    rintro rfl
    exact hr (by decide)
  exact Prod.ext (graftLoad_reg s im 0 hr) (graftLoad_locked s im 0 hne)

theorem lockOf_prepared (s : State) (src : Nat) (im : Image) {r : RegName} (hr : OutsideLink r) (hn : r ≠ .LK_NET) :
    lockOf (prepared s src im) r = lockOf (bootLocks (graftLoad s im) im) r :=
  Prod.ext (prepared_reg s src im 0 hr) (prepared_locked s src im 0 hn)

/-- R394: the locks of the header, whose registers no other part of the preparation writes. -/
theorem locksAs_prepared (s : State) (src : Nat) (im : Image) : LocksAs s (prepared s src im) im :=
  (locksAs_bootLocks (graftLoad s im) im).of_lockOf (lockOf_graftLoad s im (by decide)).symm (lockOf_graftLoad s im (by decide)).symm
    (lockOf_prepared s src im (by decide) (by decide)) (lockOf_prepared s src im (by decide) (by decide))

/-- The graft registers and stores tell all that the rule of the grafts speaks of. -/
theorem GraftsAs.of_parts {s' u' : State} (h : GraftsAs s s' im) (hs : u.graft = s.graft) (hsr : u.reg .GRF_STAT 0 = s.reg .GRF_STAT 0)
    (hu : u'.graft = s'.graft) (hstat : u'.reg .GRF_STAT 0 = s'.reg .GRF_STAT 0) (hid : u'.reg .GRF_ID 0 = s'.reg .GRF_ID 0) : GraftsAs u u' im := by
  unfold GraftsAs State.is State.get at h ⊢
  rw [hs, hsr, hu, hstat, hid]
  exact h

theorem prepared_graftReg (s : State) (src : Nat) (im : Image) {r : RegName} (hr : OutsideLink r) (hp : r ≠ .FL_PROT) (ho : r ≠ .FL_OTPLK) :
    (prepared s src im).reg r 0 = (graftLoad s im).reg r 0 := (prepared_reg s src im 0 hr).trans (bootLocks_reg _ im 0 hp ho)

/-- R389: the grafts of the image. -/
theorem graftsAs_prepared (s : State) (src : Nat) (im : Image) : GraftsAs s (prepared s src im) im :=
  (graftsAs_graftLoad s im).of_parts rfl rfl (prepared_graft s src im) (prepared_graftReg s src im (by decide) (by decide) (by decide))
    (prepared_graftReg s src im (by decide) (by decide) (by decide))

/-- R389: the graft stores are locked. -/
theorem prepared_lk (s : State) (src : Nat) (im : Image) : (prepared s src im).is F.GRF_LOCK_lk 0 = true := by
  have hreg := prepared_graftReg s src im (r := .GRF_LOCK) (by decide) (by decide) (by decide)
  rw [State.is, State.get, hreg]
  exact graftLoad_lk s im

end

/-! ### The start (R252, R390, R392 to R396) -/

/-- The boot registers as a start leaves them. -/
def bootRegs (s : State) (src : Nat) (fast : Bool) (lvl ceil ver : Nat) : State :=
  let s := (s.put F.BOOT_STAT_src 0 src).put F.BOOT_STAT_fast 0 (b2n fast)
  let s := (s.put F.BOOT_STAT_fail 0 s.boot.fail).put F.CLK_STAT_lock 0 7
  let s := ((s.put F.BEHAVIOUR_LEVEL_lvl 0 lvl).put F.BEHAVIOUR_LEVEL_ceil 0 ceil).put F.BEHAVIOUR_LEVEL_floor 0 (otpFloor s)
  s.put F.BOOT_VER_v 0 ver

/-- The boot's record as a start leaves it, with `rec_` as the resume record. -/
def bootDone (x : BootS) (rec_ : Option Resume) : BootS := { x with phase := .run, faultN := false, fail := 0, resume := rec_ }

def withBoot (s : State) (x : BootS) : State := { s with boot := x }

/-- Core 0 starts at `entry`, with `rec_` as the resume record. -/
def launched (s : State) (src : Nat) (fast : Bool) (lvl ceil ver : Nat) (rec_ : Option Resume) (entry : Nat) : State :=
  startCore0 (withBoot (bootRegs s src fast lvl ceil ver) (bootDone s.boot rec_)) entry

/-- What a start leaves of the device beside registers. -/
def launchView (s : State) : State := { s with out := [], regs := [], hw := [], srcAt := [], vsrc := [], core := [], boot := {} }

abbrev launchRegs : List RegName := [.BOOT_STAT, .CLK_STAT, .BEHAVIOUR_LEVEL, .BOOT_VER, .CORE_STAT]

/-- From `s` to `s'` core 0 has started. -/
abbrev LaunchKeeps (s s' : State) : Prop := Keeps launchView 0 0 (fun r _ => r ∈ launchRegs) s s'

section
variable {s : State} {src lvl ceil ver entry : Nat} {fast : Bool} {rec_ : Option Resume}

theorem bootRegs_boot (s : State) (src : Nat) (fast : Bool) (lvl ceil ver : Nat) : (bootRegs s src fast lvl ceil ver).boot = s.boot := rfl

theorem bootEnd_eq (s : State) (src : Nat) (fast : Bool) (lvl ceil ver : Nat) : bootEnd s src fast lvl ceil ver =
    withBoot (bootRegs s src fast lvl ceil ver) (bootDone s.boot s.boot.resume) := by
  rw [← bootRegs_boot s src fast lvl ceil ver, bootEnd, bootRegs, withBoot, bootDone]

theorem withBoot_boot (s : State) (x : BootS) : (withBoot s x).boot = x := rfl

theorem withBoot_withBoot (s : State) (x y : BootS) : withBoot (withBoot s x) y = withBoot s y := rfl

theorem LaunchKeeps.put {u : State} (h : LaunchKeeps s u) (f : Fld) (i v : Nat) (hf : f.reg ∈ launchRegs) : LaunchKeeps s (u.put f i v) :=
  Keeps.put h v hf

theorem bootRegs_keeps (s : State) (src : Nat) (fast : Bool) (lvl ceil ver : Nat) : LaunchKeeps s (bootRegs s src fast lvl ceil ver) :=
  have h0 : LaunchKeeps s s := Keeps.refl (fun _ _ _ _ _ _ => rfl) s
  (((((((h0.put F.BOOT_STAT_src 0 _ (by decide)).put F.BOOT_STAT_fast 0 _ (by decide)).put F.BOOT_STAT_fail 0 _ (by decide)).put F.CLK_STAT_lock 0 _
    (by decide)).put F.BEHAVIOUR_LEVEL_lvl 0 _ (by decide)).put F.BEHAVIOUR_LEVEL_ceil 0 _ (by decide)).put F.BEHAVIOUR_LEVEL_floor 0 _
    (by decide)).put F.BOOT_VER_v 0 _ (by decide)

theorem LaunchKeeps.withBoot {u : State} (h : LaunchKeeps s u) (x : BootS) : LaunchKeeps s (withBoot u x) := h.hidden rfl rfl rfl rfl

theorem LaunchKeeps.startCore0 {u : State} (h : LaunchKeeps s u) (entry : Nat) : LaunchKeeps s (startCore0 u entry) :=
  (h.put F.CORE_STAT_state 0 1 (by decide)).hidden rfl rfl rfl rfl

theorem launched_keeps (s : State) (src : Nat) (fast : Bool) (lvl ceil ver : Nat) (rec_ : Option Resume) (entry : Nat) :
    LaunchKeeps s (launched s src fast lvl ceil ver rec_ entry) :=
  ((bootRegs_keeps s src fast lvl ceil ver).withBoot _).startCore0 entry

theorem startCore0_get (s : State) (entry : Nat) (f : Fld) : (startCore0 s entry).get f 0 = (s.put F.CORE_STAT_state 0 1).get f 0 := rfl

theorem withBoot_get (s : State) (x : BootS) (f : Fld) (i : Nat) : (withBoot s x).get f i = s.get f i := rfl

theorem startCore0_core (s : State) (entry : Nat) : (startCore0 s entry).coreOf 0 =
    { k := [(0, { base := 0, len := 0o777777777#27, perm := 0o7777#12, otype := 0, tag := true })]
      pcc := { base := 0, len := 0o777777777#27, perm := 0o5000#12, otype := 0, tag := true }
      pc := BitVec.ofNat 27 entry, sr := 0o000177#12 } := State.setCore_coreOf ..

theorem startCore0_boot (s : State) (entry : Nat) : (startCore0 s entry).boot = s.boot := rfl

theorem launched_boot (s : State) (src : Nat) (fast : Bool) (lvl ceil ver : Nat) (rec_ : Option Resume) (entry : Nat) :
    (launched s src fast lvl ceil ver rec_ entry).boot = bootDone s.boot rec_ := startCore0_boot _ _

theorem bootRegs_stat (s : State) (src : Nat) (fast : Bool) (lvl ceil ver : Nat) :
    (bootRegs s src fast lvl ceil ver).get F.BOOT_STAT_src 0 = src % 4 ∧ (bootRegs s src fast lvl ceil ver).get F.BOOT_STAT_fast 0 = b2n fast % 2 ∧
    (bootRegs s src fast lvl ceil ver).get F.BOOT_STAT_fail 0 = s.boot.fail % 16 ∧ (bootRegs s src fast lvl ceil ver).get F.BEHAVIOUR_LEVEL_lvl 0 = lvl % 64 ∧
    (bootRegs s src fast lvl ceil ver).get F.BEHAVIOUR_LEVEL_ceil 0 = ceil % 64 := by
  unfold bootRegs
  simp (disch := decide) only [State.put_get_apart, State.put_get_same]
  exact ⟨rfl, rfl, rfl, rfl, rfl⟩

theorem launched_stat (s : State) (src : Nat) (fast : Bool) (lvl ceil ver : Nat) (rec_ : Option Resume) (entry : Nat) {f : Fld} (hf : f.reg ≠ .CORE_STAT) :
    (launched s src fast lvl ceil ver rec_ entry).get f 0 = (bootRegs s src fast lvl ceil ver).get f 0 :=
  (startCore0_get _ entry f).trans ((State.put_get_apart (f := F.CORE_STAT_state) _ 1 fun e => absurd e hf).trans (withBoot_get _ _ f 0))

theorem launched_fail (s : State) (src : Nat) (fast : Bool) (lvl ceil ver : Nat) (rec_ : Option Resume) (entry : Nat) :
    (launched s src fast lvl ceil ver rec_ entry).get F.BOOT_STAT_fail 0 = s.boot.fail % 16 :=
  (launched_stat s src fast lvl ceil ver rec_ entry (by decide)).trans (bootRegs_stat s src fast lvl ceil ver).2.2.1

/-- R252, R393, R396: a start is as the rules say where the graft stores are locked. -/
theorem coreStarts_launched (hlk : s.is F.GRF_LOCK_lk 0 = true) (src : Nat) (fast : Bool) (lvl ceil ver : Nat) (rec_ : Option Resume) (entry : Nat) :
    CoreStarts (launched s src fast lvl ceil ver rec_ entry) src fast entry lvl ceil := by
  obtain ⟨hsrc, hfast, -, hlvl, hceil⟩ := bootRegs_stat s src fast lvl ceil ver
  have hstat := @launched_stat s src fast lvl ceil ver rec_ entry
  have hboot := launched_boot s src fast lvl ceil ver rec_ entry
  refine ⟨startCore0_core _ entry, (startCore0_get _ entry _).trans (State.put_get_same _ F.CORE_STAT_state 0 1 (by decide)), ?_, ?_,
    (hstat (by decide)).trans hsrc, ?_, (hstat (by decide)).trans hlvl, (hstat (by decide)).trans hceil, ?_⟩
  · rw [hboot, bootDone]
  · rw [hboot, bootDone]
  · rw [State.is, hstat (by decide), hfast]
    cases fast <;> rfl
  · exact (Keeps.is (f := F.GRF_LOCK_lk) (launched_keeps s src fast lvl ceil ver rec_ entry) (by decide)).trans hlk

theorem lockOf_launched (s : State) (src : Nat) (fast : Bool) (lvl ceil ver : Nat) (rec_ : Option Resume) (entry : Nat) {r : RegName} (hr : r ∉ launchRegs) :
    lockOf (launched s src fast lvl ceil ver rec_ entry) r = lockOf s r :=
  Prod.ext ((launched_keeps s src fast lvl ceil ver rec_ entry).reg r 0 hr).1 rfl

end

end Sys2Proof.Machine
end

section
/-! PROOFS. What the rootstock keeps on its way to the start of core 0, and the start from a slot or by the fast path (17_boot_and_security.md, R390,
R392, R395). -/

namespace Sys2Proof.Machine

/-! ### What the rootstock keeps -/

/-- What the rootstock does not touch before it starts core 0, beside registers. -/
def rootView (s : State) : State :=
  { s with now := 0, out := [], regs := [], hw := [], srcAt := [], vsrc := [], sram := [], bstore := [], bram := [], engW := [], boot := {}, free := 0 }

abbrev rootRegs : List RegName := [.FL_ECCCNT, .MEM_ECCADR, .MEM_ECCCNT, .VU_PEND, .VU_LOST, .BOOT_STAT, .CLK_STAT]

/-- From `s` to `s'` the rootstock has cleared memories, tried sources and recorded failures. -/
abbrev RootKeeps (s s' : State) : Prop := Keeps rootView 0 0 (fun r _ => r ∈ rootRegs) s s'

section
variable {s u v : State} {src : Nat} {im : Image}

theorem RootKeeps.tick (s : State) (t : Nat) : RootKeeps s (s.tick t) := (Keeps.refl (fun _ _ _ _ _ _ => rfl) s).hidden rfl rfl rfl rfl

theorem RootKeeps.put (h : RootKeeps s u) (f : Fld) (i x : Nat) (hf : f.reg ∈ rootRegs) : RootKeeps s (u.put f i x) := Keeps.put h x hf

theorem RootKeeps.withBoot (h : RootKeeps s u) (x : BootS) : RootKeeps s (withBoot u x) := h.hidden rfl rfl rfl rfl

theorem RootKeeps.reads (h : RootKeeps s u) (hr : ReadKeeps u v) : RootKeeps s v :=
  Keeps.trans h ⟨h.blind, show rootView (bootView v) = rootView (bootView u) from congrArg rootView hr.view, hr.src, fun r i hi =>
    hr.reg r i (mt (List.mem_append_left (as := readRegs) [RegName.BOOT_STAT, .CLK_STAT]) hi)⟩

theorem bootFail_eq (s : State) (src : Nat) : bootFail s src =
    (withBoot s { s.boot with fail := s.boot.fail ||| 2 ^ (3 - src), faultN := true }).put F.BOOT_STAT_fail 0 (s.boot.fail ||| 2 ^ (3 - src)) := rfl

theorem RootKeeps.fail (h : RootKeeps s u) (src : Nat) : RootKeeps s (bootFail u src) := (h.withBoot _).put F.BOOT_STAT_fail 0 _ (by decide)

theorem RootKeeps.lockOf (h : RootKeeps s u) {r : RegName} (hr : r ∉ rootRegs) : lockOf u r = lockOf s r :=
  Prod.ext (h.reg r 0 hr).1 (congrArg (Store.get _ · _) (show u.written = s.written from show (rootView u).written = (rootView s).written from
    congrArg State.written h.view))

theorem RootKeeps.graft (h : RootKeeps s u) : u.graft = s.graft := show (rootView u).graft = (rootView s).graft from congrArg State.graft h.view

/-! ### The start that an image brings (R389, R392 to R396) -/

/-- The state in which core 0 starts from image `im`, whose lines were read in `u`; the link is reset where `k` is a recovery source. -/
def imageStart (u : State) (k src : Nat) (fast : Bool) (lvl ceil : Nat) (im : Image) (rec_ : Option Resume) (entry : Nat) : State :=
  launched (prepared u k im) src fast lvl ceil (imgPair im 3 2) rec_ entry

theorem locksAs_imageStart (h : RootKeeps s u) (k src : Nat) (fast : Bool) (lvl ceil : Nat) (im : Image) (rec_ : Option Resume) (entry : Nat) :
    LocksAs s (imageStart u k src fast lvl ceil im rec_ entry) im :=
  (locksAs_prepared u k im).of_lockOf (h.lockOf (by decide)).symm (h.lockOf (by decide)).symm (lockOf_launched _ _ _ _ _ _ _ _ (by decide))
    (lockOf_launched _ _ _ _ _ _ _ _ (by decide))

theorem LaunchKeeps.graft (h : LaunchKeeps s u) : u.graft = s.graft := show (launchView u).graft = (launchView s).graft from congrArg State.graft h.view

theorem graftsAs_imageStart (h : RootKeeps s u) (k src : Nat) (fast : Bool) (lvl ceil : Nat) (im : Image) (rec_ : Option Resume) (entry : Nat) :
    GraftsAs s (imageStart u k src fast lvl ceil im rec_ entry) im := by
  have hkeeps := launched_keeps (prepared u k im) src fast lvl ceil (imgPair im 3 2) rec_ entry
  exact (graftsAs_prepared u k im).of_parts h.graft.symm (h.reg _ 0 (by decide)).1.symm hkeeps.graft (hkeeps.reg .GRF_STAT 0 (by decide)).1
    (hkeeps.reg .GRF_ID 0 (by decide)).1

theorem coreStarts_imageStart (u : State) (k src : Nat) (fast : Bool) (lvl ceil : Nat) (im : Image) (rec_ : Option Resume) (entry : Nat) :
    CoreStarts (imageStart u k src fast lvl ceil im rec_ entry) src fast entry lvl ceil := coreStarts_launched (prepared_lk u k im) ..

/-- What a start shows of the state before it: all but registers, grafts, core 0, the link and the boot's record. -/
def startView (s : State) : State := { preparedView s with core := [], boot := {} }

theorem startView_launchView (s : State) : startView (launchView s) = startView s := rfl

theorem startView_preparedView (s : State) : startView (preparedView s) = startView s := rfl

theorem imageStart_view (u : State) (k src : Nat) (fast : Bool) (lvl ceil : Nat) (im : Image) (rec_ : Option Resume) (entry : Nat) :
    startView (imageStart u k src fast lvl ceil im rec_ entry) = startView u := by
  have hlaunch := (launched_keeps (prepared u k im) src fast lvl ceil (imgPair im 3 2) rec_ entry).view
  rw [imageStart, ← startView_launchView, hlaunch, startView_launchView, ← startView_preparedView, prepared_view, startView_preparedView]

theorem prepared_boot (u : State) (k : Nat) (im : Image) : (prepared u k im).boot = u.boot :=
  show (preparedView (prepared u k im)).boot = (preparedView u).boot from congrArg State.boot (prepared_view u k im)

theorem imageStart_boot (u : State) (k src : Nat) (fast : Bool) (lvl ceil : Nat) (im : Image) (rec_ : Option Resume) (entry : Nat) :
    (imageStart u k src fast lvl ceil im rec_ entry).boot = bootDone u.boot rec_ := by
  rw [imageStart, launched_boot, prepared_boot]

theorem imageStart_fail (u : State) (k src : Nat) (fast : Bool) (lvl ceil : Nat) (im : Image) (rec_ : Option Resume) (entry : Nat) :
    (imageStart u k src fast lvl ceil im rec_ entry).get F.BOOT_STAT_fail 0 = u.boot.fail % 16 := by
  rw [imageStart, launched_fail, prepared_boot]

theorem sram_of_startView (h : startView u = startView v) : u.sram = v.sram := show (startView u).sram = (startView v).sram from congrArg State.sram h

theorem imageStart_sram (u : State) (k src : Nat) (fast : Bool) (lvl ceil : Nat) (im : Image) (rec_ : Option Resume) (entry : Nat) :
    (imageStart u k src fast lvl ceil im rec_ entry).sram = u.sram := sram_of_startView (imageStart_view u k src fast lvl ceil im rec_ entry)

/-- The resume record that a full boot creates (R395). -/
def recordOf (s : State) (src : Nat) (im : Image) : Option Resume :=
  if src < 2 ∧ imgPair im 2 2 ≠ 0 then some ⟨src, imgPair im 0 2, imgW im 1 0, imgW im 1 1, ringSum s src (imgPair im 0 2)⟩ else none

/-- R392: the start of a full boot. -/
theorem bootStart_eq (u : State) (src : Nat) (im : Image) : bootStart u src im =
    imageStart u src src false (imgW im 1 0) (imgW im 1 1) im (recordOf (prepared u src im) src im) (imgPair im 2 0) := by
  show startCore0 (withBoot (bootEnd (prepared u src im) src false (imgW im 1 0) (imgW im 1 1) (imgPair im 3 2))
    { (bootEnd (prepared u src im) src false (imgW im 1 0) (imgW im 1 1) (imgPair im 3 2)).boot with
      resume := recordOf (prepared u src im) src im }) (imgPair im 2 0) = _
  rw [bootEnd_eq, withBoot_withBoot, withBoot_boot]
  rfl

/-- The start from an accepted image is as the rules say. -/
theorem bootStart_spec (h : RootKeeps s u) (src : Nat) (im : Image) : CoreStarts (bootStart u src im) src false (imgPair im 2 0) (imgW im 1 0) (imgW im 1 1) ∧
    LocksAs s (bootStart u src im) im ∧ GraftsAs s (bootStart u src im) im ∧ (bootStart u src im).sram = u.sram ∧
    (bootStart u src im).get F.BOOT_STAT_fail 0 = u.boot.fail % 16 := by
  rw [bootStart_eq]
  exact ⟨coreStarts_imageStart .., locksAs_imageStart h .., graftsAs_imageStart h .., imageStart_sram .., imageStart_fail ..⟩

/-! ### Memory cleared (R97, R284) -/

/-- The memories of the engines are clear, at the instant of the boot. -/
def Cleared (t : Nat) (s u : State) : Prop := u.bstore = [] ∧ u.bram = [] ∧ u.now = max s.now t ∧ u.pending = s.pending

variable {t : Nat}

/-- The state that the rootstock has cleared. -/
def rootClear (t : Nat) (s : State) : State := (clearMem (s.tick t)).put F.CLK_STAT_lock 0 7

theorem rootClear_keeps (t : Nat) (s : State) : RootKeeps s (rootClear t s) :=
  RootKeeps.put (u := clearMem (s.tick t)) ((RootKeeps.tick s t).hidden rfl rfl rfl rfl) F.CLK_STAT_lock 0 7 (by decide)

theorem cleared_rootClear (t : Nat) (s : State) : Cleared t s (rootClear t s) := ⟨rfl, rfl, rfl, rfl⟩

theorem rootClear_boot (t : Nat) (s : State) : (rootClear t s).boot = s.boot := rfl

theorem Cleared.of_view {α : Type} {view : State → α} (h : Cleared t s u) (hv : view v = view u)
    (hview : ∀ w w', view w = view w' → w.bstore = w'.bstore ∧ w.bram = w'.bram ∧ w.now = w'.now ∧ w.pending = w'.pending) : Cleared t s v := by
  obtain ⟨hstore, hram, hnow, hpend⟩ := hview v u hv
  rwa [Cleared, hstore, hram, hnow, hpend]

theorem Cleared.reads (h : Cleared t s u) (hr : ReadKeeps u v) : Cleared t s v :=
  h.of_view hr.view fun w w' e => ⟨show (bootView w).bstore = (bootView w').bstore by rw [e], show (bootView w).bram = (bootView w').bram by rw [e],
    show (bootView w).now = (bootView w').now by rw [e], show (bootView w).pending = (bootView w').pending by rw [e]⟩

theorem Cleared.imageStart (h : Cleared t s u) (k src : Nat) (fast : Bool) (lvl ceil : Nat) (im : Image) (rec_ : Option Resume) (entry : Nat) :
    Cleared t s (imageStart u k src fast lvl ceil im rec_ entry) :=
  h.of_view (imageStart_view u k src fast lvl ceil im rec_ entry) fun w w' e => ⟨show (startView w).bstore = (startView w').bstore by rw [e],
    show (startView w).bram = (startView w').bram by rw [e], show (startView w).now = (startView w').now by rw [e],
    show (startView w).pending = (startView w').pending by rw [e]⟩

theorem Cleared.start (h : Cleared t s u) (src : Nat) (im : Image) : Cleared t s (bootStart u src im) := by
  rw [bootStart_eq]
  exact h.imageStart ..

/-- R97, R284: SRAM is clear, BK63 after an exit from Dormant aside. -/
theorem clearMem_sramOf (s : State) {k : Nat} (h : ¬ (s.get F.BOOT_RSTC_cause 0 = 6 ∧ 63 * 32768 ≤ k)) : (clearMem s).sramOf k = {} := by
  refine Store.get_eq_default fun p hp hk => h ?_
  have hkept := (List.mem_filter.1 hp).1
  split at hkept
  · next hcause =>
    obtain ⟨q, hq, rfl⟩ := List.mem_map.1 hkept
    have hhigh := of_decide_eq_true (List.mem_filter.1 hq).2
    exact ⟨hcause, hk ▸ hhigh⟩
  · exact absurd hkept List.not_mem_nil

/-! ### The load lines of a slot (R392) -/

theorem FormRule.isSome (h : FormRule im) {i : Nat} (hi : i < 32) : (im.getD i none).isSome = true := h.1 i hi

theorem verify_long (s : State) (src : Nat) : 32 ≤ (verify s src).1.2.length := by
  have htake := congrArg List.length (verify_take s src)
  rw [List.length_take, headRead_length] at htake
  omega

theorem verify_accepts (h : (verify s src).1.1 = 0) : headCode s src = 0 ∧ imgSigned (verify s src).1.2 = true := by
  have hcode := h ▸ verify_code s src
  rw [← headCode_eq] at hcode
  by_cases hhead : headCode s src = 0
  · refine ⟨hhead, ?_⟩
    rw [if_neg (not_not.2 hhead)] at hcode
    by_contra hbad
    rw [if_neg hbad] at hcode
    exact absurd hcode (by decide)
  · rw [if_pos hhead] at hcode
    exact absurd hcode.symm hhead

/-- Every line of an accepted image could be read. -/
theorem verify_lines (h : (verify s src).1.1 = 0) {i : Nat} (hi : i < (verify s src).1.2.length) : ((verify s src).1.2.getD i none).isSome = true := by
  obtain ⟨hcode, hsigned⟩ := verify_accepts h
  by_cases h32 : i < 32
  · have hform := (headWhy_eq_zero.1 ((headCode_eq s src).symm.trans hcode)).1
    exact ((imgForm_iff (verify_long s src)).1 hform).isSome h32
  · have hmem : (verify s src).1.2.getD i none ∈ (verify s src).1.2.drop 24 := by
      have hdrop : i - 24 < ((verify s src).1.2.drop 24).length := by rw [List.length_drop]; omega
      rw [List.getD_eq_getElem _ _ hi, show (verify s src).1.2[i] = ((verify s src).1.2.drop 24)[i - 24] by
        rw [List.getElem_drop]; congr 1; omega]
      exact List.getElem_mem hdrop
    exact ((imgSigned_iff _).1 hsigned).1 _ (List.mem_append_right _ hmem)

/-- R392: the load lines of an accepted image of a slot stand in SRAM. -/
theorem loadedAs_verify (hsrc : src < 2) (h : (verify s src).1.1 = 0) : LoadedAs (verify s src).2 (verify s src).1.2 := by
  obtain ⟨hcode, -⟩ := verify_accepts h
  have hloaded := verify_loaded hsrc hcode
  have hwhy := (headCode_eq s src).symm.trans hcode
  obtain ⟨-, -, hfits⟩ := (imgFits_iff _).1 (headWhy_eq_zero.1 hwhy).2.1
  have hlen := verify_length s src
  rw [if_pos hwhy] at hlen
  have hpair : ∀ i j, i < 32 → imgPair (headRead s src).1 i j = imgPair (verify s src).1.2 i j := fun i j hi => by
    rw [← verify_take, imgPair_take hi]
  intro j hj
  obtain ⟨hend, -, -, -⟩ := hfits.resolve_left fun hzero => by rw [hzero] at hj; exact absurd hj (Nat.not_lt_zero _)
  have hi : imgPair (verify s src).1.2 4 0 + j / 4 < (verify s src).1.2.length := by omega
  have hload : IsLoad (headRead s src).1 (imgPair (verify s src).1.2 4 0 + j / 4) := by
    rw [IsLoad, hpair 4 0 (by decide), hpair 4 2 (by decide)]
    omega
  obtain ⟨d, hd⟩ := Option.isSome_iff_exists.1 (verify_lines h hi)
  have hcell := hloaded _ hi hload d hd (j % 4) (Nat.mod_lt _ (by decide))
  have hat : loadAt (headRead s src).1 (imgPair (verify s src).1.2 4 0 + j / 4) + j % 4 = (imgPair (verify s src).1.2 5 0 - 0o040000000) / 2 + j := by
    rw [loadAt, hpair 4 0 (by decide), hpair 5 0 (by decide), sramIx]
    omega
  rw [hat] at hcell
  rw [hcell, hd]
  rfl

theorem LoadedAs.of_sram (h : LoadedAs s im) (hu : u.sram = s.sram) : LoadedAs u im := fun j hj => by
  rw [State.sramOf, hu]
  exact h j hj

end

end Sys2Proof.Machine
end

section
/-! PROOFS. The rootstock: its wait for flash, the fast path, the slots and the wait for SPI recovery (13_flash.md, R307; 17_boot_and_security.md, R390
to R396). -/

namespace Sys2Proof.Machine

section
variable {s u : State} {src t : Nat} {im : Image} {P : State → Prop}

/-! ### A source is tried (R388, R390) -/

theorem ReadKeeps.boot (h : ReadKeeps s u) : u.boot = s.boot := show (bootView u).boot = (bootView s).boot from congrArg State.boot h.view

theorem verify_boot (s : State) (src : Nat) : (verify s src).2.boot = s.boot := ((ReadKeeps.refl s).verify src).boot

/-- The state after a source whose image does not pass. -/
def sourceFailed (s : State) (src : Nat) : State := bootFail ((verify s src).2.put F.BOOT_STAT_why 0 (verify s src).1.1) src

theorem bootTry_passed (h : (verify s src).1.1 = 0) : bootTry s src = bootStart (verify s src).2 src (verify s src).1.2 := if_pos h

theorem bootTry_failed (h : (verify s src).1.1 ≠ 0) : bootTry s src = sourceFailed s src := if_neg h

/-- The boot's record after source `src` has failed. -/
def failedBoot (x : BootS) (src : Nat) : BootS := { x with fail := x.fail ||| 2 ^ (3 - src), faultN := true }

theorem bootFail_boot (s : State) (src : Nat) : (bootFail s src).boot = failedBoot s.boot src := rfl

theorem sourceFailed_boot (s : State) (src : Nat) : (sourceFailed s src).boot = failedBoot s.boot src := by
  rw [sourceFailed, bootFail_boot]
  exact congrArg (failedBoot · src) (verify_boot s src)

theorem bootFail_now (s : State) (src : Nat) : (bootFail s src).now = s.now := rfl

theorem ReadKeeps.now (h : ReadKeeps s u) : u.now = s.now := show (bootView u).now = (bootView s).now from congrArg State.now h.view

theorem sourceFailed_now (s : State) (src : Nat) : (sourceFailed s src).now = s.now := by
  rw [sourceFailed, bootFail_now]
  exact ((ReadKeeps.refl s).verify src).now

/-- R390: a failure is counted, and its reason shown. -/
theorem sourceFailed_stat (s : State) (src : Nat) : (sourceFailed s src).get F.BOOT_STAT_why 0 = (verify s src).1.1 % 8 ∧
    (sourceFailed s src).get F.BOOT_STAT_fail 0 = (s.boot.fail ||| 2 ^ (3 - src)) % 16 := by
  have hput : ∀ w : State, w.boot = s.boot → (bootFail (w.put F.BOOT_STAT_why 0 (verify s src).1.1) src).get F.BOOT_STAT_why 0 = (verify s src).1.1 % 8 ∧
      (bootFail (w.put F.BOOT_STAT_why 0 (verify s src).1.1) src).get F.BOOT_STAT_fail 0 = (s.boot.fail ||| 2 ^ (3 - src)) % 16 := by
    intro w hw
    have hboot : (w.put F.BOOT_STAT_why 0 (verify s src).1.1).boot = s.boot := hw
    rw [bootFail_eq, hboot]
    refine ⟨?_, State.put_get_same _ F.BOOT_STAT_fail 0 _ (by decide)⟩
    rw [State.put_get_apart _ _ (by decide)]
    exact State.put_get_same w F.BOOT_STAT_why 0 _ (by decide)
  exact hput _ (verify_boot s src)

theorem RootKeeps.verify (h : RootKeeps s u) (src : Nat) : RootKeeps s (verify u src).2 := h.reads ((ReadKeeps.refl u).verify src)

theorem RootKeeps.failed (h : RootKeeps s u) (src : Nat) : RootKeeps s (sourceFailed u src) := ((h.verify src).put F.BOOT_STAT_why 0 _ (by decide)).fail src

theorem Cleared.verify (h : Cleared t s u) (src : Nat) : Cleared t s (verify u src).2 := h.reads ((ReadKeeps.refl u).verify src)

theorem Cleared.fail (h : Cleared t s u) (src : Nat) : Cleared t s (bootFail u src) := h

theorem Cleared.put (h : Cleared t s u) (f : Fld) (i x : Nat) : Cleared t s (u.put f i x) := h

theorem Cleared.withBoot (h : Cleared t s u) (x : BootS) : Cleared t s (withBoot u x) := h

theorem Cleared.now_eq (h : Cleared t s u) : u.now = max s.now t := h.2.2.1

theorem Cleared.failed (h : Cleared t s u) (src : Nat) : Cleared t s (sourceFailed u src) := ((h.verify src).put F.BOOT_STAT_why 0 _).fail src

theorem bootStart_phase (u : State) (src : Nat) (im : Image) : (bootStart u src im).boot.phase = .run := by
  rw [bootStart_eq, imageStart_boot, bootDone]

/-! ### The slots, and the wait for SPI recovery (R390, R392) -/

/-- The boot's record as SPI recovery waits for its host. -/
def spiWait (s : State) : State := withBoot s { s.boot with phase := .spi (some (s.now + 64000000000)) }

/-- Slot A is tried, then slot B, and then SPI recovery waits for its host. -/
def slotsTried (s : State) : State :=
  let s := bootTry s 0
  let s := if s.boot.phase = .due then bootTry s 1 else s
  if s.boot.phase = .due then spiWait s else s

theorem slotsTried_a (ha : (verify s 0).1.1 = 0) : slotsTried s = bootStart (verify s 0).2 0 (verify s 0).1.2 := by
  have hrun : (bootStart (verify s 0).2 0 (verify s 0).1.2).boot.phase ≠ .due := bootStart_phase _ _ _ ▸ nofun
  rw [slotsTried, bootTry_passed ha, if_neg hrun, if_neg hrun]

theorem sourceFailed_phase (h : s.boot.phase = .due) (src : Nat) : (sourceFailed s src).boot.phase = .due := by
  rw [sourceFailed_boot, failedBoot, h]

theorem slotsTried_b (h : s.boot.phase = .due) (ha : (verify s 0).1.1 ≠ 0) (hb : (verify (sourceFailed s 0) 1).1.1 = 0) :
    slotsTried s = bootStart (verify (sourceFailed s 0) 1).2 1 (verify (sourceFailed s 0) 1).1.2 := by
  have hrun : (bootStart (verify (sourceFailed s 0) 1).2 1 (verify (sourceFailed s 0) 1).1.2).boot.phase ≠ .due := bootStart_phase _ _ _ ▸ nofun
  rw [slotsTried, bootTry_failed ha, if_pos (sourceFailed_phase h 0), bootTry_passed hb, if_neg hrun]

theorem slotsTried_none (h : s.boot.phase = .due) (ha : (verify s 0).1.1 ≠ 0) (hb : (verify (sourceFailed s 0) 1).1.1 ≠ 0) :
    slotsTried s = spiWait (sourceFailed (sourceFailed s 0) 1) := by
  rw [slotsTried, bootTry_failed ha, if_pos (sourceFailed_phase h 0), bootTry_failed hb, if_pos (sourceFailed_phase (sourceFailed_phase h 0) 1)]

/-- R392: what a start from a slot shows. -/
def SlotStart (s s' : State) (src : Nat) (im : Image) (fail : Nat) : Prop :=
  CoreStarts s' src false (imgPair im 2 0) (imgW im 1 0) (imgW im 1 1) ∧ LocksAs s s' im ∧ GraftsAs s s' im ∧ LoadedAs s' im ∧
    s'.get F.BOOT_STAT_fail 0 = fail % 16

/-- R392: an accepted image of a slot starts core 0. -/
theorem slotStart (h : RootKeeps s u) (hsrc : src < 2) (hpass : (verify u src).1.1 = 0) :
    SlotStart s (bootStart (verify u src).2 src (verify u src).1.2) src (verify u src).1.2 u.boot.fail := by
  obtain ⟨hcore, hlocks, hgrafts, hsram, hfail⟩ := bootStart_spec (h.verify src) src (verify u src).1.2
  exact ⟨hcore, hlocks, hgrafts, (loadedAs_verify hsrc hpass).of_sram hsram, hfail.trans (congrArg (·.fail % 16) (verify_boot u src))⟩

/-- R390: with both slots refused SPI recovery waits, both failures recorded. -/
theorem slotsTried_waits (h : s.boot.phase = .due) (ha : (verify s 0).1.1 ≠ 0) (hb : (verify (sourceFailed s 0) 1).1.1 ≠ 0) :
    (slotsTried s).boot = { s.boot with phase := .spi (some ((sourceFailed (sourceFailed s 0) 1).now + 64000000000)), fail := s.boot.fail ||| 8 ||| 4, faultN := true } ∧
    (slotsTried s).get F.BOOT_STAT_why 0 = (verify (sourceFailed s 0) 1).1.1 % 8 ∧ (slotsTried s).get F.BOOT_STAT_fail 0 = (s.boot.fail ||| 8 ||| 4) % 16 := by
  obtain ⟨hwhy, hfail⟩ := sourceFailed_stat (sourceFailed s 0) 1
  rw [sourceFailed_boot] at hfail
  rw [slotsTried_none h ha hb, spiWait, withBoot_boot, withBoot_get, withBoot_get, hwhy, hfail, sourceFailed_boot, sourceFailed_boot]
  exact ⟨rfl, rfl, rfl⟩

/-! ### The fast path (R394, R395) -/

/-- The start by the fast path. -/
def fastStart (s : State) (r : Resume) : State :=
  startCore0 (bootEnd (bootLocks (graftLoad (srcLines s r.slot 0 r.len).2 (srcLines s r.slot 0 r.len).1) (srcLines s r.slot 0 r.len).1) r.slot true r.lvl r.ceil
    (imgPair (srcLines s r.slot 0 r.len).1 3 2)) (imgPair (srcLines s r.slot 0 r.len).1 2 2)

theorem fastStart_eq (s : State) (r : Resume) : fastStart s r = imageStart (srcLines s r.slot 0 r.len).2 0 r.slot true r.lvl r.ceil
    (srcLines s r.slot 0 r.len).1 s.boot.resume (imgPair (srcLines s r.slot 0 r.len).1 2 2) := by
  have hboot := ((ReadKeeps.refl s).srcLines r.slot 0 r.len).boot
  rw [fastStart, bootEnd_eq]
  show startCore0 (withBoot (bootRegs (prepared (srcLines s r.slot 0 r.len).2 0 (srcLines s r.slot 0 r.len).1) _ _ _ _ _)
    (bootDone _ (prepared (srcLines s r.slot 0 r.len).2 0 (srcLines s r.slot 0 r.len).1).boot.resume)) _ = _
  rw [prepared_boot, hboot]
  rfl

/-- R395: the fast path starts core 0 from the image of the resume record, which it keeps. -/
theorem fastStart_spec (h : RootKeeps s u) (hc : Cleared t s u) (r : Resume) : Cleared t s (fastStart u r) ∧
    CoreStarts (fastStart u r) r.slot true (imgPair (srcLines u r.slot 0 r.len).1 2 2) r.lvl r.ceil ∧
    LocksAs s (fastStart u r) (srcLines u r.slot 0 r.len).1 ∧ GraftsAs s (fastStart u r) (srcLines u r.slot 0 r.len).1 ∧
    (fastStart u r).boot.resume = u.boot.resume := by
  have hreads := (ReadKeeps.refl u).srcLines r.slot 0 r.len
  rw [fastStart_eq]
  refine ⟨(hc.reads hreads).imageStart .., coreStarts_imageStart .., locksAs_imageStart (h.reads hreads) .., graftsAs_imageStart (h.reads hreads) .., ?_⟩
  rw [imageStart_boot, bootDone]

theorem ringSum_of_keeps (h : RootKeeps s u) (slot len : Nat) : ringSum u slot len = ringSum s slot len := by
  have hblk : u.flBlk = s.flBlk := show (rootView u).flBlk = (rootView s).flBlk from congrArg State.flBlk h.view
  unfold ringSum State.flBlkOf
  rw [hblk]

theorem otpFloor_of_keeps (h : RootKeeps s u) : otpFloor u = otpFloor s := by
  have hotp : u.otp = s.otp := show (rootView u).otp = (rootView s).otp from congrArg State.otp h.view
  unfold otpFloor State.otpOf
  rw [hotp]

/-- R395, R396: the fast path needs a reset out of Dormant, an unchanged image and a level at the floor or above. -/
theorem resumeOk_iff (h : RootKeeps s u) (hb : u.boot = s.boot) (r : Resume) : resumeOk u = some r ↔
    s.get F.BOOT_RSTC_cause 0 = 6 ∧ s.boot.resume = some r ∧ ringSum s r.slot r.len = r.ring ∧ otpFloor s ≤ r.lvl := by
  have hcause : u.get F.BOOT_RSTC_cause 0 = s.get F.BOOT_RSTC_cause 0 := Keeps.get h (by decide)
  rw [resumeOk, hcause, hb]
  by_cases h6 : s.get F.BOOT_RSTC_cause 0 = 6
  · rw [if_pos h6, Option.filter_eq_some_iff, Bool.and_eq_true, beq_iff_eq, decide_eq_true_eq, ringSum_of_keeps h, otpFloor_of_keeps h]
    exact ⟨fun hr => ⟨h6, hr⟩, fun hr => hr.2⟩
  · rw [if_neg h6]
    exact ⟨nofun, fun hr => absurd hr.1 h6⟩

/-! ### The rootstock's command (R97, R284, R307, R392, R395) -/

theorem flashIdle_iff (s : State) : ((List.range 4).all fun b => (s.flOf b).run.isNone) = true ↔ ∀ b < 4, (s.flOf b).run = none := by
  simp only [List.all_eq_true, List.mem_range, Option.isNone_iff_eq_none]

/-- The rootstock may run. -/
def rootReady (s : State) : Bool := s.boot.phase == .due && !s.boot.held && (List.range 4).all (fun b => (s.flOf b).run.isNone)

theorem rootReady_tick (hdue : s.boot.phase = .due) (hheld : s.boot.held = false) :
    rootReady (s.tick t) = true ↔ ∀ b < 4, (s.flOf b).run = none := by
  have hcond : rootReady (s.tick t) = (s.boot.phase == .due && !s.boot.held && (List.range 4).all (fun b => (s.flOf b).run.isNone)) := rfl
  rw [hcond, hdue, hheld]
  exact flashIdle_iff s

/-- R307: the rootstock waits for the banks of flash. -/
theorem does_rootstock_busy (hdue : s.boot.phase = .due) (hheld : s.boot.held = false) (hbusy : ¬ ∀ b < 4, (s.flOf b).run = none) :
    Does (.rootstockBoot t) s (fun s' => s' = { s with now := max s.now t, out := [] }) :=
  have hnot : ¬ rootReady (s.tick t) = true := mt (rootReady_tick hdue hheld).1 hbusy
  ⟨s.tick t, if_neg hnot, rfl⟩

/-- What the rootstock does once it may run. -/
def rootBoot (s : State) : State :=
  let s := (clearMem s).put F.CLK_STAT_lock 0 7
  match resumeOk s with
  | some r => fastStart s r
  | none => slotsTried s

theorem exec_rootstockBoot (t : Nat) (s : State) : exec (.rootstockBoot t) s = event t s rootReady rootBoot := rfl

theorem rootBoot_fast {r : Resume} (hr : resumeOk (rootClear t s) = some r) : rootBoot (s.tick t) = fastStart (rootClear t s) r := by
  rw [rootClear] at hr ⊢
  rw [rootBoot]
  simp only [hr]

theorem rootBoot_slots (hr : resumeOk (rootClear t s) = none) : rootBoot (s.tick t) = slotsTried (rootClear t s) := by
  rw [rootClear] at hr ⊢
  rw [rootBoot]
  simp only [hr]

/-- R392, R395: the rootstock runs where every bank of flash is idle. -/
theorem does_of_rootBoot (hdue : s.boot.phase = .due) (hheld : s.boot.held = false) (hidle : ∀ b < 4, (s.flOf b).run = none)
    (hP : P (rootBoot (s.tick t))) : Does (.rootstockBoot t) s P :=
  does_of_event (exec_rootstockBoot t s) ((rootReady_tick hdue hheld).2 hidle) hP

end

end Sys2Proof.Machine
end

section
/-! PROOFS. The recovery sources: SPI and the network (17_boot_and_security.md, R390, R391). -/

namespace Sys2Proof.Machine

section
variable {s u : State} {t x : Nat} {P : State → Prop}

/-! ### The network source begins (R391) -/

/-- What the start of the network source does not touch beside registers and its own phase. -/
def netView (s : State) : State := { s with out := [], regs := [], hw := [], srcAt := [], vsrc := [], link := [], lkDrive := [] }

/-- From `s` to `s'` ports have been brought up. -/
def NetKeeps (s s' : State) : Prop := netView s' = netView s ∧ s'.reg .BOOT_STAT 0 = s.reg .BOOT_STAT 0

theorem NetKeeps.put (h : NetKeeps s u) (f : Fld) (i v : Nat) (hf : .BOOT_STAT ≠ f.reg) : NetKeeps s (u.put f i v) :=
  ⟨h.1, (State.put_reg_of_ne u i 0 v hf).trans h.2⟩

theorem NetKeeps.setLink (h : NetKeeps s u) (p : Nat) (v : LinkS) : NetKeeps s (u.setLink p v) := h

theorem NetKeeps.setLkDrive (h : NetKeeps s u) (p : Nat) (v : Option Nat) : NetKeeps s (u.setLkDrive p v) := h

theorem NetKeeps.wakeChange (h : NetKeeps s u) (s0 : State) (p : Nat) : NetKeeps s (wakeChange s0 u p) := by
  unfold Machine.wakeChange
  split
  · exact h
  · exact h

theorem NetKeeps.align (h : NetKeeps s u) (p : Nat) : NetKeeps s (lkAlign u p) :=
  ((h.put F.LK_PSTAT_state p 1 (by decide)).setLkDrive p _).wakeChange u p

/-- The phase in which the network source waits for its host. -/
def netWait (s : State) : State := withBoot s { s.boot with phase := .net (some (s.now + 10 * 64000000000)) }

theorem netStart_keeps (s : State) : NetKeeps (netWait s) (netStart s) :=
  List.foldlRecOn (motive := NetKeeps (netWait s)) _ _ ⟨rfl, rfl⟩ fun u hu p _ => by
    split
    · exact hu
    · exact ((hu.put F.LK_CTL_en p 1 (by decide)).setLink p {}).align p

theorem NetKeeps.parts (h : NetKeeps s u) : u.boot = s.boot ∧ u.now = s.now ∧ u.sram = s.sram ∧ u.core = s.core :=
  ⟨show (netView u).boot = (netView s).boot by rw [h.1], show (netView u).now = (netView s).now by rw [h.1],
    show (netView u).sram = (netView s).sram by rw [h.1], show (netView u).core = (netView s).core by rw [h.1]⟩

theorem NetKeeps.get (h : NetKeeps s u) {f : Fld} (hf : f.reg = .BOOT_STAT) : u.get f 0 = s.get f 0 := by
  rw [State.get, State.get, hf, h.2]

/-- R391: the network source waits for its host, and nothing of memory, core 0 or the boot status differs. -/
theorem netStart_spec (s : State) : (netStart s).boot = { s.boot with phase := .net (some (s.now + 640000000000)) } ∧ (netStart s).now = s.now ∧
    (netStart s).sram = s.sram ∧ (netStart s).core = s.core ∧ ∀ f : Fld, f.reg = .BOOT_STAT → (netStart s).get f 0 = s.get f 0 := by
  have hkeeps := netStart_keeps s
  obtain ⟨hboot, hnow, hsram, hcore⟩ := hkeeps.parts
  exact ⟨hboot, hnow, hsram, hcore, fun f hf => hkeeps.get hf⟩

/-! ### A source whose host does not come (R390) -/

theorem bootFail_fail (s : State) (src : Nat) : (bootFail s src).get F.BOOT_STAT_fail 0 = (s.boot.fail ||| 2 ^ (3 - src)) % 16 :=
  State.put_get_same _ F.BOOT_STAT_fail 0 _ (by decide)

theorem does_of_spiTimeout (h : s.boot.phase = .spi (some x)) (hx : x ≤ max s.now t) (hP : P (netStart (bootFail (s.tick t) 2))) :
    Does (.bootSourceTimeout t) s P := by
  have hphase : (s.tick t).boot.phase = .spi (some x) := h
  have hlate : x ≤ (s.tick t).now := hx
  refine ⟨_, ?_, hP⟩
  show execBootSourceTimeout t s = _
  simp only [execBootSourceTimeout, event, hphase, hlate, decide_true, if_true]

theorem does_of_netTimeout (h : s.boot.phase = .net (some x)) (hx : x ≤ max s.now t) (hP : P (netFail (s.tick t))) :
    Does (.bootSourceTimeout t) s P := by
  have hphase : (s.tick t).boot.phase = .net (some x) := h
  have hlate : x ≤ (s.tick t).now := hx
  refine ⟨_, ?_, hP⟩
  show execBootSourceTimeout t s = _
  simp only [execBootSourceTimeout, event, hphase, hlate, decide_true, if_true]

/-- R390: the network source fails, and the rootstock returns to slot A. -/
theorem netFail_spec (s : State) : (netFail s).boot = { s.boot with phase := .due, fail := s.boot.fail ||| 1, faultN := true } ∧ (netFail s).link = [] ∧
    (netFail s).get F.BOOT_STAT_fail 0 = (s.boot.fail ||| 1) % 16 ∧ (netFail s).now = s.now ∧ (netFail s).sram = s.sram ∧ (netFail s).core = s.core := by
  have hreg : (netFail s).reg .BOOT_STAT 0 = (bootFail s 3).reg .BOOT_STAT 0 := linkReset_reg (bootFail s 3) 0 (by decide)
  refine ⟨rfl, rfl, ?_, rfl, rfl, rfl⟩
  rw [State.get, hreg]
  exact bootFail_fail s 3

/-! ### SPI recovery (R391) -/

theorem inSpiBoot_of_phase {p : Option Nat} (h : s.boot.phase = .spi p) : inSpiBoot s = true := by rw [inSpiBoot, h]

/-- R391: lines from the host stand in SRAM. -/
theorem does_spiWrite {p : Option Nat} (h : s.boot.phase = .spi p) {a : Addr} {ls : List Line}
    (ha : a.toNat % 8 = 0 ∧ 0o040000000 ≤ a.toNat ∧ a.toNat + 8 * ls.length ≤ 0o040000000 + 32 * 65536)
    (hP : P (putLines (spiHeard (s.tick t)) (sramIx a.toNat) ls)) : Does (.spiRecoveryWrite t a ls) s P := by
  refine does_of_event (cond := inSpiBoot) (eff := fun s => if a.toNat % 8 = 0 ∧ 0o040000000 ≤ a.toNat ∧ a.toNat + 8 * ls.length ≤ 0o040000000 + 32 * 65536 then
    putLines (spiHeard s) (sramIx a.toNat) ls else spiHeard s) rfl (inSpiBoot_of_phase h) ?_
  rw [if_pos ha]
  exact hP

/-- R390, R391: the image in SRAM is verified as that of source `src`. -/
def imageTried (s : State) (src : Nat) : State := if inSpiBoot (bootTry s src) then netStart (bootTry s src) else bootTry s src

theorem does_of_spiVerify {p : Option Nat} (h : s.boot.phase = .spi p) {src : Nat} (hsrc : src = 2) (hP : P (imageTried (spiHeard (s.tick t)) src)) :
    Does (.spiRecoveryVerify t) s P := by
  subst hsrc
  exact does_of_event (cond := inSpiBoot) (eff := fun s => imageTried (spiHeard s) 2) rfl (inSpiBoot_of_phase h) hP

theorem imageTried_passed {src : Nat} (h : (verify s src).1.1 = 0) : imageTried s src = bootStart (verify s src).2 src (verify s src).1.2 := by
  have hrun : ¬ inSpiBoot (bootStart (verify s src).2 src (verify s src).1.2) = true := by
    rw [inSpiBoot, bootStart_phase]
    exact nofun
  rw [imageTried, bootTry_passed h, if_neg hrun]

theorem imageTried_failed {p : Option Nat} (hp : s.boot.phase = .spi p) {src : Nat} (h : (verify s src).1.1 ≠ 0) :
    imageTried s src = netStart (sourceFailed s src) := by
  have hwaits : (sourceFailed s src).boot.phase = .spi p := by rw [sourceFailed_boot, failedBoot, hp]
  rw [imageTried, bootTry_failed h, if_pos (inSpiBoot_of_phase hwaits)]

/-- R395: a recovery source brings no resume record. -/
theorem bootStart_resume {src : Nat} (hsrc : 2 ≤ src) (u : State) (im : Image) : (bootStart u src im).boot.resume = none := by
  rw [bootStart_eq, imageStart_boot, bootDone, recordOf, if_neg fun h => absurd h.1 (not_lt.2 hsrc)]

theorem shown_bootStat (s : State) : State.shown s .BOOT_STAT 0 = (s.reg .BOOT_STAT 0).toNat := rfl

/-- R391: the boot status is read. -/
theorem does_spiStatus {p : Option Nat} (h : s.boot.phase = .spi p) (hP : P ((spiHeard (s.tick t)).emit (.data (State.shown s .BOOT_STAT 0)))) :
    Does (.spiRecoveryStatus t) s P :=
  does_of_event (cond := inSpiBoot) (eff := fun s => (spiHeard s).emit (.data (State.shown s .BOOT_STAT 0))) rfl (inSpiBoot_of_phase h) hP

end

end Sys2Proof.Machine
end

section
/-! PROOFS. The clauses of O47, and the obligation (17_boot_and_security.md, R388 to R396). -/

namespace Sys2Proof.Machine

section
variable {s : State} {t x : Nat}

/-! ### The rootstock (R97, R284, R392, R395) -/

theorem rootClear_sramOf (t : Nat) (s : State) {k : Nat} (h : ¬ (s.get F.BOOT_RSTC_cause 0 = 6 ∧ 63 * 32768 ≤ k)) : (rootClear t s).sramOf k = {} :=
  clearMem_sramOf (s.tick t) h

/-- R395: after Dormant a resume record whose image is unchanged starts core 0 by the fast path. -/
theorem does_rootstock_fast (hdue : s.boot.phase = .due) (hheld : s.boot.held = false) (hidle : ∀ b < 4, (s.flOf b).run = none) {r : Resume}
    (hr : s.boot.resume = some r) (hcause : s.get F.BOOT_RSTC_cause 0 = 6) (hring : ringSum s r.slot r.len = r.ring) (hfloor : otpFloor s ≤ r.lvl) :
    Does (.rootstockBoot t) s (fun s' => Cleared t s s' ∧
      CoreStarts s' r.slot true (imgPair (srcLines (rootClear t s) r.slot 0 r.len).1 2 2) r.lvl r.ceil ∧
      LocksAs s s' (srcLines (rootClear t s) r.slot 0 r.len).1 ∧ GraftsAs s s' (srcLines (rootClear t s) r.slot 0 r.len).1 ∧ s'.boot.resume = some r) := by
  have hok := (resumeOk_iff (rootClear_keeps t s) (rootClear_boot t s) r).2 ⟨hcause, hr, hring, hfloor⟩
  refine does_of_rootBoot hdue hheld hidle ?_
  rw [rootBoot_fast hok, ← hr]
  exact fastStart_spec (rootClear_keeps t s) (cleared_rootClear t s) r

/-- Without a record that holds there is no fast path. -/
theorem resumeOk_rootClear (h : ∀ r, s.boot.resume = some r → s.get F.BOOT_RSTC_cause 0 = 6 → ringSum s r.slot r.len ≠ r.ring ∨ r.lvl < otpFloor s) :
    resumeOk (rootClear t s) = none := by
  rw [Option.eq_none_iff_forall_ne_some]
  intro r hr
  obtain ⟨hcause, hres, hring, hfloor⟩ := (resumeOk_iff (rootClear_keeps t s) (rootClear_boot t s) r).1 hr
  exact (h r hres hcause).elim (absurd hring) fun hlow => absurd hfloor (Nat.not_le.2 hlow)

/-- What the rootstock comes to by slots A and B, whose verifications give `a` and `b`. -/
def SlotsRule (t : Nat) (a b : (Nat × Image) × State) (s s' : State) : Prop :=
  if a.1.1 = 0 then SlotStart s s' 0 a.1.2 s.boot.fail
  else if b.1.1 = 0 then SlotStart s s' 1 b.1.2 (s.boot.fail ||| 8)
  else s'.boot = { s.boot with phase := .spi (some (max s.now t + 64000000000)), fail := s.boot.fail ||| 8 ||| 4, faultN := true } ∧
    s'.get F.BOOT_STAT_why 0 = b.1.1 % 8 ∧ s'.get F.BOOT_STAT_fail 0 = (s.boot.fail ||| 8 ||| 4) % 16

section
variable {s0 : State} {a b : (Nat × Image) × State}

/-- R390, R392: slot A starts core 0, or else slot B, or SPI recovery waits. -/
theorem slotsRule (hkeeps : RootKeeps s s0) (hclear : Cleared t s s0) (hboot : s0.boot = s.boot) (ha : verify s0 0 = a)
    (hb : verify (sourceFailed s0 0) 1 = b) (hdue : s.boot.phase = .due) : Cleared t s (slotsTried s0) ∧ SlotsRule t a b s (slotsTried s0) := by
  have hphase : s0.boot.phase = .due := hboot ▸ hdue
  unfold SlotsRule
  by_cases hpass : a.1.1 = 0
  · have hstart := slotStart (src := 0) hkeeps (by decide) (ha ▸ hpass)
    rw [if_pos hpass, slotsTried_a (ha ▸ hpass), ← ha, ← hboot]
    exact ⟨(hclear.verify 0).start 0 _, hstart⟩
  · rw [if_neg hpass]
    by_cases hother : b.1.1 = 0
    · have hstart := slotStart (src := 1) (hkeeps.failed 0) (by decide) (hb ▸ hother)
      rw [sourceFailed_boot, hboot] at hstart
      rw [if_pos hother, slotsTried_b hphase (ha ▸ hpass) (hb ▸ hother), ← hb]
      exact ⟨((hclear.failed 0).verify 1).start 1 _, hstart⟩
    · have hfailed := (hclear.failed 0).failed 1
      have hwaits := slotsTried_waits hphase (ha ▸ hpass) (hb ▸ hother)
      rw [hfailed.now_eq, hboot, hb] at hwaits
      rw [if_neg hother]
      refine ⟨?_, hwaits⟩
      rw [slotsTried_none hphase (ha ▸ hpass) (hb ▸ hother), spiWait]
      exact hfailed.withBoot _

theorem does_slots (hs0 : rootClear t s = s0) (ha : verify s0 0 = a) (hb : verify (sourceFailed s0 0) 1 = b)
    (hdue : s.boot.phase = .due) (hheld : s.boot.held = false) (hidle : ∀ b < 4, (s.flOf b).run = none)
    (hno : ∀ r, s.boot.resume = some r → s.get F.BOOT_RSTC_cause 0 = 6 → ringSum s r.slot r.len ≠ r.ring ∨ r.lvl < otpFloor s) :
    Does (.rootstockBoot t) s (fun s' => Cleared t s s' ∧ SlotsRule t a b s s') := by
  refine does_of_rootBoot hdue hheld hidle ?_
  rw [rootBoot_slots (resumeOk_rootClear hno), hs0]
  exact slotsRule (hs0 ▸ rootClear_keeps t s) (hs0 ▸ cleared_rootClear t s) (hs0 ▸ rootClear_boot t s) ha hb hdue

end

/-! ### The recovery sources (R390, R391) -/

theorem SramOnly.refl (s : State) : SramOnly s s := rfl

/-- R390: SPI recovery fails, and the network source begins. -/
theorem does_spiTimeout (h : s.boot.phase = .spi (some x)) (hx : x ≤ max s.now t) : Does (.bootSourceTimeout t) s (fun s' =>
    s'.boot.phase = .net (some (max s.now t + 640000000000)) ∧ s'.boot.fail = s.boot.fail ||| 2 ∧ s'.get F.BOOT_STAT_fail 0 = (s.boot.fail ||| 2) % 16 ∧
    s'.boot.faultN = true ∧ s'.now = max s.now t ∧ s'.sram = s.sram ∧ s'.core = s.core) := by
  refine does_of_spiTimeout h hx ?_
  obtain ⟨hboot, hnow, hsram, hcore, hstat⟩ := netStart_spec (bootFail (s.tick t) 2)
  refine ⟨?_, ?_, (hstat _ rfl).trans (bootFail_fail (s.tick t) 2), ?_, hnow, hsram, hcore⟩
  · rw [hboot]
    rfl
  · rw [hboot]
    rfl
  · rw [hboot]
    rfl

/-- R390: the network source fails, and the rootstock returns to slot A. -/
theorem does_netTimeout (h : s.boot.phase = .net (some x)) (hx : x ≤ max s.now t) : Does (.bootSourceTimeout t) s (fun s' =>
    s'.boot = { s.boot with phase := .due, fail := s.boot.fail ||| 1, faultN := true } ∧ s'.link = [] ∧
    s'.get F.BOOT_STAT_fail 0 = (s.boot.fail ||| 1) % 16 ∧ s'.now = max s.now t ∧ s'.sram = s.sram ∧ s'.core = s.core) :=
  does_of_netTimeout h hx (netFail_spec (s.tick t))

/-- R391: lines from the host reach SRAM, and nothing else differs. -/
theorem does_spiLines {p : Option Nat} (h : s.boot.phase = .spi p) {a : Addr} {ls : List Line} (halign : a.toNat % 8 = 0) (hlow : 0o040000000 ≤ a.toNat)
    (hhigh : a.toNat + 8 * ls.length ≤ 0o040000000 + 32 * 0o200000)
    (hgood : ∀ j < 4 * ls.length, (s.sramOf ((a.toNat - 0o040000000) / 2 + j)).ecc ≠ .bad) : Does (.spiRecoveryWrite t a ls) s (fun s' =>
      SramOnly (spiHeard (s.tick t)) s' ∧ ∀ j, s'.sramOf j =
        if (a.toNat - 0o040000000) / 2 ≤ j ∧ j < (a.toNat - 0o040000000) / 2 + 4 * ls.length then
          lineCell (ls.getD ((j - (a.toNat - 0o040000000) / 2) / 4) 0) ((j - (a.toNat - 0o040000000) / 2) % 4)
        else s.sramOf j) :=
  does_spiWrite h ⟨halign, hlow, hhigh⟩ ⟨(SramOnly.refl _).lines hgood, fun j => putLines_sramOf (spiHeard (s.tick t)) _ ls j⟩

/-- What the verification `a` of the image in SRAM, as that of source `src`, brings at instant `now`. -/
def RecoveryRule (src now : Nat) (a : (Nat × Image) × State) (s s' : State) : Prop :=
  if a.1.1 = 0 then CoreStarts s' src false (imgPair a.1.2 2 0) (imgW a.1.2 1 0) (imgW a.1.2 1 1) ∧ LocksAs s s' a.1.2 ∧ GraftsAs s s' a.1.2 ∧ s'.boot.resume = none
  else s'.boot.phase = .net (some (now + 640000000000)) ∧ s'.boot.fail = s.boot.fail ||| 2 ^ (3 - src) ∧
    s'.get F.BOOT_STAT_fail 0 = (s.boot.fail ||| 2 ^ (3 - src)) % 16 ∧ s'.get F.BOOT_STAT_why 0 = a.1.1 % 8

section
variable {u : State} {a : (Nat × Image) × State} {p : Option Nat} {src : Nat}

/-- R390, R391: the image in SRAM starts core 0, or the network source begins. -/
theorem recoveryRule (hkeeps : RootKeeps s u) (hp : u.boot = { s.boot with phase := .spi p }) (hsrc : 2 ≤ src) (ha : verify u src = a) :
    RecoveryRule src u.now a s (imageTried u src) := by
  unfold RecoveryRule
  by_cases hpass : a.1.1 = 0
  · rw [if_pos hpass, imageTried_passed (ha ▸ hpass)]
    obtain ⟨hcore, hlocks, hgrafts, -, -⟩ := bootStart_spec (hkeeps.verify src) src (verify u src).1.2
    rw [← ha]
    exact ⟨hcore, hlocks, hgrafts, bootStart_resume hsrc _ _⟩
  · rw [if_neg hpass, imageTried_failed (p := p) (by rw [hp]) (ha ▸ hpass)]
    obtain ⟨hboot, -, -, -, hstat⟩ := netStart_spec (sourceFailed u src)
    obtain ⟨hwhy, hfail⟩ := sourceFailed_stat u src
    rw [hp] at hfail
    rw [ha] at hwhy
    rw [hboot, sourceFailed_now, sourceFailed_boot, hp]
    exact ⟨rfl, rfl, (hstat _ rfl).trans hfail, (hstat _ rfl).trans hwhy⟩

theorem spiHeard_boot (s : State) : (spiHeard s).boot = { s.boot with phase := .spi none } := rfl

theorem rootKeeps_spiHeard (t : Nat) (s : State) : RootKeeps s (spiHeard (s.tick t)) := (RootKeeps.tick s t).withBoot _

theorem does_spiVerify (h : s.boot.phase = .spi p) (hsrc : src = 2) (hu : spiHeard (s.tick t) = u) (ha : verify u src = a) :
    Does (.spiRecoveryVerify t) s (RecoveryRule src (max s.now t) a s) := by
  have hnow : u.now = max s.now t := hu ▸ rfl
  have hboot : u.boot = { s.boot with phase := .spi none } := hu ▸ spiHeard_boot (s.tick t)
  refine does_of_spiVerify h hsrc ?_
  rw [hu, ← hnow]
  exact recoveryRule (hu ▸ rootKeeps_spiHeard t s) hboot hsrc.ge ha

end

/-- R391: the boot status is read. -/
theorem does_spiRead {p : Option Nat} (h : s.boot.phase = .spi p) : Does (.spiRecoveryStatus t) s (fun s' =>
    s' = { spiHeard (s.tick t) with out := s'.out } ∧ ∃ v, s'.out = [.data v] ∧ F.BOOT_STAT_fail.of v = s.get F.BOOT_STAT_fail 0 ∧
      F.BOOT_STAT_why.of v = s.get F.BOOT_STAT_why 0) :=
  does_spiStatus h ⟨rfl, _, rfl, by
    rw [shown_bootStat]
    exact ⟨(BitVec.extractLsb'_toNat ..).symm, (BitVec.extractLsb'_toNat ..).symm⟩⟩

end

end Sys2Proof.Machine

namespace Sys2Proof.Settled
open Sys2Proof.Machine

/-- Settles O47: what a verification answers is the header's checks in their order, and every path of the rootstock and of the recovery sources either launches core 0
in the state that the image has prepared, or records the failure of its source. -/
theorem bootSources : Obligations.BootSources := by
  unfold Obligations.BootSources
  intro t s now s0 idle Cleared failed
  refine ⟨fun k hk => ?_, fun src hsrc => ?_, fun hdue hheld hbusy => ?_,
    fun hdue hheld hidle => ⟨fun r hr hcause hring hfloor => ?_, fun hno => ?_⟩,
    fun x h hx => ?_, fun x h hx => ?_, fun p h => ⟨fun a ls halign hlow hhigh hgood => ?_, ?_, ?_⟩⟩
  · exact rootClear_sramOf t s hk
  · exact imageRule s hsrc
  · exact does_rootstock_busy hdue hheld hbusy
  · exact does_rootstock_fast hdue hheld hidle hr hcause hring hfloor
  · exact does_slots (s0 := s0) rfl rfl rfl hdue hheld hidle hno
  · exact does_spiTimeout h hx
  · exact does_netTimeout h hx
  · exact does_spiLines h halign hlow hhigh hgood
  · exact does_spiVerify h rfl rfl rfl
  · exact does_spiRead h

end Sys2Proof.Settled
end

section
/-! PROOFS. The engine instructions that load and compute (05_engine_instructions.md, R109 to R116). -/

namespace Sys2Proof.Machine

/-! ### Decoding (R111, R112) -/

section
variable {w : BitVec 36}

/-- R112: an opcode that the table does not name, and that of NOP. -/
theorem engDecode_of_opcode_reserved (hop : w.toNat / 2 ^ 30 = 0 ∨ 17 ≤ w.toNat / 2 ^ 30) : engDecode w = .nop := by
  simp only [engDecode, engOpcode_eq]
  split
  case h_17 => rfl
  all_goals omega

/-- R110, R112: a reserved code in the operand field a. -/
theorem engDecode_of_a_reserved (hop : w.toNat / 2 ^ 30 ∈ [2, 5, 6, 9, 10, 11, 12, 13, 14, 15, 16]) (ha : ¬ (w.extractLsb' 22 6).toNat < 39) :
    engDecode w = .nop := by
  simp only [List.mem_cons, List.not_mem_nil, or_false] at hop
  rcases hop with h | h | h | h | h | h | h | h | h | h | h <;>
    simp only [engDecode, engOpcode_eq, h, opOk, ha, decide_false, Bool.false_and, Bool.false_eq_true, if_false, ite_self]

/-- R110, R112: a reserved code in the operand field b, where MAC reads it. -/
theorem engDecode_of_b_reserved (hop : w.toNat / 2 ^ 30 ∈ [5, 7, 9, 10, 11, 12, 15] ∨ w.toNat / 2 ^ 30 = 6 ∧ w.extractLsb' 28 2 ≠ 3)
    (hb : ¬ (w.extractLsb' 16 6).toNat < 39) : engDecode w = .nop := by
  rcases hop with hop | ⟨h, hd⟩
  · simp only [List.mem_cons, List.not_mem_nil, or_false] at hop
    rcases hop with h | h | h | h | h | h | h <;>
      simp only [engDecode, engOpcode_eq, h, opOk, hb, decide_false, Bool.false_and, Bool.and_false, Bool.false_eq_true, if_false, and_false]
  · have hd' : (w.extractLsb' 28 2).toNat ≠ 3 := fun h => hd (BitVec.eq_of_toNat_eq h)
    simp only [engDecode, engOpcode_eq, h, opOk, hb, hd', decide_false, Bool.and_false, Bool.false_eq_true, if_false]

/-- R110, R112: a reserved code in the operand field hi or bias. -/
theorem engDecode_of_limit_reserved (h : (w.toNat / 2 ^ 30 ∈ [10, 11, 15] ∧ ¬ (w.extractLsb' 10 6).toNat < 39) ∨
    (w.toNat / 2 ^ 30 = 15 ∧ ¬ (w.extractLsb' 4 6).toNat < 39)) : engDecode w = .nop := by
  rcases h with ⟨hop, hhi⟩ | ⟨h, hbias⟩
  · simp only [List.mem_cons, List.not_mem_nil, or_false] at hop
    rcases hop with h | h | h <;>
      simp only [engDecode, engOpcode_eq, h, opOk, hhi, decide_false, Bool.false_and, Bool.and_false, Bool.false_eq_true, if_false]
  · simp only [engDecode, engOpcode_eq, h, opOk, hbias, decide_false, Bool.and_false, Bool.false_eq_true, if_false]

/-- R112, R115: a reserved mode or operand of MACD. -/
theorem engDecode_macd_reserved (hop : w.toNat / 2 ^ 30 = 7) (h : w.extractLsb' 28 2 = 3 ∨ ¬ (w.extractLsb' 22 6).toNat < 15) :
    engDecode w = .nop := by
  simp only [engDecode, engOpcode_eq, hop]
  refine if_neg fun ⟨hd, ha, _⟩ => ?_
  exact h.elim (fun h => hd (congrArg BitVec.toNat h)) (· ha)

section
variable (ha : (w.extractLsb' 22 6).toNat < 39)
include ha

theorem engDecode_ldw (hop : w.toNat / 2 ^ 30 = 2) : engDecode w = .ldw (w.extractLsb' 28 2).toNat (w.extractLsb' 22 6).toNat := by
  simp only [engDecode, engOpcode_eq, hop, opOk, ha, decide_true, if_true]

theorem engDecode_macAddw (hop : w.toNat / 2 ^ 30 = 6) (hd : w.extractLsb' 28 2 = 3) : engDecode w = .mac 3 (w.extractLsb' 22 6).toNat 0 := by
  simp only [engDecode, engOpcode_eq, hop, hd, opOk, ha, decide_true, if_true]
  rfl

variable (hb : (w.extractLsb' 16 6).toNat < 39)
include hb

theorem engDecode_err (hop : w.toNat / 2 ^ 30 = 5) : engDecode w =
    .err (w.extractLsb' 28 2).toNat (w.extractLsb' 22 6).toNat (w.extractLsb' 16 6).toNat (w.getLsbD 15) := by
  have hm := extractLsb'_one_eq_getLsbD w 15
  simp only [engDecode, engOpcode_eq, hop, opOk, ha, hb, decide_true, Bool.and_self, if_true, hm]

theorem engDecode_mac (hop : w.toNat / 2 ^ 30 = 6) (hd : (w.extractLsb' 28 2).toNat ≠ 3) : engDecode w =
    .mac (w.extractLsb' 28 2).toNat (w.extractLsb' 22 6).toNat (w.extractLsb' 16 6).toNat := by
  simp only [engDecode, engOpcode_eq, hop, hd, opOk, ha, hb, decide_true, Bool.and_self, if_true, if_false]

theorem engDecode_ffw (hop : w.toNat / 2 ^ 30 = 9) : engDecode w = .ffw (w.extractLsb' 28 2).toNat (w.extractLsb' 22 6).toNat
    (if w.getLsbD 15 then 0 else (w.extractLsb' 16 6).toNat) (w.getLsbD 15) (if w.getLsbD 15 then (w.extractLsb' 0 7).toNat else 0) := by
  have hm := extractLsb'_one_eq_getLsbD w 15
  simp only [engDecode, engOpcode_eq, hop, opOk, ha, hb, decide_true, Bool.and_self, if_true, hm]

theorem engDecode_mnx (hop : w.toNat / 2 ^ 30 = 12) : engDecode w =
    .mnx (w.extractLsb' 28 2).toNat (w.extractLsb' 22 6).toNat (w.extractLsb' 16 6).toNat (w.getLsbD 15) := by
  have hm := extractLsb'_one_eq_getLsbD w 15
  simp only [engDecode, engOpcode_eq, hop, opOk, ha, hb, decide_true, Bool.and_self, if_true, hm]

theorem engDecode_clp (hop : w.toNat / 2 ^ 30 = 11) (hhi : (w.extractLsb' 10 6).toNat < 39) : engDecode w =
    .clp (w.extractLsb' 28 2).toNat (w.extractLsb' 22 6).toNat (w.extractLsb' 16 6).toNat (w.extractLsb' 10 6).toNat := by
  simp only [engDecode, engOpcode_eq, hop, opOk, ha, hb, hhi, decide_true, Bool.and_self, if_true]

end

theorem engDecode_ldi (hop : w.toNat / 2 ^ 30 = 1) : engDecode w = .ldi (w.extractLsb' 28 2).toNat (w.extractLsb' 0 18) := by
  simp only [engDecode, engOpcode_eq, hop]

theorem engDecode_lda (hop : w.toNat / 2 ^ 30 = 3) : engDecode w = .lda (w.extractLsb' 28 2).toNat (w.extractLsb' 0 14).toNat := by
  simp only [engDecode, engOpcode_eq, hop]

theorem engDecode_lds (hop : w.toNat / 2 ^ 30 = 4) : engDecode w =
    .lds (w.extractLsb' 28 2).toNat (w.getLsbD 15) (if w.getLsbD 15 then 0 else (w.extractLsb' 0 7).toNat) := by
  have hm := extractLsb'_one_eq_getLsbD w 15
  simp only [engDecode, engOpcode_eq, hop, hm]

theorem engDecode_rnd (hop : w.toNat / 2 ^ 30 = 8) : engDecode w = .rnd (w.extractLsb' 28 2).toNat (w.extractLsb' 0 4).toNat := by
  simp only [engDecode, engOpcode_eq, hop]

end

/-! ### Operands and results (R109, R110, R116) -/

/-- R95, R98: a word that no tide has replaced, no provisional value stands for and no engine has written reads as the state RAM holds it. -/
theorem stateRead_eq_bramOf {s : State} {r : Run} {j : Nat} (hold : r.old = []) (hview : r.view = false) (hw : s.engWOf j = none) :
    stateRead s r j = s.bramOf j := by
  rw [stateRead, hold, hw]
  cases r.prov with
  | none => rfl
  | some p => exact if_neg fun h => Bool.false_ne_true (hview.symm.trans h.1)

section
variable {s : State} {r : Run} {a : Nat}

theorem opVal_own (ha : a < 16) : opVal s r a = stateRead s r (16 * r.berth + a) := if_pos ha

theorem opVal_coefficient (h16 : 16 ≤ a) (h32 : a < 32) :
    opVal s r a = stateRead s r ((r.base + r.region * r.step + (a - 16)) % 16384) := by
  rw [opVal, if_neg (by omega), if_pos h32]

theorem opVal_working (h32 : 32 ≤ a) (h36 : a < 36) : opVal s r a = r.x.getD (a - 32) 0 := by
  rw [opVal, if_neg (by omega), if_neg (by omega), if_pos h36]

end

/-- R109: the rounded and saturated quotient of the statements. -/
theorem sat18_roundDiv {num : Int} {den : Nat} (hden : 0 < den) : sat18 (roundDiv num den) = satI (roundQ (num / den)) :=
  congrArg satI (roundDiv_eq_roundQ num hden)

theorem opVal_acr (s : State) (r : Run) : opVal s r 37 = satI (roundQ (r.acc / 2 ^ 17)) := by
  have h := sat18_roundDiv (num := r.acc) (den := 2 ^ 17) (by decide)
  push_cast at h
  exact h

/-- R114: RND. -/
theorem rnd_eq (acc : Int) (sh : Nat) : sat18 (roundDiv (acc * 2 ^ sh) (2 ^ 17)) = satI (roundQ (acc * 2 ^ sh / 2 ^ 17)) := by
  have h := sat18_roundDiv (num := acc * 2 ^ sh) (den := 2 ^ 17) (by decide)
  push_cast at h
  exact h

/-- R116: FFW in the terms of the rules. -/
theorem ffwValue_eq (a y : Int) : ffwValue a y =
    if y = 0 then (if 0 < a then 131071 else if a < 0 then -131072 else 0) else satI (roundQ (a * 131072 / y)) := by
  rw [ffwValue]
  split
  · rfl
  · next hy =>
    have hden : 0 < y.natAbs := Int.natAbs_pos.2 hy
    have hcast : ((y.natAbs : Nat) : ℚ) = |(y : ℚ)| := by rw [Nat.cast_natAbs, Int.cast_abs]
    rw [sat18_roundDiv hden, sat18_roundDiv hden, hcast]
    push_cast
    split
    · next hpos => rw [abs_of_pos (Int.cast_pos.2 hpos)]
    · next hneg => rw [abs_of_neg (Int.cast_lt_zero.2 (by omega)), neg_mul, neg_div_neg_eq]

/-- R113: LDS; a channel number is read where the own channel is not meant. -/
theorem engApply_lds {s : State} {r : Run} {d ch : Nat} {own : Bool} : engApply s r (.lds d own (if own then 0 else ch)) =
    (r.setX d (sampleOf s (if own then r.ch else ch)), s) := by cases own <;> rfl

/-- R116: FFW; the divisor is the operand b or the sample of a channel. -/
theorem engApply_ffw {s : State} {r : Run} {d a b ch : Nat} {bsel : Bool} :
    engApply s r (.ffw d a (if bsel then 0 else b) bsel (if bsel then ch else 0)) =
      (r.setX d (ffwValue (opVal s r a) (if bsel then sampleOf s ch else opVal s r b)), s) := by
  cases bsel <;> simp only [engApply, if_true, Bool.false_eq_true, if_false]

/-! ### The statement -/

theorem engineResultsRules : EngineResultsRules := by
  intro c s r w hrun hw op d a b hi bias m ch val smp setX
  have sets : ∀ {i : Instr} {o : EngOp} {r' : Run}, exec i s = engStep c o s → engDecode w = o →
      engApply (s.tick r.done) r o = (r', s.tick r.done) → EngSets i c s r r' :=
    fun hexec hdec happly => engSets_of hexec hrun hw hdec happly
  refine ⟨fun h => ?_, fun hop => sets rfl (engDecode_ldi hop) rfl, fun hop ha => ⟨sets rfl (engDecode_ldw ha hop) rfl, ?_⟩,
    fun hop => sets rfl (engDecode_lda hop) rfl, fun hop => sets rfl (engDecode_lds hop) engApply_lds, fun hop ha hb => ?_, fun hop ha hb => ?_,
    fun hop => sets rfl (engDecode_rnd hop) ?_, fun hop ha hb => ?_, fun hop ha hb hhi => sets rfl (engDecode_clp ha hb hop hhi) rfl,
    fun hop ha hb => ?_⟩
  · refine sets rfl ?_ rfl
    rcases h with h | h | ⟨hop, ha⟩ | ⟨hop, hb⟩ | ⟨hop, hd, hb⟩ | ⟨hop, hhi⟩ | ⟨hop, hbias⟩ | ⟨hop, h⟩
    · exact engDecode_of_opcode_reserved (.inl h)
    · exact engDecode_of_opcode_reserved (.inr h)
    · exact engDecode_of_a_reserved hop ha.not_gt
    · exact engDecode_of_b_reserved (.inl hop) hb.not_gt
    · exact engDecode_of_b_reserved (.inr ⟨hop, hd⟩) hb.not_gt
    · exact engDecode_of_limit_reserved (.inl ⟨hop, hhi.not_gt⟩)
    · exact engDecode_of_limit_reserved (.inr ⟨hop, hbias.not_gt⟩)
    · exact engDecode_macd_reserved hop (h.imp_right (·.not_gt))
  · refine ⟨fun hown hold hview hW => ?_, fun h16 h32 hold hview hW => ?_, opVal_working, fun h => ?_, fun h => ?_, fun h => ?_⟩
    · exact (opVal_own hown).trans (stateRead_eq_bramOf hold hview hW)
    · exact (opVal_coefficient h16 h32).trans (stateRead_eq_bramOf hold hview hW)
    · exact congrArg (opVal s r) h
    · exact (congrArg (opVal s r) h).trans (opVal_acr s r)
    · exact congrArg (opVal s r) h
  · have hdec := engDecode_err ha hb hop
    refine ⟨fun hm => ?_, fun hm => ?_⟩ <;> rw [show w.getLsbD 15 = _ from hm] at hdec <;> exact sets rfl hdec rfl
  · have mac : ∀ k, d.toNat = k → k ≠ 3 → engDecode w = .mac k a.toNat b.toNat := by
      rintro _ rfl hk
      exact engDecode_mac ha (hb.resolve_right fun h => hk (congrArg BitVec.toNat h)) hop hk
    exact ⟨fun hd => sets rfl (mac 0 (congrArg BitVec.toNat hd) (by decide)) rfl,
      fun hd => sets rfl (mac 1 (congrArg BitVec.toNat hd) (by decide)) rfl,
      fun hd => sets rfl (mac 2 (congrArg BitVec.toNat hd) (by decide)) rfl, fun hd => sets rfl (engDecode_macAddw ha hop hd) rfl⟩
  · exact congrArg (fun y => (setX y, s.tick r.done)) (rnd_eq r.acc _)
  · intro y
    refine sets rfl (engDecode_ffw ha hb hop) ?_
    rw [← ffwValue_eq]
    exact engApply_ffw
  · have hdec := engDecode_mnx ha hb hop
    refine ⟨fun hm => ?_, fun hm => ?_⟩ <;> rw [show w.getLsbD 15 = _ from hm] at hdec <;> exact sets rfl hdec rfl

end Sys2Proof.Machine
end

section
/-! PROOFS. SEL in a run whose integrator word a tide has replaced: the round leaves the tide's value, and the statement on the engine instructions
is refuted (05_engine_instructions.md, R120; 04_loop_engine.md, R98, R103; 12_memory_locks_tides.md, R292). -/

namespace Sys2Proof.Machine

/-! ### The tide's value stands (R292) -/

/-- R103, R292: a round whose integrator words were all replaced by a tide during the closer's run writes no state word. -/
theorem roundResolve_bram_of_tide {s : State} {g : Nat} (x : Nat) {tide : List Nat}
    (h : ∀ o ∈ s.roundsOf g, 16 * o.berth + o.word ∈ tide) : (roundResolve s g x tide).2.bram = s.bram := by
  rw [roundResolve]
  split
  · rfl
  · refine List.foldlRecOn (motive := fun u : State => u.bram = s.bram) (s.roundsOf g) _ rfl fun u hu o ho => ?_
    split
    · exact hu
    · rwa [if_pos (List.contains_iff_mem.2 (h o ho))]

/-- R120, R292: nor does the SEL of a closer whose offer is the only one of the round. -/
theorem engApply_sel_bram_of_tide {s : State} {r : Run} {d a : Nat} (htide : 16 * r.berth + r.intw ∈ r.tide)
    (hround : s.roundsOf r.grp = []) : (engApply s r (.sel d a)).2.bram = s.bram := by
  simp only [engApply]
  split
  · split
    · rfl
    · split
      · refine roundResolve_bram_of_tide _ fun o ho => ?_
        rw [State.setRounds_roundsOf, hround, List.nil_append, List.mem_singleton] at ho
        rwa [ho]
      · rfl
  · rfl

theorem engDecode_sel {w : BitVec 36} (hop : w.toNat / 2 ^ 30 = 14) (ha : (w.extractLsb' 22 6).toNat < 39) :
    engDecode w = .sel (w.extractLsb' 28 2).toNat (w.extractLsb' 22 6).toNat := by
  simp only [engDecode, engOpcode_eq, hop, opOk, ha, decide_true, if_true]

/-- R120, R292: the command SEL in such a run. -/
theorem exec_sel_bram_of_tide {c : Fin 8} {s s' : State} {r : Run} {w : BitVec 36} (hrun : (s.craneOf c).run = some r)
    (hw : r.prog[r.pos]? = some w) (hop : w.toNat / 2 ^ 30 = 14) (ha : (w.extractLsb' 22 6).toNat < 39)
    (htide : 16 * r.berth + r.intw ∈ r.tide) (hround : s.roundsOf r.grp = [])
    (h : exec (.sel c (w.extractLsb' 28 2) (w.extractLsb' 22 6)) s = .next s') : s'.bram = s.bram := by
  obtain ⟨u, hu, hbram⟩ : Does (.sel c (w.extractLsb' 28 2) (w.extractLsb' 22 6)) s (fun u => u.bram = s.bram) :=
    does_of_engStep rfl hrun hw (engDecode_sel hop ha) (engApply_sel_bram_of_tide (s := s.tick r.done) htide hround)
  rwa [← Host.Outcome.next.inj (hu.symm.trans h)]

/-! ### A tide between INT and SEL -/

/-- Berth 0, the closer and only armed member of the live group 0, with its program in the berth store: LDI X1, 9; INT X0, w 0, a X1, lo ZRO,
hi X1; SEL X0, X0. -/
def closerArmed : State :=
  { (((State.reset.put F.CG_CTL_en 0 1).put F.BERTH_GRP_mem 0 1).put F.BERTH_GRP_close 0 1).put F.BERTH_PROG_lenm1 0 2 with
    armed := [0], bstore := [(0, 0o012000000011#36), (1, 0o121031502000#36), (2, 0o161000000000#36)] }

/-- The berth's run on crane 0 after LDI and INT. -/
def closerAtSel : State :=
  engRun (engRun (startRun closerArmed 0 0 0) 0 (engDecode 0o012000000011#36)) 0 (engDecode 0o121031502000#36)

/-- At that timer edge a tide writes 5 to state word 0, the berth's integrator. -/
def closerTided : State := tideEntry closerAtSel ⟨0o063000000, false, 5⟩

/-- The run at its SEL: INT has left the provisional value 9, and the tide the word that it replaced. -/
def runTided : Run :=
  { newRun closerArmed 0 0 0 0 false with
    pos := 2, x := [9, 9, 0, 0], prov := some ⟨9, 0, 9⟩, view := true, old := [(0, 0)], tide := [0], at0 := [5] ++ List.replicate 15 0 }

theorem closerTided_run : (closerTided.craneOf 0).run = some runTided := by decide

/-- The statement's clause on the closer's SEL takes the winner's provisional integrator as written also where a tide has replaced its word. -/
theorem not_engineSelectionRules : ¬ EngineSelectionRules := by
  intro h
  have hw : runTided.prog[runTided.pos]? = some 0o161000000000#36 := by decide
  have hround : closerTided.roundsOf runTided.grp = [] := by decide
  obtain ⟨-, -, -, -, hclose⟩ := h 0 closerTided runTided _ closerTided_run hw
  obtain ⟨s', hs', best, hbest, -, -, -, -, -, -, -, -, -, -, -, hwon, -, -⟩ :=
    hclose (by decide) (by decide) (by decide) (by decide) (by decide)
  have hbram := exec_sel_bram_of_tide closerTided_run hw (by decide) (by decide) (by decide) hround hs'
  rw [hround, List.nil_append] at hbest hwon
  obtain rfl := List.mem_singleton.1 hbest
  rcases hwon ⟨9, 0, 9⟩ rfl with hnine | ⟨o, ho, hne, -⟩
  · rw [State.bramOf, hbram] at hnine
    exact absurd hnine (by decide)
  · exact hne (List.mem_singleton.1 ho)

end Sys2Proof.Machine

namespace Sys2Proof.Settled

open Sys2Proof.Machine

/-- Refutes O26: the clause on a closer's SEL writes the winner's provisional integrator to its state word in every case, but R292 makes a run
discard its later writes of the words that a tide has replaced. Where a tide brings 5 to the integrator between INT and SEL of a closer that is
alone in its round, the word holds 5 after the model's SEL, and the statement asks for the provisional 9. The statement's other half, on the
working words and ACC, holds: `engineResultsRules`. -/
theorem not_engineInstructions : ¬ Obligations.EngineInstructions := by
  unfold Obligations.EngineInstructions
  exact fun h => not_engineSelectionRules h.2

end Sys2Proof.Settled
end

section
/-! PROOFS. The frame of a command on a counter unit, and what follows the edge events of a unit that nothing follows (03_window_comparators.md, R70;
06_counter_units.md, R142, R157). -/

namespace Sys2Proof.Machine

/-! ### The frame of a unit's command -/

/-- What a command of counter unit `u` does not touch beside registers and event sources: the rest of the device, and the other units. -/
def cuView (u : Nat) (s : State) : State × (Nat → CuS) :=
  ({ s with out := [], regs := [], hw := [], cu := [], srcAt := [], vsrc := [] }, fun m => if m = u then {} else s.cuOf m)

theorem cuView_blind (u : Nat) : Blind (cuView u) := fun _ _ _ _ _ _ => rfl

/-- From `s` to `s'` a command of counter unit `u` has written no registers but its own of those in `l`. -/
abbrev CuKeeps (u : Nat) (l : List RegName) (s s' : State) : Prop := Keeps (cuView u) 1 u (UnitMay u l []) s s'

section
variable {u : Nat} {l : List RegName} {s v : State}

theorem Keeps.cuFrame {t : Nat} (h : CuKeeps u l (s.tick t) v) (hl : ∀ r ∈ l, r = .CU_STAT) : CuFrame t u s v := by
  have hrest : (cuView u v).1 = (cuView u (s.tick t)).1 := congrArg Prod.fst h.view
  have hframe : v = { (cuView u v).1 with
    out := v.out, regs := v.regs, hw := v.hw, cu := v.cu, srcAt := v.srcAt, ev := v.ev, vsrc := v.vsrc } := rfl
  have hreg : ∀ r i, (r = .CU_STAT → i ≠ u) → RegKept r i s v := fun r i hr =>
    h.reg r i (not_or.2 ⟨List.not_mem_nil, fun e => hr (hl r e.1) e.2⟩)
  refine ⟨hframe.trans (by rw [hrest]; rfl), fun m hm => ?_, h.src, fun r i hr => hreg r i fun e => ?_, fun r _ m hm => hreg r m fun _ => hm,
    fun m _ => hreg _ m fun e => absurd e (by decide), fun m _ => ⟨hreg _ m fun e => absurd e (by decide), hreg _ m fun e => absurd e (by decide)⟩⟩
  · have hm' := congrFun (congrArg Prod.snd h.view) m
    exact (if_neg hm).symm.trans (hm'.trans (if_neg hm))
  · exact absurd (e ▸ hr) (by decide)

theorem Keeps.setCu (h : CuKeeps u l s v) (x : CuS) : CuKeeps u l s (v.setCu u x) := by
  refine h.hidden (Prod.ext rfl (funext fun m => ?_)) rfl rfl rfl
  by_cases hm : m = u
  · simp only [cuView, if_pos hm]
  · simp only [cuView, if_neg hm, State.setCu_cuOf_ne _ _ hm]

end

/-! ### What follows an edge event (R70, R142) -/

/-- Of the outputs in `o`, the events of counter units are edge events of A and B of unit `u`, or its overflow events. -/
def EdgeEvents (u : Nat) (o : List Out) : Prop := ∀ m ev x, Out.fabric 1 m ev x ∈ o → m = u ∧ 4 < ev

theorem EdgeEvents.nil (u : Nat) : EdgeEvents u [] := fun _ _ _ h => absurd h List.not_mem_nil

/-- No comparator's blanking opens at an event of a unit that none selects. -/
theorem blankAll_of_unselected {s : State} {u : Nat} (ev t0 : Nat)
    (h : ∀ n < 128, s.get F.WC_BLKLEN_len n = 0 ∨ s.get F.WC_BLKSRC_cu n ≠ u) : blankAll s u ev t0 = s := by
  refine List.foldlRecOn (motive := (· = s)) _ _ rfl fun v hv n hn => ?_
  have hno : ¬ wcBlanks s u ev n = true := by
    rcases h n (List.mem_range.1 hn) with h0 | hne <;> simp [wcBlanks, *]
  rw [hv, if_neg hno]

/-- A command whose unit events are all edge events of a unit without followers is complete. -/
theorem cuSettle_of_edgeEvents {s : State} {u : Nat} (ho : EdgeEvents u s.out)
    (hblank : ∀ n < 128, s.get F.WC_BLKLEN_len n = 0 ∨ s.get F.WC_BLKSRC_cu n ≠ u) : cuSettle s = s := by
  have hfollow : ∀ {ev x}, 4 < ev → cuFollow s u ev x = s := fun {ev x} hev => by
    rw [cuFollow, blankAll_of_unselected ev _ hblank, ite_self, if_pos hev]
  have hchain : ∀ n k, cuChain n k s = s := fun n => by
    induction n with
    | zero => exact fun _ => rfl
    | succ n ih =>
      intro k
      unfold cuChain
      split
      · next m ev x he =>
        obtain ⟨rfl, hev⟩ := ho m ev x (List.mem_of_getElem? he)
        rw [hfollow hev, ih]
      · exact ih _
      · rfl
  exact hchain 512 0

end Sys2Proof.Machine
end

section
/-! PROOFS. The rules of the operations on the references and the outputs of a counter unit: what each makes of the unit's hidden state, with the events
that it raises (06_counter_units.md, R129, R130, R140). -/

namespace Sys2Proof.Machine

/-! ### The unit within the device -/

/-- From `s` on, a command of unit `u` has brought the device to `v`, with the unit at `h` and the outputs `o`; of the registers it has written the unit's of
those in `l`. -/
structure CuAt (u : Nat) (l : List RegName) (s : State) (h : CuS) (o : List Out) (v : State) : Prop where
  keeps : CuKeeps u l s v
  cu : v.cuOf u = h
  out : v.out = o

section
variable {u : Nat} {l : List RegName} {s v : State} {h : CuS} {o : List Out}

theorem CuAt.refl (s : State) : CuAt u l s (s.cuOf u) s.out s := ⟨Keeps.refl (cuView_blind u) s, rfl, rfl⟩

theorem CuAt.setCu (hv : CuAt u l s h o v) (x : CuS) : CuAt u l s x o (v.setCu u x) :=
  ⟨hv.keeps.setCu x, State.setCu_cuOf .., hv.out⟩

theorem CuAt.flag {f : Fld} (hv : CuAt u l s h o v) (hf : f.reg ∈ l) : CuAt u l s h o (v.flag f u) :=
  ⟨hv.keeps.flag (.own hf), hv.cu, hv.out⟩

theorem CuAt.raise (hv : CuAt u l s h o v) {ev : Nat} (hev : ev < 16) (x : Int) :
    CuAt u l s h (o ++ [.fabric 1 u ev x]) (cuRaise v u ev x) :=
  ⟨hv.keeps.raiseAt hev x, hv.cu, congrArg (· ++ _) hv.out⟩

/-! ### The outputs (R130, R157) -/

/-- The edge event of a level that changes from `a` to `b`. -/
def edgeEvent (u ev : Nat) (a b : Bool) (x : Int) : List Out := if a = b then [] else [.fabric 1 u ev x]

theorem mem_append_edgeEvent {ev : Nat} {a b : Bool} (x : Int) (h : a = !b) : Out.fabric 1 u ev x ∈ o ++ edgeEvent u ev a b x := by
  simp [edgeEvent, h]

theorem EdgeEvents.append (ho : EdgeEvents u o) {ev : Nat} (hev : 4 < ev) {a b : Bool} {x : Int} : EdgeEvents u (o ++ edgeEvent u ev a b x) := by
  intro m k y hm
  rcases List.mem_append.1 hm with hm | hm
  · exact ho m k y hm
  · unfold edgeEvent at hm
    split at hm
    · exact absurd hm List.not_mem_nil
    · cases List.mem_singleton.1 hm
      exact ⟨rfl, hev⟩

theorem CuAt.setIoA (hv : CuAt u l s h o v) (b : Bool) (x : Int) :
    CuAt u l s { h with ioA := b } (o ++ edgeEvent u 5 h.ioA b x) (cuSetIo v u 0 b x) := by
  obtain rfl := hv.cu
  unfold cuSetIo edgeEvent
  by_cases hb : (v.cuOf u).ioA = b
  · subst hb
    simpa using hv
  · simpa [hb] using (hv.setCu _).raise (by decide) x

theorem CuAt.setIoB (hv : CuAt u l s h o v) (b : Bool) (x : Int) :
    CuAt u l s { h with ioB := b } (o ++ edgeEvent u 6 h.ioB b x) (cuSetIo v u 1 b x) := by
  obtain rfl := hv.cu
  unfold cuSetIo edgeEvent
  by_cases hb : (v.cuOf u).ioB = b
  · subst hb
    simpa using hv
  · simpa [hb] using (hv.setCu _).raise (by decide) x

/-! ### The edges of R (R129, R140) -/

theorem gap_set {g : Gov} (hg : g.indep = false) : g.gap true = g.dtr + g.minp := by simp [Gov.gap, hg]
theorem gap_clear {g : Gov} (hg : g.indep = false) : g.gap false = g.dtf + g.minp := by simp [Gov.gap, hg]

theorem refFire_of_no_edges {k : Nat} (x : Int) (hk : ((v.cuOf u).ref k).edges = []) : refFire v u k x = v := by
  simp [refFire, hk]

/-- R136: reference R once its only edge ahead acts at `x`: a clear that has not been delayed is the clear made in this period. -/
def RefS.fired (r : RefS) (b f : Bool) (x : Int) : RefS := { r with edges := [], done := if b || f then r.done else some x }

theorem refFire_of_edge {b f : Bool} {x : Int} (he : (v.cuOf u).ref0.edges = [⟨x, b, f⟩]) :
    refFire v u 0 x = refTo (v.setCu u { v.cuOf u with ref0 := (v.cuOf u).ref0.fired b f x }) u 0 b x := by
  have hr : (v.cuOf u).ref 0 = (v.cuOf u).ref0 := rfl
  cases b <;> cases f <;> simp [refFire, hr, he, RefS.fired] <;> rfl

/-- R129: R sets where the output that falls has been high for its least time. -/
theorem CuAt.refTo_set (hv : CuAt u l s h o v) (hg : h.gov.indep = false) (hr : h.ref0.r = false) {x : Int}
    (hgap : ∀ c, h.ref0.clrAt = some c → c + h.gov.gap false ≤ x) :
    CuAt u l s { h with ref0 := { h.ref0 with r := true, setAt := some x } } o (refTo v u 0 true x) := by
  obtain rfl := hv.cu
  have href : (v.cuOf u).ref 0 = (v.cuOf u).ref0 := rfl
  have hgo : refTo v u 0 true x = v.setCu u ((v.cuOf u).setRef 0 { (v.cuOf u).ref0 with r := true, setAt := some x }) := by
    cases hc : (v.cuOf u).ref0.clrAt with
    | none => simp [refTo, href, hr, hg, hc]
    | some c => simp [refTo, href, hr, hg, hc, Int.not_lt.2 (hgap c hc)]
  rw [hgo]
  exact hv.setCu _

/-- R129: R clears where the output that falls has been high for its least time. -/
theorem CuAt.refTo_clear (hv : CuAt u l s h o v) (hr : h.ref0.r = true) {x : Int}
    (hgap : ∀ c, h.ref0.setAt = some c → c + h.gov.gap true ≤ x) :
    CuAt u l s { h with ref0 := { h.ref0 with r := false, clrAt := some x } } o (refTo v u 0 false x) := by
  obtain rfl := hv.cu
  have href : (v.cuOf u).ref 0 = (v.cuOf u).ref0 := rfl
  have hgo : refTo v u 0 false x = v.setCu u ((v.cuOf u).setRef 0 { (v.cuOf u).ref0 with r := false, clrAt := some x }) := by
    cases hc : (v.cuOf u).ref0.setAt with
    | none => simp [refTo, href, hr, hc]
    | some c => simp [refTo, href, hr, hc, Int.not_lt.2 (hgap c hc)]
  rw [hgo]
  exact hv.setCu _

/-- R140: a set edge that would end the pulse of B too early is delayed, with late. -/
theorem CuAt.refTo_delayed (hv : CuAt u [.CU_STAT] s h o v) (hg : h.gov.indep = false) (hr : h.ref0.r = false) (he : h.ref0.edges = []) {x c : Int}
    (hc : h.ref0.clrAt = some c) (hgap : x < c + h.gov.gap false) :
    CuAt u [.CU_STAT] s { h with ref0 := { h.ref0 with edges := [⟨c + h.gov.gap false, true, true⟩] } } o (refTo v u 0 true x) ∧
      (refTo v u 0 true x).is F.CU_STAT_late u = true := by
  obtain rfl := hv.cu
  have href : (v.cuOf u).ref 0 = (v.cuOf u).ref0 := rfl
  have hdelay : refTo v u 0 true x = (v.setCu u ((v.cuOf u).setRef 0
      { (v.cuOf u).ref0 with edges := [⟨c + (v.cuOf u).gov.gap false, true, true⟩] })).flag F.CU_STAT_late u := by
    simp [refTo, refDelay, RefS.add, insertBy, href, hr, hg, hc, hgap, he]
  rw [hdelay]
  exact ⟨(hv.setCu _).flag (.head _), is_flag _ _ _ rfl (by decide)⟩

/-! ### The outputs follow R (R130) -/

theorem refSettle_of_same (hg : (v.cuOf u).gov.indep = false) (b : Bool) (x : Int) : refSettle v u (v.cuOf u).ref0.r b x = v := by
  simp [refSettle, hg]

/-- R130: at a set of R the output B falls, and A waits its dead time. -/
theorem CuAt.refSettle_rise {a : Bool} (hv : CuAt u l s h o v) (hg : h.gov.indep = false) (hr : h.ref0.r = true) (ha : a = false) (b : Bool) (x : Int) :
    CuAt u l s { h with highFrom := x, ioB := false, riseA := some (x + h.gov.dtr), riseB := none } (o ++ edgeEvent u 6 h.ioB false x)
      (refSettle v u a b x) := by
  obtain rfl := ha
  have hio := (hv.setCu { h with highFrom := x }).setIoB false x
  have heq : refSettle v u false b x = (cuSetIo (v.setCu u { h with highFrom := x }) u 1 false x).setCu u
      { (cuSetIo (v.setCu u { h with highFrom := x }) u 1 false x).cuOf u with riseA := some (x + h.gov.dtr), riseB := none } := by
    simp [refSettle, hv.cu, hg, hr]
  rw [heq, hio.cu]
  exact hio.setCu _

/-- R130: at a clear of R the output A falls, and B waits its dead time. -/
theorem CuAt.refSettle_fall {a : Bool} (hv : CuAt u l s h o v) (hg : h.gov.indep = false) (hr : h.ref0.r = false) (ha : a = true) (b : Bool) (x : Int) :
    CuAt u l s { h with high := h.high + (x - h.highFrom), ioA := false, riseB := some (x + h.gov.dtf), riseA := none }
      (o ++ edgeEvent u 5 h.ioA false x) (refSettle v u a b x) := by
  obtain rfl := ha
  have hio := (hv.setCu { h with high := h.high + (x - h.highFrom) }).setIoA false x
  have heq : refSettle v u true b x = (cuSetIo (v.setCu u { h with high := h.high + (x - h.highFrom) }) u 0 false x).setCu u
      { (cuSetIo (v.setCu u { h with high := h.high + (x - h.highFrom) }) u 0 false x).cuOf u with
        riseB := some (x + h.gov.dtf), riseA := none } := by
    simp [refSettle, hv.cu, hg, hr]
  rw [heq, hio.cu]
  exact hio.setCu _

/-! ### Dead times (R130) -/

/-- R140: after a start or a resume, where R has not set, its pulse counts from `x`. -/
def RefS.setFrom (r : RefS) (x : Int) : RefS := if r.setAt.isNone then { r with setAt := some x } else r

/-- R140: after a start or a resume, where R has not cleared, its pause counts from `x`. -/
def RefS.clearFrom (r : RefS) (x : Int) : RefS := if r.clrAt.isNone then { r with clrAt := some x } else r

/-- The dead time of A, where it expires by instant `x`. -/
def riseDueA (s : State) (u : Nat) (x : Int) : State :=
  let h := s.cuOf u
  match h.riseA with
  | some y => if y ≤ x then
      let s := s.setCu u { h with riseA := none, ref0 := h.ref0.setFrom (y - h.gov.dtr) }
      if h.ref0.r then cuSetIo s u 0 true y else s
    else s
  | none => s

/-- The dead time of B, where it expires by instant `x`. -/
def riseDueB (s : State) (u : Nat) (x : Int) : State :=
  let h := s.cuOf u
  match h.riseB with
  | some y => if y ≤ x then
      let s := s.setCu u { h with riseB := none, ref0 := h.ref0.clearFrom (y - h.gov.dtf) }
      if h.ref0.r then s else cuSetIo s u 1 true y
    else s
  | none => s

theorem refRises_eq (s : State) (u : Nat) (x : Int) : refRises s u x = riseDueB (riseDueA s u x) u x := rfl

theorem riseDueA_of_later {x : Int} (hA : ∀ y, (v.cuOf u).riseA = some y → x < y) : riseDueA v u x = v := by
  unfold riseDueA
  dsimp only
  split
  · next y hy => exact if_neg (Int.not_le.2 (hA y hy))
  · rfl

theorem riseDueB_of_later {x : Int} (hB : ∀ y, (v.cuOf u).riseB = some y → x < y) : riseDueB v u x = v := by
  unfold riseDueB
  dsimp only
  split
  · next y hy => exact if_neg (Int.not_le.2 (hB y hy))
  · rfl

/-- The output A rises at the end of its dead time. -/
theorem CuAt.riseDueA (hv : CuAt u l s h o v) {x : Int} (hA : h.riseA = some x) (hr : h.ref0.r = true) :
    CuAt u l s { h with riseA := none, ref0 := h.ref0.setFrom (x - h.gov.dtr), ioA := true } (o ++ edgeEvent u 5 h.ioA true x)
      (riseDueA v u x) := by
  obtain rfl := hv.cu
  unfold Machine.riseDueA
  dsimp only
  split
  · next y hy =>
    obtain rfl : x = y := Option.some.inj (hA.symm.trans hy)
    rw [if_pos le_rfl, if_pos hr]
    exact (hv.setCu { v.cuOf u with riseA := none, ref0 := (v.cuOf u).ref0.setFrom (x - (v.cuOf u).gov.dtr) }).setIoA true x
  · next hy => exact absurd (hA.symm.trans hy) (by simp)

/-- The output B rises at the end of its dead time. -/
theorem CuAt.riseDueB (hv : CuAt u l s h o v) {x : Int} (hB : h.riseB = some x) (hr : h.ref0.r = false) :
    CuAt u l s { h with riseB := none, ref0 := h.ref0.clearFrom (x - h.gov.dtf), ioB := true } (o ++ edgeEvent u 6 h.ioB true x)
      (riseDueB v u x) := by
  obtain rfl := hv.cu
  unfold Machine.riseDueB
  dsimp only
  split
  · next y hy =>
    obtain rfl : x = y := Option.some.inj (hB.symm.trans hy)
    rw [if_pos le_rfl, if_neg (by simp [hr])]
    exact (hv.setCu { v.cuOf u with riseB := none, ref0 := (v.cuOf u).ref0.clearFrom (x - (v.cuOf u).gov.dtf) }).setIoB true x
  · next hy => exact absurd (hB.symm.trans hy) (by simp)

end

end Sys2Proof.Machine
end

section
/-! PROOFS. The edges of R and of the outputs of a unit in COMPL, at an instant at which it has no other (06_counter_units.md, R129, R130, R140). -/

namespace Sys2Proof.Machine

/-! ### The edges of one instant -/

section
variable {u : Nat} {v : State} {e : Int}

/-- The edges of an instant at which R2 has none. -/
theorem edgesAt_of_ref1 (h1 : ((refFire v u 0 e).cuOf u).ref1.edges = []) :
    edgesAt v u e = refRises (refSettle (refFire v u 0 e) u (v.cuOf u).ref0.r (v.cuOf u).ref1.r e) u e := by
  rw [edgesAt, refFire_of_no_edges (k := 1) e h1]

/-- The edge of R alone, where it ends no dead time and starts none that ends at once. -/
theorem edgesAt_of_edge {l : List RegName} {s : State} {h : CuS} {o : List Out} (h1 : ((refFire v u 0 e).cuOf u).ref1.edges = [])
    (hat : CuAt u l s h o (refSettle (refFire v u 0 e) u (v.cuOf u).ref0.r (v.cuOf u).ref1.r e)) (hA : ∀ y, h.riseA = some y → e < y)
    (hB : ∀ y, h.riseB = some y → e < y) : CuAt u l s h o (edgesAt v u e) := by
  rwa [edgesAt_of_ref1 h1, refRises_eq, riseDueA_of_later (by rwa [hat.cu]), riseDueB_of_later (by rwa [hat.cu])]

variable (hg : (v.cuOf u).gov.indep = false) (h1 : (v.cuOf u).ref1.edges = [])
include hg h1

/-- R129, R130: R sets; B falls at once, and A waits its dead time. -/
theorem edgesAt_set {f : Bool} (he : (v.cuOf u).ref0.edges = [⟨e, true, f⟩]) (hr : (v.cuOf u).ref0.r = false) (hdtr : 0 < (v.cuOf u).gov.dtr)
    (hgap : ∀ c, (v.cuOf u).ref0.clrAt = some c → c + (v.cuOf u).gov.dtf + (v.cuOf u).gov.minp ≤ e) :
    CuAt u [] v { v.cuOf u with
      ref0 := { (v.cuOf u).ref0 with r := true, edges := [], setAt := some e }, highFrom := e, ioB := false,
      riseA := some (e + (v.cuOf u).gov.dtr), riseB := none } (v.out ++ edgeEvent u 6 (v.cuOf u).ioB false e) (edgesAt v u e) := by
  have hfire : CuAt u [] v { v.cuOf u with ref0 := { (v.cuOf u).ref0 with r := true, edges := [], setAt := some e } } v.out (refFire v u 0 e) := by
    rw [refFire_of_edge he]
    refine ((CuAt.refl v).setCu { v.cuOf u with ref0 := (v.cuOf u).ref0.fired true f e }).refTo_set hg hr fun c hc => ?_
    rw [gap_clear hg, ← Int.add_assoc]
    exact hgap c hc
  have hsettle := hfire.refSettle_rise hg rfl hr (v.cuOf u).ref1.r e
  refine edgesAt_of_edge (by rw [hfire.cu]; exact h1) hsettle (fun y hy => ?_) fun y hy => absurd hy (by simp)
  obtain rfl := Option.some.inj hy
  exact Int.lt_add_of_pos_right e (Int.natCast_pos.2 hdtr)

/-- R129, R130: R clears; A falls at once, and B waits its dead time. -/
theorem edgesAt_clear {f : Bool} (he : (v.cuOf u).ref0.edges = [⟨e, false, f⟩]) (hr : (v.cuOf u).ref0.r = true) (hdtf : 0 < (v.cuOf u).gov.dtf)
    (hgap : ∀ c, (v.cuOf u).ref0.setAt = some c → c + (v.cuOf u).gov.dtr + (v.cuOf u).gov.minp ≤ e) :
    CuAt u [] v { v.cuOf u with
      ref0 := { (v.cuOf u).ref0 with r := false, edges := [], clrAt := some e, done := if f then (v.cuOf u).ref0.done else some e },
      high := (v.cuOf u).high + (e - (v.cuOf u).highFrom), ioA := false, riseB := some (e + (v.cuOf u).gov.dtf), riseA := none }
      (v.out ++ edgeEvent u 5 (v.cuOf u).ioA false e) (edgesAt v u e) := by
  have hfire : CuAt u [] v { v.cuOf u with
      ref0 := { (v.cuOf u).ref0 with r := false, edges := [], clrAt := some e, done := if f then (v.cuOf u).ref0.done else some e } }
      v.out (refFire v u 0 e) := by
    rw [refFire_of_edge he]
    refine ((CuAt.refl v).setCu { v.cuOf u with ref0 := (v.cuOf u).ref0.fired false f e }).refTo_clear hr fun c hc => ?_
    rw [gap_set hg, ← Int.add_assoc]
    exact hgap c hc
  have hsettle := hfire.refSettle_fall hg rfl hr (v.cuOf u).ref1.r e
  refine edgesAt_of_edge (by rw [hfire.cu]; exact h1) hsettle (fun y hy => absurd hy (by simp)) fun y hy => ?_
  obtain rfl := Option.some.inj hy
  exact Int.lt_add_of_pos_right e (Int.natCast_pos.2 hdtf)

/-- R140: a set edge that would end the pulse of B too early is delayed, with late. -/
theorem edgesAt_delay {f : Bool} {c : Int} (he : (v.cuOf u).ref0.edges = [⟨e, true, f⟩]) (hr : (v.cuOf u).ref0.r = false)
    (hA : (v.cuOf u).riseA = none) (hB : (v.cuOf u).riseB = none) (hc : (v.cuOf u).ref0.clrAt = some c)
    (hgap : e < c + (v.cuOf u).gov.dtf + (v.cuOf u).gov.minp) :
    CuAt u [.CU_STAT] v { v.cuOf u with
      ref0 := { (v.cuOf u).ref0 with edges := [⟨c + (v.cuOf u).gov.dtf + (v.cuOf u).gov.minp, true, true⟩] } } v.out (edgesAt v u e) ∧
      (edgesAt v u e).is F.CU_STAT_late u = true := by
  have hlim : c + (v.cuOf u).gov.gap false = c + (v.cuOf u).gov.dtf + (v.cuOf u).gov.minp := by rw [gap_clear hg, Int.add_assoc]
  have hdelay := ((CuAt.refl (u := u) v).setCu { v.cuOf u with ref0 := (v.cuOf u).ref0.fired true f e }).refTo_delayed hg hr rfl hc (hlim ▸ hgap)
  rw [← refFire_of_edge he] at hdelay
  obtain ⟨hfire, hlate⟩ := hdelay
  have hsettle : refSettle (refFire v u 0 e) u (v.cuOf u).ref0.r (v.cuOf u).ref1.r e = refFire v u 0 e := by
    have hsame : ((refFire v u 0 e).cuOf u).ref0.r = (v.cuOf u).ref0.r := by rw [hfire.cu]; rfl
    rw [← hsame, refSettle_of_same (by rw [hfire.cu]; exact hg)]
  have hedges : edgesAt v u e = refFire v u 0 e := by
    rw [edgesAt_of_ref1 (by rw [hfire.cu]; exact h1), hsettle, refRises_eq,
      riseDueA_of_later (by rw [hfire.cu]; exact fun y hy => absurd (hA.symm.trans hy) (by simp)),
      riseDueB_of_later (by rw [hfire.cu]; exact fun y hy => absurd (hB.symm.trans hy) (by simp))]
  rw [hedges]
  exact ⟨hlim ▸ hfire, hlate⟩

/-- At an instant at which no edge of R or R2 is due, only dead times end. -/
theorem edgesAt_of_no_edges (h0 : (v.cuOf u).ref0.edges = []) : edgesAt v u e = riseDueB (riseDueA v u e) u e := by
  have hfire : refFire v u 0 e = v := refFire_of_no_edges (k := 0) e h0
  rw [edgesAt_of_ref1 (by rw [hfire]; exact h1), hfire, refSettle_of_same hg, refRises_eq]

/-- R130: A rises at the end of its dead time. -/
theorem edgesAt_riseA (h0 : (v.cuOf u).ref0.edges = []) (hA : (v.cuOf u).riseA = some e) (hB : (v.cuOf u).riseB = none)
    (hr : (v.cuOf u).ref0.r = true) :
    CuAt u [] v { v.cuOf u with riseA := none, ref0 := (v.cuOf u).ref0.setFrom (e - (v.cuOf u).gov.dtr), ioA := true }
      (v.out ++ edgeEvent u 5 (v.cuOf u).ioA true e) (edgesAt v u e) := by
  have hrise := (CuAt.refl (l := []) v).riseDueA hA hr
  rw [edgesAt_of_no_edges hg h1 h0, riseDueB_of_later (by rw [hrise.cu]; exact fun y hy => absurd (hB.symm.trans hy) (by simp))]
  exact hrise

/-- R130: B rises at the end of its dead time. -/
theorem edgesAt_riseB (h0 : (v.cuOf u).ref0.edges = []) (hA : (v.cuOf u).riseA = none) (hB : (v.cuOf u).riseB = some e)
    (hr : (v.cuOf u).ref0.r = false) :
    CuAt u [] v { v.cuOf u with riseB := none, ref0 := (v.cuOf u).ref0.clearFrom (e - (v.cuOf u).gov.dtf), ioB := true }
      (v.out ++ edgeEvent u 6 (v.cuOf u).ioB true e) (edgesAt v u e) := by
  rw [edgesAt_of_no_edges hg h1 h0, riseDueA_of_later fun y hy => absurd (hA.symm.trans hy) (by simp)]
  exact (CuAt.refl v).riseDueB hB hr

end

end Sys2Proof.Machine
end

section
/-! PROOFS. The commands of a planned edge: the placement of the set edge of R with the short-pulse checks, and the earliest edge of a unit in COMPL
(06_counter_units.md, R129, R130, R135, R138, R140). -/

namespace Sys2Proof.Machine

@[simp] theorem setCu_is (s : State) (k : Nat) (h : CuS) (f : Fld) (i : Nat) : (s.setCu k h).is f i = s.is f i := rfl

/-! ### A command that meets something planned -/

/-- A planned event of a unit that holds no store. -/
theorem does_of_cuEvent {i : Instr} {t u : Nat} {s : State} {cond : State → Bool} {eff : State → State} {P : State → Prop}
    (hi : exec i s = cuEvent t u s cond eff) (hheld : (s.cuOf u).held = []) (hc : cond (s.tick t) = true)
    (hP : P (cuSettle (eff (s.tick t)))) : Does i s P := by
  refine does_of_event hi rfl ?_
  dsimp only
  rwa [cuFlush_of_none (s := s.tick t) _ hheld, if_pos hc]

/-! ### The short-pulse checks (R138) -/

/-- R138: the checks of a unit in COMPL, in UP. -/
theorem shortPulse_compl {g : Gov} {ps x sn y : Int} (hg : g.indep = false) (hm : g.mode = 0) : shortPulse g ps x sn (y - x) =
    if y - x - g.dtr < g.minp then
      if g.spp = 1 then (true, some (x + g.dtr + g.minp), true) else (false, none, true)
    else if ps + 64 * g.p + sn - y - g.dtf < g.minp then
      if g.spp = 1 then (true, some (max (ps + 64 * g.p + sn - g.dtf - g.minp) (x + g.dtr + g.minp)), true) else (true, none, true)
    else (true, some y, false) := by
  have hlen : g.len.getD 0 = 64 * g.p := by rw [Gov.len, hm]; rfl
  simp [shortPulse, hg, hlen]

/-- The edges of R that the checks leave. -/
def pulseEdges (x : Int) (d : Bool × Option Int × Bool) : List REdge :=
  if d.1 then ⟨x, true, false⟩ :: d.2.1.toList.map (⟨·, false, false⟩) else []

/-- The unit once its set edge of R at `x` is placed as the checks have decided with `d`; `short` is CU_STAT.short before. -/
def CuS.placed (h : CuS) (x : Int) (d : Bool × Option Int × Bool) (short : Bool) : CuS :=
  { h with ref0 := { h.ref0 with place := none, edges := h.ref0.edges ++ pulseEdges x d, acted := d.2.2 && !short } }

/-- An edge that is not before those ahead goes behind them. -/
theorem RefS.add_last {r : RefS} {e : REdge} (he : e.fixed = false) (hlast : ∀ a ∈ r.edges, a.at_ ≤ e.at_) :
    r.add e = { r with edges := r.edges ++ [e] } := by
  have hbefore : r.edges.filter (fun a => decide (a.at_ ≤ e.at_)) = r.edges := List.filter_eq_self.2 fun a ha => decide_eq_true (hlast a ha)
  have hbehind : r.edges.filter (fun a => decide (e.at_ < a.at_)) = [] :=
    List.filter_eq_nil_iff.2 fun a ha => by simpa using hlast a ha
  simp [RefS.add, he, hbefore, hbehind]

/-- R135, R138: the set edge of R whose pulse lies ahead is placed as the checks decide. -/
theorem refPlace_pulse {v : State} {u : Nat} {c x y : Int} {d : Bool × Option Int × Bool} (hx : (v.cuOf u).inst 0 = x) (hy : (v.cuOf u).inst 1 = y)
    (hc : c ≤ x) (hw : x < y) (hspp : (v.cuOf u).gov.spp ≠ 2) (hedges : (v.cuOf u).ref0.edges = [])
    (hd : shortPulse (v.cuOf u).gov (v.cuOf u).pstart x ((v.cuOf u).gov.e 0) (y - x) = d) (hclr : ∀ z, d.2.1 = some z → x ≤ z) :
    CuAt u [.CU_STAT] v ((v.cuOf u).placed x d (v.is F.CU_STAT_short u)) v.out (refPlace v u 0 c) ∧
      (refPlace v u 0 c).is F.CU_STAT_short u = (d.2.2 || v.is F.CU_STAT_short u) := by
  obtain ⟨sets, clr, acted⟩ := d
  have hspp' : ¬ ((v.cuOf u).gov.spp = 2 ∧ (!(v.cuOf u).gov.indep) = true) := fun h => hspp h.1
  have hw0 : ¬ y - x ≤ 0 := by omega
  have hmax : max (y - x) 0 = y - x := by omega
  have hplace : refPlace v u 0 c = State.setCu
      (if acted then (v.setCu u { v.cuOf u with ref0 := { (v.cuOf u).ref0 with place := none, acted := false } }).flag F.CU_STAT_short u
        else v.setCu u { v.cuOf u with ref0 := { (v.cuOf u).ref0 with place := none, acted := false } })
      u ((v.cuOf u).placed x (sets, clr, acted) (v.is F.CU_STAT_short u)) := by
    have hset : ∀ (r : RefS), r.edges = (v.cuOf u).ref0.edges → r.add ⟨x, true, false⟩ = { r with edges := r.edges ++ [⟨x, true, false⟩] } :=
      fun r hr => RefS.add_last rfl (by simp [hr, hedges])
    have hclear : ∀ (r : RefS) (z : Int), r.edges = (v.cuOf u).ref0.edges ++ [⟨x, true, false⟩] → x ≤ z →
        r.add ⟨z, false, false⟩ = { r with edges := r.edges ++ [⟨z, false, false⟩] } :=
      fun r z hr hz => RefS.add_last rfl (by simp [hr, hedges, hz])
    unfold refPlace
    simp only [mul_zero, zero_add, hx, hy, hmax, if_neg (Int.not_lt.2 hc), if_neg hspp', hw0, false_and, if_false, hd]
    cases sets with
    | false => simp [CuS.placed, pulseEdges, CuS.setRef, CuS.ref]
    | true =>
      cases clr with
      | none =>
        rw [if_pos rfl]
        dsimp only
        rw [hset] <;> rfl
      | some z =>
        rw [if_pos rfl]
        dsimp only
        rw [hset, hclear, List.append_assoc]
        exacts [rfl, rfl, hclr z rfl, rfl]
  rw [hplace]
  have hat := (CuAt.refl (u := u) (l := [.CU_STAT]) v).setCu { v.cuOf u with ref0 := { (v.cuOf u).ref0 with place := none, acted := false } }
  cases acted with
  | false => exact ⟨hat.setCu _, rfl⟩
  | true =>
    refine ⟨(hat.flag (.head _)).setCu _, ?_⟩
    rw [if_pos rfl, setCu_is, is_flag _ _ _ rfl (by decide)]
    rfl

/-! ### The commands -/

section
variable {s : State} {t : Nat} {u : Fin 128}

/-- A planned event of a unit that raises no events but those of edges, which nothing follows. -/
theorem does_of_cuAt {i : Instr} {cond : State → Bool} {eff : State → State} {v : State} {h : CuS} {o : List Out} {P : State → Prop}
    {l : List RegName} (hi : exec i s = cuEvent t u s cond eff) (hheld : (s.cuOf u).held = []) (hc : cond (s.tick t) = true)
    (hv : eff (s.tick t) = v) (hat : CuAt u l (s.tick t) h o v) (hl : ∀ r ∈ l, r = .CU_STAT) (ho : EdgeEvents u o) (halone : o ≠ [] → CuAlone s u)
    (hP : CuFrame t u s v → P v) : Does i s P := by
  have hsettle : cuSettle v = v := by
    by_cases hnil : o = []
    · exact cuSettle_of_no_event fun m ev x hm => by simp [hat.out, hnil] at hm
    · have hkept : ∀ {f : Fld} {k : Nat}, f.reg ≠ .CU_STAT → v.get f k = s.get f k := fun hf =>
        hat.keeps.get fun hm => hm.elim (by simp) fun hm => hf (hl _ hm.1)
      refine cuSettle_of_edgeEvents (u := u) (hat.out ▸ ho) fun n hn => ?_
      rw [hkept (by decide), hkept (by decide)]
      exact (halone hnil).2 n hn
  refine does_of_cuEvent hi hheld hc ?_
  rw [hv, hsettle]
  exact hP (hat.keeps.cuFrame hl)

/-- R135, R138: the set edge of R is placed as the checks decide. -/
theorem edgePlacement_does {c : Int} {d : Bool × Option Int × Bool} (hheld : (s.cuOf u).held = []) (hplace : (s.cuOf u).ref0.place = some c)
    (hle : c ≤ (max s.now t : Nat)) (hc : c ≤ (s.cuOf u).inst 0) (hw : (s.cuOf u).inst 0 < (s.cuOf u).inst 1) (hspp : (s.cuOf u).gov.spp ≠ 2)
    (hedges : (s.cuOf u).ref0.edges = [])
    (hd : shortPulse (s.cuOf u).gov (s.cuOf u).pstart ((s.cuOf u).inst 0) ((s.cuOf u).gov.e 0) ((s.cuOf u).inst 1 - (s.cuOf u).inst 0) = d)
    (hclr : ∀ z, d.2.1 = some z → (s.cuOf u).inst 0 ≤ z) : Does (.edgePlacement t u 0) s (fun s' => CuFrame t u s s' ∧
      s'.cuOf u = { s.cuOf u with ref0 := { (s.cuOf u).ref0 with
        place := none, edges := pulseEdges ((s.cuOf u).inst 0) d, acted := d.2.2 && !s.is F.CU_STAT_short u } } ∧
      s'.is F.CU_STAT_short u = (d.2.2 || s.is F.CU_STAT_short u) ∧ s'.out = []) := by
  have href : (((s.tick t).cuOf u).ref (0 : Fin 2).val).place = some c := hplace
  obtain ⟨hat, hshort⟩ := refPlace_pulse (v := s.tick t) (c := c) rfl rfl hc hw hspp hedges hd hclr
  refine does_of_cuAt (show exec (.edgePlacement t u 0) s = execEdgePlacement t u 0 s from rfl) hheld
    (by rw [href]; exact decide_eq_true hle) (by rw [href]; rfl) hat (by simp) (.nil u) (absurd rfl)
    fun hframe => ⟨hframe, hat.cu.trans ?_, hshort, hat.out⟩
  show (s.cuOf u).placed _ d _ = _
  rw [CuS.placed, hedges, List.nil_append]
  rfl

/-- R130: the earliest planned edge acts. -/
theorem outputEdge_does {e : Int} {l : List RegName} {h : CuS} {o : List Out} {P : State → Prop} (hheld : (s.cuOf u).held = [])
    (halone : CuAlone s u) (hnext : (s.cuOf u).nextEdge = some e) (hle : e ≤ (max s.now t : Nat))
    (hat : CuAt u l (s.tick t) h o (edgesAt (s.tick t) u e)) (hl : ∀ r ∈ l, r = .CU_STAT) (ho : EdgeEvents u o)
    (hP : CuFrame t u s (edgesAt (s.tick t) u e) → P (edgesAt (s.tick t) u e)) : Does (.outputEdge t u) s P := by
  have hnext' : ((s.tick t).cuOf u).nextEdge = some e := hnext
  exact does_of_cuAt (show exec (.outputEdge t u) s = execOutputEdge t u s from rfl) hheld
    (by rw [hnext']; exact decide_eq_true hle) (by rw [hnext']) hat hl ho (fun _ => halone) hP

/-- The earliest edge is that of R where no other is planned. -/
theorem nextEdge_of_edge {h : CuS} {a : REdge} (h0 : h.ref0.edges = [a]) (h1 : h.ref1.edges = []) (hA : h.riseA = none) (hB : h.riseB = none) :
    h.nextEdge = some a.at_ := by
  simp [CuS.nextEdge, minOpt, h0, h1, hA, hB]

/-- The earliest edge is the end of a dead time where no other is planned. -/
theorem nextEdge_of_rise {h : CuS} {e : Int} (h0 : h.ref0.edges = []) (h1 : h.ref1.edges = [])
    (hrise : (h.riseA = some e ∧ h.riseB = none) ∨ (h.riseA = none ∧ h.riseB = some e)) : h.nextEdge = some e := by
  rcases hrise with ⟨hA, hB⟩ | ⟨hA, hB⟩ <;> simp [CuS.nextEdge, minOpt, h0, h1, hA, hB]

end

/-! ### The statement -/

/-- R129, R130, R135, R138, R140: the placement of the set edge of R, and the edges of R, A and B. -/
theorem counterEdgesRules : CounterEdgesRules := by
  intro t u s h g x y dtr dtf minp next hheld
  refine ⟨?_, fun hg halone h1 => ⟨?_, ?_, ?_, ?_, ?_⟩⟩
  · intro c hplace hle hc hw hg hm hedges set clr Places
    have hnext : h.pstart + 64 * g.p + g.e 0 = next := rfl
    have hplaces : ∀ {d : Bool × Option Int × Bool}, g.spp ≠ 2 → shortPulse g h.pstart x (g.e 0) (y - x) = d →
        (∀ z, d.2.1 = some z → x ≤ z) → Places d.2.2 (pulseEdges x d) := fun hspp hd hz =>
      edgePlacement_does hheld hplace hle hc hw hspp hedges hd hz
    have hchecks := shortPulse_compl (ps := h.pstart) (x := x) (sn := g.e 0) (y := y) hg hm
    rw [hnext] at hchecks
    refine ⟨fun hs ha => ?_, fun hs ha => ?_, fun hs ha hb => ?_, fun hs ha hb => ?_, fun hs ha hb => ?_⟩
    · rw [if_pos ha, if_neg (by omega)] at hchecks
      exact hplaces (by omega) hchecks (by simp)
    · rw [if_pos ha, if_pos hs] at hchecks
      exact hplaces (by omega) hchecks (by simp; omega)
    · rw [if_neg (by omega), if_pos hb, if_neg (by omega)] at hchecks
      exact hplaces (by omega) hchecks (by simp)
    · rw [if_neg (by omega), if_pos hb, if_pos hs] at hchecks
      exact hplaces (by omega) hchecks (by simp; omega)
    · rw [if_neg (by omega), if_neg (by omega)] at hchecks
      exact hplaces (by omega) hchecks (by simp; omega)
  · intro e f he hle hA hB hr c hc hgap
    obtain ⟨hat, hlate⟩ := edgesAt_delay (v := s.tick t) hg h1 he hr hA hB hc hgap
    exact outputEdge_does hheld halone (nextEdge_of_edge he h1 hA hB) hle hat (by simp) (.nil u) fun hframe => ⟨hframe, hat.cu, hlate, hat.out⟩
  · intro e f he hle hA hB hr hdtr hgap
    have hat := edgesAt_set (v := s.tick t) hg h1 he hr hdtr hgap
    refine outputEdge_does hheld halone (nextEdge_of_edge he h1 hA hB) hle hat (by simp) (.append (.nil u) (by decide)) fun hframe => ⟨hframe, ?_⟩
    rw [hat.cu, hat.out]
    exact ⟨rfl, rfl, rfl, rfl, fun hio => mem_append_edgeEvent e hio, hat.keeps.regsKept⟩
  · intro e f he hle hA hB hr hdtf hgap
    have hat := edgesAt_clear (v := s.tick t) hg h1 he hr hdtf hgap
    refine outputEdge_does hheld halone (nextEdge_of_edge he h1 hA hB) hle hat (by simp) (.append (.nil u) (by decide)) fun hframe => ⟨hframe, ?_⟩
    rw [hat.cu, hat.out]
    exact ⟨rfl, rfl, rfl, rfl, fun hio => mem_append_edgeEvent e hio, hat.keeps.regsKept⟩
  · intro e hB hle h0 hA hr
    have hat := edgesAt_riseB (v := s.tick t) hg h1 h0 hA hB hr
    refine outputEdge_does hheld halone (nextEdge_of_rise h0 h1 (.inr ⟨hA, hB⟩)) hle hat (by simp) (.append (.nil u) (by decide)) fun hframe => ⟨hframe, ?_⟩
    rw [hat.cu, hat.out]
    exact ⟨rfl, rfl, rfl, fun hio => mem_append_edgeEvent e hio, hat.keeps.regsKept⟩
  · intro e hA hle h0 hB hr
    have hat := edgesAt_riseA (v := s.tick t) hg h1 h0 hA hB hr
    refine outputEdge_does hheld halone (nextEdge_of_rise h0 h1 (.inl ⟨hA, hB⟩)) hle hat (by simp) (.append (.nil u) (by decide)) fun hframe => ⟨hframe, ?_⟩
    rw [hat.cu, hat.out]
    exact ⟨rfl, rfl, rfl, fun hio => mem_append_edgeEvent e hio, hat.keeps.regsKept⟩

end Sys2Proof.Machine
end

section
/-! PROOFS. Counter units: the frame of a command does not hold where a unit of the same grove holds a store, since the events of a unit reach every
unit of its grove that CU_SYNC points at it, with or without a function (06_counter_units.md, R20, R134, R142). -/

namespace Sys2Proof.Machine

/-- The device after command `i` where that answers a next state. -/
def ran (i : Instr) (s : State) : State :=
  match exec i s with
  | .next s' => s'
  | _ => s

theorem ran_of_next {i : Instr} {s s' : State} (h : exec i s = .next s') : ran i s = s' := by
  rw [ran, h]

/-- A command on unit `u` whose property includes the frame leaves the stores that another unit holds. -/
theorem held_of_frame {i : Instr} {t u m : Nat} {s : State} {P : State → Prop} (h : Does i s (fun s' => CuFrame t u s s' ∧ P s')) (hm : m ≠ u) :
    ((ran i s).cuOf m).held = (s.cuOf m).held := by
  obtain ⟨s', hs', ⟨-, hothers, -⟩, -⟩ := h
  rw [ran_of_next hs', hothers m hm]

/-- A write of CU_CTL that sets run, in UP. -/
def runWord : Word := 0o400000#18

/-- From the reset state, a core has stored to CU_PER of CU001 one fine tick after a timer edge: the unit holds the store from the next edge, at 64. -/
def neighbourHolds : State := ran (.periodLoadWrite 1 1 0 100) State.reset

/-- CU000 runs from the edge at 64 with its reset period of 1000 ns, and CU001 holds a store to CU_PER from the period boundary at 64064. -/
def neighbourHoldsAtBoundary : State := ran (.periodLoadWrite 64001 1 0 100) (ran (.cuStart 2 0 runWord) State.reset)

/-- CU001 names CU000 as its master, but with none of the functions of R142: nothing follows the events of CU000. -/
theorem cuAlone_neighbourHolds : CuAlone neighbourHolds 0 := by
  unfold CuAlone
  decide +kernel

theorem cuAlone_neighbourHoldsAtBoundary : CuAlone neighbourHoldsAtBoundary 0 := by
  unfold CuAlone
  decide +kernel

theorem hwIdle_neighbourHolds : HwIdle 2 .CU_CTL 0 neighbourHolds := by
  unfold HwIdle
  decide +kernel

/-- At the period event with which CU000 starts, CU001 takes its store. -/
theorem held_cuStart_neighbourHolds : ((ran (.cuStart 2 0 runWord) neighbourHolds).cuOf 1).held ≠ (neighbourHolds.cuOf 1).held := by
  decide +kernel

/-- At the period event of CU000, CU001 takes its store. -/
theorem held_periodBoundary_neighbourHolds :
    ((ran (.periodBoundary 64064 0) neighbourHoldsAtBoundary).cuOf 1).held ≠ (neighbourHoldsAtBoundary.cuOf 1).held := by
  decide +kernel

/-- The statement's frame of a period boundary shuts out that another unit takes a store. -/
theorem not_counterPeriodsRules : ¬ CounterPeriodsRules := by
  intro h
  obtain ⟨hperiod, -⟩ := h 64064 0 neighbourHoldsAtBoundary cuAlone_neighbourHoldsAtBoundary (by decide +kernel) (by decide +kernel) (by decide +kernel)
    (by decide +kernel)
  exact held_periodBoundary_neighbourHolds
    (held_of_frame (hperiod (by decide +kernel) (by decide +kernel) (by decide +kernel)) (by decide))

end Sys2Proof.Machine

namespace Sys2Proof.Settled

open Sys2Proof.Machine

/-- Refutes O30: the frame of the start keeps the hidden state of every other unit. A unit of the grove whose CU_SYNC names the one that starts, as
every CU_SYNC does after a reset for position 0, is no slave without gate, rst or clk, but at the period event with which the other starts from
count 0 the model lets it take the stores that it holds by then: a store to CU_PER of CU001 at fine tick 1 and a start of CU000 at fine tick 2,
both for the edge at 64. -/
theorem not_counterRun : ¬ Obligations.CounterRun := by
  unfold Obligations.CounterRun
  intro h
  obtain ⟨hstart, -⟩ := h 2 0 runWord neighbourHolds cuAlone_neighbourHolds (by decide +kernel) hwIdle_neighbourHolds (by decide +kernel)
    (by decide +kernel)
  obtain ⟨-, hcounts⟩ := hstart (by decide +kernel) (by decide) (by decide) (by decide)
  exact held_cuStart_neighbourHolds
    (held_of_frame (hcounts (by decide +kernel) (by decide +kernel) (by decide +kernel)) (by decide))

/-- Refutes O31: the frame of a period boundary keeps the hidden state of every other unit, but at the period event of CU000 the model lets CU001, which
names it in CU_SYNC without a function of R142, take the store to CU_PER that it holds from that edge: CU000 started from the reset state at fine tick
2, the store made at 64001, the boundary at 64064. The statement's other half, on the edges, holds: `counterEdgesRules`. -/
theorem not_counterPeriodsAndEdges : ¬ Obligations.CounterPeriodsAndEdges := by
  unfold Obligations.CounterPeriodsAndEdges
  exact fun h => not_counterPeriodsRules h.1

end Sys2Proof.Settled
end
